-- ==== Sys2Proof/Word.lean ====
section
/-! DEFINITION. The word types of the package and their plainest arithmetic (00_scope.md R13: bit 0 is the least
significant bit, multi-byte fields are little-endian). -/

namespace Sys2Proof

/-- One byte of any memory. -/
abbrev Byte := BitVec 8

/-- A 64-bit argument, result or register word. -/
abbrev W64 := BitVec 64

/-- A frame number: 48 bits, wrapping (R35, R37). -/
abbrev FrameNo := BitVec 48

/-- A 52-bit device virtual address as it stands in a 64-bit field (R107). -/
abbrev Dva := BitVec 64

end Sys2Proof
end

