-- ==== Sys2Proof/Machine/Bits.lean ====
section
/-! DEFINITION. Bit fields, saturating and modular counting, frame order, byte order, and the two table forms of the
model: a table of records (`Tab`) and a memory of bytes (`Memory`). -/

namespace Sys2Proof.Machine

/-- An operation descriptor (R136, Table 5-2). -/
abbrev Desc := BitVec 1024

/-- The field of `len` bits at bit `lo` of a word, as a number. -/
def fld {n : Nat} (w : BitVec n) (lo len : Nat) : Nat := (w.toNat >>> lo) % 2 ^ len

/-- Bit `i` of a word. -/
def bit {n : Nat} (w : BitVec n) (i : Nat) : Bool := w.getLsbD i

/-- A 64-bit word built from numbers placed at bit positions. -/
def word (parts : List (Nat × Nat)) : W64 :=
  parts.foldl (fun a p => a ||| (BitVec.ofNat 64 p.2 <<< p.1)) 0

/-- A truth value as a bit. -/
def b2n (b : Bool) : Nat := if b then 1 else 0

/-- Adds `k` to a counter that saturates at all ones. -/
def satAdd {n : Nat} (x : BitVec n) (k : Nat) : BitVec n :=
  if x.toNat + k < 2 ^ n then BitVec.ofNat n (x.toNat + k) else BitVec.allOnes n

/-- Frame `g` is later than frame `f`: (g − f) mod 2^48 lies between 1 and 2^47 − 1 (R37). -/
def later (g f : FrameNo) : Bool :=
  let d := (g - f).toNat
  1 ≤ d && d ≤ 2 ^ 47 - 1

/-- Frames from `f` to `g`, modulo 2^48 (R37). -/
def framesSince (g f : FrameNo) : Nat := (g - f).toNat

/-- A signed number as the two's complement bits of a field. -/
def ofInt (n : Nat) (i : Int) : BitVec n := BitVec.ofInt n i

/-- The mask of the fields `(lsb, width)` named. -/
def maskOf (n : Nat) (fs : List (Nat × Nat)) : BitVec n :=
  fs.foldl (fun a f => a ||| (BitVec.ofNat n (2 ^ f.2 - 1) <<< f.1)) 0

/-- The `n` bytes of a number, least significant first (R13). -/
def bytesLE : Nat → Nat → List Byte
  | 0, _ => []
  | n + 1, v => BitVec.ofNat 8 v :: bytesLE n (v / 256)

/-- The number whose bytes, least significant first, are given (R13). -/
def ofBytesLE : List Byte → Nat
  | [] => 0
  | b :: t => b.toNat + 256 * ofBytesLE t

/-- Splits bytes into pieces of `n`; `k` pieces. -/
def chunks {α : Type} (n : Nat) : Nat → List α → List (List α)
  | 0, _ => []
  | k + 1, bs => bs.take n :: chunks n k (bs.drop n)

/-! ### Tables of records by index -/

/-- A table: keys with the records that differ from the table's resting record. A key not listed holds the resting
record, which each reader names. -/
abbrev Tab (α : Type) := List (Nat × α)

/-- The record at key `k`, `d` where none is listed. -/
def Tab.get {α : Type} (d : α) (k : Nat) : Tab α → α
  | [] => d
  | p :: t => if p.1 = k then p.2 else Tab.get d k t

/-- Writes the record at key `k`, keeping the keys' order. -/
def Tab.put {α : Type} (k : Nat) (v : α) : Tab α → Tab α
  | [] => [(k, v)]
  | p :: t =>
    if k < p.1 then (k, v) :: p :: t
    else if p.1 = k then (k, v) :: t
    else p :: Tab.put k v t

/-- Changes the record at key `k`. -/
def Tab.upd {α : Type} (d : α) (k : Nat) (f : α → α) (t : Tab α) : Tab α := t.put k (f (t.get d k))

/-- The records at keys 0 to n − 1. -/
def Tab.row {α : Type} (d : α) (n : Nat) (t : Tab α) : List α := (List.range n).map (fun k => t.get d k)

/-- Changes the records at keys 0 to n − 1, each by its key. -/
def Tab.mapRow {α : Type} (d : α) (n : Nat) (f : Nat → α → α) (t : Tab α) : Tab α :=
  (List.range n).foldl (fun t k => t.upd d k (f k)) t

/-! ### Memories of bytes -/

/-- A memory of bytes: addresses strictly rising, no byte equal to 0, which every unlisted address reads as (log
entry 5). -/
abbrev Memory := List Host.Cell

/-- The byte at an address. -/
def Memory.read (a : Nat) (m : Memory) : Byte := Tab.get 0 a m

/-- Writes one byte: a 0 removes the entry, any other byte stands at its place in the order. -/
def Memory.write (a : Nat) (b : Byte) (m : Memory) : Memory :=
  if b = 0 then m.filter (fun c => c.1 != a) else Tab.put a b m

/-- The canonical form: addresses strictly rising and no entry equal to what an unlisted address reads as. -/
def Memory.wf (m : Memory) : Bool :=
  (m.zip m.tail).all (fun p => p.1.1 < p.2.1) && m.all (fun c => c.2 != 0)

/-- The `n` bytes from an address. -/
def Memory.readBytes (a n : Nat) (m : Memory) : List Byte := (List.range n).map (fun i => m.read (a + i))

/-- Writes bytes at rising addresses from `a`. -/
def Memory.writeBytes : Nat → List Byte → Memory → Memory
  | _, [], m => m
  | a, b :: bs, m => Memory.writeBytes (a + 1) bs (m.write a b)

/-- The little-endian number of `n` bytes at an address (R13). -/
def Memory.readLE (a n : Nat) (m : Memory) : Nat := ofBytesLE (m.readBytes a n)

/-- Writes a number of `n` bytes, least significant first (R13). -/
def Memory.writeLE (a n v : Nat) (m : Memory) : Memory := m.writeBytes a (bytesLE n v)

end Sys2Proof.Machine
end

