-- ==== Sys2Proof/Machine/Codes.lean ====
section
/-! DEFINITION. The code tables every chapter shares: outcomes (Table 3-4), reasons (Table 3-5), partition states
(R12), context states (Table 4-6), synchronisation roles and states (Tables 2-6 and 2-9), frame phases (R38) and event
severities (Table 15-8). -/

namespace Sys2Proof.Machine

/-- Outcome codes (R86, Table 3-4). -/
inductive Oc where
  | done | admitted | deferred | refused | aborted | killed | notActive | badCommand | noResource | memberLost | partly
  deriving DecidableEq, Repr

/-- The 8-bit code of an outcome (Table 3-4). -/
def Oc.code : Oc → Nat
  | .done => 0 | .admitted => 1 | .deferred => 2 | .refused => 3 | .aborted => 4 | .killed => 5 | .notActive => 6
  | .badCommand => 7 | .noResource => 8 | .memberLost => 9 | .partly => 10

/-- Reason codes (R87, Table 3-5). -/
inductive Reason where
  | none | reservedSet | unknownOpcode | notPermitted | duplicateTicket | outOfRange | badState | notMaster | badHandle
  | argFault | badSignature | rollback
  | overload | quota | power | partitionDown | periodChange
  | noPages | noContext | tableFull | noQueue | noRows | noLinkShare | noBlocks
  | translationFault | atsSize | tagMismatch | frameOverrunLimit | hostKill | spanPeerKilled | watchdog
  | memberKilled | memberUnreachable
  | bestSoFar | chaff
  | hostAbort | partitionReset
  | unknownTicket | alreadyEnded
  | duplicateCoord | busStuck | linkDown
  deriving DecidableEq, Repr

/-- The 16-bit code of a reason (Table 3-5). -/
def Reason.code : Reason → Nat
  | .none => 0x0000 | .reservedSet => 0x0001 | .unknownOpcode => 0x0002 | .notPermitted => 0x0003
  | .duplicateTicket => 0x0004 | .outOfRange => 0x0005 | .badState => 0x0006 | .notMaster => 0x0007
  | .badHandle => 0x0008 | .argFault => 0x0009 | .badSignature => 0x000A | .rollback => 0x000B
  | .overload => 0x0100 | .quota => 0x0101 | .power => 0x0102 | .partitionDown => 0x0103 | .periodChange => 0x0104
  | .noPages => 0x0200 | .noContext => 0x0201 | .tableFull => 0x0202 | .noQueue => 0x0203 | .noRows => 0x0204
  | .noLinkShare => 0x0205 | .noBlocks => 0x0206
  | .translationFault => 0x0300 | .atsSize => 0x0301 | .tagMismatch => 0x0302 | .frameOverrunLimit => 0x0303
  | .hostKill => 0x0304 | .spanPeerKilled => 0x0305 | .watchdog => 0x0306
  | .memberKilled => 0x0400 | .memberUnreachable => 0x0401
  | .bestSoFar => 0x0500 | .chaff => 0x0501
  | .hostAbort => 0x0600 | .partitionReset => 0x0601
  | .unknownTicket => 0x0700 | .alreadyEnded => 0x0701
  | .duplicateCoord => 0x0800 | .busStuck => 0x0801 | .linkDown => 0x0802

/-- Partition states, in the order of R12. -/
inductive PState where
  | absent | created | running | fenced | faulted | tearingDown
  deriving DecidableEq, Repr

/-- The 3-bit code of a partition state (R12, Table 3-9). -/
def PState.code : PState → Nat
  | .absent => 0 | .created => 1 | .running => 2 | .fenced => 3 | .faulted => 4 | .tearingDown => 5

/-- Context states (R122, Table 4-6). -/
inductive CState where
  | free | live | killing | dead
  deriving DecidableEq, Repr

/-- The 2-bit code of a context state (Table 4-12). -/
def CState.code : CState → Nat
  | .free => 0 | .live => 1 | .killing => 2 | .dead => 3

/-- Page ownership states (Table 4-3). -/
inductive OwnState where
  | free | owned | scrubbing | quarantined
  deriving DecidableEq, Repr

/-- The 2-bit code of an ownership state (Table 4-3). -/
def OwnState.code : OwnState → Nat
  | .free => 0 | .owned => 1 | .scrubbing => 2 | .quarantined => 3

/-- `FRM.SYNC.ROLE` (Table 2-9). -/
inductive Role where
  | member | master | deputy | standalone
  deriving DecidableEq, Repr

/-- The 2-bit code of a role (Table 2-9). -/
def Role.code : Role → Nat
  | .member => 0 | .master => 1 | .deputy => 2 | .standalone => 3

/-- `FRM.SYNC.STATE` (Tables 2-6 and 2-9). -/
inductive SyncState where
  | unsync | acquiring | locked | holdover
  deriving DecidableEq, Repr

/-- The 2-bit code of a synchronisation state (Table 2-9). -/
def SyncState.code : SyncState → Nat
  | .unsync => 0 | .acquiring => 1 | .locked => 2 | .holdover => 3

/-- Where in a frame the package is (R38). `stopped`: frames are not counted yet. -/
inductive Phase where
  | stopped | commit | work | slack
  deriving DecidableEq, Repr

/-- Severities of event-log records (Table 15-8). -/
inductive Sev where
  | info | warning | error | critical
  deriving DecidableEq, Repr

/-- The 2-bit code of a severity (Table 15-8). -/
def Sev.code : Sev → Nat
  | .info => 0 | .warning => 1 | .error => 2 | .critical => 3

/-- Classes of mailbox commands (R89). `own`: the owning chapter's table gives the effect in each state. -/
inductive Class where
  | q | k | j | own
  deriving DecidableEq, Repr

/-- Dies (R14). -/
inductive Die where
  | w | e
  deriving DecidableEq, Repr

/-- The number of a die: W 0, E 1 (R107). -/
def Die.num : Die → Nat
  | .w => 0 | .e => 1

/-- The ordering code fixed in the fuses (R2, R3). -/
inductive Grade where
  | vla114 | vla112
  deriving DecidableEq, Repr

end Sys2Proof.Machine
end

