-- ==== Sys2Proof/Machine/TypesHost.lean ====
section
/-! DEFINITION. Plain data of the frame unit (02), mailboxes, tickets, jobs and admission (03), memory tables, contexts
and the translation caches (04), partitions and spans (13). Each structure's field values are its reset values. -/

namespace Sys2Proof.Machine

/-! ### Commands, tickets and records -/

/-- A consumed command: where it came from and what its records copy (R82, R83). -/
structure CmdId where
  /-- 0 PF0, n VFn, 17 the service mailbox -/
  mbx : Nat
  /-- the model's number of this consumption, so that a reused ticket is not confused with an ended one -/
  uid : Nat
  ticket : BitVec 32
  opcode : BitVec 16
  ctx : BitVec 6
  slot : BitVec 12
  irq : Bool
  admitAck : Bool
  deriving DecidableEq, Repr

/-- A command entry as the ring holds it (R82), but for its opcode: `reserved` says that a reserved header bit is
nonzero, `slot` is the ring slot it was consumed from. -/
structure Entry where
  ticket : BitVec 32 := 0
  ctx : BitVec 6 := 0
  irq : Bool := false
  noDefer : Bool := false
  admitAck : Bool := false
  cost : BitVec 32 := 0
  reserved : Bool := false
  slot : BitVec 12 := 0
  args : List W64 := []
  deriving DecidableEq, Repr

/-- A completion record before its PHASE bit is set (R83). -/
structure Record where
  cmd : CmdId
  oc : Oc
  reason : Reason
  words : List W64
  final : Bool
  frame : FrameNo
  deriving DecidableEq, Repr

/-- An active ticket (R85): `left` of its 3 reserved staging places are unused (R81); `ended` once its outcome record
is staged. -/
structure Ticket where
  cmd : CmdId
  left : Nat := 3
  ended : Bool := false
  deriving DecidableEq, Repr

/-- Error codes of a mailbox (Table 3-1, `MBX.STATUS.ERR_CODE`). -/
inductive MbxErr where
  | none | badConfig | badDoorbell | badCplHead | cmdFetchFault
  deriving DecidableEq, Repr

/-- The 4-bit code of a mailbox error. -/
def MbxErr.code : MbxErr → Nat
  | .none => 0 | .badConfig => 1 | .badDoorbell => 2 | .badCplHead => 3 | .cmdFetchFault => 4

/-- One mailbox: the registers of Table 3-1, its staging area, tickets and interrupt moderation. -/
structure Mailbox where
  cmdBase : W64 := 0
  cplBase : W64 := 0
  cmdLog2 : BitVec 4 := 0
  cplLog2 : BitVec 4 := 0
  enable : Bool := false
  cmdTail : BitVec 12 := 0
  cmdHead : BitVec 12 := 0
  cplHead : BitVec 13 := 0
  cplTail : BitVec 13 := 0
  phase : Bool := true
  irqCount : BitVec 8 := 1
  irqFrames : BitVec 8 := 1
  resetBusy : Bool := false
  error : Bool := false
  errCode : MbxErr := .none
  ended : BitVec 32 := 0
  staged : List Record := []
  tickets : List Ticket := []
  /-- commands consumed in this frame, at most 64 (R69) -/
  consumed : Nat := 0
  /-- descriptors checked in this frame, at most 8,192 (R138) -/
  checked : Nat := 0
  /-- records written since the last completion interrupt (R100) -/
  sinceIrq : Nat := 0
  /-- frames since the oldest unsignalled record (R100) -/
  age : Option Nat := none
  /-- frames with RESET_BUSY set (R102) -/
  busyFrames : Nat := 0
  /-- tickets ended by the reset in progress (R101) -/
  ending : Nat := 0
  deriving DecidableEq, Repr

/-! ### PCIe endpoint -/

/-- One function's MSI-X and ATS state (R99, R100, R115); an unlisted vector is masked (log entry 4). -/
structure PciFn where
  msixEnable : Bool := false
  unmasked : List Nat := []
  pendingVec : List Nat := []
  atsEnable : Bool := false
  /-- Invalidate Queue Depth of the ATS capability: 0 stands for 32 (R114) -/
  invalQueueDepth : BitVec 5 := 0
  deriving DecidableEq, Repr

/-- What an endpoint error hit (R74): nothing but the link (correctable), the fetch of a command entry, a data transfer
of a context's operation through a host window, the buffer that a command names, no transfer of these (an Unsupported
Request, Completer Abort, Poisoned TLP or Completion Timeout all the same), or an uncorrectable error inside the
endpoint. -/
inductive PcieErr where
  | correctable
  | fetch
  /-- what the unit that made the access was (R127): its die, tag, ticket and slot, the address and the direction -/
  | data (die : Die) (tag : BitVec 10) (ticket : BitVec 32) (slot : BitVec 12) (dva : Dva) (write : Bool)
  /-- a line of host memory that Choesk is about to read for a command -/
  | argument (addr : W64)
  | other
  | internal
  deriving DecidableEq, Repr

/-- What leaves the package through the PCIE domain beside data: an MSI-X vector, an ATS Translation Request (function,
window and the request's number), an Invalidation Completion (function and ITag) or an AER message. -/
inductive HostTlp where
  | msix (fn vector : Nat)
  | atsRequest (fn window req : Nat)
  | invalDone (fn tag : Nat)
  | aer (fn kind : Nat)
  deriving DecidableEq, Repr

/-- The details a checking unit sends when it detects a fault, or Choesk's own cause (R124, R127). -/
structure FaultRec where
  tag : BitVec 10
  cause : Reason
  kind : BitVec 8 := 0
  die : Nat := 0
  write : Bool := false
  dva : Dva := 0
  ticket : BitVec 32 := 0
  slot : BitVec 12 := 0
  place : BitVec 16 := 0
  deriving DecidableEq, Repr

/-- The link state machine as far as R72 and R444 describe it. -/
inductive LinkSt where
  | down | training | detect | up
  deriving DecidableEq, Repr

/-- The PCIe endpoint (R71 to R74, R444, R477). -/
structure Pcie where
  link : LinkSt := .down
  perstLow : Bool := true
  refclk : Bool := true
  width : BitVec 5 := 0
  speed : BitVec 3 := 0
  numVfs : BitVec 5 := 0
  /-- what waits in the crossings of the PCIE domain while its reference is lost, oldest first (R34, R477) -/
  held : List HostTlp := []
  /-- lines of host memory whose next read by Choesk fails in the endpoint (R74) -/
  failLines : List Nat := []
  /-- answers configuration requests with Retry Status until boot completes (R444) -/
  configRetry : Bool := true
  fns : Tab PciFn := []
  /-- Unsupported Requests and errors logged through AER: function, offset or kind, and whether a write -/
  aerLog : List (Nat × Nat × Bool) := []
  deriving DecidableEq, Repr

/-! ### Jobs and admission -/

/-- How far a job has come (R91, R98, R138). -/
inductive JobStage where
  /-- in its descriptor checks, with the next index to check -/
  | checking (next : Nat)
  /-- waiting for the first admission pass that considers it -/
  | fresh
  /-- in the deferral list -/
  | deferred
  /-- admitted -/
  | admitted
  deriving DecidableEq, Repr

/-- One job (R132, R96). -/
structure Job where
  cmd : CmdId
  part : Nat
  cost : Nat
  noDefer : Bool
  list : Dva
  count : Nat
  /-- declared peak operation energy in 0.1 µJ (Table 5-10) -/
  peak : Nat
  stage : JobStage
  firstDeferred : Option FrameNo := none
  deferredFrames : Nat := 0
  admFrame : Option FrameNo := none
  /-- place in the order of admissions (R147) -/
  admSeq : Nat := 0
  overruns : Nat := 0
  passedOver : Nat := 0
  retired : Nat := 0
  /-- operations below this index have issued -/
  base : Nat := 0
  /-- issued indices at or above `base` -/
  issued : List Nat := []
  /-- fetched descriptors, by index (R134) -/
  fetched : List (Nat × Desc) := []
  /-- indices passed over in the present frame and how many consecutive frames before it (R391) -/
  passed : List (Nat × Nat) := []
  passedNow : List Nat := []
  /-- the abort or reset that decided the job, and the abort commands to answer (R97) -/
  ending : Option Reason := none
  aborters : List CmdId := []
  deriving DecidableEq, Repr

/-- Admission state of one partition (R90 to R95). -/
structure AdmPart where
  g : BitVec 16 := 0
  w : BitVec 8 := 0
  b : Int := 0
  overloads : BitVec 48 := 0
  quotaPower : BitVec 48 := 0
  /-- pool grants of the last 16 passes, newest first (R95) -/
  grants : List Nat := []
  /-- a change of g and w for the next pass (R105) -/
  next : Option (BitVec 16 × BitVec 8) := none
  deriving DecidableEq, Repr

/-- Package-wide admission state (R90). -/
structure Adm where
  a : BitVec 16 := 4096
  nextA : Option (BitVec 16) := none
  q : Int := 0
  parts : Tab AdmPart := []
  jobs : List Job := []
  nextSeq : Nat := 0
  /-- the function that this frame's rotation of mailboxes starts with (R69) -/
  first : Nat := 0
  /-- commands held during a period change (R93), with the partition they act on -/
  held : List (CmdId × Nat × Bool) := []
  deriving DecidableEq, Repr

/-! ### The frame unit -/

/-- A change of period announced by markers (R62, Table 2-5). -/
structure Change where
  period : BitVec 3
  slack : BitVec 2
  frame : FrameNo
  deriving DecidableEq, Repr

/-- A change of period proposed but not yet announced (R62): at the master with its command, the packages that have
acknowledged and the frames waited; at a member with its own acknowledgement. -/
structure Proposal where
  period : BitVec 3
  slack : BitVec 2
  master : Bool
  frames : Nat := 0
  /-- the packages that must acknowledge, and those that have -/
  expect : List Nat := []
  acks : List Nat := []
  /-- this package has acknowledged and defers START and RESUME -/
  acked : Bool := false
  deriving DecidableEq, Repr

/-- `FRM.STATUS` of one partition and what R45, R47 and R48 remember of it. -/
structure FrmPart where
  overrun : BitVec 16 := 0
  consec : BitVec 9 := 0
  limit : BitVec 8 := 8
  hold : Bool := false
  slackLate : Bool := false
  spanHold : Bool := false
  /-- a limit for the next commit instant (R67) -/
  nextLimit : Option (BitVec 8) := none
  /-- overran and waits for a record rebased since (R45, R48): its spans then, with the ρ they had -/
  waiting : Bool := false
  waitRho : List (BitVec 16 × BitVec 32) := []
  /-- overran the previous frame (R45) -/
  overran : Bool := false
  /-- the frame it overran last: while it overran or waits, no frame-bound operation of a later frame issues (R45) -/
  overFrame : FrameNo := 0
  deriving DecidableEq, Repr

/-- The frame unit: `FRM.COUNT`, `FRM.CONFIG`, `FRM.SYNC` and the counts of R56 to R64. -/
structure Frm where
  count : FrameNo := 0
  period : BitVec 3 := 2
  slack : BitVec 2 := 0
  pref : BitVec 4 := 0
  role : Role := .member
  state : SyncState := .unsync
  epoch : BitVec 8 := 0
  master : BitVec 7 := 0
  deputy : BitVec 7 := 0
  hops : BitVec 4 := 0
  parent : BitVec 4 := 0
  error : BitVec 16 := 0
  phase : Phase := .stopped
  /-- the first commit instant after an election is frame 0 (R35) -/
  started : Bool := false
  good : Nat := 0
  bad : Nat := 0
  /-- lock reached; LOCKED at the first commit with a valid record (R56) -/
  lockReady : Bool := false
  holdFrames : Nat := 0
  /-- frames since the last marker received directly or by a routed path (R58, R60) -/
  missing : Nat := 0
  markerSeen : Bool := false
  /-- a marker came directly on the parent port in this frame (R56) -/
  directSeen : Bool := false
  /-- a marker of higher rank was accepted: becomes a member at the next commit (R59) -/
  demote : Bool := false
  change : Option Change := none
  /-- first markers carrying the change still to be counted down at the master -/
  proposal : Option Proposal := none
  /-- the FRAME.SET_PERIOD that proposed the change (R62, R64) -/
  changeCmd : Option CmdId := none
  parts : Tab FrmPart := []
  deriving DecidableEq, Repr

/-! ### Memory tables and translation -/

/-- Device page table entry (R110, Table 4-2). -/
structure Dpte where
  valid : Bool := false
  write : Bool := false
  any : Bool := false
  ctx : BitVec 6 := 0
  ppn : BitVec 9 := 0
  deriving DecidableEq, Repr

/-- Host window entry (R113, Table 4-4). -/
structure Hwin where
  valid : Bool := false
  write : Bool := false
  any : Bool := false
  ctx : BitVec 6 := 0
  iova : BitVec 34 := 0
  deriving DecidableEq, Repr

/-- Page ownership entry (R111, Table 4-3). -/
structure Own where
  state : OwnState := .free
  part : BitVec 4 := 0
  ctx : BitVec 6 := 0
  any : Bool := false
  ue : Bool := false
  deriving DecidableEq, Repr

/-- A translation cache entry (R119): device page or host window with its base and permissions. -/
structure XlEntry where
  part : Nat
  host : Bool
  num : Nat
  base : Nat
  read : Bool
  write : Bool
  any : Bool
  ctx : BitVec 6
  /-- the base came from ATS (R114) rather than from the entry's IOVA (R115) -/
  ats : Bool
  deriving DecidableEq, Repr

/-- A Translation Request in flight (R114), with what a fault record would name. -/
structure XlReq where
  /-- the number by which its completion names it -/
  id : Nat
  die : Nat
  part : Nat
  win : Nat
  tag : BitVec 10
  write : Bool
  ticket : BitVec 32
  slot : BitVec 12
  dva : Dva
  /-- the descriptor it fetches: job and index (R134) -/
  fetch : Option (Nat × Nat) := none
  /-- the accesses that have missed on it, by slot, address and direction, each counted once -/
  waiters : List (BitVec 12 × Dva × Bool) := []
  deriving DecidableEq, Repr

/-- What follows when a shootdown ends (R120). -/
inductive ShootThen where
  /-- MEM.FREE: scrub the pages and answer -/
  | memFree (cmd : CmdId) (ppns : List Nat)
  /-- MEM.UNMAP_HOST: answer -/
  | unmap (cmd : CmdId)
  /-- CTX.DESTROY: scrub, free the context and answer -/
  | destroy (cmd : CmdId) (part ctx : Nat) (ppns : List Nat)
  /-- CTX.POSTMORTEM with ADOPT: answer with the fault record -/
  | adopt (cmd : CmdId) (words : List W64)
  /-- teardown: scrub and release everything else (steps 4 and 5 of R367) -/
  | teardown (part : Nat) (ppns : List Nat)
  /-- a function-level reset: nothing (R444) -/
  | nothing
  deriving DecidableEq, Repr

/-- A shootdown in progress (R120). -/
structure Shoot where
  id : Nat
  next : ShootThen
  deriving DecidableEq, Repr

/-- The XLT counters of one die (R130, Table 4-11). -/
structure XltRegs where
  hit : BitVec 32 := 0
  missDev : BitVec 16 := 0
  missHost : BitVec 16 := 0
  invalHost : BitVec 16 := 0
  invalChoesk : BitVec 16 := 0
  deriving DecidableEq, Repr

/-- Tables, caches and counters of chapter 4. -/
structure Xlt where
  dev : Tab Dpte := []
  win : Tab Hwin := []
  own : Tab Own := []
  caches : Tab (List XlEntry) := []
  regs : Tab XltRegs := []
  reqs : List XlReq := []
  nextReq : Nat := 0
  /-- host Invalidate Requests in progress (R121): tag, function, base and length -/
  invals : List (Nat × Nat × Nat × Nat) := []
  shoots : List Shoot := []
  nextShoot : Nat := 0
  /-- pages waiting to be scrubbed, oldest first (R129) -/
  scrubs : List Nat := []
  /-- 64-bit words holding an ECC error: kind of memory (false device, true scratchpad), word address, and whether it
  is uncorrectable (R22, R118) -/
  ecc : List (Bool × Nat × Bool) := []
  /-- single-bit errors corrected in each tiller's banks (R22) -/
  spadCorrected : Tab Nat := []
  deriving DecidableEq, Repr

/-! ### Contexts, partitions, spans -/

/-- One context with its fault record (R122, R127). -/
structure Ctx where
  state : CState := .free
  cause : Option Reason := none
  kind : BitVec 8 := 0
  tag : BitVec 10 := 0
  die : Nat := 0
  write : Bool := false
  dva : Dva := 0
  start : FrameNo := 0
  stopped : BitVec 16 := 0
  ticket : BitVec 32 := 0
  slot : BitVec 12 := 0
  place : BitVec 16 := 0
  originPkg : BitVec 7 := 0
  originTag : BitVec 10 := 0
  unreached : BitVec 7 := 0
  /-- CTX.KILL commands that end when the context is DEAD -/
  killers : List CmdId := []
  /-- a CTX.DESTROY in progress -/
  destroying : Bool := false
  deriving DecidableEq, Repr

/-- A partition (R358 to R368). -/
structure Part where
  state : PState := .absent
  fencing : Bool := false
  resetting : Bool := false
  rows : BitVec 16 := 0
  quota : BitVec 9 := 0
  share : BitVec 32 := 0
  energy : BitVec 11 := 0
  fault : BitVec 8 := 0
  changed : FrameNo := 0
  /-- the state to take at the next commit instant, with the commands that end then -/
  next : Option PState := none
  cmds : List CmdId := []
  /-- PART.TEARDOWN commands that wait for the end of a teardown or of a reset -/
  tearCmds : List CmdId := []
  /-- a TEARDOWN waits for the reset in progress (R368) -/
  tearAfter : Bool := false
  /-- step 4 of R367 is done -/
  released : Bool := false
  /-- tickets ended and rows removed by the reset in progress (Table 13-8) -/
  resetEnded : Nat := 0
  resetRows : Nat := 0
  /-- the reset began in FAULTED: self-test of the rows is due (R366) -/
  resetFaulted : Bool := false
  createG : BitVec 16 := 0
  deriving DecidableEq, Repr

/-- Span states (Table 13-8). -/
inductive SpanState where
  | forming | active | dead
  deriving DecidableEq, Repr

/-- The 2-bit code of a span state (Table 13-8). -/
def SpanState.code : SpanState → Nat
  | .forming => 0 | .active => 1 | .dead => 2

/-- A span this package created or joined (R369 to R374). -/
structure Span where
  id : BitVec 16
  state : SpanState := .forming
  creator : Nat
  /-- members in ring order (R371) -/
  ring : List Nat
  part : Nat
  ctx : Nat
  order : Bool := false
  joined : List Nat := []
  rho : BitVec 32 := 0
  frames : Nat := 0
  lead : Nat
  /-- this membership ends at the next commit instant -/
  leaving : Bool := false
  cmd : Option CmdId := none
  leaveCmds : List CmdId := []
  /-- members that have not acknowledged the span-dead notice, and the frames since it was sent (R373) -/
  unacked : List Nat := []
  deadFrames : Nat := 0
  /-- the contexts behind a DEAD span's withdrawal is due at the next pass (R373) -/
  withdraw : Bool := false
  deriving DecidableEq, Repr

/-- The host side of the package: contexts, partitions and spans. -/
structure Tenants where
  parts : Tab Part := []
  ctxs : Tab Ctx := []
  spans : List Span := []
  /-- span indices freed here, with the frame (R372) -/
  freed : List (BitVec 16 × FrameNo) := []
  /-- package rows marked unavailable by self-test (R358) -/
  badRows : BitVec 16 := 0
  deriving DecidableEq, Repr

end Sys2Proof.Machine
end

