-- ==== Sys2Proof/Machine/TypesSeq.lean ====
section
/-! DEFINITION. Plain data of the sequencers, operations in flight and handle queues (05). -/

namespace Sys2Proof.Machine

/-- A handle (R149, Table 5-7). -/
structure Handle where
  base : Dva := 0
  lines : BitVec 20 := 0
  tag : BitVec 10 := 0
  home : BitVec 10 := 0
  index : BitVec 16 := 0
  deriving DecidableEq, Repr

/-- What an operation does next at a handle queue (R151). -/
inductive QueueWait where
  /-- pop of IN0, IN1 or FREE -/
  | in0 | in1 | free
  /-- push of a handle back to its HOME queue reference: die bit [8], queue [7:0] -/
  | push (queue : BitVec 10) (h : Handle)
  /-- push of a produced handle to OUT, with the free buffer that was popped for it -/
  | out (queue : BitVec 10) (h : Handle) (buffer : Option Handle)
  deriving DecidableEq, Repr

/-- An operation in flight: it holds a sequencer slot from issue to retirement (R133). -/
structure Op where
  /-- number of the issue, rising in issue order -/
  id : Nat
  die : Nat
  part : Nat
  ctx : Nat
  /-- the job's consumption number and ticket; none for a copy the device itself makes (R197) -/
  job : Option Nat
  ticket : BitVec 32 := 0
  index : Nat := 0
  /-- the sequencer slot it holds on its die (R133) -/
  slot : BitVec 12 := 0
  desc : Desc
  /-- bounds read at issue: M, N, K, H (R139) -/
  m : Nat := 1
  n : Nat := 1
  k : Nat := 1
  h : Nat := 1
  /-- charge and estimate in 0.1 µJ, and the frame of issue (R385 to R389) -/
  charge : Nat := 0
  issued : FrameNo := 0
  /-- the frame a frame-bound operation belongs to (R42) -/
  belongs : FrameNo := 0
  started : Bool := false
  /-- its start has waited for the stager (R395) -/
  waited : Bool := false
  /-- engine cycles of the tiles done, and bytes moved to or from HBM or host memory, and between scratchpads or to a
  port (R388, R389) -/
  cyc : Nat := 0
  ext : Nat := 0
  loc : Nat := 0
  /-- iterations of the loop nest completed (R142) -/
  iter : Nat := 0
  /-- handles popped for the current tile, and the free buffer of the current output tile (R151) -/
  h0 : Option Handle := none
  h1 : Option Handle := none
  hc : Option Handle := none
  waits : List QueueWait := []
  /-- FP32 accumulators of the current output tile (R143) -/
  acc : List (BitVec 32) := []
  loopsDone : Bool := false
  /-- operation records, batch table rows or other words read at issue by the kind (chapters 6, 8, 9, 10) -/
  params : List Nat := []
  /-- elements produced so far by a fused operation or bytes received by a circulation receive -/
  progress : Nat := 0
  /-- the line accesses that the iteration in progress, or the issue, has made, in order, with what the reads gave; an
  iteration that resumes after a wait goes on behind them (R108) -/
  lines : List (List Byte) := []
  cursor : Nat := 0
  /-- issued, but its bounds and its kind's words are still being read (R139, R148) -/
  binding : Bool := false
  /-- what it had left at resumption has become a continuation (R256) -/
  continued : Bool := false
  deriving DecidableEq, Repr

/-- The SEQ registers of one partition and the watch of R153. -/
structure SeqPart where
  stall : BitVec 16 := 0
  descErr : BitVec 16 := 0
  fenceLeft : BitVec 16 := 0
  retired : BitVec 32 := 0
  retiredNow : Bool := false
  movedNow : Bool := false
  /-- a fence has retired and its release frame has not begun (R159) -/
  fenceHold : Bool := false
  deriving DecidableEq, Repr

/-- Both sequencers, the bound file and the handle queues. -/
structure Seq where
  /-- operations in flight, oldest issue first -/
  ops : List Op := []
  nextOp : Nat := 0
  /-- bound register r of partition p at key 64p + r (R141) -/
  bounds : Tab W64 := []
  /-- handle queue q of die d at key 256d + q, oldest handle first (R150) -/
  queues : Tab (List Handle) := []
  /-- the stationary operand registers of a tiller's florets, by rows of the tile they hold (R19, R166) -/
  florets : Tab (List (List Byte)) := []
  parts : Tab SeqPart := []
  deriving DecidableEq, Repr

end Sys2Proof.Machine
end

