-- ==== Sys2Proof/Machine/TypesPlan.lean ====
section
/-! DEFINITION. Plain data of circulation and the planner (09) and of energy and the thermal governor (14). -/

namespace Sys2Proof.Machine

/-! ### Planner -/

/-- A reserved or predicted cell: sending package, port direction, slot (R242). -/
structure Cell where
  pkg : Nat
  port : Nat
  slot : Nat
  deriving DecidableEq, Repr

/-- A piece of a flow: its hop-1 slots, candidate, wait and hops (R246) in one real frame, or for a recurring flow its
pattern from that frame on. -/
structure Piece where
  frame : FrameNo
  cand : Nat
  wait : Nat
  hops : Nat
  slots : List Nat
  /-- the cells of every hop, in cell order and, within a cell, hop order -/
  cells : List Cell
  /-- occurrences, none for a pattern without end -/
  times : Option Nat := some 1
  /-- the pattern in force of a recurring flow, rather than one that ended (R260) -/
  live : Bool := true
  /-- made by the pass in progress, not committed yet (R249) -/
  fresh : Bool := true
  deriving DecidableEq, Repr

/-- What a declaration is for at its member: a FLOW.DECLARE, a tree edge of a group (R272) with the model's own count of the
declarations of edges, or the remainder of a
transfer withdrawn in a real frame (R256). -/
inductive DeclKey where
  | cmd (c : CmdId)
  | edge (group tree target gen : Nat)
  | rest (frame : FrameNo)
  deriving DecidableEq, Repr

/-- A flow entry at the lead (R238). -/
structure Flow where
  num : Nat
  seq : BitVec 32
  /-- 0 for the flow as declared, k for its k-th continuation (R256) -/
  rest : Nat := 0
  /-- the member that declared it, and for what -/
  pkg : Nat
  key : DeclKey
  src : Nat
  dst : Nat
  n : Nat
  earliest : FrameNo
  latest : FrameNo
  /-- recurrence period, 0 for none, and occurrence count, 0 until withdrawn -/
  r : Nat := 0
  c : Nat := 0
  pieces : List Piece := []
  /-- a withdrawal is to be taken at the next pass, and has been taken (R264) -/
  withdrawing : Bool := false
  withdrawn : Bool := false
  /-- FLOW.WITHDRAW commands to answer at the next pass: package and command -/
  asks : List (Nat × CmdId) := []
  /-- the final record has been sent -/
  answered : Bool := false
  deriving DecidableEq, Repr

/-- An entry of a plan record (R250, Table 9-5). -/
structure PlanEntry where
  first : Nat
  count : Nat
  flow : Nat
  outPort : Nat
  inPort : Nat
  deriving DecidableEq, Repr

/-- A plan record of one span for one member and real frame (R250). -/
structure PlanRecord where
  frame : FrameNo
  span : BitVec 16
  rebase : BitVec 32
  lead : Nat
  rebased : Bool
  member : Nat
  entries : List PlanEntry
  deriving DecidableEq, Repr

/-- What a lead's planner holds for one span it leads (R238, R242, R257). -/
structure LeadSpan where
  span : BitVec 16
  /-- the flow table, in admission order -/
  flows : List Flow := []
  /-- entries freed lately, newest first, with the frame: a remainder may still continue one (R256) -/
  gone : List (FrameNo × Flow) := []
  nextSeq : BitVec 32 := 0
  /-- announced span-holds: first hold frame h (R257) -/
  holds : List FrameNo := []
  /-- packages and port directions reported not usable, or at half width (R260) -/
  down : List (Nat × Nat) := []
  half : List (Nat × Nat) := []
  /-- the members' partitions' share masks, by package (R237) -/
  shares : List (Nat × BitVec 32) := []
  /-- the next record is the first after a span-hold (R257) -/
  rebased : Bool := false
  /-- the pass in progress: whether it may commit (false after a planner fault, R261), the cycles it spent, and the flows
  it cut and gave a piece (R248, R263) -/
  passOpen : Bool := false
  cycles : Nat := 0
  cut : Nat := 0
  placed : Nat := 0
  deriving DecidableEq, Repr

/-- A declaration this member forwarded, kept until its flow is freed (R374); `known`: the lead has given its number and
admission sequence. -/
structure Declared where
  span : BitVec 16
  num : Nat
  seq : BitVec 32
  src : Nat
  dst : Nat
  n : Nat
  earliest : FrameNo
  latest : FrameNo
  r : Nat
  c : Nat
  key : DeclKey
  known : Bool := false
  deriving DecidableEq, Repr

/-- A cell's payload in a transit buffer or in flight (R234, R252). -/
structure CellData where
  span : BitVec 16
  flow : Nat
  frame : FrameNo
  bytes : List Byte
  /-- a cell of a chunk image (R273), which CHUNK_IMAGE_RECEIVE delivers whole -/
  image : Bool := false
  deriving DecidableEq, Repr

/-- A cell waiting in a transit buffer: its header's source, destination, hops, sending partition, hop-1 slot and
FRAME_LO, and its data (R310, R345). -/
structure Transit where
  src : Nat
  hops : Nat
  part : Nat
  slot : Nat
  frameLo : BitVec 8
  dst : Option Nat
  data : CellData
  deriving DecidableEq, Repr

/-- `PLN.STATUS` of one partition (R263). -/
structure PlnPart where
  holdFrames : BitVec 16 := 0
  noRecord : BitVec 16 := 0
  discard : BitVec 16 := 0
  empty : BitVec 16 := 0
  deriving DecidableEq, Repr

/-- The planner, the port slot tables and planned data in the package. -/
structure Pln where
  /-- link share table entry g of port d at key 32d + g: owner when assigned (R236) -/
  shares : Tab (Option Nat) := []
  leads : List LeadSpan := []
  declared : List Declared := []
  /-- records received whole and accepted for a coming frame (R251) -/
  accepted : List PlanRecord := []
  /-- records loaded for the next and for the present frame -/
  loaded : List PlanRecord := []
  current : List PlanRecord := []
  /-- records this package has committed and must send (R251) -/
  toSend : List PlanRecord := []
  /-- cells waiting for their forwarding window, by input port (R252) -/
  transit : Tab (List Transit) := []
  /-- ring-out port directions as decided at the commit instant, by span (R253) -/
  ringOuts : List (BitVec 16 × Nat) := []
  /-- data of issued sends waiting for cells: operation and its bytes not yet sent, in issue order -/
  sends : List (Nat × CellData) := []
  /-- transfers whose cells have left in this frame: partition, span and flow (R44) -/
  sentNow : List (Nat × BitVec 16 × Nat) := []
  /-- cells that have arrived for this package, oldest first, until a receive takes them -/
  arrived : List CellData := []
  /-- hold frames announced to this member: span, first hold frame and new offset (R257) -/
  spanHolds : List (BitVec 16 × FrameNo × BitVec 32) := []
  standby : Bool := false
  fault : Bool := false
  cycles : BitVec 18 := 0
  cut : BitVec 10 := 0
  placed : BitVec 10 := 0
  takeover : BitVec 16 := 0
  replaced : BitVec 16 := 0
  holds : BitVec 16 := 0
  parts : Tab PlnPart := []
  deriving DecidableEq, Repr

/-! ### Energy and thermal -/

/-- Per-partition power registers and balances (R384, R405). -/
structure PwrPart where
  loaded : BitVec 32 := 0
  loadW : Nat := 0
  loadE : Nat := 0
  balW : Int := 0
  balE : Int := 0
  passed : BitVec 32 := 0
  idle : BitVec 16 := 0
  oversize : BitVec 16 := 0
  retired : BitVec 48 := 0
  fill : BitVec 32 := 0
  /-- correction ratios that differ from 256: key 256·die + kind (R387) -/
  ratio : Tab Nat := []
  /-- the locked operation of each die: job consumption number and index (R391) -/
  lockW : Option (Nat × Nat) := none
  lockE : Option (Nat × Nat) := none
  deriving DecidableEq, Repr

/-- An engine's fill (R396): tiller and engine (0 MAC, 1 SFU, 2 move), partition and the share of full current held. -/
structure Fill where
  tiller : Nat
  engine : Nat
  part : Nat
  /-- current held, in 1/28 mA at the present clock's full scale -/
  current : Nat
  /-- commit instants left before the hold ends; none once ramping -/
  hold : Option Nat
  /-- energy per core cycle at full current, in pJ, and the full current (the fraction of R396) -/
  pj : Nat
  full : Nat
  deriving DecidableEq, Repr

/-- A sheaf-scope cap command in progress at the master (R402, R406). -/
structure SheafCap where
  /-- none for one that came by SMBT -/
  cmd : Option CmdId
  cap : BitVec 7
  effective : FrameNo
  waiting : List Nat
  deriving DecidableEq, Repr

/-- Energy logic and thermal governor (R383 to R402). -/
structure Pwr where
  cap : BitVec 7 := 100
  pending : BitVec 7 := 0
  pendingValid : Bool := false
  effective : FrameNo := 0
  /-- the package-scope commands answered when their cap takes effect, and those of a pending sheaf cap -/
  capCmds : List CmdId := []
  /-- the pending cap came by CAP_SET: the package that gets CAP_ACK -/
  capFrom : Option Nat := none
  sheaf : List SheafCap := []
  hottest : BitVec 8 := 0
  source : BitVec 6 := 0
  theta : BitVec 5 := 16
  nextTheta : BitVec 5 := 16
  step : BitVec 2 := 0
  emergency : Bool := false
  base : BitVec 32 := 80000
  nextBase : Option (BitVec 32) := none
  available : BitVec 32 := 0
  startWaits : BitVec 32 := 0
  clockSteps : BitVec 16 := 0
  parts : Tab PwrPart := []
  /-- the hottest on-die sample since the last evaluation, °C and the lowest source that gave it (R398) -/
  hotSample : Option (Nat × Nat) := none
  /-- ns since the last step down and at or below 100 °C since the last step (R400); none: no step yet -/
  sinceDown : Option Nat := none
  coolFor : Nat := 0
  /-- frames in the base-charge window, measured energy settled in it, and a failed reading (R386) -/
  winFrames : Nat := 0
  winM : Nat := 0
  winFailed : Bool := false
  /-- grants and releases of the last 1 µs: die, time in ns, current (R394) -/
  grants : List (Nat × Nat × Nat) := []
  releases : List (Nat × Nat × Nat) := []
  fills : List Fill := []
  /-- round-robin pointer of each die (R390) -/
  rrW : Nat := 0
  rrE : Nat := 0
  deriving DecidableEq, Repr

end Sys2Proof.Machine
end

