-- ==== Sys2Proof/Machine/TypesNet.lean ====
section
/-! DEFINITION. Plain data of the all-reduce (10), the Pleik ports (11) and the sheaf fabric (12), with the messages
packages exchange. -/

namespace Sys2Proof.Machine

/-! ### All-reduce -/

/-- Group states (R298). -/
inductive GroupState where
  | defining | active | degraded | failed
  deriving DecidableEq, Repr

/-- The 3-bit code of a group state (Table 10-6); a free entry reads 0. -/
def GroupState.code : GroupState → Nat
  | .defining => 1 | .active => 2 | .degraded => 3 | .failed => 4

/-- A tree edge a member sends on: tree, target position and package, and its flow once the lead has given it a number,
placed or failed (R268, R272). -/
structure Edge where
  tree : Nat
  target : Nat
  dst : Nat
  /-- which declaration of edges it belongs to: the model's own count -/
  gen : Nat := 0
  flow : Option Nat := none
  placed : Bool := false
  failed : Bool := false
  deriving DecidableEq, Repr

/-- A group table entry at this member (R265 to R268). -/
structure Group where
  index : Nat
  span : BitVec 16
  num : Nat
  part : Nat
  ctx : Nat
  state : GroupState := .defining
  checked : Bool
  bf16In : Bool
  bf16Out : Bool
  lanes : Nat
  cap : Nat
  /-- members by rank: package and context -/
  members : List (Nat × Nat)
  rank : Nat
  /-- ranks the trees are built over, in rank order (R295) -/
  order : List Nat
  edges : List Edge := []
  /-- CRC-32C of the member list or of the axis descriptor (R268) -/
  crc : BitVec 32
  cmd : Option CmdId := none
  frames : Nat := 0
  /-- this member's flows are all placed and its ready flit has been sent -/
  ready : Bool := false
  /-- at the coordinator: packages whose ready flits have arrived with their CRCs -/
  readies : List (Nat × BitVec 32) := []
  round : BitVec 4 := 0
  /-- ranks lost, and whether by a kill -/
  lost : List (Nat × Bool) := []
  /-- a rebuild of the trees is in progress: frames waited for readies (R295) -/
  repair : Option Nat := none
  /-- the announced restart: frame and round -/
  restart : Option (FrameNo × BitVec 4) := none
  recorded : BitVec 32 := 0
  /-- the own context was killed and a restart has come since: positions are served with a contribution of zero (R295) -/
  killed : Bool := false
  /-- sequence number of the oldest reduction without a record here: where a restart begins -/
  base : Nat := 0
  deriving DecidableEq, Repr

/-- A chunk image on one edge or in one engine store (R273, R274). -/
structure Image where
  group : Nat
  seq : Nat
  round : BitVec 4
  down : Bool
  /-- exponent wave of a checked group -/
  exp : Bool
  chunk : Nat
  contrib : Nat
  /-- sender's package -/
  sender : Nat
  /-- plain: FP32 bit patterns; checked value wave: integers; exponent wave: the 256 fields -/
  values : List Int
  /-- checked: the agreed exponent fields; residues of the 256 blocks -/
  exps : List Nat := []
  residues : List Nat := []
  /-- chaff entries by rank, in the first chunk of a reduction -/
  chaff : List Nat := []
  deriving DecidableEq, Repr

/-- A reduction in a communication queue (R284, R285). -/
structure Reduction where
  seq : Nat
  user : BitVec 32
  src : Dva
  dst : Dva
  chaffDva : Dva
  len : Nat
  /-- fused operation that produces the contribution, and the elements it has produced (R288) -/
  fused : Option Nat := none
  produced : Nat := 0
  /-- the destination addresses of a fused reduction are a layout, not a range: element byte offsets are computed from
  the operation's descriptor and bounds -/
  desc : Desc := 0
  bounds : List Nat := []
  /-- staging buffers held, oldest first: chunk number and elements; the last may still be filling (R288) -/
  buffers : List (Nat × List (BitVec 32)) := []
  taken : Nat := 0
  started : Option FrameNo := none
  /-- restarts it underwent -/
  restarts : Nat := 0
  /-- the chaff vector as delivered with the first chunk (R289) -/
  chaff : List Nat := []
  recomputes : BitVec 16 := 0
  /-- frame of the last write at this member (R285) -/
  endFrame : Option FrameNo := none
  outcome : Option (Oc × Reason) := none
  /-- the partition was reset before its record -/
  reset : Bool := false
  /-- chunks whose result has been written here -/
  done : List Nat := []
  deriving DecidableEq, Repr

/-- A communication queue (R284, R286). -/
structure Commq where
  part : Nat
  queue : Nat
  group : Nat
  ctx : Nat
  ring : Dva
  log2 : Nat
  head : BitVec 12 := 0
  tail : BitVec 12 := 0
  phase : Bool := true
  nextSeq : Nat := 0
  reds : List Reduction := []
  deriving DecidableEq, Repr

/-- A contribution chunk held in an engine store until its value wave has been sent (R282). -/
structure Held where
  group : Nat
  seq : Nat
  chunk : Nat
  values : List (BitVec 32)
  /-- the value wave has been formed from it; it goes once that wave has left (R282) -/
  used : Bool := false
  deriving DecidableEq, Repr

/-- How far a lane of a tree has come at this position: ordinals of its next chunk in the exponent and value waves, up and
down (R280). -/
structure LaneAt where
  expUp : Nat := 0
  valUp : Nat := 0
  expDown : Nat := 0
  valDown : Nat := 0
  deriving DecidableEq, Repr

/-- An image leaving on an edge: its lane, and the cells of it that have left in this frame (R273, R281). -/
structure Leaving where
  group : Nat
  tree : Nat
  lane : Nat
  target : Nat
  image : Image
  sent : List Nat := []
  deriving DecidableEq, Repr

/-- `RED.ENGINE` (R297). -/
structure Engine where
  retired : Bool := false
  seen : Bool := false
  host : BitVec 5 := 31
  hosting : Bool := false
  recomputes : BitVec 16 := 0
  deriving DecidableEq, Repr

/-- Reduction engines, groups and queues. -/
structure Red where
  groups : List Group := []
  queues : List Commq := []
  engines : Tab Engine := []
  held : List Held := []
  images : List Image := []
  /-- agreed exponents that have reached this member: group, seq, chunk, fields -/
  agreed : List (Nat × Nat × Nat × List Nat) := []
  /-- lanes by 128·group + 64·tree + lane -/
  lanes : Tab LaneAt := []
  leaving : List Leaving := []
  /-- ready flits that came before this package's own define: span, group number, package and CRC (R268) -/
  early : List (BitVec 16 × Nat × Nat × BitVec 32) := []
  /-- declarations of edges made so far: the model's own count -/
  gen : Nat := 0
  deriving DecidableEq, Repr

/-! ### Messages -/

/-- Frame marker payload (R52, Table 2-5). -/
structure Marker where
  frame : FrameNo
  master : BitVec 7
  epoch : BitVec 8
  period : BitVec 3
  slack : BitVec 2
  change : Option Change
  hops : BitVec 4
  deputy : BitVec 7
  txOffset : BitVec 16
  deriving DecidableEq, Repr

/-- A key of a beacon (R337). -/
structure Key where
  pref : BitVec 4
  pkg : BitVec 7
  origin : BitVec 16
  deriving DecidableEq, Repr

/-- A beacon entry (Table 12-4). -/
structure BeaconEntry where
  serial : W64 := 0
  dist : BitVec 4 := 15
  dup : Bool := false
  deriving DecidableEq, Repr

/-- A beacon (R337); unlisted entries are unreachable. -/
structure Beacon where
  serial : W64
  pkg : BitVec 7
  port : BitVec 4
  pref : BitVec 4
  sheaf : BitVec 12
  round : BitVec 16
  closed : Bool
  synced : Bool
  halted : Bool
  keys : List Key
  entries : Tab BeaconEntry
  deriving DecidableEq, Repr

/-- An outer hello (R353, Table 12-6). -/
structure Hello where
  serial : W64
  pkg : BitVec 7
  port : BitVec 4
  sheaf : BitVec 12
  frame : FrameNo
  epoch : BitVec 8
  master : BitVec 7
  synced : Bool
  txPhase : BitVec 32
  deriving DecidableEq, Repr

/-- Control messages addressed to packages, and those that cross one link (R311). -/
inductive Msg where
  | marker (m : Marker)
  | kill (frame : FrameNo) (cause : BitVec 16) (origin : BitVec 7) (tag : BitVec 10) (span : BitVec 16)
  | overrun (span : BitVec 16) (frame : FrameNo) (pkg : Nat)
  | spanHold (span : BitVec 16) (h : FrameNo) (rho : BitVec 32)
  | flowDeclare (d : Declared) (pkg : Nat)
  | flowWithdraw (span : BitVec 16) (flow : Nat) (pkg : Nat) (cmd : Option CmdId)
  | flowQuery (span : BitVec 16) (flow : Nat) (summary : Bool) (frame : FrameNo) (pkg : Nat) (cmd : CmdId)
  | flowResult (d : Declared) (oc : Oc) (reason : Reason) (words : List W64) (final : Bool)
  | flowAnswer (cmd : CmdId) (oc : Oc) (reason : Reason) (words : List W64)
  | flowFreed (span : BitVec 16) (flow : Nat)
  | planRecord (r : PlanRecord)
  | periodProposal (period : BitVec 3) (slack : BitVec 2)
  | periodAck (pkg : Nat)
  | spanJoin (span : BitVec 16) (pkg : Nat) (shares : BitVec 32)
  | spanRefuse (span : BitVec 16) (reason : Reason) (missing : Nat)
  | leaveAsk (span : BitVec 16) (pkg : Nat)
  | leaveReply (span : BitVec 16) (ok : Bool)
  | spanActive (span : BitVec 16) (ring : List Nat) (creator : Nat)
  | spanEnd (span : BitVec 16)
  | spanDead (span : BitVec 16)
  | spanDeadAck (span : BitVec 16) (pkg : Nat)
  | leadTakeover (span : BitVec 16) (pkg : Nat)
  | leadReply (span : BitVec 16) (rho : BitVec 32) (decls : List Declared) (pkg : Nat) (shares : BitVec 32)
  | groupReady (span : BitVec 16) (num : Nat) (pkg : Nat) (crc : BitVec 32)
  | groupActive (span : BitVec 16) (num : Nat)
  | groupFail (span : BitVec 16) (num : Nat) (oc : Oc) (reason : Reason)
  | groupWatchdog (span : BitVec 16) (num : Nat)
  | groupLoss (span : BitVec 16) (num : Nat) (pkg : Nat) (killed : Bool)
  | groupMismatch (span : BitVec 16) (num : Nat) (pkg : Nat)
  | groupRepair (span : BitVec 16) (num : Nat) (round : BitVec 4) (lost : List (Nat × Bool)) (restart : FrameNo)
  | health (frame : FrameNo) (port health width : Nat) (pkg neighbour : Nat)
  | capSet (cap : BitVec 7) (frame : FrameNo) (pkg : Nat)
  | capAck (cap : BitVec 7) (frame : FrameNo) (pkg : Nat)
  | width (port : Nat) (lanes : BitVec 8)
  | beacon (b : Beacon)
  | hello (h : Hello)
  | nak (seq : BitVec 12)
  | txeq (lane : Nat) (step : Bool)
  | tstamp
  | dozeReq | dozeAck | wake
  | creditReturn (count : Nat)
  | creditData (channel : Nat) (flits : Nat) (bytes : List Byte)
  deriving DecidableEq, Repr

/-- What a flit means beyond its 256 bytes: the content of a control message whose payload the spec does not lay out, or
the span, plan frame and kind of the flow whose cell a CELL flit is part of, which its header does not name (log entry
8). -/
inductive Said where
  | nothing
  | msg (m : Msg)
  | cell (span : BitVec 16) (frame : FrameNo) (image : Bool)
  deriving DecidableEq, Repr

/-- A codeword as a lane's decoder finds it (R303): its symbol errors, and the time since the port's last uncorrectable one,
in ns. -/
structure Codeword where
  lane : Fin 8
  errors : Nat
  gap : Nat
  deriving DecidableEq, Repr

/-- A flit (R310, Table 11-3) but for its SEQ and acknowledgement, which it gets as it is sent. `dst`: none for a LOCAL
flit; `sub`: FLOW or SUBTYPE; `bytes`: the payload, zeros to 240 bytes left out. -/
structure Flit where
  type : Nat
  first : Bool := true
  last : Bool := true
  src : Nat := 0
  dst : Option Nat := none
  sub : Nat := 0
  slot : Nat := 0
  len : Nat := 0
  part : Nat := 0
  hops : Nat := 0
  frameLo : BitVec 8 := 0
  bytes : List Byte := []
  said : Said := .nothing
  deriving DecidableEq, Repr

/-! ### Pleik ports -/

/-- `PLK.STATE.HEALTH` (Table 11-9). -/
inductive Health where
  | good | watch | quarantine | retired
  deriving DecidableEq, Repr

/-- The 2-bit code of a health state. -/
def Health.code : Health → Nat
  | .good => 0 | .watch => 1 | .quarantine => 2 | .retired => 3

/-- `PLK.STATE.LINK` (Table 11-9). -/
inductive Link where
  | down | training | up | retrain | dozeEntry | doze | waking
  deriving DecidableEq, Repr

/-- The 3-bit code of a link state. -/
def Link.code : Link → Nat
  | .down => 0 | .training => 1 | .up => 2 | .retrain => 3 | .dozeEntry => 4 | .doze => 5 | .waking => 6

/-- `PLK.STATE.WIDTH` (Table 11-9). -/
inductive Width where
  | full | low | high | none
  deriving DecidableEq, Repr

/-- The 2-bit code of a width. -/
def Width.code : Width → Nat
  | .full => 0 | .low => 1 | .high => 2 | .none => 3

/-- Lane lock machine states (R306, Table 11-2). -/
inductive LaneLock where
  | search | one | two | locked
  deriving DecidableEq, Repr

/-- One receive lane (R306, R318, R330). -/
structure Lane where
  lock : LaneLock := .search
  /-- COUNTER of the last valid marker, and its TRAIN bit, which sets the spacing of the next one (R306) -/
  counter : BitVec 16 := 0
  train : Bool := false
  /-- the COUNTER a marker at the present place has or would have had, and the skew in ns at which markers of one COUNTER
  arrive: what lanes are deskewed by (R308) -/
  place : BitVec 16 := 0
  skew : Nat := 0
  misses : Nat := 0
  consecUncorr : Nat := 0
  uncorr : BitVec 16 := 0
  bipErr : BitVec 16 := 0
  lockLoss : BitVec 8 := 0
  margin : BitVec 12 := 0
  stuck : Bool := false
  /-- an uncorrectable codeword or a lock loss in the latest burst (R321, R322) -/
  hit : Bool := false
  /-- uncorrectable codewords outside bursts in each frame of the 64-frame window, present frame first -/
  win : List Nat := []
  lowFrames : Nat := 0
  watchFrames : Nat := 0
  failedRelocks : Nat := 0
  /-- adaptation state and its history of two, newest first; the coefficient of the far transmitter; a TXEQ request has
  been sent in this frame (R318) -/
  adapt : BitVec 64 := 0
  hist0 : BitVec 64 := 0
  hist1 : BitVec 64 := 0
  txCoef : Int := 0
  asked : Bool := false
  deriving DecidableEq, Repr

/-- A width change in progress (R325): own unsound lanes, and frames waited. -/
structure WidthChange where
  unsound : BitVec 8
  frames : Nat := 0
  retraining : Bool := false
  deriving DecidableEq, Repr

/-- One Pleik port (R299 to R331). -/
structure Port where
  health : Health := .good
  width : Width := .full
  link : Link := .down
  burst : Bool := false
  retiredLanes : BitVec 8 := 0
  frozen : Bool := false
  probation : Bool := false
  crcFail : BitVec 16 := 0
  replays : BitVec 16 := 0
  exhaust : BitVec 8 := 0
  retrains : BitVec 8 := 0
  bursts : BitVec 8 := 0
  falseLock : BitVec 8 := 0
  corrected : BitVec 40 := 0
  lat : BitVec 16 := 0
  latValid : Bool := false
  lanes : Tab Lane := []
  deriving DecidableEq, Repr

/-- What a port remembers beside its registers: burst, probation and width bookkeeping, replay and doze. -/
structure PortWork where
  burstsTotal : BitVec 32 := 0
  retrainsTotal : BitVec 32 := 0
  healthFrame : FrameNo := 0
  nextHealth : Option Health := none
  consecCrc : Nat := 0
  /-- uncorrectable codewords of the last 1 µs: lane and age in ns, newest first (R319) -/
  recent : List (Nat × Nat) := []
  burstFrames : Nat := 0
  /-- duration of the burst that ended, in 0.1 µs; the burst began during probation (R322) -/
  burstDur : BitVec 32 := 0
  probBurst : Bool := false
  /-- lanes a permanent fault marked unsound, until the width change examines them (R325); none without a fault -/
  unsound : Option (BitVec 8) := none
  /-- failed fast retrains since the port was last UP -/
  restarts : Nat := 0
  recal : Option Nat := none
  probFrames : Nat := 0
  clean : Nat := 0
  /-- CRC failures outside bursts in each frame of the 64-frame window, present frame first, and whether a burst touched
  the frame (R322, R323) -/
  window : List (Nat × Bool) := []
  change : Option WidthChange := none
  txSeq : BitVec 12 := 0
  rxSeq : BitVec 12 := 0
  /-- a sequenced flit has been accepted since the sequence numbers started: ACK_SEQ is meaningful (R315) -/
  acks : Bool := false
  nakSent : Bool := false
  /-- unacknowledged flits with their SEQ and how often each was replayed, oldest first (R315) -/
  replay : List (BitVec 12 × Flit × Nat) := []
  /-- flits waiting for the port, in arbiter order (R313) -/
  queue : List Flit := []
  idle : Nat := 0
  sentReq : Bool := false
  gotReq : Bool := false
  sentAck : Bool := false
  gotAck : Bool := false
  sentWake : Bool := false
  wakeLatched : Bool := false
  /-- a retrain is running since a failed one: LINK.RETRAIN commands waiting, fast and full -/
  fastCmds : List CmdId := []
  fullCmds : List CmdId := []
  retireCmds : List CmdId := []
  /-- the retrain in progress started outside any burst (R322) -/
  outsideBurst : Bool := false
  deriving DecidableEq, Repr

/-- What a lane carries: a codeword of 544 symbols, or an alignment marker (R302, R304). -/
inductive LineItem where
  | codeword (symbols : List (BitVec 10))
  | marker (raw : BitVec 128)
  deriving DecidableEq, Repr

/-- The transmit side of a port below its flits (R302, R304, R305): the scrambler, scrambled bits not yet a symbol,
the place of the next symbol among the active lanes, the symbols of each lane's present codeword, codewords since the
last marker, the next COUNTER, and each lane's parity since the last marker (log entry 139 on how they begin). `sent`
is the model's own record of what the lanes have carried, by lane, oldest first. -/
structure LineTx where
  scr : BitVec 58 := 0
  bits : List Bool := []
  turn : Nat := 0
  symbols : Tab (List (BitVec 10)) := []
  words : Nat := 0
  counter : BitVec 16 := 0
  parity : Tab (BitVec 8) := []
  sent : List (Nat × LineItem) := []
  deriving DecidableEq, Repr

/-- All sixteen ports. -/
structure Plk where
  ports : Tab Port := []
  work : Tab PortWork := []
  line : Tab LineTx := []
  deriving DecidableEq, Repr

/-! ### Sheaf fabric -/

/-- Election states (Table 12-7). -/
inductive Election where
  | notOpen | opened | closed | halted | standalone
  deriving DecidableEq, Repr

/-- An entry of the distance table (R340, R341, R352). -/
structure DistEntry where
  dist : BitVec 4 := 15
  port : BitVec 4 := 15
  serial : W64 := 0
  dup : Bool := false
  dupRounds : Nat := 0
  /-- consecutive rounds at 15 and below 15, and whether held unreachable (R352) -/
  farRounds : Nat := 0
  nearRounds : Nat := 0
  unreachable : Bool := true
  deriving DecidableEq, Repr

/-- What a torus port knows of its neighbour (R336, R340, R349). -/
structure Neighbour where
  miswired : Bool := false
  beacon : Option Beacon := none
  rounds : Nat := 0
  marker : Option (FrameNo × BitVec 4) := none
  deriving DecidableEq, Repr

/-- An outer port (R353 to R355). -/
structure Outer where
  farSheaf : BitVec 12 := 0xFFF
  farPkg : BitVec 7 := 0
  farPort : BitVec 4 := 0
  farFrame : FrameNo := 0
  offset : BitVec 48 := 0
  status : BitVec 24 := 0
  credits : BitVec 7 := 0
  /-- flits of the receive buffer freed and not yet returned -/
  unreturned : Nat := 0
  discarded : BitVec 16 := 0
  deriving DecidableEq, Repr

/-- The fabric's state at this package (12). -/
structure Fab where
  /-- strap coordinate as sampled at edge C (R332) -/
  x : BitVec 3 := 0
  y : BitVec 2 := 0
  z : BitVec 2 := 0
  sheaf : BitVec 12 := 0
  election : Election := .notOpen
  round : BitVec 16 := 0
  /-- rounds run since the election opened (R342) -/
  opened : Nat := 0
  keys : List (Key × Nat) := []
  nbrs : Tab Neighbour := []
  dist : Tab DistEntry := []
  /-- control flits in transit, by the port they arrived on (R345) -/
  control : Tab (List Flit) := []
  /-- flits of this package that no capable port can carry now (R347) -/
  waiting : List Flit := []
  /-- the port that the FIRST flit of a control message took, by SRC, TYPE and DST, until its LAST flit (R348) -/
  follow : List ((Nat × Nat × Nat) × Nat) := []
  /-- messages of several flits that have arrived in part, by SRC, or 128 plus the port for LOCAL ones, and TYPE (R348) -/
  parts : List ((Nat × Nat) × List Flit) := []
  /-- the CELL flits of a cell that has arrived in part, by port (R312) -/
  cells : Tab (List Flit) := []
  outer : Tab Outer := []
  alternate : BitVec 32 := 0
  discarded : BitVec 16 := 0
  reachChanges : BitVec 16 := 0
  /-- the lost master's identifier after a takeover, until a deputy is named (R344) -/
  lostMaster : Option Nat := none
  statusFrames : Nat := 0
  deriving DecidableEq, Repr

end Sys2Proof.Machine
end

