-- ==== Sys2Proof/Machine/TypesMgmt.lean ====
section
/-! DEFINITION. Plain data of the key/value cache (07), the special-function stores (08), the management subsystem (15)
and start-up, reset and test (16), with the package's fuses and straps (17). -/

namespace Sys2Proof.Machine

/-! ### Key/value cache -/

/-- KV block states (R191, Table 7-2). -/
inductive KvState where
  | free | priv | published | cached
  deriving DecidableEq, Repr

/-- The 2-bit code of a block state (Table 7-5). -/
def KvState.code : KvState → Nat
  | .free => 0 | .priv => 1 | .published => 2 | .cached => 3

/-- One KV block with its entry in the prefix tree and its private store (R188 to R205). -/
structure KvBlock where
  state : KvState := .free
  count : BitVec 16 := 0
  gen : BitVec 16 := 0
  layer : BitVec 12 := 0
  parent : Option Nat := none
  depth : BitVec 16 := 0
  digest : W64 := 0
  tokens : List (BitVec 32) := []
  lastUse : FrameNo := 0
  deriving DecidableEq, Repr

/-- A copy on write in progress (R196, R197): command, original, new block, and the operation once it has issued. -/
structure KvCopy where
  cmd : CmdId
  ctx : Nat
  orig : Nat
  new : Nat
  op : Option Nat := none
  /-- the copy operation's descriptor, and its place in the order of admissions (R197) -/
  desc : Desc := 0
  admSeq : Nat := 0
  /-- it has been passed over in the present frame, and in how many consecutive frames before it (R391) -/
  passedNow : Bool := false
  passed : Nat := 0
  deriving DecidableEq, Repr

/-- A partition's KV pool (R186 to R188): geometry, data pages from a VPN on, and the physical pages of its private
store. -/
structure KvPool where
  heads : Nat
  dim : Nat
  fmt : Nat
  n : Nat
  vpn : Nat
  pages : Nat
  priv : List Nat
  key : BitVec 128
  blocks : Tab KvBlock := []
  copies : List KvCopy := []
  deriving DecidableEq, Repr

/-! ### Special-function stores -/

/-- What waits to change a slot, in consumption order (R229): a checked image with the command that loads it, or an
unload. -/
inductive SlotAct where
  | load (cmd : CmdId) (image : List Byte)
  | unload (cmd : CmdId)
  deriving DecidableEq, Repr

/-- The command of a waiting change. -/
def SlotAct.cmd : SlotAct → CmdId
  | .load c _ => c
  | .unload c => c

/-- A waiting change is a load. -/
def SlotAct.isLoad : SlotAct → Bool
  | .load .. => true
  | .unload _ => false

/-- A table or program slot of a partition, the same in every tiller of it (R210, R211): two halves, which is active,
whether it is loaded, and what waits; `written`: the first waiting load has written the half that is not active. -/
structure SfuSlot where
  half0 : List Byte := []
  half1 : List Byte := []
  active : Bool := false
  loaded : Bool := false
  acts : List SlotAct := []
  written : Bool := false
  deriving DecidableEq, Repr

/-! ### Management -/

/-- An event-log record without its CHECK (R424). -/
structure LogRec where
  seq : BitVec 32
  frame : FrameNo
  uptime : BitVec 40
  sev : Sev
  event : BitVec 16
  reason : Reason
  part : Option (Nat × Nat)
  data : W64
  deriving DecidableEq, Repr

/-- Update states (R414, Table 15-4). -/
inductive FwState where
  | idle | receiving | verifying | staged | activating
  deriving DecidableEq, Repr

/-- The 3-bit code of an update state (Table 15-12). -/
def FwState.code : FwState → Nat
  | .idle => 0 | .receiving => 1 | .verifying => 2 | .staged => 3 | .activating => 4

/-- A firmware image: the fields of its header and its body (R411, Table 15-3). The default is a release image, signed with
the key of slot 0 (log entry 135). -/
structure FwImage where
  magic : BitVec 32 := 0x4B534843
  headerLen : BitVec 16 := 512
  level : BitVec 8 := 7
  keySlot : BitVec 2 := 0
  revoke : BitVec 4 := 0
  major : BitVec 8 := 3
  minor : BitVec 8 := 2
  build : BitVec 16 := 0
  svn : BitVec 6 := 0
  /-- a reserved bit of the header is set -/
  reserved : Bool := false
  bodyLen : BitVec 32 := 0
  digest : Nat := 0x5BB99848F1D21AD5FB656FE7BFDE4E27DAE1F663BFC70C4C4307BE1411B7FD216AE3B1B17E32D94C3896AC51A760B038
  /-- the 97 bytes of the point, the first in the low bits -/
  publicKey : Nat := 0x4A33AC50DCA6DB3D9477AF0ED0CEC8F120E6B27A2519C653F7B6E8B33D3ECA2D6007CEA2EC5483189745BFC145B7BE08DBAC5750BE2261792F1817EDECF5FB9C78764171AD5CC5E39C720DF0E9390ACE1AD08A2C3C3E0C7267AD6FDE9A4A27B704
  sigR : Nat := 0xD17FB7B48C27708365263BCAA998DF4913A1C2C575537E2C45B327EA3EAC211F1C6CD725818227EF634F0479215C4A9
  sigS : Nat := 0xCA2CDF3600716073AD886D2704D93DF85B543E36927E0501E78D8F0072DF26B3EF3BA64E6267A66E430E4DCFF8E8EF2A
  body : List Byte := []
  deriving DecidableEq, Repr

/-- Why an image is not valid: the check of R413 that failed. -/
inductive FwCheck where
  | c1 | c2 | c3 | c4 | c5
  deriving DecidableEq, Repr

/-- Stages of a firmware activation (R416). -/
inductive ActStage where
  | none | loading | restoring
  deriving DecidableEq, Repr

/-- DFU states and statuses (R432, R435). -/
inductive DfuState where
  | idle | dnload | manifest | error
  deriving DecidableEq, Repr

/-- DFU status values (R435). -/
inductive DfuStatus where
  | ok | errFile | errVerify | errVendor | errAddress
  deriving DecidableEq, Repr

/-- A management complex (R407, R419, R420). -/
structure Complex where
  running : Bool := false
  count : Nat := 0
  /-- frames of past expiries within 2^20 frames -/
  expiries : List FrameNo := []
  held : Bool := false
  deriving DecidableEq, Repr

/-- One sensor (R423). -/
structure Sensor where
  value : BitVec 16 := 0
  min : BitVec 16 := 0
  max : BitVec 16 := 0
  valid : Bool := false
  stale : Bool := false
  failed : Bool := false
  /-- minimum and maximum are cleared: the next reading sets them -/
  cleared : Bool := true
  /-- readings missed in a row (R423) -/
  missed : Nat := 0
  deriving DecidableEq, Repr

/-- An SMBus segment (R426 to R429). -/
structure Segment where
  stuck : Bool := false
  deriving DecidableEq, Repr

/-- Flash: boot records, banks, configuration and the programmed log (R410, R425, R434). -/
structure Flash where
  seq0 : BitVec 32 := 1
  bank0 : Bool := false
  ok0 : Bool := true
  seq1 : BitVec 32 := 0
  bank1 : Bool := false
  ok1 : Bool := false
  bankA : Option FwImage := some {}
  bankB : Option FwImage := none
  sheaf : BitVec 16 := 0
  pref : BitVec 8 := 0
  smbt : BitVec 8 := 0x5C
  uart : BitVec 8 := 0
  segments : List Byte := []
  log : List LogRec := []
  deriving DecidableEq, Repr

/-- The management subsystem. -/
structure Mgt where
  activeE : Bool := false
  standbyOk : Bool := false
  recovery : Bool := false
  bootBank : Bool := false
  fw : FwState := .idle
  failovers : BitVec 16 := 0
  dieW : Complex := {}
  dieE : Complex := {}
  running : FwImage := {}
  booted : Bool := false
  /-- the staging transfer: its command, or a DFU download, and the bytes received -/
  stageCmd : Option CmdId := none
  /-- the bytes of an image being staged or downloaded -/
  stageData : List Byte := []
  dfu : DfuState := .idle
  dfuStatus : DfuStatus := .ok
  dfuBlock : Nat := 0
  act : ActStage := .none
  actCmd : Option CmdId := none
  actCommit : Bool := false
  actFails : BitVec 8 := 0
  actDone : Bool := false
  actFrame : BitVec 32 := 0
  lastReason : Reason := .none
  /-- control flits held between the stop and the resumption of an activation (R417) -/
  inbound : List (Nat × Msg) := []
  /-- flits discarded because that queue was full -/
  inboundLost : Nat := 0
  sensors : Tab Sensor := []
  /-- event log: records in SRAM not yet programmed; next SEQ; records per EVENT code this frame (R425) -/
  sram : List LogRec := []
  nextLog : BitVec 32 := 0
  perFrame : Tab Nat := []
  unacked : Nat := 0
  alertLow : Bool := false
  /-- configuration as latched at the last cold-reset boot (R445) -/
  latchedPref : BitVec 8 := 0
  latchedSheaf : BitVec 16 := 0
  latchedSmbt : BitVec 8 := 0x5C
  latchedUart : BitVec 8 := 0
  latchedSegments : List Byte := []
  smb : Tab Segment := []
  smbtResult : BitVec 2 := 0
  usb : Bool := false
  /-- data that follows a completion entry on bulk IN, by the command's consumption number (R433) -/
  usbData : List (Nat × List Byte) := []
  /-- the active complex has failed: the standby takes over at the next commit instant (R420) -/
  failoverDue : Bool := false
  deriving DecidableEq, Repr

/-! ### Power sequencing, resets, HBM and test -/

/-- Where the power sequencer and bring-up stand (R442, R449). -/
inductive BringUp where
  | unpowered | off | sequencing | coldReset | selfTest | running
  deriving DecidableEq, Repr

/-- An HBM controller (R453 to R456). -/
structure Hbm where
  trained : Bool := false
  failed : Bool := false
  /-- pseudo-channel of the next retraining step, steps left of a full re-training, refresh due -/
  turn : BitVec 5 := 0
  full : BitVec 6 := 0
  refreshDue : Option (BitVec 5) := none
  deriving DecidableEq, Repr

/-- What drives the digital lands and, for the two 1149.6 instructions, the lanes: the package itself, the boundary
register, its values as pulses or as pulse trains on the lanes, or nothing (R460). -/
inductive LandDrive where
  | functional
  | held (bits : List Bool)
  | pulse (bits : List Bool)
  | train (bits : List Bool)
  | highZ
  deriving DecidableEq, Repr

/-- The always-on block and the test logic (R441 to R465). -/
structure Por where
  vddAon : Bool := true
  sysRst : Bool := false
  warmRst : Bool := false
  bring : BringUp := .off
  enables : BitVec 6 := 0
  pgood : BitVec 6 := 0
  retryWait : Bool := false
  /-- left off after three faults until SYS_RST_N falls and rises (R442) -/
  lockedOff : Bool := false
  warmActive : Bool := false
  cause : BitVec 4 := 0
  faultGroup : BitVec 3 := 0
  tripTemp : BitVec 8 := 0
  tripSensor : BitVec 6 := 0
  faults : BitVec 2 := 0
  tripAsserted : Bool := false
  testEn : Bool := false
  selfTested : Bool := false
  hbmTested : Bool := false
  hbm : Tab Hbm := []
  /-- corrected errors per page (R456) -/
  corrected : Tab (BitVec 13) := []
  nodes : Tab (BitVec 8) := []
  land : BitVec 4 := 0
  atbJtag : Bool := false
  /-- lane selected on each bus (R463) -/
  busLane : Tab (BitVec 3) := []
  jtag : BitVec 8 := 0x01
  /-- SCAN_MODE is loaded and in force; leaving it otherwise than by a cold reset leaves an undefined state (R461) -/
  scan : Bool := false
  /-- SCAN_MODE was left: the state is undefined until the next cold reset (R461) -/
  lost : Bool := false
  /-- what the boundary register holds, in the order of the BSDL file (R460) -/
  boundary : List Bool := []
  /-- pages to be repaired at the cold reset in progress, and those whose rows it has repaired (R456) -/
  repairDue : List Nat := []
  repaired : List Nat := []
  /-- what the latest self-test found bad: engines, ports, planners by die (R457, R458) -/
  engFail : BitVec 17 := 0
  portFail : BitVec 16 := 0
  plnFail : BitVec 2 := 0
  deriving DecidableEq, Repr

/-- Fuses and strap lands, which no reset changes (R3, R50, R332, R412, R461, R470). -/
structure Fuses where
  grade : Grade := .vla114
  serial : W64 := 1
  /-- SHA-384 of the public key of each slot, its first byte in the low bits (R412) -/
  keys : List Nat := [0x6BAC69F863C2E1AC180AB68D0C781469A69CF752468C3CABB3D37D5617FB2CCC10B598EFA203FBE8401039CB98BCEC4B, 0, 0, 0]
  revoked : BitVec 4 := 0
  v : BitVec 6 := 0
  scanIntact : Bool := false
  /-- core setpoints V_SET of the dies in mV (R470) -/
  vsetW : BitVec 10 := 750
  vsetE : BitVec 10 := 750
  landX : BitVec 3 := 0
  landY : BitVec 2 := 0
  landZ : BitVec 2 := 0
  landTestEn : Bool := false
  deriving DecidableEq, Repr

end Sys2Proof.Machine
end

