-- ==== Sys2Proof/Syntax.lean ====
section
/-! DEFINITION. The commands and events of the package, one constructor per row of spec/opcode_table.json, in the
table's order. A mailbox command carries the mailbox it was consumed from (0 PF0, n VFn, 17 the service mailbox) and its
entry; an event carries what the world outside decides: what was received, measured or trained. -/

namespace Sys2Proof

open Sys2Proof.Machine

/-- A command or event of the package. -/
inductive Instr where
  /-- DEV_INFO (R105): Command that returns the interface level, firmware release, grade, function, link width and speed, and partition state. -/
  | devInfo (m : Fin 18) (e : Entry)
  /-- FRAME_QUERY (R67): Command that returns FRM.COUNT, FRM.SYNC, FRM.CONFIG and, on a VF, FRM.STATUS without clearing it. -/
  | frameQuery (m : Fin 18) (e : Entry)
  /-- FRAME_SET_PERIOD (R62): Command on the master that proposes a change of frame period and slack to every package. -/
  | frameSetPeriod (m : Fin 18) (e : Entry)
  /-- FRAME_SET_OVERRUN_LIMIT (R67): Command that sets a partition's overrun limit from the next commit instant. -/
  | frameSetOverrunLimit (m : Fin 18) (e : Entry)
  /-- FRAME_SET_PREFERENCE (R67): Command that stores the master preference in FRM.CONFIG and in flash for the next election. -/
  | frameSetPreference (m : Fin 18) (e : Entry)
  /-- JOB_SUBMIT (R161): Command that checks a descriptor list and passes the job to admission. -/
  | jobSubmit (m : Fin 18) (e : Entry)
  /-- JOB_ABORT (R97): Command that aborts a job at its commit point, or removes it at once if it is not yet admitted. -/
  | jobAbort (m : Fin 18) (e : Entry)
  /-- JOB_QUERY (R105): Command that returns a ticket's state, its deferral position, its estimated admission frame and its admission frame. -/
  | jobQuery (m : Fin 18) (e : Entry)
  /-- ADM_SET (R105): Command that sets the package rate A, or a partition's guaranteed rate and weight, from the next admission pass. -/
  | admSet (m : Fin 18) (e : Entry)
  /-- ADM_QUERY (R105): Command that returns bucket balance, pool balance, deferral list length, g, weight and refusal counts. -/
  | admQuery (m : Fin 18) (e : Entry)
  /-- PART_CREATE (R360): Command that checks and creates a partition from rows, quota, link shares and energy share. -/
  | partCreate (m : Fin 18) (e : Entry)
  /-- PART_START (R362): Command that makes a CREATED partition RUNNING at the next commit instant. -/
  | partStart (m : Fin 18) (e : Entry)
  /-- PART_FENCE (R363): Command that stops issue in a RUNNING partition and makes it FENCED once in-flight operations retire. -/
  | partFence (m : Fin 18) (e : Entry)
  /-- PART_RESUME (R364): Command that makes a FENCED partition RUNNING at the next commit instant. -/
  | partResume (m : Fin 18) (e : Entry)
  /-- PART_RESET (R366): Command that aborts all work of a partition and returns it to CREATED. -/
  | partReset (m : Fin 18) (e : Entry)
  /-- PART_TEARDOWN (R367): Command that kills every context of a partition, releases its resources and makes it ABSENT. -/
  | partTeardown (m : Fin 18) (e : Entry)
  /-- PART_QUERY (R382): Command that returns a partition's state, rows, quota, shares, energy share, contexts and fault code. -/
  | partQuery (m : Fin 18) (e : Entry)
  /-- SPAN_CREATE (R370): Command that creates a FORMING span with its member list and ring order. -/
  | spanCreate (m : Fin 18) (e : Entry)
  /-- SPAN_JOIN (R370): Command by which a listed package joins a FORMING span and sends a join flit to the creator. -/
  | spanJoin (m : Fin 18) (e : Entry)
  /-- SPAN_LEAVE (R372): Command that ends this package's membership of a span at the next commit instant. -/
  | spanLeave (m : Fin 18) (e : Entry)
  /-- SPAN_DESTROY (R372): Command on the acting lead that sends a span-end notice to every member. -/
  | spanDestroy (m : Fin 18) (e : Entry)
  /-- SPAN_QUERY (R382): Command that returns a span's state, members, acting lead, ρ, ring neighbours and optionally its ring list. -/
  | spanQuery (m : Fin 18) (e : Entry)
  /-- CTX_CREATE (R131): Command that makes a named or the lowest FREE context LIVE and returns its tag. -/
  | ctxCreate (m : Fin 18) (e : Entry)
  /-- CTX_DESTROY (R131): Command that frees a context's private pages and windows by shootdown and makes it FREE. -/
  | ctxDestroy (m : Fin 18) (e : Entry)
  /-- CTX_KILL (R131): Command that starts a HOST_KILL kill of a context and completes when it is DEAD. -/
  | ctxKill (m : Fin 18) (e : Entry)
  /-- CTX_QUERY (R131): Command that returns a context's state, cause, pages, windows, tickets and unreached members. -/
  | ctxQuery (m : Fin 18) (e : Entry)
  /-- CTX_POSTMORTEM (R127): Command that returns the fault record of a KILLING or DEAD context. -/
  | ctxPostmortem (m : Fin 18) (e : Entry)
  /-- CTX_POSTMORTEM_ADOPT (R128): Postmortem with ADOPT set, which hands a dead context's private pages and windows read-only to a LIVE context by shootdown. -/
  | ctxPostmortemAdopt (m : Fin 18) (e : Entry)
  /-- MEM_ALLOC (R131): Command that maps a run of FREE device pages at consecutive VPNs, all or nothing. -/
  | memAlloc (m : Fin 18) (e : Entry)
  /-- MEM_FREE (R131): Command that unmaps a page range by shootdown and then scrubs it. -/
  | memFree (m : Fin 18) (e : Entry)
  /-- MEM_MAP_HOST (R131): Command that writes a host window entry. -/
  | memMapHost (m : Fin 18) (e : Entry)
  /-- MEM_UNMAP_HOST (R131): Command that invalidates a host window entry by shootdown. -/
  | memUnmapHost (m : Fin 18) (e : Entry)
  /-- MEM_QUERY (R131): Command that returns a page entry, a window entry or a summary of the partition's memory. -/
  | memQuery (m : Fin 18) (e : Entry)
  /-- BOUND_SET (R141): Command that writes up to 13 bound registers. -/
  | boundSet (m : Fin 18) (e : Entry)
  /-- BOUND_GET (R161): Command that returns up to 5 bound registers. -/
  | boundGet (m : Fin 18) (e : Entry)
  /-- KV_ALLOC_POOL (R186): KV.ALLOC in mode POOL, which creates the partition's KV pool and its private pages. -/
  | kvAllocPool (m : Fin 18) (e : Entry)
  /-- KV_ALLOC_FRESH (R209): KV.ALLOC in mode FRESH, which takes FREE blocks, reclaiming if needed, and writes their references. -/
  | kvAllocFresh (m : Fin 18) (e : Entry)
  /-- KV_ALLOC_SHARE (R193): KV.ALLOC in mode SHARE, which adds a holding to a block and, for a tree block, to its ancestors. -/
  | kvAllocShare (m : Fin 18) (e : Entry)
  /-- KV_ALLOC_WRITE (R196): KV.ALLOC in mode WRITE, which returns a writable block, starting a copy on write if needed. -/
  | kvAllocWrite (m : Fin 18) (e : Entry)
  /-- KV_RELEASE (R193): Command that removes one holding from a block, or from a chain with CHAIN set. -/
  | kvRelease (m : Fin 18) (e : Entry)
  /-- KV_RELEASE_POOL (R209): KV.RELEASE with POOL set, which destroys the pool when every block is FREE or CACHED. -/
  | kvReleasePool (m : Fin 18) (e : Entry)
  /-- KV_INSERT (R202): Command that digests a PRIVATE block and publishes it in the prefix tree unless a match exists. -/
  | kvInsert (m : Fin 18) (e : Entry)
  /-- KV_LOOKUP (R203): Command that walks a token list through the prefix tree and returns the deepest match. -/
  | kvLookup (m : Fin 18) (e : Entry)
  /-- KV_EVICT_SUBTREE (R206): KV.EVICT mode Subtree, which evicts every evictable block in a named block's subtree. -/
  | kvEvictSubtree (m : Fin 18) (e : Entry)
  /-- KV_EVICT_OLDEST (R206): KV.EVICT mode Oldest, which evicts up to n evictable blocks by oldest last-use frame. -/
  | kvEvictOldest (m : Fin 18) (e : Entry)
  /-- KV_EVICT_ALL (R206): KV.EVICT mode All, which evicts every block that is or becomes evictable. -/
  | kvEvictAll (m : Fin 18) (e : Entry)
  /-- KV_QUERY (R209): Command that returns a pool summary or one block's state, count, generation and tree place. -/
  | kvQuery (m : Fin 18) (e : Entry)
  /-- SFU_LOAD_TABLE (R228): Command that reads and checks a table image for one table slot in every tiller of the partition. -/
  | sfuLoadTable (m : Fin 18) (e : Entry)
  /-- SFU_UNLOAD_TABLE (R229): Command that empties a table or program slot at the next commit instant. -/
  | sfuUnloadTable (m : Fin 18) (e : Entry)
  /-- SFU_LOAD_PROGRAM (R228): Command that reads and checks a micro-program image for one program slot. -/
  | sfuLoadProgram (m : Fin 18) (e : Entry)
  /-- SFU_QUERY (R232): Command that returns slot states and checksums, or writes a built-in image to memory. -/
  | sfuQuery (m : Fin 18) (e : Entry)
  /-- FLOW_DECLARE (R238): Command that forwards a flow declaration to the span lead for entry in the flow table. -/
  | flowDeclare (m : Fin 18) (e : Entry)
  /-- FLOW_WITHDRAW (R264): Command that removes a flow's cells and occurrences in uncommitted frames from the next pass. -/
  | flowWithdraw (m : Fin 18) (e : Entry)
  /-- FLOW_QUERY (R264): Command answered by the lead with a flow's state and placement, or a table summary. -/
  | flowQuery (m : Fin 18) (e : Entry)
  /-- GROUP_DEFINE (R268): Command that validates a group member, reserves its engine store, declares its tree flows and reports ready when they are placed. -/
  | groupDefine (m : Fin 18) (e : Entry)
  /-- GROUP_RELEASE (R298): Command that withdraws a member's group flows, frees its entry and notifies the others of its loss. -/
  | groupRelease (m : Fin 18) (e : Entry)
  /-- GROUP_QUERY (R298): Command that returns a group's state, rank, round, lost mask and engines. -/
  | groupQuery (m : Fin 18) (e : Entry)
  /-- COMMQ_CREATE (R284): Command that creates a communication queue bound to a group with its completion ring. -/
  | commqCreate (m : Fin 18) (e : Entry)
  /-- COMMQ_DESTROY (R298): Command that frees an idle communication queue. -/
  | commqDestroy (m : Fin 18) (e : Entry)
  /-- PWR_SET_CAP_PACKAGE (R402): PWR.SET_CAP with package scope, which applies a new cap at frame f+2. -/
  | pwrSetCapPackage (m : Fin 18) (e : Entry)
  /-- PWR_SET_CAP_SHEAF (R402): PWR.SET_CAP with SHEAF set on the master, which sends CAP_SET to every package for an effective frame. -/
  | pwrSetCapSheaf (m : Fin 18) (e : Entry)
  /-- PWR_QUERY (R406): Command that returns cap, thermal, base-charge and per-partition credit registers. -/
  | pwrQuery (m : Fin 18) (e : Entry)
  /-- LINK_QUERY (R331): Command that returns a port's state, error counts, margins, latency and history. -/
  | linkQuery (m : Fin 18) (e : Entry)
  /-- LINK_RETRAIN_FAST (R331): LINK.RETRAIN with FULL = 0, which runs a fast retrain of the port. -/
  | linkRetrainFast (m : Fin 18) (e : Entry)
  /-- LINK_RETRAIN_FULL (R331): LINK.RETRAIN with FULL = 1, which runs port bring-up. -/
  | linkRetrainFull (m : Fin 18) (e : Entry)
  /-- LINK_RETIRE (R331): Command that treats named lanes or the port as a permanent fault and retires them. -/
  | linkRetire (m : Fin 18) (e : Entry)
  /-- SHEAF_QUERY (R357): Command that returns election, reachability, route or outer-port information. -/
  | sheafQuery (m : Fin 18) (e : Entry)
  /-- FW_STAGE (R415): Command that erases the inactive bank, writes an image from host memory into it and verifies it. -/
  | fwStage (m : Fin 18) (e : Entry)
  /-- FW_ACTIVATE (R416): Command that starts the staged image on the standby complex and hands service over to it. -/
  | fwActivate (m : Fin 18) (e : Entry)
  /-- FW_QUERY (R440): Command that returns update state, bank versions, anti-rollback value and the last activation result. -/
  | fwQuery (m : Fin 18) (e : Entry)
  /-- LOG_READ (R440): Command that writes event-log records in SEQ order to host memory. -/
  | logRead (m : Fin 18) (e : Entry)
  /-- SENS_READ (R440): Command that returns up to five sensor values with minimum, maximum and validity, optionally clearing extremes. -/
  | sensRead (m : Fin 18) (e : Entry)
  /-- ATB_SELECT (R465): Command that connects a node, and optionally the land, to an analogue test bus. -/
  | atbSelect (m : Fin 18) (e : Entry)
  /-- ATB_SAMPLE (R465): Command that takes ADC samples of a bus and returns mean, minimum and maximum. -/
  | atbSample (m : Fin 18) (e : Entry)
  /-- TEST_MBIST (R465): Command that self-tests free rows and optionally FREE HBM pages, with or without repair. -/
  | testMbist (m : Fin 18) (e : Entry)
  /-- MBX_RING_CFG_WRITE (R77): Write to MBX.RING_CFG that enables a mailbox by latching bases and sizes, or enters BAD_CONFIG. -/
  | mbxRingCfgWrite (fn : Fin 17) (v : W64)
  /-- DOORBELL (R78): Write to MBX.CMD_TAIL that gives the device new command slots, or enters BAD_DOORBELL. -/
  | doorbell (fn : Fin 17) (v : W64)
  /-- MBX_CPL_HEAD_WRITE (R79): Write to MBX.CPL_HEAD that returns completion entries to the device, or enters BAD_CPL_HEAD. -/
  | mbxCplHeadWrite (fn : Fin 17) (v : W64)
  /-- MAILBOX_RESET (R101): Write of 1 to MBX.CTRL.RESET that ends deferred commands, aborts admitted jobs and discards staging. -/
  | mailboxReset (fn : Fin 17)
  /-- RED_CQ_HEAD_WRITE (R286): Write to RED.CQ.HEAD that returns reduction completion entries. -/
  | redCqHeadWrite (p : Fin 16) (q : Fin 16) (v : W64)
  /-- SLACK_LATE_CLEAR (R66): Write of 1 to FRM.STATUS.SLACK_LATE that clears it. -/
  | slackLateClear (p : Fin 16)
  /-- READ_CLEAR (R13): Read of a register with RC fields, which returns and clears those fields. -/
  | readClear (fn : Fin 17) (off : BitVec 32)
  /-- REGISTER_WRITE (R10): Write to a register without behaviour of its own, taking effect on RW fields and ignored elsewhere. -/
  | registerWrite (fn : Fin 17) (off : BitVec 32) (v : W64)
  /-- UNSUPPORTED_REQUEST (R73): Host access to an unimplemented BAR offset, completed or logged as Unsupported Request. -/
  | unsupportedRequest (fn : Fin 17) (off : BitVec 32) (write : Bool)
  /-- NUMVFS_WRITE (R71): Host setting of NumVFs, which creates VFs or resets removed ones by function-level reset. -/
  | numvfsWrite (n : BitVec 5)
  /-- ATS_ENABLE_WRITE (R115): Change of ATS Enable, which takes effect for each window at its next cache fill. -/
  | atsEnableWrite (fn : Fin 17) (on : Bool)
  /-- MSIX_UNMASK (R100): Unmasking of MSI-X vectors, which sends pending vectors in ascending number. -/
  | msixUnmask (fn : Fin 17) (enable : Bool) (vectors : List Nat)
  /-- FUNCTION_LEVEL_RESET (R444): FLR of a function, clearing its configuration, MSI-X table and ATS Enable and resetting its mailbox. -/
  | functionLevelReset (fn : Fin 17)
  /-- PERST_ASSERT (R444): PERST_N low, which resets the PCIE domain, sets NumVFs to 0 and resets every mailbox. -/
  | perstAssert
  /-- PERST_RELEASE (R444): PERST_N high, after which the link trains and answers with Retry Status until boot completes. -/
  | perstRelease (width : BitVec 5) (speed : BitVec 3)
  /-- PCIE_LINK_RETRY (R72): Expiry of the 100 ms timer after a failed link training, which returns the LTSSM to Detect. -/
  | pcieLinkRetry (width : BitVec 5) (speed : BitVec 3)
  /-- PCIE_ERROR (R74): Endpoint error on a TLP, reported through AER and affecting the mailbox or the job it hit. -/
  | pcieError (fn : Fin 17) (err : PcieErr)
  /-- COMMAND_FETCH (R69): Choesk consumption of a command from a mailbox ring in rotation, when staging can reserve three records. -/
  | commandFetch
  /-- COMPLETION_WRITE (R81): Writing of staged records to the completion ring when the ring has room. -/
  | completionWrite (m : Fin 18)
  /-- IRQ_AGE_EXPIRY (R100): Expiry of the FRAMES age threshold on the oldest unsignalled record, which fires the completion vector. -/
  | irqAgeExpiry (fn : Fin 17)
  /-- MAILBOX_RESET_DONE (R101): Completion of a mailbox reset when the last in-flight operation of its jobs retires. -/
  | mailboxResetDone (fn : Fin 17)
  /-- MAILBOX_RESET_WATCHDOG (R102): Expiry of 1,024 frames with RESET_BUSY set, which kills the VF partition's contexts with WATCHDOG. -/
  | mailboxResetWatchdog (fn : Fin 17)
  /-- COMMIT_INSTANT (R39): Frame tick that advances the counter, evaluates overrun, switches plans, loads credit and opens issue. -/
  | commitInstant
  /-- PLAN_COMMIT (R249): Commitment of the best-so-far plan at the planning deadline, cutting unfinished flows. -/
  | planCommit
  /-- PLAN_RECORD_SEND (R251): Sending of plan records for a frame to every member at F−1+0.25 µs. -/
  | planRecordSend
  /-- PLAN_RECORD_RECEIVE (R251): Receipt of a plan record, kept if its CRC, timing, REBASE and LEAD are right. -/
  | planRecordReceive (r : PlanRecord) (good : Bool)
  /-- SLACK_START (R41): Start of the frame's slack, where admission, record loading, health and thermal evaluation and retraining run. -/
  | slackStart
  /-- MARKER_RECEIVE (R55): Receipt of a frame marker on the parent port, trimming frequency and phase and updating sync state. -/
  | markerReceive (port : Fin 12) (k : Marker) (arrival : Int)
  /-- ROUTED_MARKER_RECEIVE (R349): Receipt of a marker by a routed path, taken for its fields but not for phase. -/
  | routedMarkerReceive (src : Fin 128) (k : Marker)
  /-- MARKER_TIMEOUT (R56): Absence of a marker by own commit + 2 µs, which moves a LOCKED package to HOLDOVER. -/
  | markerTimeout
  /-- HOLDOVER_EXPIRY (R56): Expiry of 64 frames of HOLDOVER, which moves the package to UNSYNC. -/
  | holdoverExpiry
  /-- DEPUTY_TAKEOVER (R58): Takeover by the deputy as master after markers for two frames are missing. -/
  | deputyTakeover
  /-- FULL_REELECTION (R60): Start of a full election after 8 frames without markers. -/
  | fullReelection
  /-- PERIOD_PROPOSAL_RECEIVE (R62): Receipt of a period change proposal from the master. -/
  | periodProposalReceive (period : BitVec 3) (slack : BitVec 2)
  /-- PERIOD_CHANGE_ACKNOWLEDGE (R62): Acknowledgement of a proposal once no partition is RUNNING or TEARING_DOWN, deferring later starts. -/
  | periodChangeAcknowledge
  /-- PERIOD_ACK_RECEIVE (R62): Receipt of an acknowledgement by the master, which announces CHANGE_PENDING when all have acknowledged. -/
  | periodAckReceive (pkg : Fin 128)
  /-- PERIOD_CHANGE_ABANDON (R62): Expiry of 64 frames without every acknowledgement, which abandons the change. -/
  | periodChangeAbandon
  /-- OVERRUN_NOTICE_RECEIVE (R257): Receipt of an overrun notice by a span lead. -/
  | overrunNoticeReceive (span : BitVec 16) (frame : FrameNo) (pkg : Fin 128)
  /-- SPAN_HOLD_RECEIVE (R257): Receipt of a span-hold flit by a member, which holds in the named frames. -/
  | spanHoldReceive (span : BitVec 16) (h : FrameNo) (rho : BitVec 32)
  /-- FLOW_DECLARATION_RECEIVE (R238): Receipt of a forwarded flow declaration by the lead, which enters it in the flow table. -/
  | flowDeclarationReceive (d : Declared) (pkg : Fin 128)
  /-- HEALTH_NOTICE_RECEIVE (R260): Receipt by a lead of a port health or width change, releasing cells on unusable directions. -/
  | healthNoticeReceive (frame : FrameNo) (port : Fin 16) (health : BitVec 2) (width : BitVec 2) (pkg : Fin 128)
  /-- PLANNER_TAKEOVER (R261): Switch to the standby planner at the next pass start after the active planner faults. -/
  | plannerTakeover
  /-- CELL_WINDOW (R252): Opening of a slot window, where the port sends an originating, forwarded, hold or empty cell. -/
  | cellWindow (port : Fin 12) (slot : BitVec 12)
  /-- BEACON_ROUND (R338): Round timer that sends beacons and outer hellos and recomputes the distance table. -/
  | beaconRound
  /-- BEACON_RECEIVE (R339): Receipt of a beacon that updates keys, distances and the wiring check. -/
  | beaconReceive (port : Fin 16) (b : Beacon)
  /-- DUP_FLAG_CLEAR (R341): Expiry of 64 rounds without a duplicate event, which clears DUP for an identifier. -/
  | dupFlagClear (pkg : Fin 128)
  /-- KEY_EXPIRY (R339): Dropping of a key whose ORIGIN has not advanced for 32 rounds. -/
  | keyExpiry (pkg : Fin 128)
  /-- NEIGHBOUR_VECTOR_EXPIRY (R340): Lapse of a port's distance vector after 8 rounds without a beacon. -/
  | neighbourVectorExpiry (port : Fin 12)
  /-- ELECTION_CLOSE (R342): Closing of the election at the end of round 9, naming master and deputy and starting frame 0 at the master. -/
  | electionClose
  /-- DEPUTY_RENAME (R344): Naming of a new deputy by a new master at the end of the first round after takeover. -/
  | deputyRename
  /-- STANDALONE_REOPEN (R343): Reopening of the election by a STANDALONE package when a torus port becomes control-capable. -/
  | standaloneReopen
  /-- REACHABILITY_CHANGE (R352): Report that a package became unreachable or reachable after 4 consecutive rounds. -/
  | reachabilityChange (pkg : Fin 128)
  /-- LEAD_TAKEOVER_NOTICE_RECEIVE (R374): Receipt of a new lead's request, answered with the member's forwarded declarations and ρ. -/
  | leadTakeoverNoticeReceive (span : BitVec 16) (pkg : Fin 128)
  /-- LEAD_DECLARATION_REPLY_RECEIVE (R374): Receipt by a new lead of a member's declarations, entered in admission-sequence order. -/
  | leadDeclarationReplyReceive (span : BitVec 16) (rho : BitVec 32) (decls : List Declared) (pkg : Fin 128) (shares : BitVec 32)
  /-- DUAL_LEAD_RESOLVE (R374): Stepping down of the later acting lead on a record or notice from another acting lead. -/
  | dualLeadResolve (span : BitVec 16) (pkg : Fin 128)
  /-- CONTROL_FLIT_FORWARD (R347): Forwarding of a control flit in transit on the least-distance control-capable port, or its discard. -/
  | controlFlitForward (port : Fin 12)
  /-- OUTER_HELLO_RECEIVE (R353): Receipt of an outer hello, recording the far sheaf and computing the sheaf offset. -/
  | outerHelloReceive (port : Fin 16) (h : Hello) (arrival : Int)
  /-- CREDIT_DATA_SEND (R354): Sending of a CREDIT_DATA message once the credits held cover its length. -/
  | creditDataSend (o : Fin 4) (channel : BitVec 4) (bytes : List Byte)
  /-- CREDIT_DATA_RECEIVE (R354): Receipt of a CREDIT_DATA message into the outer port's buffer. -/
  | creditDataReceive (o : Fin 4) (channel : BitVec 4) (bytes : List Byte)
  /-- CREDIT_RETURN (R354): Return of freed credits when 8 are unreturned or 1 µs after the first. -/
  | creditReturn (o : Fin 4)
  /-- CREDIT_RETURN_RECEIVE (R354): Receipt of a credit-return notice, adding credits to the sender. -/
  | creditReturnReceive (o : Fin 4) (count : BitVec 7)
  /-- SHEAF_STATUS_SEND (R355): Sending of the sheaf status message on outer ports every 1,024 frames. -/
  | sheafStatusSend
  /-- ALIGNMENT_MARKER_RECEIVE (R306): Receipt of an alignment marker on a lane, advancing its lock machine. -/
  | alignmentMarkerReceive (port : Fin 16) (lane : Fin 8) (raw : BitVec 128) (between : List Byte) (skew : Nat)
  /-- PORT_BRINGUP (R309): Port bring-up through training, lock, deskew and latency measurement to UP. -/
  | portBringup (port : Fin 16) (order : List (BitVec 3)) (stamps : List (BitVec 16)) (margins : List (BitVec 12))
  /-- BRINGUP_TIMEOUT (R309): Failure to reach UP within 600 ms, which restarts bring-up and logs LINK_DOWN. -/
  | bringupTimeout (port : Fin 16)
  /-- FLIT_RECEIVE (R315): Receipt of a flit, accepted if its CRC and SEQ are good, with acknowledgement and forwarding. -/
  | flitReceive (port : Fin 16) (head : BitVec 96) (payload : BitVec 1920) (crc : BitVec 32) (said : Said)
  /-- NAK_RECEIVE (R316): Receipt of a NAK, which replays the buffer from the oldest unacknowledged flit. -/
  | nakReceive (port : Fin 16) (seq : BitVec 12)
  /-- NAK_RESEND (R316): Sending of another NAK 2 µs after the first if the expected flit has not arrived. -/
  | nakResend (port : Fin 16)
  /-- REPLAY_TIMEOUT (R316): Absence of acknowledgement progress for 2 µs, which replays the buffer. -/
  | replayTimeout (port : Fin 16)
  /-- FAST_RETRAIN (R320): Fast retrain with a marker train, withdrawing control flits to the alternate path. -/
  | fastRetrain (port : Fin 16)
  /-- TRAIN_RECEIVE (R320): Receipt of train markers by a port not in a retrain, which starts its own within 1 µs. -/
  | trainReceive (port : Fin 16)
  /-- RETRAIN_END (R320): Result of a fast retrain at the far end's closing marker, resuming replay on success.
  `closed`: that marker came. -/
  | retrainEnd (port : Fin 16) (closed : Bool) (stamps : List (BitVec 16))
  /-- RETRAIN_RESTART (R320): Start of another fast retrain 20 µs after a failed one started. -/
  | retrainRestart (port : Fin 16)
  /-- BURST_START (R319): Start of a burst on uncorrectable codewords or lock loss, restoring and freezing adaptation. -/
  | burstStart (port : Fin 16)
  /-- BURST_END (R319): End of a burst after 10 µs without uncorrectable codewords, starting recalibration. -/
  | burstEnd (port : Fin 16) (dur : BitVec 32)
  /-- BURST_QUARANTINE (R322): Move of a port to QUARANTINE when a burst lasts more than 8 frames. -/
  | burstQuarantine (port : Fin 16)
  /-- RECALIBRATION_END (R321): End of the 4-frame recalibration, classifying the burst as transient or permanent. -/
  | recalibrationEnd (port : Fin 16) (margins : List (BitVec 12))
  /-- PROBATION_END (R321): End of the 64-frame probation of a port. -/
  | probationEnd (port : Fin 16)
  /-- STUCK_LANE (R322): Detection of a lane with no level transitions for 1 µs, a permanent fault. -/
  | stuckLane (port : Fin 16) (lane : Fin 8)
  /-- WIDTH_CHANGE (R325): Move to half width or retirement after a permanent fault, sending a WIDTH flit. -/
  | widthChange (port : Fin 16) (unsound : BitVec 8)
  /-- WIDTH_RECEIVE (R325): Receipt of a WIDTH flit, answered with the union of unsound lanes and a fast retrain. -/
  | widthReceive (port : Fin 16) (unsound : BitVec 8)
  /-- WIDTH_CHANGE_TIMEOUT (R325): Failure of both ends to agree within 64 frames, which retires the port. -/
  | widthChangeTimeout (port : Fin 16)
  /-- TXEQ_RECEIVE (R318): Receipt of a TXEQ request, applied at a codeword boundary. -/
  | txeqReceive (port : Fin 16) (lane : Fin 8) (up : Bool)
  /-- ADAPTATION_SNAPSHOT (R318): Copy of each lane's adaptation state into its history every 1 µs. -/
  | adaptationSnapshot (port : Fin 16) (margins : List (BitVec 12))
  /-- DOZE_REQUEST (R327): Sending of DOZE_REQ after 256 idle frames when the doze conditions hold. -/
  | dozeRequest (port : Fin 16)
  /-- DOZE_REQ_RECEIVE (R327): Receipt of DOZE_REQ, answered with DOZE_ACK if the conditions hold locally. -/
  | dozeReqReceive (port : Fin 16)
  /-- DOZE_ACK_RECEIVE (R328): Receipt of DOZE_ACK, committing the doze or completing a crossed wake. -/
  | dozeAckReceive (port : Fin 16)
  /-- WAKE_REQUEST (R328): Local wake request, which sends WAKE instead of or after DOZE_ACK. -/
  | wakeRequest (port : Fin 16)
  /-- WAKE_RECEIVE (R328): Receipt of WAKE, cancelling a doze or starting exit after commit. -/
  | wakeReceive (port : Fin 16)
  /-- DOZE_ENTRY (R329): Stopping of transmitters once the replay buffer is empty after commit. -/
  | dozeEntry (port : Fin 16)
  /-- WAKE_TIMEOUT (R329): Failure to be UP within 20 µs of a wake, which runs full bring-up. -/
  | wakeTimeout (port : Fin 16)
  /-- OPERATION_ISSUE (R390): Issue of a locked or the oldest fitting ready operation, taking a slot, charging credit and reading bounds. -/
  | operationIssue (die : Die)
  /-- OVERSIZE_ISSUE (R392): Issue of an oversize operation when nothing is in flight and the balance is non-negative. -/
  | oversizeIssue (die : Die) (p : Fin 16)
  /-- DESCRIPTOR_FETCH (R134): Fetch of a descriptor ahead of issue with its static checks. -/
  | descriptorFetch (p : Fin 16)
  /-- ENGINE_START (R395): Start of an issued operation on its engines once the stager grants its current. -/
  | engineStart (die : Die) (ns : Nat)
  /-- FILL_HOLD_EXPIRY (R396): End of a fill hold at the second commit instant after it began. -/
  | fillHoldExpiry (tiller : Fin 128)
  /-- FILL_RELEASE (R396): Release of an engine's fill within the die's decrease budget and charge of its energy. -/
  | fillRelease (die : Die) (ns : Nat) (cycles : Nat)
  /-- TILE_MULTIPLY (R143): Kind 0x01 operation computing C from A and B tiles. -/
  | tileMultiply (id : Nat)
  /-- ATTENTION_FORWARD (R167): Kind 0x02 forward block attention with running statistics and optional FINISH. -/
  | attentionForward (id : Nat)
  /-- BUCKET_SORT (R178): Kind 0x02 with SORT, which writes bucket lists and counts from a batch table. -/
  | bucketSort (id : Nat)
  /-- ATTENTION_BACKWARD (R176): Kind 0x03 PREP, DKV or DQ pass recomputing scores. -/
  | attentionBackward (id : Nat)
  /-- SPECIAL_FUNCTION_PASS (R225): Kind 0x04 pass evaluating a function element by element, plain or gated. -/
  | specialFunctionPass (id : Nat)
  /-- CIRCULATION_SEND (R259): Kind 0x05 gather of bytes into a flow's cells. -/
  | circulationSend (id : Nat)
  /-- CIRCULATION_RECEIVE (R259): Kind 0x06 scatter of a flow's bytes with handle pushes. -/
  | circulationReceive (id : Nat)
  /-- REDUCTION_EXPLICIT (R283): Kind 0x07 operation that enters a reduction in a communication queue. -/
  | reductionExplicit (id : Nat)
  /-- FUSED_MULTIPLY_REDUCE (R287): Kind 0x08 tile multiply whose output is staged and reduced. -/
  | fusedMultiplyReduce (id : Nat)
  /-- RESHARD_MOVE (R182): Kind 0x09 sending or receiving side of a reshard flow. -/
  | reshardMove (id : Nat)
  /-- COPY_DATA (R144): Kind 0x0A variant 0 copy of tiles from A to C. -/
  | copyData (id : Nat)
  /-- COPY_HANDLE_LOAD (R144): Kind 0x0A variant 1 that pushes handles from memory to a queue. -/
  | copyHandleLoad (id : Nat)
  /-- COPY_BOUND_LOAD (R144): Kind 0x0A variant 2 that writes a bound register at retirement. -/
  | copyBoundLoad (id : Nat)
  /-- COPY_ZERO_FILL (R144): Kind 0x0A variant 3 that writes zeros over C tiles. -/
  | copyZeroFill (id : Nat)
  /-- LAYER_FENCE (R158): Kind 0x0B fence over the whole partition on both dies. -/
  | layerFence (id : Nat)
  /-- HANDLE_POP (R151): Pop of a handle by a waiting operation once its queue holds one. -/
  | handlePop (id : Nat)
  /-- HANDLE_PUSH (R151): Push of a handle by a waiting operation once its queue has room. -/
  | handlePush (id : Nat)
  /-- OPERATION_RETIRE (R133): Retirement of an operation once its loops, writes and pushes are done, with settlement. -/
  | operationRetire (id : Nat)
  /-- STALL_WATCHDOG (R153): Expiry of 1,024 stalled frames, killing contexts with operations in flight with WATCHDOG. -/
  | stallWatchdog (p : Fin 16)
  /-- SFU_LOAD_WRITE (R228): Writing of a slot image into the target half once no in-flight operation has latched it. -/
  | sfuLoadWrite (p : Fin 16) (slot : Fin 16)
  /-- KILL_START (R124): Start of a context kill on a detected fault or Choesk action, stopping issue and in-flight operations. -/
  | killStart (r : FaultRec)
  /-- KILL_NOTICE_RECEIVE (R126): Receipt of a kill notice, killing the local member context with SPAN_PEER_KILLED. -/
  | killNoticeReceive (frame : FrameNo) (cause : BitVec 16) (origin : BitVec 7) (tag : BitVec 10) (span : BitVec 16)
  /-- KILL_COMPLETE (R124): Staging of KILLED records at the first slack start after operations stop and the record is complete. -/
  | killComplete (p : Fin 16) (c : Fin 64)
  /-- TRANSLATION_COMPLETION_RECEIVE (R114): Receipt of an ATS Translation Completion, cached or killing the context. -/
  | translationCompletionReceive (p : Fin 16) (req : Nat) (ok : Bool) (whole : Bool) (base : W64) (read : Bool) (write : Bool)
  /-- INVALIDATE_REQUEST_RECEIVE (R121): Receipt of an ATS Invalidate Request, dropping matching window entries. -/
  | invalidateRequestReceive (fn : Fin 17) (tag : Fin 32) (base : W64) (len : W64)
  /-- INVALIDATION_COMPLETE (R121): Sending of the Invalidation Completion once reads through dropped entries complete. -/
  | invalidationComplete (inv : Fin 17 × Fin 32)
  /-- SHOOTDOWN_ACKNOWLEDGE (R120): Acknowledgement of a shootdown by both caches once accesses through dropped entries complete. -/
  | shootdownAcknowledge (id : Nat)
  /-- PAGE_SCRUB_COMPLETE (R129): End of a page scrub, making it FREE. -/
  | pageScrubComplete (ppn : Fin 384)
  /-- PARTITION_FAULT (R365): Entry of a partition to FAULTED on an integrity failure, killing its contexts. -/
  | partitionFault (p : Fin 16) (code : BitVec 8)
  /-- TEARDOWN_RELEASE (R367): Release of groups, pool, pages, contexts, rows and shares once every context is DEAD. -/
  | teardownRelease (p : Fin 16)
  /-- JOIN_FLIT_RECEIVE (R370): Receipt of a join flit by a span creator, which activates the span when all have joined. -/
  | joinFlitReceive (span : BitVec 16) (pkg : Fin 128) (shares : BitVec 32)
  /-- SPAN_ACTIVE_RECEIVE (R370): Receipt of the span active flit, completing CREATE or JOIN. -/
  | spanActiveReceive (span : BitVec 16) (ring : List Nat)
  /-- SPAN_FORMING_TIMEOUT (R370): Expiry of 1,024 frames without the span becoming ACTIVE, freeing it. -/
  | spanFormingTimeout (span : BitVec 16)
  /-- SPAN_END_RECEIVE (R372): Receipt of a span-end notice, ending the membership at the next commit. -/
  | spanEndReceive (span : BitVec 16)
  /-- SPAN_DEAD_RECEIVE (R373): Receipt of a span-dead notice, killing the member context and acknowledging. -/
  | spanDeadReceive (span : BitVec 16) (pkg : Fin 128)
  /-- SPAN_DEAD_RESEND (R373): Resending of the span-dead notice every 1,024 frames to unacknowledged members. -/
  | spanDeadResend (span : BitVec 16) (acked : List Nat)
  /-- GROUP_READY_RECEIVE (R268): Receipt of a ready flit by the coordinator, sending active flits once all CRCs agree. -/
  | groupReadyReceive (span : BitVec 16) (num : BitVec 8) (pkg : Fin 128) (crc : BitVec 32)
  /-- GROUP_ACTIVE_RECEIVE (R268): Receipt of a group active flit, ending the member's define DONE. -/
  | groupActiveReceive (span : BitVec 16) (num : BitVec 8)
  /-- GROUP_DEFINE_TIMEOUT (R268): Expiry of 1,024 frames without the group becoming ACTIVE. -/
  | groupDefineTimeout (index : BitVec 8)
  /-- GROUP_LOSS_RECEIVE (R294): Receipt of a group-loss flit, marking the member lost and the group DEGRADED. -/
  | groupLossReceive (span : BitVec 16) (num : BitVec 8) (pkg : Fin 128) (killed : Bool)
  /-- REPAIR_ANNOUNCE_RECEIVE (R295): Receipt of the repair announcement by a survivor. -/
  | repairAnnounceReceive (span : BitVec 16) (num : BitVec 8) (round : BitVec 4) (lost : List (Nat × Bool)) (restart : FrameNo)
  /-- GROUP_REPAIR_TIMEOUT (R295): Expiry of 64 frames without every survivor ready, making the group FAILED. -/
  | groupRepairTimeout (index : BitVec 8)
  /-- REDUCTION_RESTART (R296): Restart of unrecorded reductions from chunk 0 at the restart frame. -/
  | reductionRestart (index : BitVec 8)
  /-- CHUNK_IMAGE_RECEIVE (R281): Receipt of a chunk image's cells, checked for round, residue and completeness. -/
  | chunkImageReceive (span : BitVec 16) (img : Image)
  /-- CHUNK_INTAKE (R282): Intake of a queue's own contribution chunk into the engine store once there is room. -/
  | chunkIntake (p : Fin 16) (q : Fin 16)
  /-- STAGING_BUFFER_TAKE (R288): Copy of a fused operation's staging buffer into the engine store once earlier chunks are taken in. -/
  | stagingBufferTake (p : Fin 16) (q : Fin 16)
  /-- THERMAL_SAMPLE (R398): Sampling of the 48 on-die thermal sensors every 8 µs. -/
  | thermalSample (temps : List (Option Int))
  /-- BASE_CHARGE_UPDATE (R386): Recomputation of the base charge every 64 frames from regulator readings. -/
  | baseChargeUpdate (eIn : Nat) (failed : Bool)
  /-- CAP_SET_RECEIVE (R402): Receipt of a CAP_SET flit, pending the cap for the effective frame and answering CAP_ACK. -/
  | capSetReceive (cap : BitVec 7) (frame : FrameNo) (pkg : Fin 128)
  /-- CAP_ACK_RECEIVE (R402): Receipt of a CAP_ACK by the master, completing a sheaf cap when all have acknowledged. -/
  | capAckReceive (cap : BitVec 7) (frame : FrameNo) (pkg : Fin 128)
  /-- SHEAF_CAP_TIMEOUT (R406): Expiry of 64 frames after the effective frame, ending a sheaf cap command. -/
  | sheafCapTimeout
  /-- POWER_ON_RESET (R442): VDD_AON becoming good, releasing the always-on block and starting rail sequencing. -/
  | powerOnReset
  /-- PGOOD_RISE (R442): Rise of a group's PGOOD, enabling the next group 1 ms later. -/
  | pgoodRise
  /-- PGOOD_TIMEOUT (R442): Failure of a PGOOD to rise within 20 ms, a sequence fault. -/
  | pgoodTimeout
  /-- PGOOD_FALL (R442): Fall of an enabled group's PGOOD, a sequence fault with cold reset and rails off. -/
  | pgoodFall (g : Fin 6)
  /-- SEQUENCE_RETRY (R442): Retry of rail sequencing 1 s after a fault, up to three consecutive faults. -/
  | sequenceRetry
  /-- SYS_RST_ASSERT (R480): Recognition of SYS_RST_N low, starting a cold reset. -/
  | sysRstAssert
  /-- SYS_RST_RELEASE (R442): SYS_RST_N high, starting rail sequencing. -/
  | sysRstRelease
  /-- WARM_RST_ASSERT (R444): Recognition of WARM_RST_N low, starting a warm reset. -/
  | warmRstAssert
  /-- FABRIC_REFCLK_LOSS (R477): Absence of fabric reference edges for 10 µs, a sequence fault. -/
  | fabricRefclkLoss
  /-- PCIE_REFCLK_LOSS (R477): Loss of the PCIe reference, taking the link down until it returns. -/
  | pcieRefclkLoss (lost : Bool)
  /-- COLD_RESET_RELEASE (R449): Release of cold reset at edge C, sampling straps and starting bring-up. -/
  | coldResetRelease
  /-- SELF_TEST_COMPLETE (R457): End of on-die self-test with soft repairs and unavailable structures. -/
  | selfTestComplete (rows : BitVec 16) (engines : BitVec 17) (ports : BitVec 16) (planners : BitVec 2) (complexes : BitVec 2)
  /-- HBM_TRAINING_COMPLETE (R453): End of HBM training on the stacks. -/
  | hbmTrainingComplete (failed : BitVec 8)
  /-- HBM_TEST_COMPLETE (R459): End of the five-pass HBM test, setting pages FREE or QUARANTINED. -/
  | hbmTestComplete (bad : List Nat)
  /-- MANAGEMENT_RESET_RELEASE (R450): Release of edge M after the HBM test and port bring-up, starting the boot ROM. -/
  | managementResetRelease
  /-- BOOT_COMPLETE (R408): Choesk serving PF0 and sampling sensors, or entry to recovery.The
  operands carry nothing: what the check finds follows from the image. -/
  | bootComplete (a b : Unit)
  /-- STANDBY_MIRRORED (R408): Die E complex started with the verified image and taking the mirror. -/
  | standbyMirrored
  /-- HBM_REFRESH (R455): Issue of a due HBM refresh ahead of any retraining step. -/
  | hbmRefresh (stack : Fin 8) (pc : BitVec 5)
  /-- WATCHDOG_EXPIRY (R420): Expiry of a complex watchdog after 256 counts without a kick. -/
  | watchdogExpiry (die : Die)
  /-- WARM_RESET (R444): Warm reset clearing every domain but AON and running bring-up from edge C. -/
  | warmReset
  /-- STAGE_VERIFY_COMPLETE (R414): End of image verification, moving the update state to STAGED or IDLE.The
  operands carry nothing: what the check finds follows from the image. -/
  | stageVerifyComplete (a b : Unit)
  /-- ACTIVATION_STANDBY_LOADED (R416): Standby holding a valid image, stopping consumption and writing the handover record. -/
  | activationStandbyLoaded (valid : Bool)
  /-- ACTIVATION_TAKEOVER (R416): End of the new image's restore and self-check, making it active or resuming the old. -/
  | activationTakeover (code : BitVec 2)
  /-- DFU_DNLOAD (R432): Receipt of a DFU DNLOAD block, written to the inactive bank. -/
  | dfuDnload (block : BitVec 16) (data : List Byte)
  /-- DFU_MANIFEST (R432): Zero-length DNLOAD that verifies the downloaded image.The
  operands carry nothing: what the check finds follows from the image. -/
  | dfuManifest (a b : Unit)
  /-- DFU_DETACH (R431): DFU_DETACH request, which is stalled. -/
  | dfuDetach
  /-- USB_BUS_RESET (R436): USB bus reset or VBUS loss, abandoning transfers and service tickets. -/
  | usbBusReset
  /-- CONFIG_ITEM_READ (R434): Vendor control request that reads a flash configuration item. -/
  | configItemRead (item : BitVec 16)
  /-- CONFIG_ITEM_WRITE (R434): Vendor control request that writes a flash configuration item for the next cold reset. -/
  | configItemWrite (item : BitVec 16) (data : List Byte)
  /-- LOG_RECORD_PROGRAM (R425): Programming of event-log records from SRAM to flash. -/
  | logRecordProgram
  /-- PMBUS_POLL (R422): Reading of regulator rails over PMBus every 4 ms. -/
  | pmbusPoll (readings : List (Option (BitVec 16)))
  /-- SMBUS_STRETCH_TIMEOUT (R428): Abandonment of a transaction after 25 ms of clock stretching, with one retry. -/
  | smbusStretchTimeout (segment : BitVec 2) (address : BitVec 7) (command : BitVec 8)
  /-- SMBUS_STUCK_RECOVERY (R429): Clock pulsing on a stuck segment, entering BUS_STUCK if SDA stays low. -/
  | smbusStuckRecovery (segment : BitVec 2) (sdaHigh : Bool)
  /-- SMBUS_RECOVERY_RETRY (R429): Repeat of stuck-bus recovery 35 ms after a reset pulse. -/
  | smbusRecoveryRetry (segment : BitVec 2) (sdaHigh : Bool)
  /-- SMBT_STATUS (R430): SMBT block read returning cap, thermal, update and frame status. -/
  | smbtStatus (pec : Bool)
  /-- SMBT_SET_CAP (R430): SMBT write with the effect of PWR.SET_CAP. -/
  | smbtSetCap (w : BitVec 16) (pec : Bool)
  /-- SMBT_POWER (R430): SMBT read of package input power. -/
  | smbtPower (pec : Bool)
  /-- SMBT_ALERT_ACK (R430): SMBT command acknowledging critical records and releasing SMBT_ALERT_N. -/
  | smbtAlertAck (pec : Bool)
  /-- ALERT_RESPONSE (R430): Answer of SMBT at the SMBus Alert Response Address. -/
  | alertResponse
  /-- UART_STATUS (R437): Console command printing MGT.STATUS. -/
  | uartStatus
  /-- UART_LOG (R437): Console command printing the last n records. -/
  | uartLog (n : Nat)
  /-- UART_SENS (R437): Console command printing one sensor. -/
  | uartSens (sensor : BitVec 16)
  /-- UART_LINK (R437): Console command printing LINK.QUERY of a port. -/
  | uartLink (port : Fin 16)
  /-- BYPASS (R460): JTAG BYPASS instruction. -/
  | bypass
  /-- IDCODE (R460): JTAG IDCODE instruction returning the part identity. -/
  | idcode
  /-- SAMPLE_PRELOAD (R460): JTAG SAMPLE/PRELOAD instruction. -/
  | samplePreload
  /-- EXTEST (R461): Restricted JTAG EXTEST instruction. -/
  | extest
  /-- EXTEST_PULSE (R461): Restricted JTAG EXTEST_PULSE instruction. -/
  | extestPulse
  /-- EXTEST_TRAIN (R461): Restricted JTAG EXTEST_TRAIN instruction. -/
  | extestTrain
  /-- CLAMP (R461): Restricted JTAG CLAMP instruction. -/
  | clamp
  /-- HIGHZ (R461): Restricted JTAG HIGHZ instruction. -/
  | highz
  /-- SCAN_MODE (R461): JTAG instruction for internal scan chains, effective only with TEST_EN and the scan-lock fuse intact. -/
  | scanMode
  /-- MBIST_RUN (R460): JTAG instruction that runs on-die self-test and returns its result. -/
  | mbistRun
  /-- ATB_CTRL (R460): JTAG instruction that takes the four analogue test buses. -/
  | atbCtrl
  /-- JTAG_WARM_RESET (R460): JTAG WARM_RESET instruction, starting a warm reset. -/
  | jtagWarmReset
  /-- AON_TIMER_TICK (R419): A 32 µs tick of the AON-derived timer, used before the package counts frames and while it is STANDALONE or UNSYNC. It advances the complex watchdog, paces HOTTEST evaluation and paces the HBM retraining steps. -/
  | aonTimerTick
  /-- UNCORRECTABLE_CODEWORD (R306): A lane decodes an RS(544,514) codeword as uncorrectable. The event is counted, and on the 64th consecutive such codeword the lane leaves LOCKED for SEARCH and FALSE_LOCK is counted. -/
  | uncorrectableCodeword (port : Fin 16) (word : Codeword)
  /-- SIGNAL_DETECT (R329): A port's receive lanes detect signal from the far end, either in step 1 of bring-up or on a dozing port. On a dozing port the far end answers with its own wake train. -/
  | signalDetect (port : Fin 16)
  /-- SENSOR_SAMPLE (R422): The on-die voltage monitors are sampled every 64 µs and each HBM stack's temperature report is taken every 1 ms. Each sample updates the sensor's latest, minimum, maximum and failure state. -/
  | sensorSample (sensor : BitVec 16) (value : BitVec 16) (good : Bool)
  /-- TEST_LOGIC_RESET (R460): The JTAG TAP enters test-logic reset, through TRST_N low or through TMS, and IDCODE becomes the current instruction. -/
  | testLogicReset
  /-- VDD_AON_LOSS (R464): Standby power VDD_AON is lost. Every state is lost with it, including ATB.RESET and event-log records not yet programmed. -/
  | vddAonLoss
  deriving DecidableEq, Repr

end Sys2Proof
end

