-- ==== Sys2Proof/Config.lean ====
section
/-! DEFINITION. What the spec leaves open: free values, each an opaque constant with no body. A statement about one holds
whatever it is. The number a free value is applied to is the state's own counter, advanced at each use (log entry 2). -/

namespace Sys2Proof.Config

/-- UPTIME of a log record: always-on oscillator ticks since cold reset, a measured time (R424). -/
opaque uptime (n : Nat) : BitVec 40

/-- Core cycles that a fill lasted until a start replaced it (R395, R396). -/
opaque fillCycles (n : Nat) : Nat

/-- Which die's core rail a rail of the segment table feeds (false W, true E), if either: a fact of the board that the
table's entries do not say (R426, R427). -/
opaque coreRail (rail : Nat) : Option Bool

/-- Droop events a package row's detector counted in a frame (Table 15-7). -/
opaque droops (n row : Nat) : BitVec 16

/-- EVENT of the record of a failed PCIe link training, for which Table 15-9 has no code (R72). -/
opaque pcieEvent (n : Nat) : BitVec 16

/-- A retraining step of a stack finds a timing shift above a quarter of a unit interval (R454). -/
opaque timingShift (n stack : Nat) : Bool

/-- The manufacturer identity in IDCODE (Table 16-5). -/
opaque manufacturer (n : Nat) : BitVec 11

/-- The bits that a load of a test instruction shifts in at TDI (R460): the tester is outside the model. -/
opaque shiftedIn (n : Nat) : List Bool

/-- The code of a load that acts as BYPASS (R460). -/
opaque loadedCode (n : Nat) : BitVec 8

/-- The level of a land as the boundary register captures it (R460): the lands are outside the model. -/
opaque landLevel (n place : Nat) : Bool

/-- What else the self-test of MBIST_RUN finds bad beyond repair (Table 16-4): engines, ports, planners and complexes. -/
opaque enginesFailing (n : Nat) : BitVec 17
opaque portsFailing (n : Nat) : BitVec 16
opaque plannersFailing (n : Nat) : BitVec 2
opaque complexesFailing (n : Nat) : BitVec 2

/-- Spare rows remain for a page's soft post-package repair (R456, log entry 132). -/
opaque spareRow (n page : Nat) : Bool

/-- The result that MBIST_RUN shifts out (Table 16-5). -/
opaque mbistResult (n : Nat) : BitVec 64

/-- Soft repairs that TEST.MBIST applies (Table 16-8). -/
opaque softRepairs (n : Nat) : BitVec 16

/-- A page that TEST.MBIST finds bad beyond repair (Table 16-8). -/
opaque pageFailing (n page : Nat) : Bool

/-- Sample i that the management ADC takes of an analogue test bus (R462). -/
opaque adcSample (n i : Nat) : BitVec 12

/-- TX_PHASE of an outer hello on a port: a measured time (R353). -/
opaque txPhase (n port : Nat) : BitVec 32

/-- The per-part factor of a structure of Table 14-1 at a temperature, in units of 2^-20 before clamping to 0.75 to 1.25
(R389): 0 MAC, 1 SFU, 2 move, 3 outer bytes, 4 inner bytes. -/
opaque trimRaw (structure_ hottest : Nat) : Nat

/-- Engine cycles an operation held beside those of its tiles' timing, while it waited (R389, R151). -/
opaque heldExtra (n : Nat) : Nat

/-- Subtiles that a row group of an attention tile has completed when its operation is stopped inside the tile: a matter of
time (R145, R170; log entry 141). -/
opaque subtilesDone (n group : Nat) : Nat

/-- Where the sequencer starts to look for a free slot of a die for an operation: the spec does not say which of the free
slots it takes (R133, R146). -/
opaque slotPick (n : Nat) : Nat

/-- Delay from the commit instant to a marker's departure on a port, in 0.25 ns (Table 2-5). -/
opaque txOffset (n port : Nat) : BitVec 16

/-- Package rows that fail the self-test of a partition reset (R366). -/
opaque rowsFailing (n : Nat) : BitVec 16

/-- FRM.SYNC.ERROR when e is outside the 16 bits of the field (Table 2-9). -/
opaque errorBeyond (n : Nat) : BitVec 16

/-- The SipHash key a new KV pool draws from the management complex's random source (R200). -/
opaque kvKey (n : Nat) : BitVec 128

/-- Which of the FREE blocks a KV command takes (R191, R197: the spec gives no order). -/
opaque kvPick (n : Nat) : Nat

/-- A handle the spec gives no value for: the free buffer of an operation that pushes to OUT and pops none, or an operand
fed by handles from a queue reference that is not in use (R142, R151). -/
opaque freeHandle (n : Nat) : BitVec 128

/-- Coefficient word i (three to a segment) of built-in function `func` under a Choesk release (R218). -/
opaque builtinCoef (release func i : Nat) : BitVec 32

/-- The factor 2^(M − M_new) for a stored M that is no integer, whose rounding the spec does not give (R167, R171). -/
opaque oddRescale (m mNew : BitVec 32) : BitVec 32

/-- What the residue check of a chunk formed by addition finds (R291 to R293): 0 no mismatch, 1 one that passes on the
recompute, 2 one that recurs, 3 one that recurs on the host engine too. -/
opaque adderFault (n : Nat) : Nat

/-- Idle flits that a port's lanes carry before a flit: the time between two flits (R313, log entry 140). -/
opaque idleFlits (n : Nat) : Nat

/-- The payload of a control message for which the spec gives no layout. -/
opaque payload (n : Nat) : BitVec 1920

/-- SUBTYPE of a group of notices for which the owning chapter assigns none (Table 11-4). -/
opaque noticeSubtype (group : Nat) : Nat

/-- A receive lane's request for one coefficient step of the far transmitter, up or down, if it makes one (R318). -/
opaque txeqStep (n lane : Nat) : Option Bool

/-- The adaptation state a lane has moved to since its last copy (R318). -/
opaque adapted (n lane : Nat) : BitVec 64

/-- The integer of an infinity or a NaN in the value wave of a checked group (R276 states none; the result is NaN). -/
opaque quantised (v : BitVec 32) : BitVec 32

/-- FIRST_FRAME (false) of a reduction without an intake and END_FRAME (true) of one without a write (Table 10-4). -/
opaque noFrame (n : Nat) (last : Bool) : FrameNo

/-- Packages not joined as SPAN.JOIN reports them where its own 1,024 frames end first: the creator alone counts them (R370). -/
opaque notJoined (n : Nat) : Nat

/-- Members not yet ready as GROUP.DEFINE reports them away from the coordinator, which alone hears of them (R268). -/
opaque notReady (n : Nat) : Nat

/-- Whether the package that sends a flow of a span has overrun the frame that is judged: R49 exempts a receive by it, and a
receiving package has no word of it at its commit instant. -/
opaque sourceOverran (n span flow : Nat) : Bool

/-- Whether the last flit of a transfer whose cells have all left here has not been delivered at its destination by the
commit instant (R44): a replay may hold it up anywhere on its path. -/
opaque undelivered (n span flow : Nat) : Bool

/-- Source package of a flow that the package holds no record of. -/
opaque flowSource (n span flow : Nat) : Nat
/-- Destination package of a flow that the package holds no record of. -/
opaque flowDestination (n span flow : Nat) : Nat

end Sys2Proof.Config
end

