-- ==== Sys2Proof/Machine/State.lean ====
section
/-! DEFINITION. The state of the package, its faults and refusals, and its value at reset: the moment VDD_AON has
become good, before rail sequencing (R442). Every field is plain data. -/

namespace Sys2Proof.Machine

/-- What the block has sent to the world outside, oldest first: the model's own record of its outputs. -/
inductive Output where
  /-- an MSI-X vector of a function (R99) -/
  | msix (fn vector : Nat)
  /-- a control message to a package, by the paths of R347 -/
  | send (dst : Nat) (m : Msg)
  /-- a flit that leaves on a port: what it is and its 256 bytes (R310) -/
  | flit (port : Nat) (f : Flit) (wire : List Byte)
  /-- a planned cell on a port: data, or none for a cell that leaves empty (R252) -/
  | cell (port slot : Nat) (data : Option CellData)
  /-- an ATS Translation Request: function, window and the number its completion names (R114) -/
  | atsRequest (fn window req : Nat)
  /-- an ATS Invalidation Completion: function and request tag (R121) -/
  | invalDone (fn tag : Nat)
  /-- an AER message: function, and 0 correctable, 1 non-fatal, 2 fatal (R74) -/
  | aer (fn kind : Nat)
  /-- a completion with Unsupported Request status (R73) -/
  | unsupported (fn : Nat)
  /-- the value of a register read -/
  | read (v : W64)
  /-- bytes on bulk IN of the service port (R433) -/
  | usb (b : List Byte)
  /-- a stalled USB control request (R431, R434) -/
  | usbStall
  /-- a UART line, by the words it prints (R437) -/
  | uart (words : List W64)
  /-- an SMBT answer (R430): block or word data -/
  | smbt (words : List W64)
  /-- an SMBT byte not acknowledged (R430) -/
  | smbtNack
  /-- a word shifted out of the test port, or as many bits as were shifted in (R460) -/
  | tdo (v : W64)
  | tdoBits (bits : List Bool)
  /-- transmitters of a port's lanes go electrically idle (R324, R326, R329), or send training frames (R309) -/
  | idle (port : Nat) (lanes : BitVec 8)
  | training (port : Nat)
  /-- a PMBus write of VOUT_COMMAND to a rail, in mV (R427) -/
  | vout (rail mv : Nat)
  /-- FRAME_OUT goes high for 1 µs (R480) -/
  | frameOut
  /-- SMB_RST_N[n] pulsed (R429) -/
  | smbReset (segment : Nat)
  deriving DecidableEq, Repr

/-- Why the machine stops: it never does. The spec names no command that stops the block. -/
inductive Fault where
  deriving DecidableEq, Repr

/-- Why a command has no meaning. -/
inductive Refusal where
  /-- Raised by an arm of exec whose command has no meaning yet. Safe. -/
  | notModelled (mnemonic : String)
  deriving DecidableEq, Repr

/-- The whole package and the commands that wait for it. -/
structure State where
  fuse : Fuses := {}
  flash : Flash := {}
  por : Por := {}
  mgt : Mgt := {}
  frm : Frm := {}
  pcie : Pcie := {}
  mbx : Tab Mailbox := []
  nextUid : Nat := 0
  adm : Adm := {}
  ten : Tenants := {}
  xlt : Xlt := {}
  seq : Seq := {}
  kv : Tab (Option KvPool) := []
  sfu : Tab SfuSlot := []
  /-- the Choesk release whose built-in images a package row's tillers hold, none where the area is zeroed (R210, R231) -/
  builtins : Tab Nat := []
  pln : Pln := {}
  red : Red := {}
  plk : Plk := {}
  fab : Fab := {}
  pwr : Pwr := {}
  /-- device memory, scratchpads and host memory (R109, R21, R68) -/
  dram : Memory := []
  spad : Memory := []
  host : Memory := []
  /-- the model's own: what has been sent, the number of the next free value, and the waiting commands -/
  out : List Output := []
  free : Nat := 0
  pending : List Instr := []
  deriving DecidableEq, Repr, Inhabited

/-- The package right after VDD_AON becomes good: every register at the reset value of its table; what the spec gives
no value for is named in log entries 2 to 7. -/
def State.reset : State := {}

/-- The state of the device after SCAN_MODE was left, which R461 calls undefined: a free value. -/
opaque Config.afterScan (n : Nat) : State

end Sys2Proof.Machine
end

