-- ==== Sys2Proof/Machine/Ops.lean ====
section
/-! DEFINITION. The named operations every chapter uses: reaching one record of a table, outputs, MSI-X vectors (R99,
R100), the event log (R424, R425), and the records of commands (R81 to R85). -/

namespace Sys2Proof.Machine

/-! ### Reaching records -/

/-- Mailbox m: 0 PF0, n VFn, 17 the service mailbox. -/
def State.mb (m : Nat) (s : State) : Mailbox := s.mbx.get {} m

/-- Changes mailbox m. -/
def State.updMb (m : Nat) (f : Mailbox → Mailbox) (s : State) : State := { s with mbx := s.mbx.upd {} m f }

/-- Partition p. -/
def State.part (p : Nat) (s : State) : Part := s.ten.parts.get {} p

/-- Changes partition p. -/
def State.updPart (p : Nat) (f : Part → Part) (s : State) : State :=
  { s with ten := { s.ten with parts := s.ten.parts.upd {} p f } }

/-- The tag of context c of partition p: tag[9:6] the partition, tag[5:0] the context (R14). -/
def tagOf (p c : Nat) : Nat := 64 * p + c

/-- Context c of partition p. -/
def State.ctx (p c : Nat) (s : State) : Ctx := s.ten.ctxs.get {} (tagOf p c)

/-- Changes context c of partition p. -/
def State.updCtx (p c : Nat) (f : Ctx → Ctx) (s : State) : State :=
  { s with ten := { s.ten with ctxs := s.ten.ctxs.upd {} (tagOf p c) f } }

/-- `FRM.STATUS` of partition p and what goes with it. -/
def State.frmp (p : Nat) (s : State) : FrmPart := s.frm.parts.get {} p

/-- Changes the frame record of partition p. -/
def State.updFrmp (p : Nat) (f : FrmPart → FrmPart) (s : State) : State :=
  { s with frm := { s.frm with parts := s.frm.parts.upd {} p f } }

/-- Admission record of partition p. -/
def State.admp (p : Nat) (s : State) : AdmPart := s.adm.parts.get {} p

/-- Changes the admission record of partition p. -/
def State.updAdmp (p : Nat) (f : AdmPart → AdmPart) (s : State) : State :=
  { s with adm := { s.adm with parts := s.adm.parts.upd {} p f } }

/-- Sequencer record of partition p. -/
def State.seqp (p : Nat) (s : State) : SeqPart := s.seq.parts.get {} p

/-- Changes the sequencer record of partition p. -/
def State.updSeqp (p : Nat) (f : SeqPart → SeqPart) (s : State) : State :=
  { s with seq := { s.seq with parts := s.seq.parts.upd {} p f } }

/-- Power record of partition p. -/
def State.pwrp (p : Nat) (s : State) : PwrPart := s.pwr.parts.get {} p

/-- Changes the power record of partition p. -/
def State.updPwrp (p : Nat) (f : PwrPart → PwrPart) (s : State) : State :=
  { s with pwr := { s.pwr with parts := s.pwr.parts.upd {} p f } }

/-- Planner record of partition p. -/
def State.plnp (p : Nat) (s : State) : PlnPart := s.pln.parts.get {} p

/-- Changes the planner record of partition p. -/
def State.updPlnp (p : Nat) (f : PlnPart → PlnPart) (s : State) : State :=
  { s with pln := { s.pln with parts := s.pln.parts.upd {} p f } }

/-- Port i: 0 to 11 torus, 12 to 15 outer. -/
def State.port (i : Nat) (s : State) : Port := s.plk.ports.get {} i

/-- Changes port i. -/
def State.updPort (i : Nat) (f : Port → Port) (s : State) : State :=
  { s with plk := { s.plk with ports := s.plk.ports.upd {} i f } }

/-- What port i remembers beside its registers. -/
def State.work (i : Nat) (s : State) : PortWork := s.plk.work.get {} i

/-- Changes what port i remembers. -/
def State.updWork (i : Nat) (f : PortWork → PortWork) (s : State) : State :=
  { s with plk := { s.plk with work := s.plk.work.upd {} i f } }

/-- Function fn of the endpoint. -/
def State.fn (fn : Nat) (s : State) : PciFn := s.pcie.fns.get {} fn

/-- Changes function fn of the endpoint. -/
def State.updFn (fn : Nat) (f : PciFn → PciFn) (s : State) : State :=
  { s with pcie := { s.pcie with fns := s.pcie.fns.upd {} fn f } }

/-- Changes the frame unit. -/
def State.updFrm (f : Frm → Frm) (s : State) : State := { s with frm := f s.frm }

/-- Changes the translation tables. -/
def State.updXlt (f : Xlt → Xlt) (s : State) : State := { s with xlt := f s.xlt }

/-- Changes the planner. -/
def State.updPln (f : Pln → Pln) (s : State) : State := { s with pln := f s.pln }

/-- Changes the reduction engines, groups and queues. -/
def State.updRed (f : Red → Red) (s : State) : State := { s with red := f s.red }

/-- Changes the fabric's state. -/
def State.updFab (f : Fab → Fab) (s : State) : State := { s with fab := f s.fab }

/-- Changes the management subsystem. -/
def State.updMgt (f : Mgt → Mgt) (s : State) : State := { s with mgt := f s.mgt }

/-- Changes the energy logic. -/
def State.updPwr (f : Pwr → Pwr) (s : State) : State := { s with pwr := f s.pwr }

/-- Changes the always-on block. -/
def State.updPor (f : Por → Por) (s : State) : State := { s with por := f s.por }

/-- Changes the sequencers. -/
def State.updSeq (f : Seq → Seq) (s : State) : State := { s with seq := f s.seq }

/-- Changes admission. -/
def State.updAdm (f : Adm → Adm) (s : State) : State := { s with adm := f s.adm }

/-- The package identifier x + 8y + 32z of the strap coordinate (R332). -/
def State.self (s : State) : Nat := s.fab.x.toNat + 8 * s.fab.y.toNat + 32 * s.fab.z.toNat

/-- The partition that owns a package row (R23, R358). -/
def State.rowOwner (row : Nat) (s : State) : Option Nat :=
  (List.range 16).find? (fun p => bit (s.part p).rows row)

/-- The number of ones among the low `n` bits. -/
def popCount {w : Nat} (x : BitVec w) : Nat := ((List.range w).filter (fun i => bit x i)).length

/-- Inserts a number into a rising list without repeats. -/
def insertNat (n : Nat) : List Nat → List Nat
  | [] => [n]
  | k :: t => if n < k then n :: k :: t else if n = k then k :: t else k :: insertNat n t

/-! ### Clocks -/

/-- The clocks of every domain beside the always-on block's run: power is up and edge C has passed (R449), no thermal trip
has stopped them (R401), and no scan instruction holds them (R461). -/
def State.clocked (s : State) : Bool :=
  (s.por.bring == .selfTest || s.por.bring == .running) && !s.por.tripAsserted && !s.por.scan

/-- What an event does: nothing while its domain has no clock. -/
def State.whenClocked (s t : State) : State := if s.clocked then t else s

/-- The PCIE domain runs: it has clocks of its own reference too (R31, R477). -/
def State.pcieAlive (s : State) : Bool := s.clocked && s.pcie.refclk

/-- What an access or a message of the host does: nothing while the PCIE domain has no clock. -/
def State.whenPcie (s t : State) : State := if s.pcieAlive then t else s

/-! ### Outputs and vectors -/

/-- Records an output. -/
def State.emit (o : Output) (s : State) : State := { s with out := s.out ++ [o] }

/-- The output that a transfer of the PCIE domain is. -/
def HostTlp.output : HostTlp → Output
  | .msix f v => .msix f v
  | .atsRequest f w r => .atsRequest f w r
  | .invalDone f t => .invalDone f t
  | .aer f k => .aer f k

/-- Hands a transfer to the PCIE domain: while its reference is lost the domain's clock is stopped, and the crossing
holds it (R34, R477). -/
def State.emitPcie (t : HostTlp) (s : State) : State :=
  if s.pcie.refclk then s.emit t.output else { s with pcie := { s.pcie with held := s.pcie.held ++ [t] } }

/-- The PCIE domain's clock resumes: what its crossings held goes out in order (R32, R34). -/
def State.releasePcie (s : State) : State :=
  s.pcie.held.foldl (fun s t => s.emit t.output) { s with pcie := { s.pcie with held := [], refclk := true } }

/-- A function exists: PF0, or VFn with NumVFs ≥ n (R71). -/
def State.fnExists (fn : Nat) (s : State) : Bool := fn == 0 || decide (fn ≤ s.pcie.numVfs.toNat)

/-- Signals an MSI-X vector: nothing while MSI-X Enable is 0, a pending bit while it is masked (R100). -/
def State.fireVec (fn v : Nat) (s : State) : State :=
  if !(s.fn fn).msixEnable || !s.fnExists fn then s
  else if !((s.fn fn).unmasked.contains v) then
    s.updFn fn (fun f => { f with pendingVec := insertNat v f.pendingVec })
  else s.emitPcie (.msix fn v)

/-! ### The event log -/

/-- Severity of an event code (Table 15-9). -/
def evSev (ev : Nat) : Sev :=
  if ev = 0x0002 || ev = 0x0003 || ev = 0x0302 || ev = 0x0600 || ev = 0x0801 || ev = 0x0901 || ev = 0x0A01 then .critical
  else if ev = 0x0200 || ev = 0x0300 || ev = 0x0702 || ev = 0x0A02 || ev = 0x0B00 || ev = 0x0E01 then .error
  else if ev = 0x00FF || ev = 0x0100 || ev = 0x0101 || ev = 0x0301 || ev = 0x0700 || ev = 0x0802 || ev = 0x0A00 ||
    ev = 0x0B01 || ev = 0x0C00 then .warning
  else .info

/-- The first 240 bits of a log record (Table 15-8). -/
def LogRec.bits (r : LogRec) : Nat :=
  r.seq.toNat + r.frame.toNat * 2 ^ 32 + r.uptime.toNat * 2 ^ 80 + r.sev.code * 2 ^ 120 +
    r.event.toNat / 256 % 16 * 2 ^ 122 + r.event.toNat * 2 ^ 128 + r.reason.code * 2 ^ 144 +
    (match r.part with
      | some (p, c) => p * 2 ^ 160 + 2 ^ 164 + c * 2 ^ 165
      | none => 0) + r.data.toNat * 2 ^ 176

/-- One bit of a CRC-16 with polynomial 0x1021, not reflected. -/
def crc16Bit (crc : Nat) (b : Bool) : Nat :=
  let out := (decide (32768 ≤ crc)) != b
  let c := crc * 2 % 65536
  if out then Nat.xor c 0x1021 else c

/-- CHECK over bytes, most significant bit of each first, from 0xFFFF (Table 15-8). -/
def crc16 (bs : List Byte) : Nat :=
  bs.foldl (fun c b => [7, 6, 5, 4, 3, 2, 1, 0].foldl (fun c i => crc16Bit c (bit b i)) c) 0xFFFF

/-- The 32 bytes of a log record. -/
def LogRec.bytes (r : LogRec) : List Byte :=
  let bs := bytesLE 30 r.bits
  bs ++ bytesLE 2 (crc16 bs)

/-- A log record as the console prints it: its four 64-bit words (R437). -/
def LogRec.words (r : LogRec) : List W64 := (List.range 4).map (fun i => BitVec.ofNat 64 (r.bits / 2 ^ (64 * i)))

/-- Writes a record into management SRAM (R424, R425); the console prints it from severity warning on (R437). -/
def State.writeLog (ev : Nat) (rs : Reason) (part : Option (Nat × Nat)) (data : W64) (s : State) : State :=
  let r : LogRec := {
    seq := s.mgt.nextLog, frame := s.frm.count, uptime := Config.uptime s.free, sev := evSev ev
    event := BitVec.ofNat 16 ev, reason := rs, part := part, data := data }
  let s := { s with free := s.free + 1 }
  let s := s.updMgt (fun g => { g with sram := g.sram ++ [r], nextLog := g.nextLog + 1 })
  if evSev ev = .info then s else s.emit (.uart r.words)

/-- Logs an event: at most 64 records of one code in a frame, further ones only counted; a critical record fires PF0
vector 2 and asserts SMBT_ALERT_N (R425). -/
def State.logEvent (ev : Nat) (rs : Reason) (part : Option (Nat × Nat)) (data : List (Nat × Nat)) (s : State) : State :=
  let n := s.mgt.perFrame.get 0 ev
  let s := s.updMgt (fun g => { g with perFrame := g.perFrame.put ev (n + 1) })
  if 64 ≤ n then s
  else
    let s := s.writeLog ev rs part (word data)
    if evSev ev = .critical then
      (s.updMgt (fun g => { g with unacked := g.unacked + 1, alertLow := true })).fireVec 0 2
    else s

/-- Logs an event with nothing to add but its data. -/
def State.log (ev : Nat) (data : List (Nat × Nat)) (s : State) : State := s.logEvent ev .none none data

/-- At a commit instant: one 0x00FF record for each code whose records were suppressed in the frame that ends (R425). -/
def State.flushLogCounts (s : State) : State :=
  let excess := s.mgt.perFrame.filter (fun p => decide (64 < p.2))
  let s := s.updMgt (fun g => { g with perFrame := [] })
  excess.foldl (fun s p => s.writeLog 0x00FF .none none (word [(0, p.1), (16, p.2 - 64)])) s

/-! ### Records of commands -/

/-- Ticket limit of a mailbox: VF 4,096, PF0 256 (R85), the service mailbox 16 (R433). -/
def ticketLimit (m : Nat) : Nat := if m = 0 then 256 else if m = 17 then 16 else 4096

/-- The consumption `uid` still has an active ticket without its outcome record. -/
def Mailbox.live (uid : Nat) (b : Mailbox) : Bool := b.tickets.any (fun t => t.cmd.uid == uid && !t.ended)

/-- Staging places used and reserved (R81). -/
def Mailbox.places (b : Mailbox) : Nat :=
  b.staged.length + (b.tickets.map (fun t => if t.ended then 0 else t.left)).foldl (· + ·) 0

/-- Stages a record of a live ticket: interim records take one reserved place, the final record ends the reservation
(R81, R84). A ticket that a mailbox reset ended gets none (R106). -/
def State.stage (c : CmdId) (oc : Oc) (rs : Reason) (ws : List W64) (final : Bool) (s : State) : State :=
  if (s.mb c.mbx).live c.uid && !(s.mb c.mbx).resetBusy then
    s.updMb c.mbx (fun b => { b with
      staged := b.staged ++ [{ cmd := c, oc := oc, reason := rs, words := ws, final := final, frame := s.frm.count }]
      tickets := b.tickets.map (fun t =>
        if t.cmd.uid == c.uid then (if final then { t with ended := true, left := 0 } else { t with left := t.left - 1 })
        else t) })
  else s

/-- Stages the outcome record of a command. -/
def State.finish (c : CmdId) (oc : Oc) (rs : Reason) (ws : List W64) (s : State) : State := s.stage c oc rs ws true

/-- Ends several commands alike. -/
def State.finishAll (cs : List CmdId) (oc : Oc) (rs : Reason) (ws : List W64) (s : State) : State :=
  cs.foldl (fun s c => s.finish c oc rs ws) s

/-! ### Messages to Choesk -/

/-- A message to Choesk while no complex serves (R417): up to 1,024 are held, further ones are discarded and counted. -/
def State.holdMsg (src : Nat) (m : Msg) (s : State) : State :=
  s.updMgt (fun g =>
    if g.inbound.length < 1024 then { g with inbound := g.inbound ++ [(src, m)] } else { g with inboundLost := g.inboundLost + 1 })

/-- What a message to Choesk does: held between the stop and the resumption of an activation, else what it says. -/
def State.toChoesk (src : Nat) (m : Msg) (s t : State) : State := if s.mgt.act = .restoring then s.holdMsg src m else t

/-- A free value: the next number of the model's own counter (log entry 2). -/
def State.takeFree (s : State) : Nat × State := (s.free, { s with free := s.free + 1 })

end Sys2Proof.Machine
end

