-- ==== Sys2Proof/Machine/Wire.lean ====
section
/-! DEFINITION. The 256 bytes of a flit: CRC-32C, the header (R310, Table 11-3), types and subtypes (R311, Table 11-4), and
the payloads the spec lays out: marker (R52), kill notice (R125), plan record (R250), beacon and outer hello (R337, R353),
health notice and credits (R351, R354), caps (R402). The payload of every other control message is a free value
(log entry 8). -/

namespace Sys2Proof.Machine

open Sys2Proof

/-! ### CRC-32C (R268, R310, R413) -/

/-- One bit of CRC-32C (reflected, polynomial 0x1EDC6F41). -/
def crcBit (c : BitVec 32) : BitVec 32 := if bit c 0 then (c >>> 1) ^^^ 0x82F63B78#32 else c >>> 1

/-- One byte of CRC-32C. -/
def crcByte (c : BitVec 32) (b : Byte) : BitVec 32 :=
  (List.range 8).foldl (fun c _ => crcBit c) (c ^^^ BitVec.ofNat 32 b.toNat)

/-- CRC-32C of bytes, initial value and final inversion all ones. -/
def crc32c (bs : List Byte) : BitVec 32 := ~~~(bs.foldl crcByte (BitVec.allOnes 32))

/-! ### Fields -/

/-- The number whose fields stand at bit positions. -/
def packed (parts : List (Nat × Nat)) : Nat := (parts.map (fun p => p.2 * 2 ^ p.1)).foldl (· + ·) 0

/-- Payload bytes as one number. -/
def payloadOf (bs : List Byte) : BitVec 1920 := BitVec.ofNat 1920 (ofBytesLE bs)

/-! ### Payloads the spec lays out -/

/-- A frame marker's 20 bytes (Table 2-5). -/
def Marker.bytes (m : Marker) : List Byte :=
  bytesLE 20 (packed [(0, m.frame.toNat), (48, m.master.toNat), (56, m.epoch.toNat), (64, m.period.toNat), (67, m.slack.toNat),
    (69, b2n m.change.isSome), (70, (m.change.map (·.period.toNat)).getD 0), (73, (m.change.map (·.slack.toNat)).getD 0),
    (80, (m.change.map (·.frame.toNat)).getD 0), (128, m.hops.toNat), (132, m.deputy.toNat), (144, m.txOffset.toNat)])

/-- The marker a payload carries (Table 2-5). -/
def markerOf (w : BitVec 1920) : Marker :=
  { frame := BitVec.ofNat 48 (fld w 0 48), master := BitVec.ofNat 7 (fld w 48 7), epoch := BitVec.ofNat 8 (fld w 56 8)
    period := BitVec.ofNat 3 (fld w 64 3), slack := BitVec.ofNat 2 (fld w 67 2)
    change := if bit w 69 then some { period := BitVec.ofNat 3 (fld w 70 3), slack := BitVec.ofNat 2 (fld w 73 2)
                                      frame := BitVec.ofNat 48 (fld w 80 48) } else none
    hops := BitVec.ofNat 4 (fld w 128 4), deputy := BitVec.ofNat 7 (fld w 132 7), txOffset := BitVec.ofNat 16 (fld w 144 16) }

/-- A kill notice's 16 bytes (Table 4-8). -/
def killBytes (frame : FrameNo) (cause : BitVec 16) (origin : BitVec 7) (tag : BitVec 10) (span : BitVec 16) : List Byte :=
  bytesLE 16 (packed [(0, frame.toNat), (48, cause.toNat), (64, origin.toNat), (72, tag.toNat), (96, span.toNat)])

/-- The kill notice a payload carries (Table 4-8). -/
def killOf (w : BitVec 1920) : Msg :=
  .kill (BitVec.ofNat 48 (fld w 0 48)) (BitVec.ofNat 16 (fld w 48 16)) (BitVec.ofNat 7 (fld w 64 7)) (BitVec.ofNat 10 (fld w 72 10))
    (BitVec.ofNat 16 (fld w 96 16))

/-- Entries of a plan record in one flit (R250). -/
def entriesPerFlit : Nat := 30

/-- A plan record's entry flits (R250). -/
def PlanRecord.flits (r : PlanRecord) : Nat := (r.entries.length + (entriesPerFlit - 1)) / entriesPerFlit

/-- A plan record header's 18 bytes (Table 9-4). -/
def PlanRecord.header (r : PlanRecord) : List Byte :=
  bytesLE 18 (packed [(0, r.frame.toNat), (48, r.span.toNat), (64, r.rebase.toNat), (96, r.lead), (103, b2n r.rebased),
    (104, r.member), (112, r.entries.length), (128, r.flits)])

/-- A plan record entry (Table 9-5). -/
def PlanEntry.bytes (e : PlanEntry) : List Byte :=
  bytesLE 8 (packed [(0, e.first), (12, e.count), (24, e.flow), (34, e.outPort), (38, e.inPort)])

/-- The entry 8 bytes carry (Table 9-5). -/
def planEntryOf (bs : List Byte) : PlanEntry :=
  let w : W64 := BitVec.ofNat 64 (ofBytesLE bs)
  { first := fld w 0 12, count := fld w 12 12, flow := fld w 24 10, outPort := fld w 34 4, inPort := fld w 38 4 }

/-- The plan record that a header and its entry flits carry; none where the header's FLIT_COUNT is not the number of entry
flits. -/
def planRecordOf (header : List Byte) (flits : List (List Byte)) : Option PlanRecord :=
  let w := payloadOf header
  if fld w 128 16 != flits.length then none
  else some {
    frame := BitVec.ofNat 48 (fld w 0 48), span := BitVec.ofNat 16 (fld w 48 16), rebase := BitVec.ofNat 32 (fld w 64 32)
    lead := fld w 96 7, rebased := bit w 103, member := fld w 104 7
    entries := ((flits.flatMap (chunks 8 entriesPerFlit)).take (fld w 112 16)).map planEntryOf }

/-- A key of a beacon (R337). -/
def Key.word (k : Key) : Nat := packed [(0, k.pref.toNat), (4, k.pkg.toNat), (11, 1), (16, k.origin.toNat)]

/-- The keys a beacon header carries, those with VALID = 1. -/
def keysOf (w : BitVec 1920) : List Key :=
  ((List.range 4).filter (fun i => bit w (128 + 32 * i + 11))).map (fun i =>
    { pref := BitVec.ofNat 4 (fld w (128 + 32 * i) 4), pkg := BitVec.ofNat 7 (fld w (128 + 32 * i + 4) 7)
      origin := BitVec.ofNat 16 (fld w (128 + 32 * i + 16) 16) })

/-- A beacon header's 32 bytes (Table 12-3). -/
def Beacon.header (b : Beacon) : List Byte :=
  bytesLE 32 (packed ([(0, b.serial.toNat), (64, b.pkg.toNat), (72, b.port.toNat), (76, b.pref.toNat), (80, b.sheaf.toNat),
    (96, b.round.toNat), (112, b2n b.closed), (113, b2n b.synced), (114, b2n b.halted)] ++
    ((List.range 4).zip b.keys).map (fun x => (128 + 32 * x.1, x.2.word))))

/-- A beacon entry's 12 bytes (Table 12-4). -/
def BeaconEntry.bytes (e : BeaconEntry) : List Byte :=
  bytesLE 12 (packed [(0, e.serial.toNat), (64, e.dist.toNat), (68, b2n e.dup)])

/-- Entry flit j of a beacon: packages 20j to 20j + 19; entries 128 to 139 are 0 (R337). -/
def Beacon.entryBytes (j : Nat) (b : Beacon) : List Byte :=
  (List.range 20).flatMap (fun i => if 20 * j + i < 128 then (b.entries.get {} (20 * j + i)).bytes else bytesLE 12 0)

/-- The entry 12 bytes carry (Table 12-4). -/
def beaconEntryOf (bs : List Byte) : BeaconEntry :=
  let w := payloadOf bs
  { serial := BitVec.ofNat 64 (fld w 0 64), dist := BitVec.ofNat 4 (fld w 64 4), dup := bit w 68 }

/-- The beacon that a header and 7 entry flits carry. -/
def beaconOf (header : List Byte) (flits : List (List Byte)) : Option Beacon :=
  let w := payloadOf header
  if flits.length != 7 then none
  else
    let es := ((flits.flatMap (chunks 12 20)).take 128).map beaconEntryOf
    some {
      serial := BitVec.ofNat 64 (fld w 0 64), pkg := BitVec.ofNat 7 (fld w 64 7), port := BitVec.ofNat 4 (fld w 72 4)
      pref := BitVec.ofNat 4 (fld w 76 4), sheaf := BitVec.ofNat 12 (fld w 80 12), round := BitVec.ofNat 16 (fld w 96 16)
      closed := bit w 112, synced := bit w 113, halted := bit w 114, keys := keysOf w
      entries := ((List.range 128).zip es).filter (fun x => x.2 != {}) }

/-- An outer hello's 24 bytes (Table 12-6). -/
def Hello.bytes (h : Hello) : List Byte :=
  bytesLE 24 (packed [(0, h.serial.toNat), (64, h.pkg.toNat), (72, h.port.toNat), (80, h.sheaf.toNat), (96, h.frame.toNat),
    (144, h.epoch.toNat), (152, h.master.toNat), (159, b2n h.synced), (160, h.txPhase.toNat)])

/-- The outer hello a payload carries (Table 12-6). -/
def helloOf (w : BitVec 1920) : Hello :=
  { serial := BitVec.ofNat 64 (fld w 0 64), pkg := BitVec.ofNat 7 (fld w 64 7), port := BitVec.ofNat 4 (fld w 72 4)
    sheaf := BitVec.ofNat 12 (fld w 80 12), frame := BitVec.ofNat 48 (fld w 96 48), epoch := BitVec.ofNat 8 (fld w 144 8)
    master := BitVec.ofNat 7 (fld w 152 7), synced := bit w 159, txPhase := BitVec.ofNat 32 (fld w 160 32) }

/-- A health notice's 10 bytes (Table 12-5). -/
def healthBytes (frame : FrameNo) (port health width pkg neighbour : Nat) : List Byte :=
  bytesLE 10 (packed [(0, frame.toNat), (48, port), (52, health), (54, width), (56, pkg), (64, neighbour)])

/-- The health notice a payload carries (Table 12-5). -/
def healthOf (w : BitVec 1920) : Msg :=
  .health (BitVec.ofNat 48 (fld w 0 48)) (fld w 48 4) (fld w 52 2) (fld w 54 2) (fld w 56 7) (fld w 64 7)

/-- A cap flit's 8 bytes (Table 14-3). -/
def capBytes (cap : BitVec 7) (frame : FrameNo) (pkg : Nat) : List Byte :=
  bytesLE 8 (packed [(0, cap.toNat), (8, frame.toNat), (56, pkg)])

/-- Bytes a flit's payload holds (R310). -/
def payloadBytes : Nat := 240

/-- The 16 header bytes of a CREDIT_DATA message and its data (R354). -/
def creditBytes (sheaf src channel : Nat) (bs : List Byte) : List Byte :=
  bytesLE 16 (packed [(0, sheaf), (12, src), (24, channel), (32, bs.length)]) ++ bs

/-- The CREDIT_DATA message that payload bytes carry: its channel, its flits and its data, as long as its header says
(R354). -/
def creditOf (flits : List (List Byte)) : Msg :=
  let bs := flits.flatMap id
  let w := payloadOf (bs.take 16)
  .creditData (fld w 24 4) flits.length ((bs.drop 16).take (fld w 32 16))

/-! ### Messages as flits -/

/-- TYPE of a message (Table 11-4). A WIDTH message is a LINKCTL flit on its port and a NOTICE by another path (R325). -/
def Msg.type (routed : Bool) : Msg → Nat
  | .marker _ => 3
  | .kill .. => 4
  | .dozeReq | .dozeAck | .wake | .capSet .. | .capAck .. => 5
  | .beacon _ | .hello _ => 6
  | .planRecord _ => 7
  | .width .. => if routed then 8 else 9
  | .nak _ | .txeq .. | .tstamp => 9
  | .creditData .. => 2
  | _ => 8

/-- SUBTYPE of a one-flit message (Table 11-4, R351 to R354, R402). Those of the notices for which the owning chapter
assigns none are free (log entry 8). -/
def Msg.sub (routed : Bool) : Msg → Nat
  | .marker _ | .kill .. | .planRecord _ | .creditData .. => 0
  | .dozeReq => 1 | .dozeAck => 2 | .wake => 3 | .capSet .. => 0x10 | .capAck .. => 0x11
  | .beacon _ => 1 | .hello _ => 3
  | .nak _ => 1 | .tstamp => 2 | .txeq .. => 3
  | .width .. => if routed then Config.noticeSubtype 0 else 4
  | .health .. => 0x80 | .creditReturn _ => 0x81
  | .overrun .. => Config.noticeSubtype 1 | .spanHold .. => Config.noticeSubtype 2
  | .flowDeclare .. | .flowWithdraw .. | .flowQuery .. | .flowResult .. | .flowAnswer .. | .flowFreed .. => Config.noticeSubtype 3
  | .groupReady .. | .groupActive .. | .groupFail .. | .groupWatchdog .. | .groupLoss .. | .groupMismatch .. | .groupRepair .. =>
    Config.noticeSubtype 4
  | .periodProposal .. | .periodAck _ => Config.noticeSubtype 5
  | .spanJoin .. | .spanRefuse .. | .leaveAsk .. | .leaveReply .. | .spanActive .. | .spanEnd _ | .spanDead _ | .spanDeadAck .. =>
    Config.noticeSubtype 6
  | .leadTakeover .. | .leadReply .. => Config.noticeSubtype 7

/-- The payload bytes of a one-flit message whose layout the spec gives; none where it gives none. A message that carries
nothing has no payload byte. -/
def Msg.bytes : Msg → Option (List Byte)
  | .marker m => some m.bytes
  | .kill f c o t sp => some (killBytes f c o t sp)
  | .hello h => some h.bytes
  | .health f p h w k n => some (healthBytes f p h w k n)
  | .creditReturn n => some (bytesLE 1 (n % 128))
  | .capSet c f k | .capAck c f k => some (capBytes c f k)
  | .dozeReq | .dozeAck | .wake | .nak _ => some []
  | _ => none

/-- A message's flits in order, with the payload of each (R250, R311, R337, R354). `draw`: the number of the free value
that an open payload is. -/
def Msg.payloads (routed : Bool) (sheaf src draw : Nat) (m : Msg) : List (Nat × List Byte) :=
  match m with
  | .beacon b => (1, b.header) :: (List.range 7).map (fun j => (2, b.entryBytes j))
  | .planRecord r => (0, r.header) :: (chunks entriesPerFlit r.flits r.entries).map (fun es => (0, es.flatMap PlanEntry.bytes))
  | .creditData ch n bs => (chunks payloadBytes n (creditBytes sheaf src ch bs)).map (fun p => (0, p))
  | m => [(m.sub routed, m.bytes.getD (bytesLE payloadBytes (Config.payload draw).toNat))]

/-- The flits of a message from a package: to a package, or LOCAL (R310, R311). LEN counts the bytes the payload's layout
names (log entry 127). -/
def Msg.flits (m : Msg) (dst : Option Nat) (sheaf src draw : Nat) (frameLo : BitVec 8) : List Flit :=
  let ps := m.payloads dst.isSome sheaf src draw
  ((List.range ps.length).zip ps).map (fun x => {
    type := m.type dst.isSome, first := x.1 = 0, last := x.1 + 1 = ps.length, src := src, dst := dst, sub := x.2.1
    len := min payloadBytes x.2.2.length, frameLo := frameLo, bytes := x.2.2
    said := if m.bytes.isSome || ps.length != 1 then .nothing else .msg m })

/-- The message that one flit carries, by its type and subtype, and for a payload the spec does not lay out by what it is
said to mean; a plan record without entries is its header flit alone (R250). -/
def Flit.msg (f : Flit) : Option Msg :=
  let w := payloadOf f.bytes
  let told : Option Msg := match f.said with
    | .msg m => if m.bytes.isNone && m.type f.dst.isSome == f.type then some m else none
    | _ => none
  match f.type, f.sub with
  | 3, _ => some (.marker (markerOf w))
  | 4, _ => some (killOf w)
  | 5, 1 => some .dozeReq
  | 5, 2 => some .dozeAck
  | 5, 3 => some .wake
  | 5, 0x10 => some (.capSet (BitVec.ofNat 7 (fld w 0 7)) (BitVec.ofNat 48 (fld w 8 48)) (fld w 56 7))
  | 5, 0x11 => some (.capAck (BitVec.ofNat 7 (fld w 0 7)) (BitVec.ofNat 48 (fld w 8 48)) (fld w 56 7))
  | 5, _ => none
  | 6, 3 => some (.hello (helloOf w))
  | 7, _ => (planRecordOf f.bytes []).map .planRecord
  | 2, _ => some (creditOf [f.bytes])
  | 8, 0x80 => some (healthOf w)
  | 8, 0x81 => some (.creditReturn (fld w 0 7))
  | _, _ => told

/-- The message that flits FIRST to LAST carry (R348). -/
def msgOf : List Flit → Option Msg
  | [] => none
  | [f] => f.msg
  | f :: rest =>
    match f.type with
    | 6 => (beaconOf f.bytes (rest.map (·.bytes))).map .beacon
    | 7 => (planRecordOf f.bytes (rest.map (·.bytes))).map .planRecord
    | 2 => some (creditOf ((f :: rest).map (·.bytes)))
    | _ => none

/-! ### The 256 bytes (R310) -/

/-- The 12 header bytes of a flit sent with a SEQ and an acknowledgement (Table 11-3). -/
def Flit.header (seq : BitVec 12) (ack : Option (BitVec 12)) (f : Flit) : List Byte :=
  bytesLE 12 (packed [(0, f.type), (4, b2n f.first), (5, b2n f.last), (6, b2n ack.isSome), (8, seq.toNat),
    (20, (ack.getD 0).toNat), (32, f.src), (40, f.dst.getD 0), (47, b2n f.dst.isNone), (48, f.sub), (58, f.slot), (70, f.len),
    (80, f.part), (84, f.hops), (88, f.frameLo.toNat)])

/-- A flit's 256 bytes, its CRC-32C last (R310). -/
def Flit.wire (seq : BitVec 12) (ack : Option (BitVec 12)) (f : Flit) : List Byte :=
  let bs := f.header seq ack ++ (f.bytes ++ List.replicate (payloadBytes - f.bytes.length) 0).take payloadBytes
  bs ++ bytesLE 4 (crc32c bs).toNat

/-- A flit as it arrives: the flit, its SEQ and the acknowledgement it returns. -/
structure Arrival where
  flit : Flit
  seq : BitVec 12
  ack : Option (BitVec 12)
  deriving DecidableEq, Repr

/-- The 256 bytes of a flit: its header, its payload and its CRC (Table 11-3). -/
def flitBits (head : BitVec 96) (payload : BitVec 1920) (crc : BitVec 32) : BitVec 2048 := crc ++ payload ++ head

/-- The flit that 256 received bytes are; none where the CRC fails, the TYPE is reserved or a reserved bit of the header is
not 0 (R310, R311). -/
def flitOf (raw : BitVec 2048) (said : Said) : Option Arrival :=
  let bs := bytesLE 256 raw.toNat
  let good := (crc32c (bs.take 252)).toNat == fld raw 2016 32
  if !good || 10 < fld raw 0 4 || bit raw 7 || bit raw 39 || fld raw 78 2 != 0 then none
  else some {
    flit := {
      type := fld raw 0 4, first := bit raw 4, last := bit raw 5, src := fld raw 32 7
      dst := if bit raw 47 then none else some (fld raw 40 7), sub := fld raw 48 10, slot := fld raw 58 12, len := fld raw 70 8
      part := fld raw 80 4, hops := fld raw 84 4, frameLo := BitVec.ofNat 8 (fld raw 88 8)
      bytes := (bs.drop 12).take payloadBytes, said := said }
    seq := BitVec.ofNat 12 (fld raw 8 12), ack := if bit raw 6 then some (BitVec.ofNat 12 (fld raw 20 12)) else none }

end Sys2Proof.Machine
end

