-- ==== Sys2Proof/Machine/Line.lean ====
section
/-! DEFINITION. Below the flits (11.2, 11.3): scrambling and the dealing of symbols to the active lanes (R302), the
RS(544,514) encoder of a lane, and alignment markers (R304, R305), those of trains among them (R320, R329). -/

namespace Sys2Proof.Machine

open Sys2Proof

/-! ### The lanes of a port -/

/-- The lanes a width keeps active. -/
def Width.lanes : Width → List Nat
  | .full => [0, 1, 2, 3, 4, 5, 6, 7]
  | .low => [0, 1, 2, 3]
  | .high => [4, 5, 6, 7]
  | .none => []

/-- The mask of a list of lanes. -/
def laneMask (ls : List Nat) : BitVec 8 := ls.foldl (fun a l => a ||| (1 <<< l)) 0

/-! ### The scrambler x^58 + x^39 + 1 (R302) -/

/-- One bit through the self-synchronous scrambler: bit i of the state is the line bit sent i + 1 bits ago. -/
def scrambleBit (x : BitVec 58 × List Bool) (b : Bool) : BitVec 58 × List Bool :=
  let out := (b ^^ bit x.1 38) ^^ bit x.1 57
  ((x.1 <<< 1) ||| BitVec.ofNat 58 (b2n out), out :: x.2)

/-- The bits of a byte, least significant first. -/
def byteBits (b : Byte) : List Bool := (List.range 8).map (fun i => bit b i)

/-- The number whose bits, least significant first, are given. -/
def ofBits (bs : List Bool) : Nat := bs.foldr (fun b n => b2n b + 2 * n) 0

/-! ### RS(544,514) over GF(2^10) (R302; the field and the generator of IEEE 802.3 Clause 91, PRESUMED, log entry 128) -/

/-- α times an element: the field polynomial is x^10 + x^3 + 1. -/
def gfDouble (a : Nat) : Nat := if a < 512 then 2 * a else (2 * a - 1024) ^^^ 9

/-- The product of two elements, by the bits of the second. -/
def gfMul (a b : Nat) : Nat :=
  ((List.range 10).foldl (fun (x : Nat × Nat) i =>
    (if b / 2 ^ i % 2 = 1 then x.1 ^^^ x.2 else x.1, gfDouble x.2)) (0, a)).1

/-- α to a power. -/
def gfPow (k : Nat) : Nat := (List.range k).foldl (fun a _ => gfDouble a) 1

/-- A polynomial times x + c; the coefficient of the highest power stands first. -/
def polyTimes (c : Nat) (p : List Nat) : List Nat :=
  List.zipWith (fun a b => a ^^^ gfMul c b) (p ++ [0]) (0 :: p)

/-- The generator polynomial of 30 roots α^0 to α^29. -/
def rsGenerator : List Nat := (List.range 30).foldl (fun p i => polyTimes (gfPow i) p) [1]

/-- One message symbol through the division by the generator: the 30 symbols of the remainder so far. -/
def rsStep (g : List Nat) (r : List Nat) (m : Nat) : List Nat :=
  let f := m ^^^ r.headD 0
  List.zipWith (fun a c => a ^^^ gfMul f c) (r.drop 1 ++ [0]) g

/-- Symbols of a codeword and of its message (R302). -/
def codewordSymbols : Nat := 544

/-- Symbols of a codeword's message (R302). -/
def messageSymbols : Nat := 514

/-- The codeword of a message: its symbols, the first sent first, then the 30 of parity. -/
def rsEncode (m : List (BitVec 10)) : List (BitVec 10) :=
  m ++ ((m.map BitVec.toNat).foldl (rsStep (rsGenerator.drop 1)) (List.replicate 30 0)).map (BitVec.ofNat 10)

/-- Bytes of a codeword on its lane. -/
def codewordBytes : Nat := 680

/-- The bytes of symbols on a lane, each symbol least significant bit first. -/
def symbolBytes (ss : List (BitVec 10)) : List Byte :=
  let bits := ss.flatMap (fun x => (List.range 10).map (fun i => bit x i))
  (chunks 8 (bits.length / 8) bits).map (fun b => BitVec.ofNat 8 (ofBits b))

/-- The BIP-8 of bytes from an even parity so far: bit i is the parity of the bits at positions i mod 8 (R305). -/
def bip8 (p : BitVec 8) (bs : List Byte) : BitVec 8 := bs.foldl (fun a b => a ^^^ b) p

/-! ### Alignment markers (R304 to R306, Table 11-1) -/

/-- The fixed pattern of a marker. -/
def markerPattern : Nat := 0xD24B78E10F96A53C

/-- A marker's 16 bytes as a number: LANE, TRAIN, HALF, COUNTER, BIP and the complement of all four (Table 11-1). -/
def alignmentMarker (lane : Nat) (train half : Bool) (counter : BitVec 16) (bip : BitVec 8) : BitVec 128 :=
  let fields := packed [(0, lane), (3, b2n train), (4, b2n half), (8, counter.toNat), (24, bip.toNat)]
  BitVec.ofNat 128 (packed [(0, markerPattern), (64, fields), (96, 2 ^ 32 - 1 - fields)])

/-- A marker is valid when PATTERN and INVERT match (R306). -/
def markerValid (raw : BitVec 128) : Bool :=
  fld raw 0 64 == markerPattern && fld raw 96 32 == 2 ^ 32 - 1 - fld raw 64 32

/-- The COUNTER of a marker. -/
def markerCounter (raw : BitVec 128) : BitVec 16 := BitVec.ofNat 16 (fld raw 72 16)

/-- The TRAIN bit of a marker. -/
def markerTrain (raw : BitVec 128) : Bool := bit raw 67

/-- Codewords between two markers, after one with a TRAIN bit (R306). -/
def markerSpacing (train : Bool) : Nat := if train then 16 else 16384

/-! ### The transmit side -/

/-- Sends a marker on each of the lanes, after the line bits each has carried since its last one (R304, R305). -/
def LineTx.markers (lanes : List Nat) (half train : Bool) (x : LineTx) : LineTx :=
  { x with
    words := 0, counter := x.counter + 1, parity := []
    sent := x.sent ++ lanes.map (fun l => (l, .marker (alignmentMarker l train half x.counter (x.parity.get 0 l)))) }

/-- A lane's message is complete: its codeword goes out. -/
def LineTx.codeword (lane : Nat) (m : List (BitVec 10)) (x : LineTx) : LineTx :=
  let c := rsEncode m
  { x with
    symbols := x.symbols.put lane [], parity := x.parity.upd 0 lane (fun p => bip8 p (symbolBytes c))
    sent := x.sent ++ [(lane, .codeword c)] }

/-- Deals one symbol to the next active lane in ascending order. When the last lane completes its codeword the period is
over, and with the 16,384th since the last marker every lane sends a marker (R302, R304). -/
def LineTx.deal (lanes : List Nat) (half : Bool) (x : LineTx) (v : BitVec 10) : LineTx :=
  let l := lanes.getD (x.turn % lanes.length) 0
  let x := { x with turn := (x.turn + 1) % lanes.length }
  let m := x.symbols.get [] l ++ [v]
  if m.length < messageSymbols then { x with symbols := x.symbols.put l m }
  else
    let x := x.codeword l m
    if x.turn != 0 then x
    else if x.words + 1 < markerSpacing false then { x with words := x.words + 1 }
    else x.markers lanes half false

/-- Scrambles bits and deals the symbols they make up. -/
def LineTx.feed (lanes : List Nat) (half : Bool) (bits : List Bool) (x : LineTx) : LineTx :=
  if lanes.isEmpty then x
  else
    let y := bits.foldl scrambleBit (x.scr, [])
    let all := x.bits ++ y.2.reverse
    let n := all.length / 10
    ((chunks 10 n all).map (fun b => BitVec.ofNat 10 (ofBits b))).foldl (LineTx.deal lanes half)
      { x with scr := y.1, bits := all.drop (10 * n) }

/-- Sends a flit's bytes, each least significant bit first. -/
def LineTx.flit (lanes : List Nat) (half : Bool) (bs : List Byte) (x : LineTx) : LineTx :=
  x.feed lanes half (bs.flatMap byteBits)

/-- A train (R320, R329): `n` markers with TRAIN = 1 with 16 codewords of scrambled zeros after each, and the closing
marker. What the lanes had of a codeword before is left, and the data after the closing marker begins a flit. -/
def LineTx.trainOf (lanes : List Nat) (half : Bool) (n : Nat) (x : LineTx) : LineTx :=
  let zeros := List.replicate (10 * messageSymbols * lanes.length * markerSpacing true) false
  let x := (List.range n).foldl (fun (x : LineTx) _ => (x.markers lanes half true).feed lanes half zeros)
    { x with bits := [], turn := 0, symbols := [], words := 0 }
  x.markers lanes half false

end Sys2Proof.Machine
end

