-- ==== Sys2Proof/Machine/Net.lean ====
section
/-! DEFINITION. The torus (R333), sending on a port with sequence numbers and replay buffers (R313 to R317), doze and wake
requests (R328), the routing of control flits (R347, R348, R350), and beacons (R337, R338, R340). -/

namespace Sys2Proof.Machine

/-! ### The torus (Table 12-1) -/

/-- The coordinate of an identifier x + 8y + 32z. -/
def coord (k : Nat) : Nat × Nat × Nat := (k % 8, k / 8 % 4, k / 32 % 4)

/-- The identifier of a coordinate. -/
def pkgAt (x y z : Nat) : Nat := x + 8 * y + 32 * z

/-- The neighbour of package `me` on a torus port (Table 12-1). -/
def neighbour (me port : Nat) : Nat :=
  let c := coord me
  match port / 2 with
  | 0 => pkgAt ((c.1 + 1) % 8) c.2.1 c.2.2
  | 1 => pkgAt ((c.1 + 7) % 8) c.2.1 c.2.2
  | 2 => pkgAt c.1 ((c.2.1 + 1) % 4) c.2.2
  | 3 => pkgAt c.1 ((c.2.1 + 3) % 4) c.2.2
  | 4 => pkgAt c.1 c.2.1 ((c.2.2 + 1) % 4)
  | _ => pkgAt c.1 c.2.1 ((c.2.2 + 3) % 4)

/-- The far port of a torus port (Table 12-1): + meets −, a meets a, b meets b. -/
def farPort (port : Nat) : Nat := if port / 2 % 2 = 0 then port + 2 else port - 2

/-- Hops round a ring of n from a to b, the shorter way. -/
def ringDist (n a b : Nat) : Nat := min ((b + n - a) % n) ((a + n - b) % n)

/-- Hops between two packages in a whole torus. -/
def torusDist (a b : Nat) : Nat :=
  let x := coord a
  let y := coord b
  ringDist 8 x.1 y.1 + ringDist 4 x.2.1 y.2.1 + ringDist 4 x.2.2 y.2.2

/-- The primary port toward package k: the dimension-order route on a-links (R347). -/
def primaryPort (me k : Nat) : Option Nat :=
  [0, 2, 4, 6, 8, 10].find? (fun p => torusDist (neighbour me p) k + 1 == torusDist me k)

/-! ### Lanes and ports -/

/-- Lane l of a port. -/
def Port.lane (l : Nat) (p : Port) : Lane := p.lanes.get {} l

/-- Changes lane l of a port. -/
def Port.updLane (l : Nat) (f : Lane → Lane) (p : Port) : Port := { p with lanes := p.lanes.upd {} l f }

/-- `PLK.STATE.LOCKED`. -/
def Port.lockedMask (p : Port) : BitVec 8 :=
  laneMask ((List.range 8).filter (fun l => (p.lane l).lock = .locked))

/-- The active lanes are deskewed: markers of one COUNTER arrive within 100 ns, and every lane is at the same COUNTER, or some
have had the next one and the others not yet (R301, R308). -/
def Port.deskewed (p : Port) : Bool :=
  let ls := p.width.lanes.map (fun l => p.lane l)
  let a := ((ls.head?).map (·.place)).getD 0
  ls.all (fun l => decide (l.skew ≤ 100)) && [a, a - 1].any (fun b => ls.all (fun l => l.place == b || l.place == b + 1))

/-- A port is locked when every active lane is LOCKED and deskewed (R308). -/
def Port.locked (p : Port) : Bool :=
  p.width != .none && p.width.lanes.all (fun l => (p.lane l).lock = .locked) && p.deskewed

/-- A port is UP only while it is locked (R309); a retired port never is. -/
def Port.up (p : Port) : Bool := p.link = .up && p.locked && p.health != .retired

/-- `PLK.STATE` (Table 11-9). -/
def Port.stateWord (p : Port) : W64 :=
  word [(0, p.health.code), (2, p.width.code), (4, p.link.code), (7, b2n p.burst), (8, p.lockedMask.toNat),
    (16, p.retiredLanes.toNat), (24, b2n p.frozen), (25, b2n p.probation)]

/-- `PLK.ERR` (Table 11-9). -/
def Port.errWord (p : Port) : W64 :=
  word [(0, p.crcFail.toNat), (16, p.replays.toNat), (32, p.exhaust.toNat), (40, p.retrains.toNat),
    (48, p.bursts.toNat), (56, p.falseLock.toNat)]

/-! ### Sending a flit (R310, R313, R315) -/

/-- A control flit (Table 11-4). -/
def Flit.control (f : Flit) : Bool := decide (3 ≤ f.type) && decide (f.type ≤ 8)

/-- A data flit: CELL or CREDIT_DATA (Table 11-4). -/
def Flit.data (f : Flit) : Bool := f.type = 1 || f.type = 2

/-- Order of the port arbiter (R313): MARKER, KILL, POWER, BEACON, NOTICE, PLAN, then cells, then CREDIT_DATA. -/
def Flit.prio (f : Flit) : Nat :=
  match f.type with
  | 3 => 0 | 4 => 1 | 5 => 2 | 6 => 3 | 8 => 4 | 7 => 5 | 1 => 6 | _ => 7

/-- Puts a flit behind those of its priority and of higher ones (R313). -/
def insertFlit (f : Flit) : List Flit → List Flit
  | [] => [f]
  | g :: t => if f.prio < g.prio then f :: g :: t else g :: insertFlit f t

/-- Changes the transmit side of port i below its flits. -/
def State.updLine (i : Nat) (f : LineTx → LineTx) (s : State) : State :=
  { s with plk := { s.plk with line := s.plk.line.upd {} i f } }

/-- The acknowledgement every flit returns: the SEQ of the last flit accepted (R315). -/
def PortWork.ack (w : PortWork) : Option (BitVec 12) := if w.acks then some (w.rxSeq - 1) else none

/-- The fill between flits (R313). -/
def idleFlit (self : Nat) : Flit := { type := 0, src := self }

/-- Sends a flit: idle flits fill the lanes until it begins (R313), and its 256 bytes are scrambled and dealt to the active
lanes (R302). How many idle flits there are is time, a free value. -/
def State.sendLine (i : Nat) (seq : BitVec 12) (ack : Option (BitVec 12)) (f : Flit) (s : State) : State :=
  let w := (s.port i).width
  let bs := f.wire seq ack
  let fill := (idleFlit s.self).wire 0 (s.work i).ack
  let n := s.takeFree
  (n.2.updLine i (fun x =>
    ((List.range (Config.idleFlits n.1)).foldl (fun x _ => x.flit w.lanes (w != .full) fill) x).flit w.lanes (w != .full)
      bs)).emit (.flit i f bs)

/-- An idle flit returns the acknowledgement where nothing else leaves (R313, R315). -/
def State.sendIdle (i : Nat) (s : State) : State := s.sendLine i 0 (s.work i).ack (idleFlit s.self)

/-- The flits of a message of this package. An open payload is a free value, drawn once for the message. -/
def State.flitsOf (dst : Option Nat) (m : Msg) (s : State) : List Flit × State :=
  let n := s.takeFree
  (m.flits dst s.fab.sheaf.toNat s.self n.1 (BitVec.ofNat 8 s.frm.count.toNat), n.2)

/-- Sends a LINKCTL flit, which has no SEQ (R311, R313); a NAK names the SEQ it expects in ACK_SEQ (R316). -/
def State.sendLinkctl (i : Nat) (m : Msg) (s : State) : State :=
  let fs := s.flitsOf none m
  let ack : Option (BitVec 12) := match m with
    | .nak q => some q
    | _ => (s.work i).ack
  fs.1.foldl (fun s f => s.sendLine i 0 ack f) fs.2

/-- A port carries a flit: it is UP; in QUARANTINE no data (R324), while MISWIRED beacons and hellos only (R336). -/
def State.carries (i : Nat) (f : Flit) (s : State) : Bool :=
  (s.port i).up && !(f.data && (s.port i).health = .quarantine) && (!(s.fab.nbrs.get {} i).miswired || f.type = 6)

/-- The port can send this flit now: it carries it, and the replay buffer keeps within 512 flits (R315). -/
def State.canTx (i : Nat) (f : Flit) (s : State) : Bool := s.carries i f && decide ((s.work i).replay.length < 512)

/-- Gives the flit the next SEQ, keeps it for replay and sends it (R315). -/
def State.txNow (i : Nat) (f : Flit) (s : State) : State :=
  let w := s.work i
  (s.sendLine i w.txSeq w.ack f).updWork i (fun w => { w with txSeq := w.txSeq + 1, replay := w.replay ++ [(w.txSeq, f, 0)] })

/-- The flit counts as traffic for the doze condition: data or control, but neither a marker, a beacon nor a part of the
doze exchange (R327, log entry 9). -/
def Flit.traffic (f : Flit) : Bool :=
  f.data || f.control && !(f.type = 3 || f.type = 6 || f.type = 5 && decide (f.sub ≤ 3))

/-- Sends a flit, or queues it for the port in arbiter order (R313). -/
def State.txRaw (i : Nat) (f : Flit) (s : State) : State :=
  if (s.work i).queue.isEmpty && s.canTx i f then s.txNow i f
  else s.updWork i (fun w => { w with queue := insertFlit f w.queue })

/-- Sends or queues a message for the package at the other end of the link (R311). -/
def State.txLocal (i : Nat) (m : Msg) (s : State) : State :=
  let fs := s.flitsOf none m
  fs.1.foldl (fun s f => s.txRaw i f) fs.2

/-- A doze handshake is in progress at this end of the port. -/
def PortWork.dozing (w : PortWork) : Bool := w.sentReq || w.gotReq || w.sentAck || w.gotAck

/-- The waking end sends a train of 4 TRAIN markers and the closing marker (R329). -/
def State.wakeTrain (i : Nat) (s : State) : State :=
  let w := (s.port i).width
  s.updLine i (fun x => x.trainOf w.lanes (w != .full) 4)

/-- A wake request at this end of a port (R328, R329). -/
def State.wakePort (i : Nat) (s : State) : State :=
  let p := s.port i
  let w := s.work i
  match p.link with
  | .doze => (s.updPort i (fun p => { p with link := .waking })).wakeTrain i
  | .dozeEntry => s.updWork i (fun w => { w with wakeLatched := true })
  | .up =>
    if w.dozing && !w.sentWake then
      (s.updWork i (fun w => { w with sentWake := true, wakeLatched := w.sentAck })).txLocal i .wake
    else s
  | _ => s

/-- Sends or queues a flit on a port; a queued flit of any type but MARKER is a wake request (R328). -/
def State.tx (i : Nat) (f : Flit) (s : State) : State :=
  let s := if f.traffic then s.updWork i (fun w => { w with idle := 0 }) else s
  let s := if f.traffic then s.wakePort i else s
  s.txRaw i f

/-- Sends or queues the flits of a message for the package at the other end of the link, as traffic of the port. -/
def State.txMsg (i : Nat) (m : Msg) (s : State) : State :=
  let fs := s.flitsOf none m
  fs.1.foldl (fun s f => s.tx i f) fs.2

/-- Sends queued flits while the port can take them, in arbiter order (R313). -/
def pumpLoop (i : Nat) : Nat → State → State
  | 0, s => s
  | n + 1, s =>
    match (s.work i).queue with
    | [] => s
    | f :: t =>
      if s.canTx i f then pumpLoop i n ((s.updWork i (fun w => { w with queue := t })).txNow i f) else s

/-- Sends what waits for a port. -/
def State.pump (i : Nat) (s : State) : State := pumpLoop i (s.work i).queue.length s

/-! ### Routing of control flits (R347) -/

/-- What the package knows of the neighbour on a torus port. -/
def State.nbr (i : Nat) (s : State) : Neighbour := s.fab.nbrs.get {} i

/-- Changes what the package knows of the neighbour on a port. -/
def State.updNbr (i : Nat) (f : Neighbour → Neighbour) (s : State) : State :=
  s.updFab (fun g => { g with nbrs := g.nbrs.upd {} i f })

/-- A torus port is control-capable (R347). -/
def State.capable (i : Nat) (s : State) : Bool :=
  decide (i < 12) && (s.port i).up && !(s.nbr i).miswired &&
    match (s.nbr i).beacon with
    | some b => !b.halted && decide ((s.nbr i).rounds ≤ 8)
    | none => false

/-- Hops to package k through port i by the last beacon of the neighbour. -/
def State.cost (k i : Nat) (s : State) : Nat :=
  match (s.nbr i).beacon with
  | some b => ((b.entries.get {} k).dist).toNat + 1
  | none => 16

/-- The control-capable port with the least distance below 15, the lowest number on a tie (R347). -/
def State.route (k : Nat) (s : State) : Option Nat :=
  ((List.range 12).filter (fun i => s.capable i && decide (s.cost k i < 15))).foldl
    (fun best i => match best with
      | none => some i
      | some j => if s.cost k i < s.cost k j then some i else some j) none

/-- The own distance table entry of package k (R340): 0 for itself. -/
def State.distTo (k : Nat) (s : State) : Nat := if k = s.self then 0 else ((s.fab.dist.get {} k).dist).toNat

/-- Discards a control flit and logs it with its type, SRC and DST (R347). -/
def State.discardFlit (port : Nat) (f : Flit) (s : State) : State :=
  (s.updFab (fun g => { g with discarded := satAdd g.discarded 1 })).logEvent 0x0702 .none none
    [(0, port), (4, f.type), (8, f.src), (15, f.dst.getD 0)]

/-- A flit whose path the originator records: a kill notice, a span-hold, a plan record header (R350). -/
def Flit.recorded (f : Flit) : Bool :=
  f.type = 4 || f.type = 7 && f.first || (match f.said with
    | .msg (.spanHold ..) => true
    | _ => false)

/-- The record of an alternate path taken by a flit of this package: counted always, logged for kill notices, span-holds
and plan record headers (R350). -/
def State.countAlternate (port : Nat) (f : Flit) (s : State) : State :=
  if f.src != s.self then s
  else
    let s := s.updFab (fun g => { g with alternate := satAdd g.alternate 1 })
    if f.recorded then s.log 0x0800 [(0, f.type), (4, f.dst.getD 0), (11, port)] else s

/-- What a message of several flits is known by on its way (R348). -/
def Flit.way (f : Flit) : Nat × Nat × Nat := (f.src, f.type, f.dst.getD 0)

/-- The port of a control flit addressed to a package: the least-distance capable one; a flit after the FIRST of a message
follows that one's port while it stays capable (R347, R348). -/
def State.portFor (f : Flit) (s : State) : Option Nat :=
  let k := f.dst.getD 0
  match if f.first then none else (s.fab.follow.find? (fun x => x.1 == f.way)).map (·.2) with
  | some i => if s.capable i && decide (s.cost k i < 15) then some i else s.route k
  | none => s.route k

/-- Remembers the port of a message's flit for those that come after it (R348). -/
def State.noteWay (i : Nat) (f : Flit) (s : State) : State :=
  s.updFab (fun g => { g with
    follow := g.follow.filter (fun x => x.1 != f.way) ++ (if f.last then [] else [(f.way, i)]) })

/-- Sends a control flit toward its destination; it waits while no port can carry it and its distance is finite, and is
discarded otherwise (R347, R350). -/
def State.sendFlit (f : Flit) (s : State) : State :=
  match s.portFor f with
  | some i =>
    let s := s.noteWay i f
    let s := if primaryPort s.self (f.dst.getD 0) = some i then s else s.countAlternate i f
    s.tx i f
  | none =>
    if s.distTo (f.dst.getD 0) < 15 then s.updFab (fun g => { g with waiting := g.waiting ++ [f] })
    else s.discardFlit 15 f

/-- Originates a message to a package. One to the package itself is received by the row of its receipt, like any other
(log entry 10); a halted package originates nothing (R341). -/
def State.send (dst : Nat) (m : Msg) (s : State) : State :=
  if s.fab.election = .halted then s
  else
    let s := s.emit (.send dst m)
    if dst = s.self then s
    else
      let fs := s.flitsOf (some dst) m
      fs.1.foldl (fun s f => s.sendFlit f) fs.2

/-- Originates a message to several packages. -/
def State.sendAll (dsts : List Nat) (m : Msg) (s : State) : State := dsts.foldl (fun s k => s.send k m) s

/-- Sends again what waited for a capable port (R347). -/
def State.retryWaiting (s : State) : State :=
  let ws := s.fab.waiting
  ws.foldl (fun s f => s.sendFlit f) (s.updFab (fun g => { g with waiting := [] }))

/-- A port hands a control flit back to the fabric: one that names a package goes by the alternate path, a direct marker
with its neighbour as destination (R314, R349). A flit for the package at the other end alone has no other path and waits
for the port (log entry 9). A flit of this package is counted (R350). -/
def State.handBack (i : Nat) (f : Flit) (s : State) : State :=
  let s := if f.src = s.self then s.updFab (fun g => { g with alternate := satAdd g.alternate 1 }) else s
  match f.dst with
  | some _ => s.sendFlit f
  | none =>
    if f.type = 3 && decide (i < 12) then s.sendFlit { f with dst := some (neighbour s.self i) }
    else s.updWork i (fun w => { w with queue := insertFlit f w.queue })

/-- Hands back the control flits that wait for a port (R314). -/
def State.handBackQueue (i : Nat) (s : State) : State :=
  let fs := (s.work i).queue.filter Flit.control
  fs.foldl (fun s f => s.handBack i f) (s.updWork i (fun w => { w with queue := w.queue.filter (fun f => !f.control) }))

/-- Withdraws the control flits of a port that leaves UP: those unacknowledged in the replay buffer leave a VOID under
their SEQ, and all of them go back to the fabric, with those that wait (R314, R317). -/
def State.withdraw (i : Nat) (s : State) : State :=
  let void : Flit := { type := 10, src := s.self }
  let w := s.work i
  let fs := (w.replay.map (fun r => r.2.1) ++ w.queue).filter Flit.control
  let s := s.updWork i (fun w => { w with
    replay := w.replay.map (fun r => if r.2.1.control then (r.1, void, r.2.2) else r)
    queue := w.queue.filter (fun f => !f.control) })
  fs.foldl (fun s f => s.handBack i f) s

/-! ### Beacons -/

/-- Keys rank by preference, then by lower identifier (R50, R339). -/
def Key.better (a b : Key) : Bool :=
  decide (b.pref.toNat < a.pref.toNat) || (a.pref == b.pref && decide (a.pkg.toNat < b.pkg.toNat))

/-- Inserts a key in rank order. -/
def insertKey (k : Key) : List Key → List Key
  | [] => [k]
  | h :: t => if k.better h then k :: h :: t else h :: insertKey k t

/-- This package's own key, ORIGIN its current round (R339). -/
def State.ownKey (s : State) : Key :=
  { pref := s.frm.pref, pkg := BitVec.ofNat 7 s.self, origin := s.fab.round }

/-- The key list, best first: the own key unless the package is halted or its identifier carries DUP, and the keys held
(R339). -/
def State.keyList (s : State) : List Key :=
  let own := if s.fab.election = .halted || (s.fab.dist.get {} s.self).dup then [] else [s.ownKey]
  (own ++ s.fab.keys.map (·.1)).foldl (fun l k => insertKey k l) []

/-- The package is master, LOCKED or in HOLDOVER. -/
def State.synced (s : State) : Bool :=
  s.frm.role = .master || s.frm.state = .locked || s.frm.state = .holdover

/-- The election of this package is closed. -/
def State.closed (s : State) : Bool := s.fab.election = .closed || s.fab.election = .standalone

/-- The beacon for a port (R337, R340): distance 15 for every identifier whose table entry records the port; a halted
package advertises only itself (R341). -/
def State.beaconFor (i : Nat) (s : State) : Beacon :=
  { serial := s.fuse.serial, pkg := BitVec.ofNat 7 s.self, port := BitVec.ofNat 4 i, pref := s.frm.pref
    sheaf := s.fab.sheaf, round := s.fab.round, closed := s.closed, synced := s.synced
    halted := s.fab.election = .halted
    keys := if s.fab.election = .halted then [] else s.keyList.take 4
    entries := (List.range 128).foldl (fun t k =>
      if k = s.self then t.put k { serial := s.fuse.serial, dist := 0, dup := (s.fab.dist.get {} k).dup }
      else if s.fab.election = .halted then t
      else
        let e := s.fab.dist.get {} k
        if e.serial = 0 && e.dist = 15 && !e.dup then t
        else t.put k { serial := e.serial, dist := if e.port.toNat = i then 15 else e.dist, dup := e.dup }) [] }

/-- Sends a beacon on every UP torus port (R338). -/
def State.sendBeacons (s : State) : State :=
  ((List.range 12).filter (fun i => (s.port i).up)).foldl
    (fun s i => s.txMsg i (.beacon (s.beaconFor i))) s

/-! ### Spans and leads -/

/-- The span of an identifier at this package. -/
def State.span? (id : BitVec 16) (s : State) : Option Span := s.ten.spans.find? (fun x => x.id == id)

/-- Changes a span. -/
def State.updSpan (id : BitVec 16) (f : Span → Span) (s : State) : State :=
  { s with ten := { s.ten with spans := s.ten.spans.map (fun x => if x.id == id then f x else x) } }

/-- Changes the planner's record of a span led here. -/
def State.updLead (id : BitVec 16) (f : LeadSpan → LeadSpan) (s : State) : State :=
  s.updPln (fun p => { p with leads := p.leads.map (fun x => if x.span == id then f x else x) })

/-- Takes the health and width of a port direction into a lead's usable directions, for its next pass (R260, R237). -/
def LeadSpan.takeHealth (pkg port health width : Nat) (l : LeadSpan) : LeadSpan :=
  { l with
    down := if 2 ≤ health || width = 3 then (if l.down.contains (pkg, port) then l.down else l.down ++ [(pkg, port)])
      else l.down.filter (fun x => x != (pkg, port))
    half := if width = 1 || width = 2 then (if l.half.contains (pkg, port) then l.half else l.half ++ [(pkg, port)])
      else l.half.filter (fun x => x != (pkg, port)) }

/-- The package at the far end of a port: the torus neighbour, or what the latest outer hello named (R333, R353). -/
def State.farEnd (i : Nat) (s : State) : Nat :=
  if i < 12 then neighbour s.self i else (s.fab.outer.get {} (i - 12)).farPkg.toNat

/-- Sends the health notice of a port to the lead of every span with a member partition here; a lead that is this
package takes the change directly (R351). -/
def State.healthNotice (i : Nat) (frame : FrameNo) (h : Health) (w : Width) (s : State) : State :=
  s.ten.spans.foldl (fun s x =>
    if x.lead = s.self then s.updLead x.id (fun l => l.takeHealth s.self i h.code w.code)
    else s.send x.lead (.health frame i h.code w.code s.self (s.farEnd i))) s

/-- A change of a port's health or width, effective at the next commit instant: notices, PF0 vector 5 and a record
(R323, R351). -/
def State.setHealth (i : Nat) (h : Health) (w : Width) (s : State) : State :=
  let s := s.updWork i (fun k => { k with nextHealth := some h })
  let s := s.healthNotice i (s.frm.count + 1) h w
  let p := { s.port i with health := h, width := w }
  (s.logEvent 0x0700 .none none [(0, i), (10, p.stateWord.toNat % 2 ^ 26)]).fireVec 0 5

end Sys2Proof.Machine
end

