-- ==== Sys2Proof/Machine/Parent.lean ====
section
/-! DEFINITION. The marker parent (R53, R349): which port a package takes markers from, chosen again whenever lanes are lost
(R57). -/

namespace Sys2Proof.Machine

open Sys2Proof

/-- The a-link port toward the neighbour one hop nearer the master on the master's X, Y, Z route (R53); none at the master
itself. -/
def directParent (master me : Nat) : Option Nat :=
  let a := coord master
  let b := coord me
  let back (size x y port : Nat) : Option Nat :=
    let d := (y + size - x) % size
    if d = 0 then none else if 2 * d ≤ size then some (port + 2) else some port
  match back 4 a.2.2 b.2.2 8 with
  | some p => some p
  | none =>
    match back 4 a.2.1 b.2.1 4 with
    | some p => some p
    | none => back 8 a.1 b.1 0

/-- A port can be a parent: locked lanes and a measured L (R53, R54). -/
def State.parentOk (i : Nat) (s : State) : Bool := (s.port i).locked && (s.port i).latValid && !(s.nbr i).miswired

/-- HOPS of the latest marker of a port's neighbour, from the current or the previous frame and below 15 (R349). The frame
in progress is the own count, and for a package that is not synchronised also the frame of the marker it has just received,
`now`: it has no count of its own yet (R56). -/
def State.markerHops (now : FrameNo) (i : Nat) (s : State) : Option Nat :=
  match (s.nbr i).marker with
  | some (f, h) =>
    if (f == s.frm.count || f + 1 == s.frm.count || (!s.synced || s.frm.role = .standalone) && (f == now || f + 1 == now)) &&
        decide (h.toNat < 15) then some h.toNat else none
  | none => none

/-- The parent port toward a master and whether it is direct (R53, R349). -/
def State.chooseParent (master : Nat) (now : FrameNo) (s : State) : Option (Nat × Bool) :=
  match directParent master s.self with
  | none => none
  | some a =>
    if s.parentOk a then some (a, true)
    else if s.parentOk (a + 1) then some (a + 1, true)
    else
      let best := ((List.range 12).filter (fun i => i != a && i != a + 1 && s.parentOk i)).foldl (fun (b : Option (Nat × Nat)) i =>
        match s.markerHops now i, b with
        | some h, none => some (i, h)
        | some h, some (j, k) => if h < k then some (i, h) else some (j, k)
        | none, b => b) none
      best.map (fun x => (x.1, false))

/-- Logs a change of synchronisation state or role and fires PF0 vector 4 (Table 15-9, R99). -/
def State.syncChanged (s : State) : State :=
  let f := s.frm
  (s.log 0x0100 [(0, f.role.code), (2, f.state.code), (4, f.epoch.toNat), (12, f.master.toNat), (19, f.deputy.toNat),
    (26, f.hops.toNat), (30, f.parent.toNat)]).fireVec 0 4

/-- Logs a takeover, a re-election or a change of the marker parent (Table 15-9). -/
def State.parentChanged (s : State) : State :=
  s.log 0x0101 [(0, s.frm.epoch.toNat), (8, s.frm.master.toNat), (15, s.frm.parent.toNat)]

/-- Takes a synchronisation state. -/
def State.setSync (st : SyncState) (s : State) : State :=
  if s.frm.state = st then s
  else (s.updFrm (fun f => { f with
    state := st, good := 0, bad := 0, lockReady := false, holdFrames := 0 })).syncChanged

/-- The direct ports toward the master doze while neither can be the parent: the a-link is needed as marker parent, which is
a wake request (R328). -/
def State.wakeParent (s : State) : State :=
  match directParent s.frm.master.toNat s.self with
  | none => s
  | some a =>
    if s.parentOk a || s.parentOk (a + 1) then s
    else match [a, a + 1].find? (fun i => (s.port i).link = .doze || (s.port i).link = .dozeEntry) with
      | some i => s.wakePort i
      | none => s

/-- Chooses the parent again (R57); without one a LOCKED package enters HOLDOVER (R349). -/
def State.refreshParent (s : State) : State :=
  if s.frm.role = .master || s.frm.role = .standalone || s.frm.state = .unsync then s
  else
    let p := s.chooseParent s.frm.master.toNat s.frm.count
    let port : BitVec 4 := BitVec.ofNat 4 ((p.map (·.1)).getD 15)
    let changed := port != s.frm.parent
    let s := s.updFrm (fun f => { f with parent := port })
    let s := (if changed then s.parentChanged else s).wakeParent
    if p.isNone && s.frm.state = .locked then s.setSync .holdover else s

end Sys2Proof.Machine
end

