-- ==== Sys2Proof/Machine/Command.lean ====
section
/-! DEFINITION. Consumption of one command: when Choesk consumes (R69, R80, R81), the ordered checks (R88), the effect of
partition state by class (R89, Table 3-6), the CONTEXT rule (R122) and the ticket limit (R85). -/

namespace Sys2Proof.Machine

/-- What carrying out a command gives: its outcome at once, or a record later. -/
inductive Reply where
  | done (ws : List W64)
  | fail (oc : Oc) (rs : Reason) (ws : List W64)
  | later
  deriving DecidableEq, Repr

/-- BAD_COMMAND with a reason and no words. -/
def Reply.bad (rs : Reason) : Reply := .fail .badCommand rs []

/-- NO_RESOURCE with a reason and no words. -/
def Reply.none_ (rs : Reason) : Reply := .fail .noResource rs []

/-- A command of Table 3-8 as its owning chapter defines it. -/
structure Spec where
  opcode : BitVec 16
  /-- mailboxes that accept it -/
  permitted : Nat → Bool
  /-- argument bits in use, by word; every other bit is reserved (R82) -/
  allowed : Nat → List W64 → List W64
  /-- arguments in range (step 5 of R88) -/
  inRange : Nat → List W64 → State → Bool := fun _ _ _ => true
  /-- the partition it acts on, none where it is independent of partition state (R89) -/
  part : Nat → List W64 → Option Nat
  cls : Class
  /-- it acts for the context of its CONTEXT field (R122) -/
  acts : List W64 → Bool := fun _ => false
  /-- words of a record that says it was not carried out (R96) -/
  failWords : State → List W64 := fun _ => []
  /-- carrying it out: command, partition, entry with 14 argument words -/
  body : CmdId → Nat → Entry → State → State × Reply

/-- Argument word n. -/
def Entry.arg (n : Nat) (e : Entry) : W64 := e.args.getD n 0

/-- The entry with `v` in the field of `len` bits at bit `lo` of argument word 0: how a row names a mode of its command. -/
def Entry.withMode (lo len v : Nat) (e : Entry) : Entry :=
  { e with
    args := (List.range 14).map (fun n =>
      if n = 0 then e.arg 0 &&& ~~~(maskOf 64 [(lo, len)]) ||| word [(lo, v)] else e.arg n) }

/-- VF mailboxes. -/
def vfOnly (m : Nat) : Bool := decide (1 ≤ m ∧ m ≤ 16)
/-- The PF0 mailbox. -/
def pfOnly (m : Nat) : Bool := m == 0
/-- PF0 and every VF ("Any" of R106). -/
def anyHost (m : Nat) : Bool := decide (m ≤ 16)

/-- The partition of a VF mailbox: VFn serves P(n − 1) (R14). -/
def ownPart (m : Nat) (_ : List W64) : Option Nat := if vfOnly m then some (m - 1) else none

/-- No partition. -/
def noPart (_ : Nat) (_ : List W64) : Option Nat := none

/-- Choesk serves mailboxes: booted, not in recovery, and not between the stop and the resumption of an activation
(R408, R409, R416), nor between the failure of a complex and the takeover (R420). -/
def State.serving (s : State) : Bool :=
  s.mgt.booted && !s.mgt.recovery && s.mgt.act != .restoring && !s.mgt.failoverDue && s.clocked && s.por.bring = .running

/-- The mailbox can have a command consumed: its function exists and it is enabled without error or reset (the service
mailbox while the port is attached), fewer than 64 were consumed in this frame (R69), and 3 staging places are free
(R81). -/
def State.canConsume (m : Nat) (s : State) : Bool :=
  s.serving && (if m = 17 then s.mgt.usb else s.pcie.refclk && s.fnExists m && (s.mb m).enable) && !(s.mb m).error &&
    !(s.mb m).resetBusy && (decide ((s.mb m).consumed < 64) || s.frm.phase = .stopped) && decide ((s.mb m).places + 3 ≤ 8192)

/-- The identity of a consumed command. -/
def cmdIdOf (uid m : Nat) (op : BitVec 16) (e : Entry) : CmdId :=
  { mbx := m, uid := uid, ticket := e.ticket, opcode := op, ctx := e.ctx, slot := e.slot, irq := e.irq,
    admitAck := e.admitAck }

/-- A nonzero reserved bit in the entry or in an argument word (R11, R82). -/
def reservedSet (sp : Option Spec) (m : Nat) (e : Entry) : Bool :=
  e.reserved || match sp with
    | none => false
    | some sp => (List.range 14).any (fun n => e.arg n &&& ~~~((sp.allowed m e.args).getD n 0) != 0)

/-- The effect of partition state on a command (Table 3-6): refused, or carried on. -/
def stateRefuses (cls : Class) (st : PState) : Bool :=
  match cls with
  | .q | .own => false
  | .k | .j => st = .absent || st = .faulted || st = .tearingDown

/-- Step 7 for the CONTEXT field (R122). -/
def ctxCheck (acts : Bool) (st : CState) : Option Reason :=
  if !acts then none
  else match st with
    | .free => some .badHandle
    | .killing | .dead => some .badState
    | .live => none

/-- Counts a QUOTA or POWER refusal of a VF's partition (`ADM.QUERY`). -/
def State.countQuota (m : Nat) (s : State) : State :=
  if vfOnly m then s.updAdmp (m - 1) (fun a => { a with quotaPower := satAdd a.quotaPower 1 }) else s

/-- Checks 5 to 8 and the command itself, for a ticket already entered. The descriptor checks of a job may go on over
several frames, so its body makes check 8 when they end. -/
def carryOut (sp : Spec) (c : CmdId) (m : Nat) (e : Entry) (s : State) : State :=
  let bad (rs : Reason) := s.finish c .badCommand rs (sp.failWords s)
  if (e.cost != 0) != (sp.cls = .j) || !sp.inRange m e.args s then bad .outOfRange
  else if (sp.part m e.args).any (fun p => stateRefuses sp.cls (s.part p).state) then
    s.finish c .refused .partitionDown (sp.failWords s)
  else
    let p := (sp.part m e.args).getD 0
    match ctxCheck (sp.acts e.args) (s.ctx p e.ctx.toNat).state with
    | some rs => bad rs
    | none =>
      let full := decide (ticketLimit m < (s.mb m).tickets.length)
      match sp.body c p e s with
      | (s', .done ws) =>
        if full then (s.countQuota m).finish c .refused .quota (sp.failWords s) else s'.finish c .done .none ws
      | (s', .later) => if full && sp.cls != .j then (s.countQuota m).finish c .refused .quota (sp.failWords s) else s'
      | (s', .fail oc rs ws) =>
        if full && oc != .badCommand then (s.countQuota m).finish c .refused .quota (sp.failWords s)
        else s'.finish c oc rs ws

/-- Consumes one command entry and makes the checks of R88 in order. A duplicate ticket gets one interim record and
leaves the active ticket alone (R84). -/
def consume (sp : Option Spec) (op : BitVec 16) (m : Nat) (e : Entry) (s : State) : State :=
  let c := cmdIdOf s.nextUid m op e
  let dup := (s.mb m).tickets.any (fun t => t.cmd.ticket == e.ticket)
  let s := { s with nextUid := s.nextUid + 1 }
  let s := s.updMb m (fun b => { b with consumed := b.consumed + 1 })
  let enter (s : State) : State := s.updMb m (fun b => { b with tickets := b.tickets ++ [{ cmd := c }] })
  let words := match sp with
    | some sp => sp.failWords s
    | none => []
  if reservedSet sp m e then (enter s).finish c .badCommand .reservedSet words
  else match sp with
    | none => (enter s).finish c .badCommand .unknownOpcode words
    | some sp =>
      if !sp.permitted m then (enter s).finish c .badCommand .notPermitted words
      else if dup then
        s.updMb m (fun b => { b with staged := b.staged ++
          [{ cmd := c, oc := .badCommand, reason := .duplicateTicket, words := words, final := false,
             frame := s.frm.count }] })
      else carryOut sp c m e (enter s)

/-- A command of a row: consumed where Choesk can consume it, otherwise it waits outside (log entry 11). -/
def serve (sp : Spec) (m : Nat) (e : Entry) (s : State) : State :=
  if s.canConsume m then consume (some sp) sp.opcode m e s else s

/-- An opcode from its area and verb codes (R106). -/
def opcodeOf (area verb : Nat) : BitVec 16 := BitVec.ofNat 16 (256 * area + verb)

end Sys2Proof.Machine
end

