-- ==== Sys2Proof/Machine/Plk.lean ====
section
/-! DEFINITION. The Pleik ports (11): lane lock, bring-up, replay, bursts, retrains, permanent faults, width changes,
health, doze and the LINK commands. -/

namespace Sys2Proof.Machine

open Sys2Proof

/-! ### Entering and leaving UP -/

/-- Outer port o. -/
def State.outer (o : Nat) (s : State) : Outer := s.fab.outer.get {} o

/-- Changes outer port o. -/
def State.updOuter (o : Nat) (f : Outer → Outer) (s : State) : State :=
  s.updFab (fun g => { g with outer := g.outer.upd {} o f })

/-- What a port loses with UP: the MISWIRED mark (R336) and a measured L (R54). -/
def State.losesUp (i : Nat) (s : State) : State :=
  (s.updNbr i (fun n => { n with miswired := false })).updPort i (fun p => { p with latValid := false })

/-- An outer port that goes down holds nothing to return: each message is taken from its buffer as it arrives, so none is
left there to discard (R354). -/
def State.dropBuffered (i : Nat) (s : State) : State :=
  if 12 ≤ i then s.updOuter (i - 12) (fun o => { o with unreturned := 0 }) else s

/-- Discards the flits a port still holds when its sequence numbers end; control flits among them are for the package at the
other end alone, and are logged (R314). -/
def State.dropFlits (i : Nat) (s : State) : State :=
  let fs := (s.work i).queue.filter Flit.control
  fs.foldl (fun s f => s.discardFlit i f) (s.updWork i (fun w => { w with replay := [], queue := [] }))

/-- Takes a port down to step 1 of bring-up (R309): control flits go by the alternate path, what else was unacknowledged
is lost with the sequence numbers, training frames are sent, and a triggered beacon (R338). The parent is chosen again
(R57). -/
def State.portDown (i : Nat) (s : State) : State :=
  let s := (s.updPort i (fun p => { p with link := .down, lanes := p.lanes.mapRow {} 8 (fun _ l => { l with lock := .search }) }))
  let s := (((s.losesUp i).dropBuffered i).withdraw i).dropFlits i
  let s := s.updWork i (fun w => { w with
    sentReq := false, gotReq := false, sentAck := false, gotAck := false, sentWake := false, wakeLatched := false
    nakSent := false })
  let s := s.updFab (fun g => { g with cells := g.cells.put i [], parts := g.parts.filter (fun x => x.1.1 != 128 + i) })
  let s := (s.emit (.training i)).refreshParent
  if i < 12 then s.sendBeacons else s

/-- A port is UP: 64 credits and an empty buffer on an outer port (R354), and the waiting commands answered (R331). -/
def State.raiseUp (i : Nat) (s : State) : State :=
  let s := s.updPort i (fun p => { p with link := .up })
  let s := if 12 ≤ i then s.updOuter (i - 12) (fun o => { o with credits := 64, unreturned := 0 }) else s
  let w := s.work i
  let s := s.updWork i (fun w => { w with
    restarts := 0, fastCmds := [], fullCmds := [], idle := 0, sentReq := false,
    gotReq := false, sentAck := false, gotAck := false, sentWake := false, wakeLatched := false })
  s.finishAll (w.fastCmds ++ w.fullCmds) .done .none [(s.port i).stateWord]

/-- A port that becomes UP sends what waited for it and for a path. -/
def State.enterUp (i : Nat) (s : State) : State := ((s.raiseUp i).pump i).retryWaiting

/-! ### Permanent faults and width (R322, R325) -/

/-- The active lanes of a port. -/
def Port.active (p : Port) : List Nat := p.width.lanes.filter (fun l => !bit p.retiredLanes l)

/-- A permanent fault: the lanes are unsound and the port enters QUARANTINE (R322, R325). -/
def State.permanentFault (i : Nat) (lanes : BitVec 8) (s : State) : State :=
  if (s.port i).health = .retired then s
  else
    let s := s.updWork i (fun w => { w with unsound := some (w.unsound.getD 0 ||| lanes) })
    s.setHealth i .quarantine (s.port i).width

/-- The width that the sound lanes allow: none where no sound half is left or the port already runs at half width
(R325). -/
def Port.widthFor (unsound : BitVec 8) (p : Port) : Width :=
  let sound (l : Nat) : Bool := p.active.contains l && !bit unsound l
  if p.width != .full then .none
  else if [0, 1, 2, 3].all sound then .low
  else if [4, 5, 6, 7].all sound then .high
  else .none

/-- Markers with TRAIN = 1 in the 6 µs of a train: at 16-codeword spacing one every 0.8192 µs (R320, log entry 129). -/
def trainMarkers : Nat := 8

/-- Starts a fast retrain (R320): LINK becomes RETRAIN, the control flits are withdrawn, the lanes look for the far train, a
train is sent, and the parent is chosen again (R57). -/
def State.startRetrain (i : Nat) (s : State) : State :=
  let burst := (s.port i).burst
  let s := s.updPort i (fun p => { p with
    link := .retrain, retrains := satAdd p.retrains 1,
    lanes := p.lanes.mapRow {} 8 (fun l x => if p.width.lanes.contains l then { x with lock := .search } else x) })
  let s := (s.losesUp i).updWork i (fun w => { w with
    retrainsTotal := w.retrainsTotal + 1, outsideBurst := !burst, sentReq := false, gotReq := false, sentAck := false,
    gotAck := false, sentWake := false, wakeLatched := false,
    replay := w.replay.map (fun r => (r.1, r.2.1, 0)) })
  let w := (s.port i).width
  ((s.withdraw i).updLine i (fun x => x.trainOf w.lanes (w != .full) trainMarkers)).refreshParent

/-- Retires a port at the next commit instant (R325, R323). -/
def State.retirePort (i : Nat) (s : State) : State :=
  (s.updWork i (fun w => { w with change := none, unsound := none })).setHealth i .retired .none

/-- Both ends have agreed on the unsound lanes: the others carry the port from now on, the retired ones go idle (R326), and
a fast retrain runs at the new width (R325). -/
def State.applyWidth (i : Nat) (unsound : BitVec 8) (s : State) : State :=
  match (s.port i).widthFor unsound with
  | .none => s.retirePort i
  | w =>
    let s := s.updPort i (fun p => { p with width := w, retiredLanes := ~~~(laneMask w.lanes) })
    let s := s.updWork i (fun k => { k with
      unsound := none, change := some { unsound := unsound, retraining := true } })
    (s.emit (.idle i (~~~(laneMask w.lanes)))).startRetrain i

/-- Sends a WIDTH flit on the port while any lane is locked, else as a notice by the alternate path (R325). -/
def State.sendWidth (i : Nat) (lanes : BitVec 8) (s : State) : State :=
  if (s.port i).lockedMask != 0 then s.sendLinkctl i (.width i lanes)
  else if i < 12 then s.send (neighbour s.self i) (.width (farPort i) lanes) else s

/-- WIDTH_CHANGE (R325): the lanes a permanent fault left unsound are examined; without a sound half the port is retired,
otherwise a WIDTH flit opens the change. A fault can leave no lane unsound, and the port then goes to its lower half. -/
def opWidthChange (port : Fin 16) (unsound : BitVec 8) (s : State) : State :=
  let i := port.val
  let u := (s.work i).unsound.getD 0 ||| unsound
  if (u = 0 && (s.work i).unsound.isNone) || (s.port i).health = .retired || (s.work i).change.isSome then s
  else
    let s := s.sendWidth i u
    match (s.port i).widthFor u with
    | .none => s.retirePort i
    | _ => s.updWork i (fun w => { w with unsound := some u, change := some { unsound := u } })

/-- WIDTH_RECEIVE (R325): the union of both ends' unsound lanes, answered in the same way and applied. -/
def opWidthReceive (port : Fin 16) (unsound : BitVec 8) (s : State) : State :=
  let i := port.val
  if (s.port i).health = .retired then s
  else
    let w := s.work i
    match w.change with
    | some ch =>
      if ch.retraining then s else s.applyWidth i (ch.unsound ||| unsound)
    | none =>
      let u := w.unsound.getD 0 ||| unsound
      let s := s.setHealth i .quarantine (s.port i).width
      (s.sendWidth i u).applyWidth i u

/-- WIDTH_CHANGE_TIMEOUT (R325): 64 frames without agreement retire the port. -/
def opWidthChangeTimeout (port : Fin 16) (s : State) : State :=
  let i := port.val
  match (s.work i).change with
  | some ch => if 64 ≤ ch.frames && !ch.retraining then s.retirePort i else s
  | none => s

/-! ### Bursts begin (R319) -/

/-- The lanes a burst struck. -/
def Port.hitLanes (p : Port) : BitVec 8 := laneMask (p.width.lanes.filter (fun l => (p.lane l).hit))

/-- Starts a burst: each lane goes back to the adaptation state of 2 µs before and freezes (R319). The lanes whose
uncorrectable codewords of the last 1 µs began it are struck. A burst that begins during probation is a permanent fault of
the lanes it strikes, which are known when it ends (R322, log entry 13). -/
def State.startBurst (i : Nat) (s : State) : State :=
  let p := s.port i
  if p.burst || p.health = .retired then s
  else
    let recent := (s.work i).recent
    let s := s.updPort i (fun p => { p with
      burst := true, frozen := true, bursts := satAdd p.bursts 1,
      lanes := p.lanes.mapRow {} 8 (fun l x => { x with adapt := x.hist1, hit := recent.any (fun y => y.1 == l) }) })
    let s := s.updWork i (fun w => { w with
      burstsTotal := w.burstsTotal + 1, burstFrames := 0, recal := none, probBurst := p.probation
      window := ((w.window.headD (0, false)).1, true) :: w.window.tail })
    if p.probation then s.setHealth i .quarantine p.width else s

/-- Active lanes of a port have left LOCKED: a burst strikes them and a fast retrain starts (R319, R320). -/
def State.lanesLost (i : Nat) (lanes : List Nat) (s : State) : State :=
  if (s.port i).link != .up || (s.port i).health = .retired then s
  else
    let s := (s.startBurst i).updPort i (fun p => { p with
      lanes := p.lanes.mapRow {} 8 (fun l x => if lanes.contains l then { x with hit := true } else x) })
    s.startRetrain i

/-! ### Lane lock (R306) -/

/-- Takes a valid marker's COUNTER and TRAIN bit, and its place among the lanes. -/
def Lane.seen (raw : BitVec 128) (skew : Nat) (l : Lane) : Lane :=
  { l with counter := markerCounter raw, train := markerTrain raw, place := markerCounter raw, skew := skew }

/-- One marker position on a lane (Table 11-2): 16 bytes that follow `between`, the lane bytes since the previous marker. The
position is the expected one when they are as many codewords as the previous marker's TRAIN bit spaces, and BIP is checked
against their parity (R305, R306). -/
def Lane.marker (raw : BitVec 128) (between : List Byte) (skew : Nat) (l : Lane) : Lane :=
  let valid := markerValid raw
  let spaced := between.length == markerSpacing l.train * codewordBytes
  let inSeq := valid && spaced && markerCounter raw == l.counter + 1
  let bipGood := fld raw 88 8 == (bip8 0 between).toNat
  match l.lock with
  | .search => if valid then { l.seen raw skew with lock := .one } else l
  | .one | .two =>
    if inSeq && bipGood then { l.seen raw skew with lock := if l.lock = .one then .two else .locked, misses := 0 }
    else if spaced then { l with lock := .search, lockLoss := satAdd l.lockLoss 1 }
    else l
  | .locked =>
    if inSeq then { l.seen raw skew with misses := 0, bipErr := if bipGood then l.bipErr else satAdd l.bipErr 1 }
    else if !spaced then l
    else
      let m := if valid then l.seen raw skew else l
      let m := { m with misses := l.misses + 1, place := l.place + 1 }
      if 4 ≤ m.misses then { m with lock := .search, misses := 0, lockLoss := satAdd l.lockLoss 1 } else m

/-- ALIGNMENT_MARKER_RECEIVE (R306): 16 bytes of a lane at a marker position; retired lanes are ignored (R326). A LOCKED
active lane that goes to SEARCH starts a burst and a fast retrain (R319, R320); a waking port that is locked at the closing
marker of the train is UP (R329). -/
def opAlignmentMarkerReceive (port : Fin 16) (lane : Fin 8) (raw : BitVec 128) (between : List Byte) (skew : Nat) (s : State) :
    State :=
  let i := port.val
  let p := s.port i
  if p.link = .down || p.health = .retired || !p.active.contains lane.val then s
  else
    let s := s.updPort i (fun p => p.updLane lane.val (fun l => l.marker raw between skew))
    let now := ((s.port i).lane lane.val).lock
    if (p.lane lane.val).lock = .locked && now != .locked then s.lanesLost i [lane.val]
    else if p.link = .waking && (s.port i).locked && markerValid raw && !markerTrain raw then s.enterUp i
    else s

/-- Symbol errors of a codeword that the decoder corrects (R303). -/
def correctable : Nat := 15

/-- An uncorrectable codeword on an active lane, `gap` ns after the port's last one: counted, outside a burst in its frame's
window, and the 64th consecutive one of a LOCKED lane forces it to SEARCH and counts once (R303, R306, R319; log entry 138).
-/
def State.badCodeword (i lane gap : Nat) (s : State) : State :=
  let burst := (s.port i).burst
  let s := s.updWork i (fun w => { w with
    recent := ((lane, 0) :: w.recent.map (fun x => (x.1, x.2 + gap))).filter (fun x => decide (x.2 ≤ 1000)) })
  let l := (s.port i).lane lane
  let forced := l.lock = .locked && decide (64 ≤ l.consecUncorr + 1)
  let s := s.updPort i (fun p => p.updLane lane (fun l => { l with
    uncorr := satAdd l.uncorr 1, consecUncorr := l.consecUncorr + 1, hit := l.hit || burst
    win := if burst then l.win else (l.win.headD 0 + 1) :: l.win.tail }))
  if !forced then s
  else
    let s := s.updPort i (fun p => { (p.updLane lane (fun l => { l with
      consecUncorr := 0, lock := .search, lockLoss := satAdd l.lockLoss 1 })) with falseLock := satAdd p.falseLock 1 })
    s.lanesLost i [lane]

/-- UNCORRECTABLE_CODEWORD (R303, R306): a codeword that arrived with symbol errors. Up to 15 are corrected and
counted, and end a run of uncorrectable ones; more are uncorrectable. Retired lanes are ignored (R326). -/
def opUncorrectableCodeword (port : Fin 16) (word : Codeword) (s : State) : State :=
  let i := port.val
  let p := s.port i
  if p.link = .down || p.health = .retired || !p.active.contains word.lane.val then s
  else if word.errors ≤ correctable then
    s.updPort i (fun p => { (p.updLane word.lane.val (fun l => { l with consecUncorr := 0 })) with
      corrected := satAdd p.corrected word.errors })
  else s.badCodeword i word.lane.val word.gap

/-! ### Bring-up (R309) -/

/-- The median of an even or odd number of measurements, the mean of the two middle ones rounded down (log entry 12). -/
def median (xs : List Nat) : Nat :=
  let ys := xs.foldl (fun l x => (l.filter (· ≤ x)) ++ [x] ++ l.filter (fun y => decide (x < y))) []
  if ys.length = 0 then 0
  else if ys.length % 2 = 1 then ys.getD (ys.length / 2) 0
  else (ys.getD (ys.length / 2 - 1) 0 + ys.getD (ys.length / 2) 0) / 2

/-- The latency that timestamp exchanges measure (R54). -/
def Port.takeStamps (stamps : List (BitVec 16)) (p : Port) : Port :=
  if stamps.isEmpty then p
  else { p with lat := BitVec.ofNat 16 (median (stamps.map (·.toNat))), latValid := true }

/-- The lane order is straight or reversed (R334). -/
def laneOrderGood (order : List (BitVec 3)) : Bool :=
  order.map (·.toNat) == [0, 1, 2, 3, 4, 5, 6, 7] || order.map (·.toNat) == [7, 6, 5, 4, 3, 2, 1, 0]

/-- A failed bring-up returns to step 1 and logs LINK_DOWN (R309, R335). -/
def State.bringupFails (i : Nat) (s : State) : State :=
  ((s.updPort i (fun p => { p with link := .down })).emit (.training i)).logEvent 0x0702 .linkDown none [(0, i)]

/-- 16 timestamp exchanges measure L (R54, R309). -/
def State.sendStamps (i : Nat) (s : State) : State := (List.range 16).foldl (fun s _ => s.sendLinkctl i .tstamp) s

/-- PORT_BRINGUP (R309): training, lock, deskew and the latency measurement are done and the port is UP with sequence
numbers at 0; another lane order than straight or reversed fails (R335). -/
def opPortBringup (port : Fin 16) (order : List (BitVec 3)) (stamps : List (BitVec 16)) (margins : List (BitVec 12))
    (s : State) : State :=
  let i := port.val
  let p := s.port i
  if p.health = .retired || !(p.link = .down || p.link = .training) || s.mgt.recovery ||
      !(s.por.bring = .selfTest || s.por.bring = .running) then s
  else if !laneOrderGood order then s.bringupFails i
  else
    let s := s.updPort i (fun p =>
      { p.takeStamps stamps with lanes := p.lanes.mapRow {} 8 (fun l x =>
          if p.active.contains l then
            { x with lock := .locked, misses := 0, consecUncorr := 0, place := 0, skew := 0, margin := margins.getD l x.margin }
          else x) })
    let s := s.updWork i (fun w => { w with txSeq := 0, rxSeq := 0, acks := false, nakSent := false, replay := [] })
    (s.sendStamps i).enterUp i

/-- BRINGUP_TIMEOUT (R309): not UP within 600 ms of step 1; a full LINK.RETRAIN ends NO_RESOURCE (R331). -/
def opBringupTimeout (port : Fin 16) (s : State) : State :=
  let i := port.val
  if (s.port i).link = .down || (s.port i).link = .training then
    let cs := (s.work i).fullCmds
    let s := (s.bringupFails i).updWork i (fun w => { w with fullCmds := [] })
    s.finishAll cs .noResource .linkDown []
  else s

/-- SIGNAL_DETECT (R309, R329): in step 1 of bring-up training follows; a dozing port answers with its own train. -/
def opSignalDetect (port : Fin 16) (s : State) : State :=
  let i := port.val
  match (s.port i).link with
  | .down => if (s.port i).health = .retired then s else s.updPort i (fun p => { p with link := .training })
  | .doze => (s.updPort i (fun p => { p with link := .waking })).wakeTrain i
  | _ => s

/-! ### Bursts (R319, R321, R322) -/

/-- BURST_START (R319): 4 uncorrectable codewords have fallen within 1 µs on the active lanes. The other causes, a lane that
leaves LOCKED and a replay exhaustion, start the burst as they happen. -/
def opBurstStart (port : Fin 16) (s : State) : State :=
  let p := s.port port.val
  if p.link = .down || p.link = .doze || (s.work port.val).recent.length < 4 then s else s.startBurst port.val

/-- BURST_END (R319, R321): every active lane is LOCKED and 10 µs have passed without an uncorrectable codeword; adaptation
runs and recalibration of 4 frames starts. -/
def opBurstEnd (port : Fin 16) (dur : BitVec 32) (s : State) : State :=
  let i := port.val
  let p := s.port i
  if !p.burst || !p.locked then s
  else
    let s := s.updPort i (fun p => { p with burst := false, frozen := false })
    let prob := (s.work i).probBurst
    let s := s.updWork i (fun w => { w with recal := some 4, burstDur := dur, probBurst := false, recent := [] })
    if prob then s.permanentFault i p.hitLanes else s

/-- The other outer ports to a port's far sheaf that carry data: where the CREDIT_DATA of a port in QUARANTINE goes instead
(R324, R355). -/
def State.outerBeside (o : Nat) (s : State) : List Nat :=
  [0, 1, 2, 3].filter (fun x => x != o && (s.port (12 + x)).up && !(s.nbr (12 + x)).miswired &&
    (s.port (12 + x)).health != .quarantine && (s.outer x).farSheaf == (s.outer o).farSheaf)

/-- Sends the flits of a CREDIT_DATA message that an outer port can no longer carry on another one whose credits cover them,
or counts the omission (R355). -/
def State.rerouteCredit (o : Nat) (fs : List Flit) (s : State) : State :=
  match (s.outerBeside o).find? (fun x => decide (fs.length ≤ (s.outer x).credits.toNat)) with
  | some x => fs.foldl (fun s f => s.tx (12 + x) f)
      (s.updOuter x (fun y => { y with credits := y.credits - BitVec.ofNat 7 fs.length }))
  | none => s.updOuter o (fun y => { y with discarded := satAdd y.discarded 1 })

/-- The messages among CREDIT_DATA flits, each from its FIRST to its LAST; flits without their FIRST belong to none. -/
def creditMessages : List Flit → List (List Flit)
  | [] => []
  | f :: t =>
    if f.first then (f :: t.takeWhile (fun g => !g.first)) :: creditMessages t else creditMessages t

/-- A port enters QUARANTINE: the data it still holds is not sent. Its cells are discarded and counted, and CREDIT_DATA is
rerouted (R324). -/
def State.dropData (i : Nat) (s : State) : State :=
  let fs := (s.work i).queue.filter Flit.data
  let s := s.updWork i (fun w => { w with queue := w.queue.filter (fun f => !f.data) })
  let s := (fs.filter (fun f => f.type = 1 && f.last)).foldl (fun s f =>
    s.updPlnp f.part (fun x => { x with discard := satAdd x.discard 1 })) s
  (creditMessages (fs.filter (fun f => f.type = 2))).foldl (fun s m => s.rerouteCredit (i - 12) m) s

/-- BURST_QUARANTINE (R322): the commit instant after the eighth frame of a burst; triggered beacon (R338). -/
def opBurstQuarantine (port : Fin 16) (s : State) : State :=
  let i := port.val
  let p := s.port i
  if !p.burst || (s.work i).burstFrames < 8 || p.health = .quarantine || p.health = .retired then s
  else
    let s := s.healthNotice i s.frm.count .quarantine p.width
    let s := s.updPort i (fun p => { p with health := .quarantine })
    let s := s.updWork i (fun w => { w with nextHealth := none, healthFrame := s.frm.count })
    let s := (s.logEvent 0x0700 .none none [(0, i), (10, (s.port i).stateWord.toNat % 2 ^ 26)]).fireVec 0 5
    let s := s.dropData i
    if i < 12 then s.sendBeacons else s

/-- Frame period in ns (Table 2-1). -/
def periodNs (code : BitVec 3) : Nat := 8000 * 2 ^ code.toNat

/-- RECALIBRATION_END (R321, R322): lanes below the floor of 17.0 dB are a permanent fault; otherwise the port goes to
WATCH under probation, and a burst of at most 8 frames is logged as a transient. -/
def opRecalibrationEnd (port : Fin 16) (margins : List (BitVec 12)) (s : State) : State :=
  let i := port.val
  if (s.work i).recal != some 0 then s
  else
    let s := s.updPort i (fun p => { p with lanes := p.lanes.mapRow {} 8 (fun l x => { x with margin := margins.getD l x.margin }) })
    let p := s.port i
    let w := s.work i
    let hit := p.hitLanes
    let s := s.updWork i (fun w => { w with recal := none })
    let low := laneMask (p.active.filter (fun l => decide ((p.lane l).margin.toNat < 170)))
    if low != 0 then s.permanentFault i low
    else if w.unsound.isSome || w.change.isSome then s
    else
      let stuck := p.active.any (fun l => (p.lane l).stuck)
      let short := decide (w.burstDur.toNat * 100 ≤ 8 * periodNs s.frm.period)
      let s := if short && !stuck then s.log 0x0701 [(0, i), (4, w.burstDur.toNat), (36, hit.toNat)] else s
      let s := s.updPort i (fun p => { p with probation := true })
      let s := s.updWork i (fun w => { w with probFrames := 64, clean := 0 })
      s.setHealth i .watch p.width

/-- PROBATION_END (R321): after 64 frames. -/
def opProbationEnd (port : Fin 16) (s : State) : State :=
  let i := port.val
  if (s.port i).probation && (s.work i).probFrames = 0 then s.updPort i (fun p => { p with probation := false }) else s

/-- STUCK_LANE (R322). -/
def opStuckLane (port : Fin 16) (lane : Fin 8) (s : State) : State :=
  let i := port.val
  if (s.port i).link = .up && (s.port i).active.contains lane.val then
    (s.updPort i (fun p => p.updLane lane.val (fun l => { l with stuck := true }))).permanentFault i (laneMask [lane.val])
  else s

/-! ### Replay and retrain (R315 to R320) -/

/-- Replays the buffer from the oldest unacknowledged flit; the eighth replay of a flit is a replay exhaustion, which
starts a burst and a fast retrain (R316, R319, R320). -/
def State.replay (i : Nat) (s : State) : State :=
  let w := s.work i
  if w.replay.isEmpty then s
  else
    let s := s.updPort i (fun p => { p with replays := satAdd p.replays 1 })
    let s := s.updWork i (fun w => { w with replay := w.replay.map (fun r => (r.1, r.2.1, r.2.2 + 1)) })
    let s := w.replay.foldl (fun s r => s.sendLine i r.1 (s.work i).ack r.2.1) s
    if w.replay.any (fun r => r.2.2 + 1 == 8) then
      ((s.updPort i (fun p => { p with exhaust := satAdd p.exhaust 1 })).startBurst i).startRetrain i
    else s

/-- NAK_RECEIVE (R316). -/
def opNakReceive (port : Fin 16) (_seq : BitVec 12) (s : State) : State :=
  if (s.port port.val).link = .up then s.replay port.val else s

/-- NAK_RESEND (R316): the expected flit has not arrived 2 µs after the NAK. -/
def opNakResend (port : Fin 16) (s : State) : State :=
  if (s.work port.val).nakSent && (s.port port.val).link = .up then s.sendLinkctl port.val (.nak (s.work port.val).rxSeq)
  else s

/-- REPLAY_TIMEOUT (R316): no acknowledgement progress for 2 µs. -/
def opReplayTimeout (port : Fin 16) (s : State) : State :=
  if (s.port port.val).link = .up then s.replay port.val else s

/-- FAST_RETRAIN (R320): a lane left LOCKED, or a command or the far end asked. -/
def opFastRetrain (port : Fin 16) (s : State) : State :=
  if (s.port port.val).link = .up && (s.port port.val).health != .retired then s.startRetrain port.val else s

/-- TRAIN_RECEIVE (R320): a port not already in a retrain starts its own. -/
def opTrainReceive (port : Fin 16) (s : State) : State :=
  if (s.port port.val).link = .up && (s.port port.val).health != .retired then s.startRetrain port.val else s

/-- RETRAIN_END (R320): at the far end's closing marker; without one the retrain failed. A port whose lanes are locked is UP, L is measured again (R54), and
what was unacknowledged is replayed before anything new is sent (R313); a completed width change puts it in WATCH with
probation (R325). Otherwise lanes that failed to lock in two retrains started outside any burst are stuck (R322). -/
def opRetrainEnd (port : Fin 16) (closed : Bool) (stamps : List (BitVec 16)) (s : State) : State :=
  let i := port.val
  let p := s.port i
  if p.link != .retrain then s
  else if closed && p.locked then
    let s := (s.updPort i (fun p => p.takeStamps stamps)).sendStamps i
    let ch := (s.work i).change
    let s := if ch.any (·.retraining) then
        let cs := (s.work i).retireCmds
        let s := s.updWork i (fun w => { w with change := none, retireCmds := [], probFrames := 64, clean := 0 })
        let s := s.updPort i (fun p => { p with probation := true })
        let s := s.setHealth i .watch (s.port i).width
        s.finishAll cs .done .none [(s.port i).stateWord]
      else s
    (((s.raiseUp i).replay i).pump i).retryWaiting
  else
    let failed := p.width.lanes.filter (fun l => (p.lane l).lock != .locked)
    let outside := (s.work i).outsideBurst
    let s := s.updWork i (fun w => { w with restarts := w.restarts + 1 })
    if outside then
      let s := s.updPort i (fun p => { p with lanes := p.lanes.mapRow {} 8 (fun l x =>
        if failed.contains l then { x with failedRelocks := x.failedRelocks + 1, stuck := x.stuck || decide (2 ≤ x.failedRelocks + 1) }
        else x) })
      let stuck := laneMask (failed.filter (fun l => decide (2 ≤ ((s.port i).lane l).failedRelocks)))
      if stuck != 0 then s.permanentFault i stuck else s
    else s

/-- RETRAIN_RESTART (R320): another fast retrain, 20 µs after the failed one started; at the fifth the 100 µs of a
LINK.RETRAIN are over (R331). -/
def opRetrainRestart (port : Fin 16) (s : State) : State :=
  let i := port.val
  if (s.port i).link != .retrain || (s.port i).health = .retired then s
  else
    let cs := if 5 ≤ (s.work i).restarts then (s.work i).fastCmds else []
    let s := if 5 ≤ (s.work i).restarts then s.updWork i (fun w => { w with fastCmds := [] }) else s
    (s.startRetrain i).finishAll cs .noResource .linkDown []

/-- Acknowledges every flit up to a SEQ (R315), and sends what waited for room. -/
def State.acked (i : Nat) (a : BitVec 12) (s : State) : State :=
  let s := s.updWork i (fun w => { w with replay := w.replay.filter (fun r => decide (2048 ≤ (a - r.1).toNat)) })
  s.pump i

/-- Sends one NAK that names the SEQ expected; another only after 2 µs (R316). -/
def State.sendNak (i : Nat) (s : State) : State :=
  let w := s.work i
  if w.nakSent then s else (s.updWork i (fun w => { w with nakSent := true })).sendLinkctl i (.nak w.rxSeq)

/-- A flit that fails its CRC (R306, R316, R323): the 32nd in a row on a locked port forces every lane to SEARCH. -/
def State.crcFailed (i : Nat) (s : State) : State :=
  let p := s.port i
  let w := s.work i
  let force := decide (32 ≤ w.consecCrc + 1) && p.locked
  let s := s.updPort i (fun p => { p with crcFail := satAdd p.crcFail 1 })
  let s := s.updWork i (fun w => { w with
    consecCrc := if force then 0 else w.consecCrc + 1
    window := if p.burst then w.window else ((w.window.headD (0, false)).1 + 1, (w.window.headD (0, false)).2) :: w.window.tail })
  if !force then s.sendNak i
  else
    let s := s.updPort i (fun p => { p with
      falseLock := satAdd p.falseLock 1
      lanes := p.lanes.mapRow {} 8 (fun l x => if p.width.lanes.contains l then
        { x with lock := .search, lockLoss := satAdd x.lockLoss 1 } else x) })
    s.lanesLost i p.width.lanes

/-- What an intact flit becomes at its port: the flit if it is accepted (R315, R316). LINKCTL and IDLE flits have no SEQ; a
NAK's ACK_SEQ is the SEQ it names. An accepted flit is acknowledged on the flits that follow. -/
def State.rxFlit (i : Nat) (a : Arrival) (s : State) : State × Option Flit :=
  let f := a.flit
  let s := s.updWork i (fun w => { w with consecCrc := 0, idle := if f.traffic then 0 else w.idle })
  let nak := f.type = 9 && f.sub = 1
  let s := match a.ack with
    | some q => if nak then s else s.acked i q
    | none => s
  let w := s.work i
  if f.type = 0 then (s, none)
  else if f.type = 9 then (s, some f)
  else if a.seq == w.rxSeq then
    let s := (s.updWork i (fun w => { w with rxSeq := w.rxSeq + 1, acks := true, nakSent := false })).sendIdle i
    (s, if f.type = 10 then none else some f)
  else if (w.rxSeq - a.seq).toNat < 2048 then (s, none)
  else (s.sendNak i, none)

/-! ### Adaptation (R318) -/

/-- TXEQ_RECEIVE (R318): one step of the transmitter's coefficient. -/
def opTxeqReceive (port : Fin 16) (lane : Fin 8) (up : Bool) (s : State) : State :=
  s.updPort port.val (fun p => p.updLane lane.val (fun l => { l with txCoef := if up then l.txCoef + 1 else l.txCoef - 1 }))

/-- The lanes of a port that adapts ask for steps of the far transmitter's equalisation, each at most once a frame (R318,
R319). Which ask, and for what, is a free value. -/
def State.askSteps (i n : Nat) (s : State) : State :=
  let p := s.port i
  if p.frozen || !p.up then s
  else p.active.foldl (fun s l =>
    match if (p.lane l).asked then none else Config.txeqStep n l with
    | some up => (s.updPort i (fun p => p.updLane l (fun x => { x with asked := true }))).sendLinkctl i (.txeq l up)
    | none => s) s

/-- ADAPTATION_SNAPSHOT (R318): the state goes into the history of two; unless frozen, it has moved to a value the spec
does not give, a free value (log entry 6). The margins are the lanes' present estimates (R321). -/
def opAdaptationSnapshot (port : Fin 16) (margins : List (BitVec 12)) (s : State) : State :=
  let i := port.val
  let n := s.takeFree
  let s := n.2.updPort i (fun p => { p with lanes := p.lanes.mapRow {} 8 (fun l x => { x with
    hist1 := x.hist0, hist0 := x.adapt, adapt := if p.frozen then x.adapt else Config.adapted n.1 l
    margin := margins.getD l x.margin }) })
  s.askSteps i n.1

/-! ### Doze (R327 to R329) -/

/-- A partition of the package is RUNNING. -/
def State.anyRunning (s : State) : Bool := (List.range 16).any (fun p => (s.part p).state = .running)

/-- The conditions of R327 at this end. -/
def State.dozeOk (i : Nat) (s : State) : Bool :=
  let p := s.port i
  p.up && (p.health = .good || p.health = .watch) && !p.burst && !p.probation && decide (256 ≤ (s.work i).idle) &&
    (decide (12 ≤ i) || (!s.anyRunning && !(s.frm.parent.toNat == i)))

/-- DOZE_REQUEST (R327). -/
def opDozeRequest (port : Fin 16) (s : State) : State :=
  let i := port.val
  if s.dozeOk i && !(s.work i).dozing then
    (s.updWork i (fun w => { w with sentReq := true })).txLocal i .dozeReq
  else s

/-- This end has both sent its DOZE_ACK and received the other's, or what counts as that: entry follows (R328). Control flits
that wait for the port are handed back (R314). -/
def State.dozeCommit (i : Nat) (latched : Bool) (s : State) : State :=
  ((s.updPort i (fun p => { p with link := .dozeEntry })).updWork i (fun w => { w with
    sentReq := false, gotReq := false, sentAck := false, gotAck := false, sentWake := false
    wakeLatched := w.wakeLatched || latched })).handBackQueue i

/-- DOZE_REQ_RECEIVE (R327): answered DOZE_ACK if the conditions hold here. -/
def opDozeReqReceive (port : Fin 16) (s : State) : State :=
  let i := port.val
  if (s.port i).link != .up then s
  else if s.dozeOk i && !(s.work i).sentAck && !(s.work i).sentWake then
    (s.updWork i (fun w => { w with gotReq := true, sentAck := true })).txLocal i .dozeAck
  else s.updWork i (fun w => { w with gotReq := true })

/-- DOZE_ACK_RECEIVE (R328): after a WAKE of this end it completes the commit and exit follows at once; otherwise this end
sends its own DOZE_ACK, unless a wake request came first, and the doze is committed. -/
def opDozeAckReceive (port : Fin 16) (s : State) : State :=
  let i := port.val
  let w := s.work i
  if (s.port i).link != .up || !w.dozing then s
  else if w.sentWake then s.dozeCommit i true
  else if w.sentAck then s.dozeCommit i false
  else if s.dozeOk i then ((s.updWork i (fun w => { w with sentAck := true })).txLocal i .dozeAck).dozeCommit i false
  else (s.updWork i (fun w => { w with gotAck := true })).wakePort i

/-- WAKE_REQUEST (R328). -/
def opWakeRequest (port : Fin 16) (s : State) : State := s.wakePort port.val

/-- WAKE_RECEIVE (R328): after this end's DOZE_ACK it completes the commit and exit follows; before, it cancels the doze
and this end sends WAKE if it has not. -/
def opWakeReceive (port : Fin 16) (s : State) : State :=
  let i := port.val
  let w := s.work i
  match (s.port i).link with
  | .up =>
    if w.sentAck then s.dozeCommit i true
    else if w.dozing || w.sentWake then
      let s := if w.sentWake then s else s.txLocal i .wake
      s.updWork i (fun w => { w with sentReq := false, gotReq := false, gotAck := false, sentWake := false, wakeLatched := false })
    else s
  | .dozeEntry => s.updWork i (fun w => { w with wakeLatched := true })
  | _ => s

/-- DOZE_ENTRY (R329): once the replay buffer is empty the transmitters stop; a latched wake starts exit at once. -/
def opDozeEntry (port : Fin 16) (s : State) : State :=
  let i := port.val
  if (s.port i).link != .dozeEntry || !(s.work i).replay.isEmpty then s
  else
    let latched := (s.work i).wakeLatched
    let s := ((s.losesUp i).dropBuffered i).updPort i (fun p => { p with
      link := if latched then .waking else .doze
      lanes := p.lanes.mapRow {} 8 (fun _ l => { l with lock := .search }) })
    let s := ((s.updWork i (fun w => { w with wakeLatched := false })).handBackQueue i).emit (.idle i 0xFF)
    (if latched then s.wakeTrain i else s).refreshParent

/-- WAKE_TIMEOUT (R329): not UP within 20 µs of a wake; full bring-up. -/
def opWakeTimeout (port : Fin 16) (s : State) : State :=
  if (s.port port.val).link = .waking then s.portDown port.val else s

/-! ### At slack and commit (R323) -/

/-- The 64-frame window has no burst in it. -/
def PortWork.quiet (w : PortWork) : Bool := (w.window.take 64).all (fun x => !x.2)

/-- CRC failures outside bursts in the window. -/
def PortWork.crcs (w : PortWork) : Nat := ((w.window.take 64).map (·.1)).foldl (· + ·) 0

/-- Uncorrectable codewords outside bursts of a lane in the window. -/
def Lane.uncorrs (l : Lane) : Nat := (l.win.take 64).foldl (· + ·) 0

/-- Evaluation of one port's health at the slack start (R323, Table 11-7; permanent faults of Table 11-5). -/
def State.evalHealth (i : Nat) (s : State) : State :=
  let p := s.port i
  if p.health = .retired then s
  else
    let quietNow := p.up && !p.burst && (s.work i).recal.isNone
    let s := if quietNow then s.updPort i (fun p => { p with lanes := p.lanes.mapRow {} 8 (fun _ l => { l with
        lowFrames := if l.margin.toNat < 170 then l.lowFrames + 1 else 0
        watchFrames := if l.margin.toNat < 190 then l.watchFrames + 1 else 0 }) }) else s
    let p := s.port i
    let w := s.work i
    let lanes := p.active
    let low := lanes.filter (fun l => decide (16 ≤ (p.lane l).lowFrames))
    let many := decide (4096 ≤ w.crcs) && w.quiet
    let noisy := lanes.filter (fun l => decide (0 < (p.lane l).uncorrs))
    let bad := laneMask low ||| (if many then laneMask (if noisy.isEmpty then lanes else noisy) else 0)
    if bad != 0 && w.unsound.isNone && w.change.isNone then s.permanentFault i bad
    else
      let cond := decide (16 ≤ w.crcs) || lanes.any (fun l => decide (4 ≤ (p.lane l).uncorrs) || decide (4 ≤ (p.lane l).watchFrames))
      let clean := if cond then 0 else w.clean + 1
      let s := s.updWork i (fun w => { w with clean := clean })
      if p.health = .good && w.nextHealth.isNone && cond then s.setHealth i .watch p.width
      else if p.health = .watch && w.nextHealth.isNone && decide (1024 ≤ clean) && !p.probation then s.setHealth i .good p.width
      else s

/-- A port at a commit instant: the pending health change takes effect (R323), and the frame counts move on. -/
def State.portCommit (i : Nat) (s : State) : State :=
  let w := s.work i
  let burst := (s.port i).burst
  let s := match w.nextHealth with
    | none => s
    | some h =>
      let s := s.updPort i (fun p => { p with health := h })
      let s := s.updWork i (fun w => { w with nextHealth := none, healthFrame := s.frm.count })
      if h = Health.retired then
        let cs := (s.work i).retireCmds ++ (s.work i).fastCmds ++ (s.work i).fullCmds
        let s := (s.portDown i).updPort i (fun p => { p with width := .none, retiredLanes := 0xFF, probation := false, burst := false, frozen := false })
        let s := s.updWork i (fun w => { w with retireCmds := [], fastCmds := [], fullCmds := [], change := none, unsound := none, recal := none })
        (s.emit (.idle i 0xFF)).finishAll cs .done .none [(s.port i).stateWord]
      else if h = Health.quarantine then
        let s := s.dropData i
        if i < 12 then s.sendBeacons else s
      else s
  let s := s.updWork i (fun w => { w with
    window := (0, burst) :: w.window.take 63
    idle := w.idle + 1
    burstFrames := if burst then w.burstFrames + 1 else 0
    recal := w.recal.map (· - 1)
    probFrames := w.probFrames - 1
    change := w.change.map (fun c => { c with frames := c.frames + 1 }) })
  s.updPort i (fun p => { p with lanes := p.lanes.mapRow {} 8 (fun _ l => { l with
    win := 0 :: l.win.take 63, asked := false }) })

/-! ### Commands (R331) -/

/-- LINK.QUERY. -/
def linkQueryWords (i : Nat) (s : State) : List W64 :=
  let p := s.port i
  let w := s.work i
  [p.stateWord, p.errWord,
    word ((List.range 8).map (fun l => (8 * l, min 255 ((p.lane l).margin.toNat / 2)))),
    word [(0, w.healthFrame.toNat), (48, p.lat.toNat)],
    word [(0, w.burstsTotal.toNat), (32, w.retrainsTotal.toNat)]]

/-- The port number argument W0 [3:0] takes values to 15 only, so every 4-bit value is in range. -/
def specLinkQuery : Spec where
  opcode := opcodeOf 0x10 1
  permitted := fun m => m == 0 || m == 17
  allowed := fun _ _ => [0xF]
  part := noPart
  cls := .q
  body := fun _ _ e s => (s, .done (linkQueryWords (fld (e.arg 0) 0 4) s))

/-- LINK.RETRAIN. -/
def linkRetrainBody (c : CmdId) (_ : Nat) (e : Entry) (s : State) : State × Reply :=
  let i := fld (e.arg 0) 0 4
  let p := s.port i
  if p.health = .retired then (s, .bad .badState)
  else if bit (e.arg 0) 8 then
    ((s.updWork i (fun w => { w with fullCmds := w.fullCmds ++ [c] })).portDown i, .later)
  else match p.link with
    | .down | .training => (s, .none_ .linkDown)
    | .up => ((s.updWork i (fun w => { w with fastCmds := w.fastCmds ++ [c], restarts := 0 })).startRetrain i, .later)
    | _ => ((s.updWork i (fun w => { w with fastCmds := w.fastCmds ++ [c] })).wakePort i, .later)

/-- LINK.RETRAIN, fast or full. -/
def specLinkRetrain : Spec where
  opcode := opcodeOf 0x10 2
  permitted := pfOnly
  allowed := fun _ _ => [0x10F]
  part := noPart
  cls := .own
  body := linkRetrainBody

/-- The lanes a LANES code of LINK.RETIRE names: all, the low half, the high half. -/
def retireLanes (n : Nat) : BitVec 8 := if n = 0 then 0xFF else if n = 1 then 0x0F else 0xF0

/-- LINK.RETIRE: a permanent fault whose unsound lanes are those named; only lanes already retired: no change. -/
def linkRetireBody (c : CmdId) (_ : Nat) (e : Entry) (s : State) : State × Reply :=
  let i := fld (e.arg 0) 0 4
  let p := s.port i
  let lanes := retireLanes (fld (e.arg 0) 8 2)
  if p.health = .retired then (s, .bad .badState)
  else if lanes &&& ~~~p.retiredLanes = 0 then (s, .done [p.stateWord])
  else
    let s := s.updWork i (fun w => { w with retireCmds := w.retireCmds ++ [c] })
    let s := (s.wakePort i).permanentFault i lanes
    (opWidthChange (Fin.ofNat 16 i) lanes s, .later)

/-- LINK.RETIRE; scope 3 is out of range. -/
def specLinkRetire : Spec where
  opcode := opcodeOf 0x10 3
  permitted := pfOnly
  allowed := fun _ _ => [0x30F]
  inRange := fun _ a _ => decide (fld (a.getD 0 0) 8 2 ≠ 3)
  part := noPart
  cls := .own
  body := linkRetireBody

/-! ### Meanings of the two modes -/

/-- FULL = 0. -/
def execLinkRetrainFast (m : Fin 18) (e : Entry) (s : State) : Host.Outcome State Fault Refusal :=
  .next (serve specLinkRetrain m.val (e.withMode 8 1 0) s)
/-- FULL = 1. -/
def execLinkRetrainFull (m : Fin 18) (e : Entry) (s : State) : Host.Outcome State Fault Refusal :=
  .next (serve specLinkRetrain m.val (e.withMode 8 1 1) s)

/-! ### Meanings of the rows -/

/-- LINK_QUERY (R331). -/
def execLinkQuery (m : Fin 18) (e : Entry) (s : State) : Host.Outcome State Fault Refusal :=
  .next (serve specLinkQuery m.val e s)

/-- LINK_RETIRE (R331). -/
def execLinkRetire (m : Fin 18) (e : Entry) (s : State) : Host.Outcome State Fault Refusal :=
  .next (serve specLinkRetire m.val e s)

/-- ALIGNMENT_MARKER_RECEIVE (R306). -/
def execAlignmentMarkerReceive (port : Fin 16) (lane : Fin 8) (raw : BitVec 128) (between : List Byte) (skew : Nat) (s : State) : Host.Outcome State Fault Refusal :=
  .next (s.whenClocked (opAlignmentMarkerReceive port lane raw between skew s))

/-- PORT_BRINGUP (R309). -/
def execPortBringup (port : Fin 16) (order : List (BitVec 3)) (stamps : List (BitVec 16)) (margins : List (BitVec 12)) (s : State) : Host.Outcome State Fault Refusal :=
  .next (s.whenClocked (opPortBringup port order stamps margins s))

/-- BRINGUP_TIMEOUT (R309). -/
def execBringupTimeout (port : Fin 16) (s : State) : Host.Outcome State Fault Refusal :=
  .next (s.whenClocked (opBringupTimeout port s))

/-- NAK_RECEIVE (R316). -/
def execNakReceive (port : Fin 16) (seq : BitVec 12) (s : State) : Host.Outcome State Fault Refusal :=
  .next (s.whenClocked (opNakReceive port seq s))

/-- NAK_RESEND (R316). -/
def execNakResend (port : Fin 16) (s : State) : Host.Outcome State Fault Refusal :=
  .next (s.whenClocked (opNakResend port s))

/-- REPLAY_TIMEOUT (R316). -/
def execReplayTimeout (port : Fin 16) (s : State) : Host.Outcome State Fault Refusal :=
  .next (s.whenClocked (opReplayTimeout port s))

/-- FAST_RETRAIN (R320). -/
def execFastRetrain (port : Fin 16) (s : State) : Host.Outcome State Fault Refusal :=
  .next (s.whenClocked (opFastRetrain port s))

/-- TRAIN_RECEIVE (R320). -/
def execTrainReceive (port : Fin 16) (s : State) : Host.Outcome State Fault Refusal :=
  .next (s.whenClocked (opTrainReceive port s))

/-- RETRAIN_END (R320). -/
def execRetrainEnd (port : Fin 16) (closed : Bool) (stamps : List (BitVec 16)) (s : State) :
    Host.Outcome State Fault Refusal :=
  .next (s.whenClocked (opRetrainEnd port closed stamps s))

/-- RETRAIN_RESTART (R320). -/
def execRetrainRestart (port : Fin 16) (s : State) : Host.Outcome State Fault Refusal :=
  .next (s.whenClocked (opRetrainRestart port s))

/-- BURST_START (R319). -/
def execBurstStart (port : Fin 16) (s : State) : Host.Outcome State Fault Refusal :=
  .next (s.whenClocked (opBurstStart port s))

/-- BURST_END (R319). -/
def execBurstEnd (port : Fin 16) (dur : BitVec 32) (s : State) : Host.Outcome State Fault Refusal :=
  .next (s.whenClocked (opBurstEnd port dur s))

/-- BURST_QUARANTINE (R322). -/
def execBurstQuarantine (port : Fin 16) (s : State) : Host.Outcome State Fault Refusal :=
  .next (s.whenClocked (opBurstQuarantine port s))

/-- RECALIBRATION_END (R321). -/
def execRecalibrationEnd (port : Fin 16) (margins : List (BitVec 12)) (s : State) : Host.Outcome State Fault Refusal :=
  .next (s.whenClocked (opRecalibrationEnd port margins s))

/-- PROBATION_END (R321). -/
def execProbationEnd (port : Fin 16) (s : State) : Host.Outcome State Fault Refusal :=
  .next (s.whenClocked (opProbationEnd port s))

/-- STUCK_LANE (R322). -/
def execStuckLane (port : Fin 16) (lane : Fin 8) (s : State) : Host.Outcome State Fault Refusal :=
  .next (s.whenClocked (opStuckLane port lane s))

/-- WIDTH_CHANGE (R325). -/
def execWidthChange (port : Fin 16) (unsound : BitVec 8) (s : State) : Host.Outcome State Fault Refusal :=
  .next (s.whenClocked (opWidthChange port unsound s))

/-- WIDTH_RECEIVE (R325). -/
def execWidthReceive (port : Fin 16) (unsound : BitVec 8) (s : State) : Host.Outcome State Fault Refusal :=
  .next (s.whenClocked (opWidthReceive port unsound s))

/-- WIDTH_CHANGE_TIMEOUT (R325). -/
def execWidthChangeTimeout (port : Fin 16) (s : State) : Host.Outcome State Fault Refusal :=
  .next (s.whenClocked (opWidthChangeTimeout port s))

/-- TXEQ_RECEIVE (R318). -/
def execTxeqReceive (port : Fin 16) (lane : Fin 8) (up : Bool) (s : State) : Host.Outcome State Fault Refusal :=
  .next (s.whenClocked (opTxeqReceive port lane up s))

/-- ADAPTATION_SNAPSHOT (R318). -/
def execAdaptationSnapshot (port : Fin 16) (margins : List (BitVec 12)) (s : State) : Host.Outcome State Fault Refusal :=
  .next (s.whenClocked (opAdaptationSnapshot port margins s))

/-- DOZE_REQUEST (R327). -/
def execDozeRequest (port : Fin 16) (s : State) : Host.Outcome State Fault Refusal :=
  .next (s.whenClocked (opDozeRequest port s))

/-- DOZE_REQ_RECEIVE (R327). -/
def execDozeReqReceive (port : Fin 16) (s : State) : Host.Outcome State Fault Refusal :=
  .next (s.whenClocked (opDozeReqReceive port s))

/-- DOZE_ACK_RECEIVE (R328). -/
def execDozeAckReceive (port : Fin 16) (s : State) : Host.Outcome State Fault Refusal :=
  .next (s.whenClocked (opDozeAckReceive port s))

/-- WAKE_REQUEST (R328). -/
def execWakeRequest (port : Fin 16) (s : State) : Host.Outcome State Fault Refusal :=
  .next (s.whenClocked (opWakeRequest port s))

/-- WAKE_RECEIVE (R328). -/
def execWakeReceive (port : Fin 16) (s : State) : Host.Outcome State Fault Refusal :=
  .next (s.whenClocked (opWakeReceive port s))

/-- DOZE_ENTRY (R329). -/
def execDozeEntry (port : Fin 16) (s : State) : Host.Outcome State Fault Refusal :=
  .next (s.whenClocked (opDozeEntry port s))

/-- WAKE_TIMEOUT (R329). -/
def execWakeTimeout (port : Fin 16) (s : State) : Host.Outcome State Fault Refusal :=
  .next (s.whenClocked (opWakeTimeout port s))

/-- UNCORRECTABLE_CODEWORD (R306). -/
def execUncorrectableCodeword (port : Fin 16) (word : Codeword) (s : State) : Host.Outcome State Fault Refusal :=
  .next (s.whenClocked (opUncorrectableCodeword port word s))

/-- SIGNAL_DETECT (R329). -/
def execSignalDetect (port : Fin 16) (s : State) : Host.Outcome State Fault Refusal :=
  .next (s.whenClocked (opSignalDetect port s))

end Sys2Proof.Machine
end

