-- ==== Sys2Proof/Machine/Fab.lean ====
section
/-! DEFINITION. The sheaf fabric (12): beacon rounds, the distance table, duplicate coordinates, the election, forwarding
in transit, outer ports and SHEAF.QUERY. -/

namespace Sys2Proof.Machine

open Sys2Proof

/-- A port that fails the wiring check (R336): LINK_DOWN is logged and a triggered beacon goes out (R338). -/
def State.miswire (i : Nat) (s : State) : State :=
  if (s.nbr i).miswired then s
  else
    let s := (s.updNbr i (fun n => { n with miswired := true })).logEvent 0x0702 .linkDown none [(0, i)]
    if i < 12 then s.sendBeacons else s

/-! ### Rounds (R338, R340) -/

/-- The vector of a torus port counts in the distance table: the port is control-capable, or in a fast retrain, with a
beacon of the last 8 rounds (R340, R347, R356). -/
def State.vectorCounts (i : Nat) (s : State) : Bool :=
  s.capable i || (decide ((s.port i).link = .retrain) && !(s.nbr i).miswired &&
    match (s.nbr i).beacon with
    | some b => !b.halted && decide ((s.nbr i).rounds ≤ 8)
    | none => false)

/-- The entry of package k in the table computed at a round (R340, R352). -/
def State.roundEntry (k : Nat) (s : State) (e : DistEntry) : DistEntry :=
  let ports := (List.range 12).filter (fun i => s.vectorCounts i && decide (s.cost k i < 15))
  let best := ports.foldl (fun b i => match b with
    | none => some i
    | some j => if s.cost k i < s.cost k j then some i else some j) none
  let e := { e with dupRounds := e.dupRounds + 1 }
  match best with
  | some i =>
    let serial : W64 := match (s.nbr i).beacon with
      | some b => (b.entries.get {} k).serial
      | none => 0
    { e with dist := BitVec.ofNat 4 (s.cost k i), port := BitVec.ofNat 4 i, serial := serial, farRounds := 0,
             nearRounds := e.nearRounds + 1 }
  | none => { e with dist := 15, port := 15, serial := 0, farRounds := e.farRounds + 1, nearRounds := 0 }

/-- The hello of an outer port (R353). The TX_PHASE is a measured value that the spec does not give (log entry 2). -/
def State.helloFor (i : Nat) (phase : BitVec 32) (s : State) : Hello :=
  { serial := s.fuse.serial, pkg := BitVec.ofNat 7 s.self, port := BitVec.ofNat 4 i, sheaf := s.fab.sheaf
    frame := s.frm.count, epoch := s.frm.epoch, master := s.frm.master, synced := s.synced, txPhase := phase }

/-- BEACON_ROUND (R338, R340, R353): the round number, the ages of what was heard, the distance table, then beacons and
outer hellos. -/
def opBeaconRound (s : State) : State :=
  if s.fab.election = .notOpen then s
  else
    let s := s.updFab (fun g => { g with
      round := if s.synced then BitVec.ofNat 16 s.frm.count.toNat
        else if g.election = .opened && g.opened = 0 then g.round else g.round + 1
      opened := if g.election = .opened then g.opened + 1 else g.opened
      keys := g.keys.map (fun x => (x.1, x.2 + 1))
      nbrs := g.nbrs.mapRow {} 12 (fun _ n => { n with rounds := n.rounds + 1 }) })
    let s0 := s
    let s := s.updFab (fun g => { g with
      dist := (List.range 128).foldl (fun t k =>
        if k = s0.self then t.upd {} k (fun e => { e with
          dist := 0, serial := s0.fuse.serial, unreachable := false, dupRounds := e.dupRounds + 1 })
        else
          let e := t.get {} k
          let e' := s0.roundEntry k e
          if e' = { farRounds := e'.farRounds, dupRounds := e'.dupRounds } && e = {} then t else t.put k e') g.dist })
    let s := s.sendBeacons
    let n := s.free
    let s := { s with free := n + 1 }
    ([12, 13, 14, 15].filter (fun i => (s.port i).up)).foldl
      (fun s i => s.txMsg i (.hello (s.helloFor i (Config.txPhase n i)))) s

/-! ### Beacons received (R336, R339, R341, R343) -/

/-- A 16-bit round number is later than another (R338, R339). -/
def roundLater (a b : BitVec 16) : Bool :=
  let d := (a - b).toNat
  decide (1 ≤ d && d ≤ 2 ^ 15 - 1)

/-- Takes a key of a neighbour's beacon: the latest ORIGIN of an identifier is kept (R339). -/
def takeKey (k : Key) (keys : List (Key × Nat)) : List (Key × Nat) :=
  match keys.find? (fun x => x.1.pkg == k.pkg) with
  | none => keys ++ [(k, 0)]
  | some x => if roundLater k.origin x.1.origin then keys.map (fun y => if y.1.pkg == k.pkg then (k, 0) else y) else keys

/-- The identifiers for which a received beacon shows a duplicate (R341). -/
def State.dupsIn (b : Beacon) (s : State) : List Nat :=
  (List.range 128).filter (fun k =>
    let r := b.entries.get {} k
    let own := if k = s.self then s.fuse.serial else (s.fab.dist.get {} k).serial
    r.dup || (decide (s.distTo k < 15) && own != 0 && decide (r.dist.toNat < 15) && r.serial != 0 && r.serial != own))

/-- Halts the package with DUPLICATE_COORD (R341). -/
def State.haltDup (s : State) : State :=
  if s.fab.election = .halted then s
  else (s.updFab (fun g => { g with election := .halted })).logEvent 0x0801 .duplicateCoord none [(0, s.self)]

/-- Marks identifiers DUP, drops their keys, and halts the package if its own is among them (R339, R341). -/
def State.markDups (ks : List Nat) (s : State) : State :=
  let s := ks.foldl (fun s k => s.updFab (fun g => { g with
    dist := g.dist.upd {} k (fun e => { e with dup := true, dupRounds := 0 })
    keys := g.keys.filter (fun x => x.1.pkg.toNat != k) })) s
  if ks.contains s.self then s.haltDup else s

/-- Closes an open election as a late joiner (R343). -/
def State.lateJoin (s : State) : State :=
  if s.fab.election = .opened then s.updFab (fun g => { g with election := .closed }) else s

/-- BEACON_RECEIVE (R339): the wiring check, the neighbour's vector, its keys and duplicate marks, the round number and the
close of an open election. -/
def opBeaconReceive (port : Fin 16) (b : Beacon) (s : State) : State :=
  let i := port.val
  if !(s.port i).up || s.fab.election = .halted then s
  else if 12 ≤ i || b.sheaf != s.fab.sheaf || b.pkg.toNat != neighbour s.self i || b.port.toNat != farPort i then s.miswire i
  else if (s.nbr i).miswired then s
  else
    let s := s.updNbr i (fun n => { n with beacon := some b, rounds := 0 })
    let ok (k : Key) : Bool := k.pkg.toNat != s.self && !(s.fab.dist.get {} k.pkg.toNat).dup && !(b.halted && k.pkg == b.pkg)
    let s := s.updFab (fun g => { g with
      keys := (b.keys.filter ok).foldl (fun l k => takeKey k l)
        (if b.halted then g.keys.filter (fun x => x.1.pkg != b.pkg) else g.keys) })
    let s := s.markDups (s.dupsIn b)
    let s := if s.fab.election = .opened && !s.synced && roundLater b.round s.fab.round then
        s.updFab (fun g => { g with opened := g.opened + (b.round - g.round).toNat, round := b.round })
      else s
    let s := if b.closed then s.lateJoin else s
    s.retryWaiting

/-- DUP_FLAG_CLEAR (R341): 64 rounds without such an event. -/
def opDupFlagClear (pkg : Fin 128) (s : State) : State :=
  let e := s.fab.dist.get {} pkg.val
  if e.dup && decide (64 ≤ e.dupRounds) then
    s.updFab (fun g => { g with dist := g.dist.upd {} pkg.val (fun e => { e with dup := false }) })
  else s

/-- KEY_EXPIRY (R339): ORIGIN has not advanced during 32 rounds. -/
def opKeyExpiry (pkg : Fin 128) (s : State) : State :=
  s.updFab (fun g => { g with keys := g.keys.filter (fun x => !(x.1.pkg.toNat == pkg.val && decide (32 ≤ x.2))) })

/-- NEIGHBOUR_VECTOR_EXPIRY (R340): 8 rounds without a beacon. -/
def opNeighbourVectorExpiry (port : Fin 12) (s : State) : State :=
  if 8 < (s.nbr port.val).rounds then s.updNbr port.val (fun n => { n with beacon := none }) else s

/-! ### Election (R342 to R344) -/

/-- Opens the election (R342). -/
def State.openElection (s : State) : State :=
  s.updFab (fun g => { g with election := .opened, opened := 0 })

/-- Becomes master: the first time frame 0 starts at the next commit instant with EPOCH 0, afterwards the count goes on
with EPOCH one higher (R342, R343, R344, R58). -/
def State.becomeMaster (role : Role) (deputy : Nat) (s : State) : State :=
  let again := s.frm.started
  let s := s.updFrm (fun f => { f with
    role := role, state := .locked, master := BitVec.ofNat 7 s.self, deputy := BitVec.ofNat 7 deputy
    epoch := if again then f.epoch + 1 else 0
    hops := 0, parent := 15, missing := 0, holdFrames := 0, demote := false
    phase := if f.phase = .stopped then .slack else f.phase })
  let s := s.syncChanged
  if again then s.parentChanged else s

/-- The election closes (R342, R343): the best key becomes master, the second deputy; a package that found no peer is
STANDALONE. -/
def State.closeElection (s : State) : State :=
  if s.fab.election != .opened || s.fab.opened < 10 then s
  else
    let alone := !(List.range 12).any (fun i => s.capable i || (s.nbr i).beacon.isSome)
    if alone then
      let s := s.updFab (fun g => { g with election := .standalone })
      if s.frm.role = .standalone then s else s.becomeMaster .standalone s.self
    else
      let s := s.updFab (fun g => { g with election := .closed })
      match s.keyList with
      | [] => s
      | k :: rest =>
        let second := match rest with
          | d :: _ => d.pkg.toNat
          | [] => k.pkg.toNat
        if k.pkg.toNat = s.self then s.becomeMaster .master second
        else
          let s := s.updFrm (fun f => { f with
            role := if second = s.self then .deputy else .member
            master := k.pkg, deputy := BitVec.ofNat 7 second })
          s.syncChanged

/-- DEPUTY_RENAME (R344): the best key other than the own and the lost master's. -/
def opDeputyRename (s : State) : State :=
  match s.fab.lostMaster with
  | none => s
  | some l =>
    if s.frm.role != .master then s
    else
      let d := (s.keyList.filter (fun k => k.pkg.toNat != s.self && k.pkg.toNat != l)).head?
      let s := s.updFab (fun g => { g with lostMaster := none })
      s.updFrm (fun f => { f with deputy := (d.map (·.pkg)).getD (BitVec.ofNat 7 s.self) })

/-- STANDALONE_REOPEN (R343): a torus port has become control-capable; the own frames go on. -/
def opStandaloneReopen (s : State) : State :=
  if s.fab.election = .standalone && (List.range 12).any (fun i => s.capable i) then s.openElection else s

/-! ### Transit (R345 to R348) -/

/-- CONTROL_FLIT_FORWARD (R347): the oldest control flit in transit leaves with HOPS one higher on the least-distance capable
port, or on that of its message's FIRST flit (R348); it waits while it has a finite distance, or is discarded. A halted
package forwards nothing (R341). -/
def opControlFlitForward (port : Fin 12) (s : State) : State :=
  match s.fab.control.get [] port.val with
  | [] => s
  | f :: rest =>
    if s.fab.election = .halted then s
    else
      let drop (s : State) : State := s.updFab (fun g => { g with control := g.control.put port.val rest })
      match s.portFor f with
      | some i => ((drop s).noteWay i f).tx i { f with hops := f.hops + 1 }
      | none => if s.distTo (f.dst.getD 0) < 15 then s else (drop s).discardFlit port.val f

/-- A control flit in transit enters the control region of 64 flits of its port; with HOPS = 15 or no room it is discarded
(R345, R347). -/
def State.enterTransit (i : Nat) (f : Flit) (s : State) : State :=
  if 15 ≤ f.hops || 64 ≤ (s.fab.control.get [] i).length || s.fab.election = .halted then s.discardFlit i f
  else s.updFab (fun g => { g with control := g.control.upd [] i (· ++ [f]) })

/-! ### Messages of several flits (R348) -/

/-- Takes an arriving control flit into its message: the flits FIRST to LAST once they are whole. A flit without its FIRST,
and a message cut short by a new FIRST, are discarded and logged. `from_`: the SRC, or 128 plus the port of a LOCAL flit. -/
def State.gatherFlit (port from_ : Nat) (f : Flit) (s : State) : State × Option (List Flit) :=
  let key := (from_, f.type)
  let got := ((s.fab.parts.find? (fun x => x.1 == key)).map (·.2)).getD []
  let keep (fs : List Flit) (s : State) : State := s.updFab (fun g => { g with
    parts := g.parts.filter (fun x => x.1 != key) ++ (if fs.isEmpty then [] else [(key, fs)]) })
  if f.first then
    let s := if got.isEmpty then s else s.discardFlit port f
    if f.last then (keep [] s, some [f]) else (keep [f] s, none)
  else if got.isEmpty then (s.discardFlit port f, none)
  else if f.last then (keep [] s, some (got ++ [f]))
  else (keep (got ++ [f]) s, none)

/-! ### Outer ports (R353 to R355) -/

/-- OUTER_HELLO_RECEIVE (R353): the far end and the sheaf offset; `arrival` counts from the own commit instant. -/
def opOuterHelloReceive (port : Fin 16) (h : Hello) (arrival : Int) (s : State) : State :=
  let i := port.val
  if !(s.port i).up || s.fab.election = .halted then s
  else if i < 12 || h.sheaf == s.fab.sheaf then s.miswire i
  else if (s.nbr i).miswired then s
  else s.updOuter (i - 12) (fun o => { o with
    farSheaf := h.sheaf, farPkg := h.pkg, farPort := h.port, farFrame := h.frame
    offset := ofInt 48 (arrival - (s.port i).lat.toNat - h.txPhase.toNat) })

/-- Flits of a CREDIT_DATA message: its 16 header bytes and the data at 240 bytes a flit (R354). -/
def creditFlits (bytes : List Byte) : Nat := (16 + bytes.length + 239) / 240

/-- Sends a CREDIT_DATA message on outer port o while the credits cover it (R354). -/
def State.sendCredit (o : Nat) (channel : Nat) (bytes : List Byte) (s : State) : State × Bool :=
  let n := creditFlits bytes
  let p := s.port (12 + o)
  if p.up && !(s.nbr (12 + o)).miswired && p.health != .quarantine && decide (n ≤ 16) && decide (n ≤ (s.outer o).credits.toNat) then
    ((s.updOuter o (fun x => { x with credits := x.credits - BitVec.ofNat 7 n })).txMsg (12 + o) (.creditData channel n bytes), true)
  else (s, false)

/-- CREDIT_DATA_SEND (R354); Choesk uses CHANNEL 0 only (R355). -/
def opCreditDataSend (o : Fin 4) (channel : BitVec 4) (bytes : List Byte) (s : State) : State :=
  if channel = 0 then (s.sendCredit o.val 0 bytes).1 else s

/-- CREDIT_DATA_RECEIVE (R354, R355): the latest sheaf status is kept, another CHANNEL discarded and counted; the flits
are freed at once and await their return. -/
def opCreditDataReceive (o : Fin 4) (channel : BitVec 4) (bytes : List Byte) (s : State) : State :=
  if !(s.port (12 + o.val)).up || (s.nbr (12 + o.val)).miswired then s
  else s.updOuter o.val (fun x =>
    let x := { x with unreturned := x.unreturned + creditFlits bytes }
    if channel = 0 then { x with status := BitVec.ofNat 24 (ofBytesLE (bytes.take 3)) }
    else { x with discarded := satAdd x.discarded 1 })

/-- CREDIT_RETURN (R354): freed flits are returned in a notice. -/
def opCreditReturn (o : Fin 4) (s : State) : State :=
  let n := (s.outer o.val).unreturned
  if n = 0 || !(s.port (12 + o.val)).up then s
  else (s.updOuter o.val (fun x => { x with unreturned := 0 })).txMsg (12 + o.val) (.creditReturn n)

/-- CREDIT_RETURN_RECEIVE (R354): the sender never holds more than the 64 flits of the far buffer. -/
def opCreditReturnReceive (o : Fin 4) (count : BitVec 7) (s : State) : State :=
  s.updOuter o.val (fun x => { x with credits := BitVec.ofNat 7 (min 64 (x.credits.toNat + count.toNat)) })

/-- Packages unreachable from here. -/
def State.unreachables (s : State) : Nat :=
  ((List.range 128).filter (fun k => k != s.self && (s.fab.dist.get {} k).unreachable)).length

/-- SHEAF_STATUS_SEND (R355): every 1,024 frames on each UP outer port that is not MISWIRED; from a port in QUARANTINE on
another UP port to the same far sheaf; otherwise the omission is counted. -/
def opSheafStatusSend (s : State) : State :=
  if s.fab.statusFrames < 1024 then s
  else
    let bytes := bytesLE 8 (s.frm.master.toNat + 256 * s.frm.epoch.toNat + 65536 * min 255 s.unreachables)
    let s := s.updFab (fun g => { g with statusFrames := 0 })
    ([0, 1, 2, 3].filter (fun o => (s.port (12 + o)).up && !(s.nbr (12 + o)).miswired)).foldl (fun s o =>
      let target := if (s.port (12 + o)).health = .quarantine then (s.outerBeside o).head? else some o
      match target with
      | none => s.updOuter o (fun x => { x with discarded := satAdd x.discarded 1 })
      | some x =>
        match s.sendCredit x 0 bytes with
        | (s', true) => s'
        | (s', false) => s'.updOuter o (fun x => { x with discarded := satAdd x.discarded 1 })) s

/-! ### SHEAF.QUERY (R357) -/

/-- Election code of Table 12-7. -/
def Election.code : Election → Nat
  | .notOpen | .opened => 0
  | .closed => 1
  | .halted => 2
  | .standalone => 3

/-- Port code of Table 12-7. -/
def State.portCode (i : Nat) (s : State) : Nat :=
  if (s.port i).health = .retired then 4
  else if (s.nbr i).miswired then 3
  else if s.capable i then 1
  else if (s.port i).up then 2
  else 0

/-- Reachability of 64 packages from `base`. -/
def State.reachBits (base : Nat) (s : State) : W64 :=
  word ((List.range 64).map (fun k => (k, b2n (base + k = s.self || !(s.fab.dist.get {} (base + k)).unreachable))))

/-- Result words of SHEAF.QUERY. -/
def sheafQueryWords (a : W64) (s : State) : List W64 :=
  match fld a 0 2 with
  | 0 =>
    [word [(0, s.self), (7, s.fab.sheaf.toNat), (19, s.fab.election.code), (21, s.fab.round.toNat)], s.reachBits 0, s.reachBits 64,
      word ((List.range 16).map (fun i => (4 * i, s.portCode i))),
      word [(0, s.fab.alternate.toNat), (32, s.fab.discarded.toNat), (48, s.fab.reachChanges.toNat)]]
  | 1 =>
    let k := fld a 8 7
    let e := s.fab.dist.get {} k
    [word [(0, s.distTo k), (4, if k = s.self then 15 else e.port.toNat), (8, b2n e.dup), (9, b2n (k != s.self && e.unreachable))],
      if k = s.self then s.fuse.serial else e.serial]
  | _ =>
    let o := s.outer (fld a 16 2)
    [word [(0, o.farSheaf.toNat), (12, o.farPkg.toNat), (19, o.farPort.toNat), (23, b2n (s.nbr (12 + fld a 16 2)).miswired)],
      word [(0, o.farFrame.toNat)], word [(0, o.offset.toNat)], word [(0, o.status.toNat)],
      word [(0, o.credits.toNat), (16, o.discarded.toNat)]]

/-- SHEAF.QUERY (R357); each mode uses its own argument bits. -/
def specSheafQuery : Spec where
  opcode := 0x1101
  permitted := fun m => decide (m ≤ 17)
  allowed := fun _ a => match fld (a.getD 0 0) 0 2 with
    | 1 => [maskOf 64 [(0, 2), (8, 7)]]
    | 2 => [maskOf 64 [(0, 2), (16, 2)]]
    | _ => [3]
  inRange := fun _ a _ => decide (fld (a.getD 0 0) 0 2 ≠ 3)
  part := noPart
  cls := .q
  body := fun _ _ e s => (s, .done (sheafQueryWords (e.arg 0) s))

/-! ### Meanings of the rows -/

/-- SHEAF_QUERY (R357). -/
def execSheafQuery (m : Fin 18) (e : Entry) (s : State) : Host.Outcome State Fault Refusal :=
  .next (serve specSheafQuery m.val e s)

/-- BEACON_ROUND (R338). -/
def execBeaconRound (s : State) : Host.Outcome State Fault Refusal :=
  .next (s.whenClocked (opBeaconRound s))

/-- BEACON_RECEIVE (R339). -/
def execBeaconReceive (port : Fin 16) (b : Beacon) (s : State) : Host.Outcome State Fault Refusal :=
  .next (s.whenClocked (opBeaconReceive port b s))

/-- DUP_FLAG_CLEAR (R341). -/
def execDupFlagClear (pkg : Fin 128) (s : State) : Host.Outcome State Fault Refusal :=
  .next (s.whenClocked (opDupFlagClear pkg s))

/-- KEY_EXPIRY (R339). -/
def execKeyExpiry (pkg : Fin 128) (s : State) : Host.Outcome State Fault Refusal :=
  .next (s.whenClocked (opKeyExpiry pkg s))

/-- NEIGHBOUR_VECTOR_EXPIRY (R340). -/
def execNeighbourVectorExpiry (port : Fin 12) (s : State) : Host.Outcome State Fault Refusal :=
  .next (s.whenClocked (opNeighbourVectorExpiry port s))

/-- DEPUTY_RENAME (R344). -/
def execDeputyRename (s : State) : Host.Outcome State Fault Refusal :=
  .next (s.whenClocked (opDeputyRename s))

/-- STANDALONE_REOPEN (R343). -/
def execStandaloneReopen (s : State) : Host.Outcome State Fault Refusal :=
  .next (s.whenClocked (opStandaloneReopen s))

/-- CONTROL_FLIT_FORWARD (R347). -/
def execControlFlitForward (port : Fin 12) (s : State) : Host.Outcome State Fault Refusal :=
  .next (s.whenClocked (opControlFlitForward port s))

/-- OUTER_HELLO_RECEIVE (R353). -/
def execOuterHelloReceive (port : Fin 16) (h : Hello) (arrival : Int) (s : State) : Host.Outcome State Fault Refusal :=
  .next (s.whenClocked (opOuterHelloReceive port h arrival s))

/-- CREDIT_DATA_SEND (R354). -/
def execCreditDataSend (o : Fin 4) (channel : BitVec 4) (bytes : List Byte) (s : State) : Host.Outcome State Fault Refusal :=
  .next (s.whenClocked (opCreditDataSend o channel bytes s))

/-- CREDIT_DATA_RECEIVE (R354). -/
def execCreditDataReceive (o : Fin 4) (channel : BitVec 4) (bytes : List Byte) (s : State) : Host.Outcome State Fault Refusal :=
  .next (s.whenClocked (opCreditDataReceive o channel bytes s))

/-- CREDIT_RETURN (R354). -/
def execCreditReturn (o : Fin 4) (s : State) : Host.Outcome State Fault Refusal :=
  .next (s.whenClocked (opCreditReturn o s))

/-- CREDIT_RETURN_RECEIVE (R354). -/
def execCreditReturnReceive (o : Fin 4) (count : BitVec 7) (s : State) : Host.Outcome State Fault Refusal :=
  .next (s.whenClocked (opCreditReturnReceive o count s))

/-- SHEAF_STATUS_SEND (R355). -/
def execSheafStatusSend (s : State) : Host.Outcome State Fault Refusal :=
  .next (s.whenClocked (opSheafStatusSend s))

end Sys2Proof.Machine
end

