-- ==== Sys2Proof/Machine/Desc.lean ====
section
/-! DEFINITION. The operation descriptor (R136, Table 5-2): its fields, the loop nest (R142), the common static checks
(R137, R138) and handles in memory (R149). -/

namespace Sys2Proof.Machine

/-- KIND. -/
def Desc.kind (d : Desc) : Nat := fld d 0 8
/-- VARIANT. -/
def Desc.variant (d : Desc) : Nat := fld d 8 4
/-- FRAME_BOUND. -/
def Desc.frameBound (d : Desc) : Bool := bit d 12
/-- ORDERED. -/
def Desc.ordered (d : Desc) : Bool := bit d 13
/-- ACC. -/
def Desc.acc (d : Desc) : Bool := bit d 14
/-- LOOP_ORDER. -/
def Desc.loopOrder (d : Desc) : Nat := fld d 16 3
/-- FMT_A. -/
def Desc.fmtA (d : Desc) : Nat := fld d 20 2
/-- FMT_B. -/
def Desc.fmtB (d : Desc) : Nat := fld d 22 2
/-- FMT_C. -/
def Desc.fmtC (d : Desc) : Nat := fld d 24 2
/-- TILLER. -/
def Desc.tiller (d : Desc) : Nat := fld d 32 7
/-- ENERGY_HINT. -/
def Desc.hint (d : Desc) : Nat := fld d 64 24
/-- IN0. -/
def Desc.in0 (d : Desc) : Nat := fld d 96 10
/-- IN1. -/
def Desc.in1 (d : Desc) : Nat := fld d 106 10
/-- OUT. -/
def Desc.out (d : Desc) : Nat := fld d 116 10
/-- FREE. -/
def Desc.free (d : Desc) : Nat := fld d 128 10
/-- KEEP_IN. -/
def Desc.keepIn (d : Desc) : Bool := bit d 138
/-- ADDR_A. -/
def Desc.addrA (d : Desc) : Nat := fld d 192 52
/-- HANDLE_A. -/
def Desc.handleA (d : Desc) : Bool := bit d 244
/-- ADDR_B. -/
def Desc.addrB (d : Desc) : Nat := fld d 256 52
/-- HANDLE_B. -/
def Desc.handleB (d : Desc) : Bool := bit d 308
/-- ADDR_C. -/
def Desc.addrC (d : Desc) : Nat := fld d 320 52
/-- HANDLE_C. -/
def Desc.handleC (d : Desc) : Bool := bit d 372
/-- ADDR_D. -/
def Desc.addrD (d : Desc) : Nat := fld d 384 52
/-- STRIDE_A. -/
def Desc.strideA (d : Desc) : Nat := fld d 448 32
/-- STRIDE_B. -/
def Desc.strideB (d : Desc) : Nat := fld d 480 32
/-- STRIDE_C. -/
def Desc.strideC (d : Desc) : Nat := fld d 512 32
/-- STRIDE_D. -/
def Desc.strideD (d : Desc) : Nat := fld d 544 32
/-- TM. -/
def Desc.tm (d : Desc) : Nat := fld d 576 16
/-- TN. -/
def Desc.tn (d : Desc) : Nat := fld d 592 16
/-- TK. -/
def Desc.tk (d : Desc) : Nat := fld d 608 16
/-- The bound field of M, N, K or H: index 0 to 3. -/
def Desc.bound (i : Nat) (d : Desc) : Nat := fld d (640 + 32 * i) 32
/-- BOUND_ADDR. -/
def Desc.boundAddr (d : Desc) : Nat := fld d 768 52
/-- HSTRIDE_A. -/
def Desc.hstrideA (d : Desc) : Nat := fld d 832 32
/-- HSTRIDE_B. -/
def Desc.hstrideB (d : Desc) : Nat := fld d 864 32
/-- HSTRIDE_C. -/
def Desc.hstrideC (d : Desc) : Nat := fld d 896 32
/-- HSTRIDE_D. -/
def Desc.hstrideD (d : Desc) : Nat := fld d 928 32
/-- PARAM. -/
def Desc.param (d : Desc) : Nat := fld d 960 64

/-- Die of a tiller (R107): W 0, E 1. -/
def tillerDie (t : Nat) : Nat := t / 64
/-- Package row of a tiller (R14). -/
def tillerRow (t : Nat) : Nat := t / 8

/-- A queue reference uses its queue. -/
def qUse (r : Nat) : Bool := r / 512 % 2 == 1
/-- Key of the queue a reference names: 256·die + queue. -/
def qKey (r : Nat) : Nat := r % 512
/-- Package row of a queue: die row floor(q/32) (R150). -/
def qRow (r : Nat) : Nat := 8 * (r / 256 % 2) + r % 256 / 32

/-- Source of a bound field: 0 immediate, 1 register, 2 memory word, 3 reserved (R136). -/
def boundSrc (b : Nat) : Nat := b / 2 ^ 30 % 4
/-- Immediate value of a bound field. -/
def boundVal (b : Nat) : Nat := b % 2 ^ 30
/-- A bound field coded immediate 1. -/
def boundIsOne (b : Nat) : Bool := b == 1

/-- Bytes of an element: E4M3, E5M2, BF16, FP32. -/
def fmtBytes (f : Nat) : Nat := if f = 2 then 2 else if f = 3 then 4 else 1

/-- A bound field that breaks the coding rule of R136. -/
def boundBad (b : Nat) : Bool :=
  match boundSrc b with
  | 0 => false
  | 1 => decide (64 ≤ boundVal b)
  | 2 => decide (2 ^ 16 ≤ boundVal b)
  | _ => true

/-- The frame-bound rule of Table 5-1: the only permitted value of the bit, or either. -/
def frameBoundRule (kind : Nat) : Option Bool :=
  if kind = 2 || kind = 3 then none
  else some (kind = 5 || kind = 6 || kind = 8 || kind = 9)

/-! ### Loop nest (R142) -/

/-- The bounds of the three inner loops from outer to inner, as indices 0 M, 1 N, 2 K (Table 5-4). -/
def loopAxes (code : Nat) : List Nat :=
  match code with
  | 0 => [0, 1, 2]
  | 1 => [1, 0, 2]
  | 2 => [0, 2, 1]
  | 3 => [1, 2, 0]
  | 4 => [2, 0, 1]
  | _ => [2, 1, 0]

/-- The indices (h, m, n, k) of iteration `i` of the loop nest. -/
def loopIndex (code m n k i : Nat) : Nat × Nat × Nat × Nat :=
  let size (a : Nat) : Nat := if a = 0 then m else if a = 1 then n else k
  let ax := loopAxes code
  let a0 := ax.getD 0 0
  let a1 := ax.getD 1 0
  let a2 := ax.getD 2 0
  let s1 := size a1
  let s2 := size a2
  let per := size a0 * s1 * s2
  let r := i % per
  let x0 := r / (s1 * s2)
  let x1 := r / s2 % s1
  let x2 := r % s2
  let pick (a : Nat) : Nat := if a = a0 then x0 else if a = a1 then x1 else x2
  (i / per, pick 0, pick 1, pick 2)

/-- Tile address of A (R142). -/
def Desc.tileA (d : Desc) (h m k : Nat) : Nat :=
  d.addrA + h * d.hstrideA + m * d.tm * d.strideA + k * d.tk * fmtBytes d.fmtA
/-- Tile address of B (R142). -/
def Desc.tileB (d : Desc) (h k n : Nat) : Nat :=
  d.addrB + h * d.hstrideB + k * d.tk * d.strideB + n * d.tn * fmtBytes d.fmtB
/-- Tile address of C (R142). -/
def Desc.tileC (d : Desc) (h m n : Nat) : Nat :=
  d.addrC + h * d.hstrideC + m * d.tm * d.strideC + n * d.tn * fmtBytes d.fmtC

/-- Extent of a tile: (rows − 1) × stride + row bytes (R155). -/
def extent (rows stride rowBytes : Nat) : Nat := (rows - 1) * stride + rowBytes

/-! ### Engines and structural cost (Tables 5-1, 14-1) -/

/-- The MAC engine a kind holds: 0 none, 1 FP8, 2 BF16. -/
def Desc.macMode (d : Desc) : Nat :=
  if d.kind = 1 || d.kind = 2 || d.kind = 3 || d.kind = 8 then (if d.fmtA = 2 then 2 else 1) else 0
/-- The kind holds the SFU engine. -/
def Desc.usesSfu (d : Desc) : Bool := d.kind = 2 || d.kind = 3 || d.kind = 4
/-- The kind holds the move engine. -/
def Desc.usesMove (d : Desc) : Bool :=
  d.kind = 5 || d.kind = 6 || d.kind = 8 || d.kind = 9 || d.kind = 10
/-- The engines a kind holds: 0 MAC, 1 SFU, 2 move. -/
def Desc.engines (d : Desc) : List Nat :=
  (if d.macMode = 0 then [] else [0]) ++ (if d.usesSfu then [1] else []) ++ (if d.usesMove then [2] else [])

/-- Energy per core cycle of an engine of an operation, in pJ (Table 14-1). Kinds charged per byte only take none
(R388). -/
def Desc.cyclePj (d : Desc) (engine : Nat) : Nat :=
  match engine with
  | 0 => if d.macMode = 1 then 3200 else if d.macMode = 2 then 2800 else 0
  | 1 => if d.usesSfu then 400 else 0
  | _ => if d.kind = 8 then 250 else 0

/-- Full core current of an engine of an operation at 1.40 GHz, in mA (Table 14-1). -/
def Desc.currentMa (d : Desc) (engine : Nat) : Nat :=
  match engine with
  | 0 => if d.macMode = 1 then 6000 else if d.macMode = 2 then 5200 else 0
  | 1 => if d.usesSfu then 750 else 0
  | _ => if d.usesMove then 470 else 0

/-- pJ in whole units of 0.1 µJ, rounded up. -/
def pjUnits (pj : Nat) : Nat := (pj + 99999) / 100000

/-! ### Handles (Table 5-7) -/

/-- The 16 bytes of a handle as a number. -/
def Handle.toNat (h : Handle) : Nat :=
  h.base.toNat % 2 ^ 52 + h.lines.toNat * 2 ^ 56 + h.tag.toNat * 2 ^ 76 + h.home.toNat * 2 ^ 86 + h.index.toNat * 2 ^ 96

/-- A handle from its 16 bytes. -/
def Handle.ofNat (n : Nat) : Handle :=
  { base := BitVec.ofNat 64 (n % 2 ^ 52), lines := BitVec.ofNat 20 (n / 2 ^ 56), tag := BitVec.ofNat 10 (n / 2 ^ 76)
    home := BitVec.ofNat 10 (n / 2 ^ 86), index := BitVec.ofNat 16 (n / 2 ^ 96) }

end Sys2Proof.Machine
end

