-- ==== Sys2Proof/Machine/Access.lean ====
section
/-! DEFINITION. Device virtual addresses (R107, R108), the translation caches (R119), the checks of every memory kind
(R117, Table 4-5), ECC (R22, R118), and reads and writes of ranges. -/

namespace Sys2Proof.Machine

/-! ### Addresses (Table 4-1) -/

/-- SPACE of a DVA. -/
def dvaSpace (a : Nat) : Nat := a / 2 ^ 50 % 4
/-- VPN of a space 0 DVA. -/
def dvaVpn (a : Nat) : Nat := a / 2 ^ 29 % 512
/-- WINDOW of a space 1 DVA. -/
def dvaWin (a : Nat) : Nat := a / 2 ^ 30 % 256
/-- TILLER of a space 2 DVA. -/
def dvaTiller (a : Nat) : Nat := a / 2 ^ 22 % 128

/-- The format rule of R107: at most 52 bits, SPACE not 3, and the fields that must be 0. -/
def dvaGood (a : Nat) : Bool :=
  decide (a < 2 ^ 52) && match dvaSpace a with
    | 0 | 1 => a / 2 ^ 38 % 2 ^ 12 == 0
    | 2 => a / 2 ^ 29 % 2 ^ 21 == 0
    | _ => false

/-- A place in memory after translation. -/
inductive Phys where
  | dev (ppn off : Nat)
  | host (addr : Nat)
  | spad (addr : Nat)
  deriving DecidableEq, Repr

/-- The byte address in the memory a place names. -/
def Phys.addr : Phys → Nat
  | .dev p o => p * 2 ^ 29 + o
  | .host a => a
  | .spad a => a

/-- Who makes an access: die, tag, and what a fault record names; `op` names an operation in flight whose line accesses
are remembered over a wait (R108); `fetch` names the job and index of a descriptor that is fetched (R134). -/
structure Who where
  die : Nat
  tag : BitVec 10
  ticket : BitVec 32 := 0
  slot : BitVec 12 := 0
  op : Option Nat := none
  fetch : Option (Nat × Nat) := none
  deriving DecidableEq, Repr

/-- Partition of a tag. -/
def Who.part (w : Who) : Nat := w.tag.toNat / 64
/-- Context of a tag. -/
def Who.ctx (w : Who) : Nat := w.tag.toNat % 64

/-- What an access gives: a value, a fault, or a wait for a Translation Completion. -/
inductive Got (α : Type) where
  | ok (a : α)
  | fault (r : FaultRec)
  | wait
  deriving DecidableEq, Repr

/-- A fault record for an access (R127). -/
def Who.fault (w : Who) (cause : Reason) (kind : Nat) (write : Bool) (dva place : Nat) : FaultRec :=
  { tag := w.tag, cause := cause, kind := BitVec.ofNat 8 kind, die := w.die, write := write
    dva := BitVec.ofNat 64 (dva / 64 * 64 % 2 ^ 52), ticket := w.ticket, slot := w.slot, place := BitVec.ofNat 16 place }

/-! ### The caches -/

/-- The cache of a die. -/
def State.cache (d : Nat) (s : State) : List XlEntry := s.xlt.caches.get [] d

/-- Rows of partition p on die d. -/
def State.rowsOn (p d : Nat) (s : State) : Nat := ((List.range 8).filter (fun r => bit (s.part p).rows (8 * d + r))).length

/-- Changes the counters of a die. -/
def State.updXltRegs (d : Nat) (f : XltRegs → XltRegs) (s : State) : State :=
  s.updXlt (fun x => { x with regs := x.regs.upd {} d f })

/-- Keeps a partition within the slices of its own rows on a die, 32 entries each: its entries filled earliest go first
(R119). -/
def State.trimCache (p d : Nat) (s : State) : State :=
  let c := s.cache d
  let mine := c.filter (fun x => x.part == p)
  s.updXlt (fun x => { x with
    caches := x.caches.put d ((mine.take (mine.length - 32 * s.rowsOn p d)).foldl (fun c e => c.erase e) c) })

/-- Fills an entry in the slices of its partition's rows (R119). -/
def State.fill (d : Nat) (e : XlEntry) (s : State) : State :=
  (s.updXlt (fun x => { x with caches := x.caches.put d (s.cache d ++ [e]) })).trimCache e.part d

/-- The access as the translation cache sees it: on a die where the partition has no row, and so no slice, it goes through
the other die's cache (R119, log entry 107). -/
def State.atCache (w : Who) (s : State) : Who := if s.rowsOn w.part w.die = 0 then { w with die := 1 - w.die } else w

/-- The operation of a number. -/
def State.op? (id : Nat) (s : State) : Option Op := s.seq.ops.find? (fun o => o.id == id)

/-- Changes an operation. -/
def State.updOp (id : Nat) (f : Op → Op) (s : State) : State :=
  s.updSeq (fun q => { q with ops := q.ops.map (fun o => if o.id == id then f o else o) })

/-- Enters a fetched descriptor of a job (R134). -/
def State.noteFetched (uid index : Nat) (d : Desc) (s : State) : State :=
  s.updAdm (fun a => { a with
    jobs := a.jobs.map (fun x => if x.cmd.uid == uid then { x with fetched := x.fetched ++ [(index, d)] } else x) })

/-- The next line access of an operation that resumes, where it has been made already: what it gave (R108). -/
def State.madeLine (w : Who) (s : State) : Option (List Byte) :=
  (w.op.bind (fun i => s.op? i)).bind (fun o => (o.lines.drop o.cursor).head?)

/-- Goes past a line access that has been made already. -/
def State.passLine (w : Who) (s : State) : State :=
  match w.op with
  | none => s
  | some i => s.updOp i (fun o => { o with cursor := o.cursor + 1 })

/-- Remembers a line access and what it gave. -/
def State.noteLine (w : Who) (bs : List Byte) (s : State) : State :=
  match w.op with
  | none => s
  | some i => s.updOp i (fun o => { o with lines := o.lines ++ [bs], cursor := o.cursor + 1 })

/-- The accessor an operation is. -/
def Op.who (o : Op) : Who :=
  { die := o.die, tag := BitVec.ofNat 10 (tagOf o.part o.ctx), ticket := o.ticket, slot := o.slot, op := some o.id }

/-- The device page table entry of a VPN. -/
def State.dpte (p vpn : Nat) (s : State) : Dpte := s.xlt.dev.get {} (512 * p + vpn)
/-- The host window entry. -/
def State.hwin (p w : Nat) (s : State) : Hwin := s.xlt.win.get {} (256 * p + w)
/-- The ownership entry of a page. -/
def State.ownEntry (ppn : Nat) (s : State) : Own := s.xlt.own.get {} ppn

/-- Looks an entry up in a die's cache. -/
def State.lookup (d p : Nat) (host : Bool) (num : Nat) (s : State) : Option XlEntry :=
  (s.cache d).find? (fun e => e.part == p && e.host == host && e.num == num)

/-- A miss on a window: counted once for each access that misses, however often it looks again while it waits (R130). -/
def State.countMissHost (w : Who) (write : Bool) (a : Nat) (s : State) : State :=
  let key := (w.slot, BitVec.ofNat 64 a, write)
  let mine (r : XlReq) : Bool := r.die == w.die && r.part == w.part && r.win == dvaWin a
  if s.xlt.reqs.any (fun r => mine r && r.waiters.contains key) then s
  else
    let s := s.updXltRegs w.die (fun r => { r with missHost := satAdd r.missHost 1 })
    s.updXlt (fun x => { x with
      reqs := x.reqs.map (fun r => if mine r then { r with waiters := r.waiters ++ [key] } else r) })

/-- Asks for the translation of a window's base (R114), once while a request for it is under way. -/
def State.requestWindow (w : Who) (write : Bool) (a : Nat) (s : State) : State :=
  let win := dvaWin a
  if s.xlt.reqs.any (fun r => r.die == w.die && r.part == w.part && r.win == win) then s
  else
    let id := s.xlt.nextReq
    let s := s.updXlt (fun x => { x with
      nextReq := id + 1
      reqs := x.reqs ++ [{
        id := id, die := w.die, part := w.part, win := win, tag := w.tag, write := write, ticket := w.ticket
        slot := w.slot, dva := BitVec.ofNat 64 a, fetch := w.fetch, waiters := [(w.slot, BitVec.ofNat 64 a, write)] }] })
    s.emitPcie (.atsRequest (w.part + 1) win id)

/-- Translates one line of an access to device memory (Table 4-5). -/
def State.translateDev (w : Who) (write : Bool) (a : Nat) (s : State) : State × Got Phys :=
  let p := w.part
  let bad (k : Nat) (place : Nat) : Got Phys := .fault (w.fault .translationFault k write a place)
  let vpn := dvaVpn a
  let hit := s.lookup w.die p false vpn
  let s := s.updXltRegs w.die (fun r => if hit.isSome then { r with hit := satAdd r.hit 1 }
    else { r with missDev := satAdd r.missDev 1 })
  let t := s.dpte p vpn
  let e? := match hit with
    | some e => some e
    | none => if t.valid then
        some { part := p, host := false, num := vpn, base := t.ppn.toNat, read := true, write := t.write, any := t.any,
               ctx := t.ctx, ats := false }
      else none
  match e? with
  | none => (s, bad 0x02 vpn)
  | some e =>
    let s := if hit.isSome then s else s.fill w.die e
    if write && !e.write then (s, bad 0x03 e.base)
    else if !e.any && e.ctx.toNat != w.ctx then (s, bad 0x04 e.base)
    else (s, .ok (.dev e.base (a % 2 ^ 29)))

/-- Translates one line of an access through a host window (Table 4-5, R114, R115). While the PCIE domain's clock is
stopped the access waits (R34). Where a cached window fails several checks at once, the kind recorded is the model's
choice: 0x03, then 0x06, then 0x04 (DESIGN CHOICE, log entry 108). -/
def State.translateHost (w : Who) (write : Bool) (a : Nat) (s : State) : State × Got Phys :=
  let p := w.part
  let win := dvaWin a
  let bad (k : Nat) : Got Phys := .fault (w.fault .translationFault k write a win)
  let h := s.hwin p win
  if !s.pcie.refclk then (s, .wait)
  else match s.lookup w.die p true win with
  | some e =>
    let s := s.updXltRegs w.die (fun r => { r with hit := satAdd r.hit 1 })
    if write && !e.write then (s, bad 0x03)
    else if !write && !e.read then (s, bad 0x06)
    else if !e.any && e.ctx.toNat != w.ctx then (s, bad 0x04)
    else (s, .ok (.host (e.base + a % 2 ^ 30)))
  | none =>
    let s := s.countMissHost w write a
    if !h.valid then (s, bad 0x05)
    else if write && !h.write then (s, bad 0x03)
    else if !h.any && h.ctx.toNat != w.ctx then (s, bad 0x04)
    else if (s.fn (p + 1)).atsEnable then (s.requestWindow w write a, .wait)
    else
      let e : XlEntry := {
        part := p, host := true, num := win, base := h.iova.toNat * 2 ^ 30, read := true,
        write := h.write, any := h.any, ctx := h.ctx, ats := false }
      (s.fill w.die e, .ok (.host (e.base + a % 2 ^ 30)))

/-- Translates one line of an access, with the checks of the translation cache (Table 4-5). -/
def State.translate (w : Who) (write : Bool) (a : Nat) (s : State) : State × Got Phys :=
  let w := s.atCache w
  if !dvaGood a then (s, .fault (w.fault .translationFault 0x01 write a 0))
  else match dvaSpace a with
  | 0 => s.translateDev w write a
  | 1 => s.translateHost w write a
  | _ => (s, .ok (.spad (a % 2 ^ 29)))

/-- The check at the target (Table 4-5): HBM controller or scratchpad bank. -/
def State.targetCheck (w : Who) (write : Bool) (a : Nat) (q : Phys) (s : State) : Option FaultRec :=
  match q with
  | .dev ppn _ =>
    let o := s.ownEntry ppn
    if o.state = .owned && o.part.toNat == w.part && (o.any || o.ctx.toNat == w.ctx) then none
    else some (w.fault .tagMismatch 0x0C write a ppn)
  | .host _ => none
  | .spad x =>
    if s.rowOwner (tillerRow (x / 2 ^ 22)) = some w.part then none
    else some (w.fault .tagMismatch 0x0B write a (x / 2 ^ 22))

/-! ### ECC (R22, R118) -/

/-- The ECC words of a place's memory. -/
def Phys.isSpad : Phys → Bool
  | .spad _ => true
  | _ => false

/-- The ECC error of a 64-bit word: none, corrected, or uncorrectable. -/
def State.eccOf (spad : Bool) (wordAddr : Nat) (s : State) : Option Bool :=
  (s.xlt.ecc.find? (fun e => e.1 == spad && e.2.1 == wordAddr)).map (fun e => e.2.2)

/-- A word's error is gone. -/
def State.clearEcc (spad : Bool) (wordAddr : Nat) (s : State) : State :=
  s.updXlt (fun x => { x with ecc := x.ecc.filter (fun e => !(e.1 == spad && e.2.1 == wordAddr)) })

/-- Counts a corrected error: of a device page (R456), or of a tiller's banks (R22). -/
def State.countCorrected (q : Phys) (s : State) : State :=
  match q with
  | .dev ppn _ => s.updPor (fun p => { p with corrected := p.corrected.upd 0 ppn (fun n => satAdd n 1) })
  | .host _ => s
  | .spad x => s.updXlt (fun t => { t with spadCorrected := t.spadCorrected.upd 0 (x / 2 ^ 22) (· + 1) })

/-- An uncorrectable error sets UE on a device page (R118). -/
def State.markUe (q : Phys) (s : State) : State :=
  match q with
  | .dev ppn _ => s.updXlt (fun x => { x with own := x.own.upd {} ppn (fun o => { o with ue := true }) })
  | _ => s

/-- The uncorrectable error an access meets in a word: the fault, and UE set on a device page (R118). -/
def State.eccFault (w : Who) (write : Bool) (a : Nat) (q : Phys) (s : State) : State × FaultRec :=
  match q with
  | .dev ppn _ => (s.markUe q, w.fault .translationFault 0x09 write a ppn)
  | .host _ => (s, w.fault .translationFault 0x08 write a 0)
  | .spad x => (s, w.fault .translationFault 0x0A write a (x / 2 ^ 22))

/-- The 64-bit words that `n` bytes at `x` touch. -/
def wordsOf (x n : Nat) : List Nat := (List.range ((x + n - 1) / 8 + 1 - x / 8)).map (fun i => x / 8 + i)

/-- The memory a place lies in. -/
def State.memOf (q : Phys) (s : State) : Memory :=
  match q with
  | .dev .. => s.dram
  | .host _ => s.host
  | .spad _ => s.spad

/-- Replaces the memory a place lies in. -/
def State.setMem (q : Phys) (m : Memory) (s : State) : State :=
  match q with
  | .dev .. => { s with dram := m }
  | .host _ => { s with host := m }
  | .spad _ => { s with spad := m }

/-- Reads the bytes of one line: corrected errors are corrected and counted, an uncorrectable one faults (R22). -/
def State.readLine (w : Who) (a n : Nat) (q : Phys) (s : State) : State × Got (List Byte) :=
  let x := q.addr
  let host := match q with | .host _ => true | _ => false
  if host then (s, .ok (s.host.readBytes x n))
  else
    let ws := (wordsOf x n).filter (fun k => (s.eccOf q.isSpad k).isSome)
    if ws.any (fun k => s.eccOf q.isSpad k = some true) then
      let r := s.eccFault w false a q
      (r.1, .fault r.2)
    else
      let s := ws.foldl (fun s _ => s.countCorrected q) s
      (s, .ok ((s.memOf q).readBytes x n))

/-- Stores bytes, each at its offset from `x`, into the memory that `q` lies in. -/
def State.putBytes (q : Phys) (x : Nat) (l : List (Nat × Byte)) (s : State) : State :=
  s.setMem q (l.foldl (fun m ib => m.write (x + ib.1) ib.2) (s.memOf q))

/-- Stores bytes into the host's memory. -/
def State.putHost (x : Nat) (bs : List Byte) (s : State) : State :=
  { s with host := s.host.writeBytes x bs }

/-- A write reaches an ECC word: the error of a word written whole is gone; a partial write reads and corrects it first
(R22, R118). -/
def State.freshEcc (q : Phys) (whole : Bool) (k : Nat) (s : State) : State :=
  (if whole then s else s.countCorrected q).clearEcc q.isSpad k

/-- The address lies in the host's memory. -/
def Phys.isHost : Phys → Bool
  | .host _ => true
  | _ => false

/-- The ECC words of `n` bytes at `x` that hold an error, and whether the write of a word is whole. -/
def State.badWords (q : Phys) (n : Nat) (s : State) : List Nat :=
  (wordsOf q.addr n).filter (fun k => (s.eccOf q.isSpad k).isSome)

/-- `n` bytes at `x` cover word k. -/
def wholeWord (x n k : Nat) : Bool := decide (x ≤ 8 * k) && decide (8 * k + 8 ≤ x + n)

/-- The words of a write that hold an uncorrectable error and are written in part: their writes are dropped (R22). -/
def State.deadWords (q : Phys) (n : Nat) (s : State) : List Nat :=
  (s.badWords q n).filter (fun k => !wholeWord q.addr n k && s.eccOf q.isSpad k = some true)

/-- Stores the bytes of one line: a whole word is stored with fresh ECC, a partial write corrects its word first, and one
onto an uncorrectable word is dropped (R22, R118). -/
def State.storeLine (q : Phys) (bs : List Byte) (s : State) : State :=
  let x := q.addr
  let n := bs.length
  if q.isHost then s.putHost x bs
  else
    let dead := s.deadWords q n
    let s1 := ((s.badWords q n).filter (fun k => !dead.contains k)).foldl (fun s k => s.freshEcc q (wholeWord x n k) k) s
    s1.putBytes q x (((List.range n).zip bs).filter (fun ib => !dead.contains ((x + ib.1) / 8)))

/-- Writes the bytes of one line; a dropped partial write faults (R118). -/
def State.writeLine (w : Who) (a : Nat) (bs : List Byte) (q : Phys) (s : State) : State × Got Unit :=
  if q.isHost || (s.deadWords q bs.length).isEmpty then (s.storeLine q bs, .ok ())
  else
    let r := (s.storeLine q bs).eccFault w true a q
    (r.1, .fault r.2)

/-! ### Ranges, line by line (R108) -/

/-- One line of a read: the checks at the cache and at the target, then the data. -/
def State.readOne (w : Who) (a k : Nat) (s : State) : State × Got (List Byte) :=
  match s.translate w false a with
  | (s, .fault r) => (s, .fault r)
  | (s, .wait) => (s, .wait)
  | (s, .ok q) =>
    match s.targetCheck w false a q with
    | some r => (s, .fault r)
    | none => s.readLine w a k q

/-- One line of a write. -/
def State.writeOne (w : Who) (a : Nat) (bs : List Byte) (s : State) : State × Got Unit :=
  match s.translate w true a with
  | (s, .fault r) => (s, .fault r)
  | (s, .wait) => (s, .wait)
  | (s, .ok q) =>
    match s.targetCheck w true a q with
    | some r => (s, .fault r)
    | none => s.writeLine w a bs q

/-- Reads `n` bytes at a DVA, line by line; `fuel` bounds the lines. -/
def State.readLoop (w : Who) : Nat → Nat → Nat → List Byte → State → State × Got (List Byte)
  | 0, _, _, acc, s => (s, .ok acc)
  | fuel + 1, a, n, acc, s =>
    if n = 0 then (s, .ok acc)
    else
      let k := min n (64 - a % 64)
      match s.madeLine w with
      | some bs => State.readLoop w fuel (a + k) (n - k) (acc ++ bs) (s.passLine w)
      | none =>
        match s.readOne w a k with
        | (s, .ok bs) => State.readLoop w fuel (a + k) (n - k) (acc ++ bs) (s.noteLine w bs)
        | (s, .fault r) => (s, .fault r)
        | (s, .wait) => (s, .wait)

/-- Lines of a range. -/
def linesOf (a n : Nat) : Nat := if n = 0 then 0 else (a + n - 1) / 64 - a / 64 + 1

/-- Reads `n` bytes at a DVA for an operation. -/
def State.readDva (w : Who) (a n : Nat) (s : State) : State × Got (List Byte) := s.readLoop w (linesOf a n) a n []

/-- Writes bytes at a DVA, line by line; the lines before a faulting or a waiting one stay written (R108). -/
def State.writeLoop (w : Who) : Nat → Nat → List Byte → State → State × Got Unit
  | 0, _, _, s => (s, .ok ())
  | fuel + 1, a, bs, s =>
    match bs with
    | [] => (s, .ok ())
    | _ =>
      let k := min bs.length (64 - a % 64)
      match s.madeLine w with
      | some _ => State.writeLoop w fuel (a + k) (bs.drop k) (s.passLine w)
      | none =>
        match s.writeOne w a (bs.take k) with
        | (s, .ok _) => State.writeLoop w fuel (a + k) (bs.drop k) (s.noteLine w [])
        | (s, .fault r) => (s, .fault r)
        | (s, .wait) => (s, .wait)

/-- Writes bytes at a DVA for an operation. -/
def State.writeDva (w : Who) (a : Nat) (bs : List Byte) (s : State) : State × Got Unit :=
  s.writeLoop w (linesOf a bs.length) a bs

/-- Reads rows of bytes: `rows` rows of `n` bytes at a stride. -/
def State.readRows (w : Who) (stride n : Nat) : Nat → Nat → List (List Byte) → State → State × Got (List (List Byte))
  | 0, _, acc, s => (s, .ok acc)
  | rows + 1, a, acc, s =>
    match s.readDva w a n with
    | (s, .ok bs) => State.readRows w stride n rows (a + stride) (acc ++ [bs]) s
    | (s, .fault r) => (s, .fault r)
    | (s, .wait) => (s, .wait)

/-- Writes rows in order at a stride. -/
def State.writeRowsLoop (w : Who) (stride : Nat) : Nat → List (List Byte) → State → State × Got Unit
  | _, [], s => (s, .ok ())
  | a, r :: rs, s =>
    match s.writeLoop w (linesOf a r.length) a r with
    | (s, .ok _) => State.writeRowsLoop w stride (a + stride) rs s
    | (s, .fault f) => (s, .fault f)
    | (s, .wait) => (s, .wait)

/-- Writes rows of bytes at a stride. -/
def State.writeRows (w : Who) (stride a : Nat) (rows : List (List Byte)) (s : State) : State × Got Unit :=
  s.writeRowsLoop w stride a rows

/-- What follows an access in an operation. -/
def gotThen {α β : Type} (x : State × Got α) (f : α → State → State × Got β) : State × Got β :=
  match x with
  | (s, .ok a) => f a s
  | (s, .fault r) => (s, .fault r)
  | (s, .wait) => (s, .wait)

/-! ### Choesk's own accesses -/

/-- The translation of a window that a cache holds, die W's first. -/
def State.choeskEntry (p win : Nat) (s : State) : Option XlEntry := s.lookup 0 p true win <|> s.lookup 1 p true win

/-- The host base Choesk uses for a window: the translated base a cache holds, else the IOVA base (log entry 14). -/
def State.choeskBase (p win : Nat) (s : State) : Nat :=
  match s.choeskEntry p win with
  | some e => e.base
  | none => (s.hwin p win).iova.toNat * 2 ^ 30

/-- A cached translation grants the access (R114). -/
def State.choeskGrant (p win : Nat) (write : Bool) (s : State) : Bool :=
  match s.choeskEntry p win with
  | some e => if write then e.write else e.read
  | none => true

/-- The place of one line of a buffer a command names, checked as an access of the context, without the caches; none
where a check fails (log entry 14) or where the endpoint reports an error on it (R74). -/
def State.choeskPlace (p c : Nat) (write : Bool) (a : Nat) (s : State) : Option Phys :=
  if !dvaGood a then none
  else match dvaSpace a with
  | 0 =>
    let t := s.dpte p (dvaVpn a)
    let o := s.ownEntry t.ppn.toNat
    if t.valid && (!write || t.write) && (t.any || t.ctx.toNat == c) && o.state = .owned && o.part.toNat == p &&
        (o.any || o.ctx.toNat == c) then some (.dev t.ppn.toNat (a % 2 ^ 29)) else none
  | 1 =>
    let h := s.hwin p (dvaWin a)
    let x := s.choeskBase p (dvaWin a) + a % 2 ^ 30
    if h.valid && (!write || h.write) && (h.any || h.ctx.toNat == c) && s.choeskGrant p (dvaWin a) write &&
        (write || !s.pcie.failLines.contains (x / 64)) then some (.host x) else none
  | _ => if s.rowOwner (tillerRow (dvaTiller a)) = some p then some (.spad (a % 2 ^ 29)) else none

/-- Reads a buffer a command names; none where a line fails a check or holds an uncorrectable error (ARG_FAULT). -/
def State.choeskRead (p c : Nat) : Nat → Nat → Nat → List Byte → State → Option (List Byte)
  | 0, _, _, acc, _ => some acc
  | fuel + 1, a, n, acc, s =>
    if n = 0 then some acc
    else
      let k := min n (64 - a % 64)
      match s.choeskPlace p c false a with
      | none => none
      | some q =>
        let isHost := match q with | .host _ => true | _ => false
        if !isHost && (wordsOf q.addr k).any (fun x => s.eccOf q.isSpad x = some true) then none
        else State.choeskRead p c fuel (a + k) (n - k) (acc ++ (s.memOf q).readBytes q.addr k) s

/-- Reads `n` bytes of a command's buffer. -/
def State.readArg (p c a n : Nat) (s : State) : Option (List Byte) := s.choeskRead p c (linesOf a n) a n []

/-- What reading one line does to the words with an error in it: single-bit ones are counted, and an uncorrectable one
sets UE on its page (R22, R118). -/
def State.seeLine (k : Nat) (q : Phys) (s : State) : State :=
  if q.isHost then s
  else if (s.badWords q k).any (fun x => s.eccOf q.isSpad x = some true) then s.markUe q
  else (s.badWords q k).foldl (fun s _ => s.countCorrected q) s

/-- A failing line of host memory has been tried. -/
def State.triedLine (x : Nat) (s : State) : State :=
  { s with pcie := { s.pcie with failLines := s.pcie.failLines.filter (· != x / 64) } }

/-- What reading a buffer does to the errors it meets, up to the line that cannot be read. -/
def State.seeArg (p c : Nat) : Nat → Nat → Nat → State → State
  | 0, _, _, s => s
  | fuel + 1, a, n, s =>
    let k := min n (64 - a % 64)
    match s.choeskPlace p c false a with
    | none => if dvaSpace a = 1 then s.triedLine (s.choeskBase p (dvaWin a) + a % 2 ^ 30) else s
    | some q =>
      if (s.badWords q k).any (fun x => s.eccOf q.isSpad x = some true) then s.seeLine k q
      else State.seeArg p c fuel (a + k) (n - k) (s.seeLine k q)

/-- The state after Choesk has read `n` bytes of a command's buffer. -/
def State.argRead (p c a n : Nat) (s : State) : State := s.seeArg p c (linesOf a n) a n

/-- Choesk reads `n` bytes of a command's buffer: what it gets, and the state after. -/
def State.takeArg (p c a n : Nat) (s : State) : Option (List Byte) × State := (s.readArg p c a n, s.argRead p c a n)

/-- One line of a buffer may be written: its checks pass, and no partial write in it would be dropped (R22). -/
def State.lineWritable (p c a k : Nat) (s : State) : Bool :=
  match s.choeskPlace p c true a with
  | none => false
  | some q => q.isHost || (s.deadWords q k).isEmpty

/-- Every line of a buffer may be written. -/
def State.argWritable (p c a n : Nat) (s : State) : Bool :=
  (List.range (linesOf a n)).all (fun i =>
    let x := if i = 0 then a else (a / 64 + i) * 64
    s.lineWritable p c x (min (a + n - x) (64 - x % 64)))

/-- Writes a buffer a command names, where it may. -/
def State.choeskWrite (p c : Nat) : Nat → Nat → List Byte → State → State
  | 0, _, _, s => s
  | fuel + 1, a, bs, s =>
    match bs with
    | [] => s
    | _ =>
      let k := min bs.length (64 - a % 64)
      match s.choeskPlace p c true a with
      | none => State.choeskWrite p c fuel (a + k) (bs.drop k) s
      | some q => State.choeskWrite p c fuel (a + k) (bs.drop k) (s.storeLine q (bs.take k))

/-- Writes the bytes of a command's result buffer. -/
def State.writeArg (p c a : Nat) (bs : List Byte) (s : State) : State := s.choeskWrite p c (linesOf a bs.length) a bs

end Sys2Proof.Machine
end

