-- ==== Sys2Proof/Machine/Fp.lean ====
section
/-! DEFINITION. The floating-point formats (R491, Table 1-1a): exact values, rounding to nearest with ties to even (R18,
R143), and arithmetic that rounds once; CRC-32C and SipHash-2-4. -/

namespace Sys2Proof.Machine

/-- A value of a format: NaN, an infinity, or a dyadic number ±m × 2^e held exactly. `neg` is kept for a zero. -/
inductive Fv where
  | nan
  | inf (neg : Bool)
  | fin (neg : Bool) (m : Nat) (e : Int)
  deriving DecidableEq, Repr

/-- +0. -/
def Fv.zero : Fv := .fin false 0 0
/-- 1. -/
def Fv.one : Fv := .fin false 1 0

/-- A format: mantissa bits, bias, exponent field of the largest binade, whether it has infinities. -/
structure Fmt where
  man : Nat
  bias : Int
  emax : Int
  bits : Nat
  hasInf : Bool
  nanBits : Nat
  deriving DecidableEq, Repr

/-- E4M3 (Table 1-1a). -/
def fmtE4M3 : Fmt := { man := 3, bias := 7, emax := 8, bits := 8, hasInf := false, nanBits := 0x7F }
/-- E5M2. -/
def fmtE5M2 : Fmt := { man := 2, bias := 15, emax := 15, bits := 8, hasInf := true, nanBits := 0x7E }
/-- BF16. -/
def fmtBF16 : Fmt := { man := 7, bias := 127, emax := 127, bits := 16, hasInf := true, nanBits := 0x7FC0 }
/-- FP32. -/
def fmtFP32 : Fmt := { man := 23, bias := 127, emax := 127, bits := 32, hasInf := true, nanBits := 0x7FC00000 }

/-- The format of a descriptor's code (Table 5-2). -/
def fmtOf (code : Nat) : Fmt :=
  match code with
  | 0 => fmtE4M3
  | 1 => fmtE5M2
  | 2 => fmtBF16
  | _ => fmtFP32

/-- The exact value of an encoding; every NaN encoding is a NaN (R491). -/
def Fmt.decode (f : Fmt) (v : Nat) : Fv :=
  let neg := v / 2 ^ (f.bits - 1) % 2 == 1
  let m := v % 2 ^ f.man
  let x := v / 2 ^ f.man % 2 ^ (f.bits - 1 - f.man)
  let top := 2 ^ (f.bits - 1 - f.man) - 1
  if f.hasInf && x = top then (if m = 0 then .inf neg else .nan)
  else if !f.hasInf && x = top && m = 2 ^ f.man - 1 then .nan
  else if x = 0 then .fin neg m (1 - f.bias - f.man)
  else .fin neg (2 ^ f.man + m) ((x : Int) - f.bias - f.man)

/-- m / 2^k rounded to nearest, ties to even. -/
def shiftRne (m k : Nat) : Nat :=
  let q := m / 2 ^ k
  let r := m % 2 ^ k
  if k = 0 then m
  else if 2 ^ (k - 1) < r || (r = 2 ^ (k - 1) && q % 2 = 1) then q + 1 else q

/-- m / 2^k cut to whole, k possibly negative. -/
def scaleDown (m : Nat) (k : Int) : Nat := if k < 0 then m * 2 ^ (-k).toNat else m / 2 ^ k.toNat

/-- The largest finite value's magnitude is m × 2^e: E4M3 ends at 448, the others at all-ones mantissas. -/
def Fmt.maxFin (f : Fmt) : Nat × Int :=
  if f.hasInf then (2 ^ (f.man + 1) - 1, f.emax - f.man) else (2 ^ (f.man + 1) - 2, f.emax - f.man)

/-- Rounds a value to the format, to nearest with ties to even. Overflow gives infinity where the format has one, else the
largest finite value; an infinity converts likewise (R143). -/
def Fmt.round (f : Fmt) (v : Fv) : Fv :=
  match v with
  | .nan => .nan
  | .inf n => if f.hasInf then .inf n else .fin n f.maxFin.1 f.maxFin.2
  | .fin n m e =>
    if m = 0 then .fin n 0 0
    else
      let top : Int := (m.log2 : Int) + e
      let q := max (top - f.man) (1 - f.bias - f.man)
      let m' := if q ≤ e then m * 2 ^ (e - q).toNat else shiftRne m (q - e).toNat
      if m' = 0 then .fin n 0 0
      else
        let tooBig := f.emax - f.man < q && !(m' = 0) || (f.emax - f.man = q && f.maxFin.1 < m')
        if tooBig then (if f.hasInf then .inf n else .fin n f.maxFin.1 f.maxFin.2) else .fin n m' q

/-- The encoding of a value already rounded to the format; every NaN is written as the one value of Table 1-1a. -/
def Fmt.encode (f : Fmt) (v : Fv) : Nat :=
  let s (n : Bool) : Nat := if n then 2 ^ (f.bits - 1) else 0
  match v with
  | .nan => f.nanBits
  | .inf n => s n + (2 ^ (f.bits - 1 - f.man) - 1) * 2 ^ f.man
  | .fin n m e =>
    if m = 0 then s n
    else
      let top : Int := (m.log2 : Int) + e
      if top < 1 - f.bias then s n + scaleDown m (1 - f.bias - f.man - e)
      else s n + (top + f.bias).toNat * 2 ^ f.man + (scaleDown m (top - f.man - e) - 2 ^ f.man)

/-- Converts a value to the bits of a format. -/
def Fmt.conv (f : Fmt) (v : Fv) : Nat := f.encode (f.round v)

/-- An FP32 bit pattern's value. -/
def ofF32 (b : BitVec 32) : Fv := fmtFP32.decode b.toNat
/-- The FP32 bit pattern of a value, rounded. -/
def toF32 (v : Fv) : BitVec 32 := BitVec.ofNat 32 (fmtFP32.conv v)
/-- Rounds to FP32. -/
def r32 (v : Fv) : Fv := fmtFP32.round v

/-- Negation. -/
def Fv.neg : Fv → Fv
  | .nan => .nan
  | .inf n => .inf (!n)
  | .fin n m e => .fin (!n) m e

/-- Exact product. -/
def Fv.mul (a b : Fv) : Fv :=
  match a, b with
  | .nan, _ | _, .nan => .nan
  | .inf x, .inf y => .inf (x != y)
  | .inf x, .fin y m _ => if m = 0 then .nan else .inf (x != y)
  | .fin x m _, .inf y => if m = 0 then .nan else .inf (x != y)
  | .fin x m e, .fin y k f => .fin (x != y) (m * k) (e + f)

/-- A value's signed mantissa at exponent q ≤ e. -/
def signedAt (n : Bool) (m : Nat) (e q : Int) : Int :=
  let k : Int := (m * 2 ^ (e - q).toNat : Nat)
  if n then -k else k

/-- Exact sum; a zero sum of values of opposite signs is +0 (IEEE 754, round to nearest). -/
def Fv.add (a b : Fv) : Fv :=
  match a, b with
  | .nan, _ | _, .nan => .nan
  | .inf x, .inf y => if x = y then .inf x else .nan
  | .inf x, _ => .inf x
  | _, .inf y => .inf y
  | .fin x m e, .fin y k f =>
    if m = 0 && k = 0 then .fin (x && y) 0 0
    else
      let q := min e f
      let s := signedAt x m e q + signedAt y k f q
      .fin (decide (s < 0)) s.natAbs q

/-- FP32 sum. -/
def fadd (a b : Fv) : Fv := r32 (a.add b)
/-- FP32 difference. -/
def fsub (a b : Fv) : Fv := r32 (a.add b.neg)
/-- FP32 product. -/
def fmul (a b : Fv) : Fv := r32 (a.mul b)
/-- a × b + c rounded once: a floret's multiply-accumulate, whose product is exact (R18), and the FMA of R215 and R222
(log entry 21). -/
def ffma (a b c : Fv) : Fv := r32 ((a.mul b).add c)

/-- x × 2^n rounded once (R216). -/
def ldexp (x : Fv) (n : Int) : Fv :=
  match x with
  | .fin s m e => r32 (.fin s m (e + n))
  | v => v

/-- Order of two values; none when one is a NaN. -/
def Fv.cmp (a b : Fv) : Option Ordering :=
  match a, b with
  | .nan, _ | _, .nan => none
  | .inf x, .inf y => some (if x = y then .eq else if x then .lt else .gt)
  | .inf x, _ => some (if x then .lt else .gt)
  | _, .inf y => some (if y then .gt else .lt)
  | .fin x m e, .fin y k f =>
    let q := min e f
    let d := signedAt x m e q - signedAt y k f q
    some (if d < 0 then .lt else if d = 0 then .eq else .gt)

/-- a < b. -/
def Fv.lt (a b : Fv) : Bool := a.cmp b == some .lt
/-- a ≤ b. -/
def Fv.le (a b : Fv) : Bool := a.cmp b == some .lt || a.cmp b == some .eq
/-- The larger of two values that are not NaN; the first where they are equal. -/
def Fv.max (a b : Fv) : Fv := if a.lt b then b else a
/-- The smaller of two values that are not NaN; the first where they are equal. -/
def Fv.min (a b : Fv) : Fv := if b.lt a then b else a
/-- A NaN. -/
def Fv.isNan (a : Fv) : Bool := a == .nan
/-- Finite. -/
def Fv.isFin : Fv → Bool
  | .fin .. => true
  | _ => false
/-- ±0. -/
def Fv.isZero : Fv → Bool
  | .fin _ m _ => m == 0
  | _ => false
/-- The sign bit. -/
def Fv.signBit : Fv → Bool
  | .nan => false
  | .inf n => n
  | .fin n _ _ => n
/-- The magnitude. -/
def Fv.abs : Fv → Fv
  | .nan => .nan
  | .inf _ => .inf false
  | .fin _ m e => .fin false m e
/-- The value with the sign of a bit. -/
def Fv.withSign (n : Bool) : Fv → Fv
  | .nan => .nan
  | .inf _ => .inf n
  | .fin _ m e => .fin n m e
/-- An integer as a value. -/
def Fv.ofInt (i : Int) : Fv := .fin (decide (i < 0)) i.natAbs 0

/-- The floor of a finite value. -/
def floorOf (n : Bool) (m : Nat) (e : Int) : Int :=
  if 0 ≤ e then (if n then -(m * 2 ^ e.toNat : Nat) else (m * 2 ^ e.toNat : Nat))
  else
    let d := 2 ^ (-e).toNat
    if n then -((m + d - 1) / d : Nat) else (m / d : Nat)

/-- floor, an infinity or NaN unchanged. -/
def Fv.floor : Fv → Fv
  | .fin n m e => .ofInt (floorOf n m e)
  | v => v
/-- ceil as an integer, an infinity or NaN unchanged. -/
def Fv.ceil : Fv → Fv
  | .fin n m e => .ofInt (-(floorOf (!n) m e))
  | v => v
/-- The integer part toward zero of a finite value. -/
def truncOf (n : Bool) (m : Nat) (e : Int) : Int := if n then -(floorOf false m e) else floorOf false m e

/-- The exponent e of a nonzero finite value m × 2^e with m in [1, 2). -/
def expOf (m : Nat) (e : Int) : Int := (m.log2 : Int) + e

/-! ### Elements in memory -/

/-- The element of a format code held in little-endian bytes (R13). -/
def elemOf (code : Nat) (bs : List Byte) : Fv := (fmtOf code).decode (ofBytesLE bs)

/-- The bytes of a value converted to a format code (R143). -/
def elemBytes (code : Nat) (v : Fv) : List Byte := bytesLE (fmtBytes code) ((fmtOf code).conv v)

/-- The elements of a row of bytes. -/
def rowElems (code count : Nat) (bs : List Byte) : List Fv := (chunks (fmtBytes code) count bs).map (elemOf code)

/-- The bytes of a row of elements. -/
def rowBytes (code : Nat) (es : List Fv) : List Byte := es.flatMap (elemBytes code)

/-! ### SipHash-2-4 -/

/-- One SipRound. -/
def sipRound (v : W64 × W64 × W64 × W64) : W64 × W64 × W64 × W64 :=
  let (v0, v1, v2, v3) := v
  let v0 := v0 + v1
  let v1 := v1.rotateLeft 13 ^^^ v0
  let v0 := v0.rotateLeft 32
  let v2 := v2 + v3
  let v3 := v3.rotateLeft 16 ^^^ v2
  let v0 := v0 + v3
  let v3 := v3.rotateLeft 21 ^^^ v0
  let v2 := v2 + v1
  let v1 := v1.rotateLeft 17 ^^^ v2
  let v2 := v2.rotateLeft 32
  (v0, v1, v2, v3)

/-- Absorbs one 64-bit word. -/
def sipWord (v : W64 × W64 × W64 × W64) (m : W64) : W64 × W64 × W64 × W64 :=
  let (v0, v1, v2, v3) := sipRound (sipRound (v.1, v.2.1, v.2.2.1, v.2.2.2 ^^^ m))
  (v0 ^^^ m, v1, v2, v3)

/-- SipHash-2-4 of bytes under a 128-bit key (low word first). -/
def sipHash (key : BitVec 128) (bs : List Byte) : W64 :=
  let k0 := BitVec.ofNat 64 key.toNat
  let k1 := BitVec.ofNat 64 (key.toNat / 2 ^ 64)
  let v := (k0 ^^^ 0x736f6d6570736575#64, k1 ^^^ 0x646f72616e646f6d#64, k0 ^^^ 0x6c7967656e657261#64,
    k1 ^^^ 0x7465646279746573#64)
  let n := bs.length
  let v := ((chunks 8 (n / 8) bs).map (fun c => BitVec.ofNat 64 (ofBytesLE c))).foldl sipWord v
  let last := BitVec.ofNat 64 (ofBytesLE (bs.drop (n / 8 * 8)) + n % 256 * 2 ^ 56)
  let v := sipWord v last
  let v := (List.range 4).foldl (fun v _ => sipRound v) (v.1, v.2.1, v.2.2.1 ^^^ 0xff#64, v.2.2.2)
  v.1 ^^^ v.2.1 ^^^ v.2.2.1 ^^^ v.2.2.2

end Sys2Proof.Machine
end

