-- ==== Sys2Proof/Machine/Func.lean ====
section
/-! DEFINITION. What the special-function lanes evaluate (08): table images and their checks (R214 to R216), the built-in
images (R218), and micro-programs (R220 to R223). -/

namespace Sys2Proof.Machine

open Sys2Proof

/-! ### Table images (Table 8-2) -/

/-- The little-endian number of `n` bytes at a byte offset of an image. -/
def imgLE (bs : List Byte) (off n : Nat) : Nat := ofBytesLE ((bs.drop off).take n)

/-- The FP32 field at a byte offset. -/
def imgF (bs : List Byte) (off : Nat) : Fv := fmtFP32.decode (imgLE bs off 4)

/-- Segments of a table image. -/
def imgSegs (bs : List Byte) : Nat := imgLE bs 2 1 + 1

/-- REDUCE of a table image. -/
def imgReduce (bs : List Byte) : Nat := imgLE bs 3 1 % 8

/-- The bytes of an image with its CHECK taken as 0. -/
def withoutCheck (off : Nat) (bs : List Byte) : List Byte := bs.take off ++ [0, 0, 0, 0] ++ bs.drop (off + 4)

/-- Offsets of the fields that must be +0 for a kind of reduction (Table 8-3). -/
def zeroFields (reduce : Nat) : List Nat :=
  match reduce with
  | 0 | 1 => [28]
  | 2 | 3 | 4 => [4, 8, 12, 16, 28]
  | 5 => [12]
  | _ => [4, 12, 28]

/-- The first offset at which a table image fails R214; none when it is accepted. -/
def tableBad (bs : List Byte) : Option Nat :=
  let segs := imgSegs bs
  let r := imgReduce bs
  let fin (o : Nat) : Bool := (imgF bs o).isFin
  let first : Option Nat :=
    if imgLE bs 0 2 != 1 then some 0
    else if r = 7 || imgLE bs 3 1 / 8 != 0 then some 3
    else if imgLE bs 36 28 != 0 then some 36
    else none
  let second := ([4, 8, 20, 24, 28] ++ (List.range (3 * segs)).map (fun i => 64 + 4 * i)).find? (fun o =>
    !fin o || (o = 24 && !(Fv.zero.lt (imgF bs 24))))
  let third := [12, 16].find? (fun o => (imgF bs o).isNan)
  let usesLimits := r = 0 || r = 1 || r = 5
  let fourth := [4, 8, 12, 16, 28].find? (fun o => ((zeroFields r).contains o && imgLE bs o 4 != 0) ||
    (o = 4 && usesLimits && !(imgF bs 4).lt (imgF bs 8)) || (o = 4 && r = 5 && (imgF bs 4).lt Fv.zero))
  let fifth := if (crc32c (withoutCheck 32 bs)).toNat = imgLE bs 32 4 then none else some 32
  (first <|> second) <|> (third <|> fourth) <|> fifth

/-! ### Evaluation (R215, R216) -/

/-- The segment polynomial p(u) of a table. -/
def tablePoly (bs : List Byte) (u : Fv) : Fv :=
  let d := fsub u (imgF bs 20)
  let v := fmul d (imgF bs 24)
  let top := imgSegs bs - 1
  let i : Nat := match v with
    | .fin n m e => min top (floorOf n m e).toNat
    | .inf false => top
    | _ => 0
  let t := v.add (Fv.ofInt i).neg
  let c (k : Nat) : Fv := imgF bs (64 + 12 * i + 4 * k)
  ffma (ffma (c 2) t (c 1)) t (c 0)

/-- A table's result (Table 8-3). -/
def evalTable (bs : List Byte) (x : Fv) : Fv :=
  let p := tablePoly bs
  let xlo := imgF bs 4
  let xhi := imgF bs 8
  let slo := imgF bs 12
  let shi := imgF bs 16
  match x with
  | .nan => .nan
  | _ =>
    match imgReduce bs with
    | 0 => if x.lt xlo then slo else if xhi.le x then shi else p x
    | 1 =>
      if x.lt xlo then slo else if xhi.le x then shi
      else match x with
        | .fin n m e =>
          let k := floorOf n m e
          ldexp (p (x.add (Fv.ofInt k).neg)) k
        | _ => .nan
    | 2 =>
      match x with
      | .fin n m e =>
        if m = 0 then .inf true
        else if n then .nan
        else
          let k := expOf m e
          fadd (Fv.ofInt k) (p (.fin false m (e - k)))
      | .inf false => .inf false
      | _ => .nan
    | 3 =>
      match x with
      | .fin n m e =>
        if m = 0 then .inf n
        else
          let k := expOf m e
          let y := ldexp (p (.fin false m (e - k))) (-k)
          if n then y.neg else y
      | .inf n => .fin n 0 0
      | .nan => .nan
    | 4 =>
      match x with
      | .fin n m e =>
        if m = 0 then .inf n
        else if n then .nan
        else
          let k := expOf m e
          let k := if k % 2 = 0 then k else k - 1
          ldexp (p (.fin false m (e - k))) (-(k / 2))
      | .inf false => Fv.zero
      | _ => .nan
    | 5 =>
      let a := x.abs
      let sign (v : Fv) : Fv := if x.signBit then v.neg else v
      if a.lt xlo then fmul x (imgF bs 28) else if xhi.le a then sign shi else sign (p a)
    | _ =>
      let a := x.abs
      let z := if xhi.le a then shi else p a
      if Fv.zero.le x then z else fsub Fv.one z

/-! ### Built-in functions (Table 8-4) -/

/-- The fixed header fields of a built-in image: REDUCE, segments, and the bit patterns of X_LO, X_HI, SAT_LO, SAT_HI,
U_LO, INV_WIDTH and SLOPE. -/
def builtinHeader (func : Nat) : Nat × Nat × List Nat :=
  match func with
  | 0 => (1, 256, [0xC3160000, 0x43000000, 0, 0x7F800000, 0, 0x43800000, 0])
  | 1 => (2, 256, [0, 0, 0, 0, 0x3F800000, 0x43800000, 0])
  | 2 => (3, 256, [0, 0, 0, 0, 0x3F800000, 0x43800000, 0])
  | 3 => (4, 192, [0, 0, 0, 0, 0x3F800000, 0x42800000, 0])
  | 4 => (6, 256, [0, 0x41800000, 0, 0x3F800000, 0, 0x41800000, 0])
  | 5 => (5, 252, [0x39800000, 0x41100000, 0, 0x3F800000, 0, 0x41E00000, 0x3F800000])
  | _ => (5, 256, [0x39800000, 0x40800000, 0, 0x3F800000, 0, 0x42800000, 0x3F906EBB])

/-- The image of a built-in function under a release; its coefficients are the release's own (R218). -/
def builtinImage (release func : Nat) : List Byte :=
  let h := builtinHeader func
  let head := bytesLE 2 1 ++ bytesLE 1 (h.2.1 - 1) ++ bytesLE 1 h.1 ++ h.2.2.flatMap (bytesLE 4)
  let coefs := (List.range (3 * h.2.1)).flatMap (fun i => bytesLE 4 (Config.builtinCoef release func i).toNat)
  let bare := head ++ bytesLE 4 0 ++ bytesLE 28 0 ++ coefs
  head ++ bytesLE 4 (crc32c bare).toNat ++ bytesLE 28 0 ++ coefs

/-- A built-in function's value. -/
def evalBuiltin (release func : Nat) (x : Fv) : Fv := evalTable (builtinImage release func) x

/-! ### Micro-programs (R220 to R223) -/

/-- Which of the operands a, b, c a step operation uses (Table 8-7). -/
def stepUses (op : Nat) : Bool × Bool × Bool :=
  match op with
  | 0 | 6 | 7 => (true, true, true)
  | 1 | 2 | 5 | 8 => (true, true, false)
  | _ => (true, false, false)

/-- AUX values a step operation permits. -/
def auxOk (op aux : Nat) : Bool :=
  match op with
  | 3 => decide (aux < 7) || (decide (8 ≤ aux) && decide (aux < 16))
  | 4 => decide (aux < 2)
  | 8 => decide (aux < 5)
  | _ => aux == 0

/-- A step passes R222. -/
def stepOk (w : W64) : Bool :=
  let op := fld w 0 4
  let u := stepUses op
  let bImm := bit w 16
  let cImm := bit w 17
  decide (op < 9) && fld w 23 9 == 0 && auxOk op (fld w 18 5) && !(bImm && cImm) &&
    ((u.2.1 && !bImm) || fld w 10 3 == 0) && (u.2.1 || !bImm) && ((u.2.2 && !cImm) || fld w 13 3 == 0) &&
    (u.2.2 || !cImm) && (bImm || cImm || fld w 32 32 == 0)

/-- Steps of a program image. -/
def progSteps (bs : List Byte) : Nat := imgLE bs 0 1 % 64

/-- Step k of a program image. -/
def progStep (bs : List Byte) (k : Nat) : W64 := BitVec.ofNat 64 (imgLE bs (8 + 8 * k) 8)

/-- The table slots a program's LUT steps name. -/
def progTables (bs : List Byte) : List Nat :=
  ((List.range (progSteps bs)).map (progStep bs)).filterMap (fun w =>
    if fld w 0 4 = 3 && 8 ≤ fld w 18 5 then some (fld w 18 5 - 8) else none)

/-- Truncation of EXPI's exponent: toward zero, within ±300. -/
def expiOf (b : Fv) : Int :=
  match b with
  | .fin n m e => max (-300) (min 300 (truncOf n m e))
  | .inf n => if n then -300 else 300
  | .nan => 0

/-- The result of one step; `lut` evaluates a function code. -/
def stepValue (lut : Nat → Fv → Fv) (op aux : Nat) (a b c : Fv) : Fv :=
  match op with
  | 0 => ffma a b c
  | 1 => fmul a b
  | 2 => fadd a b
  | 3 => lut aux a
  | 4 =>
    match a with
    | .nan => .nan
    | .inf n => if aux = 0 then .inf false else .inf n
    | .fin n m e =>
      if m = 0 then (if aux = 0 then .inf true else a)
      else if aux = 0 then Fv.ofInt (expOf m e) else .fin n m (e - expOf m e)
  | 5 => if b.isNan then .nan else ldexp a (expiOf b)
  | 6 => if a.isNan || b.isNan || c.isNan then .nan else (a.max b).min c
  | 7 => if a.isNan || a.isZero then c else b
  | _ =>
    let holds : Bool :=
      if a.isNan || b.isNan then aux = 1 || aux = 4
      else match aux with
        | 0 => a.cmp b == some .eq
        | 1 => a.cmp b != some .eq
        | 2 => a.lt b
        | 3 => a.le b
        | _ => false
    if holds then Fv.one else Fv.zero

/-- Runs the steps of a program on registers v0 to v7 (R220). -/
def runProgram (lut : Nat → Fv → Fv) (bs : List Byte) (x : Fv) : Fv :=
  let regs := (List.range (progSteps bs)).foldl (fun (v : Tab Fv) k =>
    let w := progStep bs k
    let r (i : Nat) : Fv := v.get Fv.zero i
    let imm := fmtFP32.decode (fld w 32 32)
    let b := if bit w 16 then imm else r (fld w 10 3)
    let c := if bit w 17 then imm else r (fld w 13 3)
    v.put (fld w 4 3) (stepValue lut (fld w 0 4) (fld w 18 5) (r (fld w 7 3)) b c)) [(0, x)]
  regs.get Fv.zero 0

/-- The release whose images the tillers of a row hold: 0x0302 under Choesk 3.2, 0 where the area is zeroed (R210). -/
def State.builtinRelease (row : Nat) (s : State) : Nat := s.builtins.get 0 row

end Sys2Proof.Machine
end

