-- ==== Sys2Proof/Machine/Florets.lean ====
section
/-! DEFINITION. The florets (R18, R19) and the arithmetic of the kinds that run on them: the tile multiply (R143), the
attention record, positions and masks (R163, R165, R172, R173), the forward and backward passes row by row (R167, R168,
R175, R176), and what an attention operation that stops inside a tile writes back (R145, R170). -/

namespace Sys2Proof.Machine

open Sys2Proof

/-! ### Florets and spikelets (R19) -/

/-- a / b rounded up. -/
def ceilDiv (a b : Nat) : Nat := (a + b - 1) / b

/-- What the stationary operand registers of a tiller's florets hold, by rows of the tile they were loaded from. -/
def State.florets (tiller : Nat) (s : State) : List (List Byte) := s.seq.florets.get [] tiller

/-- Loads the stationary operand registers of a tiller's florets before a tile (R19). -/
def State.loadFlorets (tiller : Nat) (rows : List (List Byte)) (s : State) : State :=
  s.updSeq (fun q => { q with florets := q.florets.put tiller rows })

/-- One row of C over a tile: products added in increasing order of k. -/
def macRow (a : List Fv) (b : List (List Fv)) (c : List Fv) : List Fv :=
  (a.zip b).foldl (fun acc ab => List.zipWith (fun c b => ffma ab.1 b c) acc ab.2) c

/-- A spikelet over a tile: its florets form four groups of 32, operand k of a broadcast reaches floret k of each group,
and group g multiplies it by the operand of row g that its florets hold (R19). It makes a block of 4 rows by 32 columns
(R143). -/
def spikelet (a b c : List (List Fv)) : List (List Fv) := List.zipWith (fun r cr => macRow r b cr) a c

/-- Columns 32·u to 32·u + 31 of rows. -/
def columnBlock (u : Nat) (rows : List (List Fv)) : List (List Fv) := rows.map (fun r => (r.drop (32 * u)).take 32)

/-- Blocks of rows side by side. -/
def beside : List (List (List Fv)) → List (List Fv)
  | [] => []
  | [b] => b
  | b :: t => List.zipWith (· ++ ·) b (beside t)

/-- The spikelets that share four rows of a tile, one for each 32 columns. -/
def spikeletRow (a b c : List (List Fv)) : List (List Fv) :=
  beside ((List.range (ceilDiv (c.headD []).length 32)).map (fun u => spikelet a (columnBlock u b) (columnBlock u c)))

/-- C of a tile: A by rows, B by rows, and the accumulators by rows, on (TM/4) × (TN/32) spikelets (R143). -/
def macTile (a b c : List (List Fv)) : List (List Fv) :=
  (List.range (ceilDiv a.length 4)).flatMap (fun g =>
    spikeletRow ((a.drop (4 * g)).take 4) b ((c.drop (4 * g)).take 4))

/-- Counts `n` bytes moved at an address: to or from HBM or host memory, or another tiller's scratchpad (R388). -/
def Op.tally (a n : Nat) (o : Op) : Op :=
  if dvaSpace a < 2 then { o with ext := o.ext + n }
  else if dvaTiller a = o.desc.tiller then o
  else { o with loc := o.loc + n }

/-! ### The record and the iteration -/

/-- The fields of an attention record (Table 6-2). -/
structure AttnRec where
  vOff : Nat
  scale : Fv
  qPos : Nat
  kPos : Nat
  qEnd : Nat
  kEnd : Nat
  window : Nat
  kStep : Nat
  group : Nat
  doAddr : Nat
  doFmt : Nat
  doStride : Nat
  out2 : Nat
  list : Nat
  deriving DecidableEq, Repr

/-- Reads the fields of a record. -/
def attnRec (r : BitVec 512) : AttnRec :=
  { vOff := fld r 0 32, scale := fmtFP32.decode (fld r 32 32), qPos := fld r 64 32, kPos := fld r 96 32, qEnd := fld r 128 32
    kEnd := fld r 160 32, window := fld r 192 32, kStep := fld r 224 16, group := fld r 240 8, doAddr := fld r 256 52
    doFmt := fld r 308 2, doStride := fld r 320 32, out2 := fld r 384 52, list := fld r 448 52 }

/-- An iteration: its indices, tile addresses, the record as it holds for it, and the mask. -/
structure AttnAt where
  h : Nat
  n : Nat
  m : Nat
  q : Nat
  k : Nat
  v : Nat
  /-- C of the query tile, and of the key tile with the offset that dV shares -/
  cq : Nat
  ck : Nat
  dv : Nat
  stat : Nat
  dO : Nat
  /-- position of query row 0 and of key 0 of the tile -/
  kBase : Nat
  rc : AttnRec
  mask : Nat
  deriving DecidableEq, Repr

/-- The attention mask code of an operation. -/
def Desc.mask (d : Desc) : Nat := if d.kind = 2 then d.variant / 2 % 4 else d.variant / 4

/-- The pass of a backward operation. -/
def Desc.pass (d : Desc) : Nat := d.variant % 4

/-- The indices (h, n, m) of an attention iteration: H, N, M from outer to inner, without keys in PREP (R162). -/
def Op.attnIndex (o : Op) : Nat × Nat × Nat :=
  if o.desc.kind = 3 && o.desc.pass = 0 then (o.iter / o.m, 0, o.iter % o.m)
  else (o.iter / (o.n * o.m), o.iter / o.m % o.n, o.iter % o.m)

/-- The tile addresses of an iteration (R165); in a bucket pass the bases, ends and positions come from the entry of
the iteration (R179). -/
def Op.attnAt (o : Op) : AttnAt :=
  let d := o.desc
  let i := o.attnIndex
  let r0 := attnRec (BitVec.ofNat 512 (o.params.getD 0 0))
  let e := BitVec.ofNat 512 (o.params.getD 1 0)
  let bucket := r0.list != 0
  let rc := if bucket then
      { r0 with qPos := 0, kPos := 0, qEnd := fld e 0 32, kEnd := fld e 0 32, kStep := 0 }
    else r0
  let base (own stride lo : Nat) : Nat := if bucket then fld e lo 52 else own + i.1 * stride
  let q0 := base (d.addrA) (d.hstrideA) 64
  let k0 := base (d.addrB) (d.hstrideB) 128
  let c0 := base (d.addrC) (d.hstrideC) 192
  let s0 := base (d.addrD) (d.hstrideD) 256
  let k := if d.handleB then (o.h1.map (fun h => h.base.toNat)).getD 0 + d.addrB else k0 + i.2.1 * d.tn * d.strideB
  let index := if d.handleB then (o.h1.map (fun h => h.index.toNat)).getD 0 else 0
  let key := i.2.1 * d.tn * d.strideC
  { h := i.1, n := i.2.1, m := i.2.2, q := q0 + i.2.2 * d.tm * d.strideA, k := k, v := k + rc.vOff
    cq := c0 + i.2.2 * d.tm * d.strideC, ck := c0 + key, dv := rc.out2 + i.1 * d.hstrideC + key
    stat := s0 + i.2.2 * d.tm * d.strideD, dO := rc.doAddr + i.1 * d.hstrideA + i.2.2 * d.tm * rc.doStride
    kBase := rc.kPos + rc.kStep * index + i.2.1 * d.tn, rc := rc, mask := d.mask }

/-- Position of row r of the query tile (R172). -/
def AttnAt.rowPos (t : AttnAt) (tm r : Nat) : Nat := (t.rc.qPos + (t.m * tm + r) / t.rc.group) % 2 ^ 32

/-- Position of key j of the key tile (R172). -/
def AttnAt.keyPos (t : AttnAt) (j : Nat) : Nat := (t.kBase + j) % 2 ^ 32

/-- Key position j is visible to query position i (Table 6-5). -/
def visible (mask window kEnd i j : Nat) : Bool :=
  decide (j < kEnd) && match mask with
    | 0 => true
    | 1 => decide (j ≤ i)
    | 2 => decide (i < j + window) && decide (j ≤ i)
    | _ => decide (j < window) || decide (j ≤ i)

/-- Row r of the query tile is computed, and key j is visible to it. -/
def AttnAt.sees (t : AttnAt) (tm r j : Nat) : Bool :=
  decide (t.rowPos tm r < t.rc.qEnd) && visible t.mask t.rc.window t.rc.kEnd (t.rowPos tm r) (t.keyPos j)

/-- Query rows that are computed (R173). -/
def AttnAt.rows (t : AttnAt) (tm : Nat) : List Nat := (List.range tm).filter (fun r => decide (t.rowPos tm r < t.rc.qEnd))

/-- Reads some rows of `n` bytes of a tile, by row number. -/
def State.readRaw (o : Op) (n stride a : Nat) : List Nat → Tab (List Byte) → State → State × Got (Tab (List Byte))
  | [], acc, s => (s, .ok acc)
  | r :: rs, acc, s =>
    match s.readDva o.who (a + r * stride) n with
    | (s, .ok bs) => State.readRaw o n stride a rs (acc.put r bs) s
    | (s, .fault f) => (s, .fault f)
    | (s, .wait) => (s, .wait)

/-- Rows of bytes as rows of elements. -/
def elemRows (code cols : Nat) (rows : Tab (List Byte)) : Tab (List Fv) := rows.map (fun x => (x.1, rowElems code cols x.2))

/-- Reads some rows of a tile as elements, by row number. -/
def State.readSome (o : Op) (code cols stride a : Nat) (rs : List Nat) (s : State) : State × Got (Tab (List Fv)) :=
  gotThen (State.readRaw o (cols * fmtBytes code) stride a rs [] s) (fun rows s => (s, .ok (elemRows code cols rows)))

/-- Reads some rows of a tile into the stationary registers of the florets, and gives them as elements (R19, R166). -/
def State.readStationary (o : Op) (code cols stride a : Nat) (rs : List Nat) (s : State) : State × Got (Tab (List Fv)) :=
  gotThen (State.readRaw o (cols * fmtBytes code) stride a rs [] s) (fun rows s =>
    (s.loadFlorets o.desc.tiller (rows.map (·.2)), .ok (elemRows code cols rows)))

/-- Writes pieces in order. -/
def State.writePieces (w : Who) : List (Nat × List Byte) → State → State × Got Unit
  | [], s => (s, .ok ())
  | x :: xs, s =>
    match s.writeLoop w (linesOf x.1 x.2.length) x.1 x.2 with
    | (s, .ok _) => State.writePieces w xs s
    | (s, .fault f) => (s, .fault f)
    | (s, .wait) => (s, .wait)

/-- Writes pieces of memory. -/
def State.writeMany (w : Who) (xs : List (Nat × List Byte)) (s : State) : State × Got Unit := s.writePieces w xs

/-- Counts the bytes of pieces. -/
def Op.tallyPieces (xs : List (Nat × List Byte)) (o : Op) : Op := xs.foldl (fun o x => o.tally x.1 x.2.length) o

/-- Sum over c ascending of a[c] × b[c] in FP32 (R167). -/
def dot (a b : List Fv) : Fv := (a.zip b).foldl (fun acc x => ffma x.1 x.2 acc) Fv.zero

/-- An exact scaling by a power of two. -/
def Fv.shift (k : Int) : Fv → Fv
  | .fin n m e => .fin n m (e + k)
  | v => v

/-- p rounded as the value step takes it, in units of 2^-8 in FP8 (R167). -/
def roundP (fp8 : Bool) (p : Fv) : Fv := if fp8 then fmtE4M3.round (p.shift 8) else fmtBF16.round p

/-! ### Forward (R167, R168) -/

/-- A query row's running state. -/
structure RowState where
  m : Fv := .inf true
  l : Fv := Fv.zero
  acc : List Fv
  deriving DecidableEq, Repr

/-- x × 2^(M − M_new): a power of two, 0 for M = −∞; a stored M that is no integer rescales by a free factor. -/
def rescale (m mNew x : Fv) : Fv :=
  match m, m.add mNew.neg with
  | .inf true, _ => fmul x Fv.zero
  | .fin .., .fin n k e =>
    if 0 ≤ e || k % 2 ^ (-e).toNat = 0 then ldexp x (max (-400) (truncOf n k e))
    else fmul x (ofF32 (Config.oddRescale (toF32 m) (toF32 mNew)))
  | _, _ => .nan

/-- One 32-key subtile of a row (R167); a stored M that is NaN is used as it stands and makes the row NaN (R171). -/
def fwdSub (exp2 : Fv → Fv) (scale : Fv) (fp8 : Bool) (q : List Fv) (ks vs : List (List Fv)) (vis : List Bool)
    (st : RowState) : RowState :=
  let ts := List.zipWith (fun k b => if b then some (fmul (dot q k) scale) else none) ks vis
  let live := ts.filterMap id
  if live.isEmpty then st
  else if st.m.isNan || live.any (fun x => !x.isFin) then { m := .nan, l := .nan, acc := st.acc.map (fun _ => .nan) }
  else
    let top := live.foldl Fv.max (.inf true)
    let mNew := st.m.max top.ceil
    let ps := ts.map (fun t => match t with
      | some x => roundP fp8 (exp2 (fsub x mNew))
      | none => Fv.zero)
    { m := mNew, l := ps.foldl fadd (rescale st.m mNew st.l), acc := macRow ps vs (st.acc.map (rescale st.m mNew)) }

/-- A row after its last key tile with FINISH: the output row before its conversion, and LSE (R168). -/
def finishRow (log2 recip : Fv → Fv) (fp8 : Bool) (st : RowState) : List Fv × Fv :=
  if st.l.isZero then (st.acc.map (fun _ => Fv.zero), .inf true)
  else
    let y := fadd st.m (log2 st.l)
    (st.acc.map (fun x => fmul x (recip st.l)), if fp8 then fsub y (Fv.ofInt 8) else y)

/-- The 8 bytes of a statistics entry (Table 6-4). -/
def statBytes (w0 w1 : Fv) : List Byte := elemBytes 3 w0 ++ elemBytes 3 w1

/-- The subtiles of 32 streamed indices: their numbers. -/
def subtiles (n : Nat) : List Nat := List.range (n / 32)

/-- Indices of a subtile. -/
def subIdx (u : Nat) : List Nat := (List.range 32).map (fun j => 32 * u + j)

/-- Cycles of an iteration (R174, R185): the longest of the groups that are not idle; `sees g u` says that group g has a
visible pair in subtile u. -/
def iterCycles (c w extra : Nat) (groups subs : List Nat) (sees : Nat → Nat → Bool) : Nat :=
  let dead := groups.all (fun g => subs.all (fun u => !sees g u))
  (groups.map (fun g =>
    (if dead then 4 else (subs.map (fun u => if sees g u then c else 4)).foldl (· + ·) w) + extra)).foldl max 0

/-- c and w of Table 6-8. -/
def Desc.attnCost (d : Desc) (doBytes : Nat) : Nat × Nat :=
  let f := if d.fmtA = 2 then 2 else 1
  let e := fmtBytes (d.fmtA)
  let a := b2n d.acc
  let dim := d.tk
  if d.kind = 2 then (max (2 * dim * f) 128, ceilDiv (4 * dim * e + a * (16 * dim + 32)) 32 + 8)
  else match d.pass with
    | 0 => (0, ceilDiv (4 * dim * (e + doBytes)) 32 + 8)
    | 1 => (max (4 * dim * f + 8) 128, ceilDiv (8 * dim * fmtBytes (d.fmtB) + a * 32 * dim) 32 + 8)
    | _ => (max (3 * dim * f) 128, ceilDiv (4 * dim * (e + doBytes) + a * 16 * dim + 32) 32 + 8)

/-- The entry of a bucket pass, read at the start of its outer iteration (R179). -/
def State.bucketEntry (o : Op) (s : State) : State × Got Op :=
  let rc := attnRec (BitVec.ofNat 512 (o.params.getD 0 0))
  let i := o.attnIndex
  if o.desc.kind = 2 && rc.list != 0 && i.2.1 = 0 && i.2.2 = 0 then
    gotThen (s.readDva o.who (rc.list + 64 * i.1) 64) (fun bs s =>
      (s, .ok { o with params := [o.params.getD 0 0, ofBytesLE bs] }))
  else (s, .ok o)

/-- What the passes over query rows read: rows of Q of the row groups at work, and of K and V of the subtiles seen. -/
structure Tiles where
  q : Tab (List Fv)
  k : Tab (List Fv)
  v : Tab (List Fv)
  deriving DecidableEq, Repr

/-- Rows of the row groups that hold one of the rows. -/
def groupRows (rows : List Nat) (tm : Nat) : List Nat := (List.range tm).filter (fun r => rows.any (fun x => x / 4 == r / 4))

/-- Keys of the subtiles of which some row sees a key. -/
def AttnAt.seenKeys (t : AttnAt) (d : Desc) : List Nat :=
  ((subtiles (d.tn)).filter (fun u =>
    (t.rows (d.tm)).any (fun r => (subIdx u).any (fun j => t.sees (d.tm) r j)))).flatMap subIdx

/-- Reads Q, K and V for a pass that holds query rows. -/
def State.readTiles (o : Op) (t : AttnAt) (s : State) : State × Got Tiles :=
  let d := o.desc
  let ks := t.seenKeys d
  gotThen (s.readStationary o (d.fmtA) (d.tk) (d.strideA) t.q (groupRows (t.rows (d.tm)) (d.tm))) (fun q s =>
    gotThen (s.readSome o (d.fmtB) (d.tk) (d.strideB) t.k ks) (fun k s =>
      gotThen (s.readSome o (d.fmtB) (d.tk) (d.strideB) t.v ks) (fun v s =>
        (s, .ok { q := q, k := k, v := v }))))

/-- The bytes read for a pass that holds query rows. -/
def Op.tallyTiles (t : AttnAt) (o : Op) : Op :=
  let d := o.desc
  let nk := (t.seenKeys d).length * d.tk * fmtBytes (d.fmtB)
  ((o.tally t.q ((groupRows (t.rows (d.tm)) (d.tm)).length * d.tk * fmtBytes (d.fmtA))).tally t.k nk).tally t.v nk

/-- The state a row starts an iteration with: fresh, or C and the statistics (R167). -/
def rowStart (fresh : Bool) (dim : Nat) (c st : Tab (List Fv)) (r : Nat) : RowState :=
  if fresh then { acc := List.replicate dim Fv.zero }
  else
    let x := st.get [] r
    { m := x.getD 0 Fv.zero, l := x.getD 1 Fv.zero, acc := c.get [] r }

/-- A row of an iteration of the forward pass, over some of its subtiles. -/
def fwdRow (exp2 : Fv → Fv) (d : Desc) (t : AttnAt) (x : Tiles) (us : List Nat) (r : Nat) (st : RowState) : RowState :=
  us.foldl (fun st u =>
    let js := subIdx u
    fwdSub exp2 t.rc.scale (decide (d.fmtB < 2)) (x.q.get [] r) (js.map (fun j => x.k.get [] j))
      (js.map (fun j => x.v.get [] j)) (js.map (fun j => t.sees (d.tm) r j)) st) st

/-- What a row writes: C and its statistics, finished after the last key tile of a FINISH operation (R168). -/
def fwdPieces (log2 recip : Fv → Fv) (d : Desc) (t : AttnAt) (fin : Bool) (r : Nat) (st : RowState) : List (Nat × List Byte) :=
  let c := t.cq + r * d.strideC
  let w := t.stat + r * d.strideD
  if fin then
    let y := finishRow log2 recip (decide (d.fmtB < 2)) st
    [(c, rowBytes (d.fmtC) y.1), (w, statBytes st.m y.2)]
  else [(c, rowBytes 3 st.acc), (w, statBytes st.m st.l)]

/-- The built-in function of an operation's tiller (R210). -/
def State.builtinOf (o : Op) (func : Nat) (s : State) : Fv → Fv := evalBuiltin (s.builtinRelease (tillerRow (o.desc.tiller))) func

/-! ### Backward (R175, R176) -/

/-- The gradient terms of a visible pair: p rounded without its factor, and the rounded score gradient (R176). -/
def pairTerms (exp2 : Fv → Fv) (scale : Fv) (fp8 : Bool) (q k dO v : List Fv) (delta lse : Fv) : Fv × Fv :=
  let t := fmul (dot q k) scale
  let p := exp2 (fsub t lse)
  let ph := if fp8 then (roundP true p).shift (-8) else roundP false p
  let ds := fmul (fmul p (fsub (dot dO v) delta)) (fmtFP32.decode 0x3F317218)
  (ph, if fp8 then fmtE5M2.round ds else fmtBF16.round ds)

/-- A gradient row plus the row of a term, scaled: the product is exact in FP32, its scaling and the sum round. -/
def gradRow (scale ds : Fv) (x acc : List Fv) : List Fv := List.zipWith (fun a b => fadd a (fmul (fmul ds b) scale)) acc x

/-- A gradient row plus p times a row of dO. -/
def valueRow (p : Fv) (x acc : List Fv) : List Fv := List.zipWith (fun a b => ffma p b a) acc x

/-- A query row of DQ: its gradient over the keys it sees among some, ascending. -/
def dqRow (exp2 : Fv → Fv) (d : Desc) (t : AttnAt) (x : Tiles) (dO st : Tab (List Fv)) (js : List Nat) (r : Nat)
    (acc : List Fv) : List Fv :=
  js.foldl (fun acc j =>
    if t.sees (d.tm) r j then
      let w := st.get [] r
      let y := pairTerms exp2 t.rc.scale (decide (d.fmtB < 2)) (x.q.get [] r) (x.k.get [] j) (dO.get [] r) (x.v.get [] j)
        (w.getD 0 Fv.zero) (w.getD 1 Fv.zero)
      gradRow t.rc.scale y.2 (x.k.get [] j) acc
    else acc) acc

/-- Rows of the 32-row subtiles of queries of which some key is seen. -/
def AttnAt.seenRows (t : AttnAt) (d : Desc) : List Nat :=
  ((subtiles (d.tm)).filter (fun u =>
    (subIdx u).any (fun r => (List.range (d.tn)).any (fun j => t.sees (d.tm) r j)))).flatMap subIdx

/-- A key of DKV: its two gradient rows over the query rows among some that see it, ascending. -/
def dkvKey (exp2 : Fv → Fv) (d : Desc) (t : AttnAt) (x : Tiles) (dO st : Tab (List Fv)) (rs : List Nat) (j : Nat)
    (acc : List Fv × List Fv) : List Fv × List Fv :=
  rs.foldl (fun acc r =>
    if t.sees (d.tm) r j then
      let w := st.get [] r
      let y := pairTerms exp2 t.rc.scale (decide (d.fmtB < 2)) (x.q.get [] r) (x.k.get [] j) (dO.get [] r) (x.v.get [] j)
        (w.getD 0 Fv.zero) (w.getD 1 Fv.zero)
      (gradRow t.rc.scale y.2 (x.q.get [] r) acc.1, valueRow y.1 (dO.get [] r) acc.2)
    else acc) acc

/-! ### What the passes write, over some of their subtiles -/

/-- What an iteration of the forward pass writes: `upto g` subtiles of row group g done, a group with none left alone. -/
def State.fwdOut (o : Op) (t : AttnAt) (fin : Bool) (upto : Nat → Nat) (s : State) : State × Got (List (Nat × List Byte)) :=
  let d := o.desc
  let rows := (t.rows (d.tm)).filter (fun r => upto (r / 4) != 0)
  let fresh := t.n = 0 && !d.acc
  let old := if fresh then [] else rows
  gotThen (s.readTiles o t) (fun x s =>
    gotThen (s.readSome o 3 (d.tk) (d.strideC) t.cq old) (fun c s =>
      gotThen (s.readSome o 3 2 (d.strideD) t.stat old) (fun st s =>
        (s, .ok (rows.flatMap (fun r =>
          fwdPieces (s.builtinOf o 1) (s.builtinOf o 2) d t fin r
            (fwdRow (s.builtinOf o 0) d t x ((subtiles (d.tn)).take (upto (r / 4))) r (rowStart fresh (d.tk) c st r))))))))

/-- What an iteration of PREP writes: Δ of each row of the groups that are done (Table 6-6). -/
def State.prepOut (o : Op) (t : AttnAt) (upto : Nat → Nat) (s : State) : State × Got (List (Nat × List Byte)) :=
  let d := o.desc
  let rows := t.rows (d.tm)
  let rs := groupRows rows (d.tm)
  gotThen (s.readSome o (d.fmtA) (d.tk) (d.strideA) t.q rs) (fun q s =>
    gotThen (s.readSome o t.rc.doFmt (d.tk) t.rc.doStride t.dO rs) (fun g s =>
      (s, .ok ((rows.filter (fun r => upto (r / 4) != 0)).map (fun r =>
        (t.stat + r * d.strideD, elemBytes 3 (dot (g.get [] r) (q.get [] r))))))))

/-- What an iteration of DQ writes. -/
def State.dqOut (o : Op) (t : AttnAt) (upto : Nat → Nat) (s : State) : State × Got (List (Nat × List Byte)) :=
  let d := o.desc
  let rows := (t.rows (d.tm)).filter (fun r => upto (r / 4) != 0)
  let old := if t.n = 0 && !d.acc then [] else rows
  gotThen (s.readTiles o t) (fun x s =>
    gotThen (s.readSome o t.rc.doFmt (d.tk) t.rc.doStride t.dO (groupRows (t.rows (d.tm)) (d.tm))) (fun g s =>
      gotThen (s.readSome o 3 2 (d.strideD) t.stat rows) (fun st s =>
        gotThen (s.readSome o 3 (d.tk) (d.strideC) t.cq old) (fun c s =>
          let zeros := List.replicate (d.tk) Fv.zero
          (s, .ok (rows.map (fun r => (t.cq + r * d.strideC,
            rowBytes 3 (dqRow (s.builtinOf o 0) d t x g st ((List.range (d.tn)).take (32 * upto (r / 4))) r
              (if old.isEmpty then zeros else c.get [] r))))))))))

/-- The keys whose rows of K and V an iteration of DKV reads: those of key groups of which some key is seen. -/
def AttnAt.usedKeys (t : AttnAt) (d : Desc) : List Nat :=
  let keys := List.range (d.tn)
  keys.filter (fun j => (List.range (d.tm)).any (fun r => keys.any (fun i => i / 4 == j / 4 && t.sees (d.tm) r i)))

/-- What an iteration of DKV writes. -/
def State.dkvOut (o : Op) (t : AttnAt) (upto : Nat → Nat) (s : State) : State × Got (List (Nat × List Byte)) :=
  let d := o.desc
  let rs := t.seenRows d
  let keys := (List.range (d.tn)).filter (fun j => upto (j / 4) != 0)
  let used := t.usedKeys d
  let fresh := t.m = 0 && !d.acc
  let old := if fresh then [] else keys
  gotThen (s.readStationary o (d.fmtB) (d.tk) (d.strideB) t.k used) (fun k s =>
    gotThen (s.readSome o (d.fmtB) (d.tk) (d.strideB) t.v used) (fun v s =>
      gotThen (s.readSome o (d.fmtA) (d.tk) (d.strideA) t.q rs) (fun q s =>
        gotThen (s.readSome o t.rc.doFmt (d.tk) t.rc.doStride t.dO rs) (fun g s =>
          gotThen (s.readSome o 3 2 (d.strideD) t.stat rs) (fun st s =>
            gotThen (s.readSome o 3 (d.tk) (d.strideC) t.ck old) (fun c s =>
              gotThen (s.readSome o 3 (d.tk) (d.strideC) t.dv old) (fun e s =>
                let zeros := List.replicate (d.tk) Fv.zero
                (s, .ok (keys.flatMap (fun j =>
                  let y := dkvKey (s.builtinOf o 0) d t { q := q, k := k, v := v } g st
                    ((List.range (d.tm)).take (32 * upto (j / 4))) j
                    (if fresh then (zeros, zeros) else (c.get [] j, e.get [] j))
                  [(t.ck + j * d.strideC, rowBytes 3 y.1), (t.dv + j * d.strideC, rowBytes 3 y.2)]))))))))))

/-- What an iteration of an attention operation writes, `fin` with FINISH applied. -/
def State.attnOut (o : Op) (t : AttnAt) (fin : Bool) (upto : Nat → Nat) (s : State) : State × Got (List (Nat × List Byte)) :=
  if o.desc.kind = 2 then s.fwdOut o t fin upto
  else match o.desc.pass with
    | 0 => s.prepOut o t upto
    | 1 => s.dkvOut o t upto
    | _ => s.dqOut o t upto

/-! ### A stop inside a tile (R145, R170) -/

/-- An attention operation whose engines are inside a tile. -/
def Op.inPass (o : Op) : Bool :=
  ((o.desc.kind == 2 && o.desc.variant != 8) || o.desc.kind == 3) && o.started && !o.loopsDone && o.waits.isEmpty &&
    o.lines.isEmpty && (!o.desc.handleB || o.h1.isSome || (o.desc.kind == 3 && o.desc.pass == 0))

/-- An attention operation stops: the row groups in progress write back their accumulators and statistics over the
subtiles they have completed, without FINISH, and groups not started are left alone (R170). How far each group has come is
a free value. A group whose operands cannot be read at the stop writes nothing. -/
def State.stopPass (o : Op) (s : State) : State :=
  if !o.inPass then s
  else
    let n := s.takeFree
    let r := gotThen (n.2.bucketEntry o) (fun o s =>
      gotThen (s.attnOut o o.attnAt false (Config.subtilesDone n.1)) (fun out s =>
        gotThen (s.writeMany o.who out) (fun _ s => (s, .ok (o.tallyPieces out)))))
    match r with
    | (s, .ok o') => s.updOp o.id (fun _ => { o' with lines := [], cursor := 0 })
    | (_, _) => n.2

end Sys2Proof.Machine
end

