-- ==== Sys2Proof/Machine/Energy.lean ====
section
/-! DEFINITION. Candidates (R147), balances and settlement (R385, R387, R389), and the fill an engine leaves (R396). -/

namespace Sys2Proof.Machine

/-! ### Candidates (R147) -/

/-- An unissued operation of a partition: of a job, or the copy a KV command started (R197). -/
structure Cand where
  seq : Nat
  uid : Nat
  copy : Bool
  index : Nat
  ctx : Nat
  ticket : BitVec 32
  desc : Option Desc
  deriving DecidableEq, Repr

/-- The first unissued indices of a job, at most 64. -/
def Job.unissued (j : Job) : List Nat :=
  (((List.range (64 + j.issued.length)).map (j.base + ·)).filter (fun i => decide (i < j.count) && !j.issued.contains i)).take 64

/-- A job whose operations may issue: admitted, and decided by no abort or reset (R98, R147). -/
def Job.issuing (j : Job) : Bool := j.stage = .admitted && j.ending.isNone

/-- Inserts a candidate in admission order. -/
def insertCand (c : Cand) : List Cand → List Cand
  | [] => [c]
  | h :: t => if c.seq < h.seq then c :: h :: t else h :: insertCand c t

/-- The copies on write of a partition (R197). -/
def State.kvCopies (p : Nat) (s : State) : List KvCopy := ((s.kv.get none p).map (·.copies)).getD []

/-- Changes the copies on write of a partition, where it has a pool. -/
def State.updCopies (p : Nat) (f : KvCopy → KvCopy) (s : State) : State :=
  match s.kv.get none p with
  | none => s
  | some k => { s with kv := s.kv.put p (some { k with copies := k.copies.map f }) }

/-- The first 64 candidates of partition p, by admission and then by descriptor index. -/
def State.cands (p : Nat) (s : State) : List Cand :=
  let js := (s.adm.jobs.filter (fun j => j.part == p && j.issuing)).flatMap (fun j => j.unissued.map (fun i =>
    { seq := j.admSeq, uid := j.cmd.uid, copy := false, index := i, ctx := j.cmd.ctx.toNat, ticket := j.cmd.ticket,
      desc := (j.fetched.find? (fun f => f.1 == i)).map (·.2) : Cand }))
  let cs := (s.kvCopies p).filter (fun c => c.op.isNone) |>.map (fun c =>
    { seq := c.admSeq, uid := c.cmd.uid, copy := true, index := 0, ctx := c.ctx, ticket := c.cmd.ticket, desc := some c.desc : Cand })
  ((js ++ cs).foldl (fun l c => insertCand c l) []).take 64

/-- A frame-bound candidate among the first 64 (R396). -/
def State.frameBoundCand (p : Nat) (s : State) : Bool :=
  (s.cands p).any (fun c => c.desc.any (fun d => d.frameBound))

/-! ### Balances -/

/-- The balance of partition p on a die. -/
def PwrPart.bal (d : Nat) (x : PwrPart) : Int := if d = 0 then x.balW else x.balE
/-- The load of partition p on a die. -/
def PwrPart.load (d : Nat) (x : PwrPart) : Nat := if d = 0 then x.loadW else x.loadE
/-- Adds to a balance. -/
def PwrPart.addBal (d : Nat) (v : Int) (x : PwrPart) : PwrPart :=
  if d = 0 then { x with balW := x.balW + v } else { x with balE := x.balE + v }

/-- The correction ratio of a kind on a die, 256 at creation (R387). -/
def PwrPart.ratioOf (d kind : Nat) (x : PwrPart) : Nat := x.ratio.get 256 (256 * d + kind)

/-- The ratio after a retirement with hint h and measured energy m (R387). -/
def nextRatio (r h m : Nat) : Nat :=
  let q : Int := (256 * m / h : Nat)
  let v : Int := r + Int.tdiv (q - r) 8
  (max 128 (min 1024 v)).toNat

/-- The per-part factor of a structure, in units of 2^-20: from 0.75 to 1.25 (R389). -/
def trim (structure_ hottest : Nat) : Nat := max (3 * 2 ^ 18) (min (5 * 2 ^ 18) (Config.trimRaw structure_ hottest))

/-- The measured energy of an operation that did what its counters say: engine cycles held and bytes moved, weighted
with the part's own coefficients and rounded up (R389). `extra`: engine cycles held beside the tiles' timing. -/
def measured (hottest extra : Nat) (o : Op) : Nat :=
  let cyc := o.cyc + extra
  let sum := o.desc.engines.foldl (fun a e => a + cyc * o.desc.cyclePj e * trim e hottest) 0 +
    o.ext * 6 * trim 3 hottest + o.loc * 2 * trim 4 hottest
  (sum + (2 ^ 20 * 100000 - 1)) / (2 ^ 20 * 100000)

/-- Settles an operation: its die's balance gains estimate minus measured, and the measured energy is counted; at a
retirement (`retires`) the ratio of its kind follows when it has a hint (R385, R387, R389, R386). -/
def State.settle (o : Op) (m : Nat) (retires : Bool) (s : State) : State :=
  let h := o.desc.hint
  let s := s.updPwrp o.part (fun x =>
    let x := (x.addBal o.die ((o.charge : Int) - m))
    { x with
      retired := x.retired + BitVec.ofNat 48 m
      ratio := if h = 0 || !retires then x.ratio
        else x.ratio.put (256 * o.die + o.desc.kind) (nextRatio (x.ratioOf o.die (o.desc.kind)) h m) })
  s.updPwr (fun w => { w with winM := w.winM + m })

/-! ### Currents and fill -/

/-- Energy per core cycle of an engine at full current, in pJ (Table 14-1). -/
def enginePj (d : Desc) (e : Nat) : Nat :=
  match e with
  | 0 => if d.macMode = 2 then 2800 else 3200
  | 1 => 400
  | _ => 250

/-- A current in units of 1/28 mA at the core clock in use: 7 per mA at the VLA-1-14 clock, 6 at the VLA-1-12 clock, for
each fourth of the clock (R388, R400). -/
def State.scaled (ma : Nat) (s : State) : Nat :=
  ma * (if s.fuse.grade = .vla112 then 6 else 7) * (4 - s.pwr.step.toNat)

/-- The engines of a finished or stopped operation go idle and hold fill: at full current until the second commit
instant when a frame-bound candidate is near, else ramping down at once (R396). -/
def State.leaveFill (o : Op) (s : State) : State :=
  if !o.started then s
  else
    let hold := if s.frameBoundCand o.part then some 2 else none
    (o.desc.engines).foldl (fun s e =>
      let c := s.scaled (o.desc.currentMa e)
      s.updPwr (fun w => { w with
        fills := w.fills ++
        [{ tiller := o.desc.tiller, engine := e, part := o.part, current := c, hold := hold,
           pj := enginePj o.desc e, full := c }] })) s

/-- Takes an operation out of flight early (R145): an attention operation writes back what it has (R170), it settles on
what it did, and its engines go idle. -/
def State.stopOp (o : Op) (s : State) : State :=
  let s := s.stopPass o
  let o := (s.op? o.id).getD o
  let n := s.takeFree
  let s := n.2
  let m := if o.started then measured s.pwr.hottest.toNat (Config.heldExtra n.1) o else 0
  let s := (s.settle o m false).updSeq (fun q => { q with ops := q.ops.filter (fun x => x.id != o.id) })
  s.leaveFill o

end Sys2Proof.Machine
end

