-- ==== Sys2Proof/Machine/Kill.lean ====
section
/-! DEFINITION. Partition state changes (R359), the start of a context kill (R123 to R125) with its effects on spans
(R373), reductions (R290, R294) and queues, and partition faults (R365). -/

namespace Sys2Proof.Machine

/-- A partition becoming RUNNING is a wake request at every port (R328). -/
def State.wakePorts (s : State) : State := (List.range 16).foldl (fun s i => s.wakePort i) s

/-- A change of a partition's state: the frame, an event-log record, PF0 vector 8 + p and vector 3 of its VF (R359). -/
def State.setPart (p : Nat) (st : PState) (s : State) : State :=
  let s := s.updPart p (fun x => { x with state := st, changed := s.frm.count, next := none })
  let s := if st = .running then s.wakePorts else s
  ((s.logEvent 0x0900 .none (some (p, 0)) [(0, st.code)]).fireVec 0 (8 + p)).fireVec (p + 1) 3

/-- The handle queues of partition p. -/
def State.ownsQueue (p key : Nat) (s : State) : Bool := s.rowOwner (8 * (key / 256) + key % 256 / 32) = some p

/-- Marks a span DEAD at its acting lead: its flows are withdrawn from the next pass, and every other member is told
(R373). -/
def State.spanDie (id : BitVec 16) (s : State) : State :=
  match s.span? id with
  | none => s
  | some x =>
    if x.state != .active || x.lead != s.self then s
    else
      let others := x.ring.filter (fun k => k != s.self)
      let s := s.updSpan id (fun x => { x with state := .dead, withdraw := true, unacked := others, deadFrames := 0 })
      s.sendAll others (.spanDead id)

/-- A kill's effect on the groups of the context: the reductions of its queues without a record end KILLED (R290), the group
is DEGRADED from then on, and every other member is told of the loss (R294). -/
def State.killGroups (p c : Nat) (cause : Reason) (s : State) : State :=
  let gs := s.red.groups.filter (fun g => g.part == p && g.ctx == c)
  let s := s.updRed (fun r => { r with
    groups := r.groups.map (fun (g : Group) => if g.part == p && g.ctx == c && !g.lost.any (fun x => x.1 == g.rank) then
      { g with lost := g.lost ++ [(g.rank, true)], state := if g.state = .active then .degraded else g.state } else g)
    queues := r.queues.map (fun q => if gs.any (fun g => g.index == q.group) && q.part == p then
      { q with
        reds := q.reds.map (fun (x : Reduction) => { x with outcome := some (.killed, cause), buffers := [] }) } else q) })
  gs.foldl (fun s g =>
    (g.members.filter (fun m => m.1 != s.self)).foldl (fun s m =>
      s.send m.1 (.groupLoss g.span g.num s.self true)) s) s

/-- Sends kill notices to every other member package of the context's span; members without a path are counted and
logged (R125, R352). -/
def State.killNotices (p c : Nat) (cause : Reason) (s : State) : State :=
  match s.ten.spans.find? (fun x => x.part == p && x.ctx == c) with
  | none => s
  | some x =>
    (x.ring.filter (fun k => k != s.self)).foldl (fun s k =>
      if s.distTo k < 15 then
        s.send k (.kill s.frm.count (BitVec.ofNat 16 cause.code) (BitVec.ofNat 7 s.self) (BitVec.ofNat 10 (tagOf p c)) x.id)
      else
        (s.updCtx p c (fun y => { y with unreached := y.unreached + 1 })).logEvent 0x0301 .linkDown (some (p, c)) [(0, k)]) s

/-- Starts the kill of a LIVE context (R124): the fault record, operations stopped, handles discarded, notices and the
effects on its span and groups. `peer`: origin package and tag of a kill notice, which is never forwarded (R125).
A context that is not LIVE keeps its first cause (R123). -/
def State.killStart (r : FaultRec) (peer : Option (BitVec 7 × BitVec 10)) (s : State) : State :=
  let p := r.tag.toNat / 64
  let c := r.tag.toNat % 64
  if (s.ctx p c).state != .live then s
  else
    let ops := s.seq.ops.filter (fun o => o.part == p && o.ctx == c)
    let s := s.updCtx p c (fun x => { x with
      state := .killing, cause := some r.cause, kind := r.kind, tag := r.tag, die := r.die, write := r.write, dva := r.dva
      start := s.frm.count, stopped := 0, ticket := r.ticket, slot := r.slot, place := r.place
      originPkg := (peer.map (·.1)).getD (BitVec.ofNat 7 s.self), originTag := (peer.map (·.2)).getD r.tag, unreached := 0 })
    let s := ops.foldl (fun s o => s.stopOp o) s
    let s := s.updCtx p c (fun x => { x with stopped := BitVec.ofNat 16 ops.length })
    let s0 := s
    let s := s.updSeq (fun q => { q with
      queues := q.queues.map (fun kq => if s0.ownsQueue p kq.1 then (kq.1, kq.2.filter (fun h => h.tag != r.tag)) else kq) })
    let s := s.logEvent 0x0300 r.cause (some (p, c)) [(0, r.cause.code), (16, r.kind.toNat), (24, r.tag.toNat)]
    let s := if peer.isNone then s.killNotices p c r.cause else s
    let s := s.killGroups p c r.cause
    match s.ten.spans.find? (fun x => x.part == p && x.ctx == c) with
    | some x => s.spanDie x.id
    | none => s

/-- A kill by Choesk's own decision, fault kind 0x00 (Table 4-7). -/
def State.killCtx (p c : Nat) (cause : Reason) (s : State) : State :=
  s.killStart { tag := BitVec.ofNat 10 (tagOf p c), cause := cause } none

/-- Kills every LIVE context of a partition. -/
def State.killAll (p : Nat) (cause : Reason) (s : State) : State :=
  (List.range 64).foldl (fun s c => s.killCtx p c cause) s

/-- Loads of special-function slots that wait in a partition end REFUSED and leave the slot unchanged; its unloads still
take effect at the next commit instant (R229, R230, Table 13-5). -/
def State.refuseLoads (p : Nat) (s : State) : State :=
  let mine := s.sfu.filter (fun e => e.1 / 16 == p)
  let cs := mine.flatMap (fun e => (e.2.acts.filter SlotAct.isLoad).map (·.cmd))
  let s := { s with
    sfu := s.sfu.map (fun (e : Nat × SfuSlot) =>
      if e.1 / 16 == p then (e.1, { e.2 with acts := e.2.acts.filter (fun a => !a.isLoad), written := false }) else e) }
  s.finishAll cs .refused .partitionDown []

/-- Commands that wait for a state change of partition p end REFUSED when it leaves for FAULTED or TEARING_DOWN (log
entry 16). -/
def State.refuseWaiting (p : Nat) (s : State) : State :=
  let cs := (s.part p).cmds
  let s := s.updPart p (fun x => { x with cmds := [], next := none, fencing := false, resetting := false })
  (s.finishAll cs .refused .partitionDown []).refuseLoads p

/-- Entry to FAULTED (R365): issue stops, the contexts are killed with WATCHDOG, and a critical record is written; the
deferral list ends at the next pass (R93). -/
def State.faultPart (p : Nat) (code : BitVec 8) (s : State) : State :=
  let st := (s.part p).state
  if st = .absent || st = .faulted || st = .tearingDown then s
  else
    let s := ((s.refuseWaiting p).updPart p (fun x => { x with fault := code })).setPart p .faulted
    (s.killAll p .watchdog).logEvent 0x0901 .none (some (p, 0)) [(0, code.toNat)]

/-- KILL_START (R124): a checking unit has detected a fault; an uncorrectable error marks the word it struck and UE on a
device page (R118). -/
def opKillStart (r : FaultRec) (s : State) : State :=
  let mark := r.kind = 0x09 || r.kind = 0x0A
  let p := r.tag.toNat / 64
  let s := if mark then
      match s.choeskPlace p (r.tag.toNat % 64) false r.dva.toNat with
      | some q =>
        let s := s.updXlt (fun x => { x with ecc := x.ecc ++ [(q.isSpad, q.addr / 8, true)] })
        match q with
        | .dev ppn _ => s.updXlt (fun x => { x with own := x.own.upd {} ppn (fun o => { o with ue := true }) })
        | _ => s
      | none => s
    else s
  s.killStart r none

/-- KILL_NOTICE_RECEIVE (R126): the LIVE member context of the span is killed with SPAN_PEER_KILLED; a notice without one
is logged. The acting lead marks the span DEAD (R373). -/
def opKillNoticeReceive (_frame : FrameNo) (cause : BitVec 16) (origin : BitVec 7) (tag : BitVec 10) (span : BitVec 16)
    (s : State) : State :=
  let log (s : State) : State :=
    s.log 0x0303 [(0, span.toNat), (16, origin.toNat), (23, tag.toNat), (33, cause.toNat)]
  match s.span? span with
  | none => log s
  | some x =>
    if (s.ctx x.part x.ctx).state = .live then
      (s.killStart { tag := BitVec.ofNat 10 (tagOf x.part x.ctx), cause := .spanPeerKilled } (some (origin, tag))).spanDie
        span
    else log s

/-- SPAN_DEAD_RECEIVE (R373): the LIVE member context is killed, the span is DEAD, and the notice is acknowledged. -/
def opSpanDeadReceive (span : BitVec 16) (pkg : Fin 128) (s : State) : State :=
  match s.span? span with
  | none => s
  | some x =>
    let s := s.killStart { tag := BitVec.ofNat 10 (tagOf x.part x.ctx), cause := .spanPeerKilled }
      (some (BitVec.ofNat 7 pkg.val, 0))
    let s := s.updSpan span (fun x => { x with state := .dead })
    s.send pkg.val (.spanDeadAck span s.self)

/-- SPAN_DEAD_RESEND (R373): every 1,024 frames to each member that has not acknowledged. -/
def opSpanDeadResend (span : BitVec 16) (acked : List Nat) (s : State) : State :=
  match s.span? span with
  | none => s
  | some x =>
    let rest := x.unacked.filter (fun k => !acked.contains k)
    let s := s.updSpan span (fun x => { x with unacked := rest })
    if x.state = .dead && x.lead = s.self && decide (1024 ≤ x.deadFrames) && !rest.isEmpty then
      (s.updSpan span (fun x => { x with deadFrames := 0 })).sendAll rest (.spanDead span)
    else s

/-- PARTITION_FAULT (R365). -/
def opPartitionFault (p : Fin 16) (code : BitVec 8) (s : State) : State := s.faultPart p.val code

/-- STALL_WATCHDOG (R153): after 1,024 stalled frames every LIVE context with an operation in flight is killed. -/
def opStallWatchdog (p : Fin 16) (s : State) : State :=
  if (s.seqp p.val).stall.toNat < 1024 then s
  else
    let cs := (s.seq.ops.filter (fun o => o.part == p.val)).map (·.ctx)
    ((List.range 64).filter (fun c => cs.contains c)).foldl (fun s c => s.killCtx p.val c .watchdog) s

/-! ### Meanings of the rows -/

/-- STALL_WATCHDOG (R153). -/
def execStallWatchdog (p : Fin 16) (s : State) : Host.Outcome State Fault Refusal :=
  .next (s.whenClocked (opStallWatchdog p s))

/-- KILL_START (R124). -/
def execKillStart (r : FaultRec) (s : State) : Host.Outcome State Fault Refusal :=
  .next (s.whenClocked (opKillStart r s))

/-- KILL_NOTICE_RECEIVE (R126). -/
def execKillNoticeReceive (frame : FrameNo) (cause : BitVec 16) (origin : BitVec 7) (tag : BitVec 10) (span : BitVec 16) (s : State) :
    Host.Outcome State Fault Refusal :=
  .next (s.whenClocked (s.toChoesk origin.toNat (.kill frame cause origin tag span)
    (opKillNoticeReceive frame cause origin tag span s)))

/-- PARTITION_FAULT (R365). -/
def execPartitionFault (p : Fin 16) (code : BitVec 8) (s : State) : Host.Outcome State Fault Refusal :=
  .next (s.whenClocked (opPartitionFault p code s))

/-- SPAN_DEAD_RECEIVE (R373). -/
def execSpanDeadReceive (span : BitVec 16) (pkg : Fin 128) (s : State) :
    Host.Outcome State Fault Refusal :=
  .next (s.whenClocked (s.toChoesk pkg.val (.spanDead span)
    (opSpanDeadReceive span pkg s)))

/-- SPAN_DEAD_RESEND (R373). -/
def execSpanDeadResend (span : BitVec 16) (acked : List Nat) (s : State) : Host.Outcome State Fault Refusal :=
  .next (s.whenClocked (opSpanDeadResend span acked s))

end Sys2Proof.Machine
end

