-- ==== Sys2Proof/Machine/Mbx.lean ====
section
/-! DEFINITION. Mailbox registers and rings (R76 to R81), completion records (R83) and the completion vector (R100),
mailbox reset (R101, R102). -/

namespace Sys2Proof.Machine

open Sys2Proof

/-- A mailbox enters its error state: the first error's code, an event-log record and vector 1 (R80). -/
def State.mbxError (m : Nat) (code : MbxErr) (s : State) : State :=
  if (s.mb m).error then s
  else
    let s := s.updMb m (fun b => { b with error := true, errCode := code })
    (s.log 0x0200 [(0, m), (8, code.code)]).fireVec m 1

/-- MBX_RING_CFG_WRITE (R77). Before boot is complete and in recovery ENABLE stays 0, without an error (R408, R409;
DEDUCED, log entry 136). After a failed enable the register holds the sizes of the failing write (R80), and an enable
starts the COUNT and the age of the completion vector anew (R100): both DESIGN CHOICE, log entry 114. -/
def opMbxRingCfgWrite (fn : Fin 17) (v : W64) (s : State) : State :=
  let m := fn.val
  let b := s.mb m
  if !s.fnExists m || b.error || b.enable then s
  else if bit v 8 then
    if b.resetBusy || !s.mgt.booted then s
    else
      let cmd := BitVec.ofNat 4 (fld v 0 4)
      let cpl := BitVec.ofNat 4 (fld v 4 4)
      let good := decide (4 ≤ cmd.toNat) && decide (cmd.toNat ≤ 12) && decide (4 ≤ cpl.toNat) && decide (cpl.toNat ≤ 13) &&
        fld b.cmdBase 0 12 == 0 && fld b.cplBase 0 12 == 0
      let s := s.updMb m (fun b => { b with cmdLog2 := cmd, cplLog2 := cpl })
      if good then s.updMb m (fun b => { b with
        enable := true, cmdHead := 0, cmdTail := 0, cplHead := 0, cplTail := 0, phase := true, sinceIrq := 0, age := none })
      else s.mbxError m .badConfig
  else s.updMb m (fun b => { b with cmdLog2 := BitVec.ofNat 4 (fld v 0 4), cplLog2 := BitVec.ofNat 4 (fld v 4 4) })

/-- Entries of the command ring. -/
def Mailbox.cmdSize (b : Mailbox) : Nat := 2 ^ b.cmdLog2.toNat
/-- Entries of the completion ring. -/
def Mailbox.cplSize (b : Mailbox) : Nat := 2 ^ b.cplLog2.toNat
/-- Completion entries written and not yet returned. -/
def Mailbox.unread (b : Mailbox) : Nat := (b.cplTail.toNat + b.cplSize - b.cplHead.toNat) % b.cplSize

/-- DOORBELL (R78, R80): a value at or beyond the ring size is an error. -/
def opDoorbell (fn : Fin 17) (v : W64) (s : State) : State :=
  let b := s.mb fn.val
  let t := fld v 0 12
  if !s.fnExists fn.val || b.error || !b.enable then s
  else if b.cmdSize ≤ t then s.mbxError fn.val .badDoorbell
  else s.updMb fn.val (fun b => { b with cmdTail := BitVec.ofNat 12 t })

/-- MBX_CPL_HEAD_WRITE (R79, R80): a value beyond the ring, or one that returns more than was written, is an error. -/
def opMbxCplHeadWrite (fn : Fin 17) (v : W64) (s : State) : State :=
  let b := s.mb fn.val
  let h := fld v 0 13
  if !s.fnExists fn.val || b.error || !b.enable then s
  else if b.cplSize ≤ h || b.unread < (h + b.cplSize - b.cplHead.toNat) % b.cplSize then s.mbxError fn.val .badCplHead
  else s.updMb fn.val (fun b => { b with cplHead := BitVec.ofNat 13 h })

/-! ### Completion entries (Table 3-3) -/

/-- The 512 bits of a completion entry as a number. -/
def recordBits (phase : Bool) (r : Record) : Nat :=
  ((List.range 5).map (fun n => (r.words.getD n 0).toNat * 2 ^ (64 * n))).foldl (· + ·) 0 +
    r.cmd.ticket.toNat * 2 ^ 320 + r.oc.code * 2 ^ 352 + r.reason.code * 2 ^ 360 + r.cmd.opcode.toNat * 2 ^ 376 +
    r.cmd.slot.toNat * 2 ^ 392 + b2n r.final * 2 ^ 404 + r.cmd.ctx.toNat * 2 ^ 408 + r.frame.toNat * 2 ^ 416 +
    b2n phase * 2 ^ 511

/-- The 64 bytes of a completion entry. -/
def recordBytes (phase : Bool) (r : Record) : List Byte := bytesLE 64 (recordBits phase r)

/-- Fires the completion vector and starts its counts again. -/
def State.fireCompletion (m : Nat) (s : State) : State :=
  (s.updMb m (fun b => { b with sinceIrq := 0, age := none })).fireVec m 0

/-- Writes the oldest staged record (R79, R81): one 64-byte write with PHASE, the tail and phase moved on, the ticket
ended by a final record, and the completion vector on the count threshold or an IRQ command's final record (R100). -/
def State.writeRecord (m : Nat) (s : State) : State :=
  let b := s.mb m
  match b.staged with
  | [] => s
  | r :: rest =>
    let drop (b : Mailbox) : Mailbox := { b with
      staged := rest, tickets := if r.final then b.tickets.filter (fun t => t.cmd.uid != r.cmd.uid) else b.tickets }
    if m = 17 then
      let s := (s.updMb m drop).emit (.usb (recordBytes true r))
      let more := s.mgt.usbData.filter (fun x => x.1 == r.cmd.uid)
      (s.updMgt (fun g => { g with usbData := g.usbData.filter (fun x => x.1 != r.cmd.uid) })).emit
        (.usb (more.flatMap (fun x => x.2)))
    else
      let t := b.cplTail.toNat
      let wrap := t + 1 = b.cplSize
      let s := { s with host := s.host.writeBytes (b.cplBase.toNat + 64 * t) (recordBytes b.phase r) }
      let s := s.updMb m (fun b => { drop b with
        cplTail := if wrap then 0 else b.cplTail + 1, phase := if wrap then !b.phase else b.phase
        sinceIrq := b.sinceIrq + 1, age := if b.age.isNone then some 0 else b.age })
      if (r.final && r.cmd.irq) || b.irqCount.toNat ≤ (s.mb m).sinceIrq then s.fireCompletion m else s

/-- The mailbox can write a record: enabled without error, and the ring has room (R79, R80). -/
def State.canWrite (m : Nat) (s : State) : Bool :=
  if m = 17 then s.mgt.usb
  else s.pcie.refclk && (s.mb m).enable && !(s.mb m).error && decide ((s.mb m).unread + 1 < (s.mb m).cplSize)

/-- Writes records in staging order while there is room. -/
def writeLoopCpl (m : Nat) : Nat → State → State
  | 0, s => s
  | n + 1, s => if s.canWrite m then writeLoopCpl m n (s.writeRecord m) else s

/-- COMPLETION_WRITE (R81). -/
def opCompletionWrite (m : Fin 18) (s : State) : State := writeLoopCpl m.val (s.mb m.val).staged.length s

/-- IRQ_AGE_EXPIRY (R100): FRAMES frames have passed since the oldest unsignalled record. -/
def opIrqAgeExpiry (fn : Fin 17) (s : State) : State :=
  let b := s.mb fn.val
  match b.age with
  | some n => if b.irqFrames != 0 && decide (b.irqFrames.toNat ≤ n) then s.fireCompletion fn.val else s
  | none => s

/-! ### Mailbox reset (R101, R102) -/

/-- The jobs of a mailbox. -/
def State.mbxJobs (m : Nat) (s : State) : List Job := s.adm.jobs.filter (fun j => j.cmd.mbx == m)

/-- Operations of a job in flight. -/
def State.jobOps (uid : Nat) (s : State) : List Op := s.seq.ops.filter (fun o => o.job == some uid)

/-- The push that returns a handle to its HOME queue, where HOME names one. The spec does not say whether such a handle
takes the tag of the operation that returns it; the model keeps its TAG (DESIGN CHOICE, log entry 116). -/
def Handle.homeward (h : Handle) : List QueueWait := if qUse h.home.toNat then [.push h.home h] else []

/-- The pushes that bring an operation's popped handles home: input handles unless KEEP_IN, those on their way already,
and free buffers, also one whose output handle waits for OUT and is pushed no further (R154). -/
def Op.bringHome (o : Op) : List QueueWait :=
  let queued := o.waits.flatMap (fun w => match w with
    | .push q h => [.push q h]
    | .out _ _ b => b.toList.flatMap Handle.homeward
    | _ => [])
  queued ++ (if o.desc.keepIn then [] else (o.h0.toList ++ o.h1.toList).flatMap Handle.homeward) ++
    o.hc.toList.flatMap Handle.homeward

/-- Operations of decided jobs stop as if their loops were complete (R145, R154): an attention operation inside a tile
writes back what it has (R170), those that wait stop waiting, and what they had popped goes back to its HOME queue. -/
def State.endOps (uid : Nat) (s : State) : State :=
  let s := (s.jobOps uid).foldl (fun s o => s.stopPass o) s
  s.updSeq (fun q => { q with
    ops := q.ops.map (fun o => if o.job == some uid then
      { o with loopsDone := true, waits := o.bringHome, h0 := none, h1 := none, hc := none } else o) })

/-- Decides a job by an abort or a reset unless something decided it before (R97). -/
def State.decideJob (uid : Nat) (rs : Reason) (s : State) : State :=
  let s := s.updAdm (fun a => { a with
    jobs := a.jobs.map (fun j => if j.cmd.uid == uid && j.ending.isNone then { j with ending := some rs } else j) })
  s.endOps uid

/-- Starts a mailbox reset (R101): steps 1 to 4. -/
def State.resetMailbox (m : Nat) (s : State) : State :=
  if (s.mb m).resetBusy then s
  else
    let code := (s.mb m).errCode
    let s := s.updMb m (fun b => { b with
      enable := false, error := false, errCode := .none, resetBusy := true, staged := [], busyFrames := 0 })
    let s := s.log 0x0200 [(0, m), (8, code.code)]
    let adm := (s.mbxJobs m).filter (fun j => j.stage == .admitted)
    let s := s.updAdm (fun a => { a with
      jobs := a.jobs.filter (fun j => j.cmd.mbx != m || j.stage == .admitted)
      held := a.held.filter (fun h => h.1.mbx != m) })
    adm.foldl (fun s j => s.decideJob j.cmd.uid .hostAbort) s

/-- Completes a mailbox reset (step 5 of R101): its jobs go, every ticket becomes inactive, and vector 1 fires. -/
def State.resetMailboxDone (m : Nat) (s : State) : State :=
  let n := (s.mb m).tickets.length
  let s := s.updAdm (fun a => { a with jobs := a.jobs.filter (fun j => j.cmd.mbx != m) })
  (s.updMb m (fun b => { b with resetBusy := false, ended := BitVec.ofNat 32 n, tickets := [], staged := [] })).fireVec m 1

/-- MAILBOX_RESET (R101): a write of 1 to MBX.CTRL.RESET. -/
def opMailboxReset (fn : Fin 17) (s : State) : State := if s.fnExists fn.val then s.resetMailbox fn.val else s

/-- MAILBOX_RESET_DONE (R101): the last operation in flight of its jobs has retired. -/
def opMailboxResetDone (fn : Fin 17) (s : State) : State :=
  if (s.mb fn.val).resetBusy && (s.mbxJobs fn.val).all (fun j => (s.jobOps j.cmd.uid).isEmpty) then
    s.resetMailboxDone fn.val
  else s

/-- MAILBOX_RESET_WATCHDOG (R102): 1,024 frames with RESET_BUSY on a VF kill the contexts of its partition. -/
def opMailboxResetWatchdog (fn : Fin 17) (s : State) : State :=
  if fn.val != 0 && (s.mb fn.val).resetBusy && decide (1024 ≤ (s.mb fn.val).busyFrames) then s.killAll (fn.val - 1) .watchdog
  else s

/-! ### Meanings of the rows -/

/-- MBX_RING_CFG_WRITE (R77). -/
def execMbxRingCfgWrite (fn : Fin 17) (v : W64) (s : State) : Host.Outcome State Fault Refusal :=
  .next (s.whenPcie (opMbxRingCfgWrite fn v s))

/-- DOORBELL (R78). -/
def execDoorbell (fn : Fin 17) (v : W64) (s : State) : Host.Outcome State Fault Refusal :=
  .next (s.whenPcie (opDoorbell fn v s))

/-- MBX_CPL_HEAD_WRITE (R79). -/
def execMbxCplHeadWrite (fn : Fin 17) (v : W64) (s : State) : Host.Outcome State Fault Refusal :=
  .next (s.whenPcie (opMbxCplHeadWrite fn v s))

/-- MAILBOX_RESET (R101). -/
def execMailboxReset (fn : Fin 17) (s : State) : Host.Outcome State Fault Refusal :=
  .next (s.whenPcie (opMailboxReset fn s))

/-- COMPLETION_WRITE (R81). -/
def execCompletionWrite (m : Fin 18) (s : State) : Host.Outcome State Fault Refusal :=
  .next (s.whenClocked (opCompletionWrite m s))

/-- IRQ_AGE_EXPIRY (R100). -/
def execIrqAgeExpiry (fn : Fin 17) (s : State) : Host.Outcome State Fault Refusal :=
  .next (s.whenClocked (opIrqAgeExpiry fn s))

/-- MAILBOX_RESET_DONE (R101). -/
def execMailboxResetDone (fn : Fin 17) (s : State) : Host.Outcome State Fault Refusal :=
  .next (s.whenClocked (opMailboxResetDone fn s))

/-- MAILBOX_RESET_WATCHDOG (R102). -/
def execMailboxResetWatchdog (fn : Fin 17) (s : State) : Host.Outcome State Fault Refusal :=
  .next (s.whenClocked (opMailboxResetWatchdog fn s))

end Sys2Proof.Machine
end

