-- ==== Sys2Proof/Machine/Adm.lean ====
section
/-! DEFINITION. Jobs and admission: records (R95, R96), the admission pass (R91 to R94), abort (R97, R98), and the commands
of 03 that concern them. -/

namespace Sys2Proof.Machine

open Sys2Proof

/-! ### Records of a job -/

/-- Result words of an outcome record of JOB.SUBMIT (R96). -/
def jobWords (j : Job) (s : State) : List W64 :=
  [word [(0, (j.admFrame.getD 0).toNat)], word [(0, s.frm.count.toNat)], word [(0, j.deferredFrames), (32, j.overruns)],
    word [(0, j.passedOver)], word [(0, j.retired)]]

/-- The same for a JOB.SUBMIT that never became a job. -/
def noJobWords (s : State) : List W64 := [0, word [(0, s.frm.count.toNat)], 0, 0, 0]

/-- A job as it ends in frame `f`: one never admitted has been deferred since the pass that deferred it first (R96). -/
def Job.endIn (f : FrameNo) (j : Job) : Job :=
  if j.stage == .admitted then j
  else { j with
    deferredFrames := match j.firstDeferred with
      | some d => framesSince f d
      | none => 0 }

/-- Removes a job. -/
def State.dropJob (uid : Nat) (s : State) : State :=
  s.updAdm (fun a => { a with jobs := a.jobs.filter (fun j => j.cmd.uid != uid) })

/-- Ends a job with an outcome record, then answers the aborts that named it: the one that decided it is DONE, others
found it ended (R97, R98). -/
def State.endJob (j : Job) (oc : Oc) (rs : Reason) (s : State) : State :=
  let s := (s.finish j.cmd oc rs (jobWords j s)).dropJob j.cmd.uid
  match j.ending, j.aborters with
  | some .hostAbort, a :: rest =>
    (s.finish a .done .none []).finishAll rest .notActive .alreadyEnded []
  | _, as => s.finishAll as .notActive .alreadyEnded []

/-- A decided job with no operation left in flight ends ABORTED (R98, R366). -/
def State.endIfDrained (uid : Nat) (s : State) : State :=
  match s.adm.jobs.find? (fun j => j.cmd.uid == uid) with
  | none => s
  | some j =>
    match j.ending with
    | some rs => if (s.jobOps uid).isEmpty && j.stage == .admitted then s.endJob j .aborted rs else s
    | none => s

/-! ### Balances and estimates (R90, R95) -/

/-- Sum of the guaranteed rates. -/
def Adm.sumG (a : Adm) : Nat := ((List.range 16).map (fun p => (a.parts.get {} p).g.toNat)).foldl (· + ·) 0

/-- Depth of a bucket or of the pool for a rate: 16 rates, at least 1 AU. -/
def depthOf (g : Nat) : Nat := max (16 * g) 256

/-- The deferral list of partition p. -/
def Adm.deferral (p : Nat) (a : Adm) : List Job := a.jobs.filter (fun j => j.part == p && j.stage == .deferred)

/-- The new commands of partition p that a pass considers. -/
def Adm.fresh (p : Nat) (a : Adm) : List Job := a.jobs.filter (fun j => j.part == p && j.stage == .fresh)

/-- Frames a command waits beyond the next pass by R92 with the mean pool grant of the last 16 passes added to g; none
without income (R95). -/
def waitFrames (b : Int) (ahead g : Nat) (grants : List Nat) : Option Nat :=
  let rate := 16 * g + grants.foldl (· + ·) 0
  if (ahead : Int) < b then some 0
  else if rate = 0 then none
  else some ((16 * ((ahead : Int) - b)).toNat / rate + 1)

/-- All ones in 48 bits. -/
def ones48 : Nat := 2 ^ 48 - 1

/-- The estimated frame of a command of partition p in the pass of frame f (R95): `b` is the balance after the refill and
`ahead` the cost ahead of it. -/
def State.estimated (p : Nat) (f : FrameNo) (b : Int) (ahead : Nat) (s : State) : Nat :=
  match waitFrames b ahead (s.admp p).g.toNat (s.admp p).grants with
  | some n => (f + BitVec.ofNat 48 (1 + n)).toNat
  | none => ones48

/-- Words of a DEFERRED record or of a REFUSED record with reason OVERLOAD (R95). `pos` is 0 outside the list. -/
def overloadWords (p pos est : Nat) (s : State) : List W64 :=
  let a := s.admp p
  [word [(0, pos), (16, (s.adm.deferral p).length)], word [(0, est)], word [(0, (ofInt 48 a.b).toNat)],
    word [(0, (ofInt 48 s.adm.q).toNat)], word [(0, a.overloads.toNat)]]

/-- The partition is in a state that admits (Table 13-2). -/
def PState.admits (st : PState) : Bool := st = .created || st = .running || st = .fenced

/-! ### The pass (R91) -/

/-- Refill of partition p and what spills into the pool; new rates take effect here (R105). -/
def Adm.refill (p : Nat) (a : Adm) : Adm :=
  let x := a.parts.get {} p
  let d : Int := depthOf x.g.toNat
  let b := x.b + x.g.toNat
  if d < b then { a with parts := a.parts.put p { x with b := d }, q := a.q + (b - d) }
  else { a with parts := a.parts.put p { x with b := b } }

/-- Changes of A, g and w that take effect at this pass, with the balances clamped to the new depths (R105). -/
def Adm.takeChanges (a : Adm) : Adm :=
  let a := { a with a := a.nextA.getD a.a, nextA := none }
  let a := { a with
    parts := a.parts.mapRow {} 16 (fun _ x =>
    match x.next with
    | some (g, w) => { x with g := g, w := w, next := none, b := min x.b (depthOf g.toNat) }
    | none => x) }
  { a with q := min a.q (depthOf (a.a.toNat - a.sumG)) }

/-- The pending commands of partition p: its deferral list, then its new commands in ring order. -/
def Adm.pend (p : Nat) (a : Adm) : List Job := a.deferral p ++ a.fresh p

/-- Admits the head of partition p's pending commands at frame f + 1. -/
def Adm.admitHead (p : Nat) (f : FrameNo) (a : Adm) : Adm :=
  match a.pend p with
  | [] => a
  | j :: _ =>
    let j' := { j with
      stage := .admitted, admFrame := some (f + 1), admSeq := a.nextSeq
      deferredFrames := match j.firstDeferred with
        | some d => framesSince f d
        | none => 0 }
    { a with
      jobs := a.jobs.map (fun x => if x.cmd.uid == j.cmd.uid then j' else x)
      nextSeq := a.nextSeq + 1
      parts := a.parts.upd {} p (fun x => { x with b := x.b - j.cost }) }

/-- Admits heads while the balance is positive. -/
def Adm.admitLoop (p : Nat) (f : FrameNo) : Nat → Adm → Adm
  | 0, a => a
  | n + 1, a =>
    if (a.pend p).isEmpty || (a.parts.get {} p).b ≤ 0 then a else Adm.admitLoop p f n (a.admitHead p f)

/-- Admits what partition p's balance allows. -/
def Adm.admitAll (p : Nat) (f : FrameNo) (a : Adm) : Adm := a.admitLoop p f a.jobs.length

/-- One round of pool grants (R91). -/
def Adm.poolRound (f : FrameNo) (live : List Nat) (a : Adm) : Adm :=
  let needy := live.filter (fun p => !(a.pend p).isEmpty)
  let q0 := a.q
  let sumW := (needy.map (fun p => (a.parts.get {} p).w.toNat)).foldl (· + ·) 0
  needy.foldl (fun a p =>
    let w := (a.parts.get {} p).w.toNat
    let grant : Nat := if sumW = 0 then 0 else (q0.toNat * w) / sumW
    let a := { a with
      q := a.q - grant
      parts := a.parts.upd {} p (fun x => { x with
        b := x.b + grant
        grants := match x.grants with
          | g :: t => (g + grant) :: t
          | [] => [grant] }) }
    let a := a.admitAll p f
    let x : AdmPart := a.parts.get {} p
    if (a.pend p).isEmpty && decide (0 < x.b) then { a with q := a.q + x.b, parts := a.parts.put p { x with b := 0 } } else a) a

/-- At most 4 rounds while the pool is positive and something is pending. -/
def Adm.poolRounds (f : FrameNo) (live : List Nat) : Nat → Adm → Adm
  | 0, a => a
  | n + 1, a =>
    if 0 < a.q && live.any (fun p => !(a.pend p).isEmpty) then Adm.poolRounds f live n (a.poolRound f live) else a

/-- A partition outside CREATED, RUNNING and FENCED at a pass: its commands not yet admitted end REFUSED, and its balance
is 0 (R93). -/
def State.purge (p : Nat) (s : State) : State :=
  let js := s.adm.jobs.filter (fun j => j.part == p && j.stage != .admitted)
  let s := s.updAdmp p (fun x => { x with b := 0 })
  js.foldl (fun s j => s.endJob (j.endIn s.frm.count) .refused .partitionDown) s

/-- The power check of each new command: a declared peak above the larger per-die load is REFUSED (R94). -/
def State.powerCheck (p : Nat) (s : State) : State :=
  (s.adm.fresh p).foldl (fun s j =>
    if max (s.pwrp p).loadW (s.pwrp p).loadE < j.peak then
      (s.updAdmp p (fun x => { x with quotaPower := satAdd x.quotaPower 1 })).endJob j .refused .power
    else s) s

/-- Sum of the costs of some jobs. -/
def costOf (js : List Job) : Nat := (js.map (·.cost)).foldl (· + ·) 0

/-- A job ends REFUSED with reason OVERLOAD (R91, R95). -/
def State.refuseOverload (p est : Nat) (j : Job) (s : State) : State :=
  let s := s.updAdmp p (fun x => { x with overloads := satAdd x.overloads 1 })
  let s := s.finish j.cmd .refused .overload (overloadWords p 0 est s)
  (s.dropJob j.cmd.uid).finishAll j.aborters .notActive .alreadyEnded []

/-- After the rounds: NO_DEFER commands and those beyond 256 are refused, the other new ones are deferred with a record
(R91, R95). `b` is the balance after the refill and `done` the cost that this pass has admitted; the list length that the
records name is the one the pass leaves. -/
def State.settlePending (p : Nat) (b : Int) (done : Nat) (s : State) : State :=
  let f := s.frm.count
  let nd := (s.adm.fresh p).filter (·.noDefer)
  let ids := (((s.adm.fresh p).filter (fun j => !j.noDefer)).take (256 - (s.adm.deferral p).length)).map (·.cmd.uid)
  let s := s.updAdm (fun a => { a with
    jobs := a.jobs.map (fun x => if ids.contains x.cmd.uid then { x with stage := .deferred, firstDeferred := some f } else x) })
  let list := s.adm.deferral p
  let last := done + costOf list
  let s := nd.foldl (fun s j => s.refuseOverload p (s.estimated p f b last) j) s
  let s := (list.filter (fun j => ids.contains j.cmd.uid)).foldl (fun s j =>
    let ahead := list.takeWhile (fun x => x.cmd.uid != j.cmd.uid)
    s.stage j.cmd .deferred .overload
      (overloadWords p (ahead.length + 1) (s.estimated p f b (done + costOf ahead)) s) false) s
  (s.adm.fresh p).foldl (fun s j => s.refuseOverload p (s.estimated p f b last) j) s

/-- The admission pass of frame f (R91). Where a kill is under way in the same slack, nothing orders the pass and the kill's
completion: each is a row of its own, and where the pass comes first it still admits the commands of a KILLING context
(DESIGN CHOICE, log entry 109). -/
def State.admissionPass (s : State) : State :=
  let f := s.frm.count
  let s := s.updAdm Adm.takeChanges
  let live := (List.range 16).filter (fun p => (s.part p).state.admits)
  let s := ((List.range 16).filter (fun p => !live.contains p)).foldl (fun s p => s.purge p) s
  let s := live.foldl (fun s p => s.updAdm (fun a => a.refill p)) s
  let s := s.updAdm (fun a => { a with
    q := min (a.q + ((a.a.toNat : Int) - a.sumG)) (depthOf (a.a.toNat - a.sumG))
    parts := a.parts.mapRow {} 16 (fun _ x => { x with grants := (0 :: x.grants).take 16 }) })
  let s := live.foldl (fun s p => s.powerCheck p) s
  let before := s.adm.jobs
  let refilled := live.map (fun p => (p, (s.admp p).b))
  let s := s.updAdm (fun a => live.foldl (fun a p => a.admitAll p f) a)
  let s := s.updAdm (fun a => a.poolRounds f live 4)
  let new := before.filter (fun j => j.stage != .admitted &&
    s.adm.jobs.any (fun x => x.cmd.uid == j.cmd.uid && x.stage == .admitted))
  let s := new.foldl (fun s j => if j.cmd.admitAck || j.stage == .deferred then
      s.stage j.cmd .admitted .none [word [(0, (f + 1).toNat)]] false
    else s) s
  refilled.foldl (fun s x => s.settlePending x.1 x.2 (costOf (new.filter (fun j => j.part == x.1)))) s

/-! ### JOB.ABORT, JOB.QUERY, ADM.SET, ADM.QUERY, DEV.INFO (R105) -/

/-- The ticket a JOB command names on its mailbox. -/
def State.ticketOf (m : Nat) (t : BitVec 32) (s : State) : Option Ticket :=
  ((s.mb m).tickets.filter (fun x => x.cmd.ticket == t)).head?

/-- JOB.ABORT (R97, R98). -/
def jobAbortBody (c : CmdId) (_ : Nat) (e : Entry) (s : State) : State × Reply :=
  match s.ticketOf c.mbx (BitVec.ofNat 32 (fld (e.arg 0) 0 32)) with
  | none => (s, .fail .notActive .unknownTicket [])
  | some t =>
    if t.cmd.opcode != opcodeOf 3 1 && !s.adm.held.any (fun h => h.1.uid == t.cmd.uid) then (s, .bad .notPermitted)
    else if t.ended then (s, .fail .notActive .alreadyEnded [])
    else match s.adm.jobs.find? (fun j => j.cmd.uid == t.cmd.uid) with
    | none =>
      if s.adm.held.any (fun h => h.1.uid == t.cmd.uid) then
        let s := s.updAdm (fun a => { a with held := a.held.filter (fun h => h.1.uid != t.cmd.uid) })
        (s.finish t.cmd .aborted .hostAbort [], .done [])
      else (s, .bad .notPermitted)
    | some j =>
      if j.stage != .admitted then
        (s.endJob { j.endIn s.frm.count with ending := some .hostAbort } .aborted .hostAbort, .done [])
      else if j.ending.isSome then
        (s.updAdm (fun a => { a with
          jobs := a.jobs.map (fun x => if x.cmd.uid == j.cmd.uid then
          { x with aborters := x.aborters ++ [c] } else x) }), .later)
      else if (s.ctx j.part j.cmd.ctx.toNat).state != .live then (s, .fail .notActive .alreadyEnded [])
      else
        let s := s.updAdm (fun a => { a with
          jobs := a.jobs.map (fun x => if x.cmd.uid == j.cmd.uid then
          { x with aborters := [c] } else x) })
        ((s.decideJob j.cmd.uid .hostAbort).endIfDrained j.cmd.uid, .later)

/-- JOB.ABORT. -/
def specJobAbort : Spec where
  opcode := opcodeOf 3 2
  permitted := vfOnly
  allowed := fun _ _ => [maskOf 64 [(0, 32)]]
  part := ownPart
  cls := .k
  body := jobAbortBody

/-- Position of a job in its partition's deferral list, 0 when not in it. -/
def State.deferPos (j : Job) (s : State) : Nat :=
  if j.stage == .deferred then ((s.adm.deferral j.part).takeWhile (fun x => x.cmd.uid != j.cmd.uid)).length + 1 else 0

/-- The estimated admission frame of a command in the deferral list at the next pass (Table 3-9). -/
def State.nextEstimate (j : Job) (s : State) : Nat :=
  let a := s.admp j.part
  let b := min (a.b + a.g.toNat) (depthOf a.g.toNat)
  let ahead := (((s.adm.deferral j.part).takeWhile (fun x => x.cmd.uid != j.cmd.uid)).map (·.cost)).foldl (· + ·) 0
  let f := if s.frm.phase = .slack then s.frm.count + 1 else s.frm.count
  s.estimated j.part f b ahead

/-- The admission frame that a staged outcome record of a job names, 0 for a job never admitted (R96). -/
def Record.admissionFrame (r : Record) : W64 :=
  if r.final && r.cmd.opcode == opcodeOf 3 1 && r.oc != .badCommand && r.reason != .overload then r.words.getD 0 0 else 0

/-- JOB.QUERY (Table 3-9). A ticket of another command that is neither held nor ended reads state 2 (log entry 15). -/
def jobQueryWords (m : Nat) (a : W64) (s : State) : List W64 :=
  match s.ticketOf m (BitVec.ofNat 32 (fld a 0 32)) with
  | none => [0, 0, 0]
  | some t =>
    if t.ended then
      [5, 0, (((s.mb m).staged.find? (fun r => r.final && r.cmd.uid == t.cmd.uid)).map (·.admissionFrame)).getD 0]
    else match s.adm.jobs.find? (fun j => j.cmd.uid == t.cmd.uid) with
    | none => [if s.adm.held.any (fun h => h.1.uid == t.cmd.uid) then 1 else 2, 0, 0]
    | some j =>
      let st := if j.stage != .admitted then 1
        else if j.ending.isSome then 4
        else if j.base = 0 && j.issued.isEmpty then 2
        else 3
      [word [(0, st), (16, s.deferPos j)], if j.stage == .deferred then word [(0, s.nextEstimate j)] else 0,
        word [(0, (j.admFrame.getD 0).toNat)]]

/-- JOB.QUERY. -/
def specJobQuery : Spec where
  opcode := opcodeOf 3 3
  permitted := vfOnly
  allowed := fun _ _ => [maskOf 64 [(0, 32)]]
  part := ownPart
  cls := .q
  body := fun c _ e s => (s, .done (jobQueryWords c.mbx (e.arg 0) s))

/-- The sum of g that would stand after partition p took g. -/
def Adm.sumWith (p g : Nat) (a : Adm) : Nat :=
  ((List.range 16).map (fun q =>
    let x := a.parts.get {} q
    if q = p then g else match x.next with
      | some (n, _) => n.toNat
      | none => x.g.toNat)).foldl (· + ·) 0

/-- ADM.SET in range (R90, Table 3-9): A from 1 to 64 AU and not below the sum of g; weight 1 to 255 and the sum of g
within A. Where changes wait for the next pass, the spec does not say which values the checks use; the model uses those
that the next pass will put in force (DESIGN CHOICE, log entry 110). -/
def admSetRange (a : List W64) (s : State) : Bool :=
  let w0 := a.getD 0 0
  let rate := s.adm.nextA.getD s.adm.a
  if bit w0 8 then
    let n := fld (a.getD 1 0) 0 16
    decide (256 ≤ n) && decide (n ≤ 64 * 256) && decide (s.adm.sumWith 16 0 ≤ n)
  else
    decide (1 ≤ fld w0 32 8) && decide (s.adm.sumWith (fld w0 0 4) (fld w0 16 16) ≤ rate.toNat)

/-- What ADM.SET does. -/
def admSetBody (_ : CmdId) (p : Nat) (e : Entry) (s : State) : State × Reply :=
  if bit (e.arg 0) 8 then (s.updAdm (fun a => { a with nextA := some (BitVec.ofNat 16 (fld (e.arg 1) 0 16)) }), .done [])
  else (s.updAdmp p (fun x => { x with
    next := some (BitVec.ofNat 16 (fld (e.arg 0) 16 16), BitVec.ofNat 8 (fld (e.arg 0) 32 8)) }), .done [])

/-- ADM.SET. -/
def specAdmSet : Spec where
  opcode := opcodeOf 4 1
  permitted := pfOnly
  allowed := fun _ _ => [maskOf 64 [(0, 4), (8, 1), (16, 16), (32, 8)], maskOf 64 [(0, 16)]]
  inRange := fun _ a s => admSetRange a s
  part := fun _ a => if bit (a.getD 0 0) 8 then none else some (fld (a.getD 0 0) 0 4)
  cls := .k
  body := admSetBody

/-- The partition a query names: W0 [3:0] on PF0, the VF's own otherwise. -/
def namedOrOwn (m : Nat) (a : List W64) : Option Nat :=
  if vfOnly m then some (m - 1) else some (fld (a.getD 0 0) 0 4)

/-- What ADM.QUERY does. -/
def admQueryBody (_ : CmdId) (p : Nat) (_ : Entry) (s : State) : State × Reply :=
  let x := s.admp p
  (s, .done [word [(0, (ofInt 48 x.b).toNat)], word [(0, (ofInt 48 s.adm.q).toNat)],
    word [(0, (s.adm.deferral p).length), (16, x.g.toNat), (32, x.w.toNat)], word [(0, x.overloads.toNat)],
    word [(0, x.quotaPower.toNat)]])

/-- ADM.QUERY. -/
def specAdmQuery : Spec where
  opcode := opcodeOf 4 2
  permitted := anyHost
  allowed := fun m _ => if pfOnly m then [0xF] else []
  part := namedOrOwn
  cls := .q
  body := admQueryBody

/-- DEV.INFO words (Table 3-9). -/
def devInfoWords (m : Nat) (s : State) : List W64 :=
  let vf := vfOnly m
  [word [(0, s.mgt.running.level.toNat), (8, s.mgt.running.major.toNat), (16, s.mgt.running.minor.toNat), (24, b2n (s.fuse.grade = .vla112)),
      (32, if vf then m else 0), (40, if vf then m - 1 else 0xFF), (48, s.self)],
    s.fuse.serial, word [(0, s.pcie.width.toNat), (5, s.pcie.speed.toNat)],
    word [(0, 4096), (16, 8192), (32, 256), (48, ticketLimit m)],
    word [(0, if vf then (s.part (m - 1)).state.code else 0)]]

/-- DEV.INFO. -/
def specDevInfo : Spec where
  opcode := opcodeOf 1 1
  permitted := fun m => decide (m ≤ 17)
  allowed := fun _ _ => []
  part := ownPart
  cls := .q
  body := fun c _ _ s => (s, .done (devInfoWords c.mbx s))

/-! ### Meanings of the rows -/

/-- DEV_INFO (R105). -/
def execDevInfo (m : Fin 18) (e : Entry) (s : State) : Host.Outcome State Fault Refusal :=
  .next (serve specDevInfo m.val e s)

/-- JOB_ABORT (R97). -/
def execJobAbort (m : Fin 18) (e : Entry) (s : State) : Host.Outcome State Fault Refusal :=
  .next (serve specJobAbort m.val e s)

/-- JOB_QUERY (R105). -/
def execJobQuery (m : Fin 18) (e : Entry) (s : State) : Host.Outcome State Fault Refusal :=
  .next (serve specJobQuery m.val e s)

/-- ADM_SET (R105). -/
def execAdmSet (m : Fin 18) (e : Entry) (s : State) : Host.Outcome State Fault Refusal :=
  .next (serve specAdmSet m.val e s)

/-- ADM_QUERY (R105). -/
def execAdmQuery (m : Fin 18) (e : Entry) (s : State) : Host.Outcome State Fault Refusal :=
  .next (serve specAdmQuery m.val e s)

end Sys2Proof.Machine
end

