-- ==== Sys2Proof/Machine/Check.lean ====
section
/-! DEFINITION. The static descriptor checks (R137, R138, Table 5-3) with the field lists and limits of every kind: Tables
5-5 and 5-5a, 6-1 and 6-3, 8-8 and 8-9, R182, R258, R283, R287; and JOB.SUBMIT, BOUND.SET and BOUND.GET (R161). Bounds
that must be immediate 1 and the alignments of chapters 6, 8 and 10 are checked with the limits of the kind's chapter,
KEEP_IN and unlisted fields as reserved (log entry 22). -/

namespace Sys2Proof.Machine

/-- A field of the descriptor: lowest bit and width. -/
abbrev FieldPos := Nat × Nat

/-- Fields every kind uses: KIND, FRAME_BOUND, ORDERED, TILLER, ENERGY_HINT, KEEP_IN (R137), VARIANT, whose values are
checked apart, and the bounds (R139). -/
def commonFields : List FieldPos :=
  [(0, 8), (8, 4), (12, 2), (32, 7), (64, 24), (138, 1), (640, 32), (672, 32), (704, 32), (736, 32)]

/-- BOUND_ADDR: a field of the tile multiply, the fused one and the copies that have a free bound (Table 5-5a, R287). The
tables of the other kinds do not list it, so it must be 0 there (R137, R162, R182, R224, R258, R283). -/
def fBoundAddr : FieldPos := (768, 52)
/-- The fields of operand A with its handle bit. -/
def fieldsA : List FieldPos := [(192, 53), (448, 32), (832, 32)]
/-- The fields of operand B. -/
def fieldsB : List FieldPos := [(256, 53), (480, 32), (864, 32)]
/-- The fields of operand C. -/
def fieldsC : List FieldPos := [(320, 53), (512, 32), (896, 32)]
/-- The fields of operand D. -/
def fieldsD : List FieldPos := [(384, 52), (544, 32), (928, 32)]
/-- IN0, IN1, OUT and FREE. -/
def fIn0 : FieldPos := (96, 10)
/-- IN1. -/
def fIn1 : FieldPos := (106, 10)
/-- OUT. -/
def fOut : FieldPos := (116, 10)
/-- FREE. -/
def fFree : FieldPos := (128, 10)
/-- TM and TN. -/
def fieldsTmTn : List FieldPos := [(576, 32)]

/-- The fields a tile multiply uses (Table 5-5a). -/
def multiplyFields : List FieldPos :=
  fieldsA ++ fieldsB ++ fieldsC ++
    [(14, 1), (16, 3), (20, 6), (576, 48), fIn0, fIn1, fOut, fFree, fBoundAddr]

/-- The fields a kind and variant uses beside the common ones; none for a reserved kind or variant. -/
def kindFields (kind v : Nat) : Option (List FieldPos) :=
  match kind with
  | 0x01 => if v = 0 then some multiplyFields else none
  | 0x02 =>
    if v = 8 then some [(192, 52), (320, 52), (512, 32), (384, 52)]
    else if v < 8 then some ([(192, 52), (448, 32), (832, 32), (320, 52), (512, 32), (896, 32), (14, 1), (16, 3), (20, 6),
        (576, 48), fIn0, fIn1, fOut, fFree, (960, 52)] ++ fieldsB ++ fieldsD)
    else none
  | 0x03 =>
    if v % 4 < 3 then some ([(192, 52), (448, 32), (832, 32), (320, 52), (512, 32), (896, 32), (14, 1), (16, 3), (20, 6),
        (576, 48), fIn0, fIn1, fOut, fFree, (960, 52)] ++ fieldsB ++ fieldsD)
    else none
  | 0x04 =>
    if v < 4 then some (fieldsA ++ (if v = 1 || v = 2 then (22, 2) :: fieldsB else []) ++ fieldsC ++
        [(20, 2), (24, 2), fIn0, fIn1, fOut, fFree, (960, 5), (968, 1), (992, 32)] ++ fieldsTmTn)
    else none
  | 0x05 => if v = 0 then some (fieldsA ++ fieldsTmTn ++ [fIn0, (960, 58)]) else none
  | 0x06 =>
    if v < 2 then some (fieldsC ++ fieldsTmTn ++ [fOut, fFree, (960, 58)] ++ (if v = 1 then [fIn1] else []))
    else none
  | 0x07 =>
    if v = 0 then some [(192, 52), (320, 52), (384, 52), (960, 4), (992, 32)] else none
  | 0x08 => if v = 0 then some (multiplyFields ++ fieldsD ++ [(960, 4), (968, 22), (992, 32)]) else none
  | 0x09 =>
    if v = 0 then some ([(192, 52), (448, 32), (832, 32), (960, 58)] ++ fieldsTmTn)
    else if v = 1 then some ([(320, 52), (512, 32), (896, 32), (960, 58)] ++ fieldsTmTn)
    else none
  | 0x0A =>
    match v with
    | 0 => some (fieldsA ++ fieldsC ++ fieldsTmTn ++ [fIn0, fOut, fFree, fBoundAddr])
    | 1 => some [(192, 52), fOut, fBoundAddr]
    | 2 => some [(192, 52), (960, 6)]
    | 3 => some (fieldsC ++ fieldsTmTn ++ [(24, 2), fOut, fFree, fBoundAddr])
    | _ => none
  | 0x0B => if v = 0 then some [] else none
  | _ => none

/-- The operation pops input handles: IN0 or IN1 in use as an input queue (R151, R258). -/
def Desc.popsInputs (d : Desc) : Bool :=
  if d.kind = 6 then false else qUse (d.in0) || qUse (d.in1)

/-- The lowest descriptor word with a bit outside the mask. -/
def firstWord (d mask : Desc) : Option Nat :=
  (List.range 16).find? (fun k => fld (d &&& ~~~mask) (64 * k) 64 != 0)

/-- A check that failed at a word. -/
def failAt (b : Bool) (w : Nat) : List Nat := if b then [w] else []

/-- The row of reserved values and reserved bits: words that fail it. -/
def reservedRow (d : Desc) : List Nat :=
  match kindFields (d.kind) (d.variant) with
  | none => [0]
  | some fs =>
    (firstWord d (maskOf 1024 (commonFields ++ fs))).toList ++ failAt (decide (6 ≤ d.loopOrder)) 0 ++
      failAt (d.keepIn && !d.popsInputs) 2 ++
      (List.range 4).flatMap (fun i => failAt (boundBad (d.bound i)) (10 + i / 2))

/-- FRAME_BOUND as Table 5-1 permits, a sort 0 (Table 6-3). -/
def frameBoundRow (d : Desc) : List Nat :=
  if d.kind = 2 && d.variant = 8 then failAt d.frameBound 0
  else match frameBoundRule (d.kind) with
    | some b => failAt (d.frameBound != b) 0
    | none => []

/-- Bounds M, N, K, H (0 to 3) that are not coded immediate 1. -/
def notOne (d : Desc) (is : List Nat) : List Nat := is.flatMap (fun i => failAt (!boundIsOne (d.bound i)) (10 + i / 2))

/-- A number is not a multiple of `k` within bounds. -/
def outside (x k lo hi : Nat) : Bool := x % k != 0 || decide (x < lo) || decide (hi < x)

/-- The formats of two operands: both FP8 or both BF16 (Tables 5-5, 6-3). -/
def fmtPairBad (a b : Nat) : Bool := !((decide (a < 2) && decide (b < 2)) || (a = 2 && b = 2))

/-- The limits of a tile multiply (Table 5-5). -/
def multiplyLimits (d : Desc) : List Nat :=
  failAt (fmtPairBad (d.fmtA) (d.fmtB)) 0 ++ failAt (decide (2 ≤ d.loopOrder) && (d.fmtC != 3 || d.handleC)) 0 ++
    failAt (outside (d.tm) 4 4 256 || outside (d.tn) 32 32 2048 || decide (64 < d.tm / 4 * (d.tn / 32)) ||
      outside (d.tk) 1 1 (if d.fmtA = 2 then 128 else 256)) 9

/-- Addresses, strides and outer strides of the operands named (A 0, B 1, C 2) off a multiple of `k`. -/
def alignRow (d : Desc) (k : Nat) (ops : List Nat) : List Nat :=
  let addr (o : Nat) : Nat := if o = 0 then d.addrA else if o = 1 then d.addrB else if o = 2 then d.addrC else d.addrD
  ops.flatMap (fun o => failAt (addr o % k != 0) (3 + o) ++ failAt (fld d (448 + 32 * o) 32 % k != 0) (7 + o / 2) ++
    failAt (fld d (832 + 32 * o) 32 % k != 0) (13 + o / 2))

/-- The limits of an attention kind (Tables 6-1, 6-3). -/
def attentionLimits (d : Desc) : List Nat :=
  let fwd := d.kind = 2
  let dkv := d.kind = 3 && d.variant % 4 = 1
  let fp8 := decide (d.fmtA < 2)
  let dmax := if fwd then (if fp8 then 256 else 128) else if fp8 then 128 else 64
  failAt (fmtPairBad (d.fmtA) (d.fmtB)) 0 ++ failAt (d.loopOrder != 1) 0 ++
    failAt (!(fwd && bit (BitVec.ofNat 4 (d.variant)) 0) && d.fmtC != 3) 0 ++
    failAt (outside (d.tk) 32 32 dmax) 9 ++
    failAt (if dkv then outside (d.tm) 32 32 2048 || outside (d.tn) 4 4 256
      else outside (d.tm) 4 4 256 || outside (d.tn) 32 32 2048) 9 ++
    notOne d [2] ++ failAt (qUse (d.in0) || qUse (d.out)) 1 ++ failAt (qUse (d.free)) 2 ++
    failAt (!d.handleB && qUse (d.in1)) 1 ++ alignRow d 32 [0, 1, 2] ++
    failAt (outside (d.strideD) 8 8 (2 ^ 32)) 8 ++ failAt (d.addrD % 8 != 0) 6 ++ failAt (d.hstrideD % 8 != 0) 14 ++
    failAt (d.kind = 3 && d.variant % 4 = 0 && d.addrC != 0) 5 ++
    failAt (d.kind = 3 && d.variant % 4 = 0 && d.strideC != 0) 8 ++
    failAt (d.kind = 3 && d.variant % 4 = 0 && d.hstrideC != 0) 14 ++ failAt (d.param % 2 ^ 52 % 64 != 0) 15

/-- The limits of the special-function pass (Tables 8-8, 8-9). -/
def sfuLimits (d : Desc) : List Nat :=
  let pre := fld d 992 32
  failAt (outside (d.tm) 1 1 256 || outside (d.tn) 64 64 4096 || decide (65536 < d.tm * d.tn)) 9 ++ notOne d [2] ++
    alignRow d 64 (if d.variant = 1 || d.variant = 2 then [0, 1, 2] else [0, 2]) ++
    failAt (decide (24 ≤ d.param % 32)) 15 ++
    failAt (if bit d 968 then pre / 2 ^ 23 % 256 = 255 else pre != 0) 15

/-- The limits of the kind's chapter: words that fail them. -/
def limitsRow (d : Desc) : List Nat :=
  match d.kind with
  | 0x01 => multiplyLimits d
  | 0x02 =>
    if d.variant = 8 then
      notOne d [1, 2, 3] ++ failAt (d.addrA % 32 != 0) 3 ++ failAt (d.addrC % 32 != 0) 5 ++
        failAt (d.strideC % 32 != 0) 8 ++ failAt (d.addrD % 8 != 0) 6
    else attentionLimits d
  | 0x03 => attentionLimits d
  | 0x04 => sfuLimits d
  | 0x05 | 0x06 | 0x09 => failAt (d.tn % 64 != 0) 9 ++ notOne d [1, 2]
  | 0x07 =>
    notOne d [1, 2, 3] ++ failAt (d.addrA % 64 != 0) 3 ++ failAt (d.addrC % 64 != 0) 5 ++ failAt (d.addrD % 64 != 0) 6
  | 0x08 =>
    multiplyLimits d ++ failAt (d.fmtC != 3 || decide (2 ≤ d.loopOrder)) 0 ++ failAt d.handleC 5 ++
      failAt (fld d 968 22 % 65536 != 0) 15
  | 0x0A =>
    if d.variant = 0 || d.variant = 3 then failAt (d.tn % 64 != 0) 9 ++ notOne d [1, 2]
    else if d.variant = 1 then notOne d [1, 2, 3] else notOne d [0, 1, 2, 3]
  | _ => notOne d [0, 1, 2, 3]

/-- The alignment row: operands of a tile multiply, a fused one, a data copy or a zero fill; ADDR_A of the loads. -/
def alignmentRow (d : Desc) : List Nat :=
  match d.kind with
  | 0x01 => alignRow d 64 [0, 1, 2]
  | 0x08 => alignRow d 64 [0, 1, 2, 3]
  | 0x0A =>
    match d.variant with
    | 0 => alignRow d 64 [0, 2]
    | 1 => failAt (d.addrA % 16 != 0) 3
    | 2 => failAt (d.addrA % 8 != 0) 3
    | _ => alignRow d 64 [2]
  | _ => []

/-- TILLER or a queue in use outside partition p (R150). -/
def handleRow (p : Nat) (d : Desc) (s : State) : List Nat :=
  let bad (q : Nat) : Bool := qUse q && s.rowOwner (qRow q) != some p
  failAt (s.rowOwner (tillerRow (d.tiller)) != some p) 0 ++ failAt (bad (d.in0) || bad (d.in1) || bad (d.out)) 1 ++
    failAt (bad (d.free)) 2

/-- The least of a list of words. -/
def leastWord : List Nat → Option Nat
  | [] => none
  | w :: ws => some (ws.foldl min w)

/-- The first failing row's reason and lowest failing word (R138, Table 5-3). -/
def firstFailure : List (Reason × List Nat) → Option (Reason × Nat)
  | [] => none
  | (rs, ws) :: t =>
    match leastWord ws with
    | some w => some (rs, w)
    | none => firstFailure t

/-- The static checks of one descriptor of partition p under a declared peak. -/
def staticCheck (p peak : Nat) (d : Desc) (s : State) : Option (Reason × Nat) :=
  firstFailure [(.outOfRange, reservedRow d), (.outOfRange, frameBoundRow d), (.outOfRange, limitsRow d),
    (.outOfRange, alignmentRow d), (.outOfRange, failAt (decide (peak < d.hint)) 1), (.badHandle, handleRow p d s)]

/-! ### The checks of a job's list (R138) -/

/-- The descriptor at index i of a list, read with the context's tag. -/
def State.readDesc (p c list i : Nat) (s : State) : Option Desc :=
  (s.readArg p c (list + 128 * i) 128).map (fun bs => BitVec.ofNat 1024 (ofBytesLE bs))

/-- How the checks of a list went: a failure at an index and word, all passed, or stopped at an index by the frame's
limit. -/
inductive Checked where
  | failed (rs : Reason) (index word : Nat)
  | passed
  | stopped (next : Nat)
  deriving DecidableEq, Repr

/-- Checks descriptors i, i + 1, … of a list, at most `fuel` of them. -/
def State.checkList (p c list count peak : Nat) (s : State) : Nat → Nat → Checked
  | 0, i => if count ≤ i then .passed else .stopped i
  | fuel + 1, i =>
    if count ≤ i then .passed
    else match s.readDesc p c list i with
      | none => .failed .argFault i 0
      | some d =>
        match staticCheck p peak d s with
        | some (rs, w) => .failed rs i w
        | none => State.checkList p c list count peak s fuel (i + 1)

/-- Result words of a descriptor failure (R96, R138). -/
def checkWords (i w : Nat) : List W64 := [word [(0, i % 2 ^ 16), (16, w)], 0, 0, 0, 0]

/-- Descriptors one mailbox has checked in a frame after checking up to `next` from `i`. -/
def countChecked (m i next : Nat) (s : State) : State :=
  s.updMb m (fun b => { b with checked := b.checked + (next - i) })

/-- The ticket limit at a job (step 8 of R88): its ticket has as many before it as the mailbox may hold. -/
def Mailbox.overLimit (m uid : Nat) (b : Mailbox) : Bool :=
  decide (ticketLimit m ≤ (b.tickets.takeWhile (fun t => t.cmd.uid != uid)).length)

/-- A job has passed its descriptor checks: the ticket limit follows (R88), then admission. -/
def State.checkedJob (j : Job) (s : State) : State :=
  if (s.mb j.cmd.mbx).overLimit j.cmd.mbx j.cmd.uid then
    (((s.countQuota j.cmd.mbx).finish j.cmd .refused .quota (noJobWords s)).dropJob j.cmd.uid).finishAll j.aborters
      .notActive .alreadyEnded []
  else s.updAdm (fun a => { a with
    jobs := a.jobs.map (fun x => if x.cmd.uid == j.cmd.uid then { x with stage := .fresh } else x) })

/-- The descriptors i to n − 1 of a job's list have been read. -/
def State.readList (j : Job) (i n : Nat) (s : State) : State :=
  s.argRead j.part j.cmd.ctx.toNat (j.list.toNat + 128 * i) (128 * (n - i))

/-- Goes on with a job's checks within the mailbox's share of the frame. -/
def State.checkJob (j : Job) (s : State) : State :=
  match j.stage with
  | .checking i =>
    let fuel := 8192 - (s.mb j.cmd.mbx).checked
    match s.checkList j.part j.cmd.ctx.toNat j.list.toNat j.count j.peak fuel i with
    | .passed => (countChecked j.cmd.mbx i j.count (s.readList j i j.count)).checkedJob j
    | .stopped n =>
      (countChecked j.cmd.mbx i n (s.readList j i n)).updAdm (fun a => { a with
        jobs := a.jobs.map (fun x => if x.cmd.uid == j.cmd.uid then { x with stage := .checking n } else x) })
    | .failed rs n w =>
      let s := countChecked j.cmd.mbx i (n + 1) (s.readList j i (n + 1))
      ((s.finish j.cmd .badCommand rs (checkWords n w)).dropJob j.cmd.uid).finishAll j.aborters .notActive .alreadyEnded []
  | _ => s

/-- A new frame's share of checks: every job still checking goes on, in order (R138). -/
def State.resumeChecks (s : State) : State :=
  let js := s.adm.jobs.filter (fun j => match j.stage with
    | .checking _ => true
    | _ => false)
  js.foldl (fun s j => s.checkJob j) s

/-- JOB.SUBMIT once its fields are in range: the first share of its checks, then admission (R138, R91). -/
def jobSubmitBody (c : CmdId) (p : Nat) (e : Entry) (s : State) : State × Reply :=
  let list := fld (e.arg 0) 0 52
  let count := fld (e.arg 1) 0 17
  if list % 128 != 0 then (s, .fail .badCommand .argFault (checkWords 0 0))
  else
    let j : Job := {
      cmd := c, part := p, cost := e.cost.toNat, noDefer := e.noDefer, list := BitVec.ofNat 64 list, count := count
      peak := fld (e.arg 2) 0 24, stage := .checking 0 }
    match s.checkList p c.ctx.toNat list count j.peak (8192 - (s.mb c.mbx).checked) 0 with
    | .failed rs n w => (countChecked c.mbx 0 (n + 1) (s.readList j 0 (n + 1)), .fail .badCommand rs (checkWords n w))
    | _ => ((s.updAdm (fun a => { a with jobs := a.jobs ++ [j] })).checkJob j, .later)

/-- JOB.SUBMIT (Table 5-10). -/
def specJobSubmit : Spec where
  opcode := opcodeOf 3 1
  permitted := vfOnly
  allowed := fun _ _ => [maskOf 64 [(0, 52)], maskOf 64 [(0, 17)], maskOf 64 [(0, 24)]]
  inRange := fun _ a _ => decide (1 ≤ fld (a.getD 1 0) 0 17) && decide (fld (a.getD 1 0) 0 17 ≤ 65536)
  part := ownPart
  cls := .j
  acts := fun _ => true
  failWords := noJobWords
  body := jobSubmitBody

/-- The lowest package row of a partition. -/
def State.lowestRow (p : Nat) (s : State) : Nat := ((List.range 16).find? (fun r => bit (s.part p).rows r)).getD 0

/-! ### Bound registers (R141) -/

/-- Bound register r of partition p. -/
def State.boundReg (p r : Nat) (s : State) : W64 := s.seq.bounds.get 0 (64 * p + r)

/-- Writes bound register r of partition p. -/
def State.setBound (p r : Nat) (v : W64) (s : State) : State :=
  s.updSeq (fun q => { q with bounds := q.bounds.put (64 * p + r) v })

/-- The registers first to first + count − 1 exist and count is within 1 to `hi`. -/
def boundRange (hi : Nat) (first count : Nat) : Bool :=
  decide (1 ≤ count) && decide (count ≤ hi) && decide (first + count ≤ 64)

/-- What BOUND.SET (Table 5-10) does. -/
def boundSetBody (_ : CmdId) (p : Nat) (e : Entry) (s : State) : State × Reply :=
  ((List.range (fld (e.arg 0) 8 4)).foldl (fun s i => s.setBound p (fld (e.arg 0) 0 6 + i) (e.arg (i + 1))) s, .done [])

/-- BOUND.SET (Table 5-10). -/
def specBoundSet : Spec where
  opcode := opcodeOf 9 1
  permitted := vfOnly
  allowed := fun _ _ => maskOf 64 [(0, 6), (8, 4)] ::
    (List.range 13).map (fun _ => BitVec.allOnes 64)
  inRange := fun _ a _ => boundRange 13 (fld (a.getD 0 0) 0 6) (fld (a.getD 0 0) 8 4)
  part := ownPart
  cls := .k
  body := boundSetBody

/-- What BOUND.GET (Table 5-10) does. -/
def boundGetBody (_ : CmdId) (p : Nat) (e : Entry) (s : State) : State × Reply :=
  (s, .done ((List.range (fld (e.arg 0) 8 3)).map (fun i => s.boundReg p (fld (e.arg 0) 0 6 + i))))

/-- BOUND.GET (Table 5-10). -/
def specBoundGet : Spec where
  opcode := opcodeOf 9 2
  permitted := vfOnly
  allowed := fun _ _ => [maskOf 64 [(0, 6), (8, 3)]]
  inRange := fun _ a _ => boundRange 5 (fld (a.getD 0 0) 0 6) (fld (a.getD 0 0) 8 3)
  part := ownPart
  cls := .q
  body := boundGetBody

/-! ### Meanings of the rows -/

/-- JOB_SUBMIT (R161). -/
def execJobSubmit (m : Fin 18) (e : Entry) (s : State) : Host.Outcome State Fault Refusal :=
  .next (serve specJobSubmit m.val e s)

/-- BOUND_SET (R141). -/
def execBoundSet (m : Fin 18) (e : Entry) (s : State) : Host.Outcome State Fault Refusal :=
  .next (serve specBoundSet m.val e s)

/-- BOUND_GET (R161). -/
def execBoundGet (m : Fin 18) (e : Entry) (s : State) : Host.Outcome State Fault Refusal :=
  .next (serve specBoundGet m.val e s)

end Sys2Proof.Machine
end

