-- ==== Sys2Proof/Machine/Mem.lean ====
section
/-! DEFINITION. Shootdowns (R120), host invalidations (R121), ATS completions (R114), scrubbing (R129), the end of a kill
(step 5 of R124), and the CTX and MEM commands (R131, Table 4-12). -/

namespace Sys2Proof.Machine

open Sys2Proof

/-! ### Pages and windows of a partition -/

/-- The VPNs of partition p that are mapped. -/
def State.mappedVpns (p : Nat) (s : State) : List Nat := (List.range 512).filter (fun v => (s.dpte p v).valid)

/-- The windows of partition p that are mapped. -/
def State.mappedWins (p : Nat) (s : State) : List Nat := (List.range 256).filter (fun w => (s.hwin p w).valid)

/-- Pages partition p holds: OWNED by it. -/
def State.pagesHeld (p : Nat) (s : State) : Nat :=
  ((List.range 384).filter (fun n => (s.ownEntry n).state = .owned && (s.ownEntry n).part.toNat == p)).length

/-- Pages in an ownership state. -/
def State.pagesIn (st : OwnState) (s : State) : List Nat := (List.range 384).filter (fun n => (s.ownEntry n).state = st)

/-- The private pages (ANY = 0) of a context, as VPNs. -/
def State.privateVpns (p c : Nat) (s : State) : List Nat :=
  (s.mappedVpns p).filter (fun v => !(s.dpte p v).any && (s.dpte p v).ctx.toNat == c)

/-- The private windows of a context. -/
def State.privateWins (p c : Nat) (s : State) : List Nat :=
  (s.mappedWins p).filter (fun w => !(s.hwin p w).any && (s.hwin p w).ctx.toNat == c)

/-- The tag check of a page table entry for a caller's context (R131). -/
def Dpte.owns (t : Dpte) (c : Nat) : Bool := t.valid && (t.any || t.ctx.toNat == c)
/-- The same for a window entry. -/
def Hwin.owns (h : Hwin) (c : Nat) : Bool := h.valid && (h.any || h.ctx.toNat == c)

/-! ### Shootdowns (R120) -/

/-- Steps 2 and 3 of R120: both caches drop the entries of the VPNs and windows, and a window still filling is filled
again after the drop. -/
def State.dropEntries (p : Nat) (vpns wins : List Nat) (s : State) : State :=
  s.updXlt (fun x => { x with
    caches := x.caches.map (fun dc => (dc.1, dc.2.filter (fun e =>
      !(e.part == p && (if e.host then wins.contains e.num else vpns.contains e.num)))))
    reqs := x.reqs.filter (fun r => !(r.part == p && wins.contains r.win)) })

/-- Starts a shootdown whose new entries are already written: the drops are made, and it ends when both caches
acknowledge. -/
def State.shootdown (p : Nat) (vpns wins : List Nat) (next : ShootThen) (s : State) : State :=
  let s := s.dropEntries p vpns wins
  s.updXlt (fun x => { x with shoots := x.shoots ++ [{ id := x.nextShoot, next := next }], nextShoot := x.nextShoot + 1 })

/-- Unmaps VPNs of partition p. -/
def State.unmapVpns (p : Nat) (vpns : List Nat) (s : State) : State :=
  s.updXlt (fun x => { x with dev := vpns.foldl (fun t v => t.put (512 * p + v) {}) x.dev })

/-- Unmaps windows of partition p. -/
def State.unmapWins (p : Nat) (wins : List Nat) (s : State) : State :=
  s.updXlt (fun x => { x with win := wins.foldl (fun t w => t.put (256 * p + w) {}) x.win })

/-- A page counts as bad: UE is set, or 4,096 corrected errors have been counted since the last cold reset (R111, R456). -/
def State.pageBad (n : Nat) (s : State) : Bool := (s.ownEntry n).ue || decide (4096 ≤ (s.por.corrected.get 0 n).toNat)

/-- Released pages: QUARANTINED when bad, else SCRUBBING (R112, R129). -/
def State.releasePages (ppns : List Nat) (s : State) : State :=
  ppns.foldl (fun s n =>
    if s.pageBad n then
      (s.updXlt (fun x => { x with own := x.own.upd {} n (fun o => { o with state := .quarantined }) })).log 0x0302 [(0, n)]
    else s.updXlt (fun x => { x with
      own := x.own.upd {} n (fun o => { o with state := .scrubbing })
      scrubs := x.scrubs ++ [n] })) s

/-- PAGE_SCRUB_COMPLETE (R129): the page of its stack that is scrubbed now holds zeros with fresh ECC and is FREE. -/
def opPageScrubComplete (ppn : Fin 384) (s : State) : State :=
  let n := ppn.val
  if s.xlt.scrubs.find? (fun k => k % 8 == n % 8) = some n then
    let s := { s with dram := s.dram.filter (fun c => c.1 / 2 ^ 29 != n) }
    s.updXlt (fun x => { x with
      own := x.own.put n {}
      scrubs := x.scrubs.erase n
      ecc := x.ecc.filter (fun e => e.1 || e.2.1 * 8 / 2 ^ 29 != n) })
  else s

/-! ### Memberships (R371, R372) -/

/-- Ends this package's membership of a span and frees it here: its groups' entries and queues go with it, a planner of
a span led here drops its tables, and the index stays unused for 65,536 frames (R372). -/
def State.endMembership (id : BitVec 16) (s : State) : State :=
  match s.span? id with
  | none => s
  | some x =>
    let mine := s.red.groups.filter (fun g => g.span == id)
    let gs := mine.map (·.index)
    let s := s.finishAll (mine.flatMap (fun g => g.cmd.toList)) .badCommand .badState []
    let s := (s.finishAll x.leaveCmds .done .none []).finishAll x.cmd.toList .badCommand .badState []
    let s := { s with
      ten := { s.ten with
        spans := s.ten.spans.filter (fun y => y.id != id)
        freed := s.ten.freed.filter (fun (f : BitVec 16 × FrameNo) => f.1 != id) ++ [(id, s.frm.count)] } }
    let s := s.updRed (fun r => { r with
      groups := r.groups.filter (fun g => g.span != id)
      queues := r.queues.filter (fun q => !gs.contains q.group)
      held := r.held.filter (fun h => !gs.contains h.group)
      images := r.images.filter (fun i => !gs.contains i.group)
      leaving := r.leaving.filter (fun i => !gs.contains i.group)
      lanes := r.lanes.filter (fun l => !gs.contains (l.1 / 128))
      agreed := r.agreed.filter (fun a => !gs.contains a.1) })
    s.updPln (fun p => { p with
      leads := p.leads.filter (fun l => l.span != id)
      declared := p.declared.filter (fun d => d.span != id)
      accepted := p.accepted.filter (fun r => r.span != id)
      loaded := p.loaded.filter (fun r => r.span != id)
      toSend := p.toSend.filter (fun r => r.span != id)
      arrived := p.arrived.filter (fun a => a.span != id)
      spanHolds := p.spanHolds.filter (fun h => h.1 != id) })

/-- Ends a membership whose context is gone: the ring list closes over this package, and the members left learn it from a
re-sent active flit (R371, R372). -/
def State.quitSpan (id : BitVec 16) (s : State) : State :=
  match s.span? id with
  | none => s
  | some x =>
    let ring := x.ring.erase s.self
    let s := if x.state = .forming then s else s.sendAll ring (.spanActive id ring x.creator)
    s.endMembership id

/-! ### What follows a shootdown -/

/-- Frees a context: its private pages are scrubbed, a membership it still had ends (R372), and it is FREE. -/
def State.freeCtx (p c : Nat) (ppns : List Nat) (s : State) : State :=
  let s := s.releasePages ppns
  let s := match s.ten.spans.find? (fun x => x.part == p && x.ctx == c) with
    | some x => s.quitSpan x.id
    | none => s
  s.updCtx p c (fun _ => {})

/-- Tiller rows leave a partition: their scratchpads, handle queues and built-in areas are zeroed (R129, R210, Table
4-10). -/
def State.scrubTillers (rows : BitVec 16) (s : State) : State :=
  let gone (addr : Nat) : Bool := bit rows (tillerRow (addr / 2 ^ 22))
  let s := { s with
    spad := s.spad.filter (fun c => !gone c.1)
    builtins := s.builtins.filter (fun b => !bit rows b.1) }
  let s := s.updXlt (fun x => { x with ecc := x.ecc.filter (fun e => !(e.1 && gone (8 * e.2.1))) })
  s.updSeq (fun q => { q with queues := q.queues.filter (fun kq => !bit rows (8 * (kq.1 / 256) + kq.1 % 256 / 32)) })

/-- Zeroes and releases what a partition held at its rows, with its bound registers and the table and program slots that
all its tillers shared (R129, R210). -/
def State.scrubRows (p : Nat) (rows : BitVec 16) (s : State) : State :=
  let s := s.scrubTillers rows
  let s := (s.sfu.filter (fun e => e.1 / 16 == p)).foldl (fun s e =>
    (e.2.acts.filter (fun a => !a.isLoad)).foldl (fun s a => s.finish a.cmd .done .none [word [(0, s.frm.count.toNat)], 0]) s) s
  let s := { s with sfu := s.sfu.filter (fun e => e.1 / 16 != p) }
  s.updSeq (fun q => { q with bounds := q.bounds.filter (fun b => b.1 / 64 != p) })

/-- Steps 4 and 5 of R367 once the shootdown of its pages and windows has ended: pages scrub, contexts are FREE, rows,
shares, energy share, rates and quota return. -/
def State.releasePartition (p : Nat) (ppns : List Nat) (s : State) : State :=
  let s := s.releasePages ppns
  let s := (s.ten.spans.filter (fun x => x.part == p)).foldl (fun s x => s.quitSpan x.id) s
  let s := (List.range 64).foldl (fun s c => s.updCtx p c (fun _ => {})) s
  let s := s.scrubRows p (s.part p).rows
  let s := s.updPln (fun n => { n with shares := n.shares.map (fun e => if e.2 = some p then (e.1, none) else e) })
  let s := s.updAdmp p (fun a => { grants := a.grants })
  s.updPart p (fun x => { x with rows := 0, quota := 0, share := 0, energy := 0, released := true })

/-- SHOOTDOWN_ACKNOWLEDGE (R120): both caches have acknowledged; the change is done, and what waited for it follows. The
counts of XLT.INVAL wrap (DESIGN CHOICE, log entry 111). -/
def opShootdownAcknowledge (id : Nat) (s : State) : State :=
  match s.xlt.shoots.find? (fun x => x.id == id) with
  | none => s
  | some h =>
    let s := s.updXlt (fun x => { x with
      shoots := x.shoots.filter (fun y => y.id != id)
      regs := x.regs.mapRow {} 2 (fun _ r => { r with invalChoesk := r.invalChoesk + 1 }) })
    match h.next with
    | .memFree cmd ppns => (s.releasePages ppns).finish cmd .done .none []
    | .unmap cmd => s.finish cmd .done .none []
    | .destroy cmd p c ppns => (s.freeCtx p c ppns).finish cmd .done .none []
    | .adopt cmd ws => s.finish cmd .done .none ws
    | .teardown p ppns => s.releasePartition p ppns
    | .nothing => s

/-! ### ATS (R114, R121) -/

/-- An Invalidate Request in progress covers a window's range of its function's addresses. -/
def State.invalCovers (p win : Nat) (s : State) : Bool :=
  let base := (s.hwin p win).iova.toNat * 2 ^ 30
  s.xlt.invals.any (fun i => i.2.1 == p + 1 && decide (i.2.2.1 < base + 2 ^ 30) && decide (base < i.2.2.1 + i.2.2.2))

/-- TRANSLATION_COMPLETION_RECEIVE (R114): the completion of a partition's request, named by its number; `ok` a Success completion,
`whole` a translation that covers the aligned 1 GiB window. One for a request that a shootdown dropped is of no use, and
the access asks again (R120); one that an invalidation overtook is discarded, and its request is sent again (R121). A
descriptor whose translation fails cannot be read (R134). -/
def opTranslationCompletionReceive (p : Fin 16) (req : Nat) (ok whole : Bool) (base : W64) (read write : Bool) (s : State) :
    State :=
  match s.xlt.reqs.find? (fun r => r.id == req && r.part == p.val) with
  | none => s
  | some r =>
    if s.invalCovers r.part r.win then s.emitPcie (.atsRequest (r.part + 1) r.win r.id)
    else
      let s := s.updXlt (fun x => { x with reqs := x.reqs.erase r })
      let kill (cause : Reason) (kind : Nat) : State :=
        match r.fetch with
        | some f => s.noteFetched f.1 f.2 0
        | none => s.killStart ({ die := r.die, tag := r.tag, ticket := r.ticket, slot := r.slot : Who }.fault cause kind r.write
            r.dva.toNat r.win) none
      if !ok || (!read && !write) then kill .translationFault 0x06
      else if !whole then kill .atsSize 0x07
      else
        let h := s.hwin r.part r.win
        s.fill r.die {
          part := r.part, host := true, num := r.win, base := base.toNat / 2 ^ 30 * 2 ^ 30, read := read
          write := write && h.write, any := h.any, ctx := h.ctx, ats := true }

/-- INVALIDATE_REQUEST_RECEIVE (R121): matching entries are dropped in both caches. At most 32 are in progress (R114), and
a function's ITag is in progress once. -/
def opInvalidateRequestReceive (fn : Fin 17) (tag : Fin 32) (base len : W64) (s : State) : State :=
  if s.xlt.invals.any (fun i => i.1 == tag.val && i.2.1 == fn.val) || decide (32 ≤ s.xlt.invals.length) then s
  else
    let s := s.updXlt (fun x => { x with invals := x.invals ++ [(tag.val, fn.val, base.toNat, len.toNat)] })
    let p := fn.val - 1
    let wins := (s.mappedWins p).filter (fun w => s.invalCovers p w)
    if fn.val = 0 then s
    else s.updXlt (fun x => { x with
      caches := x.caches.map (fun dc => (dc.1, dc.2.filter (fun e => !(e.part == p && e.host && wins.contains e.num)))) })

/-- INVALIDATION_COMPLETE (R121): the reads through dropped entries are complete. The spec does not say whether the counts
of XLT.INVAL wrap or saturate; the model wraps them at 2^16 (DESIGN CHOICE, log entry 111). -/
def opInvalidationComplete (fn : Fin 17) (tag : Fin 32) (s : State) : State :=
  if s.xlt.invals.any (fun i => i.1 == tag.val && i.2.1 == fn.val) then
    (s.updXlt (fun x => { x with
      invals := x.invals.filter (fun i => !(i.1 == tag.val && i.2.1 == fn.val))
      regs := x.regs.mapRow {} 2 (fun _ r => { r with invalHost := r.invalHost + 1 }) })).emitPcie
        (.invalDone fn.val tag.val)
  else s

/-- ATS_ENABLE_WRITE (R115): takes effect for each window at its next cache fill. -/
def opAtsEnableWrite (fn : Fin 17) (on : Bool) (s : State) : State :=
  if s.fnExists fn.val then s.updFn fn.val (fun f => { f with atsEnable := on }) else s

/-! ### The end of a kill -/

/-- A job of a killed context ends: KILLED with the cause, or ABORTED where an abort or a reset had reached its commit point
first (R97). -/
def State.endKilled (j : Job) (cause : Reason) (s : State) : State :=
  match j.ending with
  | some rs => s.endJob j .aborted rs
  | none => s.endJob (j.endIn s.frm.count) .killed cause

/-- KILL_COMPLETE (step 5 of R124): in a slack, once no operation of the context is in flight, its jobs, deferred
commands and copies end KILLED with its cause, vector 2 of the VF fires, and the context is DEAD. A copy's new block
becomes FREE (R198). -/
def opKillComplete (p : Fin 16) (c : Fin 64) (s : State) : State :=
  let x := s.ctx p.val c.val
  if x.state != .killing || s.frm.phase != .slack || s.seq.ops.any (fun o => o.part == p.val && o.ctx == c.val) then s
  else
    let cause := x.cause.getD .none
    let js := s.adm.jobs.filter (fun j => j.part == p.val && j.cmd.ctx.toNat == c.val)
    let s := js.foldl (fun s j => s.endKilled j cause) s
    let cs := (((s.kv.get none p.val).map (·.copies)).getD []).filter (fun k => k.ctx == c.val)
    let s := s.finishAll (cs.map (·.cmd)) .killed cause []
    let s := { s with
      kv := s.kv.upd none p.val (fun k => k.map (fun (k : KvPool) => { k with
        copies := k.copies.filter (fun y => y.ctx != c.val)
        blocks := cs.foldl (fun t (y : KvCopy) => t.upd {} y.new (fun b => { gen := b.gen + 1 })) k.blocks })) }
    let s := (s.updCtx p.val c.val (fun y => { y with state := .dead, killers := [] })).fireVec (p.val + 1) 2
    s.finishAll x.killers .done .none [0]

/-! ### CTX commands (Table 4-12) -/

/-- Commands that act for the context of their CONTEXT field (R122), by opcode. -/
def opActs (op : BitVec 16) : Bool :=
  let area := op.toNat / 256
  op = opcodeOf 3 1 || (area = 8 && op != opcodeOf 8 5) || (area = 6 && op != opcodeOf 6 5) ||
    (area = 0x0A && op != opcodeOf 0x0A 6) || (area = 0x0B && op != opcodeOf 0x0B 4) ||
    (area = 0x0D && op != opcodeOf 0x0D 3) || area = 0x0E

/-- Active tickets that act for a context. -/
def State.ctxTickets (p c : Nat) (s : State) : Nat :=
  ((s.mb (p + 1)).tickets.filter (fun t => t.cmd.ctx.toNat == c && opActs t.cmd.opcode)).length

/-- What CTX.CREATE does. -/
def ctxCreateBody (_ : CmdId) (p : Nat) (e : Entry) (s : State) : State × Reply :=
  let w := e.arg 0
  let pick := if bit w 8 then (List.range 64).find? (fun c => (s.ctx p c).state = .free)
    else if (s.ctx p (fld w 0 6)).state = .free then some (fld w 0 6) else none
  match pick with
  | some c => (s.updCtx p c (fun _ => { state := .live }), .done [word [(0, c), (6, tagOf p c)]])
  | none => (s, if bit w 8 then .none_ .noContext else .bad .badState)

/-- CTX.CREATE. -/
def specCtxCreate : Spec where
  opcode := opcodeOf 7 1
  permitted := vfOnly
  allowed := fun _ _ => [0x13F]
  part := ownPart
  cls := .k
  body := ctxCreateBody

/-- A context is a span's member here. -/
def State.isMember (p c : Nat) (s : State) : Bool := s.ten.spans.any (fun x => x.part == p && x.ctx == c)

/-- CTX.DESTROY: its private pages and windows go by shootdown. Until the shootdown ends the context keeps its state, and
commands that act for a LIVE one are accepted all the while: the spec does not say otherwise (DESIGN CHOICE, log entry
112). -/
def ctxDestroyBody (c : CmdId) (p : Nat) (e : Entry) (s : State) : State × Reply :=
  let k := fld (e.arg 0) 0 6
  let x := s.ctx p k
  let ok := !x.destroying && (x.state = .dead || (x.state = .live && s.ctxTickets p k = 0 && !s.isMember p k))
  if !ok then (s, .bad .badState)
  else
    let vs := s.privateVpns p k
    let ws := s.privateWins p k
    let ppns := vs.map (fun v => (s.dpte p v).ppn.toNat)
    let s := (s.unmapVpns p vs).unmapWins p ws
    let s := s.updCtx p k (fun x => { x with destroying := true })
    (s.shootdown p vs ws (.destroy c p k ppns), .later)

/-- CTX.DESTROY. -/
def specCtxDestroy : Spec where
  opcode := opcodeOf 7 2
  permitted := vfOnly
  allowed := fun _ _ => [0x3F]
  part := ownPart
  cls := .k
  body := ctxDestroyBody

/-- CTX.KILL. -/
def ctxKillBody (c : CmdId) (p : Nat) (e : Entry) (s : State) : State × Reply :=
  let k := fld (e.arg 0) 0 6
  let x := s.ctx p k
  match x.state with
  | .free => (s, .bad .badHandle)
  | .live => ((s.updCtx p k (fun x => { x with killers := x.killers ++ [c] })).killCtx p k .hostKill, .later)
  | _ => (s, .done [word [(0, 1), (16, (x.cause.getD .none).code)]])

/-- CTX.KILL, on PF0 with the partition in W0 [11:8]. -/
def specCtxKill : Spec where
  opcode := opcodeOf 7 3
  permitted := anyHost
  allowed := fun m _ => [if pfOnly m then 0xF3F else 0x3F]
  part := fun m a => if vfOnly m then some (m - 1) else some (fld (a.getD 0 0) 8 4)
  cls := .k
  body := ctxKillBody

/-- CTX.QUERY words. -/
def ctxQueryWords (p k : Nat) (s : State) : List W64 :=
  let x := s.ctx p k
  if x.state = .free then [0, 0, 0, 0]
  else [word [(0, x.state.code), (16, (x.cause.getD .none).code)],
    word [(0, (s.privateVpns p k).length), (9, (s.privateWins p k).length)], word [(0, s.ctxTickets p k)],
    word [(0, x.unreached.toNat)]]

/-- CTX.QUERY. -/
def specCtxQuery : Spec where
  opcode := opcodeOf 7 4
  permitted := vfOnly
  allowed := fun _ _ => [0x3F]
  part := ownPart
  cls := .q
  body := fun _ p e s => (s, .done (ctxQueryWords p (fld (e.arg 0) 0 6) s))

/-- The fault record (R127). -/
def Ctx.faultWords (x : Ctx) : List W64 :=
  [word [(0, (x.cause.getD .none).code), (16, x.kind.toNat), (24, x.tag.toNat), (34, x.die), (35, b2n x.write)],
    word [(0, x.dva.toNat % 2 ^ 52)], word [(0, x.start.toNat), (48, x.stopped.toNat)],
    word [(0, x.ticket.toNat), (32, x.slot.toNat)],
    word [(0, x.place.toNat), (16, x.originPkg.toNat), (23, x.originTag.toNat)]]

/-- CTX.POSTMORTEM (R127, R128). -/
def ctxPostmortemBody (c : CmdId) (p : Nat) (e : Entry) (s : State) : State × Reply :=
  let k := fld (e.arg 0) 0 6
  let a := fld (e.arg 0) 16 6
  let adopt := bit (e.arg 0) 8
  let x := s.ctx p k
  let held := x.state = .killing || x.state = .dead
  if !held || (adopt && (x.state != .dead || x.destroying || (s.ctx p a).state != .live)) then (s, .bad .badState)
  else if !adopt then (s, .done x.faultWords)
  else
    let vs := s.privateVpns p k
    let ws := s.privateWins p k
    let heir : BitVec 6 := BitVec.ofNat 6 a
    let s := s.updXlt (fun y => { y with
      own := vs.foldl (fun t v => t.upd {} (s.dpte p v).ppn.toNat (fun o => { o with ctx := heir })) y.own
      dev := vs.foldl (fun t v => t.upd {} (512 * p + v) (fun d => { d with ctx := heir, write := false })) y.dev
      win := ws.foldl (fun t w => t.upd {} (256 * p + w) (fun h => { h with ctx := heir, write := false })) y.win })
    (s.shootdown p vs ws (.adopt c x.faultWords), .later)

/-- CTX.POSTMORTEM. -/
def specCtxPostmortem : Spec where
  opcode := opcodeOf 7 5
  permitted := vfOnly
  allowed := fun _ _ => [0x3F013F]
  part := ownPart
  cls := .q
  body := ctxPostmortemBody

/-! ### MEM commands (Table 4-12) -/

/-- The lowest run of `n` unmapped VPNs. -/
def State.freeRun (p n : Nat) (s : State) : Option Nat :=
  (List.range (513 - n)).find? (fun v => (List.range n).all (fun i => !(s.dpte p (v + i)).valid))

/-- The stacks a mask permits: every stack when it is 0. -/
def stackOk (mask ppn : Nat) : Bool := mask == 0 || mask / 2 ^ (ppn % 8) % 2 == 1

/-- MEM.ALLOC. -/
def memAllocBody (c : CmdId) (p : Nat) (e : Entry) (s : State) : State × Reply :=
  let w := e.arg 0
  let n := fld w 0 10
  let mask := fld w 16 8
  let first := if bit w 41 then s.freeRun p n
    else if (List.range n).all (fun i => !(s.dpte p (fld w 32 9 + i)).valid) then some (fld w 32 9) else none
  match first with
  | none => (s, .bad .badState)
  | some v =>
    let ppns := ((s.pagesIn .free).filter (stackOk mask)).take n
    if ppns.length < n || (s.part p).quota.toNat < s.pagesHeld p + n then
      (s, .fail .noResource .noPages [word [(0, ((s.pagesIn .scrubbing).filter (stackOk mask)).length)]])
    else
      let t : Dpte := { valid := true, write := bit w 24, any := bit w 25, ctx := c.ctx }
      let o : Own := { state := .owned, part := BitVec.ofNat 4 p, ctx := c.ctx, any := bit w 25 }
      let s := s.updXlt (fun x => { x with
        own := ppns.foldl (fun a n => a.put n o) x.own
        dev := (ppns.zip (List.range n)).foldl (fun a pi => a.put (512 * p + v + pi.2) { t with ppn := BitVec.ofNat 9 pi.1 }) x.dev })
      (s, .done [word [(0, v)], word [(0, n)]])

/-- MEM.ALLOC: 1 to 384 pages, and a named range within VPN 511. -/
def specMemAlloc : Spec where
  opcode := opcodeOf 8 1
  permitted := vfOnly
  allowed := fun _ _ => [maskOf 64 [(0, 10), (16, 10), (32, 10)]]
  inRange := fun _ a _ =>
    let w := a.getD 0 0
    decide (1 ≤ fld w 0 10) && decide (fld w 0 10 ≤ 384) && (bit w 41 || decide (fld w 32 9 + fld w 0 10 ≤ 512))
  part := ownPart
  cls := .k
  acts := fun _ => true
  body := memAllocBody

/-- MEM.FREE; a range with a pool data page is BAD_STATE (R189). -/
def memFreeBody (c : CmdId) (p : Nat) (e : Entry) (s : State) : State × Reply :=
  let v := fld (e.arg 0) 0 9
  let n := fld (e.arg 0) 9 10
  let vs := (List.range n).map (v + ·)
  if 512 < v + n || !vs.all (fun v => (s.dpte p v).owns c.ctx.toNat) then (s, .bad .badHandle)
  else if (s.kv.get none p).any (fun k => decide (k.vpn < v + n) && decide (v < k.vpn + k.pages)) then (s, .bad .badState)
  else
    let ppns := vs.map (fun v => (s.dpte p v).ppn.toNat)
    ((s.unmapVpns p vs).shootdown p vs [] (.memFree c ppns), .later)

/-- MEM.FREE: 1 to 512 pages. -/
def specMemFree : Spec where
  opcode := opcodeOf 8 2
  permitted := vfOnly
  allowed := fun _ _ => [maskOf 64 [(0, 19)]]
  inRange := fun _ a _ => decide (1 ≤ fld (a.getD 0 0) 9 10) && decide (fld (a.getD 0 0) 9 10 ≤ 512)
  part := ownPart
  cls := .k
  acts := fun _ => true
  body := memFreeBody

/-- MEM.MAP_HOST. -/
def memMapHostBody (c : CmdId) (p : Nat) (e : Entry) (s : State) : State × Reply :=
  let w := fld (e.arg 0) 0 8
  let h := s.hwin p w
  if h.valid && !h.owns c.ctx.toNat then (s, .bad .badHandle)
  else if h.valid then (s, .bad .badState)
  else
    (s.updXlt (fun x => { x with
      win := x.win.put (256 * p + w) {
        valid := true, write := bit (e.arg 0) 8, any := bit (e.arg 0) 9, ctx := c.ctx
        iova := BitVec.ofNat 34 (fld (e.arg 1) 30 34) } }), .done [])

/-- MEM.MAP_HOST: a 1 GiB aligned host address. -/
def specMemMapHost : Spec where
  opcode := opcodeOf 8 3
  permitted := vfOnly
  allowed := fun _ _ => [0x3FF, BitVec.allOnes 64]
  inRange := fun _ a _ => fld (a.getD 1 0) 0 30 == 0
  part := ownPart
  cls := .k
  acts := fun _ => true
  body := memMapHostBody

/-- What MEM.UNMAP_HOST does. -/
def memUnmapHostBody (c : CmdId) (p : Nat) (e : Entry) (s : State) : State × Reply :=
  let w := fld (e.arg 0) 0 8
  if !(s.hwin p w).owns c.ctx.toNat then (s, .bad .badHandle)
  else ((s.unmapWins p [w]).shootdown p [] [w] (.unmap c), .later)

/-- MEM.UNMAP_HOST. -/
def specMemUnmapHost : Spec where
  opcode := opcodeOf 8 4
  permitted := vfOnly
  allowed := fun _ _ => [0xFF]
  part := ownPart
  cls := .k
  acts := fun _ => true
  body := memUnmapHostBody

/-- The 64 bits of a device page table entry (Table 4-2). -/
def Dpte.word (t : Dpte) : W64 :=
  if t.valid then Machine.word [(0, 1), (1, b2n t.write), (2, b2n t.any), (3, t.ctx.toNat), (10, t.ppn.toNat)] else 0
/-- The 16 bits of an ownership entry (Table 4-3). -/
def Own.word (o : Own) : W64 :=
  Machine.word [(0, o.state.code), (2, o.part.toNat), (6, o.ctx.toNat), (12, b2n o.any), (13, b2n o.ue)]
/-- The 64 bits of a window entry (Table 4-4). -/
def Hwin.word (h : Hwin) : W64 :=
  if h.valid then Machine.word [(0, 1), (1, b2n h.write), (2, b2n h.any), (3, h.ctx.toNat), (30, h.iova.toNat)] else 0

/-- MEM.QUERY words (Table 4-12). -/
def memQueryWords (p : Nat) (w : W64) (s : State) : List W64 :=
  let i := fld w 2 9
  match fld w 0 2 with
  | 0 =>
    let t := s.dpte p i
    if t.valid then [t.word, (s.ownEntry t.ppn.toNat).word] else [0, 0]
  | 1 =>
    let h := s.hwin p i
    let cached (d : Nat) : Option Nat := ((s.cache d).find? (fun e => e.part == p && e.host && e.num == i && e.ats)).map (·.base)
    let base := if (s.fn (p + 1)).atsEnable then
        match cached 0, cached 1 with
        | some b, _ => b
        | none, some b => b
        | none, none => 0
      else h.iova.toNat * 2 ^ 30
    if h.valid then [h.word, BitVec.ofNat 64 base] else [0, 0]
  | _ => [Machine.word [(0, s.pagesHeld p), (9, (s.part p).quota.toNat), (18, (s.mappedWins p).length)], 0]

/-- MEM.QUERY: kinds 0 to 2, and a window number up to 255. -/
def specMemQuery : Spec where
  opcode := opcodeOf 8 5
  permitted := vfOnly
  allowed := fun _ _ => [0x7FF]
  inRange := fun _ a _ =>
    let w := a.getD 0 0
    fld w 0 2 != 3 && (fld w 0 2 != 1 || decide (fld w 2 9 < 256))
  part := ownPart
  cls := .q
  body := fun _ p e s => (s, .done (memQueryWords p (e.arg 0) s))

/-! ### The two modes of CTX.POSTMORTEM -/

/-- CTX_POSTMORTEM (R127): ADOPT = 0. -/
def execCtxPostmortem (m : Fin 18) (e : Entry) (s : State) : Host.Outcome State Fault Refusal :=
  .next (serve specCtxPostmortem m.val (e.withMode 8 1 0) s)

/-- CTX_POSTMORTEM_ADOPT (R128): ADOPT = 1. -/
def execCtxPostmortemAdopt (m : Fin 18) (e : Entry) (s : State) : Host.Outcome State Fault Refusal :=
  .next (serve specCtxPostmortem m.val (e.withMode 8 1 1) s)

/-! ### Meanings of the rows -/

/-- CTX_CREATE (R131). -/
def execCtxCreate (m : Fin 18) (e : Entry) (s : State) : Host.Outcome State Fault Refusal :=
  .next (serve specCtxCreate m.val e s)

/-- CTX_DESTROY (R131). -/
def execCtxDestroy (m : Fin 18) (e : Entry) (s : State) : Host.Outcome State Fault Refusal :=
  .next (serve specCtxDestroy m.val e s)

/-- CTX_KILL (R131). -/
def execCtxKill (m : Fin 18) (e : Entry) (s : State) : Host.Outcome State Fault Refusal :=
  .next (serve specCtxKill m.val e s)

/-- CTX_QUERY (R131). -/
def execCtxQuery (m : Fin 18) (e : Entry) (s : State) : Host.Outcome State Fault Refusal :=
  .next (serve specCtxQuery m.val e s)

/-- MEM_ALLOC (R131). -/
def execMemAlloc (m : Fin 18) (e : Entry) (s : State) : Host.Outcome State Fault Refusal :=
  .next (serve specMemAlloc m.val e s)

/-- MEM_FREE (R131). -/
def execMemFree (m : Fin 18) (e : Entry) (s : State) : Host.Outcome State Fault Refusal :=
  .next (serve specMemFree m.val e s)

/-- MEM_MAP_HOST (R131). -/
def execMemMapHost (m : Fin 18) (e : Entry) (s : State) : Host.Outcome State Fault Refusal :=
  .next (serve specMemMapHost m.val e s)

/-- MEM_UNMAP_HOST (R131). -/
def execMemUnmapHost (m : Fin 18) (e : Entry) (s : State) : Host.Outcome State Fault Refusal :=
  .next (serve specMemUnmapHost m.val e s)

/-- MEM_QUERY (R131). -/
def execMemQuery (m : Fin 18) (e : Entry) (s : State) : Host.Outcome State Fault Refusal :=
  .next (serve specMemQuery m.val e s)

/-- ATS_ENABLE_WRITE (R115). -/
def execAtsEnableWrite (fn : Fin 17) (on : Bool) (s : State) : Host.Outcome State Fault Refusal :=
  .next (s.whenPcie (opAtsEnableWrite fn on s))

/-- KILL_COMPLETE (R124). -/
def execKillComplete (p : Fin 16) (c : Fin 64) (s : State) : Host.Outcome State Fault Refusal :=
  .next (s.whenClocked (opKillComplete p c s))

/-- TRANSLATION_COMPLETION_RECEIVE (R114). -/
def execTranslationCompletionReceive (p : Fin 16) (req : Nat) (ok : Bool) (whole : Bool) (base : W64) (read : Bool)
    (write : Bool) (s : State) : Host.Outcome State Fault Refusal :=
  .next (s.whenPcie (opTranslationCompletionReceive p req ok whole base read write s))

/-- INVALIDATE_REQUEST_RECEIVE (R121). -/
def execInvalidateRequestReceive (fn : Fin 17) (tag : Fin 32) (base : W64) (len : W64) (s : State) : Host.Outcome State Fault Refusal :=
  .next (s.whenPcie (opInvalidateRequestReceive fn tag base len s))

/-- INVALIDATION_COMPLETE (R121). -/
def execInvalidationComplete (inv : Fin 17 × Fin 32) (s : State) : Host.Outcome State Fault Refusal :=
  .next (s.whenClocked (opInvalidationComplete inv.1 inv.2 s))

/-- SHOOTDOWN_ACKNOWLEDGE (R120). -/
def execShootdownAcknowledge (id : Nat) (s : State) : Host.Outcome State Fault Refusal :=
  .next (s.whenClocked (opShootdownAcknowledge id s))

/-- PAGE_SCRUB_COMPLETE (R129). -/
def execPageScrubComplete (ppn : Fin 384) (s : State) : Host.Outcome State Fault Refusal :=
  .next (s.whenClocked (opPageScrubComplete ppn s))

end Sys2Proof.Machine
end

