-- ==== Sys2Proof/Machine/Kv.lean ====
section
/-! DEFINITION. The key/value cache (07): pools, block references and counts, copy on write, the prefix tree, eviction and
reclaim, and the KV commands (R209, Table 7-5). -/

namespace Sys2Proof.Machine

open Sys2Proof

/-! ### Geometry (R186, R187) -/

/-- Bytes of an element of the pool. -/
def KvPool.elem (k : KvPool) : Nat := fmtBytes k.fmt

/-- Bytes of a block. -/
def kvBlockSize (heads dim fmt : Nat) : Nat := heads * 1024 * dim * fmtBytes fmt

/-- Base-2 logarithm of the slot size: the smallest power of two that holds a block. -/
def kvLog2Slot (heads dim fmt : Nat) : Nat := (kvBlockSize heads dim fmt - 1).log2 + 1

/-- Slot size of a pool. -/
def KvPool.slot (k : KvPool) : Nat := 2 ^ kvLog2Slot k.heads k.dim k.fmt

/-- DVA of block b. -/
def KvPool.dva (b : Nat) (k : KvPool) : Nat := k.vpn * 2 ^ 29 + b * k.slot

/-- Blocks of a pool over some data pages, at most 2^22 (Table 7-4). -/
def kvBlocks (pages heads dim fmt : Nat) : Nat := min (2 ^ 22) (pages * (2 ^ 29 / 2 ^ kvLog2Slot heads dim fmt))

/-- Private pages of n blocks (R188). -/
def kvPrivatePages (n : Nat) : Nat := (n * 2120 + 2 ^ 29 - 1) / 2 ^ 29

/-! ### Blocks and references (R190, R191) -/

/-- Block b. -/
def KvPool.block (b : Nat) (k : KvPool) : KvBlock := k.blocks.get {} b

/-- Changes block b. -/
def KvPool.upd (b : Nat) (f : KvBlock → KvBlock) (k : KvPool) : KvPool := { k with blocks := k.blocks.upd {} b f }

/-- The reference of block b. -/
def KvPool.ref (b : Nat) (k : KvPool) : W64 := word [(0, b), (32, (k.block b).gen.toNat)]

/-- Argument bits of a block reference. -/
def refMask : W64 := maskOf 64 [(0, 22), (32, 16)]

/-- The block a reference names: in the pool and of the current generation. -/
def KvPool.named (w : W64) (k : KvPool) : Option Nat :=
  let b := fld w 0 22
  if b < k.n && (k.block b).gen.toNat == fld w 32 16 then some b else none

/-- A block that becomes FREE: its generation moves on and it leaves the tree. -/
def KvBlock.freed (b : KvBlock) : KvBlock := { gen := b.gen + 1, lastUse := b.lastUse }

/-- One holding fewer: at 0 a PRIVATE block is FREE and a PUBLISHED one CACHED (R194). -/
def KvBlock.drop (b : KvBlock) : KvBlock :=
  if b.count.toNat ≤ 1 then
    (if b.state = .published then { b with state := .cached, count := 0 } else b.freed)
  else { b with count := b.count - 1 }

/-- The block is in the tree. -/
def KvBlock.inTree (b : KvBlock) : Bool := b.state = .published || b.state = .cached

/-- Block b and its ancestors, nearest first; `fuel` bounds the depth. -/
def KvPool.chain (k : KvPool) : Nat → Nat → List Nat
  | 0, b => [b]
  | fuel + 1, b => b :: match (k.block b).parent with
    | some q => KvPool.chain k fuel q
    | none => []

/-- The blocks a chain command touches: a tree block with its ancestors, any other block alone. -/
def KvPool.line (b : Nat) (k : KvPool) : List Nat :=
  if (k.block b).inTree then k.chain ((k.block b).depth.toNat) b else [b]

/-- Numbers of the blocks in a state. -/
def KvPool.inState (st : KvState) (k : KvPool) : List Nat := (List.range k.n).filter (fun b => (k.block b).state = st)

/-- Block b has a child in the tree. -/
def KvPool.hasChild (b : Nat) (k : KvPool) : Bool := k.blocks.any (fun e => e.2.inTree && e.2.parent == some b)

/-- CACHED without a child in the tree (R205). -/
def KvPool.evictable (b : Nat) (k : KvPool) : Bool := (k.block b).state = .cached && !k.hasChild b

/-- Evictable blocks. -/
def KvPool.evictables (k : KvPool) : List Nat := (k.blocks.map (·.1)).filter (fun b => k.evictable b)

/-- A block number is before another in the order of Oldest: the older last use, then the lower number. -/
def KvPool.older (a b : Nat) (k : KvPool) : Bool :=
  let x := (k.block a).lastUse
  let y := (k.block b).lastUse
  later y x || (x == y && decide (a < b))

/-- The first block in the order of Oldest. -/
def KvPool.oldest (k : KvPool) : List Nat → Option Nat
  | [] => none
  | b :: t => some (t.foldl (fun a x => if k.older x a then x else a) b)

/-- Evicts in the order of Oldest among blocks a test admits, at most `n`; the pool and how many. -/
def KvPool.evict (ok : Nat → Bool) : Nat → KvPool → KvPool × Nat
  | 0, k => (k, 0)
  | n + 1, k =>
    match k.oldest (k.evictables.filter ok) with
    | none => (k, 0)
    | some b =>
      let r := KvPool.evict ok n (k.upd b KvBlock.freed)
      (r.1, r.2 + 1)

/-- Reclaims for a command that needs `n` FREE blocks (R207); none when they still fall short. -/
def KvPool.reclaim (n : Nat) (allowed : Bool) (k : KvPool) : Option KvPool :=
  let have_ := (k.inState .free).length
  if n ≤ have_ then some k
  else if !allowed then none
  else
    let r := k.evict (fun _ => true) (n - have_)
    if n ≤ have_ + r.2 then some r.1 else none

/-- Takes `n` FREE blocks, which ones being open: they become PRIVATE with count 1 (R191). -/
def KvPool.take : Nat → Nat → KvPool → KvPool × List Nat
  | 0, _, k => (k, [])
  | n + 1, free, k =>
    let fs := k.inState .free
    let b := fs.getD (Config.kvPick free % fs.length) 0
    let r := KvPool.take n (free + 1) (k.upd b (fun x => { x with state := .priv, count := 1 }))
    (r.1, insertNat b r.2)

/-- Puts a pool back. -/
def State.setPool (p : Nat) (k : KvPool) (s : State) : State := { s with kv := s.kv.put p (some k) }

/-! ### KV.ALLOC -/

/-- KV.ALLOC in mode POOL (R186 to R188). -/
def kvAllocPool (_ : CmdId) (p : Nat) (e : Entry) (s : State) : State × Reply :=
  let vpn := fld (e.arg 1) 0 9
  let pages := fld (e.arg 1) 9 10
  let h := fld (e.arg 2) 0 7
  let d := fld (e.arg 2) 7 9
  let fmt := fld (e.arg 2) 16 2
  let n := kvBlocks pages h d fmt
  let m := kvPrivatePages n
  if (s.kv.get none p).isSome then (s, .bad .badState)
  else if 512 < vpn + pages || !(List.range pages).all (fun i =>
      let t := s.dpte p (vpn + i)
      t.valid && t.write && t.any) then (s, .bad .badHandle)
  else
    let ppns := (s.pagesIn .free).take m
    if ppns.length < m || (s.part p).quota.toNat < s.pagesHeld p + m then (s, .none_ .noPages)
    else
      let key := Config.kvKey s.free
      let s := { s with free := s.free + 1 }
      let o : Own := { state := .owned, part := BitVec.ofNat 4 p, any := true }
      let s := s.updXlt (fun x => { x with own := ppns.foldl (fun a k => a.put k o) x.own })
      let s := s.setPool p { heads := h, dim := d, fmt := fmt, n := n, vpn := vpn, pages := pages, priv := ppns, key := key }
      (s, .done [word [(0, n)], word [(0, kvLog2Slot h d fmt)], word [(0, m)]])

/-- KV.ALLOC in mode FRESH (R191, R207). -/
def kvAllocFresh (c : CmdId) (p : Nat) (e : Entry) (k : KvPool) (s : State) : State × Reply :=
  let n := fld (e.arg 1) 0 13
  let dva := fld (e.arg 2) 0 52
  if !s.argWritable p c.ctx.toNat dva (8 * n) then (s, .bad .argFault)
  else match k.reclaim n (!bit (e.arg 0) 4) with
    | none => (s, .none_ .noBlocks)
    | some k =>
      let r := k.take n s.free
      let s := ({ s with free := s.free + n }).setPool p r.1
      (s.writeArg p c.ctx.toNat dva (r.2.flatMap (fun b => bytesLE 8 (r.1.ref b).toNat)), .done [word [(0, n)]])

/-- KV.ALLOC in mode SHARE (R193). -/
def kvAllocShare (_ : CmdId) (p : Nat) (e : Entry) (k : KvPool) (s : State) : State × Reply :=
  match k.named (e.arg 1) with
  | none => (s, .bad .badHandle)
  | some b =>
    let line := k.line b
    if (k.block b).state = .free then (s, .bad .badState)
    else if line.any (fun x => (k.block x).count.toNat = 65535) then (s, .none_ .tableFull)
    else
      let k := line.foldl (fun k x => k.upd x (fun y => { y with
        count := y.count + 1, lastUse := s.frm.count
        state := if y.state = .cached then .published else y.state })) k
      (s.setPool p k, .done [word [(0, (k.block b).count.toNat)]])

/-- The copy of a block, rows of 32 KiB, on the partition's lowest-numbered tiller (R197). -/
def kvCopyDesc (tiller src dst size : Nat) : Desc :=
  BitVec.ofNat 1024 (0x0A + tiller * 2 ^ 32 + src * 2 ^ 192 + dst * 2 ^ 320 + 32768 * 2 ^ 448 + 32768 * 2 ^ 512 +
    2 ^ 576 + 32768 * 2 ^ 592 + size / 32768 * 2 ^ 640 + 2 ^ 672 + 2 ^ 704 + 2 ^ 736)

/-- The lowest-numbered tiller of a partition. -/
def State.lowestTiller (p : Nat) (s : State) : Nat := 8 * s.lowestRow p

/-- KV.ALLOC in mode WRITE (R196, R197). -/
def kvAllocWrite (c : CmdId) (p : Nat) (e : Entry) (k : KvPool) (s : State) : State × Reply :=
  match k.named (e.arg 1) with
  | none => (s, .bad .badHandle)
  | some b =>
    let x := k.block b
    if x.state = .free || x.state = .cached then (s, .bad .badState)
    else if x.state = .priv && x.count = 1 then (s, .done [k.ref b, 0])
    else match k.reclaim 1 (!bit (e.arg 0) 4) with
      | none => (s, .none_ .noBlocks)
      | some k =>
        let r := k.take 1 s.free
        let new := r.2.headD 0
        let copy : KvCopy := {
          cmd := c, ctx := c.ctx.toNat, orig := b, new := new, admSeq := s.adm.nextSeq
          desc := kvCopyDesc (s.lowestTiller p) (k.dva b) (k.dva new) (kvBlockSize k.heads k.dim k.fmt) }
        let s := ({ s with free := s.free + 1 }).setPool p { r.1 with copies := r.1.copies ++ [copy] }
        (s.updAdm (fun a => { a with nextSeq := a.nextSeq + 1 }), .later)

/-- The retirement of a copy: the original loses a holding, and the WRITE is DONE (R197). -/
def State.copyDone (p : Nat) (y : KvCopy) (s : State) : State :=
  match s.kv.get none p with
  | none => s
  | some k =>
    let k := { k with copies := k.copies.filter (fun z => z.cmd.uid != y.cmd.uid) }
    let k := k.upd y.orig KvBlock.drop
    (s.setPool p k).finish y.cmd .done .none [k.ref y.new, 1]

/-- A command on an existing pool; BAD_HANDLE without one (R209). -/
def withPool (f : CmdId → Nat → Entry → KvPool → State → State × Reply) (c : CmdId) (p : Nat) (e : Entry) (s : State) :
    State × Reply :=
  match s.kv.get none p with
  | none => (s, .bad .badHandle)
  | some k => f c p e k s

/-- What KV.ALLOC does. -/
def kvAllocBody (c : CmdId) (p : Nat) (e : Entry) (s : State) : State × Reply :=
  match fld (e.arg 0) 0 2 with
  | 0 => kvAllocPool c p e s
  | 1 => withPool kvAllocFresh c p e s
  | 2 => withPool kvAllocShare c p e s
  | _ => withPool kvAllocWrite c p e s

/-- KV.ALLOC. -/
def specKvAlloc : Spec where
  opcode := opcodeOf 0x0A 1
  permitted := vfOnly
  allowed := fun _ a =>
    let w0 := maskOf 64 [(0, 2), (4, 1)]
    match fld (a.getD 0 0) 0 2 with
    | 0 => [w0, maskOf 64 [(0, 19)], maskOf 64 [(0, 18)]]
    | 1 => [w0, maskOf 64 [(0, 13)], maskOf 64 [(0, 52)]]
    | _ => [w0, refMask]
  inRange := fun _ a _ =>
    match fld (a.getD 0 0) 0 2 with
    | 0 =>
      let h := fld (a.getD 2 0) 0 7
      let d := fld (a.getD 2 0) 7 9
      decide (1 ≤ h) && decide (h ≤ 64) && d % 32 == 0 && decide (32 ≤ d) && decide (d ≤ 256) &&
        fld (a.getD 2 0) 16 2 != 3 && decide (1 ≤ fld (a.getD 1 0) 9 10)
    | 1 => decide (1 ≤ fld (a.getD 1 0) 0 13) && decide (fld (a.getD 1 0) 0 13 ≤ 4096)
    | _ => true
  part := ownPart
  cls := .k
  acts := fun _ => true
  body := kvAllocBody

/-! ### KV.RELEASE -/

/-- KV.RELEASE of a block or chain (R193, R194). -/
def kvReleaseBlock (e : Entry) (p : Nat) (k : KvPool) (s : State) : State × Reply :=
  match k.named (e.arg 1) with
  | none => (s, .bad .badHandle)
  | some b =>
    let line := if bit (e.arg 0) 0 then k.line b else [b]
    if line.any (fun x => (k.block x).count = 0) then (s, .bad .badState)
    else
      let left := (k.block b).count.toNat - 1
      let k := line.foldl (fun k x => k.upd x (fun y => KvBlock.drop { y with lastUse := s.frm.count })) k
      (s.setPool p k, .done [word [(0, left)]])

/-- KV.RELEASE with POOL: every block FREE or CACHED; the private pages are scrubbed (R209). -/
def kvReleasePoolBody (p : Nat) (k : KvPool) (s : State) : State × Reply :=
  if k.blocks.all (fun b => b.2.state = .free || b.2.state = .cached) then
    (({ s with kv := s.kv.put p none }).releasePages k.priv, .done [0])
  else (s, .bad .badState)

/-- KV.RELEASE. -/
def specKvRelease : Spec where
  opcode := opcodeOf 0x0A 2
  permitted := vfOnly
  allowed := fun _ a => [3, if bit (a.getD 0 0) 1 then 0 else refMask]
  part := ownPart
  cls := .k
  acts := fun _ => true
  body := withPool (fun _ p e k s => if bit (e.arg 0) 1 then kvReleasePoolBody p k s else kvReleaseBlock e p k s)

/-! ### The prefix tree -/

/-- The digest of a block (R200, Table 7-3). -/
def kvDigest (key : BitVec 128) (parent : W64) (layer : Nat) (root : Bool) (tokens : List (BitVec 32)) : W64 :=
  sipHash key (bytesLE 8 parent.toNat ++ bytesLE 2 layer ++ bytesLE 2 (b2n root) ++
    tokens.flatMap (fun t => bytesLE 4 t.toNat))

/-- The matching entry of a block (R201): digest, layer, parent and every token equal. -/
def KvPool.matching (parent : Option Nat) (layer : Nat) (tokens : List (BitVec 32)) (k : KvPool) : Option Nat :=
  let pd := match parent with
    | some q => (k.block q).digest
    | none => 0
  let d := kvDigest k.key pd layer parent.isNone tokens
  (k.blocks.find? (fun e => e.2.inTree && e.2.digest == d && e.2.layer.toNat == layer && e.2.parent == parent &&
    e.2.tokens == tokens)).map (·.1)

/-- Token identifiers held in bytes. -/
def tokensOf (n : Nat) (bs : List Byte) : List (BitVec 32) := (chunks 4 n bs).map (fun b => BitVec.ofNat 32 (ofBytesLE b))

/-- KV.INSERT (R202). -/
def kvInsertBody (c : CmdId) (p : Nat) (e : Entry) (k : KvPool) (s : State) : State × Reply :=
  let layer := fld (e.arg 0) 0 12
  let root := bit (e.arg 0) 12
  match k.named (e.arg 1) with
  | none => (s, .bad .badHandle)
  | some b =>
    let parent := if root then some none else (k.named (e.arg 2)).map some
    match parent with
    | none => (s, .bad .badHandle)
    | some q =>
      let badParent := q.any (fun x => !(k.block x).inTree || (k.block x).layer.toNat != layer)
      let depth := match q with
        | some x => (k.block x).depth.toNat + 1
        | none => 1
      if (k.block b).state != .priv || badParent then (s, .bad .badState)
      else if 32768 < depth then (s, .bad .outOfRange)
      else match s.takeArg p c.ctx.toNat (fld (e.arg 3) 0 52) 2048 with
        | (none, s) => (s, .bad .argFault)
        | (some bs, s) =>
          let toks := tokensOf 512 bs
          match k.matching q layer toks with
          | some x => (s, .done [1, k.ref x, word [(0, (k.block x).depth.toNat)]])
          | none =>
            let pd := match q with
              | some x => (k.block x).digest
              | none => 0
            let k := k.upd b (fun y => { y with
              state := .published, layer := BitVec.ofNat 12 layer, parent := q, depth := BitVec.ofNat 16 depth
              digest := kvDigest k.key pd layer q.isNone toks, tokens := toks, lastUse := s.frm.count })
            (s.setPool p k, .done [0, k.ref b, word [(0, depth)]])

/-- KV.INSERT. -/
def specKvInsert : Spec where
  opcode := opcodeOf 0x0A 3
  permitted := vfOnly
  allowed := fun _ a => [maskOf 64 [(0, 13)], refMask, if bit (a.getD 0 0) 12 then 0 else refMask, maskOf 64 [(0, 52)]]
  part := ownPart
  cls := .k
  acts := fun _ => true
  body := withPool kvInsertBody

/-- Walks blocks of tokens down the tree: the matched depth and the deepest match (R203). -/
def KvPool.walk (layer : Nat) (k : KvPool) : List (List (BitVec 32)) → Nat → Option Nat → Nat × Option Nat
  | [], d, at_ => (d, at_)
  | t :: ts, d, at_ =>
    match k.matching at_ layer t with
    | some b => KvPool.walk layer k ts (d + 1) (some b)
    | none => (d, at_)

/-- KV.LOOKUP (R203). -/
def kvLookupBody (c : CmdId) (p : Nat) (e : Entry) (k : KvPool) (s : State) : State × Reply :=
  let full := fld (e.arg 2) 0 25 / 512
  match s.takeArg p c.ctx.toNat (fld (e.arg 1) 0 52) (2048 * full) with
  | (none, s) => (s, .bad .argFault)
  | (some bs, s) =>
    let r := k.walk (fld (e.arg 0) 0 12) (chunks 512 full (tokensOf (512 * full) bs)) 0 none
    (s, .done [word [(0, r.1)], (r.2.map (fun b => k.ref b)).getD 0, word [(0, 512 * r.1)]])

/-- KV.LOOKUP. -/
def specKvLookup : Spec where
  opcode := opcodeOf 0x0A 4
  permitted := vfOnly
  allowed := fun _ _ => [maskOf 64 [(0, 12)], maskOf 64 [(0, 52)], maskOf 64 [(0, 25)]]
  inRange := fun _ a _ => decide (512 ≤ fld (a.getD 2 0) 0 25) && decide (fld (a.getD 2 0) 0 25 ≤ 2 ^ 24)
  part := ownPart
  cls := .q
  acts := fun _ => true
  body := withPool kvLookupBody

/-! ### KV.EVICT and KV.QUERY -/

/-- KV.EVICT (R206). -/
def kvEvictBody (_ : CmdId) (p : Nat) (e : Entry) (k : KvPool) (s : State) : State × Reply :=
  let done (r : KvPool × Nat) : State × Reply := (s.setPool p r.1, .done [word [(0, r.2)]])
  match fld (e.arg 0) 0 2 with
  | 0 =>
    match k.named (e.arg 1) with
    | none => (s, .bad .badHandle)
    | some b =>
      if (k.block b).inTree then
        done (k.evict (fun x => (k.chain ((k.block x).depth.toNat) x).contains b) k.blocks.length)
      else (s, .bad .badState)
  | 1 => done (k.evict (fun _ => true) (min (fld (e.arg 1) 0 23) k.blocks.length))
  | _ => done (k.evict (fun _ => true) k.blocks.length)

/-- KV.EVICT. -/
def specKvEvict : Spec where
  opcode := opcodeOf 0x0A 5
  permitted := vfOnly
  allowed := fun _ a => [3, match fld (a.getD 0 0) 0 2 with
    | 0 => refMask
    | 1 => maskOf 64 [(0, 23)]
    | _ => 0]
  inRange := fun _ a _ => fld (a.getD 0 0) 0 2 != 3
  part := ownPart
  cls := .k
  acts := fun _ => true
  body := withPool kvEvictBody

/-- Words of KV.QUERY about the pool (R209). -/
def KvPool.queryWords (k : KvPool) : List W64 :=
  let count (st : KvState) : Nat := (k.inState st).length
  [word [(0, k.n)], word [(0, count .free), (23, count .priv)], word [(0, count .published), (23, count .cached)],
    word [(0, k.evictables.length)], word [(0, k.heads), (7, k.dim), (16, k.fmt), (18, kvLog2Slot k.heads k.dim k.fmt)]]

/-- Words of KV.QUERY about block b (R209). -/
def KvPool.blockWords (b : Nat) (k : KvPool) : List W64 :=
  let x := k.block b
  [word [(0, x.state.code), (2, x.count.toNat), (18, x.gen.toNat), (34, x.layer.toNat)],
    word [(0, x.depth.toNat), (16, b2n (x.inTree && x.parent.isNone))], (x.parent.map (fun q => k.ref q)).getD 0,
    word [(0, x.lastUse.toNat)]]

/-- KV.QUERY (R209). -/
def kvQueryBody (_ : CmdId) (p : Nat) (e : Entry) (s : State) : State × Reply :=
  match s.kv.get none p with
  | none => (s, .done [0, 0, 0, 0, 0])
  | some k =>
    if bit (e.arg 0) 0 then
      match k.named (e.arg 1) with
      | none => (s, .bad .badHandle)
      | some b => (s, .done (k.blockWords b))
    else (s, .done k.queryWords)

/-- KV.QUERY. -/
def specKvQuery : Spec where
  opcode := opcodeOf 0x0A 6
  permitted := vfOnly
  allowed := fun _ a => [1, if bit (a.getD 0 0) 0 then refMask else 0]
  part := ownPart
  cls := .q
  body := kvQueryBody

/-! ### Rows that name a mode of a command -/

/-- KV_ALLOC_POOL (R186): KV.ALLOC in mode POOL. -/
def execKvAllocPool (m : Fin 18) (e : Entry) (s : State) : Host.Outcome State Fault Refusal :=
  .next (serve specKvAlloc m.val (e.withMode 0 2 0) s)

/-- KV_ALLOC_FRESH (R209): KV.ALLOC in mode FRESH. -/
def execKvAllocFresh (m : Fin 18) (e : Entry) (s : State) : Host.Outcome State Fault Refusal :=
  .next (serve specKvAlloc m.val (e.withMode 0 2 1) s)

/-- KV_ALLOC_SHARE (R193): KV.ALLOC in mode SHARE. -/
def execKvAllocShare (m : Fin 18) (e : Entry) (s : State) : Host.Outcome State Fault Refusal :=
  .next (serve specKvAlloc m.val (e.withMode 0 2 2) s)

/-- KV_ALLOC_WRITE (R196): KV.ALLOC in mode WRITE. -/
def execKvAllocWrite (m : Fin 18) (e : Entry) (s : State) : Host.Outcome State Fault Refusal :=
  .next (serve specKvAlloc m.val (e.withMode 0 2 3) s)

/-- KV_RELEASE (R193): KV.RELEASE without POOL. -/
def execKvRelease (m : Fin 18) (e : Entry) (s : State) : Host.Outcome State Fault Refusal :=
  .next (serve specKvRelease m.val (e.withMode 1 1 0) s)

/-- KV_RELEASE_POOL (R209): KV.RELEASE with POOL. -/
def execKvReleasePool (m : Fin 18) (e : Entry) (s : State) : Host.Outcome State Fault Refusal :=
  .next (serve specKvRelease m.val (e.withMode 1 1 1) s)

/-- KV_EVICT_SUBTREE (R206): KV.EVICT in mode Subtree. -/
def execKvEvictSubtree (m : Fin 18) (e : Entry) (s : State) : Host.Outcome State Fault Refusal :=
  .next (serve specKvEvict m.val (e.withMode 0 2 0) s)

/-- KV_EVICT_OLDEST (R206): KV.EVICT in mode Oldest. -/
def execKvEvictOldest (m : Fin 18) (e : Entry) (s : State) : Host.Outcome State Fault Refusal :=
  .next (serve specKvEvict m.val (e.withMode 0 2 1) s)

/-- KV_EVICT_ALL (R206): KV.EVICT in mode All. -/
def execKvEvictAll (m : Fin 18) (e : Entry) (s : State) : Host.Outcome State Fault Refusal :=
  .next (serve specKvEvict m.val (e.withMode 0 2 2) s)

/-! ### Meanings of the rows -/

/-- KV_INSERT (R202). -/
def execKvInsert (m : Fin 18) (e : Entry) (s : State) : Host.Outcome State Fault Refusal :=
  .next (serve specKvInsert m.val e s)

/-- KV_LOOKUP (R203). -/
def execKvLookup (m : Fin 18) (e : Entry) (s : State) : Host.Outcome State Fault Refusal :=
  .next (serve specKvLookup m.val e s)

/-- KV_QUERY (R209). -/
def execKvQuery (m : Fin 18) (e : Entry) (s : State) : Host.Outcome State Fault Refusal :=
  .next (serve specKvQuery m.val e s)

end Sys2Proof.Machine
end

