-- ==== Sys2Proof/Machine/Part.lean ====
section
/-! DEFINITION. Partitions: creation, start, fence, resume, reset and teardown with what each does at a commit instant
(R358 to R368), and spans: creation, joining, leaving and their queries (R369 to R372, Table 13-8). -/

namespace Sys2Proof.Machine

open Sys2Proof

/-! ### Partition state changes -/

/-- Rows of a mask on a die. -/
def maskOn (rows : BitVec 16) (d : Nat) : Nat := ((List.range 8).filter (fun r => bit rows (8 * d + r))).length

/-- Operations of partition p in flight. -/
def State.partOps (p : Nat) (s : State) : List Op := s.seq.ops.filter (fun o => o.part == p)

/-- Pages of partition p that are SCRUBBING. -/
def State.scrubbingOf (p : Nat) (s : State) : Nat :=
  ((s.pagesIn .scrubbing).filter (fun n => (s.ownEntry n).part.toNat == p)).length

/-- Words of the DONE record of a PART command whose change takes effect now (Table 13-8). -/
def partDoneWords (p : Nat) (c : CmdId) (s : State) : List W64 :=
  let x := s.part p
  if c.opcode = opcodeOf 5 1 then
    [word [(16, x.rows.toNat)], word [(0, 256 * maskOn x.rows 0), (12, 256 * maskOn x.rows 1)], word [(0, x.createG.toNat)]]
  else if c.opcode = opcodeOf 5 5 then
    [word [(0, s.frm.count.toNat)], word [(0, x.resetEnded), (32, x.resetRows)]]
  else if c.opcode = opcodeOf 5 6 then [word [(0, s.frm.count.toNat)], word [(0, s.scrubbingOf p)]]
  else [word [(0, s.frm.count.toNat)]]

/-- Takes a new state at a commit instant and answers the commands that waited for it (R359). -/
def State.enterState (p : Nat) (st : PState) (s : State) : State :=
  let cs := (s.part p).cmds
  let s := (s.updPart p (fun x => { x with cmds := [], fencing := false, resetting := false })).setPart p st
  cs.foldl (fun s c => s.finish c .done .none (partDoneWords p c s)) s

/-- TEARING_DOWN at consumption (steps 1 to 3 of R367). -/
def State.startTeardown (p : Nat) (s : State) : State :=
  let s := (s.refuseWaiting p).setPart p .tearingDown
  let s := s.updPart p (fun x => { x with released := false, tearAfter := false })
  s.killAll p .hostKill

/-- The end of a reset, once nothing of the partition is in flight (steps 5 to 7 of R366). -/
def State.endReset (p : Nat) (s : State) : State :=
  let rows := (s.part p).rows
  let s := s.updSeq (fun q => { q with
    queues := q.queues.filter (fun kq => !bit rows (8 * (kq.1 / 256) + kq.1 % 256 / 32))
    bounds := q.bounds.filter (fun b => b.1 / 64 != p) })
  let s := (s.updFrmp p (fun f => { f with consec := 0 })).updAdmp p (fun a => { a with b := 0 })
  if !(s.part p).resetFaulted then s.enterState p .created
  else
    let n := s.takeFree
    let bad := rows &&& Config.rowsFailing n.1
    let s := n.2
    let s := ({ s with ten := { s.ten with badRows := s.ten.badRows ||| bad } }).scrubTillers bad
    let s := s.updPart p (fun x => { x with rows := rows &&& ~~~bad, resetRows := popCount bad, resetFaulted := false })
    let s := (s.trimCache p 0).trimCache p 1
    if rows &&& ~~~bad = 0 then
      let cs := (s.part p).cmds
      let s := s.updPart p (fun x => { x with cmds := [], resetting := false, fault := 5 })
      s.finishAll cs .noResource .noRows []
    else (s.updPart p (fun x => { x with fault := 0 })).enterState p .created

/-- What a commit instant does to partition p's state (R359, R363, R366, R367). -/
def State.partCommit (p : Nat) (s : State) : State :=
  let x := s.part p
  let idle := (s.partOps p).isEmpty
  let s :=
    if x.resetting then (if idle then s.endReset p else s)
    else if x.fencing then (if idle then s.enterState p .fenced else s)
    else match x.next with
      | some st => s.enterState p st
      | none => s
  let x := s.part p
  if x.tearAfter && !x.resetting then s.startTeardown p
  else if x.state = .tearingDown && x.released then
    let cs := x.tearCmds
    let s := (s.updPart p (fun x => { x with tearCmds := [], released := false, fault := 0 })).setPart p .absent
    cs.foldl (fun s c => s.finish c .done .none (partDoneWords p c s)) s
  else s

/-- The commands of a partition's VF that wait for an object the teardown releases: SPAN, KV, FLOW and GROUP commands
whose outcome is not staged. -/
def State.waitingOf (p : Nat) (s : State) : List CmdId :=
  ((s.mb (p + 1)).tickets.filter (fun t => !t.ended && [0x06, 0x0A, 0x0C, 0x0D].contains (t.cmd.opcode.toNat / 256))).map
    (·.cmd)

/-- TEARDOWN_RELEASE (step 4 of R367): once every context is DEAD, groups, queues and the pool go, and the shootdown of
every page and window begins; what follows it is `releasePartition`. Commands that still wait for one of them end as the
partition's other tickets do, KILLED with HOST_KILL. -/
def opTeardownRelease (p : Fin 16) (s : State) : State :=
  let n := p.val
  let x := s.part n
  let dead := (List.range 64).all (fun c => (s.ctx n c).state = .free || (s.ctx n c).state = .dead)
  let busy := s.xlt.shoots.any (fun h => match h.next with
    | .teardown k _ => k == n
    | _ => false)
  if x.state != .tearingDown || x.released || !dead || busy then s
  else
    let priv := ((s.kv.get none n).map (fun (k : KvPool) => k.priv)).getD []
    let s := s.finishAll (s.waitingOf n) .killed .hostKill []
    let s := { s with kv := s.kv.put n none }
    let s := s.updRed (fun r => { r with
      groups := r.groups.filter (fun g => g.part != n)
      queues := r.queues.filter (fun q => q.part != n) })
    let vs := s.mappedVpns n
    let ws := s.mappedWins n
    let ppns := vs.map (fun v => (s.dpte n v).ppn.toNat) ++ priv
    ((s.unmapVpns n vs).unmapWins n ws).shootdown n vs ws (.teardown n ppns)

/-! ### PART commands (Tables 13-3 and 13-8) -/

/-- Sum of a number over all partitions. -/
def State.sumParts (f : Part → Nat) (s : State) : Nat := ((List.range 16).map (fun p => f (s.part p))).foldl (· + ·) 0

/-- Share entry g is unassigned on all 12 torus port directions (R360). -/
def State.shareFree (g : Nat) (s : State) : Bool := (List.range 12).all (fun d => (s.pln.shares.get none (32 * d + g)).isNone)

/-- The built-in images of the running release go into the tillers of some rows (R210, R231). -/
def State.loadBuiltins (rows : BitVec 16) (s : State) : State :=
  let rel := 256 * s.mgt.running.major.toNat + s.mgt.running.minor.toNat
  { s with builtins := (List.range 16).foldl (fun t r => if bit rows r then t.put r rel else t) s.builtins }

/-- PART.CREATE (R360, R361): the checks in their order; then the setup, and CREATED at the next commit instant. -/
def partCreateBody (c : CmdId) (p : Nat) (e : Entry) (s : State) : State × Reply :=
  let rows : BitVec 16 := BitVec.ofNat 16 (fld (e.arg 0) 16 16)
  let quota := fld (e.arg 1) 0 9
  let share : BitVec 32 := BitVec.ofNat 32 (fld (e.arg 2) 0 32)
  let energy := fld (e.arg 3) 0 11
  let x := s.part p
  let gs := (List.range 32).filter (fun g => bit share g)
  let rowBad (r : Nat) : Bool := bit rows r && (bit s.ten.badRows r || (s.rowOwner r).isSome)
  if x.state != .absent || x.next.isSome then (s, .bad .badState)
  else if rows = 0 || energy = 0 || 1024 < energy then (s, .bad .outOfRange)
  else if (List.range 16).any rowBad then (s, .none_ .noRows)
  else if 384 < s.sumParts (fun y => y.quota.toNat) + quota + (s.pagesIn .quarantined).length then (s, .none_ .noPages)
  else if !gs.all (fun g => s.shareFree g) then (s, .none_ .noLinkShare)
  else if 1024 < s.sumParts (fun y => y.energy.toNat) + energy then (s, .bad .outOfRange)
  else
    let n := popCount rows
    let a := (s.adm.nextA.getD s.adm.a).toNat
    let g : BitVec 16 := BitVec.ofNat 16 (min (192 * n) (a - s.adm.sumWith p 0))
    let s := s.updPart p (fun _ => {
      rows := rows, quota := BitVec.ofNat 9 quota, share := share, energy := BitVec.ofNat 11 energy
      changed := x.changed, next := some .created, cmds := [c], createG := g })
    let s := s.updPln (fun y => { y with
      shares := (List.range 12).foldl (fun t d => gs.foldl (fun t g => t.put (32 * d + g) (some p)) t) y.shares })
    let s := s.updAdmp p (fun _ => { g := g, w := BitVec.ofNat 8 n })
    let s := s.updPwrp p (fun y => { y with ratio := [], balW := 0, balE := 0, lockW := none, lockE := none })
    let s := s.loadBuiltins rows
    ((List.range 64).foldl (fun s k => s.updCtx p k (fun _ => {})) s, .later)

/-- PART.CREATE. -/
def specPartCreate : Spec where
  opcode := opcodeOf 5 1
  permitted := pfOnly
  allowed := fun _ _ => [0xFFFF000F, 0x1FF, 0xFFFFFFFF, 0x7FF]
  part := fun _ a => some (fld (a.getD 0 0) 0 4)
  cls := .own
  body := partCreateBody

/-- A change of period holds this package (R62, R364). -/
def State.periodHold (s : State) : Bool := s.frm.change.isSome || s.frm.proposal.any (fun p => p.acked)

/-- START or RESUME once no change of period holds it (R362, R364, Table 13-3). -/
def startNow (c : CmdId) (p : Nat) (start : Bool) (s : State) : State × Reply :=
  let x := s.part p
  let go : State × Reply := (s.updPart p (fun x => { x with next := some .running, cmds := x.cmds ++ [c] }), .later)
  match x.state with
  | .absent | .faulted | .tearingDown => (s, .fail .refused .partitionDown [])
  | .created => if x.resetting || !start then (s, .bad .badState) else go
  | .fenced => if x.resetting || start then (s, .bad .badState) else go
  | .running =>
    if x.resetting || (!start && x.fencing) then (s, .bad .badState)
    else (s, .done [word [(0, x.changed.toNat)]])

/-- START or RESUME: held with a DEFERRED record while a change of period holds the package (R93, R364). DESIGN CHOICE
(log entry 113): NO_DEFER does not keep such a command from being held. -/
def startBody (start : Bool) (c : CmdId) (p : Nat) (_ : Entry) (s : State) : State × Reply :=
  if s.periodHold then
    let s := s.updAdm (fun a => { a with held := a.held ++ [(c, p, start)] })
    (s.stage c .deferred .periodChange (overloadWords p 0 0 s) false, .later)
  else startNow c p start s

/-- A held command passes its remaining checks: one that is accepted takes the ADMITTED record of a command deferred
earlier before its outcome (R84). -/
def State.releaseOne (h : CmdId × Nat × Bool) (s : State) : State :=
  match startNow h.1 h.2.1 h.2.2 s with
  | (s, .done ws) => (s.stage h.1 .admitted .none [] false).finish h.1 .done .none ws
  | (s, .fail oc rs ws) => s.finish h.1 oc rs ws
  | (s, .later) => s.stage h.1 .admitted .none [] false

/-- Held commands pass their remaining checks when the change completes or is abandoned (R64, R93). -/
def State.releaseHeld (s : State) : State :=
  s.adm.held.foldl (fun s h => s.releaseOne h) (s.updAdm (fun a => { a with held := [] }))

/-- Argument bits of a PART command that PF0 sends with a partition number and a VF without. -/
def pfNamed (m : Nat) (_ : List W64) : List W64 := if pfOnly m then [0xF] else []

/-- PART.START. -/
def specPartStart : Spec where
  opcode := opcodeOf 5 2
  permitted := anyHost
  allowed := pfNamed
  part := namedOrOwn
  cls := .own
  body := startBody true

/-- PART.RESUME. -/
def specPartResume : Spec where
  opcode := opcodeOf 5 4
  permitted := anyHost
  allowed := pfNamed
  part := namedOrOwn
  cls := .own
  body := startBody false

/-- PART.FENCE (R363, Table 13-3): issue stops now; FENCED at the commit instant after the last retirement. -/
def partFenceBody (c : CmdId) (p : Nat) (_ : Entry) (s : State) : State × Reply :=
  let x := s.part p
  match x.state with
  | .absent | .faulted | .tearingDown => (s, .fail .refused .partitionDown [])
  | .created => (s, .bad .badState)
  | .running =>
    if x.resetting || x.fencing then (s, .bad .badState)
    else (s.updPart p (fun x => { x with fencing := true, cmds := x.cmds ++ [c] }), .later)
  | .fenced =>
    if x.resetting || x.next.isSome then (s, .bad .badState) else (s, .done [word [(0, x.changed.toNat)]])

/-- PART.FENCE. -/
def specPartFence : Spec where
  opcode := opcodeOf 5 3
  permitted := anyHost
  allowed := pfNamed
  part := namedOrOwn
  cls := .own
  body := partFenceBody

/-- Stops a copy on write that is in flight; it issues again once the partition runs (log entry 17). -/
def State.rewindCopies (p : Nat) (s : State) : State :=
  let ops := (s.partOps p).filter (fun o => o.job.isNone)
  (ops.foldl (fun s o => s.stopOp o) s).updCopies p (fun y => { y with op := none })

/-- A reset decides a job: an admitted one ends once it has drained, any other ends at once (R366). -/
def State.resetJob (j : Job) (s : State) : State :=
  if j.stage == .admitted then (s.decideJob j.cmd.uid .partitionReset).endIfDrained j.cmd.uid
  else s.endJob { j with deferredFrames := (j.firstDeferred.map (framesSince s.frm.count)).getD 0 } .aborted .partitionReset

/-- A reset does not stop the reductions of the partition's queues: they run to their records (Table 13-7), whose outcome
is ABORTED (R290; DEDUCED, log entry 124). -/
def State.resetReductions (p : Nat) (s : State) : State :=
  s.updRed (fun r => { r with
    queues := r.queues.map (fun q => if q.part == p then
      { q with reds := q.reds.map (fun (x : Reduction) => { x with reset := true }) } else q) })

/-- PART.RESET (R366): steps 1 to 4 at consumption; the rest when nothing of the partition is in flight. -/
def partResetBody (c : CmdId) (p : Nat) (_ : Entry) (s : State) : State × Reply :=
  let x := s.part p
  match x.state with
  | .absent | .tearingDown => (s, .fail .refused .partitionDown [])
  | st =>
    if x.resetting then (s, .bad .badState)
    else
      let s := s.finishAll x.cmds .badCommand .badState []
      let js := s.adm.jobs.filter (fun j => j.part == p && (s.ctx p j.cmd.ctx.toNat).state = .live)
      let hs := s.adm.held.filter (fun h => h.2.1 == p)
      let s := s.updPart p (fun x => { x with
        resetting := true, fencing := false, next := none, cmds := [c]
        resetEnded := js.length + hs.length, resetRows := 0, resetFaulted := st = .faulted })
      let s := s.updAdm (fun a => { a with held := a.held.filter (fun h => h.2.1 != p) })
      let s := s.finishAll (hs.map (·.1)) .aborted .partitionReset []
      let s := js.foldl (fun s j => s.resetJob j) s
      ((s.rewindCopies p).resetReductions p, .later)

/-- PART.RESET. -/
def specPartReset : Spec where
  opcode := opcodeOf 5 5
  permitted := pfOnly
  allowed := pfNamed
  part := namedOrOwn
  cls := .own
  body := partResetBody

/-- PART.TEARDOWN (R367, R368): it waits for a reset in progress. -/
def partTeardownBody (c : CmdId) (p : Nat) (_ : Entry) (s : State) : State × Reply :=
  let x := s.part p
  let wait (s : State) : State := s.updPart p (fun x => { x with tearCmds := x.tearCmds ++ [c] })
  match x.state with
  | .absent => (s, .done [word [(0, x.changed.toNat)], word [(0, s.scrubbingOf p)]])
  | .tearingDown => (wait s, .later)
  | _ =>
    if x.resetting then ((wait s).updPart p (fun x => { x with tearAfter := true }), .later)
    else ((wait s).startTeardown p, .later)

/-- PART.TEARDOWN. -/
def specPartTeardown : Spec where
  opcode := opcodeOf 5 6
  permitted := pfOnly
  allowed := pfNamed
  part := namedOrOwn
  cls := .own
  body := partTeardownBody

/-- PART.QUERY words (Table 13-8). -/
def partQueryWords (p : Nat) (s : State) : List W64 :=
  let x := s.part p
  let live := ((List.range 64).filter (fun c => (s.ctx p c).state = .live)).length
  [word [(0, x.state.code), (3, b2n x.fencing), (4, b2n x.resetting), (16, x.rows.toNat)],
    word [(0, x.quota.toNat), (9, s.pagesHeld p)], word [(0, x.share.toNat)],
    word [(0, x.energy.toNat), (16, live), (24, (s.ten.spans.filter (fun y => y.part == p)).length % 64)],
    word [(0, x.fault.toNat), (16, x.changed.toNat)]]

/-- PART.QUERY. -/
def specPartQuery : Spec where
  opcode := opcodeOf 5 7
  permitted := anyHost
  allowed := pfNamed
  part := namedOrOwn
  cls := .q
  body := fun _ p _ s => (s, .done (partQueryWords p s))

/-! ### Ring order (R253, R371) -/

/-- The snake index of a package (R253). -/
def snake (k : Nat) : Nat :=
  let c := coord k
  let yy := if c.2.2 % 2 = 0 then c.2.1 else 3 - c.2.1
  let xx := if yy % 2 = 0 then c.1 else 7 - c.1
  32 * c.2.2 + 8 * yy + xx

/-- Inserts a package by snake index. -/
def insertSnake (k : Nat) : List Nat → List Nat
  | [] => [k]
  | h :: t => if snake k < snake h then k :: h :: t else h :: insertSnake k t

/-- The ring list of a member list (R371). -/
def ringOf (order : Bool) (ms : List Nat) : List Nat := if order then ms else ms.foldl (fun l k => insertSnake k l) []

/-- Place of a package in a ring list. -/
def ringPos (k : Nat) (ring : List Nat) : Nat := (ring.takeWhile (fun x => x != k)).length

/-- The member after package k in the ring. -/
def ringNext (k : Nat) (ring : List Nat) : Nat := ring.getD ((ringPos k ring + 1) % ring.length) k

/-- The member before package k in the ring. -/
def ringPrev (k : Nat) (ring : List Nat) : Nat := ring.getD ((ringPos k ring + ring.length - 1) % ring.length) k

/-- A port direction is usable but for shares and reservations: GOOD or WATCH with its lanes locked, and not MISWIRED
(R237, R336). -/
def State.portUsable (i : Nat) (s : State) : Bool :=
  ((s.port i).health = .good || (s.port i).health = .watch) && (s.port i).locked && !(s.nbr i).miswired

/-- The ring-out port direction of a member: link a toward the successor if usable, else link b, else none (R253). -/
def State.ringOut (x : Span) (s : State) : Option Nat :=
  (List.range 12).find? (fun i => neighbour s.self i == ringNext s.self x.ring && x.ring.length != 1 && s.portUsable i)

/-- Members in ring order starting at the creator (R374). -/
def Span.fromCreator (x : Span) : List Nat :=
  x.ring.dropWhile (fun k => k != x.creator) ++ x.ring.takeWhile (fun k => k != x.creator)

/-! ### Span life (R370, R372) -/

/-- An index of this package that was freed less than 65,536 frames ago (R372). -/
def State.indexResting (id : BitVec 16) (s : State) : Bool :=
  s.ten.freed.any (fun f => f.1 == id && decide (framesSince s.frm.count f.2 < 65536))

/-- SPAN.CREATE (R369 to R371). -/
def spanCreateBody (c : CmdId) (p : Nat) (e : Entry) (s : State) : State × Reply :=
  let n := fld (e.arg 0) 0 8
  let index := fld (e.arg 0) 16 9
  let id : BitVec 16 := BitVec.ofNat 16 (512 * s.self + index)
  match s.takeArg p c.ctx.toNat (e.arg 1).toNat n with
  | (none, s) => (s, .bad .argFault)
  | (some bs, s) =>
    let ms := bs.map (·.toNat)
    if ms.any (fun b => decide (128 ≤ b)) || ms.eraseDups.length != n then (s, .bad .outOfRange)
    else if !ms.contains s.self then (s, .bad .badHandle)
    else if (s.span? id).isSome || s.indexResting id || s.isMember p c.ctx.toNat then (s, .bad .badState)
    else if 32 ≤ (s.ten.spans.filter (fun x => x.creator == s.self)).length || 64 ≤ s.ten.spans.length then
      (s, .none_ .tableFull)
    else
      let ring := ringOf (bit (e.arg 0) 8) ms
      let alone := n = 1
      let x : Span := {
        id := id, state := if alone then .active else .forming, creator := s.self, ring := ring, part := p
        ctx := c.ctx.toNat, order := bit (e.arg 0) 8, joined := [s.self], lead := s.self
        cmd := if alone then none else some c }
      let s := { s with ten := { s.ten with spans := s.ten.spans ++ [x] } }
      let s := s.updPln (fun q => { q with leads := q.leads ++ [{ span := id, shares := [(s.self, (s.part p).share)] }] })
      if alone then (s, .done [word [(0, id.toNat), (16, 0)]]) else (s, .later)

/-- SPAN.CREATE: 1 to 128 members. -/
def specSpanCreate : Spec where
  opcode := opcodeOf 6 1
  permitted := vfOnly
  allowed := fun _ _ => [0x1FF01FF, maskOf 64 [(0, 52)]]
  inRange := fun _ a _ => decide (1 ≤ fld (a.getD 0 0) 0 8) && decide (fld (a.getD 0 0) 0 8 ≤ 128)
  part := ownPart
  cls := .k
  acts := fun _ => true
  body := spanCreateBody

/-- A joining member tells the lead its torus ports that are not GOOD or WATCH at full width, by the notices that report
their changes from then on (R237, R260; DEDUCED, log entry 123). -/
def State.tellPorts (lead : Nat) (s : State) : State :=
  ((List.range 12).filter (fun i => decide (2 ≤ (s.port i).health.code) || (s.port i).width != .full)).foldl (fun s i =>
    s.send lead (.health s.frm.count i (s.port i).health.code (s.port i).width.code s.self (neighbour s.self i))) s

/-- SPAN.JOIN (R370): a join flit goes to the creator, which the SPAN_ID names. -/
def spanJoinBody (c : CmdId) (p : Nat) (e : Entry) (s : State) : State × Reply :=
  let id : BitVec 16 := BitVec.ofNat 16 (fld (e.arg 0) 0 16)
  let creator := id.toNat / 512
  match s.span? id with
  | some x => (s, .bad (if x.state = .forming then .badHandle else .badState))
  | none =>
    if creator = s.self then (s, .bad .badHandle)
    else if s.isMember p c.ctx.toNat then (s, .bad .badState)
    else if 64 ≤ s.ten.spans.length then (s, .none_ .tableFull)
    else
      let x : Span := {
        id := id, creator := creator, ring := [], part := p, ctx := c.ctx.toNat, lead := creator, cmd := some c }
      let s := { s with ten := { s.ten with spans := s.ten.spans ++ [x] } }
      ((s.send creator (.spanJoin id s.self (s.part p).share)).tellPorts creator, .later)

/-- SPAN.JOIN. -/
def specSpanJoin : Spec where
  opcode := opcodeOf 6 2
  permitted := vfOnly
  allowed := fun _ _ => [0xFFFF]
  part := ownPart
  cls := .k
  acts := fun _ => true
  body := spanJoinBody

/-- A span becomes ACTIVE here with its ring, and CREATE or JOIN ends DONE (R370, Table 13-8). -/
def State.spanBecomesActive (id : BitVec 16) (ring : List Nat) (s : State) : State :=
  match s.span? id with
  | none => s
  | some x =>
    let s := s.updSpan id (fun x => { x with state := .active, ring := ring, cmd := none })
    match x.cmd with
    | none => s
    | some c =>
      let pos := ringPos s.self ring
      s.finish c .done .none [if c.opcode = opcodeOf 6 1 then word [(0, id.toNat), (16, pos)]
        else word [(0, x.creator), (16, pos)]]

/-- JOIN_FLIT_RECEIVE (R370): the creator counts the join; when every listed package has joined it sends the active
flit to each. An unlisted or repeated join is answered BAD_HANDLE, one to a span not FORMING BAD_STATE. -/
def opJoinFlitReceive (span : BitVec 16) (pkg : Fin 128) (shares : BitVec 32) (s : State) : State :=
  match s.span? span with
  | none => s.send pkg.val (.spanRefuse span .badHandle 0)
  | some x =>
    if x.creator != s.self || !x.ring.contains pkg.val || x.joined.contains pkg.val then
      s.send pkg.val (.spanRefuse span .badHandle 0)
    else if x.state != .forming then s.send pkg.val (.spanRefuse span .badState 0)
    else
      let joined := x.joined ++ [pkg.val]
      let s := s.updSpan span (fun x => { x with joined := joined })
      let s := s.updLead span (fun l => { l with shares := l.shares ++ [(pkg.val, shares)] })
      if joined.length < x.ring.length then s
      else
        (s.sendAll (x.ring.filter (fun k => k != s.self)) (.spanActive span x.ring s.self)).spanBecomesActive span x.ring

/-- SPAN_ACTIVE_RECEIVE (R370): the span is ACTIVE at this member. On a span no longer FORMING it brings the ring list
after a leave, which only shrinks (R371). -/
def opSpanActiveReceive (span : BitVec 16) (ring : List Nat) (s : State) : State :=
  match s.span? span with
  | none => s
  | some x =>
    if !ring.contains s.self then s
    else if x.state = .forming then s.spanBecomesActive span ring
    else s.updSpan span (fun x => { x with ring := x.ring.filter ring.contains })

/-- A FORMING span ends here: CREATE or JOIN ends BAD_COMMAND with the packages not joined in word 0 (R370). -/
def State.spanFails (id : BitVec 16) (rs : Reason) (missing : Nat) (s : State) : State :=
  match s.span? id with
  | none => s
  | some x =>
    if x.state != .forming then s
    else
      let s := s.finishAll x.cmd.toList .badCommand rs [word [(0, missing % 256)]]
      (s.updSpan id (fun x => { x with cmd := none })).endMembership id

/-- SPAN_FORMING_TIMEOUT (R370): 1,024 frames after CREATE or JOIN; the creator tells the packages that have joined. Away from
the creator the count of packages not joined is a free value (log entry 133). -/
def opSpanFormingTimeout (span : BitVec 16) (s : State) : State :=
  match s.span? span with
  | none => s
  | some x =>
    if x.state != .forming || x.frames < 1024 then s
    else
      let n := s.takeFree
      let s := n.2
      let missing := if x.creator = s.self then x.ring.length - x.joined.length else Config.notJoined n.1 % 128
      let s := if x.creator = s.self then
          s.sendAll (x.joined.filter (fun k => k != s.self)) (.spanRefuse span .badState missing) else s
      s.spanFails span .badState missing

/-- A flow in the lead's table has the package as source or destination. -/
def State.flowsOf (id : BitVec 16) (pkg : Nat) (s : State) : Bool :=
  s.pln.leads.any (fun l => l.span == id && l.flows.any (fun f => f.src == pkg || f.dst == pkg))

/-- The lead's answer to a member that asks to leave (R371, R372): refused while a flow names it; otherwise the ring
closes over it and the other members learn the new ring. -/
def State.answerLeave (id : BitVec 16) (pkg : Nat) (s : State) : State :=
  match s.span? id with
  | none => s
  | some x =>
    if x.lead != s.self then s
    else if s.flowsOf id pkg then s.send pkg (.leaveReply id false)
    else
      let ring := x.ring.erase pkg
      let s := s.updSpan id (fun x => { x with ring := ring })
      let s := s.updLead id (fun l => { l with
        shares := l.shares.filter (fun y => y.1 != pkg), down := l.down.filter (fun y => y.1 != pkg)
        half := l.half.filter (fun y => y.1 != pkg) })
      let s := s.send pkg (.leaveReply id true)
      s.sendAll (ring.filter (fun k => k != s.self)) (.spanActive id ring x.creator)

/-- The lead's answer reaches the member: its membership ends at the next commit instant, or LEAVE ends BAD_STATE. -/
def State.takeLeaveReply (id : BitVec 16) (ok : Bool) (s : State) : State :=
  match s.span? id with
  | none => s
  | some x =>
    if ok then s.updSpan id (fun x => { x with leaving := true })
    else (s.updSpan id (fun x => { x with leaveCmds := [] })).finishAll x.leaveCmds .badCommand .badState []

/-- SPAN.LEAVE (R372). A member asks the acting lead, which holds the flow table; the lead itself leaves only as the last
member. A span not yet ACTIVE is not left (log entry 18). -/
def spanLeaveBody (c : CmdId) (p : Nat) (e : Entry) (s : State) : State × Reply :=
  let id : BitVec 16 := BitVec.ofNat 16 (fld (e.arg 0) 0 16)
  match s.span? id with
  | none => (s, .bad .badHandle)
  | some x =>
    if x.part != p then (s, .bad .badHandle)
    else if x.state = .forming || x.leaving then (s, .bad .badState)
    else if x.lead = s.self then
      if x.ring = [s.self] then (s.updSpan id (fun x => { x with leaving := true, leaveCmds := x.leaveCmds ++ [c] }), .later)
      else (s, .bad .badState)
    else
      ((s.updSpan id (fun x => { x with leaveCmds := x.leaveCmds ++ [c] })).send x.lead (.leaveAsk id s.self), .later)

/-- SPAN.LEAVE. -/
def specSpanLeave : Spec where
  opcode := opcodeOf 6 3
  permitted := vfOnly
  allowed := fun _ _ => [0xFFFF]
  part := ownPart
  cls := .k
  acts := fun _ => true
  body := spanLeaveBody

/-- SPAN.DESTROY (R372). -/
def spanDestroyBody (c : CmdId) (p : Nat) (e : Entry) (s : State) : State × Reply :=
  let id : BitVec 16 := BitVec.ofNat 16 (fld (e.arg 0) 0 16)
  match s.span? id with
  | none => (s, .bad .badHandle)
  | some x =>
    if x.part != p then (s, .bad .badHandle)
    else if x.lead != s.self || s.pln.leads.any (fun l => l.span == id && !l.flows.isEmpty) then (s, .bad .badState)
    else
      let s := s.updSpan id (fun x => { x with leaving := true, leaveCmds := x.leaveCmds ++ [c] })
      (s.sendAll ((if x.state = .forming then x.joined else x.ring).filter (fun k => k != s.self)) (.spanEnd id), .later)

/-- SPAN.DESTROY. -/
def specSpanDestroy : Spec where
  opcode := opcodeOf 6 4
  permitted := vfOnly
  allowed := fun _ _ => [0xFFFF]
  part := ownPart
  cls := .k
  acts := fun _ => true
  body := spanDestroyBody

/-- SPAN_END_RECEIVE (R372): the membership ends at the next commit instant. -/
def opSpanEndReceive (span : BitVec 16) (s : State) : State := s.updSpan span (fun x => { x with leaving := true })

/-- Words of SPAN.QUERY about a span (Table 13-8). -/
def spanQueryWords (x : Span) (s : State) : List W64 :=
  [word [(0, x.state.code), (2, x.ring.length % 256), (10, x.lead), (17, ringPos s.self x.ring)],
    word [(0, x.rho.toNat)],
    word [(0, ringNext s.self x.ring), (8, ringPrev s.self x.ring), (15, (s.ringOut x).getD 15)]]

/-- SPAN.QUERY (Table 13-8). -/
def spanQueryBody (c : CmdId) (p : Nat) (e : Entry) (s : State) : State × Reply :=
  let id : BitVec 16 := BitVec.ofNat 16 (fld (e.arg 0) 0 16)
  let a := (e.arg 1).toNat
  match s.span? id with
  | none => (s, .bad .badHandle)
  | some x =>
    let ws := spanQueryWords x s
    if x.part != p then (s, .bad .badHandle)
    else if a = 0 then (s, .done ws)
    else if !s.argWritable p c.ctx.toNat a x.ring.length then (s, .bad .argFault)
    else (s.writeArg p c.ctx.toNat a (x.ring.map (fun k => BitVec.ofNat 8 k)), .done ws)

/-- SPAN.QUERY; it acts for a context only when it names a buffer (R122). -/
def specSpanQuery : Spec where
  opcode := opcodeOf 6 5
  permitted := vfOnly
  allowed := fun _ _ => [0xFFFF, maskOf 64 [(0, 52)]]
  part := ownPart
  cls := .q
  acts := fun a => a.getD 1 0 != 0
  body := spanQueryBody

/-- What a commit instant does to memberships (R372): those that end, end; the frames of FORMING and DEAD spans count. -/
def State.spanCommit (s : State) : State :=
  let gone := (s.ten.spans.filter (·.leaving)).map (·.id)
  let s := gone.foldl (fun s id => s.endMembership id) s
  { s with
    ten := { s.ten with
      spans := s.ten.spans.map (fun x => match x.state with
        | .forming => { x with frames := x.frames + 1 }
        | .dead => { x with deadFrames := x.deadFrames + 1 }
        | .active => x) } }

/-! ### Meanings of the rows -/

/-- PART_CREATE (R360). -/
def execPartCreate (m : Fin 18) (e : Entry) (s : State) : Host.Outcome State Fault Refusal :=
  .next (serve specPartCreate m.val e s)

/-- PART_START (R362). -/
def execPartStart (m : Fin 18) (e : Entry) (s : State) : Host.Outcome State Fault Refusal :=
  .next (serve specPartStart m.val e s)

/-- PART_FENCE (R363). -/
def execPartFence (m : Fin 18) (e : Entry) (s : State) : Host.Outcome State Fault Refusal :=
  .next (serve specPartFence m.val e s)

/-- PART_RESUME (R364). -/
def execPartResume (m : Fin 18) (e : Entry) (s : State) : Host.Outcome State Fault Refusal :=
  .next (serve specPartResume m.val e s)

/-- PART_RESET (R366). -/
def execPartReset (m : Fin 18) (e : Entry) (s : State) : Host.Outcome State Fault Refusal :=
  .next (serve specPartReset m.val e s)

/-- PART_TEARDOWN (R367). -/
def execPartTeardown (m : Fin 18) (e : Entry) (s : State) : Host.Outcome State Fault Refusal :=
  .next (serve specPartTeardown m.val e s)

/-- PART_QUERY (R382). -/
def execPartQuery (m : Fin 18) (e : Entry) (s : State) : Host.Outcome State Fault Refusal :=
  .next (serve specPartQuery m.val e s)

/-- SPAN_CREATE (R370). -/
def execSpanCreate (m : Fin 18) (e : Entry) (s : State) : Host.Outcome State Fault Refusal :=
  .next (serve specSpanCreate m.val e s)

/-- SPAN_JOIN (R370). -/
def execSpanJoin (m : Fin 18) (e : Entry) (s : State) : Host.Outcome State Fault Refusal :=
  .next (serve specSpanJoin m.val e s)

/-- SPAN_LEAVE (R372). -/
def execSpanLeave (m : Fin 18) (e : Entry) (s : State) : Host.Outcome State Fault Refusal :=
  .next (serve specSpanLeave m.val e s)

/-- SPAN_DESTROY (R372). -/
def execSpanDestroy (m : Fin 18) (e : Entry) (s : State) : Host.Outcome State Fault Refusal :=
  .next (serve specSpanDestroy m.val e s)

/-- SPAN_QUERY (R382). -/
def execSpanQuery (m : Fin 18) (e : Entry) (s : State) : Host.Outcome State Fault Refusal :=
  .next (serve specSpanQuery m.val e s)

/-- TEARDOWN_RELEASE (R367). -/
def execTeardownRelease (p : Fin 16) (s : State) : Host.Outcome State Fault Refusal :=
  .next (s.whenClocked (opTeardownRelease p s))

/-- JOIN_FLIT_RECEIVE (R370). -/
def execJoinFlitReceive (span : BitVec 16) (pkg : Fin 128) (shares : BitVec 32) (s : State) :
    Host.Outcome State Fault Refusal :=
  .next (s.whenClocked (s.toChoesk pkg.val (.spanJoin span pkg.val shares)
    (opJoinFlitReceive span pkg shares s)))

/-- SPAN_ACTIVE_RECEIVE (R370). -/
def execSpanActiveReceive (span : BitVec 16) (ring : List Nat) (s : State) :
    Host.Outcome State Fault Refusal :=
  .next (s.whenClocked (s.toChoesk 0 (.spanActive span ring 0)
    (opSpanActiveReceive span ring s)))

/-- SPAN_FORMING_TIMEOUT (R370). -/
def execSpanFormingTimeout (span : BitVec 16) (s : State) : Host.Outcome State Fault Refusal :=
  .next (s.whenClocked (opSpanFormingTimeout span s))

/-- SPAN_END_RECEIVE (R372). -/
def execSpanEndReceive (span : BitVec 16) (s : State) :
    Host.Outcome State Fault Refusal :=
  .next (s.whenClocked (s.toChoesk 0 (.spanEnd span)
    (opSpanEndReceive span s)))

end Sys2Proof.Machine
end

