-- ==== Sys2Proof/Machine/Sfu.lean ====
section
/-! DEFINITION. Special functions (08): table and program slots with their loads and unloads (R211, R228 to R230), and the
SFU commands (R232, Table 8-11). -/

namespace Sys2Proof.Machine

open Sys2Proof

/-! ### Slots -/

/-- The key of a partition's table slot (0 to 7) or program slot (8 to 15). -/
def slotKey (p slot : Nat) : Nat := 16 * p + slot

/-- A slot. -/
def State.sfuSlot (key : Nat) (s : State) : SfuSlot := s.sfu.get {} key

/-- Changes a slot. -/
def State.updSlot (key : Nat) (f : SfuSlot → SfuSlot) (s : State) : State := { s with sfu := s.sfu.upd {} key f }

/-- The image in one half. -/
def SfuSlot.half (h : Bool) (x : SfuSlot) : List Byte := if h then x.half1 else x.half0

/-- The image in the active half. -/
def SfuSlot.image (x : SfuSlot) : List Byte := x.half x.active

/-- A program image read at consumption of a load: the first offset and reason for which R223 refuses it. -/
def State.programBad (p : Nat) (bs : List Byte) (s : State) : Option (Reason × Nat) :=
  let n := progSteps bs
  let ks := List.range n
  if n = 0 || 32 < n || imgLE bs 0 4 / 64 != 0 then some (.outOfRange, 0)
  else match ks.find? (fun k => !stepOk (progStep bs k)) with
    | some k => some (.outOfRange, 8 + 8 * k)
    | none =>
      match ks.find? (fun k =>
          let w := progStep bs k
          fld w 0 4 = 3 && 8 ≤ fld w 18 5 && !(s.sfuSlot (slotKey p (fld w 18 5 - 8))).loaded) with
      | some k => some (.badState, 8 + 8 * k)
      | none => if (crc32c (withoutCheck 4 bs)).toNat = imgLE bs 4 4 then none else some (.outOfRange, 4)

/-- The CHECK of the image of a slot, 0 for an empty one. -/
def State.slotCheck (p slot : Nat) (s : State) : Nat :=
  let x := s.sfuSlot (slotKey p slot)
  if x.loaded then imgLE x.image (if slot < 8 then 32 else 4) 4 else 0

/-- Latches an operation holds: key of the slot and half, as 2·key + half, in the words of its record. -/
def Op.latches (key : Nat) (half : Bool) (o : Op) : Bool := o.desc.kind = 4 && o.params.contains (2 * key + b2n half)

/-- What the lane evaluates for a function code, with the halves an operation latched (R211, R212). -/
def State.evalFunc (release : Nat) (halfOf : Nat → Bool) (p func : Nat) (s : State) (x : Fv) : Fv :=
  let table (f : Nat) (x : Fv) : Fv :=
    if f < 7 then evalBuiltin release f x
    else
      let key := slotKey p (f - 8)
      evalTable ((s.sfuSlot key).half (halfOf key)) x
  if func < 7 then table func x
  else if func = 7 then x
  else if func < 16 then table func x
  else
    let key := slotKey p (func - 8)
    runProgram table ((s.sfuSlot key).half (halfOf key)) x

/-- The slots a function code uses: the table or program, and the tables its steps name (R211). -/
def State.funcSlots (p func : Nat) (s : State) : List Nat :=
  if func < 8 then []
  else if func < 16 then [slotKey p (func - 8)]
  else
    let key := slotKey p (func - 8)
    key :: (progTables (s.sfuSlot key).image).map (slotKey p)

/-- Lane cycles per result of a function code (Table 8-1). -/
def State.funcCycles (p func : Nat) (s : State) : Nat :=
  if func < 16 then 1 else progSteps (s.sfuSlot (slotKey p (func - 8))).image

/-- Lane cycles per result of an operation's function code, by the program half it latched at issue (R211, R227). -/
def State.latchedCycles (o : Op) (func : Nat) (s : State) : Nat :=
  if func < 16 then 1
  else
    let key := slotKey o.part (func - 8)
    progSteps ((s.sfuSlot key).half (o.params.contains (2 * key + 1)))

/-- The image of the first load among what waits. -/
def SfuSlot.nextLoad (x : SfuSlot) : Option (List Byte) :=
  x.acts.findSome? (fun
    | .load _ bs => some bs
    | .unload _ => none)

/-- SFU_LOAD_WRITE (steps 3 and 4 of R228): the first waiting load writes the half that is not active once no operation
in flight has latched it; an unload consumed before it changes no half, so the load does not wait for that. -/
def opSfuLoadWrite (p slot : Fin 16) (s : State) : State :=
  let key := slotKey p.val slot.val
  let x := s.sfuSlot key
  match x.nextLoad with
  | some bs =>
    if x.written || s.seq.ops.any (fun o => o.part == p.val && o.latches key (!x.active)) then s
    else s.updSlot key (fun x => if x.active then { x with half0 := bs, written := true }
      else { x with half1 := bs, written := true })
  | none => s

/-- Unloads at the head of what waits take effect together. -/
def State.slotUnloads (key : Nat) : Nat → State → State
  | 0, s => s
  | n + 1, s =>
    match (s.sfuSlot key).acts with
    | .unload c :: rest =>
      let s := s.updSlot key (fun x => { x with loaded := false, acts := rest })
      State.slotUnloads key n (s.finish c .done .none [word [(0, s.frm.count.toNat)], 0])
    | _ => s

/-- The load at the head of what waits flips the slot if its image is written (step 5 of R228). -/
def State.slotFlip (key : Nat) (s : State) : State :=
  let x := s.sfuSlot key
  match x.acts with
  | .load c bs :: rest =>
    if x.written then
      let s := s.updSlot key (fun x => { x with active := !x.active, loaded := true, acts := rest, written := false })
      s.finish c .done .none [word [(0, s.frm.count.toNat)], word [(0, imgLE bs (if key % 16 < 8 then 32 else 4) 4)]]
    else s
  | _ => s

/-- A slot at a commit instant (R228, R229): the unloads consumed before any waiting load take effect, then a written load
flips; an unload consumed after that load waits for the next commit instant. -/
def State.slotCommit (key : Nat) (s : State) : State :=
  (s.slotUnloads key (s.sfuSlot key).acts.length).slotFlip key

/-- All slots at a commit instant. -/
def State.sfuCommit (s : State) : State := (s.sfu.map (·.1)).foldl (fun s k => s.slotCommit k) s

/-! ### SFU commands (Table 8-11) -/

/-- What SFU.LOAD_TABLE does. -/
def sfuLoadTableBody (c : CmdId) (p : Nat) (e : Entry) (s : State) : State × Reply :=
  match s.takeArg p c.ctx.toNat (fld (e.arg 1) 0 52) (4 * fld (e.arg 2) 0 10) with
  | (none, s) => (s, .bad .argFault)
  | (some bs, s) =>
    if 64 + 12 * imgSegs bs != bs.length then (s, .bad .outOfRange)
    else match tableBad bs with
      | some o => (s, .fail .badCommand .outOfRange [word [(0, o)]])
      | none =>
        (s.updSlot (slotKey p (fld (e.arg 0) 0 3)) (fun x => { x with acts := x.acts ++ [.load c bs] }), .later)

/-- SFU.LOAD_TABLE. -/
def specSfuLoadTable : Spec where
  opcode := opcodeOf 0x0B 1
  permitted := vfOnly
  allowed := fun _ _ => [7, maskOf 64 [(0, 52)], maskOf 64 [(0, 10)]]
  inRange := fun _ a _ =>
    let n := fld (a.getD 2 0) 0 10
    fld (a.getD 1 0) 0 6 == 0 && decide (19 ≤ n) && decide (n ≤ 784) && n % 3 == 1
  part := ownPart
  cls := .k
  acts := fun _ => true
  body := sfuLoadTableBody

/-- What SFU.UNLOAD_TABLE (R229) does. -/
def sfuUnloadTableBody (c : CmdId) (p : Nat) (e : Entry) (s : State) : State × Reply :=
  let slot := fld (e.arg 0) 0 3
  let prog := bit (e.arg 0) 8
  let key := slotKey p (if prog then 8 + slot else slot)
  let x := s.sfuSlot key
  let named := (List.range 8).any (fun k =>
    let y := s.sfuSlot (slotKey p (8 + k))
    y.loaded && (progTables y.image).contains slot)
  if !prog && named then (s, .bad .badState)
  else if !x.loaded && x.acts.isEmpty then (s, .done [word [(0, s.frm.count.toNat)], 1])
  else (s.updSlot key (fun x => { x with acts := x.acts ++ [.unload c] }), .later)

/-- SFU.UNLOAD_TABLE (R229). -/
def specSfuUnloadTable : Spec where
  opcode := opcodeOf 0x0B 2
  permitted := vfOnly
  allowed := fun _ _ => [maskOf 64 [(0, 3), (8, 1)]]
  part := ownPart
  cls := .k
  acts := fun _ => true
  body := sfuUnloadTableBody

/-- What SFU.LOAD_PROGRAM does. -/
def sfuLoadProgramBody (c : CmdId) (p : Nat) (e : Entry) (s : State) : State × Reply :=
  match s.takeArg p c.ctx.toNat (fld (e.arg 1) 0 52) (8 + 8 * fld (e.arg 2) 0 6) with
  | (none, s) => (s, .bad .argFault)
  | (some bs, s) =>
    if progSteps bs != fld (e.arg 2) 0 6 then (s, .bad .outOfRange)
    else match s.programBad p bs with
      | some (rs, o) => (s, .fail .badCommand rs [word [(0, o)]])
      | none =>
        (s.updSlot (slotKey p (8 + fld (e.arg 0) 0 3)) (fun x => { x with acts := x.acts ++ [.load c bs] }), .later)

/-- SFU.LOAD_PROGRAM. -/
def specSfuLoadProgram : Spec where
  opcode := opcodeOf 0x0B 3
  permitted := vfOnly
  allowed := fun _ _ => [7, maskOf 64 [(0, 52)], maskOf 64 [(0, 6)]]
  inRange := fun _ a _ =>
    fld (a.getD 1 0) 0 6 == 0 && decide (1 ≤ fld (a.getD 2 0) 0 6) && decide (fld (a.getD 2 0) 0 6 ≤ 32)
  part := ownPart
  cls := .k
  acts := fun _ => true
  body := sfuLoadProgramBody

/-- The release of the built-in set of a partition, from its lowest row (R232); a partition that holds no row answers with
the release of the running image (DESIGN CHOICE, log entry 120). -/
def State.builtinSet (p : Nat) (s : State) : Nat :=
  if (s.part p).rows = 0 then 256 * s.mgt.running.major.toNat + s.mgt.running.minor.toNat else s.builtinRelease (s.lowestRow p)

/-- Words of SFU.QUERY about the tables (mode 0) or programs (mode 1) of partition p. -/
def sfuQueryWords (p mode : Nat) (s : State) : List W64 :=
  let at_ (k : Nat) : Nat := 8 * mode + k
  let slot (k : Nat) : SfuSlot := s.sfuSlot (slotKey p (at_ k))
  let mask (f : SfuSlot → Bool) : Nat := (((List.range 8).filter (fun k => f (slot k))).map (fun k => 2 ^ k)).foldl (· + ·) 0
  word [(0, mask (·.loaded)), (8, mask (fun x => x.acts.any SlotAct.isLoad)), (16, s.builtinSet p)] ::
    (List.range 4).map (fun k => word [(0, s.slotCheck p (at_ (2 * k))), (32, s.slotCheck p (at_ (2 * k + 1)))])

/-- SFU.QUERY. -/
def sfuQueryBody (c : CmdId) (p : Nat) (e : Entry) (s : State) : State × Reply :=
  let mode := fld (e.arg 0) 0 2
  if mode = 2 then
    let img := builtinImage (s.builtinSet p) (fld (e.arg 0) 8 3)
    let dva := fld (e.arg 1) 0 52
    if s.argWritable p c.ctx.toNat dva img.length then
      (s.writeArg p c.ctx.toNat dva img, .done [word [(0, img.length)]])
    else (s, .bad .argFault)
  else (s, .done (sfuQueryWords p mode s))

/-- SFU.QUERY. -/
def specSfuQuery : Spec where
  opcode := opcodeOf 0x0B 4
  permitted := vfOnly
  allowed := fun _ a =>
    if fld (a.getD 0 0) 0 2 = 2 then [maskOf 64 [(0, 2), (8, 3)], maskOf 64 [(0, 52)]] else [3]
  inRange := fun _ a _ =>
    match fld (a.getD 0 0) 0 2 with
    | 2 => fld (a.getD 0 0) 8 3 != 7 && fld (a.getD 1 0) 0 6 == 0
    | 3 => false
    | _ => true
  part := ownPart
  cls := .q
  acts := fun a => fld (a.getD 0 0) 0 2 == 2
  body := sfuQueryBody

/-! ### Meanings of the rows -/

/-- SFU_LOAD_TABLE (R228). -/
def execSfuLoadTable (m : Fin 18) (e : Entry) (s : State) : Host.Outcome State Fault Refusal :=
  .next (serve specSfuLoadTable m.val e s)

/-- SFU_UNLOAD_TABLE (R229). -/
def execSfuUnloadTable (m : Fin 18) (e : Entry) (s : State) : Host.Outcome State Fault Refusal :=
  .next (serve specSfuUnloadTable m.val e s)

/-- SFU_LOAD_PROGRAM (R228). -/
def execSfuLoadProgram (m : Fin 18) (e : Entry) (s : State) : Host.Outcome State Fault Refusal :=
  .next (serve specSfuLoadProgram m.val e s)

/-- SFU_QUERY (R232). -/
def execSfuQuery (m : Fin 18) (e : Entry) (s : State) : Host.Outcome State Fault Refusal :=
  .next (serve specSfuQuery m.val e s)

/-- SFU_LOAD_WRITE (R228). -/
def execSfuLoadWrite (p : Fin 16) (slot : Fin 16) (s : State) : Host.Outcome State Fault Refusal :=
  .next (s.whenClocked (opSfuLoadWrite p slot s))

end Sys2Proof.Machine
end

