-- ==== Sys2Proof/Machine/Seq.lean ====
section
/-! DEFINITION. The sequencers: estimates (R387, R388), descriptor fetch (R134), readiness (R147), issue (R139, R140, R148,
R390 to R393), handle queues (R149 to R152), retirement (R133) and the layer fence (R158). -/

namespace Sys2Proof.Machine

open Sys2Proof

/-! ### Bounds and estimates -/

/-- Words 0 to 3 of an operation's bounds as M, N, K, H. -/
structure Bounds where
  m : Nat
  n : Nat
  k : Nat
  h : Nat
  deriving DecidableEq, Repr

/-- A bound reads as 0 (R140). -/
def Bounds.zero (b : Bounds) : Bool := b.m = 0 || b.n = 0 || b.k = 0 || b.h = 0

/-- The value a bound field would read now; an unreadable word counts as 0. -/
def State.peekBound (p c : Nat) (d : Desc) (i : Nat) (s : State) : Nat :=
  let b := d.bound i
  match boundSrc b with
  | 0 => boundVal b
  | 1 => (s.boundReg p (boundVal b % 64)).toNat % 2 ^ 32
  | _ => ((s.readArg p c (d.boundAddr + 8 * (boundVal b % 2 ^ 16)) 8).map (fun bs => ofBytesLE bs % 2 ^ 32)).getD 0

/-- The four bounds as they stand. -/
def State.peekBounds (p c : Nat) (d : Desc) (s : State) : Bounds :=
  { m := s.peekBound p c d 0, n := s.peekBound p c d 1, k := s.peekBound p c d 2, h := s.peekBound p c d 3 }

/-- Core cycles of one iteration of an attention pass after its fixed parts: c per 32 × 4 tile and w per row group (Table
6-8), over the TN or TM of the streamed side (R185). `doBytes`: bytes of a dO element. -/
def Desc.attnCycles (d : Desc) (doBytes : Nat) : Nat :=
  let f := if d.fmtA = 2 then 2 else 1
  let e := fmtBytes (d.fmtA)
  let ek := fmtBytes (d.fmtB)
  let a := b2n d.acc
  let dim := d.tk
  if d.kind = 2 then d.tn / 32 * max (2 * dim * f) 128 + ceilDiv (4 * dim * e + a * (16 * dim + 32)) 32 + 8
  else match d.variant % 4 with
    | 0 => ceilDiv (4 * dim * (e + doBytes)) 32 + 8
    | 1 => d.tm / 32 * max (4 * dim * f + 8) 128 + ceilDiv (8 * dim * ek + a * 32 * dim) 32 + 8
    | _ => d.tn / 32 * max (3 * dim * f) 128 + ceilDiv (4 * dim * (e + doBytes) + a * 16 * dim + 32) 32 + 8

/-- Core cycles of one tile or iteration of an operation (Tables 5-5, 6-8, R227), `k` cycles per lane result. -/
def Desc.tileCycles (d : Desc) (k doBytes : Nat) : Nat :=
  match d.kind with
  | 0x01 | 0x08 => d.tk * (if d.fmtA = 2 then 2 else 1)
  | 0x02 | 0x03 => if d.kind = 2 && d.variant = 8 then 0 else d.attnCycles doBytes
  | 0x04 => ceilDiv (d.tm * d.tn) 64 * k
  | 0x0A => if d.variant = 0 || d.variant = 3 then ceilDiv (d.tm * d.tn) 1024 else if d.variant = 1 then 4 else 0
  | _ => 0

/-- Core cycles an operation adds once (Table 5-5, R185, R227). -/
def Desc.onceCycles (d : Desc) : Nat :=
  match d.kind with
  | 0x01 | 0x08 => ceilDiv (d.tk * fmtBytes (d.fmtA)) 8
  | 0x02 | 0x03 => if d.kind = 2 && d.variant = 8 then 0 else 40
  | 0x04 => 24
  | _ => 0

/-- Iterations of the loop nest (R142, R165, R224). -/
def Desc.iterations (d : Desc) (b : Bounds) : Nat :=
  match d.kind with
  | 0x01 | 0x08 => b.h * b.m * b.n * b.k
  | 0x02 => if d.variant = 8 then 1 else b.h * b.m * b.n
  | 0x03 => if d.variant % 4 = 0 then b.h * b.m else b.h * b.m * b.n
  | 0x04 => b.h * b.m * b.n
  | 0x05 | 0x06 | 0x09 => b.h * b.m
  | 0x0A => if d.variant = 1 then b.m else b.h * b.m
  | _ => 1

/-- Engine cycles over every tile the bounds give; FINISH adds 16 per row group (R185). -/
def Desc.cycles (d : Desc) (b : Bounds) (k : Nat) : Nat :=
  d.iterations b * d.tileCycles k (fmtBytes (d.fmtA)) + d.onceCycles +
    (if d.kind = 2 && d.variant % 2 = 1 then 16 * b.h * b.m else 0)

/-- An operand in HBM or host memory; one fed by handles counts as in a scratchpad (log entry 23). -/
def operandFar (addr : Nat) (handle : Bool) : Bool := !handle && decide (dvaSpace addr < 2)

/-- Bytes a per-byte kind moves, to or from HBM or host memory and otherwise (R388). -/
def Desc.moved (d : Desc) (b : Bounds) : Nat × Nat :=
  let all := b.h * b.m * d.tm * d.tn
  let farA := operandFar (d.addrA) d.handleA
  let farC := operandFar (d.addrC) d.handleC
  let one (far : Bool) (n : Nat) : Nat × Nat := if far then (n, 0) else (0, n)
  match d.kind with
  | 0x05 => one farA all
  | 0x06 => one farC all
  | 0x09 => if d.variant = 0 then one farA all else one farC all
  | 0x0A =>
    match d.variant with
    | 0 => if farA || farC then (all * (b2n farA + b2n farC), 0) else (0, all)
    | 1 => one farA (16 * b.m)
    | 2 => one farA 8
    | _ => one farC all
  | _ => (0, 0)

/-- The structural estimate in pJ (R388). -/
def Desc.structural (d : Desc) (b : Bounds) (k : Nat) : Nat :=
  let by_ := d.moved b
  if d.kind = 5 || d.kind = 6 || d.kind = 9 || d.kind = 10 then 6 * by_.1 + 2 * by_.2
  else (d.engines.map (fun e => d.cycles b k * d.cyclePj e)).foldl (· + ·) 0

/-- The estimate of an operation in 0.1 µJ (R387). -/
def State.estimate (p c : Nat) (d : Desc) (s : State) : Nat :=
  let b := s.peekBounds p c d
  if d.hint = 0 then pjUnits (d.structural b (s.funcCycles p (d.param % 32)))
  else ceilDiv (d.hint * (s.pwrp p).ratioOf (tillerDie (d.tiller)) (d.kind)) 256

/-! ### Spans and plan frames of an operation -/

/-- The span of a context. -/
def State.ctxSpan (p c : Nat) (s : State) : Option Span := s.ten.spans.find? (fun x => x.part == p && x.ctx == c)

/-- Kinds that name plan cells in PARAM. -/
def Desc.planned (d : Desc) : Bool := d.kind = 5 || d.kind = 6 || d.kind = 9

/-- The plan frame PARAM names. -/
def Desc.planFrame (d : Desc) : FrameNo := BitVec.ofNat 48 (d.param % 2 ^ 48)
/-- The flow PARAM names. -/
def Desc.flow (d : Desc) : Nat := d.param / 2 ^ 48 % 1024
/-- The planned operation sends rather than receives. -/
def Desc.sends (d : Desc) : Bool := d.kind = 5 || (d.kind = 9 && d.variant = 0)

/-- The frame an operation belongs to: the real frame of its plan frame, or the present one (R42, R235). -/
def State.belongs (p c : Nat) (d : Desc) (s : State) : FrameNo :=
  if d.planned then
    let rho := match s.ctxSpan p c with
      | some x => x.rho
      | none => 0
    d.planFrame + BitVec.ofNat 48 rho.toNat
  else s.frm.count

/-! ### Readiness (R147) -/

/-- Operations of a partition in flight. -/
def State.opsOf (p : Nat) (s : State) : List Op := s.seq.ops.filter (fun o => o.part == p)

/-- The job of a candidate. -/
def State.candJob (c : Cand) (s : State) : Option Job :=
  if c.copy then none else s.adm.jobs.find? (fun j => j.cmd.uid == c.uid)

/-- A fetched descriptor fails the static checks (R134). -/
def State.malformed (p : Nat) (c : Cand) (d : Desc) (s : State) : Bool :=
  match s.candJob c with
  | some j => (staticCheck p j.peak d s).isSome
  | none => false

/-- The die whose sequencer and translation cache fetch a partition's descriptors, whose TILLER is not known yet: W where
the partition holds rows there, else E. The spec does not say which (DESIGN CHOICE, log entry 115). -/
def State.fetchDie (p : Nat) (s : State) : Nat := if s.rowsOn p 0 = 0 then 1 else 0

/-- The die whose sequencer issues a candidate: its TILLER's (R133). A no-op whose TILLER lies on a die where the partition
has no rows retires where it was fetched (R134, log entry 115). -/
def State.candDie (p : Nat) (c : Cand) (d : Desc) (s : State) : Nat :=
  let t := tillerDie d.tiller
  if s.rowsOn p t = 0 && s.malformed p c d then s.fetchDie p else t

/-- Every earlier operation of a candidate's job has retired on both dies (R132, ORDERED). -/
def State.earlierRetired (c : Cand) (s : State) : Bool :=
  match s.candJob c with
  | none => true
  | some j => decide (c.index ≤ j.base) && (s.jobOps c.uid).all (fun o => decide (c.index ≤ o.index))

/-- The candidate's admission has taken effect (R91). -/
def State.admissionOpen (c : Cand) (s : State) : Bool :=
  match s.candJob c with
  | none => true
  | some j => !(j.admFrame.any (fun f => later f s.frm.count))

/-- A candidate of partition p on a die is ready (R147); `before` are the candidates ahead of it. -/
def State.ready (p die : Nat) (before : List Cand) (c : Cand) (s : State) : Bool :=
  let x := s.part p
  let f := s.frmp p
  match c.desc with
  | none => false
  | some d =>
    let bad := s.malformed p c d
    let last := match s.candJob c with
      | some j => c.index + 1 == j.count
      | none => false
    x.state = .running && !x.fencing && !x.resetting && (s.ctx p c.ctx).state = .live && s.admissionOpen c &&
      s.candDie p c d == die && (s.frm.phase = .work || s.frm.phase = .slack) &&
      decide (((s.opsOf p).filter (fun o => o.die == die)).length < 256 * s.rowsOn p die) &&
      ((!d.ordered && !last) || s.earlierRetired c) &&
      !(s.seqp p).fenceHold && !(s.opsOf p).any (fun o => o.desc.kind == 0x0B) &&
      before.all (fun b => b.desc.any (fun e => e.kind != 0x0B || s.malformed p b e)) &&
      (d.kind != 0x0B || bad || before.isEmpty) &&
      (!d.frameBound || bad || (s.synced && !f.spanHold && (if f.overran || f.waiting then !later (s.belongs p c.ctx d) f.overFrame
        else s.belongs p c.ctx d == s.frm.count)))

/-- Ready candidates of partition p on a die, in order, with their descriptors. -/
def State.readyList (p die : Nat) (s : State) : List (Cand × Desc) :=
  let go := (s.cands p).foldl (fun (acc : List Cand × List (Cand × Desc)) c =>
    (acc.1 ++ [c], match c.desc with
      | some d => if s.ready p die acc.1 c then acc.2 ++ [(c, d)] else acc.2
      | none => acc.2)) ([], [])
  go.2

/-- The estimate a candidate is charged: nothing for one that will retire as a no-op for its descriptor. -/
def State.candCost (p : Nat) (c : Cand) (d : Desc) (s : State) : Nat :=
  if s.malformed p c d then 0 else s.estimate p c.ctx d

/-- A candidate fits (R390). -/
def State.fits (p die : Nat) (c : Cand) (d : Desc) (s : State) : Bool :=
  decide (((s.candCost p c d : Nat) : Int) ≤ (s.pwrp p).bal die) || s.malformed p c d

/-- The locked operation of a partition on a die (R391). -/
def PwrPart.lock (die : Nat) (x : PwrPart) : Option (Nat × Nat) := if die = 0 then x.lockW else x.lockE

/-- A candidate is the locked one. -/
def isLocked (l : Option (Nat × Nat)) (c : Cand) : Bool := l == some (c.uid, c.index)

/-- The candidates that may issue: all, or the locked one and those before it. -/
def beforeLock (l : Option (Nat × Nat)) : List (Cand × Desc) → List (Cand × Desc)
  | [] => []
  | x :: t => if isLocked l x.1 then [x] else x :: beforeLock l t

/-- The consecutive frames, before the present one, that have passed a candidate over (R391). -/
def State.timesPassed (p : Nat) (c : Cand) (s : State) : Nat :=
  if c.copy then (((s.kvCopies p).find? (fun y => y.cmd.uid == c.uid)).map (·.passed)).getD 0
  else ((s.candJob c).bind (fun j => (j.passed.find? (fun x => x.1 == c.index)).map (·.2))).getD 0

/-- A candidate has been passed over in the present frame already. -/
def State.passedNow (p : Nat) (c : Cand) (s : State) : Bool :=
  if c.copy then (s.kvCopies p).any (fun y => y.cmd.uid == c.uid && y.passedNow)
  else (s.candJob c).any (fun j => j.passedNow.contains c.index)

/-- Marks one candidate passed over in this frame: a copy as the operation of a one-operation job (R197). -/
def State.markPassed (p : Nat) (c : Cand) (s : State) : State :=
  if c.copy then s.updCopies p (fun y => if y.cmd.uid == c.uid then { y with passedNow := true } else y)
  else s.updAdm (fun a => { a with
    jobs := a.jobs.map (fun x => if x.cmd.uid == c.uid then
      { x with passedNow := c.index :: x.passedNow, passedOver := x.passedOver + 1 } else x) })

/-- Marks ready candidates that did not fit as passed over, each once in a frame (R393). -/
def State.passOver (p : Nat) (cs : List Cand) (s : State) : State :=
  cs.foldl (fun s c =>
    if s.passedNow p c then s
    else (s.updPwrp p (fun x => { x with passed := satAdd x.passed 1 })).markPassed p c) s

/-! ### Fetch (R134) -/

/-- DESCRIPTOR_FETCH (R134): the first of the first 64 candidates whose descriptor has not been fetched is read with the
tag of its job. One that cannot be read fails the static checks' first row, and so retires as a no-op: it is entered as the
all-zero descriptor, whose KIND is reserved (log entry 100). A fault record would name slot 0, the operation having none
yet (log entry 115). -/
def opDescriptorFetch (p : Fin 16) (s : State) : State :=
  match (s.cands p.val).find? (fun c => c.desc.isNone) with
  | none => s
  | some c =>
    match s.candJob c with
    | none => s
    | some j =>
      let addr := j.list.toNat + 128 * c.index
      let w : Who := {
        die := s.fetchDie p.val, tag := BitVec.ofNat 10 (tagOf p.val c.ctx), ticket := c.ticket, slot := 0
        fetch := some (c.uid, c.index) }
      match s.readDva w addr 128 with
      | (s, .ok bs) => s.noteFetched c.uid c.index (BitVec.ofNat 1024 (ofBytesLE bs))
      | (s, .fault _) => s.noteFetched c.uid c.index 0
      | (s, .wait) => s

/-! ### Retirement (R133) -/

/-- The indices of a job after one more has issued. -/
def Job.markIssued (i : Nat) (j : Job) : Job :=
  let iss := i :: j.issued
  let base := ((List.range (iss.length + 1)).map (j.base + ·)).find? (fun k => !iss.contains k)
  let base := base.getD j.base
  { j with
    base := base, issued := iss.filter (fun k => decide (base ≤ k)), fetched := j.fetched.filter (fun f => f.1 != i)
    passed := j.passed.filter (fun f => f.1 != i), passedNow := j.passedNow.filter (fun k => k != i) }

/-- Counts a retirement and ends the job with its final operation, the job's commit point (R97, R132). -/
def State.countRetired (o : Op) (s : State) : State :=
  let s := s.updSeqp o.part (fun q => { q with retired := q.retired + 1, retiredNow := true })
  let s := if o.desc.frameBound && s.frm.phase = .slack then s.updFrmp o.part (fun f => { f with slackLate := true }) else s
  match o.job with
  | none =>
    match s.kv.get none o.part with
    | none => s
    | some k =>
      match k.copies.find? (fun y => y.op == some o.id) with
      | some y => s.copyDone o.part y
      | none => s
  | some uid =>
    let s := s.updAdm (fun a => { a with
      jobs := a.jobs.map (fun j => if j.cmd.uid == uid then { j with retired := j.retired + 1 } else j) })
    match s.adm.jobs.find? (fun j => j.cmd.uid == uid) with
    | none => s
    | some j =>
      if j.ending.isSome then s.endIfDrained uid
      else if o.index + 1 == j.count then s.endJob j .done .none
      else s

/-- An operation leaves flight: it settles, its engines go idle, and its retirement counts. -/
def State.retireOp (o : Op) (m : Nat) (s : State) : State :=
  let s := (s.settle o m true).updSeq (fun q => { q with ops := q.ops.filter (fun x => x.id != o.id) })
  (s.leaveFill o).countRetired o

/-- Retires an operation at issue as a no-op, its charge returned (R140); `err` counts it in `SEQ.STATUS.DESC_ERR`. -/
def State.noopOp (o : Op) (err : Bool) (s : State) : State :=
  let s := s.retireOp o 0
  if err then s.updSeqp o.part (fun q => { q with descErr := satAdd q.descErr 1 }) else s

/-! ### Issue -/

/-- Reads one bound at issue with the operation's tag (R139), once: an issue that resumes after a wait has what it read
before. -/
def State.readBound (o : Op) (i : Nat) (s : State) : State × Got Nat :=
  let b := o.desc.bound i
  match boundSrc b with
  | 0 => (s, .ok (boundVal b))
  | 1 =>
    match s.madeLine o.who with
    | some bs => (s.passLine o.who, .ok (ofBytesLE bs))
    | none =>
      let v := (s.boundReg o.part (boundVal b % 64)).toNat % 2 ^ 32
      (s.noteLine o.who (bytesLE 4 v), .ok v)
  | _ =>
    match s.readDva o.who (o.desc.boundAddr + 8 * (boundVal b % 2 ^ 16)) 8 with
    | (s, .ok bs) => (s, .ok (ofBytesLE bs % 2 ^ 32))
    | (s, .fault r) => (s, .fault r)
    | (s, .wait) => (s, .wait)

/-- Reads the four bounds once (R139). -/
def State.readBounds (o : Op) (s : State) : State × Got Bounds :=
  gotThen (s.readBound o 0) (fun m s => gotThen (s.readBound o 1) (fun n s => gotThen (s.readBound o 2) (fun k s =>
    gotThen (s.readBound o 3) (fun h s => (s, .ok { m := m, n := n, k := k, h := h })))))

/-- What a kind makes of an issue: it goes into flight with words of its own, or retires as a no-op that counts in
`SEQ.STATUS.DESC_ERR`. -/
inductive Start where
  | go (params : List Nat)
  | bad
  deriving DecidableEq, Repr

/-- The attention record is within its ranges (R163, Table 6-2). -/
def recordOk (d : Desc) (r : BitVec 512) : Bool :=
  let fwd := d.kind = 2
  let dkv := d.kind = 3 && d.variant % 4 = 1
  let mask := if fwd then d.variant / 2 % 4 else d.variant / 4
  let scale := fld r 32 32
  let group := fld r 240 8
  fld r 0 32 % 32 == 0 && scale / 2 ^ 23 % 256 != 255 && scale % 2 ^ 31 != 0 && decide (1 ≤ group) && decide (group ≤ 64) &&
    !(mask = 2 && fld r 192 32 = 0) && fld r 248 8 == 0 && fld r 310 10 == 0 && fld r 352 32 == 0 && fld r 436 12 == 0 &&
    fld r 500 12 == 0 && (if fwd then fld r 256 54 == 0 && fld r 320 32 == 0
      else !fmtPairBad (d.fmtA) (fld r 308 2) && fld r 320 32 % 32 == 0) &&
    (dkv || fld r 384 52 == 0) && (fwd || fld r 448 52 == 0) &&
    (fld r 448 52 = 0 || !d.handleB)

/-- What the package knows of a flow's ends: from the tables of a span led here, else from the declarations its members
forwarded; none when it holds no record of the flow (log entry 24). -/
def State.flowEnds (span : BitVec 16) (num : Nat) (s : State) : Option (Nat × Nat) :=
  match s.pln.leads.find? (fun l => l.span == span) with
  | some l => ((l.flows.find? (fun f => f.num == num)).map (fun f => (f.src, f.dst))) <|>
      ((s.pln.declared.find? (fun d => d.span == span && d.num == num)).map (fun d => (d.src, d.dst)))
  | none => (s.pln.declared.find? (fun d => d.span == span && d.num == num)).map (fun d => (d.src, d.dst))

/-- The source and destination of a flow: as the package knows them, else free values, since the spec does not say how a
member learns the ends of a flow another member declared (DESIGN CHOICE, log entry 24). -/
def State.endsOf (span : BitVec 16) (num : Nat) (s : State) : (Nat × Nat) × State :=
  match s.flowEnds span num with
  | some e => (e, s)
  | none =>
    let n := s.takeFree
    ((Config.flowSource n.1 span.toNat num % 128, Config.flowDestination n.1 span.toNat num % 128), n.2)

/-- A communication queue. -/
def State.commq (p q : Nat) (s : State) : Option Commq := s.red.queues.find? (fun x => x.part == p && x.queue == q)

/-- Changes a communication queue. -/
def State.updCommq (p q : Nat) (f : Commq → Commq) (s : State) : State :=
  s.updRed (fun r => { r with queues := r.queues.map (fun x => if x.part == p && x.queue == q then f x else x) })

/-- Enters a reduction in a communication queue under its next sequence number (R284). -/
def Commq.enter (r : Reduction) (q : Commq) : Commq :=
  { q with reds := q.reds ++ [{ r with seq := q.nextSeq }], nextSeq := q.nextSeq + 1 }

/-- The checks and latches a kind makes at issue once its bounds are read (R163, R178, R211, R259, R283, R288). -/
def State.startKind (o : Op) (b : Bounds) (s : State) : State × Got Start :=
  let d := o.desc
  let p := o.part
  match d.kind with
  | 0x02 | 0x03 =>
    if d.kind = 2 && d.variant = 8 then (s, .ok (if 65536 < b.m then .bad else .go []))
    else gotThen (s.readDva o.who (d.param % 2 ^ 52) 64) (fun bs s =>
      let r := BitVec.ofNat 512 (ofBytesLE bs)
      (s, .ok (if recordOk d r then .go [r.toNat] else .bad)))
  | 0x04 =>
    let keys := s.funcSlots p (d.param % 32)
    if keys.all (fun k => (s.sfuSlot k).loaded) then
      (s, .ok (.go (keys.map (fun k => 2 * k + b2n (s.sfuSlot k).active))))
    else (s, .ok .bad)
  | 0x05 | 0x06 | 0x09 =>
    let span := (s.ctxSpan p o.ctx).map (·.id)
    match span with
    | none => (s, .ok .bad)
    | some id =>
      let e := s.endsOf id (d.flow)
      let ok := if d.sends then e.1.1 == s.self else e.1.2 == s.self
      (e.2, .ok (if ok then .go [id.toNat, e.1.2] else .bad))
  | 0x07 => (s, .ok (if (s.commq p (d.param % 16)).isSome then .go [] else .bad))
  | 0x08 =>
    match s.commq p (d.param % 16) with
    | none => (s, .ok .bad)
    | some q =>
      if 64 ≤ q.reds.length then (s, .wait)
      else
        let r : Reduction := {
          seq := 0, user := BitVec.ofNat 32 (fld d 992 32), src := BitVec.ofNat 64 (d.addrC)
          dst := BitVec.ofNat 64 (d.addrD), chaffDva := 0, len := b.h * b.m * b.n * d.tm * d.tn, fused := some o.id
          desc := d, bounds := [b.m, b.n, b.k, b.h] }
        (s.updCommq p (d.param % 16) (fun q => q.enter r), .ok (.go [q.nextSeq]))
  | _ => (s, .ok (.go []))

/-- The sequencer slots of a die that operations hold (R133). -/
def State.slotsHeld (die : Nat) (s : State) : List Nat :=
  (s.seq.ops.filter (fun o => o.die == die)).map (fun o => o.slot.toNat)

/-- The slots of a partition on a die: 256 for each of its tiller rows there (R146). Slot 256·r + i is slot i of die row
r (log entry 118). -/
def State.slotAt (p die i : Nat) (s : State) : Nat :=
  let rows := (List.range 8).filter (fun r => bit (s.part p).rows (8 * die + r))
  256 * rows.getD (i / 256 % rows.length) 0 + i % 256

/-- The first free slot of a partition's share on a die from a place on, among one more than are held. -/
def State.freeSlot (p die : Nat) (held : List Nat) : Nat → Nat → State → Nat
  | 0, start, s => s.slotAt p die start
  | n + 1, start, s =>
    if held.contains (s.slotAt p die start) then State.freeSlot p die held n (start + 1) s else s.slotAt p die start

/-- Puts an operation in flight. -/
def State.putOp (o : Op) (s : State) : State :=
  s.updSeq (fun q => { q with
    ops := if q.ops.any (fun x => x.id == o.id) then q.ops.map (fun x => if x.id == o.id then o else x) else q.ops ++ [o] })

/-- Reads the bounds and the kind's words of an issued operation, once each: it goes to its engines, retires as a no-op
(R140) or faults. While a read waits for a translation the operation keeps its slot and charge. -/
def State.bindOp (id : Nat) (s : State) : State :=
  match s.op? id with
  | none => s
  | some o =>
    match (s.updOp id (fun o => { o with cursor := 0 })).readBounds o with
    | (s, .wait) => s
    | (s, .fault r) => s.killStart r none
    | (s, .ok b) =>
      let o := { o with m := b.m, n := b.n, k := b.k, h := b.h, binding := false, started := o.desc.engines.isEmpty }
      if b.zero then s.noopOp o false
      else match s.startKind o b with
        | (s, .wait) => s
        | (s, .fault r) => s.killStart r none
        | (s, .ok .bad) => s.noopOp o true
        | (s, .ok (.go ps)) => s.putOp { o with params := ps, lines := [], cursor := 0 }

/-- What an issue takes at once (R148): the charge, the lock it held, the turn of its die, and the candidate itself. -/
def State.charge (p die : Nat) (c : Cand) (o : Op) (oversize : Bool) (s : State) : State :=
  let s := s.updSeq (fun q => { q with nextOp := q.nextOp + 1 })
  let s := s.updPwrp p (fun x =>
    let x := x.addBal die (-(o.charge : Int))
    let x := if isLocked (x.lock die) c then (if die = 0 then { x with lockW := none } else { x with lockE := none }) else x
    if oversize then { x with oversize := satAdd x.oversize 1 } else x)
  let s := s.updPwr (fun w => if die = 0 then { w with rrW := (p + 1) % 16 } else { w with rrE := (p + 1) % 16 })
  if c.copy then s.updCopies p (fun y => if y.cmd.uid == c.uid then { y with op := some o.id } else y)
  else s.updAdm (fun a => { a with jobs := a.jobs.map (fun j => if j.cmd.uid == c.uid then j.markIssued c.index else j) })

/-- Issues a candidate (R139, R140, R148): a slot and the charge are taken, then bounds and the kind's words are read; a
malformed descriptor retires as a no-op (R134). -/
def State.issue (p die : Nat) (c : Cand) (d : Desc) (oversize : Bool) (s : State) : State :=
  let cost := s.candCost p c d
  let bad := s.malformed p c d
  let n := s.takeFree
  let s := n.2
  let slot := BitVec.ofNat 12 (s.freeSlot p die (s.slotsHeld die) s.seq.ops.length (Config.slotPick n.1))
  let o : Op := {
    id := s.seq.nextOp, die := die, part := p, ctx := c.ctx, job := if c.copy then none else some c.uid, ticket := c.ticket
    index := c.index, slot := slot, desc := d, charge := cost, issued := s.frm.count, belongs := s.belongs p c.ctx d
    binding := true }
  let s := (s.charge p die c o oversize).putOp o
  if bad then s.noopOp o true else s.bindOp o.id

/-- The issued operations of a die whose reads have waited try them again (R139, R148). -/
def State.bindWaiting (die : Nat) (s : State) : State :=
  (s.seq.ops.filter (fun o => o.die == die && o.binding && !o.loopsDone)).foldl (fun s o => s.bindOp o.id) s

/-- Serves one partition on a die by R390: the ready candidates ahead of a choice that did not fit are passed over. -/
def State.servePart (p die : Nat) (s : State) : State × Option (Cand × Desc) :=
  let rs := beforeLock ((s.pwrp p).lock die) (s.readyList p die)
  let locked := rs.find? (fun x => isLocked ((s.pwrp p).lock die) x.1 && s.fits p die x.1 x.2)
  let pick := locked <|> rs.find? (fun x => s.fits p die x.1 x.2)
  let miss := (rs.filter (fun x => !s.fits p die x.1 x.2)).map (·.1)
  (s.passOver p miss, pick)

/-- Round robin over the partitions of a die from a pointer. -/
def State.serveDie (die : Nat) : List Nat → State → State
  | [], s => s
  | p :: ps, s =>
    match s.servePart p die with
    | (s, some x) => s.issue p die x.1 x.2 false
    | (s, none) => State.serveDie die ps s

/-- OPERATION_ISSUE (R390): one issue on a die; operations issued before whose bounds are still being read go on with
that. -/
def opOperationIssue (die : Die) (s : State) : State :=
  let s := s.bindWaiting die.num
  let r := if die.num = 0 then s.pwr.rrW else s.pwr.rrE
  State.serveDie die.num ((List.range 16).map (fun i => (r + i) % 16)) s

/-- OVERSIZE_ISSUE (R392): the locked or oldest ready candidate, its estimate above the die's load, issues when nothing of
the partition is in flight on the die, the balance is not negative, and it has been passed over before a commit instant. -/
def opOversizeIssue (die : Die) (p : Fin 16) (s : State) : State :=
  let d := die.num
  let rs := s.readyList p.val d
  let x := s.pwrp p.val
  match (rs.find? (fun r => isLocked (x.lock d) r.1)) <|> rs.head? with
  | none => s
  | some r =>
    if x.load d < s.candCost p.val r.1 r.2 && s.timesPassed p.val r.1 != 0 && decide (0 ≤ x.bal d) &&
        (s.opsOf p.val).all (fun o => o.die != d) then
      s.issue p.val d r.1 r.2 true
    else s

/-! ### Handle queues (R150 to R152) -/

/-- Handles a queue holds. -/
def queueDepth : Nat := 64

/-- A handle queue, oldest first. -/
def State.queue (key : Nat) (s : State) : List Handle := s.seq.queues.get [] key

/-- Replaces a handle queue; a handle has moved on it (R153). -/
def State.setQueue (p key : Nat) (l : List Handle) (s : State) : State :=
  (s.updSeq (fun q => { q with queues := q.queues.put key l })).updSeqp p (fun q => { q with movedNow := true })

/-- A queue access outside the operation's partition (Table 4-5, kind 0x0D): a push is a write. -/
def Op.queueFault (o : Op) (push : Bool) : FaultRec := o.who.fault .tagMismatch 0x0D push 0 0

/-- The queue reference whose head an operation waits to pop. -/
def Op.popRef (o : Op) : Option Nat :=
  match o.waits with
  | .in0 :: _ => some o.desc.in0
  | .in1 :: _ => some o.desc.in1
  | .free :: _ => some o.desc.free
  | _ => none

/-- The queue reference and the handle that an operation waits to push. -/
def Op.pushOf (o : Op) : Option (Nat × Handle) :=
  match o.waits with
  | .push ref h :: _ => some (ref.toNat, h)
  | .out ref h _ :: _ => some (ref.toNat, h)
  | _ => none

/-- A reference names a queue of the operation's partition. -/
def State.ownQueue (o : Op) (ref : Nat) (s : State) : Bool := s.rowOwner (qRow ref) == some o.part

/-- Pops of one queue are served in issue order (R152): no operation issued earlier waits for a handle of it. -/
def State.popTurn (o : Op) (ref : Nat) (s : State) : Bool :=
  s.seq.ops.all (fun x => decide (o.id ≤ x.id) ||
    !(x.popRef.any (fun r => qKey r == qKey ref && s.ownQueue x r)))

/-- The order of pushes to one queue: by tiller, then MAC, SFU, move (R152). -/
def Op.pushRank (o : Op) : Nat := 4 * o.desc.tiller + o.desc.engines.headD 3

/-- No push to the queue comes before the operation's (R152). -/
def State.pushTurn (o : Op) (ref : Nat) (s : State) : Bool :=
  s.seq.ops.all (fun x =>
    decide (o.pushRank < x.pushRank) || (o.pushRank == x.pushRank && decide (o.id ≤ x.id)) ||
      !(x.pushOf.any (fun r => qKey r.1 == qKey ref && s.ownQueue x r.1)))

/-- Takes the popped handle into the place the operation wanted it for. -/
def Op.popped (h : Handle) (o : Op) : Op :=
  match o.waits with
  | .in0 :: ws => { o with h0 := some h, waits := ws }
  | .in1 :: ws => { o with h1 := some h, waits := ws }
  | .free :: ws => { o with hc := some h, waits := ws }
  | _ => o

/-- HANDLE_POP (R151): the pop an operation waits for, once its queue holds a handle and its turn has come; a queue outside
the partition fails the tag check. -/
def opHandlePop (id : Nat) (s : State) : State :=
  match s.op? id with
  | none => s
  | some o =>
    match o.popRef with
    | none => s
    | some ref =>
      if !s.ownQueue o ref then s.killStart (o.queueFault false) none
      else if !s.popTurn o ref then s
      else match s.queue (qKey ref) with
        | [] => s
        | h :: t => (s.setQueue o.part (qKey ref) t).updOp id (Op.popped h)

/-- HANDLE_PUSH (R151): the push an operation waits for, once its queue has room and its turn has come; a queue outside
the partition fails the tag check and the handle is dropped. -/
def opHandlePush (id : Nat) (s : State) : State :=
  match s.op? id with
  | none => s
  | some o =>
    match o.pushOf with
    | none => s
    | some (ref, h) =>
      let key := qKey ref
      if !s.ownQueue o ref then s.killStart (o.queueFault true) none
      else if s.pushTurn o ref && decide ((s.queue key).length < queueDepth) then
        (s.setQueue o.part key (s.queue key ++ [h])).updOp id (fun o => { o with waits := o.waits.drop 1 })
      else s

/-! ### Retirement of operations in flight -/

/-- The retirement conditions a kind adds: a send has no bytes left to send, a fence has no older operation in flight (R133,
R158). A fused operation hands each buffer over when it is full and the last one when its loops end (R288). -/
def State.mayRetire (o : Op) (s : State) : Bool :=
  if o.desc.kind = 0x0B then (s.opsOf o.part).all (fun x => decide (o.id ≤ x.id))
  else s.pln.sends.all (fun x => x.1 != o.id || x.2.bytes.isEmpty)

/-- What a retirement does beside: a bound load writes its register; a fence empties the partition's queues, counts what
they held and holds issue until the next commit instant (R141, R158, R159). -/
def State.retireEffect (o : Op) (s : State) : State :=
  if o.desc.kind = 0x0A && o.desc.variant = 2 then
    match o.params with
    | v :: _ => s.setBound o.part (o.desc.param % 64) (BitVec.ofNat 64 v)
    | [] => s
  else if o.desc.kind = 0x0B then
    let mine := s.seq.queues.filter (fun q => s.ownsQueue o.part q.1)
    let n := (mine.map (fun q => q.2.length)).foldl (· + ·) 0
    let s0 := s
    let s := s.updSeq (fun q => { q with queues := q.queues.filter (fun x => !s0.ownsQueue o.part x.1) })
    s.updSeqp o.part (fun q => { q with fenceLeft := satAdd q.fenceLeft n, fenceHold := true })
  else s

/-- OPERATION_RETIRE (R133): its loops, writes and pushes are done. -/
def opOperationRetire (id : Nat) (s : State) : State :=
  match s.op? id with
  | none => s
  | some o =>
    if o.loopsDone && o.waits.isEmpty && s.mayRetire o then
      let n := s.takeFree
      let m := measured s.pwr.hottest.toNat (Config.heldExtra n.1) o
      let s := n.2.retireEffect o
      (s.updPln (fun p => { p with sends := p.sends.filter (fun x => x.1 != o.id) })).retireOp o (if o.desc.engines.isEmpty then 0 else m)
    else s

/-- LAYER_FENCE (R158): its loops are complete from the start; it retires once every older operation of the partition
has. -/
def opLayerFence (id : Nat) (s : State) : State :=
  match s.op? id with
  | none => s
  | some o => if o.desc.kind = 0x0B then s.updOp id (fun o => { o with loopsDone := true }) else s

/-! ### Meanings of the rows -/

/-- OPERATION_ISSUE (R390). -/
def execOperationIssue (die : Die) (s : State) : Host.Outcome State Fault Refusal :=
  .next (s.whenClocked (opOperationIssue die s))

/-- OVERSIZE_ISSUE (R392). -/
def execOversizeIssue (die : Die) (p : Fin 16) (s : State) : Host.Outcome State Fault Refusal :=
  .next (s.whenClocked (opOversizeIssue die p s))

/-- DESCRIPTOR_FETCH (R134). -/
def execDescriptorFetch (p : Fin 16) (s : State) : Host.Outcome State Fault Refusal :=
  .next (s.whenClocked (opDescriptorFetch p s))

/-- LAYER_FENCE (R158). -/
def execLayerFence (id : Nat) (s : State) : Host.Outcome State Fault Refusal :=
  .next (s.whenClocked (opLayerFence id s))

/-- HANDLE_POP (R151). -/
def execHandlePop (id : Nat) (s : State) : Host.Outcome State Fault Refusal :=
  .next (s.whenClocked (opHandlePop id s))

/-- HANDLE_PUSH (R151). -/
def execHandlePush (id : Nat) (s : State) : Host.Outcome State Fault Refusal :=
  .next (s.whenClocked (opHandlePush id s))

/-- OPERATION_RETIRE (R133). -/
def execOperationRetire (id : Nat) (s : State) : Host.Outcome State Fault Refusal :=
  .next (s.whenClocked (opOperationRetire id s))

end Sys2Proof.Machine
end

