-- ==== Sys2Proof/Machine/Tile.lean ====
section
/-! DEFINITION. What engines do tile by tile: the shared form of one iteration with its handles (R142, R151), the tile
multiply (R143, R144) and the copy variants (Table 5-5). A command of these rows is one iteration of the operation. -/

namespace Sys2Proof.Machine

open Sys2Proof

/-! ### One iteration -/

/-- One iteration of an operation whose engines run: the handles it needs are waited for first, then it computes; a
fault kills the context. A line that waits for a translation stops the iteration there: the lines before it are done, and
the next command of the row goes on behind them (R108). -/
def State.runTile (id : Nat) (mine : Op → Bool) (pops : Op → List QueueWait) (f : Op → State → State × Got Op)
    (s : State) : State :=
  match s.op? id with
  | none => s
  | some o =>
    if !(mine o && o.started && !o.loopsDone && o.waits.isEmpty) then s
    else match pops o with
      | w :: ws => s.updOp id (fun o => { o with waits := w :: ws })
      | [] =>
        match f o (s.updOp id (fun o => { o with cursor := 0 })) with
        | (s, .ok o') => s.updOp id (fun _ => { o' with lines := [], cursor := 0 })
        | (s, .fault r) => s.killStart r none
        | (s, .wait) => s

/-- The input handles an iteration still needs (R151). -/
def Op.needsInputs (o : Op) : List QueueWait :=
  (if qUse (o.desc.in0) && o.h0.isNone then [.in0] else []) ++ (if qUse (o.desc.in1) && o.h1.isNone then [.in1] else [])

/-- The free buffer an output tile needs (R151). -/
def Op.needsFree (o : Op) : List QueueWait :=
  if o.desc.handleC && qUse (o.desc.free) && o.hc.isNone then [.free] else []

/-- The next free handle, where the spec gives a handle no value. -/
def State.freeHandle (s : State) : Handle × State :=
  let n := s.takeFree
  (Handle.ofNat (Config.freeHandle n.1).toNat, n.2)

/-- The address of an operand: its tile address, or the popped handle's BASE plus ADDR_x (R142). -/
def State.operand (fed : Bool) (h : Option Handle) (addr tile : Nat) (s : State) : Nat × State :=
  if !fed then (tile, s)
  else match h with
    | some h => (h.base.toNat + addr, s)
    | none =>
      let f := s.freeHandle
      (f.1.base.toNat + addr, f.2)

/-- Counts engine cycles of an iteration, and what the operation adds once with its first. -/
def Op.spend (cycles : Nat) (o : Op) : Op :=
  { o with cyc := o.cyc + cycles + (if o.iter = 0 then o.desc.onceCycles else 0) }

/-- The returns of the input handles of an iteration (R151). -/
def Op.returns (o : Op) : List QueueWait :=
  if o.desc.keepIn then [] else (o.h0.toList ++ o.h1.toList).flatMap Handle.homeward

/-- The handle pushed to OUT when an output tile completes: the free buffer's BASE and HOME, the tile's extent in lines,
the operation's tag, and the IN0 handle's INDEX or the output tile's number (R151). -/
def State.outHandle (o : Op) (ext seq : Nat) (s : State) : Handle × State :=
  let f := match o.hc with
    | some h => (h, s)
    | none => s.freeHandle
  let index := match o.h0 with
    | some h => h.index
    | none => BitVec.ofNat 16 seq
  ({ base := f.1.base, lines := BitVec.ofNat 20 (ceilDiv ext 64), tag := BitVec.ofNat 10 (tagOf o.part o.ctx)
     home := f.1.home, index := index }, f.2)

/-- Ends an iteration: input handles go home, a completed output tile's handle goes to OUT where OUT is in use, and the
loops are done after the last iteration. Where OUT is not in use, the spec does not say what becomes of a popped free
buffer; the model returns it to its HOME queue (DESIGN CHOICE, log entry 117). -/
def State.endTile (o : Op) (output : Option Nat) (last : Bool) (s : State) : State × Got Op :=
  let done (o : Op) (push : List QueueWait) : Op := { o with
    waits := o.returns ++ push, h0 := none, h1 := none, iter := o.iter + 1, loopsDone := last }
  match output with
  | none => (s, .ok (done o []))
  | some ext =>
    let clear (o : Op) : Op := { o with hc := none, progress := o.progress + 1 }
    if qUse (o.desc.out) then
      let h := s.outHandle o ext o.progress
      (h.2, .ok (clear (done o [.out (BitVec.ofNat 10 o.desc.out) h.1 o.hc])))
    else (s, .ok (clear (done o (o.hc.toList.flatMap Handle.homeward))))

/-! ### Tile multiply (R143) -/

/-- Accumulators kept in the operation, by rows. -/
def Op.accRows (rows cols : Nat) (o : Op) : List (List Fv) := (chunks cols rows o.acc).map (fun r => r.map ofF32)

/-- The FP32 words of rows of accumulators. -/
def packRows (rs : List (List Fv)) : List (BitVec 32) := rs.flatMap (fun r => r.map toF32)

/-- Reads the tile of an operand as rows of elements. -/
def State.readTile (o : Op) (code rows cols stride a : Nat) (s : State) : State × Got (List (List Fv)) :=
  gotThen (s.readRows o.who stride (cols * fmtBytes code) rows a []) (fun rs s => (s, .ok (rs.map (rowElems code cols))))

/-- Where an iteration of a tile multiply stands. -/
structure MulAt where
  h : Nat
  m : Nat
  n : Nat
  k : Nat
  a : Nat
  b : Nat
  c : Nat
  first : Bool
  last : Bool
  deriving DecidableEq, Repr

/-- The indices and addresses of the present iteration of a tile multiply. -/
def State.mulAt (o : Op) (s : State) : MulAt × State :=
  let d := o.desc
  let i := loopIndex (d.loopOrder) o.m o.n o.k o.iter
  let a := s.operand d.handleA o.h0 (d.addrA) (d.tileA i.1 i.2.1 i.2.2.2)
  let b := a.2.operand d.handleB o.h1 (d.addrB) (d.tileB i.1 i.2.2.2 i.2.2.1)
  let c := b.2.operand d.handleC o.hc (d.addrC) (d.tileC i.1 i.2.1 i.2.2.1)
  ({ h := i.1, m := i.2.1, n := i.2.2.1, k := i.2.2.2, a := a.1, b := b.1, c := c.1
     first := i.2.2.2 == 0, last := i.2.2.2 + 1 == o.k }, c.2)

/-- Handles an iteration of a tile multiply needs: inputs for every tile, the free buffer at the first k tile. -/
def Op.mulPops (o : Op) : List QueueWait :=
  let i := loopIndex (o.desc.loopOrder) o.m o.n o.k o.iter
  o.needsInputs ++ (if i.2.2.2 = 0 then o.needsFree else [])

/-- The accumulators an iteration starts from: zeros or C at the first k tile, those kept where K is innermost, else C
again (R143). -/
def State.startAcc (o : Op) (t : MulAt) (s : State) : State × Got (List (List Fv)) :=
  let d := o.desc
  if t.first && !d.acc then (s, .ok (List.replicate (d.tm) (List.replicate (d.tn) Fv.zero)))
  else if t.first || decide (2 ≤ d.loopOrder) then s.readTile o (d.fmtC) (d.tm) (d.tn) (d.strideC) t.c
  else (s, .ok (o.accRows (d.tm) (d.tn)))

/-- Loads A into the florets' stationary registers, broadcasts B, multiplies and accumulates: one tile of the product
(R19, R143). -/
def State.mulCompute (o : Op) (t : MulAt) (s : State) : State × Got (List (List Fv)) :=
  let d := o.desc
  gotThen (s.readRows o.who (d.strideA) (d.tk * fmtBytes d.fmtA) (d.tm) t.a []) (fun rows s =>
    gotThen ((s.loadFlorets d.tiller rows).readTile o (d.fmtB) (d.tk) (d.tn) (d.strideB) t.b) (fun b s =>
      gotThen (s.startAcc o t) (fun c s =>
        (s, .ok (macTile ((s.florets d.tiller).map (rowElems d.fmtA d.tk)) b c)))))

/-- What an iteration of a tile multiply counts beside C. -/
def Op.mulTally (t : MulAt) (o : Op) : Op :=
  let d := o.desc
  ((o.tally t.a (d.tm * d.tk * fmtBytes (d.fmtA))).tally t.b (d.tk * d.tn * fmtBytes (d.fmtB))).spend (d.tileCycles 0 0)

/-- An iteration of a tile multiply: C is converted and written when its last k tile completes, and after every k tile
where K is not innermost. -/
def State.mulTile (o : Op) (s : State) : State × Got Op :=
  let d := o.desc
  let t := s.mulAt o
  let pos := t.1
  let size := d.tm * d.tn * fmtBytes (d.fmtC)
  let reread := decide (2 ≤ d.loopOrder)
  let lastIter := decide (o.h * o.m * o.n * o.k ≤ o.iter + 1)
  gotThen (t.2.mulCompute o pos) (fun c s =>
    let o1 := o.mulTally pos
    let o1 := if (pos.first && d.acc) || (!pos.first && reread) then o1.tally pos.c size else o1
    if pos.last || reread then
      gotThen (s.writeRows o.who (d.strideC) pos.c (c.map (rowBytes (d.fmtC)))) (fun _ s =>
        s.endTile { o1.tally pos.c size with acc := [] }
          (if pos.last then some (extent (d.tm) (d.strideC) (d.tn * fmtBytes (d.fmtC))) else none) lastIter)
    else s.endTile { o1 with acc := packRows c } none lastIter)

/-- TILE_MULTIPLY (R143): one iteration of a tile multiply. -/
def opTileMultiply (id : Nat) (s : State) : State := s.runTile id (fun o => o.desc.kind == 0x01) Op.mulPops State.mulTile

/-! ### Copies (Table 5-5) -/

/-- The operation is a copy of a variant. -/
def Op.isCopy (v : Nat) (o : Op) : Bool := o.desc.kind == 0x0A && o.desc.variant == v

/-- The outer index and the tile of an iteration of a copy. -/
def Op.copyAt (o : Op) : Nat × Nat := (o.iter / o.m, o.iter % o.m)

/-- The handles an iteration of a copy needs. -/
def Op.copyPops (o : Op) : List QueueWait := o.needsInputs ++ o.needsFree

/-- The tile of C of a copy: TM rows of TN bytes whatever the formats (R492). -/
def State.copyOut (o : Op) (rows : List (List Byte)) (s : State) : State × Got Op :=
  let d := o.desc
  let i := o.copyAt
  let c := s.operand d.handleC o.hc (d.addrC) (d.tileC i.1 i.2 0)
  gotThen (c.2.writeRows o.who (d.strideC) c.1 rows) (fun _ s =>
    s.endTile ((o.tally c.1 (d.tm * d.tn)).spend (d.tileCycles 0 0)) (some (extent (d.tm) (d.strideC) (d.tn)))
      (decide (o.h * o.m ≤ o.iter + 1)))

/-- An iteration of a data copy. -/
def State.copyTile (o : Op) (s : State) : State × Got Op :=
  let d := o.desc
  let i := o.copyAt
  let a := s.operand d.handleA o.h0 (d.addrA) (d.tileA i.1 i.2 0)
  gotThen (a.2.readRows o.who (d.strideA) (d.tn) (d.tm) a.1 []) (fun rows s =>
    s.copyOut (o.tally a.1 (d.tm * d.tn)) rows)

/-- COPY_DATA (Table 5-5): one tile of a data copy. -/
def opCopyData (id : Nat) (s : State) : State := s.runTile id (Op.isCopy 0) Op.copyPops State.copyTile

/-- COPY_ZERO_FILL (Table 5-5): one tile of zeros. -/
def opCopyZeroFill (id : Nat) (s : State) : State :=
  s.runTile id (Op.isCopy 3) Op.needsFree (fun o s =>
    s.copyOut o (List.replicate (o.desc.tm) (List.replicate (o.desc.tn) 0)))

/-- COPY_HANDLE_LOAD (Table 5-5): one handle is read and pushed to OUT with the operation's tag. -/
def opCopyHandleLoad (id : Nat) (s : State) : State :=
  s.runTile id (Op.isCopy 1) (fun _ => []) (fun o s =>
    let a := o.desc.addrA + 16 * o.iter
    gotThen (s.readDva o.who a 16) (fun bs s =>
      let h := { Handle.ofNat (ofBytesLE bs) with tag := BitVec.ofNat 10 (tagOf o.part o.ctx) }
      let o := (o.tally a 16).spend (o.desc.tileCycles 0 0)
      (s, .ok { o with
        waits := if qUse (o.desc.out) then [.out (BitVec.ofNat 10 o.desc.out) h none] else []
        iter := o.iter + 1, loopsDone := decide (o.m ≤ o.iter + 1) })))

/-- COPY_BOUND_LOAD (Table 5-5): the word is read; it reaches its bound register at the retirement (R141). -/
def opCopyBoundLoad (id : Nat) (s : State) : State :=
  s.runTile id (Op.isCopy 2) (fun _ => []) (fun o s =>
    let a := o.desc.addrA
    gotThen (s.readDva o.who a 8) (fun bs s =>
      (s, .ok { o.tally a 8 with params := [ofBytesLE bs], iter := o.iter + 1, loopsDone := true })))

/-! ### Meanings of the rows -/

/-- TILE_MULTIPLY (R143). -/
def execTileMultiply (id : Nat) (s : State) : Host.Outcome State Fault Refusal :=
  .next (s.whenClocked (opTileMultiply id s))

/-- COPY_DATA (R144). -/
def execCopyData (id : Nat) (s : State) : Host.Outcome State Fault Refusal :=
  .next (s.whenClocked (opCopyData id s))

/-- COPY_HANDLE_LOAD (R144). -/
def execCopyHandleLoad (id : Nat) (s : State) : Host.Outcome State Fault Refusal :=
  .next (s.whenClocked (opCopyHandleLoad id s))

/-- COPY_BOUND_LOAD (R144). -/
def execCopyBoundLoad (id : Nat) (s : State) : Host.Outcome State Fault Refusal :=
  .next (s.whenClocked (opCopyBoundLoad id s))

/-- COPY_ZERO_FILL (R144). -/
def execCopyZeroFill (id : Nat) (s : State) : Host.Outcome State Fault Refusal :=
  .next (s.whenClocked (opCopyZeroFill id s))

end Sys2Proof.Machine
end

