-- ==== Sys2Proof/Machine/Attn.lean ====
section
/-! DEFINITION. The iterations of the attention kinds (06): the forward pass (R167, R168), the backward passes (R175,
R176) and the length-bucket sort (R178); and the special-function pass (R224, R225). A command of these rows is one
iteration of the operation. -/

namespace Sys2Proof.Machine

open Sys2Proof

/-- The end of an iteration: the key tile's handle goes home after its last m, and the loops are done after the last
iteration (R165). -/
def Op.attnEnd (total : Nat) (o : Op) : Op :=
  let lastM := o.attnIndex.2.2 + 1 == o.m
  { o with
    waits := if lastM then o.returns else [], h1 := if lastM then none else o.h1
    iter := o.iter + 1, loopsDone := decide (total ≤ o.iter + 1) }

/-- The key tile's handle of an iteration: a handle the spec gives no value where IN1 is not in use. -/
def State.keyHandle (o : Op) (s : State) : Op × State :=
  if o.desc.handleB && o.h1.isNone then
    let f := s.freeHandle
    ({ o with h1 := some { f.1 with home := 0 } }, f.2)
  else (o, s)

/-- Every subtile of a tile done. -/
def Desc.allSubtiles (d : Desc) (_ : Nat) : Nat := max d.tm d.tn

/-- An iteration of the forward pass. -/
def State.fwdTile (o : Op) (s : State) : State × Got Op :=
  let d := o.desc
  let t := o.attnAt
  let rows := t.rows (d.tm)
  let old := if t.n = 0 && !d.acc then [] else rows
  let fin := d.variant % 2 = 1 && t.n + 1 == o.n
  gotThen (s.fwdOut o t fin d.allSubtiles) (fun out s =>
    gotThen (s.writeMany o.who out) (fun _ s =>
      let cost := d.attnCost 0
      let groups := (List.range (d.tm / 4)).filter (fun g => rows.any (fun r => r / 4 == g))
      let sees (g u : Nat) : Bool := rows.any (fun r => r / 4 == g && (subIdx u).any (fun j => t.sees (d.tm) r j))
      let cyc := iterCycles cost.1 cost.2 (if fin then 16 else 0) groups (subtiles (d.tn)) sees
      let o := ((o.tallyTiles t).tally t.cq (old.length * d.tk * 4)).tally t.stat (old.length * 8)
      (s, .ok (((o.tallyPieces out).spend cyc).attnEnd (o.h * o.n * o.m)))))

/-- Handles an attention iteration needs: the key tile's, before its first m (R165). -/
def Op.attnPops (o : Op) : List QueueWait := if o.desc.handleB then o.needsInputs else []

/-- ATTENTION_FORWARD (R167, R168): one iteration of a forward operation. -/
def opAttentionForward (id : Nat) (s : State) : State :=
  s.runTile id (fun o => o.desc.kind == 0x02 && o.desc.variant != 8) Op.attnPops (fun o s =>
    let k := s.keyHandle o
    gotThen (k.2.bucketEntry k.1) (fun o s => s.fwdTile o))

/-! ### Backward (R175, R176) -/

/-- An iteration of PREP: Δ of each row (Table 6-6). -/
def State.prepTile (o : Op) (s : State) : State × Got Op :=
  let d := o.desc
  let t := o.attnAt
  let rows := t.rows (d.tm)
  let rs := groupRows rows (d.tm)
  gotThen (s.prepOut o t d.allSubtiles) (fun out s =>
    gotThen (s.writeMany o.who out) (fun _ s =>
      let cost := d.attnCost (fmtBytes t.rc.doFmt)
      let o := (o.tally t.q (rs.length * d.tk * fmtBytes (d.fmtA))).tally t.dO (rs.length * d.tk * fmtBytes t.rc.doFmt)
      (s, .ok (((o.tallyPieces out).spend (if rows.isEmpty then 0 else cost.2)).attnEnd (o.h * o.m)))))

/-- An iteration of DQ. -/
def State.dqTile (o : Op) (s : State) : State × Got Op :=
  let d := o.desc
  let t := o.attnAt
  let rows := t.rows (d.tm)
  let old := if t.n = 0 && !d.acc then [] else rows
  gotThen (s.dqOut o t d.allSubtiles) (fun out s =>
    gotThen (s.writeMany o.who out) (fun _ s =>
      let cost := d.attnCost (fmtBytes t.rc.doFmt)
      let groups := (List.range (d.tm / 4)).filter (fun g => rows.any (fun r => r / 4 == g))
      let sees (g u : Nat) : Bool := rows.any (fun r => r / 4 == g && (subIdx u).any (fun j => t.sees (d.tm) r j))
      let cyc := iterCycles cost.1 cost.2 0 groups (subtiles (d.tn)) sees
      let o := ((o.tallyTiles t).tally t.dO (rows.length * d.tk * fmtBytes t.rc.doFmt)).tally t.cq (old.length * d.tk * 4)
      (s, .ok (((o.tallyPieces out).spend cyc).attnEnd (o.h * o.n * o.m)))))

/-- An iteration of DKV. -/
def State.dkvTile (o : Op) (s : State) : State × Got Op :=
  let d := o.desc
  let t := o.attnAt
  let rs := t.seenRows d
  let old := if t.m = 0 && !d.acc then [] else List.range (d.tn)
  gotThen (s.dkvOut o t d.allSubtiles) (fun out s =>
    gotThen (s.writeMany o.who out) (fun _ s =>
      let cost := d.attnCost (fmtBytes t.rc.doFmt)
      let sees (g u : Nat) : Bool :=
        (subIdx u).any (fun r => (List.range 4).any (fun i => t.sees (d.tm) r (4 * g + i)))
      let cyc := iterCycles cost.1 cost.2 0 (List.range (d.tn / 4)) (subtiles (d.tm)) sees
      let nk := (t.usedKeys d).length * d.tk * fmtBytes (d.fmtB)
      let o := ((((o.tally t.k nk).tally t.v nk).tally t.q (rs.length * d.tk * fmtBytes (d.fmtA))).tally t.dO
        (rs.length * d.tk * fmtBytes t.rc.doFmt)).tally t.ck (2 * old.length * d.tk * 4)
      (s, .ok (((o.tallyPieces out).spend cyc).attnEnd (o.h * o.n * o.m)))))

/-- ATTENTION_BACKWARD (R175, R176): one iteration of a backward pass. -/
def opAttentionBackward (id : Nat) (s : State) : State :=
  s.runTile id (fun o => o.desc.kind == 0x03) (fun o => if o.desc.pass = 0 then [] else o.attnPops) (fun o s =>
    match o.desc.pass with
    | 0 => s.prepTile o
    | 1 =>
      let k := s.keyHandle o
      k.2.dkvTile k.1
    | _ =>
      let k := s.keyHandle o
      k.2.dqTile k.1)

/-! ### Length buckets (R177, R178) -/

/-- The bucket of a length from 1 to 2^24 (R177). -/
def bucketOf (len : Nat) : Nat := if len ≤ 8192 then 0 else (len - 1).log2 + 1 - 13

/-- An entry of the batch table comes before another in a bucket list: longer first, then by sequence identifier, then by
index. -/
def entryBefore (a b : Nat × BitVec 512) : Bool :=
  let la := fld a.2 0 32
  let lb := fld b.2 0 32
  let ia := fld a.2 32 32
  let ib := fld b.2 32 32
  decide (lb < la) || (la = lb && (decide (ia < ib) || (ia = ib && decide (a.1 < b.1))))

/-- Inserts an entry in list order. -/
def insertEntry (x : Nat × BitVec 512) : List (Nat × BitVec 512) → List (Nat × BitVec 512)
  | [] => [x]
  | y :: t => if entryBefore x y then x :: y :: t else y :: insertEntry x t

/-- The list of bucket b of a batch table. -/
def bucketList (es : List (Nat × BitVec 512)) (b : Nat) : List (Nat × BitVec 512) :=
  (es.filter (fun e => decide (1 ≤ fld e.2 0 32) && decide (fld e.2 0 32 ≤ 2 ^ 24) && bucketOf (fld e.2 0 32) == b)).foldl
    (fun l e => insertEntry e l) []

/-- BUCKET_SORT (R178): the batch table becomes the lists of the buckets, cut to their capacity, and the count words. -/
def opBucketSort (id : Nat) (s : State) : State :=
  s.runTile id (fun o => o.desc.kind == 0x02 && o.desc.variant == 8) (fun _ => []) (fun o s =>
    let d := o.desc
    gotThen (s.readRows o.who 64 64 o.m (d.addrA) []) (fun rows s =>
      let es := (List.range o.m).zip (rows.map (fun bs => BitVec.ofNat 512 (ofBytesLE bs)))
      let lists := (List.range 12).map (fun b => (bucketList es b).take (d.strideC / 64))
      let kept := (lists.map List.length).foldl (· + ·) 0
      let out := ((List.range 12).zip lists).flatMap (fun bl =>
        ((List.range bl.2.length).zip bl.2).map (fun ie =>
          (d.addrC + bl.1 * d.strideC + 64 * ie.1, bytesLE 64 ie.2.2.toNat)))
      let counts := ((List.range 13).zip (lists.map List.length ++ [o.m - kept])).map (fun bc =>
        (d.addrD + 8 * bc.1, bytesLE 8 bc.2))
      gotThen (s.writeMany o.who (out ++ counts)) (fun _ s =>
        (s, .ok { (o.tally (d.addrA) (64 * o.m)).tallyPieces (out ++ counts) with iter := 1, loopsDone := true }))))

/-! ### The special-function pass (R224, R225) -/

/-- One element of a special-function pass (R225). -/
def sfuElem (f : Fv → Fv) (pre : Option Fv) (variant : Nat) (a b : Fv) : Fv :=
  let y := f (match pre with
    | some c => fmul a c
    | none => a)
  match variant with
  | 0 => y
  | 1 => fmul y b
  | 2 => fmul (fmul a y) b
  | _ => fmul a y

/-- Address of an operand of a special-function pass (R224). -/
def sfuAddr (addr hstride stride h m n tm tn size : Nat) : Nat := addr + h * hstride + m * tm * stride + n * tn * size

/-- An iteration of a special-function pass: every element of a tile, with the slot halves latched at issue. -/
def State.sfuTile (o : Op) (s : State) : State × Got Op :=
  let d := o.desc
  let i := loopIndex 0 o.m o.n 1 o.iter
  let place (addr hs st f : Nat) : Nat := sfuAddr addr hs st i.1 i.2.1 i.2.2.1 (d.tm) (d.tn) (fmtBytes f)
  let a := s.operand d.handleA o.h0 (d.addrA) (place (d.addrA) (d.hstrideA) (d.strideA) (d.fmtA))
  let b := a.2.operand d.handleB o.h1 (d.addrB) (place (d.addrB) (d.hstrideB) (d.strideB) (d.fmtB))
  let c := b.2.operand d.handleC o.hc (d.addrC) (place (d.addrC) (d.hstrideC) (d.strideC) (d.fmtC))
  let two := d.variant = 1 || d.variant = 2
  let func := d.param % 32
  gotThen (c.2.readTile o (d.fmtA) (d.tm) (d.tn) (d.strideA) a.1) (fun as s =>
    gotThen (if two then s.readTile o (d.fmtB) (d.tm) (d.tn) (d.strideB) b.1 else (s, .ok as)) (fun bs s =>
      let f := State.evalFunc (s.builtinRelease (tillerRow (d.tiller))) (fun k => o.params.contains (2 * k + 1)) o.part func s
      let pre := if d.param / 2 ^ 8 % 2 = 1 then some (fmtFP32.decode (d.param / 2 ^ 32)) else none
      let rows := List.zipWith (fun ra rb => List.zipWith (sfuElem f pre (d.variant)) ra rb) as bs
      gotThen (s.writeRows o.who (d.strideC) c.1 (rows.map (rowBytes (d.fmtC)))) (fun _ s =>
        let n := d.tm * d.tn
        let o1 := (o.tally a.1 (n * fmtBytes (d.fmtA))).tally c.1 (n * fmtBytes (d.fmtC))
        let o1 := if two then o1.tally b.1 (n * fmtBytes (d.fmtB)) else o1
        s.endTile (o1.spend (d.tileCycles (s.latchedCycles o func) 0))
          (some (extent (d.tm) (d.strideC) (d.tn * fmtBytes (d.fmtC)))) (decide (o.h * o.m * o.n ≤ o.iter + 1)))))

/-- SPECIAL_FUNCTION_PASS (R224): one tile of a special-function pass. -/
def opSpecialFunctionPass (id : Nat) (s : State) : State :=
  s.runTile id (fun o => o.desc.kind == 0x04) (fun o => o.needsInputs ++ o.needsFree) State.sfuTile

/-! ### Meanings of the rows -/

/-- ATTENTION_FORWARD (R167). -/
def execAttentionForward (id : Nat) (s : State) : Host.Outcome State Fault Refusal :=
  .next (s.whenClocked (opAttentionForward id s))

/-- BUCKET_SORT (R178). -/
def execBucketSort (id : Nat) (s : State) : Host.Outcome State Fault Refusal :=
  .next (s.whenClocked (opBucketSort id s))

/-- ATTENTION_BACKWARD (R176). -/
def execAttentionBackward (id : Nat) (s : State) : Host.Outcome State Fault Refusal :=
  .next (s.whenClocked (opAttentionBackward id s))

/-- SPECIAL_FUNCTION_PASS (R225). -/
def execSpecialFunctionPass (id : Nat) (s : State) : Host.Outcome State Fault Refusal :=
  .next (s.whenClocked (opSpecialFunctionPass id s))

end Sys2Proof.Machine
end

