-- ==== Sys2Proof/Machine/Crypto.lean ====
section
/-! DEFINITION. The two standards that R412 and R413 name for firmware images: the hash SHA-384 and the verification of an
ECDSA signature on the curve P-384. The spec does not restate them; the constants are built as the standards define
them (PRESUMED, log entry 135). -/

namespace Sys2Proof.Machine

/-! ### Constants of SHA-384 -/

/-- The largest r of `bits` bits with r ^ k ≤ n, from the top bit down. -/
def rootOf (k n : Nat) : Nat → Nat → Nat
  | 0, r => r
  | bits + 1, r => rootOf k n bits (if (r + 2 ^ bits) ^ k ≤ n then r + 2 ^ bits else r)

/-- The primes below 410, which are the first 80. -/
def firstPrimes : List Nat :=
  ((List.range 410).drop 2).filter (fun n => (List.range 21).all (fun d => d < 2 || n ≤ d || n % d != 0))

/-- The first 64 bits of the fractional part of the k-th root of n. -/
def rootFraction (k n : Nat) : Nat := rootOf k (n * 2 ^ (64 * k)) 69 0 % 2 ^ 64

/-- The round constants: cube roots of the first 80 primes. -/
def hashRounds : List Nat := firstPrimes.map (fun n => rootFraction 3 n)

/-- The initial hash value of SHA-384: square roots of the ninth to the sixteenth prime. -/
def hashStart : List Nat := ((firstPrimes.drop 8).take 8).map (fun n => rootFraction 2 n)

/-! ### SHA-384 -/

/-- A 64-bit word turned right. -/
def turned (n x : Nat) : Nat := x / 2 ^ n + x % 2 ^ n * 2 ^ (64 - n)

/-- Three words combined without carry. -/
def xor3 (a b c : Nat) : Nat := (a ^^^ b) ^^^ c

/-- The working variables of a block, and the next 16 words of its schedule. -/
structure HashState where
  a : Nat
  b : Nat
  c : Nat
  d : Nat
  e : Nat
  f : Nat
  g : Nat
  h : Nat
  w : List Nat

/-- One round with constant k; the schedule moves on by one word. -/
def HashState.round (s : HashState) (k : Nat) : HashState :=
  let w (i : Nat) : Nat := s.w.getD i 0
  let choose := (s.e &&& s.f) ^^^ ((2 ^ 64 - 1 - s.e) &&& s.g)
  let major := xor3 (s.a &&& s.b) (s.a &&& s.c) (s.b &&& s.c)
  let t1 := s.h + xor3 (turned 14 s.e) (turned 18 s.e) (turned 41 s.e) + choose + k + w 0
  let t2 := xor3 (turned 28 s.a) (turned 34 s.a) (turned 39 s.a) + major
  let grown := w 0 + xor3 (turned 1 (w 1)) (turned 8 (w 1)) (w 1 / 2 ^ 7) + w 9 +
    xor3 (turned 19 (w 14)) (turned 61 (w 14)) (w 14 / 2 ^ 6)
  { a := (t1 + t2) % 2 ^ 64, b := s.a, c := s.b, d := s.c, e := (s.d + t1) % 2 ^ 64, f := s.e, g := s.f, h := s.g
    w := s.w.drop 1 ++ [grown % 2 ^ 64] }

/-- A number of bytes, the most significant first. -/
def ofBytesBE (bs : List Byte) : Nat := ofBytesLE bs.reverse

/-- The hash value after a block of 128 bytes. -/
def hashBlock (v : List Nat) (block : List Byte) : List Nat :=
  let x (i : Nat) : Nat := v.getD i 0
  let s : HashState := {
    a := x 0, b := x 1, c := x 2, d := x 3, e := x 4, f := x 5, g := x 6, h := x 7
    w := (chunks 8 16 block).map ofBytesBE }
  let r := hashRounds.foldl HashState.round s
  (v.zip [r.a, r.b, r.c, r.d, r.e, r.f, r.g, r.h]).map (fun p => (p.1 + p.2) % 2 ^ 64)

/-- A message with its padding: a 1 bit, zeros, and its length in bits as 16 bytes. -/
def hashPadded (m : List Byte) : List Byte :=
  m ++ 0x80 :: List.replicate ((128 + 111 - m.length % 128) % 128) 0 ++ (bytesLE 16 (8 * m.length)).reverse

/-- The 48 bytes of the SHA-384 of a message. -/
def sha384 (m : List Byte) : List Byte :=
  let p := hashPadded m
  let v := (chunks 128 (p.length / 128) p).foldl hashBlock hashStart
  (v.take 6).flatMap (fun w => (bytesLE 8 w).reverse)

/-! ### P-384 -/

/-- The field's prime. -/
def curveP : Nat := 2 ^ 384 - 2 ^ 128 - 2 ^ 96 + 2 ^ 32 - 1
/-- The constant of y² = x³ − 3x + b. -/
def curveB : Nat :=
  0xB3312FA7E23EE7E4988E056BE3F82D19181D9C6EFE8141120314088F5013875AC656398D8A2ED19D2A85C8EDD3EC2AEF
/-- The order of the base point. -/
def curveN : Nat := 2 ^ 384 - 0x389CB27E0BC8D220A7E5F24DB74F58851313E695333AD68D
/-- The base point. -/
def curveG : Nat × Nat :=
  (0xAA87CA22BE8B05378EB1C71EF320AD746E1D3B628BA79B9859F741E082542A385502F25DBF55296C3A545E3872760AB7,
    0x3617DE4A96262C6F5D9E98BF9292DC29F8F41DBD289A147CE9DA3113B5F0B8C00A60B1CE1D7E819D7A431D7C90EA0E5F)

/-- A point in projective form: (x, y, z) stands for (x / z², y / z³), and z = 0 for the point at infinity. -/
structure Point where
  x : Nat
  y : Nat
  z : Nat

/-- a − b in the field, for b in it. -/
def subP (a b : Nat) : Nat := (a + curveP - b) % curveP

/-- Twice a point. -/
def Point.twice (q : Point) : Point :=
  let z2 := q.z * q.z % curveP
  let y2 := q.y * q.y % curveP
  let s := 4 * q.x * y2 % curveP
  let m := 3 * subP q.x z2 * (q.x + z2) % curveP
  let x := subP (m * m) (2 * s % curveP)
  { x := x, y := subP (m * subP s x) (8 * y2 * y2 % curveP), z := 2 * q.y * q.z % curveP }

/-- The sum of two points. -/
def Point.plus (q r : Point) : Point :=
  if q.z = 0 then r
  else if r.z = 0 then q
  else
    let qz2 := q.z * q.z % curveP
    let rz2 := r.z * r.z % curveP
    let u := q.x * rz2 % curveP
    let s := q.y * rz2 % curveP * r.z % curveP
    let h := subP (r.x * qz2 % curveP) u
    let t := subP (r.y * qz2 % curveP * q.z % curveP) s
    if h = 0 then (if t = 0 then q.twice else { x := 1, y := 1, z := 0 })
    else
      let h2 := h * h % curveP
      let h3 := h2 * h % curveP
      let v := u * h2 % curveP
      let x := subP (subP (t * t) h3) (2 * v % curveP)
      { x := x, y := subP (t * subP v x) (s * h3 % curveP), z := q.z * r.z % curveP * h % curveP }

/-- k times a point, from bit `n` − 1 of k down. -/
def Point.times (q : Point) (k : Nat) : Nat → Point → Point
  | 0, acc => acc
  | n + 1, acc =>
    let d := acc.twice
    Point.times q k n (if k / 2 ^ n % 2 = 1 then d.plus q else d)

/-- b ^ e modulo m, from bit `n` − 1 of e down. -/
def powMod (m b e : Nat) : Nat → Nat → Nat
  | 0, acc => acc
  | n + 1, acc =>
    let sq := acc * acc % m
    powMod m b e n (if e / 2 ^ n % 2 = 1 then sq * b % m else sq)

/-- ECDSA: (r, s) signs the hash value e under the public key (x, y). -/
def ecdsaOk (x y e r s : Nat) : Bool :=
  let inRange (v : Nat) : Bool := decide (1 ≤ v) && decide (v < curveN)
  let onCurve := decide (x < curveP) && decide (y < curveP) &&
    y * y % curveP == (x * x * x + (curveP - 3) * x + curveB) % curveP
  if !inRange r || !inRange s || !onCurve then false
  else
    let w := powMod curveN s (curveN - 2) 384 1
    let zero : Point := { x := 1, y := 1, z := 0 }
    let base : Point := { x := curveG.1, y := curveG.2, z := 1 }
    let sum := (base.times (e * w % curveN) 384 zero).plus (Point.times { x := x, y := y, z := 1 } (r * w % curveN) 384 zero)
    let z2 := sum.z * sum.z % curveP
    sum.z != 0 && (sum.x == r * z2 % curveP || (decide (r + curveN < curveP) && sum.x == (r + curveN) * z2 % curveP))

end Sys2Proof.Machine
end

