-- ==== Sys2Proof/Machine/Sync.lean ====
section
/-! DEFINITION. Frame synchronisation: parents (R53, R349), markers (R52, R55 to R59), takeover and re-election (R58, R60),
changes of period (R62 to R65), and the FRM registers and FRAME commands (R66, R67). -/

namespace Sys2Proof.Machine

open Sys2Proof

/-! ### The frame grid (R36, Table 2-1) -/

/-- Slots per port direction at a period code. -/
def slotsOf (code : Nat) : Nat := 80 * 2 ^ code

/-- Slots per port direction now. -/
def State.slots (s : State) : Nat := slotsOf s.frm.period.toNat

/-! ### Markers (R52, R57) -/

/-- The package sends markers: master, LOCKED or in HOLDOVER (R52). -/
def State.markerFor (port n : Nat) (s : State) : Marker :=
  { frame := s.frm.count, master := s.frm.master, epoch := s.frm.epoch, period := s.frm.period, slack := s.frm.slack
    change := s.frm.change, hops := s.frm.hops, deputy := s.frm.deputy, txOffset := Config.txOffset n port }

/-- Sends the marker of this frame: directly on a torus port with locked lanes, else toward the neighbour by the alternate
path (R52, R57, R349). One to a package that no path reaches is discarded with the count and record of R347, not
silently; a position from which no package has been heard of gets none (R333). -/
def State.sendMarkers (s : State) : State :=
  if !s.synced || s.fab.election = .halted then s
  else (List.range 12).foldl (fun s i =>
    let n := s.takeFree
    let s := n.2
    let m : Msg := .marker (s.markerFor i n.1)
    if (s.port i).up && !(s.nbr i).miswired then s.txMsg i m
    else if s.distTo (neighbour s.self i) < 15 || (s.nbr i).marker.isSome || (s.nbr i).beacon.isSome then
      s.send (neighbour s.self i) m
    else s) s

/-- Preference of a package by the keys held; 0 where none is (R50). -/
def State.prefOf (k : Nat) (s : State) : Nat :=
  ((s.keyList.find? (fun x => x.pkg.toNat == k)).map (fun x => x.pref.toNat)).getD 0

/-- Master a ranks above master b (R50, R59). -/
def State.outranks (a b : Nat) (s : State) : Bool :=
  decide (s.prefOf b < s.prefOf a) || (s.prefOf a == s.prefOf b && decide (a < b))

/-- Epoch a is higher than epoch b, modulo 2^8 (log entry 19). -/
def epochHigher (a b : BitVec 8) : Bool :=
  let d := (a - b).toNat
  1 ≤ d && d ≤ 127

/-- The epoch rule of R59: a STANDALONE package takes any other master's marker (R343). -/
def State.acceptsMaster (k : Marker) (s : State) : Bool :=
  if s.frm.role = .standalone then k.master.toNat != s.self
  else if s.frm.state = .unsync && s.frm.role != .master then true
  else epochHigher k.epoch s.frm.epoch ||
    (k.epoch == s.frm.epoch && (k.master == s.frm.master || s.outranks k.master.toNat s.frm.master.toNat))

/-- A proposed or announced change that did not come through ends here: the proposing command ends NOT_MASTER, and held
commands pass their remaining checks (R64). -/
def State.dropChange (s : State) : State :=
  let c := s.frm.changeCmd
  let s := s.updFrm (fun f => { f with proposal := none, change := none, changeCmd := none })
  (s.finishAll c.toList .badCommand .notMaster []).releaseHeld

/-- At a new master: a proposed change that no marker announced is abandoned (R64). -/
def State.dropProposal (s : State) : State :=
  if s.frm.change.isNone && s.frm.proposal.isSome then s.dropChange else s

/-- Takes a marker's master, epoch, deputy and change of period (R58, R59, R64, R349). -/
def State.takeFields (k : Marker) (s : State) : State :=
  let new := k.epoch != s.frm.epoch || k.master != s.frm.master
  let s := s.updFrm (fun f => { f with
    epoch := k.epoch, master := k.master, deputy := k.deputy
    role := if k.deputy.toNat = s.self then .deputy else .member })
  let ahead := match k.change with
    | some c => later c.frame s.frm.count
    | none => false
  let s := if ahead then s.updFrm (fun f => { f with change := k.change, proposal := none })
    else if new && (s.frm.change.isSome || s.frm.proposal.isSome || s.frm.changeCmd.isSome) then s.dropChange
    else s
  if new then s.syncChanged.parentChanged else s

/-- Enters ACQUIRING on a marker and adopts its FRAME, period and slack (R56). -/
def State.acquire (k : Marker) (s : State) : State :=
  let s := s.updFrm (fun f => { f with
    count := k.frame, period := k.period, slack := k.slack, started := true, good := 0, bad := 0
    lockReady := false, phase := .work })
  if s.frm.state = .acquiring then s else s.setSync .acquiring

/-- e in units of 0.25 ns: at most 24 ns either way. -/
def nearE (e : Int) : Bool := -96 ≤ e && e ≤ 96
/-- e beyond 100 ns either way. -/
def farE (e : Int) : Bool := e < -400 || 400 < e

/-- The state machine of Table 2-6 on a marker from the parent port. -/
def State.syncStep (k : Marker) (e : Int) (s : State) : State :=
  let off := k.frame != s.frm.count
  match s.frm.state with
  | .unsync => s.acquire k
  | .acquiring =>
    if off then s.acquire k
    else if nearE e then s.updFrm (fun f => { f with good := f.good + 1, bad := 0, lockReady := f.lockReady || decide (4 ≤ f.good + 1) })
    else if farE e && s.frm.bad = 1 then s.acquire k
    else s.updFrm (fun f => { f with good := 0, lockReady := false, bad := if farE e then 1 else 0 })
  | .locked =>
    if off || (farE e && s.frm.bad = 1) then s.acquire k
    else s.updFrm (fun f => { f with bad := if farE e then f.bad + 1 else 0 })
  | .holdover => if !off && nearE e then s.setSync .locked else s.acquire k

/-- MARKER_RECEIVE (R55): `arrival` counts from the own commit instant of the frame in progress, in 0.25 ns. A marker of
a losing master changes nothing (R59); a master that loses becomes a member at its next commit instant. -/
def opMarkerReceive (port : Fin 12) (k : Marker) (arrival : Int) (s : State) : State :=
  let i := port.val
  if !(s.port i).locked || (s.nbr i).miswired || s.fab.election = .halted || s.fab.election = .notOpen then s
  else
    let s := s.updNbr i (fun n => { n with marker := some (k.frame, k.hops) })
    if k.master.toNat = s.self || !s.acceptsMaster k then s
    else if s.frm.role = .master then s.updFrm (fun f => { f with demote := true })
    else
      let par := s.chooseParent k.master.toNat k.frame
      match par with
      | none => s
      | some (j, _) =>
        if j != i then s
        else
          let s := s.lateJoin
          let s := if s.fab.election = .standalone then s.updFab (fun g => { g with election := .closed }) else s
          let stand := s.frm.role = .standalone
          let s := s.takeFields k
          let s := if stand then s.updFrm (fun f => { f with state := .unsync }) else s
          let e : Int := arrival - k.txOffset.toNat - (s.port i).lat.toNat
          let n := s.takeFree
          let fits := -32768 ≤ e && e ≤ 32767
          let s := n.2.updFrm (fun f => { f with
            error := if fits then ofInt 16 e else Config.errorBeyond n.1
            hops := BitVec.ofNat 4 (min 15 (k.hops.toNat + 1)), markerSeen := true, directSeen := true })
          let s := if s.frm.parent.toNat = i then s
            else (s.updFrm (fun f => { f with parent := BitVec.ofNat 4 i })).parentChanged
          s.syncStep k e

/-- ROUTED_MARKER_RECEIVE (R349): its fields are taken, never its phase; it counts as received for R58. -/
def opRoutedMarkerReceive (_src : Fin 128) (k : Marker) (s : State) : State :=
  if s.fab.election = .halted || s.fab.election = .notOpen || k.master.toNat = s.self || !s.acceptsMaster k then s
  else if s.frm.role = .master then s.updFrm (fun f => { f with demote := true })
  else if s.frm.role = .standalone || s.frm.state = .unsync then s
  else
    let s := (s.takeFields k).updFrm (fun f => { f with markerSeen := true })
    if k.frame = s.frm.count then s else s.acquire k

/-- MARKER_TIMEOUT (R56): no marker by the own commit instant + 2 µs. -/
def opMarkerTimeout (s : State) : State :=
  if s.frm.state = .locked && !s.frm.directSeen && s.frm.role != .master && s.frm.role != .standalone then
    s.setSync .holdover
  else s

/-- HOLDOVER_EXPIRY (R56): 64 frames of HOLDOVER. -/
def opHoldoverExpiry (s : State) : State :=
  if s.frm.state = .holdover && decide (64 ≤ s.frm.holdFrames) then s.setSync .unsync else s

/-- Frames without a marker, the one in progress counted when it brought none (R58, R60). -/
def Frm.without (f : Frm) : Nat := f.missing + b2n (!f.markerSeen)

/-- DEPUTY_TAKEOVER (R58): markers of two frames are missing; the deputy goes on as master with EPOCH one higher. An
announced change of period it has received goes on, a proposed one is abandoned (R64). -/
def opDeputyTakeover (s : State) : State :=
  if s.frm.role != .deputy || !s.synced || s.frm.without < 2 then s
  else
    let old := s.frm.master.toNat
    let s := s.becomeMaster .master s.self
    let s := s.updFab (fun g => { g with lostMaster := some old })
    s.dropProposal

/-- ELECTION_CLOSE (R342, R343). A package that has become master proposes nothing, and its own deferral ends (R64). -/
def opElectionClose (s : State) : State :=
  let s := s.closeElection
  if s.frm.role = .master || s.frm.role = .standalone then s.dropProposal else s

/-- FULL_REELECTION (R60, R344): 8 frames without markers reopen the election. -/
def opFullReelection (s : State) : State :=
  if (s.frm.role = .member || s.frm.role = .deputy) && s.fab.election = .closed && decide (8 ≤ s.frm.without) then
    s.openElection
  else s

/-! ### Changes of period (R62 to R65) -/

/-- The master has every acknowledgement: the change is announced in the next 8 markers (step 3 of R62). -/
def State.announce (s : State) : State :=
  match s.frm.proposal with
  | some p =>
    if p.master && p.expect.all (fun k => p.acks.contains k) then
      s.updFrm (fun f => { f with
        change := some { period := p.period, slack := p.slack, frame := f.count + 9 }, proposal := none })
    else s
  | none => s

/-- PERIOD_PROPOSAL_RECEIVE (R62). -/
def opPeriodProposalReceive (period : BitVec 3) (slack : BitVec 2) (s : State) : State :=
  if s.frm.role = .master || s.frm.role = .standalone then s
  else s.updFrm (fun f => { f with proposal := some { period := period, slack := slack, master := false } })

/-- No partition is RUNNING or TEARING_DOWN or about to be RUNNING, and no group's flows exceed the proposed period
(R62, Table 13-6). -/
def State.mayAcknowledge (p : Proposal) (s : State) : Bool :=
  (List.range 16).all (fun n =>
    (s.part n).state != .running && (s.part n).state != .tearingDown && (s.part n).next != some .running) &&
  s.red.groups.all (fun g => decide ((if g.checked then 12 else 9) * g.lanes ≤ slotsOf p.period.toNat - 1))

/-- PERIOD_CHANGE_ACKNOWLEDGE (R62): from now on START and RESUME are held. -/
def opPeriodChangeAcknowledge (s : State) : State :=
  match s.frm.proposal with
  | none => s
  | some p =>
    if p.acked || !s.mayAcknowledge p then s
    else
      let s := s.updFrm (fun f => { f with proposal := some { p with acked := true, acks := insertNat s.self p.acks } })
      if p.master then s.announce else s.send s.frm.master.toNat (.periodAck s.self)

/-- PERIOD_ACK_RECEIVE (R62). -/
def opPeriodAckReceive (pkg : Fin 128) (s : State) : State :=
  match s.frm.proposal with
  | some p =>
    if p.master then
      (s.updFrm (fun f => { f with proposal := some { p with acks := insertNat pkg.val p.acks } })).announce
    else s
  | none => s

/-- PERIOD_CHANGE_ABANDON (R62): 64 frames without every acknowledgement. -/
def opPeriodChangeAbandon (s : State) : State :=
  match s.frm.proposal with
  | none => s
  | some p =>
    if p.frames < 64 then s
    else
      let missing := (p.expect.filter (fun k => !p.acks.contains k)).length
      let c := s.frm.changeCmd
      let s := s.updFrm (fun f => { f with proposal := none, changeCmd := none })
      (s.finishAll c.toList .badCommand .badState [word [(0, missing)]]).releaseHeld

/-- The commit instant of CHANGE_FRAME (R62, R63): the new codes, the proposing command's DONE, and the held commands. -/
def State.periodCommit (s : State) : State × Bool :=
  match s.frm.change with
  | some c =>
    if c.frame = s.frm.count then
      let k := s.frm.changeCmd
      let s := s.updFrm (fun f => { f with period := c.period, slack := c.slack, change := none, proposal := none, changeCmd := none })
      ((s.finishAll k.toList .done .none [word [(0, c.frame.toNat)]]).releaseHeld, true)
    else (s, false)
  | none => (s, false)

/-- What a commit instant does to synchronisation after the counter has advanced (R56, R58, R59): counts of missing
markers, holdover and waiting proposals, a lost mastership, and LOCKED once a span led elsewhere has a valid record (log
entry 20). -/
def State.syncCommit (s : State) : State :=
  let s := s.updFrm (fun f => { f with
    missing := if f.markerSeen then 0 else f.missing + 1, markerSeen := false, directSeen := false
    holdFrames := if f.state = .holdover then f.holdFrames + 1 else 0
    proposal := f.proposal.map (fun p => { p with frames := p.frames + 1 }) })
  let s := if s.frm.role = .master || s.frm.role = .standalone then s.updFrm (fun f => { f with missing := 0 }) else s
  let s := if s.frm.demote then
      (s.updFrm (fun f => { f with role := .member, demote := false, missing := 0 })).syncChanged
    else s
  let others := s.ten.spans.filter (fun x => x.state == .active && x.lead != s.self)
  let ok := others.isEmpty || others.any (fun x => s.pln.current.any (fun r => r.span == x.id))
  let s := if s.frm.state = .acquiring && s.frm.lockReady && ok then s.setSync .locked else s
  s.refreshParent

/-! ### Registers (R66) -/

/-- `FRM.CONFIG` (Table 2-8). -/
def Frm.configWord (f : Frm) : W64 := word [(0, f.period.toNat), (3, f.slack.toNat), (8, f.pref.toNat)]

/-- `FRM.SYNC` (Table 2-9). -/
def Frm.syncWord (f : Frm) : W64 :=
  word [(0, f.role.code), (2, f.state.code), (4, f.epoch.toNat), (12, f.master.toNat), (19, f.deputy.toNat),
    (26, f.hops.toNat), (30, f.parent.toNat), (48, f.error.toNat)]

/-- `FRM.STATUS` (Table 2-10). -/
def FrmPart.statusWord (x : FrmPart) : W64 :=
  word [(0, x.overrun.toNat), (16, x.consec.toNat), (25, x.limit.toNat), (33, b2n x.hold), (34, b2n x.slackLate),
    (35, b2n x.spanHold)]

/-- SLACK_LATE_CLEAR (R66): writing 1 clears it. -/
def opSlackLateClear (p : Fin 16) (s : State) : State := s.updFrmp p.val (fun x => { x with slackLate := false })

/-! ### FRAME commands (R67) -/

/-- What FRAME.QUERY does. -/
def frameQueryBody (c : CmdId) (p : Nat) (_ : Entry) (s : State) : State × Reply :=
  (s, .done ([word [(0, s.frm.count.toNat)], s.frm.syncWord, s.frm.configWord] ++
    (if vfOnly c.mbx then [(s.frmp p).statusWord] else [])))

/-- FRAME.QUERY. -/
def specFrameQuery : Spec where
  opcode := opcodeOf 2 1
  permitted := fun m => decide (m ≤ 17)
  allowed := fun _ _ => []
  part := ownPart
  cls := .q
  body := frameQueryBody

/-- FRAME.SET_PERIOD (R61, R62, R65): ADMITTED, then a proposal to every package that is reachable. -/
def frameSetPeriodBody (c : CmdId) (_ : Nat) (e : Entry) (s : State) : State × Reply :=
  if s.frm.role != .master && s.frm.role != .standalone then (s, .bad .notMaster)
  else if s.frm.proposal.isSome || s.frm.change.isSome then
    (s, .fail .badCommand .badState [word [(0, ((s.frm.change.map (fun x => x.frame.toNat)).getD 0))]])
  else
    let period : BitVec 3 := BitVec.ofNat 3 (fld (e.arg 0) 0 3)
    let slack : BitVec 2 := BitVec.ofNat 2 (fld (e.arg 0) 3 2)
    let others := (List.range 128).filter (fun k => k != s.self && decide (s.distTo k < 15))
    let s := s.stage c .admitted .none [] false
    let s := s.updFrm (fun f => { f with
      proposal := some { period := period, slack := slack, master := true, expect := s.self :: others }, changeCmd := some c })
    (s.sendAll others (.periodProposal period slack), .later)

/-- FRAME.SET_PERIOD: codes 6 and 7 are out of range. -/
def specFrameSetPeriod : Spec where
  opcode := opcodeOf 2 2
  permitted := pfOnly
  allowed := fun _ _ => [0x1F]
  inRange := fun _ a _ => decide (fld (a.getD 0 0) 0 3 ≤ 5)
  part := noPart
  cls := .own
  body := frameSetPeriodBody

/-- What FRAME.SET_OVERRUN_LIMIT does. -/
def frameSetOverrunLimitBody (_ : CmdId) (p : Nat) (e : Entry) (s : State) : State × Reply :=
  let st := (s.part p).state
  if st = .absent || st = .tearingDown then (s, .fail .refused .partitionDown [])
  else (s.updFrmp p (fun x => { x with nextLimit := some (BitVec.ofNat 8 (fld (e.arg 0) 0 8)) }), .done [])

/-- FRAME.SET_OVERRUN_LIMIT: from the next commit instant, in every state but ABSENT and TEARING_DOWN. -/
def specFrameSetOverrunLimit : Spec where
  opcode := opcodeOf 2 3
  permitted := anyHost
  allowed := fun m _ => [if pfOnly m then 0x000F0000000000FF else 0xFF]
  part := fun m a => if vfOnly m then some (m - 1) else some (fld (a.getD 0 0) 48 4)
  cls := .own
  body := frameSetOverrunLimitBody

/-- What FRAME.SET_PREFERENCE does. -/
def frameSetPreferenceBody (_ : CmdId) (_ : Nat) (e : Entry) (s : State) : State × Reply :=
  let v := fld (e.arg 0) 0 4
  let s := s.updFrm (fun f => { f with pref := BitVec.ofNat 4 v })
  let s := s.updMgt (fun g => { g with latchedPref := BitVec.ofNat 8 v })
  ({ s with flash := { s.flash with pref := BitVec.ofNat 8 v } }, .done [])

/-- FRAME.SET_PREFERENCE: kept in FRM.CONFIG, in the flash and in the latched configuration (Table 2-8). -/
def specFrameSetPreference : Spec where
  opcode := opcodeOf 2 4
  permitted := pfOnly
  allowed := fun _ _ => [0xF]
  part := noPart
  cls := .own
  body := frameSetPreferenceBody

/-! ### Meanings of the rows -/

/-- ELECTION_CLOSE (R342). -/
def execElectionClose (s : State) : Host.Outcome State Fault Refusal :=
  .next (s.whenClocked (opElectionClose s))

/-- FRAME_QUERY (R67). -/
def execFrameQuery (m : Fin 18) (e : Entry) (s : State) : Host.Outcome State Fault Refusal :=
  .next (serve specFrameQuery m.val e s)

/-- FRAME_SET_PERIOD (R62). -/
def execFrameSetPeriod (m : Fin 18) (e : Entry) (s : State) : Host.Outcome State Fault Refusal :=
  .next (serve specFrameSetPeriod m.val e s)

/-- FRAME_SET_OVERRUN_LIMIT (R67). -/
def execFrameSetOverrunLimit (m : Fin 18) (e : Entry) (s : State) : Host.Outcome State Fault Refusal :=
  .next (serve specFrameSetOverrunLimit m.val e s)

/-- FRAME_SET_PREFERENCE (R67). -/
def execFrameSetPreference (m : Fin 18) (e : Entry) (s : State) : Host.Outcome State Fault Refusal :=
  .next (serve specFrameSetPreference m.val e s)

/-- SLACK_LATE_CLEAR (R66). -/
def execSlackLateClear (p : Fin 16) (s : State) : Host.Outcome State Fault Refusal :=
  .next (s.whenPcie (opSlackLateClear p s))

/-- MARKER_RECEIVE (R55). -/
def execMarkerReceive (port : Fin 12) (k : Marker) (arrival : Int) (s : State) : Host.Outcome State Fault Refusal :=
  .next (s.whenClocked (opMarkerReceive port k arrival s))

/-- ROUTED_MARKER_RECEIVE (R349). -/
def execRoutedMarkerReceive (src : Fin 128) (k : Marker) (s : State) : Host.Outcome State Fault Refusal :=
  .next (s.whenClocked (opRoutedMarkerReceive src k s))

/-- MARKER_TIMEOUT (R56). -/
def execMarkerTimeout (s : State) : Host.Outcome State Fault Refusal :=
  .next (s.whenClocked (opMarkerTimeout s))

/-- HOLDOVER_EXPIRY (R56). -/
def execHoldoverExpiry (s : State) : Host.Outcome State Fault Refusal :=
  .next (s.whenClocked (opHoldoverExpiry s))

/-- DEPUTY_TAKEOVER (R58). -/
def execDeputyTakeover (s : State) : Host.Outcome State Fault Refusal :=
  .next (s.whenClocked (opDeputyTakeover s))

/-- FULL_REELECTION (R60). -/
def execFullReelection (s : State) : Host.Outcome State Fault Refusal :=
  .next (s.whenClocked (opFullReelection s))

/-- PERIOD_PROPOSAL_RECEIVE (R62). -/
def execPeriodProposalReceive (period : BitVec 3) (slack : BitVec 2) (s : State) :
    Host.Outcome State Fault Refusal :=
  .next (s.whenClocked (s.toChoesk 0 (.periodProposal period slack)
    (opPeriodProposalReceive period slack s)))

/-- PERIOD_CHANGE_ACKNOWLEDGE (R62). -/
def execPeriodChangeAcknowledge (s : State) : Host.Outcome State Fault Refusal :=
  .next (s.whenClocked (opPeriodChangeAcknowledge s))

/-- PERIOD_ACK_RECEIVE (R62). -/
def execPeriodAckReceive (pkg : Fin 128) (s : State) :
    Host.Outcome State Fault Refusal :=
  .next (s.whenClocked (s.toChoesk pkg.val (.periodAck pkg.val)
    (opPeriodAckReceive pkg s)))

/-- PERIOD_CHANGE_ABANDON (R62). -/
def execPeriodChangeAbandon (s : State) : Host.Outcome State Fault Refusal :=
  .next (s.whenClocked (opPeriodChangeAbandon s))

end Sys2Proof.Machine
end

