-- ==== Sys2Proof/Machine/Planner.lean ====
section
/-! DEFINITION. The planner: share entries (R236, R237), flows (R238 to R241), occupancy (R242, R243), candidates (R244,
R245), pieces (R246), the pass with its budget (R247 to R249), plan records (R250), span-holds at the lead (R257), link
changes (R260), changes of period (R262), and the FLOW commands (R264). The reservation table is what the pieces of the
flow table reserve. -/

namespace Sys2Proof.Machine

open Sys2Proof

/-! ### Frames as offsets -/

/-- A frame's distance from another, negative when earlier (R37). -/
def frameDiff (g f : FrameNo) : Int := (g - f).toInt

/-- A frame a number of frames away. -/
def frameAt (f : FrameNo) (k : Int) : FrameNo := f + BitVec.ofInt 48 k

/-- A plan frame as a real frame (R235). -/
def realFrame (rho : BitVec 32) (f : FrameNo) : FrameNo := f + BitVec.ofNat 48 rho.toNat

/-- A real frame as a plan frame. -/
def planFrame (rho : BitVec 32) (f : FrameNo) : FrameNo := f - BitVec.ofNat 48 rho.toNat

/-! ### Usable cells (R236, R237) -/

/-- The share entry that covers a slot of N. -/
def shareEntry (n slot : Nat) : Nat := ceilDiv (32 * (slot + 1)) n - 1

/-- A cell is usable by a span's flows but for reservations: its package's member partition holds its slot, its direction
is not known to be unusable, and its slot is even at half width. -/
def LeadSpan.usable (n : Nat) (c : Cell) (l : LeadSpan) : Bool :=
  l.shares.any (fun x => x.1 == c.pkg && bit x.2 (shareEntry n c.slot)) && !l.down.contains (c.pkg, c.port) &&
    (c.slot % 2 == 0 || !l.half.contains (c.pkg, c.port))

/-! ### Pieces and occupancy (R239, R243) -/

/-- The offset from frame f of a piece's first frame. -/
def Piece.at (f : FrameNo) (p : Piece) : Int := frameDiff p.frame f

/-- A piece has an occurrence at offset k from frame f. -/
def Piece.occurs (f : FrameNo) (r : Nat) (k : Int) (p : Piece) : Bool :=
  let d := k - p.at f
  decide (0 ≤ d) && (if r = 0 then d == 0 else d % r == 0 && match p.times with
    | some t => decide (d / r < t)
    | none => true)

/-- The last offset from frame f at which a piece occurs; none for a pattern without end. -/
def Piece.lastAt (f : FrameNo) (r : Nat) (p : Piece) : Option Int :=
  if r = 0 then some (p.at f) else p.times.map (fun t => p.at f + r * ((t : Int) - 1))

/-- The occurrence that is the first at or after offset k. -/
def Piece.nextAt (f : FrameNo) (r : Nat) (k : Int) (p : Piece) : Int :=
  let a := p.at f
  if k ≤ a || r = 0 then a else a + r * ((k - a + r - 1) / r)

/-- A cell is reserved at an offset from frame f by some flow. -/
def reserved (f : FrameNo) (flows : List Flow) (k : Int) (c : Cell) : Bool :=
  flows.any (fun x => x.pieces.any (fun p => p.occurs f x.r k && p.cells.contains c))

/-- Two patterns meet in some frame: their first frames are congruent modulo the smaller period, and neither has ended
(R243). -/
def patternsMeet (a1 : Int) (r1 : Nat) (e1 : Option Int) (a2 : Int) (r2 : Nat) (e2 : Option Int) : Bool :=
  let lo := min r1 r2
  let hi := max r1 r2
  let big := if r1 ≤ r2 then a2 else a1
  let other := if r1 ≤ r2 then a1 else a2
  let first := if other ≤ big then big else big + hi * ((other - big + hi - 1) / hi)
  let open_ (e : Option Int) : Bool := match e with
    | some k => decide (first ≤ k)
    | none => true
  (a1 - a2) % lo == 0 && open_ e1 && open_ e2

/-- Two records of the same entry of a flow table. -/
def Flow.is (x y : Flow) : Bool := x.num == y.num && x.seq == y.seq && x.rest == y.rest

/-- Cells of a flow's placed pieces; a recurring flow counts its pattern in force once. -/
def Flow.placed (x : Flow) : Nat :=
  if x.r = 0 then (x.pieces.map (fun p => p.slots.length)).foldl (· + ·) 0
  else if x.pieces.any (·.live) then x.n else 0

/-- Cells of a flow still unplaced. -/
def Flow.unplaced (x : Flow) : Nat := x.n - x.placed

/-! ### Candidates (R244, R245) -/

/-- Size of an axis: X 8, Y and Z 4. -/
def axisSize (a : Nat) : Nat := if a = 0 then 8 else 4

/-- A package's coordinate on an axis. -/
def axisOf (k a : Nat) : Nat :=
  let c := coord k
  if a = 0 then c.1 else if a = 1 then c.2.1 else c.2.2

/-- The steps on an axis: direction (0 +, 1 −) and count; reversed: the other way round. -/
def axisSteps (src dst a : Nat) (rev : Bool) : Nat × Nat :=
  let n := axisSize a
  let d := (axisOf dst a + n - axisOf src a) % n
  let plus := decide (2 * d ≤ n) != rev
  if plus then (0, d) else (1, (n - d) % n)

/-- The hops of a candidate from its axis order, reversed axis and link: package and port direction. -/
def candHops (src dst : Nat) (axes : List Nat) (rev : Option Nat) (link : Nat) : List (Nat × Nat) :=
  let steps := axes.flatMap (fun a =>
    let s := axisSteps src dst a (rev == some a)
    List.replicate s.2 (4 * a + 2 * s.1 + link))
  (steps.foldl (fun (acc : Nat × List (Nat × Nat)) port => (neighbour acc.1 port, acc.2 ++ [(acc.1, port)])) (src, [])).2

/-- Axis orders and reversals of Table 9-2, two indices each. -/
def candRows : List (List Nat × Option Nat) :=
  [([0, 1, 2], none), ([0, 2, 1], none), ([1, 0, 2], none), ([1, 2, 0], none), ([2, 0, 1], none), ([2, 1, 0], none),
    ([0, 1, 2], some 0), ([0, 1, 2], some 1), ([0, 1, 2], some 2)]

/-- The candidates from a source to a destination, by index; one that repeats an earlier hop sequence, or reverses an
axis without distance, is left out. -/
def candidates (src dst : Nat) : List (Nat × List (Nat × Nat)) :=
  let all := (List.range 9).flatMap (fun j =>
    let row := candRows.getD j ([], none)
    let ok := match row.2 with
      | some a => axisOf src a != axisOf dst a
      | none => true
    if ok then [(2 * j, candHops src dst row.1 row.2 0), (2 * j + 1, candHops src dst row.1 row.2 1)] else [])
  all.foldl (fun acc c => if acc.any (fun d => d.2 == c.2) then acc else acc ++ [c]) []

/-- The order in which a frame's candidates are tried: wait, index and hops (R245). -/
def candOrder (src dst : Nat) : List (Nat × Nat × List (Nat × Nat)) :=
  (List.range 8).flatMap (fun w => ((candidates src dst).filter (fun c => w == 0 || c.2.length != 1)).map (fun c => (w, c)))

/-! ### Trying a candidate (R246) -/

/-- What a pass knows: slots, present frame, offset ρ, and the lead's record of the span without the flows, with the
lead's own ports as they stand. -/
structure PassEnv where
  n : Nat
  f : FrameNo
  rho : BitVec 32
  lead : LeadSpan
  deriving DecidableEq, Repr

/-- A cell is usable at an offset while the flows reserve what they do. -/
def PassEnv.free (e : PassEnv) (flows : List Flow) (k : Int) (c : Cell) : Bool :=
  e.lead.usable e.n c && !reserved e.f flows k c

/-- The cells of a hop-1 slot on every hop. -/
def cellPath (hops : List (Nat × Nat)) (w slot : Nat) : List Cell :=
  ((List.range hops.length).zip hops).map (fun jh => { pkg := jh.2.1, port := jh.2.2, slot := slot + jh.1 * (2 + w) })

/-- The offsets of a recurring flow's later occurrences within the horizon. -/
def laterOccs (k : Int) (r c : Nat) : List Int :=
  ((List.range 17).map (fun (i : Nat) => k + r * ((i : Int) + 1))).filter (fun j => decide (j ≤ 17) &&
    (c = 0 || decide (j < k + r * (c : Int))))

/-- Tries a candidate at offset k: the piece, if accepted, and the number of cells checked in step 3. -/
def PassEnv.tryCand (e : PassEnv) (flows : List Flow) (x : Flow) (k : Int) (w idx : Nat) (hops : List (Nat × Nat)) :
    Option Piece × Nat :=
  let h := hops.length
  let lag := (h - 1) * (2 + w)
  let first := hops.getD 0 (0, 0)
  let eligible := (List.range e.n).filter (fun s =>
    decide (s + lag + 2 ≤ e.n) && e.free flows k { pkg := first.1, port := first.2, slot := s })
  let want := if x.r = 0 then min x.unplaced eligible.length else x.n
  if want = 0 || eligible.length < want then (none, 0)
  else
    let slots := eligible.take want
    let later := if x.r = 0 then [] else laterOccs k x.r x.c
    let cells := slots.flatMap (fun s => cellPath hops w s)
    let checks := slots.flatMap (fun s => (cellPath hops w s).drop 1 |>.map (fun c => (k, c))) ++
      later.flatMap (fun j => cells.map (fun c => (j, c)))
    let good := (checks.takeWhile (fun q => e.free flows q.1 q.2)).length
    let p : Piece := {
      frame := frameAt e.f k, cand := idx, wait := w, hops := h, slots := slots, cells := cells
      times := if x.r = 0 then some 1 else if x.c = 0 then none else some x.c }
    let clash := x.r != 0 && flows.any (fun y => y.r != 0 && !y.is x && y.pieces.any (fun q =>
      q.cells.any (fun c => cells.contains c) &&
        patternsMeet k x.r (p.lastAt e.f x.r) (q.at e.f) y.r (q.lastAt e.f y.r)))
    if good < checks.length then (none, good + 1)
    else if clash then (none, checks.length)
    else (some p, checks.length)

/-! ### The pass (R247 to R249) -/

/-- Cost of trying a candidate (Table 9-3). -/
def candCost (n checked : Nat) : Nat := 4 + ceilDiv n 64 + ceilDiv checked 16

/-- Cost of reserving a piece. -/
def pieceCost (x : Flow) (p : Piece) (k : Int) : Nat :=
  ceilDiv (p.cells.length * (1 + (if x.r = 0 then [] else laterOccs k x.r x.c).length)) 16

/-- A flow being placed: the flow, cycles spent, and whether the budget still holds. -/
structure Placing where
  x : Flow
  spent : Nat
  ok : Bool := true
  /-- a piece was accepted in the frame in progress -/
  hit : Bool := false
  deriving DecidableEq, Repr

/-- Spends cycles, or runs out. -/
def Placing.pay (budget cost : Nat) (s : Placing) : Placing :=
  if s.spent + cost ≤ budget then { s with spent := s.spent + cost } else { s with ok := false }

/-- The flows with one of them replaced. -/
def putFlow (x : Flow) (flows : List Flow) : List Flow := flows.map (fun y => if y.is x then x else y)

/-- Tries the candidates of a frame in order until one is accepted. -/
def PassEnv.tryFrame (e : PassEnv) (flows : List Flow) (budget : Nat) (k : Int) :
    List (Nat × Nat × List (Nat × Nat)) → Placing → Placing
  | [], s => s
  | c :: cs, s =>
    let y := e.tryCand (putFlow s.x flows) s.x k c.1 c.2.1 c.2.2
    let s' := s.pay budget (candCost e.n y.2)
    if !s'.ok then s'
    else match y.1 with
      | none => PassEnv.tryFrame e flows budget k cs s'
      | some p =>
        let t := s'.pay budget (pieceCost s.x p k)
        if t.ok then { t with x := { t.x with pieces := t.x.pieces ++ [p] }, hit := true } else t

/-- Tries the frames of a flow's window; a frame that already holds a piece of the flow takes no second one (R239). -/
def PassEnv.tryFrames (e : PassEnv) (flows : List Flow) (budget : Nat) : List Int → Placing → Placing
  | [], s => s
  | k :: ks, s =>
    if s.x.unplaced = 0 then s
    else if s.x.pieces.any (fun p => p.occurs e.f s.x.r k) then PassEnv.tryFrames e flows budget ks s
    else
      let s := s.pay budget 2
      if !s.ok then s
      else
        let s := e.tryFrame flows budget k (candOrder s.x.src s.x.dst) { s with hit := false }
        if !s.ok then s else PassEnv.tryFrames e flows budget ks s

/-- The offsets of the frames a pass tries for a flow (R247). -/
def PassEnv.window (e : PassEnv) (x : Flow) : List Int :=
  let lo := max (frameDiff (realFrame e.rho x.earliest) e.f) 2
  let hi := min (frameDiff (realFrame e.rho x.latest) e.f) 17
  (List.range (hi - lo + 1).toNat).map (fun (i : Nat) => lo + i)

/-- A flow is pending in a pass: cells unplaced, not withdrawn, and a latest frame still to be planned. -/
def PassEnv.pending (e : PassEnv) (x : Flow) : Bool :=
  x.unplaced != 0 && !x.withdrawn && decide (2 ≤ frameDiff (realFrame e.rho x.latest) e.f)

/-- The pass over flows in admission order: the flows as they then stand, cycles spent, flows given a piece, flows cut. A
flow that the budget stops loses what the pass gave it; it and every later pending flow are cut (R249). -/
def PassEnv.pass (e : PassEnv) (budget : Nat) : List Flow → List Flow → Nat → Nat → List Flow × Nat × Nat × Nat
  | [], flows, spent, given => (flows, spent, given, 0)
  | x :: xs, flows, spent, given =>
    if !e.pending x then PassEnv.pass e budget xs flows spent given
    else
      let s := (Placing.mk x spent true false).pay budget 8
      let s := if s.ok then e.tryFrames flows budget (e.window x) s else s
      if s.ok then
        PassEnv.pass e budget xs (putFlow s.x flows) s.spent (given + b2n (s.x.pieces.length != x.pieces.length))
      else (flows, s.spent, given, ((x :: xs).filter e.pending).length)

/-- The planning deadline's budget in PLAN cycles (R248): 5,000 at 8 µs, twice as many at each longer period. -/
def passBudget (period spans : Nat) : Nat := 5000 * 2 ^ period / spans

/-! ### Results (R240, Table 9-8) -/

/-- Result words of a flow. -/
def flowWords (f : FrameNo) (rho : BitVec 32) (x : Flow) : List W64 :=
  let offs := x.pieces.map (fun p => p.at f)
  let lo := offs.foldl min (offs.headD 0)
  let hi := offs.foldl max (offs.headD 0)
  let fr (k : Int) : Nat := if x.pieces.isEmpty then 0 else (planFrame rho (frameAt f k)).toNat
  let w4 := match x.pieces with
    | p :: _ => word [(0, p.cand), (5, p.wait), (8, p.hops)]
    | [] => 0
  [word [(0, x.num), (16, x.placed), (32, x.unplaced)], word [(0, fr lo)], word [(0, fr (if x.r = 0 then hi else lo))],
    word [(0, rho.toNat)], w4]

/-- The declaration of a flow, as its member keeps it. -/
def Flow.declared (span : BitVec 16) (x : Flow) : Declared :=
  { span := span, num := x.num, seq := x.seq, src := x.src, dst := x.dst, n := x.n, earliest := x.earliest
    latest := x.latest, r := x.r, c := x.c, key := x.key, known := true }

/-- A result reaches the member that declared the flow: its declaration gets its number, a FLOW.DECLARE its record, a
tree edge its placement (R240, R268). -/
def State.takeFlowResult (d : Declared) (oc : Oc) (rs : Reason) (ws : List W64) (final : Bool) (s : State) : State :=
  let s := s.updPln (fun p => { p with
    declared := (p.declared.map (fun x => if x.span == d.span && x.key == d.key && !x.known then d else x)).filter (fun x =>
      !(oc == .noResource && x.span == d.span && x.key == d.key)) })
  match d.key with
  | .cmd c =>
    if final then s.finish c oc rs ws else if c.admitAck then s.stage c oc rs (ws.take 2) false else s
  | .edge g tree target gen =>
    s.updRed (fun r => { r with
      groups := r.groups.map (fun y => if y.index == g && y.span == d.span then
        { y with
          edges := y.edges.map (fun e => if e.tree == tree && e.target == target && e.gen == gen then
            { e with
              flow := if oc == .noResource then none else some d.num, placed := e.placed || oc == .done
              failed := e.failed || (final && oc != .done) } else e) } else y) })
  | .rest _ => s

/-- The lead sends a result to the declaring member, or takes it itself. -/
def State.answerFlow (span : BitVec 16) (x : Flow) (oc : Oc) (rs : Reason) (final : Bool) (s : State) : State :=
  let rho := ((s.span? span).map (·.rho)).getD 0
  let ws := if oc = .admitted then [word [(0, x.num)], word [(0, x.seq.toNat)]] else flowWords s.frm.count rho x
  if x.pkg = s.self then s.takeFlowResult (x.declared span) oc rs ws final
  else s.send x.pkg (.flowResult (x.declared span) oc rs ws final)

/-- A flow is freed: its member forgets the declaration (R241, R374). -/
def State.takeFlowFreed (span : BitVec 16) (num : Nat) (s : State) : State :=
  s.updPln (fun p => { p with declared := p.declared.filter (fun d => !(d.span == span && d.num == num && d.known)) })

/-- Frees an entry at the lead; what a member keeps of the flow goes with the flow as declared. A freed flow is remembered
for 256 frames, in which a remainder may continue it (DESIGN CHOICE, log entry 122). -/
def State.freeFlow (span : BitVec 16) (x : Flow) (s : State) : State :=
  let s := s.updLead span (fun l => { l with
    flows := l.flows.filter (fun y => !y.is x)
    gone := if x.rest = 0 then
        (s.frm.count, x) :: l.gone.filter (fun g => decide (framesSince s.frm.count g.1 < 256)) else l.gone })
  if x.rest != 0 then s
  else if x.pkg = s.self then s.takeFlowFreed span x.num
  else s.send x.pkg (.flowFreed span x.num)

/-- Sends the answer of a FLOW.WITHDRAW or FLOW.QUERY to the package that asked. -/
def State.answerCmd (pkg : Nat) (c : CmdId) (oc : Oc) (rs : Reason) (ws : List W64) (s : State) : State :=
  if pkg = s.self then s.finish c oc rs ws else s.send pkg (.flowAnswer c oc rs ws)

/-! ### Declarations at the lead (R238, R240) -/

/-- The flow table's size. -/
def flowTable : Nat := 1024

/-- The lowest free flow number. -/
def freeFlowNum (flows : List Flow) : Option Nat := (List.range flowTable).find? (fun k => flows.all (fun x => x.num != k))

/-- No pass will plan the flow's latest frame any more: it is planned by the pass two frames before it. -/
def LeadSpan.tooLate (f : FrameNo) (rho : BitVec 32) (latest : FrameNo) (l : LeadSpan) : Bool :=
  let k := frameDiff (realFrame rho latest) f
  decide (k < 2) || (k == 2 && !l.passOpen)

/-- Puts an entry behind those of its own and earlier admission sequence (R238, R256, R374). -/
def insertFlow (x : Flow) : List Flow → List Flow
  | [] => [x]
  | y :: t => if 0 < (y.seq - x.seq).toInt then x :: y :: t else y :: insertFlow x t

/-- The flow a withdrawn transfer of a real frame belonged to: of those of that number in the table or freed from it, the
first with cells in the frame, else the first. -/
def LeadSpan.origin (now : FrameNo) (num : Nat) (frame : FrameNo) (l : LeadSpan) : Option Flow :=
  let xs := (l.flows ++ l.gone.map (·.2)).filter (fun x => x.num == num && x.rest == 0)
  xs.find? (fun x => x.pieces.any (fun p => p.occurs now x.r (frameDiff frame now))) <|> xs.head?

/-- Enters a continuation (R256): an entry of the flow's own number and admission position, whose cells are the remainder;
it gets no record of its own. A number the lead holds no flow of is entered last. -/
def LeadSpan.continue_ (now : FrameNo) (d : Declared) (frame : FrameNo) (pkg : Nat) (l : LeadSpan) : LeadSpan :=
  let new : Flow := {
    num := d.num, seq := l.nextSeq, rest := 1, pkg := pkg, key := d.key, src := d.src, dst := d.dst, n := d.n
    earliest := d.earliest, latest := d.latest, answered := true }
  match l.origin now d.num frame with
  | none => { l with flows := l.flows ++ [new], nextSeq := l.nextSeq + 1 }
  | some x =>
    let k := ((l.flows.filter (fun y => y.num == x.num && y.seq == x.seq)).map (·.rest)).foldl max 0
    { l with flows := insertFlow { new with seq := x.seq, rest := k + 1, src := x.src, dst := x.dst } l.flows }

/-- FLOW_DECLARATION_RECEIVE (R238, R240, R256): the lead enters the flow, or a remainder as the continuation of its flow. -/
def opFlowDeclarationReceive (d : Declared) (pkg : Fin 128) (s : State) : State :=
  match s.pln.leads.find? (fun l => l.span == d.span), s.span? d.span with
  | some l, some sp =>
    if sp.lead != s.self then s
    else match d.key with
    | .rest f => s.updLead d.span (fun l => l.continue_ s.frm.count d f pkg.val)
    | _ => match freeFlowNum l.flows with
      | none =>
        let x : Flow := {
          num := 0, seq := 0, pkg := pkg.val, key := d.key, src := d.src, dst := d.dst, n := d.n, earliest := d.earliest
          latest := d.latest }
        s.answerFlow d.span x .noResource .tableFull true
      | some num =>
        let x : Flow := {
          num := num, seq := l.nextSeq, pkg := pkg.val, key := d.key, src := d.src, dst := d.dst, n := d.n
          earliest := d.earliest, latest := d.latest, r := d.r, c := d.c }
        let s := s.updLead d.span (fun l => { l with flows := l.flows ++ [x], nextSeq := l.nextSeq + 1 })
        let s := s.answerFlow d.span x .admitted .none false
        if l.tooLate s.frm.count sp.rho d.latest then (s.answerFlow d.span x .partly .bestSoFar true).freeFlow d.span x
        else s
  | _, _ => s

/-- A declaration of this package goes to its lead. -/
def State.declare (lead : Nat) (d : Declared) (s : State) : State :=
  (s.updPln (fun p => { p with declared := match d.key with
    | .rest _ => p.declared
    | _ => p.declared ++ [d] })).send lead
    (.flowDeclare d s.self)

/-! ### What a pass start does before its budget (R241, R257, R260, R262) -/

/-- Cuts a recurring piece to its occurrences before an offset; none when none is left. -/
def Piece.cutBefore (f : FrameNo) (r : Nat) (k : Int) (p : Piece) : Option Piece :=
  if r = 0 then (if p.at f < k then some p else none)
  else
    let a := p.at f
    let count := if k ≤ a then 0 else ((k - a + r - 1) / r).toNat
    let count := match p.times with
      | some t => min t count
      | none => count
    if count = 0 then none else some { p with times := some count, live := false }

/-- A flow's cells and occurrences from offset k on are removed. With `again` they are to be placed again from that offset
on (R260, R262): a recurring flow's remaining occurrences within one period of its first removed one, a flow of pieces
within its window, kept open as far as that offset. A pattern with no occurrence left stays as it is. -/
def Flow.cutFrom (f : FrameNo) (rho : BitVec 32) (k : Int) (again : Option Int) (x : Flow) : Flow :=
  let kept := x.pieces.filterMap (fun p => p.cutBefore f x.r k)
  let plan (j : Int) : FrameNo := planFrame rho (frameAt f j)
  match x.pieces.find? (fun p => p.live && x.r != 0), again with
  | some p, some j =>
    let next := p.nextAt f x.r k
    let done : Nat := ((next - p.at f) / x.r).toNat
    let first := max next j
    let y := { x with pieces := kept, earliest := plan first, latest := plan (first + x.r - 1) }
    match p.times with
    | some t => if t ≤ done then x else { y with c := t - done }
    | none => { y with c := 0 }
  | none, some j =>
    if kept.length != x.pieces.length && decide (frameDiff (realFrame rho x.latest) f < j) then
      { x with pieces := kept, latest := plan j }
    else { x with pieces := kept }
  | _, none => { x with pieces := kept }

/-- A flow has a cell, in a frame not yet committed, that is not usable any more. -/
def PassEnv.broken (e : PassEnv) (p : Piece) (r : Nat) : Bool :=
  (match p.lastAt e.f r with
    | some k => decide (2 ≤ k)
    | none => true) &&
    p.cells.any (fun c => !e.lead.usable e.n c)

/-- Releases what link changes took: an affected piece returns to pending, a recurring flow loses its pattern from its
first uncommitted occurrence; with the number released (R260). -/
def PassEnv.release (e : PassEnv) (x : Flow) : Flow × Nat :=
  if x.r = 0 then
    let gone := x.pieces.filter (fun p => e.broken p 0)
    ({ x with pieces := x.pieces.filter (fun p => !e.broken p 0) }, gone.length)
  else if x.pieces.any (fun p => p.live && e.broken p x.r) then
    (x.cutFrom e.f e.rho 2 (some 2), 1)
  else (x, 0)

/-- Moves a piece's reservations at offset 0 or later two frames later: a pattern under way is split (R257). -/
def Piece.shift (f : FrameNo) (r : Nat) (p : Piece) : List Piece :=
  if 0 ≤ p.at f then [{ p with frame := p.frame + 2 }]
  else if r = 0 then [p]
  else
    let next := p.nextAt f r 0
    let done : Nat := ((next - p.at f) / r).toNat
    let past : Piece := { p with times := some (match p.times with | some t => min t done | none => done), live := false }
    match p.times with
    | some t => if t ≤ done then [p] else [past, { p with frame := frameAt f (next + 2), times := some (t - done) }]
    | none => [past, { p with frame := frameAt f (next + 2) }]

/-- The flow's entry is free: nothing of it is left to come (R241). A flow that a link change or a period change returned
to pending is not, while its latest frame can still be planned (R260, R262). -/
def Flow.ended (f : FrameNo) (rho : BitVec 32) (x : Flow) : Bool :=
  let past := x.pieces.all (fun p => match p.lastAt f x.r with
    | some k => decide (k < 0)
    | none => false)
  past && (x.withdrawn || (x.answered && (x.unplaced = 0 || decide (frameDiff (realFrame rho x.latest) f < 2))))

/-- Last plan frame in which a flow holds cells, and whether none remain: the words of FLOW.WITHDRAW (Table 9-8). -/
def withdrawWords (f : FrameNo) (rho : BitVec 32) (x : Flow) : List W64 :=
  let ends := x.pieces.map (fun p => (p.lastAt f x.r).getD 0)
  let hi := ends.foldl max (ends.headD 0)
  if x.pieces.any (fun p => match p.lastAt f x.r with
      | some k => decide (0 ≤ k)
      | none => true) then [word [(0, (planFrame rho (frameAt f hi)).toNat)]]
  else [word [(0, if ends.isEmpty then 0 else (planFrame rho (frameAt f hi)).toNat), (48, 1)]]

/-- Takes withdrawals at a pass start: cells in uncommitted frames go, and the commands and an unanswered declaration get
their records (R264). -/
def State.withdrawFlow (span : BitVec 16) (rho : BitVec 32) (x : Flow) (s : State) : State :=
  let f := s.frm.count
  let y := { x.cutFrom f rho 2 none with withdrawing := false, withdrawn := true, asks := [], answered := true }
  let s := s.updLead span (fun l => { l with flows := putFlow y l.flows })
  let s := x.asks.foldl (fun s a => s.answerCmd a.1 a.2 .done .none (withdrawWords f rho y)) s
  if x.answered then s else s.answerFlow span y .partly .bestSoFar true

/-- Spans led here. -/
def State.ledSpans (s : State) : List Span := s.ten.spans.filter (fun x => x.lead == s.self && s.pln.leads.any (fun l => l.span == x.id))

/-- The lead knows the state of its own torus ports directly (R237, R351). -/
def State.ownPorts (l : LeadSpan) (s : State) : LeadSpan :=
  let own (f : Nat → Bool) : List (Nat × Nat) := ((List.range 12).filter f).map (fun i => (s.self, i))
  { l with
    down := l.down.filter (fun x => x.1 != s.self) ++ own (fun i => !s.portUsable i)
    half := l.half.filter (fun x => x.1 != s.self) ++ own (fun i => (s.port i).width = .low || (s.port i).width = .high) }

/-- What a pass knows of a span. -/
def State.passEnv (x : Span) (s : State) : PassEnv :=
  { n := s.slots, f := s.frm.count, rho := x.rho
    lead := s.ownPorts { (s.pln.leads.find? (fun l => l.span == x.id)).getD { span := x.id } with flows := [], gone := [] } }

/-- The start of a span's pass before its budget: span-hold shift, freed entries, withdrawals and releases. `moved`: this
is CHANGE_FRAME, at which every reservation is dropped and placed again, from the frame this pass plans on (R262, log
entry 121). -/
def State.passPrepare (moved : Bool) (x : Span) (s : State) : State :=
  let f := s.frm.count
  let due := s.pln.leads.any (fun l => l.span == x.id && l.holds.contains f)
  let s := s.updLead x.id (fun l => { l with
    holds := l.holds.filter (fun h => decide (-2 ≤ frameDiff h f)), rebased := due || l.rebased
    flows := if due then l.flows.map (fun y => { y with pieces := y.pieces.flatMap (fun p => p.shift f y.r) }) else l.flows })
  let s := if moved then s.updLead x.id (fun l => { l with flows := l.flows.map (fun y => y.cutFrom f x.rho 0 (some 2)) }) else s
  let flows (s : State) : List Flow := ((s.pln.leads.find? (fun l => l.span == x.id)).map (·.flows)).getD []
  let s := (flows s).foldl (fun s y =>
    if x.withdraw || y.withdrawing then s.withdrawFlow x.id x.rho y else s) s
  let s := s.updSpan x.id (fun x => { x with withdraw := false })
  let e := s.passEnv x
  let rel := (flows s).map e.release
  let n := (rel.map (·.2)).foldl (· + ·) 0
  let s := (s.updLead x.id (fun l => { l with flows := rel.map (·.1) })).updPln (fun p => { p with replaced := satAdd p.replaced n })
  (flows s).foldl (fun s y => if y.ended f x.rho then s.freeFlow x.id y else s) s

/-- The passes of a frame (R247): every ACTIVE span led here, its budget an equal part of what all spans led here share. None runs while the package is
not synchronised (Table 13-6) or both planners failed self-test (R457); records for a DEAD span are not made
(R373). -/
def State.planPasses (moved : Bool) (s : State) : State :=
  let led := s.ledSpans
  let s := led.foldl (fun s x => s.passPrepare moved ((s.span? x.id).getD x)) s
  let run := (s.ledSpans).filter (fun x => x.state == .active)
  if !s.synced || s.por.plnFail = 3 then s
  else run.foldl (fun s x =>
    let e := s.passEnv x
    let flows := ((s.pln.leads.find? (fun l => l.span == x.id)).map (·.flows)).getD []
    let r := e.pass (passBudget s.frm.period.toNat led.length) flows flows 0 0
    s.updLead x.id (fun l => { l with flows := r.1, passOpen := true, cycles := r.2.1, placed := r.2.2.1, cut := r.2.2.2 })) s

/-- Drops what an uncommitted pass gave (R249, R261). -/
def LeadSpan.dropPass (l : LeadSpan) : LeadSpan :=
  { l with
    passOpen := false
    flows := l.flows.map (fun x => { x with pieces := x.pieces.filter (fun p => !p.fresh) }) }

/-! ### Plan records (R250, R251) -/

/-- Inserts a planned cell by port and slot: port, slot, flow, input port. -/
def insertCell (c : Nat × Nat × Nat × Nat) : List (Nat × Nat × Nat × Nat) → List (Nat × Nat × Nat × Nat)
  | [] => [c]
  | d :: t => if c.1 < d.1 || (c.1 = d.1 && c.2.1 < d.2.1) then c :: d :: t else d :: insertCell c t

/-- Joins cells into runs; `step` gives the slot distance within a run of a port. -/
def runsOf (step : Nat → Nat) : List (Nat × Nat × Nat × Nat) → List PlanEntry → List PlanEntry
  | [], acc => acc.reverse
  | c :: cs, acc =>
    let new : PlanEntry := { first := c.2.1, count := 1, flow := c.2.2.1, outPort := c.1, inPort := c.2.2.2 }
    match acc with
    | e :: es =>
      if e.outPort = c.1 && e.flow = c.2.2.1 && e.inPort = c.2.2.2 && e.first + e.count * step c.1 = c.2.1 then
        runsOf step cs ({ e with count := e.count + 1 } :: es)
      else runsOf step cs (new :: e :: es)
    | [] => runsOf step cs [new]

/-- The cells of a piece at a package: port, slot, flow and the port whose transit buffer feeds it, 15 at the source. -/
def Piece.cellsAt (flow pkg : Nat) (p : Piece) : List (Nat × Nat × Nat × Nat) :=
  ((List.range p.cells.length).zip p.cells).filterMap (fun ic =>
    if ic.2.pkg = pkg then
      let j := ic.1 % p.hops
      let inp := if j = 0 then 15 else farPort (p.cells.getD (ic.1 - 1) ic.2).port
      some (ic.2.port, ic.2.slot, flow, inp)
    else none)

/-- The record of a member for a frame at an offset (R250). -/
def LeadSpan.record (f : FrameNo) (rho : BitVec 32) (lead member : Nat) (k : Int) (l : LeadSpan) : PlanRecord :=
  let cells := l.flows.flatMap (fun x => (x.pieces.filter (fun p => p.occurs f x.r k)).flatMap (fun p => p.cellsAt x.num member))
  { frame := frameAt f k, span := l.span, rebase := rho, lead := lead, rebased := l.rebased, member := member
    entries := runsOf (fun port => if l.half.contains (member, port) then 2 else 1) (cells.foldl (fun a c => insertCell c a) []) [] }

/-- A flow that the pass decided: every cell placed, or its latest frame planned with cells unplaced (R240). -/
def PassEnv.decided (e : PassEnv) (x : Flow) : Option (Oc × Reason) :=
  if x.answered then none
  else if x.unplaced = 0 then some (.done, .none)
  else if frameDiff (realFrame e.rho x.latest) e.f ≤ 2 then some (.partly, .bestSoFar)
  else none

/-- Commits the pass of a span: records for the frame after next, and the records of the flows it decided. -/
def State.commitPass (x : Span) (s : State) : State :=
  let e := s.passEnv x
  let s := s.updLead x.id (fun l => { l with
    passOpen := false, flows := l.flows.map (fun y => { y with pieces := y.pieces.map (fun p => { p with fresh := false }) }) })
  match s.pln.leads.find? (fun l => l.span == x.id) with
  | none => s
  | some l =>
    let recs := x.ring.map (fun k => (s.ownPorts l).record s.frm.count x.rho s.self k 2)
    let s := s.updPln (fun p => { p with toSend := p.toSend ++ recs })
    let s := s.updLead x.id (fun l => { l with rebased := false })
    l.flows.foldl (fun s y =>
      match e.decided y with
      | none => s
      | some (oc, rs) =>
        let y := { y with answered := true }
        let s := s.updLead x.id (fun l => { l with flows := putFlow y l.flows })
        let s := s.answerFlow x.id y oc rs true
        if y.pieces.isEmpty then s.freeFlow x.id y else s) s

/-- The planning deadline (R249, R263): every open pass commits, and PLN.PASS reports them. -/
def State.planCommit (s : State) : State :=
  let runs := s.pln.leads.filter (·.passOpen)
  let sum (g : LeadSpan → Nat) : Nat := (runs.map g).foldl (· + ·) 0
  let cyc := sum (·.cycles)
  let cut := sum (·.cut)
  let given := sum (·.placed)
  let s := (s.ledSpans.filter (fun x => runs.any (fun l => l.span == x.id))).foldl (fun s x => s.commitPass x) s
  if runs.isEmpty then s
  else s.updPln (fun p => { p with
    cycles := BitVec.ofNat 18 (min cyc (2 ^ 18 - 1)), cut := BitVec.ofNat 10 (min cut 1023)
    placed := BitVec.ofNat 10 (min given 1023) })

/-- PLANNER_TAKEOVER (R261): the active planner has faulted; the pass in progress commits nothing, and the standby runs
from the next pass on. -/
def opPlannerTakeover (s : State) : State :=
  s.updPln (fun p => { p with
    leads := p.leads.map LeadSpan.dropPass, standby := !p.standby, takeover := satAdd p.takeover 1, fault := true })

/-- PLAN_RECORD_SEND (R251, Table 2-3): at 0.25 µs the records for the next frame leave for every other member; the own
one comes by the row of its receipt. -/
def opPlanRecordSend (s : State) : State :=
  let due := s.pln.toSend.filter (fun r => r.frame == s.frm.count + 1)
  let s := s.updPln (fun p => { p with toSend := p.toSend.filter (fun r => later r.frame (s.frm.count + 1)) })
  due.foldl (fun s r => s.send r.member (.planRecord r)) s

/-- PLAN_RECORD_RECEIVE (R251, R374): accepted for the next frame when every flit came with a good CRC before the slack
start, its LEAD is the acting lead and its REBASE the own ρ. -/
def opPlanRecordReceive (r : PlanRecord) (good : Bool) (s : State) : State :=
  match s.span? r.span with
  | none => s
  | some x =>
    if good && r.member == s.self && r.frame == s.frm.count + 1 && s.frm.phase != .slack && r.lead == x.lead &&
        r.rebase == x.rho && x.state == .active then
      s.updPln (fun p => { p with accepted := p.accepted.filter (fun y => y.span != r.span) ++ [r] })
    else s

/-! ### Span-holds (R257) -/

/-- A span-hold reaches this member. -/
def State.takeSpanHold (span : BitVec 16) (h : FrameNo) (rho : BitVec 32) (s : State) : State :=
  if (s.span? span).isNone || s.pln.spanHolds.any (fun x => x.1 == span && x.2.1 == h) then s
  else s.updPln (fun p => { p with spanHolds := p.spanHolds ++ [(span, h, rho)] })

/-- SPAN_HOLD_RECEIVE (R257). -/
def opSpanHoldReceive (span : BitVec 16) (h : FrameNo) (rho : BitVec 32) (s : State) : State := s.takeSpanHold span h rho

/-- OVERRUN_NOTICE_RECEIVE (R48, R257): the lead announces hold frames h and h + 1 with the new ρ, unless they would
overlap an announced span-hold. -/
def opOverrunNoticeReceive (span : BitVec 16) (_frame : FrameNo) (_pkg : Fin 128) (s : State) : State :=
  match s.span? span, s.pln.leads.find? (fun l => l.span == span) with
  | some x, some l =>
    let h := if s.frm.phase = .slack then s.frm.count + 2 else s.frm.count + 1
    if x.lead != s.self || x.state != .active || l.holds.any (fun k => decide ((frameDiff k h).natAbs ≤ 1)) then s
    else
      let ahead := (l.holds.filter (fun k => later k s.frm.count)).length
      let rho := x.rho + BitVec.ofNat 32 (2 * (ahead + 1))
      let s := s.updLead span (fun l => { l with holds := l.holds ++ [h] })
      let s := (s.updPln (fun p => { p with holds := satAdd p.holds 1 })).log 0x0500 [(0, span.toNat), (16, rho.toNat)]
      (s.sendAll (x.ring.filter (fun k => k != s.self)) (.spanHold span h rho)).takeSpanHold span h rho
  | _, _ => s

/-- What a commit instant does to span-holds at a member: the new ρ counts from the first hold frame on, and the span's
partition holds in both frames (R48, R257). -/
def State.holdCommit (s : State) : State :=
  let f := s.frm.count
  let due := s.pln.spanHolds.filter (fun x => !later x.2.1 f)
  let s := due.foldl (fun s x => s.updSpan x.1 (fun y => { y with rho := x.2.2 })) s
  let now := due.filter (fun x => decide (frameDiff f x.2.1 ≤ 1))
  let s := s.updPln (fun p => { p with
    spanHolds := p.spanHolds.filter (fun x => later x.2.1 f || decide (frameDiff f x.2.1 < 1)) })
  (List.range 16).foldl (fun s p =>
    let on := now.any (fun x => s.ten.spans.any (fun y => y.id == x.1 && y.part == p && y.state == .active))
    if on || (s.frmp p).spanHold then s.updFrmp p (fun y => { y with spanHold := on }) else s) s

/-- HEALTH_NOTICE_RECEIVE (R260, R351): the lead takes the change for the next pass of every span it leads with that
member. -/
def opHealthNoticeReceive (_frame : FrameNo) (port : Fin 16) (health width : BitVec 2) (pkg : Fin 128) (s : State) : State :=
  s.updPln (fun p => { p with
    leads := p.leads.map (fun l => if s.ten.spans.any (fun x => x.id == l.span && x.ring.contains pkg.val) then
      l.takeHealth pkg.val port.val health.toNat width.toNat else l) })

/-! ### FLOW commands (R264, Table 9-8) -/

/-- The span a FLOW or GROUP command names, one of the partition's and ACTIVE; else why not (R264, R370). -/
def State.activeSpan (p : Nat) (w : W64) (s : State) : Except Reason Span :=
  match s.span? (BitVec.ofNat 16 (fld w 0 16)) with
  | none => .error .badHandle
  | some x => if x.part != p then .error .badHandle else if x.state != .active then .error .badState else .ok x

/-- FLOW.DECLARE (R238, R264). -/
def flowDeclareBody (c : CmdId) (p : Nat) (e : Entry) (s : State) : State × Reply :=
  match s.activeSpan p (e.arg 0) with
  | .error rs => (s, .bad rs)
  | .ok x =>
    let src := fld (e.arg 0) 16 7
    let dst := fld (e.arg 0) 24 7
    if !x.ring.contains src || !x.ring.contains dst then (s, .bad .badHandle)
    else
      let d : Declared := {
        span := x.id, num := 0, seq := 0, src := src, dst := dst, n := fld (e.arg 0) 32 16
        earliest := BitVec.ofNat 48 (fld (e.arg 1) 0 48), latest := BitVec.ofNat 48 (fld (e.arg 2) 0 48)
        r := fld (e.arg 3) 0 5, c := fld (e.arg 3) 16 16, key := .cmd c }
      (s.declare x.lead d, .later)

/-- FLOW.DECLARE in range: source and destination differ, n ≥ 1, latest not below earliest, a legal period, and a
recurring n within the grid. -/
def flowDeclareRange (a : List W64) (s : State) : Bool :=
  let w := a.getD 0 0
  let r := fld (a.getD 3 0) 0 5
  fld w 16 7 != fld w 24 7 && fld w 32 16 != 0 &&
    !later (BitVec.ofNat 48 (fld (a.getD 1 0) 0 48)) (BitVec.ofNat 48 (fld (a.getD 2 0) 0 48)) &&
    (r = 0 || r = 1 || r = 2 || r = 4 || r = 8 || r = 16) && (r = 0 || decide (fld w 32 16 + 1 ≤ s.slots))

/-- FLOW.DECLARE. -/
def specFlowDeclare : Spec where
  opcode := opcodeOf 0x0C 1
  permitted := vfOnly
  allowed := fun _ _ =>
    [maskOf 64 [(0, 23), (24, 7), (32, 16)], maskOf 64 [(0, 48)], maskOf 64 [(0, 48)], maskOf 64 [(0, 5), (16, 16)]]
  inRange := fun _ a s => flowDeclareRange a s
  part := ownPart
  cls := .k
  body := flowDeclareBody

/-- The lead takes a FLOW.WITHDRAW: it is answered at the next pass start; an unknown flow is no handle. -/
def State.leadWithdraw (span : BitVec 16) (num pkg : Nat) (c : Option CmdId) (s : State) : State :=
  match s.pln.leads.find? (fun l => l.span == span) with
  | none => s
  | some l =>
    if l.flows.any (fun x => x.num == num) then
      s.updLead span (fun l => { l with
        flows := l.flows.map (fun x => if x.num == num then
          { x with
            asks := if (l.flows.find? (fun y => y.num == num)).any x.is then x.asks ++ c.toList.map (fun c => (pkg, c)) else x.asks
            withdrawing := true } else x) })
    else c.toList.foldl (fun s c => s.answerCmd pkg c .badCommand .badHandle []) s

/-- State of a flow as FLOW.QUERY reports it; 4 from the pass on that took its withdrawal. -/
def Flow.stateCode (x : Flow) : Nat :=
  if x.withdrawn then 4 else if x.unplaced != 0 then 1 else if x.r = 0 then 2 else 3

/-- Words of FLOW.QUERY for a flow, in a plan frame. -/
def flowQueryWords (f : FrameNo) (rho : BitVec 32) (frame : FrameNo) (x : Option Flow) : List W64 :=
  match x with
  | none => [0, word [(0, rho.toNat)], 0, 0, word [(0, f.toNat)]]
  | some x =>
    let k := frameDiff (realFrame rho frame) f
    let p := x.pieces.find? (fun p => p.occurs f x.r k)
    let n := (p.map (fun p => p.slots.length)).getD 0
    let w2 := match p with
      | some p => word [(0, p.slots.headD 0), (12, (p.cells.map (·.port)).headD 0), (16, p.hops), (20, p.wait)]
      | none => 0
    [word [(0, x.stateCode), (16, n), (32, x.unplaced)], word [(0, rho.toNat)], w2, word [(0, x.seq.toNat)], word [(0, f.toNat)]]

/-- The entry a FLOW.QUERY reports: of those of the number, the first with cells in the frame, else the first. -/
def LeadSpan.queried (now : FrameNo) (num : Nat) (frame : FrameNo) (l : LeadSpan) : Option Flow :=
  let xs := l.flows.filter (fun x => x.num == num)
  xs.find? (fun x => x.pieces.any (fun p => p.occurs now x.r (frameDiff frame now))) <|> xs.head?

/-- The lead answers a FLOW.QUERY. -/
def State.leadQuery (span : BitVec 16) (num : Nat) (summary : Bool) (frame : FrameNo) (pkg : Nat) (c : CmdId) (s : State) :
    State :=
  match s.pln.leads.find? (fun l => l.span == span), s.span? span with
  | some l, some x =>
    let ws := if summary then [word [(0, l.flows.length)], word [(0, x.rho.toNat)], word [(0, s.self)]]
      else flowQueryWords s.frm.count x.rho frame (l.queried s.frm.count num (realFrame x.rho frame))
    s.answerCmd pkg c .done .none ws
  | _, _ => s

/-- The span of a FLOW.WITHDRAW or FLOW.QUERY. -/
def State.flowSpan (p : Nat) (w : W64) (s : State) : Option Span :=
  (s.span? (BitVec.ofNat 16 (fld w 0 16))).filter (fun x => x.part == p)

/-- What FLOW.WITHDRAW does. -/
def flowWithdrawBody (c : CmdId) (p : Nat) (e : Entry) (s : State) : State × Reply :=
  match s.flowSpan p (e.arg 0) with
  | none => (s, .bad .badHandle)
  | some x =>
    let num := fld (e.arg 0) 16 10
    if x.lead = s.self then (s.leadWithdraw x.id num s.self (some c), .later)
    else (s.send x.lead (.flowWithdraw x.id num s.self (some c)), .later)

/-- FLOW.WITHDRAW. -/
def specFlowWithdraw : Spec where
  opcode := opcodeOf 0x0C 2
  permitted := vfOnly
  allowed := fun _ _ => [maskOf 64 [(0, 26)]]
  part := ownPart
  cls := .k
  body := flowWithdrawBody

/-- What FLOW.QUERY does. -/
def flowQueryBody (c : CmdId) (p : Nat) (e : Entry) (s : State) : State × Reply :=
  match s.flowSpan p (e.arg 0) with
  | none => (s, .bad .badHandle)
  | some x =>
    let num := fld (e.arg 0) 16 10
    let sum := bit (e.arg 0) 26
    let fr : FrameNo := BitVec.ofNat 48 (fld (e.arg 1) 0 48)
    if x.lead = s.self then (s.leadQuery x.id num sum fr s.self c, .later)
    else (s.send x.lead (.flowQuery x.id num sum fr s.self c), .later)

/-- FLOW.QUERY. -/
def specFlowQuery : Spec where
  opcode := opcodeOf 0x0C 3
  permitted := vfOnly
  allowed := fun _ _ => [maskOf 64 [(0, 27)], maskOf 64 [(0, 48)]]
  part := ownPart
  cls := .q
  body := flowQueryBody

/-! ### Meanings of the rows -/

/-- FLOW_DECLARE (R238). -/
def execFlowDeclare (m : Fin 18) (e : Entry) (s : State) : Host.Outcome State Fault Refusal :=
  .next (serve specFlowDeclare m.val e s)

/-- FLOW_WITHDRAW (R264). -/
def execFlowWithdraw (m : Fin 18) (e : Entry) (s : State) : Host.Outcome State Fault Refusal :=
  .next (serve specFlowWithdraw m.val e s)

/-- FLOW_QUERY (R264). -/
def execFlowQuery (m : Fin 18) (e : Entry) (s : State) : Host.Outcome State Fault Refusal :=
  .next (serve specFlowQuery m.val e s)

/-- PLAN_RECORD_SEND (R251). -/
def execPlanRecordSend (s : State) : Host.Outcome State Fault Refusal :=
  .next (s.whenClocked (opPlanRecordSend s))

/-- PLAN_RECORD_RECEIVE (R251). -/
def execPlanRecordReceive (r : PlanRecord) (good : Bool) (s : State) : Host.Outcome State Fault Refusal :=
  .next (s.whenClocked (opPlanRecordReceive r good s))

/-- OVERRUN_NOTICE_RECEIVE (R257). -/
def execOverrunNoticeReceive (span : BitVec 16) (frame : FrameNo) (pkg : Fin 128) (s : State) :
    Host.Outcome State Fault Refusal :=
  .next (s.whenClocked (s.toChoesk pkg.val (.overrun span frame pkg.val)
    (opOverrunNoticeReceive span frame pkg s)))

/-- SPAN_HOLD_RECEIVE (R257). -/
def execSpanHoldReceive (span : BitVec 16) (h : FrameNo) (rho : BitVec 32) (s : State) :
    Host.Outcome State Fault Refusal :=
  .next (s.whenClocked (s.toChoesk 0 (.spanHold span h rho)
    (opSpanHoldReceive span h rho s)))

/-- FLOW_DECLARATION_RECEIVE (R238). -/
def execFlowDeclarationReceive (d : Declared) (pkg : Fin 128) (s : State) :
    Host.Outcome State Fault Refusal :=
  .next (s.whenClocked (s.toChoesk pkg.val (.flowDeclare d pkg.val)
    (opFlowDeclarationReceive d pkg s)))

/-- HEALTH_NOTICE_RECEIVE (R260). -/
def execHealthNoticeReceive (frame : FrameNo) (port : Fin 16) (health : BitVec 2) (width : BitVec 2) (pkg : Fin 128) (s : State) :
    Host.Outcome State Fault Refusal :=
  .next (s.whenClocked (s.toChoesk pkg.val (.health frame port.val health.toNat width.toNat pkg.val 0)
    (opHealthNoticeReceive frame port health width pkg s)))

/-- PLANNER_TAKEOVER (R261). -/
def execPlannerTakeover (s : State) : Host.Outcome State Fault Refusal :=
  .next (s.whenClocked (opPlannerTakeover s))

end Sys2Proof.Machine
end

