-- ==== Sys2Proof/Machine/Circ.lean ====
section
/-! DEFINITION. Planned data: circulation sends and receives (R258, R259), reshard moves (R182, R183), chunk images as
cells (R273, R274, R277), and what a port does at each slot window (R252, R254) and on a cell's arrival (R312, R345). -/

namespace Sys2Proof.Machine

open Sys2Proof

/-- Payload bytes of a cell. -/
def cellBytes : Nat := 8192

/-! ### Sends (R258, R259) -/

/-- Counts bytes moved between an address and a port (R388). -/
def Op.tallyPort (a n : Nat) (o : Op) : Op :=
  if dvaSpace a < 2 then { o with ext := o.ext + n } else { o with loc := o.loc + n }

/-- The span whose flow a planned operation names, as read at issue. -/
def Op.span (o : Op) : BitVec 16 := BitVec.ofNat 16 (o.params.headD 0)

/-- Gives a send more bytes to carry. -/
def State.gather (o : Op) (bs : List Byte) (s : State) : State :=
  s.updPln (fun p => { p with
    sends := if p.sends.any (fun x => x.1 == o.id) then
        p.sends.map (fun x => if x.1 == o.id then (x.1, { x.2 with bytes := x.2.bytes ++ bs }) else x)
      else p.sends ++ [(o.id, { span := o.span, flow := o.desc.flow, frame := o.desc.planFrame, bytes := bs })] })

/-- One tile of a send is gathered in address order. -/
def State.sendTile (o : Op) (s : State) : State × Got Op :=
  let d := o.desc
  let i := o.copyAt
  let a := s.operand d.handleA o.h0 (d.addrA) (d.tileA i.1 i.2 0)
  gotThen (a.2.readRows o.who (d.strideA) (d.tn) (d.tm) a.1 []) (fun rows s =>
    (s.gather o (rows.flatMap id)).endTile (o.tallyPort a.1 (d.tm * d.tn)) none (decide (o.h * o.m ≤ o.iter + 1)))

/-! ### Receives (R258, R259) -/

/-- The cells that have arrived for a receive. -/
def Op.takes (o : Op) (c : CellData) : Bool := c.span == o.span && c.flow == o.desc.flow && c.frame == o.desc.planFrame

/-- Drops the first `n` bytes of the cells a receive takes. -/
def dropArrived (o : Op) : Nat → List CellData → List CellData
  | _, [] => []
  | n, c :: cs =>
    if !o.takes c then c :: dropArrived o n cs
    else if n < c.bytes.length then { c with bytes := c.bytes.drop n } :: cs
    else dropArrived o (n - c.bytes.length) cs

/-- An operation receives planned data. -/
def Desc.receives (d : Desc) : Bool := d.planned && !d.sends

/-- Receives of one flow and frame take their bytes in issue order. -/
def State.receivesFirst (o : Op) (s : State) : Bool :=
  s.seq.ops.all (fun x => decide (o.id ≤ x.id) || !(x.desc.receives && x.part == o.part && x.span == o.span &&
    x.desc.flow == o.desc.flow && x.desc.planFrame == o.desc.planFrame && !x.loopsDone))

/-- One tile of a receive: it waits until its bytes have arrived, then scatters them; with DUP the handle also goes to the
queue that IN1 names. -/
def State.receiveTile (o : Op) (s : State) : State × Got Op :=
  let d := o.desc
  let i := o.copyAt
  let n := d.tm * d.tn
  let bs := ((s.pln.arrived.filter o.takes).flatMap (·.bytes)).take n
  if bs.length < n || !s.receivesFirst o then (s, .wait)
  else
    let c := s.operand d.handleC o.hc (d.addrC) (d.tileC i.1 i.2 0)
    gotThen (c.2.writeRows o.who (d.strideC) c.1 (chunks (d.tn) (d.tm) bs)) (fun _ s =>
      let s := s.updPln (fun p => { p with arrived := dropArrived o n p.arrived })
      gotThen (s.endTile (o.tallyPort c.1 n) (some (extent (d.tm) (d.strideC) (d.tn))) (decide (o.h * o.m ≤ o.iter + 1)))
        (fun o' s =>
          let dup := if d.kind = 6 && d.variant = 1 && qUse (d.in1) then
              o'.waits.filterMap (fun w => match w with
                | .out _ h _ => some (.out (BitVec.ofNat 10 d.in1) h none)
                | _ => none)
            else []
          (s, .ok { o' with waits := o'.waits ++ dup })))

/-- CIRCULATION_SEND (R259): one tile of a send. -/
def opCirculationSend (id : Nat) (s : State) : State :=
  s.runTile id (fun o => o.desc.kind == 5) Op.needsInputs State.sendTile

/-- CIRCULATION_RECEIVE (R259): one tile of a receive. -/
def opCirculationReceive (id : Nat) (s : State) : State :=
  s.runTile id (fun o => o.desc.kind == 6) Op.needsFree State.receiveTile

/-- RESHARD_MOVE (R182): one tile of either side; no handles. -/
def opReshardMove (id : Nat) (s : State) : State :=
  s.runTile id (fun o => o.desc.kind == 9) (fun _ => []) (fun o s => if o.desc.sends then s.sendTile o else s.receiveTile o)

/-! ### Chunk images as cells (R273, R274, R277) -/

/-- Bytes padded with zeros, or cut, to a length. -/
def padBytes (n : Nat) (bs : List Byte) : List Byte := (bs ++ List.replicate (n - bs.length) 0).take n

/-- Cells of an image of a group: k/m. -/
def Group.per (g : Group) : Nat := if g.checked then 12 else 9

/-- A checked block's 328 bytes (Table 10-2). -/
def blockBytes (qs : List Int) (residue exp : Nat) : List Byte :=
  qs.flatMap (fun q => bytesLE 5 (q % 2 ^ 40).toNat) ++ bytesLE 1 residue ++ bytesLE 1 exp ++ bytesLE 6 0

/-- The payload bytes of an image. -/
def Image.payload (checked : Bool) (i : Image) : List Byte :=
  if !checked then i.values.flatMap (fun v => bytesLE 4 v.toNat)
  else ((List.range 256).zip (chunks 64 256 i.values)).flatMap (fun b =>
    blockBytes b.2 (i.residues.getD b.1 0) (i.exps.getD b.1 0))

/-- The header cell: the chunk header, the exponent vector of a chunk in the exponent wave, and the chaff vector (R274). -/
def headerCell (num : Nat) (v x : Option Image) : List Byte :=
  match v <|> x with
  | none => padBytes cellBytes []
  | some i =>
    let head := num + i.seq % 2 ^ 16 * 2 ^ 16 + i.round.toNat * 2 ^ 32 + b2n i.down * 2 ^ 36 + b2n x.isSome * 2 ^ 37 +
      i.chunk * 2 ^ 64 + ((x.map (·.chunk)).getD 0) * 2 ^ 96 + i.contrib * 2 ^ 128
    padBytes cellBytes (bytesLE 64 head ++ padBytes 960 (((x.map (·.exps)).getD []).flatMap (bytesLE 1)) ++
      i.chaff.flatMap (bytesLE 8))

/-- Cell `off` of the images on a lane. -/
def imageCell (g : Group) (off : Nat) (v x : Option Image) : List Byte :=
  if off = 0 then headerCell g.num v x
  else padBytes cellBytes ((((v.map (Image.payload g.checked)).getD []).drop ((off - 1) * cellBytes)).take cellBytes)

/-! ### Slot windows (R252, R254) -/

/-- Distance of the slots of a run on a port (R250). -/
def State.slotStep (port : Nat) (s : State) : Nat :=
  if (s.port port).width = .low || (s.port port).width = .high then 2 else 1

/-- A run covers a slot. -/
def PlanEntry.covers (step slot : Nat) (e : PlanEntry) : Bool :=
  decide (e.first ≤ slot) && (slot - e.first) % step == 0 && decide ((slot - e.first) / step < e.count)

/-- The entry of the records in force for a slot of a port. -/
def State.entryAt (port slot : Nat) (s : State) : Option (PlanRecord × PlanEntry) :=
  (s.pln.current.flatMap (fun r => r.entries.map (fun e => (r, e)))).find? (fun x =>
    x.2.outPort == port && x.2.covers (s.slotStep port) slot)

/-- The partition of a span's member here. -/
def State.spanPart (id : BitVec 16) (s : State) : Nat := ((s.span? id).map (·.part)).getD 0

/-- A planned cell leaves empty (R252). -/
def State.emptyCell (p port slot : Nat) (s : State) : State :=
  (s.updPlnp p (fun x => { x with empty := satAdd x.empty 1 })).emit (.cell port slot none)

/-- A transit cell is discarded (R252). -/
def State.discardCell (c : Transit) (s : State) : State :=
  s.updPlnp c.part (fun x => { x with discard := satAdd x.discard 1 })

/-- The CELL flits of a cell: 240 bytes each in address order (R312). -/
def Transit.flits (c : Transit) : List Flit :=
  let n := max 1 (ceilDiv c.data.bytes.length payloadBytes)
  ((List.range n).zip (chunks payloadBytes n c.data.bytes)).map (fun x => {
    type := 1, first := x.1 = 0, last := x.1 + 1 = n, src := c.src, dst := c.dst, sub := c.data.flow, slot := c.slot
    len := x.2.length, part := c.part, hops := c.hops, frameLo := c.frameLo, bytes := x.2
    said := .cell c.data.span c.data.frame c.data.image })

/-- The cell that CELL flits FIRST to LAST carry; none where the span of its flow is not said (log entry 8). -/
def cellOf (fs : List Flit) : Option Transit :=
  match fs.head? with
  | none => none
  | some f =>
    match f.said with
    | .cell span frame image => some {
        src := f.src, hops := f.hops, part := f.part, slot := f.slot, frameLo := f.frameLo, dst := f.dst
        data := { span := span, flow := f.sub, frame := frame, bytes := fs.flatMap (fun g => g.bytes.take g.len), image := image } }
    | _ => none

/-- A cell leaves on a port. -/
def State.cellOut (port slot : Nat) (c : Transit) (s : State) : State :=
  (c.flits.foldl (fun s f => s.tx port f) s).emit (.cell port slot (some c.data))

/-- The bytes a send still has to carry. -/
def State.unsent (id : Nat) (s : State) : List Byte :=
  ((s.pln.sends.find? (fun x => x.1 == id)).map (fun x => x.2.bytes)).getD []

/-- A send still has something to carry or to gather. -/
def State.sendOpen (o : Op) (s : State) : Bool := !o.loopsDone || !(s.unsent o.id).isEmpty

/-- The next cell of a send is ready: 8 KiB, or the rest once everything is gathered. -/
def State.cellReady (o : Op) (s : State) : Bool :=
  decide (cellBytes ≤ (s.unsent o.id).length) || (o.loopsDone && !(s.unsent o.id).isEmpty)

/-- Takes the next cell of a send. -/
def State.takeSend (o : Op) (s : State) : CellData × State :=
  let bs := s.unsent o.id
  let now := (o.part, o.span, o.desc.flow)
  ({ span := o.span, flow := o.desc.flow, frame := o.desc.planFrame, bytes := bs.take cellBytes },
    s.updPln (fun p => { p with
      sentNow := if p.sentNow.contains now then p.sentNow else p.sentNow ++ [now]
      sends := p.sends.map (fun x => if x.1 == o.id then (x.1, { x.2 with bytes := x.2.bytes.drop cellBytes }) else x) }))

/-- The destination of a planned operation's flow, as read at issue. -/
def Op.sendDst (o : Op) : Option Nat := o.params[1]?

/-- A cell of this package. -/
def State.ownCell (part slot : Nat) (data : CellData) (dst : Option Nat) (s : State) : Transit :=
  { src := s.self, hops := 0, part := part, slot := slot, frameLo := BitVec.ofNat 8 s.frm.count.toNat, dst := dst, data := data }

/-- The sends of a span and flow in flight with something to carry, those of the plan frame first (R252, R256). -/
def State.sendsFor (span : BitVec 16) (flow : Nat) (frame : FrameNo) (s : State) : List Op :=
  let mine := s.seq.ops.filter (fun o => o.desc.sends && o.span == span && o.desc.flow == flow && s.sendOpen o)
  mine.filter (fun o => o.desc.planFrame == frame) ++ mine.filter (fun o => later frame o.desc.planFrame)

/-- An originating entry of a send (R252). -/
def State.originate (port slot : Nat) (r : PlanRecord) (e : PlanEntry) (s : State) : State :=
  let p := s.spanPart r.span
  match s.sendsFor r.span e.flow (planFrame r.rebase s.frm.count) with
  | o :: _ =>
    if s.cellReady o then
      let c := s.takeSend o
      c.2.cellOut port slot (s.ownCell p slot c.1 o.sendDst)
    else s.emptyCell p port slot
  | [] => s.emptyCell p port slot

/-- Place of a slot among the cells of a flow that originate here in this frame, in slot order (R273). -/
def flowIndex (step slot : Nat) (r : PlanRecord) (e : PlanEntry) : Nat :=
  ((r.entries.filter (fun x => x.flow == e.flow && x.inPort == 15 && x.outPort == e.outPort)).map (fun x =>
    ((List.range x.count).filter (fun k => decide (x.first + k * step < slot))).length)).foldl (· + ·) 0

/-- The image cells of a group's edge: the lane of the cell, the image in its value wave and the one in its exponent wave
(R273, R281). -/
def State.groupCell (port slot : Nat) (g : Group) (edge : Edge) (r : PlanRecord) (e : PlanEntry) (s : State) : State :=
  let idx := flowIndex (s.slotStep port) slot r e
  let lane := idx / g.per
  let off := idx % g.per
  let here (l : Leaving) : Bool :=
    l.group == g.index && l.tree == edge.tree && l.target == edge.target && l.lane == lane && (!l.image.exp || off == 0)
  let ls := s.red.leaving.filter here
  if ls.isEmpty then s.emptyCell g.part port slot
  else
    let pick (x : Bool) : Option Image := (ls.find? (fun l => l.image.exp == x)).map (·.image)
    let s := s.updRed (fun q => { q with
      leaving := q.leaving.map (fun l => if here l then { l with sent := insertNat off l.sent } else l) })
    s.cellOut port slot (s.ownCell g.part slot
      { span := r.span, flow := e.flow, frame := planFrame r.rebase s.frm.count, bytes := imageCell g off (pick false) (pick true)
        image := true }
      (some edge.dst))

/-- The group edge a flow carries. -/
def State.edgeOf (span : BitVec 16) (flow : Nat) (s : State) : Option (Group × Edge) :=
  (s.red.groups.filter (fun g => g.span == span)).findSome? (fun g =>
    (g.edges.find? (fun e => e.flow == some flow)).map (fun e => (g, e)))

/-- The partition that owns a slot of a port direction (R236). -/
def State.slotOwner (port slot : Nat) (s : State) : Option Nat :=
  s.pln.shares.get none (32 * port + shareEntry s.slots slot)

/-- A forwarding entry: the oldest waiting cell of the flow, unless its PART does not own the slot or it is of another
frame (R252, R312). -/
def State.forward (port slot : Nat) (r : PlanRecord) (e : PlanEntry) (s : State) : State :=
  let p := s.spanPart r.span
  let buf := s.pln.transit.get [] e.inPort
  match buf.find? (fun c => c.data.span == r.span && c.data.flow == e.flow) with
  | none => s.emptyCell p port slot
  | some c =>
    let s := s.updPln (fun q => { q with transit := q.transit.put e.inPort (buf.erase c) })
    if s.slotOwner port slot = some c.part && c.frameLo == BitVec.ofNat 8 s.frm.count.toNat && s.portUsable port then
      s.cellOut port slot { c with hops := c.hops + 1 }
    else s.discardCell c

/-- A hold cell: the next bytes of the partition's circulation sends to the ring successor, send by send in issue order
(R254). -/
def State.holdCell (port slot p : Nat) (s : State) : State :=
  let spans := s.ten.spans.filter (fun x => x.part == p && x.state == .active && s.pln.ringOuts.contains (x.id, port))
  let ok (o : Op) : Bool := o.part == p && o.desc.kind == 5 && s.sendOpen o && spans.any (fun x => x.id == o.span &&
    o.sendDst == some (ringNext s.self x.ring))
  match s.seq.ops.find? ok with
  | none => s
  | some o =>
    if s.cellReady o then
      let c := s.takeSend o
      c.2.cellOut port slot (s.ownCell p slot c.1 o.sendDst)
    else s

/-- CELL_WINDOW (R252): a slot window of a torus port opens. -/
def opCellWindow (port : Fin 12) (slot : BitVec 12) (s : State) : State :=
  let i := port.val
  let k := slot.toNat
  if s.frm.phase = .stopped || s.slots ≤ k || (s.slotStep i = 2 && k % 2 = 1) then s
  else match s.entryAt i k with
    | some (r, e) =>
      if e.inPort != 15 then s.forward i k r e
      else if !s.portUsable i then s
      else match s.edgeOf r.span e.flow with
        | some (g, x) => s.groupCell i k g x r e
        | none => s.originate i k r e
    | none =>
      match s.slotOwner i k with
      | some p => if (s.frmp p).hold && decide (k + 2 ≤ s.slots) && s.portUsable i then s.holdCell i k p else s
      | none => s

/-! ### Arrival (R252, R345) -/

/-- Cells a transit buffer's planned region holds (R345). -/
def transitCells : Nat := 10

/-- A cell arrives on a port: one for this package waits for its receive; another waits for its forwarding window, or is
discarded where the frame has no forwarding entry for it. -/
def State.cellArrives (i : Nat) (c : Transit) (s : State) : State :=
  let fwd := s.pln.current.any (fun r => r.span == c.data.span && r.entries.any (fun e => e.flow == c.data.flow && e.inPort == i))
  let own := match c.dst with
    | some k => k == s.self
    | none => !fwd && (s.span? c.data.span).isSome
  if own then (if c.data.image then s else s.updPln (fun p => { p with arrived := p.arrived ++ [c.data] }))
  else if fwd && decide ((s.pln.transit.get [] i).length < transitCells) then
    s.updPln (fun p => { p with transit := p.transit.upd [] i (· ++ [c]) })
  else s.discardCell c

/-- Takes an arriving CELL flit into its cell, which arrives with its LAST flit; flits without their FIRST, and a cell cut
short by a new FIRST, are discarded and counted under R252. -/
def State.cellFlit (i : Nat) (f : Flit) (s : State) : State :=
  let got := s.fab.cells.get [] i
  let lost (s : State) : State := s.updPlnp f.part (fun x => { x with discard := satAdd x.discard 1 })
  let keep (fs : List Flit) (s : State) : State := s.updFab (fun g => { g with cells := g.cells.put i fs })
  let s := if f.first && !got.isEmpty then lost s else s
  if !f.first && got.isEmpty then (if f.last then lost s else s)
  else
    let fs := if f.first then [f] else got ++ [f]
    if !f.last then keep fs s
    else match cellOf fs with
      | some c => (keep [] s).cellArrives i c
      | none => lost (keep [] s)

/-! ### Meanings of the rows -/

/-- CELL_WINDOW (R252). -/
def execCellWindow (port : Fin 12) (slot : BitVec 12) (s : State) : Host.Outcome State Fault Refusal :=
  .next (s.whenClocked (opCellWindow port slot s))

/-- CIRCULATION_SEND (R259). -/
def execCirculationSend (id : Nat) (s : State) : Host.Outcome State Fault Refusal :=
  .next (s.whenClocked (opCirculationSend id s))

/-- CIRCULATION_RECEIVE (R259). -/
def execCirculationReceive (id : Nat) (s : State) : Host.Outcome State Fault Refusal :=
  .next (s.whenClocked (opCirculationReceive id s))

/-- RESHARD_MOVE (R182). -/
def execReshardMove (id : Nat) (s : State) : Host.Outcome State Fault Refusal :=
  .next (s.whenClocked (opReshardMove id s))

end Sys2Proof.Machine
end

