-- ==== Sys2Proof/Machine/Group.lean ====
section
/-! DEFINITION. Groups (10): the two trees (R269), channels (R272), the definition of a group (R265 to R268), its queries,
lost members and repair (R294, R295), and communication queues (R284, R298). -/

namespace Sys2Proof.Machine

open Sys2Proof

/-! ### The trees (R269) -/

/-- Tree position of place r of n in the rank order. -/
def treePos (tree n r : Nat) : Nat := if tree = 0 then r + 1 else if n % 2 = 0 then n - r else (n - r) % n + 1

/-- The place at a tree position. -/
def placeAt (tree n p : Nat) : Nat := ((List.range n).find? (fun r => treePos tree n r == p)).getD 0

/-- The lowest set bit of a position. -/
def lowBit (p : Nat) : Nat := ((List.range 9).map (2 ^ ·)).find? (fun b => p / b % 2 == 1) |>.getD 1

/-- up(p). -/
def treeUp (p : Nat) : Nat := (p ||| 2 * lowBit p) - lowBit p

/-- The root's position: the largest power of two not above n. -/
def treeRoot (n : Nat) : Nat := 2 ^ n.log2

/-- The first position not above n on the way up; `fuel` bounds the way. -/
def climb (n : Nat) : Nat → Nat → Nat
  | 0, q => q
  | fuel + 1, q => if q ≤ n then q else climb n fuel (treeUp q)

/-- The parent of a position, none for the root. -/
def treeParent (n p : Nat) : Option Nat := if p = treeRoot n then none else some (climb n 9 (treeUp p))

/-- The children of a position, ascending. -/
def treeChildren (n p : Nat) : List Nat := ((List.range n).map (· + 1)).filter (fun q => treeParent n q == some p)

/-- Members the trees are built over. -/
def Group.size (g : Group) : Nat := g.order.length

/-- This member's position in a tree. -/
def Group.pos (tree : Nat) (g : Group) : Nat := treePos tree g.size (g.order.takeWhile (fun r => r != g.rank)).length

/-- The rank at a position. -/
def Group.rankAt (tree p : Nat) (g : Group) : Nat := g.order.getD (placeAt tree g.size p) 0

/-- The package of a rank. -/
def Group.pkg (r : Nat) (g : Group) : Nat := (g.members.getD r (0, 0)).1

/-- The rank of a package's member. -/
def Group.rankOf (pkg : Nat) (g : Group) : Option Nat :=
  (List.range g.members.length).find? (fun r => g.pkg r == pkg)

/-- The positions this member sends to in a tree: its parent and its children, ascending (R272). -/
def Group.targets (tree : Nat) (g : Group) : List Nat :=
  let p := g.pos tree
  ((treeParent g.size p).toList ++ treeChildren g.size p).foldl (fun l q => insertNat q l) []

/-- The outgoing edges of this member. -/
def Group.outEdges (g : Group) : List Edge :=
  [0, 1].flatMap (fun t => (g.targets t).map (fun q => { tree := t, target := q, dst := g.pkg (g.rankAt t q) }))

/-- The engine that serves a position of table entry i before any retirement (R271). -/
def homeEngine (index tree : Nat) : Nat := if tree = 0 then index % 8 else 8 + index % 8

/-- RED.ENGINE of engine e. -/
def State.engine (e : Nat) (s : State) : Engine := s.red.engines.get {} e

/-- Changes an engine. -/
def State.updEngine (e : Nat) (f : Engine → Engine) (s : State) : State :=
  s.updRed (fun r => { r with engines := r.engines.upd {} e f })

/-- The engine that hosts what engine e served (R292); `fuel` bounds the chain of hosts. -/
def State.hostOf : Nat → Nat → State → Nat
  | 0, e, _ => e
  | fuel + 1, e, s =>
    if (s.engine e).retired && (s.engine e).host != 31 then State.hostOf fuel (s.engine e).host.toNat s else e

/-- The engine of a group's position in a tree now. -/
def State.engineOf (g : Group) (tree : Nat) (s : State) : Nat := State.hostOf 17 (homeEngine g.index tree) s

/-! ### The engine stores (R282), in KiB -/

/-- Size of an engine store. -/
def storeKiB : Nat := 4096

/-- Positions of a group that an engine serves. -/
def State.servesOf (g : Group) (e : Nat) (s : State) : Nat := ([0, 1].filter (fun t => s.engineOf g t == e)).length

/-- Tree positions an engine serves. -/
def State.positionsOn (e : Nat) (s : State) : Nat := (s.red.groups.map (fun g => s.servesOf g e)).foldl (· + ·) 0

/-- Room a position reserves: 3m images of 72 or 96 KiB. -/
def Group.reserves (g : Group) : Nat := 3 * g.lanes * (if g.checked then 96 else 72)

/-- What is reserved and held in an engine's store. -/
def State.storeUsed (e : Nat) (s : State) : Nat :=
  (s.red.groups.map (fun g => s.servesOf g e * g.reserves)).foldl (· + ·) 0 +
    64 * (s.red.held.filter (fun h => s.red.groups.any (fun g => g.index == h.group &&
      s.engineOf g ((h.seq * ((g.cap + 16383) / 16384) + h.chunk) % 2) == e))).length

/-! ### Looking groups up -/

/-- The group of a table index. -/
def State.group? (i : Nat) (s : State) : Option Group := s.red.groups.find? (fun g => g.index == i)

/-- The group of a span and number. -/
def State.groupOf (span : BitVec 16) (num : Nat) (s : State) : Option Group :=
  s.red.groups.find? (fun g => g.span == span && g.num == num)

/-- Changes a group. -/
def State.updGroup (i : Nat) (f : Group → Group) (s : State) : State :=
  s.updRed (fun r => { r with groups := r.groups.map (fun g => if g.index == i then f g else g) })

/-- The coordinator: the package of the lowest rank not lost (R268). -/
def Group.coordinator (g : Group) : Nat :=
  g.pkg (((List.range g.members.length).find? (fun r => !g.lost.any (fun x => x.1 == r))).getD 0)

/-- What the table and the engine stores hold for a group is cleared. -/
def Red.clearGroup (i : Nat) (r : Red) : Red :=
  { r with
    held := r.held.filter (fun h => h.group != i), images := r.images.filter (fun x => x.group != i)
    leaving := r.leaving.filter (fun l => l.group != i), lanes := r.lanes.filter (fun l => l.1 / 128 != i)
    agreed := r.agreed.filter (fun a => a.1 != i) }

/-- Enters the outgoing edges of a group's trees and declares them as recurring flows, in ascending tree and position order
(R272). -/
def State.declareEdges (g : Group) (s : State) : State :=
  let gen := s.red.gen
  let edges := g.outEdges.map (fun (e : Edge) => { e with gen := gen })
  let s := (s.updGroup g.index (fun x => { x with edges := edges })).updRed (fun r => { r with gen := r.gen + 1 })
  match s.span? g.span with
  | none => s
  | some x =>
    let f := planFrame x.rho s.frm.count + 2
    edges.foldl (fun s e => s.declare x.lead {
      span := g.span, num := 0, seq := 0, src := s.self, dst := e.dst, n := g.per * g.lanes, earliest := f
      latest := f + 15, r := 1, c := 0, key := .edge g.index e.tree e.target gen }) s

/-- A declared tree edge that no group has any longer. -/
def Red.stray (d : Declared) (r : Red) : Bool :=
  match d.key with
  | .edge i tree target gen => !r.groups.any (fun g => g.index == i && g.span == d.span &&
      g.edges.any (fun e => e.tree == tree && e.target == target && e.gen == gen))
  | _ => false

/-- Withdraws the flows of the tree edges that no group has any longer (R268, R295): those that have a number now, the others
once the lead has given it. -/
def State.withdrawStray (s : State) : State :=
  let strays := s.pln.declared.filter (fun d => d.known && s.red.stray d)
  let s := s.updPln (fun p => { p with declared := p.declared.filter (fun d => !strays.contains d) })
  strays.foldl (fun s d => match s.span? d.span with
    | none => s
    | some x => if x.lead = s.self then s.leadWithdraw d.span d.num s.self none
      else s.send x.lead (.flowWithdraw d.span d.num s.self none)) s

/-- Frees a group's entry and withdraws its flows. -/
def State.dropGroup (g : Group) (s : State) : State :=
  (s.updRed (fun r => { (r.clearGroup g.index) with groups := r.groups.filter (fun x => x.index != g.index) })).withdrawStray

/-- A define fails here: its record, its flows and its entry (R268). -/
def State.failDefine (g : Group) (oc : Oc) (rs : Reason) (ws : List W64) (s : State) : State :=
  if g.state != .defining then s else (s.finishAll g.cmd.toList oc rs ws).dropGroup g

/-- A define fails at every member: the others are told. -/
def State.failEverywhere (g : Group) (oc : Oc) (rs : Reason) (s : State) : State :=
  let others := (g.members.map (·.1)).filter (fun k => k != s.self)
  (s.sendAll others (.groupFail g.span g.num oc rs)).failDefine g oc rs []

/-- Readies come along: a member whose flows are all placed reports to the coordinator; one whose flow was not placed
fails the define (R268, R295). -/
def State.groupsProgress (s : State) : State :=
  let s := s.withdrawStray
  s.red.groups.foldl (fun s g =>
    if g.ready || !(g.state == .defining || g.repair.isSome) then s
    else if g.edges.any (·.failed) then (if g.state = .defining then s.failEverywhere g .noResource .noLinkShare else s)
    else if g.edges.all (·.placed) then
      (s.updGroup g.index (fun x => { x with ready := true })).send g.coordinator (.groupReady g.span g.num s.self g.crc)
    else s) s

/-! ### Repair (R295) -/

/-- The coordinator announces a repair or a restart: the next round and a restart frame 4 frames on, to every member the
trees are built over: the survivors, and the packages that go on serving killed members' positions. -/
def State.announceRepair (g : Group) (s : State) : State :=
  let s := s.updGroup g.index (fun x => { x with readies := [], repair := none })
  s.sendAll (g.order.map (fun r => g.pkg r)) (.groupRepair g.span g.num (g.round + 1) g.lost (s.frm.count + 4))

/-- The coordinator looks whether everyone it waits for is ready (R268, R295). -/
def State.checkReady (g : Group) (s : State) : State :=
  if g.coordinator != s.self then s
  else
    let have_ (r : Nat) : Bool := g.readies.any (fun x => x.1 == g.pkg r)
    if g.state = .defining then
      if !(List.range g.members.length).all have_ then s
      else if g.readies.all (fun x => x.2 == g.crc) then
        (s.updGroup g.index (fun x => { x with readies := [] })).sendAll (g.members.map (·.1)) (.groupActive g.span g.num)
      else s.failEverywhere g .badCommand .badState
    else if g.repair.isSome && g.order.all have_ then s.announceRepair g
    else s

/-- GROUP_READY_RECEIVE (R268): a ready flit that comes before the coordinator's own define is kept. -/
def opGroupReadyReceive (span : BitVec 16) (num : BitVec 8) (pkg : Fin 128) (crc : BitVec 32) (s : State) : State :=
  match s.groupOf span num.toNat with
  | none => s.updRed (fun r => { r with early := r.early ++ [(span, num.toNat, pkg.val, crc)] })
  | some g =>
    let g' := { g with readies := g.readies.filter (fun x => x.1 != pkg.val) ++ [(pkg.val, crc)] }
    (s.updGroup g.index (fun _ => g')).checkReady g'

/-! ### GROUP.DEFINE (R268, R298) -/

/-- The members an axis descriptor names, by rank (R267). -/
def axisMembers (w : W64) : List (Nat × Nat) :=
  let ex := 2 ^ fld w 12 2
  let ey := 2 ^ fld w 16 2
  let ez := 2 ^ fld w 20 2
  (List.range ez).flatMap (fun lz => (List.range ey).flatMap (fun ly => (List.range ex).map (fun lx =>
    (pkgAt ((fld w 0 3 + lx) % 8) ((fld w 4 2 + ly) % 4) ((fld w 8 2 + lz) % 4), fld w 24 6))))

/-- The members a list's bytes name; none when a bit that must be 0 is set. -/
def listMembers (n : Nat) (bs : List Byte) : Option (List (Nat × Nat)) :=
  let ws := (chunks 4 n bs).map ofBytesLE
  if ws.all (fun w => w / 2 ^ 7 % 2 == 0 && w / 2 ^ 14 == 0) then some (ws.map (fun w => (w % 2 ^ 7, w / 2 ^ 8 % 2 ^ 6)))
  else none

/-- GROUP.DEFINE in range: lanes within the kind's limit and the grid, a capacity, and extents or a length (R298). -/
def groupDefineRange (a : List W64) (s : State) : Bool :=
  let w := a.getD 0 0
  let m := fld w 32 6
  let k := if bit w 25 then 12 * m else 9 * m
  let cap := fld (a.getD 1 0) 0 31
  let w2 := a.getD 2 0
  decide (1 ≤ m) && decide (m ≤ (if bit w 25 then 31 else 42)) && decide (k + 1 ≤ s.slots) && decide (1 ≤ cap) &&
    decide (cap ≤ 2 ^ 30) &&
    (if bit w 24 then decide (fld w2 16 2 ≤ 2) && decide (fld w2 20 2 ≤ 2) && decide (1 ≤ fld w2 12 2 + fld w2 16 2 + fld w2 20 2)
      else decide (2 ≤ fld (a.getD 3 0) 0 8) && decide (fld (a.getD 3 0) 0 8 ≤ 128))

/-- Result words of GROUP.DEFINE (Table 10-6). -/
def State.groupWords (g : Group) (s : State) : List W64 :=
  let tree (t base : Nat) : List (Nat × Nat) :=
    let p := g.pos t
    let cs := treeChildren g.size p
    let rk (q : Option Nat) : Nat := match q with
      | some q => g.rankAt t q
      | none => 0x7F
    [(base, rk (treeParent g.size p)), (base + 7, rk (cs.head?)), (base + 14, rk (cs.drop 1).head?)]
  [word [(0, g.index), (8, g.rank), (16, g.members.length), (24, g.members.length.log2)], word (tree 0 0 ++ tree 1 21),
    word [(0, s.engineOf g 0), (5, s.engineOf g 1)]]

/-- The lowest free index of the group table. -/
def State.freeGroup (s : State) : Option Nat := (List.range 256).find? (fun i => (s.group? i).isNone)

/-- A group's reservations find no room: on an engine, what both its positions there reserve counts (R282). -/
def State.storeFull (g : Group) (s : State) : Bool :=
  [s.engineOf g 0, s.engineOf g 1].any (fun e => decide (storeKiB < s.storeUsed e + s.servesOf g e * g.reserves))

/-- Enters a group and declares its flows. -/
def State.enterGroup (g : Group) (s : State) : State × Reply :=
  if s.storeFull g then (s, .none_ .tableFull)
  else
    let mine (x : BitVec 16 × Nat × Nat × BitVec 32) : Bool := x.1 == g.span && x.2.1 == g.num
    let g := { g with readies := (s.red.early.filter mine).map (fun x => (x.2.2.1, x.2.2.2)) }
    let s := s.updRed (fun r => { (r.clearGroup g.index) with
      groups := r.groups ++ [g], early := r.early.filter (fun x => !mine x) })
    ((s.declareEdges g).groupsProgress, .later)

/-- GROUP.DEFINE. -/
def groupDefineBody (c : CmdId) (p : Nat) (e : Entry) (s : State) : State × Reply :=
  match s.activeSpan p (e.arg 0) with
  | .error rs => (s, .bad rs)
  | .ok x =>
    let w := e.arg 0
    let axis := bit w 24
    let n := fld (e.arg 3) 0 8
    match if axis then (some (bytesLE 8 (e.arg 2).toNat), s) else s.takeArg p c.ctx.toNat (fld (e.arg 2) 0 52) (4 * n) with
    | (none, s) => (s, .bad .argFault)
    | (some bs, s) =>
      match if axis then some (axisMembers (e.arg 2)) else listMembers n bs with
      | none => (s, .bad .outOfRange)
      | some ms =>
        let pkgs := ms.map (·.1)
        if pkgs.eraseDups.length != pkgs.length then (s, .bad .outOfRange)
        else if pkgs.any (fun k => !x.ring.contains k) || !pkgs.contains s.self then (s, .bad .badHandle)
        else if (s.groupOf x.id (fld w 16 8)).isSome then (s, .bad .badState)
        else match s.freeGroup with
          | none => (s, .none_ .tableFull)
          | some i =>
            let rank := (pkgs.takeWhile (fun k => k != s.self)).length
            s.enterGroup {
              index := i, span := x.id, num := fld w 16 8, part := p, ctx := (ms.getD rank (0, 0)).2, checked := bit w 25
              bf16In := bit w 26, bf16Out := bit w 27, lanes := fld w 32 6, cap := fld (e.arg 1) 0 31, members := ms
              rank := rank, order := List.range ms.length, crc := crc32c bs, cmd := some c }

/-- GROUP.DEFINE. -/
def specGroupDefine : Spec where
  opcode := opcodeOf 0x0D 1
  permitted := vfOnly
  allowed := fun _ a => [maskOf 64 [(0, 28), (32, 6)], maskOf 64 [(0, 31)]] ++
    (if bit (a.getD 0 0) 24 then [maskOf 64 [(0, 3), (4, 2), (8, 2), (12, 2), (16, 2), (20, 2), (24, 6)]]
      else [maskOf 64 [(0, 52)], 0xFF])
  inRange := fun _ a s => groupDefineRange a s
  part := ownPart
  cls := .k
  acts := fun _ => true
  body := groupDefineBody

/-- GROUP_DEFINE_TIMEOUT (R268): 1,024 frames without the group ACTIVE. The coordinator counts the ready flits it lacks; any
other member knows only of its own, and the count of the others is a free value (log entry 133). -/
def opGroupDefineTimeout (index : BitVec 8) (s : State) : State :=
  match s.group? index.toNat with
  | none => s
  | some g =>
    if g.state != .defining || g.frames < 1024 then s
    else
      let f := s.takeFree
      let n := if g.coordinator = s.self then g.members.length - g.readies.length
        else b2n (!g.ready) + Config.notReady f.1 % g.members.length
      f.2.failDefine g .badCommand .badState [word [(0, n)]]

/-! ### Losses (R294, R295) -/

/-- Ends every reduction of a group without an outcome. -/
def State.endReductions (g : Group) (oc : Oc) (rs : Reason) (s : State) : State :=
  s.updRed (fun r => { r with
    queues := r.queues.map (fun q => if q.group == g.index then
      { q with
        reds := q.reds.map (fun (x : Reduction) => if x.outcome.isNone then
          { x with outcome := some (oc, rs), buffers := [] } else x) } else q) })

/-- Why a group's reductions end MEMBER_LOST: the reason of its first loss. -/
def Group.lostReason (g : Group) : Reason := if g.lost.head?.any (fun x => x.2) then .memberKilled else .memberUnreachable

/-- A member is lost while the group is being defined, or once it has FAILED: the loss is kept; a define whose coordinator
changes reports anew to the next one (R268). -/
def State.lostEarly (g : Group) (lost : List (Nat × Bool)) (s : State) : State :=
  let g' := { g with lost := lost }
  (s.updGroup g.index (fun _ => { g' with ready := g.ready && g'.coordinator == g.coordinator })).groupsProgress

/-- A killed member's package is reachable: it goes on serving the member's positions with a contribution of zero, and the
coordinator announces the restart. While a rebuild is awaited every member reports anew (R295). -/
def State.lostKilled (g : Group) (lost : List (Nat × Bool)) (s : State) : State :=
  let g := { g with lost := lost, state := .degraded, ready := g.ready && g.repair.isNone }
  let s := s.updGroup g.index (fun _ => g)
  if g.coordinator = s.self && g.repair.isNone then s.announceRepair g else s.groupsProgress

/-- The trees are rebuilt over the survivors: the old flows are withdrawn, the new ones declared, and readies awaited. A
package whose own member is lost leaves the trees (R295). -/
def State.lostRebuild (g : Group) (lost : List (Nat × Bool)) (s : State) : State :=
  let order := g.order.filter (fun r => !lost.any (fun x => x.1 == r))
  let g := { g with
    lost := lost, state := .degraded, order := order, ready := !order.contains g.rank, edges := []
    readies := if g.repair.isSome then [] else g.readies, repair := some 0 }
  let s := s.updRed (fun r => { r with leaving := r.leaving.filter (fun l => l.group != g.index) })
  let s := s.updGroup g.index (fun _ => g)
  (if order.contains g.rank then s.declareEdges g else s).groupsProgress

/-- A member is lost to the group (R294, R295): one known as lost matters again only when the package that served its
positions is gone too. -/
def State.memberLost (g : Group) (rank : Nat) (killed : Bool) (s : State) : State :=
  let known := g.lost.any (fun x => x.1 == rank)
  let lost := if known then g.lost else g.lost ++ [(rank, killed)]
  if rank = g.rank || (known && (killed || !g.order.contains rank)) then s
  else if g.state = .defining || g.state = .failed then s.lostEarly g lost
  else if killed && decide (s.distTo (g.pkg rank) < 15) then s.lostKilled g lost
  else s.lostRebuild g lost

/-- GROUP_ACTIVE_RECEIVE (R268): the define ends DONE and the group is ACTIVE. A member lost in the meantime is repaired
now, and the own member's loss makes the group DEGRADED (R294). -/
def opGroupActiveReceive (span : BitVec 16) (num : BitVec 8) (s : State) : State :=
  match s.groupOf span num.toNat with
  | none => s
  | some g =>
    if g.state != .defining then s
    else
      let own := g.lost.filter (fun x => x.1 == g.rank)
      let s := s.updGroup g.index (fun x => { x with
        state := if own.isEmpty then .active else .degraded, cmd := none, readies := [], lost := own })
      let s := s.finishAll g.cmd.toList .done .none (s.groupWords g)
      g.lost.foldl (fun s x => match s.group? g.index with
        | some y => s.memberLost y x.1 x.2
        | none => s) s

/-- GROUP_LOSS_RECEIVE (R294). -/
def opGroupLossReceive (span : BitVec 16) (num : BitVec 8) (pkg : Fin 128) (killed : Bool) (s : State) : State :=
  match s.groupOf span num.toNat with
  | none => s
  | some g =>
    match g.rankOf pkg.val with
    | none => s
    | some r => s.memberLost g r killed

/-- A package has become unreachable: its members are lost (R294). -/
def State.groupsLose (pkg : Nat) (s : State) : State :=
  s.red.groups.foldl (fun s g => match g.rankOf pkg with
    | some r => s.memberLost ((s.group? g.index).getD g) r false
    | none => s) s

/-- REPAIR_ANNOUNCE_RECEIVE (R295). -/
def opRepairAnnounceReceive (span : BitVec 16) (num : BitVec 8) (round : BitVec 4) (lost : List (Nat × Bool))
    (restart : FrameNo) (s : State) : State :=
  match s.groupOf span num.toNat with
  | none => s
  | some g =>
    if g.state != .active && g.state != .degraded then s
    else s.updGroup g.index (fun x => { x with
      lost := lost, state := if lost.isEmpty then x.state else .degraded, repair := none, readies := []
      restart := some (restart, round) })

/-- GROUP_REPAIR_TIMEOUT (R295): 64 frames without every survivor ready; every reduction ends MEMBER_LOST. -/
def opGroupRepairTimeout (index : BitVec 8) (s : State) : State :=
  match s.group? index.toNat with
  | none => s
  | some g =>
    if g.repair.all (fun n => decide (n < 64)) then s
    else (s.updGroup g.index (fun x => { x with state := .failed, repair := none })).endReductions g .memberLost g.lostReason

/-- A reduction would need a third restart: the member context is killed with cause WATCHDOG (R293). -/
def State.groupWatchdog (span : BitVec 16) (num : Nat) (s : State) : State :=
  match s.groupOf span num with
  | some g => s.killCtx g.part g.ctx .watchdog
  | none => s

/-- A restart with no member lost is asked of the coordinator (R293). -/
def State.askRestart (g : Group) (s : State) : State :=
  if g.coordinator != s.self then s.send g.coordinator (.groupMismatch g.span g.num s.self)
  else if g.restart.isSome || g.repair.isSome then s
  else s.announceRepair g

/-- The coordinator hears of a mismatch (R293). -/
def State.takeMismatch (span : BitVec 16) (num : Nat) (s : State) : State :=
  match s.groupOf span num with
  | some g => if g.coordinator = s.self then s.askRestart g else s
  | none => s

/-- A member hears that the define failed elsewhere (R268). -/
def State.takeGroupFail (span : BitVec 16) (num : Nat) (oc : Oc) (rs : Reason) (s : State) : State :=
  match s.groupOf span num with
  | some g => s.failDefine g oc rs []
  | none => s

/-! ### GROUP.RELEASE and GROUP.QUERY (R298) -/

/-- GROUP.RELEASE: not while a queue is bound or the define is still in progress. -/
def groupReleaseBody (_ : CmdId) (p : Nat) (e : Entry) (s : State) : State × Reply :=
  match (s.group? (fld (e.arg 0) 0 8)).filter (fun g => g.part == p) with
  | none => (s, .bad .badHandle)
  | some g =>
    if g.state = .defining || s.red.queues.any (fun q => q.group == g.index) then (s, .bad .badState)
    else
      let others := (g.members.map (·.1)).filter (fun k => k != s.self)
      ((s.dropGroup g).sendAll others (.groupLoss g.span g.num s.self false), .done [])

/-- GROUP.RELEASE. -/
def specGroupRelease : Spec where
  opcode := opcodeOf 0x0D 2
  permitted := vfOnly
  allowed := fun _ _ => [0xFF]
  part := ownPart
  cls := .k
  acts := fun _ => true
  body := groupReleaseBody

/-- The mask of lost ranks. -/
def Group.lostMask (g : Group) : Nat := (g.lost.map (fun x => 2 ^ x.1)).foldl (· + ·) 0

/-- GROUP.QUERY words; an index without a group of the partition reads state 0. -/
def State.groupQueryWords (p i : Nat) (s : State) : List W64 :=
  match (s.group? i).filter (fun g => g.part == p) with
  | none => [0, 0, 0, 0, 0]
  | some g =>
    [word [(0, g.state.code), (3, g.members.length), (11, g.rank), (18, g.round.toNat), (22, g.lost.length)],
      word [(0, g.lostMask % 2 ^ 64)], word [(0, g.lostMask / 2 ^ 64)], word [(0, g.recorded.toNat)],
      word [(0, s.engineOf g 0), (5, s.engineOf g 1)]]

/-- GROUP.QUERY. -/
def specGroupQuery : Spec where
  opcode := opcodeOf 0x0D 3
  permitted := vfOnly
  allowed := fun _ _ => [0xFF]
  part := ownPart
  cls := .k
  body := fun _ p e s => (s, .done (s.groupQueryWords p (fld (e.arg 0) 0 8)))

/-! ### COMMQ commands (R284, R298) -/

/-- COMMQ.CREATE. -/
def commqCreateBody (c : CmdId) (p : Nat) (e : Entry) (s : State) : State × Reply :=
  let auto := bit (e.arg 0) 4
  let i := fld (e.arg 0) 8 8
  let ring := fld (e.arg 1) 0 52
  let log2 := fld (e.arg 2) 0 4
  let pick := if auto then (List.range 16).find? (fun q => (s.commq p q).isNone) else some (fld (e.arg 0) 0 4)
  match (s.group? i).filter (fun g => g.part == p) with
  | none => (s, .bad .badHandle)
  | some g =>
    if !s.argWritable p c.ctx.toNat ring (64 * 2 ^ log2) then (s, .bad .argFault)
    else if (g.state != .active && g.state != .degraded) || s.red.queues.any (fun q => q.group == i) ||
        (!auto && (s.commq p (fld (e.arg 0) 0 4)).isSome) then (s, .bad .badState)
    else match pick with
      | none => (s, .none_ .noQueue)
      | some q =>
        (s.updRed (fun r => { r with
          queues := r.queues ++ [{
            part := p, queue := q, group := i, ctx := c.ctx.toNat, ring := BitVec.ofNat 64 ring
            log2 := log2 }] }), .done [word [(0, q)]])

/-- COMMQ.CREATE: j from 4 to 12 and a 4 KiB-aligned ring. -/
def specCommqCreate : Spec where
  opcode := opcodeOf 0x0E 1
  permitted := vfOnly
  allowed := fun _ _ => [maskOf 64 [(0, 5), (8, 8)], maskOf 64 [(0, 52)], 0xF]
  inRange := fun _ a _ => decide (4 ≤ fld (a.getD 2 0) 0 4) && decide (fld (a.getD 2 0) 0 4 ≤ 12) &&
    decide (fld (a.getD 1 0) 0 12 = 0)
  part := ownPart
  cls := .k
  acts := fun _ => true
  body := commqCreateBody

/-- What COMMQ.DESTROY does. -/
def commqDestroyBody (_ : CmdId) (p : Nat) (e : Entry) (s : State) : State × Reply :=
  let q := fld (e.arg 0) 0 4
  match s.commq p q with
  | none => (s, .bad .badHandle)
  | some x =>
    if !x.reds.isEmpty then (s, .bad .badState)
    else
      let s := s.updRed (fun r => { r with
        queues := r.queues.filter (fun y => !(y.part == p && y.queue == q))
        lanes := r.lanes.filter (fun l => l.1 / 128 != x.group), agreed := r.agreed.filter (fun a => a.1 != x.group) })
      (s.updGroup x.group (fun g => { g with base := 0 }), .done [])

/-- COMMQ.DESTROY: a later queue of the group counts its reductions from 0 again (R284). -/
def specCommqDestroy : Spec where
  opcode := opcodeOf 0x0E 2
  permitted := vfOnly
  allowed := fun _ _ => [0xF]
  part := ownPart
  cls := .k
  acts := fun _ => true
  body := commqDestroyBody

/-! ### Meanings of the rows -/

/-- GROUP_DEFINE (R268). -/
def execGroupDefine (m : Fin 18) (e : Entry) (s : State) : Host.Outcome State Fault Refusal :=
  .next (serve specGroupDefine m.val e s)

/-- GROUP_RELEASE (R298). -/
def execGroupRelease (m : Fin 18) (e : Entry) (s : State) : Host.Outcome State Fault Refusal :=
  .next (serve specGroupRelease m.val e s)

/-- GROUP_QUERY (R298). -/
def execGroupQuery (m : Fin 18) (e : Entry) (s : State) : Host.Outcome State Fault Refusal :=
  .next (serve specGroupQuery m.val e s)

/-- COMMQ_CREATE (R284). -/
def execCommqCreate (m : Fin 18) (e : Entry) (s : State) : Host.Outcome State Fault Refusal :=
  .next (serve specCommqCreate m.val e s)

/-- COMMQ_DESTROY (R298). -/
def execCommqDestroy (m : Fin 18) (e : Entry) (s : State) : Host.Outcome State Fault Refusal :=
  .next (serve specCommqDestroy m.val e s)

/-- GROUP_READY_RECEIVE (R268). -/
def execGroupReadyReceive (span : BitVec 16) (num : BitVec 8) (pkg : Fin 128) (crc : BitVec 32) (s : State) :
    Host.Outcome State Fault Refusal :=
  .next (s.whenClocked (s.toChoesk pkg.val (.groupReady span num.toNat pkg.val crc)
    (opGroupReadyReceive span num pkg crc s)))

/-- GROUP_ACTIVE_RECEIVE (R268). -/
def execGroupActiveReceive (span : BitVec 16) (num : BitVec 8) (s : State) :
    Host.Outcome State Fault Refusal :=
  .next (s.whenClocked (s.toChoesk 0 (.groupActive span num.toNat)
    (opGroupActiveReceive span num s)))

/-- GROUP_DEFINE_TIMEOUT (R268). -/
def execGroupDefineTimeout (index : BitVec 8) (s : State) : Host.Outcome State Fault Refusal :=
  .next (s.whenClocked (opGroupDefineTimeout index s))

/-- GROUP_LOSS_RECEIVE (R294). -/
def execGroupLossReceive (span : BitVec 16) (num : BitVec 8) (pkg : Fin 128) (killed : Bool) (s : State) :
    Host.Outcome State Fault Refusal :=
  .next (s.whenClocked (s.toChoesk pkg.val (.groupLoss span num.toNat pkg.val killed)
    (opGroupLossReceive span num pkg killed s)))

/-- REPAIR_ANNOUNCE_RECEIVE (R295). -/
def execRepairAnnounceReceive (span : BitVec 16) (num : BitVec 8) (round : BitVec 4) (lost : List (Nat × Bool)) (restart : FrameNo) (s : State) :
    Host.Outcome State Fault Refusal :=
  .next (s.whenClocked (s.toChoesk 0 (.groupRepair span num.toNat round lost restart)
    (opRepairAnnounceReceive span num round lost restart s)))

/-- GROUP_REPAIR_TIMEOUT (R295). -/
def execGroupRepairTimeout (index : BitVec 8) (s : State) : Host.Outcome State Fault Refusal :=
  .next (s.whenClocked (opGroupRepairTimeout index s))

end Sys2Proof.Machine
end

