-- ==== Sys2Proof/Machine/Reduce.lean ====
section
/-! DEFINITION. Reductions: chunks and lanes (R273), plain and checked arithmetic (R275 to R278), the stage rules (R280,
R281), intake (R282, R288), explicit and fused operations (R283, R287), results and records (R285, R286, R289, R290), adder
faults (R291, R292) and restarts (R293, R296). -/

namespace Sys2Proof.Machine

open Sys2Proof

/-! ### Chunks and lanes (R273) -/

/-- Elements of a chunk. -/
def chunkSize : Nat := 16384

/-- Chunks of a reduction of a group. -/
def Group.chunks (g : Group) : Nat := ceilDiv g.cap chunkSize

/-- The tree of a chunk of a reduction. -/
def Group.treeOf (g : Group) (seq chunk : Nat) : Nat := (seq * g.chunks + chunk) % 2

/-- The reduction and chunk at ordinal o of a lane of a tree. -/
def Group.chunkAt (g : Group) (tree lane o : Nat) : Nat × Nat :=
  let i := 2 * (o * g.lanes + lane) + tree
  (i / g.chunks, i % g.chunks)

/-- The lane of a chunk and its ordinal there. -/
def Group.laneOf (g : Group) (seq chunk : Nat) : Nat × Nat :=
  let i := (seq * g.chunks + chunk) / 2
  (i % g.lanes, i / g.lanes)

/-- The ordinal at which a lane of a tree stands when every chunk of the reductions before `seq` is past. -/
def Group.laneStart (g : Group) (seq tree lane : Nat) : Nat :=
  let i := (seq * g.chunks + 1 - tree) / 2
  (i + g.lanes - 1 - lane) / g.lanes

/-- Key of a lane. -/
def laneKey (group tree lane : Nat) : Nat := 128 * group + 64 * tree + lane

/-- The queue of a group. -/
def State.queueOf (g : Group) (s : State) : Option Commq := s.red.queues.find? (fun q => q.group == g.index)

/-- A reduction of a group. -/
def State.reduction (g : Group) (seq : Nat) (s : State) : Option Reduction :=
  (s.queueOf g).bind (fun q => q.reds.find? (fun r => r.seq == seq))

/-- Changes a reduction of a group. -/
def State.updReduction (g : Group) (seq : Nat) (f : Reduction → Reduction) (s : State) : State :=
  s.updRed (fun r => { r with
    queues := r.queues.map (fun q => if q.group == g.index then
      { q with reds := q.reds.map (fun (x : Reduction) => if x.seq == seq then f x else x) } else q) })

/-- The fused operation of a reduction has ended: its last buffer is handed over (R288, Table 13-7). -/
def State.fusedOver (r : Reduction) (s : State) : Bool :=
  r.fused.all (fun id => s.seq.ops.all (fun o => o.id != id || o.loopsDone))

/-- Elements of this member's contribution. -/
def State.lengthOf (r : Reduction) (s : State) : Nat :=
  if r.fused.isSome && s.fusedOver r then r.produced else r.len

/-! ### Where elements lie (R283, R287) -/

/-- Runs of contribution elements a to a + n − 1 of a fused operation as addresses and counts, in its C or D layout. -/
def fusedRuns (d : Desc) (m n : Nat) (base stride hstride size : Nat) : Nat → Nat → Nat → List (Nat × Nat)
  | 0, _, _ => []
  | fuel + 1, a, k =>
    if k = 0 then []
    else
      let tile := a / (d.tm * d.tn)
      let row := a % (d.tm * d.tn) / d.tn
      let col := a % d.tn
      let h := tile / (m * n)
      let t := tile % (m * n)
      let im := if d.loopOrder = 0 then t / n else t % m
      let jn := if d.loopOrder = 0 then t % n else t / m
      let run := min k (d.tn - col)
      (base + h * hstride + (im * d.tm + row) * stride + (jn * d.tn + col) * size, run) ::
        fusedRuns d m n base stride hstride size fuel (a + run) (k - run)

/-- The runs of result elements a to a + n − 1 of a reduction, in its destination. -/
def Reduction.dstRuns (r : Reduction) (size a n : Nat) : List (Nat × Nat) :=
  if r.fused.isSome then
    fusedRuns r.desc (r.bounds.getD 0 1) (r.bounds.getD 1 1) r.dst.toNat r.desc.strideD r.desc.hstrideD size n a n
  else [(r.dst.toNat + a * size, n)]

/-- The runs of contribution elements in the source: C of a fused operation, read again by a restart (R296). -/
def Reduction.srcRuns (r : Reduction) (size a n : Nat) : List (Nat × Nat) :=
  if r.fused.isSome then
    fusedRuns r.desc (r.bounds.getD 0 1) (r.bounds.getD 1 1) r.desc.addrC r.desc.strideC r.desc.hstrideC 4 n a n
  else [(r.src.toNat + a * size, n)]

/-- Reads runs of elements of a size. -/
def State.readRuns (w : Who) (size : Nat) : List (Nat × Nat) → List Byte → State → State × Got (List Byte)
  | [], acc, s => (s, .ok acc)
  | x :: xs, acc, s => gotThen (s.readDva w x.1 (x.2 * size)) (fun bs s => State.readRuns w size xs (acc ++ bs) s)

/-- Writes bytes over runs of elements of a size. -/
def State.writeRuns (w : Who) (size : Nat) : List (Nat × Nat) → List Byte → State → State × Got Unit
  | [], _, s => (s, .ok ())
  | x :: xs, bs, s =>
    gotThen (s.writeDva w x.1 (bs.take (x.2 * size))) (fun _ s => State.writeRuns w size xs (bs.drop (x.2 * size)) s)

/-- The die of an engine (R271). -/
def engineDie (e : Nat) : Nat := if 8 ≤ e && decide (e < 16) then 1 else 0

/-- Who an engine is when it serves a member. -/
def Group.who (g : Group) (engine : Nat) : Who := { die := engineDie engine, tag := BitVec.ofNat 10 (tagOf g.part g.ctx) }

/-! ### Intake (R282, R286, R288) -/

/-- Entries a completion ring has free beside the one it never uses (R79, R286). -/
def Commq.room (q : Commq) : Nat :=
  let size := 2 ^ q.log2
  size - 1 - (q.tail.toNat + size - q.head.toNat % size) % size

/-- A chunk of a contribution as FP32 words, padded with zeros to the chunk's size (R275, R289). -/
def chunkWords (bf16 : Bool) (bs : List Byte) : List (BitVec 32) :=
  let size := if bf16 then 2 else 4
  let es := (chunks size (bs.length / size) bs).map (fun b =>
    if bf16 then BitVec.ofNat 32 (ofBytesLE b * 65536) else BitVec.ofNat 32 (ofBytesLE b))
  es ++ List.replicate (chunkSize - es.length) 0

/-- The reduction whose chunk comes next, in queue order. -/
def Commq.nextIn (nc : Nat) (q : Commq) : Option Reduction :=
  q.reds.find? (fun r => decide (r.taken < nc) && r.outcome.isNone)

/-- A reduction may start: its record and those of the reductions before it have room in the ring (R286). -/
def Commq.mayStart (r : Reduction) (q : Commq) : Bool :=
  r.started.isSome || decide ((q.reds.filter (fun x => decide (x.seq < r.seq))).length + 1 ≤ q.room)

/-- Enters a chunk's contribution in the engine store. -/
def State.hold (g : Group) (r : Reduction) (vs : List (BitVec 32)) (s : State) : State :=
  let s := s.updRed (fun x => { x with held := x.held ++ [{ group := g.index, seq := r.seq, chunk := r.taken, values := vs }] })
  s.updReduction g r.seq (fun x => { x with taken := x.taken + 1, started := x.started <|> some s.frm.count })

/-- The engine of a reduction's next chunk, when its store has room for it. -/
def State.intakeEngine (g : Group) (r : Reduction) (s : State) : Option Nat :=
  let e := s.engineOf g (g.treeOf r.seq r.taken)
  if s.storeUsed e + 64 ≤ storeKiB then some e else none

/-- A group's pipeline runs here: the trees are built over this member too. -/
def Group.running (g : Group) : Bool :=
  (g.state = .active || g.state = .degraded) && g.order.contains g.rank

/-- A reduction's next chunk can be read from its source: of a fused one, from C, when the chunk has been produced and its
staging buffer is free again, as after a restart (R296). -/
def State.sourceReady (r : Reduction) (s : State) : Bool :=
  r.fused.isNone || (!r.buffers.any (fun b => b.1 == r.taken) &&
    (s.fusedOver r || decide ((r.taken + 1) * chunkSize ≤ r.produced)))

/-- CHUNK_INTAKE (R282): the next chunk of a queue is read from its source, or from C for a restarted fused reduction. -/
def opChunkIntake (p q : Fin 16) (s : State) : State :=
  match s.commq p.val q.val with
  | none => s
  | some x =>
    match (s.group? x.group).filter Group.running with
    | none => s
    | some g =>
      match x.nextIn g.chunks with
      | none => s
      | some r =>
        if !s.sourceReady r || !x.mayStart r then s
        else match s.intakeEngine g r with
          | none => s
          | some e =>
            let a := r.taken * chunkSize
            let n := min (min (s.lengthOf r) g.cap) (a + chunkSize) - a
            let bf16 := g.bf16In && r.fused.isNone
            let size := if bf16 then 2 else 4
            match s.readRuns (g.who e) size (if n = 0 then [] else r.srcRuns size a n) [] with
            | (s, .ok bs) => s.hold g r (chunkWords bf16 bs)
            | (s, .fault f) => s.killStart f none
            | (s, .wait) => s

/-- STAGING_BUFFER_TAKE (R288): the next staging buffer of a fused operation is copied into the engine store; chaff is
dropped, and what the operation did not produce counts as zero. -/
def opStagingBufferTake (p q : Fin 16) (s : State) : State :=
  match s.commq p.val q.val with
  | none => s
  | some x =>
    match (s.group? x.group).filter Group.running with
    | none => s
    | some g =>
      match x.reds.find? (fun r => r.outcome.isNone && (decide (r.taken < g.chunks) || (r.fused.isSome && !r.buffers.isEmpty))) with
      | none => s
      | some r =>
        if r.fused.isNone || !x.mayStart r then s
        else
          let full (b : Nat × List (BitVec 32)) : Bool := b.2.length == chunkSize || s.fusedOver r
          let drop (s : State) : State := s.updReduction g r.seq (fun y => { y with buffers := y.buffers.drop 1 })
          match r.buffers with
          | b :: _ =>
            if !full b then s
            else if b.1 < r.taken || g.chunks ≤ b.1 then drop s
            else if b.1 != r.taken then s
            else match s.intakeEngine g r with
              | none => s
              | some _ =>
                let vs := ((List.range b.2.length).zip b.2).map (fun iv =>
                  if r.taken * chunkSize + iv.1 < g.cap then iv.2 else 0)
                (drop s).hold g r (vs ++ List.replicate (chunkSize - vs.length) 0)
          | [] =>
            if s.fusedOver r && decide (r.produced ≤ r.taken * chunkSize) && (s.intakeEngine g r).isSome then
              s.hold g r (List.replicate chunkSize 0)
            else s

/-! ### Operations (R283, R287, R288) -/

/-- REDUCTION_EXPLICIT (R283): the operation enters its reduction once the queue has one of its 64 places free. -/
def opReductionExplicit (id : Nat) (s : State) : State :=
  s.runTile id (fun o => o.desc.kind == 7) (fun _ => []) (fun o s =>
    let d := o.desc
    match s.commq o.part (d.param % 16) with
    | none => (s.updSeqp o.part (fun q => { q with descErr := satAdd q.descErr 1 }), .ok { o with loopsDone := true })
    | some q =>
      if 64 ≤ q.reds.length then (s, .wait)
      else
        let r : Reduction := {
          seq := 0, user := BitVec.ofNat 32 (fld d 992 32), src := BitVec.ofNat 64 d.addrA, dst := BitVec.ofNat 64 d.addrC
          chaffDva := BitVec.ofNat 64 d.addrD, len := o.m }
        (s.updCommq o.part (d.param % 16) (fun q => q.enter r), .ok { o with loopsDone := true }))

/-- Appends produced elements to the staging buffers; `fuel` bounds the buffers touched. -/
def fillBuffers : Nat → Nat → List (BitVec 32) → List (Nat × List (BitVec 32)) → List (Nat × List (BitVec 32))
  | 0, _, _, bufs => bufs
  | fuel + 1, p, es, bufs =>
    if es.isEmpty then bufs
    else
      let c := p / chunkSize
      let k := chunkSize - p % chunkSize
      let now := es.take k
      let bufs := if bufs.any (fun b => b.1 == c) then bufs.map (fun b => if b.1 == c then (c, b.2 ++ now) else b)
        else bufs ++ [(c, now)]
      fillBuffers fuel (p + now.length) (es.drop k) bufs

/-- The address runs of staged elements in the running tiller's scratchpad: 4 buffers of 64 KiB in turn (R287, R288). -/
def stagingRuns (d : Desc) : Nat → Nat → Nat → List (Nat × Nat)
  | 0, _, _ => []
  | fuel + 1, p, n =>
    if n = 0 then []
    else
      let k := min n (chunkSize - p % chunkSize)
      (2 ^ 51 + d.tiller * 2 ^ 22 + fld d 968 22 + p / chunkSize % 4 * 65536 + p % chunkSize * 4, k) ::
        stagingRuns d fuel (p + k) (n - k)

/-- The reduction a fused operation feeds. -/
def State.fusedRed (o : Op) (s : State) : Option Reduction :=
  (s.commq o.part (o.desc.param % 16)).bind (fun q => q.reds.find? (fun r => r.fused == some o.id && r.outcome.isNone))

/-- Stages the elements of a completed output tile. -/
def State.stageTile (o : Op) (es : List (BitVec 32)) (s : State) : State × Got Unit :=
  match s.fusedRed o with
  | none => (s, .ok ())
  | some r =>
    let fuel := es.length / chunkSize + 2
    gotThen (s.writeRuns o.who 4 (stagingRuns o.desc fuel r.produced es.length) (es.flatMap (fun e => bytesLE 4 e.toNat)))
      (fun _ s => (s.updCommq o.part (o.desc.param % 16) (fun q => { q with
        reds := q.reds.map (fun (x : Reduction) => if x.fused == some o.id then
          { x with
            buffers := fillBuffers fuel x.produced es x.buffers, produced := x.produced + es.length } else x) }), .ok ()))

/-- The 4 staging buffers have no room for n more elements of a fused operation: those held reach back 4 chunks from the
chunk the last of them would enter (R288). -/
def State.stagingFull (o : Op) (n : Nat) (s : State) : Bool :=
  (s.fusedRed o).any (fun r => r.buffers.head?.any (fun b => decide (b.1 + 4 ≤ (r.produced + n - 1) / chunkSize)))

/-- An iteration of a fused operation: it waits while its buffers are held. -/
def State.fusedTile (o : Op) (s : State) : State × Got Op :=
  let d := o.desc
  let t := s.mulAt o
  let pos := t.1
  if s.stagingFull o (if pos.last then d.tm * d.tn else 1) then (s, .wait)
  else
    let size := d.tm * d.tn * fmtBytes (d.fmtC)
    let lastIter := decide (o.h * o.m * o.n * o.k ≤ o.iter + 1)
    gotThen (t.2.mulCompute o pos) (fun c s =>
      let o1 := o.mulTally pos
      let o1 := if pos.first && d.acc then o1.tally pos.c size else o1
      if pos.last then
        gotThen (s.writeRows o.who (d.strideC) pos.c (c.map (rowBytes (d.fmtC)))) (fun _ s =>
          gotThen (s.stageTile o (packRows c)) (fun _ s =>
            s.endTile { o1.tally pos.c size with acc := [] }
              (some (extent (d.tm) (d.strideC) (d.tn * fmtBytes (d.fmtC)))) lastIter))
      else s.endTile { o1 with acc := packRows c } none lastIter)

/-- FUSED_MULTIPLY_REDUCE (R287): one iteration of a fused multiply-and-reduce. -/
def opFusedMultiplyReduce (id : Nat) (s : State) : State :=
  s.runTile id (fun o => o.desc.kind == 8) Op.mulPops State.fusedTile

/-! ### Arithmetic (R275 to R277) -/

/-- The FP32 exponent fields of the 256 blocks of a chunk (step 1 of R276). -/
def blockExps (vs : List (BitVec 32)) : List Nat :=
  (chunks 64 256 vs).map (fun b => (b.map (fun v => max 1 (fld v 23 8))).foldl max 1)

/-- An element as an integer under the agreed field E (step 3 of R276). The spec states no integer for an infinity or a NaN,
whose block's result is NaN whatever it is: a free value (log entry 126). -/
def quantise (e : Nat) (v : BitVec 32) : Int :=
  match ofF32 v with
    | .fin n m x =>
      let k : Int := x + 157 - e
      let q : Int := if 0 ≤ k then m * 2 ^ k.toNat else shiftRne m (-k).toNat
      if n then -q else q
    | _ => (Config.quantised v).toInt

/-- A block's residue (Table 10-2). -/
def blockResidue (qs : List Int) : Nat := ((qs.foldl (· + ·) 0) % 255).toNat

/-- The residues of the blocks of a chunk. -/
def residuesOf (vs : List Int) : List Nat := (chunks 64 256 vs).map blockResidue

/-- A checked sum as FP32 (step 5 of R276). -/
def unquantise (e : Nat) (q : Int) : BitVec 32 :=
  if e = 255 then 0x7FC00000#32 else toF32 (ldexp (Fv.ofInt q) ((e : Int) - 157))

/-- The result words of an image: FP32 sums. -/
def Image.result (checked : Bool) (i : Image) : List (BitVec 32) :=
  if !checked then i.values.map (fun v => BitVec.ofNat 32 v.toNat)
  else ((List.range i.values.length).zip i.values).map (fun iv => unquantise (i.exps.getD (iv.1 / 64) 1) iv.2)

/-- Adds vectors of 64-bit counts (R289). -/
def addChaff (a b : List Nat) : List Nat :=
  if a.isEmpty then b else if b.isEmpty then a else List.zipWith (fun x y => (x + y) % 2 ^ 64) a b

/-! ### A position's partial (R280) -/

/-- This member has no part in a reduction: it only serves the position, as its member is killed or the reduction recorded
here (R295, R296). -/
def Group.servesOnly (seq : Nat) (g : Group) : Bool := g.killed || decide (seq < g.base)

/-- This member's contribution to a chunk: zeros where it only serves the position, else what the store holds; and whether
it counts. -/
def State.contribution (g : Group) (seq chunk : Nat) (s : State) : Option (List (BitVec 32) × Bool) :=
  if g.servesOnly seq then some (List.replicate chunkSize 0, false)
  else (s.red.held.find? (fun h => h.group == g.index && h.seq == seq && h.chunk == chunk)).map (fun h => (h.values, true))

/-- The image of a chunk from a position. -/
def State.imageFrom (g : Group) (tree pos seq chunk : Nat) (down exp : Bool) (s : State) : Option Image :=
  s.red.images.find? (fun i => i.group == g.index && i.seq == seq && i.chunk == chunk && i.round == g.round &&
    i.down == down && i.exp == exp && i.sender == g.pkg (g.rankAt tree pos))

/-- The agreed exponents of a chunk, once they have reached this member. -/
def State.agreedOf (g : Group) (seq chunk : Nat) (s : State) : Option (List Nat) :=
  (s.red.agreed.find? (fun a => a.1 == g.index && a.2.1 == seq && a.2.2.1 == chunk)).map (fun a => a.2.2.2)

/-- The chaff entry of this member in the first chunk's vector. -/
def State.ownChaff (g : Group) (seq chunk : Nat) (counts : Bool) (s : State) : List Nat :=
  if chunk != 0 then []
  else
    let l := if counts then ((s.reduction g seq).map (fun r => s.lengthOf r - g.cap)).getD 0 else 0
    (List.range 128).map (fun r => if r = g.rank then l else 0)

/-- The partial of a position: its contribution with the images of its children added in ascending order (R275, R276). -/
def State.partialOf (g : Group) (tree seq chunk : Nat) (exp : Bool) (s : State) : Option Image :=
  let kids := (treeChildren g.size (g.pos tree)).map (fun q => s.imageFrom g tree q seq chunk false exp)
  let agreed := if g.checked && !exp then s.agreedOf g seq chunk else some []
  match s.contribution g seq chunk, agreed with
  | some (vs, counts), some es =>
    if kids.any Option.isNone then none
    else
      let ks := kids.flatMap Option.toList
      let base : Image := {
        group := g.index, seq := seq, round := g.round, down := false, exp := exp, chunk := chunk
        contrib := (ks.map (·.contrib)).foldl (· + ·) (b2n counts), sender := s.self, values := [] }
      if exp then some { base with exps := (ks.map (·.exps)).foldl (fun a b => List.zipWith max a b) (blockExps vs) }
      else
        let chaff := (ks.map (·.chaff)).foldl addChaff (s.ownChaff g seq chunk counts)
        if g.checked then
          let own := ((List.range vs.length).zip vs).map (fun iv => quantise (es.getD (iv.1 / 64) 1) iv.2)
          let sum := (ks.map (·.values)).foldl (fun a b => List.zipWith (· + ·) a b) own
          some { base with values := sum, exps := es, residues := residuesOf sum, chaff := chaff }
        else
          let add (a b : List (BitVec 32)) : List (BitVec 32) := List.zipWith (fun x y => toF32 ((ofF32 x).add (ofF32 y))) a b
          let sum := (ks.map (fun k => k.result false)).foldl add vs
          some { base with values := sum.map (fun v => (v.toNat : Int)), chaff := chaff }
  | _, _ => none

/-! ### Adder faults (R291, R292) -/

/-- The engine that takes over a retiring engine's positions: the spare while it is idle, else the lowest active engine of
the die, else of the other die. -/
def State.pickHost (e : Nat) (s : State) : Option Nat :=
  let ok (x : Nat) : Bool := x != e && !(s.engine x).retired
  if ok 16 && !(s.engine 16).hosting then some 16
  else ((List.range 16).find? (fun x => ok x && engineDie x == engineDie e)) <|> (List.range 16).find? ok

/-- Retires an engine: its positions move to a host, and the event log records it (R292). -/
def State.retireEngine (e : Nat) (s : State) : State :=
  let h := s.pickHost e
  let s := s.updEngine e (fun x => { x with retired := true, host := BitVec.ofNat 5 (h.getD 31) })
  let s := match h with
    | some k => s.updEngine k (fun x => { x with hosting := true })
    | none => s
  s.log 0x0600 [(0, e), (5, h.getD 31)]

/-- The engine that hosts a retired engine's positions now, 31 for none. -/
def State.hostNow (e : Nat) (s : State) : Nat :=
  let h := State.hostOf 17 e s
  if h = e || (s.engine h).retired then 31 else h

/-- A mismatch on an engine: the first since the cold reset is noted, a later one retires the engine (R292). -/
def State.mismatchOn (e : Nat) (s : State) : State :=
  if (s.engine e).seen then s.retireEngine e else s.updEngine e (fun x => { x with seen := true })

/-- What the residue check of a chunk formed by addition does: nothing, a counted recompute, the engine's retirement, and
whether the chunk stands (R291 to R293). The fault itself is a free value. -/
def State.checkAdder (g : Group) (tree seq : Nat) (s : State) : State × Bool :=
  let n := s.takeFree
  let s := n.2
  let e := s.engineOf g tree
  match Config.adderFault n.1 with
  | 1 =>
    let s := s.updEngine e (fun x => { x with recomputes := satAdd x.recomputes 1 })
    let s := s.updReduction g seq (fun x => { x with recomputes := satAdd x.recomputes 1 })
    (s.mismatchOn e, true)
  | 2 => ((s.updEngine e (fun x => { x with seen := true })).retireEngine e, true)
  | 3 =>
    let s := (s.updEngine e (fun x => { x with seen := true })).retireEngine e
    ((s.mismatchOn (s.engineOf g tree)).askRestart g, false)
  | _ => (s, true)

/-! ### Results (R280, R289) -/

/-- Writes a chunk's result at this member, where its reduction has no record yet (R289, R290). -/
def State.writeResult (g : Group) (i : Image) (tree : Nat) (s : State) : State × Got Unit :=
  match (s.reduction g i.seq).filter (fun r => r.outcome.isNone) with
  | none => (s, .ok ())
  | some r =>
    if i.seq < g.base then (s, .ok ())
    else
      let w := g.who (s.engineOf g tree)
      let size := if g.bf16Out then 2 else 4
      let a := i.chunk * chunkSize
      let top := if r.fused.isSome then min (s.lengthOf r) g.cap else g.cap
      let n := min top (a + chunkSize) - a
      let bs := ((i.result g.checked).take n).flatMap (fun v =>
        if g.bf16Out then bytesLE 2 (fmtBF16.conv (ofF32 v)) else bytesLE 4 (toF32 (ofF32 v)).toNat)
      gotThen (s.writeRuns w size (if n = 0 then [] else r.dstRuns size a n) bs) (fun _ s =>
        let report := if i.chunk = 0 && r.chaffDva != 0 then [(r.chaffDva.toNat, 128)] else []
        gotThen (s.writeRuns w 8 report (i.chaff.flatMap (bytesLE 8))) (fun _ s =>
          (s.updReduction g i.seq (fun x => { x with
            done := insertNat i.chunk x.done, endFrame := some s.frm.count
            chaff := if i.chunk = 0 then i.chaff else x.chaff }), .ok ())))

/-! ### Stages at a commit instant (R280, R281) -/

/-- No image of a wave waits on a lane of an edge. -/
def State.laneFree (g : Group) (tree lane target : Nat) (exp : Bool) (s : State) : Bool :=
  s.red.leaving.all (fun l => !(l.group == g.index && l.tree == tree && l.lane == lane && l.target == target && l.image.exp == exp))

/-- Sends an image on a lane to positions. -/
def State.sendImage (g : Group) (tree lane : Nat) (i : Image) (targets : List Nat) (s : State) : State :=
  s.updRed (fun r => { r with
    leaving := r.leaving ++ targets.map (fun t => { group := g.index, tree := tree, lane := lane, target := t, image := i }) })

/-- Images of a chunk and wave in a direction are used up. -/
def Red.useImages (g : Group) (seq chunk : Nat) (down exp : Bool) (r : Red) : Red :=
  { r with
    images := r.images.filter (fun i => !(i.group == g.index && i.seq == seq && i.chunk == chunk && i.down == down && i.exp == exp)) }

/-- Changes the ordinals of a lane. -/
def State.updLane (g : Group) (tree lane : Nat) (f : LaneAt → LaneAt) (s : State) : State :=
  s.updRed (fun r => { r with lanes := r.lanes.upd {} (laneKey g.index tree lane) f })

/-- A lane's ordinals. -/
def State.laneAt (g : Group) (tree lane : Nat) (s : State) : LaneAt := s.red.lanes.get {} (laneKey g.index tree lane)

/-- Takes agreed exponents in. -/
def State.agree (g : Group) (i : Image) (s : State) : State :=
  s.updRed (fun r => { r with agreed := r.agreed ++ [(g.index, i.seq, i.chunk, i.exps)] })

/-- A chunk's value wave has been formed at this position: its agreed exponents are used up, and its contribution stays only
until the wave has been sent (R282). -/
def Red.useChunk (g : Group) (seq chunk : Nat) (r : Red) : Red :=
  { r with
    held := r.held.map (fun h => if h.group == g.index && h.seq == seq && h.chunk == chunk then { h with used := true } else h)
    agreed := r.agreed.filter (fun a => !(a.1 == g.index && a.2.1 == seq && a.2.2.1 == chunk)) }

/-- What the up stage or the root leaves behind. -/
def State.afterUp (g : Group) (tree lane : Nat) (i : Image) (root : Bool) (s : State) : State :=
  let s := s.updRed (fun r => r.useImages g i.seq i.chunk false i.exp)
  let s := if i.exp then (if root then s.agree g i else s) else s.updRed (fun r => r.useChunk g i.seq i.chunk)
  s.updLane g tree lane (fun x =>
    if i.exp then { x with expUp := x.expUp + 1, expDown := if root then x.expDown + 1 else x.expDown }
    else { x with valUp := x.valUp + 1, valDown := if root then x.valDown + 1 else x.valDown })

/-- A position that only serves zeros and has no children sends a chunk up once the result before it has come down. -/
def State.idleAhead (g : Group) (tree lane seq : Nat) (exp : Bool) (s : State) : Bool :=
  let x := s.laneAt g tree lane
  g.servesOnly seq && (treeChildren g.size (g.pos tree)).isEmpty && treeRoot g.size != g.pos tree &&
    (if exp then decide (x.expDown < x.expUp) else decide (x.valDown < x.valUp))

/-- The root of a tree with its sum: the result is written and sent down in the same frame. -/
def State.rootStage (g : Group) (tree lane : Nat) (i : Image) (s : State) : State :=
  let kids := treeChildren g.size (g.pos tree)
  if !kids.all (fun q => s.laneFree g tree lane q i.exp) then s
  else
    let d := { i with down := true }
    if i.exp then (s.sendImage g tree lane d kids).afterUp g tree lane i true
    else match s.writeResult g i tree with
      | (s, .ok _) => (s.sendImage g tree lane d kids).afterUp g tree lane i true
      | (s, .fault f) => s.killStart f none
      | (s, .wait) => s

/-- The up stage, or the root's, of a lane's next chunk in a wave. -/
def State.upStage (g : Group) (tree lane : Nat) (exp : Bool) (s : State) : State :=
  let x := s.laneAt g tree lane
  let c := g.chunkAt tree lane (if exp then x.expUp else x.valUp)
  if s.idleAhead g tree lane c.1 exp then s
  else match s.partialOf g tree c.1 c.2 exp with
    | none => s
    | some i =>
      let p := g.pos tree
      let up := treeParent g.size p
      if up.any (fun q => !s.laneFree g tree lane q exp) then s
      else
        let y := if g.checked && !exp && !(treeChildren g.size p).isEmpty then s.checkAdder g tree c.1 else (s, true)
        if !y.2 then y.1
        else match up with
          | some q => (y.1.sendImage g tree lane i [q]).afterUp g tree lane i false
          | none => y.1.rootStage g tree lane i

/-- The down stage of a lane's next chunk in a wave at a position below the root; a leaf only writes. -/
def State.downStage (g : Group) (tree lane : Nat) (exp : Bool) (s : State) : State :=
  match treeParent g.size (g.pos tree) with
  | none => s
  | some q =>
    let x := s.laneAt g tree lane
    let c := g.chunkAt tree lane (if exp then x.expDown else x.valDown)
    match s.imageFrom g tree q c.1 c.2 true exp with
    | none => s
    | some i =>
      let kids := treeChildren g.size (g.pos tree)
      if !kids.all (fun k => s.laneFree g tree lane k exp) then s
      else
        let d := { i with sender := s.self }
        let fin (s : State) : State :=
          let s := (s.sendImage g tree lane d kids).updRed (fun r => r.useImages g c.1 c.2 true exp)
          let s := if exp then s.agree g i else s
          s.updLane g tree lane (fun x => if exp then { x with expDown := x.expDown + 1 } else { x with valDown := x.valDown + 1 })
        if exp then fin s
        else match s.writeResult g i tree with
          | (s, .ok _) => fin s
          | (s, .fault f) => s.killStart f none
          | (s, .wait) => s

/-- The stages of a lane: the exponent wave of a checked group, then the value wave. -/
def State.laneStages (i tree lane : Nat) (s : State) : State :=
  let on (f : Group → State → State) (s : State) : State := match (s.group? i).filter Group.running with
    | some g => f g s
    | none => s
  let wave (exp : Bool) (s : State) : State :=
    on (fun g s => s.downStage g tree lane exp) (on (fun g s => s.upStage g tree lane exp) s)
  let s := on (fun g s => if g.checked then wave true s else s) s
  wave false s

/-- Images that left whole in the frame that ends are gone; the others go again whole (R281). -/
def Red.settleLeaving (r : Red) : Red :=
  { r with
    leaving := (r.leaving.filter (fun l =>
      let per := ((r.groups.find? (fun g => g.index == l.group)).map Group.per).getD 9
      !(if l.image.exp then l.sent.contains 0 else decide (per ≤ l.sent.length)))).map (fun (l : Leaving) => { l with sent := [] }) }

/-- Contributions whose value wave has been sent are gone (R282). -/
def Red.settleHeld (r : Red) : Red :=
  { r with
    held := r.held.filter (fun h => !h.used || r.leaving.any (fun l => l.group == h.group && !l.image.exp &&
      l.image.seq == h.seq && l.image.chunk == h.chunk)) }

/-! ### Records (R285, R290) -/

/-- The outcome of a reduction whose chunks are all written (R290). -/
def Group.outcomeOf (g : Group) (chaff : List Nat) : Oc × Reason :=
  if !g.lost.isEmpty then (.memberLost, g.lostReason)
  else if chaff.any (fun c => c != 0) then (.partly, .chaff)
  else (.done, .none)

/-- The outcome that a reduction's record names, the first of R290's that applies: KILLED, ABORTED under a partition reset,
MEMBER_LOST, PARTIAL, DONE. -/
def Group.recordOf (g : Group) (r : Reduction) : Oc × Reason :=
  if r.reset && r.outcome.all (fun o => o.1 != .killed) then (.aborted, .partitionReset)
  else r.outcome.getD (g.outcomeOf r.chaff)

/-- The completion record (Table 10-4). A reduction without an intake has no FIRST_FRAME and one without a write no END_FRAME:
the spec states no value there, and the field is a free value of draw n (log entry 125). -/
def reductionRecord (g : Group) (r : Reduction) (o : Oc × Reason) (phase : Bool) (n : Nat) : List Byte :=
  let total := (r.chaff.foldl (· + ·) 0) % 2 ^ 48
  bytesLE 64 (r.user.toNat + o.1.code * 2 ^ 32 + o.2.code * 2 ^ 40 + r.restarts % 16 * 2 ^ 56 +
    (r.started.getD (Config.noFrame n false)).toNat * 2 ^ 64 + (r.endFrame.getD (Config.noFrame n true)).toNat * 2 ^ 112 + r.chaff.getD g.rank 0 % 2 ^ 32 * 2 ^ 160 +
    total * 2 ^ 192 + (r.chaff.filter (fun c => c != 0)).length % 256 * 2 ^ 240 + g.lost.length % 256 * 2 ^ 248 +
    g.lostMask % 2 ^ 128 * 2 ^ 256 + r.recomputes.toNat * 2 ^ 384 + r.seq % 2 ^ 16 * 2 ^ 400 + b2n phase * 2 ^ 511)

/-- Writes the record of the queue's head, if it is due and the ring has room; `fuel` bounds the records of a queue. -/
def State.recordLoop (p q : Nat) : Nat → State → State
  | 0, s => s
  | fuel + 1, s =>
    match s.commq p q with
    | none => s
    | some x =>
      match x.reds, s.group? x.group with
      | r :: rest, some g =>
        let due := r.outcome.isSome || decide (g.chunks ≤ r.done.length)
        if !due || x.room = 0 then s
        else
          let o := g.recordOf r
          let n := s.takeFree
          let s := n.2.writeArg p x.ctx (x.ring.toNat + 64 * x.tail.toNat) (reductionRecord g r o x.phase n.1)
          let wrap := x.tail.toNat + 1 = 2 ^ x.log2
          let s := s.updCommq p q (fun y => { y with
            reds := rest, tail := if wrap then 0 else y.tail + 1, phase := if wrap then !y.phase else y.phase })
          let s := s.updGroup g.index (fun y => { y with
            recorded := y.recorded + 1, base := if o.1 == .killed then y.base else r.seq + 1 })
          State.recordLoop p q fuel (s.fireVec (p + 1) (16 + q))
      | _, _ => s

/-- What a commit instant does to reductions: images sent, stages, the ends of a FAILED group's reductions, records, and
the frames that defines and repairs wait. -/
def State.redCommit (s : State) : State :=
  let s := s.updRed (fun r => r.settleLeaving.settleHeld)
  let s := s.red.groups.foldl (fun s g =>
    [0, 1].foldl (fun s t => (List.range g.lanes).foldl (fun s l => s.laneStages g.index t l) s) s) s
  let s := s.red.groups.foldl (fun s g => if g.state = .failed then s.endReductions g .memberLost g.lostReason else s) s
  let s := s.red.queues.foldl (fun s q => s.recordLoop q.part q.queue q.reds.length) s
  s.updRed (fun r => { r with
    groups := r.groups.map (fun (g : Group) => { g with
      frames := if g.state = .defining then g.frames + 1 else g.frames, repair := g.repair.map (· + 1) }) })

/-! ### Restarts (R293, R296) -/

/-- Takes a group's lanes back to the first chunk of a reduction: partials and held chunks go, and the reductions in
progress are taken in again. -/
def State.rewind (g : Group) (seq : Nat) (s : State) : State :=
  let s := s.updRed (fun r =>
    let r := r.clearGroup g.index
    { r with
      lanes := [0, 1].foldl (fun t tree => (List.range g.lanes).foldl (fun t l =>
        let o := g.laneStart seq tree l
        t.put (laneKey g.index tree l) { expUp := o, valUp := o, expDown := o, valDown := o }) t) r.lanes })
  s.updRed (fun r => { r with
    queues := r.queues.map (fun q => if q.group == g.index then
      { q with
        reds := q.reds.map (fun (x : Reduction) => if x.started.isSome && x.outcome.isNone then
          { x with taken := 0, done := [], chaff := [] } else x) } else q) })

/-- REDUCTION_RESTART (R296): at the restart frame the round changes and the reductions that have begun start again from
chunk 0; where one would need a third restart every member context is killed instead: the member tells the others (R293). -/
def opReductionRestart (index : BitVec 8) (s : State) : State :=
  match s.group? index.toNat with
  | none => s
  | some g =>
    match g.restart with
    | none => s
    | some (f, round) =>
      if later f s.frm.count || !g.running then s
      else
        let begun (x : Reduction) : Bool := x.started.isSome && x.outcome.isNone
        let s := s.updGroup g.index (fun x => { x with
          restart := none, round := round, killed := x.lost.any (fun l => l.1 == x.rank) })
        let reds := ((s.queueOf g).map (·.reds)).getD []
        if reds.any (fun x => begun x && decide (2 ≤ x.restarts)) then
          (s.sendAll ((g.order.map (fun r => g.pkg r)).filter (fun k => k != s.self)) (.groupWatchdog g.span g.num)).killCtx
            g.part g.ctx .watchdog
        else
          let s := s.rewind g g.base
          s.updRed (fun r => { r with
            queues := r.queues.map (fun q => if q.group == g.index then
              { q with
                reds := q.reds.map (fun (x : Reduction) => if begun x then { x with restarts := x.restarts + 1 } else x) } else q) })

/-! ### Images received (R274, R278, R281) -/

/-- The reduction a 16-bit SEQ names, near the oldest without a record here. -/
def Group.fullSeq (g : Group) (seq : Nat) : Nat :=
  let d := (seq + 2 ^ 16 - g.base % 2 ^ 16) % 2 ^ 16
  if d < 2 ^ 15 then g.base + d else g.base + d - 2 ^ 16

/-- A block of a received image does not have the residue it carries (R278). -/
def Image.residueBad (i : Image) : Bool := residuesOf i.values != i.residues

/-- CHUNK_IMAGE_RECEIVE (R281): a complete image of the current round is kept (R274); one that fails the residue check is a
mismatch on the engine that receives it and asks for a restart (R292, R293; DEDUCED, log entry 137). An image of a reduction
that this member has recorded takes its lanes back to serve it (R296). -/
def opChunkImageReceive (span : BitVec 16) (img : Image) (s : State) : State :=
  match s.groupOf span img.group with
  | none => s
  | some g =>
    let i := { img with group := g.index, seq := g.fullSeq img.seq }
    let tree := g.treeOf i.seq i.chunk
    let from_ := match g.rankOf i.sender with
      | some r => g.order.contains r && (g.targets tree).any (fun q => g.rankAt tree q == r)
      | none => false
    if i.round != g.round || !from_ then s
    else if g.checked && !i.exp && i.residueBad then (s.mismatchOn (s.engineOf g tree)).askRestart g
    else
      let l := g.laneOf i.seq i.chunk
      let x := s.laneAt g tree l.1
      let past := if i.down then (if i.exp then x.expDown else x.valDown) else (if i.exp then x.expUp else x.valUp)
      let s := if g.round != 0 && decide (i.seq < g.base) && decide (l.2 < past) then
          s.rewind g i.seq
        else s
      s.updRed (fun r => { r with images := r.images ++ [i] })

/-! ### RED registers (R286, R297) -/

/-- RED_CQ_HEAD_WRITE (R286): the host returns completion entries. -/
def opRedCqHeadWrite (p q : Fin 16) (v : W64) (s : State) : State :=
  s.updCommq p.val q.val (fun x => { x with head := BitVec.ofNat 12 (fld v 0 12) })

/-- RED.ENGINE (Table 10-5). -/
def State.engineWord (e : Nat) (s : State) : W64 :=
  let x := s.engine e
  let st := if x.retired then 2 else if e = 16 && !x.hosting then 1 else 0
  word [(0, st), (2, b2n x.seen), (3, s.hostNow e), (8, s.positionsOn e), (16, x.recomputes.toNat)]

/-- RED.CQ of a queue; PHASE reads 1 where no queue is (Table 10-5). -/
def State.cqWord (p q : Nat) (s : State) : W64 :=
  match s.commq p q with
  | some x => word [(0, x.head.toNat), (16, x.tail.toNat), (28, b2n x.phase), (32, x.reds.length)]
  | none => word [(28, 1)]

/-! ### PLAN_COMMIT -/

/-- PLAN_COMMIT (R249): the planning deadline; groups whose flows were decided go on. -/
def opPlanCommit (s : State) : State := s.planCommit.groupsProgress

/-! ### Meanings of the rows -/

/-- RED_CQ_HEAD_WRITE (R286). -/
def execRedCqHeadWrite (p : Fin 16) (q : Fin 16) (v : W64) (s : State) : Host.Outcome State Fault Refusal :=
  .next (s.whenPcie (opRedCqHeadWrite p q v s))

/-- PLAN_COMMIT (R249). -/
def execPlanCommit (s : State) : Host.Outcome State Fault Refusal :=
  .next (s.whenClocked (opPlanCommit s))

/-- REDUCTION_EXPLICIT (R283). -/
def execReductionExplicit (id : Nat) (s : State) : Host.Outcome State Fault Refusal :=
  .next (s.whenClocked (opReductionExplicit id s))

/-- FUSED_MULTIPLY_REDUCE (R287). -/
def execFusedMultiplyReduce (id : Nat) (s : State) : Host.Outcome State Fault Refusal :=
  .next (s.whenClocked (opFusedMultiplyReduce id s))

/-- REDUCTION_RESTART (R296). -/
def execReductionRestart (index : BitVec 8) (s : State) : Host.Outcome State Fault Refusal :=
  .next (s.whenClocked (opReductionRestart index s))

/-- CHUNK_IMAGE_RECEIVE (R281). -/
def execChunkImageReceive (span : BitVec 16) (img : Image) (s : State) : Host.Outcome State Fault Refusal :=
  .next (s.whenClocked (opChunkImageReceive span img s))

/-- CHUNK_INTAKE (R282). -/
def execChunkIntake (p : Fin 16) (q : Fin 16) (s : State) : Host.Outcome State Fault Refusal :=
  .next (s.whenClocked (opChunkIntake p q s))

/-- STAGING_BUFFER_TAKE (R288). -/
def execStagingBufferTake (p : Fin 16) (q : Fin 16) (s : State) : Host.Outcome State Fault Refusal :=
  .next (s.whenClocked (opStagingBufferTake p q s))

end Sys2Proof.Machine
end

