-- ==== Sys2Proof/Machine/Power.lean ====
section
/-! DEFINITION. Energy credit (R383 to R386), the lock and the counts of R391 and R393, the stager and fill (R394 to
R396), sensors (R422, R423), the thermal governor (R398 to R401), and caps with the PWR commands (R402 to R406). -/

namespace Sys2Proof.Machine

open Sys2Proof

/-! ### Credit (R383, R384) -/

/-- The frame period in µs (Table 2-1). -/
def periodUs (code : BitVec 3) : Nat := 8 * 2 ^ code.toNat

/-- cap × P in units of 0.1 µJ. -/
def State.capEnergy (s : State) : Nat := s.pwr.cap.toNat * 10 * periodUs s.frm.period * 10

/-- E_pkg of the present frame (R383). -/
def State.packageCredit (s : State) : Nat := s.capEnergy * s.pwr.theta.toNat / 16 - s.pwr.base.toNat

/-- The load of partition p on each die (R383). -/
def State.loadsOf (e p : Nat) (s : State) : Nat × Nat :=
  let x := s.part p
  if x.state = .absent then (0, 0)
  else
    let l := e * x.energy.toNat / 1024
    let n := popCount x.rows
    if n = 0 then (0, 0) else (l * maskOn x.rows 0 / n, l * maskOn x.rows 1 / n)

/-- A balance at a commit instant: a remainder is discarded, debt carries (R384). -/
def reload (load : Nat) (b : Int) : Int := load + min b 0

/-- CREDIT_LOAD (R383, R384). -/
def State.loadCredit (s : State) : State :=
  let e := s.packageCredit
  let s := s.updPwr (fun w => { w with available := BitVec.ofNat 32 e })
  (List.range 16).foldl (fun s p =>
    let l := s.loadsOf e p
    let live := (s.part p).state != .absent
    s.updPwrp p (fun x => { x with
      loaded := BitVec.ofNat 32 (l.1 + l.2), loadW := l.1, loadE := l.2
      balW := if live then reload l.1 x.balW else x.balW
      balE := if live then reload l.2 x.balE else x.balE })) s

/-! ### Locks and idle frames (R391, R393) -/

/-- Moves the counts of passed-over frames on at a commit instant: an index passed over in the frame that ends has one
frame more, another starts again. -/
def Job.countPassed (j : Job) : Job :=
  { j with
    passed := j.passedNow.map (fun i => (i, ((j.passed.find? (fun x => x.1 == i)).map (fun x => x.2)).getD 0 + 1))
    passedNow := [] }

/-- The oldest candidate of a partition on a die that two consecutive frames have passed over or that is locked already
(R391). -/
def State.lockFor (p die : Nat) (old : Option (Nat × Nat)) (s : State) : Option (Nat × Nat) :=
  ((s.cands p).find? (fun c => old == some (c.uid, c.index) ||
    (c.desc.any (fun d => s.candDie p c d == die) && decide (2 ≤ s.timesPassed p c)))).map (fun c => (c.uid, c.index))

/-- The locked operation of partition p is still unissued. -/
def State.lockHolds (p : Nat) (l : Option (Nat × Nat)) (s : State) : Bool :=
  match l with
  | none => false
  | some (uid, i) =>
    s.adm.jobs.any (fun j => j.cmd.uid == uid && j.issuing && decide (j.base ≤ i) && !j.issued.contains i) ||
      (s.kvCopies p).any (fun y => y.cmd.uid == uid && y.op.isNone)

/-- Moves the count of a copy on at a commit instant, as of a one-operation job (R197). -/
def KvCopy.countPassed (y : KvCopy) : KvCopy :=
  { y with passed := if y.passedNow then y.passed + 1 else 0, passedNow := false }

/-- OPERATION_LOCK (R391): at a commit instant the oldest qualifying operation of each partition and die is locked; a
locked one gives way only to an older. -/
def State.lockOps (s : State) : State :=
  let s := s.updAdm (fun a => { a with jobs := a.jobs.map Job.countPassed })
  let s := (List.range 16).foldl (fun s p => s.updCopies p KvCopy.countPassed) s
  (List.range 16).foldl (fun s p =>
    let x := s.pwrp p
    let next (die : Nat) : Option (Nat × Nat) :=
      let old := if s.lockHolds p (x.lock die) then x.lock die else none
      (s.lockFor p die old) <|> old
    let w := next 0
    let e := next 1
    if w == x.lockW && e == x.lockE then s else s.updPwrp p (fun x => { x with lockW := w, lockE := e })) s

/-- A frame at whose slack start a partition had ready operations on a die, none of which fitted (R393). -/
def State.countIdle (s : State) : State :=
  (List.range 16).foldl (fun s p =>
    let idle (die : Nat) : Bool :=
      let rs := s.readyList p die
      !rs.isEmpty && rs.all (fun x => !s.fits p die x.1 x.2)
    if idle 0 || idle 1 then s.updPwrp p (fun x => { x with idle := satAdd x.idle 1 }) else s) s

/-! ### The stager (R394 to R396) -/

/-- A die's budget in any 1 µs: 50 A in units of 1/28 mA. -/
def slewBudget : Nat := 50000 * 28

/-- What a list of changes has used on a die in the 1 µs before a moment. -/
def usedSlew (die ns : Nat) (l : List (Nat × Nat × Nat)) : Nat :=
  ((l.filter (fun x => x.1 == die && decide (ns < x.2.1 + 1000))).map (fun x => x.2.2)).foldl (· + ·) 0

/-- Adds a change and forgets those of the die that no interval of 1 µs reaches any more. -/
def addSlew (die ns cur : Nat) (l : List (Nat × Nat × Nat)) : List (Nat × Nat × Nat) :=
  l.filter (fun x => x.1 != die || decide (ns < x.2.1 + 1000)) ++ [(die, ns, cur)]

/-- Whether two operations use one engine of one tiller. -/
def sharesEngine (a b : Op) : Bool :=
  a.desc.tiller == b.desc.tiller && a.desc.engines.any (fun e => b.desc.engines.contains e)

/-- The operations of a die that ask for a start, in issue order: their engines are free and no operation issued before
waits for one of them (R135). One whose bounds are still being read does not ask yet. -/
def askingStart (die : Nat) : List Op → List Op → List Op
  | _, [] => []
  | before, o :: t =>
    (if o.die == die && !o.started && !o.binding && before.all (fun b => !sharesEngine b o) then [o] else []) ++
      askingStart die (before ++ [o]) t

/-- Starts that wait are counted, each once (R395). -/
def State.countWaits (os : List Op) (s : State) : State :=
  os.foldl (fun s o => if o.waited then s
    else (s.updOp o.id (fun o => { o with waited := true })).updPwr (fun w => { w with startWaits := satAdd w.startWaits 1 })) s

/-- The fill of an engine of a tiller. -/
def Pwr.fillOf (tiller e : Nat) (w : Pwr) : Option Fill := w.fills.find? (fun f => f.tiller == tiller && f.engine == e)

/-- The energy of a fill over a number of core cycles, in 0.1 µJ, rounded up (R396). -/
def Fill.energy (cycles : Nat) (f : Fill) : Nat :=
  if f.full = 0 then 0 else (cycles * f.pj * f.current + f.full * 100000 - 1) / (f.full * 100000)

/-- Charges a fill that has ended to its partition (R385, R396). -/
def State.chargeFill (f : Fill) (cycles : Nat) (s : State) : State :=
  let m := f.energy cycles
  let s := s.updPwrp f.part (fun x => { x.addBal (tillerDie f.tiller) (-(m : Int)) with fill := satAdd x.fill m })
  s.updPwr (fun w => { w with winM := w.winM + m })

/-- A start on an engine: the fill there ends, and what it held beyond the start's need stays as fill that ramps down
(R395). How long the fill lasted is a free value (log entry 25). -/
def State.startEngine (o : Op) (e : Nat) (s : State) : State :=
  match s.pwr.fillOf o.desc.tiller e with
  | none => s
  | some f =>
    let n := s.takeFree
    let need := s.scaled (o.desc.currentMa e)
    let s := n.2.chargeFill f (Config.fillCycles n.1)
    s.updPwr (fun w => { w with
      fills := w.fills.flatMap (fun (g : Fill) => if g.tiller == f.tiller && g.engine == e then
        (if need < g.current then [{ g with current := g.current - need, hold := none }] else [])
        else [g]) })

/-- ENGINE_START (R395): the first start asked for on the die, in issue order, is granted when its current beyond the fill
it replaces fits the increase budget; else it waits, and every later start asked for on the die behind it. -/
def opEngineStart (die : Die) (ns : Nat) (s : State) : State :=
  match askingStart die.num [] s.seq.ops with
  | [] => s
  | o :: behind =>
    let excess (e : Nat) : Nat :=
      s.scaled (o.desc.currentMa e) - ((s.pwr.fillOf o.desc.tiller e).map (fun f => f.current)).getD 0
    let need := (o.desc.engines.map excess).foldl (· + ·) 0
    if slewBudget < usedSlew die.num ns s.pwr.grants + need then
      s.countWaits (o :: behind)
    else
      let s := if o.waited then s.countWaits behind else s
      let s := s.updPwr (fun w => { w with grants := if need = 0 then w.grants else addSlew die.num ns need w.grants })
      let s := o.desc.engines.foldl (fun s e => s.startEngine o e) s
      s.updOp o.id (fun o => { o with started := true })

/-- FILL_HOLD_EXPIRY (R396): the second commit instant after a hold began has passed; the fill ramps. -/
def opFillHoldExpiry (tiller : Fin 128) (s : State) : State :=
  s.updPwr (fun w => { w with
    fills := w.fills.map (fun (f : Fill) => if f.tiller == tiller.val && f.hold == some 0 then { f with hold := none } else f) })

/-- FILL_RELEASE (R394, R396): the oldest ramping fill of the die is released whole when the decrease budget has room, and
its energy over the core cycles it lasted is charged. -/
def opFillRelease (die : Die) (ns : Nat) (cycles : Nat) (s : State) : State :=
  match s.pwr.fills.find? (fun f => tillerDie f.tiller == die.num && f.hold.isNone) with
  | none => s
  | some f =>
    if slewBudget < usedSlew die.num ns s.pwr.releases + f.current then s
    else
      (s.updPwr (fun w => { w with
        fills := w.fills.filter (fun g => !(g.tiller == f.tiller && g.engine == f.engine))
        releases := addSlew die.num ns f.current w.releases })).chargeFill f cycles

/-- Holds one commit instant nearer their end. -/
def Pwr.countHolds (w : Pwr) : Pwr :=
  { w with fills := w.fills.map (fun (f : Fill) => { f with hold := f.hold.map (fun n => n - 1) }) }

/-! ### Sensors (R422, R423) -/

/-- A sensor by its identifier. -/
def State.sensor (id : Nat) (s : State) : Sensor := s.mgt.sensors.get {} id

/-- Changes a sensor. -/
def State.updSensor (id : Nat) (f : Sensor → Sensor) (s : State) : State :=
  s.updMgt (fun g => { g with sensors := g.sensors.upd {} id f })

/-- Identifiers whose values are signed: temperatures in 1/16 °C (Table 15-7). -/
def sensorSigned (id : Nat) : Bool := decide (id < 0x38) || (decide (0x300 ≤ id) && decide (id < 0x380) && id % 4 == 3)

/-- Whether a reading lies below another. -/
def readingBelow (id : Nat) (a b : BitVec 16) : Bool := if sensorSigned id then decide (a.toInt < b.toInt) else decide (a.toNat < b.toNat)

/-- A reading arrives: latest value, minimum and maximum (R423). -/
def Sensor.take (id : Nat) (v : BitVec 16) (x : Sensor) : Sensor :=
  { value := v, valid := true, stale := false, failed := false, cleared := false, missed := 0
    min := if x.cleared || readingBelow id v x.min then v else x.min
    max := if x.cleared || readingBelow id x.max v then v else x.max }

/-- A reading that did not arrive: the second in a row makes the sensor stale (R423). -/
def Sensor.miss (x : Sensor) : Sensor := { x with missed := x.missed + 1, stale := x.stale || decide (2 ≤ x.missed + 1) }

/-- A sensor's self-check fails: logged when it begins (R398, R423). -/
def State.failSensor (id : Nat) (s : State) : State :=
  let new := !(s.sensor id).failed
  let s := s.updSensor id (fun x => { x with failed := true })
  if new then s.log 0x0A02 [(0, id)] else s

/-- A reading of a sensor, or its failure. -/
def State.readSensor (id : Nat) (v : Option (BitVec 16)) (s : State) : State :=
  match v with
  | some v => s.updSensor id (fun x => x.take id v)
  | none => (s.updSensor id Sensor.miss).failSensor id

/-- SENSOR_SAMPLE (R422): the voltage monitors, droop detectors and stack reports. -/
def opSensorSample (sensor : BitVec 16) (value : BitVec 16) (good : Bool) (s : State) : State :=
  let id := sensor.toNat
  let known := (decide (0x30 ≤ id) && decide (id < 0x38)) || (decide (0x100 ≤ id) && decide (id < 0x118)) ||
    (decide (0x200 ≤ id) && decide (id < 0x210))
  if !known then s else s.readSensor id (if good then some value else none)

/-! ### The thermal governor (R398 to R401) -/

/-- Whole °C of a reading in 1/16 °C, rounded down; below 0 °C it counts as 0. -/
def wholeC (v : Int) : Nat := (v / 16).toNat

/-- The hotter of two, the lower source on a tie. -/
def hotterOf (a : Option (Nat × Nat)) (b : Nat × Nat) : Nat × Nat :=
  match a with
  | none => b
  | some x => if x.1 < b.1 || (x.1 == b.1 && decide (b.2 < x.2)) then b else x

/-- THERMAL_TRIP (R401): every clock but AON stops, and the always-on block records and asserts the trip. -/
def State.trip (temp sensor : Nat) (s : State) : State :=
  let s := s.updPor (fun p => { p with
    tripAsserted := true, cause := 3, tripTemp := BitVec.ofNat 8 temp, tripSensor := BitVec.ofNat 6 sensor })
  s.log 0x0A01 [(0, s.pwr.step.toNat)]

/-- THERMAL_SAMPLE (R398, R401, R422): one sample of each on-die sensor in 1/16 °C, none where its self-check fails; a
sample of 115 °C or more trips. -/
def opThermalSample (temps : List (Option Int)) (s : State) : State :=
  let items := ((List.range 48).zip temps)
  let s := items.foldl (fun s x => s.readSensor x.1 (x.2.map (fun t => BitVec.ofInt 16 t))) s
  let best := items.foldl (fun b x => match x.2 with
    | some t => some (hotterOf b (wholeC t, x.1))
    | none => b) s.pwr.hotSample
  let s := s.updPwr (fun w => { w with hotSample := best })
  match items.find? (fun x => x.2.any (fun t => decide (115 * 16 ≤ t))) with
  | none => s
  | some x => s.trip (wholeC (x.2.getD 0)) x.1

/-- θ for a HOTTEST (R399). -/
def thetaFor (hot : Nat) : Nat := if hot < 95 then 16 else if hot ≤ 104 then 16 - (hot - 94) else 6

/-- HOTTEST_EVALUATION (R398, R399): HOTTEST and SOURCE, and θ for the next commit instant; fewer than 40 valid on-die
sensors hold it at 8/16. With nothing sampled HOTTEST keeps its value. -/
def State.evalHottest (s : State) : State :=
  let reports := (List.range 8).filterMap (fun i =>
    let x := s.sensor (0x30 + i)
    if x.valid && !x.failed then some (wholeC (x.value.toInt + 160), 48 + i) else none)
  let best := reports.foldl (fun b x => some (hotterOf b x)) s.pwr.hotSample
  let valid := ((List.range 48).filter (fun n => !(s.sensor n).failed)).length
  s.updPwr (fun w =>
    let w := match best with
      | some x => { w with hottest := BitVec.ofNat 8 (min 255 x.1), source := BitVec.ofNat 6 x.2 }
      | none => w
    { w with
      hotSample := none, emergency := decide (105 ≤ w.hottest.toNat)
      nextTheta := if valid < 40 then 8 else BitVec.ofNat 5 (thetaFor w.hottest.toNat) })

/-- Currents of fills at another clock level (R388, R400). -/
def Fill.rescale (old new : Nat) (f : Fill) : Fill :=
  { f with current := f.current / (4 - old) * (4 - new), full := f.full / (4 - old) * (4 - new) }

/-- CLOCK_STEP (R400). -/
def State.stepClock (level : Nat) (s : State) : State :=
  let old := s.pwr.step.toNat
  let s := s.updPwr (fun w => { w with
    step := BitVec.ofNat 2 level, clockSteps := satAdd w.clockSteps 1, coolFor := 0
    sinceDown := if old < level then some 0 else w.sinceDown, fills := w.fills.map (Fill.rescale old level) })
  (s.fireVec 0 3).log 0x0A01 [(0, level)]

/-- What a commit instant does to θ and to the clocks (R398 to R400); `ns`: the period of the frame that ended. -/
def State.thermalCommit (ns : Nat) (s : State) : State :=
  let w := s.pwr
  let s := s.updPwr (fun w => { w with
    theta := w.nextTheta, sinceDown := w.sinceDown.map (· + ns)
    coolFor := if w.hottest.toNat ≤ 100 then w.coolFor + ns else 0 })
  let s := if w.theta = w.nextTheta then s
    else (s.log 0x0A00 [(0, w.nextTheta.toNat), (5, w.hottest.toNat)]).fireVec 0 3
  let lvl := s.pwr.step.toNat
  let ready := match s.pwr.sinceDown with
    | some n => decide (1000000 ≤ n)
    | none => true
  if s.pwr.emergency && ready && decide (lvl < 3) then s.stepClock (lvl + 1)
  else if 0 < lvl && decide (16000000 ≤ s.pwr.coolFor) then s.stepClock (lvl - 1)
  else s

/-! ### The base charge (R386) -/

/-- BASE_CHARGE_UPDATE (R386): from the regulators' energy over a window of 64 frames, in 0.1 µJ; a failed reading leaves
B as it is. -/
def opBaseChargeUpdate (eIn : Nat) (failed : Bool) (s : State) : State :=
  if s.pwr.winFrames < 64 then s
  else
    let diff : Int := (eIn : Int) - s.pwr.winM
    let b := min ((diff + 63) / 64).toNat (s.capEnergy / 2)
    let bad := failed || s.pwr.winFailed
    s.updPwr (fun w => { w with
      winFrames := 0, winM := 0, winFailed := false, nextBase := if bad then w.nextBase else some (BitVec.ofNat 32 b) })

/-- The base charge at a commit instant: a new B applies, and a change of period scales it (R386). -/
def Pwr.baseCommit (oldPeriod newPeriod : BitVec 3) (w : Pwr) : Pwr :=
  let b := (w.nextBase.getD w.base).toNat
  { w with
    nextBase := none, winFrames := w.winFrames + 1
    base := BitVec.ofNat 32 (b * periodUs newPeriod / periodUs oldPeriod) }

/-! ### Registers (R405) -/

/-- `PWR.CAP`. -/
def Pwr.capWord (w : Pwr) : W64 := word [(0, w.cap.toNat), (8, w.pending.toNat), (15, b2n w.pendingValid), (16, w.effective.toNat)]
/-- `PWR.THERM`. -/
def Pwr.thermWord (w : Pwr) : W64 :=
  word [(0, w.hottest.toNat), (8, w.source.toNat), (14, w.theta.toNat), (19, w.step.toNat), (21, b2n w.emergency)]
/-- `PWR.BASE`. -/
def Pwr.baseWord (w : Pwr) : W64 := word [(0, w.base.toNat), (32, w.available.toNat)]
/-- `PWR.SLEW`. -/
def Pwr.slewWord (w : Pwr) : W64 := word [(0, w.startWaits.toNat), (32, w.clockSteps.toNat)]
/-- `PWR.PCREDIT`. -/
def PwrPart.creditWord (x : PwrPart) : W64 := word [(0, x.loaded.toNat), (32, (ofInt 32 (x.balW + x.balE)).toNat)]
/-- `PWR.PSTAT`. -/
def PwrPart.statWord (x : PwrPart) : W64 := word [(0, x.passed.toNat), (32, x.idle.toNat), (48, x.oversize.toNat)]

/-! ### Caps (R402) -/

/-- A cap becomes pending and supersedes the one pending before. -/
def State.pendCap (cap : BitVec 7) (frame : FrameNo) (src : Option Nat) (s : State) : State :=
  s.updPwr (fun w => { w with
    pending := cap, pendingValid := true, effective := frame, capFrom := src })

/-- An acknowledgement of a sheaf cap at the master: when the last is there, the command ends (R402, R406). -/
def State.takeCapAck (cap : BitVec 7) (frame : FrameNo) (pkg : Nat) (s : State) : State :=
  match s.pwr.sheaf.find? (fun x => x.cap == cap && x.waiting.contains pkg && !later x.effective frame) with
  | none => s
  | some x =>
    let rest := x.waiting.filter (fun k => k != pkg)
    if rest.isEmpty then
      (s.updPwr (fun w => { w with sheaf := w.sheaf.erase x })).finishAll x.cmd.toList .done .none [word [(0, x.effective.toNat)], 0]
    else s.updPwr (fun w => { w with sheaf := w.sheaf.map (fun y => if y = x then { y with waiting := rest } else y) })

/-- CAP_APPLY (R402): a pending cap takes effect at its frame; waiting commands of package scope end DONE, and a CAP_SET
is acknowledged. -/
def State.capCommit (s : State) : State :=
  let w := s.pwr
  if !w.pendingValid || later w.effective s.frm.count then s
  else
    let s := s.updPwr (fun w => { w with
      cap := w.pending, pending := 0, pendingValid := false, effective := 0, capCmds := [], capFrom := none })
    let s := s.finishAll w.capCmds .done .none [word [(0, s.frm.count.toNat)]]
    match w.capFrom with
    | none => s
    | some k =>
      if k = s.self then s.takeCapAck w.pending s.frm.count s.self
      else s.send k (.capAck w.pending s.frm.count s.self)

/-- The package may set a sheaf cap: it is the frame master. -/
def State.isMaster (s : State) : Bool := s.frm.role = .master || s.frm.role = .standalone

/-- A sheaf cap (R402): CAP_SET to every reachable package for 8 frames on, and pending here. -/
def State.sheafCap (cap : BitVec 7) (c : Option CmdId) (s : State) : State :=
  let f := s.frm.count + 8
  let others := (List.range 128).filter (fun k => k != s.self && decide (s.distTo k < 15))
  let s := s.updPwr (fun w => { w with sheaf := w.sheaf ++ [{ cmd := c, cap := cap, effective := f, waiting := s.self :: others }] })
  (s.sendAll others (.capSet cap f s.self)).pendCap cap f (some s.self)

/-- PWR.SET_CAP (R402, R406). -/
def pwrSetCapBody (c : CmdId) (_ : Nat) (e : Entry) (s : State) : State × Reply :=
  let cap : BitVec 7 := BitVec.ofNat 7 (fld (e.arg 0) 0 7)
  if bit (e.arg 0) 8 then
    if !s.isMaster then (s, .bad .notMaster)
    else
      let s := s.sheafCap cap (some c)
      (if c.admitAck then s.stage c .admitted .none [] false else s, .later)
  else
    ((s.pendCap cap (s.frm.count + 2) none).updPwr (fun w => { w with capCmds := w.capCmds ++ [c] }), .later)

/-- PWR.SET_CAP: 35 to 100. -/
def specPwrSetCap : Spec where
  opcode := opcodeOf 0x0F 1
  permitted := pfOnly
  allowed := fun _ _ => [0x17F]
  inRange := fun _ a _ => decide (35 ≤ fld (a.getD 0 0) 0 7) && decide (fld (a.getD 0 0) 0 7 ≤ 100)
  part := noPart
  cls := .own
  body := pwrSetCapBody

/-- What PWR.QUERY does. -/
def pwrQueryBody (c : CmdId) (p : Nat) (e : Entry) (s : State) : State × Reply :=
  let named := vfOnly c.mbx || bit (e.arg 0) 4
  (s, .done ([s.pwr.capWord, s.pwr.thermWord, s.pwr.baseWord] ++
    (if named then [(s.pwrp p).creditWord, (s.pwrp p).statWord] else [])))

/-- PWR.QUERY: a VF names its own partition, PF0 one with PART set. -/
def specPwrQuery : Spec where
  opcode := opcodeOf 0x0F 2
  permitted := fun m => decide (m ≤ 17)
  allowed := fun m _ => if vfOnly m then [] else [0x1F]
  part := fun m a => if vfOnly m then some (m - 1) else if bit (a.getD 0 0) 4 then some (fld (a.getD 0 0) 0 4) else none
  cls := .q
  body := pwrQueryBody

/-- PWR_SET_CAP_PACKAGE (R402). -/
def execPwrSetCapPackage (m : Fin 18) (e : Entry) (s : State) : Host.Outcome State Fault Refusal :=
  .next (serve specPwrSetCap m.val (e.withMode 8 1 0) s)

/-- PWR_SET_CAP_SHEAF (R402). -/
def execPwrSetCapSheaf (m : Fin 18) (e : Entry) (s : State) : Host.Outcome State Fault Refusal :=
  .next (serve specPwrSetCap m.val (e.withMode 8 1 1) s)

/-- CAP_SET_RECEIVE (R402): pending for its frame, or for the next commit instant when late; the acknowledgement follows
when it is applied. -/
def opCapSetReceive (cap : BitVec 7) (frame : FrameNo) (pkg : Fin 128) (s : State) : State :=
  s.pendCap cap frame (some pkg.val)

/-- CAP_ACK_RECEIVE (R402). -/
def opCapAckReceive (cap : BitVec 7) (frame : FrameNo) (pkg : Fin 128) (s : State) : State := s.takeCapAck cap frame pkg.val

/-- SHEAF_CAP_TIMEOUT (R406): 64 frames after the effective frame the command ends with the packages still missing. -/
def opSheafCapTimeout (s : State) : State :=
  let due := s.pwr.sheaf.filter (fun x => !later x.effective s.frm.count && decide (64 ≤ framesSince s.frm.count x.effective))
  due.foldl (fun s x =>
    (s.updPwr (fun w => { w with sheaf := w.sheaf.erase x })).finishAll x.cmd.toList .done .none
      [word [(0, x.effective.toNat)], word [(0, x.waiting.length % 256)]]) s

/-! ### Meanings of the rows -/

/-- PWR_QUERY (R406). -/
def execPwrQuery (m : Fin 18) (e : Entry) (s : State) : Host.Outcome State Fault Refusal :=
  .next (serve specPwrQuery m.val e s)

/-- ENGINE_START (R395). -/
def execEngineStart (die : Die) (ns : Nat) (s : State) : Host.Outcome State Fault Refusal :=
  .next (s.whenClocked (opEngineStart die ns s))

/-- FILL_HOLD_EXPIRY (R396). -/
def execFillHoldExpiry (tiller : Fin 128) (s : State) : Host.Outcome State Fault Refusal :=
  .next (s.whenClocked (opFillHoldExpiry tiller s))

/-- FILL_RELEASE (R396). -/
def execFillRelease (die : Die) (ns : Nat) (cycles : Nat) (s : State) : Host.Outcome State Fault Refusal :=
  .next (s.whenClocked (opFillRelease die ns cycles s))

/-- THERMAL_SAMPLE (R398). -/
def execThermalSample (temps : List (Option Int)) (s : State) : Host.Outcome State Fault Refusal :=
  .next (s.whenClocked (opThermalSample temps s))

/-- BASE_CHARGE_UPDATE (R386). -/
def execBaseChargeUpdate (eIn : Nat) (failed : Bool) (s : State) : Host.Outcome State Fault Refusal :=
  .next (s.whenClocked (opBaseChargeUpdate eIn failed s))

/-- CAP_SET_RECEIVE (R402). -/
def execCapSetReceive (cap : BitVec 7) (frame : FrameNo) (pkg : Fin 128) (s : State) :
    Host.Outcome State Fault Refusal :=
  .next (s.whenClocked (s.toChoesk pkg.val (.capSet cap frame pkg.val)
    (opCapSetReceive cap frame pkg s)))

/-- CAP_ACK_RECEIVE (R402). -/
def execCapAckReceive (cap : BitVec 7) (frame : FrameNo) (pkg : Fin 128) (s : State) :
    Host.Outcome State Fault Refusal :=
  .next (s.whenClocked (s.toChoesk pkg.val (.capAck cap frame pkg.val)
    (opCapAckReceive cap frame pkg s)))

/-- SHEAF_CAP_TIMEOUT (R406). -/
def execSheafCapTimeout (s : State) : Host.Outcome State Fault Refusal :=
  .next (s.whenClocked (opSheafCapTimeout s))

/-- SENSOR_SAMPLE (R422). -/
def execSensorSample (sensor : BitVec 16) (value : BitVec 16) (good : Bool) (s : State) : Host.Outcome State Fault Refusal :=
  .next (s.whenClocked (opSensorSample sensor value good s))

end Sys2Proof.Machine
end

