-- ==== Sys2Proof/Machine/Boot.lean ====
section
/-! DEFINITION. Power sequencing (R441, R442, R472, R477), resets (R444 to R448), bring-up (R449, R450, R453, R457, R459),
boot (R408, R409), HBM steps (R454, R455), the test port (R460, R461), analogue test buses and the ATB and TEST commands
(R462 to R465). -/

namespace Sys2Proof.Machine

open Sys2Proof

/-! ### What a reset starts from -/

/-- The SEQ after the newest record that flash holds. -/
def Flash.nextSeq (f : Flash) : BitVec 32 :=
  match f.log.getLast? with
  | some r => r.seq + 1
  | none => 0

/-- A state with every domain cleared, that keeps what lies outside the package or in fuses and flash, and the model's own
fields: the outputs, the counters and the waiting commands. -/
def State.cleared (s : State) : State :=
  { State.reset with
    fuse := s.fuse, flash := s.flash, host := s.host, out := s.out, free := s.free, pending := s.pending
    nextUid := s.nextUid, mgt := { nextLog := s.flash.nextSeq }, pcie := { perstLow := s.pcie.perstLow, refclk := s.pcie.refclk } }

/-- The grade's default cap in 10 W (R403, Table 0-1). -/
def Grade.cap (g : Grade) : BitVec 7 := if g = .vla114 then 100 else 90

/-- The base charge after a cold reset (R386). -/
def Grade.base (g : Grade) : BitVec 32 := if g = .vla114 then 80000 else 72000

/-- The LTSSM starts once the PCIe domain runs, PERST_N is high and the reference is there. -/
def State.startPcie (s : State) : State :=
  if s.pcie.perstLow || !s.pcie.refclk then s else { s with pcie := { s.pcie with link := .training } }

/-! ### Power sequencing (R442) -/

/-- Pages whose rows the next cold reset repairs: a corrected-error count of 4,096 since the last one (R456). -/
def Por.wornPages (p : Por) : List Nat :=
  p.repairDue ++ (List.range 384).filter (fun n => !p.repairDue.contains n && decide (4096 ≤ (p.corrected.get 0 n).toNat))

/-- The internal cold reset with the rails off: every domain is cleared, the always-on state too but for `ATB.RESET` and
what the sequencer itself remembers (R444). -/
def State.coldAssert (s : State) : State :=
  { s.cleared with
    por := {
      repairDue := s.por.wornPages
      vddAon := s.por.vddAon, sysRst := s.por.sysRst, warmRst := s.por.warmRst, bring := .off
      retryWait := s.por.retryWait, lockedOff := s.por.lockedOff, cause := s.por.cause, faultGroup := s.por.faultGroup
      tripTemp := s.por.tripTemp, tripSensor := s.por.tripSensor, faults := s.por.faults } }

/-- Asserts PWR_EN_G1 while SYS_RST_N is high (step 2 of R442). -/
def State.startSequence (s : State) : State :=
  if s.por.sysRst || s.por.lockedOff || !s.por.vddAon then s
  else s.updPor (fun p => { p with bring := .sequencing, enables := 1, pgood := 0, retryWait := false })

/-- A sequence fault (steps 3 to 5 of R442). -/
def State.seqFault (group : Nat) (s : State) : State :=
  let n := min 3 (s.por.faults.toNat + 1)
  let s := s.updPor (fun p => { p with
    cause := 2, faultGroup := BitVec.ofNat 3 group, faults := BitVec.ofNat 2 n, lockedOff := decide (3 ≤ n)
    retryWait := decide (n < 3) })
  s.coldAssert

/-- The group whose PGOOD the sequence waits for: the number of enables asserted. -/
def Por.waitsFor (p : Por) : Nat := popCount p.enables

/-- POWER_ON_RESET (R442): edge A. Power-on reset clears the always-on block too, `ATB.RESET` with it. -/
def opPowerOnReset (s : State) : State :=
  State.startSequence { s.cleared with por := { sysRst := s.por.sysRst, warmRst := s.por.warmRst } }

/-- PGOOD_RISE (R442): of the group the sequence waits for. -/
def opPgoodRise (s : State) : State :=
  if s.por.bring != .sequencing then s
  else
    let n := s.por.waitsFor
    s.updPor (fun p => { p with
      pgood := p.pgood ||| BitVec.ofNat 6 (2 ^ (n - 1))
      enables := if n < 6 then p.enables ||| BitVec.ofNat 6 (2 ^ n) else p.enables
      faults := if n < 6 then p.faults else 0
      bring := if n < 6 then p.bring else .coldReset })

/-- PGOOD_TIMEOUT (R442): 20 ms without the awaited PGOOD. -/
def opPgoodTimeout (s : State) : State := if s.por.bring = .sequencing then s.seqFault s.por.waitsFor else s

/-- PGOOD_FALL (R442, R472). -/
def opPgoodFall (g : Fin 6) (s : State) : State :=
  if bit s.por.enables g.val && bit s.por.pgood g.val then s.seqFault (g.val + 1) else s

/-- SEQUENCE_RETRY (R442): 1 s after a fault. -/
def opSequenceRetry (s : State) : State :=
  if s.por.retryWait then (s.updPor (fun p => { p with retryWait := false })).startSequence else s

/-- SYS_RST_ASSERT (R444, R480): a cold reset; one that clears a thermal trip leaves the trip as the cause (log entry 29).
-/
def opSysRstAssert (s : State) : State :=
  (s.updPor (fun p => { p with sysRst := true, cause := if p.tripAsserted then 3 else 1, retryWait := false })).coldAssert

/-- SYS_RST_RELEASE (R442): sequencing starts; after three faults the count starts anew. -/
def opSysRstRelease (s : State) : State :=
  if !s.por.sysRst then s
  else State.startSequence (s.updPor (fun p => { p with
    sysRst := false, lockedOff := false, faults := if p.lockedOff then 0 else p.faults }))

/-- FABRIC_REFCLK_LOSS (R477). -/
def opFabricRefclkLoss (s : State) : State := if s.por.enables = 0 then s else s.seqFault 7

/-- PCIE_REFCLK_LOSS (R477): the link goes down, and trains again once the reference has returned. Only the PCIE domain
stops: what its crossings hold goes out when its clock resumes (R34). -/
def opPcieRefclkLoss (lost : Bool) (s : State) : State :=
  if lost then { s with pcie := { s.pcie with refclk := false, link := .down } }
  else
    let s := if s.pcie.refclk then s else s.releasePcie
    { s with pcie := { s.pcie with link := if s.pcie.perstLow then s.pcie.link else .detect } }

/-! ### Warm reset (R444, R445) -/

/-- A port after a warm reset: retirements stay, and bring-up starts again. -/
def Port.warm (p : Port) : Port :=
  if p.health = .retired then { health := .retired, width := .none, retiredLanes := 0xFF }
  else { width := p.width, retiredLanes := p.retiredLanes }

/-- Page ownership after a warm reset: QUARANTINED pages stay, bad ones become so, every other is FREE. -/
def State.warmOwn (s : State) : Tab Own :=
  (List.range 384).filterMap (fun n =>
    let o := s.ownEntry n
    if o.state = .quarantined then some (n, o)
    else if s.pageBad n then some (n, { o with state := .quarantined })
    else none)

/-- The device after SCAN_MODE was left by loading another instruction: its state is a free value until the next cold reset
(R461; log entry 130). The pins, the fuses, the flash, the host's memory and the always-on record of resets are no part of
it; its memories are in canonical form whatever they hold. -/
def State.afterScan (code : BitVec 8) (s : State) : State :=
  let n := s.takeFree
  let t := Config.afterScan n.1
  { t with
    fuse := s.fuse, flash := s.flash, host := s.host, out := s.out, free := n.2.free, pending := s.pending
    nextUid := s.nextUid
    dram := if t.dram.wf then t.dram else [], spad := if t.spad.wf then t.spad else []
    pcie := { t.pcie with perstLow := s.pcie.perstLow, refclk := s.pcie.refclk }
    por := { t.por with
      vddAon := s.por.vddAon, sysRst := s.por.sysRst, warmRst := s.por.warmRst, pgood := s.por.pgood
      retryWait := s.por.retryWait, lockedOff := s.por.lockedOff, cause := s.por.cause, faultGroup := s.por.faultGroup
      tripTemp := s.por.tripTemp, tripSensor := s.por.tripSensor, faults := s.por.faults, testEn := s.por.testEn
      jtag := code, scan := false, lost := true } }

/-- A cold reset is under way: it ends when boot is complete or recovery is entered (Table 16-2; DEDUCED, log entry 134). -/
def State.coldUnderWay (s : State) : Bool := !s.por.warmActive && !s.mgt.booted && !s.mgt.recovery

/-- A warm reset: every domain but AON is cleared, but for what R445 keeps. A cold reset under way is the higher kind and
goes on in its place (R448); a state that SCAN_MODE left undefined stays so (R461). -/
def State.warmReset (cause : BitVec 4) (s : State) : State :=
  if s.por.lost then s.afterScan s.por.jtag
  else if (s.por.bring != .selfTest && s.por.bring != .running) || s.coldUnderWay then s
  else
    let z := s.cleared
    let bad := (List.range 384).filter (fun n => (s.ownEntry n).state != .quarantined && s.pageBad n)
    let t : State := { z with
      por := { s.por with
        bring := .selfTest, selfTested := false, hbmTested := false, warmActive := true, cause := cause
        nodes := [], busLane := [], land := 0, atbJtag := false }
      fab := { z.fab with x := s.fab.x, y := s.fab.y, z := s.fab.z, sheaf := s.fab.sheaf }
      pwr := { z.pwr with cap := s.pwr.cap, base := s.fuse.grade.base }
      ten := { z.ten with badRows := s.ten.badRows }
      xlt := { z.xlt with own := s.warmOwn }
      red := { z.red with
        engines := s.red.engines.map (fun (e : Nat × Engine) =>
          (e.1, { retired := e.2.retired, seen := e.2.seen, host := e.2.host, hosting := e.2.hosting })) }
      pln := { z.pln with standby := bit s.por.plnFail 0 }
      plk := { z.plk with ports := s.plk.ports.map (fun (p : Nat × Port) => (p.1, p.2.warm)) }
      mgt := { z.mgt with
        dieW := { held := s.mgt.dieW.held }, dieE := { held := s.mgt.dieE.held }, sram := s.mgt.sram.take 64
        nextLog := s.mgt.nextLog, latchedPref := s.mgt.latchedPref, latchedSheaf := s.mgt.latchedSheaf
        latchedSmbt := s.mgt.latchedSmbt, latchedUart := s.mgt.latchedUart, latchedSegments := s.mgt.latchedSegments } }
    bad.foldl (fun s n => s.log 0x0302 [(0, n)]) t.startPcie

/-- WARM_RST_ASSERT (R444, R480). -/
def opWarmRstAssert (s : State) : State := s.warmReset 5

/-- WARM_RESET (R444): by the always-on block, on a watchdog expiry without a usable standby. -/
def opWarmReset (s : State) : State := s.warmReset 4

/-! ### Bring-up (R449 to R451, R453, R457 to R459) -/

/-- COLD_RESET_RELEASE (R449): edge C samples the straps and starts self-test, HBM training and the ports; cap and base
charge take the grade's values (R386, R403). -/
def opColdResetRelease (s : State) : State :=
  if s.por.bring != .coldReset || s.por.sysRst then s
  else
    let s := s.updPor (fun p => { p with bring := .selfTest, testEn := s.fuse.landTestEn, warmActive := false })
    let s := s.updFab (fun g => { g with x := s.fuse.landX, y := s.fuse.landY, z := s.fuse.landZ })
    (s.updPwr (fun w => { w with cap := s.fuse.grade.cap, base := s.fuse.grade.base })).startPcie

/-- Reduction engine e by self-test: RETIRED on an unrepaired failure; one that an earlier self-test retired and this one
passes serves again (R458). -/
def Engine.tested (wasBad bad : Bool) (e : Engine) : Engine := { e with retired := bad || (e.retired && !wasBad) }

/-- Port by self-test, in the same way. -/
def Port.tested (wasBad bad : Bool) (p : Port) : Port :=
  if bad then { health := .retired, width := .none, retiredLanes := 0xFF }
  else if wasBad then {} else p

/-- What on-die self-test does (R457, R458): what failed beyond repair is not used; the scratchpads hold zeros (log entry
26). -/
def State.selfTest (rows : BitVec 16) (engines : BitVec 17) (ports : BitVec 16) (planners complexes : BitVec 2) (s : State) :
    State :=
    let p := s.por
    let s := { s with ten := { s.ten with badRows := rows }, spad := [] }
    let s := s.updXlt (fun x => { x with ecc := x.ecc.filter (fun e => !e.1) })
    let s := s.updRed (fun r => { r with
      engines := r.engines.mapRow {} 17 (fun i e => e.tested (bit p.engFail i) (bit engines i)) })
    let s := (List.range 16).foldl (fun s i =>
      if bit p.portFail i || bit ports i then s.updPort i (fun q => q.tested (bit p.portFail i) (bit ports i)) else s) s
    let s := s.updPln (fun n => { n with standby := bit planners 0 })
    let s := s.updMgt (fun g => { g with
      dieW := { g.dieW with held := g.dieW.held || bit complexes 0, running := g.dieW.running && !bit complexes 0 }
      dieE := { g.dieE with held := g.dieE.held || bit complexes 1, running := g.dieE.running && !bit complexes 1 } })
    s.updPor (fun p => { p with engFail := engines, portFail := ports, plnFail := planners })

/-- SELF_TEST_COMPLETE (R457, R458). -/
def opSelfTestComplete (rows : BitVec 16) (engines : BitVec 17) (ports : BitVec 16) (planners complexes : BitVec 2) (s : State) :
    State :=
  if s.por.bring != .selfTest || s.por.selfTested then s
  else (s.selfTest rows engines ports planners complexes).updPor (fun p => { p with selfTested := true })

/-- HBM_TRAINING_COMPLETE (R453): a stack that fails is not used. -/
def opHbmTrainingComplete (failed : BitVec 8) (s : State) : State :=
  if s.por.bring != .selfTest then s
  else s.updPor (fun p => { p with
    hbm := p.hbm.mapRow {} 8 (fun i h => { h with trained := !bit failed i, failed := bit failed i }) })

/-- HBM_TEST_COMPLETE (R449, R450, R459): pages that fail beyond repair and those of stacks that failed training are
QUARANTINED, every other page is FREE and zero; a warm reset keeps QUARANTINED pages. At a cold reset the rows of the pages
that came to 4,096 corrected errors are repaired where spare rows remain, which the spec does not count (R456). -/
def opHbmTestComplete (bad : List Nat) (s : State) : State :=
  if s.por.bring != .selfTest || s.por.hbmTested then s
  else
    let gone := (List.range 384).filter (fun n =>
      (s.ownEntry n).state != .quarantined && (bad.contains n || (s.por.hbm.get {} (n % 8)).failed))
    let s := { s with dram := [] }
    let s := s.updXlt (fun x => { x with
      own := gone.foldl (fun t n => t.upd {} n (fun o => { o with state := .quarantined })) x.own, ecc := [] })
    let s := gone.foldl (fun s n => s.log 0x0302 [(0, n)]) s
    let n := s.takeFree
    let cold := !s.por.warmActive
    n.2.updPor (fun p => { p with
      hbmTested := true, repairDue := if cold then [] else p.repairDue
      repaired := if cold then p.repairDue.filter (fun k => Config.spareRow n.1 k) else p.repaired })

/-- MANAGEMENT_RESET_RELEASE (R450): edge M, after the tests. -/
def opManagementResetRelease (s : State) : State :=
  if s.por.bring = .selfTest && s.por.selfTested && s.por.hbmTested then
    s.updPor (fun p => { p with bring := .running })
  else s

/-! ### Flash and boot (R408 to R413) -/

/-- The bank a flash names as active: of the copies with a valid CRC the one with the higher SEQUENCE; bank A without one
(log entry 27). -/
def Flash.active (f : Flash) : Bool :=
  if f.ok0 && (!f.ok1 || decide (f.seq1.toNat < f.seq0.toNat)) then f.bank0
  else if f.ok1 then f.bank1
  else false

/-- The image of a bank. -/
def Flash.bank (b : Bool) (f : Flash) : Option FwImage := if b then f.bankB else f.bankA

/-- Replaces the image of a bank. -/
def Flash.setBank (b : Bool) (i : Option FwImage) (f : Flash) : Flash := if b then { f with bankB := i } else { f with bankA := i }

/-- Writes a boot record: the copy with the lower SEQUENCE, or the one whose CRC is bad, takes the next number (R410). -/
def Flash.writeRecord (b : Bool) (f : Flash) : Flash :=
  let s0 := if f.ok0 then f.seq0.toNat else 0
  let s1 := if f.ok1 then f.seq1.toNat else 0
  let next : BitVec 32 := BitVec.ofNat 32 (max s0 s1 + 1)
  if !f.ok0 || (f.ok1 && decide (s0 < s1)) then { f with seq0 := next, bank0 := b, ok0 := true }
  else { f with seq1 := next, bank1 := b, ok1 := true }

/-- The largest image: 24 MiB (R411). -/
def imageLimit : Nat := 24 * 2 ^ 20

/-- The header of an image as one number of 4,096 bits, its reserved bits 0 (Table 15-3). -/
def FwImage.header (i : FwImage) : Nat :=
  packed [(0, i.magic.toNat), (32, i.headerLen.toNat), (48, i.level.toNat), (56, i.keySlot.toNat), (60, i.revoke.toNat),
    (64, i.major.toNat), (72, i.minor.toNat), (80, i.build.toNat), (96, i.svn.toNat), (128, i.bodyLen.toNat), (192, i.digest),
    (576, i.publicKey), (3328, i.sigR), (3712, i.sigS)]

/-- The image that bytes written to an erased bank hold; bytes past them read all ones. -/
def imageOf (bs : List Byte) : FwImage :=
  let h := ofBytesLE (bs.take 512)
  let f (lo n : Nat) : Nat := h / 2 ^ lo % 2 ^ n
  let n := f 128 32
  let rest := bs.drop 512
  { magic := BitVec.ofNat 32 (f 0 32), headerLen := BitVec.ofNat 16 (f 32 16), level := BitVec.ofNat 8 (f 48 8)
    keySlot := BitVec.ofNat 2 (f 56 2), revoke := BitVec.ofNat 4 (f 60 4), major := BitVec.ofNat 8 (f 64 8)
    minor := BitVec.ofNat 8 (f 72 8), build := BitVec.ofNat 16 (f 80 16), svn := BitVec.ofNat 6 (f 96 6)
    reserved := f 58 2 != 0 || f 102 26 != 0 || f 160 32 != 0 || f 1352 1976 != 0
    bodyLen := BitVec.ofNat 32 n, digest := f 192 384, publicKey := f 576 776, sigR := f 3328 384, sigS := f 3712 384
    body := (rest ++ List.replicate (min n imageLimit - rest.length) 0xFF).take n }

/-- SIG_R and SIG_S sign the SHA-384 of header bytes 0 to 415 under PUBLIC_KEY, an uncompressed point (check 3 of R413). -/
def FwImage.signed (i : FwImage) : Bool :=
  let k := bytesLE 97 i.publicKey
  k.head? == some 4 && ecdsaOk (ofBytesBE ((k.drop 1).take 48)) (ofBytesBE (k.drop 49))
    (ofBytesBE (sha384 (bytesLE 416 i.header))) i.sigR i.sigS

/-- The first check of R413 that an image fails. -/
def State.imageBad (i : FwImage) (s : State) : Option FwCheck :=
  if i.magic != 0x4B534843 || i.headerLen != 512 || i.reserved || imageLimit < 512 + i.bodyLen.toNat then some .c1
  else if ofBytesLE (sha384 (bytesLE 97 i.publicKey)) != s.fuse.keys.getD i.keySlot.toNat 0 ||
    bit s.fuse.revoked i.keySlot.toNat then some .c2
  else if !i.signed then some .c3
  else if ofBytesLE (sha384 i.body) != i.digest then some .c4
  else if i.svn.toNat < s.fuse.v.toNat then some .c5
  else none

/-- The reason of a failed check (R413). -/
def FwCheck.reason (c : FwCheck) : Reason :=
  match c with
  | .c1 => .outOfRange
  | .c5 => .rollback
  | _ => .badSignature

/-- The version word (R411). -/
def FwImage.version (i : FwImage) : Nat := i.major.toNat + 256 * i.minor.toNat + 65536 * i.build.toNat

/-- The image of a bank, if it is valid now. -/
def State.validBank (b : Bool) (s : State) : Option FwImage :=
  (s.flash.bank b).filter (fun i => (s.imageBad i).isNone)

/-- A change of the update state (R414): PF0 vector 6 and a record. -/
def State.setFw (st : FwState) (s : State) : State :=
  ((s.updMgt (fun g => { g with fw := st })).fireVec 0 6).log 0x0E00 [(0, st.code)]

/-- An entry of the segment table: segment, 7-bit address and PAGE of a rail; none where the entry is empty (log entry
28). -/
def railOf (table : List Byte) (q : Nat) : Option (Nat × Nat × Nat) :=
  let e := (List.range 8).map (fun i => (table.getD (8 * q + i) 0).toNat)
  if e.all (fun b => b == 0) then none else some (e.getD 0 0 % 4, e.getD 1 0 % 128, e.getD 2 0)

/-- VOUT_COMMAND with the fused setpoint is written to the core rails of a segment, or to both (R427, R470); which
rails of the table they are, the board decides (log entry 28). -/
def State.writeVouts (segment : Option Nat) (s : State) : State :=
  (List.range 32).foldl (fun s q => match railOf s.mgt.latchedSegments q with
    | none => s
    | some r =>
      if segment.all (fun n => n == r.1) then match Config.coreRail q with
        | none => s
        | some e => s.emit (.vout q (if e then s.fuse.vsetE else s.fuse.vsetW).toNat)
      else s) s

/-- The boot ROM finds no valid bank: recovery (R409). -/
def State.enterRecovery (s : State) : State :=
  { s.updMgt (fun g => { g with recovery := true, booted := false }) with pcie := { s.pcie with configRetry := false } }

/-- Choesk runs: boot is complete, and the election opens (R342, R408). `bank`: the bank booted. -/
def State.bootFrom (bank : Bool) (i : FwImage) (s : State) : State :=
  let g := s.mgt
  let pref := if s.por.warmActive then g.latchedPref else s.flash.pref
  let sheaf := if s.por.warmActive then g.latchedSheaf else s.flash.sheaf
  let s := if s.por.warmActive then s else s.updMgt (fun g => { g with
    latchedSmbt := s.flash.smbt, latchedUart := s.flash.uart, latchedSegments := s.flash.segments })
  let s := s.updMgt (fun g => { g with
    booted := true, recovery := false, running := i, bootBank := bank, activeE := g.dieW.held, usb := true
    latchedPref := pref, latchedSheaf := sheaf
    dieW := { g.dieW with running := !g.dieW.held }, dieE := { g.dieE with running := g.dieW.held } })
  let s := s.updFrm (fun f => { f with pref := BitVec.ofNat 4 pref.toNat })
  let s := s.updFab (fun g => { g with sheaf := BitVec.ofNat 12 sheaf.toNat })
  let s := { s with pcie := { s.pcie with configRetry := false } }
  let s := (s.writeVouts none).log 0x0001 [(0, b2n bank), (32, i.version)]
  let s := if (s.validBank (!bank)).isSome then s.setFw .staged else s
  s.openElection

/-- BOOT_COMPLETE (R408, R409): the bank the boot record names, else the other with a new boot record; with both bad, or
with both complexes held, recovery. -/
def opBootComplete (s : State) : State :=
  if s.por.bring != .running || s.mgt.booted then s
  else
    let a := s.flash.active
    if s.mgt.dieW.held && s.mgt.dieE.held then s.enterRecovery
    else match s.validBank a with
      | some i => s.bootFrom a i
      | none =>
        match s.validBank (!a) with
        | none => s.enterRecovery
        | some i =>
          let why := ((s.flash.bank a).bind (fun j => s.imageBad j)).map FwCheck.reason
          (State.bootFrom (!a) i { s with flash := s.flash.writeRecord (!a) }).log 0x0E01 [(0, (why.getD .outOfRange).code)]

/-! ### HBM in operation (R454, R455) -/

/-- One retraining step of a stack: a refresh due on the same pseudo-channel goes first and the step moves on a frame; a
large shift starts a full re-training over 32 frames. -/
def Hbm.step (shift : Bool) (h : Hbm) : Hbm :=
  if !h.trained then h
  else if h.refreshDue = some h.turn then { h with refreshDue := none }
  else { h with
    refreshDue := none, turn := h.turn + 1
    full := if h.full = 0 then (if shift then 32 else 0) else h.full - 1 }

/-- The retraining step of every stack (R454). -/
def State.hbmStep (s : State) : State :=
  let n := s.takeFree
  n.2.updPor (fun p => { p with hbm := p.hbm.map (fun (h : Nat × Hbm) => (h.1, h.2.step (Config.timingShift n.1 h.1))) })

/-- HBM_REFRESH (R455): a due refresh of a pseudo-channel is issued; a step due on it moves. -/
def opHbmRefresh (stack : Fin 8) (pc : BitVec 5) (s : State) : State :=
  s.updPor (fun p => { p with hbm := p.hbm.upd {} stack.val (fun h => { h with refreshDue := some pc }) })

/-! ### The test port (R460, R461) -/

/-- The scan instructions take effect (R461). -/
def State.scanOpen (s : State) : Bool := s.por.testEn && s.fuse.scanIntact

/-- The codes of the restricted instructions (Table 16-5). -/
def restrictedCodes : List (BitVec 8) := [0x00, 0x03, 0x04, 0x05, 0x06]

/-- The codes of the scan instructions (Table 16-5). -/
def scanCodes : List (BitVec 8) := [0x20, 0x21, 0x22]

/-- The codes that are always available, BYPASS apart (Table 16-5). -/
def openCodes : List (BitVec 8) := [0x01, 0x02, 0x23]

/-- The instruction in force: the one loaded, while its conditions hold; else, and for a reserved code, BYPASS (R460,
R461). -/
def State.inForce (s : State) : BitVec 8 :=
  let c := s.por.jtag
  if openCodes.contains c || (restrictedCodes.contains c && (s.por.sysRst || s.por.testEn)) ||
    (scanCodes.contains c && s.scanOpen) then c else 0xFF

/-- What drives the lands (R460, R461). -/
def State.lands (s : State) : LandDrive :=
  match s.inForce.toNat with
  | 0x00 | 0x05 => .held s.por.boundary
  | 0x03 => .pulse s.por.boundary
  | 0x04 => .train s.por.boundary
  | 0x06 => .highZ
  | _ => .functional

/-- The instruction in force selects the boundary register between TDI and TDO. -/
def State.onBoundary (s : State) : Bool := [0x00, 0x02, 0x03, 0x04].contains s.inForce.toNat

/-- Bits are shifted through the register selected, how many and which being free values (log entry 131): through the
boundary register, which gives out the levels of the lands it captured (free values) and then holds the bits, or
through the one-bit bypass register, which captured 0. -/
def State.shift (s : State) : State :=
  let n := s.takeFree
  let bits := Config.shiftedIn n.1
  let s := n.2
  if bits.isEmpty then s
  else if s.onBoundary then
    (s.updPor (fun p => { p with boundary := bits })).emit
      (.tdoBits ((List.range bits.length).map (fun i => Config.landLevel n.1 i)))
  else s.emit (.tdoBits ((false :: bits).take bits.length))

/-- Loads a test instruction. Leaving an effective SCAN_MODE makes the device's state undefined (R461). -/
def State.loadTest (code : BitVec 8) (effect : State → State) (s : State) : State :=
  if s.por.scan then s.afterScan code
  else effect (s.updPor (fun p => { p with jtag := code, atbJtag := false }))

/-- The code that a BYPASS load gives: 0xFF, or a reserved one, which acts as BYPASS (R460, Table 16-5). Which one is a
free value. -/
def bypassCode (n : Nat) : BitVec 8 :=
  if (openCodes ++ restrictedCodes ++ scanCodes).contains (Config.loadedCode n) then 0xFF else Config.loadedCode n

/-- BYPASS (R460). -/
def execBypass (s : State) : Host.Outcome State Fault Refusal :=
  let n := s.takeFree
  .next (n.2.loadTest (bypassCode n.1) State.shift)

/-- IDCODE (R460): version 1, part 0xAB12, manufacturer, 1. -/
def execIdcode (s : State) : Host.Outcome State Fault Refusal :=
  .next (s.loadTest 0x01 (fun s =>
    s.emit (.tdo (word [(0, 1), (1, (Config.manufacturer 0).toNat), (12, 0xAB12), (28, 1)]))))

/-- SAMPLE/PRELOAD (R460). -/
def execSamplePreload (s : State) : Host.Outcome State Fault Refusal :=
  .next (s.loadTest 0x02 State.shift)

/-- EXTEST (R461). -/
def execExtest (s : State) : Host.Outcome State Fault Refusal :=
  .next (s.loadTest 0x00 State.shift)

/-- EXTEST_PULSE (R461). -/
def execExtestPulse (s : State) : Host.Outcome State Fault Refusal :=
  .next (s.loadTest 0x03 State.shift)

/-- EXTEST_TRAIN (R461). -/
def execExtestTrain (s : State) : Host.Outcome State Fault Refusal :=
  .next (s.loadTest 0x04 State.shift)

/-- CLAMP (R461). -/
def execClamp (s : State) : Host.Outcome State Fault Refusal := .next (s.loadTest 0x05 (fun s => s))

/-- HIGHZ (R461). -/
def execHighz (s : State) : Host.Outcome State Fault Refusal := .next (s.loadTest 0x06 (fun s => s))

/-- SCAN_MODE (R461): while it is loaded the device's state is not its own. -/
def execScanMode (s : State) : Host.Outcome State Fault Refusal :=
  .next (if s.por.scan then s
    else s.loadTest 0x20 (fun s => s.updPor (fun p => { p with scan := s.scanOpen })))

/-- MBIST_RUN (R457, R460): the self-test of Table 16-4 runs and its result is shifted out; what fails and the result are
free values. -/
def execMbistRun (s : State) : Host.Outcome State Fault Refusal :=
  .next (s.loadTest 0x21 (fun s =>
    if !s.scanOpen then s
    else
      let n := s.takeFree
      (n.2.selfTest (Config.rowsFailing n.1) (Config.enginesFailing n.1) (Config.portsFailing n.1) (Config.plannersFailing n.1)
        (Config.complexesFailing n.1)).emit (.tdo (Config.mbistResult n.1))))

/-- ATB_CTRL (R460): takes the four analogue test buses. -/
def execAtbCtrl (s : State) : Host.Outcome State Fault Refusal :=
  .next (s.loadTest 0x22 (fun s => s.updPor (fun p => { p with atbJtag := s.scanOpen })))

/-- WARM_RESET (R444, R460). -/
def execJtagWarmReset (s : State) : Host.Outcome State Fault Refusal :=
  .next (s.loadTest 0x23 (fun s => if s.por.tripAsserted then s else s.warmReset 6))

/-- TEST_LOGIC_RESET (R460): IDCODE becomes current. -/
def execTestLogicReset (s : State) : Host.Outcome State Fault Refusal := .next (s.loadTest 0x01 (fun s => s))

/-- VDD_AON_LOSS (R464): every state is lost but flash and fuses; programmed log records survive in flash (R425). -/
def opVddAonLoss (s : State) : State := { s.cleared with por := { vddAon := false, sysRst := s.por.sysRst, bring := .unpowered } }

/-! ### Analogue test buses and TEST.MBIST (R462 to R465) -/

/-- Node codes of Table 16-6 on a die. -/
def nodeOk (die node : Nat) : Bool :=
  decide (node ≤ 2) || (decide (0x10 ≤ node) && decide (node ≤ 0x14)) || ((node == 0x15 || node == 0x16) && die == 0) ||
    node == 0x18 || node == 0x19 || (decide (0x1C ≤ node) && decide (node ≤ 0x1F)) ||
    (decide (0x30 ≤ node) && decide (node ≤ 0x47)) || (decide (0x50 ≤ node) && decide (node ≤ 0x57)) ||
    (decide (0x60 ≤ node) && decide (node ≤ 0x6B))

/-- A node whose lane field matters. -/
def nodeHasLane (node : Nat) : Bool := decide (0x30 ≤ node) && decide (node ≤ 0x3F)

/-- PF0 and the service mailbox. -/
def pfOrService (m : Nat) : Bool := m == 0 || m == 17

/-- ATB.SELECT (R462, R465): a node that is on the other bus of its die moves. -/
def atbSelectBody (_ : CmdId) (_ : Nat) (e : Entry) (s : State) : State × Reply :=
  let w := e.arg 0
  let bus := fld w 0 2
  let node := fld w 8 8
  let lane := fld w 16 3
  if s.por.atbJtag then (s, .bad .badState)
  else
    let other := if bus % 2 = 0 then bus + 1 else bus - 1
    let same := node != 0 && (s.por.nodes.get 0 other).toNat == node &&
      (!nodeHasLane node || (s.por.busLane.get 0 other).toNat == lane)
    let s := s.updPor (fun p => { p with
      nodes := ((if same then p.nodes.put other 0 else p.nodes).put bus (BitVec.ofNat 8 node))
      busLane := p.busLane.put bus (BitVec.ofNat 3 lane)
      land := (p.land &&& ~~~(BitVec.ofNat 4 (2 ^ bus))) ||| (if bit w 24 then BitVec.ofNat 4 (2 ^ bus) else 0) })
    (s, .done [word [(0, s.frm.count.toNat)]])

/-- ATB.SELECT. -/
def specAtbSelect : Spec where
  opcode := opcodeOf 0x15 1
  permitted := pfOrService
  allowed := fun _ _ => [maskOf 64 [(0, 2), (8, 8), (16, 3), (24, 1)]]
  inRange := fun _ a _ => nodeOk (fld (a.getD 0 0) 0 2 / 2) (fld (a.getD 0 0) 8 8)
  part := noPart
  cls := .own
  body := atbSelectBody

/-- ATB.SAMPLE (R465): samples are free values; the mean, minimum and maximum are computed from them. -/
def atbSampleBody (_ : CmdId) (_ : Nat) (e : Entry) (s : State) : State × Reply :=
  let bus := fld (e.arg 0) 0 2
  let count := fld (e.arg 0) 8 8
  if s.por.atbJtag then (s, .bad .badState)
  else
    let n := s.takeFree
    let xs := (List.range count).map (fun i => (Config.adcSample n.1 i).toNat)
    let sum := xs.foldl (· + ·) 0
    let mean := (2 * sum + count) / (2 * count)
    let tenths := (2 * sum * 12500 + count * 4096) / (2 * count * 4096)
    (n.2, .done [word [(0, mean), (16, xs.foldl min 4095), (32, xs.foldl max 0)],
      word [(0, tenths), (16, (s.por.nodes.get 0 bus).toNat)]])

/-- ATB.SAMPLE: a count of 0 is out of range. -/
def specAtbSample : Spec where
  opcode := opcodeOf 0x15 2
  permitted := pfOrService
  allowed := fun _ _ => [maskOf 64 [(0, 2), (8, 8)]]
  inRange := fun _ a _ => decide (fld (a.getD 0 0) 8 8 ≠ 0)
  part := noPart
  cls := .own
  body := atbSampleBody

/-- TEST.MBIST (R457, R465): the named rows, and with HBM every FREE page; what fails is a free value. -/
def testMbistBody (_ : CmdId) (_ : Nat) (e : Entry) (s : State) : State × Reply :=
  let w := e.arg 0
  let rows : BitVec 16 := BitVec.ofNat 16 (fld w 0 16)
  if (List.range 16).any (fun r => bit rows r && (s.rowOwner r).isSome) then (s, .bad .badState)
  else
    let n := s.takeFree
    let s := n.2
    let bad := rows &&& Config.rowsFailing n.1
    let spadIn (addr : Nat) : Bool := bit rows (tillerRow (addr / 2 ^ 22))
    let s := { s with
      ten := { s.ten with badRows := (s.ten.badRows &&& ~~~rows) ||| bad }, spad := s.spad.filter (fun c => !spadIn c.1) }
    let pages := if bit w 16 then s.pagesIn .free else []
    let s := s.updXlt (fun x => { x with
      ecc := x.ecc.filter (fun e => !(if e.1 then spadIn (8 * e.2.1) else pages.contains (8 * e.2.1 / 2 ^ 29))) })
    let gone := pages.filter (fun p => Config.pageFailing n.1 p)
    let s := s.updXlt (fun x => { x with
      own := gone.foldl (fun t p => t.upd {} p (fun o => { o with state := .quarantined })) x.own })
    let s := { s with dram := s.dram.filter (fun c => !pages.contains (c.1 / 2 ^ 29)) }
    let s := gone.foldl (fun s p => s.log 0x0302 [(0, p)]) s
    let repairs := if bit w 17 then (Config.softRepairs n.1).toNat else 0
    (s, .done [word [(0, (rows &&& ~~~bad).toNat), (16, bad.toNat)], word [(0, repairs)],
      word [(0, pages.length), (9, gone.length)]])

/-- TEST.MBIST. -/
def specTestMbist : Spec where
  opcode := opcodeOf 0x16 1
  permitted := pfOnly
  allowed := fun _ _ => [0x3FFFF]
  part := noPart
  cls := .own
  body := testMbistBody

/-! ### Meanings of the rows -/

/-- ATB_SELECT (R465). -/
def execAtbSelect (m : Fin 18) (e : Entry) (s : State) : Host.Outcome State Fault Refusal :=
  .next (serve specAtbSelect m.val e s)

/-- ATB_SAMPLE (R465). -/
def execAtbSample (m : Fin 18) (e : Entry) (s : State) : Host.Outcome State Fault Refusal :=
  .next (serve specAtbSample m.val e s)

/-- TEST_MBIST (R465). -/
def execTestMbist (m : Fin 18) (e : Entry) (s : State) : Host.Outcome State Fault Refusal :=
  .next (serve specTestMbist m.val e s)

/-- POWER_ON_RESET (R442). -/
def execPowerOnReset (s : State) : Host.Outcome State Fault Refusal :=
  .next (opPowerOnReset s)

/-- PGOOD_RISE (R442). -/
def execPgoodRise (s : State) : Host.Outcome State Fault Refusal :=
  .next (opPgoodRise s)

/-- PGOOD_TIMEOUT (R442). -/
def execPgoodTimeout (s : State) : Host.Outcome State Fault Refusal :=
  .next (opPgoodTimeout s)

/-- PGOOD_FALL (R442). -/
def execPgoodFall (g : Fin 6) (s : State) : Host.Outcome State Fault Refusal :=
  .next (opPgoodFall g s)

/-- SEQUENCE_RETRY (R442). -/
def execSequenceRetry (s : State) : Host.Outcome State Fault Refusal :=
  .next (opSequenceRetry s)

/-- SYS_RST_ASSERT (R480). -/
def execSysRstAssert (s : State) : Host.Outcome State Fault Refusal :=
  .next (opSysRstAssert s)

/-- SYS_RST_RELEASE (R442). -/
def execSysRstRelease (s : State) : Host.Outcome State Fault Refusal :=
  .next (opSysRstRelease s)

/-- WARM_RST_ASSERT (R444). -/
def execWarmRstAssert (s : State) : Host.Outcome State Fault Refusal :=
  .next (s.whenClocked (opWarmRstAssert s))

/-- FABRIC_REFCLK_LOSS (R477). -/
def execFabricRefclkLoss (s : State) : Host.Outcome State Fault Refusal :=
  .next (opFabricRefclkLoss s)

/-- PCIE_REFCLK_LOSS (R477). -/
def execPcieRefclkLoss (lost : Bool) (s : State) : Host.Outcome State Fault Refusal :=
  .next (opPcieRefclkLoss lost s)

/-- COLD_RESET_RELEASE (R449). -/
def execColdResetRelease (s : State) : Host.Outcome State Fault Refusal :=
  .next (opColdResetRelease s)

/-- SELF_TEST_COMPLETE (R457). -/
def execSelfTestComplete (rows : BitVec 16) (engines : BitVec 17) (ports : BitVec 16) (planners : BitVec 2) (complexes : BitVec 2) (s : State) : Host.Outcome State Fault Refusal :=
  .next (s.whenClocked (opSelfTestComplete rows engines ports planners complexes s))

/-- HBM_TRAINING_COMPLETE (R453). -/
def execHbmTrainingComplete (failed : BitVec 8) (s : State) : Host.Outcome State Fault Refusal :=
  .next (s.whenClocked (opHbmTrainingComplete failed s))

/-- HBM_TEST_COMPLETE (R459). -/
def execHbmTestComplete (bad : List Nat) (s : State) : Host.Outcome State Fault Refusal :=
  .next (s.whenClocked (opHbmTestComplete bad s))

/-- MANAGEMENT_RESET_RELEASE (R450). -/
def execManagementResetRelease (s : State) : Host.Outcome State Fault Refusal :=
  .next (s.whenClocked (opManagementResetRelease s))

/-- BOOT_COMPLETE (R408). -/
def execBootComplete (_ _ : Unit) (s : State) : Host.Outcome State Fault Refusal :=
  .next (s.whenClocked (opBootComplete s))

/-- HBM_REFRESH (R455). -/
def execHbmRefresh (stack : Fin 8) (pc : BitVec 5) (s : State) : Host.Outcome State Fault Refusal :=
  .next (s.whenClocked (opHbmRefresh stack pc s))

/-- WARM_RESET (R444). -/
def execWarmReset (s : State) : Host.Outcome State Fault Refusal :=
  .next (s.whenClocked (opWarmReset s))

/-- VDD_AON_LOSS (R464). -/
def execVddAonLoss (s : State) : Host.Outcome State Fault Refusal :=
  .next (opVddAonLoss s)

end Sys2Proof.Machine
end

