-- ==== Sys2Proof/Machine/Service.lean ====
section
/-! DEFINITION. The management subsystem (15): firmware staging and activation, watchdogs and failover, the event log,
sensors over PMBus, stuck-bus recovery, the SMBus target, the USB service port with DFU, and the console. -/

namespace Sys2Proof.Machine

open Sys2Proof

/-! ### Firmware commands (R411 to R418, R440) -/

/-- The inactive bank: the one the boot record does not name (R414). -/
def State.inactive (s : State) : Bool := !s.flash.active

/-- Erases the inactive bank (R415). -/
def State.eraseInactive (s : State) : State := { s with flash := s.flash.setBank s.inactive none }

/-- The lines of a buffer in host memory whose read fails in the endpoint (R74). -/
def State.failingIn (a n : Nat) (s : State) : List Nat :=
  s.pcie.failLines.filter (fun l => decide (a / 64 ≤ l) && decide (64 * l < a + n))

/-- FW.STAGE (R414, R415): the bank is erased and the image written; its verification answers. An image that cannot be
read ends it without any other effect (R439). -/
def fwStageBody (c : CmdId) (_ : Nat) (e : Entry) (s : State) : State × Reply :=
  let bad := s.failingIn (e.arg 1).toNat (fld (e.arg 0) 0 25)
  if s.mgt.fw != .idle && s.mgt.fw != .staged then (s, .bad .badState)
  else if !bad.isEmpty then
    ({ s with pcie := { s.pcie with failLines := s.pcie.failLines.filter (fun l => !bad.contains l) } }, .bad .argFault)
  else
    let img := s.host.readBytes (e.arg 1).toNat (fld (e.arg 0) 0 25)
    ((s.setFw .receiving).eraseInactive.updMgt (fun g => { g with stageCmd := some c, stageData := img }), .later)

/-- FW.STAGE: 512 bytes to 24 MiB from an address aligned to 4 KiB. -/
def specFwStage : Spec where
  opcode := opcodeOf 0x12 1
  permitted := pfOnly
  allowed := fun _ _ => [0x1FFFFFF, BitVec.allOnes 64]
  inRange := fun _ a _ => decide (512 ≤ fld (a.getD 0 0) 0 25) && decide (fld (a.getD 0 0) 0 25 ≤ 24 * 2 ^ 20) &&
    fld (a.getD 1 0) 0 12 == 0
  part := noPart
  cls := .own
  body := fwStageBody

/-- A download whose image is not valid (R413, R414). -/
def State.rejectImage (c : FwCheck) (s : State) : State :=
  ((s.updMgt (fun g => { g with lastReason := c.reason })).setFw .idle).log 0x0E01 [(0, c.reason.code)]

/-- STAGE_VERIFY_COMPLETE (R413, R414): every byte of the staged image has been written and verified. -/
def opStageVerifyComplete (s : State) : State :=
  match s.mgt.stageCmd with
  | none => s
  | some c =>
    if s.mgt.fw != .receiving then s
    else
      let img := imageOf s.mgt.stageData
      let s := (s.setFw .verifying).updMgt (fun g => { g with stageCmd := none, stageData := [] })
      match s.imageBad img with
      | some k => (s.rejectImage k).finish c .badCommand k.reason []
      | none =>
        let s := State.setFw .staged { s with flash := s.flash.setBank s.inactive (some img) }
        s.finish c .done .none [word [(0, img.level.toNat), (8, img.svn.toNat), (32, img.version)]]

/-- The conditions of R416. -/
def State.mayActivate (s : State) : Bool :=
  s.mgt.fw = .staged && s.mgt.standbyOk && s.frm.change.isNone && s.frm.proposal.isNone &&
    (List.range 16).all (fun p =>
      (s.part p).state != .running && !(s.part p).fencing && (s.part p).state != .tearingDown)

/-- FW.ACTIVATE (R416): step 1 begins, and the standby leaves the mirror. -/
def fwActivateBody (c : CmdId) (_ : Nat) (e : Entry) (s : State) : State × Reply :=
  if !s.mayActivate then (s, .bad .badState)
  else ((s.setFw .activating).updMgt (fun g => { g with
    act := .loading, actCmd := some c, actCommit := bit (e.arg 0) 0, standbyOk := false, actDone := false }), .later)

/-- FW.ACTIVATE. -/
def specFwActivate : Spec where
  opcode := opcodeOf 0x12 2
  permitted := pfOrService
  allowed := fun _ _ => [1]
  part := noPart
  cls := .own
  body := fwActivateBody

/-- An activation that fails: the old complex goes on with nothing changed (R416). -/
def State.activationFails (code : Nat) (s : State) : State :=
  let c := s.mgt.actCmd
  let s := (s.updMgt (fun g => { g with act := .none, actCmd := none, actFails := BitVec.ofNat 8 code, lastReason := .badState })).setFw
    .staged
  s.finishAll c.toList .badCommand .badState [word [(0, code)]]

/-- ACTIVATION_STANDBY_LOADED (R416): the bank came over whole and its image is valid, and step 2 stops consumption; or it
did not or is not. -/
def opActivationStandbyLoaded (valid : Bool) (s : State) : State :=
  if s.mgt.act != .loading then s
  else if valid && (s.validBank s.inactive).isSome then s.updMgt (fun g => { g with act := .restoring })
  else s.activationFails 1

/-- The new complex takes over (step 4 of R416, R418): boot record, V and revocations, the state of the old image's bank,
and the mailboxes if the interface level differs. -/
def State.takeOver (i : FwImage) (s : State) : State :=
  let old := s.mgt.running
  let c := s.mgt.actCmd
  let bank := s.inactive
  let commit := s.mgt.actCommit
  let s := { s with
    flash := s.flash.writeRecord bank
    fuse := if commit then { s.fuse with
        v := if s.fuse.v.toNat < i.svn.toNat then i.svn else s.fuse.v, revoked := s.fuse.revoked ||| i.revoke }
      else s.fuse }
  let s := s.updMgt (fun g => { g with
    act := .none, actCmd := none, actFails := 0, actDone := true, actFrame := BitVec.ofNat 32 s.frm.count.toNat
    activeE := !g.activeE, standbyOk := false, running := i, bootBank := bank
    dieW := { g.dieW with running := g.activeE, count := 0 }, dieE := { g.dieE with running := !g.activeE, count := 0 } })
  let s := if (s.validBank (!bank)).isSome then s.setFw .staged else s.setFw .idle
  if i.level = old.level then
    s.finishAll c.toList .done .none [word [(0, i.version)], word [(0, s.frm.count.toNat)]]
  else
    let s := (List.range 17).foldl (fun s m => s.resetMailbox m) s
    s.updMb 17 (fun b => { b with tickets := [], staged := [] })

/-- FW.QUERY words (Table 15-13). -/
def fwQueryWords (s : State) : List W64 :=
  let g := s.mgt
  let info (i : FwImage) : W64 := word [(0, i.version), (32, i.level.toNat), (40, i.svn.toNat)]
  let other := if g.fw = .receiving || g.fw = .verifying then none else s.validBank s.inactive
  [word [(0, g.fw.code), (3, b2n s.flash.active), (4, b2n other.isSome), (5, b2n (g.act != .none))], info g.running,
    (other.map info).getD 0, word [(0, s.fuse.v.toNat), (6, s.fuse.revoked.toNat)],
    word [(0, g.lastReason.code), (16, g.actFails.toNat), (24, b2n g.actDone), (32, g.actFrame.toNat)]]

/-- FW.QUERY. -/
def specFwQuery : Spec where
  opcode := opcodeOf 0x12 3
  permitted := pfOrService
  allowed := fun _ _ => []
  part := noPart
  cls := .own
  body := fun _ _ _ s => (s, .done (fwQueryWords s))

/-! ### Watchdogs and failover (R419, R420) -/

/-- A complex by die. -/
def Mgt.complex (d : Die) (g : Mgt) : Complex := if d = .w then g.dieW else g.dieE

/-- Changes a complex. -/
def Mgt.updComplex (d : Die) (f : Complex → Complex) (g : Mgt) : Mgt :=
  if d = .w then { g with dieW := f g.dieW } else { g with dieE := f g.dieE }

/-- The active complex's die. -/
def Mgt.active (g : Mgt) : Die := if g.activeE then .e else .w

/-- The watchdogs count one of their units. -/
def Mgt.watchdogCount (g : Mgt) : Mgt :=
  let up (c : Complex) : Complex := if c.running then { c with count := c.count + 1 } else c
  { g with dieW := up g.dieW, dieE := up g.dieE }

/-- WATCHDOG_KICK (R419). -/
def Mgt.kick (g : Mgt) : Mgt := { g with dieW := { g.dieW with count := 0 }, dieE := { g.dieE with count := 0 } }

/-- STANDBY_MIRRORED (R407, R408): the other complex runs the image and has taken the mirror. -/
def opStandbyMirrored (s : State) : State :=
  let d : Die := if s.mgt.activeE then .w else .e
  if !s.mgt.booted || s.mgt.act != .none || (s.mgt.complex d).held then s
  else s.updMgt (fun g => { g.updComplex d (fun c => { c with running := true, count := 0 }) with standbyOk := true })

/-- WATCHDOG_EXPIRY (R419, R420): a complex has gone without a kick. The third expiry within 2^20 frames holds it in
reset. The standby takes over from a failed active complex at the next commit instant; without one the always-on block
performs a warm reset. -/
def opWatchdogExpiry (die : Die) (s : State) : State :=
  let c := s.mgt.complex die
  if !c.running then s
  else
    let ex := (c.expiries.filter (fun f => decide (framesSince s.frm.count f < 2 ^ 20))) ++ [s.frm.count]
    let held := c.held || decide (3 ≤ ex.length)
    let s := s.log 0x0003 [(0, die.num)]
    let s := s.updMgt (fun g => g.updComplex die (fun c => { c with count := 0, expiries := ex, held := held, running := false }))
    if die = s.mgt.active then
      if s.mgt.standbyOk then s.updMgt (fun g => { g with failoverDue := true })
      else s.warmReset 4
    else (s.updMgt (fun g => { g with standbyOk := false })).log 0x0002 [(0, s.mgt.active.num)]

/-- FAILOVER (R420): at a commit instant the standby becomes active from the mirror. -/
def State.failover (s : State) : State :=
  if !s.mgt.failoverDue then s
  else
    let s := s.updMgt (fun g => { g with
      failoverDue := false, activeE := !g.activeE, standbyOk := false, failovers := satAdd g.failovers 1 })
    s.log 0x0002 [(0, s.mgt.active.num)]

/-- AON_TIMER_TICK (R398, R419, R454): 32 µs of the AON-derived timer. It counts for the watchdog before synchronisation
and while STANDALONE, paces HOTTEST before frames are counted, and the retraining steps before frame 0 and in UNSYNC. -/
def opAonTimerTick (s : State) : State :=
  let still := s.frm.phase = .stopped
  let s := if still || s.frm.role = .standalone || !s.synced then
      s.updMgt (fun g => let g := g.watchdogCount; if g.booted then g.kick else g)
    else s
  let s := if still then s.evalHottest else s
  if still || s.frm.state = .unsync then s.hbmStep else s

/-! ### The event log (R424, R425, R440) -/

/-- The records held, oldest first. -/
def State.logHeld (s : State) : List LogRec := s.flash.log ++ s.mgt.sram

/-- Records the flash ring holds. -/
def logRing : Nat := 240 * 2048

/-- Programs a record: the oldest sector of 2,048 records is erased when the ring is full. -/
def programLog (l : List LogRec) (r : LogRec) : List LogRec := (if l.length < logRing then l else l.drop 2048) ++ [r]

/-- LOG_RECORD_PROGRAM (R425). -/
def opLogRecordProgram (s : State) : State :=
  let rs := s.mgt.sram
  State.updMgt (s := { s with flash := { s.flash with log := rs.foldl programLog s.flash.log } }) (fun g => { g with sram := [] })

/-- `MGT.LOG`. -/
def State.logWord (s : State) : W64 :=
  let l := s.logHeld
  word [(0, ((l.getLast?.map (fun r => r.seq.toNat)).getD 0)), (32, ((l.head?.map (fun r => r.seq.toNat)).getD 0))]

/-- The records LOG.READ writes: from a first SEQ, or the oldest held where it is older, none where it is newer. -/
def logFrom (first : BitVec 32) (oldest : Bool) (count : Nat) (l : List LogRec) : List LogRec :=
  match l with
  | [] => []
  | r :: _ =>
    let k := (first - r.seq).toNat
    let skip := if oldest || decide (2 ^ 31 ≤ k) then 0 else k
    (l.drop skip).take count

/-- LOG.READ (R433, R440): to host memory, or on the service mailbox behind the completion entry. -/
def logReadBody (c : CmdId) (_ : Nat) (e : Entry) (s : State) : State × Reply :=
  let first : BitVec 32 := BitVec.ofNat 32 (fld (e.arg 0) 0 32)
  let held := s.logHeld
  let rs := logFrom first (bit (e.arg 0) 48) (fld (e.arg 0) 32 16) held
  let bs := rs.flatMap LogRec.bytes
  let s := if c.mbx = 17 then s.updMgt (fun g => { g with usbData := g.usbData ++ [(c.uid, bs)] })
    else { s with host := s.host.writeBytes (e.arg 1).toNat bs }
  let seqOf (r : Option LogRec) : Nat := (r.map (fun r => r.seq.toNat)).getD 0
  (s, .done [word [(0, ((rs.head?.map (fun r => r.seq.toNat)).getD first.toNat)), (32, rs.length)],
    word [(0, seqOf held.head?)], word [(0, seqOf held.getLast?)]])

/-- LOG.READ: 1 to 4,096 records; the address is aligned to 32 bytes, and 0 on the service mailbox. -/
def specLogRead : Spec where
  opcode := opcodeOf 0x13 1
  permitted := pfOrService
  allowed := fun _ _ => [maskOf 64 [(0, 49)], BitVec.allOnes 64]
  inRange := fun m a _ =>
    let n := fld (a.getD 0 0) 32 16
    decide (1 ≤ n) && decide (n ≤ 4096) && fld (a.getD 1 0) 0 5 == 0 && (m != 17 || a.getD 1 0 == 0)
  part := noPart
  cls := .own
  body := logReadBody

/-! ### Sensors (R422, R423, R440) -/

/-- The identifier is in Table 15-7, and a rail is configured. -/
def State.sensorKnown (id : Nat) (s : State) : Bool :=
  decide (id < 0x38) || (decide (0x100 ≤ id) && decide (id < 0x118)) || (decide (0x200 ≤ id) && decide (id < 0x210)) ||
    (decide (0x300 ≤ id) && decide (id < 0x380) && (railOf s.mgt.latchedSegments ((id - 0x300) / 4)).isSome) || id == 0x400

/-- The result word of a sensor. -/
def Sensor.word (x : Sensor) : W64 :=
  Machine.word [(0, x.value.toNat), (16, x.min.toNat), (32, x.max.toNat), (48, b2n x.valid), (49, b2n x.stale), (50, b2n x.failed)]

/-- SENS.READ (R440). -/
def sensReadBody (_ : CmdId) (_ : Nat) (e : Entry) (s : State) : State × Reply :=
  let first := fld (e.arg 0) 0 16
  let ids := (List.range (fld (e.arg 0) 16 3)).map (fun i => first + i)
  if !ids.all (fun i => s.sensorKnown i) then (s, .bad .badHandle)
  else
    let ws := ids.map (fun i => (s.sensor i).word)
    let s := if bit (e.arg 0) 24 then
        ids.foldl (fun s i => s.updSensor i (fun x => { x with min := x.value, max := x.value, cleared := true })) s
      else s
    (s, .done ws)

/-- SENS.READ: 1 to 5 sensors. -/
def specSensRead : Spec where
  opcode := opcodeOf 0x14 1
  permitted := pfOrService
  allowed := fun _ _ => [maskOf 64 [(0, 19), (24, 1)]]
  inRange := fun _ a _ => decide (1 ≤ fld (a.getD 0 0) 16 3) && decide (fld (a.getD 0 0) 16 3 ≤ 5)
  part := noPart
  cls := .own
  body := sensReadBody

/-- The PMBus command of reading k of a rail (Table 15-7). -/
def pmbusCommand (k : Nat) : Nat := if k = 0 then 0x8B else if k = 1 then 0x8C else if k = 2 then 0x97 else 0x8D

/-- A segment is BUS_STUCK. -/
def State.stuck (n : Nat) (s : State) : Bool := (s.mgt.smb.get {} n).stuck

/-- PMBUS_POLL (R386, R422, R423): reading 4q + k of rail q; a reading that fails is logged, and the base charge keeps its
value (R386). -/
def opPmbusPoll (readings : List (Option (BitVec 16))) (s : State) : State :=
  let rails := (List.range 32).filterMap (fun q => (railOf s.mgt.latchedSegments q).map (fun r => (q, r)))
  let s := rails.foldl (fun s qr =>
    let q := qr.1
    let r := qr.2
    if s.stuck r.1 then
      ([0, 1, 2, 3].foldl (fun s k => s.updSensor (0x300 + 4 * q + k) (fun x => { x with stale := true })) s).updPwr
        (fun w => { w with winFailed := true })
    else [0, 1, 2, 3].foldl (fun s k =>
      match readings.getD (4 * q + k) none with
      | some v => s.updSensor (0x300 + 4 * q + k) (fun x => x.take (0x300 + 4 * q + k) v)
      | none =>
        ((s.updSensor (0x300 + 4 * q + k) Sensor.miss).updPwr (fun w => { w with winFailed := true })).log 0x0B01
          [(0, r.1), (2, r.2.1), (9, pmbusCommand k)]) s) s
  if rails.isEmpty then s
  else
    let pins := rails.map (fun qr => if s.stuck qr.2.1 then none else readings.getD (4 * qr.1 + 2) none)
    if pins.all (fun p => p.isSome) then
      let sum := (pins.map (fun p => (p.map (fun v => v.toNat)).getD 0)).foldl (· + ·) 0
      s.updSensor 0x400 (fun x => x.take 0x400 (BitVec.ofNat 16 sum))
    else s.updSensor 0x400 Sensor.miss

/-- SMBUS_STRETCH_TIMEOUT (R428): abandoned with a STOP and logged; the one retry has no effect of its own. -/
def opSmbusStretchTimeout (segment : BitVec 2) (address : BitVec 7) (command : BitVec 8) (s : State) : State :=
  s.log 0x0B01 [(0, segment.toNat), (2, address.toNat), (9, command.toNat)]

/-- Up to 9 SCL pulses on a stuck segment (R429): with SDA high the segment is idle again, and setpoints are written anew;
with SDA low it is BUS_STUCK, and its reset output is pulsed. -/
def State.recoverBus (n : Nat) (high : Bool) (s : State) : State :=
  if high then
    if s.stuck n then
      let s := s.updMgt (fun g => { g with smb := g.smb.put n {} })
      (s.log 0x0B00 [(0, n), (2, 1)]).writeVouts (some n)
    else s
  else
    let s := if s.stuck n then s
      else
        let s := (s.updMgt (fun g => { g with smb := g.smb.put n { stuck := true } })).log 0x0B00 [(0, n)]
        (List.range 32).foldl (fun s q => match railOf s.mgt.latchedSegments q with
          | some r => if r.1 = n then [0, 1, 2, 3].foldl (fun s k =>
              s.updSensor (0x300 + 4 * q + k) (fun x => { x with stale := true })) s else s
          | none => s) s
    s.emit (.smbReset n)

/-- SMBUS_STUCK_RECOVERY (R429). -/
def opSmbusStuckRecovery (segment : BitVec 2) (sdaHigh : Bool) (s : State) : State := s.recoverBus segment.toNat sdaHigh

/-- SMBUS_RECOVERY_RETRY (R429): 35 ms after a reset pulse. -/
def opSmbusRecoveryRetry (segment : BitVec 2) (sdaHigh : Bool) (s : State) : State :=
  if s.stuck segment.toNat then s.recoverBus segment.toNat sdaHigh else s

/-! ### The SMBus target (R430) -/

/-- The 96 bits of SMBT STATUS as two words (Table 15-10). -/
def smbtStatusWords (s : State) : List W64 :=
  let run := ((List.range 16).filter (fun p => (s.part p).state = .running)).length
  let f := s.frm.count.toNat
  [word [(0, s.pwr.cap.toNat), (8, s.pwr.pending.toNat), (15, b2n s.pwr.pendingValid), (16, s.pwr.hottest.toNat),
      (24, s.pwr.theta.toNat), (29, b2n s.pwr.emergency), (30, s.mgt.smbtResult.toNat), (32, s.mgt.fw.code),
      (35, b2n s.mgt.alertLow), (40, run), (48, f % 65536)], word [(0, f / 65536)]]

/-- SMBT_STATUS (R430); a transaction without a valid PEC is ignored. -/
def opSmbtStatus (pec : Bool) (s : State) : State := if pec && s.mgt.booted then s.emit (.smbt (smbtStatusWords s)) else s

/-- SMBT_SET_CAP (R430): the effect of PWR.SET_CAP; a cap out of range is not acknowledged. -/
def opSmbtSetCap (w : BitVec 16) (pec : Bool) (s : State) : State :=
  let cap := fld w 0 7
  let result (n : Nat) (s : State) : State := s.updMgt (fun g => { g with smbtResult := BitVec.ofNat 2 n })
  if !pec || !s.mgt.booted then s
  else if cap < 35 || 100 < cap then s.emit .smbtNack
  else if bit w 8 then
    if s.isMaster then (s.sheafCap (BitVec.ofNat 7 cap) none).updMgt (fun g => { g with smbtResult := 0 }) else result 1 s
  else result 0 (s.pendCap (BitVec.ofNat 7 cap) (s.frm.count + 2) none)

/-- SMBT_POWER (R430). -/
def opSmbtPower (pec : Bool) (s : State) : State :=
  if pec && s.mgt.booted then s.emit (.smbt [word [(0, (s.sensor 0x400).value.toNat)]]) else s

/-- SMBT_ALERT_ACK (R430). -/
def opSmbtAlertAck (pec : Bool) (s : State) : State :=
  if pec && s.mgt.booted then s.updMgt (fun g => { g with unacked := 0, alertLow := false }) else s

/-- ALERT_RESPONSE (R430): SMBT answers with its address while it drives the alert. -/
def opAlertResponse (s : State) : State :=
  if s.mgt.alertLow then s.emit (.smbt [word [(0, s.mgt.latchedSmbt.toNat)]]) else s

/-! ### USB and DFU (R431 to R436) -/

/-- The largest DFU block. -/
def dfuBlockSize : Nat := 4096

/-- A download ends in dfuERROR; the update state is IDLE once the bank has been erased (R435). -/
def State.dfuFails (st : DfuStatus) (s : State) : State :=
  let s := s.updMgt (fun g => { g with dfu := .error, dfuStatus := st })
  if s.mgt.stageCmd.isNone && (s.mgt.fw = .receiving || s.mgt.fw = .verifying) then s.setFw .idle else s

/-- DFU_DNLOAD (R432, R435): the first block starts the download and erases the bank; blocks are consecutive, of 4,096
bytes but for the last, and 24 MiB in all. -/
def opDfuDnload (block : BitVec 16) (data : List Byte) (s : State) : State :=
  match s.mgt.dfu with
  | .idle =>
    if s.mgt.fw != .idle && s.mgt.fw != .staged then s.dfuFails .errVendor
    else if block != 0 || dfuBlockSize < data.length || data.isEmpty then s.dfuFails .errAddress
    else
      (s.setFw .receiving).eraseInactive.updMgt (fun g => { g with
        dfu := .dnload, dfuStatus := .ok, dfuBlock := 1, stageData := data })
  | .dnload =>
    let held := s.mgt.stageData.length
    if block.toNat != s.mgt.dfuBlock % 65536 || held != dfuBlockSize * s.mgt.dfuBlock || dfuBlockSize < data.length ||
        imageLimit < held + data.length then s.dfuFails .errAddress
    else s.updMgt (fun g => { g with dfuBlock := g.dfuBlock + 1, stageData := g.stageData ++ data })
  | _ => s.emit .usbStall

/-- DFU_MANIFEST (R432, R435): the downloaded image is verified; in recovery a valid one is named by a new boot record,
and boot starts again (R409). -/
def opDfuManifest (s : State) : State :=
  if s.mgt.dfu != .dnload || s.mgt.fw != .receiving then s.emit .usbStall
  else
    let img := imageOf s.mgt.stageData
    let s := (s.updMgt (fun g => { g with dfu := .manifest, stageData := [] })).setFw .verifying
    match s.imageBad img with
    | some k =>
      let st : DfuStatus := match k with
        | .c1 => .errFile
        | .c5 => .errVendor
        | _ => .errVerify
      (s.rejectImage k).updMgt (fun g => { g with dfu := .error, dfuStatus := st })
    | none =>
      let bank := s.inactive
      let s := State.setFw .staged { s with flash := s.flash.setBank bank (some img) }
      let s := s.updMgt (fun g => { g with dfu := .idle, dfuStatus := .ok })
      if s.mgt.recovery then { s with flash := s.flash.writeRecord bank } else s

/-- DFU_DETACH (R431): stalled. -/
def opDfuDetach (s : State) : State := s.emit .usbStall

/-- USB_BUS_RESET (R436): a download ends, and service tickets end without records. -/
def opUsbBusReset (s : State) : State :=
  let down := s.mgt.stageCmd.isNone && (s.mgt.fw = .receiving || s.mgt.fw = .verifying)
  let s := if down then s.setFw .idle else s
  let s := s.updMgt (fun g => { g with
    dfu := .idle, dfuStatus := .ok, usbData := [], stageData := if down then [] else g.stageData })
  (s.updMb 17 (fun b => { b with tickets := [], staged := [] })).log 0x0C00 [(0, b2n down)]

/-- The bytes of a configuration item in flash (Table 15-11). -/
def Flash.item (n : Nat) (f : Flash) : Option (List Byte) :=
  if n = 1 then some (bytesLE 2 f.sheaf.toNat)
  else if n = 2 then some [f.pref]
  else if n = 3 then some [f.smbt]
  else if n = 4 then some [f.uart]
  else if n = 0x10 then some (f.segments.take 256 ++ List.replicate (256 - f.segments.length) 0)
  else none

/-- CONFIG_ITEM_READ (R434). -/
def opConfigItemRead (item : BitVec 16) (s : State) : State :=
  match s.flash.item item.toNat with
  | some bs => if s.mgt.recovery then s.emit .usbStall else s.emit (.usb bs)
  | none => s.emit .usbStall

/-- A configuration write, none where the item, its length or its range is wrong. -/
def Flash.setItem (n : Nat) (data : List Byte) (f : Flash) : Option Flash :=
  let v := ofBytesLE data
  if n = 1 && data.length = 2 && decide (v ≤ 4094) then some { f with sheaf := BitVec.ofNat 16 v }
  else if n = 2 && data.length = 1 && decide (v ≤ 15) then some { f with pref := BitVec.ofNat 8 v }
  else if n = 3 && data.length = 1 && decide (0x08 ≤ v) && decide (v ≤ 0x77) then some { f with smbt := BitVec.ofNat 8 v }
  else if n = 4 && data.length = 1 && decide (v ≤ 2) then some { f with uart := BitVec.ofNat 8 v }
  else if n = 0x10 && data.length = 256 then some { f with segments := data }
  else none

/-- CONFIG_ITEM_WRITE (R434): out of range it is stalled and changes nothing; it takes effect at the next cold reset. -/
def opConfigItemWrite (item : BitVec 16) (data : List Byte) (s : State) : State :=
  match s.flash.setItem item.toNat data with
  | some f => if s.mgt.recovery then s.emit .usbStall else { s with flash := f }
  | none => s.emit .usbStall

/-! ### The console (R437) -/

/-- `MGT.STATUS` (Table 15-12). -/
def State.mgtWord (s : State) : W64 :=
  let g := s.mgt
  let stuck := ((List.range 4).map (fun n => b2n (s.stuck n) * 2 ^ n)).foldl (· + ·) 0
  word [(0, b2n g.activeE), (1, b2n g.standbyOk), (2, b2n g.recovery), (3, b2n g.bootBank), (4, g.fw.code), (7, b2n g.dieW.held),
    (8, b2n g.dieE.held), (12, stuck), (16, g.failovers.toNat)]

/-- A console command of Choesk: none is accepted in recovery or before boot. -/
def State.console (ws : List W64) (s : State) : State := if s.mgt.booted then s.emit (.uart ws) else s

/-- UART_STATUS (R437). -/
def opUartStatus (s : State) : State := s.console [s.mgtWord]

/-- UART_LOG (R437): the last n records. -/
def opUartLog (n : Nat) (s : State) : State := s.console ((s.logHeld.drop (s.logHeld.length - n)).flatMap LogRec.words)

/-- UART_SENS (R437). -/
def opUartSens (sensor : BitVec 16) (s : State) : State :=
  if s.sensorKnown sensor.toNat then s.console [(s.sensor sensor.toNat).word] else s

/-- UART_LINK (R437). -/
def opUartLink (port : Fin 16) (s : State) : State := s.console (linkQueryWords port.val s)

/-! ### Meanings of the rows -/

/-- FW_STAGE (R415). -/
def execFwStage (m : Fin 18) (e : Entry) (s : State) : Host.Outcome State Fault Refusal :=
  .next (serve specFwStage m.val e s)

/-- FW_ACTIVATE (R416). -/
def execFwActivate (m : Fin 18) (e : Entry) (s : State) : Host.Outcome State Fault Refusal :=
  .next (serve specFwActivate m.val e s)

/-- FW_QUERY (R440). -/
def execFwQuery (m : Fin 18) (e : Entry) (s : State) : Host.Outcome State Fault Refusal :=
  .next (serve specFwQuery m.val e s)

/-- LOG_READ (R440). -/
def execLogRead (m : Fin 18) (e : Entry) (s : State) : Host.Outcome State Fault Refusal :=
  .next (serve specLogRead m.val e s)

/-- SENS_READ (R440). -/
def execSensRead (m : Fin 18) (e : Entry) (s : State) : Host.Outcome State Fault Refusal :=
  .next (serve specSensRead m.val e s)

/-- STANDBY_MIRRORED (R408). -/
def execStandbyMirrored (s : State) : Host.Outcome State Fault Refusal :=
  .next (s.whenClocked (opStandbyMirrored s))

/-- WATCHDOG_EXPIRY (R420). -/
def execWatchdogExpiry (die : Die) (s : State) : Host.Outcome State Fault Refusal :=
  .next (s.whenClocked (opWatchdogExpiry die s))

/-- STAGE_VERIFY_COMPLETE (R414). -/
def execStageVerifyComplete (_ _ : Unit) (s : State) : Host.Outcome State Fault Refusal :=
  .next (s.whenClocked (opStageVerifyComplete s))

/-- ACTIVATION_STANDBY_LOADED (R416). -/
def execActivationStandbyLoaded (valid : Bool) (s : State) : Host.Outcome State Fault Refusal :=
  .next (s.whenClocked (opActivationStandbyLoaded valid s))

/-- DFU_DNLOAD (R432). -/
def execDfuDnload (block : BitVec 16) (data : List Byte) (s : State) : Host.Outcome State Fault Refusal :=
  .next (s.whenClocked (opDfuDnload block data s))

/-- DFU_MANIFEST (R432). -/
def execDfuManifest (_ _ : Unit) (s : State) : Host.Outcome State Fault Refusal :=
  .next (s.whenClocked (opDfuManifest s))

/-- DFU_DETACH (R431). -/
def execDfuDetach (s : State) : Host.Outcome State Fault Refusal :=
  .next (s.whenClocked (opDfuDetach s))

/-- USB_BUS_RESET (R436). -/
def execUsbBusReset (s : State) : Host.Outcome State Fault Refusal :=
  .next (s.whenClocked (opUsbBusReset s))

/-- CONFIG_ITEM_READ (R434). -/
def execConfigItemRead (item : BitVec 16) (s : State) : Host.Outcome State Fault Refusal :=
  .next (s.whenClocked (opConfigItemRead item s))

/-- CONFIG_ITEM_WRITE (R434). -/
def execConfigItemWrite (item : BitVec 16) (data : List Byte) (s : State) : Host.Outcome State Fault Refusal :=
  .next (s.whenClocked (opConfigItemWrite item data s))

/-- LOG_RECORD_PROGRAM (R425). -/
def execLogRecordProgram (s : State) : Host.Outcome State Fault Refusal :=
  .next (s.whenClocked (opLogRecordProgram s))

/-- PMBUS_POLL (R422). -/
def execPmbusPoll (readings : List (Option (BitVec 16))) (s : State) : Host.Outcome State Fault Refusal :=
  .next (s.whenClocked (opPmbusPoll readings s))

/-- SMBUS_STRETCH_TIMEOUT (R428). -/
def execSmbusStretchTimeout (segment : BitVec 2) (address : BitVec 7) (command : BitVec 8) (s : State) : Host.Outcome State Fault Refusal :=
  .next (s.whenClocked (opSmbusStretchTimeout segment address command s))

/-- SMBUS_STUCK_RECOVERY (R429). -/
def execSmbusStuckRecovery (segment : BitVec 2) (sdaHigh : Bool) (s : State) : Host.Outcome State Fault Refusal :=
  .next (s.whenClocked (opSmbusStuckRecovery segment sdaHigh s))

/-- SMBUS_RECOVERY_RETRY (R429). -/
def execSmbusRecoveryRetry (segment : BitVec 2) (sdaHigh : Bool) (s : State) : Host.Outcome State Fault Refusal :=
  .next (s.whenClocked (opSmbusRecoveryRetry segment sdaHigh s))

/-- SMBT_STATUS (R430). -/
def execSmbtStatus (pec : Bool) (s : State) : Host.Outcome State Fault Refusal :=
  .next (s.whenClocked (opSmbtStatus pec s))

/-- SMBT_SET_CAP (R430). -/
def execSmbtSetCap (w : BitVec 16) (pec : Bool) (s : State) : Host.Outcome State Fault Refusal :=
  .next (s.whenClocked (opSmbtSetCap w pec s))

/-- SMBT_POWER (R430). -/
def execSmbtPower (pec : Bool) (s : State) : Host.Outcome State Fault Refusal :=
  .next (s.whenClocked (opSmbtPower pec s))

/-- SMBT_ALERT_ACK (R430). -/
def execSmbtAlertAck (pec : Bool) (s : State) : Host.Outcome State Fault Refusal :=
  .next (s.whenClocked (opSmbtAlertAck pec s))

/-- ALERT_RESPONSE (R430). -/
def execAlertResponse (s : State) : Host.Outcome State Fault Refusal :=
  .next (s.whenClocked (opAlertResponse s))

/-- UART_STATUS (R437). -/
def execUartStatus (s : State) : Host.Outcome State Fault Refusal :=
  .next (s.whenClocked (opUartStatus s))

/-- UART_LOG (R437). -/
def execUartLog (n : Nat) (s : State) : Host.Outcome State Fault Refusal :=
  .next (s.whenClocked (opUartLog n s))

/-- UART_SENS (R437). -/
def execUartSens (sensor : BitVec 16) (s : State) : Host.Outcome State Fault Refusal :=
  .next (s.whenClocked (opUartSens sensor s))

/-- UART_LINK (R437). -/
def execUartLink (port : Fin 16) (s : State) : Host.Outcome State Fault Refusal :=
  .next (s.whenClocked (opUartLink port s))

/-- AON_TIMER_TICK (R419). -/
def execAonTimerTick (s : State) : Host.Outcome State Fault Refusal :=
  .next (s.whenClocked (opAonTimerTick s))

end Sys2Proof.Machine
end

