-- ==== Sys2Proof/Machine/Regs.lean ====
section
/-! DEFINITION. The PCIe endpoint (R71 to R74, R444), the register map of BAR0 (R66, R76, R130, R160, R263, R297, R330,
R405, R438, R464), and the consumption of commands from the rings (R69, R82). -/

namespace Sys2Proof.Machine

open Sys2Proof

/-! ### Register words -/

/-- `MBX.STATUS` (Table 3-1). -/
def Mailbox.statusWord (b : Mailbox) : W64 :=
  word [(0, b2n b.enable), (1, b2n b.resetBusy), (2, b2n b.error), (4, b.errCode.code), (8, b.staged.length)]

/-- The MBX registers at an offset (Table 3-1). -/
def Mailbox.reg (off : Nat) (b : Mailbox) : Option W64 :=
  match off with
  | 0x00 => some b.cmdBase
  | 0x08 => some b.cplBase
  | 0x10 => some (word [(0, b.cmdLog2.toNat), (4, b.cplLog2.toNat), (8, b2n b.enable)])
  | 0x18 => some (word [(0, b.cmdTail.toNat)])
  | 0x20 => some (word [(0, b.cmdHead.toNat)])
  | 0x28 => some (word [(0, b.cplHead.toNat)])
  | 0x30 => some (word [(0, b.cplTail.toNat), (13, b2n b.phase)])
  | 0x38 => some (word [(0, b.irqCount.toNat), (8, b.irqFrames.toNat)])
  | 0x40 => some 0
  | 0x48 => some b.statusWord
  | 0x50 => some (word [(0, b.ended.toNat)])
  | _ => none

/-- Operations of partition p in flight on a die. -/
def State.slotsUsed (p d : Nat) (s : State) : Nat := ((s.partOps p).filter (fun o => o.die == d)).length

/-- A SEQ register of partition p (Table 5-9). -/
def State.seqReg (p off : Nat) (s : State) : Option W64 :=
  let x := s.seqp p
  let rows := (s.part p).rows
  match off with
  | 0x00 => some (word [(0, s.slotsUsed p 0), (12, s.slotsUsed p 1), (24, 256 * maskOn rows 0), (36, 256 * maskOn rows 1)])
  | 0x08 => some (word [(0, x.stall.toNat), (16, x.descErr.toNat), (32, x.fenceLeft.toNat)])
  | 0x10 => some (word [(0, x.retired.toNat)])
  | _ => none

/-- An XLT register of a die (Table 4-11). -/
def State.xltReg (d off : Nat) (s : State) : Option W64 :=
  let x := s.xlt.regs.get {} d
  match off with
  | 0x00 => some (word [(0, x.hit.toNat), (32, x.missDev.toNat), (48, x.missHost.toNat)])
  | 0x08 => some (word [(0, x.invalHost.toNat), (16, x.invalChoesk.toNat), (32, s.xlt.invals.length)])
  | 0x10 => some (word [(0, (s.pagesIn .free).length), (9, (s.pagesIn .scrubbing).length), (18, (s.pagesIn .quarantined).length)])
  | _ => none

/-- `PLN.STATUS` of a partition (Table 9-7). -/
def PlnPart.statusWord (x : PlnPart) : W64 :=
  word [(0, x.holdFrames.toNat), (16, x.noRecord.toNat), (32, x.discard.toNat), (48, x.empty.toNat)]

/-- `PLN.PASS` (Table 9-7). -/
def Pln.passWord (p : Pln) : W64 := word [(0, p.cycles.toNat), (18, p.cut.toNat), (28, p.placed.toNat), (38, b2n p.standby)]

/-- `PLN.EVENTS` (Table 9-7). -/
def Pln.eventsWord (p : Pln) : W64 := word [(0, p.takeover.toNat), (16, p.replaced.toNat), (32, p.holds.toNat)]

/-- `PLK.LANEn` (Table 11-9). -/
def Lane.regWord (l : Lane) : W64 :=
  word [(0, l.uncorr.toNat), (16, l.bipErr.toNat), (32, l.lockLoss.toNat), (40, l.margin.toNat), (52, b2n l.stuck)]

/-- A PLK register of a port (Table 11-9). -/
def Port.reg (off : Nat) (p : Port) : Option W64 :=
  match off with
  | 0x00 => some p.stateWord
  | 0x08 => some p.errWord
  | 0x10 => some (word [(0, p.corrected.toNat)])
  | 0x18 => some (word [(0, p.lat.toNat), (16, b2n p.latValid)])
  | _ => if decide (0x40 ≤ off) && decide (off < 0x80) && off % 8 == 0 then some (p.lane ((off - 0x40) / 8)).regWord else none

/-- A PWR register of the package (Table 14-4). -/
def Pwr.reg (off : Nat) (w : Pwr) : Option W64 :=
  match off with
  | 0x00 => some w.capWord
  | 0x08 => some w.thermWord
  | 0x10 => some w.baseWord
  | 0x18 => some w.slewWord
  | _ => none

/-- A PWR register of partition p (Table 14-4). -/
def State.pwrReg (p off : Nat) (s : State) : Option W64 :=
  let x := s.pwrp p
  match off with
  | 0x00 => some x.creditWord
  | 0x08 => some x.statWord
  | 0x10 => some (word [(0, x.retired.toNat)])
  | 0x18 => some (word [(0, x.fill.toNat), (32, (s.part p).energy.toNat)])
  | _ => none

/-- `ATB.RESET` (Table 16-7). -/
def Por.resetWord (p : Por) : W64 :=
  word [(0, p.cause.toNat), (4, p.faultGroup.toNat), (8, p.tripTemp.toNat), (16, p.tripSensor.toNat), (22, p.faults.toNat)]

/-- `ATB.STATE` (Table 16-7). -/
def State.atbWord (s : State) : W64 :=
  word ([0, 1, 2, 3].map (fun b => (8 * b, (s.por.nodes.get 0 b).toNat)) ++
    [(32, s.por.land.toNat), (36, b2n s.por.atbJtag), (37, s.ten.badRows.toNat)])

/-! ### The map of BAR0 -/

/-- A register of Table 3-1 and of the other chapters that a BAR0 offset names. -/
inductive Reg where
  | mbx (off : Nat)
  | count | config | sync
  | frmStatus (p : Nat)
  | xlt (die off : Nat)
  | seq (p off : Nat)
  | plnPass | plnEvents
  | plnStatus (p : Nat)
  | engine (e : Nat)
  | cq (p q : Nat)
  | plk (port off : Nat)
  | pwr (off : Nat)
  | pwrPart (p off : Nat)
  | mgtStatus | mgtLog
  | atbReset | atbState
  deriving DecidableEq, Repr

/-- Block i of `count` blocks of `size` bytes from `base` that an offset lies in, with the offset inside it. -/
def inBlock (base size count off : Nat) : Option (Nat × Nat) :=
  if base ≤ off && off < base + size * count then some ((off - base) / size, (off - base) % size) else none

/-- The register of PF0's BAR0 at an offset. -/
def regPf (off : Nat) : Option Reg :=
  match inBlock 0x200 8 16 off, inBlock 0x400 0x20 2 off, inBlock 0x600 0x20 16 off, inBlock 0x900 0x10 16 off with
  | some (p, 0), _, _, _ => some (.frmStatus p)
  | _, some (d, o), _, _ => some (.xlt d o)
  | _, _, some (p, o), _ => some (.seq p o)
  | _, _, _, some (p, 0) => some (.plnStatus p)
  | _, _, _, _ =>
    match inBlock 0xA00 8 17 off, inBlock 0xC00 0x80 16 off, inBlock 0x1400 0x20 1 off, inBlock 0x1500 0x20 16 off with
    | some (e, 0), _, _, _ => some (.engine e)
    | _, some (i, o), _, _ => some (.plk i o)
    | _, _, some (_, o), _ => some (.pwr o)
    | _, _, _, some (p, o) => some (.pwrPart p o)
    | _, _, _, _ =>
      match off with
      | 0x100 => some .count
      | 0x108 => some .config
      | 0x110 => some .sync
      | 0x800 => some .plnPass
      | 0x808 => some .plnEvents
      | 0x1800 => some .mgtStatus
      | 0x1808 => some .mgtLog
      | 0x1C00 => some .atbReset
      | 0x1C08 => some .atbState
      | _ => if off < 0x58 then some (.mbx off) else none

/-- The register of VFn's BAR0 at an offset; p is the VF's partition. -/
def regVf (p off : Nat) : Option Reg :=
  match inBlock 0x600 0x20 1 off, inBlock 0xA00 0x20 1 off, inBlock 0xB00 8 16 off with
  | some (_, o), _, _ => some (.seq p o)
  | _, some (_, o), _ => some (.pwrPart p o)
  | _, _, some (q, 0) => some (.cq p q)
  | _, _, _ =>
    match off with
    | 0x100 => some .count
    | 0x200 => some (.frmStatus p)
    | 0x900 => some (.plnStatus p)
    | _ => if off < 0x58 then some (.mbx off) else none

/-- The register at an offset of a function's BAR0. -/
def regAt (fn off : Nat) : Option Reg := if fn = 0 then regPf off else regVf (fn - 1) off

/-- The value a register reads, none where the offset within its block is not implemented. -/
def State.regRead (fn : Nat) (r : Reg) (s : State) : Option W64 :=
  match r with
  | .mbx off => (s.mb fn).reg off
  | .count => some (word [(0, s.frm.count.toNat)])
  | .config => some s.frm.configWord
  | .sync => some s.frm.syncWord
  | .frmStatus p => some (s.frmp p).statusWord
  | .xlt d off => s.xltReg d off
  | .seq p off => s.seqReg p off
  | .plnPass => some s.pln.passWord
  | .plnEvents => some s.pln.eventsWord
  | .plnStatus p => some (s.plnp p).statusWord
  | .engine e => some (s.engineWord e)
  | .cq p q => some (s.cqWord p q)
  | .plk i off => (s.port i).reg off
  | .pwr off => s.pwr.reg off
  | .pwrPart p off => s.pwrReg p off
  | .mgtStatus => some s.mgtWord
  | .mgtLog => some s.logWord
  | .atbReset => some s.por.resetWord
  | .atbState => some s.atbWord

/-- What a read clears: the RC fields of the register (Table 0-2). -/
def State.regClear (r : Reg) (s : State) : State :=
  match r with
  | .frmStatus p => s.updFrmp p (fun x => { x with overrun := 0 })
  | .xlt d 0x00 => s.updXltRegs d (fun x => { x with hit := 0, missDev := 0, missHost := 0 })
  | .xlt d 0x08 => s.updXltRegs d (fun x => { x with invalHost := 0, invalChoesk := 0 })
  | .seq p 0x08 => s.updSeqp p (fun x => { x with descErr := 0, fenceLeft := 0 })
  | .plnEvents => s.updPln (fun p => { p with takeover := 0, replaced := 0, holds := 0 })
  | .plnStatus p => s.updPlnp p (fun _ => {})
  | .engine e => s.updEngine e (fun x => { x with recomputes := 0 })
  | .plk i 0x08 => s.updPort i (fun p => { p with
      crcFail := 0, replays := 0, exhaust := 0, retrains := 0, bursts := 0, falseLock := 0 })
  | .plk i 0x10 => s.updPort i (fun p => { p with corrected := 0 })
  | .plk i off =>
    if 0x40 ≤ off then s.updPort i (fun p => p.updLane ((off - 0x40) / 8) (fun l => { l with uncorr := 0, bipErr := 0, lockLoss := 0 }))
    else s
  | .pwr 0x18 => s.updPwr (fun w => { w with startWaits := 0, clockSteps := 0 })
  | .pwrPart p 0x08 => s.updPwrp p (fun x => { x with passed := 0, idle := 0, oversize := 0 })
  | .pwrPart p 0x18 => s.updPwrp p (fun x => { x with fill := 0 })
  | .mgtStatus => s.updMgt (fun g => { g with failovers := 0 })
  | _ => s

/-- The register a host access of a function reaches, with the value it reads: none where the offset is not
implemented. -/
def State.regOf (fn off : Nat) (s : State) : Option (Reg × W64) :=
  match regAt fn off with
  | none => none
  | some r => (s.regRead fn r).map (fun v => (r, v))

/-! ### Host accesses (R10, R13, R73, R74) -/

/-- Reports an endpoint error: 0 correctable, 1 uncorrectable non-fatal, 2 fatal (R74). -/
def State.aer (fn kind off : Nat) (write : Bool) (s : State) : State :=
  State.emitPcie (.aer fn kind) { s with pcie := { s.pcie with aerLog := s.pcie.aerLog ++ [(fn, off, write)] } }

/-- An Unsupported Request: a read completes with that status, a write is dropped; both are reported (R73, R74). -/
def State.unsupported (fn off : Nat) (write : Bool) (s : State) : State :=
  let s := if write then s else s.emit (.unsupported fn)
  s.aer fn 1 off write

/-- READ_CLEAR (R13): the value read, then its RC fields cleared. -/
def opReadClear (fn : Fin 17) (off : BitVec 32) (s : State) : State :=
  if !s.fnExists fn.val then s
  else match s.regOf fn.val off.toNat with
    | none => s.unsupported fn.val off.toNat false
    | some (r, v) => (s.regClear r).emit (.read v)

/-- MBX.IRQ_CFG: a count of 0 stores 1 (Table 3-1). -/
def Mailbox.setIrq (v : W64) (b : Mailbox) : Mailbox :=
  { b with
    irqCount := if fld v 0 8 = 0 then 1 else BitVec.ofNat 8 (fld v 0 8), irqFrames := BitVec.ofNat 8 (fld v 8 8) }

/-- A write to an MBX register: a register with behaviour of its own does what its row says (R76, R77). -/
def State.mbxWrite (fn : Fin 17) (off : Nat) (v : W64) (s : State) : State :=
  match off with
  | 0x00 => if (s.mb fn.val).enable then s else s.updMb fn.val (fun b => { b with cmdBase := v })
  | 0x08 => if (s.mb fn.val).enable then s else s.updMb fn.val (fun b => { b with cplBase := v })
  | 0x10 => opMbxRingCfgWrite fn v s
  | 0x18 => opDoorbell fn v s
  | 0x28 => opMbxCplHeadWrite fn v s
  | 0x38 => s.updMb fn.val (fun b => b.setIrq v)
  | 0x40 => if bit v 0 then opMailboxReset fn s else s
  | _ => s

/-- REGISTER_WRITE (R10, R13): RW and W1C fields take the write, every other field ignores it. -/
def opRegisterWrite (fn : Fin 17) (off : BitVec 32) (v : W64) (s : State) : State :=
  if !s.fnExists fn.val then s
  else match s.regOf fn.val off.toNat with
    | none => s.unsupported fn.val off.toNat true
    | some (.mbx o, _) => s.mbxWrite fn o v
    | some (.frmStatus p, _) => if bit v 34 then s.updFrmp p (fun x => { x with slackLate := false }) else s
    | some (.cq p q, _) => s.updCommq p q (fun x => { x with head := BitVec.ofNat 12 (fld v 0 12) })
    | some _ => s

/-- UNSUPPORTED_REQUEST (R73): an offset that no register has. -/
def opUnsupportedRequest (fn : Fin 17) (off : BitVec 32) (write : Bool) (s : State) : State :=
  if s.fnExists fn.val && (s.regOf fn.val off.toNat).isNone then s.unsupported fn.val off.toNat write else s

/-- PCIE_ERROR (R74): reported through AER; a failed command fetch is an error of the mailbox (R80), a failed transfer of
a job kills its context (R116) with the address, die and slot of the access (R127), and a failed read of a command's
buffer makes that read fail. -/
def opPcieError (fn : Fin 17) (err : PcieErr) (s : State) : State :=
  match err with
  | .correctable => s.aer fn.val 0 0 false
  | .internal => s.aer fn.val 2 0 false
  | .fetch =>
    let s := s.aer fn.val 1 0 false
    if s.fnExists fn.val && (s.mb fn.val).enable then s.mbxError fn.val .cmdFetchFault else s
  | .data die tag ticket slot dva write =>
    let w : Who := { die := die.num, tag := tag, ticket := ticket, slot := slot }
    (s.aer fn.val 1 0 write).killStart (w.fault .translationFault 0x08 write dva.toNat (dvaWin dva.toNat)) none
  | .argument addr =>
    let s := s.aer fn.val 1 0 false
    { s with pcie := { s.pcie with failLines := s.pcie.failLines ++ [addr.toNat / 64] } }
  | .other => s.aer fn.val 1 0 false

/-! ### Vectors, functions and the link (R71, R72, R100, R444) -/

/-- MSIX_UNMASK (R100): MSI-X Enable and the unmasked vectors as the host leaves them; those pending that may be signalled
now are sent, lowest first. -/
def opMsixUnmask (fn : Fin 17) (enable : Bool) (vectors : List Nat) (s : State) : State :=
  if !s.fnExists fn.val then s
  else
    let now := if enable then (s.fn fn.val).pendingVec.filter (fun v => vectors.contains v) else []
    let s := s.updFn fn.val (fun f => { f with
      msixEnable := enable, unmasked := vectors, pendingVec := f.pendingVec.filter (fun v => !now.contains v) })
    now.foldl (fun s v => s.emitPcie (.msix fn.val v)) s

/-- A function loses its configuration space, its MSI-X table and ATS Enable, with what was under way for it (R444,
R446). -/
def State.clearFn (fn : Nat) (s : State) : State :=
  (s.updFn fn (fun _ => {})).updXlt (fun x => { x with
    invals := x.invals.filter (fun v => v.2.1 != fn), reqs := x.reqs.filter (fun r => r.part + 1 != fn) })

/-- The reset of one function (R444): its mailbox is reset by R101, and the window translations of its partition are
dropped by a shootdown. -/
def State.resetFn (fn : Nat) (s : State) : State :=
  let s := (s.clearFn fn).resetMailbox fn
  if fn = 0 then s else s.shootdown (fn - 1) [] (List.range 256) .nothing

/-- NumVFs takes a value: VFs that it removes undergo a function-level reset (R71). -/
def State.setNumVfs (n : Nat) (s : State) : State :=
  let gone := (List.range 17).filter (fun k => decide (n < k) && decide (k ≤ s.pcie.numVfs.toNat))
  let s := gone.foldl (fun s k => s.resetFn k) s
  { s with pcie := { s.pcie with numVfs := BitVec.ofNat 5 n } }

/-- NUMVFS_WRITE (R71): from 0 to TotalVFs = 16; while configuration requests are answered with Retry Status nothing is
written (R444). -/
def opNumvfsWrite (n : BitVec 5) (s : State) : State :=
  if s.pcie.configRetry || 16 < n.toNat then s else s.setNumVfs n.toNat

/-- FUNCTION_LEVEL_RESET (R444): one of PF0 resets every VF too. -/
def opFunctionLevelReset (fn : Fin 17) (s : State) : State :=
  if s.pcie.configRetry || !s.fnExists fn.val then s
  else if fn.val = 0 then (s.setNumVfs 0).resetFn 0
  else s.resetFn fn.val

/-- PERST_ASSERT (R444): the PCIE domain and the configuration space of every function clear; every mailbox is reset by
R101. Without clocks only the pin is low. -/
def opPerstAssert (s : State) : State :=
  if !s.clocked then { s with pcie := { s.pcie with perstLow := true, link := .down } }
  else
    let n := s.pcie.numVfs.toNat
    let s := (List.range 17).foldl (fun s k => s.clearFn k) s
    let s := (List.range (n + 1)).foldl (fun s k => s.resetMailbox k) s
    { s with pcie := { perstLow := true, refclk := s.pcie.refclk } }

/-- A training of the link: x16 or x8 is up, anything else is a failure that is logged and retried (R72). -/
def State.trainPcie (width : BitVec 5) (speed : BitVec 3) (s : State) : State :=
  if width = 16 || width = 8 then { s with pcie := { s.pcie with link := .up, width := width, speed := speed } }
  else
    let n := s.takeFree
    let s := n.2.writeLog (Config.pcieEvent n.1).toNat .none none 0
    { s with pcie := { s.pcie with link := .detect, width := 0, speed := 0 } }

/-- PERST_RELEASE (R444): the link trains; configuration requests get Retry Status until boot completes. -/
def opPerstRelease (width : BitVec 5) (speed : BitVec 3) (s : State) : State :=
  if !s.pcie.perstLow then s
  else
    let s := { s with
      pcie := { s.pcie with perstLow := false, configRetry := !s.mgt.booted && !s.mgt.recovery } }
    if s.pcieAlive then s.trainPcie width speed else s

/-- PCIE_LINK_RETRY (R72): the LTSSM goes from Detect through a training. -/
def opPcieLinkRetry (width : BitVec 5) (speed : BitVec 3) (s : State) : State :=
  if !s.pcie.perstLow && s.pcieAlive && (s.pcie.link = .detect || s.pcie.link = .training) then s.trainPcie width speed else s

/-! ### Meanings of the rows -/

/-- READ_CLEAR (R13). -/
def execReadClear (fn : Fin 17) (off : BitVec 32) (s : State) : Host.Outcome State Fault Refusal :=
  .next (s.whenPcie (opReadClear fn off s))

/-- REGISTER_WRITE (R10). -/
def execRegisterWrite (fn : Fin 17) (off : BitVec 32) (v : W64) (s : State) : Host.Outcome State Fault Refusal :=
  .next (s.whenPcie (opRegisterWrite fn off v s))

/-- UNSUPPORTED_REQUEST (R73). -/
def execUnsupportedRequest (fn : Fin 17) (off : BitVec 32) (write : Bool) (s : State) : Host.Outcome State Fault Refusal :=
  .next (s.whenPcie (opUnsupportedRequest fn off write s))

/-- NUMVFS_WRITE (R71). -/
def execNumvfsWrite (n : BitVec 5) (s : State) : Host.Outcome State Fault Refusal :=
  .next (s.whenPcie (opNumvfsWrite n s))

/-- MSIX_UNMASK (R100). -/
def execMsixUnmask (fn : Fin 17) (enable : Bool) (vectors : List Nat) (s : State) : Host.Outcome State Fault Refusal :=
  .next (s.whenPcie (opMsixUnmask fn enable vectors s))

/-- FUNCTION_LEVEL_RESET (R444). -/
def execFunctionLevelReset (fn : Fin 17) (s : State) : Host.Outcome State Fault Refusal :=
  .next (s.whenPcie (opFunctionLevelReset fn s))

/-- PERST_ASSERT (R444). -/
def execPerstAssert (s : State) : Host.Outcome State Fault Refusal :=
  .next (opPerstAssert s)

/-- PERST_RELEASE (R444). -/
def execPerstRelease (width : BitVec 5) (speed : BitVec 3) (s : State) : Host.Outcome State Fault Refusal :=
  .next (opPerstRelease width speed s)

/-- PCIE_LINK_RETRY (R72). -/
def execPcieLinkRetry (width : BitVec 5) (speed : BitVec 3) (s : State) : Host.Outcome State Fault Refusal :=
  .next (s.whenClocked (opPcieLinkRetry width speed s))

/-- PCIE_ERROR (R74). -/
def execPcieError (fn : Fin 17) (err : PcieErr) (s : State) : Host.Outcome State Fault Refusal :=
  .next (s.whenPcie (opPcieError fn err s))

end Sys2Proof.Machine
end

