-- ==== Sys2Proof/Machine/Rx.lean ====
section
/-! DEFINITION. What reaches Choesk: commands from the rings in rotation (R69, R78, R82), flits from the ports and the
messages they carry (R315, R316, R345), leads of spans that take over (R352, R374), and the end of an activation (R416,
R417). -/

namespace Sys2Proof.Machine

open Sys2Proof

/-! ### Commands from the rings -/

/-- Every command of Table 3-8. -/
def commandSpecs : List Spec :=
  [specDevInfo, specJobSubmit, specJobAbort, specJobQuery, specAdmSet, specAdmQuery, specFrameQuery, specFrameSetPeriod,
    specFrameSetOverrunLimit, specFrameSetPreference, specCtxCreate, specCtxDestroy, specCtxKill, specCtxQuery,
    specCtxPostmortem, specMemAlloc, specMemFree, specMemMapHost, specMemUnmapHost, specMemQuery] ++
  [specBoundSet, specBoundGet, specKvAlloc, specKvRelease, specKvInsert, specKvLookup, specKvEvict, specKvQuery,
    specSfuLoadTable, specSfuUnloadTable, specSfuLoadProgram, specSfuQuery, specFlowDeclare, specFlowWithdraw, specFlowQuery,
    specGroupDefine, specGroupRelease, specGroupQuery, specCommqCreate, specCommqDestroy] ++
  [specLinkQuery, specLinkRetrain, specLinkRetire, specSheafQuery, specPartCreate, specPartStart, specPartResume,
    specPartFence, specPartReset, specPartTeardown, specPartQuery, specSpanCreate, specSpanJoin, specSpanLeave,
    specSpanDestroy, specSpanQuery, specPwrSetCap, specPwrQuery, specFwStage, specFwActivate, specFwQuery, specLogRead,
    specSensRead, specAtbSelect, specAtbSample, specTestMbist]

/-- The command of an opcode, none where Table 3-8 has none. -/
def specOf (op : BitVec 16) : Option Spec := commandSpecs.find? (fun sp => sp.opcode == op)

/-- The command entry in a ring slot: its opcode and the rest (Table 3-2). -/
def entryAt (slot : BitVec 12) (w : BitVec 1024) : BitVec 16 × Entry :=
  (BitVec.ofNat 16 (fld w 32 16),
    { ticket := BitVec.ofNat 32 (fld w 0 32), ctx := BitVec.ofNat 6 (fld w 48 6), irq := bit w 56, noDefer := bit w 57
      admitAck := bit w 58, cost := BitVec.ofNat 32 (fld w 64 32), slot := slot
      reserved := fld w 54 2 != 0 || fld w 59 5 != 0 || fld w 96 32 != 0
      args := (List.range 14).map (fun n => BitVec.ofNat 64 (fld w (128 + 64 * n) 64)) })

/-- The functions in this frame's order of visits (R69). -/
def State.rotation (s : State) : List Nat := (List.range 17).map (fun i => (s.adm.first + i) % 17)

/-- The mailbox served next: the first in rotation order that has an entry and whose commands Choesk can consume. -/
def State.nextMailbox (s : State) : Option Nat :=
  s.rotation.find? (fun m => s.canConsume m && (s.mb m).cmdHead != (s.mb m).cmdTail)

/-- COMMAND_FETCH (R69, R78): the entry at CMD_HEAD of the mailbox served next is copied and consumed. -/
def opCommandFetch (s : State) : State :=
  match s.nextMailbox with
  | none => s
  | some m =>
    let b := s.mb m
    let h := b.cmdHead
    let e := entryAt h (BitVec.ofNat 1024 (s.host.readLE (b.cmdBase.toNat + 128 * h.toNat) 128))
    let s := s.updMb m (fun b => { b with cmdHead := if h.toNat + 1 = b.cmdSize then 0 else h + 1 })
    consume (specOf e.1) e.1 m e.2 s

/-! ### Acting leads (R352, R374) -/

/-- The acting lead of a span as this member computes it: the first from the creator on that it does not hold
unreachable. -/
def State.actingLead (x : Span) (s : State) : Nat :=
  (x.fromCreator.find? (fun k => k == s.self || !(s.fab.dist.get {} k).unreachable)).getD s.self

/-- The declarations this package has forwarded for a span. -/
def State.declarations (span : BitVec 16) (s : State) : List Declared := s.pln.declared.filter (fun d => d.span == span)

/-- The flow of a reported declaration: nothing of it placed, a recurring one from the first frame not yet committed. -/
def Declared.flow (now : FrameNo) (pkg : Nat) (d : Declared) : Flow :=
  let first := if d.r != 0 && later now d.earliest then now else d.earliest
  { num := d.num, seq := d.seq, pkg := pkg, key := d.key, src := d.src, dst := d.dst, n := d.n, earliest := first
    latest := if d.r != 0 && first != d.earliest then first + BitVec.ofNat 48 (d.r - 1) else d.latest, r := d.r, c := d.c }

/-- A new lead enters reported declarations under their old numbers in admission-sequence order; one that never got a
number is declared anew (step 3 of R374). -/
def State.enterDeclarations (span : BitVec 16) (ds : List Declared) (pkg : Nat) (s : State) : State :=
  let rho := ((s.span? span).map (·.rho)).getD 0
  let now := planFrame rho (s.frm.count + 2)
  let s := s.updLead span (fun l =>
    (ds.filter (·.known)).foldl (fun (l : LeadSpan) d =>
      if l.flows.any (fun x => x.num == d.num) then l
      else { l with
        flows := insertFlow (d.flow now pkg) l.flows
        nextSeq := if l.nextSeq.toNat ≤ d.seq.toNat then d.seq + 1 else l.nextSeq }) l)
  (ds.filter (fun d => !d.known && pkg < 128)).foldl (fun s d => opFlowDeclarationReceive d (Fin.ofNat 128 pkg) s) s

/-- This member becomes acting lead (step 1 of R374): an empty flow table with its own declarations, a notice to every
other member, and a record. -/
def State.takeLead (x : Span) (s : State) : State :=
  let s := s.updSpan x.id (fun x => { x with lead := s.self })
  let s := s.updPln (fun p => { p with
    leads := p.leads.filter (fun l => l.span != x.id) ++ [{ span := x.id, shares := [(s.self, (s.part x.part).share)] }] })
  let s := s.enterDeclarations x.id (s.declarations x.id) s.self
  let s := s.sendAll (x.ring.filter (fun k => k != s.self)) (.leadTakeover x.id s.self)
  s.log 0x0500 [(0, x.id.toNat), (16, x.rho.toNat)]

/-- Computes the acting lead of every ACTIVE span again; a lead stays lead until it meets another (R374). -/
def State.refreshLeads (s : State) : State :=
  (s.ten.spans.filter (fun x => x.state == .active && x.lead != s.self)).foldl (fun s x =>
    let k := s.actingLead x
    if k = s.self then s.takeLead x else s.updSpan x.id (fun x => { x with lead := k })) s

/-- REACHABILITY_CHANGE (R352): four rounds at distance 15, or below it, are reported and logged. -/
def opReachabilityChange (pkg : Fin 128) (s : State) : State :=
  let k := pkg.val
  let e := s.fab.dist.get {} k
  let lost := !e.unreachable && decide (4 ≤ e.farRounds)
  let back := e.unreachable && decide (4 ≤ e.nearRounds)
  if k = s.self || !(lost || back) then s
  else
    let s := s.updFab (fun g => { g with
      dist := g.dist.upd {} k (fun e => { e with unreachable := lost }), reachChanges := satAdd g.reachChanges 1 })
    let s := s.log 0x0802 [(0, k), (7, b2n back)]
    let s := if lost then s.groupsLose k else s
    s.refreshLeads

/-- The later of two acting leads in ring order from the creator yields: it drops its tables and forwards its own
declarations to the other (R374). -/
def State.resolveLeads (span : BitVec 16) (pkg : Nat) (s : State) : State :=
  match s.span? span with
  | none => s
  | some x =>
    let place (k : Nat) : Nat := (x.fromCreator.takeWhile (fun j => j != k)).length
    if x.lead != s.self || pkg == s.self || !x.ring.contains pkg || place s.self < place pkg then s
    else
      let ds := s.declarations span
      let s := s.updSpan span (fun x => { x with lead := pkg })
      let s := s.updPln (fun p => { p with
        leads := p.leads.filter (fun l => l.span != span), toSend := p.toSend.filter (fun r => r.span != span) })
      (s.send pkg (.leadReply span x.rho ds s.self (s.part x.part).share)).log 0x0500 [(0, span.toNat), (16, x.rho.toNat)]

/-- DUAL_LEAD_RESOLVE (R374). -/
def opDualLeadResolve (span : BitVec 16) (pkg : Fin 128) (s : State) : State := s.resolveLeads span pkg.val

/-- LEAD_TAKEOVER_NOTICE_RECEIVE (step 2 of R374): answered with the own declarations, ρ and shares, and the ports that are
not usable at full width; an acting lead meets the other. -/
def opLeadTakeoverNoticeReceive (span : BitVec 16) (pkg : Fin 128) (s : State) : State :=
  match s.span? span with
  | none => s
  | some x =>
    if x.lead = s.self then s.resolveLeads span pkg.val
    else (s.send pkg.val (.leadReply span x.rho (s.declarations span) s.self (s.part x.part).share)).tellPorts pkg.val

/-- LEAD_DECLARATION_REPLY_RECEIVE (step 3 of R374): the new lead takes the largest ρ and the declarations. -/
def opLeadDeclarationReplyReceive (span : BitVec 16) (rho : BitVec 32) (decls : List Declared) (pkg : Fin 128)
    (shares : BitVec 32) (s : State) : State :=
  match s.span? span with
  | none => s
  | some x =>
    if x.lead != s.self || !x.ring.contains pkg.val then s
    else
      let s := s.updSpan span (fun x => { x with rho := if x.rho.toNat < rho.toNat then rho else x.rho })
      let s := s.updLead span (fun l => { l with
        shares := if l.shares.any (fun y => y.1 == pkg.val) then l.shares else l.shares ++ [(pkg.val, shares)] })
      s.enterDeclarations span decls pkg.val

/-! ### Messages -/

/-- What a message to Choesk does once Choesk takes it, by its row or its rule. -/
def State.takeMsg (src : Nat) (m : Msg) (s : State) : State :=
  let from_ : Fin 128 := Fin.ofNat 128 src
  match m with
  | .kill f c o t sp => opKillNoticeReceive f c o t sp s
  | .overrun sp f k => opOverrunNoticeReceive sp f (Fin.ofNat 128 k) s
  | .spanHold sp h rho => opSpanHoldReceive sp h rho s
  | .flowDeclare d k => opFlowDeclarationReceive d (Fin.ofNat 128 k) s
  | .flowWithdraw sp f k c => s.leadWithdraw sp f k c
  | .flowQuery sp f sum fr k c => s.leadQuery sp f sum fr k c
  | .flowResult d oc rs ws fin => (s.takeFlowResult d oc rs ws fin).groupsProgress
  | .flowAnswer c oc rs ws => s.finish c oc rs ws
  | .flowFreed sp f => s.takeFlowFreed sp f
  | .periodProposal p sl => opPeriodProposalReceive p sl s
  | .periodAck k => opPeriodAckReceive (Fin.ofNat 128 k) s
  | .spanJoin sp k sh => opJoinFlitReceive sp (Fin.ofNat 128 k) sh s
  | .spanRefuse sp rs n => s.spanFails sp rs n
  | .leaveAsk sp k => s.answerLeave sp k
  | .leaveReply sp ok => s.takeLeaveReply sp ok
  | .spanActive sp ring _ => opSpanActiveReceive sp ring s
  | .spanEnd sp => opSpanEndReceive sp s
  | .spanDead sp => opSpanDeadReceive sp from_ s
  | .spanDeadAck sp k => s.updSpan sp (fun x => { x with unacked := x.unacked.filter (fun j => j != k) })
  | .leadTakeover sp k => opLeadTakeoverNoticeReceive sp (Fin.ofNat 128 k) s
  | .leadReply sp rho ds k sh => opLeadDeclarationReplyReceive sp rho ds (Fin.ofNat 128 k) sh s
  | .groupReady sp n k crc => opGroupReadyReceive sp (BitVec.ofNat 8 n) (Fin.ofNat 128 k) crc s
  | .groupActive sp n => opGroupActiveReceive sp (BitVec.ofNat 8 n) s
  | .groupFail sp n oc rs => s.takeGroupFail sp n oc rs
  | .groupLoss sp n k killed => opGroupLossReceive sp (BitVec.ofNat 8 n) (Fin.ofNat 128 k) killed s
  | .groupWatchdog sp n => s.groupWatchdog sp n
  | .groupMismatch sp n _ => s.takeMismatch sp n
  | .groupRepair sp n round lost restart => opRepairAnnounceReceive sp (BitVec.ofNat 8 n) round lost restart s
  | .health f port h w k _ =>
    opHealthNoticeReceive f (Fin.ofNat 16 port) (BitVec.ofNat 2 h) (BitVec.ofNat 2 w) (Fin.ofNat 128 k) s
  | .capSet cap f k => opCapSetReceive cap f (Fin.ofNat 128 k) s
  | .capAck cap f k => opCapAckReceive cap f (Fin.ofNat 128 k) s
  | .marker _ | .planRecord _ | .width .. | .beacon _ | .hello _ | .nak _ | .txeq .. | .tstamp | .dozeReq | .dozeAck | .wake
  | .creditReturn _ | .creditData .. => s

/-- A control flit addressed to this package: markers, plan records and WIDTH notices act in hardware, the rest goes to
Choesk (R417). -/
def State.deliver (src : Nat) (m : Msg) (s : State) : State :=
  match m with
  | .marker k => opRoutedMarkerReceive (Fin.ofNat 128 src) k s
  | .planRecord r =>
    let s := opPlanRecordReceive r true s
    if r.lead = s.self then s else s.resolveLeads r.span r.lead
  | .width port lanes => opWidthReceive (Fin.ofNat 16 port) lanes s
  | m => s.toChoesk src m (s.takeMsg src m)

/-- A LOCAL flit, for the package at this end of the link alone (R310, R311). A direct marker and an outer hello do their
work by the rows that bring their time of arrival (log entry 10). -/
def State.takeLocal (port : Fin 16) (m : Msg) (s : State) : State :=
  let o : Fin 4 := Fin.ofNat 4 (port.val - 12)
  match m with
  | .nak q => opNakReceive port q s
  | .txeq lane up => opTxeqReceive port (Fin.ofNat 8 lane) up s
  | .width _ lanes => opWidthReceive port lanes s
  | .dozeReq => opDozeReqReceive port s
  | .dozeAck => opDozeAckReceive port s
  | .wake => opWakeReceive port s
  | .beacon b => opBeaconReceive port b s
  | .creditReturn n => if 12 ≤ port.val then opCreditReturnReceive o (BitVec.ofNat 7 n) s else s
  | .creditData ch _ bs => if 12 ≤ port.val then opCreditDataReceive o (BitVec.ofNat 4 ch) bs s else s
  | _ => s

/-- The LINKCTL flits (R311): a NAK names the SEQ it expects in ACK_SEQ. The exchange a TSTAMP belongs to gives its result
with PORT_BRINGUP and RETRAIN_END (R54); for RESUME the spec gives no effect. -/
def State.takeLinkctl (port : Fin 16) (a : Arrival) (s : State) : State :=
  match a.flit.sub with
  | 1 => s.takeLocal port (.nak (a.ack.getD 0))
  | _ => match a.flit.msg with
    | some m => s.takeLocal port m
    | none => s

/-- An accepted flit: a cell's, one for the package at this end of the link, one addressed to this package, or one in
transit (R310, R345, R348). A MISWIRED port carries beacons and hellos only (R336); outer ports carry no planned cells and no
routed control flits (R353). -/
def State.takeFlit (port : Fin 16) (f : Flit) (s : State) : State :=
  let i := port.val
  if (s.nbr i).miswired && f.type != 6 then (if f.control then s.discardFlit i f else s)
  else if f.type = 1 then (if 12 ≤ i then s else s.cellFlit i f)
  else match f.dst with
    | none =>
      match s.gatherFlit i (128 + i) f with
      | (s, some fs) => (match msgOf fs with
        | some m => s.takeLocal port m
        | none => s)
      | (s, none) => s
    | some k =>
      if 12 ≤ i then s.discardFlit i f
      else if k != s.self then s.enterTransit i f
      else match s.gatherFlit i f.src f with
        | (s, some fs) => (match msgOf fs with
          | some m => s.deliver f.src m
          | none => if fs.length = 1 then s else s.discardFlit i f)
        | (s, none) => s

/-- FLIT_RECEIVE (R306, R310, R315, R316): 256 bytes arrive. With a bad CRC, a reserved TYPE or a reserved bit set they are
discarded as R316 says; a flit accepted by its SEQ acts. A WIDTH flit is taken on any locked lane of a port that is not UP
(R325). -/
def opFlitReceive (port : Fin 16) (raw : BitVec 2048) (said : Said) (s : State) : State :=
  let i := port.val
  match flitOf raw said with
  | none => if (s.port i).up then s.crcFailed i else s
  | some a =>
    if !(s.port i).up then
      match a.flit.msg with
      | some (.width _ lanes) => if a.flit.type = 9 && (s.port i).lockedMask != 0 then opWidthReceive port lanes s else s
      | _ => s
    else match s.rxFlit i a with
      | (s, none) => s
      | (s, some f) => if f.type = 9 then s.takeLinkctl port a else s.takeFlit port f

/-! ### The end of an activation (R416, R417) -/

/-- What was held while no complex served is taken in order; flits that found no place are counted in one record. -/
def State.releaseInbound (s : State) : State :=
  let ms := s.mgt.inbound
  let n := s.mgt.inboundLost
  let s := s.updMgt (fun g => { g with inbound := [], inboundLost := 0 })
  let s := ms.foldl (fun s x => s.takeMsg x.1 x.2) s
  if n = 0 then s else s.log 0x00FF [(0, 0x00FF), (16, min n (2 ^ 32 - 1))]

/-- ACTIVATION_TAKEOVER (R416): code 0, the new image passed its restore and self-checks and becomes active; otherwise the
old complex resumes, and the command reports the code. -/
def opActivationTakeover (code : BitVec 2) (s : State) : State :=
  if s.mgt.act != .restoring then s
  else
    let s := match s.flash.bank s.inactive with
      | some i => if code = 0 then s.takeOver i else s.activationFails code.toNat
      | none => s.activationFails (max 1 code.toNat)
    s.releaseInbound

/-! ### Meanings of the rows -/

/-- COMMAND_FETCH (R69). -/
def execCommandFetch (s : State) : Host.Outcome State Fault Refusal :=
  .next (s.whenPcie (opCommandFetch s))

/-- REACHABILITY_CHANGE (R352). -/
def execReachabilityChange (pkg : Fin 128) (s : State) : Host.Outcome State Fault Refusal :=
  .next (s.whenClocked (opReachabilityChange pkg s))

/-- LEAD_TAKEOVER_NOTICE_RECEIVE (R374). -/
def execLeadTakeoverNoticeReceive (span : BitVec 16) (pkg : Fin 128) (s : State) :
    Host.Outcome State Fault Refusal :=
  .next (s.whenClocked (s.toChoesk pkg.val (.leadTakeover span pkg.val)
    (opLeadTakeoverNoticeReceive span pkg s)))

/-- LEAD_DECLARATION_REPLY_RECEIVE (R374). -/
def execLeadDeclarationReplyReceive (span : BitVec 16) (rho : BitVec 32) (decls : List Declared) (pkg : Fin 128) (shares : BitVec 32) (s : State) :
    Host.Outcome State Fault Refusal :=
  .next (s.whenClocked (s.toChoesk pkg.val (.leadReply span rho decls pkg.val shares)
    (opLeadDeclarationReplyReceive span rho decls pkg shares s)))

/-- DUAL_LEAD_RESOLVE (R374). -/
def execDualLeadResolve (span : BitVec 16) (pkg : Fin 128) (s : State) : Host.Outcome State Fault Refusal :=
  .next (s.whenClocked (opDualLeadResolve span pkg s))

/-- FLIT_RECEIVE (R315). -/
def execFlitReceive (port : Fin 16) (head : BitVec 96) (payload : BitVec 1920) (crc : BitVec 32) (said : Said) (s : State) :
    Host.Outcome State Fault Refusal :=
  .next (s.whenClocked (opFlitReceive port (flitBits head payload crc) said s))

/-- ACTIVATION_TAKEOVER (R416). -/
def execActivationTakeover (code : BitVec 2) (s : State) : Host.Outcome State Fault Refusal :=
  .next (s.whenClocked (opActivationTakeover code s))

end Sys2Proof.Machine
end

