-- ==== Sys2Proof/Machine/Frame.lean ====
section
/-! DEFINITION. The two ticks of a frame: the commit instant (R39) with everything that takes effect at it, and the slack
start (R41). -/

namespace Sys2Proof.Machine

open Sys2Proof

/-! ### Overrun (R44 to R49) -/

/-- A circulation receive is exempt because its source has overrun and the span will hold for it (R49, Table 9-6), which
this package cannot know yet: a free value (log entry 89). -/
def State.exempt (n p c : Nat) (d : Desc) (s : State) : Bool :=
  d.kind == 6 && Config.sourceOverran n (((s.ctxSpan p c).map (fun x => x.id.toNat)).getD 0) d.flow

/-- A frame-bound operation of partition p that belongs to frame f has not retired: one in flight, or a planned one among
the candidates that has not issued (R42, R44); or a transfer whose cells have left in frame f has not been delivered at its
destination, which only the destination knows: a free value (log entry 88). -/
def State.late (n p : Nat) (f : FrameNo) (s : State) : Bool :=
  s.seq.ops.any (fun o => o.part == p && o.desc.frameBound && o.belongs == f && !s.exempt n p o.ctx o.desc) ||
    (s.cands p).any (fun c => c.desc.any (fun d =>
      d.planned && d.frameBound && !s.malformed p c d && s.belongs p c.ctx d == f && !s.exempt n p c.ctx d)) ||
    s.pln.sentNow.any (fun x => x.1 == p && Config.undelivered n x.2.1.toNat x.2.2)

/-- The ACTIVE spans of a partition. -/
def State.spansOf (p : Nat) (s : State) : List Span := s.ten.spans.filter (fun x => x.part == p && x.state == .active)

/-- An overrun notice to the lead of every span of the partition (R48). -/
def State.overrunNotices (p : Nat) (f : FrameNo) (s : State) : State :=
  (s.spansOf p).foldl (fun s x =>
    let m : Msg := .overrun x.id f s.self
    if x.lead = s.self then s.toChoesk s.self m (opOverrunNoticeReceive x.id f (Fin.ofNat 128 s.self) s)
    else s.send x.lead m) s

/-- OVERRUN_EVALUATION of partition p for the frame that ends (R44 to R48, R67): counts, vector 4, the jobs' counts, the
notices, and the kill of every context beyond the limit. -/
def State.judge (n p : Nat) (f : FrameNo) (s : State) : State :=
  let s := match (s.frmp p).nextLimit with
    | some l => s.updFrmp p (fun x => { x with limit := l, nextLimit := none })
    | none => s
  let x := s.frmp p
  if (s.part p).state = .running && s.synced && s.late n p f then
    let c := x.consec.toNat + 1
    let kill := decide (x.limit.toNat < c)
    let s := s.updFrmp p (fun x => { x with
      overrun := satAdd x.overrun 1, consec := if kill then 0 else BitVec.ofNat 9 c, overran := true, overFrame := f
      waiting := !(s.spansOf p).isEmpty, waitRho := (s.spansOf p).map (fun x => (x.id, x.rho)) })
    let s := s.updAdm (fun a => { a with
      jobs := a.jobs.map (fun (j : Job) =>
        if j.part == p && j.admFrame.any (fun g => !later g f) then { j with overruns := j.overruns + 1 } else j) })
    let s := (s.fireVec (p + 1) 4).overrunNotices p f
    if kill then s.killAll p .frameOverrunLimit else s
  else if x.consec = 0 && !x.overran then s
  else s.updFrmp p (fun x => { x with consec := 0, overran := false })

/-! ### Plans (step 3 of R39, R48, R251, R253 to R256) -/

/-- A member holds a record for this frame of every ACTIVE span of the partition. -/
def State.hasRecords (p : Nat) (s : State) : Bool :=
  (s.spansOf p).all (fun x => s.pln.loaded.any (fun r => r.span == x.id && r.frame == s.frm.count))

/-- What a send of the partition has not sent yet, in bytes. -/
def State.remainder (o : Op) (s : State) : Nat :=
  (o.h * o.m - o.iter) * (o.desc.tm * o.desc.tn) + (s.unsent o.id).length

/-- At resumption what late sends have left becomes continuations of their flows, once (R256). -/
def State.continueSends (p : Nat) (s : State) : State :=
  let ops := s.seq.ops.filter (fun o =>
    o.part == p && o.desc.sends && !o.continued && later s.frm.count o.belongs && decide (0 < s.remainder o))
  let s := s.updSeq (fun q => { q with
    ops := q.ops.map (fun o => if ops.any (fun x => x.id == o.id) then { o with continued := true } else o) })
  ops.foldl (fun s o =>
    match s.span? o.span with
    | none => s
    | some x =>
      let first := planFrame x.rho s.frm.count
      let d : Declared := {
        span := x.id, num := o.desc.flow, seq := 0, src := s.self, dst := o.sendDst.getD 0
        n := (s.remainder o + cellBytes - 1) / cellBytes, earliest := first, latest := first + 15, r := 0, c := 0
        key := .rest o.belongs }
      if x.lead = s.self then s.toChoesk s.self (.flowDeclare d s.self) (opFlowDeclarationReceive d (Fin.ofNat 128 s.self) s)
      else s.declare x.lead d) s

/-- A partition that waits resumes once each of its spans has moved on from the ρ it had at the overrun and has a record
of the new ρ for this frame (R48, R257). -/
def State.resumes (p : Nat) (s : State) : Bool :=
  (s.frmp p).waiting && (s.spansOf p).all (fun x =>
    !(s.frmp p).waitRho.contains (x.id, x.rho) &&
      s.pln.loaded.any (fun r => r.span == x.id && r.frame == s.frm.count && r.rebase == x.rho))

/-- A partition runs the hold plan in the frame that begins (R45, R48, R56, R60). -/
def State.mustHold (p : Nat) (s : State) : Bool :=
  let x := s.frmp p
  !s.synced || x.overran || x.waiting || x.spanHold || !s.hasRecords p

/-- The hold plan of partition p for this frame: `FRM.STATUS.HOLD` and the counts of R263. -/
def State.planPart (p : Nat) (s : State) : State :=
  if (s.part p).state = .absent then
    if (s.frmp p).hold then s.updFrmp p (fun x => { x with hold := false }) else s
  else
    let h := s.mustHold p
    let none_ := !s.hasRecords p
    let s := if h == (s.frmp p).hold then s else s.updFrmp p (fun x => { x with hold := h })
    if h || none_ then s.updPlnp p (fun x => { x with
      holdFrames := if h then satAdd x.holdFrames 1 else x.holdFrames, noRecord := if none_ then satAdd x.noRecord 1 else x.noRecord })
    else s

/-- The switch to the plan of the new frame: transit cells of earlier frames are discarded, data of sends that have ended
is dropped, ring-out directions are decided, and the records of partitions that do not hold come into force. -/
def State.switchPlans (s : State) : State :=
  let lo := BitVec.ofNat 8 s.frm.count.toNat
  let old := s.pln.transit.flatMap (fun x => x.2.filter (fun c => c.frameLo != lo))
  let s := old.foldl (fun s c => s.discardCell c) s
  let s := (List.range 16).foldl (fun s p => s.planPart p) s
  let outs := (s.ten.spans.filter (fun x => x.state == .active)).filterMap (fun x => (s.ringOut x).map (fun i => (x.id, i)))
  let force := s.pln.loaded.filter (fun r => r.frame == s.frm.count && s.ten.spans.any (fun x =>
    x.id == r.span && x.state == .active && !(s.frmp x.part).hold))
  let ids := s.seq.ops.map (·.id)
  s.updPln (fun q => { q with
    transit := q.transit.map (fun (x : Nat × List Transit) => (x.1, x.2.filter (fun c => c.frameLo == lo)))
    sends := q.sends.filter (fun x => ids.contains x.1), ringOuts := outs, current := force, loaded := [], sentNow := [] })

/-! ### The parts of a commit instant -/

/-- The frame counter (R35, R37): the first commit instant after an election starts frame 0, every other adds one. -/
def Frm.advance (f : Frm) : Frm := { f with count := if f.started then f.count + 1 else 0, started := true, phase := .work }

/-- Stalled frames of every partition (R153). -/
def State.countStalls (s : State) : State :=
  (List.range 16).foldl (fun s p =>
    let q := s.seqp p
    let busy := s.seq.ops.any (fun o => o.part == p)
    if !busy && q.stall = 0 && !q.retiredNow && !q.movedNow && !q.fenceHold then s
    else s.updSeqp p (fun q => { q with
      stall := if busy && !q.retiredNow && !q.movedNow then satAdd q.stall 1 else 0, retiredNow := false, movedNow := false
      fenceHold := false })) s

/-- A mailbox at a commit instant: its shares of the frame start again, ages grow (R69, R100, R102, R138). -/
def Mailbox.newFrame (b : Mailbox) : Mailbox :=
  { b with consumed := 0, checked := 0, age := b.age.map (· + 1), busyFrames := if b.resetBusy then b.busyFrames + 1 else 0 }

/-- The droop detectors report once a frame (Table 15-7). -/
def State.readDroops (s : State) : State :=
  if !s.mgt.booted then s
  else
    let n := s.takeFree
    (List.range 16).foldl (fun s r => s.readSensor (0x200 + r) (some (Config.droops n.1 r))) n.2

/-- What Choesk and the counters do at a commit instant. -/
def State.frameCounts (s : State) : State :=
  let s := { s with mbx := s.mbx.map (fun (x : Nat × Mailbox) => (x.1, x.2.newFrame)) }
  let s := s.updAdm (fun a => { a with first := (a.first + 1) % 17 })
  let s := s.updFab (fun g => { g with statusFrames := g.statusFrames + 1 })
  let s := if s.synced && s.frm.role != .standalone then s.updMgt Mgt.watchdogCount else s
  let s := s.countStalls.readDroops
  if s.serving then s.resumeChecks else s

/-- The energy side of a commit instant: a pending cap, θ and the clocks, the base charge, the credit of the new frame, and
the locked operations (R383, R384, R386, R391, R398 to R402). -/
def State.energyCommit (old : BitVec 3) (s : State) : State :=
  let s := s.capCommit.thermalCommit (periodNs old)
  let s := s.updPwr (fun w => (w.baseCommit old s.frm.period).countHolds)
  s.loadCredit.lockOps

/-- COMMIT_INSTANT (R39): the counter advances, overrun is judged for the frame that ended, states, periods (with the
partitions whose start it held, R364), spans, ports and synchronisation move on, plans switch, markers leave, credit loads,
chunk stages and planning passes run, and issue opens.
Nothing happens before frames are counted. -/
def opCommitInstant (s : State) : State :=
  if s.frm.phase = .stopped then s
  else
    let ended := s.frm.count
    let old := s.frm.period
    let first := !s.frm.started
    let s := (s.flushLogCounts.updFrm Frm.advance).failover.emit .frameOut
    let n := s.takeFree
    let s := if first then s else (List.range 16).foldl (fun s p => s.judge n.1 p ended) n.2
    let s := (List.range 16).foldl (fun s p => s.partCommit p) s
    let s := s.spanCommit.holdCommit
    let go := (List.range 16).filter (fun p => s.resumes p && !(s.frmp p).overran)
    let s := go.foldl (fun s p => s.updFrmp p (fun x => { x with waiting := false, waitRho := [] })) s
    let s := s.updPln (fun q => { q with current := q.loaded.filter (fun r => r.frame == s.frm.count) })
    let per := s.periodCommit
    let s := if per.2 then (List.range 16).foldl (fun s p => s.partCommit p) per.1 else per.1
    let s := (List.range 16).foldl (fun s i => s.portCommit i) s
    let s := s.syncCommit.switchPlans
    let s := go.foldl (fun s p => s.continueSends p) s
    let s := s.sendMarkers.energyCommit old
    let s := s.sfuCommit.redCommit.groupsProgress
    (s.planPasses per.2).frameCounts

/-! ### The slack start (R41) -/

/-- Records accepted for the next frame load into the port slot tables (R251). -/
def Pln.loadRecords (next : FrameNo) (q : Pln) : Pln :=
  { q with loaded := q.accepted.filter (fun r => r.frame == next), accepted := [] }

/-- SLACK_START (R41, Table 2-2): records load, port health and HOTTEST are evaluated, HBM retraining steps run, and Choesk
runs the admission pass and kicks its watchdog. -/
def opSlackStart (s : State) : State :=
  if s.frm.phase != .work then s
  else
    let s := s.updFrm (fun f => { f with phase := .slack })
    let s := s.updPln (fun q => q.loadRecords (s.frm.count + 1))
    let s := (List.range 16).foldl (fun s i => s.evalHealth i) s
    let s := s.evalHottest.countIdle
    let s := if s.serving then s.admissionPass else s
    let s := s.hbmStep
    if s.mgt.booted && !s.mgt.failoverDue then s.updMgt Mgt.kick else s

/-! ### Meanings of the rows -/

/-- COMMIT_INSTANT (R39). -/
def execCommitInstant (s : State) : Host.Outcome State Fault Refusal :=
  .next (s.whenClocked (opCommitInstant s))

/-- SLACK_START (R41). -/
def execSlackStart (s : State) : Host.Outcome State Fault Refusal :=
  .next (s.whenClocked (opSlackStart s))

end Sys2Proof.Machine
end

