-- ==== Sys2Proof/Machine/Dispatch.lean ====
section
/-! DEFINITION. The one dispatch of the commands and events to their meanings, one arm per constructor. -/

namespace Sys2Proof.Machine

open Sys2Proof

def exec (i : Instr) (s : State) : Host.Outcome State Fault Refusal :=
  match i with
  | .devInfo m e => Sys2Proof.Machine.execDevInfo m e s
  | .frameQuery m e => Sys2Proof.Machine.execFrameQuery m e s
  | .frameSetPeriod m e => Sys2Proof.Machine.execFrameSetPeriod m e s
  | .frameSetOverrunLimit m e => Sys2Proof.Machine.execFrameSetOverrunLimit m e s
  | .frameSetPreference m e => Sys2Proof.Machine.execFrameSetPreference m e s
  | .jobSubmit m e => Sys2Proof.Machine.execJobSubmit m e s
  | .jobAbort m e => Sys2Proof.Machine.execJobAbort m e s
  | .jobQuery m e => Sys2Proof.Machine.execJobQuery m e s
  | .admSet m e => Sys2Proof.Machine.execAdmSet m e s
  | .admQuery m e => Sys2Proof.Machine.execAdmQuery m e s
  | .partCreate m e => Sys2Proof.Machine.execPartCreate m e s
  | .partStart m e => Sys2Proof.Machine.execPartStart m e s
  | .partFence m e => Sys2Proof.Machine.execPartFence m e s
  | .partResume m e => Sys2Proof.Machine.execPartResume m e s
  | .partReset m e => Sys2Proof.Machine.execPartReset m e s
  | .partTeardown m e => Sys2Proof.Machine.execPartTeardown m e s
  | .partQuery m e => Sys2Proof.Machine.execPartQuery m e s
  | .spanCreate m e => Sys2Proof.Machine.execSpanCreate m e s
  | .spanJoin m e => Sys2Proof.Machine.execSpanJoin m e s
  | .spanLeave m e => Sys2Proof.Machine.execSpanLeave m e s
  | .spanDestroy m e => Sys2Proof.Machine.execSpanDestroy m e s
  | .spanQuery m e => Sys2Proof.Machine.execSpanQuery m e s
  | .ctxCreate m e => Sys2Proof.Machine.execCtxCreate m e s
  | .ctxDestroy m e => Sys2Proof.Machine.execCtxDestroy m e s
  | .ctxKill m e => Sys2Proof.Machine.execCtxKill m e s
  | .ctxQuery m e => Sys2Proof.Machine.execCtxQuery m e s
  | .ctxPostmortem m e => Sys2Proof.Machine.execCtxPostmortem m e s
  | .ctxPostmortemAdopt m e => Sys2Proof.Machine.execCtxPostmortemAdopt m e s
  | .memAlloc m e => Sys2Proof.Machine.execMemAlloc m e s
  | .memFree m e => Sys2Proof.Machine.execMemFree m e s
  | .memMapHost m e => Sys2Proof.Machine.execMemMapHost m e s
  | .memUnmapHost m e => Sys2Proof.Machine.execMemUnmapHost m e s
  | .memQuery m e => Sys2Proof.Machine.execMemQuery m e s
  | .boundSet m e => Sys2Proof.Machine.execBoundSet m e s
  | .boundGet m e => Sys2Proof.Machine.execBoundGet m e s
  | .kvAllocPool m e => Sys2Proof.Machine.execKvAllocPool m e s
  | .kvAllocFresh m e => Sys2Proof.Machine.execKvAllocFresh m e s
  | .kvAllocShare m e => Sys2Proof.Machine.execKvAllocShare m e s
  | .kvAllocWrite m e => Sys2Proof.Machine.execKvAllocWrite m e s
  | .kvRelease m e => Sys2Proof.Machine.execKvRelease m e s
  | .kvReleasePool m e => Sys2Proof.Machine.execKvReleasePool m e s
  | .kvInsert m e => Sys2Proof.Machine.execKvInsert m e s
  | .kvLookup m e => Sys2Proof.Machine.execKvLookup m e s
  | .kvEvictSubtree m e => Sys2Proof.Machine.execKvEvictSubtree m e s
  | .kvEvictOldest m e => Sys2Proof.Machine.execKvEvictOldest m e s
  | .kvEvictAll m e => Sys2Proof.Machine.execKvEvictAll m e s
  | .kvQuery m e => Sys2Proof.Machine.execKvQuery m e s
  | .sfuLoadTable m e => Sys2Proof.Machine.execSfuLoadTable m e s
  | .sfuUnloadTable m e => Sys2Proof.Machine.execSfuUnloadTable m e s
  | .sfuLoadProgram m e => Sys2Proof.Machine.execSfuLoadProgram m e s
  | .sfuQuery m e => Sys2Proof.Machine.execSfuQuery m e s
  | .flowDeclare m e => Sys2Proof.Machine.execFlowDeclare m e s
  | .flowWithdraw m e => Sys2Proof.Machine.execFlowWithdraw m e s
  | .flowQuery m e => Sys2Proof.Machine.execFlowQuery m e s
  | .groupDefine m e => Sys2Proof.Machine.execGroupDefine m e s
  | .groupRelease m e => Sys2Proof.Machine.execGroupRelease m e s
  | .groupQuery m e => Sys2Proof.Machine.execGroupQuery m e s
  | .commqCreate m e => Sys2Proof.Machine.execCommqCreate m e s
  | .commqDestroy m e => Sys2Proof.Machine.execCommqDestroy m e s
  | .pwrSetCapPackage m e => Sys2Proof.Machine.execPwrSetCapPackage m e s
  | .pwrSetCapSheaf m e => Sys2Proof.Machine.execPwrSetCapSheaf m e s
  | .pwrQuery m e => Sys2Proof.Machine.execPwrQuery m e s
  | .linkQuery m e => Sys2Proof.Machine.execLinkQuery m e s
  | .linkRetrainFast m e => Sys2Proof.Machine.execLinkRetrainFast m e s
  | .linkRetrainFull m e => Sys2Proof.Machine.execLinkRetrainFull m e s
  | .linkRetire m e => Sys2Proof.Machine.execLinkRetire m e s
  | .sheafQuery m e => Sys2Proof.Machine.execSheafQuery m e s
  | .fwStage m e => Sys2Proof.Machine.execFwStage m e s
  | .fwActivate m e => Sys2Proof.Machine.execFwActivate m e s
  | .fwQuery m e => Sys2Proof.Machine.execFwQuery m e s
  | .logRead m e => Sys2Proof.Machine.execLogRead m e s
  | .sensRead m e => Sys2Proof.Machine.execSensRead m e s
  | .atbSelect m e => Sys2Proof.Machine.execAtbSelect m e s
  | .atbSample m e => Sys2Proof.Machine.execAtbSample m e s
  | .testMbist m e => Sys2Proof.Machine.execTestMbist m e s
  | .mbxRingCfgWrite fn v => Sys2Proof.Machine.execMbxRingCfgWrite fn v s
  | .doorbell fn v => Sys2Proof.Machine.execDoorbell fn v s
  | .mbxCplHeadWrite fn v => Sys2Proof.Machine.execMbxCplHeadWrite fn v s
  | .mailboxReset fn => Sys2Proof.Machine.execMailboxReset fn s
  | .redCqHeadWrite p q v => Sys2Proof.Machine.execRedCqHeadWrite p q v s
  | .slackLateClear p => Sys2Proof.Machine.execSlackLateClear p s
  | .readClear fn off => Sys2Proof.Machine.execReadClear fn off s
  | .registerWrite fn off v => Sys2Proof.Machine.execRegisterWrite fn off v s
  | .unsupportedRequest fn off write => Sys2Proof.Machine.execUnsupportedRequest fn off write s
  | .numvfsWrite n => Sys2Proof.Machine.execNumvfsWrite n s
  | .atsEnableWrite fn on => Sys2Proof.Machine.execAtsEnableWrite fn on s
  | .msixUnmask fn enable vectors => Sys2Proof.Machine.execMsixUnmask fn enable vectors s
  | .functionLevelReset fn => Sys2Proof.Machine.execFunctionLevelReset fn s
  | .perstAssert => Sys2Proof.Machine.execPerstAssert s
  | .perstRelease width speed => Sys2Proof.Machine.execPerstRelease width speed s
  | .pcieLinkRetry width speed => Sys2Proof.Machine.execPcieLinkRetry width speed s
  | .pcieError fn err => Sys2Proof.Machine.execPcieError fn err s
  | .commandFetch => Sys2Proof.Machine.execCommandFetch s
  | .completionWrite m => Sys2Proof.Machine.execCompletionWrite m s
  | .irqAgeExpiry fn => Sys2Proof.Machine.execIrqAgeExpiry fn s
  | .mailboxResetDone fn => Sys2Proof.Machine.execMailboxResetDone fn s
  | .mailboxResetWatchdog fn => Sys2Proof.Machine.execMailboxResetWatchdog fn s
  | .commitInstant => Sys2Proof.Machine.execCommitInstant s
  | .planCommit => Sys2Proof.Machine.execPlanCommit s
  | .planRecordSend => Sys2Proof.Machine.execPlanRecordSend s
  | .planRecordReceive r good => Sys2Proof.Machine.execPlanRecordReceive r good s
  | .slackStart => Sys2Proof.Machine.execSlackStart s
  | .markerReceive port k arrival => Sys2Proof.Machine.execMarkerReceive port k arrival s
  | .routedMarkerReceive src k => Sys2Proof.Machine.execRoutedMarkerReceive src k s
  | .markerTimeout => Sys2Proof.Machine.execMarkerTimeout s
  | .holdoverExpiry => Sys2Proof.Machine.execHoldoverExpiry s
  | .deputyTakeover => Sys2Proof.Machine.execDeputyTakeover s
  | .fullReelection => Sys2Proof.Machine.execFullReelection s
  | .periodProposalReceive period slack => Sys2Proof.Machine.execPeriodProposalReceive period slack s
  | .periodChangeAcknowledge => Sys2Proof.Machine.execPeriodChangeAcknowledge s
  | .periodAckReceive pkg => Sys2Proof.Machine.execPeriodAckReceive pkg s
  | .periodChangeAbandon => Sys2Proof.Machine.execPeriodChangeAbandon s
  | .overrunNoticeReceive span frame pkg => Sys2Proof.Machine.execOverrunNoticeReceive span frame pkg s
  | .spanHoldReceive span h rho => Sys2Proof.Machine.execSpanHoldReceive span h rho s
  | .flowDeclarationReceive d pkg => Sys2Proof.Machine.execFlowDeclarationReceive d pkg s
  | .healthNoticeReceive frame port health width pkg => Sys2Proof.Machine.execHealthNoticeReceive frame port health width pkg s
  | .plannerTakeover => Sys2Proof.Machine.execPlannerTakeover s
  | .cellWindow port slot => Sys2Proof.Machine.execCellWindow port slot s
  | .beaconRound => Sys2Proof.Machine.execBeaconRound s
  | .beaconReceive port b => Sys2Proof.Machine.execBeaconReceive port b s
  | .dupFlagClear pkg => Sys2Proof.Machine.execDupFlagClear pkg s
  | .keyExpiry pkg => Sys2Proof.Machine.execKeyExpiry pkg s
  | .neighbourVectorExpiry port => Sys2Proof.Machine.execNeighbourVectorExpiry port s
  | .electionClose => Sys2Proof.Machine.execElectionClose s
  | .deputyRename => Sys2Proof.Machine.execDeputyRename s
  | .standaloneReopen => Sys2Proof.Machine.execStandaloneReopen s
  | .reachabilityChange pkg => Sys2Proof.Machine.execReachabilityChange pkg s
  | .leadTakeoverNoticeReceive span pkg => Sys2Proof.Machine.execLeadTakeoverNoticeReceive span pkg s
  | .leadDeclarationReplyReceive span rho decls pkg shares => Sys2Proof.Machine.execLeadDeclarationReplyReceive span rho decls pkg shares s
  | .dualLeadResolve span pkg => Sys2Proof.Machine.execDualLeadResolve span pkg s
  | .controlFlitForward port => Sys2Proof.Machine.execControlFlitForward port s
  | .outerHelloReceive port h arrival => Sys2Proof.Machine.execOuterHelloReceive port h arrival s
  | .creditDataSend o channel bytes => Sys2Proof.Machine.execCreditDataSend o channel bytes s
  | .creditDataReceive o channel bytes => Sys2Proof.Machine.execCreditDataReceive o channel bytes s
  | .creditReturn o => Sys2Proof.Machine.execCreditReturn o s
  | .creditReturnReceive o count => Sys2Proof.Machine.execCreditReturnReceive o count s
  | .sheafStatusSend => Sys2Proof.Machine.execSheafStatusSend s
  | .alignmentMarkerReceive port lane raw between skew => Sys2Proof.Machine.execAlignmentMarkerReceive port lane raw between skew s
  | .portBringup port order stamps margins => Sys2Proof.Machine.execPortBringup port order stamps margins s
  | .bringupTimeout port => Sys2Proof.Machine.execBringupTimeout port s
  | .flitReceive port head payload crc said => Sys2Proof.Machine.execFlitReceive port head payload crc said s
  | .nakReceive port seq => Sys2Proof.Machine.execNakReceive port seq s
  | .nakResend port => Sys2Proof.Machine.execNakResend port s
  | .replayTimeout port => Sys2Proof.Machine.execReplayTimeout port s
  | .fastRetrain port => Sys2Proof.Machine.execFastRetrain port s
  | .trainReceive port => Sys2Proof.Machine.execTrainReceive port s
  | .retrainEnd port closed stamps => Sys2Proof.Machine.execRetrainEnd port closed stamps s
  | .retrainRestart port => Sys2Proof.Machine.execRetrainRestart port s
  | .burstStart port => Sys2Proof.Machine.execBurstStart port s
  | .burstEnd port dur => Sys2Proof.Machine.execBurstEnd port dur s
  | .burstQuarantine port => Sys2Proof.Machine.execBurstQuarantine port s
  | .recalibrationEnd port margins => Sys2Proof.Machine.execRecalibrationEnd port margins s
  | .probationEnd port => Sys2Proof.Machine.execProbationEnd port s
  | .stuckLane port lane => Sys2Proof.Machine.execStuckLane port lane s
  | .widthChange port unsound => Sys2Proof.Machine.execWidthChange port unsound s
  | .widthReceive port unsound => Sys2Proof.Machine.execWidthReceive port unsound s
  | .widthChangeTimeout port => Sys2Proof.Machine.execWidthChangeTimeout port s
  | .txeqReceive port lane up => Sys2Proof.Machine.execTxeqReceive port lane up s
  | .adaptationSnapshot port margins => Sys2Proof.Machine.execAdaptationSnapshot port margins s
  | .dozeRequest port => Sys2Proof.Machine.execDozeRequest port s
  | .dozeReqReceive port => Sys2Proof.Machine.execDozeReqReceive port s
  | .dozeAckReceive port => Sys2Proof.Machine.execDozeAckReceive port s
  | .wakeRequest port => Sys2Proof.Machine.execWakeRequest port s
  | .wakeReceive port => Sys2Proof.Machine.execWakeReceive port s
  | .dozeEntry port => Sys2Proof.Machine.execDozeEntry port s
  | .wakeTimeout port => Sys2Proof.Machine.execWakeTimeout port s
  | .operationIssue die => Sys2Proof.Machine.execOperationIssue die s
  | .oversizeIssue die p => Sys2Proof.Machine.execOversizeIssue die p s
  | .descriptorFetch p => Sys2Proof.Machine.execDescriptorFetch p s
  | .engineStart die ns => Sys2Proof.Machine.execEngineStart die ns s
  | .fillHoldExpiry tiller => Sys2Proof.Machine.execFillHoldExpiry tiller s
  | .fillRelease die ns cycles => Sys2Proof.Machine.execFillRelease die ns cycles s
  | .tileMultiply id => Sys2Proof.Machine.execTileMultiply id s
  | .attentionForward id => Sys2Proof.Machine.execAttentionForward id s
  | .bucketSort id => Sys2Proof.Machine.execBucketSort id s
  | .attentionBackward id => Sys2Proof.Machine.execAttentionBackward id s
  | .specialFunctionPass id => Sys2Proof.Machine.execSpecialFunctionPass id s
  | .circulationSend id => Sys2Proof.Machine.execCirculationSend id s
  | .circulationReceive id => Sys2Proof.Machine.execCirculationReceive id s
  | .reductionExplicit id => Sys2Proof.Machine.execReductionExplicit id s
  | .fusedMultiplyReduce id => Sys2Proof.Machine.execFusedMultiplyReduce id s
  | .reshardMove id => Sys2Proof.Machine.execReshardMove id s
  | .copyData id => Sys2Proof.Machine.execCopyData id s
  | .copyHandleLoad id => Sys2Proof.Machine.execCopyHandleLoad id s
  | .copyBoundLoad id => Sys2Proof.Machine.execCopyBoundLoad id s
  | .copyZeroFill id => Sys2Proof.Machine.execCopyZeroFill id s
  | .layerFence id => Sys2Proof.Machine.execLayerFence id s
  | .handlePop id => Sys2Proof.Machine.execHandlePop id s
  | .handlePush id => Sys2Proof.Machine.execHandlePush id s
  | .operationRetire id => Sys2Proof.Machine.execOperationRetire id s
  | .stallWatchdog p => Sys2Proof.Machine.execStallWatchdog p s
  | .sfuLoadWrite p slot => Sys2Proof.Machine.execSfuLoadWrite p slot s
  | .killStart r => Sys2Proof.Machine.execKillStart r s
  | .killNoticeReceive frame cause origin tag span => Sys2Proof.Machine.execKillNoticeReceive frame cause origin tag span s
  | .killComplete p c => Sys2Proof.Machine.execKillComplete p c s
  | .translationCompletionReceive p req ok whole base read write => Sys2Proof.Machine.execTranslationCompletionReceive p req ok whole base read write s
  | .invalidateRequestReceive fn tag base len => Sys2Proof.Machine.execInvalidateRequestReceive fn tag base len s
  | .invalidationComplete inv => Sys2Proof.Machine.execInvalidationComplete inv s
  | .shootdownAcknowledge id => Sys2Proof.Machine.execShootdownAcknowledge id s
  | .pageScrubComplete ppn => Sys2Proof.Machine.execPageScrubComplete ppn s
  | .partitionFault p code => Sys2Proof.Machine.execPartitionFault p code s
  | .teardownRelease p => Sys2Proof.Machine.execTeardownRelease p s
  | .joinFlitReceive span pkg shares => Sys2Proof.Machine.execJoinFlitReceive span pkg shares s
  | .spanActiveReceive span ring => Sys2Proof.Machine.execSpanActiveReceive span ring s
  | .spanFormingTimeout span => Sys2Proof.Machine.execSpanFormingTimeout span s
  | .spanEndReceive span => Sys2Proof.Machine.execSpanEndReceive span s
  | .spanDeadReceive span pkg => Sys2Proof.Machine.execSpanDeadReceive span pkg s
  | .spanDeadResend span acked => Sys2Proof.Machine.execSpanDeadResend span acked s
  | .groupReadyReceive span num pkg crc => Sys2Proof.Machine.execGroupReadyReceive span num pkg crc s
  | .groupActiveReceive span num => Sys2Proof.Machine.execGroupActiveReceive span num s
  | .groupDefineTimeout index => Sys2Proof.Machine.execGroupDefineTimeout index s
  | .groupLossReceive span num pkg killed => Sys2Proof.Machine.execGroupLossReceive span num pkg killed s
  | .repairAnnounceReceive span num round lost restart => Sys2Proof.Machine.execRepairAnnounceReceive span num round lost restart s
  | .groupRepairTimeout index => Sys2Proof.Machine.execGroupRepairTimeout index s
  | .reductionRestart index => Sys2Proof.Machine.execReductionRestart index s
  | .chunkImageReceive span img => Sys2Proof.Machine.execChunkImageReceive span img s
  | .chunkIntake p q => Sys2Proof.Machine.execChunkIntake p q s
  | .stagingBufferTake p q => Sys2Proof.Machine.execStagingBufferTake p q s
  | .thermalSample temps => Sys2Proof.Machine.execThermalSample temps s
  | .baseChargeUpdate eIn failed => Sys2Proof.Machine.execBaseChargeUpdate eIn failed s
  | .capSetReceive cap frame pkg => Sys2Proof.Machine.execCapSetReceive cap frame pkg s
  | .capAckReceive cap frame pkg => Sys2Proof.Machine.execCapAckReceive cap frame pkg s
  | .sheafCapTimeout => Sys2Proof.Machine.execSheafCapTimeout s
  | .powerOnReset => Sys2Proof.Machine.execPowerOnReset s
  | .pgoodRise => Sys2Proof.Machine.execPgoodRise s
  | .pgoodTimeout => Sys2Proof.Machine.execPgoodTimeout s
  | .pgoodFall g => Sys2Proof.Machine.execPgoodFall g s
  | .sequenceRetry => Sys2Proof.Machine.execSequenceRetry s
  | .sysRstAssert => Sys2Proof.Machine.execSysRstAssert s
  | .sysRstRelease => Sys2Proof.Machine.execSysRstRelease s
  | .warmRstAssert => Sys2Proof.Machine.execWarmRstAssert s
  | .fabricRefclkLoss => Sys2Proof.Machine.execFabricRefclkLoss s
  | .pcieRefclkLoss lost => Sys2Proof.Machine.execPcieRefclkLoss lost s
  | .coldResetRelease => Sys2Proof.Machine.execColdResetRelease s
  | .selfTestComplete rows engines ports planners complexes => Sys2Proof.Machine.execSelfTestComplete rows engines ports planners complexes s
  | .hbmTrainingComplete failed => Sys2Proof.Machine.execHbmTrainingComplete failed s
  | .hbmTestComplete bad => Sys2Proof.Machine.execHbmTestComplete bad s
  | .managementResetRelease => Sys2Proof.Machine.execManagementResetRelease s
  | .bootComplete a b => Sys2Proof.Machine.execBootComplete a b s
  | .standbyMirrored => Sys2Proof.Machine.execStandbyMirrored s
  | .hbmRefresh stack pc => Sys2Proof.Machine.execHbmRefresh stack pc s
  | .watchdogExpiry die => Sys2Proof.Machine.execWatchdogExpiry die s
  | .warmReset => Sys2Proof.Machine.execWarmReset s
  | .stageVerifyComplete a b => Sys2Proof.Machine.execStageVerifyComplete a b s
  | .activationStandbyLoaded valid => Sys2Proof.Machine.execActivationStandbyLoaded valid s
  | .activationTakeover code => Sys2Proof.Machine.execActivationTakeover code s
  | .dfuDnload block data => Sys2Proof.Machine.execDfuDnload block data s
  | .dfuManifest a b => Sys2Proof.Machine.execDfuManifest a b s
  | .dfuDetach => Sys2Proof.Machine.execDfuDetach s
  | .usbBusReset => Sys2Proof.Machine.execUsbBusReset s
  | .configItemRead item => Sys2Proof.Machine.execConfigItemRead item s
  | .configItemWrite item data => Sys2Proof.Machine.execConfigItemWrite item data s
  | .logRecordProgram => Sys2Proof.Machine.execLogRecordProgram s
  | .pmbusPoll readings => Sys2Proof.Machine.execPmbusPoll readings s
  | .smbusStretchTimeout segment address command => Sys2Proof.Machine.execSmbusStretchTimeout segment address command s
  | .smbusStuckRecovery segment sdaHigh => Sys2Proof.Machine.execSmbusStuckRecovery segment sdaHigh s
  | .smbusRecoveryRetry segment sdaHigh => Sys2Proof.Machine.execSmbusRecoveryRetry segment sdaHigh s
  | .smbtStatus pec => Sys2Proof.Machine.execSmbtStatus pec s
  | .smbtSetCap w pec => Sys2Proof.Machine.execSmbtSetCap w pec s
  | .smbtPower pec => Sys2Proof.Machine.execSmbtPower pec s
  | .smbtAlertAck pec => Sys2Proof.Machine.execSmbtAlertAck pec s
  | .alertResponse => Sys2Proof.Machine.execAlertResponse s
  | .uartStatus => Sys2Proof.Machine.execUartStatus s
  | .uartLog n => Sys2Proof.Machine.execUartLog n s
  | .uartSens sensor => Sys2Proof.Machine.execUartSens sensor s
  | .uartLink port => Sys2Proof.Machine.execUartLink port s
  | .bypass => Sys2Proof.Machine.execBypass s
  | .idcode => Sys2Proof.Machine.execIdcode s
  | .samplePreload => Sys2Proof.Machine.execSamplePreload s
  | .extest => Sys2Proof.Machine.execExtest s
  | .extestPulse => Sys2Proof.Machine.execExtestPulse s
  | .extestTrain => Sys2Proof.Machine.execExtestTrain s
  | .clamp => Sys2Proof.Machine.execClamp s
  | .highz => Sys2Proof.Machine.execHighz s
  | .scanMode => Sys2Proof.Machine.execScanMode s
  | .mbistRun => Sys2Proof.Machine.execMbistRun s
  | .atbCtrl => Sys2Proof.Machine.execAtbCtrl s
  | .jtagWarmReset => Sys2Proof.Machine.execJtagWarmReset s
  | .aonTimerTick => Sys2Proof.Machine.execAonTimerTick s
  | .uncorrectableCodeword port word => Sys2Proof.Machine.execUncorrectableCodeword port word s
  | .signalDetect port => Sys2Proof.Machine.execSignalDetect port s
  | .sensorSample sensor value good => Sys2Proof.Machine.execSensorSample sensor value good s
  | .testLogicReset => Sys2Proof.Machine.execTestLogicReset s
  | .vddAonLoss => Sys2Proof.Machine.execVddAonLoss s

end Sys2Proof.Machine
end

