-- ==== Sys2Proof/Safety.lean ====
section
/-! DEFINITION. What counts as a safe step: one that answers a next state. Every step is safe: the spec names no command
that stops the package. Then the groups of commands and the conditions on a state that the statements share. -/

namespace Sys2Proof.Machine

open Sys2Proof

/-- The step answers a next state. -/
def safeStep (s : State) : Prop := ∃ t, step s = .next t

/-- From `a` to `b`, fuses were only blown: identity and coordinates stay, V never falls, and a revocation stays
(R3, R412). -/
def Fuses.grows (a b : Fuses) : Prop :=
  b.grade = a.grade ∧ b.serial = a.serial ∧ b.keys = a.keys ∧ b.scanIntact = a.scanIntact ∧
  b.vsetW = a.vsetW ∧ b.vsetE = a.vsetE ∧ b.landX = a.landX ∧
    b.landY = a.landY ∧ b.landZ = a.landZ ∧ b.landTestEn = a.landTestEn ∧ a.v ≤ b.v ∧ a.revoked ||| b.revoked = b.revoked

/-! ### A command that passes its checks -/

/-- The state once Choesk has consumed a command of mailbox m and entered its ticket (R69, R85). -/
def State.entered (m : Nat) (op : BitVec 16) (e : Entry) (s : State) : State :=
  (State.updMb m (fun b => { b with consumed := b.consumed + 1 }) { s with nextUid := s.nextUid + 1 }).updMb m
    (fun b => { b with tickets := b.tickets ++ [{ cmd := cmdIdOf s.nextUid m op e }] })

/-- The partition a command acts on; 0 where it acts on none. -/
def Spec.on (sp : Spec) (m : Nat) (e : Entry) : Nat := (sp.part m e.args).getD 0

/-- An entry of a command passes the checks of R88 before its own: the mailbox can have it consumed, no reserved bit is
set, the mailbox may send it, its ticket is new, COST and arguments are in range, the state of its partition does not
refuse it, its context is LIVE where it acts for one, and the mailbox is below its ticket limit. -/
def Accepted (sp : Spec) (m : Nat) (e : Entry) (s : State) : Prop :=
  s.canConsume m = true ∧ reservedSet (some sp) m e = false ∧ sp.permitted m = true ∧
    (s.mb m).tickets.any (fun t => t.cmd.ticket == e.ticket) = false ∧ (e.cost != 0) = decide (sp.cls = .j) ∧
    sp.inRange m e.args (s.entered m sp.opcode e) = true ∧
    (sp.part m e.args).any (fun p => stateRefuses sp.cls (s.part p).state) = false ∧
    ctxCheck (sp.acts e.args) (s.ctx (sp.on m e) e.ctx.toNat).state = none ∧
    (s.mb m).tickets.length < ticketLimit m

/-- From s to t, mailbox m has staged one more record: the outcome record of this command (R83, R84). -/
def Answered (sp : Spec) (m : Nat) (e : Entry) (oc : Oc) (rs : Reason) (ws : List W64) (s t : State) : Prop :=
  (t.mb m).staged = (s.mb m).staged ++
    [{ cmd := cmdIdOf s.nextUid m sp.opcode e, oc := oc, reason := rs, words := ws, final := true, frame := s.frm.count }]

/-- From s to t a command was consumed and records of it were staged: nothing changed but mailboxes and the count of
consumed commands. -/
def OnlyRecorded (s t : State) : Prop := t = { s with mbx := t.mbx, nextUid := s.nextUid + 1 }

/-! ### Tiles -/

/-- The state a tile of an operation runs on: its lines are read again from the first (R155). -/
def State.tileStart (id : Nat) (s : State) : State := s.updOp id (fun o => { o with cursor := 0 })

/-! ### Kills -/

/-- A context without the count of members a notice could not reach. -/
def Ctx.core (x : Ctx) : Ctx := { x with unreached := 0 }

/-- What a kill records of a LIVE context (R124, R127), but for the count of members a notice could not reach. -/
def killRecord (r : FaultRec) (peer : Option (BitVec 7 × BitVec 10)) (s : State) : Ctx :=
  let x := s.ctx (r.tag.toNat / 64) (r.tag.toNat % 64)
  { x with
    state := .killing, cause := some r.cause, kind := r.kind, tag := r.tag, die := r.die, write := r.write, dva := r.dva
    start := s.frm.count
    stopped := BitVec.ofNat 16
      (s.seq.ops.filter (fun o => o.part == r.tag.toNat / 64 && o.ctx == r.tag.toNat % 64)).length
    ticket := r.ticket, slot := r.slot, place := r.place
    originPkg := (peer.map (·.1)).getD (BitVec.ofNat 7 s.self), originTag := (peer.map (·.2)).getD r.tag, unreached := 0 }

end Sys2Proof.Machine

namespace Sys2Proof

open Sys2Proof.Machine

/-! ### Groups of commands -/

/-- The commands that may store into device memory or a scratchpad: the reads that fill a buffer, the commands that clear
pages, the engines and reductions that write results, completions and records, and the resets and tests that clear or
rewrite memory. Every other command stores nothing there (R17, R111, R143, R196, R389). -/
def Instr.storesMemory : Instr → Bool
  | .spanQuery _ _ | .kvAllocPool _ _ | .kvAllocFresh _ _ | .kvAllocShare _ _ | .kvAllocWrite _ _ | .sfuQuery _ _
  | .testMbist _ _ | .commandFetch | .commitInstant | .tileMultiply _ | .attentionForward _ | .bucketSort _
  | .attentionBackward _ | .specialFunctionPass _ | .circulationReceive _ | .fusedMultiplyReduce _ | .reshardMove _
  | .copyData _ | .copyZeroFill _ | .shootdownAcknowledge _ | .pageScrubComplete _ | .powerOnReset | .pgoodTimeout
  | .pgoodFall _ | .sysRstAssert | .warmRstAssert | .fabricRefclkLoss | .selfTestComplete _ _ _ _ _
  | .hbmTestComplete _ | .watchdogExpiry _ | .warmReset | .mbistRun | .jtagWarmReset | .vddAonLoss => true
  | .devInfo _ _ | .frameQuery _ _ | .frameSetPeriod _ _ | .frameSetOverrunLimit _ _ | .frameSetPreference _ _
  | .jobSubmit _ _ | .jobAbort _ _ | .jobQuery _ _ | .admSet _ _ | .admQuery _ _ | .partCreate _ _ | .partStart _ _
  | .partFence _ _ | .partResume _ _ | .partReset _ _ | .partTeardown _ _ | .partQuery _ _ | .spanCreate _ _
  | .spanJoin _ _ | .spanLeave _ _ | .spanDestroy _ _ | .ctxCreate _ _ | .ctxDestroy _ _ | .ctxKill _ _
  | .ctxQuery _ _ | .ctxPostmortem _ _ | .ctxPostmortemAdopt _ _ | .memAlloc _ _ | .memFree _ _ | .memMapHost _ _
  | .memUnmapHost _ _ | .memQuery _ _ | .boundSet _ _ | .boundGet _ _ | .kvRelease _ _ | .kvReleasePool _ _
  | .kvInsert _ _ | .kvLookup _ _ | .kvEvictSubtree _ _ | .kvEvictOldest _ _ | .kvEvictAll _ _ | .kvQuery _ _
  | .sfuLoadTable _ _ | .sfuUnloadTable _ _ | .sfuLoadProgram _ _ | .flowDeclare _ _ | .flowWithdraw _ _
  | .flowQuery _ _ | .groupDefine _ _ | .groupRelease _ _ | .groupQuery _ _ | .commqCreate _ _ | .commqDestroy _ _
  | .pwrSetCapPackage _ _ | .pwrSetCapSheaf _ _ | .pwrQuery _ _ | .linkQuery _ _ | .linkRetrainFast _ _
  | .linkRetrainFull _ _ | .linkRetire _ _ | .sheafQuery _ _ | .fwStage _ _ | .fwActivate _ _ | .fwQuery _ _
  | .logRead _ _ | .sensRead _ _ | .atbSelect _ _ | .atbSample _ _ | .mbxRingCfgWrite _ _ | .doorbell _ _
  | .mbxCplHeadWrite _ _ | .mailboxReset _ | .redCqHeadWrite _ _ _ | .slackLateClear _ | .readClear _ _
  | .registerWrite _ _ _ | .unsupportedRequest _ _ _ | .numvfsWrite _ | .atsEnableWrite _ _ | .msixUnmask _ _ _
  | .functionLevelReset _ | .perstAssert | .perstRelease _ _ | .pcieLinkRetry _ _ | .pcieError _ _
  | .completionWrite _ | .irqAgeExpiry _ | .mailboxResetDone _ | .mailboxResetWatchdog _ | .planCommit
  | .planRecordSend | .planRecordReceive _ _ | .slackStart | .markerReceive _ _ _ | .routedMarkerReceive _ _
  | .markerTimeout | .holdoverExpiry | .deputyTakeover | .fullReelection | .periodProposalReceive _ _
  | .periodChangeAcknowledge | .periodAckReceive _ | .periodChangeAbandon | .overrunNoticeReceive _ _ _
  | .spanHoldReceive _ _ _ | .flowDeclarationReceive _ _ | .healthNoticeReceive _ _ _ _ _ | .plannerTakeover
  | .cellWindow _ _ | .beaconRound | .beaconReceive _ _ | .dupFlagClear _ | .keyExpiry _ | .neighbourVectorExpiry _
  | .electionClose | .deputyRename | .standaloneReopen | .reachabilityChange _ | .leadTakeoverNoticeReceive _ _
  | .leadDeclarationReplyReceive _ _ _ _ _ | .dualLeadResolve _ _ | .controlFlitForward _ | .outerHelloReceive _ _ _
  | .creditDataSend _ _ _ | .creditDataReceive _ _ _ | .creditReturn _ | .creditReturnReceive _ _ | .sheafStatusSend
  | .alignmentMarkerReceive _ _ _ _ _ | .portBringup _ _ _ _ | .bringupTimeout _ | .flitReceive _ _ _ _ _
  | .nakReceive _ _ | .nakResend _ | .replayTimeout _ | .fastRetrain _ | .trainReceive _ | .retrainEnd _ _ _
  | .retrainRestart _ | .burstStart _ | .burstEnd _ _ | .burstQuarantine _ | .recalibrationEnd _ _ | .probationEnd _
  | .stuckLane _ _ | .widthChange _ _ | .widthReceive _ _ | .widthChangeTimeout _ | .txeqReceive _ _ _
  | .adaptationSnapshot _ _ | .dozeRequest _ | .dozeReqReceive _ | .dozeAckReceive _ | .wakeRequest _
  | .wakeReceive _ | .dozeEntry _ | .wakeTimeout _ | .operationIssue _ | .oversizeIssue _ _ | .descriptorFetch _
  | .engineStart _ _ | .fillHoldExpiry _ | .fillRelease _ _ _ | .circulationSend _ | .reductionExplicit _
  | .copyHandleLoad _ | .copyBoundLoad _ | .layerFence _ | .handlePop _ | .handlePush _ | .operationRetire _
  | .stallWatchdog _ | .sfuLoadWrite _ _ | .killStart _ | .killNoticeReceive _ _ _ _ _ | .killComplete _ _
  | .translationCompletionReceive _ _ _ _ _ _ _ | .invalidateRequestReceive _ _ _ _ | .invalidationComplete _
  | .partitionFault _ _ | .teardownRelease _ | .joinFlitReceive _ _ _ | .spanActiveReceive _ _
  | .spanFormingTimeout _ | .spanEndReceive _ | .spanDeadReceive _ _ | .spanDeadResend _ _
  | .groupReadyReceive _ _ _ _ | .groupActiveReceive _ _ | .groupDefineTimeout _ | .groupLossReceive _ _ _ _
  | .repairAnnounceReceive _ _ _ _ _ | .groupRepairTimeout _ | .reductionRestart _ | .chunkImageReceive _ _
  | .chunkIntake _ _ | .stagingBufferTake _ _ | .thermalSample _ | .baseChargeUpdate _ _ | .capSetReceive _ _ _
  | .capAckReceive _ _ _ | .sheafCapTimeout | .pgoodRise | .sequenceRetry | .sysRstRelease | .pcieRefclkLoss _
  | .coldResetRelease | .hbmTrainingComplete _ | .managementResetRelease | .bootComplete _ _ | .standbyMirrored
  | .hbmRefresh _ _ | .stageVerifyComplete _ _ | .activationStandbyLoaded _ | .activationTakeover _ | .dfuDnload _ _
  | .dfuManifest _ _ | .dfuDetach | .usbBusReset | .configItemRead _ | .configItemWrite _ _ | .logRecordProgram
  | .pmbusPoll _ | .smbusStretchTimeout _ _ _ | .smbusStuckRecovery _ _ | .smbusRecoveryRetry _ _ | .smbtStatus _
  | .smbtSetCap _ _ | .smbtPower _ | .smbtAlertAck _ | .alertResponse | .uartStatus | .uartLog _ | .uartSens _
  | .uartLink _ | .bypass | .idcode | .samplePreload | .extest | .extestPulse | .extestTrain | .clamp | .highz
  | .scanMode | .atbCtrl | .aonTimerTick | .uncorrectableCodeword _ _ | .signalDetect _ | .sensorSample _ _ _
  | .testLogicReset => false

/-- The commands that may stop operations in the middle of a tile, as a kill, an abort or a mailbox reset does: what a stopped
attention operation has completed of its row groups is then written (R145, R170). -/
def Instr.stopsOps : Instr → Bool
  | .jobAbort .. | .partReset .. | .partTeardown .. | .ctxKill .. | .mailboxReset .. | .registerWrite .. | .numvfsWrite ..
  | .functionLevelReset .. | .perstAssert | .pcieError .. | .mailboxResetWatchdog .. | .flitReceive .. | .operationIssue ..
  | .oversizeIssue .. | .circulationSend .. | .reductionExplicit .. | .copyHandleLoad .. | .copyBoundLoad .. | .handlePop ..
  | .handlePush .. | .stallWatchdog .. | .killStart .. | .killNoticeReceive .. | .translationCompletionReceive ..
  | .partitionFault .. | .spanDeadReceive .. | .reductionRestart .. | .chunkIntake .. | .activationTakeover .. => true
  | _ => false

/-- The commands whose event needs the package's clocks: all but the supplies, resets, reference clocks and the JTAG rows
(R389, R392, R457). -/
def Instr.needsClock : Instr → Bool
  | .devInfo _ _ | .frameQuery _ _ | .frameSetPeriod _ _ | .frameSetOverrunLimit _ _ | .frameSetPreference _ _
  | .jobSubmit _ _ | .jobAbort _ _ | .jobQuery _ _ | .admSet _ _ | .admQuery _ _ | .partCreate _ _ | .partStart _ _
  | .partFence _ _ | .partResume _ _ | .partReset _ _ | .partTeardown _ _ | .partQuery _ _ | .spanCreate _ _
  | .spanJoin _ _ | .spanLeave _ _ | .spanDestroy _ _ | .spanQuery _ _ | .ctxCreate _ _ | .ctxDestroy _ _
  | .ctxKill _ _ | .ctxQuery _ _ | .ctxPostmortem _ _ | .ctxPostmortemAdopt _ _ | .memAlloc _ _ | .memFree _ _
  | .memMapHost _ _ | .memUnmapHost _ _ | .memQuery _ _ | .boundSet _ _ | .boundGet _ _ | .kvAllocPool _ _
  | .kvAllocFresh _ _ | .kvAllocShare _ _ | .kvAllocWrite _ _ | .kvRelease _ _ | .kvReleasePool _ _ | .kvInsert _ _
  | .kvLookup _ _ | .kvEvictSubtree _ _ | .kvEvictOldest _ _ | .kvEvictAll _ _ | .kvQuery _ _ | .sfuLoadTable _ _
  | .sfuUnloadTable _ _ | .sfuLoadProgram _ _ | .sfuQuery _ _ | .flowDeclare _ _ | .flowWithdraw _ _ | .flowQuery _ _
  | .groupDefine _ _ | .groupRelease _ _ | .groupQuery _ _ | .commqCreate _ _ | .commqDestroy _ _
  | .pwrSetCapPackage _ _ | .pwrSetCapSheaf _ _ | .pwrQuery _ _ | .linkQuery _ _ | .linkRetrainFast _ _
  | .linkRetrainFull _ _ | .linkRetire _ _ | .sheafQuery _ _ | .fwStage _ _ | .fwActivate _ _ | .fwQuery _ _
  | .logRead _ _ | .sensRead _ _ | .atbSelect _ _ | .atbSample _ _ | .testMbist _ _ | .mbxRingCfgWrite _ _
  | .doorbell _ _ | .mbxCplHeadWrite _ _ | .mailboxReset _ | .redCqHeadWrite _ _ _ | .slackLateClear _
  | .readClear _ _ | .registerWrite _ _ _ | .unsupportedRequest _ _ _ | .numvfsWrite _ | .atsEnableWrite _ _
  | .msixUnmask _ _ _ | .functionLevelReset _ | .pcieLinkRetry _ _ | .pcieError _ _ | .commandFetch
  | .completionWrite _ | .irqAgeExpiry _ | .mailboxResetDone _ | .mailboxResetWatchdog _ | .commitInstant
  | .planCommit | .planRecordSend | .planRecordReceive _ _ | .slackStart | .markerReceive _ _ _
  | .routedMarkerReceive _ _ | .markerTimeout | .holdoverExpiry | .deputyTakeover | .fullReelection
  | .periodProposalReceive _ _ | .periodChangeAcknowledge | .periodAckReceive _ | .periodChangeAbandon
  | .overrunNoticeReceive _ _ _ | .spanHoldReceive _ _ _ | .flowDeclarationReceive _ _
  | .healthNoticeReceive _ _ _ _ _ | .plannerTakeover | .cellWindow _ _ | .beaconRound | .beaconReceive _ _
  | .dupFlagClear _ | .keyExpiry _ | .neighbourVectorExpiry _ | .electionClose | .deputyRename | .standaloneReopen
  | .reachabilityChange _ | .leadTakeoverNoticeReceive _ _ | .leadDeclarationReplyReceive _ _ _ _ _
  | .dualLeadResolve _ _ | .controlFlitForward _ | .outerHelloReceive _ _ _ | .creditDataSend _ _ _
  | .creditDataReceive _ _ _ | .creditReturn _ | .creditReturnReceive _ _ | .sheafStatusSend
  | .alignmentMarkerReceive _ _ _ _ _ | .portBringup _ _ _ _ | .bringupTimeout _ | .flitReceive _ _ _ _ _
  | .nakReceive _ _ | .nakResend _ | .replayTimeout _ | .fastRetrain _ | .trainReceive _ | .retrainEnd _ _ _
  | .retrainRestart _ | .burstStart _ | .burstEnd _ _ | .burstQuarantine _ | .recalibrationEnd _ _ | .probationEnd _
  | .stuckLane _ _ | .widthChange _ _ | .widthReceive _ _ | .widthChangeTimeout _ | .txeqReceive _ _ _
  | .adaptationSnapshot _ _ | .dozeRequest _ | .dozeReqReceive _ | .dozeAckReceive _ | .wakeRequest _
  | .wakeReceive _ | .dozeEntry _ | .wakeTimeout _ | .operationIssue _ | .oversizeIssue _ _ | .descriptorFetch _
  | .engineStart _ _ | .fillHoldExpiry _ | .fillRelease _ _ _ | .tileMultiply _ | .attentionForward _ | .bucketSort _
  | .attentionBackward _ | .specialFunctionPass _ | .circulationSend _ | .circulationReceive _ | .reductionExplicit _
  | .fusedMultiplyReduce _ | .reshardMove _ | .copyData _ | .copyHandleLoad _ | .copyBoundLoad _ | .copyZeroFill _
  | .layerFence _ | .handlePop _ | .handlePush _ | .operationRetire _ | .stallWatchdog _ | .sfuLoadWrite _ _
  | .killStart _ | .killNoticeReceive _ _ _ _ _ | .killComplete _ _ | .translationCompletionReceive _ _ _ _ _ _ _
  | .invalidateRequestReceive _ _ _ _ | .invalidationComplete _ | .shootdownAcknowledge _ | .pageScrubComplete _
  | .partitionFault _ _ | .teardownRelease _ | .joinFlitReceive _ _ _ | .spanActiveReceive _ _
  | .spanFormingTimeout _ | .spanEndReceive _ | .spanDeadReceive _ _ | .spanDeadResend _ _
  | .groupReadyReceive _ _ _ _ | .groupActiveReceive _ _ | .groupDefineTimeout _ | .groupLossReceive _ _ _ _
  | .repairAnnounceReceive _ _ _ _ _ | .groupRepairTimeout _ | .reductionRestart _ | .chunkImageReceive _ _
  | .chunkIntake _ _ | .stagingBufferTake _ _ | .thermalSample _ | .baseChargeUpdate _ _ | .capSetReceive _ _ _
  | .capAckReceive _ _ _ | .sheafCapTimeout | .warmRstAssert | .selfTestComplete _ _ _ _ _ | .hbmTrainingComplete _
  | .hbmTestComplete _ | .managementResetRelease | .bootComplete _ _ | .standbyMirrored | .hbmRefresh _ _
  | .watchdogExpiry _ | .warmReset | .stageVerifyComplete _ _ | .activationStandbyLoaded _ | .activationTakeover _
  | .dfuDnload _ _ | .dfuManifest _ _ | .dfuDetach | .usbBusReset | .configItemRead _ | .configItemWrite _ _
  | .logRecordProgram | .pmbusPoll _ | .smbusStretchTimeout _ _ _ | .smbusStuckRecovery _ _ | .smbusRecoveryRetry _ _
  | .smbtStatus _ | .smbtSetCap _ _ | .smbtPower _ | .smbtAlertAck _ | .alertResponse | .uartStatus | .uartLog _
  | .uartSens _ | .uartLink _ | .aonTimerTick | .uncorrectableCodeword _ _ | .signalDetect _ | .sensorSample _ _ _ => true
  | .perstAssert | .perstRelease _ _ | .powerOnReset | .pgoodRise | .pgoodTimeout | .pgoodFall _ | .sequenceRetry
  | .sysRstAssert | .sysRstRelease | .fabricRefclkLoss | .pcieRefclkLoss _ | .coldResetRelease | .bypass | .idcode
  | .samplePreload | .extest | .extestPulse | .extestTrain | .clamp | .highz | .scanMode | .mbistRun | .atbCtrl
  | .jtagWarmReset | .testLogicReset | .vddAonLoss => false

/-- The commands that load a JTAG instruction or reset the test logic (R457, R459). -/
def Instr.loadsTest : Instr → Bool
  | .bypass | .idcode | .samplePreload | .extest | .extestPulse | .extestTrain | .clamp | .highz | .scanMode
  | .mbistRun | .atbCtrl | .jtagWarmReset | .testLogicReset => true
  | .devInfo _ _ | .frameQuery _ _ | .frameSetPeriod _ _ | .frameSetOverrunLimit _ _ | .frameSetPreference _ _
  | .jobSubmit _ _ | .jobAbort _ _ | .jobQuery _ _ | .admSet _ _ | .admQuery _ _ | .partCreate _ _ | .partStart _ _
  | .partFence _ _ | .partResume _ _ | .partReset _ _ | .partTeardown _ _ | .partQuery _ _ | .spanCreate _ _
  | .spanJoin _ _ | .spanLeave _ _ | .spanDestroy _ _ | .spanQuery _ _ | .ctxCreate _ _ | .ctxDestroy _ _
  | .ctxKill _ _ | .ctxQuery _ _ | .ctxPostmortem _ _ | .ctxPostmortemAdopt _ _ | .memAlloc _ _ | .memFree _ _
  | .memMapHost _ _ | .memUnmapHost _ _ | .memQuery _ _ | .boundSet _ _ | .boundGet _ _ | .kvAllocPool _ _
  | .kvAllocFresh _ _ | .kvAllocShare _ _ | .kvAllocWrite _ _ | .kvRelease _ _ | .kvReleasePool _ _ | .kvInsert _ _
  | .kvLookup _ _ | .kvEvictSubtree _ _ | .kvEvictOldest _ _ | .kvEvictAll _ _ | .kvQuery _ _ | .sfuLoadTable _ _
  | .sfuUnloadTable _ _ | .sfuLoadProgram _ _ | .sfuQuery _ _ | .flowDeclare _ _ | .flowWithdraw _ _ | .flowQuery _ _
  | .groupDefine _ _ | .groupRelease _ _ | .groupQuery _ _ | .commqCreate _ _ | .commqDestroy _ _
  | .pwrSetCapPackage _ _ | .pwrSetCapSheaf _ _ | .pwrQuery _ _ | .linkQuery _ _ | .linkRetrainFast _ _
  | .linkRetrainFull _ _ | .linkRetire _ _ | .sheafQuery _ _ | .fwStage _ _ | .fwActivate _ _ | .fwQuery _ _
  | .logRead _ _ | .sensRead _ _ | .atbSelect _ _ | .atbSample _ _ | .testMbist _ _ | .mbxRingCfgWrite _ _
  | .doorbell _ _ | .mbxCplHeadWrite _ _ | .mailboxReset _ | .redCqHeadWrite _ _ _ | .slackLateClear _
  | .readClear _ _ | .registerWrite _ _ _ | .unsupportedRequest _ _ _ | .numvfsWrite _ | .atsEnableWrite _ _
  | .msixUnmask _ _ _ | .functionLevelReset _ | .perstAssert | .perstRelease _ _ | .pcieLinkRetry _ _
  | .pcieError _ _ | .commandFetch | .completionWrite _ | .irqAgeExpiry _ | .mailboxResetDone _
  | .mailboxResetWatchdog _ | .commitInstant | .planCommit | .planRecordSend | .planRecordReceive _ _ | .slackStart
  | .markerReceive _ _ _ | .routedMarkerReceive _ _ | .markerTimeout | .holdoverExpiry | .deputyTakeover
  | .fullReelection | .periodProposalReceive _ _ | .periodChangeAcknowledge | .periodAckReceive _
  | .periodChangeAbandon | .overrunNoticeReceive _ _ _ | .spanHoldReceive _ _ _ | .flowDeclarationReceive _ _
  | .healthNoticeReceive _ _ _ _ _ | .plannerTakeover | .cellWindow _ _ | .beaconRound | .beaconReceive _ _
  | .dupFlagClear _ | .keyExpiry _ | .neighbourVectorExpiry _ | .electionClose | .deputyRename | .standaloneReopen
  | .reachabilityChange _ | .leadTakeoverNoticeReceive _ _ | .leadDeclarationReplyReceive _ _ _ _ _
  | .dualLeadResolve _ _ | .controlFlitForward _ | .outerHelloReceive _ _ _ | .creditDataSend _ _ _
  | .creditDataReceive _ _ _ | .creditReturn _ | .creditReturnReceive _ _ | .sheafStatusSend
  | .alignmentMarkerReceive _ _ _ _ _ | .portBringup _ _ _ _ | .bringupTimeout _ | .flitReceive _ _ _ _ _
  | .nakReceive _ _ | .nakResend _ | .replayTimeout _ | .fastRetrain _ | .trainReceive _ | .retrainEnd _ _ _
  | .retrainRestart _ | .burstStart _ | .burstEnd _ _ | .burstQuarantine _ | .recalibrationEnd _ _ | .probationEnd _
  | .stuckLane _ _ | .widthChange _ _ | .widthReceive _ _ | .widthChangeTimeout _ | .txeqReceive _ _ _
  | .adaptationSnapshot _ _ | .dozeRequest _ | .dozeReqReceive _ | .dozeAckReceive _ | .wakeRequest _
  | .wakeReceive _ | .dozeEntry _ | .wakeTimeout _ | .operationIssue _ | .oversizeIssue _ _ | .descriptorFetch _
  | .engineStart _ _ | .fillHoldExpiry _ | .fillRelease _ _ _ | .tileMultiply _ | .attentionForward _ | .bucketSort _
  | .attentionBackward _ | .specialFunctionPass _ | .circulationSend _ | .circulationReceive _ | .reductionExplicit _
  | .fusedMultiplyReduce _ | .reshardMove _ | .copyData _ | .copyHandleLoad _ | .copyBoundLoad _ | .copyZeroFill _
  | .layerFence _ | .handlePop _ | .handlePush _ | .operationRetire _ | .stallWatchdog _ | .sfuLoadWrite _ _
  | .killStart _ | .killNoticeReceive _ _ _ _ _ | .killComplete _ _ | .translationCompletionReceive _ _ _ _ _ _ _
  | .invalidateRequestReceive _ _ _ _ | .invalidationComplete _ | .shootdownAcknowledge _ | .pageScrubComplete _
  | .partitionFault _ _ | .teardownRelease _ | .joinFlitReceive _ _ _ | .spanActiveReceive _ _
  | .spanFormingTimeout _ | .spanEndReceive _ | .spanDeadReceive _ _ | .spanDeadResend _ _
  | .groupReadyReceive _ _ _ _ | .groupActiveReceive _ _ | .groupDefineTimeout _ | .groupLossReceive _ _ _ _
  | .repairAnnounceReceive _ _ _ _ _ | .groupRepairTimeout _ | .reductionRestart _ | .chunkImageReceive _ _
  | .chunkIntake _ _ | .stagingBufferTake _ _ | .thermalSample _ | .baseChargeUpdate _ _ | .capSetReceive _ _ _
  | .capAckReceive _ _ _ | .sheafCapTimeout | .powerOnReset | .pgoodRise | .pgoodTimeout | .pgoodFall _
  | .sequenceRetry | .sysRstAssert | .sysRstRelease | .warmRstAssert | .fabricRefclkLoss | .pcieRefclkLoss _
  | .coldResetRelease | .selfTestComplete _ _ _ _ _ | .hbmTrainingComplete _ | .hbmTestComplete _
  | .managementResetRelease | .bootComplete _ _ | .standbyMirrored | .hbmRefresh _ _ | .watchdogExpiry _ | .warmReset
  | .stageVerifyComplete _ _ | .activationStandbyLoaded _ | .activationTakeover _ | .dfuDnload _ _ | .dfuManifest _ _
  | .dfuDetach | .usbBusReset | .configItemRead _ | .configItemWrite _ _ | .logRecordProgram | .pmbusPoll _
  | .smbusStretchTimeout _ _ _ | .smbusStuckRecovery _ _ | .smbusRecoveryRetry _ _ | .smbtStatus _ | .smbtSetCap _ _
  | .smbtPower _ | .smbtAlertAck _ | .alertResponse | .uartStatus | .uartLog _ | .uartSens _ | .uartLink _
  | .aonTimerTick | .uncorrectableCodeword _ _ | .signalDetect _ | .sensorSample _ _ _ | .vddAonLoss => false

/-- A row of the command table as Choesk reads it: the mailbox, the specification of its opcode, and the entry with the
mode of the row set (R82, R106). -/
def Instr.command? : Instr → Option (Spec × Nat × Entry)
  | .devInfo m e => some (specDevInfo, m.val, e)
  | .frameQuery m e => some (specFrameQuery, m.val, e)
  | .frameSetPeriod m e => some (specFrameSetPeriod, m.val, e)
  | .frameSetOverrunLimit m e => some (specFrameSetOverrunLimit, m.val, e)
  | .frameSetPreference m e => some (specFrameSetPreference, m.val, e)
  | .jobSubmit m e => some (specJobSubmit, m.val, e)
  | .jobAbort m e => some (specJobAbort, m.val, e)
  | .jobQuery m e => some (specJobQuery, m.val, e)
  | .admSet m e => some (specAdmSet, m.val, e)
  | .admQuery m e => some (specAdmQuery, m.val, e)
  | .partCreate m e => some (specPartCreate, m.val, e)
  | .partStart m e => some (specPartStart, m.val, e)
  | .partFence m e => some (specPartFence, m.val, e)
  | .partResume m e => some (specPartResume, m.val, e)
  | .partReset m e => some (specPartReset, m.val, e)
  | .partTeardown m e => some (specPartTeardown, m.val, e)
  | .partQuery m e => some (specPartQuery, m.val, e)
  | .spanCreate m e => some (specSpanCreate, m.val, e)
  | .spanJoin m e => some (specSpanJoin, m.val, e)
  | .spanLeave m e => some (specSpanLeave, m.val, e)
  | .spanDestroy m e => some (specSpanDestroy, m.val, e)
  | .spanQuery m e => some (specSpanQuery, m.val, e)
  | .ctxCreate m e => some (specCtxCreate, m.val, e)
  | .ctxDestroy m e => some (specCtxDestroy, m.val, e)
  | .ctxKill m e => some (specCtxKill, m.val, e)
  | .ctxQuery m e => some (specCtxQuery, m.val, e)
  | .ctxPostmortem m e => some (specCtxPostmortem, m.val, e.withMode 8 1 0)
  | .ctxPostmortemAdopt m e => some (specCtxPostmortem, m.val, e.withMode 8 1 1)
  | .memAlloc m e => some (specMemAlloc, m.val, e)
  | .memFree m e => some (specMemFree, m.val, e)
  | .memMapHost m e => some (specMemMapHost, m.val, e)
  | .memUnmapHost m e => some (specMemUnmapHost, m.val, e)
  | .memQuery m e => some (specMemQuery, m.val, e)
  | .boundSet m e => some (specBoundSet, m.val, e)
  | .boundGet m e => some (specBoundGet, m.val, e)
  | .kvAllocPool m e => some (specKvAlloc, m.val, e.withMode 0 2 0)
  | .kvAllocFresh m e => some (specKvAlloc, m.val, e.withMode 0 2 1)
  | .kvAllocShare m e => some (specKvAlloc, m.val, e.withMode 0 2 2)
  | .kvAllocWrite m e => some (specKvAlloc, m.val, e.withMode 0 2 3)
  | .kvRelease m e => some (specKvRelease, m.val, e.withMode 1 1 0)
  | .kvReleasePool m e => some (specKvRelease, m.val, e.withMode 1 1 1)
  | .kvInsert m e => some (specKvInsert, m.val, e)
  | .kvLookup m e => some (specKvLookup, m.val, e)
  | .kvEvictSubtree m e => some (specKvEvict, m.val, e.withMode 0 2 0)
  | .kvEvictOldest m e => some (specKvEvict, m.val, e.withMode 0 2 1)
  | .kvEvictAll m e => some (specKvEvict, m.val, e.withMode 0 2 2)
  | .kvQuery m e => some (specKvQuery, m.val, e)
  | .sfuLoadTable m e => some (specSfuLoadTable, m.val, e)
  | .sfuUnloadTable m e => some (specSfuUnloadTable, m.val, e)
  | .sfuLoadProgram m e => some (specSfuLoadProgram, m.val, e)
  | .sfuQuery m e => some (specSfuQuery, m.val, e)
  | .flowDeclare m e => some (specFlowDeclare, m.val, e)
  | .flowWithdraw m e => some (specFlowWithdraw, m.val, e)
  | .flowQuery m e => some (specFlowQuery, m.val, e)
  | .groupDefine m e => some (specGroupDefine, m.val, e)
  | .groupRelease m e => some (specGroupRelease, m.val, e)
  | .groupQuery m e => some (specGroupQuery, m.val, e)
  | .commqCreate m e => some (specCommqCreate, m.val, e)
  | .commqDestroy m e => some (specCommqDestroy, m.val, e)
  | .pwrSetCapPackage m e => some (specPwrSetCap, m.val, e.withMode 8 1 0)
  | .pwrSetCapSheaf m e => some (specPwrSetCap, m.val, e.withMode 8 1 1)
  | .pwrQuery m e => some (specPwrQuery, m.val, e)
  | .linkQuery m e => some (specLinkQuery, m.val, e)
  | .linkRetrainFast m e => some (specLinkRetrain, m.val, e.withMode 8 1 0)
  | .linkRetrainFull m e => some (specLinkRetrain, m.val, e.withMode 8 1 1)
  | .linkRetire m e => some (specLinkRetire, m.val, e)
  | .sheafQuery m e => some (specSheafQuery, m.val, e)
  | .fwStage m e => some (specFwStage, m.val, e)
  | .fwActivate m e => some (specFwActivate, m.val, e)
  | .fwQuery m e => some (specFwQuery, m.val, e)
  | .logRead m e => some (specLogRead, m.val, e)
  | .sensRead m e => some (specSensRead, m.val, e)
  | .atbSelect m e => some (specAtbSelect, m.val, e)
  | .atbSample m e => some (specAtbSample, m.val, e)
  | .testMbist m e => some (specTestMbist, m.val, e)
  | .mbxRingCfgWrite _ _ | .doorbell _ _ | .mbxCplHeadWrite _ _ | .mailboxReset _ | .redCqHeadWrite _ _ _
  | .slackLateClear _ | .readClear _ _ | .registerWrite _ _ _ | .unsupportedRequest _ _ _ | .numvfsWrite _
  | .atsEnableWrite _ _ | .msixUnmask _ _ _ | .functionLevelReset _ | .perstAssert | .perstRelease _ _
  | .pcieLinkRetry _ _ | .pcieError _ _ | .commandFetch | .completionWrite _ | .irqAgeExpiry _ | .mailboxResetDone _
  | .mailboxResetWatchdog _ | .commitInstant | .planCommit | .planRecordSend | .planRecordReceive _ _ | .slackStart
  | .markerReceive _ _ _ | .routedMarkerReceive _ _ | .markerTimeout | .holdoverExpiry | .deputyTakeover
  | .fullReelection | .periodProposalReceive _ _ | .periodChangeAcknowledge | .periodAckReceive _
  | .periodChangeAbandon | .overrunNoticeReceive _ _ _ | .spanHoldReceive _ _ _ | .flowDeclarationReceive _ _
  | .healthNoticeReceive _ _ _ _ _ | .plannerTakeover | .cellWindow _ _ | .beaconRound | .beaconReceive _ _
  | .dupFlagClear _ | .keyExpiry _ | .neighbourVectorExpiry _ | .electionClose | .deputyRename | .standaloneReopen
  | .reachabilityChange _ | .leadTakeoverNoticeReceive _ _ | .leadDeclarationReplyReceive _ _ _ _ _
  | .dualLeadResolve _ _ | .controlFlitForward _ | .outerHelloReceive _ _ _ | .creditDataSend _ _ _
  | .creditDataReceive _ _ _ | .creditReturn _ | .creditReturnReceive _ _ | .sheafStatusSend
  | .alignmentMarkerReceive _ _ _ _ _ | .portBringup _ _ _ _ | .bringupTimeout _ | .flitReceive _ _ _ _ _
  | .nakReceive _ _ | .nakResend _ | .replayTimeout _ | .fastRetrain _ | .trainReceive _ | .retrainEnd _ _ _
  | .retrainRestart _ | .burstStart _ | .burstEnd _ _ | .burstQuarantine _ | .recalibrationEnd _ _ | .probationEnd _
  | .stuckLane _ _ | .widthChange _ _ | .widthReceive _ _ | .widthChangeTimeout _ | .txeqReceive _ _ _
  | .adaptationSnapshot _ _ | .dozeRequest _ | .dozeReqReceive _ | .dozeAckReceive _ | .wakeRequest _
  | .wakeReceive _ | .dozeEntry _ | .wakeTimeout _ | .operationIssue _ | .oversizeIssue _ _ | .descriptorFetch _
  | .engineStart _ _ | .fillHoldExpiry _ | .fillRelease _ _ _ | .tileMultiply _ | .attentionForward _ | .bucketSort _
  | .attentionBackward _ | .specialFunctionPass _ | .circulationSend _ | .circulationReceive _ | .reductionExplicit _
  | .fusedMultiplyReduce _ | .reshardMove _ | .copyData _ | .copyHandleLoad _ | .copyBoundLoad _ | .copyZeroFill _
  | .layerFence _ | .handlePop _ | .handlePush _ | .operationRetire _ | .stallWatchdog _ | .sfuLoadWrite _ _
  | .killStart _ | .killNoticeReceive _ _ _ _ _ | .killComplete _ _ | .translationCompletionReceive _ _ _ _ _ _ _
  | .invalidateRequestReceive _ _ _ _ | .invalidationComplete _ | .shootdownAcknowledge _ | .pageScrubComplete _
  | .partitionFault _ _ | .teardownRelease _ | .joinFlitReceive _ _ _ | .spanActiveReceive _ _
  | .spanFormingTimeout _ | .spanEndReceive _ | .spanDeadReceive _ _ | .spanDeadResend _ _
  | .groupReadyReceive _ _ _ _ | .groupActiveReceive _ _ | .groupDefineTimeout _ | .groupLossReceive _ _ _ _
  | .repairAnnounceReceive _ _ _ _ _ | .groupRepairTimeout _ | .reductionRestart _ | .chunkImageReceive _ _
  | .chunkIntake _ _ | .stagingBufferTake _ _ | .thermalSample _ | .baseChargeUpdate _ _ | .capSetReceive _ _ _
  | .capAckReceive _ _ _ | .sheafCapTimeout | .powerOnReset | .pgoodRise | .pgoodTimeout | .pgoodFall _
  | .sequenceRetry | .sysRstAssert | .sysRstRelease | .warmRstAssert | .fabricRefclkLoss | .pcieRefclkLoss _
  | .coldResetRelease | .selfTestComplete _ _ _ _ _ | .hbmTrainingComplete _ | .hbmTestComplete _
  | .managementResetRelease | .bootComplete _ _ | .standbyMirrored | .hbmRefresh _ _ | .watchdogExpiry _ | .warmReset
  | .stageVerifyComplete _ _ | .activationStandbyLoaded _ | .activationTakeover _ | .dfuDnload _ _ | .dfuManifest _ _
  | .dfuDetach | .usbBusReset | .configItemRead _ | .configItemWrite _ _ | .logRecordProgram | .pmbusPoll _
  | .smbusStretchTimeout _ _ _ | .smbusStuckRecovery _ _ | .smbusRecoveryRetry _ _ | .smbtStatus _ | .smbtSetCap _ _
  | .smbtPower _ | .smbtAlertAck _ | .alertResponse | .uartStatus | .uartLog _ | .uartSens _ | .uartLink _ | .bypass
  | .idcode | .samplePreload | .extest | .extestPulse | .extestTrain | .clamp | .highz | .scanMode | .mbistRun
  | .atbCtrl | .jtagWarmReset | .aonTimerTick | .uncorrectableCodeword _ _ | .signalDetect _ | .sensorSample _ _ _
  | .testLogicReset | .vddAonLoss => none

end Sys2Proof
end

