-- ==== Sys2Proof/Certificates/Slice0/Obligations.lean ====
section
/-! DEFINITION. The statements for the provers: what every command does when it completes, what all commands keep, and the
rules of the spec that speak of the whole block. -/

section

open Sys2Proof Sys2Proof.Machine

/-- DEV.INFO, FRAME.QUERY, ADM.QUERY, JOB.QUERY, PART.QUERY, CTX.QUERY, MEM.QUERY and BOUND.GET: an accepted query
stages one record, DONE with the words of its table, and changes nothing else. (R67, R105, R131, R161, R382.) -/
def Obligations.StateQueriesAnswer : Prop :=
  (∀ (m : Fin 18) (e : Entry) (s : State), Accepted specDevInfo m.val e s →
    ∃ t, exec (.devInfo m e) s = .next t ∧ OnlyRecorded s t ∧
      Answered specDevInfo m.val e .done .none
        (devInfoWords m.val s) s t) ∧
  (∀ (m : Fin 18) (e : Entry) (s : State), Accepted specFrameQuery m.val e s →
    ∃ t, exec (.frameQuery m e) s = .next t ∧ OnlyRecorded s t ∧
      Answered specFrameQuery m.val e .done .none
        ([word [(0, s.frm.count.toNat)], s.frm.syncWord, s.frm.configWord] ++
          (if vfOnly m.val then [(s.frmp (m.val - 1)).statusWord] else [])) s t) ∧
  (∀ (m : Fin 18) (e : Entry) (s : State), Accepted specAdmQuery m.val e s →
    ∃ t, exec (.admQuery m e) s = .next t ∧ OnlyRecorded s t ∧
      Answered specAdmQuery m.val e .done .none
        (let p := specAdmQuery.on m.val e
        [word [(0, (ofInt 48 (s.admp p).b).toNat)], word [(0, (ofInt 48 s.adm.q).toNat)],
          word [(0, (s.adm.deferral p).length), (16, (s.admp p).g.toNat), (32, (s.admp p).w.toNat)],
          word [(0, (s.admp p).overloads.toNat)], word [(0, (s.admp p).quotaPower.toNat)]]) s t) ∧
  (∀ (m : Fin 18) (e : Entry) (s : State), Accepted specJobQuery m.val e s →
    ∃ t, exec (.jobQuery m e) s = .next t ∧ OnlyRecorded s t ∧
      Answered specJobQuery m.val e .done .none
        (jobQueryWords m.val (e.arg 0) (s.entered m.val specJobQuery.opcode e)) s t) ∧
  (∀ (m : Fin 18) (e : Entry) (s : State), Accepted specPartQuery m.val e s →
    ∃ t, exec (.partQuery m e) s = .next t ∧ OnlyRecorded s t ∧
      Answered specPartQuery m.val e .done .none
        (partQueryWords (specPartQuery.on m.val e) s) s t) ∧
  (∀ (m : Fin 18) (e : Entry) (s : State), Accepted specCtxQuery m.val e s →
    ∃ t, exec (.ctxQuery m e) s = .next t ∧ OnlyRecorded s t ∧
      Answered specCtxQuery m.val e .done .none
        (ctxQueryWords (specCtxQuery.on m.val e) (fld (e.arg 0) 0 6) (s.entered m.val specCtxQuery.opcode e)) s t) ∧
  (∀ (m : Fin 18) (e : Entry) (s : State), Accepted specMemQuery m.val e s →
    ∃ t, exec (.memQuery m e) s = .next t ∧ OnlyRecorded s t ∧
      Answered specMemQuery m.val e .done .none
        (memQueryWords (specMemQuery.on m.val e) (e.arg 0) s) s t) ∧
  (∀ (m : Fin 18) (e : Entry) (s : State), Accepted specBoundGet m.val e s →
    ∃ t, exec (.boundGet m e) s = .next t ∧ OnlyRecorded s t ∧
      Answered specBoundGet m.val e .done .none
        ((List.range (fld (e.arg 0) 8 3)).map
          (fun i => s.boundReg (specBoundGet.on m.val e) (fld (e.arg 0) 0 6 + i))) s t)

/-- KV.QUERY without a pool, of a pool and of a block, SFU.QUERY of tables and programs, SPAN.QUERY without a buffer,
GROUP.QUERY, PWR.QUERY, LINK.QUERY, SHEAF.QUERY, FW.QUERY and CTX.POSTMORTEM of a context with a fault record: an
accepted query stages one record, DONE with the words of its table, and changes nothing else. SFU.QUERY of a built-in
image and SPAN.QUERY with a buffer the context may write store the bytes there and are DONE with the same words; a
block no pool names is BAD_HANDLE, a buffer the context may not write ARG_FAULT. (R127, R209, R232, R298, R331, R357,
R382, R406, R440.) -/
def Obligations.UnitQueriesAnswer : Prop :=
  (∀ (m : Fin 18) (e : Entry) (s : State) (k : KvPool), Accepted specKvQuery m.val e s →
    s.kv.get none (specKvQuery.on m.val e) = some k → bit (e.arg 0) 0 = false →
    ∃ t, exec (.kvQuery m e) s = .next t ∧ OnlyRecorded s t ∧
      Answered specKvQuery m.val e .done .none k.queryWords s t) ∧
  (∀ (m : Fin 18) (e : Entry) (s : State), Accepted specKvQuery m.val e s →
    s.kv.get none (specKvQuery.on m.val e) = none →
    ∃ t, exec (.kvQuery m e) s = .next t ∧ OnlyRecorded s t ∧
      Answered specKvQuery m.val e .done .none [0, 0, 0, 0, 0] s t) ∧
  (∀ (m : Fin 18) (e : Entry) (s : State) (k : KvPool), Accepted specKvQuery m.val e s →
    s.kv.get none (specKvQuery.on m.val e) = some k → bit (e.arg 0) 0 = true →
    ∃ t, exec (.kvQuery m e) s = .next t ∧ OnlyRecorded s t ∧
      (∀ b, k.named (e.arg 1) = some b → Answered specKvQuery m.val e .done .none (k.blockWords b) s t) ∧
      (k.named (e.arg 1) = none → Answered specKvQuery m.val e .badCommand .badHandle [] s t)) ∧
  (∀ (m : Fin 18) (e : Entry) (s : State), Accepted specSfuQuery m.val e s → fld (e.arg 0) 0 2 ≠ 2 →
    ∃ t, exec (.sfuQuery m e) s = .next t ∧ OnlyRecorded s t ∧
      Answered specSfuQuery m.val e .done .none
        (sfuQueryWords (specSfuQuery.on m.val e) (fld (e.arg 0) 0 2) s) s t) ∧
  (∀ (m : Fin 18) (e : Entry) (s : State) (img : List Byte), Accepted specSfuQuery m.val e s → fld (e.arg 0) 0 2 = 2 →
    img = builtinImage (s.builtinSet (specSfuQuery.on m.val e)) (fld (e.arg 0) 8 3) →
    ∃ t, exec (.sfuQuery m e) s = .next t ∧
      (s.argWritable (specSfuQuery.on m.val e) e.ctx.toNat (fld (e.arg 1) 0 52) img.length = true →
        t = ((s.entered m.val specSfuQuery.opcode e).writeArg (specSfuQuery.on m.val e) e.ctx.toNat
          (fld (e.arg 1) 0 52) img).finish (cmdIdOf s.nextUid m.val specSfuQuery.opcode e) .done .none
            [word [(0, img.length)]]) ∧
      (s.argWritable (specSfuQuery.on m.val e) e.ctx.toNat (fld (e.arg 1) 0 52) img.length = false →
        OnlyRecorded s t ∧ Answered specSfuQuery m.val e .badCommand .argFault [] s t)) ∧
  (∀ (m : Fin 18) (e : Entry) (s : State) (x : Span), Accepted specSpanQuery m.val e s →
    s.span? (BitVec.ofNat 16 (fld (e.arg 0) 0 16)) = some x → x.part = specSpanQuery.on m.val e → (e.arg 1).toNat = 0
        →
    ∃ t, exec (.spanQuery m e) s = .next t ∧ OnlyRecorded s t ∧
      Answered specSpanQuery m.val e .done .none (spanQueryWords x s) s t) ∧
  (∀ (m : Fin 18) (e : Entry) (s : State) (x : Span), Accepted specSpanQuery m.val e s →
    s.span? (BitVec.ofNat 16 (fld (e.arg 0) 0 16)) = some x → x.part = specSpanQuery.on m.val e →
    (e.arg 1).toNat ≠ 0 →
    ∃ t, exec (.spanQuery m e) s = .next t ∧
      (s.argWritable (specSpanQuery.on m.val e) e.ctx.toNat (e.arg 1).toNat x.ring.length = true →
        t = ((s.entered m.val specSpanQuery.opcode e).writeArg (specSpanQuery.on m.val e) e.ctx.toNat (e.arg 1).toNat
          (x.ring.map (fun k => BitVec.ofNat 8 k))).finish (cmdIdOf s.nextUid m.val specSpanQuery.opcode e) .done .none
            (spanQueryWords x s)) ∧
      (s.argWritable (specSpanQuery.on m.val e) e.ctx.toNat (e.arg 1).toNat x.ring.length = false →
        OnlyRecorded s t ∧ Answered specSpanQuery m.val e .badCommand .argFault [] s t)) ∧
  (∀ (m : Fin 18) (e : Entry) (s : State), Accepted specGroupQuery m.val e s →
    ∃ t, exec (.groupQuery m e) s = .next t ∧ OnlyRecorded s t ∧
      Answered specGroupQuery m.val e .done .none
        (s.groupQueryWords (specGroupQuery.on m.val e) (fld (e.arg 0) 0 8)) s t) ∧
  (∀ (m : Fin 18) (e : Entry) (s : State), Accepted specPwrQuery m.val e s →
    ∃ t, exec (.pwrQuery m e) s = .next t ∧ OnlyRecorded s t ∧
      Answered specPwrQuery m.val e .done .none
        (let p := specPwrQuery.on m.val e
        [s.pwr.capWord, s.pwr.thermWord, s.pwr.baseWord] ++
          (if vfOnly m.val || bit (e.arg 0) 4 then [(s.pwrp p).creditWord, (s.pwrp p).statWord] else [])) s t) ∧
  (∀ (m : Fin 18) (e : Entry) (s : State), Accepted specLinkQuery m.val e s →
    ∃ t, exec (.linkQuery m e) s = .next t ∧ OnlyRecorded s t ∧
      Answered specLinkQuery m.val e .done .none
        (linkQueryWords (fld (e.arg 0) 0 4) s) s t) ∧
  (∀ (m : Fin 18) (e : Entry) (s : State), Accepted specSheafQuery m.val e s →
    ∃ t, exec (.sheafQuery m e) s = .next t ∧ OnlyRecorded s t ∧
      Answered specSheafQuery m.val e .done .none
        (sheafQueryWords (e.arg 0) s) s t) ∧
  (∀ (m : Fin 18) (e : Entry) (s : State), Accepted specFwQuery m.val e s →
    ∃ t, exec (.fwQuery m e) s = .next t ∧ OnlyRecorded s t ∧
      Answered specFwQuery m.val e .done .none
        (fwQueryWords s) s t) ∧
  (∀ (m : Fin 18) (e : Entry) (s : State), Accepted specCtxPostmortem m.val (e.withMode 8 1 0) s →
    ((s.ctx (specCtxPostmortem.on m.val (e.withMode 8 1 0)) (fld ((e.withMode 8 1 0).arg 0) 0 6)).state = .killing ∨
      (s.ctx (specCtxPostmortem.on m.val (e.withMode 8 1 0)) (fld ((e.withMode 8 1 0).arg 0) 0 6)).state = .dead) →
    ∃ t, exec (.ctxPostmortem m e) s = .next t ∧ OnlyRecorded s t ∧
      Answered specCtxPostmortem m.val (e.withMode 8 1 0) .done .none
        ((s.ctx (specCtxPostmortem.on m.val (e.withMode 8 1 0)) (fld ((e.withMode 8 1 0).arg 0) 0 6)).faultWords) s t)

/-- FRAME.SET_PERIOD at a master or STANDALONE package with no change under way proposes it to every reachable
package; FRAME.SET_OVERRUN_LIMIT keeps the limit for the next commit instant, FRAME.SET_PREFERENCE stores the
preference; ADM.SET keeps A, or the rate and weight of a partition, for the next pass. (R62, R67, R105.) -/
def Obligations.FrameAndRateCommandsComplete : Prop :=
  (∀ (m : Fin 18) (e : Entry) (s : State), Accepted specFrameSetPeriod m.val e s → (s.frm.role = .master ∨ s.frm.role
      = .standalone) →
    s.frm.proposal = none → s.frm.change = none →
    ∃ t, exec (.frameSetPeriod m e) s = .next t ∧
      t.frm.changeCmd = some (cmdIdOf s.nextUid m.val specFrameSetPeriod.opcode e) ∧
      t.frm.proposal = some {
        period := BitVec.ofNat 3 (fld (e.arg 0) 0 3), slack := BitVec.ofNat 2 (fld (e.arg 0) 3 2), master := true
        expect := s.self :: (List.range 128).filter (fun k => k != s.self && decide (s.distTo k < 15)) }) ∧
  (∀ (m : Fin 18) (e : Entry) (s : State), Accepted specFrameSetOverrunLimit m.val e s → (s.part
      (specFrameSetOverrunLimit.on m.val e)).state ≠ .absent →
    (s.part (specFrameSetOverrunLimit.on m.val e)).state ≠ .tearingDown →
    ∃ t, exec (.frameSetOverrunLimit m e) s = .next t ∧
      Answered specFrameSetOverrunLimit m.val e .done .none
        [] s t ∧
      (t.frmp (specFrameSetOverrunLimit.on m.val e)).nextLimit = some (BitVec.ofNat 8 (fld (e.arg 0) 0 8)) ∧ t.ten =
          s.ten) ∧
  (∀ (m : Fin 18) (e : Entry) (s : State), Accepted specFrameSetPreference m.val e s →
    ∃ t, exec (.frameSetPreference m e) s = .next t ∧
      Answered specFrameSetPreference m.val e .done .none
        [] s t ∧
      t.frm.pref = BitVec.ofNat 4 (fld (e.arg 0) 0 4) ∧
      t.flash.pref = BitVec.ofNat 8 (fld (e.arg 0) 0 4) ∧ t.mgt.latchedPref = BitVec.ofNat 8 (fld (e.arg 0) 0 4)) ∧
  (∀ (m : Fin 18) (e : Entry) (s : State), Accepted specAdmSet m.val e s → bit (e.arg 0) 8 = true →
    ∃ t, exec (.admSet m e) s = .next t ∧
      Answered specAdmSet m.val e .done .none
        [] s t ∧
      t.adm.nextA = some (BitVec.ofNat 16 (fld (e.arg 1) 0 16)) ∧ t.adm.parts = s.adm.parts) ∧
  (∀ (m : Fin 18) (e : Entry) (s : State), Accepted specAdmSet m.val e s → bit (e.arg 0) 8 = false →
    ∃ t, exec (.admSet m e) s = .next t ∧
      Answered specAdmSet m.val e .done .none
        [] s t ∧
      (t.admp (specAdmSet.on m.val e)).next =
        some (BitVec.ofNat 16 (fld (e.arg 0) 16 16), BitVec.ofNat 8 (fld (e.arg 0) 32 8)) ∧
      t.adm.nextA = s.adm.nextA)

/-- JOB.SUBMIT whose descriptors pass their first checks becomes a job of the partition that goes on with its
checks. JOB.ABORT of a job not yet admitted ends it ABORTED with reason HOST_ABORT and is DONE; of an admitted one of a
LIVE context that nothing has decided, it decides the job and ends it once it has drained; of a decided one it waits for
that end. A START or RESUME held by a period change it ends ABORTED. (R97, R98, R161.) -/
def Obligations.JobCommandsComplete : Prop :=
  (∀ (m : Fin 18) (e : Entry) (s : State), Accepted specJobSubmit m.val e s → fld (e.arg 0) 0 52 % 128 = 0 →
    (∀ rs n w, State.checkList (specJobSubmit.on m.val e) e.ctx.toNat (fld (e.arg 0) 0 52) (fld (e.arg 1) 0 17) (fld
        (e.arg 2) 0 24) (s.entered m.val specJobSubmit.opcode e)
      (8192 - ((s.entered m.val specJobSubmit.opcode e).mb m.val).checked) 0 ≠ .failed rs n w) →
    ∃ t, exec (.jobSubmit m e) s = .next t ∧
      (let j : Job := {
        cmd := (cmdIdOf s.nextUid m.val specJobSubmit.opcode e), part := (specJobSubmit.on m.val e), cost := e.cost.toNat, noDefer := e.noDefer
        list := BitVec.ofNat 64 (fld (e.arg 0) 0 52), count := fld (e.arg 1) 0 17, peak := fld (e.arg 2) 0 24
        stage := .checking 0 }
      t = ((s.entered m.val specJobSubmit.opcode e).updAdm (fun a => { a with jobs := a.jobs ++ [j] })).checkJob j)) ∧
  (∀ (m : Fin 18) (e : Entry) (s : State) (tk : Ticket) (j : Job), Accepted specJobAbort m.val e s →
    (s.entered m.val specJobAbort.opcode e).ticketOf m.val (BitVec.ofNat 32 (fld (e.arg 0) 0 32)) = some tk →
    tk.cmd.opcode = specJobSubmit.opcode → tk.ended = false →
    s.adm.jobs.find? (fun j => j.cmd.uid == tk.cmd.uid) = some j → j.stage ≠ .admitted →
    ∃ t, exec (.jobAbort m e) s = .next t ∧
      t = ((s.entered m.val specJobAbort.opcode e).endJob { j.endIn s.frm.count with ending := some .hostAbort }
        .aborted .hostAbort).finish (cmdIdOf s.nextUid m.val specJobAbort.opcode e) .done .none [] ∧
      t.ten = s.ten ∧ t.seq = s.seq ∧ t.adm.jobs = s.adm.jobs.filter (fun x => x.cmd.uid != j.cmd.uid)) ∧
  (∀ (m : Fin 18) (e : Entry) (s : State) (tk : Ticket) (j : Job), Accepted specJobAbort m.val e s →
    (s.entered m.val specJobAbort.opcode e).ticketOf m.val (BitVec.ofNat 32 (fld (e.arg 0) 0 32)) = some tk →
    tk.cmd.opcode = specJobSubmit.opcode → tk.ended = false →
    s.adm.jobs.find? (fun j => j.cmd.uid == tk.cmd.uid) = some j → j.stage = .admitted → j.ending = none →
    (s.ctx j.part j.cmd.ctx.toNat).state = .live →
    ∃ t, exec (.jobAbort m e) s = .next t ∧
      t = ((((s.entered m.val specJobAbort.opcode e).updAdm (fun a => { a with
        jobs := a.jobs.map (fun x => if x.cmd.uid == j.cmd.uid
          then { x with aborters := [cmdIdOf s.nextUid m.val specJobAbort.opcode e] } else x) })).decideJob j.cmd.uid
            .hostAbort).endIfDrained j.cmd.uid)) ∧
  (∀ (m : Fin 18) (e : Entry) (s : State) (tk : Ticket) (j : Job) (rs : Reason), Accepted specJobAbort m.val e s →
    (s.entered m.val specJobAbort.opcode e).ticketOf m.val (BitVec.ofNat 32 (fld (e.arg 0) 0 32)) = some tk →
    tk.cmd.opcode = specJobSubmit.opcode → tk.ended = false →
    s.adm.jobs.find? (fun j => j.cmd.uid == tk.cmd.uid) = some j → j.stage = .admitted → j.ending = some rs →
    ∃ t, exec (.jobAbort m e) s = .next t ∧ t.ten = s.ten ∧ t.seq = s.seq ∧
      t.adm.jobs = s.adm.jobs.map (fun x => if x.cmd.uid == j.cmd.uid
        then { x with aborters := x.aborters ++ [cmdIdOf s.nextUid m.val specJobAbort.opcode e] } else x)) ∧
  (∀ (m : Fin 18) (e : Entry) (s : State) (tk : Ticket), Accepted specJobAbort m.val e s →
    (s.entered m.val specJobAbort.opcode e).ticketOf m.val (BitVec.ofNat 32 (fld (e.arg 0) 0 32)) = some tk →
    tk.ended = false → s.adm.jobs.find? (fun j => j.cmd.uid == tk.cmd.uid) = none →
    s.adm.held.any (fun h => h.1.uid == tk.cmd.uid) = true →
    ∃ t, exec (.jobAbort m e) s = .next t ∧ t.ten = s.ten ∧ t.seq = s.seq ∧ t.adm.jobs = s.adm.jobs ∧
      t.adm.held = s.adm.held.filter (fun h => h.1.uid != tk.cmd.uid))

/-- PART.CREATE whose checks pass sets the partition up with the rows, quota, shares and energy it names, CREATED at
the next commit instant; START and RESUME with no change of period under way take RUNNING at the next commit
instant; FENCE stops issue; RESET begins; TEARDOWN enters TEARING_DOWN. (R360, R362, R363, R364, R366, R367.) -/
def Obligations.PartitionCommandsComplete : Prop :=
  (∀ (m : Fin 18) (e : Entry) (s : State), Accepted specPartCreate m.val e s → (s.part (specPartCreate.on m.val
      e)).state = .absent → (s.part (specPartCreate.on m.val e)).next = none →
    BitVec.ofNat 16 (fld (e.arg 0) 16 16) ≠ 0 → 1 ≤ fld (e.arg 3) 0 11 → fld (e.arg 3) 0 11 ≤ 1024 →
    (∀ r < 16, bit (BitVec.ofNat 16 (fld (e.arg 0) 16 16)) r = true →
      bit s.ten.badRows r = false ∧ s.rowOwner r = none) →
    s.sumParts (fun y => y.quota.toNat) + fld (e.arg 1) 0 9 + (s.pagesIn .quarantined).length ≤ 384 →
    (∀ g < 32, bit (BitVec.ofNat 32 (fld (e.arg 2) 0 32)) g = true → s.shareFree g = true) →
    s.sumParts (fun y => y.energy.toNat) + fld (e.arg 3) 0 11 ≤ 1024 →
    ∃ t, exec (.partCreate m e) s = .next t ∧
      (t.part (specPartCreate.on m.val e)).state = .absent ∧ (t.part (specPartCreate.on m.val e)).next = some .created
          ∧ (t.part (specPartCreate.on m.val e)).cmds = [(cmdIdOf s.nextUid m.val specPartCreate.opcode e)] ∧
      (t.part (specPartCreate.on m.val e)).rows = BitVec.ofNat 16 (fld (e.arg 0) 16 16) ∧ (t.part (specPartCreate.on
          m.val e)).quota = BitVec.ofNat 9 (fld (e.arg 1) 0 9) ∧
      (t.part (specPartCreate.on m.val e)).share = BitVec.ofNat 32 (fld (e.arg 2) 0 32) ∧
      (t.part (specPartCreate.on m.val e)).energy = BitVec.ofNat 11 (fld (e.arg 3) 0 11)) ∧
  (∀ (m : Fin 18) (e : Entry) (s : State), Accepted specPartStart m.val e s → s.periodHold = false → (s.part
      (specPartStart.on m.val e)).state = .created → (s.part (specPartStart.on m.val e)).resetting = false →
    ∃ t, exec (.partStart m e) s = .next t ∧
      (t.part (specPartStart.on m.val e)).next = some .running ∧ (t.part (specPartStart.on m.val e)).cmds = (s.part
          (specPartStart.on m.val e)).cmds ++ [(cmdIdOf s.nextUid m.val specPartStart.opcode e)] ∧ (t.part
          (specPartStart.on m.val e)).state = .created) ∧
  (∀ (m : Fin 18) (e : Entry) (s : State), Accepted specPartFence m.val e s → (s.part (specPartFence.on m.val
      e)).state = .running → (s.part (specPartFence.on m.val e)).resetting = false → (s.part (specPartFence.on m.val
      e)).fencing = false →
    ∃ t, exec (.partFence m e) s = .next t ∧
      (t.part (specPartFence.on m.val e)).fencing = true ∧ (t.part (specPartFence.on m.val e)).cmds = (s.part
          (specPartFence.on m.val e)).cmds ++ [(cmdIdOf s.nextUid m.val specPartFence.opcode e)] ∧ (t.part
          (specPartFence.on m.val e)).state = .running) ∧
  (∀ (m : Fin 18) (e : Entry) (s : State), Accepted specPartResume m.val e s → s.periodHold = false → (s.part
      (specPartResume.on m.val e)).state = .fenced → (s.part (specPartResume.on m.val e)).resetting = false →
    ∃ t, exec (.partResume m e) s = .next t ∧
      (t.part (specPartResume.on m.val e)).next = some .running ∧ (t.part (specPartResume.on m.val e)).cmds = (s.part
          (specPartResume.on m.val e)).cmds ++ [(cmdIdOf s.nextUid m.val specPartResume.opcode e)] ∧ (t.part
          (specPartResume.on m.val e)).state = .fenced) ∧
  (∀ (m : Fin 18) (e : Entry) (s : State), Accepted specPartReset m.val e s → (s.part (specPartReset.on m.val
      e)).state ≠ .absent → (s.part (specPartReset.on m.val e)).state ≠ .tearingDown → (s.part (specPartReset.on m.val
      e)).resetting = false →
    ∃ t, exec (.partReset m e) s = .next t ∧
      (t.part (specPartReset.on m.val e)).resetting = true ∧ (t.part (specPartReset.on m.val e)).fencing = false ∧
          (t.part (specPartReset.on m.val e)).next = none ∧ (t.part (specPartReset.on m.val e)).cmds = [(cmdIdOf
          s.nextUid m.val specPartReset.opcode e)] ∧
      (t.part (specPartReset.on m.val e)).state = (s.part (specPartReset.on m.val e)).state) ∧
  (∀ (m : Fin 18) (e : Entry) (s : State), Accepted specPartTeardown m.val e s → (s.part (specPartTeardown.on m.val
      e)).state ≠ .absent → (s.part (specPartTeardown.on m.val e)).state ≠ .tearingDown → (s.part (specPartTeardown.on
      m.val e)).resetting = false →
    ∃ t, exec (.partTeardown m e) s = .next t ∧
      (t.part (specPartTeardown.on m.val e)).state = .tearingDown ∧ (t.part (specPartTeardown.on m.val e)).tearCmds =
          (s.part (specPartTeardown.on m.val e)).tearCmds ++ [(cmdIdOf s.nextUid m.val specPartTeardown.opcode e)] ∧
          (t.part (specPartTeardown.on m.val e)).released = false)

/-- SPAN.CREATE enters a FORMING span whose ring is the listed packages in the order asked, and with itself alone
listed an ACTIVE one at once, DONE; SPAN.JOIN enters it and asks the creator; SPAN.LEAVE of a member asks the lead, of
the lead it is accepted only where it is the last member; SPAN.DESTROY at the lead ends a span without flows and gives
BAD_STATE while its table holds one. (R370, R372.) -/
def Obligations.SpanCommandsComplete : Prop :=
  (∀ (m : Fin 18) (e : Entry) (s : State) (bs : List Byte), Accepted specSpanCreate m.val e s →
    fld (e.arg 0) 0 8 ≠ 1 →
    s.readArg (specSpanCreate.on m.val e) e.ctx.toNat (e.arg 1).toNat (fld (e.arg 0) 0 8) = some bs →
    (bs.map (·.toNat)).any (fun b => decide (128 ≤ b)) = false →
    (bs.map (·.toNat)).eraseDups.length = fld (e.arg 0) 0 8 →
    (bs.map (·.toNat)).contains s.self = true →
    s.span? (BitVec.ofNat 16 (512 * s.self + fld (e.arg 0) 16 9)) = none →
    s.indexResting (BitVec.ofNat 16 (512 * s.self + fld (e.arg 0) 16 9)) = false →
    s.isMember (specSpanCreate.on m.val e) e.ctx.toNat = false →
    (s.ten.spans.filter (fun x => x.creator == s.self)).length < 32 →
    s.ten.spans.length < 64 →
    ∃ t, exec (.spanCreate m e) s = .next t ∧
      t.ten.spans = s.ten.spans ++ [{
        id := (BitVec.ofNat 16 (512 * s.self + fld (e.arg 0) 16 9)), state := .forming,
        creator := s.self, ring := ringOf (bit (e.arg 0) 8) (bs.map (·.toNat)), part := (specSpanCreate.on m.val e), ctx := e.ctx.toNat,
        order := bit (e.arg 0) 8, joined := [s.self], lead := s.self, cmd := some (cmdIdOf s.nextUid m.val specSpanCreate.opcode e) }]) ∧
  (∀ (m : Fin 18) (e : Entry) (s : State) (b : Byte), Accepted specSpanCreate m.val e s →
    fld (e.arg 0) 0 8 = 1 →
    s.readArg (specSpanCreate.on m.val e) e.ctx.toNat (e.arg 1).toNat 1 = some [b] →
    b.toNat = s.self →
    s.self < 128 →
    s.span? (BitVec.ofNat 16 (512 * s.self + fld (e.arg 0) 16 9)) = none →
    s.indexResting (BitVec.ofNat 16 (512 * s.self + fld (e.arg 0) 16 9)) = false →
    s.isMember (specSpanCreate.on m.val e) e.ctx.toNat = false →
    (s.ten.spans.filter (fun x => x.creator == s.self)).length < 32 →
    s.ten.spans.length < 64 →
    ∃ t, exec (.spanCreate m e) s = .next t ∧
      Answered specSpanCreate m.val e .done .none
        [word [(0, (BitVec.ofNat 16 (512 * s.self + fld (e.arg 0) 16 9)).toNat), (16, 0)]] s t ∧
      t.ten.spans = s.ten.spans ++ [{
        id := (BitVec.ofNat 16 (512 * s.self + fld (e.arg 0) 16 9)), state := .active,
        creator := s.self, ring := ringOf (bit (e.arg 0) 8) [s.self], part := (specSpanCreate.on m.val e), ctx := e.ctx.toNat,
        order := bit (e.arg 0) 8, joined := [s.self], lead := s.self }]) ∧
  (∀ (m : Fin 18) (e : Entry) (s : State), Accepted specSpanJoin m.val e s →
    s.span? (BitVec.ofNat 16 (fld (e.arg 0) 0 16)) = none →
    (BitVec.ofNat 16 (fld (e.arg 0) 0 16)).toNat / 512 ≠ s.self →
    s.isMember (specSpanJoin.on m.val e) e.ctx.toNat = false →
    s.ten.spans.length < 64 →
    ∃ t, exec (.spanJoin m e) s = .next t ∧
      t.ten.spans = s.ten.spans ++ [{
        id := (BitVec.ofNat 16 (fld (e.arg 0) 0 16)), creator := (BitVec.ofNat 16 (fld (e.arg 0) 0 16)).toNat / 512, ring := [], part := (specSpanJoin.on m.val e), ctx := e.ctx.toNat
        lead := (BitVec.ofNat 16 (fld (e.arg 0) 0 16)).toNat / 512, cmd := some (cmdIdOf s.nextUid m.val specSpanJoin.opcode e) }]) ∧
  (∀ (m : Fin 18) (e : Entry) (s : State) (x : Span), Accepted specSpanLeave m.val e s →
    s.span? (BitVec.ofNat 16 (fld (e.arg 0) 0 16)) = some x →
    x.part = (specSpanLeave.on m.val e) →
    x.state ≠ .forming →
    x.leaving = false →
    x.lead ≠ s.self →
    ∃ t, exec (.spanLeave m e) s = .next t ∧
      t.span? (BitVec.ofNat 16 (fld (e.arg 0) 0 16)) = some
          { x with leaveCmds := x.leaveCmds ++ [(cmdIdOf s.nextUid m.val specSpanLeave.opcode e)] }) ∧
  (∀ (m : Fin 18) (e : Entry) (s : State) (x : Span), Accepted specSpanLeave m.val e s →
    s.span? (BitVec.ofNat 16 (fld (e.arg 0) 0 16)) = some x →
    x.part = (specSpanLeave.on m.val e) →
    x.state ≠ .forming →
    x.leaving = false →
    x.lead = s.self →
    ∃ t, exec (.spanLeave m e) s = .next t ∧
      (x.ring = [s.self] → t.span? (BitVec.ofNat 16 (fld (e.arg 0) 0 16)) = some
        { x with leaving := true, leaveCmds := x.leaveCmds ++ [(cmdIdOf s.nextUid m.val specSpanLeave.opcode e)] }) ∧
      (x.ring ≠ [s.self] → OnlyRecorded s t ∧ Answered specSpanLeave m.val e .badCommand .badState [] s t)) ∧
  (∀ (m : Fin 18) (e : Entry) (s : State) (x : Span), Accepted specSpanDestroy m.val e s →
    s.span? (BitVec.ofNat 16 (fld (e.arg 0) 0 16)) = some x →
    x.part = (specSpanDestroy.on m.val e) →
    x.lead = s.self →
    s.pln.leads.any (fun l => l.span == (BitVec.ofNat 16 (fld (e.arg 0) 0 16)) && !l.flows.isEmpty) = false →
    ∃ t, exec (.spanDestroy m e) s = .next t ∧
      t.span? (BitVec.ofNat 16 (fld (e.arg 0) 0 16)) = some
          { x with leaving := true, leaveCmds := x.leaveCmds ++ [(cmdIdOf s.nextUid m.val specSpanDestroy.opcode e)] }) ∧
  (∀ (m : Fin 18) (e : Entry) (s : State) (x : Span), Accepted specSpanDestroy m.val e s →
    s.span? (BitVec.ofNat 16 (fld (e.arg 0) 0 16)) = some x →
    x.part = (specSpanDestroy.on m.val e) →
    x.lead = s.self →
    s.pln.leads.any (fun l => l.span == (BitVec.ofNat 16 (fld (e.arg 0) 0 16)) && !l.flows.isEmpty) = true →
    ∃ t, exec (.spanDestroy m e) s = .next t ∧ OnlyRecorded s t ∧
      Answered specSpanDestroy m.val e .badCommand .badState [] s t)

/-- CTX.CREATE makes a FREE context LIVE and returns it with its tag; CTX.KILL of a LIVE context leaves it KILLING
with cause HOST_KILL and ends when the kill does; CTX.DESTROY of a DEAD context, or of a LIVE one without
tickets and spans, starts its shootdown; CTX.POSTMORTEM with ADOPT gives the dead context's pages to the heir.
(R128, R131.) -/
def Obligations.ContextCommandsComplete : Prop :=
  (∀ (m : Fin 18) (e : Entry) (s : State), Accepted specCtxCreate m.val e s →
    bit (e.arg 0) 8 = false →
    (s.ctx (specCtxCreate.on m.val e) (fld (e.arg 0) 0 6)).state = .free →
    ∃ t, exec (.ctxCreate m e) s = .next t ∧
      Answered specCtxCreate m.val e .done .none
        [word [(0, (fld (e.arg 0) 0 6)), (6, tagOf (specCtxCreate.on m.val e) (fld (e.arg 0) 0 6))]] s t ∧
      t.ctx (specCtxCreate.on m.val e) (fld (e.arg 0) 0 6) = { state := .live } ∧
      ∀ j k, tagOf j k ≠ tagOf (specCtxCreate.on m.val e) (fld (e.arg 0) 0 6) → t.ctx j k = s.ctx j k) ∧
  (∀ (m : Fin 18) (e : Entry) (s : State) (c : Nat), Accepted specCtxCreate m.val e s →
    bit (e.arg 0) 8 = true →
    (List.range 64).find? (fun c => (s.ctx (specCtxCreate.on m.val e) c).state = .free) = some c →
    ∃ t, exec (.ctxCreate m e) s = .next t ∧
      Answered specCtxCreate m.val e .done .none
        [word [(0, c), (6, tagOf (specCtxCreate.on m.val e) c)]] s t ∧
      t.ctx (specCtxCreate.on m.val e) c = { state := .live }) ∧
  (∀ (m : Fin 18) (e : Entry) (s : State), Accepted specCtxDestroy m.val e s →
    (s.ctx (specCtxDestroy.on m.val e) (fld (e.arg 0) 0 6)).destroying = false →
    ((s.ctx (specCtxDestroy.on m.val e) (fld (e.arg 0) 0 6)).state = .dead ∨
      ((s.ctx (specCtxDestroy.on m.val e) (fld (e.arg 0) 0 6)).state = .live ∧ ((s.entered m.val specCtxDestroy.opcode
          e).ctxTickets (specCtxDestroy.on m.val e) (fld (e.arg 0) 0 6)) = 0 ∧ s.isMember (specCtxDestroy.on m.val e)
          (fld (e.arg 0) 0 6) = false)) →
    ∃ t, exec (.ctxDestroy m e) s = .next t ∧
      (t.ctx (specCtxDestroy.on m.val e) (fld (e.arg 0) 0 6)).destroying = true ∧ (∀ v ∈ s.privateVpns
          (specCtxDestroy.on m.val e) (fld (e.arg 0) 0 6), t.dpte (specCtxDestroy.on m.val e) v = {}) ∧
      t.xlt.shoots = s.xlt.shoots ++ [{
        id := s.xlt.nextShoot
        next := .destroy (cmdIdOf s.nextUid m.val specCtxDestroy.opcode e) (specCtxDestroy.on m.val e) (fld (e.arg 0) 0 6) ((s.privateVpns (specCtxDestroy.on m.val e) (fld (e.arg 0) 0 6)).map (fun v => (s.dpte (specCtxDestroy.on m.val e) v).ppn.toNat)) }]) ∧
  (∀ (m : Fin 18) (e : Entry) (s : State), Accepted specCtxKill m.val e s →
    (s.ctx (specCtxKill.on m.val e) (fld (e.arg 0) 0 6)).state = .live →
    ∃ t, exec (.ctxKill m e) s = .next t ∧
      (t.ctx (specCtxKill.on m.val e) (fld (e.arg 0) 0 6)).state = .killing ∧ (t.ctx (specCtxKill.on m.val e) (fld
          (e.arg 0) 0 6)).cause = some .hostKill ∧
      (t.ctx (specCtxKill.on m.val e) (fld (e.arg 0) 0 6)).killers = (s.ctx (specCtxKill.on m.val e) (fld (e.arg 0) 0
          6)).killers ++ [(cmdIdOf s.nextUid m.val specCtxKill.opcode e)]) ∧
  (∀ (m : Fin 18) (e : Entry) (s : State) (p k a : Nat), Accepted specCtxPostmortem m.val (e.withMode 8 1 1) s →
    p = (specCtxPostmortem.on m.val (e.withMode 8 1 1)) →
    k = fld ((e.withMode 8 1 1).arg 0) 0 6 →
    a = fld ((e.withMode 8 1 1).arg 0) 16 6 →
    (s.ctx p k).state = .dead →
    (s.ctx p k).destroying = false →
    (s.ctx p a).state = .live →
    ∃ t, exec (.ctxPostmortemAdopt m e) s = .next t ∧
      t.xlt.shoots = s.xlt.shoots ++
          [{ id := s.xlt.nextShoot, next := .adopt (cmdIdOf s.nextUid m.val specCtxPostmortem.opcode (e.withMode 8 1 1)) (s.ctx p k).faultWords }])

/-- MEM.ALLOC maps consecutive VPNs to FREE pages of the stacks asked for, which are then OWNED by the partition and
context; MEM.FREE unmaps pages the caller owns, MEM.UNMAP_HOST a window, and both end with the shootdown;
MEM.MAP_HOST writes the window's entry; BOUND.SET writes bound registers. (R131, R141.) -/
def Obligations.MemoryCommandsComplete : Prop :=
  (∀ (m : Fin 18) (e : Entry) (s : State) (v : Nat), Accepted specMemAlloc m.val e s →
    (if bit (e.arg 0) 41 then s.freeRun (specMemAlloc.on m.val e) (fld (e.arg 0) 0 10)
      else if (List.range (fld (e.arg 0) 0 10)).all (fun i => !(s.dpte (specMemAlloc.on m.val e) (fld (e.arg 0) 32 9 +
          i)).valid)
        then some (fld (e.arg 0) 32 9) else none) = some v →
    ((s.pagesIn .free).filter (stackOk (fld (e.arg 0) 16 8))).length ≥ fld (e.arg 0) 0 10 →
    s.pagesHeld (specMemAlloc.on m.val e) + fld (e.arg 0) 0 10 ≤ (s.part (specMemAlloc.on m.val e)).quota.toNat →
    ∃ t, exec (.memAlloc m e) s = .next t ∧
      Answered specMemAlloc m.val e .done .none
        [word [(0, v)], word [(0, fld (e.arg 0) 0 10)]] s t ∧
      (∀ n ∈ ((s.pagesIn .free).filter (stackOk (fld (e.arg 0) 16 8))).take (fld (e.arg 0) 0 10),
        t.ownEntry n =
            { state := .owned, part := BitVec.ofNat 4 (specMemAlloc.on m.val e), ctx := e.ctx, any := bit (e.arg 0) 25 })
            ∧
      (∀ i < fld (e.arg 0) 0 10, t.dpte (specMemAlloc.on m.val e) (v + i) = {
        valid := true, write := bit (e.arg 0) 24, any := bit (e.arg 0) 25, ctx := e.ctx
        ppn := BitVec.ofNat 9 ((((s.pagesIn .free).filter (stackOk (fld (e.arg 0) 16 8))).take (fld (e.arg 0) 0 10)).getD i 0) })) ∧
  (∀ (m : Fin 18) (e : Entry) (s : State), Accepted specMemFree m.val e s →
    (fld (e.arg 0) 0 9) + (fld (e.arg 0) 9 10) ≤ 512 →
    ((List.range (fld (e.arg 0) 9 10)).map ((fld (e.arg 0) 0 9) + ·)).all (fun v => (s.dpte (specMemFree.on m.val e)
        v).owns e.ctx.toNat) = true →
    (s.kv.get none (specMemFree.on m.val e)).any (fun k => decide (k.vpn < (fld (e.arg 0) 0 9) + (fld (e.arg 0) 9 10))
        && decide ((fld (e.arg 0) 0 9) < k.vpn + k.pages)) = false →
    ∃ t, exec (.memFree m e) s = .next t ∧
      (∀ i < (fld (e.arg 0) 9 10), t.dpte (specMemFree.on m.val e) ((fld (e.arg 0) 0 9) + i) = {}) ∧
      t.xlt.shoots = s.xlt.shoots ++ [{
        id := s.xlt.nextShoot
        next := .memFree (cmdIdOf s.nextUid m.val specMemFree.opcode e) (((List.range (fld (e.arg 0) 9 10)).map ((fld (e.arg 0) 0 9) + ·)).map (fun v => (s.dpte (specMemFree.on m.val e) v).ppn.toNat)) }]) ∧
  (∀ (m : Fin 18) (e : Entry) (s : State), Accepted specMemMapHost m.val e s →
    (s.hwin (specMemMapHost.on m.val e) (fld (e.arg 0) 0 8)).valid = false →
    ∃ t, exec (.memMapHost m e) s = .next t ∧
      Answered specMemMapHost m.val e .done .none
        [] s t ∧
      t.hwin (specMemMapHost.on m.val e) (fld (e.arg 0) 0 8) =
          { valid := true, write := bit (e.arg 0) 8, any := bit (e.arg 0) 9, ctx := e.ctx, iova := BitVec.ofNat 34 (fld (e.arg 1) 30 34) }
          ∧
      ∀ j, j ≠ 256 * (specMemMapHost.on m.val e) + (fld (e.arg 0) 0 8) → t.xlt.win.get {} j = s.xlt.win.get {} j) ∧
  (∀ (m : Fin 18) (e : Entry) (s : State), Accepted specMemUnmapHost m.val e s →
    (s.hwin (specMemUnmapHost.on m.val e) (fld (e.arg 0) 0 8)).owns e.ctx.toNat = true →
    ∃ t, exec (.memUnmapHost m e) s = .next t ∧
      t.hwin (specMemUnmapHost.on m.val e) (fld (e.arg 0) 0 8) = {} ∧ t.xlt.shoots = s.xlt.shoots ++
          [{ id := s.xlt.nextShoot, next := .unmap (cmdIdOf s.nextUid m.val specMemUnmapHost.opcode e) }]) ∧
  (∀ (m : Fin 18) (e : Entry) (s : State), Accepted specBoundSet m.val e s →
    ∃ t, exec (.boundSet m e) s = .next t ∧
      Answered specBoundSet m.val e .done .none
        [] s t ∧
      (∀ i < fld (e.arg 0) 8 4, t.boundReg (specBoundSet.on m.val e) (fld (e.arg 0) 0 6 + i) = e.arg (i + 1)) ∧
      ∀ j, (∀ i < fld (e.arg 0) 8 4, j ≠ 64 * (specBoundSet.on m.val e) + (fld (e.arg 0) 0 6 + i)) →
        t.seq.bounds.get 0 j = s.seq.bounds.get 0 j)

/-- KV.ALLOC: POOL sets a pool up over pages the partition may write with a free key and private pages; FRESH takes
FREE blocks, reclaiming CACHED ones where allowed, and writes their references; SHARE adds a holding to a block
and its ancestors; WRITE of a block held alone answers it as it is, and of a shared one starts a copy. (R186,
R193, R196, R209.) -/
def Obligations.KvAllocCompletes : Prop :=
  (∀ (m : Fin 18) (e : Entry) (s : State) (a : Entry) (h d f n r : Nat), Accepted specKvAlloc m.val (e.withMode 0 2 0)
      s →
    a = (e.withMode 0 2 0) →
    s.kv.get none (specKvAlloc.on m.val (e.withMode 0 2 0)) = none →
    h = fld (a.arg 2) 0 7 →
    d = fld (a.arg 2) 7 9 →
    f = fld (a.arg 2) 16 2 →
    n = kvBlocks (fld (a.arg 1) 9 10) h d f →
    r = kvPrivatePages n →
    fld (a.arg 1) 0 9 + fld (a.arg 1) 9 10 ≤ 512 →
    (List.range (fld (a.arg 1) 9 10)).all (fun i =>
      let t := s.dpte (specKvAlloc.on m.val (e.withMode 0 2 0)) (fld (a.arg 1) 0 9 + i)
      t.valid && t.write && t.any) = true →
    r ≤ (s.pagesIn .free).length →
    s.pagesHeld (specKvAlloc.on m.val (e.withMode 0 2 0)) + r ≤ (s.part (specKvAlloc.on m.val (e.withMode 0 2
        0))).quota.toNat →
    ∃ t, exec (.kvAllocPool m e) s = .next t ∧
      Answered specKvAlloc m.val (e.withMode 0 2 0) .done .none
        [word [(0, n)], word [(0, kvLog2Slot h d f)], word [(0, r)]] s t ∧
      t.kv.get none (specKvAlloc.on m.val (e.withMode 0 2 0)) = some {
        heads := h, dim := d, fmt := f, n := n, vpn := fld (a.arg 1) 0 9, pages := fld (a.arg 1) 9 10
        priv := (s.pagesIn .free).take r, key := Config.kvKey s.free } ∧ t.free = s.free + 1) ∧
  (∀ (m : Fin 18) (e : Entry) (s : State) (a : Entry) (k k2 : KvPool) (n : Nat) (u : State), Accepted specKvAlloc
      m.val (e.withMode 0 2 1) s →
    a = (e.withMode 0 2 1) →
    n = fld (a.arg 1) 0 13 →
    s.kv.get none (specKvAlloc.on m.val (e.withMode 0 2 1)) = some k →
    s.argWritable (specKvAlloc.on m.val (e.withMode 0 2 1)) e.ctx.toNat (fld (a.arg 2) 0 52) (8 * n) = true →
    k.reclaim n (!bit (a.arg 0) 4) = some k2 →
    u = s.writeArg (specKvAlloc.on m.val (e.withMode 0 2 1)) e.ctx.toNat (fld (a.arg 2) 0 52)
      ((k2.take n s.free).2.flatMap (fun b => bytesLE 8 ((k2.take n s.free).1.ref b).toNat)) →
    ∃ t, exec (.kvAllocFresh m e) s = .next t ∧
      Answered specKvAlloc m.val (e.withMode 0 2 1) .done .none
        [word [(0, n)]] s t ∧
      t.kv.get none (specKvAlloc.on m.val (e.withMode 0 2 1)) = some (k2.take n s.free).1 ∧ t.free =
          s.free + n ∧
      t.dram = u.dram ∧ t.spad = u.spad ∧ t.host = u.host) ∧
  (∀ (m : Fin 18) (e : Entry) (s : State) (a : Entry) (k k2 : KvPool) (b : Nat), Accepted specKvAlloc m.val
      (e.withMode 0 2 2) s →
    a = (e.withMode 0 2 2) →
    s.kv.get none (specKvAlloc.on m.val (e.withMode 0 2 2)) = some k →
    k.named (a.arg 1) = some b →
    (k.block b).state ≠ .free →
    (k.line b).any (fun x => (k.block x).count.toNat = 65535) = false →
    k2 = (k.line b).foldl (fun k x => k.upd x (fun y => { y with
      count := y.count + 1, lastUse := s.frm.count
      state := if y.state = .cached then .published else y.state })) k →
    ∃ t, exec (.kvAllocShare m e) s = .next t ∧
      Answered specKvAlloc m.val (e.withMode 0 2 2) .done .none
        [word [(0, (k2.block b).count.toNat)]] s t ∧
      t.kv.get none (specKvAlloc.on m.val (e.withMode 0 2 2)) = some k2) ∧
  (∀ (m : Fin 18) (e : Entry) (s : State) (a : Entry) (k : KvPool) (b : Nat), Accepted specKvAlloc m.val (e.withMode 0
      2 3) s →
    a = (e.withMode 0 2 3) →
    s.kv.get none (specKvAlloc.on m.val (e.withMode 0 2 3)) = some k →
    k.named (a.arg 1) = some b →
    (k.block b).state = .priv →
    (k.block b).count = 1 →
    ∃ t, exec (.kvAllocWrite m e) s = .next t ∧
      Answered specKvAlloc m.val (e.withMode 0 2 3) .done .none
        [k.ref b, 0] s t ∧
      t.kv = s.kv) ∧
  (∀ (m : Fin 18) (e : Entry) (s : State) (a : Entry) (k k2 : KvPool) (b n : Nat), Accepted specKvAlloc m.val
      (e.withMode 0 2 3) s →
    a = (e.withMode 0 2 3) →
    s.kv.get none (specKvAlloc.on m.val (e.withMode 0 2 3)) = some k →
    k.named (a.arg 1) = some b →
    (k.block b).state ≠ .free →
    (k.block b).state ≠ .cached →
    ((k.block b).state ≠ .priv ∨ (k.block b).count ≠ 1) →
    k.reclaim 1 (!bit (a.arg 0) 4) = some k2 →
    n = (k2.take 1 s.free).2.headD 0 →
    ∃ t, exec (.kvAllocWrite m e) s = .next t ∧
      t.kv.get none (specKvAlloc.on m.val (e.withMode 0 2 3)) = some { (k2.take 1 s.free).1 with
        copies := (k2.take 1 s.free).1.copies ++ [{
          cmd := (cmdIdOf s.nextUid m.val specKvAlloc.opcode (e.withMode 0 2 3)), ctx := e.ctx.toNat, orig := b, new := n, admSeq := s.adm.nextSeq
          desc := kvCopyDesc (s.lowestTiller (specKvAlloc.on m.val (e.withMode 0 2 3))) (k2.dva b) (k2.dva n) (kvBlockSize k2.heads k2.dim k2.fmt) }] } ∧
      t.adm.nextSeq = s.adm.nextSeq + 1)

/-- KV.RELEASE takes a holding from a block, or from a block and its ancestors, and with POOL drops a pool whose
blocks are all FREE or CACHED; KV.INSERT publishes a private block, or answers the block that already holds its
tokens; KV.LOOKUP walks the tree; KV.EVICT evicts in its three modes. (R193, R202, R203, R206, R209.) -/
def Obligations.KvBlockCommandsComplete : Prop :=
  (∀ (m : Fin 18) (e : Entry) (s : State) (a : Entry) (k : KvPool) (b : Nat) (l : List Nat), Accepted specKvRelease
      m.val (e.withMode 1 1 0) s →
    a = (e.withMode 1 1 0) →
    s.kv.get none (specKvRelease.on m.val (e.withMode 1 1 0)) = some k →
    k.named (a.arg 1) = some b →
    l = (if bit (a.arg 0) 0 then k.line b else [b]) →
    l.any (fun x => (k.block x).count = 0) = false →
    ∃ t, exec (.kvRelease m e) s = .next t ∧
      Answered specKvRelease m.val (e.withMode 1 1 0) .done .none
        [word [(0, (k.block b).count.toNat - 1)]] s t ∧
      t.kv.get none (specKvRelease.on m.val (e.withMode 1 1 0)) =
        some (l.foldl (fun k x => k.upd x (fun y => KvBlock.drop { y with lastUse := s.frm.count })) k)) ∧
  (∀ (m : Fin 18) (e : Entry) (s : State) (k : KvPool), Accepted specKvRelease m.val (e.withMode 1 1 1) s →
    s.kv.get none (specKvRelease.on m.val (e.withMode 1 1 1)) = some k →
    k.blocks.all (fun b => b.2.state = .free || b.2.state = .cached) = true →
    k.priv = [] →
    ∃ t, exec (.kvReleasePool m e) s = .next t ∧
      Answered specKvRelease m.val (e.withMode 1 1 1) .done .none
        [0] s t ∧
      t.kv.get none (specKvRelease.on m.val (e.withMode 1 1 1)) = none ∧ t.xlt = s.xlt) ∧
  (∀ (m : Fin 18) (e : Entry) (s : State) (k k2 : KvPool) (b : Nat) (bs : List Byte), Accepted specKvInsert m.val e s
      →
    s.kv.get none (specKvInsert.on m.val e) = some k →
    k.named (e.arg 1) = some b →
    bit (e.arg 0) 12 = true →
    (k.block b).state = .priv →
    s.readArg (specKvInsert.on m.val e) e.ctx.toNat (fld (e.arg 3) 0 52) 2048 = some bs →
    k.matching none (fld (e.arg 0) 0 12) (tokensOf 512 bs) = none →
    k2 = k.upd b (fun y => { y with
      state := .published, layer := BitVec.ofNat 12 (fld (e.arg 0) 0 12), parent := none, depth := BitVec.ofNat 16 1
      digest := kvDigest k.key 0 (fld (e.arg 0) 0 12) true (tokensOf 512 bs), tokens := tokensOf 512 bs
      lastUse := s.frm.count }) →
    ∃ t, exec (.kvInsert m e) s = .next t ∧
      Answered specKvInsert m.val e .done .none
        [0, k2.ref b, word [(0, 1)]] s t ∧
      t.kv.get none (specKvInsert.on m.val e) = some k2) ∧
  (∀ (m : Fin 18) (e : Entry) (s : State) (k k2 : KvPool) (b q d : Nat) (bs : List Byte), Accepted specKvInsert m.val
      e s →
    s.kv.get none (specKvInsert.on m.val e) = some k →
    k.named (e.arg 1) = some b →
    bit (e.arg 0) 12 = false →
    k.named (e.arg 2) = some q →
    (k.block q).inTree = true →
    (k.block q).layer.toNat = fld (e.arg 0) 0 12 →
    d = (k.block q).depth.toNat + 1 →
    d ≤ 32768 →
    (k.block b).state = .priv →
    s.readArg (specKvInsert.on m.val e) e.ctx.toNat (fld (e.arg 3) 0 52) 2048 = some bs →
    k.matching (some q) (fld (e.arg 0) 0 12) (tokensOf 512 bs) = none →
    k2 = k.upd b (fun y => { y with
      state := .published, layer := BitVec.ofNat 12 (fld (e.arg 0) 0 12), parent := some q, depth := BitVec.ofNat 16 d
      digest := kvDigest k.key (k.block q).digest (fld (e.arg 0) 0 12) false (tokensOf 512 bs), tokens := tokensOf 512 bs
      lastUse := s.frm.count }) →
    ∃ t, exec (.kvInsert m e) s = .next t ∧
      Answered specKvInsert m.val e .done .none
        [0, k2.ref b, word [(0, d)]] s t ∧
      t.kv.get none (specKvInsert.on m.val e) = some k2) ∧
  (∀ (m : Fin 18) (e : Entry) (s : State) (k : KvPool) (b x : Nat) (bs : List Byte), Accepted specKvInsert m.val e s →
    s.kv.get none (specKvInsert.on m.val e) = some k →
    k.named (e.arg 1) = some b →
    bit (e.arg 0) 12 = true →
    (k.block b).state = .priv →
    s.readArg (specKvInsert.on m.val e) e.ctx.toNat (fld (e.arg 3) 0 52) 2048 = some bs →
    k.matching none (fld (e.arg 0) 0 12) (tokensOf 512 bs) = some x →
    ∃ t, exec (.kvInsert m e) s = .next t ∧
      Answered specKvInsert m.val e .done .none
        [1, k.ref x, word [(0, (k.block x).depth.toNat)]] s t ∧
      t.kv = s.kv) ∧
  (∀ (m : Fin 18) (e : Entry) (s : State) (k : KvPool) (n : Nat) (bs : List Byte) (r : Nat × Option Nat), Accepted
      specKvLookup m.val e s →
    s.kv.get none (specKvLookup.on m.val e) = some k →
    n = fld (e.arg 2) 0 25 / 512 →
    s.readArg (specKvLookup.on m.val e) e.ctx.toNat (fld (e.arg 1) 0 52) (2048 * n) = some bs →
    r = k.walk (fld (e.arg 0) 0 12) (chunks 512 n (tokensOf (512 * n) bs)) 0 none →
    ∃ t, exec (.kvLookup m e) s = .next t ∧
      Answered specKvLookup m.val e .done .none
        [word [(0, r.1)], (r.2.map (fun b => k.ref b)).getD 0, word [(0, 512 * r.1)]] s t ∧
      t = ((s.entered m.val specKvLookup.opcode e).argRead (specKvLookup.on m.val e) e.ctx.toNat (fld (e.arg 1) 0 52)
        (2048 * n)).finish (cmdIdOf s.nextUid m.val specKvLookup.opcode e) .done .none
          [word [(0, r.1)], (r.2.map (fun b => k.ref b)).getD 0, word [(0, 512 * r.1)]]) ∧
  (∀ (m : Fin 18) (e : Entry) (s : State) (a : Entry) (k : KvPool) (b : Nat) (r : KvPool × Nat), Accepted specKvEvict
      m.val (e.withMode 0 2 0) s →
    a = (e.withMode 0 2 0) →
    s.kv.get none (specKvEvict.on m.val (e.withMode 0 2 0)) = some k →
    k.named (a.arg 1) = some b →
    (k.block b).inTree = true →
    r = k.evict (fun x => (k.chain ((k.block x).depth.toNat) x).contains b) k.blocks.length →
    ∃ t, exec (.kvEvictSubtree m e) s = .next t ∧
      Answered specKvEvict m.val (e.withMode 0 2 0) .done .none
        [word [(0, r.2)]] s t ∧
      t.kv.get none (specKvEvict.on m.val (e.withMode 0 2 0)) = some r.1) ∧
  (∀ (m : Fin 18) (e : Entry) (s : State) (a : Entry) (k : KvPool) (r : KvPool × Nat), Accepted specKvEvict m.val
      (e.withMode 0 2 1) s →
    a = (e.withMode 0 2 1) →
    s.kv.get none (specKvEvict.on m.val (e.withMode 0 2 1)) = some k →
    r = k.evict (fun _ => true) (min (fld (a.arg 1) 0 23) k.blocks.length) →
    ∃ t, exec (.kvEvictOldest m e) s = .next t ∧
      Answered specKvEvict m.val (e.withMode 0 2 1) .done .none
        [word [(0, r.2)]] s t ∧
      t.kv.get none (specKvEvict.on m.val (e.withMode 0 2 1)) = some r.1) ∧
  (∀ (m : Fin 18) (e : Entry) (s : State) (k : KvPool) (r : KvPool × Nat), Accepted specKvEvict m.val (e.withMode 0 2
      2) s →
    s.kv.get none (specKvEvict.on m.val (e.withMode 0 2 2)) = some k →
    r = k.evict (fun _ => true) k.blocks.length →
    ∃ t, exec (.kvEvictAll m e) s = .next t ∧
      Answered specKvEvict m.val (e.withMode 0 2 2) .done .none
        [word [(0, r.2)]] s t ∧
      t.kv.get none (specKvEvict.on m.val (e.withMode 0 2 2)) = some r.1)

/-- SFU.LOAD_TABLE and SFU.LOAD_PROGRAM whose image passes its checks wait at their slot in order of consumption, and
a table image that fails them gives OUT_OF_RANGE with the offset of its first fault; SFU.UNLOAD_TABLE waits likewise, is
DONE at once on an empty slot, and gives BAD_STATE for a table a loaded program names. (R228, R229.) -/
def Obligations.SfuCommandsComplete : Prop :=
  (∀ (m : Fin 18) (e : Entry) (s : State) (bs : List Byte), Accepted specSfuLoadTable m.val e s →
    s.readArg (specSfuLoadTable.on m.val e) e.ctx.toNat (fld (e.arg 1) 0 52) (4 * fld (e.arg 2) 0 10) = some bs →
    64 + 12 * imgSegs bs = bs.length →
    tableBad bs = none →
    ∃ t, exec (.sfuLoadTable m e) s = .next t ∧
      (t.sfuSlot (slotKey (specSfuLoadTable.on m.val e) (fld (e.arg 0) 0 3))).acts = (s.sfuSlot (slotKey
          (specSfuLoadTable.on m.val e) (fld (e.arg 0) 0 3))).acts ++ [.load (cmdIdOf s.nextUid m.val
          specSfuLoadTable.opcode e) bs] ∧
      ∀ k, k ≠ slotKey (specSfuLoadTable.on m.val e) (fld (e.arg 0) 0 3) → t.sfuSlot k = s.sfuSlot k) ∧
  (∀ (m : Fin 18) (e : Entry) (s : State) (bs : List Byte), Accepted specSfuLoadProgram m.val e s →
    s.readArg (specSfuLoadProgram.on m.val e) e.ctx.toNat (fld (e.arg 1) 0 52) (8 + 8 * fld (e.arg 2) 0 6) = some bs →
    progSteps bs = fld (e.arg 2) 0 6 →
    s.programBad (specSfuLoadProgram.on m.val e) bs = none →
    ∃ t, exec (.sfuLoadProgram m e) s = .next t ∧
      (t.sfuSlot (slotKey (specSfuLoadProgram.on m.val e) (8 + (fld (e.arg 0) 0 3)))).acts = (s.sfuSlot (slotKey
          (specSfuLoadProgram.on m.val e) (8 + (fld (e.arg 0) 0 3)))).acts ++ [.load (cmdIdOf s.nextUid m.val
          specSfuLoadProgram.opcode e) bs] ∧
      ∀ k, k ≠ slotKey (specSfuLoadProgram.on m.val e) (8 + (fld (e.arg 0) 0 3)) → t.sfuSlot k = s.sfuSlot k) ∧
  (∀ (m : Fin 18) (e : Entry) (s : State) (k : Nat), Accepted specSfuUnloadTable m.val e s →
    k = slotKey (specSfuUnloadTable.on m.val e) (if bit (e.arg 0) 8 then 8 + (fld (e.arg 0) 0 3) else (fld (e.arg 0) 0
        3)) →
    (bit (e.arg 0) 8 = true ∨ (List.range 8).any (fun j => (s.sfuSlot (slotKey (specSfuUnloadTable.on m.val e) (8 +
        j))).loaded &&
      (progTables (s.sfuSlot (slotKey (specSfuUnloadTable.on m.val e) (8 + j))).image).contains (fld (e.arg 0) 0 3)) =
          false) →
    ((s.sfuSlot k).loaded = true ∨ (s.sfuSlot k).acts ≠ []) →
    ∃ t, exec (.sfuUnloadTable m e) s = .next t ∧
      (t.sfuSlot k).acts = (s.sfuSlot k).acts ++ [.unload (cmdIdOf s.nextUid m.val specSfuUnloadTable.opcode e)]) ∧
  (∀ (m : Fin 18) (e : Entry) (s : State) (k : Nat), Accepted specSfuUnloadTable m.val e s →
    k = slotKey (specSfuUnloadTable.on m.val e) (if bit (e.arg 0) 8 then 8 + (fld (e.arg 0) 0 3) else (fld (e.arg 0) 0
        3)) →
    (bit (e.arg 0) 8 = true ∨ (List.range 8).any (fun j => (s.sfuSlot (slotKey (specSfuUnloadTable.on m.val e) (8 +
        j))).loaded &&
      (progTables (s.sfuSlot (slotKey (specSfuUnloadTable.on m.val e) (8 + j))).image).contains (fld (e.arg 0) 0 3)) =
          false) →
    (s.sfuSlot k).loaded = false → (s.sfuSlot k).acts = [] →
    ∃ t, exec (.sfuUnloadTable m e) s = .next t ∧ OnlyRecorded s t ∧
      Answered specSfuUnloadTable m.val e .done .none [word [(0, s.frm.count.toNat)], 1] s t) ∧
  (∀ (m : Fin 18) (e : Entry) (s : State), Accepted specSfuUnloadTable m.val e s →
    bit (e.arg 0) 8 = false →
    (List.range 8).any (fun j => (s.sfuSlot (slotKey (specSfuUnloadTable.on m.val e) (8 + j))).loaded &&
      (progTables (s.sfuSlot (slotKey (specSfuUnloadTable.on m.val e) (8 + j))).image).contains (fld (e.arg 0) 0 3)) =
        true →
    ∃ t, exec (.sfuUnloadTable m e) s = .next t ∧ OnlyRecorded s t ∧
      Answered specSfuUnloadTable m.val e .badCommand .badState [] s t) ∧
  (∀ (m : Fin 18) (e : Entry) (s : State) (bs : List Byte) (o : Nat), Accepted specSfuLoadTable m.val e s →
    s.readArg (specSfuLoadTable.on m.val e) e.ctx.toNat (fld (e.arg 1) 0 52) (4 * fld (e.arg 2) 0 10) = some bs →
    64 + 12 * imgSegs bs = bs.length →
    tableBad bs = some o →
    ∃ t, exec (.sfuLoadTable m e) s = .next t ∧ t.sfu = s.sfu ∧
      Answered specSfuLoadTable m.val e .badCommand .outOfRange [word [(0, o)]] s t)

/-- FLOW.DECLARE in an ACTIVE span declares the flow at the span's lead; FLOW.WITHDRAW and FLOW.QUERY act at the
lead, here or by a message. (R238, R264.) -/
def Obligations.FlowCommandsComplete : Prop :=
  (∀ (m : Fin 18) (e : Entry) (s : State) (x : Span), Accepted specFlowDeclare m.val e s →
    s.activeSpan (specFlowDeclare.on m.val e) (e.arg 0) = .ok x →
    x.ring.contains (fld (e.arg 0) 16 7) = true →
    x.ring.contains (fld (e.arg 0) 24 7) = true →
    ∃ t, exec (.flowDeclare m e) s = .next t ∧
      t = (s.entered m.val specFlowDeclare.opcode e).declare x.lead {
        span := x.id, num := 0, seq := 0, src := fld (e.arg 0) 16 7, dst := fld (e.arg 0) 24 7, n := fld (e.arg 0) 32 16
        earliest := BitVec.ofNat 48 (fld (e.arg 1) 0 48), latest := BitVec.ofNat 48 (fld (e.arg 2) 0 48)
        r := fld (e.arg 3) 0 5, c := fld (e.arg 3) 16 16, key := .cmd (cmdIdOf s.nextUid m.val specFlowDeclare.opcode e) }) ∧
  (∀ (m : Fin 18) (e : Entry) (s : State) (x : Span), Accepted specFlowWithdraw m.val e s →
    s.flowSpan (specFlowWithdraw.on m.val e) (e.arg 0) = some x →
    x.lead = s.self →
    ∃ t, exec (.flowWithdraw m e) s = .next t ∧
      t = (s.entered m.val specFlowWithdraw.opcode e).leadWithdraw x.id (fld (e.arg 0) 16 10) s.self (some (cmdIdOf
          s.nextUid m.val specFlowWithdraw.opcode e))) ∧
  (∀ (m : Fin 18) (e : Entry) (s : State) (x : Span), Accepted specFlowWithdraw m.val e s →
    s.flowSpan (specFlowWithdraw.on m.val e) (e.arg 0) = some x →
    x.lead ≠ s.self →
    ∃ t, exec (.flowWithdraw m e) s = .next t ∧
      t = (s.entered m.val specFlowWithdraw.opcode e).send x.lead (.flowWithdraw x.id (fld (e.arg 0) 16 10) s.self
          (some (cmdIdOf s.nextUid m.val specFlowWithdraw.opcode e)))) ∧
  (∀ (m : Fin 18) (e : Entry) (s : State) (x : Span), Accepted specFlowQuery m.val e s →
    s.flowSpan (specFlowQuery.on m.val e) (e.arg 0) = some x →
    x.lead = s.self →
    ∃ t, exec (.flowQuery m e) s = .next t ∧
      t = (s.entered m.val specFlowQuery.opcode e).leadQuery x.id (fld (e.arg 0) 16 10) (bit (e.arg 0) 26)
          (BitVec.ofNat 48 (fld (e.arg 1) 0 48)) s.self (cmdIdOf s.nextUid m.val specFlowQuery.opcode e)) ∧
  (∀ (m : Fin 18) (e : Entry) (s : State) (x : Span), Accepted specFlowQuery m.val e s →
    s.flowSpan (specFlowQuery.on m.val e) (e.arg 0) = some x →
    x.lead ≠ s.self →
    ∃ t, exec (.flowQuery m e) s = .next t ∧
      t = (s.entered m.val specFlowQuery.opcode e).send x.lead
        (.flowQuery x.id (fld (e.arg 0) 16 10) (bit (e.arg 0) 26) (BitVec.ofNat 48 (fld (e.arg 1) 0 48)) s.self
            (cmdIdOf s.nextUid m.val specFlowQuery.opcode e)))

/-- GROUP.DEFINE with an axis, or with a member list read from its buffer, enters the group and declares its flows; GROUP.RELEASE of a group without a queue
drops it and tells the others; COMMQ.CREATE binds a queue to a ring of records over an ACTIVE or DEGRADED group,
and COMMQ.DESTROY drops an idle queue. (R268, R284, R298.) -/
def Obligations.GroupCommandsComplete : Prop :=
  (∀ (m : Fin 18) (e : Entry) (s : State) (x : Span) (bs : List Byte) (ms : List (Nat × Nat)) (i r : Nat) (g : Group),
      Accepted specGroupDefine m.val e s →
    s.activeSpan (specGroupDefine.on m.val e) (e.arg 0) = .ok x →
    (if bit (e.arg 0) 24 then some (bytesLE 8 (e.arg 2).toNat)
      else s.readArg (specGroupDefine.on m.val e) e.ctx.toNat (fld (e.arg 2) 0 52) (4 * fld (e.arg 3) 0 8)) = some bs
          →
    (if bit (e.arg 0) 24 then some (axisMembers (e.arg 2)) else listMembers (fld (e.arg 3) 0 8) bs) = some ms →
    (ms.map (·.1)).eraseDups.length = (ms.map (·.1)).length →
    (ms.map (·.1)).any (fun k => !x.ring.contains k) = false →
    (ms.map (·.1)).contains s.self = true →
    s.groupOf x.id (fld (e.arg 0) 16 8) = none →
    s.freeGroup = some i →
    r = ((ms.map (·.1)).takeWhile (fun k => k != s.self)).length →
    g = {
      index := i, span := x.id, num := fld (e.arg 0) 16 8, part := (specGroupDefine.on m.val e), ctx := (ms.getD r (0, 0)).2
      checked := bit (e.arg 0) 25, bf16In := bit (e.arg 0) 26, bf16Out := bit (e.arg 0) 27, lanes := fld (e.arg 0) 32 6
      cap := fld (e.arg 1) 0 31, members := ms, rank := r, order := List.range ms.length, crc := crc32c bs, cmd := some (cmdIdOf s.nextUid m.val specGroupDefine.opcode e) } →
    s.storeFull g = false →
    ∃ t, exec (.groupDefine m e) s = .next t ∧
      t = ((if bit (e.arg 0) 24 then s.entered m.val specGroupDefine.opcode e
        else (s.entered m.val specGroupDefine.opcode e).argRead (specGroupDefine.on m.val e) e.ctx.toNat
          (fld (e.arg 2) 0 52) (4 * fld (e.arg 3) 0 8)).enterGroup g).1) ∧
  (∀ (m : Fin 18) (e : Entry) (s : State) (g : Group), Accepted specGroupRelease m.val e s →
    (s.group? (fld (e.arg 0) 0 8)).filter (fun g => g.part == (specGroupRelease.on m.val e)) = some g →
    g.state ≠ .defining →
    s.red.queues.any (fun q => q.group == g.index) = false →
    ∃ t, exec (.groupRelease m e) s = .next t ∧
      t = ((((s.entered m.val specGroupRelease.opcode e).dropGroup g).sendAll ((g.members.map (·.1)).filter (fun k =>
          k != s.self))
        (.groupLoss g.span g.num s.self false))).finish (cmdIdOf s.nextUid m.val specGroupRelease.opcode e) .done
            .none []) ∧
  (∀ (m : Fin 18) (e : Entry) (s : State) (g : Group) (q : Nat), Accepted specCommqCreate m.val e s →
    (s.group? (fld (e.arg 0) 8 8)).filter (fun g => g.part == (specCommqCreate.on m.val e)) = some g →
    s.argWritable (specCommqCreate.on m.val e) e.ctx.toNat (fld (e.arg 1) 0 52) (64 * 2 ^ fld (e.arg 2) 0 4) = true →
    (g.state = .active ∨ g.state = .degraded) →
    s.red.queues.any (fun q => q.group == fld (e.arg 0) 8 8) = false →
    (bit (e.arg 0) 4 = true ∨ s.commq (specCommqCreate.on m.val e) (fld (e.arg 0) 0 4) = none) →
    (if bit (e.arg 0) 4 then (List.range 16).find? (fun q => (s.commq (specCommqCreate.on m.val e) q).isNone) else
        some (fld (e.arg 0) 0 4)) = some q →
    ∃ t, exec (.commqCreate m e) s = .next t ∧
      Answered specCommqCreate m.val e .done .none
        [word [(0, q)]] s t ∧
      t.red.queues = s.red.queues ++ [{
        part := (specCommqCreate.on m.val e), queue := q, group := fld (e.arg 0) 8 8, ctx := e.ctx.toNat
        ring := BitVec.ofNat 64 (fld (e.arg 1) 0 52), log2 := fld (e.arg 2) 0 4 }]) ∧
  (∀ (m : Fin 18) (e : Entry) (s : State) (x : Commq), Accepted specCommqDestroy m.val e s →
    s.commq (specCommqDestroy.on m.val e) (fld (e.arg 0) 0 4) = some x →
    x.reds = [] →
    ∃ t, exec (.commqDestroy m e) s = .next t ∧
      Answered specCommqDestroy m.val e .done .none
        [] s t ∧
      t.red.queues = s.red.queues.filter (fun y => !(y.part == (specCommqDestroy.on m.val e) && y.queue == fld (e.arg
          0) 0 4)))

/-- PWR.SET_CAP with package scope pends the cap for the frame after next, with SHEAF at the master it sends the cap
to every package; LINK.RETRAIN without FULL starts a fast retrain of an UP port and wakes a dozing one, with
FULL it brings the port down; LINK.RETIRE retires lanes that are not yet retired. (R331, R402.) -/
def Obligations.PowerAndLinkCommandsComplete : Prop :=
  (∀ (m : Fin 18) (e : Entry) (s : State) (a : Entry), Accepted specPwrSetCap m.val (e.withMode 8 1 0) s →
    a = (e.withMode 8 1 0) →
    ∃ t, exec (.pwrSetCapPackage m e) s = .next t ∧
      t.pwr.pending = BitVec.ofNat 7 (fld (a.arg 0) 0 7) ∧ t.pwr.pendingValid = true ∧ t.pwr.effective = s.frm.count +
          2 ∧
      t.pwr.capCmds = s.pwr.capCmds ++ [(cmdIdOf s.nextUid m.val specPwrSetCap.opcode (e.withMode 8 1 0))] ∧ t.pwr.cap
          = s.pwr.cap) ∧
  (∀ (m : Fin 18) (e : Entry) (s : State) (a : Entry), Accepted specPwrSetCap m.val (e.withMode 8 1 1) s →
    a = (e.withMode 8 1 1) →
    s.isMaster = true →
    e.admitAck = false →
    ∃ t, exec (.pwrSetCapSheaf m e) s = .next t ∧
      t = (s.entered m.val specPwrSetCap.opcode (e.withMode 8 1 1)).sheafCap (BitVec.ofNat 7 (fld (a.arg 0) 0 7))
          (some (cmdIdOf s.nextUid m.val specPwrSetCap.opcode (e.withMode 8 1 1)))) ∧
  (∀ (m : Fin 18) (e : Entry) (s : State) (a : Entry), Accepted specPwrSetCap m.val (e.withMode 8 1 1) s →
    a = (e.withMode 8 1 1) →
    s.isMaster = true →
    e.admitAck = true →
    ∃ t, exec (.pwrSetCapSheaf m e) s = .next t ∧
      t = ((s.entered m.val specPwrSetCap.opcode (e.withMode 8 1 1)).sheafCap (BitVec.ofNat 7 (fld (a.arg 0) 0 7))
          (some (cmdIdOf s.nextUid m.val specPwrSetCap.opcode (e.withMode 8 1 1)))).stage (cmdIdOf s.nextUid m.val
          specPwrSetCap.opcode (e.withMode 8 1 1)) .admitted .none [] false) ∧
  (∀ (m : Fin 18) (e : Entry) (s : State) (i : Nat), Accepted specLinkRetrain m.val (e.withMode 8 1 0) s →
    i = fld ((e.withMode 8 1 0).arg 0) 0 4 →
    (s.port i).health ≠ .retired →
    (s.port i).link = .up →
    ∃ t, exec (.linkRetrainFast m e) s = .next t ∧
      t = ((s.entered m.val specLinkRetrain.opcode (e.withMode 8 1 0)).updWork i (fun w =>
          { w with fastCmds := w.fastCmds ++ [(cmdIdOf s.nextUid m.val specLinkRetrain.opcode (e.withMode 8 1 0))], restarts := 0 })).startRetrain
          i) ∧
  (∀ (m : Fin 18) (e : Entry) (s : State) (i : Nat), Accepted specLinkRetrain m.val (e.withMode 8 1 0) s →
    i = fld ((e.withMode 8 1 0).arg 0) 0 4 →
    (s.port i).health ≠ .retired →
    (s.port i).link ≠ .up →
    (s.port i).link ≠ .down →
    (s.port i).link ≠ .training →
    ∃ t, exec (.linkRetrainFast m e) s = .next t ∧
      t = ((s.entered m.val specLinkRetrain.opcode (e.withMode 8 1 0)).updWork i (fun w =>
          { w with fastCmds := w.fastCmds ++ [(cmdIdOf s.nextUid m.val specLinkRetrain.opcode (e.withMode 8 1 0))] })).wakePort
          i) ∧
  (∀ (m : Fin 18) (e : Entry) (s : State) (i : Nat), Accepted specLinkRetrain m.val (e.withMode 8 1 1) s →
    i = fld ((e.withMode 8 1 1).arg 0) 0 4 →
    (s.port i).health ≠ .retired →
    ∃ t, exec (.linkRetrainFull m e) s = .next t ∧
      t = ((s.entered m.val specLinkRetrain.opcode (e.withMode 8 1 1)).updWork i (fun w =>
          { w with fullCmds := w.fullCmds ++ [(cmdIdOf s.nextUid m.val specLinkRetrain.opcode (e.withMode 8 1 1))] })).portDown
          i) ∧
  (∀ (m : Fin 18) (e : Entry) (s : State) (i : Nat) (l : BitVec 8), Accepted specLinkRetire m.val e s →
    i = fld (e.arg 0) 0 4 →
    l = retireLanes (fld (e.arg 0) 8 2) →
    (s.port i).health ≠ .retired →
    l &&& ~~~(s.port i).retiredLanes ≠ 0 →
    ∃ t, exec (.linkRetire m e) s = .next t ∧
      t = opWidthChange (Fin.ofNat 16 i) l
        ((((s.entered m.val specLinkRetire.opcode e).updWork i (fun w =>
            { w with retireCmds := w.retireCmds ++ [(cmdIdOf s.nextUid m.val specLinkRetire.opcode e)] })).wakePort
            i).permanentFault i l)) ∧
  (∀ (m : Fin 18) (e : Entry) (s : State) (i : Nat) (l : BitVec 8), Accepted specLinkRetire m.val e s →
    i = fld (e.arg 0) 0 4 →
    l = retireLanes (fld (e.arg 0) 8 2) →
    (s.port i).health ≠ .retired →
    l &&& ~~~(s.port i).retiredLanes = 0 →
    ∃ t, exec (.linkRetire m e) s = .next t ∧
      Answered specLinkRetire m.val e .done .none
        [(s.port i).stateWord] s t ∧
      OnlyRecorded s t)

/-- FW.STAGE erases the inactive bank and receives; FW.ACTIVATE of a staged image starts the activation; LOG.READ
gives the bytes of held records to host memory or, on the service mailbox, to bulk IN; SENS.READ answers the
sensors' words and with CLEAR begins their extremes again; ATB.SELECT connects a bus and ATB.SAMPLE reads it;
TEST.MBIST tests rows no partition owns and, where asked, every FREE page: failing rows are marked, failing pages
quarantined, and what the tested pages held is gone. (R415, R416, R440, R465.) -/
def Obligations.ServiceCommandsComplete : Prop :=
  (∀ (m : Fin 18) (e : Entry) (s : State), Accepted specFwStage m.val e s →
    (s.mgt.fw = .idle ∨ s.mgt.fw = .staged) →
    s.failingIn (e.arg 1).toNat (fld (e.arg 0) 0 25) = [] →
    ∃ t, exec (.fwStage m e) s = .next t ∧
      t = ((s.entered m.val specFwStage.opcode e).setFw .receiving).eraseInactive.updMgt (fun g =>
          { g with stageCmd := some (cmdIdOf s.nextUid m.val specFwStage.opcode e)
                   stageData := s.host.readBytes (e.arg 1).toNat (fld (e.arg 0) 0 25) })) ∧
  (∀ (m : Fin 18) (e : Entry) (s : State), Accepted specFwActivate m.val e s →
    s.mayActivate = true →
    ∃ t, exec (.fwActivate m e) s = .next t ∧
      t = ((s.entered m.val specFwActivate.opcode e).setFw .activating).updMgt (fun g => { g with
        act := .loading, actCmd := some (cmdIdOf s.nextUid m.val specFwActivate.opcode e), actCommit := bit (e.arg 0) 0, standbyOk := false, actDone := false })) ∧
  (∀ (m : Fin 18) (e : Entry) (s : State) (rs : List LogRec), Accepted specLogRead m.val e s →
    m.val ≠ 17 →
    rs = logFrom (BitVec.ofNat 32 (fld (e.arg 0) 0 32)) (bit (e.arg 0) 48) (fld (e.arg 0) 32 16) s.logHeld →
    ∃ t, exec (.logRead m e) s = .next t ∧
      Answered specLogRead m.val e .done .none
        [word [(0, ((rs.head?.map (fun r => r.seq.toNat)).getD (BitVec.ofNat 32 (fld (e.arg 0) 0 32)).toNat)), (32,
            rs.length)],
          word [(0, (s.logHeld.head?.map (fun r => r.seq.toNat)).getD 0)],
          word [(0, (s.logHeld.getLast?.map (fun r => r.seq.toNat)).getD 0)]] s t ∧
      t.host = s.host.writeBytes (e.arg 1).toNat (rs.flatMap LogRec.bytes)) ∧
  (∀ (m : Fin 18) (e : Entry) (s : State) (rs : List LogRec), Accepted specLogRead m.val e s →
    m.val = 17 →
    rs = logFrom (BitVec.ofNat 32 (fld (e.arg 0) 0 32)) (bit (e.arg 0) 48) (fld (e.arg 0) 32 16) s.logHeld →
    ∃ t, exec (.logRead m e) s = .next t ∧
      Answered specLogRead m.val e .done .none
        [word [(0, ((rs.head?.map (fun r => r.seq.toNat)).getD (BitVec.ofNat 32 (fld (e.arg 0) 0 32)).toNat)), (32,
            rs.length)],
          word [(0, (s.logHeld.head?.map (fun r => r.seq.toNat)).getD 0)],
          word [(0, (s.logHeld.getLast?.map (fun r => r.seq.toNat)).getD 0)]] s t ∧
      t.mgt.usbData = s.mgt.usbData ++ [(s.nextUid, rs.flatMap LogRec.bytes)] ∧ t.host = s.host) ∧
  (∀ (m : Fin 18) (e : Entry) (s : State) (ids : List Nat), Accepted specSensRead m.val e s →
    ids = (List.range (fld (e.arg 0) 16 3)).map (fun i => fld (e.arg 0) 0 16 + i) →
    ids.all (fun i => s.sensorKnown i) = true →
    bit (e.arg 0) 24 = false →
    ∃ t, exec (.sensRead m e) s = .next t ∧
      Answered specSensRead m.val e .done .none
        (ids.map (fun i => (s.sensor i).word)) s t ∧
      OnlyRecorded s t) ∧
  (∀ (m : Fin 18) (e : Entry) (s : State) (ids : List Nat), Accepted specSensRead m.val e s →
    ids = (List.range (fld (e.arg 0) 16 3)).map (fun i => fld (e.arg 0) 0 16 + i) →
    ids.all (fun i => s.sensorKnown i) = true →
    bit (e.arg 0) 24 = true →
    ∃ t, exec (.sensRead m e) s = .next t ∧
      t = (ids.foldl (fun s i => s.updSensor i (fun x => { x with min := x.value, max := x.value, cleared := true }))
          (s.entered m.val specSensRead.opcode e)).finish (cmdIdOf s.nextUid m.val specSensRead.opcode e)
        .done .none (ids.map (fun i => (s.sensor i).word))) ∧
  (∀ (m : Fin 18) (e : Entry) (s : State) (b n l o : Nat) (same : Bool), Accepted specAtbSelect m.val e s →
    b = fld (e.arg 0) 0 2 →
    n = fld (e.arg 0) 8 8 →
    l = fld (e.arg 0) 16 3 →
    s.por.atbJtag = false →
    o = (if b % 2 = 0 then b + 1 else b - 1) →
    same = (n != 0 && (s.por.nodes.get 0 o).toNat == n &&
      (!nodeHasLane n || (s.por.busLane.get 0 o).toNat == l)) →
    ∃ t, exec (.atbSelect m e) s = .next t ∧
      Answered specAtbSelect m.val e .done .none
        [word [(0, s.frm.count.toNat)]] s t ∧
      t.por.nodes = (if same then s.por.nodes.put o 0 else s.por.nodes).put b (BitVec.ofNat 8 n) ∧
      t.por.busLane = s.por.busLane.put b (BitVec.ofNat 3 l)) ∧
  (∀ (m : Fin 18) (e : Entry) (s : State) (n : Nat) (xs : List Nat), Accepted specAtbSample m.val e s →
    s.por.atbJtag = false →
    n = fld (e.arg 0) 8 8 →
    xs = (List.range n).map (fun i => (Config.adcSample s.free i).toNat) →
    ∃ t, exec (.atbSample m e) s = .next t ∧
      Answered specAtbSample m.val e .done .none
        [word [(0, (2 * xs.foldl (· + ·) 0 + n) / (2 * n)), (16, xs.foldl min 4095), (32, xs.foldl max 0)],
          word [(0, (2 * xs.foldl (· + ·) 0 * 12500 + n * 4096) / (2 * n * 4096)),
            (16, (s.por.nodes.get 0 (fld (e.arg 0) 0 2)).toNat)]] s t ∧
      t.free = s.free + 1) ∧
  (∀ (m : Fin 18) (e : Entry) (s : State) (r b : BitVec 16) (ps gone : List Nat), Accepted specTestMbist m.val e s →
    r = BitVec.ofNat 16 (fld (e.arg 0) 0 16) →
    b = r &&& Config.rowsFailing s.free →
    (List.range 16).any (fun x => bit r x && (s.rowOwner x).isSome) = false →
    ps = (if bit (e.arg 0) 16 then s.pagesIn .free else []) →
    gone = ps.filter (fun p => Config.pageFailing s.free p) →
    ∃ t, exec (.testMbist m e) s = .next t ∧
      Answered specTestMbist m.val e .done .none
        [word [(0, (r &&& ~~~b).toNat), (16, b.toNat)],
          word [(0, if bit (e.arg 0) 17 then (Config.softRepairs s.free).toNat else 0)],
          word [(0, ps.length), (9, gone.length)]] s t ∧
      t.ten.badRows = (s.ten.badRows &&& ~~~r) ||| b ∧ (∀ p ∈ gone, (t.ownEntry p).state = .quarantined) ∧
      t.dram = s.dram.filter (fun c => !ps.contains (c.1 / 2 ^ 29)) ∧ t.free = s.free + 1)

/-- The rings of a mailbox: MBX_RING_CFG_WRITE with ENABLE starts them empty, or is an error where a size or a base is
not allowed, and without ENABLE stores the sizes; DOORBELL moves the tail or is an
error; MBX_CPL_HEAD_WRITE moves the head or is an error; COMPLETION_WRITE writes a record of 64 bytes at the
tail; IRQ_AGE_EXPIRY fires the completion vector. (R77, R78, R79, R81, R100.) -/
def Obligations.MailboxRings : Prop :=
  (∀ (fn : Fin 17) (v : W64) (s : State), s.pcieAlive = true →
    s.fnExists fn.val = true →
    (s.mb fn.val).error = false →
    (s.mb fn.val).enable = false →
    (s.mb fn.val).resetBusy = false →
    s.mgt.booted = true →
    bit v 8 = true →
    4 ≤ fld v 0 4 →
    fld v 0 4 ≤ 12 →
    4 ≤ fld v 4 4 →
    fld v 4 4 ≤ 13 →
    fld (s.mb fn.val).cmdBase 0 12 = 0 →
    fld (s.mb fn.val).cplBase 0 12 = 0 →
    ∃ t, exec (.mbxRingCfgWrite fn v) s = .next t ∧
      (t.mb fn.val).enable = true ∧
      (t.mb fn.val).cmdSize = 2 ^ fld v 0 4 ∧ (t.mb fn.val).cplSize = 2 ^ fld v 4 4 ∧
      (t.mb fn.val).cmdHead = 0 ∧ (t.mb fn.val).cmdTail = 0 ∧ (t.mb fn.val).cplHead = 0 ∧ (t.mb fn.val).cplTail = 0 ∧
      (t.mb fn.val).phase = true ∧ ∀ k, k ≠ fn.val → t.mb k = s.mb k) ∧
  (∀ (fn : Fin 17) (v : W64) (s : State), s.pcieAlive = true →
    s.fnExists fn.val = true →
    (s.mb fn.val).error = false →
    (s.mb fn.val).enable = false →
    bit v 8 = false →
    exec (.mbxRingCfgWrite fn v) s = .next (s.updMb fn.val (fun b => { b with
      cmdLog2 := BitVec.ofNat 4 (fld v 0 4), cplLog2 := BitVec.ofNat 4 (fld v 4 4) }))) ∧
  (∀ (fn : Fin 17) (v : W64) (s : State), s.pcieAlive = true →
    s.fnExists fn.val = true →
    (s.mb fn.val).error = false →
    (s.mb fn.val).enable = false →
    (s.mb fn.val).resetBusy = false →
    s.mgt.booted = true →
    bit v 8 = true →
    (fld v 0 4 < 4 ∨ 12 < fld v 0 4 ∨ fld v 4 4 < 4 ∨ 13 < fld v 4 4 ∨ fld (s.mb fn.val).cmdBase 0 12 ≠ 0 ∨
      fld (s.mb fn.val).cplBase 0 12 ≠ 0) →
    ∃ t, exec (.mbxRingCfgWrite fn v) s = .next t ∧
      (t.mb fn.val).enable = false ∧ (t.mb fn.val).error = true ∧ (t.mb fn.val).errCode = .badConfig) ∧
  (∀ (fn : Fin 17) (v : W64) (s : State), s.pcieAlive = true →
    s.fnExists fn.val = true →
    (s.mb fn.val).error = false →
    (s.mb fn.val).enable = true →
    fld v 0 12 < (s.mb fn.val).cmdSize →
    exec (.doorbell fn v) s = .next (s.updMb fn.val (fun b => { b with cmdTail := BitVec.ofNat 12 (fld v 0 12) }))) ∧
  (∀ (fn : Fin 17) (v : W64) (s : State), s.pcieAlive = true →
    s.fnExists fn.val = true →
    (s.mb fn.val).error = false →
    (s.mb fn.val).enable = true →
    (s.mb fn.val).cmdSize ≤ fld v 0 12 →
    exec (.doorbell fn v) s = .next (s.mbxError fn.val .badDoorbell)) ∧
  (∀ (fn : Fin 17) (v : W64) (s : State), s.pcieAlive = true →
    s.fnExists fn.val = true →
    (s.mb fn.val).error = false →
    (s.mb fn.val).enable = true →
    fld v 0 13 < (s.mb fn.val).cplSize →
    (fld v 0 13 + (s.mb fn.val).cplSize - (s.mb fn.val).cplHead.toNat) % (s.mb fn.val).cplSize ≤ (s.mb fn.val).unread
        →
    exec (.mbxCplHeadWrite fn v) s = .next (s.updMb fn.val (fun b =>
        { b with cplHead := BitVec.ofNat 13 (fld v 0 13) }))) ∧
  (∀ (fn : Fin 17) (v : W64) (s : State), s.pcieAlive = true →
    s.fnExists fn.val = true →
    (s.mb fn.val).error = false →
    (s.mb fn.val).enable = true →
    (s.mb fn.val).cplSize ≤ fld v 0 13 →
    exec (.mbxCplHeadWrite fn v) s = .next (s.mbxError fn.val .badCplHead)) ∧
  (∀ (m : Fin 18) (r : Record) (s : State), s.clocked = true →
    m.val ≠ 17 →
    s.canWrite m.val = true →
    (s.mb m.val).staged = [r] →
    ∃ t, exec (.completionWrite m) s = .next t ∧
      (t.mb m.val).staged = [] ∧
      t.host = s.host.writeBytes ((s.mb m.val).cplBase.toNat + 64 * (s.mb m.val).cplTail.toNat)
        (recordBytes (s.mb m.val).phase r)) ∧
  (∀ (fn : Fin 17) (n : Nat) (s : State), s.clocked = true →
    (s.mb fn.val).age = some n →
    (s.mb fn.val).irqFrames ≠ 0 →
    (s.mb fn.val).irqFrames.toNat ≤ n →
    exec (.irqAgeExpiry fn) s = .next ((s.updMb fn.val (fun b => { b with sinceIrq := 0, age := none })).fireVec
        fn.val 0))

/-- MAILBOX_RESET clears ENABLE, ERROR and the staged records of the mailbox, sets RESET_BUSY, drops its jobs not yet
admitted and decides the admitted ones; once the last
operation of its jobs has retired, MAILBOX_RESET_DONE makes every ticket inactive and fires vector 1; 1,024
frames of RESET_BUSY on a VF kill the contexts of its partition. (R66, R101, R102, R286.) -/
def Obligations.MailboxResets : Prop :=
  (∀ (fn : Fin 17) (s : State), s.pcieAlive = true →
    s.fnExists fn.val = true →
    (s.mb fn.val).resetBusy = false →
    exec (.mailboxReset fn) s = .next ((s.adm.jobs.filter (fun j => j.cmd.mbx == fn.val && j.stage == .admitted)).foldl
      (fun s j => s.decideJob j.cmd.uid .hostAbort)
      (((s.updMb fn.val (fun b => { b with
        enable := false, error := false, errCode := .none, resetBusy := true, staged := [], busyFrames := 0 })).log 0x0200
        [(0, fn.val), (8, (s.mb fn.val).errCode.code)]).updAdm (fun a => { a with
          jobs := a.jobs.filter (fun j => j.cmd.mbx != fn.val || j.stage == .admitted)
          held := a.held.filter (fun h => h.1.mbx != fn.val) })))) ∧
  (∀ (fn : Fin 17) (s : State), s.clocked = true →
    (s.mb fn.val).resetBusy = true →
    (s.mbxJobs fn.val).all (fun j => (s.jobOps j.cmd.uid).isEmpty) = true →
    exec (.mailboxResetDone fn) s = .next (((s.updAdm (fun a =>
        { a with jobs := a.jobs.filter (fun j => j.cmd.mbx != fn.val) })).updMb fn.val (fun b => { b with
        resetBusy := false, ended := BitVec.ofNat 32 (s.mb fn.val).tickets.length, tickets := [], staged := [] })).fireVec
        fn.val 1)) ∧
  (∀ (fn : Fin 17) (s : State), s.clocked = true →
    fn.val ≠ 0 →
    (s.mb fn.val).resetBusy = true →
    1024 ≤ (s.mb fn.val).busyFrames →
    exec (.mailboxResetWatchdog fn) s = .next (s.killAll (fn.val - 1) .watchdog)) ∧
  (∀ (p q : Fin 16) (v : W64) (s : State), s.pcieAlive = true →
    exec (.redCqHeadWrite p q v) s = .next (s.updCommq p.val q.val (fun x =>
        { x with head := BitVec.ofNat 12 (fld v 0 12) }))) ∧
  (∀ (p : Fin 16) (s : State), s.pcieAlive = true →
    ∃ t, exec (.slackLateClear p) s = .next t ∧
      (t.frmp p.val).slackLate = false ∧ ∀ k, k ≠ p.val → t.frmp k = s.frmp k)

/-- READ_CLEAR answers a register's value and clears what a read clears; REGISTER_WRITE to an offset without a
register and UNSUPPORTED_REQUEST answer Unsupported Request; NUMVFS_WRITE resets the VFs it removes;
ATS_ENABLE_WRITE and MSIX_UNMASK write the function's controls; FUNCTION_LEVEL_RESET resets the function's
mailbox and drops its windows. (R10, R13, R71, R73, R100, R115, R444.) -/
def Obligations.RegistersAndFunctions : Prop :=
  (∀ (fn : Fin 17) (off : BitVec 32) (r : Reg) (v : W64) (s : State), s.pcieAlive = true →
    s.fnExists fn.val = true →
    s.regOf fn.val off.toNat = some (r, v) →
    exec (.readClear fn off) s = .next ((s.regClear r).emit (.read v))) ∧
  (∀ (fn : Fin 17) (off : BitVec 32) (v : W64) (s : State), s.pcieAlive = true →
    s.fnExists fn.val = true →
    s.regOf fn.val off.toNat = none →
    exec (.registerWrite fn off v) s = .next (s.unsupported fn.val off.toNat true)) ∧
  (∀ (fn : Fin 17) (off : BitVec 32) (v x : W64) (o : Nat) (s : State), s.pcieAlive = true →
    s.fnExists fn.val = true →
    s.regOf fn.val off.toNat = some (.mbx o, x) →
    exec (.registerWrite fn off v) s = .next (s.mbxWrite fn o v)) ∧
  (∀ (fn : Fin 17) (off : BitVec 32) (write : Bool) (s : State), s.pcieAlive = true →
    s.fnExists fn.val = true →
    s.regOf fn.val off.toNat = none →
    exec (.unsupportedRequest fn off write) s = .next (s.unsupported fn.val off.toNat write)) ∧
  (∀ (n : BitVec 5) (s : State), s.pcieAlive = true →
    s.pcie.configRetry = false →
    n.toNat ≤ 16 →
    ∃ t, exec (.numvfsWrite n) s = .next t ∧
      t.pcie.numVfs = n) ∧
  (∀ (fn : Fin 17) (on : Bool) (s : State), s.pcieAlive = true →
    s.fnExists fn.val = true →
    ∃ t, exec (.atsEnableWrite fn on) s = .next t ∧
      (t.fn fn.val).atsEnable = on ∧ t.mbx = s.mbx) ∧
  (∀ (fn : Fin 17) (enable : Bool) (vectors : List Nat) (s : State), s.pcieAlive = true →
    s.fnExists fn.val = true →
    ∃ t, exec (.msixUnmask fn enable vectors) s = .next t ∧
      (t.fn fn.val).msixEnable = enable ∧ (t.fn fn.val).unmasked = vectors ∧
      t.out = s.out ++ (if enable then (s.fn fn.val).pendingVec.filter (fun v => vectors.contains v) else []).map (fun
          v => .msix fn.val v)) ∧
  (∀ (fn : Fin 17) (s : State), s.pcieAlive = true →
    s.pcie.configRetry = false →
    s.fnExists fn.val = true →
    fn.val ≠ 0 →
    exec (.functionLevelReset fn) s = .next (((s.clearFn fn.val).resetMailbox fn.val).shootdown (fn.val - 1) []
        (List.range 256) .nothing)) ∧
  (∀ (fn : Fin 17) (s : State), s.pcieAlive = true →
    s.pcie.configRetry = false →
    fn.val = 0 →
    exec (.functionLevelReset fn) s = .next ((s.setNumVfs 0).resetFn 0))

/-- PERST# asserted puts the link down with or without clocks; its release trains the link where the domain is
alive, and PCIE_LINK_RETRY trains it again; PCIE_ERROR reports by AER, stops a mailbox whose fetch failed, and
kills the context of a data access that failed, and makes a command fail whose argument line it was; COMMAND_FETCH copies
the entry at CMD_HEAD of the mailbox served
next and consumes it. (R69, R72, R74, R444.) -/
def Obligations.PcieEventsComplete : Prop :=
  (∀ (s : State),
    ∃ t, exec (.perstAssert) s = .next t ∧
      t.pcie.perstLow = true ∧ t.pcie.link = .down) ∧
  (∀ (width : BitVec 5) (speed : BitVec 3) (s : State),
    s.pcie.perstLow = true →
    (s.clocked && s.pcie.refclk) = true →
    (width = 16 ∨ width = 8) →
    exec (.perstRelease width speed) s = .next { s with pcie := { s.pcie with
        perstLow := false, configRetry := !s.mgt.booted && !s.mgt.recovery, link := .up, width := width, speed := speed } }) ∧
  (∀ (width : BitVec 5) (speed : BitVec 3) (s : State),
    s.pcie.perstLow = true →
    (s.clocked && s.pcie.refclk) = false →
    exec (.perstRelease width speed) s = .next { s with pcie := { s.pcie with
        perstLow := false, configRetry := !s.mgt.booted && !s.mgt.recovery } }) ∧
  (∀ (width : BitVec 5) (speed : BitVec 3) (s : State), s.clocked = true →
    s.pcie.perstLow = false →
    s.pcie.refclk = true →
    (s.pcie.link = .detect ∨ s.pcie.link = .training) →
    (width = 16 ∨ width = 8) →
    exec (.pcieLinkRetry width speed) s = .next
        { s with pcie := { s.pcie with link := .up, width := width, speed := speed } }) ∧
  (∀ (width : BitVec 5) (speed : BitVec 3) (s : State), s.clocked = true →
    s.pcie.perstLow = false →
    s.pcie.refclk = true →
    (s.pcie.link = .detect ∨ s.pcie.link = .training) →
    width ≠ 16 →
    width ≠ 8 →
    ∃ t, exec (.pcieLinkRetry width speed) s = .next t ∧
      t.pcie.link = .detect ∧ t.pcie.width = 0 ∧ t.pcie.speed = 0) ∧
  (∀ (fn : Fin 17) (s : State), s.pcieAlive = true →
    exec (.pcieError fn .correctable) s = .next (s.aer fn.val 0 0 false)) ∧
  (∀ (fn : Fin 17) (s : State), s.pcieAlive = true →
    exec (.pcieError fn .internal) s = .next (s.aer fn.val 2 0 false)) ∧
  (∀ (fn : Fin 17) (s : State), s.pcieAlive = true →
    s.fnExists fn.val = true →
    (s.mb fn.val).enable = true →
    exec (.pcieError fn .fetch) s = .next ((s.aer fn.val 1 0 false).mbxError fn.val .cmdFetchFault)) ∧
  (∀ (fn : Fin 17) (s : State), s.pcieAlive = true →
    (s.fnExists fn.val && (s.mb fn.val).enable) = false →
    exec (.pcieError fn .fetch) s = .next (s.aer fn.val 1 0 false)) ∧
  (∀ (fn : Fin 17) (die : Die) (tag : BitVec 10) (ticket : BitVec 32) (slot : BitVec 12) (dva : Dva) (write : Bool)
      (s : State), s.pcieAlive = true →
    exec (.pcieError fn (.data die tag ticket slot dva write)) s = .next ((s.aer fn.val 1 0 write).killStart {
        tag := tag, cause := .translationFault, kind := 0x08, die := die.num, write := write
        dva := BitVec.ofNat 64 (dva.toNat / 64 * 64 % 2 ^ 52), ticket := ticket, slot := slot
        place := BitVec.ofNat 16 (dva.toNat / 2 ^ 30 % 256) } none)) ∧
  (∀ (fn : Fin 17) (a : W64) (s : State), s.pcieAlive = true →
    ∃ t, exec (.pcieError fn (.argument a)) s = .next t ∧
      t.out = s.out ++ [.aer fn.val 1] ∧ t.pcie.failLines = s.pcie.failLines ++ [a.toNat / 64] ∧ t.adm = s.adm) ∧
  (∀ (fn : Fin 17) (s : State), s.pcieAlive = true →
    exec (.pcieError fn .other) s = .next (s.aer fn.val 1 0 false)) ∧
  (∀ (m : Nat) (e : BitVec 16 × Entry) (s : State), s.pcieAlive = true →
    s.nextMailbox = some m →
    e = entryAt (s.mb m).cmdHead
      (BitVec.ofNat 1024 (s.host.readLE ((s.mb m).cmdBase.toNat + 128 * (s.mb m).cmdHead.toNat) 128)) →
    exec (.commandFetch) s = .next (consume (specOf e.1) e.1 m e.2 (s.updMb m (fun b => { b with
        cmdHead := if (s.mb m).cmdHead.toNat + 1 = b.cmdSize then 0 else (s.mb m).cmdHead + 1 }))))

/-- COMMIT_INSTANT advances the frame number by one, and the first of all makes it 0; SLACK_START begins the slack
phase and loads the records of the next frame; PLAN_COMMIT commits the open passes; records are sent a frame
ahead and accepted only for the next frame, from the span's lead, with its ρ. (R39, R41, R249, R251.) -/
def Obligations.FrameEventsComplete : Prop :=
  (∀ (s : State), s.clocked = true →
    s.frm.phase ≠ .stopped →
    ∃ t, exec (.commitInstant) s = .next t ∧
      t.frm.count = if s.frm.started then s.frm.count + 1 else 0) ∧
  (∀ (s : State), s.clocked = true →
    exec (.planCommit) s = .next s.planCommit.groupsProgress) ∧
  (∀ (s : State), s.clocked = true →
    ∃ t, exec (.planRecordSend) s = .next t ∧
      t.pln.toSend = s.pln.toSend.filter (fun r => later r.frame (s.frm.count + 1)) ∧ t.ten = s.ten) ∧
  (∀ (r : PlanRecord) (x : Span) (s : State), s.clocked = true →
    s.span? r.span = some x →
    r.member = s.self →
    r.frame = s.frm.count + 1 →
    s.frm.phase ≠ .slack →
    r.lead = x.lead →
    r.rebase = x.rho →
    x.state = .active →
    ∃ t, exec (.planRecordReceive r true) s = .next t ∧
      t.pln.accepted = s.pln.accepted.filter (fun y => y.span != r.span) ++ [r]) ∧
  (∀ (r : PlanRecord) (good : Bool) (x : Span) (s : State), s.clocked = true →
    s.span? r.span = some x →
    (good = false ∨ r.member ≠ s.self ∨ r.frame ≠ s.frm.count + 1 ∨ s.frm.phase = .slack ∨ r.lead ≠ x.lead ∨ r.rebase
        ≠ x.rho) →
    exec (.planRecordReceive r good) s = .next s) ∧
  (∀ (s : State), s.clocked = true →
    s.frm.phase = .work →
    ∃ t, exec (.slackStart) s = .next t ∧
      t.frm.count = s.frm.count ∧ t.frm.phase = .slack)

/-- A marker of a higher rank makes a master a member at its next commit instant, and one from the parent port of a
LOCKED member whose frame and phase agree keeps it LOCKED; a routed marker gives its fields without its phase;
MARKER_TIMEOUT enters HOLDOVER and HOLDOVER_EXPIRY UNSYNC; DEPUTY_TAKEOVER makes the deputy master and drops a
proposal not yet announced, and FULL_REELECTION reopens the election. (R55, R56, R58, R60, R349.) -/
def Obligations.SynchronisationEventsComplete : Prop :=
  (∀ (port : Fin 12) (k : Marker) (arrival : Int) (u : State) (s : State), s.clocked = true →
    (s.port port.val).locked = true →
    (s.nbr port.val).miswired = false →
    s.fab.election ≠ .halted →
    s.fab.election ≠ .notOpen →
    u = s.updNbr port.val (fun n => { n with marker := some (k.frame, k.hops) }) →
    k.master.toNat ≠ s.self →
    u.acceptsMaster k = true →
    s.frm.role = .master →
    exec (.markerReceive port k arrival) s = .next (u.updFrm (fun f => { f with demote := true }))) ∧
  (∀ (port : Fin 12) (k : Marker) (arrival e : Int) (d : Bool) (s : State), s.clocked = true →
    (s.port port.val).locked = true →
    (s.nbr port.val).miswired = false →
    s.fab.election = .closed →
    k.master.toNat ≠ s.self →
    s.acceptsMaster k = true →
    s.frm.role = .member →
    (s.updNbr port.val (fun n => { n with marker := some (k.frame, k.hops) })).chooseParent k.master.toNat
      k.frame = some (port.val, d) →
    k.epoch = s.frm.epoch →
    k.master = s.frm.master →
    k.deputy.toNat ≠ s.self →
    k.change = none →
    s.frm.parent.toNat = port.val →
    s.frm.state = .locked →
    k.frame = s.frm.count →
    e = arrival - k.txOffset.toNat - (s.port port.val).lat.toNat →
    nearE e = true →
    ∃ t, exec (.markerReceive port k arrival) s = .next t ∧
      t.frm.state = .locked ∧ t.frm.count = s.frm.count ∧ t.frm.error = ofInt 16 e ∧
      t.frm.hops = BitVec.ofNat 4 (min 15 (k.hops.toNat + 1)) ∧ t.frm.markerSeen = true ∧ t.frm.bad = 0) ∧
  (∀ (src : Fin 128) (k : Marker) (s : State), s.clocked = true →
    s.fab.election ≠ .halted →
    s.fab.election ≠ .notOpen →
    k.master.toNat ≠ s.self →
    s.acceptsMaster k = true →
    s.frm.role = .master →
    exec (.routedMarkerReceive src k) s = .next (s.updFrm (fun f => { f with demote := true }))) ∧
  (∀ (src : Fin 128) (k : Marker) (s : State), s.clocked = true →
    s.fab.election ≠ .halted →
    s.fab.election ≠ .notOpen →
    k.master.toNat ≠ s.self →
    s.acceptsMaster k = true →
    s.frm.role = .member →
    s.frm.state ≠ .unsync →
    k.frame = ((s.takeFields k).updFrm (fun f => { f with markerSeen := true })).frm.count →
    exec (.routedMarkerReceive src k) s = .next ((s.takeFields k).updFrm (fun f => { f with markerSeen := true }))) ∧
  (∀ (s : State), s.clocked = true →
    s.frm.state = .locked →
    s.frm.directSeen = false →
    s.frm.role ≠ .master →
    s.frm.role ≠ .standalone →
    ∃ t, exec (.markerTimeout) s = .next t ∧
      t.frm.state = .holdover ∧ t.frm.role = s.frm.role) ∧
  (∀ (s : State), s.clocked = true →
    s.frm.state = .holdover →
    64 ≤ s.frm.holdFrames →
    ∃ t, exec (.holdoverExpiry) s = .next t ∧
      t.frm.state = .unsync ∧ t.frm.role = s.frm.role) ∧
  (∀ (s : State), s.clocked = true →
    s.frm.role = .deputy →
    s.synced = true →
    2 ≤ s.frm.without →
    s.frm.started = true →
    ∃ t, exec (.deputyTakeover) s = .next t ∧
      (s.frm.change = none → t.frm.proposal = none) ∧
      t.frm.role = .master ∧ t.frm.master = BitVec.ofNat 7 s.self ∧ t.frm.epoch = s.frm.epoch + 1 ∧
      t.frm.state = .locked ∧ t.frm.count = s.frm.count) ∧
  (∀ (s : State), s.clocked = true →
    (s.frm.role = .member ∨ s.frm.role = .deputy) →
    s.fab.election = .closed →
    8 ≤ s.frm.without →
    exec (.fullReelection) s = .next s.openElection)

/-- A member takes the master's proposal; PERIOD_CHANGE_ACKNOWLEDGE acknowledges one that may begin; the master
announces once every package acknowledged, for a frame 9 later, and abandons a proposal after 64 frames. (R62.) -/
def Obligations.PeriodEventsComplete : Prop :=
  (∀ (period : BitVec 3) (slack : BitVec 2) (s : State), s.clocked = true → s.mgt.act ≠ .restoring →
    s.frm.role ≠ .master →
    s.frm.role ≠ .standalone →
    exec (.periodProposalReceive period slack) s = .next (s.updFrm (fun f =>
        { f with proposal := some { period := period, slack := slack, master := false } }))) ∧
  (∀ (p : Proposal) (s : State), s.clocked = true →
    s.frm.proposal = some p →
    p.acked = false →
    s.mayAcknowledge p = true →
    p.master = false →
    exec (.periodChangeAcknowledge) s = .next ((s.updFrm (fun f =>
        { f with proposal := some { p with acked := true, acks := insertNat s.self p.acks } })).send
      s.frm.master.toNat (.periodAck s.self))) ∧
  (∀ (p : Proposal) (s : State), s.clocked = true →
    s.frm.proposal = some p →
    p.acked = false →
    s.mayAcknowledge p = true →
    p.master = true →
    exec (.periodChangeAcknowledge) s = .next (s.updFrm (fun f =>
        { f with proposal := some { p with acked := true, acks := insertNat s.self p.acks } })).announce) ∧
  (∀ (pkg : Fin 128) (p : Proposal) (s : State), s.clocked = true → s.mgt.act ≠ .restoring →
    s.frm.proposal = some p →
    p.master = true →
    p.expect.all (fun k => (insertNat pkg.val p.acks).contains k) = true →
    ∃ t, exec (.periodAckReceive pkg) s = .next t ∧
      t.frm.change = some { period := p.period, slack := p.slack, frame := s.frm.count + 9 } ∧ t.frm.proposal = none ∧
      t.frm.count = s.frm.count ∧ t.frm.period = s.frm.period) ∧
  (∀ (p : Proposal) (s : State), s.clocked = true →
    s.frm.proposal = some p →
    64 ≤ p.frames →
    exec (.periodChangeAbandon) s = .next (((s.updFrm (fun f =>
        { f with proposal := none, changeCmd := none })).finishAll s.frm.changeCmd.toList .badCommand .badState
      [word [(0, (p.expect.filter (fun k => !p.acks.contains k)).length)]]).releaseHeld))

/-- What the package that leads a span does: a notice of an overrun is answered by one span-hold, for the frame
after the next boundary, sent to every other member and taken itself; a declaration is entered as a flow under
the lowest free index and admitted, its continuation extends the flow, and without a free index it is refused; a
health notice updates the routes of every span with a share for its sender; a takeover drops the passes in
progress and counts. A member enters a span-hold once. (R238, R257, R260, R261.) -/
def Obligations.SpanPlannerEventsComplete : Prop :=
  (∀ (span : BitVec 16) (frame h : FrameNo) (pkg : Fin 128) (x : Span) (l : LeadSpan) (rho : BitVec 32) (s : State),
      s.clocked = true → s.mgt.act ≠ .restoring →
    s.span? span = some x →
    s.pln.leads.find? (fun l => l.span == span) = some l →
    x.lead = s.self →
    x.state = .active →
    h = (if s.frm.phase = .slack then s.frm.count + 2 else s.frm.count + 1) →
    (∀ k, k ∈ l.holds → 1 < (frameDiff k h).natAbs) →
    rho = x.rho + BitVec.ofNat 32 (2 * ((l.holds.filter (fun k => later k s.frm.count)).length + 1)) →
    exec (.overrunNoticeReceive span frame pkg) s = .next (((((s.updLead span (fun l =>
        { l with holds := l.holds ++ [h] })).updPln (fun p => { p with
        holds := satAdd p.holds 1 })).log 0x0500 [(0, span.toNat), (16, rho.toNat)]).sendAll
        (x.ring.filter (fun k => k != s.self)) (.spanHold span h rho)).takeSpanHold span h rho)) ∧
  (∀ (span : BitVec 16) (frame h k : FrameNo) (pkg : Fin 128) (l : LeadSpan) (s : State), s.clocked = true →
      s.mgt.act ≠ .restoring →
    s.pln.leads.find? (fun l => l.span == span) = some l →
    h = (if s.frm.phase = .slack then s.frm.count + 2 else s.frm.count + 1) →
    k ∈ l.holds → (frameDiff k h).natAbs ≤ 1 →
    exec (.overrunNoticeReceive span frame pkg) s = .next s) ∧
  (∀ (span : BitVec 16) (frame : FrameNo) (pkg : Fin 128) (s : State), s.clocked = true → s.mgt.act ≠ .restoring →
    s.pln.leads.find? (fun l => l.span == span) = none →
    exec (.overrunNoticeReceive span frame pkg) s = .next s) ∧
  (∀ (span : BitVec 16) (h : FrameNo) (rho : BitVec 32) (x : Span) (s : State), s.clocked = true → s.mgt.act ≠
      .restoring →
    s.span? span = some x →
    s.pln.spanHolds.any (fun x => x.1 == span && x.2.1 == h) = false →
    exec (.spanHoldReceive span h rho) s = .next (s.updPln (fun p =>
        { p with spanHolds := p.spanHolds ++ [(span, h, rho)] }))) ∧
  (∀ (span : BitVec 16) (h : FrameNo) (rho : BitVec 32) (s : State), s.clocked = true → s.mgt.act ≠ .restoring →
    s.pln.spanHolds.any (fun x => x.1 == span && x.2.1 == h) = true →
    exec (.spanHoldReceive span h rho) s = .next s) ∧
  (∀ (d : Declared) (pkg : Fin 128) (l : LeadSpan) (sp : Span) (num : Nat) (x : Flow) (s : State), s.clocked = true →
      s.mgt.act ≠ .restoring →
    s.pln.leads.find? (fun l => l.span == d.span) = some l →
    s.span? d.span = some sp →
    sp.lead = s.self →
    (∀ f, d.key ≠ .rest f) →
    freeFlowNum l.flows = some num →
    pkg.val ≠ s.self →
    l.tooLate s.frm.count sp.rho d.latest = false →
    x = {
      num := num, seq := l.nextSeq, pkg := pkg.val, key := d.key, src := d.src, dst := d.dst, n := d.n
      earliest := d.earliest, latest := d.latest, r := d.r, c := d.c } →
    exec (.flowDeclarationReceive d pkg) s = .next ((s.updLead d.span (fun l =>
        { l with flows := l.flows ++ [x], nextSeq := l.nextSeq + 1 })).send pkg.val
        (.flowResult (x.declared d.span) .admitted .none [word [(0, num)], word [(0, l.nextSeq.toNat)]] false))) ∧
  (∀ (d : Declared) (pkg : Fin 128) (l : LeadSpan) (sp : Span) (num : Nat) (x : Flow) (s : State), s.clocked = true →
      s.mgt.act ≠ .restoring →
    s.pln.leads.find? (fun l => l.span == d.span) = some l →
    s.span? d.span = some sp →
    sp.lead = s.self →
    (∀ f, d.key ≠ .rest f) →
    freeFlowNum l.flows = some num →
    l.tooLate s.frm.count sp.rho d.latest = true →
    x = {
      num := num, seq := l.nextSeq, pkg := pkg.val, key := d.key, src := d.src, dst := d.dst, n := d.n
      earliest := d.earliest, latest := d.latest, r := d.r, c := d.c } →
    exec (.flowDeclarationReceive d pkg) s = .next ((((s.updLead d.span (fun l =>
        { l with flows := l.flows ++ [x], nextSeq := l.nextSeq + 1 })).answerFlow d.span x .admitted .none
          false).answerFlow d.span x .partly .bestSoFar true).freeFlow d.span x)) ∧
  (∀ (d : Declared) (pkg : Fin 128) (l : LeadSpan) (sp : Span) (f : FrameNo) (s : State), s.clocked = true →
      s.mgt.act ≠ .restoring →
    s.pln.leads.find? (fun l => l.span == d.span) = some l →
    s.span? d.span = some sp →
    sp.lead = s.self →
    d.key = .rest f →
    exec (.flowDeclarationReceive d pkg) s = .next (s.updLead d.span (fun l => l.continue_ s.frm.count d f pkg.val))) ∧
  (∀ (d : Declared) (pkg : Fin 128) (l : LeadSpan) (sp : Span) (s : State), s.clocked = true → s.mgt.act ≠ .restoring
      →
    s.pln.leads.find? (fun l => l.span == d.span) = some l →
    s.span? d.span = some sp →
    sp.lead = s.self →
    (∀ f, d.key ≠ .rest f) →
    freeFlowNum l.flows = none →
    exec (.flowDeclarationReceive d pkg) s = .next (s.answerFlow d.span {
        num := 0, seq := 0, pkg := pkg.val, key := d.key, src := d.src, dst := d.dst, n := d.n
        earliest := d.earliest, latest := d.latest } .noResource .tableFull true)) ∧
  (∀ (frame : FrameNo) (port : Fin 16) (health : BitVec 2) (width : BitVec 2) (pkg : Fin 128) (s : State), s.clocked =
      true → s.mgt.act ≠ .restoring →
    exec (.healthNoticeReceive frame port health width pkg) s = .next (s.updPln (fun p => { p with
        leads := p.leads.map (fun l => if s.ten.spans.any (fun x => x.id == l.span && x.ring.contains pkg.val) then
          l.takeHealth pkg.val port.val health.toNat width.toNat else l) }))) ∧
  (∀ (s : State), s.clocked = true →
    exec (.plannerTakeover) s = .next (s.updPln (fun p => { p with
        leads := p.leads.map LeadSpan.dropPass, standby := !p.standby, takeover := satAdd p.takeover 1, fault := true })))

/-- At the window of a slot of a port: a transit entry takes the cell of its flow from the buffer and, in its frame
and with the port's share, sends it one hop further, discards it otherwise, and finds the slot EMPTY without it; an entry
of the own package sends the next cell of the earliest operation that sends in its plan frame or, with none ready, an
EMPTY cell, and for a flow of a group the image that its edge sends; a slot without an entry sends a hold cell where its
owner holds and nothing where it does not; and no cell leaves a stopped package, an odd slot of a half-width port or a
port that is not usable. (R252, R254.) -/
def Obligations.CellWindowsComplete : Prop :=
  (∀ (port : Fin 12) (slot : BitVec 12) (s : State), s.clocked = true →
    s.frm.phase = .stopped →
    exec (.cellWindow port slot) s = .next s) ∧
  (∀ (port : Fin 12) (slot : BitVec 12) (s : State), s.clocked = true →
    s.slotStep port.val = 2 → slot.toNat % 2 = 1 →
    exec (.cellWindow port slot) s = .next s) ∧
  (∀ (port : Fin 12) (slot : BitVec 12) (s : State), s.clocked = true →
    s.entryAt port.val slot.toNat = none →
    (∀ p, s.slotOwner port.val slot.toNat = some p → (s.frmp p).hold = false) →
    exec (.cellWindow port slot) s = .next s) ∧
  (∀ (port : Fin 12) (slot : BitVec 12) (p : Nat) (s : State), s.clocked = true →
    s.frm.phase ≠ .stopped →
    slot.toNat < s.slots →
    (s.slotStep port.val = 2 → slot.toNat % 2 = 0) →
    s.entryAt port.val slot.toNat = none →
    s.slotOwner port.val slot.toNat = some p →
    (s.frmp p).hold = true →
    slot.toNat + 2 ≤ s.slots →
    s.portUsable port.val = true →
    exec (.cellWindow port slot) s = .next (s.holdCell port.val slot.toNat p)) ∧
  (∀ (port : Fin 12) (slot : BitVec 12) (r : PlanRecord) (e : PlanEntry) (c : Transit) (s : State), s.clocked = true →
    s.frm.phase ≠ .stopped →
    slot.toNat < s.slots →
    (s.slotStep port.val = 2 → slot.toNat % 2 = 0) →
    s.entryAt port.val slot.toNat = some (r, e) →
    e.inPort ≠ 15 →
    (s.pln.transit.get [] e.inPort).find? (fun c => c.data.span == r.span && c.data.flow == e.flow) = some c →
    s.slotOwner port.val slot.toNat = some c.part →
    c.frameLo = BitVec.ofNat 8 s.frm.count.toNat →
    s.portUsable port.val = true →
    exec (.cellWindow port slot) s = .next ((s.updPln (fun q =>
        { q with transit := q.transit.put e.inPort ((s.pln.transit.get [] e.inPort).erase c) })).cellOut
        port.val slot.toNat { c with hops := c.hops + 1 })) ∧
  (∀ (port : Fin 12) (slot : BitVec 12) (r : PlanRecord) (e : PlanEntry) (c : Transit) (s : State), s.clocked = true →
    s.frm.phase ≠ .stopped →
    slot.toNat < s.slots →
    (s.slotStep port.val = 2 → slot.toNat % 2 = 0) →
    s.entryAt port.val slot.toNat = some (r, e) →
    e.inPort ≠ 15 →
    (s.pln.transit.get [] e.inPort).find? (fun c => c.data.span == r.span && c.data.flow == e.flow) = some c →
    (s.slotOwner port.val slot.toNat ≠ some c.part ∨ c.frameLo ≠ BitVec.ofNat 8 s.frm.count.toNat ∨
      s.portUsable port.val = false) →
    exec (.cellWindow port slot) s = .next ((s.updPln (fun q =>
        { q with transit := q.transit.put e.inPort ((s.pln.transit.get [] e.inPort).erase c) })).updPlnp c.part
        (fun x => { x with discard := satAdd x.discard 1 }))) ∧
  (∀ (port : Fin 12) (slot : BitVec 12) (r : PlanRecord) (e : PlanEntry) (s : State), s.clocked = true →
    s.frm.phase ≠ .stopped →
    slot.toNat < s.slots →
    (s.slotStep port.val = 2 → slot.toNat % 2 = 0) →
    s.entryAt port.val slot.toNat = some (r, e) →
    e.inPort ≠ 15 →
    (s.pln.transit.get [] e.inPort).find? (fun c => c.data.span == r.span && c.data.flow == e.flow) = none →
    exec (.cellWindow port slot) s = .next ((s.updPlnp (s.spanPart r.span) (fun x =>
        { x with empty := satAdd x.empty 1 })).emit (.cell port.val slot.toNat none))) ∧
  (∀ (port : Fin 12) (slot : BitVec 12) (r : PlanRecord) (e : PlanEntry) (s : State), s.clocked = true →
    s.frm.phase ≠ .stopped →
    slot.toNat < s.slots →
    (s.slotStep port.val = 2 → slot.toNat % 2 = 0) →
    s.entryAt port.val slot.toNat = some (r, e) →
    e.inPort = 15 →
    s.portUsable port.val = false →
    exec (.cellWindow port slot) s = .next s) ∧
  (∀ (port : Fin 12) (slot : BitVec 12) (r : PlanRecord) (e : PlanEntry) (o : Op) (rest : List Op) (s : State),
      s.clocked = true →
    s.frm.phase ≠ .stopped →
    slot.toNat < s.slots →
    (s.slotStep port.val = 2 → slot.toNat % 2 = 0) →
    s.entryAt port.val slot.toNat = some (r, e) →
    e.inPort = 15 →
    s.portUsable port.val = true →
    s.edgeOf r.span e.flow = none →
    s.sendsFor r.span e.flow (planFrame r.rebase s.frm.count) = o :: rest →
    s.cellReady o = true →
    exec (.cellWindow port slot) s = .next ((s.takeSend o).2.cellOut port.val slot.toNat
        (s.ownCell (s.spanPart r.span) slot.toNat (s.takeSend o).1 o.sendDst))) ∧
  (∀ (port : Fin 12) (slot : BitVec 12) (r : PlanRecord) (e : PlanEntry) (s : State), s.clocked = true →
    s.frm.phase ≠ .stopped →
    slot.toNat < s.slots →
    (s.slotStep port.val = 2 → slot.toNat % 2 = 0) →
    s.entryAt port.val slot.toNat = some (r, e) →
    e.inPort = 15 →
    s.portUsable port.val = true →
    s.edgeOf r.span e.flow = none →
    (∀ o rest, s.sendsFor r.span e.flow (planFrame r.rebase s.frm.count) = o :: rest → s.cellReady o = false) →
    exec (.cellWindow port slot) s = .next ((s.updPlnp (s.spanPart r.span) (fun x =>
        { x with empty := satAdd x.empty 1 })).emit (.cell port.val slot.toNat none))) ∧
  (∀ (port : Fin 12) (slot : BitVec 12) (r : PlanRecord) (e : PlanEntry) (g : Group) (x : Edge) (s : State),
      s.clocked = true →
    s.frm.phase ≠ .stopped →
    slot.toNat < s.slots →
    (s.slotStep port.val = 2 → slot.toNat % 2 = 0) →
    s.entryAt port.val slot.toNat = some (r, e) →
    e.inPort = 15 →
    s.portUsable port.val = true →
    s.edgeOf r.span e.flow = some (g, x) →
    exec (.cellWindow port slot) s = .next (s.groupCell port.val slot.toNat g x r e))

/-- The rounds of beacons: a round counts on and ages the keys and vectors it knows; a beacon from the neighbour a
port leads to enters that neighbour's vector, and one from elsewhere miswires the port; marks, keys and vectors
expire; an election closes after 10 rounds, STANDALONE without a neighbour; a new master names a deputy; a
STANDALONE package with a capable port reopens the election; a package lost or back for 4 rounds changes its
mark and is logged. (R338, R339, R340, R341, R342, R343, R344, R352.) -/
def Obligations.BeaconsAndElection : Prop :=
  (∀ (s : State), s.clocked = true →
    s.fab.election ≠ .notOpen →
    ∃ t, exec (.beaconRound) s = .next t ∧
      t.fab.round = (if s.synced then BitVec.ofNat 16 s.frm.count.toNat
        else if s.fab.election = .opened ∧ s.fab.opened = 0 then s.fab.round else s.fab.round + 1) ∧
      t.fab.opened = (if s.fab.election = .opened then s.fab.opened + 1 else s.fab.opened) ∧
      t.fab.keys = s.fab.keys.map (fun x => (x.1, x.2 + 1)) ∧ t.fab.election = s.fab.election ∧ t.frm = s.frm ∧ t.ten
          = s.ten) ∧
  (∀ (port : Fin 16) (b : Beacon) (s : State), s.clocked = true →
    (s.port port.val).up = true →
    s.fab.election ≠ .halted →
    (s.nbr port.val).miswired = false →
    (12 ≤ port.val ∨ b.sheaf ≠ s.fab.sheaf ∨ b.pkg.toNat ≠ neighbour s.self port.val ∨ b.port.toNat ≠ farPort
        port.val) →
    ∃ t, exec (.beaconReceive port b) s = .next t ∧
      (t.nbr port.val).miswired = true ∧ t.fab.keys = s.fab.keys ∧ t.frm = s.frm) ∧
  (∀ (port : Fin 16) (b : Beacon) (s : State), s.clocked = true →
    (s.nbr port.val).miswired = true →
    port.val < 12 →
    b.sheaf = s.fab.sheaf →
    b.pkg.toNat = neighbour s.self port.val →
    b.port.toNat = farPort port.val →
    exec (.beaconReceive port b) s = .next s) ∧
  (∀ (port : Fin 16) (b : Beacon) (u : State) (s : State), s.clocked = true →
    (s.port port.val).up = true →
    s.fab.election = .closed →
    (s.nbr port.val).miswired = false →
    port.val < 12 →
    b.sheaf = s.fab.sheaf →
    b.pkg.toNat = neighbour s.self port.val →
    b.port.toNat = farPort port.val →
    u = (s.updNbr port.val (fun n => { n with beacon := some b, rounds := 0 })).updFab (fun g => { g with
      keys := (b.keys.filter (fun k => k.pkg.toNat != s.self && !(s.fab.dist.get {} k.pkg.toNat).dup &&
        !(b.halted && k.pkg == b.pkg))).foldl (fun l k => takeKey k l)
        (if b.halted then s.fab.keys.filter (fun x => x.1.pkg != b.pkg) else s.fab.keys) }) →
    u.dupsIn b = [] →
    exec (.beaconReceive port b) s = .next u.retryWaiting) ∧
  (∀ (pkg : Fin 128) (s : State), s.clocked = true →
    (s.fab.dist.get {} pkg.val).dup = true →
    64 ≤ (s.fab.dist.get {} pkg.val).dupRounds →
    exec (.dupFlagClear pkg) s = .next (s.updFab (fun g =>
        { g with dist := g.dist.upd {} pkg.val (fun e => { e with dup := false }) }))) ∧
  (∀ (pkg : Fin 128) (s : State), s.clocked = true →
    exec (.keyExpiry pkg) s = .next (s.updFab (fun g => { g with
        keys := g.keys.filter (fun x => !(x.1.pkg.toNat == pkg.val && decide (32 ≤ x.2))) }))) ∧
  (∀ (port : Fin 12) (s : State), s.clocked = true →
    8 < (s.nbr port.val).rounds →
    exec (.neighbourVectorExpiry port) s = .next (s.updNbr port.val (fun n => { n with beacon := none }))) ∧
  (∀ (s : State), s.clocked = true →
    s.fab.election = .opened →
    10 ≤ s.fab.opened →
    s.frm.role ≠ .standalone →
    (∀ i, i < 12 → s.capable i = false ∧ (s.nbr i).beacon = none) →
    ∃ t, exec (.electionClose) s = .next t ∧
      t.fab.election = .standalone ∧ t.frm.role = .standalone ∧ t.frm.state = .locked ∧ t.frm.hops = 0 ∧
      t.frm.master = BitVec.ofNat 7 s.self ∧ t.frm.deputy = BitVec.ofNat 7 s.self) ∧
  (∀ (k : Key) (s : State), s.clocked = true →
    s.fab.election = .opened →
    10 ≤ s.fab.opened →
    (∃ i, i < 12 ∧ s.capable i = true) →
    s.keyList.head? = some k →
    k.pkg.toNat ≠ s.self →
    ∃ t, exec (.electionClose) s = .next t ∧
      t.fab.election = .closed ∧ t.frm.master = k.pkg ∧ t.frm.role ≠ .master ∧ t.frm.state = s.frm.state) ∧
  (∀ (k : Key) (rest : List Key) (s : State), s.clocked = true →
    s.fab.election = .opened →
    10 ≤ s.fab.opened →
    (∃ i, i < 12 ∧ s.capable i = true) →
    s.keyList = k :: rest →
    k.pkg.toNat = s.self →
    ∃ t, exec (.electionClose) s = .next t ∧
      t.fab.election = .closed ∧ t.frm.role = .master ∧ t.frm.master = BitVec.ofNat 7 s.self ∧ t.frm.state = .locked ∧
      t.frm.hops = 0 ∧ t.frm.deputy = BitVec.ofNat 7 ((rest.head?.map (fun d => d.pkg.toNat)).getD k.pkg.toNat)) ∧
  (∀ (l : Nat) (s : State), s.clocked = true →
    s.fab.lostMaster = some l →
    s.frm.role = .master →
    exec (.deputyRename) s = .next ((s.updFab (fun g => { g with lostMaster := none })).updFrm (fun f => { f with
        deputy := ((s.keyList.filter (fun k => k.pkg.toNat != s.self && k.pkg.toNat != l)).head?.map (·.pkg)).getD
          (BitVec.ofNat 7 s.self) }))) ∧
  (∀ (i : Nat) (s : State), s.clocked = true →
    s.fab.election = .standalone →
    i < 12 →
    s.capable i = true →
    exec (.standaloneReopen) s = .next s.openElection) ∧
  (∀ (pkg : Fin 128) (s : State), s.clocked = true →
    pkg.val ≠ s.self →
    (s.fab.dist.get {} pkg.val).unreachable = false →
    4 ≤ (s.fab.dist.get {} pkg.val).farRounds →
    exec (.reachabilityChange pkg) s = .next ((((s.updFab (fun g => { g with
        dist := g.dist.upd {} pkg.val (fun e => { e with unreachable := true }), reachChanges := satAdd g.reachChanges 1 })).log
        0x0802 [(0, pkg.val), (7, 0)]).groupsLose pkg.val).refreshLeads)) ∧
  (∀ (pkg : Fin 128) (s : State), s.clocked = true →
    pkg.val ≠ s.self →
    (s.fab.dist.get {} pkg.val).unreachable = true →
    4 ≤ (s.fab.dist.get {} pkg.val).nearRounds →
    exec (.reachabilityChange pkg) s = .next (((s.updFab (fun g => { g with
        dist := g.dist.upd {} pkg.val (fun e => { e with unreachable := false }), reachChanges := satAdd g.reachChanges 1 })).log
        0x0802 [(0, pkg.val), (7, 1)]).refreshLeads))

/-- A member answers a lead's takeover with its declarations; the lead enters the declarations of a reply; of two
leads the later in ring order resigns; a waiting control flit goes on by the least cost, waits, or is discarded;
and the outer ports: a hello fills the neighbour's columns, credit data takes credits and is returned, sheaf
status goes every 1,024 frames. (R347, R353, R354, R355, R374.) -/
def Obligations.LeadsAndFlits : Prop :=
  (∀ (span : BitVec 16) (pkg : Fin 128) (x : Span) (s : State), s.clocked = true → s.mgt.act ≠ .restoring →
    s.span? span = some x →
    x.lead ≠ s.self →
    exec (.leadTakeoverNoticeReceive span pkg) s = .next ((s.send pkg.val (.leadReply span x.rho (s.declarations span)
        s.self (s.part x.part).share)).tellPorts pkg.val)) ∧
  (∀ (span : BitVec 16) (pkg : Fin 128) (x : Span) (s : State), s.clocked = true → s.mgt.act ≠ .restoring →
    s.span? span = some x →
    x.lead = s.self →
    exec (.leadTakeoverNoticeReceive span pkg) s = .next (s.resolveLeads span pkg.val)) ∧
  (∀ (span : BitVec 16) (rho : BitVec 32) (decls : List Declared) (pkg : Fin 128) (shares : BitVec 32) (x : Span) (s :
      State), s.clocked = true → s.mgt.act ≠ .restoring →
    s.span? span = some x →
    x.lead = s.self →
    pkg.val ∈ x.ring →
    exec (.leadDeclarationReplyReceive span rho decls pkg shares) s = .next (((s.updSpan span (fun x =>
        { x with rho := if x.rho.toNat < rho.toNat then rho else x.rho })).updLead span (fun l => { l with
        shares := if l.shares.any (fun y => y.1 == pkg.val) then l.shares else l.shares ++ [(pkg.val, shares)]
        })).enterDeclarations span decls pkg.val)) ∧
  (∀ (span : BitVec 16) (pkg : Fin 128) (x : Span) (s : State), s.clocked = true →
    s.span? span = some x →
    x.lead = s.self →
    pkg.val ≠ s.self →
    pkg.val ∈ x.ring →
    (x.fromCreator.takeWhile (fun j => j != pkg.val)).length ≤ (x.fromCreator.takeWhile (fun j => j != s.self)).length
        →
    exec (.dualLeadResolve span pkg) s = .next ((((s.updSpan span (fun x => { x with lead := pkg.val })).updPln (fun p
        => { p with
        leads := p.leads.filter (fun l => l.span != span)
        toSend := p.toSend.filter (fun r => r.span != span) })).send pkg.val
        (.leadReply span x.rho (s.declarations span) s.self (s.part x.part).share)).log 0x0500
        [(0, span.toNat), (16, x.rho.toNat)])) ∧
  (∀ (span : BitVec 16) (pkg : Fin 128) (x : Span) (s : State), s.clocked = true →
    s.span? span = some x →
    (x.lead ≠ s.self ∨ (x.fromCreator.takeWhile (fun j => j != s.self)).length < (x.fromCreator.takeWhile (fun j => j
        != pkg.val)).length) →
    exec (.dualLeadResolve span pkg) s = .next s) ∧
  (∀ (port : Fin 12) (f : Flit) (rest : List Flit) (i : Nat) (s : State), s.clocked = true →
    s.fab.control.get [] port.val = f :: rest →
    s.fab.election ≠ .halted →
    s.portFor f = some i →
    exec (.controlFlitForward port) s = .next (((s.updFab (fun g =>
        { g with control := g.control.put port.val rest })).noteWay i f).tx i { f with hops := f.hops + 1 })) ∧
  (∀ (port : Fin 12) (f : Flit) (rest : List Flit) (s : State), s.clocked = true →
    s.fab.control.get [] port.val = f :: rest →
    s.fab.election ≠ .halted →
    s.portFor f = none →
    exec (.controlFlitForward port) s = .next (if s.distTo (f.dst.getD 0) < 15 then s
      else (s.updFab (fun g => { g with control := g.control.put port.val rest })).discardFlit port.val f)) ∧
  (∀ (port : Fin 16) (h : Hello) (arrival : Int) (s : State), s.clocked = true →
    (s.port port.val).up = true →
    s.fab.election ≠ .halted →
    12 ≤ port.val →
    h.sheaf ≠ s.fab.sheaf →
    (s.nbr port.val).miswired = false →
    exec (.outerHelloReceive port h arrival) s = .next (s.updOuter (port.val - 12) (fun o => { o with
        farSheaf := h.sheaf, farPkg := h.pkg, farPort := h.port, farFrame := h.frame
        offset := ofInt 48 (arrival - (s.port port.val).lat.toNat - h.txPhase.toNat) }))) ∧
  (∀ (o : Fin 4) (channel : BitVec 4) (bytes : List Byte) (s : State), s.clocked = true →
    channel = 0 →
    (s.port (12 + o.val)).up = true →
    (s.nbr (12 + o.val)).miswired = false →
    (s.port (12 + o.val)).health ≠ .quarantine →
    creditFlits bytes ≤ 16 →
    creditFlits bytes ≤ (s.outer o.val).credits.toNat →
    exec (.creditDataSend o channel bytes) s = .next ((s.updOuter o.val (fun x =>
        { x with credits := x.credits - BitVec.ofNat 7 (creditFlits bytes) })).txMsg (12 + o.val)
        (.creditData 0 (creditFlits bytes) bytes))) ∧
  (∀ (o : Fin 4) (channel : BitVec 4) (bytes : List Byte) (s : State), s.clocked = true →
    (channel ≠ 0 ∨ (s.port (12 + o.val)).up = false ∨ (s.nbr (12 + o.val)).miswired = true ∨
      (s.port (12 + o.val)).health = .quarantine ∨ 16 < creditFlits bytes ∨
        (s.outer o.val).credits.toNat < creditFlits bytes) →
    exec (.creditDataSend o channel bytes) s = .next s) ∧
  (∀ (o : Fin 4) (channel : BitVec 4) (bytes : List Byte) (s : State), s.clocked = true →
    (s.port (12 + o.val)).up = true →
    (s.nbr (12 + o.val)).miswired = false →
    channel = 0 →
    exec (.creditDataReceive o channel bytes) s = .next (s.updOuter o.val (fun x => { x with
        unreturned := x.unreturned + creditFlits bytes, status := BitVec.ofNat 24 (ofBytesLE (bytes.take 3)) }))) ∧
  (∀ (o : Fin 4) (channel : BitVec 4) (bytes : List Byte) (s : State), s.clocked = true →
    (s.port (12 + o.val)).up = true →
    (s.nbr (12 + o.val)).miswired = false →
    channel ≠ 0 →
    exec (.creditDataReceive o channel bytes) s = .next (s.updOuter o.val (fun x => { x with
        unreturned := x.unreturned + creditFlits bytes, discarded := satAdd x.discarded 1 }))) ∧
  (∀ (o : Fin 4) (s : State), s.clocked = true →
    (s.outer o.val).unreturned ≠ 0 →
    (s.port (12 + o.val)).up = true →
    exec (.creditReturn o) s = .next ((s.updOuter o.val (fun x => { x with unreturned := 0 })).txMsg (12 + o.val)
        (.creditReturn (s.outer o.val).unreturned))) ∧
  (∀ (o : Fin 4) (count : BitVec 7) (s : State), s.clocked = true →
    exec (.creditReturnReceive o count) s = .next (s.updOuter o.val (fun x =>
        { x with credits := BitVec.ofNat 7 (min 64 (x.credits.toNat + count.toNat)) }))) ∧
  (∀ (s : State), s.clocked = true →
    s.fab.statusFrames < 1024 →
    exec (.sheafStatusSend) s = .next s) ∧
  (∀ (o : Nat) (bytes : List Byte) (s : State), s.clocked = true →
    1024 ≤ s.fab.statusFrames →
    [0, 1, 2, 3].filter (fun o => (s.port (12 + o)).up && !(s.nbr (12 + o)).miswired) = [o] →
    (s.port (12 + o)).health ≠ .quarantine →
    1 ≤ (s.outer o).credits.toNat →
    bytes = bytesLE 8 (s.frm.master.toNat + 256 * s.frm.epoch.toNat + 65536 * min 255 s.unreachables) →
    exec (.sheafStatusSend) s = .next (((s.updFab (fun g => { g with statusFrames := 0 })).updOuter o (fun x =>
        { x with credits := x.credits - 1 })).txMsg (12 + o) (.creditData 0 1 bytes)))

/-- Ports coming up, flits and replay: an alignment marker reaches its lane on an active port, and a lane that leaves
LOCKED so retrains the port; bring-up with the eight lanes in order brings the port UP and restarts its sequence numbers,
a bring-up that fails or times out leaves it DOWN and answers the commands that wait; a flit counts only with a good CRC
and the expected sequence number, a later number is answered by a NAK, an earlier one is a repeat, and an idle flit only
acknowledges; a NAK or a time-out of 2 µs replays; and a retrain ends UP, with a replay, once its lanes lock. (R306, R309,
R315, R316, R320.) -/
def Obligations.PortsBringupAndReplay : Prop :=
  (∀ (port : Fin 16) (lane : Fin 8) (raw : BitVec 128) (between : List Byte) (skew : Nat) (s : State), s.clocked = true →
    ((s.port port.val).link = .down ∨ (s.port port.val).health = .retired ∨ lane.val ∉ (s.port port.val).active) →
    exec (.alignmentMarkerReceive port lane raw between skew) s = .next s) ∧
  (∀ (port : Fin 16) (lane : Fin 8) (raw : BitVec 128) (between : List Byte) (skew : Nat) (s : State), s.clocked = true →
    (s.port port.val).link ≠ .down →
    (s.port port.val).health ≠ .retired →
    lane.val ∈ (s.port port.val).active →
    (s.port port.val).link ≠ .waking →
    (((s.port port.val).lane lane.val).lock = .locked →
      (((s.port port.val).lane lane.val).marker raw between skew).lock = .locked) →
    exec (.alignmentMarkerReceive port lane raw between skew) s = .next (s.updPort port.val (fun p => p.updLane lane.val
        (fun l => l.marker raw between skew)))) ∧
  (∀ (port : Fin 16) (lane : Fin 8) (raw : BitVec 128) (between : List Byte) (skew : Nat) (s : State), s.clocked = true →
    (s.port port.val).link = .up →
    (s.port port.val).health ≠ .retired →
    lane.val ∈ (s.port port.val).active →
    ((s.port port.val).lane lane.val).lock = .locked →
    (((s.port port.val).lane lane.val).marker raw between skew).lock ≠ .locked →
    exec (.alignmentMarkerReceive port lane raw between skew) s = .next ((s.updPort port.val (fun p => p.updLane lane.val
        (fun l => l.marker raw between skew))).lanesLost port.val [lane.val])) ∧
  (∀ (port : Fin 16) (lane : Fin 8) (raw : BitVec 128) (between : List Byte) (skew : Nat) (u : State) (s : State),
      s.clocked = true →
    (s.port port.val).link = .waking →
    (s.port port.val).health ≠ .retired →
    lane.val ∈ (s.port port.val).active →
    (((s.port port.val).lane lane.val).lock = .locked →
      (((s.port port.val).lane lane.val).marker raw between skew).lock = .locked) →
    u = s.updPort port.val (fun p => p.updLane lane.val (fun l => l.marker raw between skew)) →
    (u.port port.val).locked = true →
    markerValid raw = true →
    markerTrain raw = false →
    exec (.alignmentMarkerReceive port lane raw between skew) s = .next (u.enterUp port.val)) ∧
  (∀ (port : Fin 16) (order : List (BitVec 3)) (stamps : List (BitVec 16)) (margins : List (BitVec 12)) (s : State),
      s.clocked = true →
    (s.port port.val).health ≠ .retired →
    ((s.port port.val).link = .down ∨ (s.port port.val).link = .training) →
    s.mgt.recovery = false →
    (s.por.bring = .selfTest ∨ s.por.bring = .running) →
    laneOrderGood order = true →
    exec (.portBringup port order stamps margins) s = .next ((((s.updPort port.val (fun p =>
        { p.takeStamps stamps with lanes := p.lanes.mapRow {} 8 (fun l x =>
            if p.active.contains l then
              { x with lock := .locked, misses := 0, consecUncorr := 0, place := 0, skew := 0
                       margin := margins.getD l x.margin }
            else x) })).updWork port.val (fun w => { w with
              txSeq := 0, rxSeq := 0, acks := false, nakSent := false, replay := [] })).sendStamps port.val).enterUp
        port.val)) ∧
  (∀ (port : Fin 16) (order : List (BitVec 3)) (stamps : List (BitVec 16)) (margins : List (BitVec 12)) (s : State),
      s.clocked = true →
    (s.port port.val).health ≠ .retired →
    ((s.port port.val).link = .down ∨ (s.port port.val).link = .training) →
    s.mgt.recovery = false →
    (s.por.bring = .selfTest ∨ s.por.bring = .running) →
    laneOrderGood order = false →
    exec (.portBringup port order stamps margins) s = .next (s.bringupFails port.val)) ∧
  (∀ (port : Fin 16) (s : State), s.clocked = true →
    ((s.port port.val).link = .down ∨ (s.port port.val).link = .training) →
    exec (.bringupTimeout port) s = .next (((s.bringupFails port.val).updWork port.val (fun w =>
        { w with fullCmds := [] })).finishAll
        (s.work port.val).fullCmds .noResource .linkDown [])) ∧
  (∀ (port : Fin 16) (head : BitVec 96) (payload : BitVec 1920) (crc : BitVec 32) (said : Said) (s : State), s.clocked = true →
    flitOf (flitBits head payload crc) said = none →
    exec (.flitReceive port head payload crc said) s = .next (if (s.port port.val).up then s.crcFailed port.val else s)) ∧
  (∀ (port : Fin 16) (head : BitVec 96) (payload : BitVec 1920) (crc : BitVec 32) (said : Said) (a : Arrival) (v u : State) (s : State), s.clocked = true →
    (s.port port.val).up = true →
    flitOf (flitBits head payload crc) said = some a →
    a.flit.type = 0 →
    v = s.updWork port.val (fun w => { w with consecCrc := 0, idle := if a.flit.traffic then 0 else w.idle }) →
    u = (match a.ack with
      | some q => v.acked port.val q
      | none => v) →
    exec (.flitReceive port head payload crc said) s = .next u) ∧
  (∀ (port : Fin 16) (head : BitVec 96) (payload : BitVec 1920) (crc : BitVec 32) (said : Said) (a : Arrival) (v u : State) (s : State), s.clocked = true →
    (s.port port.val).up = true →
    flitOf (flitBits head payload crc) said = some a →
    a.flit.type ≠ 0 →
    a.flit.type ≠ 9 →
    v = s.updWork port.val (fun w => { w with consecCrc := 0, idle := if a.flit.traffic then 0 else w.idle }) →
    u = (match a.ack with
      | some q => v.acked port.val q
      | none => v) →
    a.seq = (u.work port.val).rxSeq →
    exec (.flitReceive port head payload crc said) s = .next (if a.flit.type = 10
      then (u.updWork port.val (fun w => { w with rxSeq := w.rxSeq + 1, acks := true, nakSent := false })).sendIdle port.val
      else ((u.updWork port.val (fun w => { w with
        rxSeq := w.rxSeq + 1, acks := true, nakSent := false })).sendIdle port.val).takeFlit port a.flit)) ∧
  (∀ (port : Fin 16) (head : BitVec 96) (payload : BitVec 1920) (crc : BitVec 32) (said : Said) (a : Arrival) (v u : State) (s : State), s.clocked = true →
    (s.port port.val).up = true →
    flitOf (flitBits head payload crc) said = some a →
    a.flit.type ≠ 0 →
    a.flit.type ≠ 9 →
    v = s.updWork port.val (fun w => { w with consecCrc := 0, idle := if a.flit.traffic then 0 else w.idle }) →
    u = (match a.ack with
      | some q => v.acked port.val q
      | none => v) →
    a.seq ≠ (u.work port.val).rxSeq →
    exec (.flitReceive port head payload crc said) s = .next (if ((u.work port.val).rxSeq - a.seq).toNat < 2048 then u
      else u.sendNak port.val)) ∧
  (∀ (port : Fin 16) (head : BitVec 96) (payload : BitVec 1920) (crc : BitVec 32) (said : Said) (a : Arrival) (v u : State) (s : State), s.clocked = true →
    (s.port port.val).up = true →
    flitOf (flitBits head payload crc) said = some a →
    a.flit.type = 9 →
    a.flit.sub = 1 →
    v = s.updWork port.val (fun w => { w with consecCrc := 0, idle := if a.flit.traffic then 0 else w.idle }) →
    u = v →
    exec (.flitReceive port head payload crc said) s = .next (u.takeLocal port (.nak (a.ack.getD 0)))) ∧
  (∀ (port : Fin 16) (head : BitVec 96) (payload : BitVec 1920) (crc : BitVec 32) (said : Said) (a : Arrival) (m : Msg) (v u : State) (s : State),
      s.clocked = true →
    (s.port port.val).up = true →
    flitOf (flitBits head payload crc) said = some a →
    a.flit.type = 9 →
    a.flit.sub ≠ 1 →
    a.flit.msg = some m →
    v = s.updWork port.val (fun w => { w with consecCrc := 0, idle := if a.flit.traffic then 0 else w.idle }) →
    u = (match a.ack with
      | some q => v.acked port.val q
      | none => v) →
    exec (.flitReceive port head payload crc said) s = .next (u.takeLocal port m)) ∧
  (∀ (port : Fin 16) (seq : BitVec 12) (s : State), s.clocked = true →
    (s.port port.val).link = .up →
    exec (.nakReceive port seq) s = .next (s.replay port.val)) ∧
  (∀ (port : Fin 16) (s : State), s.clocked = true →
    (s.work port.val).nakSent = true →
    (s.port port.val).link = .up →
    exec (.nakResend port) s = .next (s.sendLinkctl port.val (.nak (s.work port.val).rxSeq))) ∧
  (∀ (port : Fin 16) (s : State), s.clocked = true →
    (s.port port.val).link = .up →
    (s.work port.val).replay = [] →
    exec (.replayTimeout port) s = .next s) ∧
  (∀ (port : Fin 16) (u : State) (s : State), s.clocked = true →
    (s.port port.val).link = .up →
    (s.work port.val).replay ≠ [] →
    u = (s.work port.val).replay.foldl (fun s r => s.sendLine port.val r.1 (s.work port.val).ack r.2.1)
        ((s.updPort port.val (fun p => { p with replays := satAdd p.replays 1 })).updWork port.val
          (fun w => { w with replay := w.replay.map (fun r => (r.1, r.2.1, r.2.2 + 1)) })) →
    exec (.replayTimeout port) s = .next (if (s.work port.val).replay.any (fun r => r.2.2 + 1 == 8)
      then ((u.updPort port.val (fun p => { p with exhaust := satAdd p.exhaust 1 })).startBurst port.val).startRetrain
        port.val
      else u)) ∧
  (∀ (port : Fin 16) (s : State), s.clocked = true →
    (s.port port.val).link = .up →
    (s.port port.val).health ≠ .retired →
    exec (.fastRetrain port) s = .next (s.startRetrain port.val)) ∧
  (∀ (port : Fin 16) (s : State), s.clocked = true →
    (s.port port.val).link = .up →
    (s.port port.val).health ≠ .retired →
    exec (.trainReceive port) s = .next (s.startRetrain port.val)) ∧
  (∀ (port : Fin 16) (s : State), s.clocked = true →
    (s.port port.val).link ≠ .up →
    exec (.trainReceive port) s = .next s) ∧
  (∀ (port : Fin 16) (stamps : List (BitVec 16)) (u : State) (s : State), s.clocked = true →
    (s.port port.val).link = .retrain →
    (s.port port.val).locked = true →
    u = (s.updPort port.val (fun p => p.takeStamps stamps)).sendStamps port.val →
    (u.work port.val).change = none →
    exec (.retrainEnd port true stamps) s = .next ((((u.raiseUp port.val).replay port.val).pump port.val).retryWaiting)) ∧
  (∀ (port : Fin 16) (closed : Bool) (stamps : List (BitVec 16)) (s : State), s.clocked = true →
    (s.port port.val).link = .retrain →
    (closed = false ∨ (s.port port.val).locked = false) →
    (s.work port.val).outsideBurst = false →
    exec (.retrainEnd port closed stamps) s = .next (s.updWork port.val (fun w => { w with restarts := w.restarts + 1 }))) ∧
  (∀ (port : Fin 16) (s : State), s.clocked = true →
    (s.port port.val).link = .retrain →
    (s.port port.val).health ≠ .retired →
    (s.work port.val).restarts < 5 →
    exec (.retrainRestart port) s = .next ((s.startRetrain port.val).finishAll [] .noResource .linkDown [])) ∧
  (∀ (port : Fin 16) (s : State), s.clocked = true →
    (s.port port.val).link = .retrain →
    (s.port port.val).health ≠ .retired →
    5 ≤ (s.work port.val).restarts →
    exec (.retrainRestart port) s = .next (((s.updWork port.val (fun w => { w with fastCmds := [] })).startRetrain
        port.val).finishAll (s.work port.val).fastCmds
        .noResource .linkDown []))

/-- Bursts, lanes and width: a burst freezes the adaptation at the snapshot before it, quarantines the port where it
falls into probation, and ends once the lanes lock; 8 frames of it quarantine the port; recalibration is followed by
probation for 64 frames at WATCH, and a lane below its margin is a permanent fault; an unsound lane is proposed to the far
end, the port retrains at the width both ends agreed, and without agreement in 64 frames it retires; the transmitter
follows TXEQ and the adaptation is recorded, and what it becomes is a free value. (R318, R319, R321, R322, R325.) -/
def Obligations.PortsBurstsAndWidth : Prop :=
  (∀ (port : Fin 16) (u : State) (s : State), s.clocked = true →
    (s.port port.val).link ≠ .down →
    (s.port port.val).link ≠ .doze →
    4 ≤ (s.work port.val).recent.length →
    (s.port port.val).burst = false →
    (s.port port.val).health ≠ .retired →
    u = (s.updPort port.val (fun p => { p with
        burst := true, frozen := true, bursts := satAdd p.bursts 1
        lanes := p.lanes.mapRow {} 8 (fun k l => { l with
          adapt := l.hist1, hit := (s.work port.val).recent.any (fun y => y.1 == k) }) })).updWork port.val (fun w => { w with
        burstsTotal := w.burstsTotal + 1, burstFrames := 0, recal := none, probBurst := (s.port port.val).probation
        window := ((w.window.headD (0, false)).1, true) :: w.window.tail }) →
    exec (.burstStart port) s = .next (if (s.port port.val).probation
      then u.setHealth port.val .quarantine (s.port port.val).width else u)) ∧
  (∀ (port : Fin 16) (s : State), s.clocked = true →
    ((s.port port.val).link = .down ∨ (s.port port.val).link = .doze ∨ (s.work port.val).recent.length < 4 ∨
      (s.port port.val).burst = true ∨ (s.port port.val).health = .retired) →
    exec (.burstStart port) s = .next s) ∧
  (∀ (port : Fin 16) (dur : BitVec 32) (u : State) (s : State), s.clocked = true →
    (s.port port.val).burst = true →
    (s.port port.val).locked = true →
    u = (s.updPort port.val (fun p => { p with burst := false, frozen := false })).updWork port.val (fun w => { w with
        recal := some 4, burstDur := dur, probBurst := false, recent := [] }) →
    exec (.burstEnd port dur) s = .next (if (s.work port.val).probBurst
      then u.permanentFault port.val (s.port port.val).hitLanes else u)) ∧
  (∀ (port : Fin 16) (n u v : State) (s : State), s.clocked = true →
    (s.port port.val).burst = true →
    8 ≤ (s.work port.val).burstFrames →
    (s.port port.val).health ≠ .quarantine →
    (s.port port.val).health ≠ .retired →
    n = s.healthNotice port.val s.frm.count .quarantine (s.port port.val).width →
    u = (n.updPort port.val (fun p => { p with health := .quarantine })).updWork port.val (fun w => { w with
      nextHealth := none, healthFrame := n.frm.count }) →
    v = ((u.logEvent 0x0700 .none none [(0, port.val), (10, (u.port port.val).stateWord.toNat % 2 ^ 26)]).fireVec 0
      5).dropData port.val →
    exec (.burstQuarantine port) s = .next (if port.val < 12 then v.sendBeacons else v)) ∧
  (∀ (port : Fin 16) (margins : List (BitVec 12)) (u v : State) (s : State), s.clocked = true →
    (s.work port.val).recal = some 0 →
    u = (s.updPort port.val (fun p =>
        { p with lanes := p.lanes.mapRow {} 8 (fun l x => { x with margin := margins.getD l x.margin }) })) →
    v = u.updWork port.val (fun w => { w with recal := none }) →
    laneMask ((u.port port.val).active.filter (fun l => decide (((u.port port.val).lane l).margin.toNat < 170))) = 0 →
    (s.work port.val).unsound = none →
    (s.work port.val).change = none →
    exec (.recalibrationEnd port margins) s = .next (((((if
        (decide ((s.work port.val).burstDur.toNat * 100 ≤ 8 * periodNs s.frm.period) &&
          !(u.port port.val).active.any (fun l => ((u.port port.val).lane l).stuck)) = true
      then v.log 0x0701 [(0, port.val), (4, (s.work port.val).burstDur.toNat), (36, (u.port port.val).hitLanes.toNat)]
      else v).updPort port.val (fun p => { p with probation := true })).updWork
        port.val (fun w => { w with probFrames := 64, clean := 0 }))).setHealth port.val .watch (u.port
            port.val).width)) ∧
  (∀ (port : Fin 16) (margins : List (BitVec 12)) (u : State) (s : State), s.clocked = true →
    (s.work port.val).recal = some 0 →
    u = (s.updPort port.val (fun p =>
        { p with lanes := p.lanes.mapRow {} 8 (fun l x => { x with margin := margins.getD l x.margin }) })) →
    laneMask ((u.port port.val).active.filter (fun l => decide (((u.port port.val).lane l).margin.toNat < 170))) = 0 →
    ((s.work port.val).unsound ≠ none ∨ (s.work port.val).change ≠ none) →
    exec (.recalibrationEnd port margins) s = .next (u.updWork port.val (fun w => { w with recal := none }))) ∧
  (∀ (port : Fin 16) (margins : List (BitVec 12)) (u : State) (s : State), s.clocked = true →
    (s.work port.val).recal = some 0 →
    u = (s.updPort port.val (fun p =>
        { p with lanes := p.lanes.mapRow {} 8 (fun l x => { x with margin := margins.getD l x.margin }) })) →
    laneMask ((u.port port.val).active.filter (fun l => decide (((u.port port.val).lane l).margin.toNat < 170))) ≠ 0 →
    exec (.recalibrationEnd port margins) s = .next ((u.updWork port.val (fun w =>
        { w with recal := none })).permanentFault port.val
        (laneMask ((u.port port.val).active.filter (fun l => decide (((u.port port.val).lane l).margin.toNat <
            170)))))) ∧
  (∀ (port : Fin 16) (s : State), s.clocked = true →
    (s.port port.val).probation = true →
    (s.work port.val).probFrames = 0 →
    exec (.probationEnd port) s = .next (s.updPort port.val (fun p => { p with probation := false }))) ∧
  (∀ (port : Fin 16) (lane : Fin 8) (s : State), s.clocked = true →
    (s.port port.val).link = .up →
    lane.val ∈ (s.port port.val).active →
    exec (.stuckLane port lane) s = .next ((s.updPort port.val (fun p => p.updLane lane.val (fun l =>
        { l with stuck := true }))).permanentFault port.val
        (laneMask [lane.val]))) ∧
  (∀ (port : Fin 16) (unsound : BitVec 8) (u : BitVec 8) (s : State), s.clocked = true →
    u = (s.work port.val).unsound.getD 0 ||| unsound →
    (u ≠ 0 ∨ (s.work port.val).unsound ≠ none) →
    (s.port port.val).health ≠ .retired →
    (s.work port.val).change = none →
    (s.port port.val).widthFor u ≠ .none →
    exec (.widthChange port unsound) s = .next ((s.sendWidth port.val u).updWork port.val (fun w
        => { w with
        unsound := some u, change := some { unsound := u } }))) ∧
  (∀ (port : Fin 16) (unsound : BitVec 8) (u : BitVec 8) (s : State), s.clocked = true →
    u = (s.work port.val).unsound.getD 0 ||| unsound →
    (u ≠ 0 ∨ (s.work port.val).unsound ≠ none) →
    (s.port port.val).health ≠ .retired →
    (s.work port.val).change = none →
    (s.port port.val).widthFor u = .none →
    exec (.widthChange port unsound) s = .next ((s.sendWidth port.val u).retirePort port.val)) ∧
  (∀ (port : Fin 16) (unsound : BitVec 8) (ch : WidthChange) (s : State), s.clocked = true →
    (s.port port.val).health ≠ .retired →
    (s.work port.val).change = some ch →
    ch.retraining = false →
    exec (.widthReceive port unsound) s = .next (s.applyWidth port.val (ch.unsound ||| unsound))) ∧
  (∀ (port : Fin 16) (unsound : BitVec 8) (s : State), s.clocked = true →
    (s.port port.val).health ≠ .retired →
    (s.work port.val).change = none →
    exec (.widthReceive port unsound) s = .next (((s.setHealth port.val .quarantine (s.port port.val).width).sendWidth
        port.val
        ((s.work port.val).unsound.getD 0 ||| unsound)).applyWidth port.val
          ((s.work port.val).unsound.getD 0 ||| unsound))) ∧
  (∀ (port : Fin 16) (ch : WidthChange) (s : State), s.clocked = true →
    (s.work port.val).change = some ch →
    64 ≤ ch.frames →
    ch.retraining = false →
    exec (.widthChangeTimeout port) s = .next (s.retirePort port.val)) ∧
  (∀ (port : Fin 16) (lane : Fin 8) (up : Bool) (s : State), s.clocked = true →
    exec (.txeqReceive port lane up) s = .next (s.updPort port.val (fun p => p.updLane lane.val (fun l =>
        { l with txCoef := if up then l.txCoef + 1 else l.txCoef - 1 })))) ∧
  (∀ (port : Fin 16) (margins : List (BitVec 12)) (s : State), s.clocked = true →
    exec (.adaptationSnapshot port margins) s = .next ((State.updPort port.val (fun p =>
        { p with lanes := p.lanes.mapRow {} 8 (fun l x => { x with
        hist1 := x.hist0, hist0 := x.adapt, adapt := if p.frozen then x.adapt else Config.adapted s.free l
        margin := margins.getD l x.margin }) }) { s with free := s.free + 1 }).askSteps port.val s.free))

/-- Dozing: an idle port asks for doze once it may; an ask is acknowledged where the own end may doze; with the
acknowledgement the port commits to doze, drops its transmitter once its replay buffer is empty, and is woken by
either end; a wake that does not come brings the port DOWN. (R327, R328, R329.) -/
def Obligations.PortsDozing : Prop :=
  (∀ (port : Fin 16) (s : State), s.clocked = true →
    s.dozeOk port.val = true →
    (s.work port.val).dozing = false →
    exec (.dozeRequest port) s = .next ((s.updWork port.val (fun w => { w with sentReq := true })).txLocal port.val
        .dozeReq)) ∧
  (∀ (port : Fin 16) (s : State), s.clocked = true →
    s.dozeOk port.val = false →
    exec (.dozeRequest port) s = .next s) ∧
  (∀ (port : Fin 16) (s : State), s.clocked = true →
    (s.port port.val).link = .up →
    s.dozeOk port.val = true →
    (s.work port.val).sentAck = false →
    (s.work port.val).sentWake = false →
    exec (.dozeReqReceive port) s = .next ((s.updWork port.val (fun w =>
        { w with gotReq := true, sentAck := true })).txLocal port.val .dozeAck)) ∧
  (∀ (port : Fin 16) (s : State), s.clocked = true →
    (s.port port.val).link = .up →
    s.dozeOk port.val = false →
    exec (.dozeReqReceive port) s = .next (s.updWork port.val (fun w => { w with gotReq := true }))) ∧
  (∀ (port : Fin 16) (s : State), s.clocked = true →
    (s.port port.val).link = .up →
    (s.work port.val).dozing = true →
    (s.work port.val).sentWake = false →
    (s.work port.val).sentAck = false →
    s.dozeOk port.val = true →
    exec (.dozeAckReceive port) s = .next (((s.updWork port.val (fun w => { w with sentAck := true })).txLocal port.val
        .dozeAck).dozeCommit port.val false)) ∧
  (∀ (port : Fin 16) (s : State), s.clocked = true →
    (s.port port.val).link = .up →
    (s.work port.val).dozing = true →
    (s.work port.val).sentWake = false →
    (s.work port.val).sentAck = true →
    exec (.dozeAckReceive port) s = .next (((s.updPort port.val (fun p => { p with link := .dozeEntry })).updWork
        port.val (fun w => { w with
        sentReq := false, gotReq := false, sentAck := false, gotAck := false, sentWake := false
        wakeLatched := w.wakeLatched })).handBackQueue port.val)) ∧
  (∀ (port : Fin 16) (s : State), s.clocked = true →
    (s.port port.val).link = .doze →
    exec (.wakeRequest port) s = .next ((s.updPort port.val (fun p => { p with link := .waking })).wakeTrain
        port.val)) ∧
  (∀ (port : Fin 16) (s : State), s.clocked = true →
    (s.port port.val).link = .dozeEntry →
    exec (.wakeRequest port) s = .next (s.updWork port.val (fun w => { w with wakeLatched := true }))) ∧
  (∀ (port : Fin 16) (s : State), s.clocked = true →
    (s.port port.val).link = .up →
    (s.work port.val).sentAck = true →
    exec (.wakeReceive port) s = .next (s.dozeCommit port.val true)) ∧
  (∀ (port : Fin 16) (s : State), s.clocked = true →
    (s.port port.val).link = .dozeEntry →
    exec (.wakeReceive port) s = .next (s.updWork port.val (fun w => { w with wakeLatched := true }))) ∧
  (∀ (port : Fin 16) (s : State), s.clocked = true →
    (s.port port.val).link = .dozeEntry →
    (s.work port.val).replay = [] →
    (s.work port.val).wakeLatched = false →
    exec (.dozeEntry port) s = .next (((((((s.losesUp port.val).dropBuffered port.val).updPort port.val (fun p =>
        { p with
        link := .doze, lanes := p.lanes.mapRow {} 8 (fun _ l => { l with lock := .search }) })).updWork port.val (fun w => { w with
        wakeLatched := false })).handBackQueue port.val).emit (.idle port.val 0xFF)).refreshParent)) ∧
  (∀ (port : Fin 16) (s : State), s.clocked = true →
    (s.port port.val).link = .dozeEntry →
    (s.work port.val).replay = [] →
    (s.work port.val).wakeLatched = true →
    exec (.dozeEntry port) s = .next ((((((((s.losesUp port.val).dropBuffered port.val).updPort port.val (fun p =>
        { p with
        link := .waking, lanes := p.lanes.mapRow {} 8 (fun _ l => { l with lock := .search }) })).updWork port.val (fun w => { w with
        wakeLatched := false })).handBackQueue port.val).emit (.idle port.val 0xFF)).wakeTrain port.val).refreshParent)) ∧
  (∀ (port : Fin 16) (s : State), s.clocked = true →
    (s.port port.val).link = .waking →
    exec (.wakeTimeout port) s = .next (s.portDown port.val))

/-- What starts operations: OPERATION_ISSUE serves the first partition in turn whose ready list has a candidate that
fits and issues its first, after the operations whose bound words had to wait; OVERSIZE_ISSUE issues one that was passed
over and whose cost exceeds a whole frame's load; a descriptor is fetched from the job's list, and one at an address it
may not read is malformed; an engine starts when the slew budget of its die has room and counts a wait otherwise, a fill
is charged and leaves; a table or program takes the half that no operation latches. (R134, R228, R390, R392, R395, R396.) -/
def Obligations.OperationsAreIssued : Prop :=
  (∀ (die : Die) (pre post : List Nat) (p : Nat) (c : Cand) (d : Desc) (rest : List (Cand × Desc)) (u : State) (s : State),
      s.clocked = true →
    u = s.bindWaiting die.num →
    (List.range 16).map (fun i => ((if die.num = 0 then u.pwr.rrW else u.pwr.rrE) + i) % 16) = pre ++ p :: post →
    (∀ q ∈ pre, u.readyList q die.num = []) →
    u.readyList p die.num = (c, d) :: rest →
    (u.pwrp p).lock die.num = none →
    u.fits p die.num c d = true →
    exec (.operationIssue die) s = .next ((u.passOver p ((rest.filter (fun x => !u.fits p die.num x.1 x.2)).map
        (·.1))).issue p die.num c d false)) ∧
  (∀ (die : Die) (u : State) (s : State), s.clocked = true →
    u = s.bindWaiting die.num →
    (∀ q < 16, u.readyList q die.num = []) →
    exec (.operationIssue die) s = .next u) ∧
  (∀ (die : Die) (p : Fin 16) (c : Cand) (d : Desc) (rest : List (Cand × Desc)) (s : State), s.clocked = true →
    s.readyList p.val die.num = (c, d) :: rest →
    (s.pwrp p.val).lock die.num = none →
    s.timesPassed p.val c ≠ 0 →
    (s.pwrp p.val).load die.num < s.candCost p.val c d →
    0 ≤ (s.pwrp p.val).bal die.num →
    (∀ o, o ∈ s.opsOf p.val → o.die ≠ die.num) →
    exec (.oversizeIssue die p) s = .next (s.issue p.val die.num c d true)) ∧
  (∀ (die : Die) (p : Fin 16) (s : State), s.clocked = true →
    s.readyList p.val die.num = [] →
    exec (.oversizeIssue die p) s = .next s) ∧
  (∀ (p : Fin 16) (c : Cand) (j : Job) (u : State) (bs : List Byte) (s : State), s.clocked = true →
    (s.cands p.val).find? (fun c => c.desc.isNone) = some c →
    s.candJob c = some j →
    s.readDva {
        die := s.fetchDie p.val, tag := BitVec.ofNat 10 (tagOf p.val c.ctx), ticket := c.ticket, slot := 0
        fetch := some (c.uid, c.index) } (j.list.toNat + 128 * c.index) 128 = (u, .ok bs) →
    exec (.descriptorFetch p) s = .next (u.updAdm (fun a => { a with
          jobs := a.jobs.map (fun x => if x.cmd.uid == c.uid then
            { x with fetched := x.fetched ++ [(c.index, BitVec.ofNat 1024 (ofBytesLE bs))] } else x) }))) ∧
  (∀ (p : Fin 16) (c : Cand) (j : Job) (u : State) (r : FaultRec) (s : State), s.clocked = true →
    (s.cands p.val).find? (fun c => c.desc.isNone) = some c →
    s.candJob c = some j →
    s.readDva {
        die := s.fetchDie p.val, tag := BitVec.ofNat 10 (tagOf p.val c.ctx), ticket := c.ticket, slot := 0
        fetch := some (c.uid, c.index) } (j.list.toNat + 128 * c.index) 128 = (u, .fault r) →
    exec (.descriptorFetch p) s = .next (u.updAdm (fun a => { a with
          jobs := a.jobs.map (fun x => if x.cmd.uid == c.uid then
            { x with fetched := x.fetched ++ [(c.index, 0)] } else x) }))) ∧
  (∀ (p : Fin 16) (c : Cand) (j : Job) (u : State) (s : State), s.clocked = true →
    (s.cands p.val).find? (fun c => c.desc.isNone) = some c →
    s.candJob c = some j →
    s.readDva {
        die := s.fetchDie p.val, tag := BitVec.ofNat 10 (tagOf p.val c.ctx), ticket := c.ticket, slot := 0
        fetch := some (c.uid, c.index) } (j.list.toNat + 128 * c.index) 128 = (u, .wait) →
    exec (.descriptorFetch p) s = .next u) ∧
  (∀ (die : Die) (ns : Nat) (o : Op) (behind : List Op) (need : Nat) (s : State), s.clocked = true →
    askingStart die.num [] s.seq.ops = o :: behind →
    need = (o.desc.engines.map (fun e => s.scaled (o.desc.currentMa e) -
      ((s.pwr.fillOf o.desc.tiller e).map (fun f => f.current)).getD 0)).foldl (· + ·) 0 →
    slewBudget < usedSlew die.num ns s.pwr.grants + need →
    exec (.engineStart die ns) s = .next (s.countWaits (o :: behind))) ∧
  (∀ (die : Die) (ns : Nat) (o : Op) (behind : List Op) (need : Nat) (s : State), s.clocked = true →
    askingStart die.num [] s.seq.ops = o :: behind →
    need = (o.desc.engines.map (fun e => s.scaled (o.desc.currentMa e) -
      ((s.pwr.fillOf o.desc.tiller e).map (fun f => f.current)).getD 0)).foldl (· + ·) 0 →
    usedSlew die.num ns s.pwr.grants + need ≤ slewBudget →
    exec (.engineStart die ns) s = .next ((o.desc.engines.foldl (fun s e => s.startEngine o e)
        ((if o.waited then s.countWaits behind else s).updPwr (fun w =>
        { w with
        grants := if need = 0 then w.grants else addSlew die.num ns need w.grants }))).updOp o.id (fun o => { o with
        started := true }))) ∧
  (∀ (tiller : Fin 128) (s : State), s.clocked = true →
    exec (.fillHoldExpiry tiller) s = .next (s.updPwr (fun w => { w with
        fills := w.fills.map (fun (f : Fill) => if f.tiller == tiller.val && f.hold == some 0 then { f with hold := none } else f) }))) ∧
  (∀ (die : Die) (ns : Nat) (cycles : Nat) (f : Fill) (s : State), s.clocked = true →
    s.pwr.fills.find? (fun f => tillerDie f.tiller == die.num && f.hold.isNone) = some f →
    usedSlew die.num ns s.pwr.releases + f.current ≤ slewBudget →
    exec (.fillRelease die ns cycles) s = .next ((s.updPwr (fun w => { w with
        fills := w.fills.filter (fun g => !(g.tiller == f.tiller && g.engine == f.engine))
        releases := addSlew die.num ns f.current w.releases })).chargeFill f cycles)) ∧
  (∀ (die : Die) (ns : Nat) (cycles : Nat) (f : Fill) (s : State), s.clocked = true →
    s.pwr.fills.find? (fun f => tillerDie f.tiller == die.num && f.hold.isNone) = some f →
    slewBudget < usedSlew die.num ns s.pwr.releases + f.current →
    exec (.fillRelease die ns cycles) s = .next s) ∧
  (∀ (p slot : Fin 16) (x : SfuSlot) (bs : List Byte) (s : State), s.clocked = true →
    s.sfuSlot (slotKey p.val slot.val) = x →
    x.nextLoad = some bs →
    x.written = false →
    s.seq.ops.any (fun o => o.part == p.val && o.latches (slotKey p.val slot.val) (!x.active)) = false →
    exec (.sfuLoadWrite p slot) s = .next (s.updSlot (slotKey p.val slot.val) (fun x => if x.active then
        { x with half0 := bs, written := true }
        else { x with half1 := bs, written := true })))

/-- One tile of an engine operation: an operation that started, waits for no queue and has its handles runs one
iteration of its loop nest; its record then stands as the tile left it. A tile whose access faults kills the
context of the operation with that fault, one whose access waits for a translation runs again. First the pops an
iteration needs are made. (R143, R144, R167, R182,
R225, R259, R287.) -/
def Obligations.EnginesCompleteTiles : Prop :=
  (∀ (id : Nat) (o : Op) (w : QueueWait) (ws : List QueueWait) (s : State), s.clocked = true →
    s.op? id = some o →
    o.desc.kind = 0x01 →
    o.started = true →
    o.loopsDone = false →
    o.waits = [] →
    o.mulPops = w :: ws →
    exec (.tileMultiply id) s = .next (s.updOp id (fun o => { o with waits := w :: ws }))) ∧
  (∀ (id : Nat) (o : Op) (w : QueueWait) (ws : List QueueWait) (s : State), s.clocked = true →
    s.op? id = some o →
    o.desc.kind = 0x02 ∧ o.desc.variant ≠ 8 →
    o.started = true →
    o.loopsDone = false →
    o.waits = [] →
    o.attnPops = w :: ws →
    exec (.attentionForward id) s = .next (s.updOp id (fun o => { o with waits := w :: ws }))) ∧
  (∀ (id : Nat) (o : Op) (w : QueueWait) (ws : List QueueWait) (s : State), s.clocked = true →
    s.op? id = some o →
    o.desc.kind = 0x04 →
    o.started = true →
    o.loopsDone = false →
    o.waits = [] →
    o.needsInputs ++ o.needsFree = w :: ws →
    exec (.specialFunctionPass id) s = .next (s.updOp id (fun o => { o with waits := w :: ws }))) ∧
  (∀ (id : Nat) (o : Op) (w : QueueWait) (ws : List QueueWait) (s : State), s.clocked = true →
    s.op? id = some o →
    o.desc.kind = 5 →
    o.started = true →
    o.loopsDone = false →
    o.waits = [] →
    o.needsInputs = w :: ws →
    exec (.circulationSend id) s = .next (s.updOp id (fun o => { o with waits := w :: ws }))) ∧
  (∀ (id : Nat) (o : Op) (w : QueueWait) (ws : List QueueWait) (s : State), s.clocked = true →
    s.op? id = some o →
    o.desc.kind = 6 →
    o.started = true →
    o.loopsDone = false →
    o.waits = [] →
    o.needsFree = w :: ws →
    exec (.circulationReceive id) s = .next (s.updOp id (fun o => { o with waits := w :: ws }))) ∧
  (∀ (id : Nat) (o : Op) (w : QueueWait) (ws : List QueueWait) (s : State), s.clocked = true →
    s.op? id = some o →
    o.desc.kind = 8 →
    o.started = true →
    o.loopsDone = false →
    o.waits = [] →
    o.mulPops = w :: ws →
    exec (.fusedMultiplyReduce id) s = .next (s.updOp id (fun o => { o with waits := w :: ws }))) ∧
  (∀ (id : Nat) (o : Op) (w : QueueWait) (ws : List QueueWait) (s : State), s.clocked = true →
    s.op? id = some o →
    Op.isCopy 0 o = true →
    o.started = true →
    o.loopsDone = false →
    o.waits = [] →
    o.copyPops = w :: ws →
    exec (.copyData id) s = .next (s.updOp id (fun o => { o with waits := w :: ws }))) ∧
  (∀ (id : Nat) (o : Op) (w : QueueWait) (ws : List QueueWait) (s : State), s.clocked = true →
    s.op? id = some o →
    Op.isCopy 3 o = true →
    o.started = true →
    o.loopsDone = false →
    o.waits = [] →
    o.needsFree = w :: ws →
    exec (.copyZeroFill id) s = .next (s.updOp id (fun o => { o with waits := w :: ws }))) ∧
  (∀ (id : Nat) (o : Op) (u : State) (o' : Op) (s : State), s.clocked = true →
    s.op? id = some o →
    o.desc.kind = 0x01 →
    o.started = true →
    o.loopsDone = false →
    o.waits = [] →
    o.mulPops = [] →
    (s.tileStart id).mulTile o = (u, .ok o') →
    exec (.tileMultiply id) s = .next (u.updOp id (fun _ => { o' with lines := [], cursor := 0 }))) ∧
  (∀ (id : Nat) (o : Op) (u : State) (r : FaultRec) (s : State), s.clocked = true →
    s.op? id = some o →
    o.desc.kind = 0x01 →
    o.started = true →
    o.loopsDone = false →
    o.waits = [] →
    o.mulPops = [] →
    (s.tileStart id).mulTile o = (u, .fault r) →
    exec (.tileMultiply id) s = .next (u.killStart r none)) ∧
  (∀ (id : Nat) (o : Op) (u : State) (s : State), s.clocked = true →
    s.op? id = some o →
    o.desc.kind = 0x01 →
    o.started = true →
    o.loopsDone = false →
    o.waits = [] →
    o.mulPops = [] →
    (s.tileStart id).mulTile o = (u, .wait) →
    exec (.tileMultiply id) s = .next u) ∧
  (∀ (id : Nat) (o : Op) (u : State) (o' : Op) (s : State), s.clocked = true →
    s.op? id = some o →
    o.desc.kind = 0x02 ∧ o.desc.variant ≠ 8 →
    o.started = true →
    o.loopsDone = false →
    o.waits = [] →
    o.attnPops = [] →
    gotThen (((s.tileStart id).keyHandle o).2.bucketEntry ((s.tileStart id).keyHandle o).1) (fun o s => s.fwdTile o) = (u, .ok o') →
    exec (.attentionForward id) s = .next (u.updOp id (fun _ => { o' with lines := [], cursor := 0 }))) ∧
  (∀ (id : Nat) (o : Op) (u : State) (r : FaultRec) (s : State), s.clocked = true →
    s.op? id = some o →
    o.desc.kind = 0x02 ∧ o.desc.variant ≠ 8 →
    o.started = true →
    o.loopsDone = false →
    o.waits = [] →
    o.attnPops = [] →
    gotThen (((s.tileStart id).keyHandle o).2.bucketEntry ((s.tileStart id).keyHandle o).1) (fun o s => s.fwdTile o) = (u, .fault r) →
    exec (.attentionForward id) s = .next (u.killStart r none)) ∧
  (∀ (id : Nat) (o : Op) (u : State) (s : State), s.clocked = true →
    s.op? id = some o →
    o.desc.kind = 0x02 ∧ o.desc.variant ≠ 8 →
    o.started = true →
    o.loopsDone = false →
    o.waits = [] →
    o.attnPops = [] →
    gotThen (((s.tileStart id).keyHandle o).2.bucketEntry ((s.tileStart id).keyHandle o).1) (fun o s => s.fwdTile o) = (u, .wait) →
    exec (.attentionForward id) s = .next u) ∧
  (∀ (id : Nat) (o : Op) (u : State) (o' : Op) (s : State), s.clocked = true →
    s.op? id = some o →
    o.desc.kind = 0x04 →
    o.started = true →
    o.loopsDone = false →
    o.waits = [] →
    o.needsInputs ++ o.needsFree = [] →
    (s.tileStart id).sfuTile o = (u, .ok o') →
    exec (.specialFunctionPass id) s = .next (u.updOp id (fun _ => { o' with lines := [], cursor := 0 }))) ∧
  (∀ (id : Nat) (o : Op) (u : State) (r : FaultRec) (s : State), s.clocked = true →
    s.op? id = some o →
    o.desc.kind = 0x04 →
    o.started = true →
    o.loopsDone = false →
    o.waits = [] →
    o.needsInputs ++ o.needsFree = [] →
    (s.tileStart id).sfuTile o = (u, .fault r) →
    exec (.specialFunctionPass id) s = .next (u.killStart r none)) ∧
  (∀ (id : Nat) (o : Op) (u : State) (s : State), s.clocked = true →
    s.op? id = some o →
    o.desc.kind = 0x04 →
    o.started = true →
    o.loopsDone = false →
    o.waits = [] →
    o.needsInputs ++ o.needsFree = [] →
    (s.tileStart id).sfuTile o = (u, .wait) →
    exec (.specialFunctionPass id) s = .next u) ∧
  (∀ (id : Nat) (o : Op) (u : State) (o' : Op) (s : State), s.clocked = true →
    s.op? id = some o →
    o.desc.kind = 5 →
    o.started = true →
    o.loopsDone = false →
    o.waits = [] →
    o.needsInputs = [] →
    (s.tileStart id).sendTile o = (u, .ok o') →
    exec (.circulationSend id) s = .next (u.updOp id (fun _ => { o' with lines := [], cursor := 0 }))) ∧
  (∀ (id : Nat) (o : Op) (u : State) (r : FaultRec) (s : State), s.clocked = true →
    s.op? id = some o →
    o.desc.kind = 5 →
    o.started = true →
    o.loopsDone = false →
    o.waits = [] →
    o.needsInputs = [] →
    (s.tileStart id).sendTile o = (u, .fault r) →
    exec (.circulationSend id) s = .next (u.killStart r none)) ∧
  (∀ (id : Nat) (o : Op) (u : State) (s : State), s.clocked = true →
    s.op? id = some o →
    o.desc.kind = 5 →
    o.started = true →
    o.loopsDone = false →
    o.waits = [] →
    o.needsInputs = [] →
    (s.tileStart id).sendTile o = (u, .wait) →
    exec (.circulationSend id) s = .next u) ∧
  (∀ (id : Nat) (o : Op) (u : State) (o' : Op) (s : State), s.clocked = true →
    s.op? id = some o →
    o.desc.kind = 6 →
    o.started = true →
    o.loopsDone = false →
    o.waits = [] →
    o.needsFree = [] →
    (s.tileStart id).receiveTile o = (u, .ok o') →
    exec (.circulationReceive id) s = .next (u.updOp id (fun _ => { o' with lines := [], cursor := 0 }))) ∧
  (∀ (id : Nat) (o : Op) (u : State) (r : FaultRec) (s : State), s.clocked = true →
    s.op? id = some o →
    o.desc.kind = 6 →
    o.started = true →
    o.loopsDone = false →
    o.waits = [] →
    o.needsFree = [] →
    (s.tileStart id).receiveTile o = (u, .fault r) →
    exec (.circulationReceive id) s = .next (u.killStart r none)) ∧
  (∀ (id : Nat) (o : Op) (u : State) (s : State), s.clocked = true →
    s.op? id = some o →
    o.desc.kind = 6 →
    o.started = true →
    o.loopsDone = false →
    o.waits = [] →
    o.needsFree = [] →
    (s.tileStart id).receiveTile o = (u, .wait) →
    exec (.circulationReceive id) s = .next u) ∧
  (∀ (id : Nat) (o : Op) (u : State) (o' : Op) (s : State), s.clocked = true →
    s.op? id = some o →
    o.desc.kind = 8 →
    o.started = true →
    o.loopsDone = false →
    o.waits = [] →
    o.mulPops = [] →
    (s.tileStart id).fusedTile o = (u, .ok o') →
    exec (.fusedMultiplyReduce id) s = .next (u.updOp id (fun _ => { o' with lines := [], cursor := 0 }))) ∧
  (∀ (id : Nat) (o : Op) (u : State) (r : FaultRec) (s : State), s.clocked = true →
    s.op? id = some o →
    o.desc.kind = 8 →
    o.started = true →
    o.loopsDone = false →
    o.waits = [] →
    o.mulPops = [] →
    (s.tileStart id).fusedTile o = (u, .fault r) →
    exec (.fusedMultiplyReduce id) s = .next (u.killStart r none)) ∧
  (∀ (id : Nat) (o : Op) (u : State) (s : State), s.clocked = true →
    s.op? id = some o →
    o.desc.kind = 8 →
    o.started = true →
    o.loopsDone = false →
    o.waits = [] →
    o.mulPops = [] →
    (s.tileStart id).fusedTile o = (u, .wait) →
    exec (.fusedMultiplyReduce id) s = .next u) ∧
  (∀ (id : Nat) (o : Op) (u : State) (o' : Op) (s : State), s.clocked = true →
    s.op? id = some o →
    o.desc.kind = 9 →
    o.started = true →
    o.loopsDone = false →
    o.waits = [] →
    (if o.desc.sends then (s.tileStart id).sendTile o else (s.tileStart id).receiveTile o) = (u, .ok o') →
    exec (.reshardMove id) s = .next (u.updOp id (fun _ => { o' with lines := [], cursor := 0 }))) ∧
  (∀ (id : Nat) (o : Op) (u : State) (r : FaultRec) (s : State), s.clocked = true →
    s.op? id = some o →
    o.desc.kind = 9 →
    o.started = true →
    o.loopsDone = false →
    o.waits = [] →
    (if o.desc.sends then (s.tileStart id).sendTile o else (s.tileStart id).receiveTile o) = (u, .fault r) →
    exec (.reshardMove id) s = .next (u.killStart r none)) ∧
  (∀ (id : Nat) (o : Op) (u : State) (s : State), s.clocked = true →
    s.op? id = some o →
    o.desc.kind = 9 →
    o.started = true →
    o.loopsDone = false →
    o.waits = [] →
    (if o.desc.sends then (s.tileStart id).sendTile o else (s.tileStart id).receiveTile o) = (u, .wait) →
    exec (.reshardMove id) s = .next u) ∧
  (∀ (id : Nat) (o : Op) (u : State) (o' : Op) (s : State), s.clocked = true →
    s.op? id = some o →
    Op.isCopy 0 o = true →
    o.started = true →
    o.loopsDone = false →
    o.waits = [] →
    o.copyPops = [] →
    (s.tileStart id).copyTile o = (u, .ok o') →
    exec (.copyData id) s = .next (u.updOp id (fun _ => { o' with lines := [], cursor := 0 }))) ∧
  (∀ (id : Nat) (o : Op) (u : State) (r : FaultRec) (s : State), s.clocked = true →
    s.op? id = some o →
    Op.isCopy 0 o = true →
    o.started = true →
    o.loopsDone = false →
    o.waits = [] →
    o.copyPops = [] →
    (s.tileStart id).copyTile o = (u, .fault r) →
    exec (.copyData id) s = .next (u.killStart r none)) ∧
  (∀ (id : Nat) (o : Op) (u : State) (s : State), s.clocked = true →
    s.op? id = some o →
    Op.isCopy 0 o = true →
    o.started = true →
    o.loopsDone = false →
    o.waits = [] →
    o.copyPops = [] →
    (s.tileStart id).copyTile o = (u, .wait) →
    exec (.copyData id) s = .next u) ∧
  (∀ (id : Nat) (o : Op) (u : State) (o' : Op) (s : State), s.clocked = true →
    s.op? id = some o →
    Op.isCopy 3 o = true →
    o.started = true →
    o.loopsDone = false →
    o.waits = [] →
    o.needsFree = [] →
    (s.tileStart id).copyOut o (List.replicate o.desc.tm (List.replicate o.desc.tn 0)) = (u, .ok o') →
    exec (.copyZeroFill id) s = .next (u.updOp id (fun _ => { o' with lines := [], cursor := 0 }))) ∧
  (∀ (id : Nat) (o : Op) (u : State) (r : FaultRec) (s : State), s.clocked = true →
    s.op? id = some o →
    Op.isCopy 3 o = true →
    o.started = true →
    o.loopsDone = false →
    o.waits = [] →
    o.needsFree = [] →
    (s.tileStart id).copyOut o (List.replicate o.desc.tm (List.replicate o.desc.tn 0)) = (u, .fault r) →
    exec (.copyZeroFill id) s = .next (u.killStart r none)) ∧
  (∀ (id : Nat) (o : Op) (u : State) (s : State), s.clocked = true →
    s.op? id = some o →
    Op.isCopy 3 o = true →
    o.started = true →
    o.loopsDone = false →
    o.waits = [] →
    o.needsFree = [] →
    (s.tileStart id).copyOut o (List.replicate o.desc.tm (List.replicate o.desc.tn 0)) = (u, .wait) →
    exec (.copyZeroFill id) s = .next u)

/-- Iterations of the other operations: a bucket sort reads M entries, keeps what each bucket's capacity allows and
writes lists and counts; each pass of attention backward runs its own tile after the pops it needs; an explicit reduction
enters its queue, waits while 64 are in it, and without its queue counts DESC_ERR; a handle load pushes each handle with
the tag of its context; a bound load keeps the word for its retirement. An access that faults kills the context, one that
waits for a translation leaves the iteration to run again. (R144, R158, R176, R178, R283.) -/
def Obligations.EnginesCompleteOthers : Prop :=
  (∀ (id : Nat) (o : Op) (u v : State) (rows : List (List Byte)) (es : List (Nat × BitVec 512)) (lists : List (List
      (Nat × BitVec 512))) (out : List (Nat × List Byte)) (s : State), s.clocked = true →
    s.op? id = some o →
    o.desc.kind = 0x02 ∧ o.desc.variant = 8 →
    o.started = true →
    o.loopsDone = false →
    o.waits = [] →
    (s.tileStart id).readRows o.who 64 64 o.m o.desc.addrA [] = (u, .ok rows) →
    es = (List.range o.m).zip (rows.map (fun bs => BitVec.ofNat 512 (ofBytesLE bs))) →
    lists = (List.range 12).map (fun b => (bucketList es b).take (o.desc.strideC / 64)) →
    out = (((List.range 12).zip lists).flatMap (fun bl => ((List.range bl.2.length).zip bl.2).map (fun ie =>
        (o.desc.addrC + bl.1 * o.desc.strideC + 64 * ie.1, bytesLE 64 ie.2.2.toNat)))) ++
      ((List.range 13).zip (lists.map List.length ++ [o.m - (lists.map List.length).foldl (· + ·) 0])).map (fun bc =>
        (o.desc.addrD + 8 * bc.1, bytesLE 8 bc.2)) →
    u.writeMany o.who out = (v, .ok ()) →
    exec (.bucketSort id) s = .next (v.updOp id (fun _ =>
      { (o.tally o.desc.addrA (64 * o.m)).tallyPieces out with
        iter := 1, loopsDone := true, lines := [], cursor := 0 }))) ∧
  (∀ (id : Nat) (o : Op) (u : State) (r : FaultRec) (s : State), s.clocked = true →
    s.op? id = some o →
    o.desc.kind = 0x02 ∧ o.desc.variant = 8 →
    o.started = true →
    o.loopsDone = false →
    o.waits = [] →
    (s.tileStart id).readRows o.who 64 64 o.m o.desc.addrA [] = (u, .fault r) →
    exec (.bucketSort id) s = .next (u.killStart r none)) ∧
  (∀ (id : Nat) (o : Op) (u : State) (s : State), s.clocked = true →
    s.op? id = some o →
    o.desc.kind = 0x02 ∧ o.desc.variant = 8 →
    o.started = true →
    o.loopsDone = false →
    o.waits = [] →
    (s.tileStart id).readRows o.who 64 64 o.m o.desc.addrA [] = (u, .wait) →
    exec (.bucketSort id) s = .next u) ∧
  (∀ (id : Nat) (o : Op) (w : QueueWait) (ws : List QueueWait) (s : State), s.clocked = true →
    s.op? id = some o →
    o.desc.kind = 0x03 ∧ o.desc.pass ≠ 0 →
    o.started = true →
    o.loopsDone = false →
    o.waits = [] →
    o.attnPops = w :: ws →
    exec (.attentionBackward id) s = .next (s.updOp id (fun o => { o with waits := w :: ws }))) ∧
  (∀ (id : Nat) (o : Op) (o' : Op) (u : State) (s : State), s.clocked = true →
    s.op? id = some o →
    o.desc.kind = 0x03 →
    o.started = true →
    o.loopsDone = false →
    o.waits = [] →
    (o.desc.pass = 0 ∨ o.attnPops = []) →
    (if o.desc.pass = 0 then (s.tileStart id).prepTile o
      else if o.desc.pass = 1 then ((s.tileStart id).keyHandle o).2.dkvTile ((s.tileStart id).keyHandle o).1
      else ((s.tileStart id).keyHandle o).2.dqTile ((s.tileStart id).keyHandle o).1) = (u, .ok o') →
    exec (.attentionBackward id) s = .next (u.updOp id (fun _ => { o' with lines := [], cursor := 0 }))) ∧
  (∀ (id : Nat) (o : Op) (u : State) (r : FaultRec) (s : State), s.clocked = true →
    s.op? id = some o →
    o.desc.kind = 0x03 →
    o.started = true →
    o.loopsDone = false →
    o.waits = [] →
    (o.desc.pass = 0 ∨ o.attnPops = []) →
    (if o.desc.pass = 0 then (s.tileStart id).prepTile o
      else if o.desc.pass = 1 then ((s.tileStart id).keyHandle o).2.dkvTile ((s.tileStart id).keyHandle o).1
      else ((s.tileStart id).keyHandle o).2.dqTile ((s.tileStart id).keyHandle o).1) = (u, .fault r) →
    exec (.attentionBackward id) s = .next (u.killStart r none)) ∧
  (∀ (id : Nat) (o : Op) (u : State) (s : State), s.clocked = true →
    s.op? id = some o →
    o.desc.kind = 0x03 →
    o.started = true →
    o.loopsDone = false →
    o.waits = [] →
    (o.desc.pass = 0 ∨ o.attnPops = []) →
    (if o.desc.pass = 0 then (s.tileStart id).prepTile o
      else if o.desc.pass = 1 then ((s.tileStart id).keyHandle o).2.dkvTile ((s.tileStart id).keyHandle o).1
      else ((s.tileStart id).keyHandle o).2.dqTile ((s.tileStart id).keyHandle o).1) = (u, .wait) →
    exec (.attentionBackward id) s = .next u) ∧
  (∀ (id : Nat) (o : Op) (q : Commq) (s : State), s.clocked = true →
    s.op? id = some o →
    o.desc.kind = 7 →
    o.started = true →
    o.loopsDone = false →
    o.waits = [] →
    s.commq o.part (o.desc.param % 16) = some q →
    q.reds.length < 64 →
    exec (.reductionExplicit id) s = .next (((s.tileStart id).updCommq o.part (o.desc.param % 16) (fun q => q.enter {
        seq := 0, user := BitVec.ofNat 32 (fld o.desc 992 32), src := BitVec.ofNat 64 o.desc.addrA
        dst := BitVec.ofNat 64 o.desc.addrC, chaffDva := BitVec.ofNat 64 o.desc.addrD, len := o.m })).updOp id
        (fun _ => { o with loopsDone := true, lines := [], cursor := 0 }))) ∧
  (∀ (id : Nat) (o : Op) (q : Commq) (s : State), s.clocked = true →
    s.op? id = some o →
    o.desc.kind = 7 →
    o.started = true →
    o.loopsDone = false →
    o.waits = [] →
    s.commq o.part (o.desc.param % 16) = some q →
    64 ≤ q.reds.length →
    exec (.reductionExplicit id) s = .next (s.tileStart id)) ∧
  (∀ (id : Nat) (o : Op) (s : State), s.clocked = true →
    s.op? id = some o →
    o.desc.kind = 7 →
    o.started = true →
    o.loopsDone = false →
    o.waits = [] →
    s.commq o.part (o.desc.param % 16) = none →
    exec (.reductionExplicit id) s = .next (((s.tileStart id).updSeqp o.part (fun q =>
        { q with descErr := satAdd q.descErr 1 })).updOp id
        (fun _ => { o with loopsDone := true, lines := [], cursor := 0 }))) ∧
  (∀ (id : Nat) (o : Op) (bs : List Byte) (u : State) (s : State), s.clocked = true →
    s.op? id = some o →
    Op.isCopy 1 o = true →
    o.started = true →
    o.loopsDone = false →
    o.waits = [] →
    (s.tileStart id).readDva o.who (o.desc.addrA + 16 * o.iter) 16 = (u, .ok bs) →
    exec (.copyHandleLoad id) s = .next (u.updOp id (fun _ => {
      (o.tally (o.desc.addrA + 16 * o.iter) 16).spend (o.desc.tileCycles 0 0) with
        waits := if qUse o.desc.out then [.out (BitVec.ofNat 10 o.desc.out)
          { Handle.ofNat (ofBytesLE bs) with tag := BitVec.ofNat 10 (tagOf o.part o.ctx) } none] else []
        iter := o.iter + 1, loopsDone := decide (o.m ≤ o.iter + 1), lines := [], cursor := 0 }))) ∧
  (∀ (id : Nat) (o : Op) (u : State) (r : FaultRec) (s : State), s.clocked = true →
    s.op? id = some o →
    Op.isCopy 1 o = true →
    o.started = true →
    o.loopsDone = false →
    o.waits = [] →
    (s.tileStart id).readDva o.who (o.desc.addrA + 16 * o.iter) 16 = (u, .fault r) →
    exec (.copyHandleLoad id) s = .next (u.killStart r none)) ∧
  (∀ (id : Nat) (o : Op) (u : State) (s : State), s.clocked = true →
    s.op? id = some o →
    Op.isCopy 1 o = true →
    o.started = true →
    o.loopsDone = false →
    o.waits = [] →
    (s.tileStart id).readDva o.who (o.desc.addrA + 16 * o.iter) 16 = (u, .wait) →
    exec (.copyHandleLoad id) s = .next u) ∧
  (∀ (id : Nat) (o : Op) (bs : List Byte) (u : State) (s : State), s.clocked = true →
    s.op? id = some o →
    Op.isCopy 2 o = true →
    o.started = true →
    o.loopsDone = false →
    o.waits = [] →
    (s.tileStart id).readDva o.who o.desc.addrA 8 = (u, .ok bs) →
    exec (.copyBoundLoad id) s = .next (u.updOp id (fun _ => { o.tally o.desc.addrA 8 with
        params := [ofBytesLE bs], iter := o.iter + 1, loopsDone := true, lines := [], cursor := 0 }))) ∧
  (∀ (id : Nat) (o : Op) (u : State) (r : FaultRec) (s : State), s.clocked = true →
    s.op? id = some o →
    Op.isCopy 2 o = true →
    o.started = true →
    o.loopsDone = false →
    o.waits = [] →
    (s.tileStart id).readDva o.who o.desc.addrA 8 = (u, .fault r) →
    exec (.copyBoundLoad id) s = .next (u.killStart r none)) ∧
  (∀ (id : Nat) (o : Op) (u : State) (s : State), s.clocked = true →
    s.op? id = some o →
    Op.isCopy 2 o = true →
    o.started = true →
    o.loopsDone = false →
    o.waits = [] →
    (s.tileStart id).readDva o.who o.desc.addrA 8 = (u, .wait) →
    exec (.copyBoundLoad id) s = .next u) ∧
  (∀ (id : Nat) (o : Op) (s : State), s.clocked = true →
    s.op? id = some o →
    o.desc.kind = 0x0B →
    exec (.layerFence id) s = .next (s.updOp id (fun o => { o with loopsDone := true })))

/-- Hardware queues: a pop takes the handle at the head of a queue of the own partition, a push appends at the tail
while the queue holds fewer than its depth, an empty or full queue makes the operation wait, and a queue of
another partition kills the context. Of operations that wait to pop one queue the one issued first takes the
handle; of operations that wait to push to one queue the lower tiller, then the lower engine number, goes first.
(R151, R152.) -/
def Obligations.QueuesAreFifo : Prop :=
  (∀ (id : Nat) (o : Op) (ws : List QueueWait) (x : Handle) (t : List Handle) (s : State), s.clocked = true →
    s.op? id = some o →
    o.waits = .in0 :: ws →
    s.rowOwner (qRow o.desc.in0) = some o.part →
    (∀ y, y ∈ s.seq.ops → y.id < o.id → ∀ r, y.popRef = some r → qKey r = qKey o.desc.in0 →
      s.rowOwner (qRow r) ≠ some y.part) →
    s.queue (qKey o.desc.in0) = x :: t →
    exec (.handlePop id) s = .next ((s.setQueue o.part (qKey o.desc.in0) t).updOp id (Op.popped x)) ∧
      Op.popped x o = { o with h0 := some x, waits := ws }) ∧
  (∀ (id : Nat) (o : Op) (ws : List QueueWait) (x : Handle) (t : List Handle) (s : State), s.clocked = true →
    s.op? id = some o →
    o.waits = .in1 :: ws →
    s.rowOwner (qRow o.desc.in1) = some o.part →
    (∀ y, y ∈ s.seq.ops → y.id < o.id → ∀ r, y.popRef = some r → qKey r = qKey o.desc.in1 →
      s.rowOwner (qRow r) ≠ some y.part) →
    s.queue (qKey o.desc.in1) = x :: t →
    exec (.handlePop id) s = .next ((s.setQueue o.part (qKey o.desc.in1) t).updOp id (Op.popped x)) ∧
      Op.popped x o = { o with h1 := some x, waits := ws }) ∧
  (∀ (id : Nat) (o : Op) (ws : List QueueWait) (x : Handle) (t : List Handle) (s : State), s.clocked = true →
    s.op? id = some o →
    o.waits = .free :: ws →
    s.rowOwner (qRow o.desc.free) = some o.part →
    (∀ y, y ∈ s.seq.ops → y.id < o.id → ∀ r, y.popRef = some r → qKey r = qKey o.desc.free →
      s.rowOwner (qRow r) ≠ some y.part) →
    s.queue (qKey o.desc.free) = x :: t →
    exec (.handlePop id) s = .next ((s.setQueue o.part (qKey o.desc.free) t).updOp id (Op.popped x)) ∧
      Op.popped x o = { o with hc := some x, waits := ws }) ∧
  (∀ (id : Nat) (o : Op) (ref : Nat) (s : State), s.clocked = true →
    s.op? id = some o →
    o.popRef = some ref →
    s.rowOwner (qRow ref) = some o.part →
    s.queue (qKey ref) = [] →
    exec (.handlePop id) s = .next s) ∧
  (∀ (id : Nat) (o y : Op) (ref r : Nat) (s : State), s.clocked = true →
    s.op? id = some o →
    o.popRef = some ref →
    s.rowOwner (qRow ref) = some o.part →
    y ∈ s.seq.ops →
    y.id < o.id →
    y.popRef = some r →
    qKey r = qKey ref →
    s.rowOwner (qRow r) = some y.part →
    exec (.handlePop id) s = .next s) ∧
  (∀ (id : Nat) (o : Op) (ref : Nat) (s : State), s.clocked = true →
    s.op? id = some o →
    o.popRef = some ref →
    s.rowOwner (qRow ref) ≠ some o.part →
    exec (.handlePop id) s = .next (s.killStart (o.queueFault false) none)) ∧
  (∀ (id : Nat) (o : Op) (ref : Nat) (x : Handle) (s : State), s.clocked = true →
    s.op? id = some o →
    o.pushOf = some (ref, x) →
    s.rowOwner (qRow ref) = some o.part →
    (∀ y, y ∈ s.seq.ops → (y.pushRank < o.pushRank ∨ (y.pushRank = o.pushRank ∧ y.id < o.id)) → ∀ r h,
      y.pushOf = some (r, h) → qKey r = qKey ref → s.rowOwner (qRow r) ≠ some y.part) →
    (s.queue (qKey ref)).length < queueDepth →
    exec (.handlePush id) s = .next ((s.setQueue o.part (qKey ref) (s.queue (qKey ref) ++ [x])).updOp id
        (fun o => { o with waits := o.waits.drop 1 }))) ∧
  (∀ (id : Nat) (o : Op) (ref : Nat) (x : Handle) (s : State), s.clocked = true →
    s.op? id = some o →
    o.pushOf = some (ref, x) →
    s.rowOwner (qRow ref) = some o.part →
    queueDepth ≤ (s.queue (qKey ref)).length →
    exec (.handlePush id) s = .next s) ∧
  (∀ (id : Nat) (o y : Op) (ref r : Nat) (x h : Handle) (s : State), s.clocked = true →
    s.op? id = some o →
    o.pushOf = some (ref, x) →
    s.rowOwner (qRow ref) = some o.part →
    y ∈ s.seq.ops →
    (y.pushRank < o.pushRank ∨ (y.pushRank = o.pushRank ∧ y.id < o.id)) →
    y.pushOf = some (r, h) →
    qKey r = qKey ref →
    s.rowOwner (qRow r) = some y.part →
    exec (.handlePush id) s = .next s) ∧
  (∀ (id : Nat) (o : Op) (ref : Nat) (x : Handle) (s : State), s.clocked = true →
    s.op? id = some o →
    o.pushOf = some (ref, x) →
    s.rowOwner (qRow ref) ≠ some o.part →
    exec (.handlePush id) s = .next (s.killStart (o.queueFault true) none))

/-- OPERATION_RETIRE: an operation whose loops are done, whose pushes are made and whose cells have left retires;
its charge is settled against the measured energy, the sequencer slot is freed and its job counts it; a fence
retires with no older operation of its partition, and the partition's queues are emptied. A partition stalled
for 1,024 frames has its LIVE contexts with operations in flight killed. (R133, R153.) -/
def Obligations.OperationsRetire : Prop :=
  (∀ (id : Nat) (o : Op) (n : Nat × State) (s : State), s.clocked = true →
    s.op? id = some o →
    o.loopsDone = true →
    o.waits = [] →
    s.mayRetire o = true →
    n = s.takeFree →
    (o.desc.kind ≠ 0x0A ∨ o.desc.variant ≠ 2) →
    o.desc.kind ≠ 0x0B →
    exec (.operationRetire id) s = .next ((n.2.updPln (fun p =>
        { p with sends := p.sends.filter (fun x => x.1 != o.id) })).retireOp o
        (if o.desc.engines.isEmpty then 0 else measured s.pwr.hottest.toNat (Config.heldExtra n.1) o))) ∧
  (∀ (id : Nat) (o : Op) (n : Nat × State) (v : Nat) (vs : List Nat) (s : State), s.clocked = true →
    s.op? id = some o →
    o.loopsDone = true →
    o.waits = [] →
    s.mayRetire o = true →
    n = s.takeFree →
    o.desc.kind = 0x0A →
    o.desc.variant = 2 →
    o.params = v :: vs →
    exec (.operationRetire id) s = .next (((n.2.setBound o.part (o.desc.param % 64) (BitVec.ofNat 64 v)).updPln (fun p
        => { p with
        sends := p.sends.filter (fun x => x.1 != o.id) })).retireOp o
        (if o.desc.engines.isEmpty then 0 else measured s.pwr.hottest.toNat (Config.heldExtra n.1) o))) ∧
  (∀ (id : Nat) (o : Op) (n : Nat × State) (u : State) (s : State), s.clocked = true →
    s.op? id = some o →
    o.loopsDone = true →
    o.waits = [] →
    (∀ x, x ∈ s.seq.ops → x.part = o.part → o.id ≤ x.id) →
    n = s.takeFree →
    o.desc.kind = 0x0B →
    u = (n.2.updSeq (fun q => { q with queues := q.queues.filter (fun x => !n.2.ownsQueue o.part x.1) })).updSeqp o.part
      (fun q => { q with
        fenceLeft := satAdd q.fenceLeft (((n.2.seq.queues.filter (fun x => n.2.ownsQueue o.part x.1)).map (fun x =>
          x.2.length)).foldl (· + ·) 0)
        fenceHold := true }) →
    exec (.operationRetire id) s = .next ((u.updPln (fun p =>
        { p with sends := p.sends.filter (fun x => x.1 != o.id) })).retireOp o
        (if o.desc.engines.isEmpty then 0 else measured s.pwr.hottest.toNat (Config.heldExtra n.1) o))) ∧
  (∀ (id : Nat) (o : Op) (s : State), s.clocked = true →
    s.op? id = some o →
    (o.loopsDone = false ∨ o.waits ≠ [] ∨ s.mayRetire o = false) →
    exec (.operationRetire id) s = .next s) ∧
  (∀ (p : Fin 16) (s : State), s.clocked = true →
    (s.seqp p.val).stall.toNat < 1024 →
    exec (.stallWatchdog p) s = .next s) ∧
  (∀ (p : Fin 16) (c : Fin 64) (s : State), s.clocked = true →
    1024 ≤ (s.seqp p.val).stall.toNat →
    (∀ k, k < 64 → ((∃ o, o ∈ s.seq.ops ∧ o.part = p.val ∧ o.ctx = k) ↔ k = c.val)) →
    exec (.stallWatchdog p) s = .next (s.killCtx p.val c.val .watchdog))

/-- A kill of a LIVE context: the context becomes KILLING with its fault record and no other context changes; a
context that is not LIVE is left alone. A span's peer kill does the same with cause SPAN_PEER_KILLED, and a
notice of a span with no LIVE local member is only logged. A fault record of kind 0x09 or 0x0A marks the word that
failed. In the slack with no operation left a KILLING context becomes DEAD. A partition that faults becomes FAULTED
and its contexts are killed; one in TEARING_DOWN with every context free or dead gives up what it holds. (R124,
R126, R365, R367.) -/
def Obligations.KillsBeginAndEnd : Prop :=
  (∀ (r : FaultRec) (s : State), s.clocked = true →
    (s.ctx (r.tag.toNat / 64) (r.tag.toNat % 64)).state = .live →
    ∃ t, exec (.killStart r) s = .next t ∧
      (t.ctx (r.tag.toNat / 64) (r.tag.toNat % 64)).core = killRecord r none s ∧
      ∀ p c, tagOf p c ≠ tagOf (r.tag.toNat / 64) (r.tag.toNat % 64) → (t.ctx p c).core = (s.ctx p c).core) ∧
  (∀ (r : FaultRec) (s : State), s.clocked = true →
    r.kind ≠ 0x09 →
    r.kind ≠ 0x0A →
    (s.ctx (r.tag.toNat / 64) (r.tag.toNat % 64)).state ≠ .live →
    exec (.killStart r) s = .next s) ∧
  (∀ (r : FaultRec) (s : State), s.clocked = true →
    (r.kind = 0x09 ∨ r.kind = 0x0A) →
    (s.ctx (r.tag.toNat / 64) (r.tag.toNat % 64)).state ≠ .live →
    s.choeskPlace (r.tag.toNat / 64) (r.tag.toNat % 64) false r.dva.toNat = none →
    exec (.killStart r) s = .next s) ∧
  (∀ (r : FaultRec) (ppn off : Nat) (s : State), s.clocked = true →
    (r.kind = 0x09 ∨ r.kind = 0x0A) →
    (s.ctx (r.tag.toNat / 64) (r.tag.toNat % 64)).state ≠ .live →
    s.choeskPlace (r.tag.toNat / 64) (r.tag.toNat % 64) false r.dva.toNat = some (.dev ppn off) →
    exec (.killStart r) s = .next (s.updXlt (fun x => { x with
      ecc := x.ecc ++ [(false, (Phys.dev ppn off).addr / 8, true)]
      own := x.own.upd {} ppn (fun o => { o with ue := true }) }))) ∧
  (∀ (frame : FrameNo) (cause : BitVec 16) (origin : BitVec 7) (tag : BitVec 10) (span : BitVec 16) (x : Span) (s :
      State), s.clocked = true → s.mgt.act ≠ .restoring →
    s.span? span = some x →
    (s.ctx x.part x.ctx).state = .live →
    exec (.killNoticeReceive frame cause origin tag span) s = .next ((s.killStart
        { tag := BitVec.ofNat 10 (tagOf x.part x.ctx), cause := .spanPeerKilled } (some (origin, tag))).spanDie span))
        ∧
  (∀ (frame : FrameNo) (cause : BitVec 16) (origin : BitVec 7) (tag : BitVec 10) (span : BitVec 16) (s : State),
      s.clocked = true → s.mgt.act ≠ .restoring →
    (∀ x, s.span? span = some x → (s.ctx x.part x.ctx).state ≠ .live) →
    exec (.killNoticeReceive frame cause origin tag span) s = .next (s.log 0x0303 [(0, span.toNat), (16,
        origin.toNat), (23, tag.toNat), (33, cause.toNat)])) ∧
  (∀ (p : Fin 16) (c : Fin 64) (s : State), s.clocked = true →
    (s.ctx p.val c.val).state = .killing →
    s.frm.phase = .slack →
    (∀ o, o ∈ s.seq.ops → ¬ (o.part = p.val ∧ o.ctx = c.val)) →
    ∃ t, exec (.killComplete p c) s = .next t ∧
      (t.ctx p.val c.val).state = .dead ∧ (t.ctx p.val c.val).killers = [] ∧ t.frm = s.frm ∧
      ∀ q d, tagOf q d ≠ tagOf p.val c.val → t.ctx q d = s.ctx q d) ∧
  (∀ (p : Fin 16) (c : Fin 64) (s : State), s.clocked = true →
    ((s.ctx p.val c.val).state ≠ .killing ∨ s.frm.phase ≠ .slack) →
    exec (.killComplete p c) s = .next s) ∧
  (∀ (p : Fin 16) (code : BitVec 8) (s : State), s.clocked = true →
    (s.part p.val).state ≠ .absent →
    (s.part p.val).state ≠ .faulted →
    (s.part p.val).state ≠ .tearingDown →
    ∃ t, exec (.partitionFault p code) s = .next t ∧
      t = ((((((s.refuseWaiting p.val).updPart p.val (fun x => { x with fault := code })).setPart p.val
          .faulted).killAll p.val
        .watchdog).logEvent 0x0901 .none (some (p.val, 0)) [(0, code.toNat)]))) ∧
  (∀ (p : Fin 16) (code : BitVec 8) (s : State), s.clocked = true →
    ((s.part p.val).state = .absent ∨ (s.part p.val).state = .faulted ∨ (s.part p.val).state = .tearingDown) →
    exec (.partitionFault p code) s = .next s) ∧
  (∀ (p : Fin 16) (u : State) (s : State), s.clocked = true →
    (s.part p.val).state = .tearingDown →
    (s.part p.val).released = false →
    (∀ c, c < 64 → (s.ctx p.val c).state = .free ∨ (s.ctx p.val c).state = .dead) →
    (∀ h, h ∈ s.xlt.shoots → ∀ ppns, h.next ≠ .teardown p.val ppns) →
    u = (State.updRed (fun r => { r with
      groups := r.groups.filter (fun g => g.part != p.val)
      queues := r.queues.filter (fun q => q.part != p.val) })
        { s.finishAll (s.waitingOf p.val) .killed .hostKill [] with kv := s.kv.put p.val none }) →
    exec (.teardownRelease p) s = .next (((u.unmapVpns p.val (u.mappedVpns p.val)).unmapWins p.val (u.mappedWins
        p.val)).shootdown p.val (u.mappedVpns p.val)
        (u.mappedWins p.val) (.teardown p.val ((u.mappedVpns p.val).map (fun v => (u.dpte p.val v).ppn.toNat) ++
          ((s.kv.get none p.val).map (fun (k : KvPool) => k.priv)).getD [])))) ∧
  (∀ (p : Fin 16) (s : State), s.clocked = true →
    ((s.part p.val).state ≠ .tearingDown ∨ (s.part p.val).released = true ∨
      (∃ c, c < 64 ∧ (s.ctx p.val c).state ≠ .free ∧ (s.ctx p.val c).state ≠ .dead) ∨
      (∃ h, h ∈ s.xlt.shoots ∧ ∃ ppns, h.next = .teardown p.val ppns)) →
    exec (.teardownRelease p) s = .next s)

/-- Host translations and pages: a completion fills the die's cache with 1 GiB of the window's page, or kills with
TRANSLATION_FAULT or ATS_SIZE (one for the fetch of a descriptor makes that descriptor malformed instead); an
Invalidate Request drops the entries it covers, and until it completes a completion that comes is discarded and its
request sent again; an acknowledged shootdown finishes what waited for it; a scrubbed page reads 0 and is free again. (R114, R120,
R121, R129.) -/
def Obligations.TranslationsAndPages : Prop :=
  (∀ (p : Fin 16) (req : Nat) (ok whole : Bool) (base : W64) (read write : Bool) (r : XlReq) (s : State), s.pcieAlive = true →
    s.xlt.reqs.find? (fun r => r.id == req && r.part == p.val) = some r →
    s.invalCovers r.part r.win = false →
    ok = true →
    (read = true ∨ write = true) →
    whole = true →
    exec (.translationCompletionReceive p req ok whole base read write) s = .next ((s.updXlt (fun x =>
        { x with reqs := x.reqs.erase r })).fill r.die {
        part := r.part, host := true, num := r.win, base := base.toNat / 2 ^ 30 * 2 ^ 30, read := read
        write := write && (s.hwin r.part r.win).write, any := (s.hwin r.part r.win).any, ctx := (s.hwin r.part r.win).ctx
        ats := true })) ∧
  (∀ (p : Fin 16) (req : Nat) (ok whole : Bool) (base : W64) (read write : Bool) (r : XlReq) (s : State), s.pcieAlive = true →
    s.xlt.reqs.find? (fun r => r.id == req && r.part == p.val) = some r →
    s.invalCovers r.part r.win = false →
    r.fetch = none →
    (ok = false ∨ (read = false ∧ write = false)) →
    exec (.translationCompletionReceive p req ok whole base read write) s = .next ((s.updXlt (fun x =>
        { x with reqs := x.reqs.erase r })).killStart
        ({ die := r.die, tag := r.tag, ticket := r.ticket, slot := r.slot : Who }.fault .translationFault 0x06 r.write
          r.dva.toNat r.win) none)) ∧
  (∀ (p : Fin 16) (req : Nat) (base : W64) (read write : Bool) (r : XlReq) (s : State), s.pcieAlive = true →
    s.xlt.reqs.find? (fun r => r.id == req && r.part == p.val) = some r →
    s.invalCovers r.part r.win = false →
    r.fetch = none →
    (read = true ∨ write = true) →
    exec (.translationCompletionReceive p req true false base read write) s = .next ((s.updXlt (fun x =>
        { x with reqs := x.reqs.erase r })).killStart
        ({ die := r.die, tag := r.tag, ticket := r.ticket, slot := r.slot : Who }.fault .atsSize 0x07 r.write
          r.dva.toNat r.win) none)) ∧
  (∀ (p : Fin 16) (req : Nat) (ok whole : Bool) (base : W64) (read write : Bool) (r : XlReq) (f : Nat × Nat) (s : State),
      s.pcieAlive = true →
    s.xlt.reqs.find? (fun r => r.id == req && r.part == p.val) = some r →
    s.invalCovers r.part r.win = false →
    r.fetch = some f →
    (ok = false ∨ (read = false ∧ write = false) ∨ whole = false) →
    exec (.translationCompletionReceive p req ok whole base read write) s = .next ((s.updXlt (fun x =>
        { x with reqs := x.reqs.erase r })).noteFetched f.1 f.2 0)) ∧
  (∀ (p : Fin 16) (req : Nat) (ok whole : Bool) (base : W64) (read write : Bool) (r : XlReq) (s : State), s.pcieAlive = true →
    s.xlt.reqs.find? (fun r => r.id == req && r.part == p.val) = some r →
    s.invalCovers r.part r.win = true →
    exec (.translationCompletionReceive p req ok whole base read write) s = .next (s.emit (.atsRequest (r.part + 1)
        r.win r.id))) ∧
  (∀ (p : Fin 16) (req : Nat) (ok whole : Bool) (base : W64) (read write : Bool) (s : State), s.pcieAlive = true →
    (∀ r, r ∈ s.xlt.reqs → r.id ≠ req ∨ r.part ≠ p.val) →
    exec (.translationCompletionReceive p req ok whole base read write) s = .next s) ∧
  (∀ (fn : Fin 17) (tag : Fin 32) (base len : W64) (u : State) (s : State), s.pcieAlive = true →
    s.xlt.invals.any (fun i => i.1 == tag.val && i.2.1 == fn.val) = false →
    s.xlt.invals.length < 32 →
    fn.val ≠ 0 →
    u = s.updXlt (fun x => { x with invals := x.invals ++ [(tag.val, fn.val, base.toNat, len.toNat)] }) →
    exec (.invalidateRequestReceive fn tag base len) s = .next (u.updXlt (fun x => { x with
      caches := x.caches.map (fun dc => (dc.1, dc.2.filter (fun e => !(e.part == fn.val - 1 && e.host &&
        ((u.mappedWins (fn.val - 1)).filter (fun w => u.invalCovers (fn.val - 1) w)).contains e.num)))) }))) ∧
  (∀ (tag : Fin 32) (base len : W64) (s : State), s.pcieAlive = true →
    s.xlt.invals.any (fun i => i.1 == tag.val && i.2.1 == 0) = false →
    s.xlt.invals.length < 32 →
    exec (.invalidateRequestReceive 0 tag base len) s = .next (s.updXlt (fun x =>
      { x with invals := x.invals ++ [(tag.val, 0, base.toNat, len.toNat)] }))) ∧
  (∀ (fn : Fin 17) (tag : Fin 32) (s : State), s.pcieAlive = true →
    s.xlt.invals.any (fun i => i.1 == tag.val && i.2.1 == fn.val) = true →
    exec (.invalidationComplete (fn, tag)) s = .next ((s.updXlt (fun x => { x with
      invals := x.invals.filter (fun i => !(i.1 == tag.val && i.2.1 == fn.val))
      regs := x.regs.mapRow {} 2 (fun _ r => { r with invalHost := r.invalHost + 1 }) })).emit
        (.invalDone fn.val tag.val))) ∧
  (∀ (fn : Fin 17) (tag : Fin 32) (u : State) (s : State), s.clocked = true →
    s.pcie.refclk = false →
    s.xlt.invals.any (fun i => i.1 == tag.val && i.2.1 == fn.val) = true →
    u = s.updXlt (fun x => { x with
      invals := x.invals.filter (fun i => !(i.1 == tag.val && i.2.1 == fn.val))
      regs := x.regs.mapRow {} 2 (fun _ r => { r with invalHost := r.invalHost + 1 }) }) →
    exec (.invalidationComplete (fn, tag)) s = .next { u with pcie := { u.pcie with held := u.pcie.held ++
      [.invalDone fn.val tag.val] } }) ∧
  (∀ (fn : Fin 17) (tag : Fin 32) (s : State), s.clocked = true →
    s.xlt.invals.any (fun i => i.1 == tag.val && i.2.1 == fn.val) = false →
    exec (.invalidationComplete (fn, tag)) s = .next s) ∧
  (∀ (id : Nat) (x : Shoot) (cmd : CmdId) (u : State) (s : State), s.clocked = true →
    s.xlt.shoots.find? (fun x => x.id == id) = some x →
    u = s.updXlt (fun x => { x with
      shoots := x.shoots.filter (fun y => y.id != id)
      regs := x.regs.mapRow {} 2 (fun _ r => { r with invalChoesk := r.invalChoesk + 1 }) }) →
    x.next = .unmap cmd →
    exec (.shootdownAcknowledge id) s = .next (u.finish cmd .done .none [])) ∧
  (∀ (id : Nat) (x : Shoot) (cmd : CmdId) (ppns : List Nat) (u : State) (s : State), s.clocked = true →
    s.xlt.shoots.find? (fun x => x.id == id) = some x →
    u = s.updXlt (fun x => { x with
      shoots := x.shoots.filter (fun y => y.id != id)
      regs := x.regs.mapRow {} 2 (fun _ r => { r with invalChoesk := r.invalChoesk + 1 }) }) →
    x.next = .memFree cmd ppns →
    exec (.shootdownAcknowledge id) s = .next ((u.releasePages ppns).finish cmd .done .none [])) ∧
  (∀ (id : Nat) (x : Shoot) (p : Nat) (ppns : List Nat) (u : State) (s : State), s.clocked = true →
    s.xlt.shoots.find? (fun x => x.id == id) = some x →
    u = s.updXlt (fun x => { x with
      shoots := x.shoots.filter (fun y => y.id != id)
      regs := x.regs.mapRow {} 2 (fun _ r => { r with invalChoesk := r.invalChoesk + 1 }) }) →
    x.next = .teardown p ppns →
    exec (.shootdownAcknowledge id) s = .next (u.releasePartition p ppns)) ∧
  (∀ (id : Nat) (x : Shoot) (cmd : CmdId) (p c : Nat) (ppns : List Nat) (u : State) (s : State), s.clocked = true →
    s.xlt.shoots.find? (fun x => x.id == id) = some x →
    u = s.updXlt (fun x => { x with
      shoots := x.shoots.filter (fun y => y.id != id)
      regs := x.regs.mapRow {} 2 (fun _ r => { r with invalChoesk := r.invalChoesk + 1 }) }) →
    x.next = .destroy cmd p c ppns →
    exec (.shootdownAcknowledge id) s = .next ((u.freeCtx p c ppns).finish cmd .done .none [])) ∧
  (∀ (id : Nat) (x : Shoot) (cmd : CmdId) (ws : List W64) (u : State) (s : State), s.clocked = true →
    s.xlt.shoots.find? (fun x => x.id == id) = some x →
    u = s.updXlt (fun x => { x with
      shoots := x.shoots.filter (fun y => y.id != id)
      regs := x.regs.mapRow {} 2 (fun _ r => { r with invalChoesk := r.invalChoesk + 1 }) }) →
    x.next = .adopt cmd ws →
    exec (.shootdownAcknowledge id) s = .next (u.finish cmd .done .none ws)) ∧
  (∀ (id : Nat) (x : Shoot) (u : State) (s : State), s.clocked = true →
    s.xlt.shoots.find? (fun x => x.id == id) = some x →
    u = s.updXlt (fun x => { x with
      shoots := x.shoots.filter (fun y => y.id != id)
      regs := x.regs.mapRow {} 2 (fun _ r => { r with invalChoesk := r.invalChoesk + 1 }) }) →
    x.next = .nothing →
    exec (.shootdownAcknowledge id) s = .next u) ∧
  (∀ (id : Nat) (s : State), s.clocked = true →
    (∀ x, x ∈ s.xlt.shoots → x.id ≠ id) →
    exec (.shootdownAcknowledge id) s = .next s) ∧
  (∀ (ppn : Fin 384) (s : State), s.clocked = true →
    s.xlt.scrubs.find? (fun k => k % 8 == ppn.val % 8) = some ppn.val →
    ∃ t, exec (.pageScrubComplete ppn) s = .next t ∧
      t.xlt.own.get {} ppn.val = {} ∧ t.xlt.scrubs = s.xlt.scrubs.erase ppn.val ∧
      (∀ a, a / 2 ^ 29 = ppn.val → t.dram.read a = 0) ∧ (∀ a, a / 2 ^ 29 ≠ ppn.val → t.dram.read a = s.dram.read a) ∧
      t.ten = s.ten ∧ t.spad = s.spad) ∧
  (∀ (ppn : Fin 384) (s : State), s.clocked = true →
    s.xlt.scrubs.find? (fun k => k % 8 == ppn.val % 8) ≠ some ppn.val →
    exec (.pageScrubComplete ppn) s = .next s)

/-- The life of a span: the creator enters a member that joins and, with the last, makes the span ACTIVE everywhere;
a join for a span that is unknown is refused; a span that is FORMING for 1,024 frames fails; SPAN_END ends
membership at the next commit; a dead span kills its context here and is acknowledged; the lead repeats
SPAN_DEAD to those who did not answer for 1,024 frames. (R370, R372, R373.) -/
def Obligations.SpanEventsComplete : Prop :=
  (∀ (span : BitVec 16) (pkg : Fin 128) (shares : BitVec 32) (x : Span) (s : State), s.clocked = true → s.mgt.act ≠
      .restoring →
    s.span? span = some x →
    x.creator = s.self →
    pkg.val ∈ x.ring →
    pkg.val ∉ x.joined →
    x.state = .forming →
    x.joined.length + 1 < x.ring.length →
    exec (.joinFlitReceive span pkg shares) s = .next ((s.updSpan span (fun y =>
        { y with joined := x.joined ++ [pkg.val] })).updLead span (fun l => { l with
        shares := l.shares ++ [(pkg.val, shares)] }))) ∧
  (∀ (span : BitVec 16) (pkg : Fin 128) (shares : BitVec 32) (x : Span) (u : State) (s : State), s.clocked = true →
      s.mgt.act ≠ .restoring →
    s.span? span = some x →
    x.creator = s.self →
    pkg.val ∈ x.ring →
    pkg.val ∉ x.joined →
    x.state = .forming →
    x.ring.length ≤ x.joined.length + 1 →
    u = (s.updSpan span (fun y => { y with joined := x.joined ++ [pkg.val] })).updLead span (fun l => { l with
        shares := l.shares ++ [(pkg.val, shares)] }) →
    exec (.joinFlitReceive span pkg shares) s = .next ((u.sendAll (x.ring.filter (fun k => k != s.self)) (.spanActive
        span x.ring s.self)).spanBecomesActive span x.ring)) ∧
  (∀ (span : BitVec 16) (pkg : Fin 128) (shares : BitVec 32) (s : State), s.clocked = true → s.mgt.act ≠ .restoring →
    s.span? span = none →
    exec (.joinFlitReceive span pkg shares) s = .next (s.send pkg.val (.spanRefuse span .badHandle 0))) ∧
  (∀ (span : BitVec 16) (pkg : Fin 128) (shares : BitVec 32) (x : Span) (s : State), s.clocked = true → s.mgt.act ≠
      .restoring →
    s.span? span = some x →
    x.creator = s.self →
    pkg.val ∈ x.ring →
    pkg.val ∉ x.joined →
    x.state ≠ .forming →
    exec (.joinFlitReceive span pkg shares) s = .next (s.send pkg.val (.spanRefuse span .badState 0))) ∧
  (∀ (span : BitVec 16) (ring : List Nat) (x : Span) (s : State), s.clocked = true → s.mgt.act ≠ .restoring →
    s.span? span = some x →
    s.self ∈ ring →
    x.state = .forming →
    exec (.spanActiveReceive span ring) s = .next (s.spanBecomesActive span ring)) ∧
  (∀ (span : BitVec 16) (ring : List Nat) (x : Span) (s : State), s.clocked = true → s.mgt.act ≠ .restoring →
    s.span? span = some x →
    s.self ∈ ring →
    x.state ≠ .forming →
    exec (.spanActiveReceive span ring) s = .next (s.updSpan span (fun x =>
        { x with ring := x.ring.filter ring.contains }))) ∧
  (∀ (span : BitVec 16) (x : Span) (s : State), s.clocked = true →
    s.span? span = some x →
    x.state = .forming →
    1024 ≤ x.frames →
    x.creator ≠ s.self →
    exec (.spanFormingTimeout span) s = .next (s.takeFree.2.spanFails span .badState (Config.notJoined s.takeFree.1 %
        128))) ∧
  (∀ (span : BitVec 16) (x : Span) (s : State), s.clocked = true →
    s.span? span = some x →
    x.state = .forming →
    1024 ≤ x.frames →
    x.creator = s.self →
    exec (.spanFormingTimeout span) s = .next ((s.takeFree.2.sendAll (x.joined.filter (fun k => k != s.self))
        (.spanRefuse span .badState (x.ring.length - x.joined.length))).spanFails
        span .badState (x.ring.length - x.joined.length))) ∧
  (∀ (span : BitVec 16) (x : Span) (s : State), s.clocked = true →
    s.span? span = some x →
    (x.state ≠ .forming ∨ x.frames < 1024) →
    exec (.spanFormingTimeout span) s = .next s) ∧
  (∀ (span : BitVec 16) (s : State), s.clocked = true → s.mgt.act ≠ .restoring →
    exec (.spanEndReceive span) s = .next (s.updSpan span (fun x => { x with leaving := true }))) ∧
  (∀ (span : BitVec 16) (pkg : Fin 128) (x : Span) (s : State), s.clocked = true → s.mgt.act ≠ .restoring →
    s.span? span = some x →
    exec (.spanDeadReceive span pkg) s = .next (((s.killStart
        { tag := BitVec.ofNat 10 (tagOf x.part x.ctx), cause := .spanPeerKilled } (some (BitVec.ofNat 7 pkg.val,
        0))).updSpan
        span (fun x => { x with state := .dead })).send pkg.val (.spanDeadAck span (s.killStart {
          tag := BitVec.ofNat 10 (tagOf x.part x.ctx), cause := .spanPeerKilled } (some (BitVec.ofNat 7 pkg.val, 0))).self))) ∧
  (∀ (span : BitVec 16) (acked : List Nat) (x : Span) (rest : List Nat) (s : State), s.clocked = true →
    s.span? span = some x →
    rest = x.unacked.filter (fun k => !acked.contains k) →
    x.state = .dead →
    x.lead = s.self →
    1024 ≤ x.deadFrames →
    rest ≠ [] →
    exec (.spanDeadResend span acked) s = .next (((s.updSpan span (fun x => { x with unacked := rest })).updSpan span
        (fun x => { x with deadFrames := 0 })).sendAll rest
        (.spanDead span))) ∧
  (∀ (span : BitVec 16) (acked : List Nat) (x : Span) (s : State), s.clocked = true →
    s.span? span = some x →
    x.unacked.filter (fun k => !acked.contains k) = [] →
    exec (.spanDeadResend span acked) s = .next (s.updSpan span (fun x => { x with unacked := [] })))

/-- Groups of reductions: readies are collected, early ones kept; ACTIVE answers GROUP.DEFINE; a definition that is
not ready in 1,024 frames ends; a lost member opens a round of repair; the announced round sets the frame of the
restart; 64 frames without one fail the group and end its reductions; at the restart's frame the round begins
and a reduction restarted for the third time kills the group's contexts on every member. The count of members not
ready that a member other than the coordinator gives is a free value within the member count (log entry 133).
(R268, R293, R294, R295.) -/
def Obligations.GroupEventsComplete : Prop :=
  (∀ (span : BitVec 16) (num : BitVec 8) (pkg : Fin 128) (crc : BitVec 32) (s : State), s.clocked = true → s.mgt.act ≠
      .restoring →
    s.groupOf span num.toNat = none →
    exec (.groupReadyReceive span num pkg crc) s = .next (s.updRed (fun r =>
        { r with early := r.early ++ [(span, num.toNat, pkg.val, crc)] }))) ∧
  (∀ (span : BitVec 16) (num : BitVec 8) (pkg : Fin 128) (crc : BitVec 32) (g k : Group) (s : State), s.clocked = true
      → s.mgt.act ≠ .restoring →
    s.groupOf span num.toNat = some g →
    k = { g with readies := g.readies.filter (fun x => x.1 != pkg.val) ++ [(pkg.val, crc)] } →
    exec (.groupReadyReceive span num pkg crc) s = .next ((s.updGroup g.index (fun _ => k)).checkReady k)) ∧
  (∀ (span : BitVec 16) (num : BitVec 8) (g : Group) (u : State) (s : State), s.clocked = true → s.mgt.act ≠
      .restoring →
    s.groupOf span num.toNat = some g →
    g.state = .defining →
    u = s.updGroup g.index (fun x => { x with
      state := if g.lost.filter (fun l => l.1 == g.rank) = [] then .active else .degraded
      cmd := none, readies := [], lost := g.lost.filter (fun l => l.1 == g.rank) }) →
    exec (.groupActiveReceive span num) s = .next (g.lost.foldl (fun t l => match t.group? g.index with
      | some y => t.memberLost y l.1 l.2
      | none => t) (u.finishAll g.cmd.toList .done .none (u.groupWords g)))) ∧
  (∀ (span : BitVec 16) (num : BitVec 8) (g : Group) (s : State), s.clocked = true → s.mgt.act ≠ .restoring →
    s.groupOf span num.toNat = some g →
    g.state ≠ .defining →
    exec (.groupActiveReceive span num) s = .next s) ∧
  (∀ (index : BitVec 8) (g : Group) (s : State), s.clocked = true →
    s.group? index.toNat = some g →
    g.state = .defining →
    1024 ≤ g.frames →
    g.coordinator = s.self →
    exec (.groupDefineTimeout index) s = .next (s.takeFree.2.failDefine g .badCommand .badState [word [(0,
        g.members.length - g.readies.length)]])) ∧
  (∀ (index : BitVec 8) (g : Group) (s : State), s.clocked = true →
    s.group? index.toNat = some g →
    g.state = .defining →
    1024 ≤ g.frames →
    g.coordinator ≠ s.self →
    exec (.groupDefineTimeout index) s = .next (s.takeFree.2.failDefine g .badCommand .badState [word [(0,
        b2n (!g.ready) + Config.notReady s.takeFree.1 % g.members.length)]])) ∧
  (∀ (index : BitVec 8) (g : Group) (s : State), s.clocked = true →
    s.group? index.toNat = some g →
    (g.state ≠ .defining ∨ g.frames < 1024) →
    exec (.groupDefineTimeout index) s = .next s) ∧
  (∀ (span : BitVec 16) (num : BitVec 8) (pkg : Fin 128) (killed : Bool) (g : Group) (r : Nat) (s : State), s.clocked
      = true → s.mgt.act ≠ .restoring →
    s.groupOf span num.toNat = some g →
    g.rankOf pkg.val = some r →
    exec (.groupLossReceive span num pkg killed) s = .next (s.memberLost g r killed)) ∧
  (∀ (span : BitVec 16) (num : BitVec 8) (round : BitVec 4) (lost : List (Nat × Bool)) (restart : FrameNo) (g : Group)
      (s : State), s.clocked = true → s.mgt.act ≠ .restoring →
    s.groupOf span num.toNat = some g →
    (g.state = .active ∨ g.state = .degraded) →
    exec (.repairAnnounceReceive span num round lost restart) s = .next (s.updGroup g.index (fun x => { x with
        lost := lost, state := if lost.isEmpty then x.state else .degraded, repair := none, readies := []
        restart := some (restart, round) }))) ∧
  (∀ (index : BitVec 8) (g : Group) (n : Nat) (s : State), s.clocked = true →
    s.group? index.toNat = some g →
    g.repair = some n →
    64 ≤ n →
    exec (.groupRepairTimeout index) s = .next ((s.updGroup g.index (fun x =>
        { x with state := .failed, repair := none })).endReductions g .memberLost g.lostReason)) ∧
  (∀ (index : BitVec 8) (g : Group) (f : FrameNo) (round : BitVec 4) (u : State) (s : State), s.clocked = true →
    s.group? index.toNat = some g →
    g.restart = some (f, round) →
    later f s.frm.count = false →
    g.running = true →
    u = s.updGroup g.index (fun x => { x with
        restart := none, round := round, killed := x.lost.any (fun l => l.1 == x.rank) }) →
    (∀ x, x ∈ ((u.queueOf g).map (·.reds)).getD [] → x.started.isSome = true → x.outcome = none → x.restarts < 2) →
    exec (.reductionRestart index) s = .next ((u.rewind g g.base).updRed (fun r => { r with
            queues := r.queues.map (fun q => if q.group == g.index then
              { q with
                reds := q.reds.map (fun (x : Reduction) => if x.started.isSome && x.outcome.isNone then
                  { x with restarts := x.restarts + 1 } else x) } else q) }))) ∧
  (∀ (index : BitVec 8) (g : Group) (f : FrameNo) (round : BitVec 4) (u : State) (x : Reduction) (s : State),
      s.clocked = true →
    s.group? index.toNat = some g →
    g.restart = some (f, round) →
    later f s.frm.count = false →
    g.running = true →
    u = s.updGroup g.index (fun x => { x with
        restart := none, round := round, killed := x.lost.any (fun l => l.1 == x.rank) }) →
    x ∈ ((u.queueOf g).map (·.reds)).getD [] →
    x.started.isSome = true →
    x.outcome = none →
    2 ≤ x.restarts →
    exec (.reductionRestart index) s = .next ((u.sendAll ((g.order.map (fun r => g.pkg r)).filter (fun k =>
        k != u.self)) (.groupWatchdog g.span g.num)).killCtx g.part g.ctx .watchdog)) ∧
  (∀ (index : BitVec 8) (g : Group) (s : State), s.clocked = true →
    s.group? index.toNat = some g →
    (g.restart = none ∨ g.running = false ∨ ∃ f round, g.restart = some (f, round) ∧ later f s.frm.count = true) →
    exec (.reductionRestart index) s = .next s)

/-- Chunks of a reduction: an image of the group's round from a rank that sends to this one is kept, any other is
dropped, and one whose residue is bad asks for a restart; the intake reads the next chunk of the reduction in
turn from its source and holds it; a staging buffer of a fused operation that is full is taken. (R281, R282,
R288.) -/
def Obligations.ReductionDataComplete : Prop :=
  (∀ (span : BitVec 16) (img i : Image) (g : Group) (r : Nat) (s : State), s.clocked = true →
    s.groupOf span img.group = some g →
    i = { img with group := g.index, seq := g.fullSeq img.seq } →
    i.round = g.round →
    g.rankOf i.sender = some r →
    r ∈ g.order →
    (∃ q, q ∈ g.targets (g.treeOf i.seq i.chunk) ∧ g.rankAt (g.treeOf i.seq i.chunk) q = r) →
    (g.checked = false ∨ i.exp = true ∨ i.residueBad = false) →
    g.base ≤ i.seq →
    exec (.chunkImageReceive span img) s = .next (s.updRed (fun r => { r with images := r.images ++ [i] }))) ∧
  (∀ (span : BitVec 16) (img : Image) (g : Group) (s : State), s.clocked = true →
    s.groupOf span img.group = some g →
    img.round ≠ g.round →
    exec (.chunkImageReceive span img) s = .next s) ∧
  (∀ (span : BitVec 16) (img : Image) (g : Group) (s : State), s.clocked = true →
    s.groupOf span img.group = some g →
    g.rankOf img.sender = none →
    exec (.chunkImageReceive span img) s = .next s) ∧
  (∀ (span : BitVec 16) (img i : Image) (g : Group) (r : Nat) (s : State), s.clocked = true →
    s.groupOf span img.group = some g →
    i = { img with group := g.index, seq := g.fullSeq img.seq } →
    i.round = g.round →
    g.rankOf i.sender = some r →
    r ∈ g.order →
    (∃ q, q ∈ g.targets (g.treeOf i.seq i.chunk) ∧ g.rankAt (g.treeOf i.seq i.chunk) q = r) →
    g.checked = true →
    i.exp = false →
    i.residueBad = true →
    exec (.chunkImageReceive span img) s = .next ((s.mismatchOn (s.engineOf g (g.treeOf i.seq i.chunk))).askRestart g))
    ∧
  (∀ (p q : Fin 16) (x : Commq) (g : Group) (r : Reduction) (e a n size : Nat) (u : State) (bs : List Byte) (s :
      State), s.clocked = true →
    s.commq p.val q.val = some x →
    s.group? x.group = some g →
    g.running = true →
    x.nextIn g.chunks = some r →
    s.sourceReady r = true →
    x.mayStart r = true →
    s.intakeEngine g r = some e →
    a = r.taken * chunkSize →
    n = min (min (s.lengthOf r) g.cap) (a + chunkSize) - a →
    size = (if g.bf16In && r.fused.isNone then 2 else 4) →
    s.readRuns (g.who e) size (if n = 0 then [] else r.srcRuns size a n) [] = (u, .ok bs) →
    exec (.chunkIntake p q) s = .next (u.hold g r (chunkWords (g.bf16In && r.fused.isNone) bs))) ∧
  (∀ (p q : Fin 16) (x : Commq) (g : Group) (r : Reduction) (e a n size : Nat) (u : State) (f : FaultRec) (s :
      State), s.clocked = true →
    s.commq p.val q.val = some x →
    s.group? x.group = some g →
    g.running = true →
    x.nextIn g.chunks = some r →
    s.sourceReady r = true →
    x.mayStart r = true →
    s.intakeEngine g r = some e →
    a = r.taken * chunkSize →
    n = min (min (s.lengthOf r) g.cap) (a + chunkSize) - a →
    size = (if g.bf16In && r.fused.isNone then 2 else 4) →
    s.readRuns (g.who e) size (if n = 0 then [] else r.srcRuns size a n) [] = (u, .fault f) →
    exec (.chunkIntake p q) s = .next (u.killStart f none)) ∧
  (∀ (p q : Fin 16) (x : Commq) (g : Group) (r : Reduction) (s : State), s.clocked = true →
    s.commq p.val q.val = some x →
    s.group? x.group = some g →
    g.running = true →
    x.nextIn g.chunks = some r →
    (s.sourceReady r = false ∨ x.mayStart r = false ∨ s.intakeEngine g r = none) →
    exec (.chunkIntake p q) s = .next s) ∧
  (∀ (p q : Fin 16) (s : State), s.clocked = true →
    s.commq p.val q.val = none →
    exec (.chunkIntake p q) s = .next s) ∧
  (∀ (p q : Fin 16) (s : State), s.clocked = true →
    s.commq p.val q.val = none →
    exec (.stagingBufferTake p q) s = .next s) ∧
  (∀ (p q : Fin 16) (x : Commq) (g : Group) (r : Reduction) (e id : Nat) (b : Nat × List (BitVec 32)) (bs : List (Nat
      × List (BitVec 32))) (s : State), s.clocked = true →
    s.commq p.val q.val = some x →
    s.group? x.group = some g →
    g.running = true →
    x.reds.find? (fun r => r.outcome.isNone && (decide (r.taken < g.chunks) || (r.fused.isSome &&
        !r.buffers.isEmpty))) = some r →
    r.fused = some id →
    x.mayStart r = true →
    r.buffers = b :: bs →
    (b.2.length = chunkSize ∨ s.fusedOver r = true) →
    b.1 = r.taken →
    r.taken < g.chunks →
    s.intakeEngine g r = some e →
    exec (.stagingBufferTake p q) s = .next ((s.updReduction g r.seq (fun y =>
        { y with buffers := y.buffers.drop 1 })).hold g r
        (((List.range b.2.length).zip b.2).map (fun iv => if r.taken * chunkSize + iv.1 < g.cap then iv.2 else 0) ++
          List.replicate (chunkSize - b.2.length) 0))) ∧
  (∀ (p q : Fin 16) (x : Commq) (g : Group) (r : Reduction) (id : Nat) (b : Nat × List (BitVec 32)) (bs : List (Nat
      × List (BitVec 32))) (s : State), s.clocked = true →
    s.commq p.val q.val = some x →
    s.group? x.group = some g →
    g.running = true →
    x.reds.find? (fun r => r.outcome.isNone && (decide (r.taken < g.chunks) || (r.fused.isSome &&
        !r.buffers.isEmpty))) = some r →
    r.fused = some id →
    x.mayStart r = true →
    r.buffers = b :: bs →
    b.2.length ≠ chunkSize →
    s.fusedOver r = false →
    exec (.stagingBufferTake p q) s = .next s) ∧
  (∀ (p q : Fin 16) (x : Commq) (g : Group) (r : Reduction) (id : Nat) (b : Nat × List (BitVec 32)) (bs : List (Nat
      × List (BitVec 32))) (s : State), s.clocked = true →
    s.commq p.val q.val = some x →
    s.group? x.group = some g →
    g.running = true →
    x.reds.find? (fun r => r.outcome.isNone && (decide (r.taken < g.chunks) || (r.fused.isSome &&
        !r.buffers.isEmpty))) = some r →
    r.fused = some id →
    x.mayStart r = true →
    r.buffers = b :: bs →
    (b.2.length = chunkSize ∨ s.fusedOver r = true) →
    (b.1 < r.taken ∨ g.chunks ≤ b.1) →
    exec (.stagingBufferTake p q) s = .next (s.updReduction g r.seq (fun y =>
        { y with buffers := y.buffers.drop 1 })))

/-- JTAG instructions: each is loaded and in force only where R461 lets it; the boundary instructions shift the boundary
register and a BYPASS passes its bits on behind one 0 (which bits come, and the code that a BYPASS loads among 0xFF and the
reserved ones, are free values); IDCODE shifts out the identity; SCAN_MODE, MBIST_RUN and ATB_CTRL
act only in an unlocked device; WARM_RESET resets unless the package tripped. Leaving SCAN_MODE leaves the device in a
state that is a free value (log entry 130). (R460, R461.) -/
def Obligations.JtagInstructionsComplete : Prop :=
  (∀ (n m : Nat × State) (s : State),
    s.por.scan = false →
    n = s.takeFree →
    m = (n.2.updPor (fun p => { p with jtag := bypassCode n.1, atbJtag := false })).takeFree →
    exec (.bypass) s = .next (if Config.shiftedIn m.1 = [] then m.2
      else m.2.emit (.tdoBits ((false :: Config.shiftedIn m.1).take (Config.shiftedIn m.1).length)))) ∧
  (∀ (n : Nat),
    bypassCode n ∉ ([0x00, 0x01, 0x02, 0x03, 0x04, 0x05, 0x06, 0x20, 0x21, 0x22, 0x23] : List (BitVec 8))) ∧
  (∀ (n : Nat × State) (s : State),
    s.por.scan = false →
    n = (s.updPor (fun p => { p with jtag := 0x02, atbJtag := false })).takeFree →
    exec (.samplePreload) s = .next (if Config.shiftedIn n.1 = [] then n.2
      else (n.2.updPor (fun p => { p with boundary := Config.shiftedIn n.1 })).emit
        (.tdoBits ((List.range (Config.shiftedIn n.1).length).map (fun i => Config.landLevel n.1 i))))) ∧
  (∀ (n : Nat × State) (s : State),
    s.por.scan = false →
    (s.por.sysRst = true ∨ s.por.testEn = true) →
    n = (s.updPor (fun p => { p with jtag := 0x00, atbJtag := false })).takeFree →
    exec (.extest) s = .next (if Config.shiftedIn n.1 = [] then n.2
      else (n.2.updPor (fun p => { p with boundary := Config.shiftedIn n.1 })).emit
        (.tdoBits ((List.range (Config.shiftedIn n.1).length).map (fun i => Config.landLevel n.1 i))))) ∧
  (∀ (n : Nat × State) (s : State),
    s.por.scan = false →
    s.por.sysRst = false →
    s.por.testEn = false →
    n = (s.updPor (fun p => { p with jtag := 0x00, atbJtag := false })).takeFree →
    exec (.extest) s = .next (if Config.shiftedIn n.1 = [] then n.2
      else n.2.emit (.tdoBits ((false :: Config.shiftedIn n.1).take (Config.shiftedIn n.1).length)))) ∧
  (∀ (n : Nat × State) (s : State),
    s.por.scan = false →
    (s.por.sysRst = true ∨ s.por.testEn = true) →
    n = (s.updPor (fun p => { p with jtag := 0x03, atbJtag := false })).takeFree →
    exec (.extestPulse) s = .next (if Config.shiftedIn n.1 = [] then n.2
      else (n.2.updPor (fun p => { p with boundary := Config.shiftedIn n.1 })).emit
        (.tdoBits ((List.range (Config.shiftedIn n.1).length).map (fun i => Config.landLevel n.1 i))))) ∧
  (∀ (n : Nat × State) (s : State),
    s.por.scan = false →
    s.por.sysRst = false →
    s.por.testEn = false →
    n = (s.updPor (fun p => { p with jtag := 0x03, atbJtag := false })).takeFree →
    exec (.extestPulse) s = .next (if Config.shiftedIn n.1 = [] then n.2
      else n.2.emit (.tdoBits ((false :: Config.shiftedIn n.1).take (Config.shiftedIn n.1).length)))) ∧
  (∀ (n : Nat × State) (s : State),
    s.por.scan = false →
    (s.por.sysRst = true ∨ s.por.testEn = true) →
    n = (s.updPor (fun p => { p with jtag := 0x04, atbJtag := false })).takeFree →
    exec (.extestTrain) s = .next (if Config.shiftedIn n.1 = [] then n.2
      else (n.2.updPor (fun p => { p with boundary := Config.shiftedIn n.1 })).emit
        (.tdoBits ((List.range (Config.shiftedIn n.1).length).map (fun i => Config.landLevel n.1 i))))) ∧
  (∀ (n : Nat × State) (s : State),
    s.por.scan = false →
    s.por.sysRst = false →
    s.por.testEn = false →
    n = (s.updPor (fun p => { p with jtag := 0x04, atbJtag := false })).takeFree →
    exec (.extestTrain) s = .next (if Config.shiftedIn n.1 = [] then n.2
      else n.2.emit (.tdoBits ((false :: Config.shiftedIn n.1).take (Config.shiftedIn n.1).length)))) ∧
  (∀ (s : State),
    s.por.scan = false →
    exec (.testLogicReset) s = .next (s.updPor (fun p => { p with jtag := 0x01, atbJtag := false }))) ∧
  (∀ (s : State),
    s.por.scan = false →
    exec (.clamp) s = .next (s.updPor (fun p => { p with jtag := 0x05, atbJtag := false }))) ∧
  (∀ (s : State),
    s.por.scan = false →
    exec (.highz) s = .next (s.updPor (fun p => { p with jtag := 0x06, atbJtag := false }))) ∧
  (∀ (s : State),
    s.por.scan = false →
    exec (.idcode) s =
      .next ((s.updPor (fun p => { p with jtag := 0x01, atbJtag := false })).emit (.tdo
        (word [(0, 1), (1, (Config.manufacturer 0).toNat), (12, 0xAB12), (28, 1)])))) ∧
  (∀ (s : State),
    (s.por.jtag = 0x00 ∨ s.por.jtag = 0x03 ∨ s.por.jtag = 0x04 ∨ s.por.jtag = 0x05 ∨ s.por.jtag = 0x06) →
    s.inForce = if s.por.sysRst || s.por.testEn then s.por.jtag else 0xFF) ∧
  (∀ (s : State),
    (s.por.jtag = 0x20 ∨ s.por.jtag = 0x21 ∨ s.por.jtag = 0x22) →
    s.inForce = if s.scanOpen then s.por.jtag else 0xFF) ∧
  (∀ (s : State),
    s.por.scan = false →
    exec (.scanMode) s =
      .next ((s.updPor (fun p => { p with jtag := 0x20, atbJtag := false })).updPor (fun p => { p with scan := s.scanOpen }))) ∧
  (∀ (s : State),
    s.por.scan = false →
    exec (.atbCtrl) s =
      .next ((s.updPor (fun p => { p with jtag := 0x22, atbJtag := false })).updPor (fun p => { p with atbJtag := s.scanOpen }))) ∧
  (∀ (s : State),
    s.por.scan = false →
    s.scanOpen = false →
    exec (.mbistRun) s = .next (s.updPor (fun p => { p with jtag := 0x21, atbJtag := false }))) ∧
  (∀ (n : Nat × State) (s : State),
    s.por.scan = false →
    s.scanOpen = true →
    n = (s.updPor (fun p => { p with jtag := 0x21, atbJtag := false })).takeFree →
    exec (.mbistRun) s =
      .next ((n.2.selfTest (Config.rowsFailing n.1) (Config.enginesFailing n.1) (Config.portsFailing n.1)
        (Config.plannersFailing n.1) (Config.complexesFailing n.1)).emit (.tdo (Config.mbistResult n.1)))) ∧
  (∀ (s : State),
    s.por.scan = false →
    s.por.tripAsserted = false →
    exec (.jtagWarmReset) s =
      .next ((s.updPor (fun p => { p with jtag := 0x23, atbJtag := false })).warmReset 6)) ∧
  (∀ (s : State),
    s.por.scan = false →
    s.por.tripAsserted = true →
    exec (.jtagWarmReset) s = .next (s.updPor (fun p => { p with jtag := 0x23, atbJtag := false }))) ∧
  (∀ (n : Nat × State) (s : State),
    s.por.scan = true →
    n = s.takeFree →
    exec (.bypass) s = .next (n.2.afterScan (bypassCode n.1))) ∧
  (∀ (i : Instr) (code : BitVec 8) (s : State),
    s.por.scan = true →
    (i, code) ∈ ([(.extest, 0x00), (.idcode, 0x01), (.testLogicReset, 0x01), (.samplePreload, 0x02),
      (.extestPulse, 0x03), (.extestTrain, 0x04), (.clamp, 0x05), (.highz, 0x06), (.mbistRun, 0x21),
      (.atbCtrl, 0x22), (.jtagWarmReset, 0x23)] : List (Instr × BitVec 8)) →
    exec i s = .next (s.afterScan code) ∧ (s.afterScan code).fuse = s.fuse ∧ (s.afterScan code).flash = s.flash ∧
      (s.afterScan code).host = s.host ∧ (s.afterScan code).por.scan = false ∧ (s.afterScan code).por.lost = true ∧
      (s.afterScan code).por.jtag = code) ∧
  (∀ (s : State),
    s.por.scan = true →
    exec (.scanMode) s = .next s)

/-- Temperatures, base charge and caps: a sample below 115 degrees only updates the sensors and the hottest of the
frame, one at 115 trips; BASE_CHARGE_UPDATE takes the mean of 64 frames; a cap of the master waits for its frame
and is acknowledged; 64 frames after it took effect a sheaf cap is answered with the packages still waiting.
(R306, R329, R386, R398, R402, R406, R419, R422.) -/
def Obligations.PowerAndThermalEvents : Prop :=
  (∀ (temps : List (Option Int)) (u : State) (s : State), s.clocked = true →
    (∀ x, x ∈ (List.range 48).zip temps → ∀ t, x.2 = some t → t < 115 * 16) →
    u = ((List.range 48).zip temps).foldl (fun s x => s.readSensor x.1 (x.2.map (fun t => BitVec.ofInt 16 t))) s →
    exec (.thermalSample temps) s = .next (u.updPwr (fun w => { w with
        hotSample := ((List.range 48).zip temps).foldl (fun b x => match x.2 with
        | some t => some (hotterOf b (wholeC t, x.1))
        | none => b) u.pwr.hotSample }))) ∧
  (∀ (temps : List (Option Int)) (u : State) (x : Nat × Option Int) (s : State), s.clocked = true →
    ((List.range 48).zip temps).find? (fun x => x.2.any (fun t => decide (115 * 16 ≤ t))) = some x →
    u = ((List.range 48).zip temps).foldl (fun s x => s.readSensor x.1 (x.2.map (fun t => BitVec.ofInt 16 t))) s →
    exec (.thermalSample temps) s = .next ((u.updPwr (fun w => { w with
        hotSample := ((List.range 48).zip temps).foldl (fun b x => match x.2 with
        | some t => some (hotterOf b (wholeC t, x.1))
        | none => b) u.pwr.hotSample })).trip (wholeC (x.2.getD 0)) x.1)) ∧
  (∀ (eIn : Nat) (failed : Bool) (s : State), s.clocked = true →
    64 ≤ s.pwr.winFrames →
    failed = false →
    s.pwr.winFailed = false →
    exec (.baseChargeUpdate eIn failed) s = .next (s.updPwr (fun w => { w with
        winFrames := 0, winM := 0, winFailed := false
        nextBase := some (BitVec.ofNat 32 (min ((((eIn : Int) - s.pwr.winM) + 63) / 64).toNat (s.capEnergy / 2))) }))) ∧
  (∀ (eIn : Nat) (failed : Bool) (s : State), s.clocked = true →
    64 ≤ s.pwr.winFrames →
    (failed = true ∨ s.pwr.winFailed = true) →
    exec (.baseChargeUpdate eIn failed) s = .next (s.updPwr (fun w =>
        { w with winFrames := 0, winM := 0, winFailed := false }))) ∧
  (∀ (cap : BitVec 7) (frame : FrameNo) (pkg : Fin 128) (s : State), s.clocked = true → s.mgt.act ≠ .restoring →
    exec (.capSetReceive cap frame pkg) s = .next (s.updPwr (fun w => { w with
        pending := cap, pendingValid := true, effective := frame, capFrom := some pkg.val }))) ∧
  (∀ (cap : BitVec 7) (frame : FrameNo) (pkg : Fin 128) (x : SheafCap) (s : State), s.clocked = true → s.mgt.act ≠
      .restoring →
    s.pwr.sheaf.find? (fun x => x.cap == cap && x.waiting.contains pkg.val && !later x.effective frame) = some x →
    x.waiting.filter (fun k => k != pkg.val) = [] →
    exec (.capAckReceive cap frame pkg) s = .next ((s.updPwr (fun w => { w with sheaf := w.sheaf.erase x })).finishAll
        x.cmd.toList .done .none [word [(0, x.effective.toNat)], 0])) ∧
  (∀ (cap : BitVec 7) (frame : FrameNo) (pkg : Fin 128) (x : SheafCap) (s : State), s.clocked = true → s.mgt.act ≠
      .restoring →
    s.pwr.sheaf.find? (fun x => x.cap == cap && x.waiting.contains pkg.val && !later x.effective frame) = some x →
    x.waiting.filter (fun k => k != pkg.val) ≠ [] →
    exec (.capAckReceive cap frame pkg) s = .next (s.updPwr (fun w => { w with
        sheaf := w.sheaf.map (fun y => if y = x then { y with waiting := x.waiting.filter (fun k => k != pkg.val) } else y) }))) ∧
  (∀ (x : SheafCap) (s : State), s.clocked = true →
    s.pwr.sheaf.filter (fun x => !later x.effective s.frm.count && decide (64 ≤ framesSince s.frm.count x.effective))
        = [x] →
    exec (.sheafCapTimeout) s = .next ((s.updPwr (fun w => { w with sheaf := w.sheaf.erase x })).finishAll
        x.cmd.toList .done .none
      [word [(0, x.effective.toNat)], word [(0, x.waiting.length % 256)]])) ∧
  (∀ (sensor value : BitVec 16) (good : Bool) (s : State), s.clocked = true →
    (48 ≤ sensor.toNat ∧ sensor.toNat < 56 ∨ 256 ≤ sensor.toNat ∧ sensor.toNat < 280 ∨ 512 ≤ sensor.toNat ∧
        sensor.toNat < 528) →
    exec (.sensorSample sensor value good) s = .next (s.readSensor sensor.toNat (if good then some value else none)))
        ∧
  (∀ (port : Fin 16) (word : Codeword) (s : State), s.clocked = true →
    (s.port port.val).link ≠ .down →
    (s.port port.val).health ≠ .retired →
    word.lane.val ∈ (s.port port.val).active →
    word.errors ≤ 15 →
    exec (.uncorrectableCodeword port word) s = .next (s.updPort port.val (fun p =>
      { (p.updLane word.lane.val (fun l => { l with consecUncorr := 0 })) with corrected := satAdd p.corrected word.errors }))) ∧
  (∀ (port : Fin 16) (word : Codeword) (s : State), s.clocked = true →
    ((s.port port.val).link = .down ∨ (s.port port.val).health = .retired ∨
      word.lane.val ∉ (s.port port.val).active) →
    exec (.uncorrectableCodeword port word) s = .next s) ∧
  (∀ (port : Fin 16) (word : Codeword) (s : State), s.clocked = true →
    (s.port port.val).link ≠ .down →
    (s.port port.val).health ≠ .retired →
    word.lane.val ∈ (s.port port.val).active →
    15 < word.errors →
    (((s.port port.val).lane word.lane.val).consecUncorr + 1 < 64 ∨ ((s.port port.val).lane word.lane.val).lock ≠ .locked) →
    ∃ t, exec (.uncorrectableCodeword port word) s = .next t ∧
      ((t.port port.val).lane word.lane.val).uncorr = satAdd ((s.port port.val).lane word.lane.val).uncorr 1 ∧
      ((t.port port.val).lane word.lane.val).lock = ((s.port port.val).lane word.lane.val).lock ∧
      ((t.port port.val).lane word.lane.val).hit = (((s.port port.val).lane word.lane.val).hit || (s.port port.val).burst) ∧ (∀ k, k ≠ port.val → t.port k = s.port k) ∧ t.frm = s.frm) ∧
  (∀ (port : Fin 16) (s : State), s.clocked = true →
    (s.port port.val).link = .down →
    (s.port port.val).health ≠ .retired →
    exec (.signalDetect port) s = .next (s.updPort port.val (fun p => { p with link := .training }))) ∧
  (∀ (port : Fin 16) (s : State), s.clocked = true →
    (s.port port.val).link = .doze →
    exec (.signalDetect port) s = .next ((s.updPort port.val (fun p => { p with link := .waking })).wakeTrain
        port.val)) ∧
  (∀ (port : Fin 16) (s : State), s.clocked = true →
    (((s.port port.val).link ≠ .down ∧ (s.port port.val).link ≠ .doze) ∨
      ((s.port port.val).link = .down ∧ (s.port port.val).health = .retired)) →
    exec (.signalDetect port) s = .next s) ∧
  (∀ (s : State), s.clocked = true →
    s.frm.phase ≠ .stopped →
    s.frm.role ≠ .standalone →
    s.synced = true →
    s.frm.state ≠ .unsync →
    exec (.aonTimerTick) s = .next s) ∧
  (∀ (s : State), s.clocked = true →
    s.frm.phase = .stopped →
    exec (.aonTimerTick) s = .next ((((s.updMgt (fun g => if g.watchdogCount.booted then g.watchdogCount.kick else
        g.watchdogCount)).evalHottest).hbmStep)))

/-- Power-on and resets: VDDAON's rise starts the sequence with group 1, each PGOOD enables the next group and the
sixth ends in cold reset; a group that does not come or falls counts a fault, takes every enable away and is
retried, up to three times; SYS_RST resets everything but fuses, flash, log numbers and pins; the release of
cold reset latches the land pins and the grade's cap and base charge; a warm reset restarts bring-up and keeps what
R445 keeps, and gives way to a cold reset under way; what waited for the PCIe reference goes out when it returns.
(R34, R442, R444, R445, R448, R449, R477, R480.) -/
def Obligations.PowerOnAndResets : Prop :=
  (∀ (s : State),
    s.por.sysRst = false →
    exec (.powerOnReset) s = .next
        ({ s.cleared with por := { warmRst := s.por.warmRst, bring := .sequencing, enables := 1 } })) ∧
  (∀ (s : State),
    s.por.bring = .sequencing →
    s.por.waitsFor < 6 →
    exec (.pgoodRise) s = .next (s.updPor (fun p => { p with
        pgood := p.pgood ||| BitVec.ofNat 6 (2 ^ (s.por.waitsFor - 1))
        enables := p.enables ||| BitVec.ofNat 6 (2 ^ s.por.waitsFor) }))) ∧
  (∀ (s : State),
    s.por.bring = .sequencing →
    6 ≤ s.por.waitsFor →
    exec (.pgoodRise) s = .next (s.updPor (fun p => { p with
        pgood := p.pgood ||| BitVec.ofNat 6 (2 ^ (s.por.waitsFor - 1)), faults := 0, bring := .coldReset }))) ∧
  (∀ (n : Nat) (s : State),
    s.por.bring = .sequencing →
    n = min 3 (s.por.faults.toNat + 1) →
    exec (.pgoodTimeout) s = .next ((s.updPor (fun p => { p with
        cause := 2, faultGroup := BitVec.ofNat 3 s.por.waitsFor, faults := BitVec.ofNat 2 n, lockedOff := decide (3 ≤ n)
        retryWait := decide (n < 3) })).coldAssert)) ∧
  (∀ (g : Fin 6) (s : State),
    bit s.por.enables g.val = true →
    bit s.por.pgood g.val = true →
    exec (.pgoodFall g) s = .next (s.seqFault (g.val + 1))) ∧
  (∀ (g : Fin 6) (s : State),
    bit s.por.enables g.val = false →
    exec (.pgoodFall g) s = .next s) ∧
  (∀ (s : State),
    s.por.retryWait = true →
    s.por.sysRst = false →
    s.por.lockedOff = false →
    s.por.vddAon = true →
    exec (.sequenceRetry) s = .next (s.updPor (fun p =>
        { p with bring := .sequencing, enables := 1, pgood := 0, retryWait := false }))) ∧
  (∀ (s : State),
    exec (.sysRstAssert) s = .next { s.cleared with
        por := {
          repairDue := s.por.wornPages
          vddAon := s.por.vddAon, sysRst := true, warmRst := s.por.warmRst, bring := .off
          lockedOff := s.por.lockedOff, cause := if s.por.tripAsserted then 3 else 1, faultGroup := s.por.faultGroup
          tripTemp := s.por.tripTemp, tripSensor := s.por.tripSensor, faults := s.por.faults } }) ∧
  (∀ (s : State),
    s.por.sysRst = true →
    s.por.vddAon = true →
    exec (.sysRstRelease) s = .next (s.updPor (fun p => { p with
        sysRst := false, lockedOff := false, faults := if p.lockedOff then 0 else p.faults
        bring := .sequencing, enables := 1, pgood := 0, retryWait := false }))) ∧
  (∀ (s : State),
    s.por.sysRst = false →
    exec (.sysRstRelease) s = .next s) ∧
  (∀ (s : State), s.clocked = true →
    exec (.warmRstAssert) s = .next (s.warmReset 5)) ∧
  (∀ (s : State), s.clocked = true →
    exec (.warmReset) s = .next (s.warmReset 4)) ∧
  (∀ (s : State),
    s.por.enables ≠ 0 →
    exec (.fabricRefclkLoss) s = .next (s.seqFault 7)) ∧
  (∀ (s : State),
    s.por.enables = 0 →
    exec (.fabricRefclkLoss) s = .next s) ∧
  (∀ (lost : Bool) (s : State),
    lost = true →
    exec (.pcieRefclkLoss lost) s = .next { s with pcie := { s.pcie with refclk := false, link := .down } }) ∧
  (∀ (lost : Bool) (s : State),
    lost = false →
    s.pcie.perstLow = false →
    s.pcie.refclk = true →
    exec (.pcieRefclkLoss lost) s = .next { s with pcie := { s.pcie with link := .detect } }) ∧
  (∀ (lost : Bool) (u : State) (s : State),
    lost = false →
    s.pcie.perstLow = false →
    s.pcie.refclk = false →
    u = s.pcie.held.foldl (fun s t => s.emit t.output) { s with pcie := { s.pcie with held := [], refclk := true } } →
    exec (.pcieRefclkLoss lost) s = .next { u with pcie := { u.pcie with link := .detect } }) ∧
  (∀ (lost : Bool) (s : State),
    lost = false →
    s.pcie.perstLow = true →
    s.pcie.refclk = false →
    s.pcie.held = [] →
    exec (.pcieRefclkLoss lost) s = .next { s with pcie := { s.pcie with refclk := true } }) ∧
  (∀ (s : State), s.clocked = true →
    s.por.lost = false →
    s.coldUnderWay = true →
    exec (.warmRstAssert) s = .next s ∧ exec (.warmReset) s = .next s) ∧
  (∀ (s : State), s.clocked = true →
    s.por.lost = false →
    s.coldUnderWay = false →
    (s.por.bring = .selfTest ∨ s.por.bring = .running) →
    ∃ t, exec (.warmRstAssert) s = .next t ∧ t.por.bring = .selfTest ∧ t.por.warmActive = true ∧ t.por.cause = 5 ∧
      t.fuse = s.fuse ∧ t.host = s.host ∧ t.ten.badRows = s.ten.badRows ∧ t.pwr.cap = s.pwr.cap ∧ t.mb 0 = {} ∧
      t.seq.ops = [] ∧ t.spad = []) ∧
  (∀ (u : State) (s : State),
    s.por.bring = .coldReset →
    s.por.sysRst = false →
    u = ((s.updPor (fun p => { p with bring := .selfTest, testEn := s.fuse.landTestEn, warmActive := false })).updFab
        (fun g =>
      { g with x := s.fuse.landX, y := s.fuse.landY, z := s.fuse.landZ })).updPwr (fun w => { w with
        cap := s.fuse.grade.cap, base := s.fuse.grade.base }) →
    exec (.coldResetRelease) s = .next (u.startPcie))

/-- Self-test, training and boot: the self-test enters what failed and leaves the scratchpads 0; the HBM test leaves
HBM 0 and quarantines the pages that failed; training marks the stacks; Choesk leaves reset once both tests
ended; it boots from the active bank, falls back to the other, or enters recovery; the standby is mirrored; a
refresh is due at its pseudo-channel; a watchdog's expiry fails over, or restarts, or costs the standby. (R408,
R420, R450, R453, R455, R457, R459.) -/
def Obligations.TestsAndBoot : Prop :=
  (∀ (rows : BitVec 16) (engines : BitVec 17) (ports : BitVec 16) (planners complexes : BitVec 2) (s : State),
      s.clocked = true →
    s.por.bring = .selfTest →
    s.por.selfTested = false →
    ∃ t, exec (.selfTestComplete rows engines ports planners complexes) s = .next t ∧
      t.spad = [] ∧ t.ten.badRows = rows ∧ t.por.selfTested = true ∧ t.por.engFail = engines ∧ t.por.portFail = ports
          ∧
      t.por.plnFail = planners ∧ t.pln.standby = bit planners 0 ∧ t.mgt.dieW.held = (s.mgt.dieW.held || bit complexes
          0) ∧
      t.mgt.dieE.held = (s.mgt.dieE.held || bit complexes 1) ∧ t.dram = s.dram ∧ t.ten.parts = s.ten.parts) ∧
  (∀ (rows : BitVec 16) (engines : BitVec 17) (ports : BitVec 16) (planners complexes : BitVec 2) (s : State),
      s.clocked = true →
    (s.por.bring ≠ .selfTest ∨ s.por.selfTested = true) →
    exec (.selfTestComplete rows engines ports planners complexes) s = .next s) ∧
  (∀ (failed : BitVec 8) (s : State), s.clocked = true →
    s.por.bring = .selfTest →
    exec (.hbmTrainingComplete failed) s = .next (s.updPor (fun p => { p with
        hbm := p.hbm.mapRow {} 8 (fun i h => { h with trained := !bit failed i, failed := bit failed i }) }))) ∧
  (∀ (bad : List Nat) (s : State), s.clocked = true →
    s.por.bring = .selfTest →
    s.por.hbmTested = false →
    (∀ k, k < 8 → (s.por.hbm.get {} k).failed = false) →
    bad = [] →
    ∃ t, exec (.hbmTestComplete bad) s = .next t ∧
      t.dram = [] ∧ t.xlt.ecc = [] ∧ t.xlt.own = s.xlt.own ∧ t.por.hbmTested = true ∧ t.spad = s.spad ∧ t.ten = s.ten)
          ∧
  (∀ (bad : List Nat) (s : State), s.clocked = true →
    s.por.bring = .selfTest →
    s.por.hbmTested = false →
    ∃ t, exec (.hbmTestComplete bad) s = .next t ∧
      t.dram = [] ∧ t.por.hbmTested = true ∧ t.spad = s.spad ∧ t.ten = s.ten ∧ t.frm = s.frm) ∧
  (∀ (s : State), s.clocked = true →
    s.por.bring = .selfTest →
    s.por.selfTested = true →
    s.por.hbmTested = true →
    exec (.managementResetRelease) s = .next (s.updPor (fun p => { p with bring := .running }))) ∧
  (∀ (i : FwImage) (s : State), s.clocked = true →
    s.por.bring = .running →
    s.mgt.booted = false →
    (s.mgt.dieW.held = false ∨ s.mgt.dieE.held = false) →
    s.validBank s.flash.active = some i →
    exec (.bootComplete () ()) s = .next (s.bootFrom s.flash.active i)) ∧
  (∀ (i : FwImage) (s : State), s.clocked = true →
    s.por.bring = .running →
    s.mgt.booted = false →
    (s.mgt.dieW.held = false ∨ s.mgt.dieE.held = false) →
    s.validBank s.flash.active = none →
    s.validBank (!s.flash.active) = some i →
    exec (.bootComplete () ()) s = .next ((State.bootFrom (!s.flash.active) i
        { s with flash := s.flash.writeRecord (!s.flash.active) }).log 0x0E01 [(0,
      ((((s.flash.bank s.flash.active).bind (fun j => s.imageBad j)).map FwCheck.reason).getD .outOfRange).code)])) ∧
  (∀ (s : State), s.clocked = true →
    s.por.bring = .running →
    s.mgt.booted = false →
    s.mgt.dieW.held = true →
    s.mgt.dieE.held = true →
    exec (.bootComplete () ()) s = .next
        { s.updMgt (fun g => { g with recovery := true, booted := false }) with pcie := { s.pcie with configRetry := false } })
        ∧
  (∀ (s : State), s.clocked = true →
    s.por.bring = .running →
    s.mgt.booted = false →
    s.validBank s.flash.active = none →
    s.validBank (!s.flash.active) = none →
    exec (.bootComplete () ()) s = .next s.enterRecovery) ∧
  (∀ (s : State), s.clocked = true →
    (s.por.bring ≠ .running ∨ s.mgt.booted = true) →
    exec (.bootComplete () ()) s = .next s) ∧
  (∀ (d : Die) (s : State), s.clocked = true →
    d = (if s.mgt.activeE then .w else .e) →
    s.mgt.booted = true →
    s.mgt.act = .none →
    (s.mgt.complex d).held = false →
    exec (.standbyMirrored) s = .next (s.updMgt (fun g =>
        { g.updComplex d (fun c => { c with running := true, count := 0 }) with standbyOk := true }))) ∧
  (∀ (stack : Fin 8) (pc : BitVec 5) (s : State), s.clocked = true →
    exec (.hbmRefresh stack pc) s = .next (s.updPor (fun p =>
        { p with hbm := p.hbm.upd {} stack.val (fun h => { h with refreshDue := some pc }) }))) ∧
  (∀ (die : Die) (s : State), s.clocked = true →
    (s.mgt.complex die).running = false →
    exec (.watchdogExpiry die) s = .next s) ∧
  (∀ (die : Die) (ex : List FrameNo) (u : State) (s : State), s.clocked = true →
    (s.mgt.complex die).running = true →
    ex = ((s.mgt.complex die).expiries.filter (fun f => decide (framesSince s.frm.count f < 2 ^ 20))) ++ [s.frm.count]
        →
    u = (s.log 0x0003 [(0, die.num)]).updMgt (fun g => g.updComplex die (fun c => { c with
      count := 0, expiries := ex, held := (s.mgt.complex die).held || decide (3 ≤ ex.length), running := false })) →
    die = u.mgt.active →
    u.mgt.standbyOk = true →
    exec (.watchdogExpiry die) s = .next (u.updMgt (fun g => { g with failoverDue := true }))) ∧
  (∀ (die : Die) (ex : List FrameNo) (u : State) (s : State), s.clocked = true →
    (s.mgt.complex die).running = true →
    ex = ((s.mgt.complex die).expiries.filter (fun f => decide (framesSince s.frm.count f < 2 ^ 20))) ++ [s.frm.count]
        →
    u = (s.log 0x0003 [(0, die.num)]).updMgt (fun g => g.updComplex die (fun c => { c with
      count := 0, expiries := ex, held := (s.mgt.complex die).held || decide (3 ≤ ex.length), running := false })) →
    die ≠ u.mgt.active →
    exec (.watchdogExpiry die) s = .next ((u.updMgt (fun g => { g with standbyOk := false })).log 0x0002 [(0,
        u.mgt.active.num)]))

/-- Staging, activation and DFU: a staged image that passes goes to the inactive bank and the command is answered
with its level, SVN and version, one that fails is refused with its reason; an activation loads, restores and
takes over or fails; a DFU download accepts its blocks in order and stalls otherwise; a DFU image enters the
bank and in recovery becomes the bank to boot; DETACH stalls; a USB reset ends what the DFU had under way.
(R414, R416, R431, R432, R436.) -/
def Obligations.FirmwareUpdates : Prop :=
  (∀ (img : FwImage) (c : CmdId) (u : State) (s : State), s.clocked = true →
    s.mgt.stageCmd = some c →
    s.mgt.fw = .receiving →
    img = imageOf s.mgt.stageData →
    u = (s.setFw .verifying).updMgt (fun g => { g with stageCmd := none, stageData := [] }) →
    u.imageBad img = none →
    exec (.stageVerifyComplete () ()) s = .next ((State.setFw .staged
        { u with flash := u.flash.setBank u.inactive (some img) }).finish c .done .none
        [word [(0, img.level.toNat), (8, img.svn.toNat), (32, img.version)]])) ∧
  (∀ (c : CmdId) (u : State) (k : FwCheck) (s : State), s.clocked = true →
    s.mgt.stageCmd = some c →
    s.mgt.fw = .receiving →
    u = (s.setFw .verifying).updMgt (fun g => { g with stageCmd := none, stageData := [] }) →
    u.imageBad (imageOf s.mgt.stageData) = some k →
    exec (.stageVerifyComplete () ()) s = .next ((u.rejectImage k).finish c .badCommand k.reason [])) ∧
  (∀ (s : State), s.clocked = true →
    (s.mgt.stageCmd = none ∨ s.mgt.fw ≠ .receiving) →
    exec (.stageVerifyComplete () ()) s = .next s) ∧
  (∀ (i : FwImage) (s : State),
    (i.magic ≠ 0x4B534843 ∨ i.headerLen ≠ 512 ∨ i.reserved = true ∨ 24 * 2 ^ 20 < 512 + i.bodyLen.toNat) →
    s.imageBad i = some .c1) ∧
  (∀ (i : FwImage) (s : State),
    s.imageBad i = none →
    i.magic = 0x4B534843 ∧ i.headerLen = 512 ∧ i.reserved = false ∧ 512 + i.bodyLen.toNat ≤ 24 * 2 ^ 20 ∧
      ofBytesLE (sha384 (bytesLE 97 i.publicKey)) = s.fuse.keys.getD i.keySlot.toNat 0 ∧
      bit s.fuse.revoked i.keySlot.toNat = false ∧ i.signed = true ∧ ofBytesLE (sha384 i.body) = i.digest ∧
      s.fuse.v.toNat ≤ i.svn.toNat) ∧
  (∀ (valid : Bool) (s : State), s.clocked = true →
    s.mgt.act = .loading →
    valid = true →
    (s.validBank s.inactive).isSome = true →
    exec (.activationStandbyLoaded valid) s = .next (s.updMgt (fun g => { g with act := .restoring }))) ∧
  (∀ (valid : Bool) (s : State), s.clocked = true →
    s.mgt.act = .loading →
    (valid = false ∨ s.validBank s.inactive = none) →
    exec (.activationStandbyLoaded valid) s = .next (s.activationFails 1)) ∧
  (∀ (code : BitVec 2) (i : FwImage) (s : State), s.clocked = true →
    s.mgt.act = .restoring →
    s.flash.bank s.inactive = some i →
    code = 0 →
    exec (.activationTakeover code) s = .next ((s.takeOver i).releaseInbound)) ∧
  (∀ (code : BitVec 2) (i : FwImage) (s : State), s.clocked = true →
    s.mgt.act = .restoring →
    s.flash.bank s.inactive = some i →
    code ≠ 0 →
    exec (.activationTakeover code) s = .next ((s.activationFails code.toNat).releaseInbound)) ∧
  (∀ (code : BitVec 2) (s : State), s.clocked = true →
    s.mgt.act ≠ .restoring →
    exec (.activationTakeover code) s = .next s) ∧
  (∀ (block : BitVec 16) (data : List Byte) (s : State), s.clocked = true →
    s.mgt.dfu = .idle →
    (s.mgt.fw = .idle ∨ s.mgt.fw = .staged) →
    block = 0 →
    data.length ≤ dfuBlockSize →
    data ≠ [] →
    exec (.dfuDnload block data) s = .next ((s.setFw .receiving).eraseInactive.updMgt (fun g => { g with
        dfu := .dnload, dfuStatus := .ok, dfuBlock := 1, stageData := data }))) ∧
  (∀ (block : BitVec 16) (data : List Byte) (s : State), s.clocked = true →
    s.mgt.dfu = .idle →
    s.mgt.fw ≠ .idle →
    s.mgt.fw ≠ .staged →
    exec (.dfuDnload block data) s = .next (s.dfuFails .errVendor)) ∧
  (∀ (block : BitVec 16) (data : List Byte) (s : State), s.clocked = true →
    s.mgt.dfu = .idle →
    (s.mgt.fw = .idle ∨ s.mgt.fw = .staged) →
    (block ≠ 0 ∨ dfuBlockSize < data.length ∨ data = []) →
    exec (.dfuDnload block data) s = .next (s.dfuFails .errAddress)) ∧
  (∀ (block : BitVec 16) (data : List Byte) (s : State), s.clocked = true →
    s.mgt.dfu = .dnload →
    block.toNat = s.mgt.dfuBlock % 65536 →
    s.mgt.stageData.length = dfuBlockSize * s.mgt.dfuBlock →
    data.length ≤ dfuBlockSize →
    s.mgt.stageData.length + data.length ≤ 24 * 2 ^ 20 →
    exec (.dfuDnload block data) s = .next (s.updMgt (fun g =>
        { g with dfuBlock := g.dfuBlock + 1, stageData := g.stageData ++ data }))) ∧
  (∀ (block : BitVec 16) (data : List Byte) (s : State), s.clocked = true →
    s.mgt.dfu = .dnload →
    (block.toNat ≠ s.mgt.dfuBlock % 65536 ∨ s.mgt.stageData.length ≠ dfuBlockSize * s.mgt.dfuBlock ∨
      dfuBlockSize < data.length ∨ 24 * 2 ^ 20 < s.mgt.stageData.length + data.length) →
    exec (.dfuDnload block data) s = .next (s.dfuFails .errAddress)) ∧
  (∀ (block : BitVec 16) (data : List Byte) (s : State), s.clocked = true →
    s.mgt.dfu ≠ .idle →
    s.mgt.dfu ≠ .dnload →
    exec (.dfuDnload block data) s = .next (s.emit .usbStall)) ∧
  (∀ (img : FwImage) (u v : State) (s : State), s.clocked = true →
    s.mgt.dfu = .dnload →
    s.mgt.fw = .receiving →
    img = imageOf s.mgt.stageData →
    u = (s.updMgt (fun g => { g with dfu := .manifest, stageData := [] })).setFw .verifying →
    u.imageBad img = none →
    v = (State.setFw .staged { u with flash := u.flash.setBank u.inactive (some img) }).updMgt (fun g => { g with
      dfu := .idle, dfuStatus := .ok }) →
    exec (.dfuManifest () ()) s = .next (if v.mgt.recovery then { v with flash := v.flash.writeRecord u.inactive }
        else v)) ∧
  (∀ (u : State) (k : FwCheck) (s : State), s.clocked = true →
    s.mgt.dfu = .dnload →
    s.mgt.fw = .receiving →
    u = (s.updMgt (fun g => { g with dfu := .manifest, stageData := [] })).setFw .verifying →
    u.imageBad (imageOf s.mgt.stageData) = some k →
    exec (.dfuManifest () ()) s = .next ((u.rejectImage k).updMgt (fun g =>
        { g with
        dfu := .error, dfuStatus := if k = .c1 then .errFile else if k = .c5 then .errVendor else .errVerify }))) ∧
  (∀ (s : State), s.clocked = true →
    (s.mgt.dfu ≠ .dnload ∨ s.mgt.fw ≠ .receiving) →
    exec (.dfuManifest () ()) s = .next (s.emit .usbStall)) ∧
  (∀ (s : State), s.clocked = true →
    exec (.dfuDetach) s = .next (s.emit .usbStall)) ∧
  (∀ (s : State), s.clocked = true →
    (s.mgt.stageCmd ≠ none ∨ (s.mgt.fw ≠ .receiving ∧ s.mgt.fw ≠ .verifying)) →
    exec (.usbBusReset) s = .next (((s.updMgt (fun g =>
        { g with dfu := .idle, dfuStatus := .ok, usbData := [] })).updMb 17 (fun b => { b with
        tickets := [], staged := [] })).log 0x0C00 [(0, 0)])) ∧
  (∀ (s : State), s.clocked = true →
    s.mgt.stageCmd = none →
    (s.mgt.fw = .receiving ∨ s.mgt.fw = .verifying) →
    exec (.usbBusReset) s = .next ((((s.setFw .idle).updMgt (fun g =>
        { g with dfu := .idle, dfuStatus := .ok, usbData := [], stageData := [] })).updMb 17 (fun b => { b with
        tickets := [], staged := [] })).log 0x0C00 [(0, 1)]))

/-- Configuration items, the log, the sideband and the console: an item that exists is read and written over USB
outside recovery, one that does not stalls; log records go to flash; a segment that stuck is recovered and its
rails are programmed anew; SMBT_STATUS, SMBT_POWER and the console answer a booted package; SMBT_SET_CAP takes
effect two frames on or refuses a cap out of range; the alert is acknowledged. (R422, R425, R428, R429, R430,
R434, R437, R464.) -/
def Obligations.SidebandAndConfiguration : Prop :=
  (∀ (item : BitVec 16) (bs : List Byte) (s : State), s.clocked = true →
    s.flash.item item.toNat = some bs →
    s.mgt.recovery = false →
    exec (.configItemRead item) s = .next (s.emit (.usb bs))) ∧
  (∀ (item : BitVec 16) (s : State), s.clocked = true →
    (s.flash.item item.toNat = none ∨ s.mgt.recovery = true) →
    exec (.configItemRead item) s = .next (s.emit .usbStall)) ∧
  (∀ (item : BitVec 16) (data : List Byte) (f : Flash) (s : State), s.clocked = true →
    s.flash.setItem item.toNat data = some f →
    s.mgt.recovery = false →
    exec (.configItemWrite item data) s = .next { s with flash := f }) ∧
  (∀ (item : BitVec 16) (data : List Byte) (s : State), s.clocked = true →
    (s.flash.setItem item.toNat data = none ∨ s.mgt.recovery = true) →
    exec (.configItemWrite item data) s = .next (s.emit .usbStall)) ∧
  (∀ (s : State), s.clocked = true →
    exec (.logRecordProgram) s = .next (State.updMgt (fun g => { g with sram := [] }) { s with
        flash := { s.flash with log := s.mgt.sram.foldl programLog s.flash.log } })) ∧
  (∀ (readings : List (Option (BitVec 16))) (s : State), s.clocked = true →
    (∀ q, q < 32 → railOf s.mgt.latchedSegments q = none) →
    exec (.pmbusPoll readings) s = .next s) ∧
  (∀ (readings : List (Option (BitVec 16))) (q : Nat) (r : Nat × Nat × Nat) (v0 v1 v2 v3 : BitVec 16) (s : State),
      s.clocked = true →
    (List.range 32).filterMap (fun q => (railOf s.mgt.latchedSegments q).map (fun r => (q, r))) = [(q, r)] →
    s.stuck r.1 = false →
    readings.getD (4 * q) none = some v0 →
    readings.getD (4 * q + 1) none = some v1 →
    readings.getD (4 * q + 2) none = some v2 →
    readings.getD (4 * q + 3) none = some v3 →
    exec (.pmbusPoll readings) s = .next (((((s.updSensor (0x300 + 4 * q) (fun x => x.take (0x300 + 4 * q)
        v0)).updSensor (0x300 + 4 * q + 1) (fun x =>
        x.take (0x300 + 4 * q + 1) v1)).updSensor (0x300 + 4 * q + 2) (fun x => x.take (0x300 + 4 * q + 2)
            v2)).updSensor
        (0x300 + 4 * q + 3) (fun x => x.take (0x300 + 4 * q + 3) v3)).updSensor 0x400 (fun x => x.take 0x400
          (BitVec.ofNat 16 v2.toNat)))) ∧
  (∀ (segment : BitVec 2) (address : BitVec 7) (command : BitVec 8) (s : State), s.clocked = true →
    exec (.smbusStretchTimeout segment address command) s = .next (s.log 0x0B01 [(0, segment.toNat), (2,
        address.toNat), (9, command.toNat)])) ∧
  (∀ (segment : BitVec 2) (sdaHigh : Bool) (s : State), s.clocked = true →
    sdaHigh = true →
    s.stuck segment.toNat = false →
    exec (.smbusStuckRecovery segment sdaHigh) s = .next s) ∧
  (∀ (segment : BitVec 2) (sdaHigh : Bool) (s : State), s.clocked = true →
    sdaHigh = false →
    s.stuck segment.toNat = true →
    exec (.smbusStuckRecovery segment sdaHigh) s = .next (s.emit (.smbReset segment.toNat))) ∧
  (∀ (segment : BitVec 2) (sdaHigh : Bool) (s : State), s.clocked = true →
    s.stuck segment.toNat = true →
    sdaHigh = true →
    exec (.smbusRecoveryRetry segment sdaHigh) s = .next (((s.updMgt (fun g =>
        { g with smb := g.smb.put segment.toNat {} })).log 0x0B00 [(0, segment.toNat), (2, 1)]).writeVouts
        (some segment.toNat))) ∧
  (∀ (segment : BitVec 2) (sdaHigh : Bool) (s : State), s.clocked = true →
    s.stuck segment.toNat = false →
    exec (.smbusRecoveryRetry segment sdaHigh) s = .next s) ∧
  (∀ (pec : Bool) (s : State), s.clocked = true →
    pec = true →
    s.mgt.booted = true →
    exec (.smbtStatus pec) s = .next (s.emit (.smbt (smbtStatusWords s)))) ∧
  (∀ (pec : Bool) (s : State), s.clocked = true →
    (pec = false ∨ s.mgt.booted = false) →
    exec (.smbtStatus pec) s = .next s) ∧
  (∀ (w : BitVec 16) (pec : Bool) (s : State), s.clocked = true →
    pec = true →
    s.mgt.booted = true →
    bit w 8 = false →
    35 ≤ fld w 0 7 →
    fld w 0 7 ≤ 100 →
    exec (.smbtSetCap w pec) s = .next ((s.updPwr (fun p => { p with
        pending := BitVec.ofNat 7 (fld w 0 7), pendingValid := true, effective := s.frm.count + 2, capFrom := none })).updMgt
        (fun g => { g with smbtResult := 0 }))) ∧
  (∀ (w : BitVec 16) (pec : Bool) (s : State), s.clocked = true →
    pec = true →
    s.mgt.booted = true →
    (fld w 0 7 < 35 ∨ 100 < fld w 0 7) →
    exec (.smbtSetCap w pec) s = .next (s.emit .smbtNack)) ∧
  (∀ (pec : Bool) (s : State), s.clocked = true →
    pec = true →
    s.mgt.booted = true →
    exec (.smbtPower pec) s = .next (s.emit (.smbt [word [(0, (s.sensor 0x400).value.toNat)]]))) ∧
  (∀ (pec : Bool) (s : State), s.clocked = true →
    pec = true →
    s.mgt.booted = true →
    exec (.smbtAlertAck pec) s = .next (s.updMgt (fun g => { g with unacked := 0, alertLow := false }))) ∧
  (∀ (s : State), s.clocked = true →
    s.mgt.alertLow = true →
    exec (.alertResponse) s = .next (s.emit (.smbt [word [(0, s.mgt.latchedSmbt.toNat)]]))) ∧
  (∀ (s : State), s.clocked = true →
    s.mgt.alertLow = false →
    exec (.alertResponse) s = .next s) ∧
  (∀ (s : State), s.clocked = true →
    s.mgt.booted = true →
    exec (.uartStatus) s = .next (s.emit (.uart [s.mgtWord]))) ∧
  (∀ (n : Nat) (s : State), s.clocked = true →
    s.mgt.booted = true →
    exec (.uartLog n) s = .next (s.emit (.uart ((s.logHeld.drop (s.logHeld.length - n)).flatMap LogRec.words)))) ∧
  (∀ (sensor : BitVec 16) (s : State), s.clocked = true →
    s.mgt.booted = true →
    s.sensorKnown sensor.toNat = true →
    exec (.uartSens sensor) s = .next (s.emit (.uart [(s.sensor sensor.toNat).word]))) ∧
  (∀ (port : Fin 16) (s : State), s.clocked = true →
    s.mgt.booted = true →
    exec (.uartLink port) s = .next (s.emit (.uart (linkQueryWords port.val s)))) ∧
  (∀ (port : Fin 16) (s : State), s.clocked = true →
    s.mgt.booted = false →
    exec (.uartLink port) s = .next s) ∧
  (∀ (s : State),
    exec (.vddAonLoss) s = .next
        { s.cleared with por := { vddAon := false, sysRst := s.por.sysRst, bring := .unpowered } })

/-- A step takes the command at the front of the queue and is `exec` of it on the state whose queue is the rest; on
an empty queue the block idles (the model's choice, log entry 1). (R69, R490.) -/
def Obligations.StepRunsFront : Prop :=
  (∀ (c : Instr) (rest : List Instr) (s : State), s.pending = c :: rest →
    step s = exec c { s with pending := rest }) ∧
  (∀ s : State, s.pending = [] → step s = .next s)

/-- No command touches the queue of waiting commands; what has been sent stays sent, and the number of the next free
value never falls (the model's own fields, log entries 1 and 2). (R69, R12.) -/
def Obligations.QueueKeptOutputsGrow : Prop :=
  ∀ (c : Instr) (s t : State), exec c s = .next t →
    t.pending = s.pending ∧ s.out <+: t.out ∧ s.free ≤ t.free

/-- Every step keeps device memory, the scratchpads and host memory in canonical form: addresses strictly rising,
and no entry equal to what an unlisted address reads as. (R21, R109, R113.) -/
def Obligations.MemoryCanonicalKept : Prop :=
  ∀ s t : State, s.dram.wf = true ∧ s.spad.wf = true ∧ s.host.wf = true → step s = .next t →
    t.dram.wf = true ∧ t.spad.wf = true ∧ t.host.wf = true

/-- No step changes the grade, the serial number, the keys, the core setpoints, the strap lands or the scan fuse; V
never falls and a key revocation is never taken back. (R3, R412.) -/
def Obligations.FusesOnlyBlow : Prop :=
  ∀ s t : State, step s = .next t → s.fuse.grows t.fuse

/-- While the package has no running clocks (a cold reset, the always-on trip, scan), a command that needs them
changes nothing. (R31, R442, R449, R461.) -/
def Obligations.StoppedClocksFreeze : Prop :=
  ∀ (c : Instr) (s : State), c.needsClock = true → s.clocked = false → exec c s = .next s

/-- A command that `Instr.storesMemory` does not name stores nothing: every byte of device memory and of the
scratchpads reads as before, unless the command stops an operation inside a tile, whose completed rows are then
written (`Instr.stopsOps`, R170), or ends a SCAN_MODE (log entry 130). Those that stop operations by a kill store
nothing either while no operation is inside a tile. (R21, R109, R111, R129, R145, R170.) -/
def Obligations.DeviceMemoryFrame : Prop :=
  (∀ (c : Instr) (s t : State), c.storesMemory = false → c.stopsOps = false → s.por.scan = false → exec c s = .next t →
    ∀ a, t.dram.read a = s.dram.read a ∧ t.spad.read a = s.spad.read a) ∧
  (∀ (c : Instr) (s t : State), (∃ r, c = .killStart r) ∨ (∃ m e, c = .ctxKill m e) ∨ (∃ m e, c = .jobAbort m e) ∨
      (∃ f cs o g sp, c = .killNoticeReceive f cs o g sp) ∨ (∃ sp k, c = .spanDeadReceive sp k) →
    (∀ o, o ∈ s.seq.ops → o.inPass = false) → exec c s = .next t →
    ∀ a, t.dram.read a = s.dram.read a ∧ t.spad.read a = s.spad.read a)

/-- No command is ever refused and none faults: in every state, reachable or not, every command and every step answers a
next state. Leaving SCAN_MODE by loading another JTAG instruction or by resetting the test logic is no stop either: the
state it leaves is a free value, in which the fuses, the flash, host memory and the outputs are as before, SCAN_MODE is
no longer loaded and the state stays lost until a cold reset (log entry 130). (R12, R461.) -/
def Obligations.EveryCommandCompletes : Prop :=
  (∀ (c : Instr) (s : State), ∃ t, exec c s = .next t) ∧
  (∀ s : State, ∃ t, step s = .next t) ∧
  (∀ (c : Instr) (s t : State), c.loadsTest = true → c ≠ .scanMode → s.por.scan = true → exec c s = .next t →
    t.fuse = s.fuse ∧ t.flash = s.flash ∧ t.host = s.host ∧ t.out = s.out ∧ t.por.scan = false ∧ t.por.lost = true) ∧
  (∀ (s t : State), exec .sysRstAssert s = .next t → t.por.lost = false ∧ t.por.scan = false)

/-- A consumed command with a nonzero reserved bit ends BAD_COMMAND with reason RESERVED_SET and has no other
effect: its record is staged, and nothing but its mailbox and the count of consumed commands changes. (R11.) -/
def Obligations.ReservedBitsRefused : Prop :=
  ∀ (c : Instr) (sp : Spec) (m : Nat) (e : Entry) (s : State), c.command? = some (sp, m, e) →
    s.canConsume m = true → reservedSet (some sp) m e = true →
    ∃ t, exec c s = .next t ∧ OnlyRecorded s t ∧
      Answered sp m e .badCommand .reservedSet (sp.failWords s) s t

/-- Frame g is later than frame f when (g - f) mod 2^48 lies between 1 and 2^47 - 1, and otherwise equal to it or
earlier; 2^48 - 1 is followed by 0, like any other increment; at 8 us, 2^48 frames last between 71 and 72 years.
(R37.) -/
def Obligations.FrameNumbersCompare : Prop :=
  (∀ f g : FrameNo, later g f = true ↔
    1 ≤ ((g.toNat : Int) - f.toNat) % 2 ^ 48 ∧ ((g.toNat : Int) - f.toNat) % 2 ^ 48 ≤ 2 ^ 47 - 1) ∧
  (∀ s t : State, s.clocked = true → s.frm.phase ≠ .stopped → s.frm.started = true → exec .commitInstant s = .next t →
    t.frm.count.toNat = if s.frm.count.toNat = 2 ^ 48 - 1 then 0 else s.frm.count.toNat + 1) ∧
  (71 * 31557600 * 10 ^ 6 < 2 ^ 48 * 8 ∧ 2 ^ 48 * 8 < 72 * 31557600 * 10 ^ 6)

/-- A reset of the PF0 mailbox withdraws neither a period change already proposed nor a firmware activation already
begun, and FRAME.QUERY and FW.QUERY go on reporting their state. (R103.) -/
def Obligations.Pf0ResetKeepsChanges : Prop :=
  ∀ s : State, s.pcieAlive = true → ∃ t, exec (.mailboxReset 0) s = .next t ∧
    t.frm.proposal = s.frm.proposal ∧ t.frm.change = s.frm.change ∧ t.frm.changeCmd = s.frm.changeCmd ∧
    t.mgt.act = s.mgt.act ∧ t.mgt.actCmd = s.mgt.actCmd ∧ t.mgt.actCommit = s.mgt.actCommit ∧
    t.frm.syncWord = s.frm.syncWord ∧ t.frm.configWord = s.frm.configWord ∧ fwQueryWords t = fwQueryWords s

/-- Right after power-on reset every register reads the reset value of its table (Tables 2-7 to 2-10, 3-1, 4-11,
5-9, 9-7, 10-5, 11-9, 14-4, 15-12, 16-7); every partition is ABSENT and every context FREE, no ticket,
operation, span or job exists, IDCODE is the loaded JTAG instruction, and nothing waits. What memory reads
before its first write is the model's choice and not stated here (log entry 5); that the three memories list
nothing, in canonical form, is. (R12, R66, R76, R130, R160, R263, R297, R330, R405, R438, R464.) -/
def Obligations.ResetValues : Prop :=
  (∀ fn : Fin 17, [0x00, 0x08, 0x10, 0x18, 0x20, 0x28, 0x30, 0x38, 0x40, 0x48, 0x50].map (fun o => State.reset.regRead
      fn.val (.mbx o)) =
    [some 0, some 0, some 0, some 0, some 0, some 0, some 0x2000, some 0x0101, some 0, some 0, some 0]) ∧
  ([Reg.count, .config, .sync, .xlt 0 0, .xlt 0 8, .xlt 0 16, .xlt 1 0, .xlt 1 8, .xlt 1 16, .plnPass, .plnEvents].map
      (State.reset.regRead 0) =
    [some 0, some 2, some 0, some 0, some 0, some 384, some 0, some 0, some 384, some 0, some 0]) ∧
  (∀ p : Fin 16, [Reg.frmStatus p.val, .seq p.val 0, .seq p.val 8, .seq p.val 16, .plnStatus p.val, .pwrPart p.val
      0x00, .pwrPart p.val 0x08,
      .pwrPart p.val 0x10, .pwrPart p.val 0x18].map (State.reset.regRead 0) =
    [some 0x10000000, some 0, some 0, some 0, some 0, some 0, some 0, some 0, some 0]) ∧
  (∀ e : Fin 17, State.reset.regRead 0 (.engine e.val) = some (if e.val = 16 then 0xF9 else 0xF8)) ∧
  (∀ p q : Fin 16, State.reset.regRead 0 (.cq p.val q.val) = some 0x10000000) ∧
  (∀ i : Fin 16, [0x00, 0x08, 0x10, 0x18, 0x40, 0x48, 0x50, 0x58, 0x60, 0x68, 0x70, 0x78].map (fun o =>
      State.reset.regRead 0 (.plk i.val o)) =
    List.replicate 12 (some 0)) ∧
  ([Reg.pwr 0x00, .pwr 0x08, .pwr 0x10, .pwr 0x18, .mgtStatus, .mgtLog, .atbReset, .atbState].map (State.reset.regRead
      0) =
    [some 100, some 0x40000, some 80000, some 0, some 0, some 0, some 0, some 0]) ∧
  (∀ p c m : Nat, (State.reset.part p).state = .absent ∧ (State.reset.ctx p c).state = .free ∧ (State.reset.mb
      m).tickets = [] ∧
    State.reset.seq.ops = [] ∧ State.reset.ten.spans = [] ∧ State.reset.adm.jobs = [] ∧ State.reset.por.jtag = 0x01 ∧
    State.reset.pending = [] ∧ State.reset.dram.wf = true ∧ State.reset.spad.wf = true ∧ State.reset.host.wf = true)

/-- Choesk checks a consumed command in the order of R88 and reports the first failure only: after the reserved bits
come the mailbox (NOT_PERMITTED), the ticket (DUPLICATE_TICKET, an interim record that leaves the active ticket
as it was), COST and argument ranges (OUT_OF_RANGE), the state of the partition (PARTITION_DOWN) and the context
it acts for (BAD_HANDLE, BAD_STATE). Each such record is all the command does. (R88, R89, R122.) -/
def Obligations.CommandChecksInOrder : Prop :=
  (∀ (c : Instr) (sp : Spec) (m : Nat) (e : Entry) (s : State), c.command? = some (sp, m, e) →
    s.canConsume m = true → reservedSet (some sp) m e = false → sp.permitted m = false →
    ∃ t, exec c s = .next t ∧ OnlyRecorded s t ∧ Answered sp m e .badCommand .notPermitted (sp.failWords s) s t) ∧
  (∀ (c : Instr) (sp : Spec) (m : Nat) (e : Entry) (s : State), c.command? = some (sp, m, e) →
    s.canConsume m = true → reservedSet (some sp) m e = false → sp.permitted m = true →
    (s.mb m).tickets.any (fun t => t.cmd.ticket == e.ticket) = true →
    ∃ t, exec c s = .next t ∧ OnlyRecorded s t ∧ (t.mb m).tickets = (s.mb m).tickets ∧
      (t.mb m).staged = (s.mb m).staged ++
          [{ cmd := cmdIdOf s.nextUid m sp.opcode e, oc := .badCommand, reason := .duplicateTicket, words := sp.failWords s, final := false, frame := s.frm.count }])
          ∧
  (∀ (c : Instr) (sp : Spec) (m : Nat) (e : Entry) (s : State), c.command? = some (sp, m, e) →
    s.canConsume m = true → reservedSet (some sp) m e = false → sp.permitted m = true →
    (s.mb m).tickets.any (fun t => t.cmd.ticket == e.ticket) = false →
    ((e.cost != 0) ≠ decide (sp.cls = .j) ∨ sp.inRange m e.args (s.entered m sp.opcode e) = false) →
    ∃ t, exec c s = .next t ∧ OnlyRecorded s t ∧ Answered sp m e .badCommand .outOfRange (sp.failWords s) s t) ∧
  (∀ (c : Instr) (sp : Spec) (m : Nat) (e : Entry) (s : State), c.command? = some (sp, m, e) →
    s.canConsume m = true → reservedSet (some sp) m e = false → sp.permitted m = true →
    (s.mb m).tickets.any (fun t => t.cmd.ticket == e.ticket) = false →
    (e.cost != 0) = decide (sp.cls = .j) → sp.inRange m e.args (s.entered m sp.opcode e) = true →
    (sp.part m e.args).any (fun p => stateRefuses sp.cls (s.part p).state) = true →
    ∃ t, exec c s = .next t ∧ OnlyRecorded s t ∧ Answered sp m e .refused .partitionDown (sp.failWords s) s t) ∧
  (∀ (c : Instr) (sp : Spec) (m : Nat) (e : Entry) (s : State) (rs : Reason), c.command? = some (sp, m, e) →
    s.canConsume m = true → reservedSet (some sp) m e = false → sp.permitted m = true →
    (s.mb m).tickets.any (fun t => t.cmd.ticket == e.ticket) = false →
    (e.cost != 0) = decide (sp.cls = .j) → sp.inRange m e.args (s.entered m sp.opcode e) = true →
    (sp.part m e.args).any (fun p => stateRefuses sp.cls (s.part p).state) = false →
    ctxCheck (sp.acts e.args) (s.ctx (sp.on m e) e.ctx.toNat).state = some rs →
    ∃ t, exec c s = .next t ∧ OnlyRecorded s t ∧ Answered sp m e .badCommand rs (sp.failWords s) s t)

/-- DEV.INFO is accepted on every mailbox (PF0, the virtual functions and the service mailbox) in every partition state,
and word 0 of its result reports the release (major and minor) and the mailbox interface level of the Choesk that runs.
(R5.) -/
def Obligations.DevInfoAnswersEverywhere : Prop :=
  ∀ (m : Fin 18) (e : Entry) (s : State), s.canConsume m.val = true → reservedSet (some specDevInfo) m.val e = false →
    (s.mb m.val).tickets.any (fun t => t.cmd.ticket == e.ticket) = false → e.cost = 0 →
    (s.mb m.val).tickets.length < ticketLimit m.val →
    ∃ t ws, exec (.devInfo m e) s = .next t ∧ OnlyRecorded s t ∧ Answered specDevInfo m.val e .done .none ws s t ∧
      fld (ws.getD 0 0) 0 8 = s.mgt.running.level.toNat ∧ fld (ws.getD 0 0) 8 8 = s.mgt.running.major.toNat ∧
      fld (ws.getD 0 0) 16 8 = s.mgt.running.minor.toNat

/-- While a change is proposed or markers carry CHANGE_PENDING, FRAME.SET_PERIOD on the master ends BAD_COMMAND with
reason BAD_STATE, changes nothing of the change in progress, and word 0 holds its CHANGE_FRAME, or 0 while it is
only proposed. (R62, R65.) -/
def Obligations.SetPeriodDuringChange : Prop :=
  ∀ (m : Fin 18) (e : Entry) (s : State), Accepted specFrameSetPeriod m.val e s → (s.frm.role = .master ∨ s.frm.role =
      .standalone) →
    (s.frm.proposal ≠ none ∨ s.frm.change ≠ none) →
    ∃ t, exec (.frameSetPeriod m e) s = .next t ∧ OnlyRecorded s t ∧
      Answered specFrameSetPeriod m.val e .badCommand .badState
        [word [(0, match s.frm.change with
          | some x => x.frame.toNat
          | none => 0)]] s t

/-- Loss of a fabric reference while a rail group is enabled is a sequence fault: cold reset, cause 2, FAULT_GROUP
7, and a retry unless it is the third in a row; loss of the PCIe reference takes only the link down, and its
return sends what the PCIE domain held and brings the link back to Detect while PERST_N is high. (R34, R442, R477.)
-/
def Obligations.ReferenceClockLoss : Prop :=
  (∀ s : State, s.por.enables ≠ 0 → ∃ t, exec .fabricRefclkLoss s = .next t ∧ t.por.bring = .off ∧ t.por.enables = 0 ∧
      t.por.cause = 2 ∧ t.por.faultGroup = 7 ∧
    t.por.faults.toNat = min 3 (s.por.faults.toNat + 1) ∧ t.por.lockedOff = decide (2 ≤ s.por.faults.toNat) ∧
    t.por.retryWait = decide (s.por.faults.toNat < 2) ∧ t.fuse = s.fuse ∧ t.flash = s.flash ∧ t.host = s.host ∧ t.mbx
        = [] ∧ t.seq = {} ∧ t.ten = {}) ∧
  (∀ s : State, s.por.enables = 0 → exec .fabricRefclkLoss s = .next s) ∧
  (∀ s : State, exec (.pcieRefclkLoss true) s = .next { s with
      pcie := { s.pcie with refclk := false, link := .down } }) ∧
  (∀ s : State, s.pcie.held = [] ∨ s.pcie.refclk = true → exec (.pcieRefclkLoss false) s = .next { s with
      pcie := { s.pcie with refclk := true, link := if s.pcie.perstLow then s.pcie.link else .detect } }) ∧
  (∀ s : State, s.pcie.refclk = false → exec (.pcieRefclkLoss false) s = .next { s with
      pcie := { s.pcie with refclk := true, held := [], link := if s.pcie.perstLow then s.pcie.link else .detect }
      out := s.out ++ s.pcie.held.map HostTlp.output })

end
end

