-- ==== Sys2Proof/Laws/State.lean ====
section
/-! SUPPORT. One lemma for each field and each update of the state: the field written holds what was written, every other
field, and every record read through another field, is as before. All are true by definition. -/

namespace Sys2Proof.Machine

variable (s : State)

/-! ### State.updMb -/

@[simp] theorem State.updMb_fuse (m : Nat) (f : Mailbox → Mailbox) : (s.updMb m f).fuse = s.fuse := rfl
@[simp] theorem State.updMb_flash (m : Nat) (f : Mailbox → Mailbox) : (s.updMb m f).flash = s.flash := rfl
@[simp] theorem State.updMb_por (m : Nat) (f : Mailbox → Mailbox) : (s.updMb m f).por = s.por := rfl
@[simp] theorem State.updMb_mgt (m : Nat) (f : Mailbox → Mailbox) : (s.updMb m f).mgt = s.mgt := rfl
@[simp] theorem State.updMb_frm (m : Nat) (f : Mailbox → Mailbox) : (s.updMb m f).frm = s.frm := rfl
@[simp] theorem State.updMb_pcie (m : Nat) (f : Mailbox → Mailbox) : (s.updMb m f).pcie = s.pcie := rfl
@[simp] theorem State.updMb_nextUid (m : Nat) (f : Mailbox → Mailbox) : (s.updMb m f).nextUid = s.nextUid := rfl
@[simp] theorem State.updMb_adm (m : Nat) (f : Mailbox → Mailbox) : (s.updMb m f).adm = s.adm := rfl
@[simp] theorem State.updMb_ten (m : Nat) (f : Mailbox → Mailbox) : (s.updMb m f).ten = s.ten := rfl
@[simp] theorem State.updMb_xlt (m : Nat) (f : Mailbox → Mailbox) : (s.updMb m f).xlt = s.xlt := rfl
@[simp] theorem State.updMb_seq (m : Nat) (f : Mailbox → Mailbox) : (s.updMb m f).seq = s.seq := rfl
@[simp] theorem State.updMb_kv (m : Nat) (f : Mailbox → Mailbox) : (s.updMb m f).kv = s.kv := rfl
@[simp] theorem State.updMb_sfu (m : Nat) (f : Mailbox → Mailbox) : (s.updMb m f).sfu = s.sfu := rfl
@[simp] theorem State.updMb_builtins (m : Nat) (f : Mailbox → Mailbox) : (s.updMb m f).builtins = s.builtins := rfl
@[simp] theorem State.updMb_pln (m : Nat) (f : Mailbox → Mailbox) : (s.updMb m f).pln = s.pln := rfl
@[simp] theorem State.updMb_red (m : Nat) (f : Mailbox → Mailbox) : (s.updMb m f).red = s.red := rfl
@[simp] theorem State.updMb_plk (m : Nat) (f : Mailbox → Mailbox) : (s.updMb m f).plk = s.plk := rfl
@[simp] theorem State.updMb_fab (m : Nat) (f : Mailbox → Mailbox) : (s.updMb m f).fab = s.fab := rfl
@[simp] theorem State.updMb_pwr (m : Nat) (f : Mailbox → Mailbox) : (s.updMb m f).pwr = s.pwr := rfl
@[simp] theorem State.updMb_dram (m : Nat) (f : Mailbox → Mailbox) : (s.updMb m f).dram = s.dram := rfl
@[simp] theorem State.updMb_spad (m : Nat) (f : Mailbox → Mailbox) : (s.updMb m f).spad = s.spad := rfl
@[simp] theorem State.updMb_host (m : Nat) (f : Mailbox → Mailbox) : (s.updMb m f).host = s.host := rfl
@[simp] theorem State.updMb_out (m : Nat) (f : Mailbox → Mailbox) : (s.updMb m f).out = s.out := rfl
@[simp] theorem State.updMb_free (m : Nat) (f : Mailbox → Mailbox) : (s.updMb m f).free = s.free := rfl
@[simp] theorem State.updMb_pending (m : Nat) (f : Mailbox → Mailbox) : (s.updMb m f).pending = s.pending := rfl
@[simp] theorem State.updMb_part (m : Nat) (f : Mailbox → Mailbox) (j : Nat) : (s.updMb m f).part j = s.part j := rfl
@[simp] theorem State.updMb_ctx (m : Nat) (f : Mailbox → Mailbox) (j k : Nat) :
    (s.updMb m f).ctx j k = s.ctx j k := rfl
@[simp] theorem State.updMb_frmp (m : Nat) (f : Mailbox → Mailbox) (j : Nat) : (s.updMb m f).frmp j = s.frmp j := rfl
@[simp] theorem State.updMb_admp (m : Nat) (f : Mailbox → Mailbox) (j : Nat) : (s.updMb m f).admp j = s.admp j := rfl
@[simp] theorem State.updMb_seqp (m : Nat) (f : Mailbox → Mailbox) (j : Nat) : (s.updMb m f).seqp j = s.seqp j := rfl
@[simp] theorem State.updMb_pwrp (m : Nat) (f : Mailbox → Mailbox) (j : Nat) : (s.updMb m f).pwrp j = s.pwrp j := rfl
@[simp] theorem State.updMb_plnp (m : Nat) (f : Mailbox → Mailbox) (j : Nat) : (s.updMb m f).plnp j = s.plnp j := rfl
@[simp] theorem State.updMb_port (m : Nat) (f : Mailbox → Mailbox) (j : Nat) : (s.updMb m f).port j = s.port j := rfl
@[simp] theorem State.updMb_work (m : Nat) (f : Mailbox → Mailbox) (j : Nat) : (s.updMb m f).work j = s.work j := rfl
@[simp] theorem State.updMb_fn (m : Nat) (f : Mailbox → Mailbox) (j : Nat) : (s.updMb m f).fn j = s.fn j := rfl
@[simp] theorem State.updMb_self (m : Nat) (f : Mailbox → Mailbox) : (s.updMb m f).self = s.self := rfl
@[simp] theorem State.updMb_clocked (m : Nat) (f : Mailbox → Mailbox) : (s.updMb m f).clocked = s.clocked := rfl
@[simp] theorem State.updMb_fnExists (m : Nat) (f : Mailbox → Mailbox) (j : Nat) :
    (s.updMb m f).fnExists j = s.fnExists j := rfl
@[simp] theorem State.updMb_rowOwner (m : Nat) (f : Mailbox → Mailbox) (j : Nat) :
    (s.updMb m f).rowOwner j = s.rowOwner j := rfl
@[simp] theorem State.updMb_serving (m : Nat) (f : Mailbox → Mailbox) : (s.updMb m f).serving = s.serving := rfl

/-! ### State.updPart -/

@[simp] theorem State.updPart_fuse (p : Nat) (f : Part → Part) : (s.updPart p f).fuse = s.fuse := rfl
@[simp] theorem State.updPart_flash (p : Nat) (f : Part → Part) : (s.updPart p f).flash = s.flash := rfl
@[simp] theorem State.updPart_por (p : Nat) (f : Part → Part) : (s.updPart p f).por = s.por := rfl
@[simp] theorem State.updPart_mgt (p : Nat) (f : Part → Part) : (s.updPart p f).mgt = s.mgt := rfl
@[simp] theorem State.updPart_frm (p : Nat) (f : Part → Part) : (s.updPart p f).frm = s.frm := rfl
@[simp] theorem State.updPart_pcie (p : Nat) (f : Part → Part) : (s.updPart p f).pcie = s.pcie := rfl
@[simp] theorem State.updPart_mbx (p : Nat) (f : Part → Part) : (s.updPart p f).mbx = s.mbx := rfl
@[simp] theorem State.updPart_nextUid (p : Nat) (f : Part → Part) : (s.updPart p f).nextUid = s.nextUid := rfl
@[simp] theorem State.updPart_adm (p : Nat) (f : Part → Part) : (s.updPart p f).adm = s.adm := rfl
@[simp] theorem State.updPart_xlt (p : Nat) (f : Part → Part) : (s.updPart p f).xlt = s.xlt := rfl
@[simp] theorem State.updPart_seq (p : Nat) (f : Part → Part) : (s.updPart p f).seq = s.seq := rfl
@[simp] theorem State.updPart_kv (p : Nat) (f : Part → Part) : (s.updPart p f).kv = s.kv := rfl
@[simp] theorem State.updPart_sfu (p : Nat) (f : Part → Part) : (s.updPart p f).sfu = s.sfu := rfl
@[simp] theorem State.updPart_builtins (p : Nat) (f : Part → Part) : (s.updPart p f).builtins = s.builtins := rfl
@[simp] theorem State.updPart_pln (p : Nat) (f : Part → Part) : (s.updPart p f).pln = s.pln := rfl
@[simp] theorem State.updPart_red (p : Nat) (f : Part → Part) : (s.updPart p f).red = s.red := rfl
@[simp] theorem State.updPart_plk (p : Nat) (f : Part → Part) : (s.updPart p f).plk = s.plk := rfl
@[simp] theorem State.updPart_fab (p : Nat) (f : Part → Part) : (s.updPart p f).fab = s.fab := rfl
@[simp] theorem State.updPart_pwr (p : Nat) (f : Part → Part) : (s.updPart p f).pwr = s.pwr := rfl
@[simp] theorem State.updPart_dram (p : Nat) (f : Part → Part) : (s.updPart p f).dram = s.dram := rfl
@[simp] theorem State.updPart_spad (p : Nat) (f : Part → Part) : (s.updPart p f).spad = s.spad := rfl
@[simp] theorem State.updPart_host (p : Nat) (f : Part → Part) : (s.updPart p f).host = s.host := rfl
@[simp] theorem State.updPart_out (p : Nat) (f : Part → Part) : (s.updPart p f).out = s.out := rfl
@[simp] theorem State.updPart_free (p : Nat) (f : Part → Part) : (s.updPart p f).free = s.free := rfl
@[simp] theorem State.updPart_pending (p : Nat) (f : Part → Part) : (s.updPart p f).pending = s.pending := rfl
@[simp] theorem State.updPart_mb (p : Nat) (f : Part → Part) (j : Nat) : (s.updPart p f).mb j = s.mb j := rfl
@[simp] theorem State.updPart_frmp (p : Nat) (f : Part → Part) (j : Nat) : (s.updPart p f).frmp j = s.frmp j := rfl
@[simp] theorem State.updPart_admp (p : Nat) (f : Part → Part) (j : Nat) : (s.updPart p f).admp j = s.admp j := rfl
@[simp] theorem State.updPart_seqp (p : Nat) (f : Part → Part) (j : Nat) : (s.updPart p f).seqp j = s.seqp j := rfl
@[simp] theorem State.updPart_pwrp (p : Nat) (f : Part → Part) (j : Nat) : (s.updPart p f).pwrp j = s.pwrp j := rfl
@[simp] theorem State.updPart_plnp (p : Nat) (f : Part → Part) (j : Nat) : (s.updPart p f).plnp j = s.plnp j := rfl
@[simp] theorem State.updPart_port (p : Nat) (f : Part → Part) (j : Nat) : (s.updPart p f).port j = s.port j := rfl
@[simp] theorem State.updPart_work (p : Nat) (f : Part → Part) (j : Nat) : (s.updPart p f).work j = s.work j := rfl
@[simp] theorem State.updPart_fn (p : Nat) (f : Part → Part) (j : Nat) : (s.updPart p f).fn j = s.fn j := rfl
@[simp] theorem State.updPart_self (p : Nat) (f : Part → Part) : (s.updPart p f).self = s.self := rfl
@[simp] theorem State.updPart_clocked (p : Nat) (f : Part → Part) : (s.updPart p f).clocked = s.clocked := rfl
@[simp] theorem State.updPart_fnExists (p : Nat) (f : Part → Part) (j : Nat) :
    (s.updPart p f).fnExists j = s.fnExists j := rfl
@[simp] theorem State.updPart_serving (p : Nat) (f : Part → Part) : (s.updPart p f).serving = s.serving := rfl

/-! ### State.updCtx -/

@[simp] theorem State.updCtx_fuse (p c : Nat) (f : Ctx → Ctx) : (s.updCtx p c f).fuse = s.fuse := rfl
@[simp] theorem State.updCtx_flash (p c : Nat) (f : Ctx → Ctx) : (s.updCtx p c f).flash = s.flash := rfl
@[simp] theorem State.updCtx_por (p c : Nat) (f : Ctx → Ctx) : (s.updCtx p c f).por = s.por := rfl
@[simp] theorem State.updCtx_mgt (p c : Nat) (f : Ctx → Ctx) : (s.updCtx p c f).mgt = s.mgt := rfl
@[simp] theorem State.updCtx_frm (p c : Nat) (f : Ctx → Ctx) : (s.updCtx p c f).frm = s.frm := rfl
@[simp] theorem State.updCtx_pcie (p c : Nat) (f : Ctx → Ctx) : (s.updCtx p c f).pcie = s.pcie := rfl
@[simp] theorem State.updCtx_mbx (p c : Nat) (f : Ctx → Ctx) : (s.updCtx p c f).mbx = s.mbx := rfl
@[simp] theorem State.updCtx_nextUid (p c : Nat) (f : Ctx → Ctx) : (s.updCtx p c f).nextUid = s.nextUid := rfl
@[simp] theorem State.updCtx_adm (p c : Nat) (f : Ctx → Ctx) : (s.updCtx p c f).adm = s.adm := rfl
@[simp] theorem State.updCtx_xlt (p c : Nat) (f : Ctx → Ctx) : (s.updCtx p c f).xlt = s.xlt := rfl
@[simp] theorem State.updCtx_seq (p c : Nat) (f : Ctx → Ctx) : (s.updCtx p c f).seq = s.seq := rfl
@[simp] theorem State.updCtx_kv (p c : Nat) (f : Ctx → Ctx) : (s.updCtx p c f).kv = s.kv := rfl
@[simp] theorem State.updCtx_sfu (p c : Nat) (f : Ctx → Ctx) : (s.updCtx p c f).sfu = s.sfu := rfl
@[simp] theorem State.updCtx_builtins (p c : Nat) (f : Ctx → Ctx) : (s.updCtx p c f).builtins = s.builtins := rfl
@[simp] theorem State.updCtx_pln (p c : Nat) (f : Ctx → Ctx) : (s.updCtx p c f).pln = s.pln := rfl
@[simp] theorem State.updCtx_red (p c : Nat) (f : Ctx → Ctx) : (s.updCtx p c f).red = s.red := rfl
@[simp] theorem State.updCtx_plk (p c : Nat) (f : Ctx → Ctx) : (s.updCtx p c f).plk = s.plk := rfl
@[simp] theorem State.updCtx_fab (p c : Nat) (f : Ctx → Ctx) : (s.updCtx p c f).fab = s.fab := rfl
@[simp] theorem State.updCtx_pwr (p c : Nat) (f : Ctx → Ctx) : (s.updCtx p c f).pwr = s.pwr := rfl
@[simp] theorem State.updCtx_dram (p c : Nat) (f : Ctx → Ctx) : (s.updCtx p c f).dram = s.dram := rfl
@[simp] theorem State.updCtx_spad (p c : Nat) (f : Ctx → Ctx) : (s.updCtx p c f).spad = s.spad := rfl
@[simp] theorem State.updCtx_host (p c : Nat) (f : Ctx → Ctx) : (s.updCtx p c f).host = s.host := rfl
@[simp] theorem State.updCtx_out (p c : Nat) (f : Ctx → Ctx) : (s.updCtx p c f).out = s.out := rfl
@[simp] theorem State.updCtx_free (p c : Nat) (f : Ctx → Ctx) : (s.updCtx p c f).free = s.free := rfl
@[simp] theorem State.updCtx_pending (p c : Nat) (f : Ctx → Ctx) : (s.updCtx p c f).pending = s.pending := rfl
@[simp] theorem State.updCtx_mb (p c : Nat) (f : Ctx → Ctx) (j : Nat) : (s.updCtx p c f).mb j = s.mb j := rfl
@[simp] theorem State.updCtx_frmp (p c : Nat) (f : Ctx → Ctx) (j : Nat) : (s.updCtx p c f).frmp j = s.frmp j := rfl
@[simp] theorem State.updCtx_admp (p c : Nat) (f : Ctx → Ctx) (j : Nat) : (s.updCtx p c f).admp j = s.admp j := rfl
@[simp] theorem State.updCtx_seqp (p c : Nat) (f : Ctx → Ctx) (j : Nat) : (s.updCtx p c f).seqp j = s.seqp j := rfl
@[simp] theorem State.updCtx_pwrp (p c : Nat) (f : Ctx → Ctx) (j : Nat) : (s.updCtx p c f).pwrp j = s.pwrp j := rfl
@[simp] theorem State.updCtx_plnp (p c : Nat) (f : Ctx → Ctx) (j : Nat) : (s.updCtx p c f).plnp j = s.plnp j := rfl
@[simp] theorem State.updCtx_port (p c : Nat) (f : Ctx → Ctx) (j : Nat) : (s.updCtx p c f).port j = s.port j := rfl
@[simp] theorem State.updCtx_work (p c : Nat) (f : Ctx → Ctx) (j : Nat) : (s.updCtx p c f).work j = s.work j := rfl
@[simp] theorem State.updCtx_fn (p c : Nat) (f : Ctx → Ctx) (j : Nat) : (s.updCtx p c f).fn j = s.fn j := rfl
@[simp] theorem State.updCtx_self (p c : Nat) (f : Ctx → Ctx) : (s.updCtx p c f).self = s.self := rfl
@[simp] theorem State.updCtx_clocked (p c : Nat) (f : Ctx → Ctx) : (s.updCtx p c f).clocked = s.clocked := rfl
@[simp] theorem State.updCtx_fnExists (p c : Nat) (f : Ctx → Ctx) (j : Nat) :
    (s.updCtx p c f).fnExists j = s.fnExists j := rfl
@[simp] theorem State.updCtx_serving (p c : Nat) (f : Ctx → Ctx) : (s.updCtx p c f).serving = s.serving := rfl

/-! ### State.updFrmp -/

@[simp] theorem State.updFrmp_fuse (p : Nat) (f : FrmPart → FrmPart) : (s.updFrmp p f).fuse = s.fuse := rfl
@[simp] theorem State.updFrmp_flash (p : Nat) (f : FrmPart → FrmPart) : (s.updFrmp p f).flash = s.flash := rfl
@[simp] theorem State.updFrmp_por (p : Nat) (f : FrmPart → FrmPart) : (s.updFrmp p f).por = s.por := rfl
@[simp] theorem State.updFrmp_mgt (p : Nat) (f : FrmPart → FrmPart) : (s.updFrmp p f).mgt = s.mgt := rfl
@[simp] theorem State.updFrmp_pcie (p : Nat) (f : FrmPart → FrmPart) : (s.updFrmp p f).pcie = s.pcie := rfl
@[simp] theorem State.updFrmp_mbx (p : Nat) (f : FrmPart → FrmPart) : (s.updFrmp p f).mbx = s.mbx := rfl
@[simp] theorem State.updFrmp_nextUid (p : Nat) (f : FrmPart → FrmPart) : (s.updFrmp p f).nextUid = s.nextUid := rfl
@[simp] theorem State.updFrmp_adm (p : Nat) (f : FrmPart → FrmPart) : (s.updFrmp p f).adm = s.adm := rfl
@[simp] theorem State.updFrmp_ten (p : Nat) (f : FrmPart → FrmPart) : (s.updFrmp p f).ten = s.ten := rfl
@[simp] theorem State.updFrmp_xlt (p : Nat) (f : FrmPart → FrmPart) : (s.updFrmp p f).xlt = s.xlt := rfl
@[simp] theorem State.updFrmp_seq (p : Nat) (f : FrmPart → FrmPart) : (s.updFrmp p f).seq = s.seq := rfl
@[simp] theorem State.updFrmp_kv (p : Nat) (f : FrmPart → FrmPart) : (s.updFrmp p f).kv = s.kv := rfl
@[simp] theorem State.updFrmp_sfu (p : Nat) (f : FrmPart → FrmPart) : (s.updFrmp p f).sfu = s.sfu := rfl
@[simp] theorem State.updFrmp_builtins (p : Nat) (f : FrmPart → FrmPart) :
    (s.updFrmp p f).builtins = s.builtins := rfl
@[simp] theorem State.updFrmp_pln (p : Nat) (f : FrmPart → FrmPart) : (s.updFrmp p f).pln = s.pln := rfl
@[simp] theorem State.updFrmp_red (p : Nat) (f : FrmPart → FrmPart) : (s.updFrmp p f).red = s.red := rfl
@[simp] theorem State.updFrmp_plk (p : Nat) (f : FrmPart → FrmPart) : (s.updFrmp p f).plk = s.plk := rfl
@[simp] theorem State.updFrmp_fab (p : Nat) (f : FrmPart → FrmPart) : (s.updFrmp p f).fab = s.fab := rfl
@[simp] theorem State.updFrmp_pwr (p : Nat) (f : FrmPart → FrmPart) : (s.updFrmp p f).pwr = s.pwr := rfl
@[simp] theorem State.updFrmp_dram (p : Nat) (f : FrmPart → FrmPart) : (s.updFrmp p f).dram = s.dram := rfl
@[simp] theorem State.updFrmp_spad (p : Nat) (f : FrmPart → FrmPart) : (s.updFrmp p f).spad = s.spad := rfl
@[simp] theorem State.updFrmp_host (p : Nat) (f : FrmPart → FrmPart) : (s.updFrmp p f).host = s.host := rfl
@[simp] theorem State.updFrmp_out (p : Nat) (f : FrmPart → FrmPart) : (s.updFrmp p f).out = s.out := rfl
@[simp] theorem State.updFrmp_free (p : Nat) (f : FrmPart → FrmPart) : (s.updFrmp p f).free = s.free := rfl
@[simp] theorem State.updFrmp_pending (p : Nat) (f : FrmPart → FrmPart) : (s.updFrmp p f).pending = s.pending := rfl
@[simp] theorem State.updFrmp_mb (p : Nat) (f : FrmPart → FrmPart) (j : Nat) : (s.updFrmp p f).mb j = s.mb j := rfl
@[simp] theorem State.updFrmp_part (p : Nat) (f : FrmPart → FrmPart) (j : Nat) :
    (s.updFrmp p f).part j = s.part j := rfl
@[simp] theorem State.updFrmp_ctx (p : Nat) (f : FrmPart → FrmPart) (j k : Nat) :
    (s.updFrmp p f).ctx j k = s.ctx j k := rfl
@[simp] theorem State.updFrmp_admp (p : Nat) (f : FrmPart → FrmPart) (j : Nat) :
    (s.updFrmp p f).admp j = s.admp j := rfl
@[simp] theorem State.updFrmp_seqp (p : Nat) (f : FrmPart → FrmPart) (j : Nat) :
    (s.updFrmp p f).seqp j = s.seqp j := rfl
@[simp] theorem State.updFrmp_pwrp (p : Nat) (f : FrmPart → FrmPart) (j : Nat) :
    (s.updFrmp p f).pwrp j = s.pwrp j := rfl
@[simp] theorem State.updFrmp_plnp (p : Nat) (f : FrmPart → FrmPart) (j : Nat) :
    (s.updFrmp p f).plnp j = s.plnp j := rfl
@[simp] theorem State.updFrmp_port (p : Nat) (f : FrmPart → FrmPart) (j : Nat) :
    (s.updFrmp p f).port j = s.port j := rfl
@[simp] theorem State.updFrmp_work (p : Nat) (f : FrmPart → FrmPart) (j : Nat) :
    (s.updFrmp p f).work j = s.work j := rfl
@[simp] theorem State.updFrmp_fn (p : Nat) (f : FrmPart → FrmPart) (j : Nat) : (s.updFrmp p f).fn j = s.fn j := rfl
@[simp] theorem State.updFrmp_self (p : Nat) (f : FrmPart → FrmPart) : (s.updFrmp p f).self = s.self := rfl
@[simp] theorem State.updFrmp_clocked (p : Nat) (f : FrmPart → FrmPart) : (s.updFrmp p f).clocked = s.clocked := rfl
@[simp] theorem State.updFrmp_fnExists (p : Nat) (f : FrmPart → FrmPart) (j : Nat) :
    (s.updFrmp p f).fnExists j = s.fnExists j := rfl
@[simp] theorem State.updFrmp_rowOwner (p : Nat) (f : FrmPart → FrmPart) (j : Nat) :
    (s.updFrmp p f).rowOwner j = s.rowOwner j := rfl
@[simp] theorem State.updFrmp_serving (p : Nat) (f : FrmPart → FrmPart) : (s.updFrmp p f).serving = s.serving := rfl

/-! ### State.updAdmp -/

@[simp] theorem State.updAdmp_fuse (p : Nat) (f : AdmPart → AdmPart) : (s.updAdmp p f).fuse = s.fuse := rfl
@[simp] theorem State.updAdmp_flash (p : Nat) (f : AdmPart → AdmPart) : (s.updAdmp p f).flash = s.flash := rfl
@[simp] theorem State.updAdmp_por (p : Nat) (f : AdmPart → AdmPart) : (s.updAdmp p f).por = s.por := rfl
@[simp] theorem State.updAdmp_mgt (p : Nat) (f : AdmPart → AdmPart) : (s.updAdmp p f).mgt = s.mgt := rfl
@[simp] theorem State.updAdmp_frm (p : Nat) (f : AdmPart → AdmPart) : (s.updAdmp p f).frm = s.frm := rfl
@[simp] theorem State.updAdmp_pcie (p : Nat) (f : AdmPart → AdmPart) : (s.updAdmp p f).pcie = s.pcie := rfl
@[simp] theorem State.updAdmp_mbx (p : Nat) (f : AdmPart → AdmPart) : (s.updAdmp p f).mbx = s.mbx := rfl
@[simp] theorem State.updAdmp_nextUid (p : Nat) (f : AdmPart → AdmPart) : (s.updAdmp p f).nextUid = s.nextUid := rfl
@[simp] theorem State.updAdmp_ten (p : Nat) (f : AdmPart → AdmPart) : (s.updAdmp p f).ten = s.ten := rfl
@[simp] theorem State.updAdmp_xlt (p : Nat) (f : AdmPart → AdmPart) : (s.updAdmp p f).xlt = s.xlt := rfl
@[simp] theorem State.updAdmp_seq (p : Nat) (f : AdmPart → AdmPart) : (s.updAdmp p f).seq = s.seq := rfl
@[simp] theorem State.updAdmp_kv (p : Nat) (f : AdmPart → AdmPart) : (s.updAdmp p f).kv = s.kv := rfl
@[simp] theorem State.updAdmp_sfu (p : Nat) (f : AdmPart → AdmPart) : (s.updAdmp p f).sfu = s.sfu := rfl
@[simp] theorem State.updAdmp_builtins (p : Nat) (f : AdmPart → AdmPart) :
    (s.updAdmp p f).builtins = s.builtins := rfl
@[simp] theorem State.updAdmp_pln (p : Nat) (f : AdmPart → AdmPart) : (s.updAdmp p f).pln = s.pln := rfl
@[simp] theorem State.updAdmp_red (p : Nat) (f : AdmPart → AdmPart) : (s.updAdmp p f).red = s.red := rfl
@[simp] theorem State.updAdmp_plk (p : Nat) (f : AdmPart → AdmPart) : (s.updAdmp p f).plk = s.plk := rfl
@[simp] theorem State.updAdmp_fab (p : Nat) (f : AdmPart → AdmPart) : (s.updAdmp p f).fab = s.fab := rfl
@[simp] theorem State.updAdmp_pwr (p : Nat) (f : AdmPart → AdmPart) : (s.updAdmp p f).pwr = s.pwr := rfl
@[simp] theorem State.updAdmp_dram (p : Nat) (f : AdmPart → AdmPart) : (s.updAdmp p f).dram = s.dram := rfl
@[simp] theorem State.updAdmp_spad (p : Nat) (f : AdmPart → AdmPart) : (s.updAdmp p f).spad = s.spad := rfl
@[simp] theorem State.updAdmp_host (p : Nat) (f : AdmPart → AdmPart) : (s.updAdmp p f).host = s.host := rfl
@[simp] theorem State.updAdmp_out (p : Nat) (f : AdmPart → AdmPart) : (s.updAdmp p f).out = s.out := rfl
@[simp] theorem State.updAdmp_free (p : Nat) (f : AdmPart → AdmPart) : (s.updAdmp p f).free = s.free := rfl
@[simp] theorem State.updAdmp_pending (p : Nat) (f : AdmPart → AdmPart) : (s.updAdmp p f).pending = s.pending := rfl
@[simp] theorem State.updAdmp_mb (p : Nat) (f : AdmPart → AdmPart) (j : Nat) : (s.updAdmp p f).mb j = s.mb j := rfl
@[simp] theorem State.updAdmp_part (p : Nat) (f : AdmPart → AdmPart) (j : Nat) :
    (s.updAdmp p f).part j = s.part j := rfl
@[simp] theorem State.updAdmp_ctx (p : Nat) (f : AdmPart → AdmPart) (j k : Nat) :
    (s.updAdmp p f).ctx j k = s.ctx j k := rfl
@[simp] theorem State.updAdmp_frmp (p : Nat) (f : AdmPart → AdmPart) (j : Nat) :
    (s.updAdmp p f).frmp j = s.frmp j := rfl
@[simp] theorem State.updAdmp_seqp (p : Nat) (f : AdmPart → AdmPart) (j : Nat) :
    (s.updAdmp p f).seqp j = s.seqp j := rfl
@[simp] theorem State.updAdmp_pwrp (p : Nat) (f : AdmPart → AdmPart) (j : Nat) :
    (s.updAdmp p f).pwrp j = s.pwrp j := rfl
@[simp] theorem State.updAdmp_plnp (p : Nat) (f : AdmPart → AdmPart) (j : Nat) :
    (s.updAdmp p f).plnp j = s.plnp j := rfl
@[simp] theorem State.updAdmp_port (p : Nat) (f : AdmPart → AdmPart) (j : Nat) :
    (s.updAdmp p f).port j = s.port j := rfl
@[simp] theorem State.updAdmp_work (p : Nat) (f : AdmPart → AdmPart) (j : Nat) :
    (s.updAdmp p f).work j = s.work j := rfl
@[simp] theorem State.updAdmp_fn (p : Nat) (f : AdmPart → AdmPart) (j : Nat) : (s.updAdmp p f).fn j = s.fn j := rfl
@[simp] theorem State.updAdmp_self (p : Nat) (f : AdmPart → AdmPart) : (s.updAdmp p f).self = s.self := rfl
@[simp] theorem State.updAdmp_clocked (p : Nat) (f : AdmPart → AdmPart) : (s.updAdmp p f).clocked = s.clocked := rfl
@[simp] theorem State.updAdmp_fnExists (p : Nat) (f : AdmPart → AdmPart) (j : Nat) :
    (s.updAdmp p f).fnExists j = s.fnExists j := rfl
@[simp] theorem State.updAdmp_rowOwner (p : Nat) (f : AdmPart → AdmPart) (j : Nat) :
    (s.updAdmp p f).rowOwner j = s.rowOwner j := rfl
@[simp] theorem State.updAdmp_serving (p : Nat) (f : AdmPart → AdmPart) : (s.updAdmp p f).serving = s.serving := rfl

/-! ### State.updSeqp -/

@[simp] theorem State.updSeqp_fuse (p : Nat) (f : SeqPart → SeqPart) : (s.updSeqp p f).fuse = s.fuse := rfl
@[simp] theorem State.updSeqp_flash (p : Nat) (f : SeqPart → SeqPart) : (s.updSeqp p f).flash = s.flash := rfl
@[simp] theorem State.updSeqp_por (p : Nat) (f : SeqPart → SeqPart) : (s.updSeqp p f).por = s.por := rfl
@[simp] theorem State.updSeqp_mgt (p : Nat) (f : SeqPart → SeqPart) : (s.updSeqp p f).mgt = s.mgt := rfl
@[simp] theorem State.updSeqp_frm (p : Nat) (f : SeqPart → SeqPart) : (s.updSeqp p f).frm = s.frm := rfl
@[simp] theorem State.updSeqp_pcie (p : Nat) (f : SeqPart → SeqPart) : (s.updSeqp p f).pcie = s.pcie := rfl
@[simp] theorem State.updSeqp_mbx (p : Nat) (f : SeqPart → SeqPart) : (s.updSeqp p f).mbx = s.mbx := rfl
@[simp] theorem State.updSeqp_nextUid (p : Nat) (f : SeqPart → SeqPart) : (s.updSeqp p f).nextUid = s.nextUid := rfl
@[simp] theorem State.updSeqp_adm (p : Nat) (f : SeqPart → SeqPart) : (s.updSeqp p f).adm = s.adm := rfl
@[simp] theorem State.updSeqp_ten (p : Nat) (f : SeqPart → SeqPart) : (s.updSeqp p f).ten = s.ten := rfl
@[simp] theorem State.updSeqp_xlt (p : Nat) (f : SeqPart → SeqPart) : (s.updSeqp p f).xlt = s.xlt := rfl
@[simp] theorem State.updSeqp_kv (p : Nat) (f : SeqPart → SeqPart) : (s.updSeqp p f).kv = s.kv := rfl
@[simp] theorem State.updSeqp_sfu (p : Nat) (f : SeqPart → SeqPart) : (s.updSeqp p f).sfu = s.sfu := rfl
@[simp] theorem State.updSeqp_builtins (p : Nat) (f : SeqPart → SeqPart) :
    (s.updSeqp p f).builtins = s.builtins := rfl
@[simp] theorem State.updSeqp_pln (p : Nat) (f : SeqPart → SeqPart) : (s.updSeqp p f).pln = s.pln := rfl
@[simp] theorem State.updSeqp_red (p : Nat) (f : SeqPart → SeqPart) : (s.updSeqp p f).red = s.red := rfl
@[simp] theorem State.updSeqp_plk (p : Nat) (f : SeqPart → SeqPart) : (s.updSeqp p f).plk = s.plk := rfl
@[simp] theorem State.updSeqp_fab (p : Nat) (f : SeqPart → SeqPart) : (s.updSeqp p f).fab = s.fab := rfl
@[simp] theorem State.updSeqp_pwr (p : Nat) (f : SeqPart → SeqPart) : (s.updSeqp p f).pwr = s.pwr := rfl
@[simp] theorem State.updSeqp_dram (p : Nat) (f : SeqPart → SeqPart) : (s.updSeqp p f).dram = s.dram := rfl
@[simp] theorem State.updSeqp_spad (p : Nat) (f : SeqPart → SeqPart) : (s.updSeqp p f).spad = s.spad := rfl
@[simp] theorem State.updSeqp_host (p : Nat) (f : SeqPart → SeqPart) : (s.updSeqp p f).host = s.host := rfl
@[simp] theorem State.updSeqp_out (p : Nat) (f : SeqPart → SeqPart) : (s.updSeqp p f).out = s.out := rfl
@[simp] theorem State.updSeqp_free (p : Nat) (f : SeqPart → SeqPart) : (s.updSeqp p f).free = s.free := rfl
@[simp] theorem State.updSeqp_pending (p : Nat) (f : SeqPart → SeqPart) : (s.updSeqp p f).pending = s.pending := rfl
@[simp] theorem State.updSeqp_mb (p : Nat) (f : SeqPart → SeqPart) (j : Nat) : (s.updSeqp p f).mb j = s.mb j := rfl
@[simp] theorem State.updSeqp_part (p : Nat) (f : SeqPart → SeqPart) (j : Nat) :
    (s.updSeqp p f).part j = s.part j := rfl
@[simp] theorem State.updSeqp_ctx (p : Nat) (f : SeqPart → SeqPart) (j k : Nat) :
    (s.updSeqp p f).ctx j k = s.ctx j k := rfl
@[simp] theorem State.updSeqp_frmp (p : Nat) (f : SeqPart → SeqPart) (j : Nat) :
    (s.updSeqp p f).frmp j = s.frmp j := rfl
@[simp] theorem State.updSeqp_admp (p : Nat) (f : SeqPart → SeqPart) (j : Nat) :
    (s.updSeqp p f).admp j = s.admp j := rfl
@[simp] theorem State.updSeqp_pwrp (p : Nat) (f : SeqPart → SeqPart) (j : Nat) :
    (s.updSeqp p f).pwrp j = s.pwrp j := rfl
@[simp] theorem State.updSeqp_plnp (p : Nat) (f : SeqPart → SeqPart) (j : Nat) :
    (s.updSeqp p f).plnp j = s.plnp j := rfl
@[simp] theorem State.updSeqp_port (p : Nat) (f : SeqPart → SeqPart) (j : Nat) :
    (s.updSeqp p f).port j = s.port j := rfl
@[simp] theorem State.updSeqp_work (p : Nat) (f : SeqPart → SeqPart) (j : Nat) :
    (s.updSeqp p f).work j = s.work j := rfl
@[simp] theorem State.updSeqp_fn (p : Nat) (f : SeqPart → SeqPart) (j : Nat) : (s.updSeqp p f).fn j = s.fn j := rfl
@[simp] theorem State.updSeqp_self (p : Nat) (f : SeqPart → SeqPart) : (s.updSeqp p f).self = s.self := rfl
@[simp] theorem State.updSeqp_clocked (p : Nat) (f : SeqPart → SeqPart) : (s.updSeqp p f).clocked = s.clocked := rfl
@[simp] theorem State.updSeqp_fnExists (p : Nat) (f : SeqPart → SeqPart) (j : Nat) :
    (s.updSeqp p f).fnExists j = s.fnExists j := rfl
@[simp] theorem State.updSeqp_rowOwner (p : Nat) (f : SeqPart → SeqPart) (j : Nat) :
    (s.updSeqp p f).rowOwner j = s.rowOwner j := rfl
@[simp] theorem State.updSeqp_serving (p : Nat) (f : SeqPart → SeqPart) : (s.updSeqp p f).serving = s.serving := rfl

/-! ### State.updPwrp -/

@[simp] theorem State.updPwrp_fuse (p : Nat) (f : PwrPart → PwrPart) : (s.updPwrp p f).fuse = s.fuse := rfl
@[simp] theorem State.updPwrp_flash (p : Nat) (f : PwrPart → PwrPart) : (s.updPwrp p f).flash = s.flash := rfl
@[simp] theorem State.updPwrp_por (p : Nat) (f : PwrPart → PwrPart) : (s.updPwrp p f).por = s.por := rfl
@[simp] theorem State.updPwrp_mgt (p : Nat) (f : PwrPart → PwrPart) : (s.updPwrp p f).mgt = s.mgt := rfl
@[simp] theorem State.updPwrp_frm (p : Nat) (f : PwrPart → PwrPart) : (s.updPwrp p f).frm = s.frm := rfl
@[simp] theorem State.updPwrp_pcie (p : Nat) (f : PwrPart → PwrPart) : (s.updPwrp p f).pcie = s.pcie := rfl
@[simp] theorem State.updPwrp_mbx (p : Nat) (f : PwrPart → PwrPart) : (s.updPwrp p f).mbx = s.mbx := rfl
@[simp] theorem State.updPwrp_nextUid (p : Nat) (f : PwrPart → PwrPart) : (s.updPwrp p f).nextUid = s.nextUid := rfl
@[simp] theorem State.updPwrp_adm (p : Nat) (f : PwrPart → PwrPart) : (s.updPwrp p f).adm = s.adm := rfl
@[simp] theorem State.updPwrp_ten (p : Nat) (f : PwrPart → PwrPart) : (s.updPwrp p f).ten = s.ten := rfl
@[simp] theorem State.updPwrp_xlt (p : Nat) (f : PwrPart → PwrPart) : (s.updPwrp p f).xlt = s.xlt := rfl
@[simp] theorem State.updPwrp_seq (p : Nat) (f : PwrPart → PwrPart) : (s.updPwrp p f).seq = s.seq := rfl
@[simp] theorem State.updPwrp_kv (p : Nat) (f : PwrPart → PwrPart) : (s.updPwrp p f).kv = s.kv := rfl
@[simp] theorem State.updPwrp_sfu (p : Nat) (f : PwrPart → PwrPart) : (s.updPwrp p f).sfu = s.sfu := rfl
@[simp] theorem State.updPwrp_builtins (p : Nat) (f : PwrPart → PwrPart) :
    (s.updPwrp p f).builtins = s.builtins := rfl
@[simp] theorem State.updPwrp_pln (p : Nat) (f : PwrPart → PwrPart) : (s.updPwrp p f).pln = s.pln := rfl
@[simp] theorem State.updPwrp_red (p : Nat) (f : PwrPart → PwrPart) : (s.updPwrp p f).red = s.red := rfl
@[simp] theorem State.updPwrp_plk (p : Nat) (f : PwrPart → PwrPart) : (s.updPwrp p f).plk = s.plk := rfl
@[simp] theorem State.updPwrp_fab (p : Nat) (f : PwrPart → PwrPart) : (s.updPwrp p f).fab = s.fab := rfl
@[simp] theorem State.updPwrp_dram (p : Nat) (f : PwrPart → PwrPart) : (s.updPwrp p f).dram = s.dram := rfl
@[simp] theorem State.updPwrp_spad (p : Nat) (f : PwrPart → PwrPart) : (s.updPwrp p f).spad = s.spad := rfl
@[simp] theorem State.updPwrp_host (p : Nat) (f : PwrPart → PwrPart) : (s.updPwrp p f).host = s.host := rfl
@[simp] theorem State.updPwrp_out (p : Nat) (f : PwrPart → PwrPart) : (s.updPwrp p f).out = s.out := rfl
@[simp] theorem State.updPwrp_free (p : Nat) (f : PwrPart → PwrPart) : (s.updPwrp p f).free = s.free := rfl
@[simp] theorem State.updPwrp_pending (p : Nat) (f : PwrPart → PwrPart) : (s.updPwrp p f).pending = s.pending := rfl
@[simp] theorem State.updPwrp_mb (p : Nat) (f : PwrPart → PwrPart) (j : Nat) : (s.updPwrp p f).mb j = s.mb j := rfl
@[simp] theorem State.updPwrp_part (p : Nat) (f : PwrPart → PwrPart) (j : Nat) :
    (s.updPwrp p f).part j = s.part j := rfl
@[simp] theorem State.updPwrp_ctx (p : Nat) (f : PwrPart → PwrPart) (j k : Nat) :
    (s.updPwrp p f).ctx j k = s.ctx j k := rfl
@[simp] theorem State.updPwrp_frmp (p : Nat) (f : PwrPart → PwrPart) (j : Nat) :
    (s.updPwrp p f).frmp j = s.frmp j := rfl
@[simp] theorem State.updPwrp_admp (p : Nat) (f : PwrPart → PwrPart) (j : Nat) :
    (s.updPwrp p f).admp j = s.admp j := rfl
@[simp] theorem State.updPwrp_seqp (p : Nat) (f : PwrPart → PwrPart) (j : Nat) :
    (s.updPwrp p f).seqp j = s.seqp j := rfl
@[simp] theorem State.updPwrp_plnp (p : Nat) (f : PwrPart → PwrPart) (j : Nat) :
    (s.updPwrp p f).plnp j = s.plnp j := rfl
@[simp] theorem State.updPwrp_port (p : Nat) (f : PwrPart → PwrPart) (j : Nat) :
    (s.updPwrp p f).port j = s.port j := rfl
@[simp] theorem State.updPwrp_work (p : Nat) (f : PwrPart → PwrPart) (j : Nat) :
    (s.updPwrp p f).work j = s.work j := rfl
@[simp] theorem State.updPwrp_fn (p : Nat) (f : PwrPart → PwrPart) (j : Nat) : (s.updPwrp p f).fn j = s.fn j := rfl
@[simp] theorem State.updPwrp_self (p : Nat) (f : PwrPart → PwrPart) : (s.updPwrp p f).self = s.self := rfl
@[simp] theorem State.updPwrp_clocked (p : Nat) (f : PwrPart → PwrPart) : (s.updPwrp p f).clocked = s.clocked := rfl
@[simp] theorem State.updPwrp_fnExists (p : Nat) (f : PwrPart → PwrPart) (j : Nat) :
    (s.updPwrp p f).fnExists j = s.fnExists j := rfl
@[simp] theorem State.updPwrp_rowOwner (p : Nat) (f : PwrPart → PwrPart) (j : Nat) :
    (s.updPwrp p f).rowOwner j = s.rowOwner j := rfl
@[simp] theorem State.updPwrp_serving (p : Nat) (f : PwrPart → PwrPart) : (s.updPwrp p f).serving = s.serving := rfl

/-! ### State.updPlnp -/

@[simp] theorem State.updPlnp_fuse (p : Nat) (f : PlnPart → PlnPart) : (s.updPlnp p f).fuse = s.fuse := rfl
@[simp] theorem State.updPlnp_flash (p : Nat) (f : PlnPart → PlnPart) : (s.updPlnp p f).flash = s.flash := rfl
@[simp] theorem State.updPlnp_por (p : Nat) (f : PlnPart → PlnPart) : (s.updPlnp p f).por = s.por := rfl
@[simp] theorem State.updPlnp_mgt (p : Nat) (f : PlnPart → PlnPart) : (s.updPlnp p f).mgt = s.mgt := rfl
@[simp] theorem State.updPlnp_frm (p : Nat) (f : PlnPart → PlnPart) : (s.updPlnp p f).frm = s.frm := rfl
@[simp] theorem State.updPlnp_pcie (p : Nat) (f : PlnPart → PlnPart) : (s.updPlnp p f).pcie = s.pcie := rfl
@[simp] theorem State.updPlnp_mbx (p : Nat) (f : PlnPart → PlnPart) : (s.updPlnp p f).mbx = s.mbx := rfl
@[simp] theorem State.updPlnp_nextUid (p : Nat) (f : PlnPart → PlnPart) : (s.updPlnp p f).nextUid = s.nextUid := rfl
@[simp] theorem State.updPlnp_adm (p : Nat) (f : PlnPart → PlnPart) : (s.updPlnp p f).adm = s.adm := rfl
@[simp] theorem State.updPlnp_ten (p : Nat) (f : PlnPart → PlnPart) : (s.updPlnp p f).ten = s.ten := rfl
@[simp] theorem State.updPlnp_xlt (p : Nat) (f : PlnPart → PlnPart) : (s.updPlnp p f).xlt = s.xlt := rfl
@[simp] theorem State.updPlnp_seq (p : Nat) (f : PlnPart → PlnPart) : (s.updPlnp p f).seq = s.seq := rfl
@[simp] theorem State.updPlnp_kv (p : Nat) (f : PlnPart → PlnPart) : (s.updPlnp p f).kv = s.kv := rfl
@[simp] theorem State.updPlnp_sfu (p : Nat) (f : PlnPart → PlnPart) : (s.updPlnp p f).sfu = s.sfu := rfl
@[simp] theorem State.updPlnp_builtins (p : Nat) (f : PlnPart → PlnPart) :
    (s.updPlnp p f).builtins = s.builtins := rfl
@[simp] theorem State.updPlnp_red (p : Nat) (f : PlnPart → PlnPart) : (s.updPlnp p f).red = s.red := rfl
@[simp] theorem State.updPlnp_plk (p : Nat) (f : PlnPart → PlnPart) : (s.updPlnp p f).plk = s.plk := rfl
@[simp] theorem State.updPlnp_fab (p : Nat) (f : PlnPart → PlnPart) : (s.updPlnp p f).fab = s.fab := rfl
@[simp] theorem State.updPlnp_pwr (p : Nat) (f : PlnPart → PlnPart) : (s.updPlnp p f).pwr = s.pwr := rfl
@[simp] theorem State.updPlnp_dram (p : Nat) (f : PlnPart → PlnPart) : (s.updPlnp p f).dram = s.dram := rfl
@[simp] theorem State.updPlnp_spad (p : Nat) (f : PlnPart → PlnPart) : (s.updPlnp p f).spad = s.spad := rfl
@[simp] theorem State.updPlnp_host (p : Nat) (f : PlnPart → PlnPart) : (s.updPlnp p f).host = s.host := rfl
@[simp] theorem State.updPlnp_out (p : Nat) (f : PlnPart → PlnPart) : (s.updPlnp p f).out = s.out := rfl
@[simp] theorem State.updPlnp_free (p : Nat) (f : PlnPart → PlnPart) : (s.updPlnp p f).free = s.free := rfl
@[simp] theorem State.updPlnp_pending (p : Nat) (f : PlnPart → PlnPart) : (s.updPlnp p f).pending = s.pending := rfl
@[simp] theorem State.updPlnp_mb (p : Nat) (f : PlnPart → PlnPart) (j : Nat) : (s.updPlnp p f).mb j = s.mb j := rfl
@[simp] theorem State.updPlnp_part (p : Nat) (f : PlnPart → PlnPart) (j : Nat) :
    (s.updPlnp p f).part j = s.part j := rfl
@[simp] theorem State.updPlnp_ctx (p : Nat) (f : PlnPart → PlnPart) (j k : Nat) :
    (s.updPlnp p f).ctx j k = s.ctx j k := rfl
@[simp] theorem State.updPlnp_frmp (p : Nat) (f : PlnPart → PlnPart) (j : Nat) :
    (s.updPlnp p f).frmp j = s.frmp j := rfl
@[simp] theorem State.updPlnp_admp (p : Nat) (f : PlnPart → PlnPart) (j : Nat) :
    (s.updPlnp p f).admp j = s.admp j := rfl
@[simp] theorem State.updPlnp_seqp (p : Nat) (f : PlnPart → PlnPart) (j : Nat) :
    (s.updPlnp p f).seqp j = s.seqp j := rfl
@[simp] theorem State.updPlnp_pwrp (p : Nat) (f : PlnPart → PlnPart) (j : Nat) :
    (s.updPlnp p f).pwrp j = s.pwrp j := rfl
@[simp] theorem State.updPlnp_port (p : Nat) (f : PlnPart → PlnPart) (j : Nat) :
    (s.updPlnp p f).port j = s.port j := rfl
@[simp] theorem State.updPlnp_work (p : Nat) (f : PlnPart → PlnPart) (j : Nat) :
    (s.updPlnp p f).work j = s.work j := rfl
@[simp] theorem State.updPlnp_fn (p : Nat) (f : PlnPart → PlnPart) (j : Nat) : (s.updPlnp p f).fn j = s.fn j := rfl
@[simp] theorem State.updPlnp_self (p : Nat) (f : PlnPart → PlnPart) : (s.updPlnp p f).self = s.self := rfl
@[simp] theorem State.updPlnp_clocked (p : Nat) (f : PlnPart → PlnPart) : (s.updPlnp p f).clocked = s.clocked := rfl
@[simp] theorem State.updPlnp_fnExists (p : Nat) (f : PlnPart → PlnPart) (j : Nat) :
    (s.updPlnp p f).fnExists j = s.fnExists j := rfl
@[simp] theorem State.updPlnp_rowOwner (p : Nat) (f : PlnPart → PlnPart) (j : Nat) :
    (s.updPlnp p f).rowOwner j = s.rowOwner j := rfl
@[simp] theorem State.updPlnp_serving (p : Nat) (f : PlnPart → PlnPart) : (s.updPlnp p f).serving = s.serving := rfl

/-! ### State.updPort -/

@[simp] theorem State.updPort_fuse (i : Nat) (f : Port → Port) : (s.updPort i f).fuse = s.fuse := rfl
@[simp] theorem State.updPort_flash (i : Nat) (f : Port → Port) : (s.updPort i f).flash = s.flash := rfl
@[simp] theorem State.updPort_por (i : Nat) (f : Port → Port) : (s.updPort i f).por = s.por := rfl
@[simp] theorem State.updPort_mgt (i : Nat) (f : Port → Port) : (s.updPort i f).mgt = s.mgt := rfl
@[simp] theorem State.updPort_frm (i : Nat) (f : Port → Port) : (s.updPort i f).frm = s.frm := rfl
@[simp] theorem State.updPort_pcie (i : Nat) (f : Port → Port) : (s.updPort i f).pcie = s.pcie := rfl
@[simp] theorem State.updPort_mbx (i : Nat) (f : Port → Port) : (s.updPort i f).mbx = s.mbx := rfl
@[simp] theorem State.updPort_nextUid (i : Nat) (f : Port → Port) : (s.updPort i f).nextUid = s.nextUid := rfl
@[simp] theorem State.updPort_adm (i : Nat) (f : Port → Port) : (s.updPort i f).adm = s.adm := rfl
@[simp] theorem State.updPort_ten (i : Nat) (f : Port → Port) : (s.updPort i f).ten = s.ten := rfl
@[simp] theorem State.updPort_xlt (i : Nat) (f : Port → Port) : (s.updPort i f).xlt = s.xlt := rfl
@[simp] theorem State.updPort_seq (i : Nat) (f : Port → Port) : (s.updPort i f).seq = s.seq := rfl
@[simp] theorem State.updPort_kv (i : Nat) (f : Port → Port) : (s.updPort i f).kv = s.kv := rfl
@[simp] theorem State.updPort_sfu (i : Nat) (f : Port → Port) : (s.updPort i f).sfu = s.sfu := rfl
@[simp] theorem State.updPort_builtins (i : Nat) (f : Port → Port) : (s.updPort i f).builtins = s.builtins := rfl
@[simp] theorem State.updPort_pln (i : Nat) (f : Port → Port) : (s.updPort i f).pln = s.pln := rfl
@[simp] theorem State.updPort_red (i : Nat) (f : Port → Port) : (s.updPort i f).red = s.red := rfl
@[simp] theorem State.updPort_fab (i : Nat) (f : Port → Port) : (s.updPort i f).fab = s.fab := rfl
@[simp] theorem State.updPort_pwr (i : Nat) (f : Port → Port) : (s.updPort i f).pwr = s.pwr := rfl
@[simp] theorem State.updPort_dram (i : Nat) (f : Port → Port) : (s.updPort i f).dram = s.dram := rfl
@[simp] theorem State.updPort_spad (i : Nat) (f : Port → Port) : (s.updPort i f).spad = s.spad := rfl
@[simp] theorem State.updPort_host (i : Nat) (f : Port → Port) : (s.updPort i f).host = s.host := rfl
@[simp] theorem State.updPort_out (i : Nat) (f : Port → Port) : (s.updPort i f).out = s.out := rfl
@[simp] theorem State.updPort_free (i : Nat) (f : Port → Port) : (s.updPort i f).free = s.free := rfl
@[simp] theorem State.updPort_pending (i : Nat) (f : Port → Port) : (s.updPort i f).pending = s.pending := rfl
@[simp] theorem State.updPort_mb (i : Nat) (f : Port → Port) (j : Nat) : (s.updPort i f).mb j = s.mb j := rfl
@[simp] theorem State.updPort_part (i : Nat) (f : Port → Port) (j : Nat) : (s.updPort i f).part j = s.part j := rfl
@[simp] theorem State.updPort_ctx (i : Nat) (f : Port → Port) (j k : Nat) : (s.updPort i f).ctx j k = s.ctx j k := rfl
@[simp] theorem State.updPort_frmp (i : Nat) (f : Port → Port) (j : Nat) : (s.updPort i f).frmp j = s.frmp j := rfl
@[simp] theorem State.updPort_admp (i : Nat) (f : Port → Port) (j : Nat) : (s.updPort i f).admp j = s.admp j := rfl
@[simp] theorem State.updPort_seqp (i : Nat) (f : Port → Port) (j : Nat) : (s.updPort i f).seqp j = s.seqp j := rfl
@[simp] theorem State.updPort_pwrp (i : Nat) (f : Port → Port) (j : Nat) : (s.updPort i f).pwrp j = s.pwrp j := rfl
@[simp] theorem State.updPort_plnp (i : Nat) (f : Port → Port) (j : Nat) : (s.updPort i f).plnp j = s.plnp j := rfl
@[simp] theorem State.updPort_fn (i : Nat) (f : Port → Port) (j : Nat) : (s.updPort i f).fn j = s.fn j := rfl
@[simp] theorem State.updPort_self (i : Nat) (f : Port → Port) : (s.updPort i f).self = s.self := rfl
@[simp] theorem State.updPort_clocked (i : Nat) (f : Port → Port) : (s.updPort i f).clocked = s.clocked := rfl
@[simp] theorem State.updPort_fnExists (i : Nat) (f : Port → Port) (j : Nat) :
    (s.updPort i f).fnExists j = s.fnExists j := rfl
@[simp] theorem State.updPort_rowOwner (i : Nat) (f : Port → Port) (j : Nat) :
    (s.updPort i f).rowOwner j = s.rowOwner j := rfl
@[simp] theorem State.updPort_serving (i : Nat) (f : Port → Port) : (s.updPort i f).serving = s.serving := rfl

/-! ### State.updWork -/

@[simp] theorem State.updWork_fuse (i : Nat) (f : PortWork → PortWork) : (s.updWork i f).fuse = s.fuse := rfl
@[simp] theorem State.updWork_flash (i : Nat) (f : PortWork → PortWork) : (s.updWork i f).flash = s.flash := rfl
@[simp] theorem State.updWork_por (i : Nat) (f : PortWork → PortWork) : (s.updWork i f).por = s.por := rfl
@[simp] theorem State.updWork_mgt (i : Nat) (f : PortWork → PortWork) : (s.updWork i f).mgt = s.mgt := rfl
@[simp] theorem State.updWork_frm (i : Nat) (f : PortWork → PortWork) : (s.updWork i f).frm = s.frm := rfl
@[simp] theorem State.updWork_pcie (i : Nat) (f : PortWork → PortWork) : (s.updWork i f).pcie = s.pcie := rfl
@[simp] theorem State.updWork_mbx (i : Nat) (f : PortWork → PortWork) : (s.updWork i f).mbx = s.mbx := rfl
@[simp] theorem State.updWork_nextUid (i : Nat) (f : PortWork → PortWork) : (s.updWork i f).nextUid = s.nextUid := rfl
@[simp] theorem State.updWork_adm (i : Nat) (f : PortWork → PortWork) : (s.updWork i f).adm = s.adm := rfl
@[simp] theorem State.updWork_ten (i : Nat) (f : PortWork → PortWork) : (s.updWork i f).ten = s.ten := rfl
@[simp] theorem State.updWork_xlt (i : Nat) (f : PortWork → PortWork) : (s.updWork i f).xlt = s.xlt := rfl
@[simp] theorem State.updWork_seq (i : Nat) (f : PortWork → PortWork) : (s.updWork i f).seq = s.seq := rfl
@[simp] theorem State.updWork_kv (i : Nat) (f : PortWork → PortWork) : (s.updWork i f).kv = s.kv := rfl
@[simp] theorem State.updWork_sfu (i : Nat) (f : PortWork → PortWork) : (s.updWork i f).sfu = s.sfu := rfl
@[simp] theorem State.updWork_builtins (i : Nat) (f : PortWork → PortWork) :
    (s.updWork i f).builtins = s.builtins := rfl
@[simp] theorem State.updWork_pln (i : Nat) (f : PortWork → PortWork) : (s.updWork i f).pln = s.pln := rfl
@[simp] theorem State.updWork_red (i : Nat) (f : PortWork → PortWork) : (s.updWork i f).red = s.red := rfl
@[simp] theorem State.updWork_fab (i : Nat) (f : PortWork → PortWork) : (s.updWork i f).fab = s.fab := rfl
@[simp] theorem State.updWork_pwr (i : Nat) (f : PortWork → PortWork) : (s.updWork i f).pwr = s.pwr := rfl
@[simp] theorem State.updWork_dram (i : Nat) (f : PortWork → PortWork) : (s.updWork i f).dram = s.dram := rfl
@[simp] theorem State.updWork_spad (i : Nat) (f : PortWork → PortWork) : (s.updWork i f).spad = s.spad := rfl
@[simp] theorem State.updWork_host (i : Nat) (f : PortWork → PortWork) : (s.updWork i f).host = s.host := rfl
@[simp] theorem State.updWork_out (i : Nat) (f : PortWork → PortWork) : (s.updWork i f).out = s.out := rfl
@[simp] theorem State.updWork_free (i : Nat) (f : PortWork → PortWork) : (s.updWork i f).free = s.free := rfl
@[simp] theorem State.updWork_pending (i : Nat) (f : PortWork → PortWork) : (s.updWork i f).pending = s.pending := rfl
@[simp] theorem State.updWork_mb (i : Nat) (f : PortWork → PortWork) (j : Nat) : (s.updWork i f).mb j = s.mb j := rfl
@[simp] theorem State.updWork_part (i : Nat) (f : PortWork → PortWork) (j : Nat) :
    (s.updWork i f).part j = s.part j := rfl
@[simp] theorem State.updWork_ctx (i : Nat) (f : PortWork → PortWork) (j k : Nat) :
    (s.updWork i f).ctx j k = s.ctx j k := rfl
@[simp] theorem State.updWork_frmp (i : Nat) (f : PortWork → PortWork) (j : Nat) :
    (s.updWork i f).frmp j = s.frmp j := rfl
@[simp] theorem State.updWork_admp (i : Nat) (f : PortWork → PortWork) (j : Nat) :
    (s.updWork i f).admp j = s.admp j := rfl
@[simp] theorem State.updWork_seqp (i : Nat) (f : PortWork → PortWork) (j : Nat) :
    (s.updWork i f).seqp j = s.seqp j := rfl
@[simp] theorem State.updWork_pwrp (i : Nat) (f : PortWork → PortWork) (j : Nat) :
    (s.updWork i f).pwrp j = s.pwrp j := rfl
@[simp] theorem State.updWork_plnp (i : Nat) (f : PortWork → PortWork) (j : Nat) :
    (s.updWork i f).plnp j = s.plnp j := rfl
@[simp] theorem State.updWork_fn (i : Nat) (f : PortWork → PortWork) (j : Nat) : (s.updWork i f).fn j = s.fn j := rfl
@[simp] theorem State.updWork_self (i : Nat) (f : PortWork → PortWork) : (s.updWork i f).self = s.self := rfl
@[simp] theorem State.updWork_clocked (i : Nat) (f : PortWork → PortWork) : (s.updWork i f).clocked = s.clocked := rfl
@[simp] theorem State.updWork_fnExists (i : Nat) (f : PortWork → PortWork) (j : Nat) :
    (s.updWork i f).fnExists j = s.fnExists j := rfl
@[simp] theorem State.updWork_rowOwner (i : Nat) (f : PortWork → PortWork) (j : Nat) :
    (s.updWork i f).rowOwner j = s.rowOwner j := rfl
@[simp] theorem State.updWork_serving (i : Nat) (f : PortWork → PortWork) : (s.updWork i f).serving = s.serving := rfl

/-! ### State.updFn -/

@[simp] theorem State.updFn_fuse (n : Nat) (f : PciFn → PciFn) : (s.updFn n f).fuse = s.fuse := rfl
@[simp] theorem State.updFn_flash (n : Nat) (f : PciFn → PciFn) : (s.updFn n f).flash = s.flash := rfl
@[simp] theorem State.updFn_por (n : Nat) (f : PciFn → PciFn) : (s.updFn n f).por = s.por := rfl
@[simp] theorem State.updFn_mgt (n : Nat) (f : PciFn → PciFn) : (s.updFn n f).mgt = s.mgt := rfl
@[simp] theorem State.updFn_frm (n : Nat) (f : PciFn → PciFn) : (s.updFn n f).frm = s.frm := rfl
@[simp] theorem State.updFn_mbx (n : Nat) (f : PciFn → PciFn) : (s.updFn n f).mbx = s.mbx := rfl
@[simp] theorem State.updFn_nextUid (n : Nat) (f : PciFn → PciFn) : (s.updFn n f).nextUid = s.nextUid := rfl
@[simp] theorem State.updFn_adm (n : Nat) (f : PciFn → PciFn) : (s.updFn n f).adm = s.adm := rfl
@[simp] theorem State.updFn_ten (n : Nat) (f : PciFn → PciFn) : (s.updFn n f).ten = s.ten := rfl
@[simp] theorem State.updFn_xlt (n : Nat) (f : PciFn → PciFn) : (s.updFn n f).xlt = s.xlt := rfl
@[simp] theorem State.updFn_seq (n : Nat) (f : PciFn → PciFn) : (s.updFn n f).seq = s.seq := rfl
@[simp] theorem State.updFn_kv (n : Nat) (f : PciFn → PciFn) : (s.updFn n f).kv = s.kv := rfl
@[simp] theorem State.updFn_sfu (n : Nat) (f : PciFn → PciFn) : (s.updFn n f).sfu = s.sfu := rfl
@[simp] theorem State.updFn_builtins (n : Nat) (f : PciFn → PciFn) : (s.updFn n f).builtins = s.builtins := rfl
@[simp] theorem State.updFn_pln (n : Nat) (f : PciFn → PciFn) : (s.updFn n f).pln = s.pln := rfl
@[simp] theorem State.updFn_red (n : Nat) (f : PciFn → PciFn) : (s.updFn n f).red = s.red := rfl
@[simp] theorem State.updFn_plk (n : Nat) (f : PciFn → PciFn) : (s.updFn n f).plk = s.plk := rfl
@[simp] theorem State.updFn_fab (n : Nat) (f : PciFn → PciFn) : (s.updFn n f).fab = s.fab := rfl
@[simp] theorem State.updFn_pwr (n : Nat) (f : PciFn → PciFn) : (s.updFn n f).pwr = s.pwr := rfl
@[simp] theorem State.updFn_dram (n : Nat) (f : PciFn → PciFn) : (s.updFn n f).dram = s.dram := rfl
@[simp] theorem State.updFn_spad (n : Nat) (f : PciFn → PciFn) : (s.updFn n f).spad = s.spad := rfl
@[simp] theorem State.updFn_host (n : Nat) (f : PciFn → PciFn) : (s.updFn n f).host = s.host := rfl
@[simp] theorem State.updFn_out (n : Nat) (f : PciFn → PciFn) : (s.updFn n f).out = s.out := rfl
@[simp] theorem State.updFn_free (n : Nat) (f : PciFn → PciFn) : (s.updFn n f).free = s.free := rfl
@[simp] theorem State.updFn_pending (n : Nat) (f : PciFn → PciFn) : (s.updFn n f).pending = s.pending := rfl
@[simp] theorem State.updFn_mb (n : Nat) (f : PciFn → PciFn) (j : Nat) : (s.updFn n f).mb j = s.mb j := rfl
@[simp] theorem State.updFn_part (n : Nat) (f : PciFn → PciFn) (j : Nat) : (s.updFn n f).part j = s.part j := rfl
@[simp] theorem State.updFn_ctx (n : Nat) (f : PciFn → PciFn) (j k : Nat) : (s.updFn n f).ctx j k = s.ctx j k := rfl
@[simp] theorem State.updFn_frmp (n : Nat) (f : PciFn → PciFn) (j : Nat) : (s.updFn n f).frmp j = s.frmp j := rfl
@[simp] theorem State.updFn_admp (n : Nat) (f : PciFn → PciFn) (j : Nat) : (s.updFn n f).admp j = s.admp j := rfl
@[simp] theorem State.updFn_seqp (n : Nat) (f : PciFn → PciFn) (j : Nat) : (s.updFn n f).seqp j = s.seqp j := rfl
@[simp] theorem State.updFn_pwrp (n : Nat) (f : PciFn → PciFn) (j : Nat) : (s.updFn n f).pwrp j = s.pwrp j := rfl
@[simp] theorem State.updFn_plnp (n : Nat) (f : PciFn → PciFn) (j : Nat) : (s.updFn n f).plnp j = s.plnp j := rfl
@[simp] theorem State.updFn_port (n : Nat) (f : PciFn → PciFn) (j : Nat) : (s.updFn n f).port j = s.port j := rfl
@[simp] theorem State.updFn_work (n : Nat) (f : PciFn → PciFn) (j : Nat) : (s.updFn n f).work j = s.work j := rfl
@[simp] theorem State.updFn_self (n : Nat) (f : PciFn → PciFn) : (s.updFn n f).self = s.self := rfl
@[simp] theorem State.updFn_clocked (n : Nat) (f : PciFn → PciFn) : (s.updFn n f).clocked = s.clocked := rfl
@[simp] theorem State.updFn_rowOwner (n : Nat) (f : PciFn → PciFn) (j : Nat) :
    (s.updFn n f).rowOwner j = s.rowOwner j := rfl
@[simp] theorem State.updFn_serving (n : Nat) (f : PciFn → PciFn) : (s.updFn n f).serving = s.serving := rfl

/-! ### State.updFrm -/

@[simp] theorem State.updFrm_fuse (f : Frm → Frm) : (s.updFrm f).fuse = s.fuse := rfl
@[simp] theorem State.updFrm_flash (f : Frm → Frm) : (s.updFrm f).flash = s.flash := rfl
@[simp] theorem State.updFrm_por (f : Frm → Frm) : (s.updFrm f).por = s.por := rfl
@[simp] theorem State.updFrm_mgt (f : Frm → Frm) : (s.updFrm f).mgt = s.mgt := rfl
@[simp] theorem State.updFrm_pcie (f : Frm → Frm) : (s.updFrm f).pcie = s.pcie := rfl
@[simp] theorem State.updFrm_mbx (f : Frm → Frm) : (s.updFrm f).mbx = s.mbx := rfl
@[simp] theorem State.updFrm_nextUid (f : Frm → Frm) : (s.updFrm f).nextUid = s.nextUid := rfl
@[simp] theorem State.updFrm_adm (f : Frm → Frm) : (s.updFrm f).adm = s.adm := rfl
@[simp] theorem State.updFrm_ten (f : Frm → Frm) : (s.updFrm f).ten = s.ten := rfl
@[simp] theorem State.updFrm_xlt (f : Frm → Frm) : (s.updFrm f).xlt = s.xlt := rfl
@[simp] theorem State.updFrm_seq (f : Frm → Frm) : (s.updFrm f).seq = s.seq := rfl
@[simp] theorem State.updFrm_kv (f : Frm → Frm) : (s.updFrm f).kv = s.kv := rfl
@[simp] theorem State.updFrm_sfu (f : Frm → Frm) : (s.updFrm f).sfu = s.sfu := rfl
@[simp] theorem State.updFrm_builtins (f : Frm → Frm) : (s.updFrm f).builtins = s.builtins := rfl
@[simp] theorem State.updFrm_pln (f : Frm → Frm) : (s.updFrm f).pln = s.pln := rfl
@[simp] theorem State.updFrm_red (f : Frm → Frm) : (s.updFrm f).red = s.red := rfl
@[simp] theorem State.updFrm_plk (f : Frm → Frm) : (s.updFrm f).plk = s.plk := rfl
@[simp] theorem State.updFrm_fab (f : Frm → Frm) : (s.updFrm f).fab = s.fab := rfl
@[simp] theorem State.updFrm_pwr (f : Frm → Frm) : (s.updFrm f).pwr = s.pwr := rfl
@[simp] theorem State.updFrm_dram (f : Frm → Frm) : (s.updFrm f).dram = s.dram := rfl
@[simp] theorem State.updFrm_spad (f : Frm → Frm) : (s.updFrm f).spad = s.spad := rfl
@[simp] theorem State.updFrm_host (f : Frm → Frm) : (s.updFrm f).host = s.host := rfl
@[simp] theorem State.updFrm_out (f : Frm → Frm) : (s.updFrm f).out = s.out := rfl
@[simp] theorem State.updFrm_free (f : Frm → Frm) : (s.updFrm f).free = s.free := rfl
@[simp] theorem State.updFrm_pending (f : Frm → Frm) : (s.updFrm f).pending = s.pending := rfl
@[simp] theorem State.updFrm_frm (f : Frm → Frm) : (s.updFrm f).frm = f s.frm := rfl
@[simp] theorem State.updFrm_mb (f : Frm → Frm) (j : Nat) : (s.updFrm f).mb j = s.mb j := rfl
@[simp] theorem State.updFrm_part (f : Frm → Frm) (j : Nat) : (s.updFrm f).part j = s.part j := rfl
@[simp] theorem State.updFrm_ctx (f : Frm → Frm) (j k : Nat) : (s.updFrm f).ctx j k = s.ctx j k := rfl
@[simp] theorem State.updFrm_admp (f : Frm → Frm) (j : Nat) : (s.updFrm f).admp j = s.admp j := rfl
@[simp] theorem State.updFrm_seqp (f : Frm → Frm) (j : Nat) : (s.updFrm f).seqp j = s.seqp j := rfl
@[simp] theorem State.updFrm_pwrp (f : Frm → Frm) (j : Nat) : (s.updFrm f).pwrp j = s.pwrp j := rfl
@[simp] theorem State.updFrm_plnp (f : Frm → Frm) (j : Nat) : (s.updFrm f).plnp j = s.plnp j := rfl
@[simp] theorem State.updFrm_port (f : Frm → Frm) (j : Nat) : (s.updFrm f).port j = s.port j := rfl
@[simp] theorem State.updFrm_work (f : Frm → Frm) (j : Nat) : (s.updFrm f).work j = s.work j := rfl
@[simp] theorem State.updFrm_fn (f : Frm → Frm) (j : Nat) : (s.updFrm f).fn j = s.fn j := rfl
@[simp] theorem State.updFrm_self (f : Frm → Frm) : (s.updFrm f).self = s.self := rfl
@[simp] theorem State.updFrm_clocked (f : Frm → Frm) : (s.updFrm f).clocked = s.clocked := rfl
@[simp] theorem State.updFrm_fnExists (f : Frm → Frm) (j : Nat) : (s.updFrm f).fnExists j = s.fnExists j := rfl
@[simp] theorem State.updFrm_rowOwner (f : Frm → Frm) (j : Nat) : (s.updFrm f).rowOwner j = s.rowOwner j := rfl
@[simp] theorem State.updFrm_serving (f : Frm → Frm) : (s.updFrm f).serving = s.serving := rfl

/-! ### State.updXlt -/

@[simp] theorem State.updXlt_fuse (f : Xlt → Xlt) : (s.updXlt f).fuse = s.fuse := rfl
@[simp] theorem State.updXlt_flash (f : Xlt → Xlt) : (s.updXlt f).flash = s.flash := rfl
@[simp] theorem State.updXlt_por (f : Xlt → Xlt) : (s.updXlt f).por = s.por := rfl
@[simp] theorem State.updXlt_mgt (f : Xlt → Xlt) : (s.updXlt f).mgt = s.mgt := rfl
@[simp] theorem State.updXlt_frm (f : Xlt → Xlt) : (s.updXlt f).frm = s.frm := rfl
@[simp] theorem State.updXlt_pcie (f : Xlt → Xlt) : (s.updXlt f).pcie = s.pcie := rfl
@[simp] theorem State.updXlt_mbx (f : Xlt → Xlt) : (s.updXlt f).mbx = s.mbx := rfl
@[simp] theorem State.updXlt_nextUid (f : Xlt → Xlt) : (s.updXlt f).nextUid = s.nextUid := rfl
@[simp] theorem State.updXlt_adm (f : Xlt → Xlt) : (s.updXlt f).adm = s.adm := rfl
@[simp] theorem State.updXlt_ten (f : Xlt → Xlt) : (s.updXlt f).ten = s.ten := rfl
@[simp] theorem State.updXlt_seq (f : Xlt → Xlt) : (s.updXlt f).seq = s.seq := rfl
@[simp] theorem State.updXlt_kv (f : Xlt → Xlt) : (s.updXlt f).kv = s.kv := rfl
@[simp] theorem State.updXlt_sfu (f : Xlt → Xlt) : (s.updXlt f).sfu = s.sfu := rfl
@[simp] theorem State.updXlt_builtins (f : Xlt → Xlt) : (s.updXlt f).builtins = s.builtins := rfl
@[simp] theorem State.updXlt_pln (f : Xlt → Xlt) : (s.updXlt f).pln = s.pln := rfl
@[simp] theorem State.updXlt_red (f : Xlt → Xlt) : (s.updXlt f).red = s.red := rfl
@[simp] theorem State.updXlt_plk (f : Xlt → Xlt) : (s.updXlt f).plk = s.plk := rfl
@[simp] theorem State.updXlt_fab (f : Xlt → Xlt) : (s.updXlt f).fab = s.fab := rfl
@[simp] theorem State.updXlt_pwr (f : Xlt → Xlt) : (s.updXlt f).pwr = s.pwr := rfl
@[simp] theorem State.updXlt_dram (f : Xlt → Xlt) : (s.updXlt f).dram = s.dram := rfl
@[simp] theorem State.updXlt_spad (f : Xlt → Xlt) : (s.updXlt f).spad = s.spad := rfl
@[simp] theorem State.updXlt_host (f : Xlt → Xlt) : (s.updXlt f).host = s.host := rfl
@[simp] theorem State.updXlt_out (f : Xlt → Xlt) : (s.updXlt f).out = s.out := rfl
@[simp] theorem State.updXlt_free (f : Xlt → Xlt) : (s.updXlt f).free = s.free := rfl
@[simp] theorem State.updXlt_pending (f : Xlt → Xlt) : (s.updXlt f).pending = s.pending := rfl
@[simp] theorem State.updXlt_xlt (f : Xlt → Xlt) : (s.updXlt f).xlt = f s.xlt := rfl
@[simp] theorem State.updXlt_mb (f : Xlt → Xlt) (j : Nat) : (s.updXlt f).mb j = s.mb j := rfl
@[simp] theorem State.updXlt_part (f : Xlt → Xlt) (j : Nat) : (s.updXlt f).part j = s.part j := rfl
@[simp] theorem State.updXlt_ctx (f : Xlt → Xlt) (j k : Nat) : (s.updXlt f).ctx j k = s.ctx j k := rfl
@[simp] theorem State.updXlt_frmp (f : Xlt → Xlt) (j : Nat) : (s.updXlt f).frmp j = s.frmp j := rfl
@[simp] theorem State.updXlt_admp (f : Xlt → Xlt) (j : Nat) : (s.updXlt f).admp j = s.admp j := rfl
@[simp] theorem State.updXlt_seqp (f : Xlt → Xlt) (j : Nat) : (s.updXlt f).seqp j = s.seqp j := rfl
@[simp] theorem State.updXlt_pwrp (f : Xlt → Xlt) (j : Nat) : (s.updXlt f).pwrp j = s.pwrp j := rfl
@[simp] theorem State.updXlt_plnp (f : Xlt → Xlt) (j : Nat) : (s.updXlt f).plnp j = s.plnp j := rfl
@[simp] theorem State.updXlt_port (f : Xlt → Xlt) (j : Nat) : (s.updXlt f).port j = s.port j := rfl
@[simp] theorem State.updXlt_work (f : Xlt → Xlt) (j : Nat) : (s.updXlt f).work j = s.work j := rfl
@[simp] theorem State.updXlt_fn (f : Xlt → Xlt) (j : Nat) : (s.updXlt f).fn j = s.fn j := rfl
@[simp] theorem State.updXlt_self (f : Xlt → Xlt) : (s.updXlt f).self = s.self := rfl
@[simp] theorem State.updXlt_clocked (f : Xlt → Xlt) : (s.updXlt f).clocked = s.clocked := rfl
@[simp] theorem State.updXlt_fnExists (f : Xlt → Xlt) (j : Nat) : (s.updXlt f).fnExists j = s.fnExists j := rfl
@[simp] theorem State.updXlt_rowOwner (f : Xlt → Xlt) (j : Nat) : (s.updXlt f).rowOwner j = s.rowOwner j := rfl
@[simp] theorem State.updXlt_serving (f : Xlt → Xlt) : (s.updXlt f).serving = s.serving := rfl

/-! ### State.updPln -/

@[simp] theorem State.updPln_fuse (f : Pln → Pln) : (s.updPln f).fuse = s.fuse := rfl
@[simp] theorem State.updPln_flash (f : Pln → Pln) : (s.updPln f).flash = s.flash := rfl
@[simp] theorem State.updPln_por (f : Pln → Pln) : (s.updPln f).por = s.por := rfl
@[simp] theorem State.updPln_mgt (f : Pln → Pln) : (s.updPln f).mgt = s.mgt := rfl
@[simp] theorem State.updPln_frm (f : Pln → Pln) : (s.updPln f).frm = s.frm := rfl
@[simp] theorem State.updPln_pcie (f : Pln → Pln) : (s.updPln f).pcie = s.pcie := rfl
@[simp] theorem State.updPln_mbx (f : Pln → Pln) : (s.updPln f).mbx = s.mbx := rfl
@[simp] theorem State.updPln_nextUid (f : Pln → Pln) : (s.updPln f).nextUid = s.nextUid := rfl
@[simp] theorem State.updPln_adm (f : Pln → Pln) : (s.updPln f).adm = s.adm := rfl
@[simp] theorem State.updPln_ten (f : Pln → Pln) : (s.updPln f).ten = s.ten := rfl
@[simp] theorem State.updPln_xlt (f : Pln → Pln) : (s.updPln f).xlt = s.xlt := rfl
@[simp] theorem State.updPln_seq (f : Pln → Pln) : (s.updPln f).seq = s.seq := rfl
@[simp] theorem State.updPln_kv (f : Pln → Pln) : (s.updPln f).kv = s.kv := rfl
@[simp] theorem State.updPln_sfu (f : Pln → Pln) : (s.updPln f).sfu = s.sfu := rfl
@[simp] theorem State.updPln_builtins (f : Pln → Pln) : (s.updPln f).builtins = s.builtins := rfl
@[simp] theorem State.updPln_red (f : Pln → Pln) : (s.updPln f).red = s.red := rfl
@[simp] theorem State.updPln_plk (f : Pln → Pln) : (s.updPln f).plk = s.plk := rfl
@[simp] theorem State.updPln_fab (f : Pln → Pln) : (s.updPln f).fab = s.fab := rfl
@[simp] theorem State.updPln_pwr (f : Pln → Pln) : (s.updPln f).pwr = s.pwr := rfl
@[simp] theorem State.updPln_dram (f : Pln → Pln) : (s.updPln f).dram = s.dram := rfl
@[simp] theorem State.updPln_spad (f : Pln → Pln) : (s.updPln f).spad = s.spad := rfl
@[simp] theorem State.updPln_host (f : Pln → Pln) : (s.updPln f).host = s.host := rfl
@[simp] theorem State.updPln_out (f : Pln → Pln) : (s.updPln f).out = s.out := rfl
@[simp] theorem State.updPln_free (f : Pln → Pln) : (s.updPln f).free = s.free := rfl
@[simp] theorem State.updPln_pending (f : Pln → Pln) : (s.updPln f).pending = s.pending := rfl
@[simp] theorem State.updPln_pln (f : Pln → Pln) : (s.updPln f).pln = f s.pln := rfl
@[simp] theorem State.updPln_mb (f : Pln → Pln) (j : Nat) : (s.updPln f).mb j = s.mb j := rfl
@[simp] theorem State.updPln_part (f : Pln → Pln) (j : Nat) : (s.updPln f).part j = s.part j := rfl
@[simp] theorem State.updPln_ctx (f : Pln → Pln) (j k : Nat) : (s.updPln f).ctx j k = s.ctx j k := rfl
@[simp] theorem State.updPln_frmp (f : Pln → Pln) (j : Nat) : (s.updPln f).frmp j = s.frmp j := rfl
@[simp] theorem State.updPln_admp (f : Pln → Pln) (j : Nat) : (s.updPln f).admp j = s.admp j := rfl
@[simp] theorem State.updPln_seqp (f : Pln → Pln) (j : Nat) : (s.updPln f).seqp j = s.seqp j := rfl
@[simp] theorem State.updPln_pwrp (f : Pln → Pln) (j : Nat) : (s.updPln f).pwrp j = s.pwrp j := rfl
@[simp] theorem State.updPln_port (f : Pln → Pln) (j : Nat) : (s.updPln f).port j = s.port j := rfl
@[simp] theorem State.updPln_work (f : Pln → Pln) (j : Nat) : (s.updPln f).work j = s.work j := rfl
@[simp] theorem State.updPln_fn (f : Pln → Pln) (j : Nat) : (s.updPln f).fn j = s.fn j := rfl
@[simp] theorem State.updPln_self (f : Pln → Pln) : (s.updPln f).self = s.self := rfl
@[simp] theorem State.updPln_clocked (f : Pln → Pln) : (s.updPln f).clocked = s.clocked := rfl
@[simp] theorem State.updPln_fnExists (f : Pln → Pln) (j : Nat) : (s.updPln f).fnExists j = s.fnExists j := rfl
@[simp] theorem State.updPln_rowOwner (f : Pln → Pln) (j : Nat) : (s.updPln f).rowOwner j = s.rowOwner j := rfl
@[simp] theorem State.updPln_serving (f : Pln → Pln) : (s.updPln f).serving = s.serving := rfl

/-! ### State.updRed -/

@[simp] theorem State.updRed_fuse (f : Red → Red) : (s.updRed f).fuse = s.fuse := rfl
@[simp] theorem State.updRed_flash (f : Red → Red) : (s.updRed f).flash = s.flash := rfl
@[simp] theorem State.updRed_por (f : Red → Red) : (s.updRed f).por = s.por := rfl
@[simp] theorem State.updRed_mgt (f : Red → Red) : (s.updRed f).mgt = s.mgt := rfl
@[simp] theorem State.updRed_frm (f : Red → Red) : (s.updRed f).frm = s.frm := rfl
@[simp] theorem State.updRed_pcie (f : Red → Red) : (s.updRed f).pcie = s.pcie := rfl
@[simp] theorem State.updRed_mbx (f : Red → Red) : (s.updRed f).mbx = s.mbx := rfl
@[simp] theorem State.updRed_nextUid (f : Red → Red) : (s.updRed f).nextUid = s.nextUid := rfl
@[simp] theorem State.updRed_adm (f : Red → Red) : (s.updRed f).adm = s.adm := rfl
@[simp] theorem State.updRed_ten (f : Red → Red) : (s.updRed f).ten = s.ten := rfl
@[simp] theorem State.updRed_xlt (f : Red → Red) : (s.updRed f).xlt = s.xlt := rfl
@[simp] theorem State.updRed_seq (f : Red → Red) : (s.updRed f).seq = s.seq := rfl
@[simp] theorem State.updRed_kv (f : Red → Red) : (s.updRed f).kv = s.kv := rfl
@[simp] theorem State.updRed_sfu (f : Red → Red) : (s.updRed f).sfu = s.sfu := rfl
@[simp] theorem State.updRed_builtins (f : Red → Red) : (s.updRed f).builtins = s.builtins := rfl
@[simp] theorem State.updRed_pln (f : Red → Red) : (s.updRed f).pln = s.pln := rfl
@[simp] theorem State.updRed_plk (f : Red → Red) : (s.updRed f).plk = s.plk := rfl
@[simp] theorem State.updRed_fab (f : Red → Red) : (s.updRed f).fab = s.fab := rfl
@[simp] theorem State.updRed_pwr (f : Red → Red) : (s.updRed f).pwr = s.pwr := rfl
@[simp] theorem State.updRed_dram (f : Red → Red) : (s.updRed f).dram = s.dram := rfl
@[simp] theorem State.updRed_spad (f : Red → Red) : (s.updRed f).spad = s.spad := rfl
@[simp] theorem State.updRed_host (f : Red → Red) : (s.updRed f).host = s.host := rfl
@[simp] theorem State.updRed_out (f : Red → Red) : (s.updRed f).out = s.out := rfl
@[simp] theorem State.updRed_free (f : Red → Red) : (s.updRed f).free = s.free := rfl
@[simp] theorem State.updRed_pending (f : Red → Red) : (s.updRed f).pending = s.pending := rfl
@[simp] theorem State.updRed_red (f : Red → Red) : (s.updRed f).red = f s.red := rfl
@[simp] theorem State.updRed_mb (f : Red → Red) (j : Nat) : (s.updRed f).mb j = s.mb j := rfl
@[simp] theorem State.updRed_part (f : Red → Red) (j : Nat) : (s.updRed f).part j = s.part j := rfl
@[simp] theorem State.updRed_ctx (f : Red → Red) (j k : Nat) : (s.updRed f).ctx j k = s.ctx j k := rfl
@[simp] theorem State.updRed_frmp (f : Red → Red) (j : Nat) : (s.updRed f).frmp j = s.frmp j := rfl
@[simp] theorem State.updRed_admp (f : Red → Red) (j : Nat) : (s.updRed f).admp j = s.admp j := rfl
@[simp] theorem State.updRed_seqp (f : Red → Red) (j : Nat) : (s.updRed f).seqp j = s.seqp j := rfl
@[simp] theorem State.updRed_pwrp (f : Red → Red) (j : Nat) : (s.updRed f).pwrp j = s.pwrp j := rfl
@[simp] theorem State.updRed_plnp (f : Red → Red) (j : Nat) : (s.updRed f).plnp j = s.plnp j := rfl
@[simp] theorem State.updRed_port (f : Red → Red) (j : Nat) : (s.updRed f).port j = s.port j := rfl
@[simp] theorem State.updRed_work (f : Red → Red) (j : Nat) : (s.updRed f).work j = s.work j := rfl
@[simp] theorem State.updRed_fn (f : Red → Red) (j : Nat) : (s.updRed f).fn j = s.fn j := rfl
@[simp] theorem State.updRed_self (f : Red → Red) : (s.updRed f).self = s.self := rfl
@[simp] theorem State.updRed_clocked (f : Red → Red) : (s.updRed f).clocked = s.clocked := rfl
@[simp] theorem State.updRed_fnExists (f : Red → Red) (j : Nat) : (s.updRed f).fnExists j = s.fnExists j := rfl
@[simp] theorem State.updRed_rowOwner (f : Red → Red) (j : Nat) : (s.updRed f).rowOwner j = s.rowOwner j := rfl
@[simp] theorem State.updRed_serving (f : Red → Red) : (s.updRed f).serving = s.serving := rfl

/-! ### State.updFab -/

@[simp] theorem State.updFab_fuse (f : Fab → Fab) : (s.updFab f).fuse = s.fuse := rfl
@[simp] theorem State.updFab_flash (f : Fab → Fab) : (s.updFab f).flash = s.flash := rfl
@[simp] theorem State.updFab_por (f : Fab → Fab) : (s.updFab f).por = s.por := rfl
@[simp] theorem State.updFab_mgt (f : Fab → Fab) : (s.updFab f).mgt = s.mgt := rfl
@[simp] theorem State.updFab_frm (f : Fab → Fab) : (s.updFab f).frm = s.frm := rfl
@[simp] theorem State.updFab_pcie (f : Fab → Fab) : (s.updFab f).pcie = s.pcie := rfl
@[simp] theorem State.updFab_mbx (f : Fab → Fab) : (s.updFab f).mbx = s.mbx := rfl
@[simp] theorem State.updFab_nextUid (f : Fab → Fab) : (s.updFab f).nextUid = s.nextUid := rfl
@[simp] theorem State.updFab_adm (f : Fab → Fab) : (s.updFab f).adm = s.adm := rfl
@[simp] theorem State.updFab_ten (f : Fab → Fab) : (s.updFab f).ten = s.ten := rfl
@[simp] theorem State.updFab_xlt (f : Fab → Fab) : (s.updFab f).xlt = s.xlt := rfl
@[simp] theorem State.updFab_seq (f : Fab → Fab) : (s.updFab f).seq = s.seq := rfl
@[simp] theorem State.updFab_kv (f : Fab → Fab) : (s.updFab f).kv = s.kv := rfl
@[simp] theorem State.updFab_sfu (f : Fab → Fab) : (s.updFab f).sfu = s.sfu := rfl
@[simp] theorem State.updFab_builtins (f : Fab → Fab) : (s.updFab f).builtins = s.builtins := rfl
@[simp] theorem State.updFab_pln (f : Fab → Fab) : (s.updFab f).pln = s.pln := rfl
@[simp] theorem State.updFab_red (f : Fab → Fab) : (s.updFab f).red = s.red := rfl
@[simp] theorem State.updFab_plk (f : Fab → Fab) : (s.updFab f).plk = s.plk := rfl
@[simp] theorem State.updFab_pwr (f : Fab → Fab) : (s.updFab f).pwr = s.pwr := rfl
@[simp] theorem State.updFab_dram (f : Fab → Fab) : (s.updFab f).dram = s.dram := rfl
@[simp] theorem State.updFab_spad (f : Fab → Fab) : (s.updFab f).spad = s.spad := rfl
@[simp] theorem State.updFab_host (f : Fab → Fab) : (s.updFab f).host = s.host := rfl
@[simp] theorem State.updFab_out (f : Fab → Fab) : (s.updFab f).out = s.out := rfl
@[simp] theorem State.updFab_free (f : Fab → Fab) : (s.updFab f).free = s.free := rfl
@[simp] theorem State.updFab_pending (f : Fab → Fab) : (s.updFab f).pending = s.pending := rfl
@[simp] theorem State.updFab_fab (f : Fab → Fab) : (s.updFab f).fab = f s.fab := rfl
@[simp] theorem State.updFab_mb (f : Fab → Fab) (j : Nat) : (s.updFab f).mb j = s.mb j := rfl
@[simp] theorem State.updFab_part (f : Fab → Fab) (j : Nat) : (s.updFab f).part j = s.part j := rfl
@[simp] theorem State.updFab_ctx (f : Fab → Fab) (j k : Nat) : (s.updFab f).ctx j k = s.ctx j k := rfl
@[simp] theorem State.updFab_frmp (f : Fab → Fab) (j : Nat) : (s.updFab f).frmp j = s.frmp j := rfl
@[simp] theorem State.updFab_admp (f : Fab → Fab) (j : Nat) : (s.updFab f).admp j = s.admp j := rfl
@[simp] theorem State.updFab_seqp (f : Fab → Fab) (j : Nat) : (s.updFab f).seqp j = s.seqp j := rfl
@[simp] theorem State.updFab_pwrp (f : Fab → Fab) (j : Nat) : (s.updFab f).pwrp j = s.pwrp j := rfl
@[simp] theorem State.updFab_plnp (f : Fab → Fab) (j : Nat) : (s.updFab f).plnp j = s.plnp j := rfl
@[simp] theorem State.updFab_port (f : Fab → Fab) (j : Nat) : (s.updFab f).port j = s.port j := rfl
@[simp] theorem State.updFab_work (f : Fab → Fab) (j : Nat) : (s.updFab f).work j = s.work j := rfl
@[simp] theorem State.updFab_fn (f : Fab → Fab) (j : Nat) : (s.updFab f).fn j = s.fn j := rfl
@[simp] theorem State.updFab_clocked (f : Fab → Fab) : (s.updFab f).clocked = s.clocked := rfl
@[simp] theorem State.updFab_fnExists (f : Fab → Fab) (j : Nat) : (s.updFab f).fnExists j = s.fnExists j := rfl
@[simp] theorem State.updFab_rowOwner (f : Fab → Fab) (j : Nat) : (s.updFab f).rowOwner j = s.rowOwner j := rfl
@[simp] theorem State.updFab_serving (f : Fab → Fab) : (s.updFab f).serving = s.serving := rfl

/-! ### State.updMgt -/

@[simp] theorem State.updMgt_fuse (f : Mgt → Mgt) : (s.updMgt f).fuse = s.fuse := rfl
@[simp] theorem State.updMgt_flash (f : Mgt → Mgt) : (s.updMgt f).flash = s.flash := rfl
@[simp] theorem State.updMgt_por (f : Mgt → Mgt) : (s.updMgt f).por = s.por := rfl
@[simp] theorem State.updMgt_frm (f : Mgt → Mgt) : (s.updMgt f).frm = s.frm := rfl
@[simp] theorem State.updMgt_pcie (f : Mgt → Mgt) : (s.updMgt f).pcie = s.pcie := rfl
@[simp] theorem State.updMgt_mbx (f : Mgt → Mgt) : (s.updMgt f).mbx = s.mbx := rfl
@[simp] theorem State.updMgt_nextUid (f : Mgt → Mgt) : (s.updMgt f).nextUid = s.nextUid := rfl
@[simp] theorem State.updMgt_adm (f : Mgt → Mgt) : (s.updMgt f).adm = s.adm := rfl
@[simp] theorem State.updMgt_ten (f : Mgt → Mgt) : (s.updMgt f).ten = s.ten := rfl
@[simp] theorem State.updMgt_xlt (f : Mgt → Mgt) : (s.updMgt f).xlt = s.xlt := rfl
@[simp] theorem State.updMgt_seq (f : Mgt → Mgt) : (s.updMgt f).seq = s.seq := rfl
@[simp] theorem State.updMgt_kv (f : Mgt → Mgt) : (s.updMgt f).kv = s.kv := rfl
@[simp] theorem State.updMgt_sfu (f : Mgt → Mgt) : (s.updMgt f).sfu = s.sfu := rfl
@[simp] theorem State.updMgt_builtins (f : Mgt → Mgt) : (s.updMgt f).builtins = s.builtins := rfl
@[simp] theorem State.updMgt_pln (f : Mgt → Mgt) : (s.updMgt f).pln = s.pln := rfl
@[simp] theorem State.updMgt_red (f : Mgt → Mgt) : (s.updMgt f).red = s.red := rfl
@[simp] theorem State.updMgt_plk (f : Mgt → Mgt) : (s.updMgt f).plk = s.plk := rfl
@[simp] theorem State.updMgt_fab (f : Mgt → Mgt) : (s.updMgt f).fab = s.fab := rfl
@[simp] theorem State.updMgt_pwr (f : Mgt → Mgt) : (s.updMgt f).pwr = s.pwr := rfl
@[simp] theorem State.updMgt_dram (f : Mgt → Mgt) : (s.updMgt f).dram = s.dram := rfl
@[simp] theorem State.updMgt_spad (f : Mgt → Mgt) : (s.updMgt f).spad = s.spad := rfl
@[simp] theorem State.updMgt_host (f : Mgt → Mgt) : (s.updMgt f).host = s.host := rfl
@[simp] theorem State.updMgt_out (f : Mgt → Mgt) : (s.updMgt f).out = s.out := rfl
@[simp] theorem State.updMgt_free (f : Mgt → Mgt) : (s.updMgt f).free = s.free := rfl
@[simp] theorem State.updMgt_pending (f : Mgt → Mgt) : (s.updMgt f).pending = s.pending := rfl
@[simp] theorem State.updMgt_mgt (f : Mgt → Mgt) : (s.updMgt f).mgt = f s.mgt := rfl
@[simp] theorem State.updMgt_mb (f : Mgt → Mgt) (j : Nat) : (s.updMgt f).mb j = s.mb j := rfl
@[simp] theorem State.updMgt_part (f : Mgt → Mgt) (j : Nat) : (s.updMgt f).part j = s.part j := rfl
@[simp] theorem State.updMgt_ctx (f : Mgt → Mgt) (j k : Nat) : (s.updMgt f).ctx j k = s.ctx j k := rfl
@[simp] theorem State.updMgt_frmp (f : Mgt → Mgt) (j : Nat) : (s.updMgt f).frmp j = s.frmp j := rfl
@[simp] theorem State.updMgt_admp (f : Mgt → Mgt) (j : Nat) : (s.updMgt f).admp j = s.admp j := rfl
@[simp] theorem State.updMgt_seqp (f : Mgt → Mgt) (j : Nat) : (s.updMgt f).seqp j = s.seqp j := rfl
@[simp] theorem State.updMgt_pwrp (f : Mgt → Mgt) (j : Nat) : (s.updMgt f).pwrp j = s.pwrp j := rfl
@[simp] theorem State.updMgt_plnp (f : Mgt → Mgt) (j : Nat) : (s.updMgt f).plnp j = s.plnp j := rfl
@[simp] theorem State.updMgt_port (f : Mgt → Mgt) (j : Nat) : (s.updMgt f).port j = s.port j := rfl
@[simp] theorem State.updMgt_work (f : Mgt → Mgt) (j : Nat) : (s.updMgt f).work j = s.work j := rfl
@[simp] theorem State.updMgt_fn (f : Mgt → Mgt) (j : Nat) : (s.updMgt f).fn j = s.fn j := rfl
@[simp] theorem State.updMgt_self (f : Mgt → Mgt) : (s.updMgt f).self = s.self := rfl
@[simp] theorem State.updMgt_clocked (f : Mgt → Mgt) : (s.updMgt f).clocked = s.clocked := rfl
@[simp] theorem State.updMgt_fnExists (f : Mgt → Mgt) (j : Nat) : (s.updMgt f).fnExists j = s.fnExists j := rfl
@[simp] theorem State.updMgt_rowOwner (f : Mgt → Mgt) (j : Nat) : (s.updMgt f).rowOwner j = s.rowOwner j := rfl

/-! ### State.updPwr -/

@[simp] theorem State.updPwr_fuse (f : Pwr → Pwr) : (s.updPwr f).fuse = s.fuse := rfl
@[simp] theorem State.updPwr_flash (f : Pwr → Pwr) : (s.updPwr f).flash = s.flash := rfl
@[simp] theorem State.updPwr_por (f : Pwr → Pwr) : (s.updPwr f).por = s.por := rfl
@[simp] theorem State.updPwr_mgt (f : Pwr → Pwr) : (s.updPwr f).mgt = s.mgt := rfl
@[simp] theorem State.updPwr_frm (f : Pwr → Pwr) : (s.updPwr f).frm = s.frm := rfl
@[simp] theorem State.updPwr_pcie (f : Pwr → Pwr) : (s.updPwr f).pcie = s.pcie := rfl
@[simp] theorem State.updPwr_mbx (f : Pwr → Pwr) : (s.updPwr f).mbx = s.mbx := rfl
@[simp] theorem State.updPwr_nextUid (f : Pwr → Pwr) : (s.updPwr f).nextUid = s.nextUid := rfl
@[simp] theorem State.updPwr_adm (f : Pwr → Pwr) : (s.updPwr f).adm = s.adm := rfl
@[simp] theorem State.updPwr_ten (f : Pwr → Pwr) : (s.updPwr f).ten = s.ten := rfl
@[simp] theorem State.updPwr_xlt (f : Pwr → Pwr) : (s.updPwr f).xlt = s.xlt := rfl
@[simp] theorem State.updPwr_seq (f : Pwr → Pwr) : (s.updPwr f).seq = s.seq := rfl
@[simp] theorem State.updPwr_kv (f : Pwr → Pwr) : (s.updPwr f).kv = s.kv := rfl
@[simp] theorem State.updPwr_sfu (f : Pwr → Pwr) : (s.updPwr f).sfu = s.sfu := rfl
@[simp] theorem State.updPwr_builtins (f : Pwr → Pwr) : (s.updPwr f).builtins = s.builtins := rfl
@[simp] theorem State.updPwr_pln (f : Pwr → Pwr) : (s.updPwr f).pln = s.pln := rfl
@[simp] theorem State.updPwr_red (f : Pwr → Pwr) : (s.updPwr f).red = s.red := rfl
@[simp] theorem State.updPwr_plk (f : Pwr → Pwr) : (s.updPwr f).plk = s.plk := rfl
@[simp] theorem State.updPwr_fab (f : Pwr → Pwr) : (s.updPwr f).fab = s.fab := rfl
@[simp] theorem State.updPwr_dram (f : Pwr → Pwr) : (s.updPwr f).dram = s.dram := rfl
@[simp] theorem State.updPwr_spad (f : Pwr → Pwr) : (s.updPwr f).spad = s.spad := rfl
@[simp] theorem State.updPwr_host (f : Pwr → Pwr) : (s.updPwr f).host = s.host := rfl
@[simp] theorem State.updPwr_out (f : Pwr → Pwr) : (s.updPwr f).out = s.out := rfl
@[simp] theorem State.updPwr_free (f : Pwr → Pwr) : (s.updPwr f).free = s.free := rfl
@[simp] theorem State.updPwr_pending (f : Pwr → Pwr) : (s.updPwr f).pending = s.pending := rfl
@[simp] theorem State.updPwr_pwr (f : Pwr → Pwr) : (s.updPwr f).pwr = f s.pwr := rfl
@[simp] theorem State.updPwr_mb (f : Pwr → Pwr) (j : Nat) : (s.updPwr f).mb j = s.mb j := rfl
@[simp] theorem State.updPwr_part (f : Pwr → Pwr) (j : Nat) : (s.updPwr f).part j = s.part j := rfl
@[simp] theorem State.updPwr_ctx (f : Pwr → Pwr) (j k : Nat) : (s.updPwr f).ctx j k = s.ctx j k := rfl
@[simp] theorem State.updPwr_frmp (f : Pwr → Pwr) (j : Nat) : (s.updPwr f).frmp j = s.frmp j := rfl
@[simp] theorem State.updPwr_admp (f : Pwr → Pwr) (j : Nat) : (s.updPwr f).admp j = s.admp j := rfl
@[simp] theorem State.updPwr_seqp (f : Pwr → Pwr) (j : Nat) : (s.updPwr f).seqp j = s.seqp j := rfl
@[simp] theorem State.updPwr_plnp (f : Pwr → Pwr) (j : Nat) : (s.updPwr f).plnp j = s.plnp j := rfl
@[simp] theorem State.updPwr_port (f : Pwr → Pwr) (j : Nat) : (s.updPwr f).port j = s.port j := rfl
@[simp] theorem State.updPwr_work (f : Pwr → Pwr) (j : Nat) : (s.updPwr f).work j = s.work j := rfl
@[simp] theorem State.updPwr_fn (f : Pwr → Pwr) (j : Nat) : (s.updPwr f).fn j = s.fn j := rfl
@[simp] theorem State.updPwr_self (f : Pwr → Pwr) : (s.updPwr f).self = s.self := rfl
@[simp] theorem State.updPwr_clocked (f : Pwr → Pwr) : (s.updPwr f).clocked = s.clocked := rfl
@[simp] theorem State.updPwr_fnExists (f : Pwr → Pwr) (j : Nat) : (s.updPwr f).fnExists j = s.fnExists j := rfl
@[simp] theorem State.updPwr_rowOwner (f : Pwr → Pwr) (j : Nat) : (s.updPwr f).rowOwner j = s.rowOwner j := rfl
@[simp] theorem State.updPwr_serving (f : Pwr → Pwr) : (s.updPwr f).serving = s.serving := rfl

/-! ### State.updPor -/

@[simp] theorem State.updPor_fuse (f : Por → Por) : (s.updPor f).fuse = s.fuse := rfl
@[simp] theorem State.updPor_flash (f : Por → Por) : (s.updPor f).flash = s.flash := rfl
@[simp] theorem State.updPor_mgt (f : Por → Por) : (s.updPor f).mgt = s.mgt := rfl
@[simp] theorem State.updPor_frm (f : Por → Por) : (s.updPor f).frm = s.frm := rfl
@[simp] theorem State.updPor_pcie (f : Por → Por) : (s.updPor f).pcie = s.pcie := rfl
@[simp] theorem State.updPor_mbx (f : Por → Por) : (s.updPor f).mbx = s.mbx := rfl
@[simp] theorem State.updPor_nextUid (f : Por → Por) : (s.updPor f).nextUid = s.nextUid := rfl
@[simp] theorem State.updPor_adm (f : Por → Por) : (s.updPor f).adm = s.adm := rfl
@[simp] theorem State.updPor_ten (f : Por → Por) : (s.updPor f).ten = s.ten := rfl
@[simp] theorem State.updPor_xlt (f : Por → Por) : (s.updPor f).xlt = s.xlt := rfl
@[simp] theorem State.updPor_seq (f : Por → Por) : (s.updPor f).seq = s.seq := rfl
@[simp] theorem State.updPor_kv (f : Por → Por) : (s.updPor f).kv = s.kv := rfl
@[simp] theorem State.updPor_sfu (f : Por → Por) : (s.updPor f).sfu = s.sfu := rfl
@[simp] theorem State.updPor_builtins (f : Por → Por) : (s.updPor f).builtins = s.builtins := rfl
@[simp] theorem State.updPor_pln (f : Por → Por) : (s.updPor f).pln = s.pln := rfl
@[simp] theorem State.updPor_red (f : Por → Por) : (s.updPor f).red = s.red := rfl
@[simp] theorem State.updPor_plk (f : Por → Por) : (s.updPor f).plk = s.plk := rfl
@[simp] theorem State.updPor_fab (f : Por → Por) : (s.updPor f).fab = s.fab := rfl
@[simp] theorem State.updPor_pwr (f : Por → Por) : (s.updPor f).pwr = s.pwr := rfl
@[simp] theorem State.updPor_dram (f : Por → Por) : (s.updPor f).dram = s.dram := rfl
@[simp] theorem State.updPor_spad (f : Por → Por) : (s.updPor f).spad = s.spad := rfl
@[simp] theorem State.updPor_host (f : Por → Por) : (s.updPor f).host = s.host := rfl
@[simp] theorem State.updPor_out (f : Por → Por) : (s.updPor f).out = s.out := rfl
@[simp] theorem State.updPor_free (f : Por → Por) : (s.updPor f).free = s.free := rfl
@[simp] theorem State.updPor_pending (f : Por → Por) : (s.updPor f).pending = s.pending := rfl
@[simp] theorem State.updPor_por (f : Por → Por) : (s.updPor f).por = f s.por := rfl
@[simp] theorem State.updPor_mb (f : Por → Por) (j : Nat) : (s.updPor f).mb j = s.mb j := rfl
@[simp] theorem State.updPor_part (f : Por → Por) (j : Nat) : (s.updPor f).part j = s.part j := rfl
@[simp] theorem State.updPor_ctx (f : Por → Por) (j k : Nat) : (s.updPor f).ctx j k = s.ctx j k := rfl
@[simp] theorem State.updPor_frmp (f : Por → Por) (j : Nat) : (s.updPor f).frmp j = s.frmp j := rfl
@[simp] theorem State.updPor_admp (f : Por → Por) (j : Nat) : (s.updPor f).admp j = s.admp j := rfl
@[simp] theorem State.updPor_seqp (f : Por → Por) (j : Nat) : (s.updPor f).seqp j = s.seqp j := rfl
@[simp] theorem State.updPor_pwrp (f : Por → Por) (j : Nat) : (s.updPor f).pwrp j = s.pwrp j := rfl
@[simp] theorem State.updPor_plnp (f : Por → Por) (j : Nat) : (s.updPor f).plnp j = s.plnp j := rfl
@[simp] theorem State.updPor_port (f : Por → Por) (j : Nat) : (s.updPor f).port j = s.port j := rfl
@[simp] theorem State.updPor_work (f : Por → Por) (j : Nat) : (s.updPor f).work j = s.work j := rfl
@[simp] theorem State.updPor_fn (f : Por → Por) (j : Nat) : (s.updPor f).fn j = s.fn j := rfl
@[simp] theorem State.updPor_self (f : Por → Por) : (s.updPor f).self = s.self := rfl
@[simp] theorem State.updPor_fnExists (f : Por → Por) (j : Nat) : (s.updPor f).fnExists j = s.fnExists j := rfl
@[simp] theorem State.updPor_rowOwner (f : Por → Por) (j : Nat) : (s.updPor f).rowOwner j = s.rowOwner j := rfl

/-! ### State.updSeq -/

@[simp] theorem State.updSeq_fuse (f : Seq → Seq) : (s.updSeq f).fuse = s.fuse := rfl
@[simp] theorem State.updSeq_flash (f : Seq → Seq) : (s.updSeq f).flash = s.flash := rfl
@[simp] theorem State.updSeq_por (f : Seq → Seq) : (s.updSeq f).por = s.por := rfl
@[simp] theorem State.updSeq_mgt (f : Seq → Seq) : (s.updSeq f).mgt = s.mgt := rfl
@[simp] theorem State.updSeq_frm (f : Seq → Seq) : (s.updSeq f).frm = s.frm := rfl
@[simp] theorem State.updSeq_pcie (f : Seq → Seq) : (s.updSeq f).pcie = s.pcie := rfl
@[simp] theorem State.updSeq_mbx (f : Seq → Seq) : (s.updSeq f).mbx = s.mbx := rfl
@[simp] theorem State.updSeq_nextUid (f : Seq → Seq) : (s.updSeq f).nextUid = s.nextUid := rfl
@[simp] theorem State.updSeq_adm (f : Seq → Seq) : (s.updSeq f).adm = s.adm := rfl
@[simp] theorem State.updSeq_ten (f : Seq → Seq) : (s.updSeq f).ten = s.ten := rfl
@[simp] theorem State.updSeq_xlt (f : Seq → Seq) : (s.updSeq f).xlt = s.xlt := rfl
@[simp] theorem State.updSeq_kv (f : Seq → Seq) : (s.updSeq f).kv = s.kv := rfl
@[simp] theorem State.updSeq_sfu (f : Seq → Seq) : (s.updSeq f).sfu = s.sfu := rfl
@[simp] theorem State.updSeq_builtins (f : Seq → Seq) : (s.updSeq f).builtins = s.builtins := rfl
@[simp] theorem State.updSeq_pln (f : Seq → Seq) : (s.updSeq f).pln = s.pln := rfl
@[simp] theorem State.updSeq_red (f : Seq → Seq) : (s.updSeq f).red = s.red := rfl
@[simp] theorem State.updSeq_plk (f : Seq → Seq) : (s.updSeq f).plk = s.plk := rfl
@[simp] theorem State.updSeq_fab (f : Seq → Seq) : (s.updSeq f).fab = s.fab := rfl
@[simp] theorem State.updSeq_pwr (f : Seq → Seq) : (s.updSeq f).pwr = s.pwr := rfl
@[simp] theorem State.updSeq_dram (f : Seq → Seq) : (s.updSeq f).dram = s.dram := rfl
@[simp] theorem State.updSeq_spad (f : Seq → Seq) : (s.updSeq f).spad = s.spad := rfl
@[simp] theorem State.updSeq_host (f : Seq → Seq) : (s.updSeq f).host = s.host := rfl
@[simp] theorem State.updSeq_out (f : Seq → Seq) : (s.updSeq f).out = s.out := rfl
@[simp] theorem State.updSeq_free (f : Seq → Seq) : (s.updSeq f).free = s.free := rfl
@[simp] theorem State.updSeq_pending (f : Seq → Seq) : (s.updSeq f).pending = s.pending := rfl
@[simp] theorem State.updSeq_seq (f : Seq → Seq) : (s.updSeq f).seq = f s.seq := rfl
@[simp] theorem State.updSeq_mb (f : Seq → Seq) (j : Nat) : (s.updSeq f).mb j = s.mb j := rfl
@[simp] theorem State.updSeq_part (f : Seq → Seq) (j : Nat) : (s.updSeq f).part j = s.part j := rfl
@[simp] theorem State.updSeq_ctx (f : Seq → Seq) (j k : Nat) : (s.updSeq f).ctx j k = s.ctx j k := rfl
@[simp] theorem State.updSeq_frmp (f : Seq → Seq) (j : Nat) : (s.updSeq f).frmp j = s.frmp j := rfl
@[simp] theorem State.updSeq_admp (f : Seq → Seq) (j : Nat) : (s.updSeq f).admp j = s.admp j := rfl
@[simp] theorem State.updSeq_pwrp (f : Seq → Seq) (j : Nat) : (s.updSeq f).pwrp j = s.pwrp j := rfl
@[simp] theorem State.updSeq_plnp (f : Seq → Seq) (j : Nat) : (s.updSeq f).plnp j = s.plnp j := rfl
@[simp] theorem State.updSeq_port (f : Seq → Seq) (j : Nat) : (s.updSeq f).port j = s.port j := rfl
@[simp] theorem State.updSeq_work (f : Seq → Seq) (j : Nat) : (s.updSeq f).work j = s.work j := rfl
@[simp] theorem State.updSeq_fn (f : Seq → Seq) (j : Nat) : (s.updSeq f).fn j = s.fn j := rfl
@[simp] theorem State.updSeq_self (f : Seq → Seq) : (s.updSeq f).self = s.self := rfl
@[simp] theorem State.updSeq_clocked (f : Seq → Seq) : (s.updSeq f).clocked = s.clocked := rfl
@[simp] theorem State.updSeq_fnExists (f : Seq → Seq) (j : Nat) : (s.updSeq f).fnExists j = s.fnExists j := rfl
@[simp] theorem State.updSeq_rowOwner (f : Seq → Seq) (j : Nat) : (s.updSeq f).rowOwner j = s.rowOwner j := rfl
@[simp] theorem State.updSeq_serving (f : Seq → Seq) : (s.updSeq f).serving = s.serving := rfl

/-! ### State.updAdm -/

@[simp] theorem State.updAdm_fuse (f : Adm → Adm) : (s.updAdm f).fuse = s.fuse := rfl
@[simp] theorem State.updAdm_flash (f : Adm → Adm) : (s.updAdm f).flash = s.flash := rfl
@[simp] theorem State.updAdm_por (f : Adm → Adm) : (s.updAdm f).por = s.por := rfl
@[simp] theorem State.updAdm_mgt (f : Adm → Adm) : (s.updAdm f).mgt = s.mgt := rfl
@[simp] theorem State.updAdm_frm (f : Adm → Adm) : (s.updAdm f).frm = s.frm := rfl
@[simp] theorem State.updAdm_pcie (f : Adm → Adm) : (s.updAdm f).pcie = s.pcie := rfl
@[simp] theorem State.updAdm_mbx (f : Adm → Adm) : (s.updAdm f).mbx = s.mbx := rfl
@[simp] theorem State.updAdm_nextUid (f : Adm → Adm) : (s.updAdm f).nextUid = s.nextUid := rfl
@[simp] theorem State.updAdm_ten (f : Adm → Adm) : (s.updAdm f).ten = s.ten := rfl
@[simp] theorem State.updAdm_xlt (f : Adm → Adm) : (s.updAdm f).xlt = s.xlt := rfl
@[simp] theorem State.updAdm_seq (f : Adm → Adm) : (s.updAdm f).seq = s.seq := rfl
@[simp] theorem State.updAdm_kv (f : Adm → Adm) : (s.updAdm f).kv = s.kv := rfl
@[simp] theorem State.updAdm_sfu (f : Adm → Adm) : (s.updAdm f).sfu = s.sfu := rfl
@[simp] theorem State.updAdm_builtins (f : Adm → Adm) : (s.updAdm f).builtins = s.builtins := rfl
@[simp] theorem State.updAdm_pln (f : Adm → Adm) : (s.updAdm f).pln = s.pln := rfl
@[simp] theorem State.updAdm_red (f : Adm → Adm) : (s.updAdm f).red = s.red := rfl
@[simp] theorem State.updAdm_plk (f : Adm → Adm) : (s.updAdm f).plk = s.plk := rfl
@[simp] theorem State.updAdm_fab (f : Adm → Adm) : (s.updAdm f).fab = s.fab := rfl
@[simp] theorem State.updAdm_pwr (f : Adm → Adm) : (s.updAdm f).pwr = s.pwr := rfl
@[simp] theorem State.updAdm_dram (f : Adm → Adm) : (s.updAdm f).dram = s.dram := rfl
@[simp] theorem State.updAdm_spad (f : Adm → Adm) : (s.updAdm f).spad = s.spad := rfl
@[simp] theorem State.updAdm_host (f : Adm → Adm) : (s.updAdm f).host = s.host := rfl
@[simp] theorem State.updAdm_out (f : Adm → Adm) : (s.updAdm f).out = s.out := rfl
@[simp] theorem State.updAdm_free (f : Adm → Adm) : (s.updAdm f).free = s.free := rfl
@[simp] theorem State.updAdm_pending (f : Adm → Adm) : (s.updAdm f).pending = s.pending := rfl
@[simp] theorem State.updAdm_adm (f : Adm → Adm) : (s.updAdm f).adm = f s.adm := rfl
@[simp] theorem State.updAdm_mb (f : Adm → Adm) (j : Nat) : (s.updAdm f).mb j = s.mb j := rfl
@[simp] theorem State.updAdm_part (f : Adm → Adm) (j : Nat) : (s.updAdm f).part j = s.part j := rfl
@[simp] theorem State.updAdm_ctx (f : Adm → Adm) (j k : Nat) : (s.updAdm f).ctx j k = s.ctx j k := rfl
@[simp] theorem State.updAdm_frmp (f : Adm → Adm) (j : Nat) : (s.updAdm f).frmp j = s.frmp j := rfl
@[simp] theorem State.updAdm_seqp (f : Adm → Adm) (j : Nat) : (s.updAdm f).seqp j = s.seqp j := rfl
@[simp] theorem State.updAdm_pwrp (f : Adm → Adm) (j : Nat) : (s.updAdm f).pwrp j = s.pwrp j := rfl
@[simp] theorem State.updAdm_plnp (f : Adm → Adm) (j : Nat) : (s.updAdm f).plnp j = s.plnp j := rfl
@[simp] theorem State.updAdm_port (f : Adm → Adm) (j : Nat) : (s.updAdm f).port j = s.port j := rfl
@[simp] theorem State.updAdm_work (f : Adm → Adm) (j : Nat) : (s.updAdm f).work j = s.work j := rfl
@[simp] theorem State.updAdm_fn (f : Adm → Adm) (j : Nat) : (s.updAdm f).fn j = s.fn j := rfl
@[simp] theorem State.updAdm_self (f : Adm → Adm) : (s.updAdm f).self = s.self := rfl
@[simp] theorem State.updAdm_clocked (f : Adm → Adm) : (s.updAdm f).clocked = s.clocked := rfl
@[simp] theorem State.updAdm_fnExists (f : Adm → Adm) (j : Nat) : (s.updAdm f).fnExists j = s.fnExists j := rfl
@[simp] theorem State.updAdm_rowOwner (f : Adm → Adm) (j : Nat) : (s.updAdm f).rowOwner j = s.rowOwner j := rfl
@[simp] theorem State.updAdm_serving (f : Adm → Adm) : (s.updAdm f).serving = s.serving := rfl

/-! ### State.emit -/

@[simp] theorem State.emit_fuse (o : Output) : (s.emit o).fuse = s.fuse := rfl
@[simp] theorem State.emit_flash (o : Output) : (s.emit o).flash = s.flash := rfl
@[simp] theorem State.emit_por (o : Output) : (s.emit o).por = s.por := rfl
@[simp] theorem State.emit_mgt (o : Output) : (s.emit o).mgt = s.mgt := rfl
@[simp] theorem State.emit_frm (o : Output) : (s.emit o).frm = s.frm := rfl
@[simp] theorem State.emit_pcie (o : Output) : (s.emit o).pcie = s.pcie := rfl
@[simp] theorem State.emit_mbx (o : Output) : (s.emit o).mbx = s.mbx := rfl
@[simp] theorem State.emit_nextUid (o : Output) : (s.emit o).nextUid = s.nextUid := rfl
@[simp] theorem State.emit_adm (o : Output) : (s.emit o).adm = s.adm := rfl
@[simp] theorem State.emit_ten (o : Output) : (s.emit o).ten = s.ten := rfl
@[simp] theorem State.emit_xlt (o : Output) : (s.emit o).xlt = s.xlt := rfl
@[simp] theorem State.emit_seq (o : Output) : (s.emit o).seq = s.seq := rfl
@[simp] theorem State.emit_kv (o : Output) : (s.emit o).kv = s.kv := rfl
@[simp] theorem State.emit_sfu (o : Output) : (s.emit o).sfu = s.sfu := rfl
@[simp] theorem State.emit_builtins (o : Output) : (s.emit o).builtins = s.builtins := rfl
@[simp] theorem State.emit_pln (o : Output) : (s.emit o).pln = s.pln := rfl
@[simp] theorem State.emit_red (o : Output) : (s.emit o).red = s.red := rfl
@[simp] theorem State.emit_plk (o : Output) : (s.emit o).plk = s.plk := rfl
@[simp] theorem State.emit_fab (o : Output) : (s.emit o).fab = s.fab := rfl
@[simp] theorem State.emit_pwr (o : Output) : (s.emit o).pwr = s.pwr := rfl
@[simp] theorem State.emit_dram (o : Output) : (s.emit o).dram = s.dram := rfl
@[simp] theorem State.emit_spad (o : Output) : (s.emit o).spad = s.spad := rfl
@[simp] theorem State.emit_host (o : Output) : (s.emit o).host = s.host := rfl
@[simp] theorem State.emit_free (o : Output) : (s.emit o).free = s.free := rfl
@[simp] theorem State.emit_pending (o : Output) : (s.emit o).pending = s.pending := rfl
@[simp] theorem State.emit_out (o : Output) : (s.emit o).out = s.out ++ [o] := rfl
@[simp] theorem State.emit_mb (o : Output) (j : Nat) : (s.emit o).mb j = s.mb j := rfl
@[simp] theorem State.emit_part (o : Output) (j : Nat) : (s.emit o).part j = s.part j := rfl
@[simp] theorem State.emit_ctx (o : Output) (j k : Nat) : (s.emit o).ctx j k = s.ctx j k := rfl
@[simp] theorem State.emit_frmp (o : Output) (j : Nat) : (s.emit o).frmp j = s.frmp j := rfl
@[simp] theorem State.emit_admp (o : Output) (j : Nat) : (s.emit o).admp j = s.admp j := rfl
@[simp] theorem State.emit_seqp (o : Output) (j : Nat) : (s.emit o).seqp j = s.seqp j := rfl
@[simp] theorem State.emit_pwrp (o : Output) (j : Nat) : (s.emit o).pwrp j = s.pwrp j := rfl
@[simp] theorem State.emit_plnp (o : Output) (j : Nat) : (s.emit o).plnp j = s.plnp j := rfl
@[simp] theorem State.emit_port (o : Output) (j : Nat) : (s.emit o).port j = s.port j := rfl
@[simp] theorem State.emit_work (o : Output) (j : Nat) : (s.emit o).work j = s.work j := rfl
@[simp] theorem State.emit_fn (o : Output) (j : Nat) : (s.emit o).fn j = s.fn j := rfl
@[simp] theorem State.emit_self (o : Output) : (s.emit o).self = s.self := rfl
@[simp] theorem State.emit_clocked (o : Output) : (s.emit o).clocked = s.clocked := rfl
@[simp] theorem State.emit_fnExists (o : Output) (j : Nat) : (s.emit o).fnExists j = s.fnExists j := rfl
@[simp] theorem State.emit_rowOwner (o : Output) (j : Nat) : (s.emit o).rowOwner j = s.rowOwner j := rfl
@[simp] theorem State.emit_serving (o : Output) : (s.emit o).serving = s.serving := rfl

end Sys2Proof.Machine
end

