-- ==== Sys2Proof/Laws/Tables.lean ====
section
/-! SUPPORT. Tables and memories: what is read after a write, at the place written and elsewhere, and the same for the
records of the state that stand in tables. -/

namespace Sys2Proof.Machine

/-! ### Tables -/

@[simp] theorem Tab.get_put_self {α : Type} (d : α) (k : Nat) (v : α) (t : Tab α) : (t.put k v).get d k = v := by
  induction t with
  | nil => simp [Tab.put, Tab.get]
  | cons p t ih => grind [Tab.put, Tab.get]

theorem Tab.get_put_ne {α : Type} (d : α) {k j : Nat} (h : j ≠ k) (v : α) (t : Tab α) :
    (t.put k v).get d j = t.get d j := by
  induction t with
  | nil => simp [Tab.put, Tab.get, h.symm]
  | cons p t ih => grind [Tab.put, Tab.get]

theorem Tab.get_put {α : Type} (d : α) (k j : Nat) (v : α) (t : Tab α) :
    (t.put k v).get d j = if j = k then v else t.get d j := by
  by_cases h : j = k
  · subst h
    simp
  · rw [Tab.get_put_ne d h, if_neg h]

@[simp] theorem Tab.get_upd_self {α : Type} (d : α) (k : Nat) (f : α → α) (t : Tab α) :
    (t.upd d k f).get d k = f (t.get d k) := Tab.get_put_self d k _ t

theorem Tab.get_upd_ne {α : Type} (d : α) {k j : Nat} (h : j ≠ k) (f : α → α) (t : Tab α) :
    (t.upd d k f).get d j = t.get d j := Tab.get_put_ne d h _ t

theorem Tab.get_upd {α : Type} (d : α) (k j : Nat) (f : α → α) (t : Tab α) :
    (t.upd d k f).get d j = if j = k then f (t.get d k) else t.get d j := Tab.get_put d k j _ t

/-- A fold of one idempotent update over keys: the keys named hold it, the others are as before. -/
theorem Tab.get_foldl_upd {α : Type} (d : α) (key : Nat → Nat) (f : α → α) (hf : ∀ x, f (f x) = f x) (l : List Nat) (t : Tab α)
    (k : Nat) : (l.foldl (fun t v => t.upd d (key v) f) t).get d k =
      if k ∈ l.map key then f (t.get d k) else t.get d k := by
  induction l generalizing t with
  | nil => simp
  | cons v l ih =>
    rw [List.foldl_cons, ih, Tab.get_upd]
    grind

/-- A fold that puts one record at several keys. -/
theorem Tab.get_foldl_put {α : Type} (d : α) (key : Nat → Nat) (x : α) (l : List Nat) (t : Tab α) (k : Nat) :
    (l.foldl (fun t v => t.put (key v) x) t).get d k = if k ∈ l.map key then x else t.get d k := by
  induction l generalizing t with
  | nil => simp
  | cons v l ih =>
    rw [List.foldl_cons, ih, Tab.get_put]
    grind

/-! ### Memories -/

theorem Tab.get_filter_ne (a x : Nat) (m : Memory) (h : x ≠ a) :
    Tab.get (0 : Byte) x (m.filter (fun c => c.1 != a)) = Tab.get 0 x m := by
  induction m with
  | nil => rfl
  | cons c t ih => grind [Tab.get]

theorem Tab.get_filter_self (a : Nat) (m : Memory) : Tab.get (0 : Byte) a (m.filter (fun c => c.1 != a)) = 0 := by
  induction m with
  | nil => rfl
  | cons c t ih => grind [Tab.get]

/-- Reading a byte after writing one: the byte written at its address, what stood there elsewhere. -/
theorem Memory.read_write (a x : Nat) (b : Byte) (m : Memory) :
    (m.write a b).read x = if x = a then b else m.read x := by
  unfold Memory.write Memory.read
  by_cases hb : b = 0
  · rw [if_pos hb]
    by_cases h : x = a
    · rw [if_pos h, h, hb, Tab.get_filter_self]
    · rw [if_neg h, Tab.get_filter_ne a x m h]
  · rw [if_neg hb, Tab.get_put]

/-- Outside the bytes written, a write of bytes changes nothing. -/
theorem Memory.read_writeBytes_out (bs : List Byte) (a x : Nat) (m : Memory) (h : x < a ∨ a + bs.length ≤ x) :
    (m.writeBytes a bs).read x = m.read x := by
  induction bs generalizing a m with
  | nil => rfl
  | cons b bs ih =>
    simp only [List.length_cons] at h
    rw [Memory.writeBytes, ih (a + 1) _ (by omega), Memory.read_write, if_neg (by omega)]

/-- Inside the bytes written, a write of bytes leaves them. -/
theorem Memory.read_writeBytes_in (bs : List Byte) (a i : Nat) (m : Memory) (h : i < bs.length) :
    (m.writeBytes a bs).read (a + i) = bs[i] := by
  induction bs generalizing a i m with
  | nil => simp at h
  | cons b bs ih =>
    rw [Memory.writeBytes]
    cases i with
    | zero => rw [Memory.read_writeBytes_out _ _ _ _ (by omega), Memory.read_write, if_pos (by omega)]; rfl
    | succ i =>
      have := ih (a + 1) i (m.write a b) (by simpa using h)
      rw [show a + (i + 1) = a + 1 + i by omega, this]
      rfl

/-! ### Records of the state that stand in tables -/

variable (s : State)

@[simp] theorem State.mb_updMb_self (m : Nat) (f : Mailbox → Mailbox) : (s.updMb m f).mb m = f (s.mb m) :=
  Tab.get_upd_self _ _ _ _
theorem State.mb_updMb_ne {m k : Nat} (h : k ≠ m) (f : Mailbox → Mailbox) : (s.updMb m f).mb k = s.mb k :=
  Tab.get_upd_ne _ h _ _
@[simp] theorem State.part_updPart_self (p : Nat) (f : Part → Part) : (s.updPart p f).part p = f (s.part p) :=
  Tab.get_upd_self _ _ _ _
theorem State.part_updPart_ne {p k : Nat} (h : k ≠ p) (f : Part → Part) : (s.updPart p f).part k = s.part k :=
  Tab.get_upd_ne _ h _ _
@[simp] theorem State.part_updCtx (p c : Nat) (f : Ctx → Ctx) (k : Nat) : (s.updCtx p c f).part k = s.part k := rfl
@[simp] theorem State.ctx_updPart (p : Nat) (f : Part → Part) (j c : Nat) : (s.updPart p f).ctx j c = s.ctx j c := rfl
@[simp] theorem State.ctx_updCtx_self (p c : Nat) (f : Ctx → Ctx) : (s.updCtx p c f).ctx p c = f (s.ctx p c) :=
  Tab.get_upd_self _ _ _ _
theorem State.ctx_updCtx_ne {p c j k : Nat} (h : tagOf j k ≠ tagOf p c) (f : Ctx → Ctx) :
    (s.updCtx p c f).ctx j k = s.ctx j k := Tab.get_upd_ne _ h _ _
@[simp] theorem State.frmp_updFrmp_self (p : Nat) (f : FrmPart → FrmPart) : (s.updFrmp p f).frmp p = f (s.frmp p) :=
  Tab.get_upd_self _ _ _ _
theorem State.frmp_updFrmp_ne {p k : Nat} (h : k ≠ p) (f : FrmPart → FrmPart) : (s.updFrmp p f).frmp k = s.frmp k :=
  Tab.get_upd_ne _ h _ _
@[simp] theorem State.admp_updAdmp_self (p : Nat) (f : AdmPart → AdmPart) : (s.updAdmp p f).admp p = f (s.admp p) :=
  Tab.get_upd_self _ _ _ _
@[simp] theorem State.seqp_updSeqp_self (p : Nat) (f : SeqPart → SeqPart) : (s.updSeqp p f).seqp p = f (s.seqp p) :=
  Tab.get_upd_self _ _ _ _
@[simp] theorem State.pwrp_updPwrp_self (p : Nat) (f : PwrPart → PwrPart) : (s.updPwrp p f).pwrp p = f (s.pwrp p) :=
  Tab.get_upd_self _ _ _ _
@[simp] theorem State.plnp_updPlnp_self (p : Nat) (f : PlnPart → PlnPart) : (s.updPlnp p f).plnp p = f (s.plnp p) :=
  Tab.get_upd_self _ _ _ _
@[simp] theorem State.port_updPort_self (i : Nat) (f : Port → Port) : (s.updPort i f).port i = f (s.port i) :=
  Tab.get_upd_self _ _ _ _
theorem State.port_updPort_ne {i k : Nat} (h : k ≠ i) (f : Port → Port) : (s.updPort i f).port k = s.port k :=
  Tab.get_upd_ne _ h _ _
@[simp] theorem State.port_updWork (i : Nat) (f : PortWork → PortWork) (k : Nat) : (s.updWork i f).port k = s.port k := rfl
@[simp] theorem State.work_updPort (i : Nat) (f : Port → Port) (k : Nat) : (s.updPort i f).work k = s.work k := rfl
@[simp] theorem State.work_updWork_self (i : Nat) (f : PortWork → PortWork) : (s.updWork i f).work i = f (s.work i) :=
  Tab.get_upd_self _ _ _ _
@[simp] theorem State.fn_updFn_self (n : Nat) (f : PciFn → PciFn) : (s.updFn n f).fn n = f (s.fn n) :=
  Tab.get_upd_self _ _ _ _
theorem State.spanOf_updSpan {id : BitVec 16} {x : Span} (h : s.span? id = some x) (f : Span → Span) (hf : (f x).id = id) :
    (s.updSpan id f).span? id = some (f x) := by
  unfold State.span? State.updSpan at *
  dsimp only
  generalize s.ten.spans = l at h
  induction l with
  | nil => simp at h
  | cons y t ih =>
    rw [List.map_cons, List.find?_cons]
    rw [List.find?_cons] at h
    by_cases e : y.id = id
    · rw [if_pos (by simpa using e)]
      simp only [e, beq_self_eq_true] at h
      cases h
      simp [hf]
    · have e' : (y.id == id) = false := by simpa using e
      simp only [e'] at h
      simp only [e', Bool.false_eq_true, if_false]
      exact ih h

@[simp] theorem State.fnExists_updFn (n : Nat) (f : PciFn → PciFn) (k : Nat) : (s.updFn n f).fnExists k = s.fnExists k := rfl

end Sys2Proof.Machine
end

