-- ==== Sys2Proof/Laws/Commands.lean ====
section
/-! SUPPORT. What serving a command does once its entry has passed the checks: what its body answers is what its record
says, and a record changes nothing but the mailbox it is staged in. -/

namespace Sys2Proof.Machine

open Sys2Proof

/-! ### Modes that a row gives its command -/

theorem Entry.arg0_withMode (lo len v : Nat) (e : Entry) :
    (e.withMode lo len v).arg 0 = e.arg 0 &&& ~~~(maskOf 64 [(lo, len)]) ||| word [(lo, v)] := rfl

theorem Entry.arg_withMode (lo len v : Nat) (e : Entry) (i : Nat) (h : 0 < i) (h2 : i < 14) :
    (e.withMode lo len v).arg i = e.arg i := by
  unfold Entry.withMode Entry.arg
  simp [List.getD, h2]
  omega

@[simp] theorem Entry.mode_8_1_0 (e : Entry) : bit ((e.withMode 8 1 0).arg 0) 8 = false := by
  rw [Entry.arg0_withMode]
  simp [bit, maskOf, word]

@[simp] theorem Entry.mode_8_1_1 (e : Entry) : bit ((e.withMode 8 1 1).arg 0) 8 = true := by
  rw [Entry.arg0_withMode]
  simp [bit, maskOf, word]

@[simp] theorem Entry.mode_1_1_0 (e : Entry) : bit ((e.withMode 1 1 0).arg 0) 1 = false := by
  rw [Entry.arg0_withMode]
  simp [bit, maskOf, word]

@[simp] theorem Entry.mode_1_1_1 (e : Entry) : bit ((e.withMode 1 1 1).arg 0) 1 = true := by
  rw [Entry.arg0_withMode]
  simp [bit, maskOf, word]

theorem fld_two (w : W64) : fld w 0 2 = b2n (bit w 0) + 2 * b2n (bit w 1) := by
  unfold fld bit b2n
  rw [Nat.shiftRight_zero, BitVec.getLsbD, BitVec.getLsbD, Nat.testBit_zero, Nat.testBit_succ, Nat.testBit_zero]
  grind

@[simp] theorem Entry.mode_0_2_0 (e : Entry) : fld ((e.withMode 0 2 0).arg 0) 0 2 = 0 := by
  rw [Entry.arg0_withMode, fld_two]
  simp [bit, maskOf, word, b2n]

@[simp] theorem Entry.mode_0_2_1 (e : Entry) : fld ((e.withMode 0 2 1).arg 0) 0 2 = 1 := by
  rw [Entry.arg0_withMode, fld_two]
  simp [bit, maskOf, word, b2n]

@[simp] theorem Entry.mode_0_2_2 (e : Entry) : fld ((e.withMode 0 2 2).arg 0) 0 2 = 2 := by
  rw [Entry.arg0_withMode, fld_two]
  simp [bit, maskOf, word, b2n]

@[simp] theorem Entry.mode_0_2_3 (e : Entry) : fld ((e.withMode 0 2 3).arg 0) 0 2 = 3 := by
  rw [Entry.arg0_withMode, fld_two]
  simp [bit, maskOf, word, b2n]

/-! ### Clocks -/

theorem State.whenClocked_of {s : State} (h : s.clocked = true) (t : State) : s.whenClocked t = t := if_pos h

theorem State.whenClocked_not {s : State} (h : s.clocked = false) (t : State) : s.whenClocked t = s := by
  simp [State.whenClocked, h]

/-! ### Records -/

@[simp] theorem State.stage_fuse (c : CmdId) (oc : Oc) (rs : Reason) (ws : List W64) (fin : Bool) (s : State) :
    (s.stage c oc rs ws fin).fuse = s.fuse := by
  unfold State.stage
  split <;> rfl

@[simp] theorem State.stage_flash (c : CmdId) (oc : Oc) (rs : Reason) (ws : List W64) (fin : Bool) (s : State) :
    (s.stage c oc rs ws fin).flash = s.flash := by
  unfold State.stage
  split <;> rfl

@[simp] theorem State.stage_por (c : CmdId) (oc : Oc) (rs : Reason) (ws : List W64) (fin : Bool) (s : State) :
    (s.stage c oc rs ws fin).por = s.por := by
  unfold State.stage
  split <;> rfl

@[simp] theorem State.stage_mgt (c : CmdId) (oc : Oc) (rs : Reason) (ws : List W64) (fin : Bool) (s : State) :
    (s.stage c oc rs ws fin).mgt = s.mgt := by
  unfold State.stage
  split <;> rfl

@[simp] theorem State.stage_frm (c : CmdId) (oc : Oc) (rs : Reason) (ws : List W64) (fin : Bool) (s : State) :
    (s.stage c oc rs ws fin).frm = s.frm := by
  unfold State.stage
  split <;> rfl

@[simp] theorem State.stage_pcie (c : CmdId) (oc : Oc) (rs : Reason) (ws : List W64) (fin : Bool) (s : State) :
    (s.stage c oc rs ws fin).pcie = s.pcie := by
  unfold State.stage
  split <;> rfl

@[simp] theorem State.stage_nextUid (c : CmdId) (oc : Oc) (rs : Reason) (ws : List W64) (fin : Bool) (s : State) :
    (s.stage c oc rs ws fin).nextUid = s.nextUid := by
  unfold State.stage
  split <;> rfl

@[simp] theorem State.stage_adm (c : CmdId) (oc : Oc) (rs : Reason) (ws : List W64) (fin : Bool) (s : State) :
    (s.stage c oc rs ws fin).adm = s.adm := by
  unfold State.stage
  split <;> rfl

@[simp] theorem State.stage_ten (c : CmdId) (oc : Oc) (rs : Reason) (ws : List W64) (fin : Bool) (s : State) :
    (s.stage c oc rs ws fin).ten = s.ten := by
  unfold State.stage
  split <;> rfl

@[simp] theorem State.stage_xlt (c : CmdId) (oc : Oc) (rs : Reason) (ws : List W64) (fin : Bool) (s : State) :
    (s.stage c oc rs ws fin).xlt = s.xlt := by
  unfold State.stage
  split <;> rfl

@[simp] theorem State.stage_seq (c : CmdId) (oc : Oc) (rs : Reason) (ws : List W64) (fin : Bool) (s : State) :
    (s.stage c oc rs ws fin).seq = s.seq := by
  unfold State.stage
  split <;> rfl

@[simp] theorem State.stage_kv (c : CmdId) (oc : Oc) (rs : Reason) (ws : List W64) (fin : Bool) (s : State) :
    (s.stage c oc rs ws fin).kv = s.kv := by
  unfold State.stage
  split <;> rfl

@[simp] theorem State.stage_sfu (c : CmdId) (oc : Oc) (rs : Reason) (ws : List W64) (fin : Bool) (s : State) :
    (s.stage c oc rs ws fin).sfu = s.sfu := by
  unfold State.stage
  split <;> rfl

@[simp] theorem State.stage_builtins (c : CmdId) (oc : Oc) (rs : Reason) (ws : List W64) (fin : Bool) (s : State) :
    (s.stage c oc rs ws fin).builtins = s.builtins := by
  unfold State.stage
  split <;> rfl

@[simp] theorem State.stage_pln (c : CmdId) (oc : Oc) (rs : Reason) (ws : List W64) (fin : Bool) (s : State) :
    (s.stage c oc rs ws fin).pln = s.pln := by
  unfold State.stage
  split <;> rfl

@[simp] theorem State.stage_red (c : CmdId) (oc : Oc) (rs : Reason) (ws : List W64) (fin : Bool) (s : State) :
    (s.stage c oc rs ws fin).red = s.red := by
  unfold State.stage
  split <;> rfl

@[simp] theorem State.stage_plk (c : CmdId) (oc : Oc) (rs : Reason) (ws : List W64) (fin : Bool) (s : State) :
    (s.stage c oc rs ws fin).plk = s.plk := by
  unfold State.stage
  split <;> rfl

@[simp] theorem State.stage_fab (c : CmdId) (oc : Oc) (rs : Reason) (ws : List W64) (fin : Bool) (s : State) :
    (s.stage c oc rs ws fin).fab = s.fab := by
  unfold State.stage
  split <;> rfl

@[simp] theorem State.stage_pwr (c : CmdId) (oc : Oc) (rs : Reason) (ws : List W64) (fin : Bool) (s : State) :
    (s.stage c oc rs ws fin).pwr = s.pwr := by
  unfold State.stage
  split <;> rfl

@[simp] theorem State.stage_dram (c : CmdId) (oc : Oc) (rs : Reason) (ws : List W64) (fin : Bool) (s : State) :
    (s.stage c oc rs ws fin).dram = s.dram := by
  unfold State.stage
  split <;> rfl

@[simp] theorem State.stage_spad (c : CmdId) (oc : Oc) (rs : Reason) (ws : List W64) (fin : Bool) (s : State) :
    (s.stage c oc rs ws fin).spad = s.spad := by
  unfold State.stage
  split <;> rfl

@[simp] theorem State.stage_host (c : CmdId) (oc : Oc) (rs : Reason) (ws : List W64) (fin : Bool) (s : State) :
    (s.stage c oc rs ws fin).host = s.host := by
  unfold State.stage
  split <;> rfl

@[simp] theorem State.stage_out (c : CmdId) (oc : Oc) (rs : Reason) (ws : List W64) (fin : Bool) (s : State) :
    (s.stage c oc rs ws fin).out = s.out := by
  unfold State.stage
  split <;> rfl

@[simp] theorem State.stage_free (c : CmdId) (oc : Oc) (rs : Reason) (ws : List W64) (fin : Bool) (s : State) :
    (s.stage c oc rs ws fin).free = s.free := by
  unfold State.stage
  split <;> rfl

@[simp] theorem State.stage_pending (c : CmdId) (oc : Oc) (rs : Reason) (ws : List W64) (fin : Bool) (s : State) :
    (s.stage c oc rs ws fin).pending = s.pending := by
  unfold State.stage
  split <;> rfl

@[simp] theorem State.finish_fuse (c : CmdId) (oc : Oc) (rs : Reason) (ws : List W64) (s : State) :
    (s.finish c oc rs ws).fuse = s.fuse := by
  exact State.stage_fuse c oc rs ws true s

@[simp] theorem State.finish_flash (c : CmdId) (oc : Oc) (rs : Reason) (ws : List W64) (s : State) :
    (s.finish c oc rs ws).flash = s.flash := by
  exact State.stage_flash c oc rs ws true s

@[simp] theorem State.finish_por (c : CmdId) (oc : Oc) (rs : Reason) (ws : List W64) (s : State) :
    (s.finish c oc rs ws).por = s.por := by
  exact State.stage_por c oc rs ws true s

@[simp] theorem State.finish_mgt (c : CmdId) (oc : Oc) (rs : Reason) (ws : List W64) (s : State) :
    (s.finish c oc rs ws).mgt = s.mgt := by
  exact State.stage_mgt c oc rs ws true s

@[simp] theorem State.finish_frm (c : CmdId) (oc : Oc) (rs : Reason) (ws : List W64) (s : State) :
    (s.finish c oc rs ws).frm = s.frm := by
  exact State.stage_frm c oc rs ws true s

@[simp] theorem State.finish_pcie (c : CmdId) (oc : Oc) (rs : Reason) (ws : List W64) (s : State) :
    (s.finish c oc rs ws).pcie = s.pcie := by
  exact State.stage_pcie c oc rs ws true s

@[simp] theorem State.finish_nextUid (c : CmdId) (oc : Oc) (rs : Reason) (ws : List W64) (s : State) :
    (s.finish c oc rs ws).nextUid = s.nextUid := by
  exact State.stage_nextUid c oc rs ws true s

@[simp] theorem State.finish_adm (c : CmdId) (oc : Oc) (rs : Reason) (ws : List W64) (s : State) :
    (s.finish c oc rs ws).adm = s.adm := by
  exact State.stage_adm c oc rs ws true s

@[simp] theorem State.finish_ten (c : CmdId) (oc : Oc) (rs : Reason) (ws : List W64) (s : State) :
    (s.finish c oc rs ws).ten = s.ten := by
  exact State.stage_ten c oc rs ws true s

@[simp] theorem State.finish_xlt (c : CmdId) (oc : Oc) (rs : Reason) (ws : List W64) (s : State) :
    (s.finish c oc rs ws).xlt = s.xlt := by
  exact State.stage_xlt c oc rs ws true s

@[simp] theorem State.finish_seq (c : CmdId) (oc : Oc) (rs : Reason) (ws : List W64) (s : State) :
    (s.finish c oc rs ws).seq = s.seq := by
  exact State.stage_seq c oc rs ws true s

@[simp] theorem State.finish_kv (c : CmdId) (oc : Oc) (rs : Reason) (ws : List W64) (s : State) :
    (s.finish c oc rs ws).kv = s.kv := by
  exact State.stage_kv c oc rs ws true s

@[simp] theorem State.finish_sfu (c : CmdId) (oc : Oc) (rs : Reason) (ws : List W64) (s : State) :
    (s.finish c oc rs ws).sfu = s.sfu := by
  exact State.stage_sfu c oc rs ws true s

@[simp] theorem State.finish_builtins (c : CmdId) (oc : Oc) (rs : Reason) (ws : List W64) (s : State) :
    (s.finish c oc rs ws).builtins = s.builtins := by
  exact State.stage_builtins c oc rs ws true s

@[simp] theorem State.finish_pln (c : CmdId) (oc : Oc) (rs : Reason) (ws : List W64) (s : State) :
    (s.finish c oc rs ws).pln = s.pln := by
  exact State.stage_pln c oc rs ws true s

@[simp] theorem State.finish_red (c : CmdId) (oc : Oc) (rs : Reason) (ws : List W64) (s : State) :
    (s.finish c oc rs ws).red = s.red := by
  exact State.stage_red c oc rs ws true s

@[simp] theorem State.finish_plk (c : CmdId) (oc : Oc) (rs : Reason) (ws : List W64) (s : State) :
    (s.finish c oc rs ws).plk = s.plk := by
  exact State.stage_plk c oc rs ws true s

@[simp] theorem State.finish_fab (c : CmdId) (oc : Oc) (rs : Reason) (ws : List W64) (s : State) :
    (s.finish c oc rs ws).fab = s.fab := by
  exact State.stage_fab c oc rs ws true s

@[simp] theorem State.finish_pwr (c : CmdId) (oc : Oc) (rs : Reason) (ws : List W64) (s : State) :
    (s.finish c oc rs ws).pwr = s.pwr := by
  exact State.stage_pwr c oc rs ws true s

@[simp] theorem State.finish_dram (c : CmdId) (oc : Oc) (rs : Reason) (ws : List W64) (s : State) :
    (s.finish c oc rs ws).dram = s.dram := by
  exact State.stage_dram c oc rs ws true s

@[simp] theorem State.finish_spad (c : CmdId) (oc : Oc) (rs : Reason) (ws : List W64) (s : State) :
    (s.finish c oc rs ws).spad = s.spad := by
  exact State.stage_spad c oc rs ws true s

@[simp] theorem State.finish_host (c : CmdId) (oc : Oc) (rs : Reason) (ws : List W64) (s : State) :
    (s.finish c oc rs ws).host = s.host := by
  exact State.stage_host c oc rs ws true s

@[simp] theorem State.finish_out (c : CmdId) (oc : Oc) (rs : Reason) (ws : List W64) (s : State) :
    (s.finish c oc rs ws).out = s.out := by
  exact State.stage_out c oc rs ws true s

@[simp] theorem State.finish_free (c : CmdId) (oc : Oc) (rs : Reason) (ws : List W64) (s : State) :
    (s.finish c oc rs ws).free = s.free := by
  exact State.stage_free c oc rs ws true s

@[simp] theorem State.finish_pending (c : CmdId) (oc : Oc) (rs : Reason) (ws : List W64) (s : State) :
    (s.finish c oc rs ws).pending = s.pending := by
  exact State.stage_pending c oc rs ws true s

@[simp] theorem State.finishAll_fuse (cs : List CmdId) (oc : Oc) (rs : Reason) (ws : List W64) (s : State) :
    (s.finishAll cs oc rs ws).fuse = s.fuse := by
  unfold State.finishAll
  induction cs generalizing s with
  | nil => rfl
  | cons c t ih => rw [List.foldl_cons, ih, State.finish_fuse]

@[simp] theorem State.finishAll_flash (cs : List CmdId) (oc : Oc) (rs : Reason) (ws : List W64) (s : State) :
    (s.finishAll cs oc rs ws).flash = s.flash := by
  unfold State.finishAll
  induction cs generalizing s with
  | nil => rfl
  | cons c t ih => rw [List.foldl_cons, ih, State.finish_flash]

@[simp] theorem State.finishAll_por (cs : List CmdId) (oc : Oc) (rs : Reason) (ws : List W64) (s : State) :
    (s.finishAll cs oc rs ws).por = s.por := by
  unfold State.finishAll
  induction cs generalizing s with
  | nil => rfl
  | cons c t ih => rw [List.foldl_cons, ih, State.finish_por]

@[simp] theorem State.finishAll_mgt (cs : List CmdId) (oc : Oc) (rs : Reason) (ws : List W64) (s : State) :
    (s.finishAll cs oc rs ws).mgt = s.mgt := by
  unfold State.finishAll
  induction cs generalizing s with
  | nil => rfl
  | cons c t ih => rw [List.foldl_cons, ih, State.finish_mgt]

@[simp] theorem State.finishAll_frm (cs : List CmdId) (oc : Oc) (rs : Reason) (ws : List W64) (s : State) :
    (s.finishAll cs oc rs ws).frm = s.frm := by
  unfold State.finishAll
  induction cs generalizing s with
  | nil => rfl
  | cons c t ih => rw [List.foldl_cons, ih, State.finish_frm]

@[simp] theorem State.finishAll_pcie (cs : List CmdId) (oc : Oc) (rs : Reason) (ws : List W64) (s : State) :
    (s.finishAll cs oc rs ws).pcie = s.pcie := by
  unfold State.finishAll
  induction cs generalizing s with
  | nil => rfl
  | cons c t ih => rw [List.foldl_cons, ih, State.finish_pcie]

@[simp] theorem State.finishAll_nextUid (cs : List CmdId) (oc : Oc) (rs : Reason) (ws : List W64) (s : State) :
    (s.finishAll cs oc rs ws).nextUid = s.nextUid := by
  unfold State.finishAll
  induction cs generalizing s with
  | nil => rfl
  | cons c t ih => rw [List.foldl_cons, ih, State.finish_nextUid]

@[simp] theorem State.finishAll_adm (cs : List CmdId) (oc : Oc) (rs : Reason) (ws : List W64) (s : State) :
    (s.finishAll cs oc rs ws).adm = s.adm := by
  unfold State.finishAll
  induction cs generalizing s with
  | nil => rfl
  | cons c t ih => rw [List.foldl_cons, ih, State.finish_adm]

@[simp] theorem State.finishAll_ten (cs : List CmdId) (oc : Oc) (rs : Reason) (ws : List W64) (s : State) :
    (s.finishAll cs oc rs ws).ten = s.ten := by
  unfold State.finishAll
  induction cs generalizing s with
  | nil => rfl
  | cons c t ih => rw [List.foldl_cons, ih, State.finish_ten]

@[simp] theorem State.finishAll_xlt (cs : List CmdId) (oc : Oc) (rs : Reason) (ws : List W64) (s : State) :
    (s.finishAll cs oc rs ws).xlt = s.xlt := by
  unfold State.finishAll
  induction cs generalizing s with
  | nil => rfl
  | cons c t ih => rw [List.foldl_cons, ih, State.finish_xlt]

@[simp] theorem State.finishAll_seq (cs : List CmdId) (oc : Oc) (rs : Reason) (ws : List W64) (s : State) :
    (s.finishAll cs oc rs ws).seq = s.seq := by
  unfold State.finishAll
  induction cs generalizing s with
  | nil => rfl
  | cons c t ih => rw [List.foldl_cons, ih, State.finish_seq]

@[simp] theorem State.finishAll_kv (cs : List CmdId) (oc : Oc) (rs : Reason) (ws : List W64) (s : State) :
    (s.finishAll cs oc rs ws).kv = s.kv := by
  unfold State.finishAll
  induction cs generalizing s with
  | nil => rfl
  | cons c t ih => rw [List.foldl_cons, ih, State.finish_kv]

@[simp] theorem State.finishAll_sfu (cs : List CmdId) (oc : Oc) (rs : Reason) (ws : List W64) (s : State) :
    (s.finishAll cs oc rs ws).sfu = s.sfu := by
  unfold State.finishAll
  induction cs generalizing s with
  | nil => rfl
  | cons c t ih => rw [List.foldl_cons, ih, State.finish_sfu]

@[simp] theorem State.finishAll_builtins (cs : List CmdId) (oc : Oc) (rs : Reason) (ws : List W64) (s : State) :
    (s.finishAll cs oc rs ws).builtins = s.builtins := by
  unfold State.finishAll
  induction cs generalizing s with
  | nil => rfl
  | cons c t ih => rw [List.foldl_cons, ih, State.finish_builtins]

@[simp] theorem State.finishAll_pln (cs : List CmdId) (oc : Oc) (rs : Reason) (ws : List W64) (s : State) :
    (s.finishAll cs oc rs ws).pln = s.pln := by
  unfold State.finishAll
  induction cs generalizing s with
  | nil => rfl
  | cons c t ih => rw [List.foldl_cons, ih, State.finish_pln]

@[simp] theorem State.finishAll_red (cs : List CmdId) (oc : Oc) (rs : Reason) (ws : List W64) (s : State) :
    (s.finishAll cs oc rs ws).red = s.red := by
  unfold State.finishAll
  induction cs generalizing s with
  | nil => rfl
  | cons c t ih => rw [List.foldl_cons, ih, State.finish_red]

@[simp] theorem State.finishAll_plk (cs : List CmdId) (oc : Oc) (rs : Reason) (ws : List W64) (s : State) :
    (s.finishAll cs oc rs ws).plk = s.plk := by
  unfold State.finishAll
  induction cs generalizing s with
  | nil => rfl
  | cons c t ih => rw [List.foldl_cons, ih, State.finish_plk]

@[simp] theorem State.finishAll_fab (cs : List CmdId) (oc : Oc) (rs : Reason) (ws : List W64) (s : State) :
    (s.finishAll cs oc rs ws).fab = s.fab := by
  unfold State.finishAll
  induction cs generalizing s with
  | nil => rfl
  | cons c t ih => rw [List.foldl_cons, ih, State.finish_fab]

@[simp] theorem State.finishAll_pwr (cs : List CmdId) (oc : Oc) (rs : Reason) (ws : List W64) (s : State) :
    (s.finishAll cs oc rs ws).pwr = s.pwr := by
  unfold State.finishAll
  induction cs generalizing s with
  | nil => rfl
  | cons c t ih => rw [List.foldl_cons, ih, State.finish_pwr]

@[simp] theorem State.finishAll_dram (cs : List CmdId) (oc : Oc) (rs : Reason) (ws : List W64) (s : State) :
    (s.finishAll cs oc rs ws).dram = s.dram := by
  unfold State.finishAll
  induction cs generalizing s with
  | nil => rfl
  | cons c t ih => rw [List.foldl_cons, ih, State.finish_dram]

@[simp] theorem State.finishAll_spad (cs : List CmdId) (oc : Oc) (rs : Reason) (ws : List W64) (s : State) :
    (s.finishAll cs oc rs ws).spad = s.spad := by
  unfold State.finishAll
  induction cs generalizing s with
  | nil => rfl
  | cons c t ih => rw [List.foldl_cons, ih, State.finish_spad]

@[simp] theorem State.finishAll_host (cs : List CmdId) (oc : Oc) (rs : Reason) (ws : List W64) (s : State) :
    (s.finishAll cs oc rs ws).host = s.host := by
  unfold State.finishAll
  induction cs generalizing s with
  | nil => rfl
  | cons c t ih => rw [List.foldl_cons, ih, State.finish_host]

@[simp] theorem State.finishAll_out (cs : List CmdId) (oc : Oc) (rs : Reason) (ws : List W64) (s : State) :
    (s.finishAll cs oc rs ws).out = s.out := by
  unfold State.finishAll
  induction cs generalizing s with
  | nil => rfl
  | cons c t ih => rw [List.foldl_cons, ih, State.finish_out]

@[simp] theorem State.finishAll_free (cs : List CmdId) (oc : Oc) (rs : Reason) (ws : List W64) (s : State) :
    (s.finishAll cs oc rs ws).free = s.free := by
  unfold State.finishAll
  induction cs generalizing s with
  | nil => rfl
  | cons c t ih => rw [List.foldl_cons, ih, State.finish_free]

@[simp] theorem State.finishAll_pending (cs : List CmdId) (oc : Oc) (rs : Reason) (ws : List W64) (s : State) :
    (s.finishAll cs oc rs ws).pending = s.pending := by
  unfold State.finishAll
  induction cs generalizing s with
  | nil => rfl
  | cons c t ih => rw [List.foldl_cons, ih, State.finish_pending]

/-! ### Records read through records of the state -/

@[simp] theorem State.stage_part (c : CmdId) (oc : Oc) (rs : Reason) (ws : List W64) (fin : Bool) (s : State) (j : Nat) :
    (s.stage c oc rs ws fin).part j = s.part j := by
  simp [State.part]

@[simp] theorem State.stage_ctx (c : CmdId) (oc : Oc) (rs : Reason) (ws : List W64) (fin : Bool) (s : State) (j k : Nat) :
    (s.stage c oc rs ws fin).ctx j k = s.ctx j k := by
  simp [State.ctx]

@[simp] theorem State.stage_frmp (c : CmdId) (oc : Oc) (rs : Reason) (ws : List W64) (fin : Bool) (s : State) (j : Nat) :
    (s.stage c oc rs ws fin).frmp j = s.frmp j := by
  simp [State.frmp]

@[simp] theorem State.stage_admp (c : CmdId) (oc : Oc) (rs : Reason) (ws : List W64) (fin : Bool) (s : State) (j : Nat) :
    (s.stage c oc rs ws fin).admp j = s.admp j := by
  simp [State.admp]

@[simp] theorem State.stage_seqp (c : CmdId) (oc : Oc) (rs : Reason) (ws : List W64) (fin : Bool) (s : State) (j : Nat) :
    (s.stage c oc rs ws fin).seqp j = s.seqp j := by
  simp [State.seqp]

@[simp] theorem State.stage_pwrp (c : CmdId) (oc : Oc) (rs : Reason) (ws : List W64) (fin : Bool) (s : State) (j : Nat) :
    (s.stage c oc rs ws fin).pwrp j = s.pwrp j := by
  simp [State.pwrp]

@[simp] theorem State.stage_plnp (c : CmdId) (oc : Oc) (rs : Reason) (ws : List W64) (fin : Bool) (s : State) (j : Nat) :
    (s.stage c oc rs ws fin).plnp j = s.plnp j := by
  simp [State.plnp]

@[simp] theorem State.stage_port (c : CmdId) (oc : Oc) (rs : Reason) (ws : List W64) (fin : Bool) (s : State) (j : Nat) :
    (s.stage c oc rs ws fin).port j = s.port j := by
  simp [State.port]

@[simp] theorem State.stage_work (c : CmdId) (oc : Oc) (rs : Reason) (ws : List W64) (fin : Bool) (s : State) (j : Nat) :
    (s.stage c oc rs ws fin).work j = s.work j := by
  simp [State.work]

@[simp] theorem State.stage_fn (c : CmdId) (oc : Oc) (rs : Reason) (ws : List W64) (fin : Bool) (s : State) (j : Nat) :
    (s.stage c oc rs ws fin).fn j = s.fn j := by
  simp [State.fn]

@[simp] theorem State.stage_self (c : CmdId) (oc : Oc) (rs : Reason) (ws : List W64) (fin : Bool) (s : State) :
    (s.stage c oc rs ws fin).self = s.self := by
  simp [State.self]

@[simp] theorem State.stage_clocked (c : CmdId) (oc : Oc) (rs : Reason) (ws : List W64) (fin : Bool) (s : State) :
    (s.stage c oc rs ws fin).clocked = s.clocked := by
  simp [State.clocked]

@[simp] theorem State.stage_rowOwner (c : CmdId) (oc : Oc) (rs : Reason) (ws : List W64) (fin : Bool) (s : State) (j : Nat) :
    (s.stage c oc rs ws fin).rowOwner j = s.rowOwner j := by
  simp [State.rowOwner]

@[simp] theorem State.stage_spanOf (c : CmdId) (oc : Oc) (rs : Reason) (ws : List W64) (fin : Bool) (s : State) (j : BitVec 16) :
    (s.stage c oc rs ws fin).span? j = s.span? j := by
  simp [State.span?]

@[simp] theorem State.finish_part (c : CmdId) (oc : Oc) (rs : Reason) (ws : List W64) (s : State) (j : Nat) :
    (s.finish c oc rs ws).part j = s.part j := by
  simp [State.part]

@[simp] theorem State.finish_ctx (c : CmdId) (oc : Oc) (rs : Reason) (ws : List W64) (s : State) (j k : Nat) :
    (s.finish c oc rs ws).ctx j k = s.ctx j k := by
  simp [State.ctx]

@[simp] theorem State.finish_frmp (c : CmdId) (oc : Oc) (rs : Reason) (ws : List W64) (s : State) (j : Nat) :
    (s.finish c oc rs ws).frmp j = s.frmp j := by
  simp [State.frmp]

@[simp] theorem State.finish_admp (c : CmdId) (oc : Oc) (rs : Reason) (ws : List W64) (s : State) (j : Nat) :
    (s.finish c oc rs ws).admp j = s.admp j := by
  simp [State.admp]

@[simp] theorem State.finish_seqp (c : CmdId) (oc : Oc) (rs : Reason) (ws : List W64) (s : State) (j : Nat) :
    (s.finish c oc rs ws).seqp j = s.seqp j := by
  simp [State.seqp]

@[simp] theorem State.finish_pwrp (c : CmdId) (oc : Oc) (rs : Reason) (ws : List W64) (s : State) (j : Nat) :
    (s.finish c oc rs ws).pwrp j = s.pwrp j := by
  simp [State.pwrp]

@[simp] theorem State.finish_plnp (c : CmdId) (oc : Oc) (rs : Reason) (ws : List W64) (s : State) (j : Nat) :
    (s.finish c oc rs ws).plnp j = s.plnp j := by
  simp [State.plnp]

@[simp] theorem State.finish_port (c : CmdId) (oc : Oc) (rs : Reason) (ws : List W64) (s : State) (j : Nat) :
    (s.finish c oc rs ws).port j = s.port j := by
  simp [State.port]

@[simp] theorem State.finish_work (c : CmdId) (oc : Oc) (rs : Reason) (ws : List W64) (s : State) (j : Nat) :
    (s.finish c oc rs ws).work j = s.work j := by
  simp [State.work]

@[simp] theorem State.finish_fn (c : CmdId) (oc : Oc) (rs : Reason) (ws : List W64) (s : State) (j : Nat) :
    (s.finish c oc rs ws).fn j = s.fn j := by
  simp [State.fn]

@[simp] theorem State.finish_self (c : CmdId) (oc : Oc) (rs : Reason) (ws : List W64) (s : State) :
    (s.finish c oc rs ws).self = s.self := by
  simp [State.self]

@[simp] theorem State.finish_clocked (c : CmdId) (oc : Oc) (rs : Reason) (ws : List W64) (s : State) :
    (s.finish c oc rs ws).clocked = s.clocked := by
  simp [State.clocked]

@[simp] theorem State.finish_rowOwner (c : CmdId) (oc : Oc) (rs : Reason) (ws : List W64) (s : State) (j : Nat) :
    (s.finish c oc rs ws).rowOwner j = s.rowOwner j := by
  simp [State.rowOwner]

@[simp] theorem State.finish_spanOf (c : CmdId) (oc : Oc) (rs : Reason) (ws : List W64) (s : State) (j : BitVec 16) :
    (s.finish c oc rs ws).span? j = s.span? j := by
  simp [State.span?]

@[simp] theorem State.finishAll_part (cs : List CmdId) (oc : Oc) (rs : Reason) (ws : List W64) (s : State) (j : Nat) :
    (s.finishAll cs oc rs ws).part j = s.part j := by
  simp [State.part]

@[simp] theorem State.finishAll_ctx (cs : List CmdId) (oc : Oc) (rs : Reason) (ws : List W64) (s : State) (j k : Nat) :
    (s.finishAll cs oc rs ws).ctx j k = s.ctx j k := by
  simp [State.ctx]

@[simp] theorem State.finishAll_frmp (cs : List CmdId) (oc : Oc) (rs : Reason) (ws : List W64) (s : State) (j : Nat) :
    (s.finishAll cs oc rs ws).frmp j = s.frmp j := by
  simp [State.frmp]

@[simp] theorem State.finishAll_admp (cs : List CmdId) (oc : Oc) (rs : Reason) (ws : List W64) (s : State) (j : Nat) :
    (s.finishAll cs oc rs ws).admp j = s.admp j := by
  simp [State.admp]

@[simp] theorem State.finishAll_seqp (cs : List CmdId) (oc : Oc) (rs : Reason) (ws : List W64) (s : State) (j : Nat) :
    (s.finishAll cs oc rs ws).seqp j = s.seqp j := by
  simp [State.seqp]

@[simp] theorem State.finishAll_pwrp (cs : List CmdId) (oc : Oc) (rs : Reason) (ws : List W64) (s : State) (j : Nat) :
    (s.finishAll cs oc rs ws).pwrp j = s.pwrp j := by
  simp [State.pwrp]

@[simp] theorem State.finishAll_plnp (cs : List CmdId) (oc : Oc) (rs : Reason) (ws : List W64) (s : State) (j : Nat) :
    (s.finishAll cs oc rs ws).plnp j = s.plnp j := by
  simp [State.plnp]

@[simp] theorem State.finishAll_port (cs : List CmdId) (oc : Oc) (rs : Reason) (ws : List W64) (s : State) (j : Nat) :
    (s.finishAll cs oc rs ws).port j = s.port j := by
  simp [State.port]

@[simp] theorem State.finishAll_work (cs : List CmdId) (oc : Oc) (rs : Reason) (ws : List W64) (s : State) (j : Nat) :
    (s.finishAll cs oc rs ws).work j = s.work j := by
  simp [State.work]

@[simp] theorem State.finishAll_fn (cs : List CmdId) (oc : Oc) (rs : Reason) (ws : List W64) (s : State) (j : Nat) :
    (s.finishAll cs oc rs ws).fn j = s.fn j := by
  simp [State.fn]

@[simp] theorem State.finishAll_self (cs : List CmdId) (oc : Oc) (rs : Reason) (ws : List W64) (s : State) :
    (s.finishAll cs oc rs ws).self = s.self := by
  simp [State.self]

@[simp] theorem State.finishAll_clocked (cs : List CmdId) (oc : Oc) (rs : Reason) (ws : List W64) (s : State) :
    (s.finishAll cs oc rs ws).clocked = s.clocked := by
  simp [State.clocked]

@[simp] theorem State.finishAll_rowOwner (cs : List CmdId) (oc : Oc) (rs : Reason) (ws : List W64) (s : State) (j : Nat) :
    (s.finishAll cs oc rs ws).rowOwner j = s.rowOwner j := by
  simp [State.rowOwner]

@[simp] theorem State.finishAll_spanOf (cs : List CmdId) (oc : Oc) (rs : Reason) (ws : List W64) (s : State) (j : BitVec 16) :
    (s.finishAll cs oc rs ws).span? j = s.span? j := by
  simp [State.span?]

/-! ### Consumption -/

@[simp] theorem State.entered_fuse (m : Nat) (op : BitVec 16) (e : Entry) (s : State) :
    (s.entered m op e).fuse = s.fuse := rfl
@[simp] theorem State.entered_flash (m : Nat) (op : BitVec 16) (e : Entry) (s : State) :
    (s.entered m op e).flash = s.flash := rfl
@[simp] theorem State.entered_por (m : Nat) (op : BitVec 16) (e : Entry) (s : State) :
    (s.entered m op e).por = s.por := rfl
@[simp] theorem State.entered_mgt (m : Nat) (op : BitVec 16) (e : Entry) (s : State) :
    (s.entered m op e).mgt = s.mgt := rfl
@[simp] theorem State.entered_frm (m : Nat) (op : BitVec 16) (e : Entry) (s : State) :
    (s.entered m op e).frm = s.frm := rfl
@[simp] theorem State.entered_pcie (m : Nat) (op : BitVec 16) (e : Entry) (s : State) :
    (s.entered m op e).pcie = s.pcie := rfl
@[simp] theorem State.entered_adm (m : Nat) (op : BitVec 16) (e : Entry) (s : State) :
    (s.entered m op e).adm = s.adm := rfl
@[simp] theorem State.entered_ten (m : Nat) (op : BitVec 16) (e : Entry) (s : State) :
    (s.entered m op e).ten = s.ten := rfl
@[simp] theorem State.entered_xlt (m : Nat) (op : BitVec 16) (e : Entry) (s : State) :
    (s.entered m op e).xlt = s.xlt := rfl
@[simp] theorem State.entered_seq (m : Nat) (op : BitVec 16) (e : Entry) (s : State) :
    (s.entered m op e).seq = s.seq := rfl
@[simp] theorem State.entered_kv (m : Nat) (op : BitVec 16) (e : Entry) (s : State) :
    (s.entered m op e).kv = s.kv := rfl
@[simp] theorem State.entered_sfu (m : Nat) (op : BitVec 16) (e : Entry) (s : State) :
    (s.entered m op e).sfu = s.sfu := rfl
@[simp] theorem State.entered_builtins (m : Nat) (op : BitVec 16) (e : Entry) (s : State) :
    (s.entered m op e).builtins = s.builtins := rfl
@[simp] theorem State.entered_pln (m : Nat) (op : BitVec 16) (e : Entry) (s : State) :
    (s.entered m op e).pln = s.pln := rfl
@[simp] theorem State.entered_red (m : Nat) (op : BitVec 16) (e : Entry) (s : State) :
    (s.entered m op e).red = s.red := rfl
@[simp] theorem State.entered_plk (m : Nat) (op : BitVec 16) (e : Entry) (s : State) :
    (s.entered m op e).plk = s.plk := rfl
@[simp] theorem State.entered_fab (m : Nat) (op : BitVec 16) (e : Entry) (s : State) :
    (s.entered m op e).fab = s.fab := rfl
@[simp] theorem State.entered_pwr (m : Nat) (op : BitVec 16) (e : Entry) (s : State) :
    (s.entered m op e).pwr = s.pwr := rfl
@[simp] theorem State.entered_dram (m : Nat) (op : BitVec 16) (e : Entry) (s : State) :
    (s.entered m op e).dram = s.dram := rfl
@[simp] theorem State.entered_spad (m : Nat) (op : BitVec 16) (e : Entry) (s : State) :
    (s.entered m op e).spad = s.spad := rfl
@[simp] theorem State.entered_host (m : Nat) (op : BitVec 16) (e : Entry) (s : State) :
    (s.entered m op e).host = s.host := rfl
@[simp] theorem State.entered_out (m : Nat) (op : BitVec 16) (e : Entry) (s : State) :
    (s.entered m op e).out = s.out := rfl
@[simp] theorem State.entered_free (m : Nat) (op : BitVec 16) (e : Entry) (s : State) :
    (s.entered m op e).free = s.free := rfl
@[simp] theorem State.entered_pending (m : Nat) (op : BitVec 16) (e : Entry) (s : State) :
    (s.entered m op e).pending = s.pending := rfl
@[simp] theorem State.entered_spanOf (m : Nat) (op : BitVec 16) (e : Entry) (s : State) (j : BitVec 16) :
    (s.entered m op e).span? j = s.span? j := rfl
@[simp] theorem State.entered_part (m : Nat) (op : BitVec 16) (e : Entry) (s : State) (j : Nat) :
    (s.entered m op e).part j = s.part j := rfl
@[simp] theorem State.entered_ctx (m : Nat) (op : BitVec 16) (e : Entry) (s : State) (j k : Nat) :
    (s.entered m op e).ctx j k = s.ctx j k := rfl
@[simp] theorem State.entered_frmp (m : Nat) (op : BitVec 16) (e : Entry) (s : State) (j : Nat) :
    (s.entered m op e).frmp j = s.frmp j := rfl
@[simp] theorem State.entered_admp (m : Nat) (op : BitVec 16) (e : Entry) (s : State) (j : Nat) :
    (s.entered m op e).admp j = s.admp j := rfl
@[simp] theorem State.entered_seqp (m : Nat) (op : BitVec 16) (e : Entry) (s : State) (j : Nat) :
    (s.entered m op e).seqp j = s.seqp j := rfl
@[simp] theorem State.entered_pwrp (m : Nat) (op : BitVec 16) (e : Entry) (s : State) (j : Nat) :
    (s.entered m op e).pwrp j = s.pwrp j := rfl
@[simp] theorem State.entered_plnp (m : Nat) (op : BitVec 16) (e : Entry) (s : State) (j : Nat) :
    (s.entered m op e).plnp j = s.plnp j := rfl
@[simp] theorem State.entered_port (m : Nat) (op : BitVec 16) (e : Entry) (s : State) (j : Nat) :
    (s.entered m op e).port j = s.port j := rfl
@[simp] theorem State.entered_work (m : Nat) (op : BitVec 16) (e : Entry) (s : State) (j : Nat) :
    (s.entered m op e).work j = s.work j := rfl
@[simp] theorem State.entered_fn (m : Nat) (op : BitVec 16) (e : Entry) (s : State) (j : Nat) :
    (s.entered m op e).fn j = s.fn j := rfl
@[simp] theorem State.entered_self (m : Nat) (op : BitVec 16) (e : Entry) (s : State) :
    (s.entered m op e).self = s.self := rfl
@[simp] theorem State.entered_clocked (m : Nat) (op : BitVec 16) (e : Entry) (s : State) :
    (s.entered m op e).clocked = s.clocked := rfl
@[simp] theorem State.entered_fnExists (m : Nat) (op : BitVec 16) (e : Entry) (s : State) (j : Nat) :
    (s.entered m op e).fnExists j = s.fnExists j := rfl
@[simp] theorem State.entered_rowOwner (m : Nat) (op : BitVec 16) (e : Entry) (s : State) (j : Nat) :
    (s.entered m op e).rowOwner j = s.rowOwner j := rfl
@[simp] theorem State.entered_serving (m : Nat) (op : BitVec 16) (e : Entry) (s : State) :
    (s.entered m op e).serving = s.serving := rfl

theorem State.entered_mb (m : Nat) (op : BitVec 16) (e : Entry) (s : State) :
    (s.entered m op e).mb m = { s.mb m with
      consumed := (s.mb m).consumed + 1, tickets := (s.mb m).tickets ++ [{ cmd := cmdIdOf s.nextUid m op e }] } := by
  rw [State.entered, State.mb_updMb_self, State.mb_updMb_self]
  rfl

/-- Serving an accepted entry is its body on the state with the ticket entered, then the record its reply names. -/
theorem serve_accepted {sp : Spec} {m : Nat} {e : Entry} {s : State} (h : Accepted sp m e s) :
    serve sp m e s =
      match sp.body (cmdIdOf s.nextUid m sp.opcode e) (sp.on m e) e (s.entered m sp.opcode e) with
      | (s', .done ws) => s'.finish (cmdIdOf s.nextUid m sp.opcode e) .done .none ws
      | (s', .later) => s'
      | (s', .fail oc rs ws) => s'.finish (cmdIdOf s.nextUid m sp.opcode e) oc rs ws := by
  obtain ⟨h1, h2, h3, h4, h5, h6, h7, h8, h9⟩ := h
  have hf : decide (ticketLimit m < ((s.entered m sp.opcode e).mb m).tickets.length) = false := by
    rw [State.entered_mb]
    simp only [List.length_append, List.length_singleton, decide_eq_false_iff_not]
    omega
  have hc : ((e.cost != 0) != decide (sp.cls = Class.j)) = false := by rw [h5]; simp
  unfold serve
  rw [if_pos h1]
  unfold consume
  simp only [h2, h3, h4, Bool.not_true, Bool.false_eq_true, if_false]
  unfold carryOut
  simp only [show (State.updMb m (fun b => { b with tickets := b.tickets ++ [{ cmd := cmdIdOf s.nextUid m sp.opcode e }] })
    (State.updMb m (fun b => { b with consumed := b.consumed + 1 }) { s with nextUid := s.nextUid + 1 })) =
      s.entered m sp.opcode e from rfl, hc, h6, State.entered_part, h7, State.entered_ctx, hf]
  simp only [Bool.not_true, Bool.or_self, Bool.false_eq_true, if_false]
  simp only [Spec.on] at h8
  rw [h8]
  simp only [Spec.on, Bool.false_and, Bool.false_eq_true, if_false]
  all_goals
    rcases sp.body (cmdIdOf s.nextUid m sp.opcode e) ((sp.part m e.args).getD 0) e (s.entered m sp.opcode e) with ⟨s', r⟩
    cases r <;> rfl

/-- The outcome record of an accepted command, staged on a state whose mailbox its body has left alone. -/
theorem finish_answered {sp : Spec} {m : Nat} {e : Entry} {s s' : State} (h : Accepted sp m e s) (oc : Oc) (rs : Reason)
    (ws : List W64) (hm : s'.mb m = (s.entered m sp.opcode e).mb m) (hf : s'.frm.count = s.frm.count) :
    Answered sp m e oc rs ws s (s'.finish (cmdIdOf s.nextUid m sp.opcode e) oc rs ws) := by
  have hr : (s.mb m).resetBusy = false := by
    have h1 := h.1
    unfold State.canConsume at h1
    simp only [Bool.and_eq_true, Bool.not_eq_true'] at h1
    exact h1.1.1.2
  have hl : (s'.mb m).live s.nextUid = true := by
    rw [hm, State.entered_mb]
    simp [Mailbox.live, cmdIdOf]
  have hb : (s'.mb m).resetBusy = false := by
    rw [hm, State.entered_mb]
    exact hr
  unfold Answered State.finish State.stage
  simp only [cmdIdOf] at *
  rw [hl, hb]
  simp only [Bool.not_false, Bool.and_self, if_true, State.mb_updMb_self, hf, hm, State.entered_mb]

/-- An accepted command whose body answers at once without touching its mailbox: the next state and its record. -/
theorem serve_done {sp : Spec} {m : Nat} {e : Entry} {s s' : State} {ws : List W64} (h : Accepted sp m e s)
    (hb : sp.body (cmdIdOf s.nextUid m sp.opcode e) (sp.on m e) e (s.entered m sp.opcode e) = (s', .done ws))
    (hm : s'.mb m = (s.entered m sp.opcode e).mb m) (hf : s'.frm.count = s.frm.count) :
    serve sp m e s = s'.finish (cmdIdOf s.nextUid m sp.opcode e) .done .none ws ∧
      Answered sp m e .done .none ws s (serve sp m e s) := by
  have e1 := serve_accepted h
  rw [hb] at e1
  dsimp only at e1
  rw [e1]
  exact ⟨rfl, finish_answered h _ _ _ hm hf⟩

/-- An accepted command whose record comes later: the next state is what its body leaves. -/
theorem serve_later {sp : Spec} {m : Nat} {e : Entry} {s s' : State} (h : Accepted sp m e s)
    (hb : sp.body (cmdIdOf s.nextUid m sp.opcode e) (sp.on m e) e (s.entered m sp.opcode e) = (s', .later)) :
    serve sp m e s = s' := by
  have e1 := serve_accepted h
  rw [hb] at e1
  exact e1

/-- A record staged on the state with the ticket entered changes nothing else. -/
theorem entered_onlyRecorded (m : Nat) (op : BitVec 16) (e : Entry) (c : CmdId) (oc : Oc) (rs : Reason) (ws : List W64)
    (s : State) : OnlyRecorded s ((s.entered m op e).finish c oc rs ws) := by
  unfold State.finish State.stage
  split <;> rfl

/-- An accepted query: its record, and nothing else. -/
theorem serve_query {sp : Spec} {m : Nat} {e : Entry} {s : State} {ws : List W64} (h : Accepted sp m e s)
    (hb : sp.body (cmdIdOf s.nextUid m sp.opcode e) (sp.on m e) e (s.entered m sp.opcode e) =
      (s.entered m sp.opcode e, .done ws)) :
    OnlyRecorded s (serve sp m e s) ∧ Answered sp m e .done .none ws s (serve sp m e s) := by
  have hd := serve_done h hb rfl rfl
  refine ⟨?_, hd.2⟩
  rw [hd.1]
  exact entered_onlyRecorded _ _ _ _ _ _ _ _

end Sys2Proof.Machine
end

