-- ==== Sys2Proof/Laws/Kept.lean ====
section
/-! SUPPORT. What every operation and every command keeps: the queue of waiting commands, the outputs already made,
    the
count of free values taken, the fuses (which only blow) and the canonical form of the three memories. One predicate
    over
two states says it, and one lemma for each operation (the files beside this one) passes it on. -/

namespace Sys2Proof.Machine

open Sys2Proof

/-- The memory keeps its canonical form, if `W`. -/
def Memory.OkIf (W : Prop) (m : Memory) : Prop := W → m.wf = true

/-- `Kept` over the fields it speaks of. -/
def KeptF (W : Prop) (a : State) (pending : List Instr) (out : List Output) (free : Nat) (fuse : Fuses) (dram spad
    host : Memory) : Prop :=
  pending = a.pending ∧ a.out <+: out ∧ a.free ≤ free ∧ a.fuse.grows fuse ∧ dram.OkIf W ∧ spad.OkIf W ∧ host.OkIf W

/-- From `a` to `s`: the queue is the same, outputs were only added, the count of free values never fell, fuses only
    blew,
and the three memories are in canonical form (if `W`, which stands for their being so at the start). -/
def Kept (W : Prop) (a s : State) : Prop := KeptF W a s.pending s.out s.free s.fuse s.dram s.spad s.host

theorem keptF_fold (W : Prop) (a s : State) : KeptF W a s.pending s.out s.free s.fuse s.dram s.spad s.host ↔ Kept W a
    s := Iff.rfl

theorem kept_mk (W : Prop) (a)
    (x1 x2 x3 x4 x5 x6 x7 x8 x9 x10 x11 x12 x13 x14 x15 x16 x17 x18 x19 x20 dram spad host out free pending) :
    Kept W a (State.mk x1 x2 x3 x4 x5 x6 x7 x8 x9 x10 x11 x12 x13 x14 x15 x16 x17 x18 x19 x20 dram spad host out free
        pending) ↔
   KeptF W a pending out free x1 dram spad host := Iff.rfl

theorem foldl_kept {W : Prop} {a : State} {α : Type} {g : State → α → State} (hg : ∀ s x, Kept W a s → Kept W a (g s
    x)) (l : List α)
    {s : State} (h : Kept W a s) : Kept W a (l.foldl g s) := by
  induction l generalizing s with
  | nil => exact h
  | cons x t ih => exact ih (hg _ _ h)

variable {W : Prop} {a : State}

theorem keptF_free {n : Nat} {s : State} (h : Kept W a s) (hn : s.free ≤ n) :
    KeptF W a s.pending s.out n s.fuse s.dram s.spad s.host :=
  ⟨h.1, h.2.1, Nat.le_trans h.2.2.1 hn, h.2.2.2⟩

theorem keptF_free1 {n : Nat} {s : State} (h : Kept W a s) : KeptF W a s.pending s.out (s.free + n) s.fuse s.dram
    s.spad s.host :=
  keptF_free h (Nat.le_add_right _ _)

theorem keptF_dram {m : Memory} {s : State} (h : Kept W a s) (hm : m.OkIf W) :
    KeptF W a s.pending s.out s.free s.fuse m s.spad s.host :=
  ⟨h.1, h.2.1, h.2.2.1, h.2.2.2.1, hm, h.2.2.2.2.2⟩

theorem keptF_spad {m : Memory} {s : State} (h : Kept W a s) (hm : m.OkIf W) :
    KeptF W a s.pending s.out s.free s.fuse s.dram m s.host :=
  ⟨h.1, h.2.1, h.2.2.1, h.2.2.2.1, h.2.2.2.2.1, hm, h.2.2.2.2.2.2⟩

theorem keptF_host {m : Memory} {s : State} (h : Kept W a s) (hm : m.OkIf W) :
    KeptF W a s.pending s.out s.free s.fuse s.dram s.spad m :=
  ⟨h.1, h.2.1, h.2.2.1, h.2.2.2.1, h.2.2.2.2.1, h.2.2.2.2.2.1, hm⟩

theorem Kept.dram {s : State} (h : Kept W a s) : s.dram.OkIf W := h.2.2.2.2.1
theorem Kept.spad {s : State} (h : Kept W a s) : s.spad.OkIf W := h.2.2.2.2.2.1
theorem Kept.host {s : State} (h : Kept W a s) : s.host.OkIf W := h.2.2.2.2.2.2
theorem okIf_nil : Memory.OkIf W [] := fun _ => rfl

theorem pairwise_of_zip_tail (m : Memory) (h : (m.zip m.tail).all (fun p => decide (p.1.1 < p.2.1)) = true) :
    m.Pairwise (fun c d => c.1 < d.1) := by
  induction m with
  | nil => exact List.Pairwise.nil
  | cons c t ih =>
    cases t with
    | nil => simp
    | cons d t =>
      simp only [List.tail_cons, List.zip_cons_cons, List.all_cons, Bool.and_eq_true, decide_eq_true_eq] at h ih
      have ih := ih h.2
      refine List.Pairwise.cons ?_ ih
      intro e he
      rcases List.mem_cons.1 he with rfl | he
      · exact h.1
      · exact Nat.lt_trans h.1 (List.rel_of_pairwise_cons ih he)

theorem zip_tail_of_pairwise (m : Memory) (h : m.Pairwise (fun c d => c.1 < d.1)) :
    (m.zip m.tail).all (fun p => decide (p.1.1 < p.2.1)) = true := by
  induction m with
  | nil => rfl
  | cons c t ih =>
    cases t with
    | nil => rfl
    | cons d t =>
      simp only [List.tail_cons, List.zip_cons_cons, List.all_cons, Bool.and_eq_true, decide_eq_true_eq]
      exact ⟨List.rel_of_pairwise_cons h List.mem_cons_self, ih h.of_cons⟩

theorem Memory.wf_iff (m : Memory) : m.wf = true ↔ m.Pairwise (fun c d => c.1 < d.1) ∧ ∀ c ∈ m, c.2 ≠ 0 := by
  unfold Memory.wf
  rw [Bool.and_eq_true]
  refine and_congr ⟨pairwise_of_zip_tail m, zip_tail_of_pairwise m⟩ ?_
  simp

theorem Memory.filter_ok {m : Memory} (h : m.OkIf W) (f : Host.Cell → Bool) : Memory.OkIf W (m.filter f) := fun w =>
    by
  have h := h w
  rw [Memory.wf_iff] at *
  exact ⟨h.1.filter _, fun c hc => h.2 c (List.mem_filter.1 hc).1⟩

theorem Tab.mem_put {α : Type} (k : Nat) (v : α) (t : Tab α) (x : Nat × α) (h : x ∈ t.put k v) : x = (k, v) ∨ x ∈ t :=
    by
  induction t with
  | nil => simpa [Tab.put] using h
  | cons p t ih => grind [Tab.put]

theorem Tab.put_pairwise {α : Type} (k : Nat) (v : α) (t : Tab α) (h : t.Pairwise (fun c d => c.1 < d.1)) :
    (t.put k v).Pairwise (fun c d => c.1 < d.1) := by
  induction t with
  | nil => simp [Tab.put]
  | cons p t ih =>
    rw [List.pairwise_cons] at h
    unfold Tab.put
    split
    · refine List.pairwise_cons.2 ⟨?_, List.pairwise_cons.2 h⟩
      intro x hx
      rcases List.mem_cons.1 hx with rfl | hx
      · assumption
      · exact Nat.lt_trans ‹_› (h.1 x hx)
    · split
      · refine List.pairwise_cons.2 ⟨?_, h.2⟩
        intro x hx
        have := h.1 x hx
        simp_all
      · refine List.pairwise_cons.2 ⟨?_, ih h.2⟩
        intro x hx
        rcases Tab.mem_put k v t x hx with rfl | hx
        · dsimp only
          omega
        · exact h.1 x hx

theorem Memory.write_ok {m : Memory} (h : m.OkIf W) (x : Nat) (b : Byte) : (m.write x b).OkIf W := fun w => by
  unfold Memory.write
  split
  · exact Memory.filter_ok h _ w
  · have h := h w
    rw [Memory.wf_iff] at *
    refine ⟨Tab.put_pairwise _ _ _ h.1, fun c hc => ?_⟩
    rcases Tab.mem_put x b m c hc with rfl | hc
    · assumption
    · exact h.2 c hc

theorem Memory.writeBytes_ok (bs : List Byte) (x : Nat) {m : Memory} (h : m.OkIf W) : (m.writeBytes x bs).OkIf W := by
  induction bs generalizing x m with
  | nil => exact h
  | cons b bs ih => exact ih _ (Memory.write_ok h _ _)

theorem foldl_write_ok {α : Type} (f : α → Nat) (g : α → Byte) (l : List α) {m : Memory} (h : m.OkIf W) :
    Memory.OkIf W (l.foldl (fun m x => m.write (f x) (g x)) m) := by
  induction l generalizing m with
  | nil => exact h
  | cons x t ih => exact ih (Memory.write_ok h _ _)

theorem foldl_pair_kept {α β : Type} {g : State × β → α → State × β} (hg : ∀ x y, Kept W a x.1 → Kept W a (g x y).1)
    (l : List α) {x : State × β} (h : Kept W a x.1) : Kept W a (l.foldl g x).1 := by
  induction l generalizing x with
  | nil => exact h
  | cons y t ih => exact ih (hg _ _ h)

theorem gotThen_kept {α β : Type} {x : State × Got α} {f : α → State → State × Got β} (hx : Kept W a x.1)
    (hf : ∀ y s, Kept W a s → Kept W a (f y s).1) : Kept W a (gotThen x f).1 := by
  unfold gotThen
  split <;> simp_all

end Sys2Proof.Machine
end

