-- ==== Sys2Proof/Laws/KeptOps.lean ====
section
/-! SUPPORT. One lemma for each operation of Machine/Ops.lean that gives a state: it keeps what `Kept` says. -/

namespace Sys2Proof.Machine

open Sys2Proof

/- In turn, not as parallel tasks: each task that waits for another holds a stack of its own. -/
set_option Elab.async false

variable {W : Prop} {a : State}

theorem State.updMb_kept (m : Nat) (f : Mailbox → Mailbox) {s : State} (hs : Kept W a s) : Kept W a (State.updMb m f
    s) := by
  grind [State.updMb, foldl_kept, = kept_mk, = keptF_fold]

theorem State.updPart_kept (p : Nat) (f : Part → Part) {s : State} (hs : Kept W a s) : Kept W a (State.updPart p f s)
    := by
  grind [State.updPart, foldl_kept, = kept_mk, = keptF_fold]

theorem State.updCtx_kept (p c : Nat) (f : Ctx → Ctx) {s : State} (hs : Kept W a s) : Kept W a (State.updCtx p c f s)
    := by
  grind [State.updCtx, foldl_kept, = kept_mk, = keptF_fold]

theorem State.updFrmp_kept (p : Nat) (f : FrmPart → FrmPart) {s : State} (hs : Kept W a s) : Kept W a (State.updFrmp p
    f s) := by
  grind [State.updFrmp, foldl_kept, = kept_mk, = keptF_fold]

theorem State.updAdmp_kept (p : Nat) (f : AdmPart → AdmPart) {s : State} (hs : Kept W a s) : Kept W a (State.updAdmp p
    f s) := by
  grind [State.updAdmp, foldl_kept, = kept_mk, = keptF_fold]

theorem State.updSeqp_kept (p : Nat) (f : SeqPart → SeqPart) {s : State} (hs : Kept W a s) : Kept W a (State.updSeqp p
    f s) := by
  grind [State.updSeqp, foldl_kept, = kept_mk, = keptF_fold]

theorem State.updPwrp_kept (p : Nat) (f : PwrPart → PwrPart) {s : State} (hs : Kept W a s) : Kept W a (State.updPwrp p
    f s) := by
  grind [State.updPwrp, foldl_kept, = kept_mk, = keptF_fold]

theorem State.updPlnp_kept (p : Nat) (f : PlnPart → PlnPart) {s : State} (hs : Kept W a s) : Kept W a (State.updPlnp p
    f s) := by
  grind [State.updPlnp, foldl_kept, = kept_mk, = keptF_fold]

theorem State.updPort_kept (i : Nat) (f : Port → Port) {s : State} (hs : Kept W a s) : Kept W a (State.updPort i f s)
    := by
  grind [State.updPort, foldl_kept, = kept_mk, = keptF_fold]

theorem State.updWork_kept (i : Nat) (f : PortWork → PortWork) {s : State} (hs : Kept W a s) : Kept W a (State.updWork
    i f s) := by
  grind [State.updWork, foldl_kept, = kept_mk, = keptF_fold]

theorem State.updFn_kept (fn : Nat) (f : PciFn → PciFn) {s : State} (hs : Kept W a s) : Kept W a (State.updFn fn f s)
    := by
  grind [State.updFn, foldl_kept, = kept_mk, = keptF_fold]

theorem State.updFrm_kept (f : Frm → Frm) {s : State} (hs : Kept W a s) : Kept W a (State.updFrm f s) := by
  grind [State.updFrm, foldl_kept, = kept_mk, = keptF_fold]

theorem State.updXlt_kept (f : Xlt → Xlt) {s : State} (hs : Kept W a s) : Kept W a (State.updXlt f s) := by
  grind [State.updXlt, foldl_kept, = kept_mk, = keptF_fold]

theorem State.updPln_kept (f : Pln → Pln) {s : State} (hs : Kept W a s) : Kept W a (State.updPln f s) := by
  grind [State.updPln, foldl_kept, = kept_mk, = keptF_fold]

theorem State.updRed_kept (f : Red → Red) {s : State} (hs : Kept W a s) : Kept W a (State.updRed f s) := by
  grind [State.updRed, foldl_kept, = kept_mk, = keptF_fold]

theorem State.updFab_kept (f : Fab → Fab) {s : State} (hs : Kept W a s) : Kept W a (State.updFab f s) := by
  grind [State.updFab, foldl_kept, = kept_mk, = keptF_fold]

theorem State.updMgt_kept (f : Mgt → Mgt) {s : State} (hs : Kept W a s) : Kept W a (State.updMgt f s) := by
  grind [State.updMgt, foldl_kept, = kept_mk, = keptF_fold]

theorem State.updPwr_kept (f : Pwr → Pwr) {s : State} (hs : Kept W a s) : Kept W a (State.updPwr f s) := by
  grind [State.updPwr, foldl_kept, = kept_mk, = keptF_fold]

theorem State.updPor_kept (f : Por → Por) {s : State} (hs : Kept W a s) : Kept W a (State.updPor f s) := by
  grind [State.updPor, foldl_kept, = kept_mk, = keptF_fold]

theorem State.updSeq_kept (f : Seq → Seq) {s : State} (hs : Kept W a s) : Kept W a (State.updSeq f s) := by
  grind [State.updSeq, foldl_kept, = kept_mk, = keptF_fold]

theorem State.updAdm_kept (f : Adm → Adm) {s : State} (hs : Kept W a s) : Kept W a (State.updAdm f s) := by
  grind [State.updAdm, foldl_kept, = kept_mk, = keptF_fold]

theorem State.whenClocked_kept {s : State} {t : State} (hs : Kept W a s) (ht : Kept W a t) : Kept W a
    (State.whenClocked s t) := by
  grind [State.whenClocked, foldl_kept, = kept_mk, = keptF_fold]

theorem State.whenPcie_kept {s : State} {t : State} (hs : Kept W a s) (ht : Kept W a t) : Kept W a (State.whenPcie s
    t) := by
  grind [State.whenPcie, foldl_kept, = kept_mk, = keptF_fold]

theorem State.emit_kept (o : Output) {s : State} (hs : Kept W a s) : Kept W a (State.emit o s) := by
  simp only [State.emit, kept_mk]
  exact ⟨hs.1, hs.2.1.trans (List.prefix_append _ _), hs.2.2⟩

theorem State.emitPcie_kept (t : HostTlp) {s : State} (hs : Kept W a s) : Kept W a (State.emitPcie t s) := by
  grind [State.emitPcie, State.emit_kept, foldl_kept, = kept_mk, = keptF_fold]

theorem State.releasePcie_kept {s : State} (hs : Kept W a s) : Kept W a (State.releasePcie s) := by
  grind [State.releasePcie, State.emit_kept, foldl_kept, = kept_mk, = keptF_fold]

theorem State.fireVec_kept (fn v : Nat) {s : State} (hs : Kept W a s) : Kept W a (State.fireVec fn v s) := by
  grind [State.fireVec, State.updFn_kept, State.emitPcie_kept, foldl_kept, = kept_mk, = keptF_fold]

theorem State.writeLog_kept (ev : Nat) (rs : Reason) (part : Option (Nat × Nat)) (data : W64) {s : State} (hs : Kept W
    a s) : Kept W a (State.writeLog ev rs part data s) := by
  grind [State.writeLog, State.updMgt_kept, State.emit_kept, keptF_free, foldl_kept, = kept_mk, = keptF_fold]

theorem State.logEvent_kept (ev : Nat) (rs : Reason) (part : Option (Nat × Nat)) (data : List (Nat × Nat)) {s : State}
    (hs : Kept W a s) : Kept W a (State.logEvent ev rs part data s) := by
  grind [State.logEvent, State.updMgt_kept, State.fireVec_kept, State.writeLog_kept, foldl_kept, = kept_mk, =
      keptF_fold]

theorem State.log_kept (ev : Nat) (data : List (Nat × Nat)) {s : State} (hs : Kept W a s) : Kept W a (State.log ev
    data s) := by
  grind [State.log, State.logEvent_kept, foldl_kept, = kept_mk, = keptF_fold]

theorem State.flushLogCounts_kept {s : State} (hs : Kept W a s) : Kept W a (State.flushLogCounts s) := by
  grind [State.flushLogCounts, State.updMgt_kept, State.writeLog_kept, foldl_kept, = kept_mk, = keptF_fold]

theorem State.stage_kept (c : CmdId) (oc : Oc) (rs : Reason) (ws : List W64) (final : Bool) {s : State} (hs : Kept W a
    s) : Kept W a (State.stage c oc rs ws final s) := by
  grind [State.stage, State.updMb_kept, foldl_kept, = kept_mk, = keptF_fold]

theorem State.finish_kept (c : CmdId) (oc : Oc) (rs : Reason) (ws : List W64) {s : State} (hs : Kept W a s) : Kept W a
    (State.finish c oc rs ws s) := by
  grind [State.finish, State.stage_kept, foldl_kept, = kept_mk, = keptF_fold]

theorem State.finishAll_kept (cs : List CmdId) (oc : Oc) (rs : Reason) (ws : List W64) {s : State} (hs : Kept W a s) :
    Kept W a (State.finishAll cs oc rs ws s) := by
  grind [State.finishAll, State.finish_kept, foldl_kept, = kept_mk, = keptF_fold]

theorem State.holdMsg_kept (src : Nat) (m : Msg) {s : State} (hs : Kept W a s) : Kept W a (State.holdMsg src m s) :=
    by
  grind [State.holdMsg, State.updMgt_kept, foldl_kept, = kept_mk, = keptF_fold]

theorem State.toChoesk_kept (src : Nat) (m : Msg) {s : State} {t : State} (hs : Kept W a s) (ht : Kept W a t) : Kept W
    a (State.toChoesk src m s t) := by
  grind [State.toChoesk, State.holdMsg_kept, foldl_kept, = kept_mk, = keptF_fold]

theorem State.takeFree_kept {s : State} (hs : Kept W a s) : Kept W a (State.takeFree s).2 := keptF_free1 hs

end Sys2Proof.Machine
end

