-- ==== Sys2Proof/Laws/KeptNet.lean ====
section
/-! SUPPORT. One lemma for each operation of Machine/Net.lean that gives a state: it keeps what `Kept` says. -/

namespace Sys2Proof.Machine

open Sys2Proof

/- In turn, not as parallel tasks: each task that waits for another holds a stack of its own. -/
set_option Elab.async false

variable {W : Prop} {a : State}

theorem State.updLine_kept (i : Nat) (f : LineTx → LineTx) {s : State} (hs : Kept W a s) : Kept W a (State.updLine i f
    s) := by
  grind [State.updLine, foldl_kept, = kept_mk, = keptF_fold]

theorem State.sendLine_kept (i : Nat) (seq : BitVec 12) (ack : Option (BitVec 12)) (f : Flit) {s : State} (hs : Kept W a s) :
    Kept W a (State.sendLine i seq ack f s) := by
  unfold State.sendLine
  extract_lets w bs fill n
  refine State.emit_kept _ (State.updLine_kept _ _ ?_)
  exact State.takeFree_kept hs

theorem State.sendIdle_kept (i : Nat) {s : State} (hs : Kept W a s) : Kept W a (State.sendIdle i s) := by
  grind [State.sendIdle, State.sendLine_kept, foldl_kept, = kept_mk, = keptF_fold]

theorem State.flitsOf_kept (dst : Option Nat) (m : Msg) {s : State} (hs : Kept W a s) : Kept W a (State.flitsOf dst m s).2 := by
  simp only [State.flitsOf]
  exact State.takeFree_kept hs

theorem State.sendLinkctl_kept (i : Nat) (m : Msg) {s : State} (hs : Kept W a s) : Kept W a (State.sendLinkctl i m s) := by
  unfold State.sendLinkctl
  extract_lets fs
  exact foldl_kept (fun _ _ h => State.sendLine_kept _ _ _ _ h) _ (State.flitsOf_kept _ _ hs)

theorem State.txNow_kept (i : Nat) (f : Flit) {s : State} (hs : Kept W a s) : Kept W a (State.txNow i f s) := by
  grind [State.txNow, State.updWork_kept, State.sendLine_kept, foldl_kept, = kept_mk, = keptF_fold]

theorem State.txRaw_kept (i : Nat) (f : Flit) {s : State} (hs : Kept W a s) : Kept W a (State.txRaw i f s) := by
  grind [State.txRaw, State.updWork_kept, State.txNow_kept, foldl_kept, = kept_mk, = keptF_fold]

theorem State.txLocal_kept (i : Nat) (m : Msg) {s : State} (hs : Kept W a s) : Kept W a (State.txLocal i m s) := by
  grind [State.txLocal, State.flitsOf_kept, State.txRaw_kept, foldl_kept, = kept_mk, = keptF_fold]

theorem State.wakeTrain_kept (i : Nat) {s : State} (hs : Kept W a s) : Kept W a (State.wakeTrain i s) := by
  grind [State.wakeTrain, State.updLine_kept, foldl_kept, = kept_mk, = keptF_fold]

theorem State.wakePort_kept (i : Nat) {s : State} (hs : Kept W a s) : Kept W a (State.wakePort i s) := by
  grind [State.wakePort, State.updPort_kept, State.updWork_kept, State.txLocal_kept, State.wakeTrain_kept, foldl_kept, =
      kept_mk, = keptF_fold]

theorem State.tx_kept (i : Nat) (f : Flit) {s : State} (hs : Kept W a s) : Kept W a (State.tx i f s) := by
  grind [State.tx, State.updWork_kept, State.txRaw_kept, State.wakePort_kept, foldl_kept, = kept_mk, = keptF_fold]

theorem State.txMsg_kept (i : Nat) (m : Msg) {s : State} (hs : Kept W a s) : Kept W a (State.txMsg i m s) := by
  grind [State.txMsg, State.flitsOf_kept, State.tx_kept, foldl_kept, = kept_mk, = keptF_fold]

theorem pumpLoop_kept (i n : Nat) {s : State} (hs : Kept W a s) : Kept W a (pumpLoop i n s) := by
  induction n generalizing s with
  | zero => exact hs
  | succ k ih => grind [pumpLoop, State.txNow_kept, State.updWork_kept]

theorem State.pump_kept (i : Nat) {s : State} (hs : Kept W a s) : Kept W a (State.pump i s) := by
  grind [State.pump, pumpLoop_kept, foldl_kept, = kept_mk, = keptF_fold]

theorem State.updNbr_kept (i : Nat) (f : Neighbour → Neighbour) {s : State} (hs : Kept W a s) : Kept W a (State.updNbr
    i f s) := by
  grind [State.updNbr, State.updFab_kept, foldl_kept, = kept_mk, = keptF_fold]

theorem State.discardFlit_kept (port : Nat) (f : Flit) {s : State} (hs : Kept W a s) : Kept W a (State.discardFlit
    port f s) := by
  grind [State.discardFlit, State.updFab_kept, State.logEvent_kept, foldl_kept, = kept_mk, = keptF_fold]

theorem State.countAlternate_kept (port : Nat) (f : Flit) {s : State} (hs : Kept W a s) : Kept W a
    (State.countAlternate port f s) := by
  grind [State.countAlternate, State.updFab_kept, State.log_kept, foldl_kept, = kept_mk, = keptF_fold]

theorem State.noteWay_kept (i : Nat) (f : Flit) {s : State} (hs : Kept W a s) : Kept W a (State.noteWay i f s) := by
  grind [State.noteWay, State.updFab_kept, foldl_kept, = kept_mk, = keptF_fold]

theorem State.sendFlit_kept (f : Flit) {s : State} (hs : Kept W a s) : Kept W a (State.sendFlit f s) := by
  grind [State.sendFlit, State.updFab_kept, State.tx_kept, State.discardFlit_kept, State.countAlternate_kept,
      State.noteWay_kept, foldl_kept, = kept_mk, = keptF_fold]

theorem State.send_kept (dst : Nat) (m : Msg) {s : State} (hs : Kept W a s) : Kept W a (State.send dst m s) := by
  grind [State.send, State.emit_kept, State.flitsOf_kept, State.sendFlit_kept, foldl_kept, = kept_mk, = keptF_fold]

theorem State.sendAll_kept (dsts : List Nat) (m : Msg) {s : State} (hs : Kept W a s) : Kept W a (State.sendAll dsts m
    s) := by
  grind [State.sendAll, State.send_kept, foldl_kept, = kept_mk, = keptF_fold]

theorem State.retryWaiting_kept {s : State} (hs : Kept W a s) : Kept W a (State.retryWaiting s) := by
  grind [State.retryWaiting, State.updFab_kept, State.sendFlit_kept, foldl_kept, = kept_mk, = keptF_fold]

theorem State.handBack_kept (i : Nat) (f : Flit) {s : State} (hs : Kept W a s) : Kept W a (State.handBack i f s) := by
  grind [State.handBack, State.updWork_kept, State.updFab_kept, State.sendFlit_kept, foldl_kept, = kept_mk, =
      keptF_fold]

theorem State.handBackQueue_kept (i : Nat) {s : State} (hs : Kept W a s) : Kept W a (State.handBackQueue i s) := by
  grind [State.handBackQueue, State.updWork_kept, State.handBack_kept, foldl_kept, = kept_mk, = keptF_fold]

theorem State.withdraw_kept (i : Nat) {s : State} (hs : Kept W a s) : Kept W a (State.withdraw i s) := by
  grind [State.withdraw, State.updWork_kept, State.handBack_kept, foldl_kept, = kept_mk, = keptF_fold]

theorem State.sendBeacons_kept {s : State} (hs : Kept W a s) : Kept W a (State.sendBeacons s) := by
  grind [State.sendBeacons, State.txMsg_kept, foldl_kept, = kept_mk, = keptF_fold]

theorem State.updSpan_kept (id : BitVec 16) (f : Span → Span) {s : State} (hs : Kept W a s) : Kept W a (State.updSpan
    id f s) := by
  grind [State.updSpan, foldl_kept, = kept_mk, = keptF_fold]

theorem State.updLead_kept (id : BitVec 16) (f : LeadSpan → LeadSpan) {s : State} (hs : Kept W a s) : Kept W a
    (State.updLead id f s) := by
  grind [State.updLead, State.updPln_kept, foldl_kept, = kept_mk, = keptF_fold]

theorem State.healthNotice_kept (i : Nat) (frame : FrameNo) (h : Health) (w : Width) {s : State} (hs : Kept W a s) :
    Kept W a (State.healthNotice i frame h w s) := by
  grind [State.healthNotice, State.send_kept, State.updLead_kept, foldl_kept, = kept_mk, = keptF_fold]

theorem State.setHealth_kept (i : Nat) (h : Health) (w : Width) {s : State} (hs : Kept W a s) : Kept W a
    (State.setHealth i h w s) := by
  grind [State.setHealth, State.updWork_kept, State.fireVec_kept, State.logEvent_kept, State.healthNotice_kept,
      foldl_kept, = kept_mk, = keptF_fold]

end Sys2Proof.Machine
end

