-- ==== Sys2Proof/Laws/KeptParent.lean ====
section
/-! SUPPORT. One lemma for each operation of Machine/Parent.lean that gives a state: it keeps what `Kept` says. -/

namespace Sys2Proof.Machine

open Sys2Proof

/- In turn, not as parallel tasks: each task that waits for another holds a stack of its own. -/
set_option Elab.async false

variable {W : Prop} {a : State}

theorem State.syncChanged_kept {s : State} (hs : Kept W a s) : Kept W a (State.syncChanged s) := by
  grind [State.syncChanged, State.fireVec_kept, State.log_kept, foldl_kept, = kept_mk, = keptF_fold]

theorem State.parentChanged_kept {s : State} (hs : Kept W a s) : Kept W a (State.parentChanged s) := by
  grind [State.parentChanged, State.log_kept, foldl_kept, = kept_mk, = keptF_fold]

theorem State.setSync_kept (st : SyncState) {s : State} (hs : Kept W a s) : Kept W a (State.setSync st s) := by
  grind [State.setSync, State.updFrm_kept, State.syncChanged_kept, foldl_kept, = kept_mk, = keptF_fold]

theorem State.wakeParent_kept {s : State} (hs : Kept W a s) : Kept W a (State.wakeParent s) := by
  grind [State.wakeParent, State.wakePort_kept, foldl_kept, = kept_mk, = keptF_fold]

theorem State.refreshParent_kept {s : State} (hs : Kept W a s) : Kept W a (State.refreshParent s) := by
  grind [State.refreshParent, State.updFrm_kept, State.parentChanged_kept, State.setSync_kept, State.wakeParent_kept,
      foldl_kept, = kept_mk, = keptF_fold]

end Sys2Proof.Machine
end

