-- ==== Sys2Proof/Laws/KeptCommand.lean ====
section
/-! SUPPORT. One lemma for each operation of Machine/Command.lean that gives a state: it keeps what `Kept` says. -/

namespace Sys2Proof.Machine

open Sys2Proof

/- In turn, not as parallel tasks: each task that waits for another holds a stack of its own. -/
set_option Elab.async false

variable {W : Prop} {a : State}

theorem State.countQuota_kept (m : Nat) {s : State} (hs : Kept W a s) : Kept W a (State.countQuota m s) := by
  grind [State.countQuota, State.updAdmp_kept, foldl_kept, = kept_mk, = keptF_fold]

theorem carryOut_kept {s : State} (hs : Kept W a s) (sp : Spec) (hb : ∀ c p e s, Kept W a s → Kept W a (sp.body c p e s).1)
    (c : CmdId) (m : Nat) (e : Entry) : Kept W a (carryOut sp c m e s) := by
  unfold carryOut
  dsimp only
  (repeat' split) <;> grind [State.countQuota_kept, State.finish_kept]

theorem consume_kept {s : State} (hs : Kept W a s) (sp : Spec) (hb : ∀ c p e s, Kept W a s → Kept W a (sp.body c p e s).1)
    (op : BitVec 16) (m : Nat) (e : Entry) : Kept W a (consume (some sp) op m e s) := by
  grind [consume, carryOut_kept, State.updMb_kept, State.finish_kept, = kept_mk, = keptF_fold]

theorem consume_none_kept {s : State} (hs : Kept W a s) (op : BitVec 16) (m : Nat) (e : Entry) :
    Kept W a (consume none op m e s) := by
  grind [consume, State.updMb_kept, State.finish_kept, = kept_mk, = keptF_fold]

theorem serve_kept {s : State} (hs : Kept W a s) (sp : Spec) (hb : ∀ c p e s, Kept W a s → Kept W a (sp.body c p e s).1)
    (m : Nat) (e : Entry) : Kept W a (serve sp m e s) := by
  grind [serve, consume_kept]

end Sys2Proof.Machine
end

