-- ==== Sys2Proof/Laws/KeptPlk.lean ====
section
/-! SUPPORT. One lemma for each operation of Machine/Plk.lean that gives a state: it keeps what `Kept` says. -/

namespace Sys2Proof.Machine

open Sys2Proof

/- In turn, not as parallel tasks: each task that waits for another holds a stack of its own. -/
set_option Elab.async false

variable {W : Prop} {a : State}

theorem State.updOuter_kept (o : Nat) (f : Outer → Outer) {s : State} (hs : Kept W a s) : Kept W a (State.updOuter o f
    s) := by
  grind [State.updOuter, State.updFab_kept, foldl_kept, = kept_mk, = keptF_fold]

theorem State.losesUp_kept (i : Nat) {s : State} (hs : Kept W a s) : Kept W a (State.losesUp i s) := by
  grind [State.losesUp, State.updPort_kept, State.updNbr_kept, foldl_kept, = kept_mk, = keptF_fold]

theorem State.dropBuffered_kept (i : Nat) {s : State} (hs : Kept W a s) : Kept W a (State.dropBuffered i s) := by
  grind [State.dropBuffered, State.updOuter_kept, foldl_kept, = kept_mk, = keptF_fold]

theorem State.dropFlits_kept (i : Nat) {s : State} (hs : Kept W a s) : Kept W a (State.dropFlits i s) := by
  grind [State.dropFlits, State.updWork_kept, State.discardFlit_kept, foldl_kept, = kept_mk, = keptF_fold]

theorem State.portDown_kept (i : Nat) {s : State} (hs : Kept W a s) : Kept W a (State.portDown i s) := by
  grind (gen := 30) (ematch := 30) (splits := 30) [State.portDown, State.updPort_kept, State.updWork_kept,
      State.updFab_kept, State.emit_kept, State.withdraw_kept, State.sendBeacons_kept, State.refreshParent_kept,
      State.losesUp_kept, State.dropBuffered_kept, State.dropFlits_kept, foldl_kept, = kept_mk, = keptF_fold]

theorem State.raiseUp_kept (i : Nat) {s : State} (hs : Kept W a s) : Kept W a (State.raiseUp i s) := by
  grind [State.raiseUp, State.updPort_kept, State.updWork_kept, State.finishAll_kept, State.updOuter_kept, foldl_kept, =
      kept_mk, = keptF_fold]

theorem State.enterUp_kept (i : Nat) {s : State} (hs : Kept W a s) : Kept W a (State.enterUp i s) := by
  grind [State.enterUp, State.pump_kept, State.retryWaiting_kept, State.raiseUp_kept, foldl_kept, = kept_mk, =
      keptF_fold]

theorem State.permanentFault_kept (i : Nat) (lanes : BitVec 8) {s : State} (hs : Kept W a s) : Kept W a
    (State.permanentFault i lanes s) := by
  grind [State.permanentFault, State.updWork_kept, State.setHealth_kept, foldl_kept, = kept_mk, = keptF_fold]

theorem State.startRetrain_kept (i : Nat) {s : State} (hs : Kept W a s) : Kept W a (State.startRetrain i s) := by
  grind (gen := 30) (ematch := 30) (splits := 30) [State.startRetrain, State.updPort_kept, State.updWork_kept,
      State.updLine_kept, State.withdraw_kept, State.refreshParent_kept, State.losesUp_kept, foldl_kept, = kept_mk, =
      keptF_fold]

theorem State.retirePort_kept (i : Nat) {s : State} (hs : Kept W a s) : Kept W a (State.retirePort i s) := by
  grind [State.retirePort, State.updWork_kept, State.setHealth_kept, foldl_kept, = kept_mk, = keptF_fold]

theorem State.applyWidth_kept (i : Nat) (unsound : BitVec 8) {s : State} (hs : Kept W a s) : Kept W a
    (State.applyWidth i unsound s) := by
  grind [State.applyWidth, State.updPort_kept, State.updWork_kept, State.emit_kept, State.startRetrain_kept,
      State.retirePort_kept, foldl_kept, = kept_mk, = keptF_fold]

theorem State.sendWidth_kept (i : Nat) (lanes : BitVec 8) {s : State} (hs : Kept W a s) : Kept W a (State.sendWidth i
    lanes s) := by
  grind [State.sendWidth, State.sendLinkctl_kept, State.send_kept, foldl_kept, = kept_mk, = keptF_fold]

theorem opWidthChange_kept (port : Fin 16) (unsound : BitVec 8) {s : State} (hs : Kept W a s) : Kept W a
    (opWidthChange port unsound s) := by
  grind [opWidthChange, State.updWork_kept, State.retirePort_kept, State.sendWidth_kept, foldl_kept, = kept_mk, =
      keptF_fold]

theorem opWidthReceive_kept (port : Fin 16) (unsound : BitVec 8) {s : State} (hs : Kept W a s) : Kept W a
    (opWidthReceive port unsound s) := by
  grind [opWidthReceive, State.setHealth_kept, State.applyWidth_kept, State.sendWidth_kept, foldl_kept, = kept_mk, =
      keptF_fold]

theorem opWidthChangeTimeout_kept (port : Fin 16) {s : State} (hs : Kept W a s) : Kept W a (opWidthChangeTimeout port
    s) := by
  grind [opWidthChangeTimeout, State.retirePort_kept, foldl_kept, = kept_mk, = keptF_fold]

theorem State.startBurst_kept (i : Nat) {s : State} (hs : Kept W a s) : Kept W a (State.startBurst i s) := by
  grind [State.startBurst, State.updPort_kept, State.updWork_kept, State.setHealth_kept, foldl_kept, = kept_mk, =
      keptF_fold]

theorem State.lanesLost_kept (i : Nat) (lanes : List Nat) {s : State} (hs : Kept W a s) : Kept W a (State.lanesLost i
    lanes s) := by
  grind [State.lanesLost, State.updPort_kept, State.startRetrain_kept, State.startBurst_kept, foldl_kept, = kept_mk, =
      keptF_fold]

theorem opAlignmentMarkerReceive_kept (port : Fin 16) (lane : Fin 8) (raw : BitVec 128) (between : List Byte) (skew :
    Nat) {s : State} (hs : Kept W a s) : Kept W a (opAlignmentMarkerReceive port lane raw between skew s) := by
  grind [opAlignmentMarkerReceive, State.updPort_kept, State.enterUp_kept, State.lanesLost_kept, foldl_kept, = kept_mk,
      = keptF_fold]

theorem State.badCodeword_kept (i lane gap : Nat) {s : State} (hs : Kept W a s) : Kept W a (State.badCodeword i lane
    gap s) := by
  grind [State.badCodeword, State.updPort_kept, State.updWork_kept, State.lanesLost_kept, foldl_kept, = kept_mk, =
      keptF_fold]

theorem opUncorrectableCodeword_kept (port : Fin 16) (word : Codeword) {s : State} (hs : Kept W a s) :
    Kept W a (opUncorrectableCodeword port word s) := by
  grind [opUncorrectableCodeword, State.updPort_kept, State.badCodeword_kept, foldl_kept, = kept_mk, = keptF_fold]

theorem State.bringupFails_kept (i : Nat) {s : State} (hs : Kept W a s) : Kept W a (State.bringupFails i s) := by
  grind [State.bringupFails, State.updPort_kept, State.emit_kept, State.logEvent_kept, foldl_kept, = kept_mk, =
      keptF_fold]

theorem State.sendStamps_kept (i : Nat) {s : State} (hs : Kept W a s) : Kept W a (State.sendStamps i s) := by
  grind [State.sendStamps, State.sendLinkctl_kept, foldl_kept, = kept_mk, = keptF_fold]

theorem opPortBringup_kept (port : Fin 16) (order : List (BitVec 3)) (stamps : List (BitVec 16)) (margins : List
    (BitVec 12)) {s : State} (hs : Kept W a s) : Kept W a (opPortBringup port order stamps margins s) := by
  grind [opPortBringup, State.updPort_kept, State.updWork_kept, State.enterUp_kept, State.bringupFails_kept,
      State.sendStamps_kept, foldl_kept, = kept_mk, = keptF_fold]

theorem opBringupTimeout_kept (port : Fin 16) {s : State} (hs : Kept W a s) : Kept W a (opBringupTimeout port s) := by
  grind [opBringupTimeout, State.updWork_kept, State.finishAll_kept, State.bringupFails_kept, foldl_kept, = kept_mk, =
      keptF_fold]

theorem opSignalDetect_kept (port : Fin 16) {s : State} (hs : Kept W a s) : Kept W a (opSignalDetect port s) := by
  grind [opSignalDetect, State.updPort_kept, State.wakeTrain_kept, foldl_kept, = kept_mk, = keptF_fold]

theorem opBurstStart_kept (port : Fin 16) {s : State} (hs : Kept W a s) : Kept W a (opBurstStart port s) := by
  grind [opBurstStart, State.startBurst_kept, foldl_kept, = kept_mk, = keptF_fold]

theorem opBurstEnd_kept (port : Fin 16) (dur : BitVec 32) {s : State} (hs : Kept W a s) : Kept W a (opBurstEnd port
    dur s) := by
  grind [opBurstEnd, State.updPort_kept, State.updWork_kept, State.permanentFault_kept, foldl_kept, = kept_mk, =
      keptF_fold]

theorem State.rerouteCredit_kept (o : Nat) (fs : List Flit) {s : State} (hs : Kept W a s) : Kept W a
    (State.rerouteCredit o fs s) := by
  grind [State.rerouteCredit, State.tx_kept, State.updOuter_kept, foldl_kept, = kept_mk, = keptF_fold]

theorem State.dropData_kept (i : Nat) {s : State} (hs : Kept W a s) : Kept W a (State.dropData i s) := by
  grind [State.dropData, State.updPlnp_kept, State.updWork_kept, State.rerouteCredit_kept, foldl_kept, = kept_mk, =
      keptF_fold]

theorem opBurstQuarantine_kept (port : Fin 16) {s : State} (hs : Kept W a s) : Kept W a (opBurstQuarantine port s) :=
    by
  grind (gen := 30) (ematch := 30) (splits := 30) [opBurstQuarantine, State.updPort_kept, State.updWork_kept,
      State.fireVec_kept, State.logEvent_kept, State.sendBeacons_kept, State.healthNotice_kept, State.dropData_kept,
      foldl_kept, = kept_mk, = keptF_fold]

theorem opRecalibrationEnd_kept (port : Fin 16) (margins : List (BitVec 12)) {s : State} (hs : Kept W a s) : Kept W a
    (opRecalibrationEnd port margins s) := by
  grind [opRecalibrationEnd, State.updPort_kept, State.updWork_kept, State.log_kept, State.setHealth_kept,
      State.permanentFault_kept, foldl_kept, = kept_mk, = keptF_fold]

theorem opProbationEnd_kept (port : Fin 16) {s : State} (hs : Kept W a s) : Kept W a (opProbationEnd port s) := by
  grind [opProbationEnd, State.updPort_kept, foldl_kept, = kept_mk, = keptF_fold]

theorem opStuckLane_kept (port : Fin 16) (lane : Fin 8) {s : State} (hs : Kept W a s) : Kept W a (opStuckLane port
    lane s) := by
  grind [opStuckLane, State.updPort_kept, State.permanentFault_kept, foldl_kept, = kept_mk, = keptF_fold]

theorem State.replay_kept (i : Nat) {s : State} (hs : Kept W a s) : Kept W a (State.replay i s) := by
  grind [State.replay, State.updPort_kept, State.updWork_kept, State.sendLine_kept, State.startRetrain_kept,
      State.startBurst_kept, foldl_kept, = kept_mk, = keptF_fold]

theorem opNakReceive_kept (port : Fin 16) (_seq : BitVec 12) {s : State} (hs : Kept W a s) : Kept W a (opNakReceive
    port _seq s) := by
  grind [opNakReceive, State.replay_kept, foldl_kept, = kept_mk, = keptF_fold]

theorem opNakResend_kept (port : Fin 16) {s : State} (hs : Kept W a s) : Kept W a (opNakResend port s) := by
  grind [opNakResend, State.sendLinkctl_kept, foldl_kept, = kept_mk, = keptF_fold]

theorem opReplayTimeout_kept (port : Fin 16) {s : State} (hs : Kept W a s) : Kept W a (opReplayTimeout port s) := by
  grind [opReplayTimeout, State.replay_kept, foldl_kept, = kept_mk, = keptF_fold]

theorem opFastRetrain_kept (port : Fin 16) {s : State} (hs : Kept W a s) : Kept W a (opFastRetrain port s) := by
  grind [opFastRetrain, State.startRetrain_kept, foldl_kept, = kept_mk, = keptF_fold]

theorem opTrainReceive_kept (port : Fin 16) {s : State} (hs : Kept W a s) : Kept W a (opTrainReceive port s) := by
  grind [opTrainReceive, State.startRetrain_kept, foldl_kept, = kept_mk, = keptF_fold]

theorem opRetrainEnd_kept (port : Fin 16) (closed : Bool) (stamps : List (BitVec 16)) {s : State} (hs : Kept W a s) :
    Kept W a (opRetrainEnd port closed stamps s) := by
  grind (gen := 30) (ematch := 30) (splits := 30) [opRetrainEnd, State.updPort_kept, State.updWork_kept,
      State.finishAll_kept, State.pump_kept, State.retryWaiting_kept, State.setHealth_kept, State.raiseUp_kept,
      State.permanentFault_kept, State.sendStamps_kept, State.replay_kept, foldl_kept, = kept_mk, = keptF_fold]

theorem opRetrainRestart_kept (port : Fin 16) {s : State} (hs : Kept W a s) : Kept W a (opRetrainRestart port s) := by
  grind [opRetrainRestart, State.updWork_kept, State.finishAll_kept, State.startRetrain_kept, foldl_kept, = kept_mk, =
      keptF_fold]

theorem State.acked_kept (i : Nat) (a0 : BitVec 12) {s : State} (hs : Kept W a s) : Kept W a (State.acked i a0 s) :=
    by
  grind [State.acked, State.updWork_kept, State.pump_kept, foldl_kept, = kept_mk, = keptF_fold]

theorem State.sendNak_kept (i : Nat) {s : State} (hs : Kept W a s) : Kept W a (State.sendNak i s) := by
  grind [State.sendNak, State.updWork_kept, State.sendLinkctl_kept, foldl_kept, = kept_mk, = keptF_fold]

theorem State.crcFailed_kept (i : Nat) {s : State} (hs : Kept W a s) : Kept W a (State.crcFailed i s) := by
  grind [State.crcFailed, State.updPort_kept, State.updWork_kept, State.lanesLost_kept, State.sendNak_kept, foldl_kept,
      = kept_mk, = keptF_fold]

theorem State.rxFlit_kept (i : Nat) (a0 : Arrival) {s : State} (hs : Kept W a s) : Kept W a (State.rxFlit i a0 s).1 :=
    by
  grind [State.rxFlit, State.updWork_kept, State.sendIdle_kept, State.acked_kept, State.sendNak_kept, foldl_kept, =
      kept_mk, = keptF_fold]

theorem opTxeqReceive_kept (port : Fin 16) (lane : Fin 8) (up : Bool) {s : State} (hs : Kept W a s) : Kept W a
    (opTxeqReceive port lane up s) := by
  grind [opTxeqReceive, State.updPort_kept, foldl_kept, = kept_mk, = keptF_fold]

theorem State.askSteps_kept (i n : Nat) {s : State} (hs : Kept W a s) : Kept W a (State.askSteps i n s) := by
  grind [State.askSteps, State.updPort_kept, State.sendLinkctl_kept, foldl_kept, = kept_mk, = keptF_fold]

theorem opAdaptationSnapshot_kept (port : Fin 16) (margins : List (BitVec 12)) {s : State} (hs : Kept W a s) : Kept W
    a (opAdaptationSnapshot port margins s) := by
  grind (gen := 30) (ematch := 30) (splits := 30) [opAdaptationSnapshot, State.updPort_kept, State.takeFree_kept,
      State.askSteps_kept, keptF_free, foldl_kept, = kept_mk, = keptF_fold]

theorem opDozeRequest_kept (port : Fin 16) {s : State} (hs : Kept W a s) : Kept W a (opDozeRequest port s) := by
  grind [opDozeRequest, State.updWork_kept, State.txLocal_kept, foldl_kept, = kept_mk, = keptF_fold]

theorem State.dozeCommit_kept (i : Nat) (latched : Bool) {s : State} (hs : Kept W a s) : Kept W a (State.dozeCommit i
    latched s) := by
  grind [State.dozeCommit, State.updPort_kept, State.updWork_kept, State.handBackQueue_kept, foldl_kept, = kept_mk, =
      keptF_fold]

theorem opDozeReqReceive_kept (port : Fin 16) {s : State} (hs : Kept W a s) : Kept W a (opDozeReqReceive port s) := by
  grind [opDozeReqReceive, State.updWork_kept, State.txLocal_kept, foldl_kept, = kept_mk, = keptF_fold]

theorem opDozeAckReceive_kept (port : Fin 16) {s : State} (hs : Kept W a s) : Kept W a (opDozeAckReceive port s) := by
  grind [opDozeAckReceive, State.updWork_kept, State.txLocal_kept, State.wakePort_kept, State.dozeCommit_kept,
      foldl_kept, = kept_mk, = keptF_fold]

theorem opWakeRequest_kept (port : Fin 16) {s : State} (hs : Kept W a s) : Kept W a (opWakeRequest port s) := by
  grind [opWakeRequest, State.wakePort_kept, foldl_kept, = kept_mk, = keptF_fold]

theorem opWakeReceive_kept (port : Fin 16) {s : State} (hs : Kept W a s) : Kept W a (opWakeReceive port s) := by
  grind [opWakeReceive, State.updWork_kept, State.txLocal_kept, State.dozeCommit_kept, foldl_kept, = kept_mk, =
      keptF_fold]

theorem opDozeEntry_kept (port : Fin 16) {s : State} (hs : Kept W a s) : Kept W a (opDozeEntry port s) := by
  grind (gen := 30) (ematch := 30) (splits := 30) [opDozeEntry, State.updPort_kept, State.updWork_kept, State.emit_kept,
      State.wakeTrain_kept, State.handBackQueue_kept, State.refreshParent_kept, State.losesUp_kept,
      State.dropBuffered_kept, State.replay_kept, foldl_kept, = kept_mk, = keptF_fold]

theorem opWakeTimeout_kept (port : Fin 16) {s : State} (hs : Kept W a s) : Kept W a (opWakeTimeout port s) := by
  grind [opWakeTimeout, State.portDown_kept, foldl_kept, = kept_mk, = keptF_fold]

theorem State.evalHealth_kept (i : Nat) {s : State} (hs : Kept W a s) : Kept W a (State.evalHealth i s) := by
  grind [State.evalHealth, State.updPort_kept, State.updWork_kept, State.setHealth_kept, State.permanentFault_kept,
      foldl_kept, = kept_mk, = keptF_fold]

theorem State.portCommit_kept (i : Nat) {s : State} (hs : Kept W a s) : Kept W a (State.portCommit i s) := by
  grind (gen := 30) (ematch := 30) (splits := 30) [State.portCommit, State.updPort_kept, State.updWork_kept,
      State.emit_kept, State.finishAll_kept, State.sendBeacons_kept, State.portDown_kept, State.dropData_kept,
      foldl_kept, = kept_mk, = keptF_fold]

theorem specLinkQuery_kept {s : State} (hs : Kept W a s) (c : CmdId) (p : Nat) (e : Entry) : Kept W a
    (specLinkQuery.body c p e s).1 := by
  simp only [specLinkQuery]; grind [foldl_kept, = kept_mk, = keptF_fold]

theorem linkRetrainBody_kept (c : CmdId) (x0 : Nat) (e : Entry) {s : State} (hs : Kept W a s) : Kept W a
    (linkRetrainBody c x0 e s).1 := by
  grind [linkRetrainBody, State.updWork_kept, State.wakePort_kept, State.portDown_kept, State.startRetrain_kept,
      foldl_kept, = kept_mk, = keptF_fold]

theorem specLinkRetrain_kept {s : State} (hs : Kept W a s) (c : CmdId) (p : Nat) (e : Entry) : Kept W a
    (specLinkRetrain.body c p e s).1 := by
  simp only [specLinkRetrain]; grind [linkRetrainBody_kept, foldl_kept, = kept_mk, = keptF_fold]

theorem linkRetireBody_kept (c : CmdId) (x0 : Nat) (e : Entry) {s : State} (hs : Kept W a s) : Kept W a
    (linkRetireBody c x0 e s).1 := by
  grind [linkRetireBody, State.updWork_kept, State.wakePort_kept, State.permanentFault_kept, opWidthChange_kept,
      foldl_kept, = kept_mk, = keptF_fold]

theorem specLinkRetire_kept {s : State} (hs : Kept W a s) (c : CmdId) (p : Nat) (e : Entry) : Kept W a
    (specLinkRetire.body c p e s).1 := by
  simp only [specLinkRetire]; grind [linkRetireBody_kept, foldl_kept, = kept_mk, = keptF_fold]

theorem execLinkRetrainFast_kept (m : Fin 18) (e : Entry) {s : State} (hs : Kept W a s) {t : State} (e_ :
    execLinkRetrainFast m e s = .next t) : Kept W a t := by
  grind [execLinkRetrainFast, serve_kept, specLinkRetrain_kept, foldl_kept, = kept_mk, = keptF_fold]

theorem execLinkRetrainFull_kept (m : Fin 18) (e : Entry) {s : State} (hs : Kept W a s) {t : State} (e_ :
    execLinkRetrainFull m e s = .next t) : Kept W a t := by
  grind [execLinkRetrainFull, serve_kept, specLinkRetrain_kept, foldl_kept, = kept_mk, = keptF_fold]

theorem execLinkQuery_kept (m : Fin 18) (e : Entry) {s : State} (hs : Kept W a s) {t : State} (e_ : execLinkQuery m e
    s = .next t) : Kept W a t := by
  grind [execLinkQuery, serve_kept, specLinkQuery_kept, foldl_kept, = kept_mk, = keptF_fold]

theorem execLinkRetire_kept (m : Fin 18) (e : Entry) {s : State} (hs : Kept W a s) {t : State} (e_ : execLinkRetire m
    e s = .next t) : Kept W a t := by
  grind [execLinkRetire, serve_kept, specLinkRetire_kept, foldl_kept, = kept_mk, = keptF_fold]

theorem execAlignmentMarkerReceive_kept (port : Fin 16) (lane : Fin 8) (raw : BitVec 128) (between : List Byte) (skew
    : Nat) {s : State} (hs : Kept W a s) {t : State} (e_ : execAlignmentMarkerReceive port lane raw between skew s =
    .next t) : Kept W a t := by
  grind [execAlignmentMarkerReceive, State.whenClocked_kept, opAlignmentMarkerReceive_kept, foldl_kept, = kept_mk, =
      keptF_fold]

theorem execPortBringup_kept (port : Fin 16) (order : List (BitVec 3)) (stamps : List (BitVec 16)) (margins : List
    (BitVec 12)) {s : State} (hs : Kept W a s) {t : State} (e_ : execPortBringup port order stamps margins s = .next
    t) : Kept W a t := by
  grind [execPortBringup, State.whenClocked_kept, opPortBringup_kept, foldl_kept, = kept_mk, = keptF_fold]

theorem execBringupTimeout_kept (port : Fin 16) {s : State} (hs : Kept W a s) {t : State} (e_ : execBringupTimeout
    port s = .next t) : Kept W a t := by
  grind [execBringupTimeout, State.whenClocked_kept, opBringupTimeout_kept, foldl_kept, = kept_mk, = keptF_fold]

theorem execNakReceive_kept (port : Fin 16) (seq : BitVec 12) {s : State} (hs : Kept W a s) {t : State} (e_ :
    execNakReceive port seq s = .next t) : Kept W a t := by
  grind [execNakReceive, State.whenClocked_kept, opNakReceive_kept, foldl_kept, = kept_mk, = keptF_fold]

theorem execNakResend_kept (port : Fin 16) {s : State} (hs : Kept W a s) {t : State} (e_ : execNakResend port s =
    .next t) : Kept W a t := by
  grind [execNakResend, State.whenClocked_kept, opNakResend_kept, foldl_kept, = kept_mk, = keptF_fold]

theorem execReplayTimeout_kept (port : Fin 16) {s : State} (hs : Kept W a s) {t : State} (e_ : execReplayTimeout port
    s = .next t) : Kept W a t := by
  grind [execReplayTimeout, State.whenClocked_kept, opReplayTimeout_kept, foldl_kept, = kept_mk, = keptF_fold]

theorem execFastRetrain_kept (port : Fin 16) {s : State} (hs : Kept W a s) {t : State} (e_ : execFastRetrain port s =
    .next t) : Kept W a t := by
  grind [execFastRetrain, State.whenClocked_kept, opFastRetrain_kept, foldl_kept, = kept_mk, = keptF_fold]

theorem execTrainReceive_kept (port : Fin 16) {s : State} (hs : Kept W a s) {t : State} (e_ : execTrainReceive port s
    = .next t) : Kept W a t := by
  grind [execTrainReceive, State.whenClocked_kept, opTrainReceive_kept, foldl_kept, = kept_mk, = keptF_fold]

theorem execRetrainEnd_kept (port : Fin 16) (closed : Bool) (stamps : List (BitVec 16)) {s : State} (hs : Kept W a s)
    {t : State} (e_ : execRetrainEnd port closed stamps s = .next t) : Kept W a t := by
  grind [execRetrainEnd, State.whenClocked_kept, opRetrainEnd_kept, foldl_kept, = kept_mk, = keptF_fold]

theorem execRetrainRestart_kept (port : Fin 16) {s : State} (hs : Kept W a s) {t : State} (e_ : execRetrainRestart
    port s = .next t) : Kept W a t := by
  grind [execRetrainRestart, State.whenClocked_kept, opRetrainRestart_kept, foldl_kept, = kept_mk, = keptF_fold]

theorem execBurstStart_kept (port : Fin 16) {s : State} (hs : Kept W a s) {t : State} (e_ : execBurstStart port s =
    .next t) : Kept W a t := by
  grind [execBurstStart, State.whenClocked_kept, opBurstStart_kept, foldl_kept, = kept_mk, = keptF_fold]

theorem execBurstEnd_kept (port : Fin 16) (dur : BitVec 32) {s : State} (hs : Kept W a s) {t : State} (e_ :
    execBurstEnd port dur s = .next t) : Kept W a t := by
  grind [execBurstEnd, State.whenClocked_kept, opBurstEnd_kept, foldl_kept, = kept_mk, = keptF_fold]

theorem execBurstQuarantine_kept (port : Fin 16) {s : State} (hs : Kept W a s) {t : State} (e_ : execBurstQuarantine
    port s = .next t) : Kept W a t := by
  grind [execBurstQuarantine, State.whenClocked_kept, opBurstQuarantine_kept, foldl_kept, = kept_mk, = keptF_fold]

theorem execRecalibrationEnd_kept (port : Fin 16) (margins : List (BitVec 12)) {s : State} (hs : Kept W a s) {t :
    State} (e_ : execRecalibrationEnd port margins s = .next t) : Kept W a t := by
  grind [execRecalibrationEnd, State.whenClocked_kept, opRecalibrationEnd_kept, foldl_kept, = kept_mk, = keptF_fold]

theorem execProbationEnd_kept (port : Fin 16) {s : State} (hs : Kept W a s) {t : State} (e_ : execProbationEnd port s
    = .next t) : Kept W a t := by
  grind [execProbationEnd, State.whenClocked_kept, opProbationEnd_kept, foldl_kept, = kept_mk, = keptF_fold]

theorem execStuckLane_kept (port : Fin 16) (lane : Fin 8) {s : State} (hs : Kept W a s) {t : State} (e_ :
    execStuckLane port lane s = .next t) : Kept W a t := by
  grind [execStuckLane, State.whenClocked_kept, opStuckLane_kept, foldl_kept, = kept_mk, = keptF_fold]

theorem execWidthChange_kept (port : Fin 16) (unsound : BitVec 8) {s : State} (hs : Kept W a s) {t : State} (e_ :
    execWidthChange port unsound s = .next t) : Kept W a t := by
  grind [execWidthChange, State.whenClocked_kept, opWidthChange_kept, foldl_kept, = kept_mk, = keptF_fold]

theorem execWidthReceive_kept (port : Fin 16) (unsound : BitVec 8) {s : State} (hs : Kept W a s) {t : State} (e_ :
    execWidthReceive port unsound s = .next t) : Kept W a t := by
  grind [execWidthReceive, State.whenClocked_kept, opWidthReceive_kept, foldl_kept, = kept_mk, = keptF_fold]

theorem execWidthChangeTimeout_kept (port : Fin 16) {s : State} (hs : Kept W a s) {t : State} (e_ :
    execWidthChangeTimeout port s = .next t) : Kept W a t := by
  grind [execWidthChangeTimeout, State.whenClocked_kept, opWidthChangeTimeout_kept, foldl_kept, = kept_mk, = keptF_fold]

theorem execTxeqReceive_kept (port : Fin 16) (lane : Fin 8) (up : Bool) {s : State} (hs : Kept W a s) {t : State} (e_
    : execTxeqReceive port lane up s = .next t) : Kept W a t := by
  grind [execTxeqReceive, State.whenClocked_kept, opTxeqReceive_kept, foldl_kept, = kept_mk, = keptF_fold]

theorem execAdaptationSnapshot_kept (port : Fin 16) (margins : List (BitVec 12)) {s : State} (hs : Kept W a s) {t :
    State} (e_ : execAdaptationSnapshot port margins s = .next t) : Kept W a t := by
  grind [execAdaptationSnapshot, State.whenClocked_kept, opAdaptationSnapshot_kept, foldl_kept, = kept_mk, = keptF_fold]

theorem execDozeRequest_kept (port : Fin 16) {s : State} (hs : Kept W a s) {t : State} (e_ : execDozeRequest port s =
    .next t) : Kept W a t := by
  grind [execDozeRequest, State.whenClocked_kept, opDozeRequest_kept, foldl_kept, = kept_mk, = keptF_fold]

theorem execDozeReqReceive_kept (port : Fin 16) {s : State} (hs : Kept W a s) {t : State} (e_ : execDozeReqReceive
    port s = .next t) : Kept W a t := by
  grind [execDozeReqReceive, State.whenClocked_kept, opDozeReqReceive_kept, foldl_kept, = kept_mk, = keptF_fold]

theorem execDozeAckReceive_kept (port : Fin 16) {s : State} (hs : Kept W a s) {t : State} (e_ : execDozeAckReceive
    port s = .next t) : Kept W a t := by
  grind [execDozeAckReceive, State.whenClocked_kept, opDozeAckReceive_kept, foldl_kept, = kept_mk, = keptF_fold]

theorem execWakeRequest_kept (port : Fin 16) {s : State} (hs : Kept W a s) {t : State} (e_ : execWakeRequest port s =
    .next t) : Kept W a t := by
  grind [execWakeRequest, State.whenClocked_kept, opWakeRequest_kept, foldl_kept, = kept_mk, = keptF_fold]

theorem execWakeReceive_kept (port : Fin 16) {s : State} (hs : Kept W a s) {t : State} (e_ : execWakeReceive port s =
    .next t) : Kept W a t := by
  grind [execWakeReceive, State.whenClocked_kept, opWakeReceive_kept, foldl_kept, = kept_mk, = keptF_fold]

theorem execDozeEntry_kept (port : Fin 16) {s : State} (hs : Kept W a s) {t : State} (e_ : execDozeEntry port s =
    .next t) : Kept W a t := by
  grind [execDozeEntry, State.whenClocked_kept, opDozeEntry_kept, foldl_kept, = kept_mk, = keptF_fold]

theorem execWakeTimeout_kept (port : Fin 16) {s : State} (hs : Kept W a s) {t : State} (e_ : execWakeTimeout port s =
    .next t) : Kept W a t := by
  grind [execWakeTimeout, State.whenClocked_kept, opWakeTimeout_kept, foldl_kept, = kept_mk, = keptF_fold]

theorem execUncorrectableCodeword_kept (port : Fin 16) (word : Codeword) {s : State} (hs : Kept W a s)
    {t : State} (e_ : execUncorrectableCodeword port word s = .next t) : Kept W a t := by
  grind [execUncorrectableCodeword, State.whenClocked_kept, opUncorrectableCodeword_kept, foldl_kept, = kept_mk, =
      keptF_fold]

theorem execSignalDetect_kept (port : Fin 16) {s : State} (hs : Kept W a s) {t : State} (e_ : execSignalDetect port s
    = .next t) : Kept W a t := by
  grind [execSignalDetect, State.whenClocked_kept, opSignalDetect_kept, foldl_kept, = kept_mk, = keptF_fold]

end Sys2Proof.Machine
end

