-- ==== Sys2Proof/Laws/KeptFab.lean ====
section
/-! SUPPORT. One lemma for each operation of Machine/Fab.lean that gives a state: it keeps what `Kept` says. -/

namespace Sys2Proof.Machine

open Sys2Proof

/- In turn, not as parallel tasks: each task that waits for another holds a stack of its own. -/
set_option Elab.async false

variable {W : Prop} {a : State}

theorem State.miswire_kept (i : Nat) {s : State} (hs : Kept W a s) : Kept W a (State.miswire i s) := by
  grind [State.miswire, State.logEvent_kept, State.updNbr_kept, State.sendBeacons_kept, foldl_kept, = kept_mk, =
      keptF_fold]

theorem opBeaconRound_kept {s : State} (hs : Kept W a s) : Kept W a (opBeaconRound s) := by
  grind [opBeaconRound, State.updFab_kept, State.txMsg_kept, State.sendBeacons_kept, keptF_free, foldl_kept, = kept_mk,
      = keptF_fold]

theorem State.haltDup_kept {s : State} (hs : Kept W a s) : Kept W a (State.haltDup s) := by
  grind [State.haltDup, State.updFab_kept, State.logEvent_kept, foldl_kept, = kept_mk, = keptF_fold]

theorem State.markDups_kept (ks : List Nat) {s : State} (hs : Kept W a s) : Kept W a (State.markDups ks s) := by
  grind [State.markDups, State.updFab_kept, State.haltDup_kept, foldl_kept, = kept_mk, = keptF_fold]

theorem State.lateJoin_kept {s : State} (hs : Kept W a s) : Kept W a (State.lateJoin s) := by
  grind [State.lateJoin, State.updFab_kept, foldl_kept, = kept_mk, = keptF_fold]

theorem opBeaconReceive_kept (port : Fin 16) (b : Beacon) {s : State} (hs : Kept W a s) : Kept W a (opBeaconReceive
    port b s) := by
  grind [opBeaconReceive, State.updFab_kept, State.updNbr_kept, State.retryWaiting_kept, State.miswire_kept,
      State.markDups_kept, State.lateJoin_kept, foldl_kept, = kept_mk, = keptF_fold]

theorem opDupFlagClear_kept (pkg : Fin 128) {s : State} (hs : Kept W a s) : Kept W a (opDupFlagClear pkg s) := by
  grind [opDupFlagClear, State.updFab_kept, foldl_kept, = kept_mk, = keptF_fold]

theorem opKeyExpiry_kept (pkg : Fin 128) {s : State} (hs : Kept W a s) : Kept W a (opKeyExpiry pkg s) := by
  grind [opKeyExpiry, State.updFab_kept, foldl_kept, = kept_mk, = keptF_fold]

theorem opNeighbourVectorExpiry_kept (port : Fin 12) {s : State} (hs : Kept W a s) : Kept W a (opNeighbourVectorExpiry
    port s) := by
  grind [opNeighbourVectorExpiry, State.updNbr_kept, foldl_kept, = kept_mk, = keptF_fold]

theorem State.openElection_kept {s : State} (hs : Kept W a s) : Kept W a (State.openElection s) := by
  grind [State.openElection, State.updFab_kept, foldl_kept, = kept_mk, = keptF_fold]

theorem State.becomeMaster_kept (role : Role) (deputy : Nat) {s : State} (hs : Kept W a s) : Kept W a
    (State.becomeMaster role deputy s) := by
  grind [State.becomeMaster, State.updFrm_kept, State.syncChanged_kept, State.parentChanged_kept, foldl_kept, = kept_mk,
      = keptF_fold]

theorem State.closeElection_kept {s : State} (hs : Kept W a s) : Kept W a (State.closeElection s) := by
  grind [State.closeElection, State.updFrm_kept, State.updFab_kept, State.syncChanged_kept, State.becomeMaster_kept,
      foldl_kept, = kept_mk, = keptF_fold]

theorem opDeputyRename_kept {s : State} (hs : Kept W a s) : Kept W a (opDeputyRename s) := by
  grind [opDeputyRename, State.updFrm_kept, State.updFab_kept, foldl_kept, = kept_mk, = keptF_fold]

theorem opStandaloneReopen_kept {s : State} (hs : Kept W a s) : Kept W a (opStandaloneReopen s) := by
  grind [opStandaloneReopen, State.openElection_kept, foldl_kept, = kept_mk, = keptF_fold]

theorem opControlFlitForward_kept (port : Fin 12) {s : State} (hs : Kept W a s) : Kept W a (opControlFlitForward port
    s) := by
  grind [opControlFlitForward, State.updFab_kept, State.tx_kept, State.discardFlit_kept, State.noteWay_kept, foldl_kept,
      = kept_mk, = keptF_fold]

theorem State.enterTransit_kept (i : Nat) (f : Flit) {s : State} (hs : Kept W a s) : Kept W a (State.enterTransit i f
    s) := by
  grind [State.enterTransit, State.updFab_kept, State.discardFlit_kept, foldl_kept, = kept_mk, = keptF_fold]

theorem State.gatherFlit_kept (port from_ : Nat) (f : Flit) {s : State} (hs : Kept W a s) : Kept W a (State.gatherFlit
    port from_ f s).1 := by
  grind [State.gatherFlit, State.updFab_kept, State.discardFlit_kept, foldl_kept, = kept_mk, = keptF_fold]

theorem opOuterHelloReceive_kept (port : Fin 16) (h : Hello) (arrival : Int) {s : State} (hs : Kept W a s) : Kept W a
    (opOuterHelloReceive port h arrival s) := by
  grind [opOuterHelloReceive, State.updOuter_kept, State.miswire_kept, foldl_kept, = kept_mk, = keptF_fold]

theorem State.sendCredit_kept (o : Nat) (channel : Nat) (bytes : List Byte) {s : State} (hs : Kept W a s) : Kept W a
    (State.sendCredit o channel bytes s).1 := by
  grind [State.sendCredit, State.txMsg_kept, State.updOuter_kept, foldl_kept, = kept_mk, = keptF_fold]

theorem opCreditDataSend_kept (o : Fin 4) (channel : BitVec 4) (bytes : List Byte) {s : State} (hs : Kept W a s) :
    Kept W a (opCreditDataSend o channel bytes s) := by
  grind [opCreditDataSend, State.sendCredit_kept, foldl_kept, = kept_mk, = keptF_fold]

theorem opCreditDataReceive_kept (o : Fin 4) (channel : BitVec 4) (bytes : List Byte) {s : State} (hs : Kept W a s) :
    Kept W a (opCreditDataReceive o channel bytes s) := by
  grind [opCreditDataReceive, State.updOuter_kept, foldl_kept, = kept_mk, = keptF_fold]

theorem opCreditReturn_kept (o : Fin 4) {s : State} (hs : Kept W a s) : Kept W a (opCreditReturn o s) := by
  grind [opCreditReturn, State.txMsg_kept, State.updOuter_kept, foldl_kept, = kept_mk, = keptF_fold]

theorem opCreditReturnReceive_kept (o : Fin 4) (count : BitVec 7) {s : State} (hs : Kept W a s) : Kept W a
    (opCreditReturnReceive o count s) := by
  grind [opCreditReturnReceive, State.updOuter_kept, foldl_kept, = kept_mk, = keptF_fold]

theorem opSheafStatusSend_kept {s : State} (hs : Kept W a s) : Kept W a (opSheafStatusSend s) := by
  unfold opSheafStatusSend
  split
  · exact hs
  · refine foldl_kept (fun s o h => ?_) _ (State.updFab_kept _ hs)
    dsimp only
    split
    · exact State.updOuter_kept _ _ h
    · grind [State.sendCredit_kept, State.updOuter_kept]

theorem specSheafQuery_kept {s : State} (hs : Kept W a s) (c : CmdId) (p : Nat) (e : Entry) : Kept W a
    (specSheafQuery.body c p e s).1 := by
  simp only [specSheafQuery]; grind [foldl_kept, = kept_mk, = keptF_fold]

theorem execSheafQuery_kept (m : Fin 18) (e : Entry) {s : State} (hs : Kept W a s) {t : State} (e_ : execSheafQuery m
    e s = .next t) : Kept W a t := by
  grind [execSheafQuery, serve_kept, specSheafQuery_kept, foldl_kept, = kept_mk, = keptF_fold]

theorem execBeaconRound_kept {s : State} (hs : Kept W a s) {t : State} (e_ : execBeaconRound s = .next t) : Kept W a t
    := by
  grind [execBeaconRound, State.whenClocked_kept, opBeaconRound_kept, foldl_kept, = kept_mk, = keptF_fold]

theorem execBeaconReceive_kept (port : Fin 16) (b : Beacon) {s : State} (hs : Kept W a s) {t : State} (e_ :
    execBeaconReceive port b s = .next t) : Kept W a t := by
  grind [execBeaconReceive, State.whenClocked_kept, opBeaconReceive_kept, foldl_kept, = kept_mk, = keptF_fold]

theorem execDupFlagClear_kept (pkg : Fin 128) {s : State} (hs : Kept W a s) {t : State} (e_ : execDupFlagClear pkg s =
    .next t) : Kept W a t := by
  grind [execDupFlagClear, State.whenClocked_kept, opDupFlagClear_kept, foldl_kept, = kept_mk, = keptF_fold]

theorem execKeyExpiry_kept (pkg : Fin 128) {s : State} (hs : Kept W a s) {t : State} (e_ : execKeyExpiry pkg s = .next
    t) : Kept W a t := by
  grind [execKeyExpiry, State.whenClocked_kept, opKeyExpiry_kept, foldl_kept, = kept_mk, = keptF_fold]

theorem execNeighbourVectorExpiry_kept (port : Fin 12) {s : State} (hs : Kept W a s) {t : State} (e_ :
    execNeighbourVectorExpiry port s = .next t) : Kept W a t := by
  grind [execNeighbourVectorExpiry, State.whenClocked_kept, opNeighbourVectorExpiry_kept, foldl_kept, = kept_mk, =
      keptF_fold]

theorem execDeputyRename_kept {s : State} (hs : Kept W a s) {t : State} (e_ : execDeputyRename s = .next t) : Kept W a
    t := by
  grind [execDeputyRename, State.whenClocked_kept, opDeputyRename_kept, foldl_kept, = kept_mk, = keptF_fold]

theorem execStandaloneReopen_kept {s : State} (hs : Kept W a s) {t : State} (e_ : execStandaloneReopen s = .next t) :
    Kept W a t := by
  grind [execStandaloneReopen, State.whenClocked_kept, opStandaloneReopen_kept, foldl_kept, = kept_mk, = keptF_fold]

theorem execControlFlitForward_kept (port : Fin 12) {s : State} (hs : Kept W a s) {t : State} (e_ :
    execControlFlitForward port s = .next t) : Kept W a t := by
  grind [execControlFlitForward, State.whenClocked_kept, opControlFlitForward_kept, foldl_kept, = kept_mk, = keptF_fold]

theorem execOuterHelloReceive_kept (port : Fin 16) (h : Hello) (arrival : Int) {s : State} (hs : Kept W a s) {t :
    State} (e_ : execOuterHelloReceive port h arrival s = .next t) : Kept W a t := by
  grind [execOuterHelloReceive, State.whenClocked_kept, opOuterHelloReceive_kept, foldl_kept, = kept_mk, = keptF_fold]

theorem execCreditDataSend_kept (o : Fin 4) (channel : BitVec 4) (bytes : List Byte) {s : State} (hs : Kept W a s) {t
    : State} (e_ : execCreditDataSend o channel bytes s = .next t) : Kept W a t := by
  grind [execCreditDataSend, State.whenClocked_kept, opCreditDataSend_kept, foldl_kept, = kept_mk, = keptF_fold]

theorem execCreditDataReceive_kept (o : Fin 4) (channel : BitVec 4) (bytes : List Byte) {s : State} (hs : Kept W a s)
    {t : State} (e_ : execCreditDataReceive o channel bytes s = .next t) : Kept W a t := by
  grind [execCreditDataReceive, State.whenClocked_kept, opCreditDataReceive_kept, foldl_kept, = kept_mk, = keptF_fold]

theorem execCreditReturn_kept (o : Fin 4) {s : State} (hs : Kept W a s) {t : State} (e_ : execCreditReturn o s = .next
    t) : Kept W a t := by
  grind [execCreditReturn, State.whenClocked_kept, opCreditReturn_kept, foldl_kept, = kept_mk, = keptF_fold]

theorem execCreditReturnReceive_kept (o : Fin 4) (count : BitVec 7) {s : State} (hs : Kept W a s) {t : State} (e_ :
    execCreditReturnReceive o count s = .next t) : Kept W a t := by
  grind [execCreditReturnReceive, State.whenClocked_kept, opCreditReturnReceive_kept, foldl_kept, = kept_mk, =
      keptF_fold]

theorem execSheafStatusSend_kept {s : State} (hs : Kept W a s) {t : State} (e_ : execSheafStatusSend s = .next t) :
    Kept W a t := by
  grind [execSheafStatusSend, State.whenClocked_kept, opSheafStatusSend_kept, foldl_kept, = kept_mk, = keptF_fold]

end Sys2Proof.Machine
end

