-- ==== Sys2Proof/Laws/KeptAccess.lean ====
section
/-! SUPPORT. One lemma for each operation of Machine/Access.lean that gives a state: it keeps what `Kept` says. -/

namespace Sys2Proof.Machine

open Sys2Proof

/- In turn, not as parallel tasks: each task that waits for another holds a stack of its own. -/
set_option Elab.async false

variable {W : Prop} {a : State}

theorem State.updXltRegs_kept (d : Nat) (f : XltRegs → XltRegs) {s : State} (hs : Kept W a s) : Kept W a
    (State.updXltRegs d f s) := by
  grind [State.updXltRegs, State.updXlt_kept, foldl_kept, = kept_mk, = keptF_fold]

theorem State.trimCache_kept (p d : Nat) {s : State} (hs : Kept W a s) : Kept W a (State.trimCache p d s) := by
  grind [State.trimCache, State.updXlt_kept, foldl_kept, = kept_mk, = keptF_fold]

theorem State.fill_kept (d : Nat) (e : XlEntry) {s : State} (hs : Kept W a s) : Kept W a (State.fill d e s) := by
  grind [State.fill, State.updXlt_kept, State.trimCache_kept, foldl_kept, = kept_mk, = keptF_fold]

theorem State.updOp_kept (id : Nat) (f : Op → Op) {s : State} (hs : Kept W a s) : Kept W a (State.updOp id f s) := by
  grind [State.updOp, State.updSeq_kept, foldl_kept, = kept_mk, = keptF_fold]

theorem State.noteFetched_kept (uid index : Nat) (d : Desc) {s : State} (hs : Kept W a s) : Kept W a
    (State.noteFetched uid index d s) := by
  grind [State.noteFetched, State.updAdm_kept, foldl_kept, = kept_mk, = keptF_fold]

theorem State.passLine_kept (w : Who) {s : State} (hs : Kept W a s) : Kept W a (State.passLine w s) := by
  grind [State.passLine, State.updOp_kept, foldl_kept, = kept_mk, = keptF_fold]

theorem State.noteLine_kept (w : Who) (bs : List Byte) {s : State} (hs : Kept W a s) : Kept W a (State.noteLine w bs
    s) := by
  grind [State.noteLine, State.updOp_kept, foldl_kept, = kept_mk, = keptF_fold]

theorem State.countMissHost_kept (w : Who) (write : Bool) (a0 : Nat) {s : State} (hs : Kept W a s) : Kept W a
    (State.countMissHost w write a0 s) := by
  grind [State.countMissHost, State.updXlt_kept, State.updXltRegs_kept, foldl_kept, = kept_mk, = keptF_fold]

theorem State.requestWindow_kept (w : Who) (write : Bool) (a0 : Nat) {s : State} (hs : Kept W a s) : Kept W a
    (State.requestWindow w write a0 s) := by
  grind [State.requestWindow, State.updXlt_kept, State.emitPcie_kept, foldl_kept, = kept_mk, = keptF_fold]

theorem State.translateDev_kept (w : Who) (write : Bool) (a0 : Nat) {s : State} (hs : Kept W a s) : Kept W a
    (State.translateDev w write a0 s).1 := by
  grind [State.translateDev, State.updXltRegs_kept, State.fill_kept, foldl_kept, = kept_mk, = keptF_fold]

theorem State.translateHost_kept (w : Who) (write : Bool) (a0 : Nat) {s : State} (hs : Kept W a s) : Kept W a
    (State.translateHost w write a0 s).1 := by
  grind [State.translateHost, State.updXltRegs_kept, State.fill_kept, State.countMissHost_kept,
      State.requestWindow_kept, foldl_kept, = kept_mk, = keptF_fold]

theorem State.translate_kept (w : Who) (write : Bool) (a0 : Nat) {s : State} (hs : Kept W a s) : Kept W a
    (State.translate w write a0 s).1 := by
  grind [State.translate, State.translateDev_kept, State.translateHost_kept, foldl_kept, = kept_mk, = keptF_fold]

theorem State.clearEcc_kept (spad : Bool) (wordAddr : Nat) {s : State} (hs : Kept W a s) : Kept W a (State.clearEcc
    spad wordAddr s) := by
  grind [State.clearEcc, State.updXlt_kept, foldl_kept, = kept_mk, = keptF_fold]

theorem State.countCorrected_kept (q : Phys) {s : State} (hs : Kept W a s) : Kept W a (State.countCorrected q s) := by
  unfold State.countCorrected
  split <;> grind (gen := 30) (ematch := 30) (splits := 30) [State.updXlt_kept, State.updPor_kept, foldl_kept, =
      kept_mk, = keptF_fold]

theorem State.markUe_kept (q : Phys) {s : State} (hs : Kept W a s) : Kept W a (State.markUe q s) := by
  unfold State.markUe
  split <;> grind (gen := 30) (ematch := 30) (splits := 30) [State.updXlt_kept, foldl_kept, = kept_mk, = keptF_fold]

theorem State.eccFault_kept (w : Who) (write : Bool) (a0 : Nat) (q : Phys) {s : State} (hs : Kept W a s) : Kept W a
    (State.eccFault w write a0 q s).1 := by
  unfold State.eccFault
  split <;> grind (gen := 30) (ematch := 30) (splits := 30) [State.markUe_kept, foldl_kept, = kept_mk, = keptF_fold]

theorem State.setMem_kept {s : State} {m : Memory} (hs : Kept W a s) (hm : m.OkIf W) (q : Phys) : Kept W a
    (State.setMem q m s) := by
  cases q <;> simp only [State.setMem, kept_mk]
  · exact keptF_dram hs hm
  · exact keptF_host hs hm
  · exact keptF_spad hs hm

theorem State.readLine_kept (w : Who) (a0 n : Nat) (q : Phys) {s : State} (hs : Kept W a s) : Kept W a (State.readLine
    w a0 n q s).1 := by
  unfold State.readLine
  split <;> grind (gen := 30) (ematch := 30) (splits := 30) [State.countCorrected_kept, State.eccFault_kept, foldl_kept,
      = kept_mk, = keptF_fold]

theorem State.memOf_ok {s : State} (hs : Kept W a s) (q : Phys) : (s.memOf q).OkIf W := by
  cases q
  · exact hs.dram
  · exact hs.host
  · exact hs.spad

theorem State.putBytes_kept (q : Phys) (x : Nat) (l : List (Nat × Byte)) {s : State} (hs : Kept W a s) : Kept W a
    (State.putBytes q x l s) := State.setMem_kept hs (foldl_write_ok _ _ _ (State.memOf_ok hs _)) _

theorem State.putHost_kept (x : Nat) (bs : List Byte) {s : State} (hs : Kept W a s) : Kept W a (State.putHost x bs s)
    := by
  unfold State.putHost
  rw [kept_mk]
  exact keptF_host hs (Memory.writeBytes_ok _ _ hs.host)

theorem State.freshEcc_kept (q : Phys) (whole : Bool) (k : Nat) {s : State} (hs : Kept W a s) : Kept W a
    (State.freshEcc q whole k s) := by
  grind [State.freshEcc, State.clearEcc_kept, State.countCorrected_kept, foldl_kept, = kept_mk, = keptF_fold]

theorem State.storeLine_kept (q : Phys) (bs : List Byte) {s : State} (hs : Kept W a s) : Kept W a (State.storeLine q bs s) := by
  unfold State.storeLine
  dsimp only
  split
  · exact State.putHost_kept _ _ hs
  · exact State.putBytes_kept _ _ _ (foldl_kept (fun _ _ h => State.freshEcc_kept _ _ _ h) _ hs)

theorem State.writeLine_kept (w : Who) (a0 : Nat) (bs : List Byte) (q : Phys) {s : State} (hs : Kept W a s) : Kept W a
    (State.writeLine w a0 bs q s).1 := by
  grind [State.writeLine, State.storeLine_kept, State.eccFault_kept]

theorem State.readOne_kept (w : Who) (a0 k : Nat) {s : State} (hs : Kept W a s) : Kept W a (State.readOne w a0 k s).1
    := by
  grind [State.readOne, State.translate_kept, State.readLine_kept, foldl_kept, = kept_mk, = keptF_fold]

theorem State.writeOne_kept (w : Who) (a0 : Nat) (bs : List Byte) {s : State} (hs : Kept W a s) : Kept W a
    (State.writeOne w a0 bs s).1 := by
  grind [State.writeOne, State.translate_kept, State.writeLine_kept, foldl_kept, = kept_mk, = keptF_fold]

theorem State.readLoop_kept (w : Who) (fuel x n : Nat) (acc : List Byte) {s : State} (hs : Kept W a s) :
    Kept W a (State.readLoop w fuel x n acc s).1 := by
  induction fuel generalizing x n acc s with
  | zero => exact hs
  | succ k ih => grind (gen := 30) (ematch := 30) (splits := 30) [State.readLoop, State.readOne_kept, State.passLine_kept,
      State.noteLine_kept]

theorem State.readDva_kept (w : Who) (a0 n : Nat) {s : State} (hs : Kept W a s) : Kept W a (State.readDva w a0 n s).1
    := by
  grind [State.readDva, State.readLoop_kept, foldl_kept, = kept_mk, = keptF_fold]

theorem State.writeLoop_kept (w : Who) (fuel x : Nat) (bs : List Byte) {s : State} (hs : Kept W a s) :
    Kept W a (State.writeLoop w fuel x bs s).1 := by
  induction fuel generalizing x bs s with
  | zero => exact hs
  | succ k ih =>
    cases bs with
    | nil => exact hs
    | cons b t => grind (gen := 30) (ematch := 30) (splits := 30) [State.writeLoop, State.writeOne_kept, State.passLine_kept,
        State.noteLine_kept]

theorem State.writeDva_kept (w : Who) (a0 : Nat) (bs : List Byte) {s : State} (hs : Kept W a s) : Kept W a
    (State.writeDva w a0 bs s).1 := by
  grind [State.writeDva, State.writeLoop_kept, foldl_kept, = kept_mk, = keptF_fold]

theorem State.readRows_kept (w : Who) (stride n rows x : Nat) (acc : List (List Byte)) {s : State} (hs : Kept W a s) :
    Kept W a (State.readRows w stride n rows x acc s).1 := by
  induction rows generalizing x acc s with
  | zero => exact hs
  | succ k ih => grind (gen := 30) (ematch := 30) (splits := 30) [State.readRows, State.readDva_kept]

theorem State.writeRowsLoop_kept (w : Who) (stride x : Nat) (rows : List (List Byte)) {s : State} (hs : Kept W a s) :
    Kept W a (State.writeRowsLoop w stride x rows s).1 := by
  induction rows generalizing x s with
  | nil => exact hs
  | cons r t ih => grind (gen := 30) (ematch := 30) (splits := 30) [State.writeRowsLoop, State.writeLoop_kept]

theorem State.writeRows_kept (w : Who) (stride a0 : Nat) (rows : List (List Byte)) {s : State} (hs : Kept W a s) :
    Kept W a (State.writeRows w stride a0 rows s).1 := by
  grind [State.writeRows, State.writeRowsLoop_kept, foldl_kept, = kept_mk, = keptF_fold]

theorem State.seeLine_kept (k : Nat) (q : Phys) {s : State} (hs : Kept W a s) : Kept W a (State.seeLine k q s) := by
  grind [State.seeLine, State.countCorrected_kept, State.markUe_kept, foldl_kept, = kept_mk, = keptF_fold]

theorem State.triedLine_kept (x : Nat) {s : State} (hs : Kept W a s) : Kept W a (State.triedLine x s) := by
  grind [State.triedLine, foldl_kept, = kept_mk, = keptF_fold]

theorem State.seeArg_kept (p c fuel x n : Nat) {s : State} (hs : Kept W a s) : Kept W a (State.seeArg p c fuel x n s) := by
  induction fuel generalizing x n s with
  | zero => exact hs
  | succ k ih => grind (gen := 30) (ematch := 30) (splits := 30) [State.seeArg, State.triedLine_kept, State.seeLine_kept]

theorem State.argRead_kept (p c a0 n : Nat) {s : State} (hs : Kept W a s) : Kept W a (State.argRead p c a0 n s) := by
  grind [State.argRead, State.seeArg_kept, foldl_kept, = kept_mk, = keptF_fold]

theorem State.takeArg_kept (p c a0 n : Nat) {s : State} (hs : Kept W a s) : Kept W a (State.takeArg p c a0 n s).2 :=
    by
  grind [State.takeArg, State.argRead_kept, foldl_kept, = kept_mk, = keptF_fold]

theorem State.choeskWrite_kept (p c fuel x : Nat) (bs : List Byte) {s : State} (hs : Kept W a s) :
    Kept W a (State.choeskWrite p c fuel x bs s) := by
  induction fuel generalizing x bs s with
  | zero => exact hs
  | succ k ih =>
    cases bs with
    | nil => exact hs
    | cons b t => grind (gen := 30) (ematch := 30) (splits := 30) [State.choeskWrite, State.storeLine_kept]

theorem State.writeArg_kept (p c a0 : Nat) (bs : List Byte) {s : State} (hs : Kept W a s) : Kept W a (State.writeArg p
    c a0 bs s) := by
  grind [State.writeArg, State.choeskWrite_kept, foldl_kept, = kept_mk, = keptF_fold]

end Sys2Proof.Machine
end

