-- ==== Sys2Proof/Laws/KeptFlorets.lean ====
section
/-! SUPPORT. One lemma for each operation of Machine/Florets.lean that gives a state: it keeps what `Kept` says. -/

namespace Sys2Proof.Machine

open Sys2Proof

/- In turn, not as parallel tasks: each task that waits for another holds a stack of its own. -/
set_option Elab.async false

variable {W : Prop} {a : State}

theorem State.loadFlorets_kept (tiller : Nat) (rows : List (List Byte)) {s : State} (hs : Kept W a s) : Kept W a
    (State.loadFlorets tiller rows s) := by
  grind [State.loadFlorets, State.updSeq_kept, foldl_kept, = kept_mk, = keptF_fold]

theorem State.readRaw_kept (o : Op) (n stride x : Nat) (rs : List Nat) (acc : Tab (List Byte)) {s : State} (hs : Kept W a s) :
    Kept W a (State.readRaw o n stride x rs acc s).1 := by
  induction rs generalizing acc s with
  | nil => exact hs
  | cons r t ih => grind (gen := 30) (ematch := 30) (splits := 30) [State.readRaw, State.readDva_kept]

theorem State.readSome_kept (o : Op) (code cols stride a0 : Nat) (rs : List Nat) {s : State} (hs : Kept W a s) : Kept
    W a (State.readSome o code cols stride a0 rs s).1 := by
  grind (gen := 30) (ematch := 30) (splits := 30) [State.readSome, gotThen_kept, State.readRaw_kept, foldl_kept, =
      kept_mk, = keptF_fold]

theorem State.readStationary_kept (o : Op) (code cols stride a0 : Nat) (rs : List Nat) {s : State} (hs : Kept W a s) :
    Kept W a (State.readStationary o code cols stride a0 rs s).1 := by
  grind [State.readStationary, gotThen_kept, State.loadFlorets_kept, State.readRaw_kept, foldl_kept, = kept_mk, =
      keptF_fold]

theorem State.writePieces_kept (w : Who) (l : List (Nat × List Byte)) {s : State} (hs : Kept W a s) :
    Kept W a (State.writePieces w l s).1 := by
  induction l generalizing s with
  | nil => exact hs
  | cons x t ih => grind (gen := 30) (ematch := 30) (splits := 30) [State.writePieces, State.writeLoop_kept]

theorem State.writeMany_kept (w : Who) (xs : List (Nat × List Byte)) {s : State} (hs : Kept W a s) :
    Kept W a (State.writeMany w xs s).1 := State.writePieces_kept w xs hs

theorem State.bucketEntry_kept (o : Op) {s : State} (hs : Kept W a s) : Kept W a (State.bucketEntry o s).1 := by
  grind [State.bucketEntry, State.readDva_kept, gotThen_kept, foldl_kept, = kept_mk, = keptF_fold]

theorem State.readTiles_kept (o : Op) (t : AttnAt) {s : State} (hs : Kept W a s) : Kept W a (State.readTiles o t s).1
    := by
  grind (gen := 30) (ematch := 30) (splits := 30) [State.readTiles, gotThen_kept, State.readSome_kept,
      State.readStationary_kept, foldl_kept, = kept_mk, = keptF_fold]

theorem State.fwdOut_kept (o : Op) (t : AttnAt) (fin : Bool) (upto : Nat → Nat) {s : State} (hs : Kept W a s) : Kept W
    a (State.fwdOut o t fin upto s).1 := by
  grind (gen := 30) (ematch := 30) (splits := 30) [State.fwdOut, gotThen_kept, State.readSome_kept,
      State.readTiles_kept, foldl_kept, = kept_mk, = keptF_fold]

theorem State.prepOut_kept (o : Op) (t : AttnAt) (upto : Nat → Nat) {s : State} (hs : Kept W a s) : Kept W a
    (State.prepOut o t upto s).1 := by
  grind (gen := 30) (ematch := 30) (splits := 30) [State.prepOut, gotThen_kept, State.readSome_kept, foldl_kept, =
      kept_mk, = keptF_fold]

theorem State.dqOut_kept (o : Op) (t : AttnAt) (upto : Nat → Nat) {s : State} (hs : Kept W a s) : Kept W a
    (State.dqOut o t upto s).1 := by
  grind (gen := 30) (ematch := 30) (splits := 30) [State.dqOut, gotThen_kept, State.readSome_kept, State.readTiles_kept,
      foldl_kept, = kept_mk, = keptF_fold]

theorem State.dkvOut_kept (o : Op) (t : AttnAt) (upto : Nat → Nat) {s : State} (hs : Kept W a s) : Kept W a
    (State.dkvOut o t upto s).1 := by
  grind (gen := 30) (ematch := 30) (splits := 30) [State.dkvOut, gotThen_kept, State.readSome_kept,
      State.readStationary_kept, foldl_kept, = kept_mk, = keptF_fold]

theorem State.attnOut_kept (o : Op) (t : AttnAt) (fin : Bool) (upto : Nat → Nat) {s : State} (hs : Kept W a s) : Kept
    W a (State.attnOut o t fin upto s).1 := by
  grind [State.attnOut, State.fwdOut_kept, State.prepOut_kept, State.dqOut_kept, State.dkvOut_kept, foldl_kept, =
      kept_mk, = keptF_fold]

theorem State.stopPass_kept (o : Op) {s : State} (hs : Kept W a s) : Kept W a (State.stopPass o s) := by
  grind [State.stopPass, State.takeFree_kept, State.updOp_kept, gotThen_kept, State.writeMany_kept,
      State.bucketEntry_kept, State.attnOut_kept, foldl_kept, = kept_mk, = keptF_fold]

end Sys2Proof.Machine
end

