-- ==== Sys2Proof/Laws/KeptEnergy.lean ====
section
/-! SUPPORT. One lemma for each operation of Machine/Energy.lean that gives a state: it keeps what `Kept` says. -/

namespace Sys2Proof.Machine

open Sys2Proof

/- In turn, not as parallel tasks: each task that waits for another holds a stack of its own. -/
set_option Elab.async false

variable {W : Prop} {a : State}

theorem State.updCopies_kept (p : Nat) (f : KvCopy → KvCopy) {s : State} (hs : Kept W a s) : Kept W a (State.updCopies
    p f s) := by
  grind [State.updCopies, foldl_kept, = kept_mk, = keptF_fold]

theorem State.settle_kept (o : Op) (m : Nat) (retires : Bool) {s : State} (hs : Kept W a s) : Kept W a (State.settle o
    m retires s) := by
  grind [State.settle, State.updPwrp_kept, State.updPwr_kept, foldl_kept, = kept_mk, = keptF_fold]

theorem State.leaveFill_kept (o : Op) {s : State} (hs : Kept W a s) : Kept W a (State.leaveFill o s) := by
  grind [State.leaveFill, State.updPwr_kept, foldl_kept, = kept_mk, = keptF_fold]

theorem State.stopOp_kept (o : Op) {s : State} (hs : Kept W a s) : Kept W a (State.stopOp o s) := by
  grind [State.stopOp, State.updSeq_kept, State.takeFree_kept, State.stopPass_kept, State.settle_kept,
      State.leaveFill_kept, foldl_kept, = kept_mk, = keptF_fold]

end Sys2Proof.Machine
end

