-- ==== Sys2Proof/Laws/KeptKill.lean ====
section
/-! SUPPORT. One lemma for each operation of Machine/Kill.lean that gives a state: it keeps what `Kept` says. -/

namespace Sys2Proof.Machine

open Sys2Proof

/- In turn, not as parallel tasks: each task that waits for another holds a stack of its own. -/
set_option Elab.async false

variable {W : Prop} {a : State}

theorem State.wakePorts_kept {s : State} (hs : Kept W a s) : Kept W a (State.wakePorts s) := by
  grind [State.wakePorts, State.wakePort_kept, foldl_kept, = kept_mk, = keptF_fold]

theorem State.setPart_kept (p : Nat) (st : PState) {s : State} (hs : Kept W a s) : Kept W a (State.setPart p st s) :=
    by
  grind [State.setPart, State.updPart_kept, State.fireVec_kept, State.logEvent_kept, State.wakePorts_kept, foldl_kept, =
      kept_mk, = keptF_fold]

theorem State.spanDie_kept (id : BitVec 16) {s : State} (hs : Kept W a s) : Kept W a (State.spanDie id s) := by
  grind [State.spanDie, State.sendAll_kept, State.updSpan_kept, foldl_kept, = kept_mk, = keptF_fold]

theorem State.killGroups_kept (p c : Nat) (cause : Reason) {s : State} (hs : Kept W a s) : Kept W a (State.killGroups
    p c cause s) := by
  grind [State.killGroups, State.updRed_kept, State.send_kept, foldl_kept, = kept_mk, = keptF_fold]

theorem State.killNotices_kept (p c : Nat) (cause : Reason) {s : State} (hs : Kept W a s) : Kept W a
    (State.killNotices p c cause s) := by
  grind [State.killNotices, State.updCtx_kept, State.logEvent_kept, State.send_kept, foldl_kept, = kept_mk, =
      keptF_fold]

theorem State.killStart_kept (r : FaultRec) (peer : Option (BitVec 7 × BitVec 10)) {s : State} (hs : Kept W a s) :
    Kept W a (State.killStart r peer s) := by
  grind (gen := 30) (ematch := 30) (splits := 30) [State.killStart, State.updCtx_kept, State.updSeq_kept,
      State.logEvent_kept, State.stopOp_kept, State.spanDie_kept, State.killGroups_kept, State.killNotices_kept,
      foldl_kept, = kept_mk, = keptF_fold]

theorem State.killCtx_kept (p c : Nat) (cause : Reason) {s : State} (hs : Kept W a s) : Kept W a (State.killCtx p c
    cause s) := by
  grind [State.killCtx, State.killStart_kept, foldl_kept, = kept_mk, = keptF_fold]

theorem State.killAll_kept (p : Nat) (cause : Reason) {s : State} (hs : Kept W a s) : Kept W a (State.killAll p cause
    s) := by
  grind [State.killAll, State.killCtx_kept, foldl_kept, = kept_mk, = keptF_fold]

theorem State.refuseLoads_kept (p : Nat) {s : State} (hs : Kept W a s) : Kept W a (State.refuseLoads p s) := by
  grind [State.refuseLoads, State.finishAll_kept, foldl_kept, = kept_mk, = keptF_fold]

theorem State.refuseWaiting_kept (p : Nat) {s : State} (hs : Kept W a s) : Kept W a (State.refuseWaiting p s) := by
  grind [State.refuseWaiting, State.updPart_kept, State.finishAll_kept, State.refuseLoads_kept, foldl_kept, = kept_mk, =
      keptF_fold]

theorem State.faultPart_kept (p : Nat) (code : BitVec 8) {s : State} (hs : Kept W a s) : Kept W a (State.faultPart p
    code s) := by
  grind [State.faultPart, State.updPart_kept, State.logEvent_kept, State.setPart_kept, State.killAll_kept,
      State.refuseWaiting_kept, foldl_kept, = kept_mk, = keptF_fold]

theorem opKillStart_kept (r : FaultRec) {s : State} (hs : Kept W a s) : Kept W a (opKillStart r s) := by
  grind [opKillStart, State.updXlt_kept, State.killStart_kept, foldl_kept, = kept_mk, = keptF_fold]

theorem opKillNoticeReceive_kept (_frame : FrameNo) (cause : BitVec 16) (origin : BitVec 7) (tag : BitVec 10) (span :
    BitVec 16) {s : State} (hs : Kept W a s) : Kept W a (opKillNoticeReceive _frame cause origin tag span s) := by
  grind [opKillNoticeReceive, State.log_kept, State.spanDie_kept, State.killStart_kept, foldl_kept, = kept_mk, =
      keptF_fold]

theorem opSpanDeadReceive_kept (span : BitVec 16) (pkg : Fin 128) {s : State} (hs : Kept W a s) : Kept W a
    (opSpanDeadReceive span pkg s) := by
  grind [opSpanDeadReceive, State.send_kept, State.updSpan_kept, State.killStart_kept, foldl_kept, = kept_mk, =
      keptF_fold]

theorem opSpanDeadResend_kept (span : BitVec 16) (acked : List Nat) {s : State} (hs : Kept W a s) : Kept W a
    (opSpanDeadResend span acked s) := by
  grind [opSpanDeadResend, State.sendAll_kept, State.updSpan_kept, foldl_kept, = kept_mk, = keptF_fold]

theorem opPartitionFault_kept (p : Fin 16) (code : BitVec 8) {s : State} (hs : Kept W a s) : Kept W a
    (opPartitionFault p code s) := by
  grind [opPartitionFault, State.faultPart_kept, foldl_kept, = kept_mk, = keptF_fold]

theorem opStallWatchdog_kept (p : Fin 16) {s : State} (hs : Kept W a s) : Kept W a (opStallWatchdog p s) := by
  grind [opStallWatchdog, State.killCtx_kept, foldl_kept, = kept_mk, = keptF_fold]

theorem execStallWatchdog_kept (p : Fin 16) {s : State} (hs : Kept W a s) {t : State} (e_ : execStallWatchdog p s =
    .next t) : Kept W a t := by
  grind [execStallWatchdog, State.whenClocked_kept, opStallWatchdog_kept, foldl_kept, = kept_mk, = keptF_fold]

theorem execKillStart_kept (r : FaultRec) {s : State} (hs : Kept W a s) {t : State} (e_ : execKillStart r s = .next t)
    : Kept W a t := by
  grind [execKillStart, State.whenClocked_kept, opKillStart_kept, foldl_kept, = kept_mk, = keptF_fold]

theorem execKillNoticeReceive_kept (frame : FrameNo) (cause : BitVec 16) (origin : BitVec 7) (tag : BitVec 10) (span :
    BitVec 16) {s : State} (hs : Kept W a s) {t : State} (e_ : execKillNoticeReceive frame cause origin tag span s =
    .next t) : Kept W a t := by
  grind [execKillNoticeReceive, State.whenClocked_kept, State.toChoesk_kept, opKillNoticeReceive_kept, foldl_kept, =
      kept_mk, = keptF_fold]

theorem execPartitionFault_kept (p : Fin 16) (code : BitVec 8) {s : State} (hs : Kept W a s) {t : State} (e_ :
    execPartitionFault p code s = .next t) : Kept W a t := by
  grind [execPartitionFault, State.whenClocked_kept, opPartitionFault_kept, foldl_kept, = kept_mk, = keptF_fold]

theorem execSpanDeadReceive_kept (span : BitVec 16) (pkg : Fin 128) {s : State} (hs : Kept W a s) {t : State} (e_ :
    execSpanDeadReceive span pkg s = .next t) : Kept W a t := by
  grind [execSpanDeadReceive, State.whenClocked_kept, State.toChoesk_kept, opSpanDeadReceive_kept, foldl_kept, =
      kept_mk, = keptF_fold]

theorem execSpanDeadResend_kept (span : BitVec 16) (acked : List Nat) {s : State} (hs : Kept W a s) {t : State} (e_ :
    execSpanDeadResend span acked s = .next t) : Kept W a t := by
  grind [execSpanDeadResend, State.whenClocked_kept, opSpanDeadResend_kept, foldl_kept, = kept_mk, = keptF_fold]

end Sys2Proof.Machine
end

