-- ==== Sys2Proof/Laws/KeptMbx.lean ====
section
/-! SUPPORT. One lemma for each operation of Machine/Mbx.lean that gives a state: it keeps what `Kept` says. -/

namespace Sys2Proof.Machine

open Sys2Proof

/- In turn, not as parallel tasks: each task that waits for another holds a stack of its own. -/
set_option Elab.async false

variable {W : Prop} {a : State}

theorem State.mbxError_kept (m : Nat) (code : MbxErr) {s : State} (hs : Kept W a s) : Kept W a (State.mbxError m code
    s) := by
  grind [State.mbxError, State.updMb_kept, State.fireVec_kept, State.log_kept, foldl_kept, = kept_mk, = keptF_fold]

theorem opMbxRingCfgWrite_kept (fn : Fin 17) (v : W64) {s : State} (hs : Kept W a s) : Kept W a (opMbxRingCfgWrite fn
    v s) := by
  grind [opMbxRingCfgWrite, State.updMb_kept, State.mbxError_kept, foldl_kept, = kept_mk, = keptF_fold]

theorem opDoorbell_kept (fn : Fin 17) (v : W64) {s : State} (hs : Kept W a s) : Kept W a (opDoorbell fn v s) := by
  grind [opDoorbell, State.updMb_kept, State.mbxError_kept, foldl_kept, = kept_mk, = keptF_fold]

theorem opMbxCplHeadWrite_kept (fn : Fin 17) (v : W64) {s : State} (hs : Kept W a s) : Kept W a (opMbxCplHeadWrite fn
    v s) := by
  grind [opMbxCplHeadWrite, State.updMb_kept, State.mbxError_kept, foldl_kept, = kept_mk, = keptF_fold]

theorem State.fireCompletion_kept (m : Nat) {s : State} (hs : Kept W a s) : Kept W a (State.fireCompletion m s) := by
  grind [State.fireCompletion, State.updMb_kept, State.fireVec_kept, foldl_kept, = kept_mk, = keptF_fold]

theorem State.writeRecord_kept (m : Nat) {s : State} (hs : Kept W a s) : Kept W a (State.writeRecord m s) := by
  grind (gen := 30) (ematch := 30) (splits := 30) [State.writeRecord, State.updMb_kept, State.updMgt_kept,
      State.emit_kept, State.fireCompletion_kept, keptF_host, Memory.writeBytes_ok, Kept.host, foldl_kept, = kept_mk,
      = keptF_fold]

theorem writeLoopCpl_kept (m n : Nat) {s : State} (hs : Kept W a s) : Kept W a (writeLoopCpl m n s) := by
  induction n generalizing s with
  | zero => exact hs
  | succ k ih => grind [writeLoopCpl, State.writeRecord_kept]

theorem opCompletionWrite_kept (m : Fin 18) {s : State} (hs : Kept W a s) : Kept W a (opCompletionWrite m s) := by
  grind [opCompletionWrite, writeLoopCpl_kept, foldl_kept, = kept_mk, = keptF_fold]

theorem opIrqAgeExpiry_kept (fn : Fin 17) {s : State} (hs : Kept W a s) : Kept W a (opIrqAgeExpiry fn s) := by
  grind [opIrqAgeExpiry, State.fireCompletion_kept, foldl_kept, = kept_mk, = keptF_fold]

theorem State.endOps_kept (uid : Nat) {s : State} (hs : Kept W a s) : Kept W a (State.endOps uid s) := by
  grind [State.endOps, State.updSeq_kept, State.stopPass_kept, foldl_kept, = kept_mk, = keptF_fold]

theorem State.decideJob_kept (uid : Nat) (rs : Reason) {s : State} (hs : Kept W a s) : Kept W a (State.decideJob uid
    rs s) := by
  grind [State.decideJob, State.updAdm_kept, State.endOps_kept, foldl_kept, = kept_mk, = keptF_fold]

theorem State.resetMailbox_kept (m : Nat) {s : State} (hs : Kept W a s) : Kept W a (State.resetMailbox m s) := by
  grind [State.resetMailbox, State.updMb_kept, State.updAdm_kept, State.log_kept, State.decideJob_kept, foldl_kept, =
      kept_mk, = keptF_fold]

theorem State.resetMailboxDone_kept (m : Nat) {s : State} (hs : Kept W a s) : Kept W a (State.resetMailboxDone m s) :=
    by
  grind [State.resetMailboxDone, State.updMb_kept, State.updAdm_kept, State.fireVec_kept, foldl_kept, = kept_mk, =
      keptF_fold]

theorem opMailboxReset_kept (fn : Fin 17) {s : State} (hs : Kept W a s) : Kept W a (opMailboxReset fn s) := by
  grind [opMailboxReset, State.resetMailbox_kept, foldl_kept, = kept_mk, = keptF_fold]

theorem opMailboxResetDone_kept (fn : Fin 17) {s : State} (hs : Kept W a s) : Kept W a (opMailboxResetDone fn s) := by
  grind [opMailboxResetDone, State.resetMailboxDone_kept, foldl_kept, = kept_mk, = keptF_fold]

theorem opMailboxResetWatchdog_kept (fn : Fin 17) {s : State} (hs : Kept W a s) : Kept W a (opMailboxResetWatchdog fn
    s) := by
  grind [opMailboxResetWatchdog, State.killAll_kept, foldl_kept, = kept_mk, = keptF_fold]

theorem execMbxRingCfgWrite_kept (fn : Fin 17) (v : W64) {s : State} (hs : Kept W a s) {t : State} (e_ :
    execMbxRingCfgWrite fn v s = .next t) : Kept W a t := by
  grind [execMbxRingCfgWrite, State.whenPcie_kept, opMbxRingCfgWrite_kept, foldl_kept, = kept_mk, = keptF_fold]

theorem execDoorbell_kept (fn : Fin 17) (v : W64) {s : State} (hs : Kept W a s) {t : State} (e_ : execDoorbell fn v s
    = .next t) : Kept W a t := by
  grind [execDoorbell, State.whenPcie_kept, opDoorbell_kept, foldl_kept, = kept_mk, = keptF_fold]

theorem execMbxCplHeadWrite_kept (fn : Fin 17) (v : W64) {s : State} (hs : Kept W a s) {t : State} (e_ :
    execMbxCplHeadWrite fn v s = .next t) : Kept W a t := by
  grind [execMbxCplHeadWrite, State.whenPcie_kept, opMbxCplHeadWrite_kept, foldl_kept, = kept_mk, = keptF_fold]

theorem execMailboxReset_kept (fn : Fin 17) {s : State} (hs : Kept W a s) {t : State} (e_ : execMailboxReset fn s =
    .next t) : Kept W a t := by
  grind [execMailboxReset, State.whenPcie_kept, opMailboxReset_kept, foldl_kept, = kept_mk, = keptF_fold]

theorem execCompletionWrite_kept (m : Fin 18) {s : State} (hs : Kept W a s) {t : State} (e_ : execCompletionWrite m s
    = .next t) : Kept W a t := by
  grind [execCompletionWrite, State.whenClocked_kept, opCompletionWrite_kept, foldl_kept, = kept_mk, = keptF_fold]

theorem execIrqAgeExpiry_kept (fn : Fin 17) {s : State} (hs : Kept W a s) {t : State} (e_ : execIrqAgeExpiry fn s =
    .next t) : Kept W a t := by
  grind [execIrqAgeExpiry, State.whenClocked_kept, opIrqAgeExpiry_kept, foldl_kept, = kept_mk, = keptF_fold]

theorem execMailboxResetDone_kept (fn : Fin 17) {s : State} (hs : Kept W a s) {t : State} (e_ : execMailboxResetDone
    fn s = .next t) : Kept W a t := by
  grind [execMailboxResetDone, State.whenClocked_kept, opMailboxResetDone_kept, foldl_kept, = kept_mk, = keptF_fold]

theorem execMailboxResetWatchdog_kept (fn : Fin 17) {s : State} (hs : Kept W a s) {t : State} (e_ :
    execMailboxResetWatchdog fn s = .next t) : Kept W a t := by
  grind [execMailboxResetWatchdog, State.whenClocked_kept, opMailboxResetWatchdog_kept, foldl_kept, = kept_mk, =
      keptF_fold]

end Sys2Proof.Machine
end

