-- ==== Sys2Proof/Laws/KeptAdm.lean ====
section
/-! SUPPORT. One lemma for each operation of Machine/Adm.lean that gives a state: it keeps what `Kept` says. -/

namespace Sys2Proof.Machine

open Sys2Proof

/- In turn, not as parallel tasks: each task that waits for another holds a stack of its own. -/
set_option Elab.async false

variable {W : Prop} {a : State}

theorem State.dropJob_kept (uid : Nat) {s : State} (hs : Kept W a s) : Kept W a (State.dropJob uid s) := by
  grind [State.dropJob, State.updAdm_kept, foldl_kept, = kept_mk, = keptF_fold]

theorem State.endJob_kept (j : Job) (oc : Oc) (rs : Reason) {s : State} (hs : Kept W a s) : Kept W a (State.endJob j
    oc rs s) := by
  grind [State.endJob, State.finish_kept, State.finishAll_kept, State.dropJob_kept, foldl_kept, = kept_mk, = keptF_fold]

theorem State.endIfDrained_kept (uid : Nat) {s : State} (hs : Kept W a s) : Kept W a (State.endIfDrained uid s) := by
  grind [State.endIfDrained, State.endJob_kept, foldl_kept, = kept_mk, = keptF_fold]

theorem State.purge_kept (p : Nat) {s : State} (hs : Kept W a s) : Kept W a (State.purge p s) := by
  grind [State.purge, State.updAdmp_kept, State.endJob_kept, foldl_kept, = kept_mk, = keptF_fold]

theorem State.powerCheck_kept (p : Nat) {s : State} (hs : Kept W a s) : Kept W a (State.powerCheck p s) := by
  grind [State.powerCheck, State.updAdmp_kept, State.endJob_kept, foldl_kept, = kept_mk, = keptF_fold]

theorem State.refuseOverload_kept (p est : Nat) (j : Job) {s : State} (hs : Kept W a s) : Kept W a
    (State.refuseOverload p est j s) := by
  grind [State.refuseOverload, State.updAdmp_kept, State.finish_kept, State.finishAll_kept, State.dropJob_kept,
      foldl_kept, = kept_mk, = keptF_fold]

theorem State.settlePending_kept (p : Nat) (b : Int) (done : Nat) {s : State} (hs : Kept W a s) : Kept W a
    (State.settlePending p b done s) := by
  grind [State.settlePending, State.updAdm_kept, State.stage_kept, State.refuseOverload_kept, foldl_kept, = kept_mk, =
      keptF_fold]

theorem State.admissionPass_kept {s : State} (hs : Kept W a s) : Kept W a (State.admissionPass s) := by
  grind (gen := 30) (ematch := 30) (splits := 30) [State.admissionPass, State.updAdm_kept, State.stage_kept,
      State.purge_kept, State.powerCheck_kept, State.settlePending_kept, foldl_kept, = kept_mk, = keptF_fold]

theorem jobAbortBody_kept (c : CmdId) (x0 : Nat) (e : Entry) {s : State} (hs : Kept W a s) : Kept W a (jobAbortBody c
    x0 e s).1 := by
  grind [jobAbortBody, State.updAdm_kept, State.finish_kept, State.decideJob_kept, State.endJob_kept,
      State.endIfDrained_kept, foldl_kept, = kept_mk, = keptF_fold]

theorem specJobAbort_kept {s : State} (hs : Kept W a s) (c : CmdId) (p : Nat) (e : Entry) : Kept W a
    (specJobAbort.body c p e s).1 := by
  simp only [specJobAbort]; grind [jobAbortBody_kept, foldl_kept, = kept_mk, = keptF_fold]

theorem specJobQuery_kept {s : State} (hs : Kept W a s) (c : CmdId) (p : Nat) (e : Entry) : Kept W a
    (specJobQuery.body c p e s).1 := by
  simp only [specJobQuery]; grind [foldl_kept, = kept_mk, = keptF_fold]

theorem admSetBody_kept (x0 : CmdId) (p : Nat) (e : Entry) {s : State} (hs : Kept W a s) : Kept W a (admSetBody x0 p e
    s).1 := by
  grind [admSetBody, State.updAdmp_kept, State.updAdm_kept, foldl_kept, = kept_mk, = keptF_fold]

theorem specAdmSet_kept {s : State} (hs : Kept W a s) (c : CmdId) (p : Nat) (e : Entry) : Kept W a (specAdmSet.body c
    p e s).1 := by
  simp only [specAdmSet]; grind [admSetBody_kept, foldl_kept, = kept_mk, = keptF_fold]

theorem admQueryBody_kept (x0 : CmdId) (p : Nat) (x1 : Entry) {s : State} (hs : Kept W a s) : Kept W a (admQueryBody
    x0 p x1 s).1 := by
  grind [admQueryBody, foldl_kept, = kept_mk, = keptF_fold]

theorem specAdmQuery_kept {s : State} (hs : Kept W a s) (c : CmdId) (p : Nat) (e : Entry) : Kept W a
    (specAdmQuery.body c p e s).1 := by
  simp only [specAdmQuery]; grind [admQueryBody_kept, foldl_kept, = kept_mk, = keptF_fold]

theorem specDevInfo_kept {s : State} (hs : Kept W a s) (c : CmdId) (p : Nat) (e : Entry) : Kept W a (specDevInfo.body
    c p e s).1 := by
  simp only [specDevInfo]; grind [foldl_kept, = kept_mk, = keptF_fold]

theorem execDevInfo_kept (m : Fin 18) (e : Entry) {s : State} (hs : Kept W a s) {t : State} (e_ : execDevInfo m e s =
    .next t) : Kept W a t := by
  grind [execDevInfo, serve_kept, specDevInfo_kept, foldl_kept, = kept_mk, = keptF_fold]

theorem execJobAbort_kept (m : Fin 18) (e : Entry) {s : State} (hs : Kept W a s) {t : State} (e_ : execJobAbort m e s
    = .next t) : Kept W a t := by
  grind [execJobAbort, serve_kept, specJobAbort_kept, foldl_kept, = kept_mk, = keptF_fold]

theorem execJobQuery_kept (m : Fin 18) (e : Entry) {s : State} (hs : Kept W a s) {t : State} (e_ : execJobQuery m e s
    = .next t) : Kept W a t := by
  grind [execJobQuery, serve_kept, specJobQuery_kept, foldl_kept, = kept_mk, = keptF_fold]

theorem execAdmSet_kept (m : Fin 18) (e : Entry) {s : State} (hs : Kept W a s) {t : State} (e_ : execAdmSet m e s =
    .next t) : Kept W a t := by
  grind [execAdmSet, serve_kept, specAdmSet_kept, foldl_kept, = kept_mk, = keptF_fold]

theorem execAdmQuery_kept (m : Fin 18) (e : Entry) {s : State} (hs : Kept W a s) {t : State} (e_ : execAdmQuery m e s
    = .next t) : Kept W a t := by
  grind [execAdmQuery, serve_kept, specAdmQuery_kept, foldl_kept, = kept_mk, = keptF_fold]

end Sys2Proof.Machine
end

