-- ==== Sys2Proof/Laws/KeptCheck.lean ====
section
/-! SUPPORT. One lemma for each operation of Machine/Check.lean that gives a state: it keeps what `Kept` says. -/

namespace Sys2Proof.Machine

open Sys2Proof

/- In turn, not as parallel tasks: each task that waits for another holds a stack of its own. -/
set_option Elab.async false

variable {W : Prop} {a : State}

theorem countChecked_kept (m i next : Nat) {s : State} (hs : Kept W a s) : Kept W a (countChecked m i next s) := by
  grind [countChecked, State.updMb_kept, foldl_kept, = kept_mk, = keptF_fold]

theorem State.checkedJob_kept (j : Job) {s : State} (hs : Kept W a s) : Kept W a (State.checkedJob j s) := by
  grind [State.checkedJob, State.updAdm_kept, State.finish_kept, State.finishAll_kept, State.countQuota_kept,
      State.dropJob_kept, foldl_kept, = kept_mk, = keptF_fold]

theorem State.readList_kept (j : Job) (i n : Nat) {s : State} (hs : Kept W a s) : Kept W a (State.readList j i n s) :=
    by
  grind [State.readList, State.argRead_kept, foldl_kept, = kept_mk, = keptF_fold]

theorem State.checkJob_kept (j : Job) {s : State} (hs : Kept W a s) : Kept W a (State.checkJob j s) := by
  grind (gen := 30) (ematch := 30) (splits := 30) [State.checkJob, State.updAdm_kept, State.finish_kept,
      State.finishAll_kept, State.dropJob_kept, countChecked_kept, State.checkedJob_kept, State.readList_kept,
      foldl_kept, = kept_mk, = keptF_fold]

theorem State.resumeChecks_kept {s : State} (hs : Kept W a s) : Kept W a (State.resumeChecks s) := by
  grind [State.resumeChecks, State.checkJob_kept, foldl_kept, = kept_mk, = keptF_fold]

theorem jobSubmitBody_kept (c : CmdId) (p : Nat) (e : Entry) {s : State} (hs : Kept W a s) : Kept W a (jobSubmitBody c
    p e s).1 := by
  grind [jobSubmitBody, State.updAdm_kept, countChecked_kept, State.readList_kept, State.checkJob_kept, foldl_kept, =
      kept_mk, = keptF_fold]

theorem specJobSubmit_kept {s : State} (hs : Kept W a s) (c : CmdId) (p : Nat) (e : Entry) : Kept W a
    (specJobSubmit.body c p e s).1 := by
  simp only [specJobSubmit]; grind [jobSubmitBody_kept, foldl_kept, = kept_mk, = keptF_fold]

theorem State.setBound_kept (p r : Nat) (v : W64) {s : State} (hs : Kept W a s) : Kept W a (State.setBound p r v s) :=
    by
  grind [State.setBound, State.updSeq_kept, foldl_kept, = kept_mk, = keptF_fold]

theorem boundSetBody_kept (x0 : CmdId) (p : Nat) (e : Entry) {s : State} (hs : Kept W a s) : Kept W a (boundSetBody x0
    p e s).1 := by
  grind [boundSetBody, State.setBound_kept, foldl_kept, = kept_mk, = keptF_fold]

theorem specBoundSet_kept {s : State} (hs : Kept W a s) (c : CmdId) (p : Nat) (e : Entry) : Kept W a
    (specBoundSet.body c p e s).1 := by
  simp only [specBoundSet]; grind [boundSetBody_kept, foldl_kept, = kept_mk, = keptF_fold]

theorem boundGetBody_kept (x0 : CmdId) (p : Nat) (e : Entry) {s : State} (hs : Kept W a s) : Kept W a (boundGetBody x0
    p e s).1 := by
  grind [boundGetBody, foldl_kept, = kept_mk, = keptF_fold]

theorem specBoundGet_kept {s : State} (hs : Kept W a s) (c : CmdId) (p : Nat) (e : Entry) : Kept W a
    (specBoundGet.body c p e s).1 := by
  simp only [specBoundGet]; grind [boundGetBody_kept, foldl_kept, = kept_mk, = keptF_fold]

theorem execJobSubmit_kept (m : Fin 18) (e : Entry) {s : State} (hs : Kept W a s) {t : State} (e_ : execJobSubmit m e
    s = .next t) : Kept W a t := by
  grind [execJobSubmit, serve_kept, specJobSubmit_kept, foldl_kept, = kept_mk, = keptF_fold]

theorem execBoundSet_kept (m : Fin 18) (e : Entry) {s : State} (hs : Kept W a s) {t : State} (e_ : execBoundSet m e s
    = .next t) : Kept W a t := by
  grind [execBoundSet, serve_kept, specBoundSet_kept, foldl_kept, = kept_mk, = keptF_fold]

theorem execBoundGet_kept (m : Fin 18) (e : Entry) {s : State} (hs : Kept W a s) {t : State} (e_ : execBoundGet m e s
    = .next t) : Kept W a t := by
  grind [execBoundGet, serve_kept, specBoundGet_kept, foldl_kept, = kept_mk, = keptF_fold]

end Sys2Proof.Machine
end

