-- ==== Sys2Proof/Laws/KeptMem.lean ====
section
/-! SUPPORT. One lemma for each operation of Machine/Mem.lean that gives a state: it keeps what `Kept` says. -/

namespace Sys2Proof.Machine

open Sys2Proof

/- In turn, not as parallel tasks: each task that waits for another holds a stack of its own. -/
set_option Elab.async false

variable {W : Prop} {a : State}

theorem State.dropEntries_kept (p : Nat) (vpns wins : List Nat) {s : State} (hs : Kept W a s) : Kept W a
    (State.dropEntries p vpns wins s) := by
  grind [State.dropEntries, State.updXlt_kept, foldl_kept, = kept_mk, = keptF_fold]

theorem State.shootdown_kept (p : Nat) (vpns wins : List Nat) (next : ShootThen) {s : State} (hs : Kept W a s) : Kept
    W a (State.shootdown p vpns wins next s) := by
  grind [State.shootdown, State.updXlt_kept, State.dropEntries_kept, foldl_kept, = kept_mk, = keptF_fold]

theorem State.unmapVpns_kept (p : Nat) (vpns : List Nat) {s : State} (hs : Kept W a s) : Kept W a (State.unmapVpns p
    vpns s) := by
  grind [State.unmapVpns, State.updXlt_kept, foldl_kept, = kept_mk, = keptF_fold]

theorem State.unmapWins_kept (p : Nat) (wins : List Nat) {s : State} (hs : Kept W a s) : Kept W a (State.unmapWins p
    wins s) := by
  grind [State.unmapWins, State.updXlt_kept, foldl_kept, = kept_mk, = keptF_fold]

theorem State.releasePages_kept (ppns : List Nat) {s : State} (hs : Kept W a s) : Kept W a (State.releasePages ppns s)
    := by
  grind [State.releasePages, State.updXlt_kept, State.log_kept, foldl_kept, = kept_mk, = keptF_fold]

theorem opPageScrubComplete_kept (ppn : Fin 384) {s : State} (hs : Kept W a s) : Kept W a (opPageScrubComplete ppn s)
    := by
  grind (gen := 30) (ematch := 30) (splits := 30) [opPageScrubComplete, State.updXlt_kept, keptF_dram, Memory.filter_ok,
      Kept.dram, foldl_kept, = kept_mk, = keptF_fold]

theorem State.endMembership_kept (id : BitVec 16) {s : State} (hs : Kept W a s) : Kept W a (State.endMembership id s)
    := by
  grind (gen := 30) (ematch := 30) (splits := 30) [State.endMembership, State.updPln_kept, State.updRed_kept,
      State.finishAll_kept, foldl_kept, = kept_mk, = keptF_fold]

theorem State.quitSpan_kept (id : BitVec 16) {s : State} (hs : Kept W a s) : Kept W a (State.quitSpan id s) := by
  grind [State.quitSpan, State.sendAll_kept, State.endMembership_kept, foldl_kept, = kept_mk, = keptF_fold]

theorem State.freeCtx_kept (p c : Nat) (ppns : List Nat) {s : State} (hs : Kept W a s) : Kept W a (State.freeCtx p c
    ppns s) := by
  grind [State.freeCtx, State.updCtx_kept, State.releasePages_kept, State.quitSpan_kept, foldl_kept, = kept_mk, =
      keptF_fold]

theorem State.scrubTillers_kept (rows : BitVec 16) {s : State} (hs : Kept W a s) : Kept W a (State.scrubTillers rows
    s) := by
  unfold State.scrubTillers
  refine State.updSeq_kept _ (State.updXlt_kept _ ?_)
  rw [kept_mk]
  exact keptF_spad hs (Memory.filter_ok hs.spad _)

theorem State.scrubRows_kept (p : Nat) (rows : BitVec 16) {s : State} (hs : Kept W a s) : Kept W a (State.scrubRows p
    rows s) := by
  grind [State.scrubRows, State.scrubTillers_kept, State.finish_kept, State.updSeq_kept, foldl_kept, = kept_mk, =
    keptF_fold]

theorem State.releasePartition_kept (p : Nat) (ppns : List Nat) {s : State} (hs : Kept W a s) : Kept W a
    (State.releasePartition p ppns s) := by
  grind (gen := 30) (ematch := 30) (splits := 30) [State.releasePartition, State.updPart_kept, State.updCtx_kept,
      State.updAdmp_kept, State.updPln_kept, State.releasePages_kept, State.quitSpan_kept, State.scrubRows_kept,
      foldl_kept, = kept_mk, = keptF_fold]

theorem opShootdownAcknowledge_kept (id : Nat) {s : State} (hs : Kept W a s) : Kept W a (opShootdownAcknowledge id s)
    := by
  grind [opShootdownAcknowledge, State.updXlt_kept, State.finish_kept, State.releasePages_kept, State.freeCtx_kept,
      State.releasePartition_kept, foldl_kept, = kept_mk, = keptF_fold]

theorem opTranslationCompletionReceive_kept (p : Fin 16) (req : Nat) (ok whole : Bool) (base : W64) (read write : Bool)
    {s : State} (hs : Kept W a s) : Kept W a (opTranslationCompletionReceive p req ok whole base read write s) := by
  grind [opTranslationCompletionReceive, State.updXlt_kept, State.emitPcie_kept, State.fill_kept,
      State.noteFetched_kept, State.killStart_kept, foldl_kept, = kept_mk, = keptF_fold]

theorem opInvalidateRequestReceive_kept (fn : Fin 17) (tag : Fin 32) (base len : W64) {s : State} (hs : Kept W a s) :
    Kept W a (opInvalidateRequestReceive fn tag base len s) := by
  grind [opInvalidateRequestReceive, State.updXlt_kept, foldl_kept, = kept_mk, = keptF_fold]

theorem opInvalidationComplete_kept (fn : Fin 17) (tag : Fin 32) {s : State} (hs : Kept W a s) : Kept W a
    (opInvalidationComplete fn tag s) := by
  grind [opInvalidationComplete, State.updXlt_kept, State.emitPcie_kept, foldl_kept, = kept_mk, = keptF_fold]

theorem opAtsEnableWrite_kept (fn : Fin 17) (on : Bool) {s : State} (hs : Kept W a s) : Kept W a (opAtsEnableWrite fn
    on s) := by
  grind [opAtsEnableWrite, State.updFn_kept, foldl_kept, = kept_mk, = keptF_fold]

theorem State.endKilled_kept (j : Job) (cause : Reason) {s : State} (hs : Kept W a s) : Kept W a (State.endKilled j
    cause s) := by
  grind [State.endKilled, State.endJob_kept, foldl_kept, = kept_mk, = keptF_fold]

theorem opKillComplete_kept (p : Fin 16) (c : Fin 64) {s : State} (hs : Kept W a s) : Kept W a (opKillComplete p c s)
    := by
  grind (gen := 30) (ematch := 30) (splits := 30) [opKillComplete, State.updCtx_kept, State.fireVec_kept,
      State.finishAll_kept, State.endKilled_kept, foldl_kept, = kept_mk, = keptF_fold]

theorem ctxCreateBody_kept (x0 : CmdId) (p : Nat) (e : Entry) {s : State} (hs : Kept W a s) : Kept W a (ctxCreateBody
    x0 p e s).1 := by
  grind [ctxCreateBody, State.updCtx_kept, foldl_kept, = kept_mk, = keptF_fold]

theorem specCtxCreate_kept {s : State} (hs : Kept W a s) (c : CmdId) (p : Nat) (e : Entry) : Kept W a
    (specCtxCreate.body c p e s).1 := by
  simp only [specCtxCreate]; grind [ctxCreateBody_kept, foldl_kept, = kept_mk, = keptF_fold]

theorem ctxDestroyBody_kept (c : CmdId) (p : Nat) (e : Entry) {s : State} (hs : Kept W a s) : Kept W a (ctxDestroyBody
    c p e s).1 := by
  grind [ctxDestroyBody, State.updCtx_kept, State.shootdown_kept, State.unmapVpns_kept, State.unmapWins_kept,
      foldl_kept, = kept_mk, = keptF_fold]

theorem specCtxDestroy_kept {s : State} (hs : Kept W a s) (c : CmdId) (p : Nat) (e : Entry) : Kept W a
    (specCtxDestroy.body c p e s).1 := by
  simp only [specCtxDestroy]; grind [ctxDestroyBody_kept, foldl_kept, = kept_mk, = keptF_fold]

theorem ctxKillBody_kept (c : CmdId) (p : Nat) (e : Entry) {s : State} (hs : Kept W a s) : Kept W a (ctxKillBody c p e
    s).1 := by
  grind [ctxKillBody, State.updCtx_kept, State.killCtx_kept, foldl_kept, = kept_mk, = keptF_fold]

theorem specCtxKill_kept {s : State} (hs : Kept W a s) (c : CmdId) (p : Nat) (e : Entry) : Kept W a (specCtxKill.body
    c p e s).1 := by
  simp only [specCtxKill]; grind [ctxKillBody_kept, foldl_kept, = kept_mk, = keptF_fold]

theorem specCtxQuery_kept {s : State} (hs : Kept W a s) (c : CmdId) (p : Nat) (e : Entry) : Kept W a
    (specCtxQuery.body c p e s).1 := by
  simp only [specCtxQuery]; grind [foldl_kept, = kept_mk, = keptF_fold]

theorem ctxPostmortemBody_kept (c : CmdId) (p : Nat) (e : Entry) {s : State} (hs : Kept W a s) : Kept W a
    (ctxPostmortemBody c p e s).1 := by
  grind [ctxPostmortemBody, State.updXlt_kept, State.shootdown_kept, foldl_kept, = kept_mk, = keptF_fold]

theorem specCtxPostmortem_kept {s : State} (hs : Kept W a s) (c : CmdId) (p : Nat) (e : Entry) : Kept W a
    (specCtxPostmortem.body c p e s).1 := by
  simp only [specCtxPostmortem]; grind [ctxPostmortemBody_kept, foldl_kept, = kept_mk, = keptF_fold]

theorem memAllocBody_kept (c : CmdId) (p : Nat) (e : Entry) {s : State} (hs : Kept W a s) : Kept W a (memAllocBody c p
    e s).1 := by
  grind [memAllocBody, State.updXlt_kept, foldl_kept, = kept_mk, = keptF_fold]

theorem specMemAlloc_kept {s : State} (hs : Kept W a s) (c : CmdId) (p : Nat) (e : Entry) : Kept W a
    (specMemAlloc.body c p e s).1 := by
  simp only [specMemAlloc]; grind [memAllocBody_kept, foldl_kept, = kept_mk, = keptF_fold]

theorem memFreeBody_kept (c : CmdId) (p : Nat) (e : Entry) {s : State} (hs : Kept W a s) : Kept W a (memFreeBody c p e
    s).1 := by
  grind [memFreeBody, State.shootdown_kept, State.unmapVpns_kept, foldl_kept, = kept_mk, = keptF_fold]

theorem specMemFree_kept {s : State} (hs : Kept W a s) (c : CmdId) (p : Nat) (e : Entry) : Kept W a (specMemFree.body
    c p e s).1 := by
  simp only [specMemFree]; grind [memFreeBody_kept, foldl_kept, = kept_mk, = keptF_fold]

theorem memMapHostBody_kept (c : CmdId) (p : Nat) (e : Entry) {s : State} (hs : Kept W a s) : Kept W a (memMapHostBody
    c p e s).1 := by
  grind [memMapHostBody, State.updXlt_kept, foldl_kept, = kept_mk, = keptF_fold]

theorem specMemMapHost_kept {s : State} (hs : Kept W a s) (c : CmdId) (p : Nat) (e : Entry) : Kept W a
    (specMemMapHost.body c p e s).1 := by
  simp only [specMemMapHost]; grind [memMapHostBody_kept, foldl_kept, = kept_mk, = keptF_fold]

theorem memUnmapHostBody_kept (c : CmdId) (p : Nat) (e : Entry) {s : State} (hs : Kept W a s) : Kept W a
    (memUnmapHostBody c p e s).1 := by
  grind [memUnmapHostBody, State.shootdown_kept, State.unmapWins_kept, foldl_kept, = kept_mk, = keptF_fold]

theorem specMemUnmapHost_kept {s : State} (hs : Kept W a s) (c : CmdId) (p : Nat) (e : Entry) : Kept W a
    (specMemUnmapHost.body c p e s).1 := by
  simp only [specMemUnmapHost]; grind [memUnmapHostBody_kept, foldl_kept, = kept_mk, = keptF_fold]

theorem specMemQuery_kept {s : State} (hs : Kept W a s) (c : CmdId) (p : Nat) (e : Entry) : Kept W a
    (specMemQuery.body c p e s).1 := by
  simp only [specMemQuery]; grind [foldl_kept, = kept_mk, = keptF_fold]

theorem execCtxPostmortem_kept (m : Fin 18) (e : Entry) {s : State} (hs : Kept W a s) {t : State} (e_ :
    execCtxPostmortem m e s = .next t) : Kept W a t := by
  grind [execCtxPostmortem, serve_kept, specCtxPostmortem_kept, foldl_kept, = kept_mk, = keptF_fold]

theorem execCtxPostmortemAdopt_kept (m : Fin 18) (e : Entry) {s : State} (hs : Kept W a s) {t : State} (e_ :
    execCtxPostmortemAdopt m e s = .next t) : Kept W a t := by
  grind [execCtxPostmortemAdopt, serve_kept, specCtxPostmortem_kept, foldl_kept, = kept_mk, = keptF_fold]

theorem execCtxCreate_kept (m : Fin 18) (e : Entry) {s : State} (hs : Kept W a s) {t : State} (e_ : execCtxCreate m e
    s = .next t) : Kept W a t := by
  grind [execCtxCreate, serve_kept, specCtxCreate_kept, foldl_kept, = kept_mk, = keptF_fold]

theorem execCtxDestroy_kept (m : Fin 18) (e : Entry) {s : State} (hs : Kept W a s) {t : State} (e_ : execCtxDestroy m
    e s = .next t) : Kept W a t := by
  grind [execCtxDestroy, serve_kept, specCtxDestroy_kept, foldl_kept, = kept_mk, = keptF_fold]

theorem execCtxKill_kept (m : Fin 18) (e : Entry) {s : State} (hs : Kept W a s) {t : State} (e_ : execCtxKill m e s =
    .next t) : Kept W a t := by
  grind [execCtxKill, serve_kept, specCtxKill_kept, foldl_kept, = kept_mk, = keptF_fold]

theorem execCtxQuery_kept (m : Fin 18) (e : Entry) {s : State} (hs : Kept W a s) {t : State} (e_ : execCtxQuery m e s
    = .next t) : Kept W a t := by
  grind [execCtxQuery, serve_kept, specCtxQuery_kept, foldl_kept, = kept_mk, = keptF_fold]

theorem execMemAlloc_kept (m : Fin 18) (e : Entry) {s : State} (hs : Kept W a s) {t : State} (e_ : execMemAlloc m e s
    = .next t) : Kept W a t := by
  grind [execMemAlloc, serve_kept, specMemAlloc_kept, foldl_kept, = kept_mk, = keptF_fold]

theorem execMemFree_kept (m : Fin 18) (e : Entry) {s : State} (hs : Kept W a s) {t : State} (e_ : execMemFree m e s =
    .next t) : Kept W a t := by
  grind [execMemFree, serve_kept, specMemFree_kept, foldl_kept, = kept_mk, = keptF_fold]

theorem execMemMapHost_kept (m : Fin 18) (e : Entry) {s : State} (hs : Kept W a s) {t : State} (e_ : execMemMapHost m
    e s = .next t) : Kept W a t := by
  grind [execMemMapHost, serve_kept, specMemMapHost_kept, foldl_kept, = kept_mk, = keptF_fold]

theorem execMemUnmapHost_kept (m : Fin 18) (e : Entry) {s : State} (hs : Kept W a s) {t : State} (e_ :
    execMemUnmapHost m e s = .next t) : Kept W a t := by
  grind [execMemUnmapHost, serve_kept, specMemUnmapHost_kept, foldl_kept, = kept_mk, = keptF_fold]

theorem execMemQuery_kept (m : Fin 18) (e : Entry) {s : State} (hs : Kept W a s) {t : State} (e_ : execMemQuery m e s
    = .next t) : Kept W a t := by
  grind [execMemQuery, serve_kept, specMemQuery_kept, foldl_kept, = kept_mk, = keptF_fold]

theorem execAtsEnableWrite_kept (fn : Fin 17) (on : Bool) {s : State} (hs : Kept W a s) {t : State} (e_ :
    execAtsEnableWrite fn on s = .next t) : Kept W a t := by
  grind [execAtsEnableWrite, State.whenPcie_kept, opAtsEnableWrite_kept, foldl_kept, = kept_mk, = keptF_fold]

theorem execKillComplete_kept (p : Fin 16) (c : Fin 64) {s : State} (hs : Kept W a s) {t : State} (e_ :
    execKillComplete p c s = .next t) : Kept W a t := by
  grind [execKillComplete, State.whenClocked_kept, opKillComplete_kept, foldl_kept, = kept_mk, = keptF_fold]

theorem execTranslationCompletionReceive_kept (p : Fin 16) (req : Nat) (ok : Bool) (whole : Bool) (base : W64) (read :
    Bool) (write : Bool) {s : State} (hs : Kept W a s) {t : State} (e_ : execTranslationCompletionReceive p req ok
    whole base read write s = .next t) : Kept W a t := by
  grind [execTranslationCompletionReceive, State.whenPcie_kept, opTranslationCompletionReceive_kept, foldl_kept, =
      kept_mk, = keptF_fold]

theorem execInvalidateRequestReceive_kept (fn : Fin 17) (tag : Fin 32) (base : W64) (len : W64) {s : State} (hs : Kept
    W a s) {t : State} (e_ : execInvalidateRequestReceive fn tag base len s = .next t) : Kept W a t := by
  grind [execInvalidateRequestReceive, State.whenPcie_kept, opInvalidateRequestReceive_kept, foldl_kept, = kept_mk, =
      keptF_fold]

theorem execInvalidationComplete_kept (inv : Fin 17 × Fin 32) {s : State} (hs : Kept W a s) {t : State} (e_ :
    execInvalidationComplete inv s = .next t) : Kept W a t := by
  grind [execInvalidationComplete, State.whenClocked_kept, opInvalidationComplete_kept, foldl_kept, = kept_mk, =
      keptF_fold]

theorem execShootdownAcknowledge_kept (id : Nat) {s : State} (hs : Kept W a s) {t : State} (e_ :
    execShootdownAcknowledge id s = .next t) : Kept W a t := by
  grind [execShootdownAcknowledge, State.whenClocked_kept, opShootdownAcknowledge_kept, foldl_kept, = kept_mk, =
      keptF_fold]

theorem execPageScrubComplete_kept (ppn : Fin 384) {s : State} (hs : Kept W a s) {t : State} (e_ :
    execPageScrubComplete ppn s = .next t) : Kept W a t := by
  grind [execPageScrubComplete, State.whenClocked_kept, opPageScrubComplete_kept, foldl_kept, = kept_mk, = keptF_fold]

end Sys2Proof.Machine
end

