-- ==== Sys2Proof/Laws/KeptKv.lean ====
section
/-! SUPPORT. One lemma for each operation of Machine/Kv.lean that gives a state: it keeps what `Kept` says. -/

namespace Sys2Proof.Machine

open Sys2Proof

/- In turn, not as parallel tasks: each task that waits for another holds a stack of its own. -/
set_option Elab.async false

variable {W : Prop} {a : State}

theorem State.setPool_kept (p : Nat) (k : KvPool) {s : State} (hs : Kept W a s) : Kept W a (State.setPool p k s) := by
  grind [State.setPool, foldl_kept, = kept_mk, = keptF_fold]

theorem kvAllocPool_kept (x0 : CmdId) (p : Nat) (e : Entry) {s : State} (hs : Kept W a s) : Kept W a (kvAllocPool x0 p
    e s).1 := by
  unfold kvAllocPool
  try dsimp only
  (repeat' split) <;> grind (gen := 30) (ematch := 30) (splits := 30) [State.updXlt_kept, State.setPool_kept,
      keptF_free, foldl_kept, = kept_mk, = keptF_fold]

theorem kvAllocFresh_kept (c : CmdId) (p : Nat) (e : Entry) (k : KvPool) {s : State} (hs : Kept W a s) : Kept W a
    (kvAllocFresh c p e k s).1 := by
  grind [kvAllocFresh, State.writeArg_kept, State.setPool_kept, keptF_free, foldl_kept, = kept_mk, = keptF_fold]

theorem kvAllocShare_kept (x0 : CmdId) (p : Nat) (e : Entry) (k : KvPool) {s : State} (hs : Kept W a s) : Kept W a
    (kvAllocShare x0 p e k s).1 := by
  grind [kvAllocShare, State.setPool_kept, foldl_kept, = kept_mk, = keptF_fold]

theorem kvAllocWrite_kept (c : CmdId) (p : Nat) (e : Entry) (k : KvPool) {s : State} (hs : Kept W a s) : Kept W a
    (kvAllocWrite c p e k s).1 := by
  grind (gen := 30) (ematch := 30) (splits := 30) [kvAllocWrite, State.updAdm_kept, State.setPool_kept, keptF_free,
      foldl_kept, = kept_mk, = keptF_fold]

theorem State.copyDone_kept (p : Nat) (y : KvCopy) {s : State} (hs : Kept W a s) : Kept W a (State.copyDone p y s) :=
    by
  grind [State.copyDone, State.finish_kept, State.setPool_kept, foldl_kept, = kept_mk, = keptF_fold]

theorem withPool_kept (f : CmdId → Nat → Entry → KvPool → State → State × Reply) (c : CmdId) (p : Nat) (e : Entry) {s
    : State} (hf : ∀ y0 y1 y2 y3 y4, Kept W a y4 → Kept W a (f y0 y1 y2 y3 y4).1) (hs : Kept W a s) : Kept W a
    (withPool f c p e s).1 := by
  grind [withPool, foldl_kept, = kept_mk, = keptF_fold]

theorem kvAllocBody_kept (c : CmdId) (p : Nat) (e : Entry) {s : State} (hs : Kept W a s) : Kept W a (kvAllocBody c p e
    s).1 := by
  grind [kvAllocBody, kvAllocPool_kept, kvAllocFresh_kept, kvAllocShare_kept, kvAllocWrite_kept, withPool_kept,
      foldl_kept, = kept_mk, = keptF_fold]

theorem specKvAlloc_kept {s : State} (hs : Kept W a s) (c : CmdId) (p : Nat) (e : Entry) : Kept W a (specKvAlloc.body
    c p e s).1 := by
  simp only [specKvAlloc]; grind [kvAllocBody_kept, foldl_kept, = kept_mk, = keptF_fold]

theorem kvReleaseBlock_kept (e : Entry) (p : Nat) (k : KvPool) {s : State} (hs : Kept W a s) : Kept W a
    (kvReleaseBlock e p k s).1 := by
  grind [kvReleaseBlock, State.setPool_kept, foldl_kept, = kept_mk, = keptF_fold]

theorem kvReleasePoolBody_kept (p : Nat) (k : KvPool) {s : State} (hs : Kept W a s) : Kept W a (kvReleasePoolBody p k
    s).1 := by
  grind [kvReleasePoolBody, State.releasePages_kept, foldl_kept, = kept_mk, = keptF_fold]

theorem specKvRelease_kept {s : State} (hs : Kept W a s) (c : CmdId) (p : Nat) (e : Entry) : Kept W a
    (specKvRelease.body c p e s).1 := by
  simp only [specKvRelease]; grind [withPool_kept, kvReleaseBlock_kept, kvReleasePoolBody_kept, foldl_kept, = kept_mk, =
      keptF_fold]

theorem kvInsertBody_kept (c : CmdId) (p : Nat) (e : Entry) (k : KvPool) {s : State} (hs : Kept W a s) : Kept W a
    (kvInsertBody c p e k s).1 := by
  grind (gen := 30) (ematch := 30) (splits := 30) [kvInsertBody, State.takeArg_kept, State.setPool_kept, foldl_kept, =
      kept_mk, = keptF_fold]

theorem specKvInsert_kept {s : State} (hs : Kept W a s) (c : CmdId) (p : Nat) (e : Entry) : Kept W a
    (specKvInsert.body c p e s).1 := by
  simp only [specKvInsert]; grind [withPool_kept, kvInsertBody_kept, foldl_kept, = kept_mk, = keptF_fold]

theorem kvLookupBody_kept (c : CmdId) (p : Nat) (e : Entry) (k : KvPool) {s : State} (hs : Kept W a s) : Kept W a
    (kvLookupBody c p e k s).1 := by
  grind [kvLookupBody, State.takeArg_kept, foldl_kept, = kept_mk, = keptF_fold]

theorem specKvLookup_kept {s : State} (hs : Kept W a s) (c : CmdId) (p : Nat) (e : Entry) : Kept W a
    (specKvLookup.body c p e s).1 := by
  simp only [specKvLookup]; grind [withPool_kept, kvLookupBody_kept, foldl_kept, = kept_mk, = keptF_fold]

theorem kvEvictBody_kept (x0 : CmdId) (p : Nat) (e : Entry) (k : KvPool) {s : State} (hs : Kept W a s) : Kept W a
    (kvEvictBody x0 p e k s).1 := by
  grind [kvEvictBody, State.setPool_kept, foldl_kept, = kept_mk, = keptF_fold]

theorem specKvEvict_kept {s : State} (hs : Kept W a s) (c : CmdId) (p : Nat) (e : Entry) : Kept W a (specKvEvict.body
    c p e s).1 := by
  simp only [specKvEvict]; grind [withPool_kept, kvEvictBody_kept, foldl_kept, = kept_mk, = keptF_fold]

theorem kvQueryBody_kept (x0 : CmdId) (p : Nat) (e : Entry) {s : State} (hs : Kept W a s) : Kept W a (kvQueryBody x0 p
    e s).1 := by
  grind [kvQueryBody, foldl_kept, = kept_mk, = keptF_fold]

theorem specKvQuery_kept {s : State} (hs : Kept W a s) (c : CmdId) (p : Nat) (e : Entry) : Kept W a (specKvQuery.body
    c p e s).1 := by
  simp only [specKvQuery]; grind [kvQueryBody_kept, foldl_kept, = kept_mk, = keptF_fold]

theorem execKvAllocPool_kept (m : Fin 18) (e : Entry) {s : State} (hs : Kept W a s) {t : State} (e_ : execKvAllocPool
    m e s = .next t) : Kept W a t := by
  grind [execKvAllocPool, serve_kept, specKvAlloc_kept, foldl_kept, = kept_mk, = keptF_fold]

theorem execKvAllocFresh_kept (m : Fin 18) (e : Entry) {s : State} (hs : Kept W a s) {t : State} (e_ :
    execKvAllocFresh m e s = .next t) : Kept W a t := by
  grind [execKvAllocFresh, serve_kept, specKvAlloc_kept, foldl_kept, = kept_mk, = keptF_fold]

theorem execKvAllocShare_kept (m : Fin 18) (e : Entry) {s : State} (hs : Kept W a s) {t : State} (e_ :
    execKvAllocShare m e s = .next t) : Kept W a t := by
  grind [execKvAllocShare, serve_kept, specKvAlloc_kept, foldl_kept, = kept_mk, = keptF_fold]

theorem execKvAllocWrite_kept (m : Fin 18) (e : Entry) {s : State} (hs : Kept W a s) {t : State} (e_ :
    execKvAllocWrite m e s = .next t) : Kept W a t := by
  grind [execKvAllocWrite, serve_kept, specKvAlloc_kept, foldl_kept, = kept_mk, = keptF_fold]

theorem execKvRelease_kept (m : Fin 18) (e : Entry) {s : State} (hs : Kept W a s) {t : State} (e_ : execKvRelease m e
    s = .next t) : Kept W a t := by
  grind [execKvRelease, serve_kept, specKvRelease_kept, foldl_kept, = kept_mk, = keptF_fold]

theorem execKvReleasePool_kept (m : Fin 18) (e : Entry) {s : State} (hs : Kept W a s) {t : State} (e_ :
    execKvReleasePool m e s = .next t) : Kept W a t := by
  grind [execKvReleasePool, serve_kept, specKvRelease_kept, foldl_kept, = kept_mk, = keptF_fold]

theorem execKvEvictSubtree_kept (m : Fin 18) (e : Entry) {s : State} (hs : Kept W a s) {t : State} (e_ :
    execKvEvictSubtree m e s = .next t) : Kept W a t := by
  grind [execKvEvictSubtree, serve_kept, specKvEvict_kept, foldl_kept, = kept_mk, = keptF_fold]

theorem execKvEvictOldest_kept (m : Fin 18) (e : Entry) {s : State} (hs : Kept W a s) {t : State} (e_ :
    execKvEvictOldest m e s = .next t) : Kept W a t := by
  grind [execKvEvictOldest, serve_kept, specKvEvict_kept, foldl_kept, = kept_mk, = keptF_fold]

theorem execKvEvictAll_kept (m : Fin 18) (e : Entry) {s : State} (hs : Kept W a s) {t : State} (e_ : execKvEvictAll m
    e s = .next t) : Kept W a t := by
  grind [execKvEvictAll, serve_kept, specKvEvict_kept, foldl_kept, = kept_mk, = keptF_fold]

theorem execKvInsert_kept (m : Fin 18) (e : Entry) {s : State} (hs : Kept W a s) {t : State} (e_ : execKvInsert m e s
    = .next t) : Kept W a t := by
  grind [execKvInsert, serve_kept, specKvInsert_kept, foldl_kept, = kept_mk, = keptF_fold]

theorem execKvLookup_kept (m : Fin 18) (e : Entry) {s : State} (hs : Kept W a s) {t : State} (e_ : execKvLookup m e s
    = .next t) : Kept W a t := by
  grind [execKvLookup, serve_kept, specKvLookup_kept, foldl_kept, = kept_mk, = keptF_fold]

theorem execKvQuery_kept (m : Fin 18) (e : Entry) {s : State} (hs : Kept W a s) {t : State} (e_ : execKvQuery m e s =
    .next t) : Kept W a t := by
  grind [execKvQuery, serve_kept, specKvQuery_kept, foldl_kept, = kept_mk, = keptF_fold]

end Sys2Proof.Machine
end

