-- ==== Sys2Proof/Laws/KeptPart.lean ====
section
/-! SUPPORT. One lemma for each operation of Machine/Part.lean that gives a state: it keeps what `Kept` says. -/

namespace Sys2Proof.Machine

open Sys2Proof

/- In turn, not as parallel tasks: each task that waits for another holds a stack of its own. -/
set_option Elab.async false

variable {W : Prop} {a : State}

theorem State.enterState_kept (p : Nat) (st : PState) {s : State} (hs : Kept W a s) : Kept W a (State.enterState p st
    s) := by
  grind [State.enterState, State.updPart_kept, State.finish_kept, State.setPart_kept, foldl_kept, = kept_mk, =
      keptF_fold]

theorem State.startTeardown_kept (p : Nat) {s : State} (hs : Kept W a s) : Kept W a (State.startTeardown p s) := by
  grind [State.startTeardown, State.updPart_kept, State.setPart_kept, State.killAll_kept, State.refuseWaiting_kept,
      foldl_kept, = kept_mk, = keptF_fold]

theorem State.endReset_kept (p : Nat) {s : State} (hs : Kept W a s) : Kept W a (State.endReset p s) := by
  grind (gen := 30) (ematch := 30) (splits := 30) [State.endReset, State.updPart_kept, State.updFrmp_kept,
      State.updAdmp_kept, State.updSeq_kept, State.finishAll_kept, State.takeFree_kept, State.trimCache_kept,
      State.scrubTillers_kept, State.enterState_kept, keptF_spad, Memory.filter_ok, Kept.spad, foldl_kept, = kept_mk,
      = keptF_fold]

theorem State.partCommit_kept (p : Nat) {s : State} (hs : Kept W a s) : Kept W a (State.partCommit p s) := by
  grind [State.partCommit, State.updPart_kept, State.finish_kept, State.setPart_kept, State.enterState_kept,
      State.startTeardown_kept, State.endReset_kept, foldl_kept, = kept_mk, = keptF_fold]

theorem opTeardownRelease_kept (p : Fin 16) {s : State} (hs : Kept W a s) : Kept W a (opTeardownRelease p s) := by
  grind (gen := 30) (ematch := 30) (splits := 30) [opTeardownRelease, State.updRed_kept, State.finishAll_kept,
      State.shootdown_kept, State.unmapVpns_kept, State.unmapWins_kept, foldl_kept, = kept_mk, = keptF_fold]

theorem State.loadBuiltins_kept (rows : BitVec 16) {s : State} (hs : Kept W a s) : Kept W a (State.loadBuiltins rows
    s) := by
  grind [State.loadBuiltins, foldl_kept, = kept_mk, = keptF_fold]

theorem partCreateBody_kept (c : CmdId) (p : Nat) (e : Entry) {s : State} (hs : Kept W a s) : Kept W a (partCreateBody
    c p e s).1 := by
  grind [partCreateBody, State.updPart_kept, State.updCtx_kept, State.updAdmp_kept, State.updPwrp_kept,
      State.updPln_kept, State.loadBuiltins_kept, foldl_kept, = kept_mk, = keptF_fold]

theorem specPartCreate_kept {s : State} (hs : Kept W a s) (c : CmdId) (p : Nat) (e : Entry) : Kept W a
    (specPartCreate.body c p e s).1 := by
  simp only [specPartCreate]; grind [partCreateBody_kept, foldl_kept, = kept_mk, = keptF_fold]

theorem startNow_kept (c : CmdId) (p : Nat) (start : Bool) {s : State} (hs : Kept W a s) : Kept W a (startNow c p
    start s).1 := by
  grind [startNow, State.updPart_kept, foldl_kept, = kept_mk, = keptF_fold]

theorem startBody_kept (start : Bool) (c : CmdId) (p : Nat) (x0 : Entry) {s : State} (hs : Kept W a s) : Kept W a
    (startBody start c p x0 s).1 := by
  grind [startBody, State.updAdm_kept, State.stage_kept, startNow_kept, foldl_kept, = kept_mk, = keptF_fold]

theorem State.releaseOne_kept (h : CmdId × Nat × Bool) {s : State} (hs : Kept W a s) : Kept W a (State.releaseOne h s)
    := by
  grind [State.releaseOne, State.stage_kept, State.finish_kept, startNow_kept, foldl_kept, = kept_mk, = keptF_fold]

theorem State.releaseHeld_kept {s : State} (hs : Kept W a s) : Kept W a (State.releaseHeld s) := by
  grind [State.releaseHeld, State.updAdm_kept, State.releaseOne_kept, foldl_kept, = kept_mk, = keptF_fold]

theorem specPartStart_kept {s : State} (hs : Kept W a s) (c : CmdId) (p : Nat) (e : Entry) : Kept W a
    (specPartStart.body c p e s).1 := by
  simp only [specPartStart]; grind [startBody_kept, foldl_kept, = kept_mk, = keptF_fold]

theorem specPartResume_kept {s : State} (hs : Kept W a s) (c : CmdId) (p : Nat) (e : Entry) : Kept W a
    (specPartResume.body c p e s).1 := by
  simp only [specPartResume]; grind [startBody_kept, foldl_kept, = kept_mk, = keptF_fold]

theorem partFenceBody_kept (c : CmdId) (p : Nat) (x0 : Entry) {s : State} (hs : Kept W a s) : Kept W a (partFenceBody
    c p x0 s).1 := by
  grind [partFenceBody, State.updPart_kept, foldl_kept, = kept_mk, = keptF_fold]

theorem specPartFence_kept {s : State} (hs : Kept W a s) (c : CmdId) (p : Nat) (e : Entry) : Kept W a
    (specPartFence.body c p e s).1 := by
  simp only [specPartFence]; grind [partFenceBody_kept, foldl_kept, = kept_mk, = keptF_fold]

theorem State.rewindCopies_kept (p : Nat) {s : State} (hs : Kept W a s) : Kept W a (State.rewindCopies p s) := by
  grind [State.rewindCopies, State.updCopies_kept, State.stopOp_kept, foldl_kept, = kept_mk, = keptF_fold]

theorem State.resetJob_kept (j : Job) {s : State} (hs : Kept W a s) : Kept W a (State.resetJob j s) := by
  grind [State.resetJob, State.decideJob_kept, State.endJob_kept, State.endIfDrained_kept, foldl_kept, = kept_mk, =
      keptF_fold]

theorem State.resetReductions_kept (p : Nat) {s : State} (hs : Kept W a s) : Kept W a (State.resetReductions p s) :=
    by
  grind [State.resetReductions, State.updRed_kept, foldl_kept, = kept_mk, = keptF_fold]

theorem partResetBody_kept (c : CmdId) (p : Nat) (x0 : Entry) {s : State} (hs : Kept W a s) : Kept W a (partResetBody
    c p x0 s).1 := by
  grind (gen := 30) (ematch := 30) (splits := 30) [partResetBody, State.updPart_kept, State.updAdm_kept,
      State.finishAll_kept, State.rewindCopies_kept, State.resetJob_kept, State.resetReductions_kept, foldl_kept, =
      kept_mk, = keptF_fold]

theorem specPartReset_kept {s : State} (hs : Kept W a s) (c : CmdId) (p : Nat) (e : Entry) : Kept W a
    (specPartReset.body c p e s).1 := by
  simp only [specPartReset]; grind [partResetBody_kept, foldl_kept, = kept_mk, = keptF_fold]

theorem partTeardownBody_kept (c : CmdId) (p : Nat) (x0 : Entry) {s : State} (hs : Kept W a s) : Kept W a
    (partTeardownBody c p x0 s).1 := by
  grind [partTeardownBody, State.updPart_kept, State.startTeardown_kept, foldl_kept, = kept_mk, = keptF_fold]

theorem specPartTeardown_kept {s : State} (hs : Kept W a s) (c : CmdId) (p : Nat) (e : Entry) : Kept W a
    (specPartTeardown.body c p e s).1 := by
  simp only [specPartTeardown]; grind [partTeardownBody_kept, foldl_kept, = kept_mk, = keptF_fold]

theorem specPartQuery_kept {s : State} (hs : Kept W a s) (c : CmdId) (p : Nat) (e : Entry) : Kept W a
    (specPartQuery.body c p e s).1 := by
  simp only [specPartQuery]; grind [foldl_kept, = kept_mk, = keptF_fold]

theorem spanCreateBody_kept (c : CmdId) (p : Nat) (e : Entry) {s : State} (hs : Kept W a s) : Kept W a (spanCreateBody
    c p e s).1 := by
  grind [spanCreateBody, State.updPln_kept, State.takeArg_kept, foldl_kept, = kept_mk, = keptF_fold]

theorem specSpanCreate_kept {s : State} (hs : Kept W a s) (c : CmdId) (p : Nat) (e : Entry) : Kept W a
    (specSpanCreate.body c p e s).1 := by
  simp only [specSpanCreate]; grind [spanCreateBody_kept, foldl_kept, = kept_mk, = keptF_fold]

theorem State.tellPorts_kept (lead : Nat) {s : State} (hs : Kept W a s) : Kept W a (State.tellPorts lead s) := by
  grind [State.tellPorts, State.send_kept, foldl_kept, = kept_mk, = keptF_fold]

theorem spanJoinBody_kept (c : CmdId) (p : Nat) (e : Entry) {s : State} (hs : Kept W a s) : Kept W a (spanJoinBody c p
    e s).1 := by
  grind [spanJoinBody, State.send_kept, State.tellPorts_kept, foldl_kept, = kept_mk, = keptF_fold]

theorem specSpanJoin_kept {s : State} (hs : Kept W a s) (c : CmdId) (p : Nat) (e : Entry) : Kept W a
    (specSpanJoin.body c p e s).1 := by
  simp only [specSpanJoin]; grind [spanJoinBody_kept, foldl_kept, = kept_mk, = keptF_fold]

theorem State.spanBecomesActive_kept (id : BitVec 16) (ring : List Nat) {s : State} (hs : Kept W a s) : Kept W a
    (State.spanBecomesActive id ring s) := by
  grind [State.spanBecomesActive, State.finish_kept, State.updSpan_kept, foldl_kept, = kept_mk, = keptF_fold]

theorem opJoinFlitReceive_kept (span : BitVec 16) (pkg : Fin 128) (shares : BitVec 32) {s : State} (hs : Kept W a s) :
    Kept W a (opJoinFlitReceive span pkg shares s) := by
  grind [opJoinFlitReceive, State.send_kept, State.sendAll_kept, State.updSpan_kept, State.updLead_kept,
      State.spanBecomesActive_kept, foldl_kept, = kept_mk, = keptF_fold]

theorem opSpanActiveReceive_kept (span : BitVec 16) (ring : List Nat) {s : State} (hs : Kept W a s) : Kept W a
    (opSpanActiveReceive span ring s) := by
  grind [opSpanActiveReceive, State.updSpan_kept, State.spanBecomesActive_kept, foldl_kept, = kept_mk, = keptF_fold]

theorem State.spanFails_kept (id : BitVec 16) (rs : Reason) (missing : Nat) {s : State} (hs : Kept W a s) : Kept W a
    (State.spanFails id rs missing s) := by
  grind [State.spanFails, State.finishAll_kept, State.updSpan_kept, State.endMembership_kept, foldl_kept, = kept_mk, =
      keptF_fold]

theorem opSpanFormingTimeout_kept (span : BitVec 16) {s : State} (hs : Kept W a s) : Kept W a (opSpanFormingTimeout
    span s) := by
  grind [opSpanFormingTimeout, State.takeFree_kept, State.sendAll_kept, State.spanFails_kept, foldl_kept, = kept_mk, =
      keptF_fold]

theorem State.answerLeave_kept (id : BitVec 16) (pkg : Nat) {s : State} (hs : Kept W a s) : Kept W a
    (State.answerLeave id pkg s) := by
  grind [State.answerLeave, State.send_kept, State.sendAll_kept, State.updSpan_kept, State.updLead_kept, foldl_kept, =
      kept_mk, = keptF_fold]

theorem State.takeLeaveReply_kept (id : BitVec 16) (ok : Bool) {s : State} (hs : Kept W a s) : Kept W a
    (State.takeLeaveReply id ok s) := by
  grind [State.takeLeaveReply, State.finishAll_kept, State.updSpan_kept, foldl_kept, = kept_mk, = keptF_fold]

theorem spanLeaveBody_kept (c : CmdId) (p : Nat) (e : Entry) {s : State} (hs : Kept W a s) : Kept W a (spanLeaveBody c
    p e s).1 := by
  grind [spanLeaveBody, State.send_kept, State.updSpan_kept, foldl_kept, = kept_mk, = keptF_fold]

theorem specSpanLeave_kept {s : State} (hs : Kept W a s) (c : CmdId) (p : Nat) (e : Entry) : Kept W a
    (specSpanLeave.body c p e s).1 := by
  simp only [specSpanLeave]; grind [spanLeaveBody_kept, foldl_kept, = kept_mk, = keptF_fold]

theorem spanDestroyBody_kept (c : CmdId) (p : Nat) (e : Entry) {s : State} (hs : Kept W a s) : Kept W a
    (spanDestroyBody c p e s).1 := by
  grind [spanDestroyBody, State.sendAll_kept, State.updSpan_kept, foldl_kept, = kept_mk, = keptF_fold]

theorem specSpanDestroy_kept {s : State} (hs : Kept W a s) (c : CmdId) (p : Nat) (e : Entry) : Kept W a
    (specSpanDestroy.body c p e s).1 := by
  simp only [specSpanDestroy]; grind [spanDestroyBody_kept, foldl_kept, = kept_mk, = keptF_fold]

theorem opSpanEndReceive_kept (span : BitVec 16) {s : State} (hs : Kept W a s) : Kept W a (opSpanEndReceive span s) :=
    by
  grind [opSpanEndReceive, State.updSpan_kept, foldl_kept, = kept_mk, = keptF_fold]

theorem spanQueryBody_kept (c : CmdId) (p : Nat) (e : Entry) {s : State} (hs : Kept W a s) : Kept W a (spanQueryBody c
    p e s).1 := by
  grind [spanQueryBody, State.writeArg_kept, foldl_kept, = kept_mk, = keptF_fold]

theorem specSpanQuery_kept {s : State} (hs : Kept W a s) (c : CmdId) (p : Nat) (e : Entry) : Kept W a
    (specSpanQuery.body c p e s).1 := by
  simp only [specSpanQuery]; grind [spanQueryBody_kept, foldl_kept, = kept_mk, = keptF_fold]

theorem State.spanCommit_kept {s : State} (hs : Kept W a s) : Kept W a (State.spanCommit s) := by
  grind [State.spanCommit, State.endMembership_kept, foldl_kept, = kept_mk, = keptF_fold]

theorem execPartCreate_kept (m : Fin 18) (e : Entry) {s : State} (hs : Kept W a s) {t : State} (e_ : execPartCreate m
    e s = .next t) : Kept W a t := by
  grind [execPartCreate, serve_kept, specPartCreate_kept, foldl_kept, = kept_mk, = keptF_fold]

theorem execPartStart_kept (m : Fin 18) (e : Entry) {s : State} (hs : Kept W a s) {t : State} (e_ : execPartStart m e
    s = .next t) : Kept W a t := by
  grind [execPartStart, serve_kept, specPartStart_kept, foldl_kept, = kept_mk, = keptF_fold]

theorem execPartFence_kept (m : Fin 18) (e : Entry) {s : State} (hs : Kept W a s) {t : State} (e_ : execPartFence m e
    s = .next t) : Kept W a t := by
  grind [execPartFence, serve_kept, specPartFence_kept, foldl_kept, = kept_mk, = keptF_fold]

theorem execPartResume_kept (m : Fin 18) (e : Entry) {s : State} (hs : Kept W a s) {t : State} (e_ : execPartResume m
    e s = .next t) : Kept W a t := by
  grind [execPartResume, serve_kept, specPartResume_kept, foldl_kept, = kept_mk, = keptF_fold]

theorem execPartReset_kept (m : Fin 18) (e : Entry) {s : State} (hs : Kept W a s) {t : State} (e_ : execPartReset m e
    s = .next t) : Kept W a t := by
  grind [execPartReset, serve_kept, specPartReset_kept, foldl_kept, = kept_mk, = keptF_fold]

theorem execPartTeardown_kept (m : Fin 18) (e : Entry) {s : State} (hs : Kept W a s) {t : State} (e_ :
    execPartTeardown m e s = .next t) : Kept W a t := by
  grind [execPartTeardown, serve_kept, specPartTeardown_kept, foldl_kept, = kept_mk, = keptF_fold]

theorem execPartQuery_kept (m : Fin 18) (e : Entry) {s : State} (hs : Kept W a s) {t : State} (e_ : execPartQuery m e
    s = .next t) : Kept W a t := by
  grind [execPartQuery, serve_kept, specPartQuery_kept, foldl_kept, = kept_mk, = keptF_fold]

theorem execSpanCreate_kept (m : Fin 18) (e : Entry) {s : State} (hs : Kept W a s) {t : State} (e_ : execSpanCreate m
    e s = .next t) : Kept W a t := by
  grind [execSpanCreate, serve_kept, specSpanCreate_kept, foldl_kept, = kept_mk, = keptF_fold]

theorem execSpanJoin_kept (m : Fin 18) (e : Entry) {s : State} (hs : Kept W a s) {t : State} (e_ : execSpanJoin m e s
    = .next t) : Kept W a t := by
  grind [execSpanJoin, serve_kept, specSpanJoin_kept, foldl_kept, = kept_mk, = keptF_fold]

theorem execSpanLeave_kept (m : Fin 18) (e : Entry) {s : State} (hs : Kept W a s) {t : State} (e_ : execSpanLeave m e
    s = .next t) : Kept W a t := by
  grind [execSpanLeave, serve_kept, specSpanLeave_kept, foldl_kept, = kept_mk, = keptF_fold]

theorem execSpanDestroy_kept (m : Fin 18) (e : Entry) {s : State} (hs : Kept W a s) {t : State} (e_ : execSpanDestroy
    m e s = .next t) : Kept W a t := by
  grind [execSpanDestroy, serve_kept, specSpanDestroy_kept, foldl_kept, = kept_mk, = keptF_fold]

theorem execSpanQuery_kept (m : Fin 18) (e : Entry) {s : State} (hs : Kept W a s) {t : State} (e_ : execSpanQuery m e
    s = .next t) : Kept W a t := by
  grind [execSpanQuery, serve_kept, specSpanQuery_kept, foldl_kept, = kept_mk, = keptF_fold]

theorem execTeardownRelease_kept (p : Fin 16) {s : State} (hs : Kept W a s) {t : State} (e_ : execTeardownRelease p s
    = .next t) : Kept W a t := by
  grind [execTeardownRelease, State.whenClocked_kept, opTeardownRelease_kept, foldl_kept, = kept_mk, = keptF_fold]

theorem execJoinFlitReceive_kept (span : BitVec 16) (pkg : Fin 128) (shares : BitVec 32) {s : State} (hs : Kept W a s)
    {t : State} (e_ : execJoinFlitReceive span pkg shares s = .next t) : Kept W a t := by
  grind [execJoinFlitReceive, State.whenClocked_kept, State.toChoesk_kept, opJoinFlitReceive_kept, foldl_kept, =
      kept_mk, = keptF_fold]

theorem execSpanActiveReceive_kept (span : BitVec 16) (ring : List Nat) {s : State} (hs : Kept W a s) {t : State} (e_
    : execSpanActiveReceive span ring s = .next t) : Kept W a t := by
  grind [execSpanActiveReceive, State.whenClocked_kept, State.toChoesk_kept, opSpanActiveReceive_kept, foldl_kept, =
      kept_mk, = keptF_fold]

theorem execSpanFormingTimeout_kept (span : BitVec 16) {s : State} (hs : Kept W a s) {t : State} (e_ :
    execSpanFormingTimeout span s = .next t) : Kept W a t := by
  grind [execSpanFormingTimeout, State.whenClocked_kept, opSpanFormingTimeout_kept, foldl_kept, = kept_mk, = keptF_fold]

theorem execSpanEndReceive_kept (span : BitVec 16) {s : State} (hs : Kept W a s) {t : State} (e_ : execSpanEndReceive
    span s = .next t) : Kept W a t := by
  grind [execSpanEndReceive, State.whenClocked_kept, State.toChoesk_kept, opSpanEndReceive_kept, foldl_kept, = kept_mk,
      = keptF_fold]

end Sys2Proof.Machine
end

