-- ==== Sys2Proof/Laws/KeptSfu.lean ====
section
/-! SUPPORT. One lemma for each operation of Machine/Sfu.lean that gives a state: it keeps what `Kept` says. -/

namespace Sys2Proof.Machine

open Sys2Proof

/- In turn, not as parallel tasks: each task that waits for another holds a stack of its own. -/
set_option Elab.async false

variable {W : Prop} {a : State}

theorem State.updSlot_kept (key : Nat) (f : SfuSlot → SfuSlot) {s : State} (hs : Kept W a s) : Kept W a (State.updSlot
    key f s) := by
  grind [State.updSlot, foldl_kept, = kept_mk, = keptF_fold]

theorem opSfuLoadWrite_kept (p slot : Fin 16) {s : State} (hs : Kept W a s) : Kept W a (opSfuLoadWrite p slot s) := by
  grind [opSfuLoadWrite, State.updSlot_kept, foldl_kept, = kept_mk, = keptF_fold]

theorem State.slotUnloads_kept (key n : Nat) {s : State} (hs : Kept W a s) : Kept W a (State.slotUnloads key n s) :=
    by
  induction n generalizing s with
  | zero => exact hs
  | succ k ih => grind [State.slotUnloads, State.updSlot_kept, State.finish_kept]

theorem State.slotFlip_kept (key : Nat) {s : State} (hs : Kept W a s) : Kept W a (State.slotFlip key s) := by
  grind [State.slotFlip, State.finish_kept, State.updSlot_kept, foldl_kept, = kept_mk, = keptF_fold]

theorem State.slotCommit_kept (key : Nat) {s : State} (hs : Kept W a s) : Kept W a (State.slotCommit key s) := by
  grind [State.slotCommit, State.slotUnloads_kept, State.slotFlip_kept, foldl_kept, = kept_mk, = keptF_fold]

theorem State.sfuCommit_kept {s : State} (hs : Kept W a s) : Kept W a (State.sfuCommit s) := by
  grind [State.sfuCommit, State.slotCommit_kept, foldl_kept, = kept_mk, = keptF_fold]

theorem sfuLoadTableBody_kept (c : CmdId) (p : Nat) (e : Entry) {s : State} (hs : Kept W a s) : Kept W a
    (sfuLoadTableBody c p e s).1 := by
  grind [sfuLoadTableBody, State.takeArg_kept, State.updSlot_kept, foldl_kept, = kept_mk, = keptF_fold]

theorem specSfuLoadTable_kept {s : State} (hs : Kept W a s) (c : CmdId) (p : Nat) (e : Entry) : Kept W a
    (specSfuLoadTable.body c p e s).1 := by
  simp only [specSfuLoadTable]; grind [sfuLoadTableBody_kept, foldl_kept, = kept_mk, = keptF_fold]

theorem sfuUnloadTableBody_kept (c : CmdId) (p : Nat) (e : Entry) {s : State} (hs : Kept W a s) : Kept W a
    (sfuUnloadTableBody c p e s).1 := by
  grind [sfuUnloadTableBody, State.updSlot_kept, foldl_kept, = kept_mk, = keptF_fold]

theorem specSfuUnloadTable_kept {s : State} (hs : Kept W a s) (c : CmdId) (p : Nat) (e : Entry) : Kept W a
    (specSfuUnloadTable.body c p e s).1 := by
  simp only [specSfuUnloadTable]; grind [sfuUnloadTableBody_kept, foldl_kept, = kept_mk, = keptF_fold]

theorem sfuLoadProgramBody_kept (c : CmdId) (p : Nat) (e : Entry) {s : State} (hs : Kept W a s) : Kept W a
    (sfuLoadProgramBody c p e s).1 := by
  grind [sfuLoadProgramBody, State.takeArg_kept, State.updSlot_kept, foldl_kept, = kept_mk, = keptF_fold]

theorem specSfuLoadProgram_kept {s : State} (hs : Kept W a s) (c : CmdId) (p : Nat) (e : Entry) : Kept W a
    (specSfuLoadProgram.body c p e s).1 := by
  simp only [specSfuLoadProgram]; grind [sfuLoadProgramBody_kept, foldl_kept, = kept_mk, = keptF_fold]

theorem sfuQueryBody_kept (c : CmdId) (p : Nat) (e : Entry) {s : State} (hs : Kept W a s) : Kept W a (sfuQueryBody c p
    e s).1 := by
  grind [sfuQueryBody, State.writeArg_kept, foldl_kept, = kept_mk, = keptF_fold]

theorem specSfuQuery_kept {s : State} (hs : Kept W a s) (c : CmdId) (p : Nat) (e : Entry) : Kept W a
    (specSfuQuery.body c p e s).1 := by
  simp only [specSfuQuery]; grind [sfuQueryBody_kept, foldl_kept, = kept_mk, = keptF_fold]

theorem execSfuLoadTable_kept (m : Fin 18) (e : Entry) {s : State} (hs : Kept W a s) {t : State} (e_ :
    execSfuLoadTable m e s = .next t) : Kept W a t := by
  grind [execSfuLoadTable, serve_kept, specSfuLoadTable_kept, foldl_kept, = kept_mk, = keptF_fold]

theorem execSfuUnloadTable_kept (m : Fin 18) (e : Entry) {s : State} (hs : Kept W a s) {t : State} (e_ :
    execSfuUnloadTable m e s = .next t) : Kept W a t := by
  grind [execSfuUnloadTable, serve_kept, specSfuUnloadTable_kept, foldl_kept, = kept_mk, = keptF_fold]

theorem execSfuLoadProgram_kept (m : Fin 18) (e : Entry) {s : State} (hs : Kept W a s) {t : State} (e_ :
    execSfuLoadProgram m e s = .next t) : Kept W a t := by
  grind [execSfuLoadProgram, serve_kept, specSfuLoadProgram_kept, foldl_kept, = kept_mk, = keptF_fold]

theorem execSfuQuery_kept (m : Fin 18) (e : Entry) {s : State} (hs : Kept W a s) {t : State} (e_ : execSfuQuery m e s
    = .next t) : Kept W a t := by
  grind [execSfuQuery, serve_kept, specSfuQuery_kept, foldl_kept, = kept_mk, = keptF_fold]

theorem execSfuLoadWrite_kept (p : Fin 16) (slot : Fin 16) {s : State} (hs : Kept W a s) {t : State} (e_ :
    execSfuLoadWrite p slot s = .next t) : Kept W a t := by
  grind [execSfuLoadWrite, State.whenClocked_kept, opSfuLoadWrite_kept, foldl_kept, = kept_mk, = keptF_fold]

end Sys2Proof.Machine
end

