-- ==== Sys2Proof/Laws/KeptSeq.lean ====
section
/-! SUPPORT. One lemma for each operation of Machine/Seq.lean that gives a state: it keeps what `Kept` says. -/

namespace Sys2Proof.Machine

open Sys2Proof

/- In turn, not as parallel tasks: each task that waits for another holds a stack of its own. -/
set_option Elab.async false

variable {W : Prop} {a : State}

theorem State.markPassed_kept (p : Nat) (c : Cand) {s : State} (hs : Kept W a s) : Kept W a (State.markPassed p c s)
    := by
  grind [State.markPassed, State.updAdm_kept, State.updCopies_kept, foldl_kept, = kept_mk, = keptF_fold]

theorem State.passOver_kept (p : Nat) (cs : List Cand) {s : State} (hs : Kept W a s) : Kept W a (State.passOver p cs
    s) := by
  grind [State.passOver, State.updPwrp_kept, State.markPassed_kept, foldl_kept, = kept_mk, = keptF_fold]

theorem opDescriptorFetch_kept (p : Fin 16) {s : State} (hs : Kept W a s) : Kept W a (opDescriptorFetch p s) := by
  grind (gen := 30) (ematch := 30) (splits := 30) [opDescriptorFetch, State.noteFetched_kept, State.readDva_kept,
      foldl_kept, = kept_mk, = keptF_fold]

theorem State.countRetired_kept (o : Op) {s : State} (hs : Kept W a s) : Kept W a (State.countRetired o s) := by
  grind (gen := 30) (ematch := 30) (splits := 30) [State.countRetired, State.updFrmp_kept, State.updSeqp_kept,
      State.updAdm_kept, State.endJob_kept, State.endIfDrained_kept, State.copyDone_kept, keptF_free, foldl_kept, =
      kept_mk, = keptF_fold]

theorem State.retireOp_kept (o : Op) (m : Nat) {s : State} (hs : Kept W a s) : Kept W a (State.retireOp o m s) := by
  grind [State.retireOp, State.updSeq_kept, State.settle_kept, State.leaveFill_kept, State.countRetired_kept,
      foldl_kept, = kept_mk, = keptF_fold]

theorem State.noopOp_kept (o : Op) (err : Bool) {s : State} (hs : Kept W a s) : Kept W a (State.noopOp o err s) := by
  grind [State.noopOp, State.updSeqp_kept, State.retireOp_kept, foldl_kept, = kept_mk, = keptF_fold]

theorem State.readBound_kept (o : Op) (i : Nat) {s : State} (hs : Kept W a s) : Kept W a (State.readBound o i s).1 :=
    by
  grind [State.readBound, State.passLine_kept, State.noteLine_kept, State.readDva_kept, foldl_kept, = kept_mk, =
      keptF_fold]

theorem State.readBounds_kept (o : Op) {s : State} (hs : Kept W a s) : Kept W a (State.readBounds o s).1 := by
  grind [State.readBounds, gotThen_kept, State.readBound_kept, foldl_kept, = kept_mk, = keptF_fold]

theorem State.endsOf_kept (span : BitVec 16) (num : Nat) {s : State} (hs : Kept W a s) : Kept W a (State.endsOf span
    num s).2 := by
  grind [State.endsOf, State.takeFree_kept, foldl_kept, = kept_mk, = keptF_fold]

theorem State.updCommq_kept (p q : Nat) (f : Commq → Commq) {s : State} (hs : Kept W a s) : Kept W a (State.updCommq p
    q f s) := by
  grind [State.updCommq, State.updRed_kept, foldl_kept, = kept_mk, = keptF_fold]

theorem State.startKind_kept (o : Op) (b : Bounds) {s : State} (hs : Kept W a s) : Kept W a (State.startKind o b s).1
    := by
  grind [State.startKind, State.readDva_kept, gotThen_kept, State.endsOf_kept, State.updCommq_kept, foldl_kept, =
      kept_mk, = keptF_fold]

theorem State.putOp_kept (o : Op) {s : State} (hs : Kept W a s) : Kept W a (State.putOp o s) := by
  grind [State.putOp, State.updSeq_kept, foldl_kept, = kept_mk, = keptF_fold]

theorem State.bindOp_kept (id : Nat) {s : State} (hs : Kept W a s) : Kept W a (State.bindOp id s) := by
  grind (gen := 30) (ematch := 30) (splits := 30) [State.bindOp, State.updOp_kept, State.killStart_kept,
      State.noopOp_kept, State.readBounds_kept, State.startKind_kept, State.putOp_kept, foldl_kept, = kept_mk, =
      keptF_fold]

theorem State.charge_kept (p die : Nat) (c : Cand) (o : Op) (oversize : Bool) {s : State} (hs : Kept W a s) : Kept W a
    (State.charge p die c o oversize s) := by
  grind [State.charge, State.updPwrp_kept, State.updPwr_kept, State.updSeq_kept, State.updAdm_kept,
      State.updCopies_kept, foldl_kept, = kept_mk, = keptF_fold]

theorem State.issue_kept (p die : Nat) (c : Cand) (d : Desc) (oversize : Bool) {s : State} (hs : Kept W a s) : Kept W
    a (State.issue p die c d oversize s) := by
  grind (gen := 30) (ematch := 30) (splits := 30) [State.issue, State.takeFree_kept, State.noopOp_kept,
      State.putOp_kept, State.bindOp_kept, State.charge_kept, foldl_kept, = kept_mk, = keptF_fold]

theorem State.bindWaiting_kept (die : Nat) {s : State} (hs : Kept W a s) : Kept W a (State.bindWaiting die s) := by
  grind [State.bindWaiting, State.bindOp_kept, foldl_kept, = kept_mk, = keptF_fold]

theorem State.servePart_kept (p die : Nat) {s : State} (hs : Kept W a s) : Kept W a (State.servePart p die s).1 := by
  grind [State.servePart, State.passOver_kept, foldl_kept, = kept_mk, = keptF_fold]

theorem State.serveDie_kept (die : Nat) (l : List Nat) {s : State} (hs : Kept W a s) : Kept W a (State.serveDie die l
    s) := by
  induction l generalizing s with
  | nil => exact hs
  | cons p t ih => grind [State.serveDie, State.servePart_kept, State.issue_kept]

theorem opOperationIssue_kept (die : Die) {s : State} (hs : Kept W a s) : Kept W a (opOperationIssue die s) := by
  grind [opOperationIssue, State.bindWaiting_kept, State.serveDie_kept, foldl_kept, = kept_mk, = keptF_fold]

theorem opOversizeIssue_kept (die : Die) (p : Fin 16) {s : State} (hs : Kept W a s) : Kept W a (opOversizeIssue die p
    s) := by
  grind [opOversizeIssue, State.issue_kept, foldl_kept, = kept_mk, = keptF_fold]

theorem State.setQueue_kept (p key : Nat) (l : List Handle) {s : State} (hs : Kept W a s) : Kept W a (State.setQueue p
    key l s) := by
  grind [State.setQueue, State.updSeqp_kept, State.updSeq_kept, foldl_kept, = kept_mk, = keptF_fold]

theorem opHandlePop_kept (id : Nat) {s : State} (hs : Kept W a s) : Kept W a (opHandlePop id s) := by
  grind (gen := 30) (ematch := 30) (splits := 30) [opHandlePop, State.updOp_kept, State.killStart_kept,
      State.setQueue_kept, foldl_kept, = kept_mk, = keptF_fold]

theorem opHandlePush_kept (id : Nat) {s : State} (hs : Kept W a s) : Kept W a (opHandlePush id s) := by
  grind [opHandlePush, State.updOp_kept, State.killStart_kept, State.setQueue_kept, foldl_kept, = kept_mk, = keptF_fold]

theorem State.retireEffect_kept (o : Op) {s : State} (hs : Kept W a s) : Kept W a (State.retireEffect o s) := by
  grind [State.retireEffect, State.updSeqp_kept, State.updSeq_kept, State.setBound_kept, foldl_kept, = kept_mk, =
      keptF_fold]

theorem opOperationRetire_kept (id : Nat) {s : State} (hs : Kept W a s) : Kept W a (opOperationRetire id s) := by
  grind [opOperationRetire, State.updPln_kept, State.takeFree_kept, State.retireOp_kept, State.retireEffect_kept,
      foldl_kept, = kept_mk, = keptF_fold]

theorem opLayerFence_kept (id : Nat) {s : State} (hs : Kept W a s) : Kept W a (opLayerFence id s) := by
  grind [opLayerFence, State.updOp_kept, foldl_kept, = kept_mk, = keptF_fold]

theorem execOperationIssue_kept (die : Die) {s : State} (hs : Kept W a s) {t : State} (e_ : execOperationIssue die s =
    .next t) : Kept W a t := by
  grind [execOperationIssue, State.whenClocked_kept, opOperationIssue_kept, foldl_kept, = kept_mk, = keptF_fold]

theorem execOversizeIssue_kept (die : Die) (p : Fin 16) {s : State} (hs : Kept W a s) {t : State} (e_ :
    execOversizeIssue die p s = .next t) : Kept W a t := by
  grind [execOversizeIssue, State.whenClocked_kept, opOversizeIssue_kept, foldl_kept, = kept_mk, = keptF_fold]

theorem execDescriptorFetch_kept (p : Fin 16) {s : State} (hs : Kept W a s) {t : State} (e_ : execDescriptorFetch p s
    = .next t) : Kept W a t := by
  grind [execDescriptorFetch, State.whenClocked_kept, opDescriptorFetch_kept, foldl_kept, = kept_mk, = keptF_fold]

theorem execLayerFence_kept (id : Nat) {s : State} (hs : Kept W a s) {t : State} (e_ : execLayerFence id s = .next t)
    : Kept W a t := by
  grind [execLayerFence, State.whenClocked_kept, opLayerFence_kept, foldl_kept, = kept_mk, = keptF_fold]

theorem execHandlePop_kept (id : Nat) {s : State} (hs : Kept W a s) {t : State} (e_ : execHandlePop id s = .next t) :
    Kept W a t := by
  grind [execHandlePop, State.whenClocked_kept, opHandlePop_kept, foldl_kept, = kept_mk, = keptF_fold]

theorem execHandlePush_kept (id : Nat) {s : State} (hs : Kept W a s) {t : State} (e_ : execHandlePush id s = .next t)
    : Kept W a t := by
  grind [execHandlePush, State.whenClocked_kept, opHandlePush_kept, foldl_kept, = kept_mk, = keptF_fold]

theorem execOperationRetire_kept (id : Nat) {s : State} (hs : Kept W a s) {t : State} (e_ : execOperationRetire id s =
    .next t) : Kept W a t := by
  grind [execOperationRetire, State.whenClocked_kept, opOperationRetire_kept, foldl_kept, = kept_mk, = keptF_fold]

end Sys2Proof.Machine
end

