-- ==== Sys2Proof/Laws/KeptTile.lean ====
section
/-! SUPPORT. One lemma for each operation of Machine/Tile.lean that gives a state: it keeps what `Kept` says. -/

namespace Sys2Proof.Machine

open Sys2Proof

/- In turn, not as parallel tasks: each task that waits for another holds a stack of its own. -/
set_option Elab.async false

variable {W : Prop} {a : State}

theorem State.runTile_kept (id : Nat) (mine : Op → Bool) (pops : Op → List QueueWait) (f : Op → State → State × Got
    Op) {s : State} (hf : ∀ y0 y1, Kept W a y1 → Kept W a (f y0 y1).1) (hs : Kept W a s) : Kept W a (State.runTile id
    mine pops f s) := by
  grind [State.runTile, State.updOp_kept, State.killStart_kept, foldl_kept, = kept_mk, = keptF_fold]

theorem State.freeHandle_kept {s : State} (hs : Kept W a s) : Kept W a (State.freeHandle s).2 := by
  grind [State.freeHandle, State.takeFree_kept, foldl_kept, = kept_mk, = keptF_fold]

theorem State.operand_kept (fed : Bool) (h : Option Handle) (addr tile : Nat) {s : State} (hs : Kept W a s) : Kept W a
    (State.operand fed h addr tile s).2 := by
  unfold State.operand
  split <;> grind (gen := 30) (ematch := 30) (splits := 30) [State.freeHandle_kept, foldl_kept, = kept_mk, = keptF_fold]

theorem State.outHandle_kept (o : Op) (ext seq : Nat) {s : State} (hs : Kept W a s) : Kept W a (State.outHandle o ext
    seq s).2 := by
  grind [State.outHandle, State.freeHandle_kept, foldl_kept, = kept_mk, = keptF_fold]

theorem State.endTile_kept (o : Op) (output : Option Nat) (last : Bool) {s : State} (hs : Kept W a s) : Kept W a
    (State.endTile o output last s).1 := by
  unfold State.endTile
  split <;> grind (gen := 30) (ematch := 30) (splits := 30) [State.outHandle_kept, foldl_kept, = kept_mk, = keptF_fold]

theorem State.readTile_kept (o : Op) (code rows cols stride a0 : Nat) {s : State} (hs : Kept W a s) : Kept W a
    (State.readTile o code rows cols stride a0 s).1 := by
  grind [State.readTile, State.readRows_kept, gotThen_kept, foldl_kept, = kept_mk, = keptF_fold]

theorem State.mulAt_kept (o : Op) {s : State} (hs : Kept W a s) : Kept W a (State.mulAt o s).2 := by
  grind [State.mulAt, State.operand_kept, foldl_kept, = kept_mk, = keptF_fold]

theorem State.startAcc_kept (o : Op) (t : MulAt) {s : State} (hs : Kept W a s) : Kept W a (State.startAcc o t s).1 :=
    by
  grind [State.startAcc, State.readTile_kept, foldl_kept, = kept_mk, = keptF_fold]

theorem State.mulCompute_kept (o : Op) (t : MulAt) {s : State} (hs : Kept W a s) : Kept W a (State.mulCompute o t s).1
    := by
  grind [State.mulCompute, State.readRows_kept, gotThen_kept, State.loadFlorets_kept, State.readTile_kept,
      State.startAcc_kept, foldl_kept, = kept_mk, = keptF_fold]

theorem State.mulTile_kept (o : Op) {s : State} (hs : Kept W a s) : Kept W a (State.mulTile o s).1 := by
  grind [State.mulTile, State.writeRows_kept, gotThen_kept, State.endTile_kept, State.mulAt_kept, State.mulCompute_kept,
      foldl_kept, = kept_mk, = keptF_fold]

theorem opTileMultiply_kept (id : Nat) {s : State} (hs : Kept W a s) : Kept W a (opTileMultiply id s) := by
  grind [opTileMultiply, State.runTile_kept, State.mulTile_kept, foldl_kept, = kept_mk, = keptF_fold]

theorem State.copyOut_kept (o : Op) (rows : List (List Byte)) {s : State} (hs : Kept W a s) : Kept W a (State.copyOut
    o rows s).1 := by
  grind [State.copyOut, State.writeRows_kept, gotThen_kept, State.operand_kept, State.endTile_kept, foldl_kept, =
      kept_mk, = keptF_fold]

theorem State.copyTile_kept (o : Op) {s : State} (hs : Kept W a s) : Kept W a (State.copyTile o s).1 := by
  grind [State.copyTile, State.readRows_kept, gotThen_kept, State.operand_kept, State.copyOut_kept, foldl_kept, =
      kept_mk, = keptF_fold]

theorem opCopyData_kept (id : Nat) {s : State} (hs : Kept W a s) : Kept W a (opCopyData id s) := by
  grind [opCopyData, State.runTile_kept, State.copyTile_kept, foldl_kept, = kept_mk, = keptF_fold]

theorem opCopyZeroFill_kept (id : Nat) {s : State} (hs : Kept W a s) : Kept W a (opCopyZeroFill id s) := by
  grind [opCopyZeroFill, State.runTile_kept, State.copyOut_kept, foldl_kept, = kept_mk, = keptF_fold]

theorem opCopyHandleLoad_kept (id : Nat) {s : State} (hs : Kept W a s) : Kept W a (opCopyHandleLoad id s) := by
  grind [opCopyHandleLoad, State.readDva_kept, gotThen_kept, State.runTile_kept, foldl_kept, = kept_mk, = keptF_fold]

theorem opCopyBoundLoad_kept (id : Nat) {s : State} (hs : Kept W a s) : Kept W a (opCopyBoundLoad id s) := by
  grind [opCopyBoundLoad, State.readDva_kept, gotThen_kept, State.runTile_kept, foldl_kept, = kept_mk, = keptF_fold]

theorem execTileMultiply_kept (id : Nat) {s : State} (hs : Kept W a s) {t : State} (e_ : execTileMultiply id s = .next
    t) : Kept W a t := by
  grind [execTileMultiply, State.whenClocked_kept, opTileMultiply_kept, foldl_kept, = kept_mk, = keptF_fold]

theorem execCopyData_kept (id : Nat) {s : State} (hs : Kept W a s) {t : State} (e_ : execCopyData id s = .next t) :
    Kept W a t := by
  grind [execCopyData, State.whenClocked_kept, opCopyData_kept, foldl_kept, = kept_mk, = keptF_fold]

theorem execCopyHandleLoad_kept (id : Nat) {s : State} (hs : Kept W a s) {t : State} (e_ : execCopyHandleLoad id s =
    .next t) : Kept W a t := by
  grind [execCopyHandleLoad, State.whenClocked_kept, opCopyHandleLoad_kept, foldl_kept, = kept_mk, = keptF_fold]

theorem execCopyBoundLoad_kept (id : Nat) {s : State} (hs : Kept W a s) {t : State} (e_ : execCopyBoundLoad id s =
    .next t) : Kept W a t := by
  grind [execCopyBoundLoad, State.whenClocked_kept, opCopyBoundLoad_kept, foldl_kept, = kept_mk, = keptF_fold]

theorem execCopyZeroFill_kept (id : Nat) {s : State} (hs : Kept W a s) {t : State} (e_ : execCopyZeroFill id s = .next
    t) : Kept W a t := by
  grind [execCopyZeroFill, State.whenClocked_kept, opCopyZeroFill_kept, foldl_kept, = kept_mk, = keptF_fold]

end Sys2Proof.Machine
end

