-- ==== Sys2Proof/Laws/KeptAttn.lean ====
section
/-! SUPPORT. One lemma for each operation of Machine/Attn.lean that gives a state: it keeps what `Kept` says. -/

namespace Sys2Proof.Machine

open Sys2Proof

/- In turn, not as parallel tasks: each task that waits for another holds a stack of its own. -/
set_option Elab.async false

variable {W : Prop} {a : State}

theorem State.keyHandle_kept (o : Op) {s : State} (hs : Kept W a s) : Kept W a (State.keyHandle o s).2 := by
  grind [State.keyHandle, State.freeHandle_kept, foldl_kept, = kept_mk, = keptF_fold]

theorem State.fwdTile_kept (o : Op) {s : State} (hs : Kept W a s) : Kept W a (State.fwdTile o s).1 := by
  grind [State.fwdTile, gotThen_kept, State.writeMany_kept, State.fwdOut_kept, foldl_kept, = kept_mk, = keptF_fold]

theorem opAttentionForward_kept (id : Nat) {s : State} (hs : Kept W a s) : Kept W a (opAttentionForward id s) := by
  grind [opAttentionForward, gotThen_kept, State.bucketEntry_kept, State.runTile_kept, State.keyHandle_kept,
      State.fwdTile_kept, foldl_kept, = kept_mk, = keptF_fold]

theorem State.prepTile_kept (o : Op) {s : State} (hs : Kept W a s) : Kept W a (State.prepTile o s).1 := by
  grind [State.prepTile, gotThen_kept, State.writeMany_kept, State.prepOut_kept, foldl_kept, = kept_mk, = keptF_fold]

theorem State.dqTile_kept (o : Op) {s : State} (hs : Kept W a s) : Kept W a (State.dqTile o s).1 := by
  grind [State.dqTile, gotThen_kept, State.writeMany_kept, State.dqOut_kept, foldl_kept, = kept_mk, = keptF_fold]

theorem State.dkvTile_kept (o : Op) {s : State} (hs : Kept W a s) : Kept W a (State.dkvTile o s).1 := by
  grind (gen := 30) (ematch := 30) (splits := 30) [State.dkvTile, gotThen_kept, State.writeMany_kept, State.dkvOut_kept,
      foldl_kept, = kept_mk, = keptF_fold]

theorem opAttentionBackward_kept (id : Nat) {s : State} (hs : Kept W a s) : Kept W a (opAttentionBackward id s) := by
  grind [opAttentionBackward, State.runTile_kept, State.keyHandle_kept, State.prepTile_kept, State.dqTile_kept,
      State.dkvTile_kept, foldl_kept, = kept_mk, = keptF_fold]

theorem opBucketSort_kept (id : Nat) {s : State} (hs : Kept W a s) : Kept W a (opBucketSort id s) := by
  grind [opBucketSort, State.readRows_kept, gotThen_kept, State.writeMany_kept, State.runTile_kept, foldl_kept, =
      kept_mk, = keptF_fold]

theorem State.sfuTile_kept (o : Op) {s : State} (hs : Kept W a s) : Kept W a (State.sfuTile o s).1 := by
  grind (gen := 30) (ematch := 30) (splits := 30) [State.sfuTile, State.writeRows_kept, gotThen_kept,
      State.operand_kept, State.endTile_kept, State.readTile_kept, foldl_kept, = kept_mk, = keptF_fold]

theorem opSpecialFunctionPass_kept (id : Nat) {s : State} (hs : Kept W a s) : Kept W a (opSpecialFunctionPass id s) :=
    by
  grind [opSpecialFunctionPass, State.runTile_kept, State.sfuTile_kept, foldl_kept, = kept_mk, = keptF_fold]

theorem execAttentionForward_kept (id : Nat) {s : State} (hs : Kept W a s) {t : State} (e_ : execAttentionForward id s
    = .next t) : Kept W a t := by
  grind [execAttentionForward, State.whenClocked_kept, opAttentionForward_kept, foldl_kept, = kept_mk, = keptF_fold]

theorem execBucketSort_kept (id : Nat) {s : State} (hs : Kept W a s) {t : State} (e_ : execBucketSort id s = .next t)
    : Kept W a t := by
  grind [execBucketSort, State.whenClocked_kept, opBucketSort_kept, foldl_kept, = kept_mk, = keptF_fold]

theorem execAttentionBackward_kept (id : Nat) {s : State} (hs : Kept W a s) {t : State} (e_ : execAttentionBackward id
    s = .next t) : Kept W a t := by
  grind [execAttentionBackward, State.whenClocked_kept, opAttentionBackward_kept, foldl_kept, = kept_mk, = keptF_fold]

theorem execSpecialFunctionPass_kept (id : Nat) {s : State} (hs : Kept W a s) {t : State} (e_ :
    execSpecialFunctionPass id s = .next t) : Kept W a t := by
  grind [execSpecialFunctionPass, State.whenClocked_kept, opSpecialFunctionPass_kept, foldl_kept, = kept_mk, =
      keptF_fold]

end Sys2Proof.Machine
end

