-- ==== Sys2Proof/Laws/KeptSync.lean ====
section
/-! SUPPORT. One lemma for each operation of Machine/Sync.lean that gives a state: it keeps what `Kept` says. -/

namespace Sys2Proof.Machine

open Sys2Proof

/- In turn, not as parallel tasks: each task that waits for another holds a stack of its own. -/
set_option Elab.async false

variable {W : Prop} {a : State}

theorem State.sendMarkers_kept {s : State} (hs : Kept W a s) : Kept W a (State.sendMarkers s) := by
  grind [State.sendMarkers, State.takeFree_kept, State.txMsg_kept, State.send_kept, foldl_kept, = kept_mk, = keptF_fold]

theorem State.dropChange_kept {s : State} (hs : Kept W a s) : Kept W a (State.dropChange s) := by
  grind [State.dropChange, State.updFrm_kept, State.finishAll_kept, State.releaseHeld_kept, foldl_kept, = kept_mk, =
      keptF_fold]

theorem State.dropProposal_kept {s : State} (hs : Kept W a s) : Kept W a (State.dropProposal s) := by
  grind [State.dropProposal, State.dropChange_kept, foldl_kept, = kept_mk, = keptF_fold]

theorem State.takeFields_kept (k : Marker) {s : State} (hs : Kept W a s) : Kept W a (State.takeFields k s) := by
  grind [State.takeFields, State.updFrm_kept, State.syncChanged_kept, State.parentChanged_kept, State.dropChange_kept,
      foldl_kept, = kept_mk, = keptF_fold]

theorem State.acquire_kept (k : Marker) {s : State} (hs : Kept W a s) : Kept W a (State.acquire k s) := by
  grind [State.acquire, State.updFrm_kept, State.setSync_kept, foldl_kept, = kept_mk, = keptF_fold]

theorem State.syncStep_kept (k : Marker) (e : Int) {s : State} (hs : Kept W a s) : Kept W a (State.syncStep k e s) :=
    by
  grind [State.syncStep, State.updFrm_kept, State.setSync_kept, State.acquire_kept, foldl_kept, = kept_mk, = keptF_fold]

theorem opMarkerReceive_kept (port : Fin 12) (k : Marker) (arrival : Int) {s : State} (hs : Kept W a s) : Kept W a
    (opMarkerReceive port k arrival s) := by
  grind (gen := 30) (ematch := 30) (splits := 30) [opMarkerReceive, State.updFrm_kept, State.updFab_kept,
      State.takeFree_kept, State.updNbr_kept, State.parentChanged_kept, State.lateJoin_kept, State.takeFields_kept,
      State.syncStep_kept, keptF_free, foldl_kept, = kept_mk, = keptF_fold]

theorem opRoutedMarkerReceive_kept (_src : Fin 128) (k : Marker) {s : State} (hs : Kept W a s) : Kept W a
    (opRoutedMarkerReceive _src k s) := by
  grind [opRoutedMarkerReceive, State.updFrm_kept, State.takeFields_kept, State.acquire_kept, foldl_kept, = kept_mk, =
      keptF_fold]

theorem opMarkerTimeout_kept {s : State} (hs : Kept W a s) : Kept W a (opMarkerTimeout s) := by
  grind [opMarkerTimeout, State.setSync_kept, foldl_kept, = kept_mk, = keptF_fold]

theorem opHoldoverExpiry_kept {s : State} (hs : Kept W a s) : Kept W a (opHoldoverExpiry s) := by
  grind [opHoldoverExpiry, State.setSync_kept, foldl_kept, = kept_mk, = keptF_fold]

theorem opDeputyTakeover_kept {s : State} (hs : Kept W a s) : Kept W a (opDeputyTakeover s) := by
  grind [opDeputyTakeover, State.updFab_kept, State.becomeMaster_kept, State.dropProposal_kept, foldl_kept, = kept_mk, =
      keptF_fold]

theorem opElectionClose_kept {s : State} (hs : Kept W a s) : Kept W a (opElectionClose s) := by
  grind [opElectionClose, State.closeElection_kept, State.dropProposal_kept, foldl_kept, = kept_mk, = keptF_fold]

theorem opFullReelection_kept {s : State} (hs : Kept W a s) : Kept W a (opFullReelection s) := by
  grind [opFullReelection, State.openElection_kept, foldl_kept, = kept_mk, = keptF_fold]

theorem State.announce_kept {s : State} (hs : Kept W a s) : Kept W a (State.announce s) := by
  grind [State.announce, State.updFrm_kept, foldl_kept, = kept_mk, = keptF_fold]

theorem opPeriodProposalReceive_kept (period : BitVec 3) (slack : BitVec 2) {s : State} (hs : Kept W a s) : Kept W a
    (opPeriodProposalReceive period slack s) := by
  grind [opPeriodProposalReceive, State.updFrm_kept, foldl_kept, = kept_mk, = keptF_fold]

theorem opPeriodChangeAcknowledge_kept {s : State} (hs : Kept W a s) : Kept W a (opPeriodChangeAcknowledge s) := by
  grind [opPeriodChangeAcknowledge, State.updFrm_kept, State.send_kept, State.announce_kept, foldl_kept, = kept_mk, =
      keptF_fold]

theorem opPeriodAckReceive_kept (pkg : Fin 128) {s : State} (hs : Kept W a s) : Kept W a (opPeriodAckReceive pkg s) :=
    by
  grind [opPeriodAckReceive, State.updFrm_kept, State.announce_kept, foldl_kept, = kept_mk, = keptF_fold]

theorem opPeriodChangeAbandon_kept {s : State} (hs : Kept W a s) : Kept W a (opPeriodChangeAbandon s) := by
  grind [opPeriodChangeAbandon, State.updFrm_kept, State.finishAll_kept, State.releaseHeld_kept, foldl_kept, = kept_mk,
      = keptF_fold]

theorem State.periodCommit_kept {s : State} (hs : Kept W a s) : Kept W a (State.periodCommit s).1 := by
  grind [State.periodCommit, State.updFrm_kept, State.finishAll_kept, State.releaseHeld_kept, foldl_kept, = kept_mk, =
      keptF_fold]

theorem State.syncCommit_kept {s : State} (hs : Kept W a s) : Kept W a (State.syncCommit s) := by
  grind [State.syncCommit, State.updFrm_kept, State.syncChanged_kept, State.setSync_kept, State.refreshParent_kept,
      foldl_kept, = kept_mk, = keptF_fold]

theorem opSlackLateClear_kept (p : Fin 16) {s : State} (hs : Kept W a s) : Kept W a (opSlackLateClear p s) := by
  grind [opSlackLateClear, State.updFrmp_kept, foldl_kept, = kept_mk, = keptF_fold]

theorem frameQueryBody_kept (c : CmdId) (p : Nat) (x0 : Entry) {s : State} (hs : Kept W a s) : Kept W a
    (frameQueryBody c p x0 s).1 := by
  grind [frameQueryBody, foldl_kept, = kept_mk, = keptF_fold]

theorem specFrameQuery_kept {s : State} (hs : Kept W a s) (c : CmdId) (p : Nat) (e : Entry) : Kept W a
    (specFrameQuery.body c p e s).1 := by
  simp only [specFrameQuery]; grind [frameQueryBody_kept, foldl_kept, = kept_mk, = keptF_fold]

theorem frameSetPeriodBody_kept (c : CmdId) (x0 : Nat) (e : Entry) {s : State} (hs : Kept W a s) : Kept W a
    (frameSetPeriodBody c x0 e s).1 := by
  grind [frameSetPeriodBody, State.updFrm_kept, State.stage_kept, State.sendAll_kept, foldl_kept, = kept_mk, =
      keptF_fold]

theorem specFrameSetPeriod_kept {s : State} (hs : Kept W a s) (c : CmdId) (p : Nat) (e : Entry) : Kept W a
    (specFrameSetPeriod.body c p e s).1 := by
  simp only [specFrameSetPeriod]; grind [frameSetPeriodBody_kept, foldl_kept, = kept_mk, = keptF_fold]

theorem frameSetOverrunLimitBody_kept (x0 : CmdId) (p : Nat) (e : Entry) {s : State} (hs : Kept W a s) : Kept W a
    (frameSetOverrunLimitBody x0 p e s).1 := by
  grind [frameSetOverrunLimitBody, State.updFrmp_kept, foldl_kept, = kept_mk, = keptF_fold]

theorem specFrameSetOverrunLimit_kept {s : State} (hs : Kept W a s) (c : CmdId) (p : Nat) (e : Entry) : Kept W a
    (specFrameSetOverrunLimit.body c p e s).1 := by
  simp only [specFrameSetOverrunLimit]; grind [frameSetOverrunLimitBody_kept, foldl_kept, = kept_mk, = keptF_fold]

theorem frameSetPreferenceBody_kept (x0 : CmdId) (x1 : Nat) (e : Entry) {s : State} (hs : Kept W a s) : Kept W a
    (frameSetPreferenceBody x0 x1 e s).1 := by
  grind [frameSetPreferenceBody, State.updFrm_kept, State.updMgt_kept, foldl_kept, = kept_mk, = keptF_fold]

theorem specFrameSetPreference_kept {s : State} (hs : Kept W a s) (c : CmdId) (p : Nat) (e : Entry) : Kept W a
    (specFrameSetPreference.body c p e s).1 := by
  simp only [specFrameSetPreference]; grind [frameSetPreferenceBody_kept, foldl_kept, = kept_mk, = keptF_fold]

theorem execElectionClose_kept {s : State} (hs : Kept W a s) {t : State} (e_ : execElectionClose s = .next t) : Kept W
    a t := by
  grind [execElectionClose, State.whenClocked_kept, opElectionClose_kept, foldl_kept, = kept_mk, = keptF_fold]

theorem execFrameQuery_kept (m : Fin 18) (e : Entry) {s : State} (hs : Kept W a s) {t : State} (e_ : execFrameQuery m
    e s = .next t) : Kept W a t := by
  grind [execFrameQuery, serve_kept, specFrameQuery_kept, foldl_kept, = kept_mk, = keptF_fold]

theorem execFrameSetPeriod_kept (m : Fin 18) (e : Entry) {s : State} (hs : Kept W a s) {t : State} (e_ :
    execFrameSetPeriod m e s = .next t) : Kept W a t := by
  grind [execFrameSetPeriod, serve_kept, specFrameSetPeriod_kept, foldl_kept, = kept_mk, = keptF_fold]

theorem execFrameSetOverrunLimit_kept (m : Fin 18) (e : Entry) {s : State} (hs : Kept W a s) {t : State} (e_ :
    execFrameSetOverrunLimit m e s = .next t) : Kept W a t := by
  grind [execFrameSetOverrunLimit, serve_kept, specFrameSetOverrunLimit_kept, foldl_kept, = kept_mk, = keptF_fold]

theorem execFrameSetPreference_kept (m : Fin 18) (e : Entry) {s : State} (hs : Kept W a s) {t : State} (e_ :
    execFrameSetPreference m e s = .next t) : Kept W a t := by
  grind [execFrameSetPreference, serve_kept, specFrameSetPreference_kept, foldl_kept, = kept_mk, = keptF_fold]

theorem execSlackLateClear_kept (p : Fin 16) {s : State} (hs : Kept W a s) {t : State} (e_ : execSlackLateClear p s =
    .next t) : Kept W a t := by
  grind [execSlackLateClear, State.whenPcie_kept, opSlackLateClear_kept, foldl_kept, = kept_mk, = keptF_fold]

theorem execMarkerReceive_kept (port : Fin 12) (k : Marker) (arrival : Int) {s : State} (hs : Kept W a s) {t : State}
    (e_ : execMarkerReceive port k arrival s = .next t) : Kept W a t := by
  grind [execMarkerReceive, State.whenClocked_kept, opMarkerReceive_kept, foldl_kept, = kept_mk, = keptF_fold]

theorem execRoutedMarkerReceive_kept (src : Fin 128) (k : Marker) {s : State} (hs : Kept W a s) {t : State} (e_ :
    execRoutedMarkerReceive src k s = .next t) : Kept W a t := by
  grind [execRoutedMarkerReceive, State.whenClocked_kept, opRoutedMarkerReceive_kept, foldl_kept, = kept_mk, =
      keptF_fold]

theorem execMarkerTimeout_kept {s : State} (hs : Kept W a s) {t : State} (e_ : execMarkerTimeout s = .next t) : Kept W
    a t := by
  grind [execMarkerTimeout, State.whenClocked_kept, opMarkerTimeout_kept, foldl_kept, = kept_mk, = keptF_fold]

theorem execHoldoverExpiry_kept {s : State} (hs : Kept W a s) {t : State} (e_ : execHoldoverExpiry s = .next t) : Kept
    W a t := by
  grind [execHoldoverExpiry, State.whenClocked_kept, opHoldoverExpiry_kept, foldl_kept, = kept_mk, = keptF_fold]

theorem execDeputyTakeover_kept {s : State} (hs : Kept W a s) {t : State} (e_ : execDeputyTakeover s = .next t) : Kept
    W a t := by
  grind [execDeputyTakeover, State.whenClocked_kept, opDeputyTakeover_kept, foldl_kept, = kept_mk, = keptF_fold]

theorem execFullReelection_kept {s : State} (hs : Kept W a s) {t : State} (e_ : execFullReelection s = .next t) : Kept
    W a t := by
  grind [execFullReelection, State.whenClocked_kept, opFullReelection_kept, foldl_kept, = kept_mk, = keptF_fold]

theorem execPeriodProposalReceive_kept (period : BitVec 3) (slack : BitVec 2) {s : State} (hs : Kept W a s) {t :
    State} (e_ : execPeriodProposalReceive period slack s = .next t) : Kept W a t := by
  grind [execPeriodProposalReceive, State.whenClocked_kept, State.toChoesk_kept, opPeriodProposalReceive_kept,
      foldl_kept, = kept_mk, = keptF_fold]

theorem execPeriodChangeAcknowledge_kept {s : State} (hs : Kept W a s) {t : State} (e_ : execPeriodChangeAcknowledge s
    = .next t) : Kept W a t := by
  grind [execPeriodChangeAcknowledge, State.whenClocked_kept, opPeriodChangeAcknowledge_kept, foldl_kept, = kept_mk, =
      keptF_fold]

theorem execPeriodAckReceive_kept (pkg : Fin 128) {s : State} (hs : Kept W a s) {t : State} (e_ : execPeriodAckReceive
    pkg s = .next t) : Kept W a t := by
  grind [execPeriodAckReceive, State.whenClocked_kept, State.toChoesk_kept, opPeriodAckReceive_kept, foldl_kept, =
      kept_mk, = keptF_fold]

theorem execPeriodChangeAbandon_kept {s : State} (hs : Kept W a s) {t : State} (e_ : execPeriodChangeAbandon s = .next
    t) : Kept W a t := by
  grind [execPeriodChangeAbandon, State.whenClocked_kept, opPeriodChangeAbandon_kept, foldl_kept, = kept_mk, =
      keptF_fold]

end Sys2Proof.Machine
end

