-- ==== Sys2Proof/Laws/KeptPlanner.lean ====
section
/-! SUPPORT. One lemma for each operation of Machine/Planner.lean that gives a state: it keeps what `Kept` says. -/

namespace Sys2Proof.Machine

open Sys2Proof

/- In turn, not as parallel tasks: each task that waits for another holds a stack of its own. -/
set_option Elab.async false

variable {W : Prop} {a : State}

theorem State.takeFlowResult_kept (d : Declared) (oc : Oc) (rs : Reason) (ws : List W64) (final : Bool) {s : State}
    (hs : Kept W a s) : Kept W a (State.takeFlowResult d oc rs ws final s) := by
  grind [State.takeFlowResult, State.updPln_kept, State.updRed_kept, State.stage_kept, State.finish_kept, foldl_kept, =
      kept_mk, = keptF_fold]

theorem State.answerFlow_kept (span : BitVec 16) (x : Flow) (oc : Oc) (rs : Reason) (final : Bool) {s : State} (hs :
    Kept W a s) : Kept W a (State.answerFlow span x oc rs final s) := by
  grind [State.answerFlow, State.send_kept, State.takeFlowResult_kept, foldl_kept, = kept_mk, = keptF_fold]

theorem State.takeFlowFreed_kept (span : BitVec 16) (num : Nat) {s : State} (hs : Kept W a s) : Kept W a
    (State.takeFlowFreed span num s) := by
  grind [State.takeFlowFreed, State.updPln_kept, foldl_kept, = kept_mk, = keptF_fold]

theorem State.freeFlow_kept (span : BitVec 16) (x : Flow) {s : State} (hs : Kept W a s) : Kept W a (State.freeFlow
    span x s) := by
  grind [State.freeFlow, State.send_kept, State.updLead_kept, State.takeFlowFreed_kept, foldl_kept, = kept_mk, =
      keptF_fold]

theorem State.answerCmd_kept (pkg : Nat) (c : CmdId) (oc : Oc) (rs : Reason) (ws : List W64) {s : State} (hs : Kept W
    a s) : Kept W a (State.answerCmd pkg c oc rs ws s) := by
  grind [State.answerCmd, State.finish_kept, State.send_kept, foldl_kept, = kept_mk, = keptF_fold]

theorem opFlowDeclarationReceive_kept (d : Declared) (pkg : Fin 128) {s : State} (hs : Kept W a s) : Kept W a
    (opFlowDeclarationReceive d pkg s) := by
  grind (gen := 30) (ematch := 30) (splits := 30) [opFlowDeclarationReceive, State.updLead_kept, State.answerFlow_kept,
      State.freeFlow_kept, foldl_kept, = kept_mk, = keptF_fold]

theorem State.declare_kept (lead : Nat) (d : Declared) {s : State} (hs : Kept W a s) : Kept W a (State.declare lead d
    s) := by
  grind [State.declare, State.updPln_kept, State.send_kept, foldl_kept, = kept_mk, = keptF_fold]

theorem State.withdrawFlow_kept (span : BitVec 16) (rho : BitVec 32) (x : Flow) {s : State} (hs : Kept W a s) : Kept W
    a (State.withdrawFlow span rho x s) := by
  grind [State.withdrawFlow, State.updLead_kept, State.answerFlow_kept, State.answerCmd_kept, foldl_kept, = kept_mk, =
      keptF_fold]

theorem State.passPrepare_kept (moved : Bool) (x : Span) {s : State} (hs : Kept W a s) : Kept W a (State.passPrepare
    moved x s) := by
  grind [State.passPrepare, State.updPln_kept, State.updSpan_kept, State.updLead_kept, State.freeFlow_kept,
      State.withdrawFlow_kept, foldl_kept, = kept_mk, = keptF_fold]

theorem State.planPasses_kept (moved : Bool) {s : State} (hs : Kept W a s) : Kept W a (State.planPasses moved s) := by
  grind [State.planPasses, State.updLead_kept, State.passPrepare_kept, foldl_kept, = kept_mk, = keptF_fold]

theorem State.commitPass_kept (x : Span) {s : State} (hs : Kept W a s) : Kept W a (State.commitPass x s) := by
  grind (gen := 30) (ematch := 30) (splits := 30) [State.commitPass, State.updPln_kept, State.updLead_kept,
      State.answerFlow_kept, State.freeFlow_kept, foldl_kept, = kept_mk, = keptF_fold]

theorem State.planCommit_kept {s : State} (hs : Kept W a s) : Kept W a (State.planCommit s) := by
  grind [State.planCommit, State.updPln_kept, State.commitPass_kept, foldl_kept, = kept_mk, = keptF_fold]

theorem opPlannerTakeover_kept {s : State} (hs : Kept W a s) : Kept W a (opPlannerTakeover s) := by
  grind [opPlannerTakeover, State.updPln_kept, foldl_kept, = kept_mk, = keptF_fold]

theorem opPlanRecordSend_kept {s : State} (hs : Kept W a s) : Kept W a (opPlanRecordSend s) := by
  grind [opPlanRecordSend, State.updPln_kept, State.send_kept, foldl_kept, = kept_mk, = keptF_fold]

theorem opPlanRecordReceive_kept (r : PlanRecord) (good : Bool) {s : State} (hs : Kept W a s) : Kept W a
    (opPlanRecordReceive r good s) := by
  grind [opPlanRecordReceive, State.updPln_kept, foldl_kept, = kept_mk, = keptF_fold]

theorem State.takeSpanHold_kept (span : BitVec 16) (h : FrameNo) (rho : BitVec 32) {s : State} (hs : Kept W a s) :
    Kept W a (State.takeSpanHold span h rho s) := by
  grind [State.takeSpanHold, State.updPln_kept, foldl_kept, = kept_mk, = keptF_fold]

theorem opSpanHoldReceive_kept (span : BitVec 16) (h : FrameNo) (rho : BitVec 32) {s : State} (hs : Kept W a s) : Kept
    W a (opSpanHoldReceive span h rho s) := by
  grind [opSpanHoldReceive, State.takeSpanHold_kept, foldl_kept, = kept_mk, = keptF_fold]

theorem opOverrunNoticeReceive_kept (span : BitVec 16) (_frame : FrameNo) (_pkg : Fin 128) {s : State} (hs : Kept W a
    s) : Kept W a (opOverrunNoticeReceive span _frame _pkg s) := by
  grind [opOverrunNoticeReceive, State.updPln_kept, State.log_kept, State.sendAll_kept, State.updLead_kept,
      State.takeSpanHold_kept, foldl_kept, = kept_mk, = keptF_fold]

theorem State.holdCommit_kept {s : State} (hs : Kept W a s) : Kept W a (State.holdCommit s) := by
  grind [State.holdCommit, State.updFrmp_kept, State.updPln_kept, State.updSpan_kept, foldl_kept, = kept_mk, =
      keptF_fold]

theorem opHealthNoticeReceive_kept (_frame : FrameNo) (port : Fin 16) (health width : BitVec 2) (pkg : Fin 128) {s :
    State} (hs : Kept W a s) : Kept W a (opHealthNoticeReceive _frame port health width pkg s) := by
  grind [opHealthNoticeReceive, State.updPln_kept, foldl_kept, = kept_mk, = keptF_fold]

theorem flowDeclareBody_kept (c : CmdId) (p : Nat) (e : Entry) {s : State} (hs : Kept W a s) : Kept W a
    (flowDeclareBody c p e s).1 := by
  grind [flowDeclareBody, State.declare_kept, foldl_kept, = kept_mk, = keptF_fold]

theorem specFlowDeclare_kept {s : State} (hs : Kept W a s) (c : CmdId) (p : Nat) (e : Entry) : Kept W a
    (specFlowDeclare.body c p e s).1 := by
  simp only [specFlowDeclare]; grind [flowDeclareBody_kept, foldl_kept, = kept_mk, = keptF_fold]

theorem State.leadWithdraw_kept (span : BitVec 16) (num pkg : Nat) (c : Option CmdId) {s : State} (hs : Kept W a s) :
    Kept W a (State.leadWithdraw span num pkg c s) := by
  grind [State.leadWithdraw, State.updLead_kept, State.answerCmd_kept, foldl_kept, = kept_mk, = keptF_fold]

theorem State.leadQuery_kept (span : BitVec 16) (num : Nat) (summary : Bool) (frame : FrameNo) (pkg : Nat) (c : CmdId)
    {s : State} (hs : Kept W a s) : Kept W a (State.leadQuery span num summary frame pkg c s) := by
  grind [State.leadQuery, State.answerCmd_kept, foldl_kept, = kept_mk, = keptF_fold]

theorem flowWithdrawBody_kept (c : CmdId) (p : Nat) (e : Entry) {s : State} (hs : Kept W a s) : Kept W a
    (flowWithdrawBody c p e s).1 := by
  grind [flowWithdrawBody, State.send_kept, State.leadWithdraw_kept, foldl_kept, = kept_mk, = keptF_fold]

theorem specFlowWithdraw_kept {s : State} (hs : Kept W a s) (c : CmdId) (p : Nat) (e : Entry) : Kept W a
    (specFlowWithdraw.body c p e s).1 := by
  simp only [specFlowWithdraw]; grind [flowWithdrawBody_kept, foldl_kept, = kept_mk, = keptF_fold]

theorem flowQueryBody_kept (c : CmdId) (p : Nat) (e : Entry) {s : State} (hs : Kept W a s) : Kept W a (flowQueryBody c
    p e s).1 := by
  grind [flowQueryBody, State.send_kept, State.leadQuery_kept, foldl_kept, = kept_mk, = keptF_fold]

theorem specFlowQuery_kept {s : State} (hs : Kept W a s) (c : CmdId) (p : Nat) (e : Entry) : Kept W a
    (specFlowQuery.body c p e s).1 := by
  simp only [specFlowQuery]; grind [flowQueryBody_kept, foldl_kept, = kept_mk, = keptF_fold]

theorem execFlowDeclare_kept (m : Fin 18) (e : Entry) {s : State} (hs : Kept W a s) {t : State} (e_ : execFlowDeclare
    m e s = .next t) : Kept W a t := by
  grind [execFlowDeclare, serve_kept, specFlowDeclare_kept, foldl_kept, = kept_mk, = keptF_fold]

theorem execFlowWithdraw_kept (m : Fin 18) (e : Entry) {s : State} (hs : Kept W a s) {t : State} (e_ :
    execFlowWithdraw m e s = .next t) : Kept W a t := by
  grind [execFlowWithdraw, serve_kept, specFlowWithdraw_kept, foldl_kept, = kept_mk, = keptF_fold]

theorem execFlowQuery_kept (m : Fin 18) (e : Entry) {s : State} (hs : Kept W a s) {t : State} (e_ : execFlowQuery m e
    s = .next t) : Kept W a t := by
  grind [execFlowQuery, serve_kept, specFlowQuery_kept, foldl_kept, = kept_mk, = keptF_fold]

theorem execPlanRecordSend_kept {s : State} (hs : Kept W a s) {t : State} (e_ : execPlanRecordSend s = .next t) : Kept
    W a t := by
  grind [execPlanRecordSend, State.whenClocked_kept, opPlanRecordSend_kept, foldl_kept, = kept_mk, = keptF_fold]

theorem execPlanRecordReceive_kept (r : PlanRecord) (good : Bool) {s : State} (hs : Kept W a s) {t : State} (e_ :
    execPlanRecordReceive r good s = .next t) : Kept W a t := by
  grind [execPlanRecordReceive, State.whenClocked_kept, opPlanRecordReceive_kept, foldl_kept, = kept_mk, = keptF_fold]

theorem execOverrunNoticeReceive_kept (span : BitVec 16) (frame : FrameNo) (pkg : Fin 128) {s : State} (hs : Kept W a
    s) {t : State} (e_ : execOverrunNoticeReceive span frame pkg s = .next t) : Kept W a t := by
  grind [execOverrunNoticeReceive, State.whenClocked_kept, State.toChoesk_kept, opOverrunNoticeReceive_kept, foldl_kept,
      = kept_mk, = keptF_fold]

theorem execSpanHoldReceive_kept (span : BitVec 16) (h : FrameNo) (rho : BitVec 32) {s : State} (hs : Kept W a s) {t :
    State} (e_ : execSpanHoldReceive span h rho s = .next t) : Kept W a t := by
  grind [execSpanHoldReceive, State.whenClocked_kept, State.toChoesk_kept, opSpanHoldReceive_kept, foldl_kept, =
      kept_mk, = keptF_fold]

theorem execFlowDeclarationReceive_kept (d : Declared) (pkg : Fin 128) {s : State} (hs : Kept W a s) {t : State} (e_ :
    execFlowDeclarationReceive d pkg s = .next t) : Kept W a t := by
  grind [execFlowDeclarationReceive, State.whenClocked_kept, State.toChoesk_kept, opFlowDeclarationReceive_kept,
      foldl_kept, = kept_mk, = keptF_fold]

theorem execHealthNoticeReceive_kept (frame : FrameNo) (port : Fin 16) (health : BitVec 2) (width : BitVec 2) (pkg :
    Fin 128) {s : State} (hs : Kept W a s) {t : State} (e_ : execHealthNoticeReceive frame port health width pkg s =
    .next t) : Kept W a t := by
  grind [execHealthNoticeReceive, State.whenClocked_kept, State.toChoesk_kept, opHealthNoticeReceive_kept, foldl_kept, =
      kept_mk, = keptF_fold]

theorem execPlannerTakeover_kept {s : State} (hs : Kept W a s) {t : State} (e_ : execPlannerTakeover s = .next t) :
    Kept W a t := by
  grind [execPlannerTakeover, State.whenClocked_kept, opPlannerTakeover_kept, foldl_kept, = kept_mk, = keptF_fold]

end Sys2Proof.Machine
end

