-- ==== Sys2Proof/Laws/KeptCirc.lean ====
section
/-! SUPPORT. One lemma for each operation of Machine/Circ.lean that gives a state: it keeps what `Kept` says. -/

namespace Sys2Proof.Machine

open Sys2Proof

/- In turn, not as parallel tasks: each task that waits for another holds a stack of its own. -/
set_option Elab.async false

variable {W : Prop} {a : State}

theorem State.gather_kept (o : Op) (bs : List Byte) {s : State} (hs : Kept W a s) : Kept W a (State.gather o bs s) :=
    by
  grind [State.gather, State.updPln_kept, foldl_kept, = kept_mk, = keptF_fold]

theorem State.sendTile_kept (o : Op) {s : State} (hs : Kept W a s) : Kept W a (State.sendTile o s).1 := by
  grind [State.sendTile, State.readRows_kept, gotThen_kept, State.operand_kept, State.endTile_kept, State.gather_kept,
      foldl_kept, = kept_mk, = keptF_fold]

theorem State.receiveTile_kept (o : Op) {s : State} (hs : Kept W a s) : Kept W a (State.receiveTile o s).1 := by
  grind [State.receiveTile, State.updPln_kept, State.writeRows_kept, gotThen_kept, State.operand_kept,
      State.endTile_kept, foldl_kept, = kept_mk, = keptF_fold]

theorem opCirculationSend_kept (id : Nat) {s : State} (hs : Kept W a s) : Kept W a (opCirculationSend id s) := by
  grind [opCirculationSend, State.runTile_kept, State.sendTile_kept, foldl_kept, = kept_mk, = keptF_fold]

theorem opCirculationReceive_kept (id : Nat) {s : State} (hs : Kept W a s) : Kept W a (opCirculationReceive id s) :=
    by
  grind [opCirculationReceive, State.runTile_kept, State.receiveTile_kept, foldl_kept, = kept_mk, = keptF_fold]

theorem opReshardMove_kept (id : Nat) {s : State} (hs : Kept W a s) : Kept W a (opReshardMove id s) := by
  grind [opReshardMove, State.runTile_kept, State.sendTile_kept, State.receiveTile_kept, foldl_kept, = kept_mk, =
      keptF_fold]

theorem State.emptyCell_kept (p port slot : Nat) {s : State} (hs : Kept W a s) : Kept W a (State.emptyCell p port slot
    s) := by
  grind [State.emptyCell, State.updPlnp_kept, State.emit_kept, foldl_kept, = kept_mk, = keptF_fold]

theorem State.discardCell_kept (c : Transit) {s : State} (hs : Kept W a s) : Kept W a (State.discardCell c s) := by
  grind [State.discardCell, State.updPlnp_kept, foldl_kept, = kept_mk, = keptF_fold]

theorem State.cellOut_kept (port slot : Nat) (c : Transit) {s : State} (hs : Kept W a s) : Kept W a (State.cellOut
    port slot c s) := by
  grind [State.cellOut, State.emit_kept, State.tx_kept, foldl_kept, = kept_mk, = keptF_fold]

theorem State.takeSend_kept (o : Op) {s : State} (hs : Kept W a s) : Kept W a (State.takeSend o s).2 := by
  grind [State.takeSend, State.updPln_kept, foldl_kept, = kept_mk, = keptF_fold]

theorem State.originate_kept (port slot : Nat) (r : PlanRecord) (e : PlanEntry) {s : State} (hs : Kept W a s) : Kept W
    a (State.originate port slot r e s) := by
  grind [State.originate, State.emptyCell_kept, State.cellOut_kept, State.takeSend_kept, foldl_kept, = kept_mk, =
      keptF_fold]

theorem State.groupCell_kept (port slot : Nat) (g : Group) (edge : Edge) (r : PlanRecord) (e : PlanEntry) {s : State}
    (hs : Kept W a s) : Kept W a (State.groupCell port slot g edge r e s) := by
  grind [State.groupCell, State.updRed_kept, State.emptyCell_kept, State.cellOut_kept, foldl_kept, = kept_mk, =
      keptF_fold]

theorem State.forward_kept (port slot : Nat) (r : PlanRecord) (e : PlanEntry) {s : State} (hs : Kept W a s) : Kept W a
    (State.forward port slot r e s) := by
  grind [State.forward, State.updPln_kept, State.emptyCell_kept, State.discardCell_kept, State.cellOut_kept, foldl_kept,
      = kept_mk, = keptF_fold]

theorem State.holdCell_kept (port slot p : Nat) {s : State} (hs : Kept W a s) : Kept W a (State.holdCell port slot p
    s) := by
  grind [State.holdCell, State.cellOut_kept, State.takeSend_kept, foldl_kept, = kept_mk, = keptF_fold]

theorem opCellWindow_kept (port : Fin 12) (slot : BitVec 12) {s : State} (hs : Kept W a s) : Kept W a (opCellWindow
    port slot s) := by
  grind [opCellWindow, State.originate_kept, State.groupCell_kept, State.forward_kept, State.holdCell_kept, foldl_kept,
      = kept_mk, = keptF_fold]

theorem State.cellArrives_kept (i : Nat) (c : Transit) {s : State} (hs : Kept W a s) : Kept W a (State.cellArrives i c
    s) := by
  grind [State.cellArrives, State.updPln_kept, State.discardCell_kept, foldl_kept, = kept_mk, = keptF_fold]

theorem State.cellFlit_kept (i : Nat) (f : Flit) {s : State} (hs : Kept W a s) : Kept W a (State.cellFlit i f s) := by
  grind [State.cellFlit, State.updPlnp_kept, State.updFab_kept, State.cellArrives_kept, foldl_kept, = kept_mk, =
      keptF_fold]

theorem execCellWindow_kept (port : Fin 12) (slot : BitVec 12) {s : State} (hs : Kept W a s) {t : State} (e_ :
    execCellWindow port slot s = .next t) : Kept W a t := by
  grind [execCellWindow, State.whenClocked_kept, opCellWindow_kept, foldl_kept, = kept_mk, = keptF_fold]

theorem execCirculationSend_kept (id : Nat) {s : State} (hs : Kept W a s) {t : State} (e_ : execCirculationSend id s =
    .next t) : Kept W a t := by
  grind [execCirculationSend, State.whenClocked_kept, opCirculationSend_kept, foldl_kept, = kept_mk, = keptF_fold]

theorem execCirculationReceive_kept (id : Nat) {s : State} (hs : Kept W a s) {t : State} (e_ : execCirculationReceive
    id s = .next t) : Kept W a t := by
  grind [execCirculationReceive, State.whenClocked_kept, opCirculationReceive_kept, foldl_kept, = kept_mk, = keptF_fold]

theorem execReshardMove_kept (id : Nat) {s : State} (hs : Kept W a s) {t : State} (e_ : execReshardMove id s = .next
    t) : Kept W a t := by
  grind [execReshardMove, State.whenClocked_kept, opReshardMove_kept, foldl_kept, = kept_mk, = keptF_fold]

end Sys2Proof.Machine
end

