-- ==== Sys2Proof/Laws/KeptGroup.lean ====
section
/-! SUPPORT. One lemma for each operation of Machine/Group.lean that gives a state: it keeps what `Kept` says. -/

namespace Sys2Proof.Machine

open Sys2Proof

/- In turn, not as parallel tasks: each task that waits for another holds a stack of its own. -/
set_option Elab.async false

variable {W : Prop} {a : State}

theorem State.updEngine_kept (e : Nat) (f : Engine → Engine) {s : State} (hs : Kept W a s) : Kept W a (State.updEngine
    e f s) := by
  grind [State.updEngine, State.updRed_kept, foldl_kept, = kept_mk, = keptF_fold]

theorem State.updGroup_kept (i : Nat) (f : Group → Group) {s : State} (hs : Kept W a s) : Kept W a (State.updGroup i f
    s) := by
  grind [State.updGroup, State.updRed_kept, foldl_kept, = kept_mk, = keptF_fold]

theorem State.declareEdges_kept (g : Group) {s : State} (hs : Kept W a s) : Kept W a (State.declareEdges g s) := by
  grind [State.declareEdges, State.updRed_kept, State.declare_kept, State.updGroup_kept, foldl_kept, = kept_mk, =
      keptF_fold]

theorem State.withdrawStray_kept {s : State} (hs : Kept W a s) : Kept W a (State.withdrawStray s) := by
  grind [State.withdrawStray, State.updPln_kept, State.send_kept, State.leadWithdraw_kept, foldl_kept, = kept_mk, =
      keptF_fold]

theorem State.dropGroup_kept (g : Group) {s : State} (hs : Kept W a s) : Kept W a (State.dropGroup g s) := by
  grind [State.dropGroup, State.updRed_kept, State.withdrawStray_kept, foldl_kept, = kept_mk, = keptF_fold]

theorem State.failDefine_kept (g : Group) (oc : Oc) (rs : Reason) (ws : List W64) {s : State} (hs : Kept W a s) : Kept
    W a (State.failDefine g oc rs ws s) := by
  grind [State.failDefine, State.finishAll_kept, State.dropGroup_kept, foldl_kept, = kept_mk, = keptF_fold]

theorem State.failEverywhere_kept (g : Group) (oc : Oc) (rs : Reason) {s : State} (hs : Kept W a s) : Kept W a
    (State.failEverywhere g oc rs s) := by
  grind [State.failEverywhere, State.sendAll_kept, State.failDefine_kept, foldl_kept, = kept_mk, = keptF_fold]

theorem State.groupsProgress_kept {s : State} (hs : Kept W a s) : Kept W a (State.groupsProgress s) := by
  grind [State.groupsProgress, State.send_kept, State.updGroup_kept, State.withdrawStray_kept,
      State.failEverywhere_kept, foldl_kept, = kept_mk, = keptF_fold]

theorem State.announceRepair_kept (g : Group) {s : State} (hs : Kept W a s) : Kept W a (State.announceRepair g s) :=
    by
  grind [State.announceRepair, State.sendAll_kept, State.updGroup_kept, foldl_kept, = kept_mk, = keptF_fold]

theorem State.checkReady_kept (g : Group) {s : State} (hs : Kept W a s) : Kept W a (State.checkReady g s) := by
  grind [State.checkReady, State.sendAll_kept, State.updGroup_kept, State.failEverywhere_kept,
      State.announceRepair_kept, foldl_kept, = kept_mk, = keptF_fold]

theorem opGroupReadyReceive_kept (span : BitVec 16) (num : BitVec 8) (pkg : Fin 128) (crc : BitVec 32) {s : State} (hs
    : Kept W a s) : Kept W a (opGroupReadyReceive span num pkg crc s) := by
  grind [opGroupReadyReceive, State.updRed_kept, State.updGroup_kept, State.checkReady_kept, foldl_kept, = kept_mk, =
      keptF_fold]

theorem State.enterGroup_kept (g : Group) {s : State} (hs : Kept W a s) : Kept W a (State.enterGroup g s).1 := by
  grind [State.enterGroup, State.updRed_kept, State.declareEdges_kept, State.groupsProgress_kept, foldl_kept, = kept_mk,
      = keptF_fold]

theorem groupDefineBody_kept (c : CmdId) (p : Nat) (e : Entry) {s : State} (hs : Kept W a s) : Kept W a
    (groupDefineBody c p e s).1 := by
  grind (gen := 30) (ematch := 30) (splits := 30) [groupDefineBody, State.takeArg_kept, State.enterGroup_kept,
      foldl_kept, = kept_mk, = keptF_fold]

theorem specGroupDefine_kept {s : State} (hs : Kept W a s) (c : CmdId) (p : Nat) (e : Entry) : Kept W a
    (specGroupDefine.body c p e s).1 := by
  simp only [specGroupDefine]; grind [groupDefineBody_kept, foldl_kept, = kept_mk, = keptF_fold]

theorem opGroupDefineTimeout_kept (index : BitVec 8) {s : State} (hs : Kept W a s) : Kept W a (opGroupDefineTimeout
    index s) := by
  grind [opGroupDefineTimeout, State.takeFree_kept, State.failDefine_kept, foldl_kept, = kept_mk, = keptF_fold]

theorem State.endReductions_kept (g : Group) (oc : Oc) (rs : Reason) {s : State} (hs : Kept W a s) : Kept W a
    (State.endReductions g oc rs s) := by
  grind [State.endReductions, State.updRed_kept, foldl_kept, = kept_mk, = keptF_fold]

theorem State.lostEarly_kept (g : Group) (lost : List (Nat × Bool)) {s : State} (hs : Kept W a s) : Kept W a
    (State.lostEarly g lost s) := by
  grind [State.lostEarly, State.updGroup_kept, State.groupsProgress_kept, foldl_kept, = kept_mk, = keptF_fold]

theorem State.lostKilled_kept (g : Group) (lost : List (Nat × Bool)) {s : State} (hs : Kept W a s) : Kept W a
    (State.lostKilled g lost s) := by
  grind [State.lostKilled, State.updGroup_kept, State.groupsProgress_kept, State.announceRepair_kept, foldl_kept, =
      kept_mk, = keptF_fold]

theorem State.lostRebuild_kept (g : Group) (lost : List (Nat × Bool)) {s : State} (hs : Kept W a s) : Kept W a
    (State.lostRebuild g lost s) := by
  grind [State.lostRebuild, State.updRed_kept, State.updGroup_kept, State.declareEdges_kept, State.groupsProgress_kept,
      foldl_kept, = kept_mk, = keptF_fold]

theorem State.memberLost_kept (g : Group) (rank : Nat) (killed : Bool) {s : State} (hs : Kept W a s) : Kept W a
    (State.memberLost g rank killed s) := by
  grind [State.memberLost, State.lostEarly_kept, State.lostKilled_kept, State.lostRebuild_kept, foldl_kept, = kept_mk, =
      keptF_fold]

theorem opGroupActiveReceive_kept (span : BitVec 16) (num : BitVec 8) {s : State} (hs : Kept W a s) : Kept W a
    (opGroupActiveReceive span num s) := by
  grind [opGroupActiveReceive, State.finishAll_kept, State.updGroup_kept, State.memberLost_kept, foldl_kept, = kept_mk,
      = keptF_fold]

theorem opGroupLossReceive_kept (span : BitVec 16) (num : BitVec 8) (pkg : Fin 128) (killed : Bool) {s : State} (hs :
    Kept W a s) : Kept W a (opGroupLossReceive span num pkg killed s) := by
  grind [opGroupLossReceive, State.memberLost_kept, foldl_kept, = kept_mk, = keptF_fold]

theorem State.groupsLose_kept (pkg : Nat) {s : State} (hs : Kept W a s) : Kept W a (State.groupsLose pkg s) := by
  grind [State.groupsLose, State.memberLost_kept, foldl_kept, = kept_mk, = keptF_fold]

theorem opRepairAnnounceReceive_kept (span : BitVec 16) (num : BitVec 8) (round : BitVec 4) (lost : List (Nat × Bool))
    (restart : FrameNo) {s : State} (hs : Kept W a s) : Kept W a (opRepairAnnounceReceive span num round lost restart
    s) := by
  grind [opRepairAnnounceReceive, State.updGroup_kept, foldl_kept, = kept_mk, = keptF_fold]

theorem opGroupRepairTimeout_kept (index : BitVec 8) {s : State} (hs : Kept W a s) : Kept W a (opGroupRepairTimeout
    index s) := by
  grind [opGroupRepairTimeout, State.updGroup_kept, State.endReductions_kept, State.memberLost_kept, foldl_kept, =
      kept_mk, = keptF_fold]

theorem State.groupWatchdog_kept (span : BitVec 16) (num : Nat) {s : State} (hs : Kept W a s) : Kept W a
    (State.groupWatchdog span num s) := by
  grind [State.groupWatchdog, State.killCtx_kept, foldl_kept, = kept_mk, = keptF_fold]

theorem State.askRestart_kept (g : Group) {s : State} (hs : Kept W a s) : Kept W a (State.askRestart g s) := by
  grind [State.askRestart, State.send_kept, State.announceRepair_kept, foldl_kept, = kept_mk, = keptF_fold]

theorem State.takeMismatch_kept (span : BitVec 16) (num : Nat) {s : State} (hs : Kept W a s) : Kept W a
    (State.takeMismatch span num s) := by
  grind [State.takeMismatch, State.askRestart_kept, foldl_kept, = kept_mk, = keptF_fold]

theorem State.takeGroupFail_kept (span : BitVec 16) (num : Nat) (oc : Oc) (rs : Reason) {s : State} (hs : Kept W a s)
    : Kept W a (State.takeGroupFail span num oc rs s) := by
  grind [State.takeGroupFail, State.failDefine_kept, foldl_kept, = kept_mk, = keptF_fold]

theorem groupReleaseBody_kept (x0 : CmdId) (p : Nat) (e : Entry) {s : State} (hs : Kept W a s) : Kept W a
    (groupReleaseBody x0 p e s).1 := by
  grind [groupReleaseBody, State.sendAll_kept, State.dropGroup_kept, foldl_kept, = kept_mk, = keptF_fold]

theorem specGroupRelease_kept {s : State} (hs : Kept W a s) (c : CmdId) (p : Nat) (e : Entry) : Kept W a
    (specGroupRelease.body c p e s).1 := by
  simp only [specGroupRelease]; grind [groupReleaseBody_kept, foldl_kept, = kept_mk, = keptF_fold]

theorem specGroupQuery_kept {s : State} (hs : Kept W a s) (c : CmdId) (p : Nat) (e : Entry) : Kept W a
    (specGroupQuery.body c p e s).1 := by
  simp only [specGroupQuery]; grind [foldl_kept, = kept_mk, = keptF_fold]

theorem commqCreateBody_kept (c : CmdId) (p : Nat) (e : Entry) {s : State} (hs : Kept W a s) : Kept W a
    (commqCreateBody c p e s).1 := by
  grind [commqCreateBody, State.updRed_kept, foldl_kept, = kept_mk, = keptF_fold]

theorem specCommqCreate_kept {s : State} (hs : Kept W a s) (c : CmdId) (p : Nat) (e : Entry) : Kept W a
    (specCommqCreate.body c p e s).1 := by
  simp only [specCommqCreate]; grind [commqCreateBody_kept, foldl_kept, = kept_mk, = keptF_fold]

theorem commqDestroyBody_kept (x0 : CmdId) (p : Nat) (e : Entry) {s : State} (hs : Kept W a s) : Kept W a
    (commqDestroyBody x0 p e s).1 := by
  grind [commqDestroyBody, State.updRed_kept, State.updGroup_kept, foldl_kept, = kept_mk, = keptF_fold]

theorem specCommqDestroy_kept {s : State} (hs : Kept W a s) (c : CmdId) (p : Nat) (e : Entry) : Kept W a
    (specCommqDestroy.body c p e s).1 := by
  simp only [specCommqDestroy]; grind [commqDestroyBody_kept, foldl_kept, = kept_mk, = keptF_fold]

theorem execGroupDefine_kept (m : Fin 18) (e : Entry) {s : State} (hs : Kept W a s) {t : State} (e_ : execGroupDefine
    m e s = .next t) : Kept W a t := by
  grind [execGroupDefine, serve_kept, specGroupDefine_kept, foldl_kept, = kept_mk, = keptF_fold]

theorem execGroupRelease_kept (m : Fin 18) (e : Entry) {s : State} (hs : Kept W a s) {t : State} (e_ :
    execGroupRelease m e s = .next t) : Kept W a t := by
  grind [execGroupRelease, serve_kept, specGroupRelease_kept, foldl_kept, = kept_mk, = keptF_fold]

theorem execGroupQuery_kept (m : Fin 18) (e : Entry) {s : State} (hs : Kept W a s) {t : State} (e_ : execGroupQuery m
    e s = .next t) : Kept W a t := by
  grind [execGroupQuery, serve_kept, specGroupQuery_kept, foldl_kept, = kept_mk, = keptF_fold]

theorem execCommqCreate_kept (m : Fin 18) (e : Entry) {s : State} (hs : Kept W a s) {t : State} (e_ : execCommqCreate
    m e s = .next t) : Kept W a t := by
  grind [execCommqCreate, serve_kept, specCommqCreate_kept, foldl_kept, = kept_mk, = keptF_fold]

theorem execCommqDestroy_kept (m : Fin 18) (e : Entry) {s : State} (hs : Kept W a s) {t : State} (e_ :
    execCommqDestroy m e s = .next t) : Kept W a t := by
  grind [execCommqDestroy, serve_kept, specCommqDestroy_kept, foldl_kept, = kept_mk, = keptF_fold]

theorem execGroupReadyReceive_kept (span : BitVec 16) (num : BitVec 8) (pkg : Fin 128) (crc : BitVec 32) {s : State}
    (hs : Kept W a s) {t : State} (e_ : execGroupReadyReceive span num pkg crc s = .next t) : Kept W a t := by
  grind [execGroupReadyReceive, State.whenClocked_kept, State.toChoesk_kept, opGroupReadyReceive_kept, foldl_kept, =
      kept_mk, = keptF_fold]

theorem execGroupActiveReceive_kept (span : BitVec 16) (num : BitVec 8) {s : State} (hs : Kept W a s) {t : State} (e_
    : execGroupActiveReceive span num s = .next t) : Kept W a t := by
  grind [execGroupActiveReceive, State.whenClocked_kept, State.toChoesk_kept, opGroupActiveReceive_kept, foldl_kept, =
      kept_mk, = keptF_fold]

theorem execGroupDefineTimeout_kept (index : BitVec 8) {s : State} (hs : Kept W a s) {t : State} (e_ :
    execGroupDefineTimeout index s = .next t) : Kept W a t := by
  grind [execGroupDefineTimeout, State.whenClocked_kept, opGroupDefineTimeout_kept, foldl_kept, = kept_mk, = keptF_fold]

theorem execGroupLossReceive_kept (span : BitVec 16) (num : BitVec 8) (pkg : Fin 128) (killed : Bool) {s : State} (hs
    : Kept W a s) {t : State} (e_ : execGroupLossReceive span num pkg killed s = .next t) : Kept W a t := by
  grind [execGroupLossReceive, State.whenClocked_kept, State.toChoesk_kept, opGroupLossReceive_kept, foldl_kept, =
      kept_mk, = keptF_fold]

theorem execRepairAnnounceReceive_kept (span : BitVec 16) (num : BitVec 8) (round : BitVec 4) (lost : List (Nat ×
    Bool)) (restart : FrameNo) {s : State} (hs : Kept W a s) {t : State} (e_ : execRepairAnnounceReceive span num
    round lost restart s = .next t) : Kept W a t := by
  grind [execRepairAnnounceReceive, State.whenClocked_kept, State.toChoesk_kept, opRepairAnnounceReceive_kept,
      foldl_kept, = kept_mk, = keptF_fold]

theorem execGroupRepairTimeout_kept (index : BitVec 8) {s : State} (hs : Kept W a s) {t : State} (e_ :
    execGroupRepairTimeout index s = .next t) : Kept W a t := by
  grind [execGroupRepairTimeout, State.whenClocked_kept, opGroupRepairTimeout_kept, foldl_kept, = kept_mk, = keptF_fold]

end Sys2Proof.Machine
end

