-- ==== Sys2Proof/Laws/KeptReduce.lean ====
section
/-! SUPPORT. One lemma for each operation of Machine/Reduce.lean that gives a state: it keeps what `Kept` says. -/

namespace Sys2Proof.Machine

open Sys2Proof

/- In turn, not as parallel tasks: each task that waits for another holds a stack of its own. -/
set_option Elab.async false

variable {W : Prop} {a : State}

theorem State.updReduction_kept (g : Group) (seq : Nat) (f : Reduction → Reduction) {s : State} (hs : Kept W a s) :
    Kept W a (State.updReduction g seq f s) := by
  grind [State.updReduction, State.updRed_kept, foldl_kept, = kept_mk, = keptF_fold]

theorem State.readRuns_kept (w : Who) (size : Nat) (l : List (Nat × Nat)) (acc : List Byte) {s : State} (hs : Kept W a
    s) :
    Kept W a (State.readRuns w size l acc s).1 := by
  induction l generalizing acc s with
  | nil => exact hs
  | cons x t ih => exact gotThen_kept (State.readDva_kept _ _ _ hs) (fun _ _ h => ih _ h)

theorem State.writeRuns_kept (w : Who) (size : Nat) (l : List (Nat × Nat)) (bs : List Byte) {s : State} (hs : Kept W a
    s) :
    Kept W a (State.writeRuns w size l bs s).1 := by
  induction l generalizing bs s with
  | nil => exact hs
  | cons x t ih => exact gotThen_kept (State.writeDva_kept _ _ _ hs) (fun _ _ h => ih _ h)

theorem State.hold_kept (g : Group) (r : Reduction) (vs : List (BitVec 32)) {s : State} (hs : Kept W a s) : Kept W a
    (State.hold g r vs s) := by
  grind [State.hold, State.updRed_kept, State.updReduction_kept, foldl_kept, = kept_mk, = keptF_fold]

theorem opChunkIntake_kept (p q : Fin 16) {s : State} (hs : Kept W a s) : Kept W a (opChunkIntake p q s) := by
  grind (gen := 30) (ematch := 30) (splits := 30) [opChunkIntake, State.killStart_kept, State.readRuns_kept,
      State.hold_kept, foldl_kept, = kept_mk, = keptF_fold]

theorem opStagingBufferTake_kept (p q : Fin 16) {s : State} (hs : Kept W a s) : Kept W a (opStagingBufferTake p q s)
    := by
  grind (gen := 30) (ematch := 30) (splits := 30) [opStagingBufferTake, State.updReduction_kept, State.hold_kept,
      foldl_kept, = kept_mk, = keptF_fold]

theorem opReductionExplicit_kept (id : Nat) {s : State} (hs : Kept W a s) : Kept W a (opReductionExplicit id s) := by
  grind [opReductionExplicit, State.updSeqp_kept, State.updCommq_kept, State.runTile_kept, foldl_kept, = kept_mk, =
      keptF_fold]

theorem State.stageTile_kept (o : Op) (es : List (BitVec 32)) {s : State} (hs : Kept W a s) : Kept W a
    (State.stageTile o es s).1 := by
  grind [State.stageTile, gotThen_kept, State.updCommq_kept, State.writeRuns_kept, foldl_kept, = kept_mk, = keptF_fold]

theorem State.fusedTile_kept (o : Op) {s : State} (hs : Kept W a s) : Kept W a (State.fusedTile o s).1 := by
  grind [State.fusedTile, State.writeRows_kept, gotThen_kept, State.endTile_kept, State.mulAt_kept,
      State.mulCompute_kept, State.stageTile_kept, foldl_kept, = kept_mk, = keptF_fold]

theorem opFusedMultiplyReduce_kept (id : Nat) {s : State} (hs : Kept W a s) : Kept W a (opFusedMultiplyReduce id s) :=
    by
  grind [opFusedMultiplyReduce, State.runTile_kept, State.fusedTile_kept, foldl_kept, = kept_mk, = keptF_fold]

theorem State.retireEngine_kept (e : Nat) {s : State} (hs : Kept W a s) : Kept W a (State.retireEngine e s) := by
  grind [State.retireEngine, State.log_kept, State.updEngine_kept, foldl_kept, = kept_mk, = keptF_fold]

theorem State.mismatchOn_kept (e : Nat) {s : State} (hs : Kept W a s) : Kept W a (State.mismatchOn e s) := by
  grind [State.mismatchOn, State.updEngine_kept, State.retireEngine_kept, foldl_kept, = kept_mk, = keptF_fold]

theorem State.checkAdder_kept (g : Group) (tree seq : Nat) {s : State} (hs : Kept W a s) : Kept W a (State.checkAdder
    g tree seq s).1 := by
  grind (gen := 30) (ematch := 30) (splits := 30) [State.checkAdder, State.takeFree_kept, State.updEngine_kept,
      State.askRestart_kept, State.updReduction_kept, State.retireEngine_kept, State.mismatchOn_kept, foldl_kept, =
      kept_mk, = keptF_fold]

theorem State.writeResult_kept (g : Group) (i : Image) (tree : Nat) {s : State} (hs : Kept W a s) : Kept W a
    (State.writeResult g i tree s).1 := by
  grind [State.writeResult, gotThen_kept, State.updReduction_kept, State.writeRuns_kept, foldl_kept, = kept_mk, =
      keptF_fold]

theorem State.sendImage_kept (g : Group) (tree lane : Nat) (i : Image) (targets : List Nat) {s : State} (hs : Kept W a
    s) : Kept W a (State.sendImage g tree lane i targets s) := by
  grind [State.sendImage, State.updRed_kept, foldl_kept, = kept_mk, = keptF_fold]

theorem State.updLane_kept (g : Group) (tree lane : Nat) (f : LaneAt → LaneAt) {s : State} (hs : Kept W a s) : Kept W
    a (State.updLane g tree lane f s) := by
  grind [State.updLane, State.updRed_kept, foldl_kept, = kept_mk, = keptF_fold]

theorem State.agree_kept (g : Group) (i : Image) {s : State} (hs : Kept W a s) : Kept W a (State.agree g i s) := by
  grind [State.agree, State.updRed_kept, foldl_kept, = kept_mk, = keptF_fold]

theorem State.afterUp_kept (g : Group) (tree lane : Nat) (i : Image) (root : Bool) {s : State} (hs : Kept W a s) :
    Kept W a (State.afterUp g tree lane i root s) := by
  grind [State.afterUp, State.updRed_kept, State.updLane_kept, State.agree_kept, foldl_kept, = kept_mk, = keptF_fold]

theorem State.rootStage_kept (g : Group) (tree lane : Nat) (i : Image) {s : State} (hs : Kept W a s) : Kept W a
    (State.rootStage g tree lane i s) := by
  grind [State.rootStage, State.killStart_kept, State.writeResult_kept, State.sendImage_kept, State.afterUp_kept,
      foldl_kept, = kept_mk, = keptF_fold]

theorem State.upStage_kept (g : Group) (tree lane : Nat) (exp : Bool) {s : State} (hs : Kept W a s) : Kept W a
    (State.upStage g tree lane exp s) := by
  grind [State.upStage, State.checkAdder_kept, State.sendImage_kept, State.afterUp_kept, State.rootStage_kept,
      foldl_kept, = kept_mk, = keptF_fold]

theorem State.downStage_kept (g : Group) (tree lane : Nat) (exp : Bool) {s : State} (hs : Kept W a s) : Kept W a
    (State.downStage g tree lane exp s) := by
  grind (gen := 30) (ematch := 30) (splits := 30) [State.downStage, State.updRed_kept, State.killStart_kept,
      State.writeResult_kept, State.sendImage_kept, State.updLane_kept, State.agree_kept, foldl_kept, = kept_mk, =
      keptF_fold]

theorem State.laneStages_kept (i tree lane : Nat) {s : State} (hs : Kept W a s) : Kept W a (State.laneStages i tree
    lane s) := by
  grind [State.laneStages, State.upStage_kept, State.downStage_kept, foldl_kept, = kept_mk, = keptF_fold]

theorem State.recordLoop_kept (p q fuel : Nat) {s : State} (hs : Kept W a s) : Kept W a (State.recordLoop p q fuel s) := by
  induction fuel generalizing s with
  | zero => exact hs
  | succ k ih => grind (gen := 30) (ematch := 30) (splits := 30) [State.recordLoop, State.takeFree_kept,
      State.writeArg_kept, State.updCommq_kept, State.updGroup_kept, State.fireVec_kept]

theorem State.redCommit_kept {s : State} (hs : Kept W a s) : Kept W a (State.redCommit s) := by
  grind [State.redCommit, State.updRed_kept, State.endReductions_kept, State.memberLost_kept, State.laneStages_kept,
      State.recordLoop_kept, foldl_kept, = kept_mk, = keptF_fold]

theorem State.rewind_kept (g : Group) (seq : Nat) {s : State} (hs : Kept W a s) : Kept W a (State.rewind g seq s) :=
    by
  grind [State.rewind, State.updRed_kept, foldl_kept, = kept_mk, = keptF_fold]

theorem opReductionRestart_kept (index : BitVec 8) {s : State} (hs : Kept W a s) : Kept W a (opReductionRestart index
    s) := by
  grind [opReductionRestart, State.updRed_kept, State.sendAll_kept, State.killCtx_kept, State.updGroup_kept,
      State.groupWatchdog_kept, State.rewind_kept, foldl_kept, = kept_mk, = keptF_fold]

theorem opChunkImageReceive_kept (span : BitVec 16) (img : Image) {s : State} (hs : Kept W a s) : Kept W a
    (opChunkImageReceive span img s) := by
  grind [opChunkImageReceive, State.updRed_kept, State.askRestart_kept, State.mismatchOn_kept, State.rewind_kept,
      foldl_kept, = kept_mk, = keptF_fold]

theorem opRedCqHeadWrite_kept (p q : Fin 16) (v : W64) {s : State} (hs : Kept W a s) : Kept W a (opRedCqHeadWrite p q
    v s) := by
  grind [opRedCqHeadWrite, State.updCommq_kept, foldl_kept, = kept_mk, = keptF_fold]

theorem opPlanCommit_kept {s : State} (hs : Kept W a s) : Kept W a (opPlanCommit s) := by
  grind [opPlanCommit, State.planCommit_kept, State.groupsProgress_kept, foldl_kept, = kept_mk, = keptF_fold]

theorem execRedCqHeadWrite_kept (p : Fin 16) (q : Fin 16) (v : W64) {s : State} (hs : Kept W a s) {t : State} (e_ :
    execRedCqHeadWrite p q v s = .next t) : Kept W a t := by
  grind [execRedCqHeadWrite, State.whenPcie_kept, opRedCqHeadWrite_kept, foldl_kept, = kept_mk, = keptF_fold]

theorem execPlanCommit_kept {s : State} (hs : Kept W a s) {t : State} (e_ : execPlanCommit s = .next t) : Kept W a t
    := by
  grind [execPlanCommit, State.whenClocked_kept, opPlanCommit_kept, foldl_kept, = kept_mk, = keptF_fold]

theorem execReductionExplicit_kept (id : Nat) {s : State} (hs : Kept W a s) {t : State} (e_ : execReductionExplicit id
    s = .next t) : Kept W a t := by
  grind [execReductionExplicit, State.whenClocked_kept, opReductionExplicit_kept, foldl_kept, = kept_mk, = keptF_fold]

theorem execFusedMultiplyReduce_kept (id : Nat) {s : State} (hs : Kept W a s) {t : State} (e_ :
    execFusedMultiplyReduce id s = .next t) : Kept W a t := by
  grind [execFusedMultiplyReduce, State.whenClocked_kept, opFusedMultiplyReduce_kept, foldl_kept, = kept_mk, =
      keptF_fold]

theorem execReductionRestart_kept (index : BitVec 8) {s : State} (hs : Kept W a s) {t : State} (e_ :
    execReductionRestart index s = .next t) : Kept W a t := by
  grind [execReductionRestart, State.whenClocked_kept, opReductionRestart_kept, foldl_kept, = kept_mk, = keptF_fold]

theorem execChunkImageReceive_kept (span : BitVec 16) (img : Image) {s : State} (hs : Kept W a s) {t : State} (e_ :
    execChunkImageReceive span img s = .next t) : Kept W a t := by
  grind [execChunkImageReceive, State.whenClocked_kept, opChunkImageReceive_kept, foldl_kept, = kept_mk, = keptF_fold]

theorem execChunkIntake_kept (p : Fin 16) (q : Fin 16) {s : State} (hs : Kept W a s) {t : State} (e_ : execChunkIntake
    p q s = .next t) : Kept W a t := by
  grind [execChunkIntake, State.whenClocked_kept, opChunkIntake_kept, foldl_kept, = kept_mk, = keptF_fold]

theorem execStagingBufferTake_kept (p : Fin 16) (q : Fin 16) {s : State} (hs : Kept W a s) {t : State} (e_ :
    execStagingBufferTake p q s = .next t) : Kept W a t := by
  grind [execStagingBufferTake, State.whenClocked_kept, opStagingBufferTake_kept, foldl_kept, = kept_mk, = keptF_fold]

end Sys2Proof.Machine
end

