-- ==== Sys2Proof/Laws/KeptPower.lean ====
section
/-! SUPPORT. One lemma for each operation of Machine/Power.lean that gives a state: it keeps what `Kept` says. -/

namespace Sys2Proof.Machine

open Sys2Proof

/- In turn, not as parallel tasks: each task that waits for another holds a stack of its own. -/
set_option Elab.async false

variable {W : Prop} {a : State}

theorem State.loadCredit_kept {s : State} (hs : Kept W a s) : Kept W a (State.loadCredit s) := by
  grind [State.loadCredit, State.updPwrp_kept, State.updPwr_kept, foldl_kept, = kept_mk, = keptF_fold]

theorem State.lockOps_kept {s : State} (hs : Kept W a s) : Kept W a (State.lockOps s) := by
  grind [State.lockOps, State.updPwrp_kept, State.updAdm_kept, State.updCopies_kept, foldl_kept, = kept_mk, =
      keptF_fold]

theorem State.countIdle_kept {s : State} (hs : Kept W a s) : Kept W a (State.countIdle s) := by
  grind [State.countIdle, State.updPwrp_kept, foldl_kept, = kept_mk, = keptF_fold]

theorem State.countWaits_kept (os : List Op) {s : State} (hs : Kept W a s) : Kept W a (State.countWaits os s) := by
  grind [State.countWaits, State.updPwr_kept, State.updOp_kept, foldl_kept, = kept_mk, = keptF_fold]

theorem State.chargeFill_kept (f : Fill) (cycles : Nat) {s : State} (hs : Kept W a s) : Kept W a (State.chargeFill f
    cycles s) := by
  grind [State.chargeFill, State.updPwrp_kept, State.updPwr_kept, foldl_kept, = kept_mk, = keptF_fold]

theorem State.startEngine_kept (o : Op) (e : Nat) {s : State} (hs : Kept W a s) : Kept W a (State.startEngine o e s)
    := by
  grind [State.startEngine, State.updPwr_kept, State.takeFree_kept, State.chargeFill_kept, foldl_kept, = kept_mk, =
      keptF_fold]

theorem opEngineStart_kept (die : Die) (ns : Nat) {s : State} (hs : Kept W a s) : Kept W a (opEngineStart die ns s) :=
    by
  grind [opEngineStart, State.updPwr_kept, State.updOp_kept, State.countWaits_kept, State.startEngine_kept, foldl_kept,
      = kept_mk, = keptF_fold]

theorem opFillHoldExpiry_kept (tiller : Fin 128) {s : State} (hs : Kept W a s) : Kept W a (opFillHoldExpiry tiller s)
    := by
  grind [opFillHoldExpiry, State.updPwr_kept, foldl_kept, = kept_mk, = keptF_fold]

theorem opFillRelease_kept (die : Die) (ns : Nat) (cycles : Nat) {s : State} (hs : Kept W a s) : Kept W a
    (opFillRelease die ns cycles s) := by
  grind [opFillRelease, State.updPwr_kept, State.chargeFill_kept, foldl_kept, = kept_mk, = keptF_fold]

theorem State.updSensor_kept (id : Nat) (f : Sensor → Sensor) {s : State} (hs : Kept W a s) : Kept W a
    (State.updSensor id f s) := by
  grind [State.updSensor, State.updMgt_kept, foldl_kept, = kept_mk, = keptF_fold]

theorem State.failSensor_kept (id : Nat) {s : State} (hs : Kept W a s) : Kept W a (State.failSensor id s) := by
  grind [State.failSensor, State.log_kept, State.updSensor_kept, foldl_kept, = kept_mk, = keptF_fold]

theorem State.readSensor_kept (id : Nat) (v : Option (BitVec 16)) {s : State} (hs : Kept W a s) : Kept W a
    (State.readSensor id v s) := by
  unfold State.readSensor
  split <;> grind (gen := 30) (ematch := 30) (splits := 30) [State.updSensor_kept, State.failSensor_kept, foldl_kept, =
      kept_mk, = keptF_fold]

theorem opSensorSample_kept (sensor : BitVec 16) (value : BitVec 16) (good : Bool) {s : State} (hs : Kept W a s) :
    Kept W a (opSensorSample sensor value good s) := by
  grind [opSensorSample, State.readSensor_kept, foldl_kept, = kept_mk, = keptF_fold]

theorem State.trip_kept (temp sensor : Nat) {s : State} (hs : Kept W a s) : Kept W a (State.trip temp sensor s) := by
  grind [State.trip, State.updPor_kept, State.log_kept, foldl_kept, = kept_mk, = keptF_fold]

theorem opThermalSample_kept (temps : List (Option Int)) {s : State} (hs : Kept W a s) : Kept W a (opThermalSample
    temps s) := by
  grind [opThermalSample, State.updPwr_kept, State.readSensor_kept, State.trip_kept, foldl_kept, = kept_mk, =
      keptF_fold]

theorem State.evalHottest_kept {s : State} (hs : Kept W a s) : Kept W a (State.evalHottest s) := by
  grind [State.evalHottest, State.updPwr_kept, foldl_kept, = kept_mk, = keptF_fold]

theorem State.stepClock_kept (level : Nat) {s : State} (hs : Kept W a s) : Kept W a (State.stepClock level s) := by
  grind [State.stepClock, State.updPwr_kept, State.fireVec_kept, State.log_kept, foldl_kept, = kept_mk, = keptF_fold]

theorem State.thermalCommit_kept (ns : Nat) {s : State} (hs : Kept W a s) : Kept W a (State.thermalCommit ns s) := by
  grind [State.thermalCommit, State.updPwr_kept, State.fireVec_kept, State.log_kept, State.stepClock_kept, foldl_kept, =
      kept_mk, = keptF_fold]

theorem opBaseChargeUpdate_kept (eIn : Nat) (failed : Bool) {s : State} (hs : Kept W a s) : Kept W a
    (opBaseChargeUpdate eIn failed s) := by
  grind [opBaseChargeUpdate, State.updPwr_kept, foldl_kept, = kept_mk, = keptF_fold]

theorem State.pendCap_kept (cap : BitVec 7) (frame : FrameNo) (src : Option Nat) {s : State} (hs : Kept W a s) : Kept
    W a (State.pendCap cap frame src s) := by
  grind [State.pendCap, State.updPwr_kept, foldl_kept, = kept_mk, = keptF_fold]

theorem State.takeCapAck_kept (cap : BitVec 7) (frame : FrameNo) (pkg : Nat) {s : State} (hs : Kept W a s) : Kept W a
    (State.takeCapAck cap frame pkg s) := by
  grind [State.takeCapAck, State.updPwr_kept, State.finishAll_kept, foldl_kept, = kept_mk, = keptF_fold]

theorem State.capCommit_kept {s : State} (hs : Kept W a s) : Kept W a (State.capCommit s) := by
  grind [State.capCommit, State.updPwr_kept, State.finishAll_kept, State.send_kept, State.takeCapAck_kept, foldl_kept, =
      kept_mk, = keptF_fold]

theorem State.sheafCap_kept (cap : BitVec 7) (c : Option CmdId) {s : State} (hs : Kept W a s) : Kept W a
    (State.sheafCap cap c s) := by
  grind [State.sheafCap, State.updPwr_kept, State.sendAll_kept, State.pendCap_kept, foldl_kept, = kept_mk, = keptF_fold]

theorem pwrSetCapBody_kept (c : CmdId) (x0 : Nat) (e : Entry) {s : State} (hs : Kept W a s) : Kept W a (pwrSetCapBody
    c x0 e s).1 := by
  grind [pwrSetCapBody, State.updPwr_kept, State.stage_kept, State.pendCap_kept, State.sheafCap_kept, foldl_kept, =
      kept_mk, = keptF_fold]

theorem specPwrSetCap_kept {s : State} (hs : Kept W a s) (c : CmdId) (p : Nat) (e : Entry) : Kept W a
    (specPwrSetCap.body c p e s).1 := by
  simp only [specPwrSetCap]; grind [pwrSetCapBody_kept, foldl_kept, = kept_mk, = keptF_fold]

theorem pwrQueryBody_kept (c : CmdId) (p : Nat) (e : Entry) {s : State} (hs : Kept W a s) : Kept W a (pwrQueryBody c p
    e s).1 := by
  grind [pwrQueryBody, foldl_kept, = kept_mk, = keptF_fold]

theorem specPwrQuery_kept {s : State} (hs : Kept W a s) (c : CmdId) (p : Nat) (e : Entry) : Kept W a
    (specPwrQuery.body c p e s).1 := by
  simp only [specPwrQuery]; grind [pwrQueryBody_kept, foldl_kept, = kept_mk, = keptF_fold]

theorem execPwrSetCapPackage_kept (m : Fin 18) (e : Entry) {s : State} (hs : Kept W a s) {t : State} (e_ :
    execPwrSetCapPackage m e s = .next t) : Kept W a t := by
  grind [execPwrSetCapPackage, serve_kept, specPwrSetCap_kept, foldl_kept, = kept_mk, = keptF_fold]

theorem execPwrSetCapSheaf_kept (m : Fin 18) (e : Entry) {s : State} (hs : Kept W a s) {t : State} (e_ :
    execPwrSetCapSheaf m e s = .next t) : Kept W a t := by
  grind [execPwrSetCapSheaf, serve_kept, specPwrSetCap_kept, foldl_kept, = kept_mk, = keptF_fold]

theorem opCapSetReceive_kept (cap : BitVec 7) (frame : FrameNo) (pkg : Fin 128) {s : State} (hs : Kept W a s) : Kept W
    a (opCapSetReceive cap frame pkg s) := by
  grind [opCapSetReceive, State.pendCap_kept, foldl_kept, = kept_mk, = keptF_fold]

theorem opCapAckReceive_kept (cap : BitVec 7) (frame : FrameNo) (pkg : Fin 128) {s : State} (hs : Kept W a s) : Kept W
    a (opCapAckReceive cap frame pkg s) := by
  grind [opCapAckReceive, State.takeCapAck_kept, foldl_kept, = kept_mk, = keptF_fold]

theorem opSheafCapTimeout_kept {s : State} (hs : Kept W a s) : Kept W a (opSheafCapTimeout s) := by
  grind [opSheafCapTimeout, State.updPwr_kept, State.finishAll_kept, foldl_kept, = kept_mk, = keptF_fold]

theorem execPwrQuery_kept (m : Fin 18) (e : Entry) {s : State} (hs : Kept W a s) {t : State} (e_ : execPwrQuery m e s
    = .next t) : Kept W a t := by
  grind [execPwrQuery, serve_kept, specPwrQuery_kept, foldl_kept, = kept_mk, = keptF_fold]

theorem execEngineStart_kept (die : Die) (ns : Nat) {s : State} (hs : Kept W a s) {t : State} (e_ : execEngineStart
    die ns s = .next t) : Kept W a t := by
  grind [execEngineStart, State.whenClocked_kept, opEngineStart_kept, foldl_kept, = kept_mk, = keptF_fold]

theorem execFillHoldExpiry_kept (tiller : Fin 128) {s : State} (hs : Kept W a s) {t : State} (e_ : execFillHoldExpiry
    tiller s = .next t) : Kept W a t := by
  grind [execFillHoldExpiry, State.whenClocked_kept, opFillHoldExpiry_kept, foldl_kept, = kept_mk, = keptF_fold]

theorem execFillRelease_kept (die : Die) (ns : Nat) (cycles : Nat) {s : State} (hs : Kept W a s) {t : State} (e_ :
    execFillRelease die ns cycles s = .next t) : Kept W a t := by
  grind [execFillRelease, State.whenClocked_kept, opFillRelease_kept, foldl_kept, = kept_mk, = keptF_fold]

theorem execThermalSample_kept (temps : List (Option Int)) {s : State} (hs : Kept W a s) {t : State} (e_ :
    execThermalSample temps s = .next t) : Kept W a t := by
  grind [execThermalSample, State.whenClocked_kept, opThermalSample_kept, foldl_kept, = kept_mk, = keptF_fold]

theorem execBaseChargeUpdate_kept (eIn : Nat) (failed : Bool) {s : State} (hs : Kept W a s) {t : State} (e_ :
    execBaseChargeUpdate eIn failed s = .next t) : Kept W a t := by
  grind [execBaseChargeUpdate, State.whenClocked_kept, opBaseChargeUpdate_kept, foldl_kept, = kept_mk, = keptF_fold]

theorem execCapSetReceive_kept (cap : BitVec 7) (frame : FrameNo) (pkg : Fin 128) {s : State} (hs : Kept W a s) {t :
    State} (e_ : execCapSetReceive cap frame pkg s = .next t) : Kept W a t := by
  grind [execCapSetReceive, State.whenClocked_kept, State.toChoesk_kept, opCapSetReceive_kept, foldl_kept, = kept_mk, =
      keptF_fold]

theorem execCapAckReceive_kept (cap : BitVec 7) (frame : FrameNo) (pkg : Fin 128) {s : State} (hs : Kept W a s) {t :
    State} (e_ : execCapAckReceive cap frame pkg s = .next t) : Kept W a t := by
  grind [execCapAckReceive, State.whenClocked_kept, State.toChoesk_kept, opCapAckReceive_kept, foldl_kept, = kept_mk, =
      keptF_fold]

theorem execSheafCapTimeout_kept {s : State} (hs : Kept W a s) {t : State} (e_ : execSheafCapTimeout s = .next t) :
    Kept W a t := by
  grind [execSheafCapTimeout, State.whenClocked_kept, opSheafCapTimeout_kept, foldl_kept, = kept_mk, = keptF_fold]

theorem execSensorSample_kept (sensor : BitVec 16) (value : BitVec 16) (good : Bool) {s : State} (hs : Kept W a s) {t
    : State} (e_ : execSensorSample sensor value good s = .next t) : Kept W a t := by
  grind [execSensorSample, State.whenClocked_kept, opSensorSample_kept, foldl_kept, = kept_mk, = keptF_fold]

end Sys2Proof.Machine
end

