-- ==== Sys2Proof/Laws/KeptBoot.lean ====
section
/-! SUPPORT. One lemma for each operation of Machine/Boot.lean that gives a state: it keeps what `Kept` says. -/

namespace Sys2Proof.Machine

open Sys2Proof

/- In turn, not as parallel tasks: each task that waits for another holds a stack of its own. -/
set_option Elab.async false

variable {W : Prop} {a : State}

theorem State.cleared_kept {s : State} (hs : Kept W a s) : Kept W a (State.cleared s) := by
  exact ⟨hs.1, hs.2.1, hs.2.2.1, hs.2.2.2.1, okIf_nil, okIf_nil, hs.host⟩

theorem State.startPcie_kept {s : State} (hs : Kept W a s) : Kept W a (State.startPcie s) := by
  grind [State.startPcie, foldl_kept, = kept_mk, = keptF_fold]

theorem State.coldAssert_kept {s : State} (hs : Kept W a s) : Kept W a (State.coldAssert s) := by
  grind [State.coldAssert, State.cleared_kept, foldl_kept, = kept_mk, = keptF_fold]

theorem State.startSequence_kept {s : State} (hs : Kept W a s) : Kept W a (State.startSequence s) := by
  grind [State.startSequence, State.updPor_kept, foldl_kept, = kept_mk, = keptF_fold]

theorem State.seqFault_kept (group : Nat) {s : State} (hs : Kept W a s) : Kept W a (State.seqFault group s) := by
  grind [State.seqFault, State.updPor_kept, State.coldAssert_kept, foldl_kept, = kept_mk, = keptF_fold]

theorem opPowerOnReset_kept {s : State} (hs : Kept W a s) : Kept W a (opPowerOnReset s) := by
  grind [opPowerOnReset, State.cleared_kept, State.startSequence_kept, foldl_kept, = kept_mk, = keptF_fold]

theorem opPgoodRise_kept {s : State} (hs : Kept W a s) : Kept W a (opPgoodRise s) := by
  grind [opPgoodRise, State.updPor_kept, foldl_kept, = kept_mk, = keptF_fold]

theorem opPgoodTimeout_kept {s : State} (hs : Kept W a s) : Kept W a (opPgoodTimeout s) := by
  grind [opPgoodTimeout, State.seqFault_kept, foldl_kept, = kept_mk, = keptF_fold]

theorem opPgoodFall_kept (g : Fin 6) {s : State} (hs : Kept W a s) : Kept W a (opPgoodFall g s) := by
  grind [opPgoodFall, State.seqFault_kept, foldl_kept, = kept_mk, = keptF_fold]

theorem opSequenceRetry_kept {s : State} (hs : Kept W a s) : Kept W a (opSequenceRetry s) := by
  grind [opSequenceRetry, State.updPor_kept, State.startSequence_kept, foldl_kept, = kept_mk, = keptF_fold]

theorem opSysRstAssert_kept {s : State} (hs : Kept W a s) : Kept W a (opSysRstAssert s) := by
  grind [opSysRstAssert, State.updPor_kept, State.coldAssert_kept, foldl_kept, = kept_mk, = keptF_fold]

theorem opSysRstRelease_kept {s : State} (hs : Kept W a s) : Kept W a (opSysRstRelease s) := by
  grind [opSysRstRelease, State.updPor_kept, State.startSequence_kept, foldl_kept, = kept_mk, = keptF_fold]

theorem opFabricRefclkLoss_kept {s : State} (hs : Kept W a s) : Kept W a (opFabricRefclkLoss s) := by
  grind [opFabricRefclkLoss, State.seqFault_kept, foldl_kept, = kept_mk, = keptF_fold]

theorem opPcieRefclkLoss_kept (lost : Bool) {s : State} (hs : Kept W a s) : Kept W a (opPcieRefclkLoss lost s) := by
  grind [opPcieRefclkLoss, State.releasePcie_kept, foldl_kept, = kept_mk, = keptF_fold]

theorem okIf_ite {c : Memory} : Memory.OkIf W (if c.wf then c else []) := by
  split
  · exact fun _ => ‹_›
  · exact okIf_nil

theorem State.afterScan_kept (code : BitVec 8) {s : State} (hs : Kept W a s) : Kept W a (State.afterScan code s) := by
  have h := State.takeFree_kept hs
  unfold State.afterScan
  extract_lets n t
  rw [kept_mk]
  exact ⟨hs.1, hs.2.1, h.2.2.1, hs.2.2.2.1, okIf_ite, okIf_ite, hs.host⟩

theorem State.warmReset_kept (cause : BitVec 4) {s : State} (hs : Kept W a s) : Kept W a (State.warmReset cause s) :=
    by
  grind [State.warmReset, State.log_kept, State.cleared_kept, State.startPcie_kept, State.afterScan_kept, foldl_kept, =
      kept_mk, = keptF_fold]

theorem opWarmRstAssert_kept {s : State} (hs : Kept W a s) : Kept W a (opWarmRstAssert s) := by
  grind [opWarmRstAssert, State.warmReset_kept, foldl_kept, = kept_mk, = keptF_fold]

theorem opWarmReset_kept {s : State} (hs : Kept W a s) : Kept W a (opWarmReset s) := by
  grind [opWarmReset, State.warmReset_kept, foldl_kept, = kept_mk, = keptF_fold]

theorem opColdResetRelease_kept {s : State} (hs : Kept W a s) : Kept W a (opColdResetRelease s) := by
  grind [opColdResetRelease, State.updFab_kept, State.updPwr_kept, State.updPor_kept, State.startPcie_kept, foldl_kept,
      = kept_mk, = keptF_fold]

theorem State.selfTest_kept (rows : BitVec 16) (engines : BitVec 17) (ports : BitVec 16) (planners complexes : BitVec 2)
    {s : State} (hs : Kept W a s) : Kept W a (State.selfTest rows engines ports planners complexes s) := by
  grind (gen := 30) (ematch := 30) (splits := 30) [State.selfTest, State.updXlt_kept, State.updMgt_kept,
      State.updPln_kept, State.updPor_kept, State.updPort_kept, State.updRed_kept, keptF_spad, okIf_nil, foldl_kept, =
      kept_mk, = keptF_fold]

theorem opSelfTestComplete_kept (rows : BitVec 16) (engines : BitVec 17) (ports : BitVec 16) (planners complexes :
    BitVec 2) {s : State} (hs : Kept W a s) : Kept W a (opSelfTestComplete rows engines ports planners complexes s) :=
    by
  grind (gen := 30) (ematch := 30) (splits := 30) [opSelfTestComplete, State.updPor_kept, State.selfTest_kept,
      keptF_spad, okIf_nil, foldl_kept, = kept_mk, = keptF_fold]

theorem opHbmTrainingComplete_kept (failed : BitVec 8) {s : State} (hs : Kept W a s) : Kept W a (opHbmTrainingComplete
    failed s) := by
  grind [opHbmTrainingComplete, State.updPor_kept, State.selfTest_kept, foldl_kept, = kept_mk, = keptF_fold]

theorem opHbmTestComplete_kept (bad : List Nat) {s : State} (hs : Kept W a s) : Kept W a (opHbmTestComplete bad s) :=
    by
  grind (gen := 30) (ematch := 30) (splits := 30) [opHbmTestComplete, State.updXlt_kept, State.updPor_kept,
      State.log_kept, State.takeFree_kept, State.selfTest_kept, keptF_dram, okIf_nil, foldl_kept, = kept_mk, =
      keptF_fold]

theorem opManagementResetRelease_kept {s : State} (hs : Kept W a s) : Kept W a (opManagementResetRelease s) := by
  grind [opManagementResetRelease, State.updPor_kept, State.selfTest_kept, foldl_kept, = kept_mk, = keptF_fold]

theorem State.setFw_kept (st : FwState) {s : State} (hs : Kept W a s) : Kept W a (State.setFw st s) := by
  grind [State.setFw, State.updMgt_kept, State.fireVec_kept, State.log_kept, foldl_kept, = kept_mk, = keptF_fold]

theorem State.writeVouts_kept (segment : Option Nat) {s : State} (hs : Kept W a s) : Kept W a (State.writeVouts
    segment s) := by
  grind [State.writeVouts, State.emit_kept, foldl_kept, = kept_mk, = keptF_fold]

theorem State.enterRecovery_kept {s : State} (hs : Kept W a s) : Kept W a (State.enterRecovery s) := by
  grind [State.enterRecovery, State.updMgt_kept, foldl_kept, = kept_mk, = keptF_fold]

theorem State.bootFrom_kept (bank : Bool) (i : FwImage) {s : State} (hs : Kept W a s) : Kept W a (State.bootFrom bank
    i s) := by
  grind (gen := 30) (ematch := 30) (splits := 30) [State.bootFrom, State.updFrm_kept, State.updFab_kept,
      State.updMgt_kept, State.log_kept, State.openElection_kept, State.setFw_kept, State.writeVouts_kept, foldl_kept,
      = kept_mk, = keptF_fold]

theorem opBootComplete_kept {s : State} (hs : Kept W a s) : Kept W a (opBootComplete s) := by
  grind [opBootComplete, State.log_kept, State.writeRecord_kept, State.enterRecovery_kept, State.bootFrom_kept,
      foldl_kept, = kept_mk, = keptF_fold]

theorem State.hbmStep_kept {s : State} (hs : Kept W a s) : Kept W a (State.hbmStep s) := by
  grind [State.hbmStep, State.updPor_kept, State.takeFree_kept, foldl_kept, = kept_mk, = keptF_fold]

theorem opHbmRefresh_kept (stack : Fin 8) (pc : BitVec 5) {s : State} (hs : Kept W a s) : Kept W a (opHbmRefresh stack
    pc s) := by
  grind [opHbmRefresh, State.updPor_kept, foldl_kept, = kept_mk, = keptF_fold]

theorem State.shift_kept {s : State} (hs : Kept W a s) : Kept W a (State.shift s) := by
  grind [State.shift, State.updPor_kept, State.emit_kept, State.takeFree_kept, foldl_kept, = kept_mk, = keptF_fold]

theorem State.loadTest_kept (code : BitVec 8) (effect : State → State) {s : State} (heffect : ∀ y0, Kept W a y0 → Kept
    W a (effect y0)) (hs : Kept W a s) : Kept W a (State.loadTest code effect s) := by
  grind [State.loadTest, State.updPor_kept, State.afterScan_kept, foldl_kept, = kept_mk, = keptF_fold]

theorem execBypass_kept {s : State} (hs : Kept W a s) {t : State} (e_ :
    execBypass s = .next t) : Kept W a t := by
  grind [execBypass, State.takeFree_kept, State.shift_kept, State.loadTest_kept, foldl_kept, = kept_mk, = keptF_fold]

theorem execIdcode_kept {s : State} (hs : Kept W a s) {t : State} (e_ : execIdcode s = .next t) : Kept W a t := by
  grind [execIdcode, State.emit_kept, State.loadTest_kept, foldl_kept, = kept_mk, = keptF_fold]

theorem execSamplePreload_kept {s : State} (hs : Kept W a s) {t : State} (e_ : execSamplePreload s = .next t) : Kept W
    a t := by
  grind [execSamplePreload, State.shift_kept, State.loadTest_kept, foldl_kept, = kept_mk, = keptF_fold]

theorem execExtest_kept {s : State} (hs : Kept W a s) {t : State} (e_ : execExtest s = .next
    t) : Kept W a t := by
  grind [execExtest, State.shift_kept, State.loadTest_kept, foldl_kept, = kept_mk, = keptF_fold]

theorem execExtestPulse_kept {s : State} (hs : Kept W a s) {t : State} (e_ : execExtestPulse s
    = .next t) : Kept W a t := by
  grind [execExtestPulse, State.shift_kept, State.loadTest_kept, foldl_kept, = kept_mk, = keptF_fold]

theorem execExtestTrain_kept {s : State} (hs : Kept W a s) {t : State} (e_ : execExtestTrain s
    = .next t) : Kept W a t := by
  grind [execExtestTrain, State.shift_kept, State.loadTest_kept, foldl_kept, = kept_mk, = keptF_fold]

theorem execClamp_kept {s : State} (hs : Kept W a s) {t : State} (e_ : execClamp s = .next t) : Kept W a t := by
  grind [execClamp, State.loadTest_kept, foldl_kept, = kept_mk, = keptF_fold]

theorem execHighz_kept {s : State} (hs : Kept W a s) {t : State} (e_ : execHighz s = .next t) : Kept W a t := by
  grind [execHighz, State.loadTest_kept, foldl_kept, = kept_mk, = keptF_fold]

theorem execScanMode_kept {s : State} (hs : Kept W a s) {t : State} (e_ : execScanMode s = .next t) : Kept W a t := by
  grind [execScanMode, State.updPor_kept, State.loadTest_kept, foldl_kept, = kept_mk, = keptF_fold]

theorem execMbistRun_kept {s : State} (hs : Kept W a s) {t : State} (e_ : execMbistRun s = .next t) : Kept W a t := by
  grind (gen := 30) (ematch := 30) (splits := 30) [execMbistRun, State.emit_kept, State.takeFree_kept,
      State.selfTest_kept, State.loadTest_kept, keptF_spad, okIf_nil, foldl_kept, = kept_mk, = keptF_fold]

theorem execAtbCtrl_kept {s : State} (hs : Kept W a s) {t : State} (e_ : execAtbCtrl s = .next t) : Kept W a t := by
  grind [execAtbCtrl, State.updPor_kept, State.loadTest_kept, foldl_kept, = kept_mk, = keptF_fold]

theorem execJtagWarmReset_kept {s : State} (hs : Kept W a s) {t : State} (e_ : execJtagWarmReset s = .next t) : Kept W
    a t := by
  grind [execJtagWarmReset, State.warmReset_kept, State.loadTest_kept, foldl_kept, = kept_mk, = keptF_fold]

theorem execTestLogicReset_kept {s : State} (hs : Kept W a s) {t : State} (e_ : execTestLogicReset s = .next t) : Kept
    W a t := by
  grind [execTestLogicReset, State.loadTest_kept, foldl_kept, = kept_mk, = keptF_fold]

theorem opVddAonLoss_kept {s : State} (hs : Kept W a s) : Kept W a (opVddAonLoss s) := by
  grind [opVddAonLoss, State.cleared_kept, foldl_kept, = kept_mk, = keptF_fold]

theorem atbSelectBody_kept (x0 : CmdId) (x1 : Nat) (e : Entry) {s : State} (hs : Kept W a s) : Kept W a (atbSelectBody
    x0 x1 e s).1 := by
  grind [atbSelectBody, State.updPor_kept, foldl_kept, = kept_mk, = keptF_fold]

theorem specAtbSelect_kept {s : State} (hs : Kept W a s) (c : CmdId) (p : Nat) (e : Entry) : Kept W a
    (specAtbSelect.body c p e s).1 := by
  simp only [specAtbSelect]; grind [atbSelectBody_kept, foldl_kept, = kept_mk, = keptF_fold]

theorem atbSampleBody_kept (x0 : CmdId) (x1 : Nat) (e : Entry) {s : State} (hs : Kept W a s) : Kept W a (atbSampleBody
    x0 x1 e s).1 := by
  grind [atbSampleBody, State.takeFree_kept, foldl_kept, = kept_mk, = keptF_fold]

theorem specAtbSample_kept {s : State} (hs : Kept W a s) (c : CmdId) (p : Nat) (e : Entry) : Kept W a
    (specAtbSample.body c p e s).1 := by
  simp only [specAtbSample]; grind [atbSampleBody_kept, foldl_kept, = kept_mk, = keptF_fold]

theorem testMbistBody_kept (x0 : CmdId) (x1 : Nat) (e : Entry) {s : State} (hs : Kept W a s) : Kept W a (testMbistBody
    x0 x1 e s).1 := by
  grind (gen := 30) (ematch := 30) (splits := 30) [testMbistBody, State.updXlt_kept, State.log_kept,
      State.takeFree_kept, keptF_dram, keptF_spad, Memory.filter_ok, Kept.dram, Kept.spad, foldl_kept, = kept_mk, =
      keptF_fold]

theorem specTestMbist_kept {s : State} (hs : Kept W a s) (c : CmdId) (p : Nat) (e : Entry) : Kept W a
    (specTestMbist.body c p e s).1 := by
  simp only [specTestMbist]; grind [testMbistBody_kept, foldl_kept, = kept_mk, = keptF_fold]

theorem execAtbSelect_kept (m : Fin 18) (e : Entry) {s : State} (hs : Kept W a s) {t : State} (e_ : execAtbSelect m e
    s = .next t) : Kept W a t := by
  grind [execAtbSelect, serve_kept, specAtbSelect_kept, foldl_kept, = kept_mk, = keptF_fold]

theorem execAtbSample_kept (m : Fin 18) (e : Entry) {s : State} (hs : Kept W a s) {t : State} (e_ : execAtbSample m e
    s = .next t) : Kept W a t := by
  grind [execAtbSample, serve_kept, specAtbSample_kept, foldl_kept, = kept_mk, = keptF_fold]

theorem execTestMbist_kept (m : Fin 18) (e : Entry) {s : State} (hs : Kept W a s) {t : State} (e_ : execTestMbist m e
    s = .next t) : Kept W a t := by
  grind [execTestMbist, serve_kept, specTestMbist_kept, foldl_kept, = kept_mk, = keptF_fold]

theorem execPowerOnReset_kept {s : State} (hs : Kept W a s) {t : State} (e_ : execPowerOnReset s = .next t) : Kept W a
    t := by
  grind [execPowerOnReset, opPowerOnReset_kept, foldl_kept, = kept_mk, = keptF_fold]

theorem execPgoodRise_kept {s : State} (hs : Kept W a s) {t : State} (e_ : execPgoodRise s = .next t) : Kept W a t :=
    by
  grind [execPgoodRise, opPgoodRise_kept, foldl_kept, = kept_mk, = keptF_fold]

theorem execPgoodTimeout_kept {s : State} (hs : Kept W a s) {t : State} (e_ : execPgoodTimeout s = .next t) : Kept W a
    t := by
  grind [execPgoodTimeout, opPgoodTimeout_kept, foldl_kept, = kept_mk, = keptF_fold]

theorem execPgoodFall_kept (g : Fin 6) {s : State} (hs : Kept W a s) {t : State} (e_ : execPgoodFall g s = .next t) :
    Kept W a t := by
  grind [execPgoodFall, opPgoodFall_kept, foldl_kept, = kept_mk, = keptF_fold]

theorem execSequenceRetry_kept {s : State} (hs : Kept W a s) {t : State} (e_ : execSequenceRetry s = .next t) : Kept W
    a t := by
  grind [execSequenceRetry, opSequenceRetry_kept, foldl_kept, = kept_mk, = keptF_fold]

theorem execSysRstAssert_kept {s : State} (hs : Kept W a s) {t : State} (e_ : execSysRstAssert s = .next t) : Kept W a
    t := by
  grind [execSysRstAssert, opSysRstAssert_kept, foldl_kept, = kept_mk, = keptF_fold]

theorem execSysRstRelease_kept {s : State} (hs : Kept W a s) {t : State} (e_ : execSysRstRelease s = .next t) : Kept W
    a t := by
  grind [execSysRstRelease, opSysRstRelease_kept, foldl_kept, = kept_mk, = keptF_fold]

theorem execWarmRstAssert_kept {s : State} (hs : Kept W a s) {t : State} (e_ : execWarmRstAssert s = .next t) : Kept W
    a t := by
  grind [execWarmRstAssert, State.whenClocked_kept, opWarmRstAssert_kept, foldl_kept, = kept_mk, = keptF_fold]

theorem execFabricRefclkLoss_kept {s : State} (hs : Kept W a s) {t : State} (e_ : execFabricRefclkLoss s = .next t) :
    Kept W a t := by
  grind [execFabricRefclkLoss, opFabricRefclkLoss_kept, foldl_kept, = kept_mk, = keptF_fold]

theorem execPcieRefclkLoss_kept (lost : Bool) {s : State} (hs : Kept W a s) {t : State} (e_ : execPcieRefclkLoss lost
    s = .next t) : Kept W a t := by
  grind [execPcieRefclkLoss, opPcieRefclkLoss_kept, foldl_kept, = kept_mk, = keptF_fold]

theorem execColdResetRelease_kept {s : State} (hs : Kept W a s) {t : State} (e_ : execColdResetRelease s = .next t) :
    Kept W a t := by
  grind [execColdResetRelease, opColdResetRelease_kept, foldl_kept, = kept_mk, = keptF_fold]

theorem execSelfTestComplete_kept (rows : BitVec 16) (engines : BitVec 17) (ports : BitVec 16) (planners : BitVec 2)
    (complexes : BitVec 2) {s : State} (hs : Kept W a s) {t : State} (e_ : execSelfTestComplete rows engines ports
    planners complexes s = .next t) : Kept W a t := by
  grind [execSelfTestComplete, State.whenClocked_kept, opSelfTestComplete_kept, foldl_kept, = kept_mk, = keptF_fold]

theorem execHbmTrainingComplete_kept (failed : BitVec 8) {s : State} (hs : Kept W a s) {t : State} (e_ :
    execHbmTrainingComplete failed s = .next t) : Kept W a t := by
  grind [execHbmTrainingComplete, State.whenClocked_kept, opHbmTrainingComplete_kept, foldl_kept, = kept_mk, =
      keptF_fold]

theorem execHbmTestComplete_kept (bad : List Nat) {s : State} (hs : Kept W a s) {t : State} (e_ : execHbmTestComplete
    bad s = .next t) : Kept W a t := by
  grind [execHbmTestComplete, State.whenClocked_kept, opHbmTestComplete_kept, foldl_kept, = kept_mk, = keptF_fold]

theorem execManagementResetRelease_kept {s : State} (hs : Kept W a s) {t : State} (e_ : execManagementResetRelease s =
    .next t) : Kept W a t := by
  grind [execManagementResetRelease, State.whenClocked_kept, opManagementResetRelease_kept, foldl_kept, = kept_mk, =
      keptF_fold]

theorem execBootComplete_kept (u v : Unit) {s : State} (hs : Kept W a s) {t : State} (e_ : execBootComplete u v s =
    .next t) : Kept W a t := by
  grind [execBootComplete, State.whenClocked_kept, opBootComplete_kept, foldl_kept, = kept_mk, = keptF_fold]

theorem execHbmRefresh_kept (stack : Fin 8) (pc : BitVec 5) {s : State} (hs : Kept W a s) {t : State} (e_ :
    execHbmRefresh stack pc s = .next t) : Kept W a t := by
  grind [execHbmRefresh, State.whenClocked_kept, opHbmRefresh_kept, foldl_kept, = kept_mk, = keptF_fold]

theorem execWarmReset_kept {s : State} (hs : Kept W a s) {t : State} (e_ : execWarmReset s = .next t) : Kept W a t :=
    by
  grind [execWarmReset, State.whenClocked_kept, opWarmReset_kept, foldl_kept, = kept_mk, = keptF_fold]

theorem execVddAonLoss_kept {s : State} (hs : Kept W a s) {t : State} (e_ : execVddAonLoss s = .next t) : Kept W a t
    := by
  grind [execVddAonLoss, opVddAonLoss_kept, foldl_kept, = kept_mk, = keptF_fold]

end Sys2Proof.Machine
end

