-- ==== Sys2Proof/Laws/KeptService.lean ====
section
/-! SUPPORT. One lemma for each operation of Machine/Service.lean that gives a state: it keeps what `Kept` says. -/

namespace Sys2Proof.Machine

open Sys2Proof

/- In turn, not as parallel tasks: each task that waits for another holds a stack of its own. -/
set_option Elab.async false

variable {W : Prop} {a : State}

theorem State.eraseInactive_kept {s : State} (hs : Kept W a s) : Kept W a (State.eraseInactive s) := by
  grind [State.eraseInactive, foldl_kept, = kept_mk, = keptF_fold]

theorem fwStageBody_kept (c : CmdId) (x0 : Nat) (e : Entry) {s : State} (hs : Kept W a s) : Kept W a (fwStageBody c x0
    e s).1 := by
  grind [fwStageBody, State.updMgt_kept, State.setFw_kept, State.eraseInactive_kept, foldl_kept, = kept_mk, =
      keptF_fold]

theorem specFwStage_kept {s : State} (hs : Kept W a s) (c : CmdId) (p : Nat) (e : Entry) : Kept W a (specFwStage.body
    c p e s).1 := by
  simp only [specFwStage]; grind [fwStageBody_kept, foldl_kept, = kept_mk, = keptF_fold]

theorem State.rejectImage_kept (c : FwCheck) {s : State} (hs : Kept W a s) : Kept W a (State.rejectImage c s) := by
  grind [State.rejectImage, State.updMgt_kept, State.log_kept, State.setFw_kept, foldl_kept, = kept_mk, = keptF_fold]

theorem opStageVerifyComplete_kept {s : State} (hs : Kept W a s) : Kept W a (opStageVerifyComplete s) := by
  grind (gen := 30) (ematch := 30) (splits := 30) [opStageVerifyComplete, State.updMgt_kept, State.finish_kept,
      State.setFw_kept, State.rejectImage_kept, foldl_kept, = kept_mk, = keptF_fold]

theorem fwActivateBody_kept (c : CmdId) (x0 : Nat) (e : Entry) {s : State} (hs : Kept W a s) : Kept W a
    (fwActivateBody c x0 e s).1 := by
  grind [fwActivateBody, State.updMgt_kept, State.setFw_kept, foldl_kept, = kept_mk, = keptF_fold]

theorem specFwActivate_kept {s : State} (hs : Kept W a s) (c : CmdId) (p : Nat) (e : Entry) : Kept W a
    (specFwActivate.body c p e s).1 := by
  simp only [specFwActivate]; grind [fwActivateBody_kept, foldl_kept, = kept_mk, = keptF_fold]

theorem State.activationFails_kept (code : Nat) {s : State} (hs : Kept W a s) : Kept W a (State.activationFails code
    s) := by
  grind [State.activationFails, State.updMgt_kept, State.finishAll_kept, State.setFw_kept, foldl_kept, = kept_mk, =
      keptF_fold]

theorem opActivationStandbyLoaded_kept (valid : Bool) {s : State} (hs : Kept W a s) : Kept W a
    (opActivationStandbyLoaded valid s) := by
  grind [opActivationStandbyLoaded, State.updMgt_kept, State.activationFails_kept, foldl_kept, = kept_mk, = keptF_fold]

theorem Fuses.grows_takeOver {f g : Fuses} (h : f.grows g) (v : BitVec 6) (r : BitVec 4) :
    f.grows { g with v := if g.v.toNat < v.toNat then v else g.v, revoked := g.revoked ||| r } := by
  obtain ⟨h1, h2, h3, h4, h5, h6, h7, h8, i1, i2, h9, h10⟩ := h
  refine ⟨h1, h2, h3, h4, h5, h6, h7, h8, i1, i2, ?_, ?_⟩
  · dsimp only
    split
    · exact BitVec.le_trans h9 (BitVec.le_def.2 (Nat.le_of_lt ‹_›))
    · exact h9
  · dsimp only
    rw [← BitVec.or_assoc, h10]

theorem State.takeOver_kept (i : FwImage) {s : State} (hs : Kept W a s) : Kept W a (State.takeOver i s) := by
  have hf : Kept W a { s with
      flash := s.flash.writeRecord s.inactive
      fuse := if s.mgt.actCommit then { s.fuse with
          v := if s.fuse.v.toNat < i.svn.toNat then i.svn else s.fuse.v, revoked := s.fuse.revoked ||| i.revoke }
        else s.fuse } := by
    refine ⟨hs.1, hs.2.1, hs.2.2.1, ?_, hs.2.2.2.2⟩
    dsimp only
    split
    · exact Fuses.grows_takeOver hs.2.2.2.1 _ _
    · exact hs.2.2.2.1
  unfold State.takeOver
  grind (gen := 30) (ematch := 30) (splits := 30) [State.updMgt_kept, State.setFw_kept, State.finishAll_kept,
      State.resetMailbox_kept, State.updMb_kept, foldl_kept]

theorem specFwQuery_kept {s : State} (hs : Kept W a s) (c : CmdId) (p : Nat) (e : Entry) : Kept W a (specFwQuery.body
    c p e s).1 := by
  simp only [specFwQuery]; grind [foldl_kept, = kept_mk, = keptF_fold]

theorem opStandbyMirrored_kept {s : State} (hs : Kept W a s) : Kept W a (opStandbyMirrored s) := by
  grind [opStandbyMirrored, State.updMgt_kept, foldl_kept, = kept_mk, = keptF_fold]

theorem opWatchdogExpiry_kept (die : Die) {s : State} (hs : Kept W a s) : Kept W a (opWatchdogExpiry die s) := by
  grind [opWatchdogExpiry, State.updMgt_kept, State.log_kept, State.warmReset_kept, foldl_kept, = kept_mk, = keptF_fold]

theorem State.failover_kept {s : State} (hs : Kept W a s) : Kept W a (State.failover s) := by
  grind [State.failover, State.updMgt_kept, State.log_kept, foldl_kept, = kept_mk, = keptF_fold]

theorem opAonTimerTick_kept {s : State} (hs : Kept W a s) : Kept W a (opAonTimerTick s) := by
  grind [opAonTimerTick, State.updMgt_kept, State.evalHottest_kept, State.hbmStep_kept, foldl_kept, = kept_mk, =
      keptF_fold]

theorem opLogRecordProgram_kept {s : State} (hs : Kept W a s) : Kept W a (opLogRecordProgram s) := by
  grind [opLogRecordProgram, State.updMgt_kept, foldl_kept, = kept_mk, = keptF_fold]

theorem logReadBody_kept (c : CmdId) (x0 : Nat) (e : Entry) {s : State} (hs : Kept W a s) : Kept W a (logReadBody c x0
    e s).1 := by
  grind (gen := 30) (ematch := 30) (splits := 30) [logReadBody, State.updMgt_kept, keptF_host, Memory.writeBytes_ok,
      Kept.host, foldl_kept, = kept_mk, = keptF_fold]

theorem specLogRead_kept {s : State} (hs : Kept W a s) (c : CmdId) (p : Nat) (e : Entry) : Kept W a (specLogRead.body
    c p e s).1 := by
  simp only [specLogRead]; grind [logReadBody_kept, foldl_kept, = kept_mk, = keptF_fold]

theorem sensReadBody_kept (x0 : CmdId) (x1 : Nat) (e : Entry) {s : State} (hs : Kept W a s) : Kept W a (sensReadBody
    x0 x1 e s).1 := by
  grind [sensReadBody, State.updSensor_kept, foldl_kept, = kept_mk, = keptF_fold]

theorem specSensRead_kept {s : State} (hs : Kept W a s) (c : CmdId) (p : Nat) (e : Entry) : Kept W a
    (specSensRead.body c p e s).1 := by
  simp only [specSensRead]; grind [sensReadBody_kept, foldl_kept, = kept_mk, = keptF_fold]

theorem opPmbusPoll_kept (readings : List (Option (BitVec 16))) {s : State} (hs : Kept W a s) : Kept W a (opPmbusPoll
    readings s) := by
  grind [opPmbusPoll, State.updPwr_kept, State.log_kept, State.updSensor_kept, foldl_kept, = kept_mk, = keptF_fold]

theorem opSmbusStretchTimeout_kept (segment : BitVec 2) (address : BitVec 7) (command : BitVec 8) {s : State} (hs :
    Kept W a s) : Kept W a (opSmbusStretchTimeout segment address command s) := by
  grind [opSmbusStretchTimeout, State.log_kept, foldl_kept, = kept_mk, = keptF_fold]

theorem State.recoverBus_kept (n : Nat) (high : Bool) {s : State} (hs : Kept W a s) : Kept W a (State.recoverBus n
    high s) := by
  grind [State.recoverBus, State.updMgt_kept, State.emit_kept, State.log_kept, State.updSensor_kept,
      State.writeVouts_kept, foldl_kept, = kept_mk, = keptF_fold]

theorem opSmbusStuckRecovery_kept (segment : BitVec 2) (sdaHigh : Bool) {s : State} (hs : Kept W a s) : Kept W a
    (opSmbusStuckRecovery segment sdaHigh s) := by
  grind [opSmbusStuckRecovery, State.recoverBus_kept, foldl_kept, = kept_mk, = keptF_fold]

theorem opSmbusRecoveryRetry_kept (segment : BitVec 2) (sdaHigh : Bool) {s : State} (hs : Kept W a s) : Kept W a
    (opSmbusRecoveryRetry segment sdaHigh s) := by
  grind [opSmbusRecoveryRetry, State.recoverBus_kept, foldl_kept, = kept_mk, = keptF_fold]

theorem opSmbtStatus_kept (pec : Bool) {s : State} (hs : Kept W a s) : Kept W a (opSmbtStatus pec s) := by
  grind [opSmbtStatus, State.emit_kept, foldl_kept, = kept_mk, = keptF_fold]

theorem opSmbtSetCap_kept (w : BitVec 16) (pec : Bool) {s : State} (hs : Kept W a s) : Kept W a (opSmbtSetCap w pec s)
    := by
  grind [opSmbtSetCap, State.updMgt_kept, State.emit_kept, State.pendCap_kept, State.sheafCap_kept, foldl_kept, =
      kept_mk, = keptF_fold]

theorem opSmbtPower_kept (pec : Bool) {s : State} (hs : Kept W a s) : Kept W a (opSmbtPower pec s) := by
  grind [opSmbtPower, State.emit_kept, foldl_kept, = kept_mk, = keptF_fold]

theorem opSmbtAlertAck_kept (pec : Bool) {s : State} (hs : Kept W a s) : Kept W a (opSmbtAlertAck pec s) := by
  grind [opSmbtAlertAck, State.updMgt_kept, foldl_kept, = kept_mk, = keptF_fold]

theorem opAlertResponse_kept {s : State} (hs : Kept W a s) : Kept W a (opAlertResponse s) := by
  grind [opAlertResponse, State.emit_kept, foldl_kept, = kept_mk, = keptF_fold]

theorem State.dfuFails_kept (st : DfuStatus) {s : State} (hs : Kept W a s) : Kept W a (State.dfuFails st s) := by
  grind [State.dfuFails, State.updMgt_kept, State.setFw_kept, foldl_kept, = kept_mk, = keptF_fold]

theorem opDfuDnload_kept (block : BitVec 16) (data : List Byte) {s : State} (hs : Kept W a s) : Kept W a (opDfuDnload
    block data s) := by
  grind [opDfuDnload, State.updMgt_kept, State.emit_kept, State.setFw_kept, State.eraseInactive_kept,
      State.dfuFails_kept, foldl_kept, = kept_mk, = keptF_fold]

theorem opDfuManifest_kept {s : State} (hs : Kept W a s) : Kept W a (opDfuManifest s) := by
  grind (gen := 30) (ematch := 30) (splits := 30) [opDfuManifest, State.updMgt_kept, State.emit_kept,
      State.writeRecord_kept, State.setFw_kept, State.rejectImage_kept, foldl_kept, = kept_mk, = keptF_fold]

theorem opDfuDetach_kept {s : State} (hs : Kept W a s) : Kept W a (opDfuDetach s) := by
  grind [opDfuDetach, State.emit_kept, foldl_kept, = kept_mk, = keptF_fold]

theorem opUsbBusReset_kept {s : State} (hs : Kept W a s) : Kept W a (opUsbBusReset s) := by
  grind [opUsbBusReset, State.updMb_kept, State.updMgt_kept, State.log_kept, State.setFw_kept, foldl_kept, = kept_mk, =
      keptF_fold]

theorem opConfigItemRead_kept (item : BitVec 16) {s : State} (hs : Kept W a s) : Kept W a (opConfigItemRead item s) :=
    by
  grind [opConfigItemRead, State.emit_kept, foldl_kept, = kept_mk, = keptF_fold]

theorem opConfigItemWrite_kept (item : BitVec 16) (data : List Byte) {s : State} (hs : Kept W a s) : Kept W a
    (opConfigItemWrite item data s) := by
  grind [opConfigItemWrite, State.emit_kept, foldl_kept, = kept_mk, = keptF_fold]

theorem State.console_kept (ws : List W64) {s : State} (hs : Kept W a s) : Kept W a (State.console ws s) := by
  grind [State.console, State.emit_kept, foldl_kept, = kept_mk, = keptF_fold]

theorem opUartStatus_kept {s : State} (hs : Kept W a s) : Kept W a (opUartStatus s) := by
  grind [opUartStatus, State.console_kept, foldl_kept, = kept_mk, = keptF_fold]

theorem opUartLog_kept (n : Nat) {s : State} (hs : Kept W a s) : Kept W a (opUartLog n s) := by
  grind [opUartLog, State.console_kept, foldl_kept, = kept_mk, = keptF_fold]

theorem opUartSens_kept (sensor : BitVec 16) {s : State} (hs : Kept W a s) : Kept W a (opUartSens sensor s) := by
  grind [opUartSens, State.console_kept, foldl_kept, = kept_mk, = keptF_fold]

theorem opUartLink_kept (port : Fin 16) {s : State} (hs : Kept W a s) : Kept W a (opUartLink port s) := by
  grind [opUartLink, State.console_kept, foldl_kept, = kept_mk, = keptF_fold]

theorem execFwStage_kept (m : Fin 18) (e : Entry) {s : State} (hs : Kept W a s) {t : State} (e_ : execFwStage m e s =
    .next t) : Kept W a t := by
  grind [execFwStage, serve_kept, specFwStage_kept, foldl_kept, = kept_mk, = keptF_fold]

theorem execFwActivate_kept (m : Fin 18) (e : Entry) {s : State} (hs : Kept W a s) {t : State} (e_ : execFwActivate m
    e s = .next t) : Kept W a t := by
  grind [execFwActivate, serve_kept, specFwActivate_kept, foldl_kept, = kept_mk, = keptF_fold]

theorem execFwQuery_kept (m : Fin 18) (e : Entry) {s : State} (hs : Kept W a s) {t : State} (e_ : execFwQuery m e s =
    .next t) : Kept W a t := by
  grind [execFwQuery, serve_kept, specFwQuery_kept, foldl_kept, = kept_mk, = keptF_fold]

theorem execLogRead_kept (m : Fin 18) (e : Entry) {s : State} (hs : Kept W a s) {t : State} (e_ : execLogRead m e s =
    .next t) : Kept W a t := by
  grind [execLogRead, serve_kept, specLogRead_kept, foldl_kept, = kept_mk, = keptF_fold]

theorem execSensRead_kept (m : Fin 18) (e : Entry) {s : State} (hs : Kept W a s) {t : State} (e_ : execSensRead m e s
    = .next t) : Kept W a t := by
  grind [execSensRead, serve_kept, specSensRead_kept, foldl_kept, = kept_mk, = keptF_fold]

theorem execStandbyMirrored_kept {s : State} (hs : Kept W a s) {t : State} (e_ : execStandbyMirrored s = .next t) :
    Kept W a t := by
  grind [execStandbyMirrored, State.whenClocked_kept, opStandbyMirrored_kept, foldl_kept, = kept_mk, = keptF_fold]

theorem execWatchdogExpiry_kept (die : Die) {s : State} (hs : Kept W a s) {t : State} (e_ : execWatchdogExpiry die s =
    .next t) : Kept W a t := by
  grind [execWatchdogExpiry, State.whenClocked_kept, opWatchdogExpiry_kept, foldl_kept, = kept_mk, = keptF_fold]

theorem execStageVerifyComplete_kept (u v : Unit) {s : State} (hs : Kept W a s) {t : State} (e_ :
    execStageVerifyComplete u v s = .next t) : Kept W a t := by
  grind [execStageVerifyComplete, State.whenClocked_kept, opStageVerifyComplete_kept, foldl_kept, = kept_mk, =
      keptF_fold]

theorem execActivationStandbyLoaded_kept (valid : Bool) {s : State} (hs : Kept W a s) {t : State} (e_ :
    execActivationStandbyLoaded valid s = .next t) : Kept W a t := by
  grind [execActivationStandbyLoaded, State.whenClocked_kept, opActivationStandbyLoaded_kept, foldl_kept, = kept_mk, =
      keptF_fold]

theorem execDfuDnload_kept (block : BitVec 16) (data : List Byte) {s : State} (hs : Kept W a s) {t : State} (e_ :
    execDfuDnload block data s = .next t) : Kept W a t := by
  grind [execDfuDnload, State.whenClocked_kept, opDfuDnload_kept, foldl_kept, = kept_mk, = keptF_fold]

theorem execDfuManifest_kept (u v : Unit) {s : State} (hs : Kept W a s) {t : State} (e_ : execDfuManifest u v s = .next
    t) : Kept W a t := by
  grind [execDfuManifest, State.whenClocked_kept, opDfuManifest_kept, foldl_kept, = kept_mk, = keptF_fold]

theorem execDfuDetach_kept {s : State} (hs : Kept W a s) {t : State} (e_ : execDfuDetach s = .next t) : Kept W a t :=
    by
  grind [execDfuDetach, State.whenClocked_kept, opDfuDetach_kept, foldl_kept, = kept_mk, = keptF_fold]

theorem execUsbBusReset_kept {s : State} (hs : Kept W a s) {t : State} (e_ : execUsbBusReset s = .next t) : Kept W a t
    := by
  grind [execUsbBusReset, State.whenClocked_kept, opUsbBusReset_kept, foldl_kept, = kept_mk, = keptF_fold]

theorem execConfigItemRead_kept (item : BitVec 16) {s : State} (hs : Kept W a s) {t : State} (e_ : execConfigItemRead
    item s = .next t) : Kept W a t := by
  grind [execConfigItemRead, State.whenClocked_kept, opConfigItemRead_kept, foldl_kept, = kept_mk, = keptF_fold]

theorem execConfigItemWrite_kept (item : BitVec 16) (data : List Byte) {s : State} (hs : Kept W a s) {t : State} (e_ :
    execConfigItemWrite item data s = .next t) : Kept W a t := by
  grind [execConfigItemWrite, State.whenClocked_kept, opConfigItemWrite_kept, foldl_kept, = kept_mk, = keptF_fold]

theorem execLogRecordProgram_kept {s : State} (hs : Kept W a s) {t : State} (e_ : execLogRecordProgram s = .next t) :
    Kept W a t := by
  grind [execLogRecordProgram, State.whenClocked_kept, opLogRecordProgram_kept, foldl_kept, = kept_mk, = keptF_fold]

theorem execPmbusPoll_kept (readings : List (Option (BitVec 16))) {s : State} (hs : Kept W a s) {t : State} (e_ :
    execPmbusPoll readings s = .next t) : Kept W a t := by
  grind [execPmbusPoll, State.whenClocked_kept, opPmbusPoll_kept, foldl_kept, = kept_mk, = keptF_fold]

theorem execSmbusStretchTimeout_kept (segment : BitVec 2) (address : BitVec 7) (command : BitVec 8) {s : State} (hs :
    Kept W a s) {t : State} (e_ : execSmbusStretchTimeout segment address command s = .next t) : Kept W a t := by
  grind [execSmbusStretchTimeout, State.whenClocked_kept, opSmbusStretchTimeout_kept, foldl_kept, = kept_mk, =
      keptF_fold]

theorem execSmbusStuckRecovery_kept (segment : BitVec 2) (sdaHigh : Bool) {s : State} (hs : Kept W a s) {t : State}
    (e_ : execSmbusStuckRecovery segment sdaHigh s = .next t) : Kept W a t := by
  grind [execSmbusStuckRecovery, State.whenClocked_kept, opSmbusStuckRecovery_kept, foldl_kept, = kept_mk, = keptF_fold]

theorem execSmbusRecoveryRetry_kept (segment : BitVec 2) (sdaHigh : Bool) {s : State} (hs : Kept W a s) {t : State}
    (e_ : execSmbusRecoveryRetry segment sdaHigh s = .next t) : Kept W a t := by
  grind [execSmbusRecoveryRetry, State.whenClocked_kept, opSmbusRecoveryRetry_kept, foldl_kept, = kept_mk, = keptF_fold]

theorem execSmbtStatus_kept (pec : Bool) {s : State} (hs : Kept W a s) {t : State} (e_ : execSmbtStatus pec s = .next
    t) : Kept W a t := by
  grind [execSmbtStatus, State.whenClocked_kept, opSmbtStatus_kept, foldl_kept, = kept_mk, = keptF_fold]

theorem execSmbtSetCap_kept (w : BitVec 16) (pec : Bool) {s : State} (hs : Kept W a s) {t : State} (e_ :
    execSmbtSetCap w pec s = .next t) : Kept W a t := by
  grind [execSmbtSetCap, State.whenClocked_kept, opSmbtSetCap_kept, foldl_kept, = kept_mk, = keptF_fold]

theorem execSmbtPower_kept (pec : Bool) {s : State} (hs : Kept W a s) {t : State} (e_ : execSmbtPower pec s = .next t)
    : Kept W a t := by
  grind [execSmbtPower, State.whenClocked_kept, opSmbtPower_kept, foldl_kept, = kept_mk, = keptF_fold]

theorem execSmbtAlertAck_kept (pec : Bool) {s : State} (hs : Kept W a s) {t : State} (e_ : execSmbtAlertAck pec s =
    .next t) : Kept W a t := by
  grind [execSmbtAlertAck, State.whenClocked_kept, opSmbtAlertAck_kept, foldl_kept, = kept_mk, = keptF_fold]

theorem execAlertResponse_kept {s : State} (hs : Kept W a s) {t : State} (e_ : execAlertResponse s = .next t) : Kept W
    a t := by
  grind [execAlertResponse, State.whenClocked_kept, opAlertResponse_kept, foldl_kept, = kept_mk, = keptF_fold]

theorem execUartStatus_kept {s : State} (hs : Kept W a s) {t : State} (e_ : execUartStatus s = .next t) : Kept W a t
    := by
  grind [execUartStatus, State.whenClocked_kept, opUartStatus_kept, foldl_kept, = kept_mk, = keptF_fold]

theorem execUartLog_kept (n : Nat) {s : State} (hs : Kept W a s) {t : State} (e_ : execUartLog n s = .next t) : Kept W
    a t := by
  grind [execUartLog, State.whenClocked_kept, opUartLog_kept, foldl_kept, = kept_mk, = keptF_fold]

theorem execUartSens_kept (sensor : BitVec 16) {s : State} (hs : Kept W a s) {t : State} (e_ : execUartSens sensor s =
    .next t) : Kept W a t := by
  grind [execUartSens, State.whenClocked_kept, opUartSens_kept, foldl_kept, = kept_mk, = keptF_fold]

theorem execUartLink_kept (port : Fin 16) {s : State} (hs : Kept W a s) {t : State} (e_ : execUartLink port s = .next
    t) : Kept W a t := by
  grind [execUartLink, State.whenClocked_kept, opUartLink_kept, foldl_kept, = kept_mk, = keptF_fold]

theorem execAonTimerTick_kept {s : State} (hs : Kept W a s) {t : State} (e_ : execAonTimerTick s = .next t) : Kept W a
    t := by
  grind [execAonTimerTick, State.whenClocked_kept, opAonTimerTick_kept, foldl_kept, = kept_mk, = keptF_fold]

end Sys2Proof.Machine
end

