-- ==== Sys2Proof/Laws/KeptRegs.lean ====
section
/-! SUPPORT. One lemma for each operation of Machine/Regs.lean that gives a state: it keeps what `Kept` says. -/

namespace Sys2Proof.Machine

open Sys2Proof

/- In turn, not as parallel tasks: each task that waits for another holds a stack of its own. -/
set_option Elab.async false

variable {W : Prop} {a : State}

theorem State.regClear_kept (r : Reg) {s : State} (hs : Kept W a s) : Kept W a (State.regClear r s) := by
  unfold State.regClear
  split <;> grind (gen := 30) (ematch := 30) (splits := 30) [State.updFrmp_kept, State.updSeqp_kept, State.updPwrp_kept,
      State.updPlnp_kept, State.updPort_kept, State.updPln_kept, State.updMgt_kept, State.updPwr_kept,
      State.updXltRegs_kept, State.updEngine_kept, State.updLane_kept, foldl_kept, = kept_mk, = keptF_fold]

theorem State.aer_kept (fn kind off : Nat) (write : Bool) {s : State} (hs : Kept W a s) : Kept W a (State.aer fn kind
    off write s) := by
  grind [State.aer, State.emitPcie_kept, foldl_kept, = kept_mk, = keptF_fold]

theorem State.unsupported_kept (fn off : Nat) (write : Bool) {s : State} (hs : Kept W a s) : Kept W a
    (State.unsupported fn off write s) := by
  grind [State.unsupported, State.emit_kept, State.aer_kept, foldl_kept, = kept_mk, = keptF_fold]

theorem opReadClear_kept (fn : Fin 17) (off : BitVec 32) {s : State} (hs : Kept W a s) : Kept W a (opReadClear fn off
    s) := by
  grind [opReadClear, State.emit_kept, State.regClear_kept, State.unsupported_kept, foldl_kept, = kept_mk, = keptF_fold]

theorem State.mbxWrite_kept (fn : Fin 17) (off : Nat) (v : W64) {s : State} (hs : Kept W a s) : Kept W a
    (State.mbxWrite fn off v s) := by
  unfold State.mbxWrite
  split <;> grind (gen := 30) (ematch := 30) (splits := 30) [State.updMb_kept, opMbxRingCfgWrite_kept, opDoorbell_kept,
      opMbxCplHeadWrite_kept, opMailboxReset_kept, foldl_kept, = kept_mk, = keptF_fold]

theorem opRegisterWrite_kept (fn : Fin 17) (off : BitVec 32) (v : W64) {s : State} (hs : Kept W a s) : Kept W a
    (opRegisterWrite fn off v s) := by
  grind [opRegisterWrite, State.updFrmp_kept, State.updCommq_kept, State.unsupported_kept, State.mbxWrite_kept,
      foldl_kept, = kept_mk, = keptF_fold]

theorem opUnsupportedRequest_kept (fn : Fin 17) (off : BitVec 32) (write : Bool) {s : State} (hs : Kept W a s) : Kept
    W a (opUnsupportedRequest fn off write s) := by
  grind [opUnsupportedRequest, State.unsupported_kept, foldl_kept, = kept_mk, = keptF_fold]

theorem opPcieError_kept (fn : Fin 17) (err : PcieErr) {s : State} (hs : Kept W a s) : Kept W a (opPcieError fn err s)
    := by
  unfold opPcieError
  split <;> grind (gen := 30) (ematch := 30) (splits := 30) [State.killStart_kept, State.mbxError_kept, State.aer_kept,
      foldl_kept, = kept_mk, = keptF_fold]

theorem opMsixUnmask_kept (fn : Fin 17) (enable : Bool) (vectors : List Nat) {s : State} (hs : Kept W a s) : Kept W a
    (opMsixUnmask fn enable vectors s) := by
  grind [opMsixUnmask, State.updFn_kept, State.emitPcie_kept, foldl_kept, = kept_mk, = keptF_fold]

theorem State.clearFn_kept (fn : Nat) {s : State} (hs : Kept W a s) : Kept W a (State.clearFn fn s) := by
  grind [State.clearFn, State.updFn_kept, State.updXlt_kept, foldl_kept, = kept_mk, = keptF_fold]

theorem State.resetFn_kept (fn : Nat) {s : State} (hs : Kept W a s) : Kept W a (State.resetFn fn s) := by
  grind [State.resetFn, State.resetMailbox_kept, State.shootdown_kept, State.clearFn_kept, foldl_kept, = kept_mk, =
      keptF_fold]

theorem State.setNumVfs_kept (n : Nat) {s : State} (hs : Kept W a s) : Kept W a (State.setNumVfs n s) := by
  grind [State.setNumVfs, State.resetFn_kept, foldl_kept, = kept_mk, = keptF_fold]

theorem opNumvfsWrite_kept (n : BitVec 5) {s : State} (hs : Kept W a s) : Kept W a (opNumvfsWrite n s) := by
  grind [opNumvfsWrite, State.setNumVfs_kept, foldl_kept, = kept_mk, = keptF_fold]

theorem opFunctionLevelReset_kept (fn : Fin 17) {s : State} (hs : Kept W a s) : Kept W a (opFunctionLevelReset fn s)
    := by
  grind [opFunctionLevelReset, State.resetFn_kept, State.setNumVfs_kept, foldl_kept, = kept_mk, = keptF_fold]

theorem opPerstAssert_kept {s : State} (hs : Kept W a s) : Kept W a (opPerstAssert s) := by
  grind [opPerstAssert, State.resetMailbox_kept, State.clearFn_kept, foldl_kept, = kept_mk, = keptF_fold]

theorem State.trainPcie_kept (width : BitVec 5) (speed : BitVec 3) {s : State} (hs : Kept W a s) : Kept W a
    (State.trainPcie width speed s) := by
  grind [State.trainPcie, State.writeLog_kept, State.takeFree_kept, foldl_kept, = kept_mk, = keptF_fold]

theorem opPerstRelease_kept (width : BitVec 5) (speed : BitVec 3) {s : State} (hs : Kept W a s) : Kept W a
    (opPerstRelease width speed s) := by
  grind [opPerstRelease, State.trainPcie_kept, foldl_kept, = kept_mk, = keptF_fold]

theorem opPcieLinkRetry_kept (width : BitVec 5) (speed : BitVec 3) {s : State} (hs : Kept W a s) : Kept W a
    (opPcieLinkRetry width speed s) := by
  grind [opPcieLinkRetry, State.trainPcie_kept, foldl_kept, = kept_mk, = keptF_fold]

theorem execReadClear_kept (fn : Fin 17) (off : BitVec 32) {s : State} (hs : Kept W a s) {t : State} (e_ :
    execReadClear fn off s = .next t) : Kept W a t := by
  grind [execReadClear, State.whenPcie_kept, opReadClear_kept, foldl_kept, = kept_mk, = keptF_fold]

theorem execRegisterWrite_kept (fn : Fin 17) (off : BitVec 32) (v : W64) {s : State} (hs : Kept W a s) {t : State} (e_
    : execRegisterWrite fn off v s = .next t) : Kept W a t := by
  grind [execRegisterWrite, State.whenPcie_kept, opRegisterWrite_kept, foldl_kept, = kept_mk, = keptF_fold]

theorem execUnsupportedRequest_kept (fn : Fin 17) (off : BitVec 32) (write : Bool) {s : State} (hs : Kept W a s) {t :
    State} (e_ : execUnsupportedRequest fn off write s = .next t) : Kept W a t := by
  grind [execUnsupportedRequest, State.whenPcie_kept, opUnsupportedRequest_kept, foldl_kept, = kept_mk, = keptF_fold]

theorem execNumvfsWrite_kept (n : BitVec 5) {s : State} (hs : Kept W a s) {t : State} (e_ : execNumvfsWrite n s =
    .next t) : Kept W a t := by
  grind [execNumvfsWrite, State.whenPcie_kept, opNumvfsWrite_kept, foldl_kept, = kept_mk, = keptF_fold]

theorem execMsixUnmask_kept (fn : Fin 17) (enable : Bool) (vectors : List Nat) {s : State} (hs : Kept W a s) {t :
    State} (e_ : execMsixUnmask fn enable vectors s = .next t) : Kept W a t := by
  grind [execMsixUnmask, State.whenPcie_kept, opMsixUnmask_kept, foldl_kept, = kept_mk, = keptF_fold]

theorem execFunctionLevelReset_kept (fn : Fin 17) {s : State} (hs : Kept W a s) {t : State} (e_ :
    execFunctionLevelReset fn s = .next t) : Kept W a t := by
  grind [execFunctionLevelReset, State.whenPcie_kept, opFunctionLevelReset_kept, foldl_kept, = kept_mk, = keptF_fold]

theorem execPerstAssert_kept {s : State} (hs : Kept W a s) {t : State} (e_ : execPerstAssert s = .next t) : Kept W a t
    := by
  grind [execPerstAssert, opPerstAssert_kept, foldl_kept, = kept_mk, = keptF_fold]

theorem execPerstRelease_kept (width : BitVec 5) (speed : BitVec 3) {s : State} (hs : Kept W a s) {t : State} (e_ :
    execPerstRelease width speed s = .next t) : Kept W a t := by
  grind [execPerstRelease, opPerstRelease_kept, foldl_kept, = kept_mk, = keptF_fold]

theorem execPcieLinkRetry_kept (width : BitVec 5) (speed : BitVec 3) {s : State} (hs : Kept W a s) {t : State} (e_ :
    execPcieLinkRetry width speed s = .next t) : Kept W a t := by
  grind [execPcieLinkRetry, State.whenClocked_kept, opPcieLinkRetry_kept, foldl_kept, = kept_mk, = keptF_fold]

theorem execPcieError_kept (fn : Fin 17) (err : PcieErr) {s : State} (hs : Kept W a s) {t : State} (e_ : execPcieError
    fn err s = .next t) : Kept W a t := by
  grind [execPcieError, State.whenPcie_kept, opPcieError_kept, foldl_kept, = kept_mk, = keptF_fold]

end Sys2Proof.Machine
end

