-- ==== Sys2Proof/Laws/KeptRx.lean ====
section
/-! SUPPORT. One lemma for each operation of Machine/Rx.lean that gives a state: it keeps what `Kept` says. -/

namespace Sys2Proof.Machine

open Sys2Proof

/- In turn, not as parallel tasks: each task that waits for another holds a stack of its own. -/
set_option Elab.async false

variable {W : Prop} {a : State}

theorem commandSpecs_kept : ∀ sp ∈ commandSpecs, ∀ c p e s, Kept W a s → Kept W a (sp.body c p e s).1 := by
  simp only [commandSpecs, List.forall_mem_append, List.forall_mem_cons, List.not_mem_nil,
    false_implies, implies_true, and_true]
  and_intros
  · exact fun c p e _ h => specDevInfo_kept h c p e
  · exact fun c p e _ h => specJobSubmit_kept h c p e
  · exact fun c p e _ h => specJobAbort_kept h c p e
  · exact fun c p e _ h => specJobQuery_kept h c p e
  · exact fun c p e _ h => specAdmSet_kept h c p e
  · exact fun c p e _ h => specAdmQuery_kept h c p e
  · exact fun c p e _ h => specFrameQuery_kept h c p e
  · exact fun c p e _ h => specFrameSetPeriod_kept h c p e
  · exact fun c p e _ h => specFrameSetOverrunLimit_kept h c p e
  · exact fun c p e _ h => specFrameSetPreference_kept h c p e
  · exact fun c p e _ h => specCtxCreate_kept h c p e
  · exact fun c p e _ h => specCtxDestroy_kept h c p e
  · exact fun c p e _ h => specCtxKill_kept h c p e
  · exact fun c p e _ h => specCtxQuery_kept h c p e
  · exact fun c p e _ h => specCtxPostmortem_kept h c p e
  · exact fun c p e _ h => specMemAlloc_kept h c p e
  · exact fun c p e _ h => specMemFree_kept h c p e
  · exact fun c p e _ h => specMemMapHost_kept h c p e
  · exact fun c p e _ h => specMemUnmapHost_kept h c p e
  · exact fun c p e _ h => specMemQuery_kept h c p e
  · exact fun c p e _ h => specBoundSet_kept h c p e
  · exact fun c p e _ h => specBoundGet_kept h c p e
  · exact fun c p e _ h => specKvAlloc_kept h c p e
  · exact fun c p e _ h => specKvRelease_kept h c p e
  · exact fun c p e _ h => specKvInsert_kept h c p e
  · exact fun c p e _ h => specKvLookup_kept h c p e
  · exact fun c p e _ h => specKvEvict_kept h c p e
  · exact fun c p e _ h => specKvQuery_kept h c p e
  · exact fun c p e _ h => specSfuLoadTable_kept h c p e
  · exact fun c p e _ h => specSfuUnloadTable_kept h c p e
  · exact fun c p e _ h => specSfuLoadProgram_kept h c p e
  · exact fun c p e _ h => specSfuQuery_kept h c p e
  · exact fun c p e _ h => specFlowDeclare_kept h c p e
  · exact fun c p e _ h => specFlowWithdraw_kept h c p e
  · exact fun c p e _ h => specFlowQuery_kept h c p e
  · exact fun c p e _ h => specGroupDefine_kept h c p e
  · exact fun c p e _ h => specGroupRelease_kept h c p e
  · exact fun c p e _ h => specGroupQuery_kept h c p e
  · exact fun c p e _ h => specCommqCreate_kept h c p e
  · exact fun c p e _ h => specCommqDestroy_kept h c p e
  · exact fun c p e _ h => specLinkQuery_kept h c p e
  · exact fun c p e _ h => specLinkRetrain_kept h c p e
  · exact fun c p e _ h => specLinkRetire_kept h c p e
  · exact fun c p e _ h => specSheafQuery_kept h c p e
  · exact fun c p e _ h => specPartCreate_kept h c p e
  · exact fun c p e _ h => specPartStart_kept h c p e
  · exact fun c p e _ h => specPartResume_kept h c p e
  · exact fun c p e _ h => specPartFence_kept h c p e
  · exact fun c p e _ h => specPartReset_kept h c p e
  · exact fun c p e _ h => specPartTeardown_kept h c p e
  · exact fun c p e _ h => specPartQuery_kept h c p e
  · exact fun c p e _ h => specSpanCreate_kept h c p e
  · exact fun c p e _ h => specSpanJoin_kept h c p e
  · exact fun c p e _ h => specSpanLeave_kept h c p e
  · exact fun c p e _ h => specSpanDestroy_kept h c p e
  · exact fun c p e _ h => specSpanQuery_kept h c p e
  · exact fun c p e _ h => specPwrSetCap_kept h c p e
  · exact fun c p e _ h => specPwrQuery_kept h c p e
  · exact fun c p e _ h => specFwStage_kept h c p e
  · exact fun c p e _ h => specFwActivate_kept h c p e
  · exact fun c p e _ h => specFwQuery_kept h c p e
  · exact fun c p e _ h => specLogRead_kept h c p e
  · exact fun c p e _ h => specSensRead_kept h c p e
  · exact fun c p e _ h => specAtbSelect_kept h c p e
  · exact fun c p e _ h => specAtbSample_kept h c p e
  · exact fun c p e _ h => specTestMbist_kept h c p e

theorem specOf_kept {op : BitVec 16} {sp : Spec} (h : specOf op = some sp) :
    ∀ c p e s, Kept W a s → Kept W a (sp.body c p e s).1 := commandSpecs_kept sp (List.mem_of_find?_eq_some h)

theorem opCommandFetch_kept {s : State} (hs : Kept W a s) : Kept W a (opCommandFetch s) := by
  unfold opCommandFetch
  split
  · exact hs
  · dsimp only
    have h := State.updMb_kept ‹Nat› (fun b : Mailbox => { b with
      cmdHead := if (s.mb ‹Nat›).cmdHead.toNat + 1 = b.cmdSize then 0 else (s.mb ‹Nat›).cmdHead + 1 }) hs
    generalize hsp : specOf _ = sp
    cases sp with
    | none => exact consume_none_kept h _ _ _
    | some sp => exact consume_kept h _ (specOf_kept hsp) _ _ _

theorem State.enterDeclarations_kept (span : BitVec 16) (ds : List Declared) (pkg : Nat) {s : State} (hs : Kept W a s)
    : Kept W a (State.enterDeclarations span ds pkg s) := by
  grind [State.enterDeclarations, State.updLead_kept, opFlowDeclarationReceive_kept, foldl_kept, = kept_mk, =
      keptF_fold]

theorem State.takeLead_kept (x : Span) {s : State} (hs : Kept W a s) : Kept W a (State.takeLead x s) := by
  grind (gen := 30) (ematch := 30) (splits := 30) [State.takeLead, State.updPln_kept, State.log_kept,
      State.sendAll_kept, State.updSpan_kept, State.enterDeclarations_kept, foldl_kept, = kept_mk, = keptF_fold]

theorem State.refreshLeads_kept {s : State} (hs : Kept W a s) : Kept W a (State.refreshLeads s) := by
  grind [State.refreshLeads, State.updSpan_kept, State.takeLead_kept, foldl_kept, = kept_mk, = keptF_fold]

theorem opReachabilityChange_kept (pkg : Fin 128) {s : State} (hs : Kept W a s) : Kept W a (opReachabilityChange pkg
    s) := by
  grind [opReachabilityChange, State.updFab_kept, State.log_kept, State.groupsLose_kept, State.refreshLeads_kept,
      foldl_kept, = kept_mk, = keptF_fold]

theorem State.resolveLeads_kept (span : BitVec 16) (pkg : Nat) {s : State} (hs : Kept W a s) : Kept W a
    (State.resolveLeads span pkg s) := by
  grind [State.resolveLeads, State.updPln_kept, State.log_kept, State.send_kept, State.updSpan_kept, foldl_kept, =
      kept_mk, = keptF_fold]

theorem opDualLeadResolve_kept (span : BitVec 16) (pkg : Fin 128) {s : State} (hs : Kept W a s) : Kept W a
    (opDualLeadResolve span pkg s) := by
  grind [opDualLeadResolve, State.resolveLeads_kept, foldl_kept, = kept_mk, = keptF_fold]

theorem opLeadTakeoverNoticeReceive_kept (span : BitVec 16) (pkg : Fin 128) {s : State} (hs : Kept W a s) : Kept W a
    (opLeadTakeoverNoticeReceive span pkg s) := by
  grind [opLeadTakeoverNoticeReceive, State.send_kept, State.tellPorts_kept, State.resolveLeads_kept, foldl_kept, =
      kept_mk, = keptF_fold]

theorem opLeadDeclarationReplyReceive_kept (span : BitVec 16) (rho : BitVec 32) (decls : List Declared) (pkg : Fin
    128) (shares : BitVec 32) {s : State} (hs : Kept W a s) : Kept W a (opLeadDeclarationReplyReceive span rho decls
    pkg shares s) := by
  grind [opLeadDeclarationReplyReceive, State.updSpan_kept, State.updLead_kept, State.enterDeclarations_kept,
      foldl_kept, = kept_mk, = keptF_fold]

theorem State.takeMsg_kept (src : Nat) (m : Msg) {s : State} (hs : Kept W a s) : Kept W a (State.takeMsg src m s) :=
    by
  unfold State.takeMsg
  split <;> grind (gen := 30) (ematch := 30) (splits := 30) [State.finish_kept, State.updSpan_kept,
      opKillNoticeReceive_kept, opSpanDeadReceive_kept, opJoinFlitReceive_kept, opSpanActiveReceive_kept,
      State.spanFails_kept, State.answerLeave_kept, State.takeLeaveReply_kept, opSpanEndReceive_kept,
      opPeriodProposalReceive_kept, opPeriodAckReceive_kept, State.takeFlowResult_kept, State.takeFlowFreed_kept,
      opFlowDeclarationReceive_kept, opSpanHoldReceive_kept, opOverrunNoticeReceive_kept, opHealthNoticeReceive_kept,
      State.leadWithdraw_kept, State.leadQuery_kept, State.groupsProgress_kept, opGroupReadyReceive_kept,
      opGroupActiveReceive_kept, opGroupLossReceive_kept, opRepairAnnounceReceive_kept, State.groupWatchdog_kept,
      State.takeMismatch_kept, State.takeGroupFail_kept, opCapSetReceive_kept, opCapAckReceive_kept,
      opLeadTakeoverNoticeReceive_kept, opLeadDeclarationReplyReceive_kept, foldl_kept, = kept_mk, = keptF_fold]

theorem State.deliver_kept (src : Nat) (m : Msg) {s : State} (hs : Kept W a s) : Kept W a (State.deliver src m s) :=
    by
  unfold State.deliver
  split <;> grind (gen := 30) (ematch := 30) (splits := 30) [State.toChoesk_kept, opWidthReceive_kept,
      opRoutedMarkerReceive_kept, opPlanRecordReceive_kept, State.resolveLeads_kept, State.takeMsg_kept, foldl_kept, =
      kept_mk, = keptF_fold]

theorem State.takeLocal_kept (port : Fin 16) (m : Msg) {s : State} (hs : Kept W a s) : Kept W a (State.takeLocal port
    m s) := by
  unfold State.takeLocal
  split <;> grind (gen := 30) (ematch := 30) (splits := 30) [opWidthReceive_kept, opNakReceive_kept, opTxeqReceive_kept,
      opDozeReqReceive_kept, opDozeAckReceive_kept, opWakeReceive_kept, opBeaconReceive_kept,
      opCreditDataReceive_kept, opCreditReturnReceive_kept, foldl_kept, = kept_mk, = keptF_fold]

theorem State.takeLinkctl_kept (port : Fin 16) (a0 : Arrival) {s : State} (hs : Kept W a s) : Kept W a
    (State.takeLinkctl port a0 s) := by
  grind [State.takeLinkctl, State.takeLocal_kept, foldl_kept, = kept_mk, = keptF_fold]

theorem State.takeFlit_kept (port : Fin 16) (f : Flit) {s : State} (hs : Kept W a s) : Kept W a (State.takeFlit port f
    s) := by
  have h1 := State.gatherFlit_kept port.val (128 + port.val) f hs
  have h2 := State.gatherFlit_kept port.val f.src f hs
  unfold State.takeFlit
  extract_lets i
  generalize hg1 : State.gatherFlit i (128 + i) f s = g1 at *
  generalize hg2 : State.gatherFlit i f.src f s = g2 at *
  split
  · grind [State.discardFlit_kept]
  · split
    · grind [State.cellFlit_kept]
    · split
      · split
        · split
          · exact State.takeLocal_kept _ _ h1
          · exact h1
        · exact h1
      · grind [State.discardFlit_kept, State.enterTransit_kept, State.deliver_kept]

theorem opFlitReceive_kept (port : Fin 16) (raw : BitVec 2048) (said : Said) {s : State} (hs : Kept W a s) : Kept W a
    (opFlitReceive port raw said s) := by
  grind [opFlitReceive, opWidthReceive_kept, State.crcFailed_kept, State.rxFlit_kept, State.takeLinkctl_kept,
      State.takeFlit_kept, foldl_kept, = kept_mk, = keptF_fold]

theorem State.releaseInbound_kept {s : State} (hs : Kept W a s) : Kept W a (State.releaseInbound s) := by
  grind [State.releaseInbound, State.updMgt_kept, State.log_kept, State.takeMsg_kept, foldl_kept, = kept_mk, =
      keptF_fold]

theorem opActivationTakeover_kept (code : BitVec 2) {s : State} (hs : Kept W a s) : Kept W a (opActivationTakeover
    code s) := by
  grind [opActivationTakeover, State.activationFails_kept, State.takeOver_kept, State.releaseInbound_kept, foldl_kept, =
      kept_mk, = keptF_fold]

theorem execCommandFetch_kept {s : State} (hs : Kept W a s) {t : State} (e_ : execCommandFetch s = .next t) : Kept W a
    t := by
  grind [execCommandFetch, State.whenPcie_kept, opCommandFetch_kept, foldl_kept, = kept_mk, = keptF_fold]

theorem execReachabilityChange_kept (pkg : Fin 128) {s : State} (hs : Kept W a s) {t : State} (e_ :
    execReachabilityChange pkg s = .next t) : Kept W a t := by
  grind [execReachabilityChange, State.whenClocked_kept, opReachabilityChange_kept, foldl_kept, = kept_mk, = keptF_fold]

theorem execLeadTakeoverNoticeReceive_kept (span : BitVec 16) (pkg : Fin 128) {s : State} (hs : Kept W a s) {t :
    State} (e_ : execLeadTakeoverNoticeReceive span pkg s = .next t) : Kept W a t := by
  grind [execLeadTakeoverNoticeReceive, State.whenClocked_kept, State.toChoesk_kept, opLeadTakeoverNoticeReceive_kept,
      foldl_kept, = kept_mk, = keptF_fold]

theorem execLeadDeclarationReplyReceive_kept (span : BitVec 16) (rho : BitVec 32) (decls : List Declared) (pkg : Fin
    128) (shares : BitVec 32) {s : State} (hs : Kept W a s) {t : State} (e_ : execLeadDeclarationReplyReceive span rho
    decls pkg shares s = .next t) : Kept W a t := by
  grind [execLeadDeclarationReplyReceive, State.whenClocked_kept, State.toChoesk_kept,
      opLeadDeclarationReplyReceive_kept, foldl_kept, = kept_mk, = keptF_fold]

theorem execDualLeadResolve_kept (span : BitVec 16) (pkg : Fin 128) {s : State} (hs : Kept W a s) {t : State} (e_ :
    execDualLeadResolve span pkg s = .next t) : Kept W a t := by
  grind [execDualLeadResolve, State.whenClocked_kept, opDualLeadResolve_kept, foldl_kept, = kept_mk, = keptF_fold]

theorem execFlitReceive_kept (port : Fin 16) (head : BitVec 96) (payload : BitVec 1920) (crc : BitVec 32) (said : Said)
    {s : State} (hs : Kept W a s) {t : State} (e_ : execFlitReceive port head payload crc said s = .next t) : Kept W a
    t := by
  grind [execFlitReceive, State.whenClocked_kept, opFlitReceive_kept, foldl_kept, = kept_mk, = keptF_fold]

theorem execActivationTakeover_kept (code : BitVec 2) {s : State} (hs : Kept W a s) {t : State} (e_ :
    execActivationTakeover code s = .next t) : Kept W a t := by
  grind [execActivationTakeover, State.whenClocked_kept, opActivationTakeover_kept, foldl_kept, = kept_mk, = keptF_fold]

end Sys2Proof.Machine
end

