-- ==== Sys2Proof/Laws/KeptFrame.lean ====
section
/-! SUPPORT. One lemma for each operation of Machine/Frame.lean that gives a state: it keeps what `Kept` says. -/

namespace Sys2Proof.Machine

open Sys2Proof

/- In turn, not as parallel tasks: each task that waits for another holds a stack of its own. -/
set_option Elab.async false

variable {W : Prop} {a : State}

theorem State.overrunNotices_kept (p : Nat) (f : FrameNo) {s : State} (hs : Kept W a s) : Kept W a
    (State.overrunNotices p f s) := by
  grind [State.overrunNotices, State.toChoesk_kept, State.send_kept, opOverrunNoticeReceive_kept, foldl_kept, = kept_mk,
      = keptF_fold]

theorem State.judge_kept (n p : Nat) (f : FrameNo) {s : State} (hs : Kept W a s) : Kept W a (State.judge n p f s) :=
    by
  grind [State.judge, State.updFrmp_kept, State.updAdm_kept, State.fireVec_kept, State.killAll_kept,
      State.overrunNotices_kept, foldl_kept, = kept_mk, = keptF_fold]

theorem State.continueSends_kept (p : Nat) {s : State} (hs : Kept W a s) : Kept W a (State.continueSends p s) := by
  grind [State.continueSends, State.updSeq_kept, State.toChoesk_kept, opFlowDeclarationReceive_kept, State.declare_kept,
      foldl_kept, = kept_mk, = keptF_fold]

theorem State.planPart_kept (p : Nat) {s : State} (hs : Kept W a s) : Kept W a (State.planPart p s) := by
  grind [State.planPart, State.updFrmp_kept, State.updPlnp_kept, State.hold_kept, foldl_kept, = kept_mk, = keptF_fold]

theorem State.switchPlans_kept {s : State} (hs : Kept W a s) : Kept W a (State.switchPlans s) := by
  grind [State.switchPlans, State.updPln_kept, State.discardCell_kept, State.hold_kept, State.planPart_kept, foldl_kept,
      = kept_mk, = keptF_fold]

theorem State.countStalls_kept {s : State} (hs : Kept W a s) : Kept W a (State.countStalls s) := by
  grind [State.countStalls, State.updSeqp_kept, foldl_kept, = kept_mk, = keptF_fold]

theorem State.readDroops_kept {s : State} (hs : Kept W a s) : Kept W a (State.readDroops s) := by
  grind [State.readDroops, State.takeFree_kept, State.readSensor_kept, foldl_kept, = kept_mk, = keptF_fold]

theorem State.frameCounts_kept {s : State} (hs : Kept W a s) : Kept W a (State.frameCounts s) := by
  grind (gen := 30) (ematch := 30) (splits := 30) [State.frameCounts, State.updFab_kept, State.updMgt_kept,
      State.updAdm_kept, State.resumeChecks_kept, State.countStalls_kept, State.readDroops_kept, foldl_kept, =
      kept_mk, = keptF_fold]

theorem State.energyCommit_kept (old : BitVec 3) {s : State} (hs : Kept W a s) : Kept W a (State.energyCommit old s)
    := by
  grind (gen := 30) (ematch := 30) (splits := 30) [State.energyCommit, State.updPwr_kept, State.loadCredit_kept,
      State.lockOps_kept, State.thermalCommit_kept, State.capCommit_kept, foldl_kept, = kept_mk, = keptF_fold]

theorem opCommitInstant_kept {s : State} (hs : Kept W a s) : Kept W a (opCommitInstant s) := by
  grind (gen := 30) (ematch := 30) (splits := 30) [opCommitInstant, State.updFrmp_kept, State.updFrm_kept,
      State.updPln_kept, State.emit_kept, State.flushLogCounts_kept, State.takeFree_kept, State.portCommit_kept,
      State.sfuCommit_kept, State.partCommit_kept, State.spanCommit_kept, State.sendMarkers_kept,
      State.periodCommit_kept, State.syncCommit_kept, State.planPasses_kept, State.holdCommit_kept,
      State.groupsProgress_kept, State.redCommit_kept, State.failover_kept, State.judge_kept,
      State.continueSends_kept, State.switchPlans_kept, State.frameCounts_kept, State.energyCommit_kept, foldl_kept, =
      kept_mk, = keptF_fold]

theorem opSlackStart_kept {s : State} (hs : Kept W a s) : Kept W a (opSlackStart s) := by
  grind (gen := 30) (ematch := 30) (splits := 30) [opSlackStart, State.updFrm_kept, State.updPln_kept,
      State.updMgt_kept, State.evalHealth_kept, State.admissionPass_kept, State.countIdle_kept,
      State.evalHottest_kept, State.hbmStep_kept, foldl_kept, = kept_mk, = keptF_fold]

theorem execCommitInstant_kept {s : State} (hs : Kept W a s) {t : State} (e_ : execCommitInstant s = .next t) : Kept W
    a t := by
  grind [execCommitInstant, State.whenClocked_kept, opCommitInstant_kept, foldl_kept, = kept_mk, = keptF_fold]

theorem execSlackStart_kept {s : State} (hs : Kept W a s) {t : State} (e_ : execSlackStart s = .next t) : Kept W a t
    := by
  grind [execSlackStart, State.whenClocked_kept, opSlackStart_kept, foldl_kept, = kept_mk, = keptF_fold]

end Sys2Proof.Machine
end

