-- ==== Sys2Proof/Laws/KeptExec.lean ====
section
/-! SUPPORT. Every command keeps what `Kept` says: the lemmas of the files beside this one, put together over all
commands. -/

namespace Sys2Proof.Machine

open Sys2Proof

variable {W : Prop} {a s t : State}

/-- From the state before a command to the state it answers, `Kept` goes on holding. -/
theorem exec_kept (hs : Kept W a s) (i : Instr) (e : exec i s = .next t) : Kept W a t := by
    cases i with
  | devInfo _ _ => exact execDevInfo_kept _ _ hs e
  | frameQuery _ _ => exact execFrameQuery_kept _ _ hs e
  | frameSetPeriod _ _ => exact execFrameSetPeriod_kept _ _ hs e
  | frameSetOverrunLimit _ _ => exact execFrameSetOverrunLimit_kept _ _ hs e
  | frameSetPreference _ _ => exact execFrameSetPreference_kept _ _ hs e
  | jobSubmit _ _ => exact execJobSubmit_kept _ _ hs e
  | jobAbort _ _ => exact execJobAbort_kept _ _ hs e
  | jobQuery _ _ => exact execJobQuery_kept _ _ hs e
  | admSet _ _ => exact execAdmSet_kept _ _ hs e
  | admQuery _ _ => exact execAdmQuery_kept _ _ hs e
  | partCreate _ _ => exact execPartCreate_kept _ _ hs e
  | partStart _ _ => exact execPartStart_kept _ _ hs e
  | partFence _ _ => exact execPartFence_kept _ _ hs e
  | partResume _ _ => exact execPartResume_kept _ _ hs e
  | partReset _ _ => exact execPartReset_kept _ _ hs e
  | partTeardown _ _ => exact execPartTeardown_kept _ _ hs e
  | partQuery _ _ => exact execPartQuery_kept _ _ hs e
  | spanCreate _ _ => exact execSpanCreate_kept _ _ hs e
  | spanJoin _ _ => exact execSpanJoin_kept _ _ hs e
  | spanLeave _ _ => exact execSpanLeave_kept _ _ hs e
  | spanDestroy _ _ => exact execSpanDestroy_kept _ _ hs e
  | spanQuery _ _ => exact execSpanQuery_kept _ _ hs e
  | ctxCreate _ _ => exact execCtxCreate_kept _ _ hs e
  | ctxDestroy _ _ => exact execCtxDestroy_kept _ _ hs e
  | ctxKill _ _ => exact execCtxKill_kept _ _ hs e
  | ctxQuery _ _ => exact execCtxQuery_kept _ _ hs e
  | ctxPostmortem _ _ => exact execCtxPostmortem_kept _ _ hs e
  | ctxPostmortemAdopt _ _ => exact execCtxPostmortemAdopt_kept _ _ hs e
  | memAlloc _ _ => exact execMemAlloc_kept _ _ hs e
  | memFree _ _ => exact execMemFree_kept _ _ hs e
  | memMapHost _ _ => exact execMemMapHost_kept _ _ hs e
  | memUnmapHost _ _ => exact execMemUnmapHost_kept _ _ hs e
  | memQuery _ _ => exact execMemQuery_kept _ _ hs e
  | boundSet _ _ => exact execBoundSet_kept _ _ hs e
  | boundGet _ _ => exact execBoundGet_kept _ _ hs e
  | kvAllocPool _ _ => exact execKvAllocPool_kept _ _ hs e
  | kvAllocFresh _ _ => exact execKvAllocFresh_kept _ _ hs e
  | kvAllocShare _ _ => exact execKvAllocShare_kept _ _ hs e
  | kvAllocWrite _ _ => exact execKvAllocWrite_kept _ _ hs e
  | kvRelease _ _ => exact execKvRelease_kept _ _ hs e
  | kvReleasePool _ _ => exact execKvReleasePool_kept _ _ hs e
  | kvInsert _ _ => exact execKvInsert_kept _ _ hs e
  | kvLookup _ _ => exact execKvLookup_kept _ _ hs e
  | kvEvictSubtree _ _ => exact execKvEvictSubtree_kept _ _ hs e
  | kvEvictOldest _ _ => exact execKvEvictOldest_kept _ _ hs e
  | kvEvictAll _ _ => exact execKvEvictAll_kept _ _ hs e
  | kvQuery _ _ => exact execKvQuery_kept _ _ hs e
  | sfuLoadTable _ _ => exact execSfuLoadTable_kept _ _ hs e
  | sfuUnloadTable _ _ => exact execSfuUnloadTable_kept _ _ hs e
  | sfuLoadProgram _ _ => exact execSfuLoadProgram_kept _ _ hs e
  | sfuQuery _ _ => exact execSfuQuery_kept _ _ hs e
  | flowDeclare _ _ => exact execFlowDeclare_kept _ _ hs e
  | flowWithdraw _ _ => exact execFlowWithdraw_kept _ _ hs e
  | flowQuery _ _ => exact execFlowQuery_kept _ _ hs e
  | groupDefine _ _ => exact execGroupDefine_kept _ _ hs e
  | groupRelease _ _ => exact execGroupRelease_kept _ _ hs e
  | groupQuery _ _ => exact execGroupQuery_kept _ _ hs e
  | commqCreate _ _ => exact execCommqCreate_kept _ _ hs e
  | commqDestroy _ _ => exact execCommqDestroy_kept _ _ hs e
  | pwrSetCapPackage _ _ => exact execPwrSetCapPackage_kept _ _ hs e
  | pwrSetCapSheaf _ _ => exact execPwrSetCapSheaf_kept _ _ hs e
  | pwrQuery _ _ => exact execPwrQuery_kept _ _ hs e
  | linkQuery _ _ => exact execLinkQuery_kept _ _ hs e
  | linkRetrainFast _ _ => exact execLinkRetrainFast_kept _ _ hs e
  | linkRetrainFull _ _ => exact execLinkRetrainFull_kept _ _ hs e
  | linkRetire _ _ => exact execLinkRetire_kept _ _ hs e
  | sheafQuery _ _ => exact execSheafQuery_kept _ _ hs e
  | fwStage _ _ => exact execFwStage_kept _ _ hs e
  | fwActivate _ _ => exact execFwActivate_kept _ _ hs e
  | fwQuery _ _ => exact execFwQuery_kept _ _ hs e
  | logRead _ _ => exact execLogRead_kept _ _ hs e
  | sensRead _ _ => exact execSensRead_kept _ _ hs e
  | atbSelect _ _ => exact execAtbSelect_kept _ _ hs e
  | atbSample _ _ => exact execAtbSample_kept _ _ hs e
  | testMbist _ _ => exact execTestMbist_kept _ _ hs e
  | mbxRingCfgWrite _ _ => exact execMbxRingCfgWrite_kept _ _ hs e
  | doorbell _ _ => exact execDoorbell_kept _ _ hs e
  | mbxCplHeadWrite _ _ => exact execMbxCplHeadWrite_kept _ _ hs e
  | mailboxReset _ => exact execMailboxReset_kept _ hs e
  | redCqHeadWrite _ _ _ => exact execRedCqHeadWrite_kept _ _ _ hs e
  | slackLateClear _ => exact execSlackLateClear_kept _ hs e
  | readClear _ _ => exact execReadClear_kept _ _ hs e
  | registerWrite _ _ _ => exact execRegisterWrite_kept _ _ _ hs e
  | unsupportedRequest _ _ _ => exact execUnsupportedRequest_kept _ _ _ hs e
  | numvfsWrite _ => exact execNumvfsWrite_kept _ hs e
  | atsEnableWrite _ _ => exact execAtsEnableWrite_kept _ _ hs e
  | msixUnmask _ _ _ => exact execMsixUnmask_kept _ _ _ hs e
  | functionLevelReset _ => exact execFunctionLevelReset_kept _ hs e
  | perstAssert => exact execPerstAssert_kept hs e
  | perstRelease _ _ => exact execPerstRelease_kept _ _ hs e
  | pcieLinkRetry _ _ => exact execPcieLinkRetry_kept _ _ hs e
  | pcieError _ _ => exact execPcieError_kept _ _ hs e
  | commandFetch => exact execCommandFetch_kept hs e
  | completionWrite _ => exact execCompletionWrite_kept _ hs e
  | irqAgeExpiry _ => exact execIrqAgeExpiry_kept _ hs e
  | mailboxResetDone _ => exact execMailboxResetDone_kept _ hs e
  | mailboxResetWatchdog _ => exact execMailboxResetWatchdog_kept _ hs e
  | commitInstant => exact execCommitInstant_kept hs e
  | planCommit => exact execPlanCommit_kept hs e
  | planRecordSend => exact execPlanRecordSend_kept hs e
  | planRecordReceive _ _ => exact execPlanRecordReceive_kept _ _ hs e
  | slackStart => exact execSlackStart_kept hs e
  | markerReceive _ _ _ => exact execMarkerReceive_kept _ _ _ hs e
  | routedMarkerReceive _ _ => exact execRoutedMarkerReceive_kept _ _ hs e
  | markerTimeout => exact execMarkerTimeout_kept hs e
  | holdoverExpiry => exact execHoldoverExpiry_kept hs e
  | deputyTakeover => exact execDeputyTakeover_kept hs e
  | fullReelection => exact execFullReelection_kept hs e
  | periodProposalReceive _ _ => exact execPeriodProposalReceive_kept _ _ hs e
  | periodChangeAcknowledge => exact execPeriodChangeAcknowledge_kept hs e
  | periodAckReceive _ => exact execPeriodAckReceive_kept _ hs e
  | periodChangeAbandon => exact execPeriodChangeAbandon_kept hs e
  | overrunNoticeReceive _ _ _ => exact execOverrunNoticeReceive_kept _ _ _ hs e
  | spanHoldReceive _ _ _ => exact execSpanHoldReceive_kept _ _ _ hs e
  | flowDeclarationReceive _ _ => exact execFlowDeclarationReceive_kept _ _ hs e
  | healthNoticeReceive _ _ _ _ _ => exact execHealthNoticeReceive_kept _ _ _ _ _ hs e
  | plannerTakeover => exact execPlannerTakeover_kept hs e
  | cellWindow _ _ => exact execCellWindow_kept _ _ hs e
  | beaconRound => exact execBeaconRound_kept hs e
  | beaconReceive _ _ => exact execBeaconReceive_kept _ _ hs e
  | dupFlagClear _ => exact execDupFlagClear_kept _ hs e
  | keyExpiry _ => exact execKeyExpiry_kept _ hs e
  | neighbourVectorExpiry _ => exact execNeighbourVectorExpiry_kept _ hs e
  | electionClose => exact execElectionClose_kept hs e
  | deputyRename => exact execDeputyRename_kept hs e
  | standaloneReopen => exact execStandaloneReopen_kept hs e
  | reachabilityChange _ => exact execReachabilityChange_kept _ hs e
  | leadTakeoverNoticeReceive _ _ => exact execLeadTakeoverNoticeReceive_kept _ _ hs e
  | leadDeclarationReplyReceive _ _ _ _ _ => exact execLeadDeclarationReplyReceive_kept _ _ _ _ _ hs e
  | dualLeadResolve _ _ => exact execDualLeadResolve_kept _ _ hs e
  | controlFlitForward _ => exact execControlFlitForward_kept _ hs e
  | outerHelloReceive _ _ _ => exact execOuterHelloReceive_kept _ _ _ hs e
  | creditDataSend _ _ _ => exact execCreditDataSend_kept _ _ _ hs e
  | creditDataReceive _ _ _ => exact execCreditDataReceive_kept _ _ _ hs e
  | creditReturn _ => exact execCreditReturn_kept _ hs e
  | creditReturnReceive _ _ => exact execCreditReturnReceive_kept _ _ hs e
  | sheafStatusSend => exact execSheafStatusSend_kept hs e
  | alignmentMarkerReceive _ _ _ _ _ => exact execAlignmentMarkerReceive_kept _ _ _ _ _ hs e
  | portBringup _ _ _ _ => exact execPortBringup_kept _ _ _ _ hs e
  | bringupTimeout _ => exact execBringupTimeout_kept _ hs e
  | flitReceive _ _ _ _ _ => exact execFlitReceive_kept _ _ _ _ _ hs e
  | nakReceive _ _ => exact execNakReceive_kept _ _ hs e
  | nakResend _ => exact execNakResend_kept _ hs e
  | replayTimeout _ => exact execReplayTimeout_kept _ hs e
  | fastRetrain _ => exact execFastRetrain_kept _ hs e
  | trainReceive _ => exact execTrainReceive_kept _ hs e
  | retrainEnd _ _ _ => exact execRetrainEnd_kept _ _ _ hs e
  | retrainRestart _ => exact execRetrainRestart_kept _ hs e
  | burstStart _ => exact execBurstStart_kept _ hs e
  | burstEnd _ _ => exact execBurstEnd_kept _ _ hs e
  | burstQuarantine _ => exact execBurstQuarantine_kept _ hs e
  | recalibrationEnd _ _ => exact execRecalibrationEnd_kept _ _ hs e
  | probationEnd _ => exact execProbationEnd_kept _ hs e
  | stuckLane _ _ => exact execStuckLane_kept _ _ hs e
  | widthChange _ _ => exact execWidthChange_kept _ _ hs e
  | widthReceive _ _ => exact execWidthReceive_kept _ _ hs e
  | widthChangeTimeout _ => exact execWidthChangeTimeout_kept _ hs e
  | txeqReceive _ _ _ => exact execTxeqReceive_kept _ _ _ hs e
  | adaptationSnapshot _ _ => exact execAdaptationSnapshot_kept _ _ hs e
  | dozeRequest _ => exact execDozeRequest_kept _ hs e
  | dozeReqReceive _ => exact execDozeReqReceive_kept _ hs e
  | dozeAckReceive _ => exact execDozeAckReceive_kept _ hs e
  | wakeRequest _ => exact execWakeRequest_kept _ hs e
  | wakeReceive _ => exact execWakeReceive_kept _ hs e
  | dozeEntry _ => exact execDozeEntry_kept _ hs e
  | wakeTimeout _ => exact execWakeTimeout_kept _ hs e
  | operationIssue _ => exact execOperationIssue_kept _ hs e
  | oversizeIssue _ _ => exact execOversizeIssue_kept _ _ hs e
  | descriptorFetch _ => exact execDescriptorFetch_kept _ hs e
  | engineStart _ _ => exact execEngineStart_kept _ _ hs e
  | fillHoldExpiry _ => exact execFillHoldExpiry_kept _ hs e
  | fillRelease _ _ _ => exact execFillRelease_kept _ _ _ hs e
  | tileMultiply _ => exact execTileMultiply_kept _ hs e
  | attentionForward _ => exact execAttentionForward_kept _ hs e
  | bucketSort _ => exact execBucketSort_kept _ hs e
  | attentionBackward _ => exact execAttentionBackward_kept _ hs e
  | specialFunctionPass _ => exact execSpecialFunctionPass_kept _ hs e
  | circulationSend _ => exact execCirculationSend_kept _ hs e
  | circulationReceive _ => exact execCirculationReceive_kept _ hs e
  | reductionExplicit _ => exact execReductionExplicit_kept _ hs e
  | fusedMultiplyReduce _ => exact execFusedMultiplyReduce_kept _ hs e
  | reshardMove _ => exact execReshardMove_kept _ hs e
  | copyData _ => exact execCopyData_kept _ hs e
  | copyHandleLoad _ => exact execCopyHandleLoad_kept _ hs e
  | copyBoundLoad _ => exact execCopyBoundLoad_kept _ hs e
  | copyZeroFill _ => exact execCopyZeroFill_kept _ hs e
  | layerFence _ => exact execLayerFence_kept _ hs e
  | handlePop _ => exact execHandlePop_kept _ hs e
  | handlePush _ => exact execHandlePush_kept _ hs e
  | operationRetire _ => exact execOperationRetire_kept _ hs e
  | stallWatchdog _ => exact execStallWatchdog_kept _ hs e
  | sfuLoadWrite _ _ => exact execSfuLoadWrite_kept _ _ hs e
  | killStart _ => exact execKillStart_kept _ hs e
  | killNoticeReceive _ _ _ _ _ => exact execKillNoticeReceive_kept _ _ _ _ _ hs e
  | killComplete _ _ => exact execKillComplete_kept _ _ hs e
  | translationCompletionReceive _ _ _ _ _ _ _ => exact execTranslationCompletionReceive_kept _ _ _ _ _ _ _ hs e
  | invalidateRequestReceive _ _ _ _ => exact execInvalidateRequestReceive_kept _ _ _ _ hs e
  | invalidationComplete _ => exact execInvalidationComplete_kept _ hs e
  | shootdownAcknowledge _ => exact execShootdownAcknowledge_kept _ hs e
  | pageScrubComplete _ => exact execPageScrubComplete_kept _ hs e
  | partitionFault _ _ => exact execPartitionFault_kept _ _ hs e
  | teardownRelease _ => exact execTeardownRelease_kept _ hs e
  | joinFlitReceive _ _ _ => exact execJoinFlitReceive_kept _ _ _ hs e
  | spanActiveReceive _ _ => exact execSpanActiveReceive_kept _ _ hs e
  | spanFormingTimeout _ => exact execSpanFormingTimeout_kept _ hs e
  | spanEndReceive _ => exact execSpanEndReceive_kept _ hs e
  | spanDeadReceive _ _ => exact execSpanDeadReceive_kept _ _ hs e
  | spanDeadResend _ _ => exact execSpanDeadResend_kept _ _ hs e
  | groupReadyReceive _ _ _ _ => exact execGroupReadyReceive_kept _ _ _ _ hs e
  | groupActiveReceive _ _ => exact execGroupActiveReceive_kept _ _ hs e
  | groupDefineTimeout _ => exact execGroupDefineTimeout_kept _ hs e
  | groupLossReceive _ _ _ _ => exact execGroupLossReceive_kept _ _ _ _ hs e
  | repairAnnounceReceive _ _ _ _ _ => exact execRepairAnnounceReceive_kept _ _ _ _ _ hs e
  | groupRepairTimeout _ => exact execGroupRepairTimeout_kept _ hs e
  | reductionRestart _ => exact execReductionRestart_kept _ hs e
  | chunkImageReceive _ _ => exact execChunkImageReceive_kept _ _ hs e
  | chunkIntake _ _ => exact execChunkIntake_kept _ _ hs e
  | stagingBufferTake _ _ => exact execStagingBufferTake_kept _ _ hs e
  | thermalSample _ => exact execThermalSample_kept _ hs e
  | baseChargeUpdate _ _ => exact execBaseChargeUpdate_kept _ _ hs e
  | capSetReceive _ _ _ => exact execCapSetReceive_kept _ _ _ hs e
  | capAckReceive _ _ _ => exact execCapAckReceive_kept _ _ _ hs e
  | sheafCapTimeout => exact execSheafCapTimeout_kept hs e
  | powerOnReset => exact execPowerOnReset_kept hs e
  | pgoodRise => exact execPgoodRise_kept hs e
  | pgoodTimeout => exact execPgoodTimeout_kept hs e
  | pgoodFall _ => exact execPgoodFall_kept _ hs e
  | sequenceRetry => exact execSequenceRetry_kept hs e
  | sysRstAssert => exact execSysRstAssert_kept hs e
  | sysRstRelease => exact execSysRstRelease_kept hs e
  | warmRstAssert => exact execWarmRstAssert_kept hs e
  | fabricRefclkLoss => exact execFabricRefclkLoss_kept hs e
  | pcieRefclkLoss _ => exact execPcieRefclkLoss_kept _ hs e
  | coldResetRelease => exact execColdResetRelease_kept hs e
  | selfTestComplete _ _ _ _ _ => exact execSelfTestComplete_kept _ _ _ _ _ hs e
  | hbmTrainingComplete _ => exact execHbmTrainingComplete_kept _ hs e
  | hbmTestComplete _ => exact execHbmTestComplete_kept _ hs e
  | managementResetRelease => exact execManagementResetRelease_kept hs e
  | bootComplete u v => exact execBootComplete_kept u v hs e
  | standbyMirrored => exact execStandbyMirrored_kept hs e
  | hbmRefresh _ _ => exact execHbmRefresh_kept _ _ hs e
  | watchdogExpiry _ => exact execWatchdogExpiry_kept _ hs e
  | warmReset => exact execWarmReset_kept hs e
  | stageVerifyComplete u v => exact execStageVerifyComplete_kept u v hs e
  | activationStandbyLoaded _ => exact execActivationStandbyLoaded_kept _ hs e
  | activationTakeover _ => exact execActivationTakeover_kept _ hs e
  | dfuDnload _ _ => exact execDfuDnload_kept _ _ hs e
  | dfuManifest u v => exact execDfuManifest_kept u v hs e
  | dfuDetach => exact execDfuDetach_kept hs e
  | usbBusReset => exact execUsbBusReset_kept hs e
  | configItemRead _ => exact execConfigItemRead_kept _ hs e
  | configItemWrite _ _ => exact execConfigItemWrite_kept _ _ hs e
  | logRecordProgram => exact execLogRecordProgram_kept hs e
  | pmbusPoll _ => exact execPmbusPoll_kept _ hs e
  | smbusStretchTimeout _ _ _ => exact execSmbusStretchTimeout_kept _ _ _ hs e
  | smbusStuckRecovery _ _ => exact execSmbusStuckRecovery_kept _ _ hs e
  | smbusRecoveryRetry _ _ => exact execSmbusRecoveryRetry_kept _ _ hs e
  | smbtStatus _ => exact execSmbtStatus_kept _ hs e
  | smbtSetCap _ _ => exact execSmbtSetCap_kept _ _ hs e
  | smbtPower _ => exact execSmbtPower_kept _ hs e
  | smbtAlertAck _ => exact execSmbtAlertAck_kept _ hs e
  | alertResponse => exact execAlertResponse_kept hs e
  | uartStatus => exact execUartStatus_kept hs e
  | uartLog _ => exact execUartLog_kept _ hs e
  | uartSens _ => exact execUartSens_kept _ hs e
  | uartLink _ => exact execUartLink_kept _ hs e
  | bypass => exact execBypass_kept hs e
  | idcode => exact execIdcode_kept hs e
  | samplePreload => exact execSamplePreload_kept hs e
  | extest => exact execExtest_kept hs e
  | extestPulse => exact execExtestPulse_kept hs e
  | extestTrain => exact execExtestTrain_kept hs e
  | clamp => exact execClamp_kept hs e
  | highz => exact execHighz_kept hs e
  | scanMode => exact execScanMode_kept hs e
  | mbistRun => exact execMbistRun_kept hs e
  | atbCtrl => exact execAtbCtrl_kept hs e
  | jtagWarmReset => exact execJtagWarmReset_kept hs e
  | aonTimerTick => exact execAonTimerTick_kept hs e
  | uncorrectableCodeword _ _ => exact execUncorrectableCodeword_kept _ _ hs e
  | signalDetect _ => exact execSignalDetect_kept _ hs e
  | sensorSample _ _ _ => exact execSensorSample_kept _ _ _ hs e
  | testLogicReset => exact execTestLogicReset_kept hs e
  | vddAonLoss => exact execVddAonLoss_kept hs e

/-- A state keeps what `Kept` says of itself, for memories in canonical form. -/
theorem Kept.refl (s : State) : Kept (s.dram.wf = true ∧ s.spad.wf = true ∧ s.host.wf = true) s s :=
  ⟨rfl, List.prefix_refl _, Nat.le_refl _,
    ⟨rfl, rfl, rfl, rfl, rfl, rfl, rfl, rfl, rfl, rfl, BitVec.le_refl _, BitVec.or_self⟩, fun h => h.1, fun h => h.2.1, fun h => h.2.2⟩

end Sys2Proof.Machine
end

