-- ==== Sys2Proof/Laws/Sending.lean ====
section
/-! SUPPORT. What sending, logging and signalling leave alone. -/

namespace Sys2Proof.Machine

open Sys2Proof

/-- `Far` over the fields it speaks of. -/
def FarF (a : State) (fuse : Fuses) (flash : Flash) (por : Por) (frm : Frm) (mbx : Tab Mailbox) (nextUid : Nat) (adm :
    Adm) (ten : Tenants) (xlt : Xlt) (seq : Seq) (kv : Tab (Option KvPool)) (sfu : Tab SfuSlot) (builtins : Tab Nat)
    (pln : Pln) (red : Red) (pwr : Pwr) (dram : Memory) (spad : Memory) (host : Memory) (pending : List Instr) : Prop
    :=
  fuse = a.fuse ∧ flash = a.flash ∧ por = a.por ∧ frm = a.frm ∧ mbx = a.mbx ∧ nextUid = a.nextUid ∧ adm = a.adm ∧ ten
      = a.ten ∧ xlt = a.xlt ∧ seq = a.seq ∧ kv = a.kv ∧ sfu = a.sfu ∧ builtins = a.builtins ∧ pln = a.pln ∧ red =
      a.red ∧ pwr = a.pwr ∧ dram = a.dram ∧ spad = a.spad ∧ host = a.host ∧ pending = a.pending

/-- Sending, logging and signalling reach only the ports, the fabric, the log, the vectors and the outputs: every
    other
field of `s` is that of `a`. -/
def Far (a s : State) : Prop := FarF a s.fuse s.flash s.por s.frm s.mbx s.nextUid s.adm s.ten s.xlt s.seq s.kv s.sfu
    s.builtins s.pln s.red s.pwr s.dram s.spad s.host s.pending

theorem farF_fold (a s : State) : FarF a s.fuse s.flash s.por s.frm s.mbx s.nextUid s.adm s.ten s.xlt s.seq s.kv s.sfu
    s.builtins s.pln s.red s.pwr s.dram s.spad s.host s.pending ↔ Far a s := Iff.rfl

theorem far_mk (a) (fuse flash por mgt frm pcie mbx nextUid adm ten xlt seq kv sfu builtins pln red plk fab pwr dram
    spad host out free pending) :
    Far a (State.mk fuse flash por mgt frm pcie mbx nextUid adm ten xlt seq kv sfu builtins pln red plk fab pwr dram
        spad host out free pending) ↔ FarF a fuse flash por frm mbx nextUid adm ten xlt seq kv sfu builtins pln red
        pwr dram spad host pending := Iff.rfl

theorem Far.refl (s : State) : Far s s := ⟨rfl, rfl, rfl, rfl, rfl, rfl, rfl, rfl, rfl, rfl, rfl, rfl, rfl, rfl, rfl,
    rfl, rfl, rfl, rfl, rfl⟩

theorem foldl_far {a : State} {α : Type} {g : State → α → State} (hg : ∀ s x, Far a s → Far a (g s x)) (l : List α)
    {s : State} (h : Far a s) : Far a (l.foldl g s) := by
  induction l generalizing s with
  | nil => exact h
  | cons x t ih => exact ih (hg _ _ h)

variable {a : State}

theorem State.updFn_far (fn : Nat) (f : PciFn → PciFn) {s : State} (hs : Far a s) : Far a (State.updFn fn f s) := by
  grind [State.updFn, foldl_far, = far_mk, = farF_fold]

theorem State.emit_far (o : Output) {s : State} (hs : Far a s) : Far a (State.emit o s) := by
  grind [State.emit, foldl_far, = far_mk, = farF_fold]

theorem State.emitPcie_far (t : HostTlp) {s : State} (hs : Far a s) : Far a (State.emitPcie t s) := by
  grind [State.emitPcie, State.emit_far, foldl_far, = far_mk, = farF_fold]

theorem State.fireVec_far (fn v : Nat) {s : State} (hs : Far a s) : Far a (State.fireVec fn v s) := by
  grind [State.fireVec, State.updFn_far, State.emitPcie_far, foldl_far, = far_mk, = farF_fold]

theorem State.updMgt_far (f : Mgt → Mgt) {s : State} (hs : Far a s) : Far a (State.updMgt f s) := by
  grind [State.updMgt, foldl_far, = far_mk, = farF_fold]

theorem State.writeLog_far (ev : Nat) (rs : Reason) (part : Option (Nat × Nat)) (data : W64) {s : State} (hs : Far a
    s) : Far a (State.writeLog ev rs part data s) := by
  grind [State.writeLog, State.updMgt_far, State.emit_far, foldl_far, = far_mk, = farF_fold]

theorem State.logEvent_far (ev : Nat) (rs : Reason) (part : Option (Nat × Nat)) (data : List (Nat × Nat)) {s : State}
    (hs : Far a s) : Far a (State.logEvent ev rs part data s) := by
  grind [State.logEvent, State.updMgt_far, State.fireVec_far, State.writeLog_far, foldl_far, = far_mk, = farF_fold]

theorem State.log_far (ev : Nat) (data : List (Nat × Nat)) {s : State} (hs : Far a s) : Far a (State.log ev data s) :=
    by
  grind [State.log, State.logEvent_far, foldl_far, = far_mk, = farF_fold]

theorem State.updWork_far (i : Nat) (f : PortWork → PortWork) {s : State} (hs : Far a s) : Far a (State.updWork i f s)
    := by
  grind [State.updWork, foldl_far, = far_mk, = farF_fold]

theorem State.updLine_far (i : Nat) (f : LineTx → LineTx) {s : State} (hs : Far a s) : Far a (State.updLine i f s) :=
    by
  grind [State.updLine, foldl_far, = far_mk, = farF_fold]

theorem State.takeFree_far {s : State} (hs : Far a s) : Far a (State.takeFree s).2 := by
  grind [State.takeFree, foldl_far, = far_mk, = farF_fold]

theorem State.sendLine_far (i : Nat) (seq : BitVec 12) (ack : Option (BitVec 12)) (f : Flit) {s : State} (hs : Far a s) :
    Far a (State.sendLine i seq ack f s) := by
  unfold State.sendLine
  extract_lets w bs fill n
  refine State.emit_far _ (State.updLine_far _ _ ?_)
  exact State.takeFree_far hs

theorem State.txNow_far (i : Nat) (f : Flit) {s : State} (hs : Far a s) : Far a (State.txNow i f s) := by
  grind [State.txNow, State.updWork_far, State.sendLine_far, foldl_far, = far_mk, = farF_fold]

theorem State.txRaw_far (i : Nat) (f : Flit) {s : State} (hs : Far a s) : Far a (State.txRaw i f s) := by
  grind [State.txRaw, State.updWork_far, State.txNow_far, foldl_far, = far_mk, = farF_fold]

theorem State.updPort_far (i : Nat) (f : Port → Port) {s : State} (hs : Far a s) : Far a (State.updPort i f s) := by
  grind [State.updPort, foldl_far, = far_mk, = farF_fold]

theorem State.flitsOf_far (dst : Option Nat) (m : Msg) {s : State} (hs : Far a s) : Far a (State.flitsOf dst m s).2 := by
  simp only [State.flitsOf]
  exact State.takeFree_far hs

theorem State.txLocal_far (i : Nat) (m : Msg) {s : State} (hs : Far a s) : Far a (State.txLocal i m s) := by
  grind [State.txLocal, State.flitsOf_far, State.txRaw_far, foldl_far, = far_mk, = farF_fold]

theorem State.wakeTrain_far (i : Nat) {s : State} (hs : Far a s) : Far a (State.wakeTrain i s) := by
  grind [State.wakeTrain, State.updLine_far, foldl_far, = far_mk, = farF_fold]

theorem State.wakePort_far (i : Nat) {s : State} (hs : Far a s) : Far a (State.wakePort i s) := by
  grind [State.wakePort, State.updPort_far, State.updWork_far, State.txLocal_far, State.wakeTrain_far, foldl_far, =
      far_mk, = farF_fold]

theorem State.tx_far (i : Nat) (f : Flit) {s : State} (hs : Far a s) : Far a (State.tx i f s) := by
  grind [State.tx, State.updWork_far, State.txRaw_far, State.wakePort_far, foldl_far, = far_mk, = farF_fold]

theorem State.updFab_far (f : Fab → Fab) {s : State} (hs : Far a s) : Far a (State.updFab f s) := by
  grind [State.updFab, foldl_far, = far_mk, = farF_fold]

theorem State.discardFlit_far (port : Nat) (f : Flit) {s : State} (hs : Far a s) : Far a (State.discardFlit port f s)
    := by
  grind [State.discardFlit, State.updFab_far, State.logEvent_far, foldl_far, = far_mk, = farF_fold]

theorem State.countAlternate_far (port : Nat) (f : Flit) {s : State} (hs : Far a s) : Far a (State.countAlternate port
    f s) := by
  grind [State.countAlternate, State.updFab_far, State.log_far, foldl_far, = far_mk, = farF_fold]

theorem State.noteWay_far (i : Nat) (f : Flit) {s : State} (hs : Far a s) : Far a (State.noteWay i f s) := by
  grind [State.noteWay, State.updFab_far, foldl_far, = far_mk, = farF_fold]

theorem State.sendFlit_far (f : Flit) {s : State} (hs : Far a s) : Far a (State.sendFlit f s) := by
  grind [State.sendFlit, State.updFab_far, State.tx_far, State.discardFlit_far, State.countAlternate_far,
      State.noteWay_far, foldl_far, = far_mk, = farF_fold]

theorem State.send_far (dst : Nat) (m : Msg) {s : State} (hs : Far a s) : Far a (State.send dst m s) := by
  grind [State.send, State.emit_far, State.flitsOf_far, State.sendFlit_far, foldl_far, = far_mk, = farF_fold]

theorem State.sendAll_far (dsts : List Nat) (m : Msg) {s : State} (hs : Far a s) : Far a (State.sendAll dsts m s) :=
    by
  grind [State.sendAll, State.send_far, foldl_far, = far_mk, = farF_fold]

theorem State.retryWaiting_far {s : State} (hs : Far a s) : Far a (State.retryWaiting s) := by
  grind [State.retryWaiting, State.updFab_far, State.sendFlit_far, foldl_far, = far_mk, = farF_fold]

theorem State.handBack_far (i : Nat) (f : Flit) {s : State} (hs : Far a s) : Far a (State.handBack i f s) := by
  grind [State.handBack, State.updWork_far, State.updFab_far, State.sendFlit_far, foldl_far, = far_mk, = farF_fold]

theorem State.withdraw_far (i : Nat) {s : State} (hs : Far a s) : Far a (State.withdraw i s) := by
  grind [State.withdraw, State.updWork_far, State.handBack_far, foldl_far, = far_mk, = farF_fold]

theorem State.holdMsg_far (src : Nat) (m : Msg) {s : State} (hs : Far a s) : Far a (State.holdMsg src m s) := by
  grind [State.holdMsg, State.updMgt_far, foldl_far, = far_mk, = farF_fold]

theorem Far.fuse {a s : State} (h : Far a s) : s.fuse = a.fuse := h.1

theorem Far.flash {a s : State} (h : Far a s) : s.flash = a.flash := h.2.1

theorem Far.por {a s : State} (h : Far a s) : s.por = a.por := h.2.2.1

theorem Far.frm {a s : State} (h : Far a s) : s.frm = a.frm := h.2.2.2.1

theorem Far.mbx {a s : State} (h : Far a s) : s.mbx = a.mbx := h.2.2.2.2.1

theorem Far.nextUid {a s : State} (h : Far a s) : s.nextUid = a.nextUid := h.2.2.2.2.2.1

theorem Far.adm {a s : State} (h : Far a s) : s.adm = a.adm := h.2.2.2.2.2.2.1

theorem Far.ten {a s : State} (h : Far a s) : s.ten = a.ten := h.2.2.2.2.2.2.2.1

theorem Far.xlt {a s : State} (h : Far a s) : s.xlt = a.xlt := h.2.2.2.2.2.2.2.2.1

theorem Far.seq {a s : State} (h : Far a s) : s.seq = a.seq := h.2.2.2.2.2.2.2.2.2.1

theorem Far.kv {a s : State} (h : Far a s) : s.kv = a.kv := h.2.2.2.2.2.2.2.2.2.2.1

theorem Far.sfu {a s : State} (h : Far a s) : s.sfu = a.sfu := h.2.2.2.2.2.2.2.2.2.2.2.1

theorem Far.builtins {a s : State} (h : Far a s) : s.builtins = a.builtins := h.2.2.2.2.2.2.2.2.2.2.2.2.1

theorem Far.pln {a s : State} (h : Far a s) : s.pln = a.pln := h.2.2.2.2.2.2.2.2.2.2.2.2.2.1

theorem Far.red {a s : State} (h : Far a s) : s.red = a.red := h.2.2.2.2.2.2.2.2.2.2.2.2.2.2.1

theorem Far.pwr {a s : State} (h : Far a s) : s.pwr = a.pwr := h.2.2.2.2.2.2.2.2.2.2.2.2.2.2.2.1

theorem Far.dram {a s : State} (h : Far a s) : s.dram = a.dram := h.2.2.2.2.2.2.2.2.2.2.2.2.2.2.2.2.1

theorem Far.spad {a s : State} (h : Far a s) : s.spad = a.spad := h.2.2.2.2.2.2.2.2.2.2.2.2.2.2.2.2.2.1

theorem Far.host {a s : State} (h : Far a s) : s.host = a.host := h.2.2.2.2.2.2.2.2.2.2.2.2.2.2.2.2.2.2.1

theorem Far.pending {a s : State} (h : Far a s) : s.pending = a.pending := h.2.2.2.2.2.2.2.2.2.2.2.2.2.2.2.2.2.2.2

@[simp] theorem State.fireVec_fuse (fn : Nat) (v : Nat) (s : State) : (State.fireVec fn v s).fuse = s.fuse :=
  Far.fuse (State.fireVec_far _ _ (Far.refl s))
@[simp] theorem State.fireVec_flash (fn : Nat) (v : Nat) (s : State) : (State.fireVec fn v s).flash = s.flash :=
  Far.flash (State.fireVec_far _ _ (Far.refl s))
@[simp] theorem State.fireVec_por (fn : Nat) (v : Nat) (s : State) : (State.fireVec fn v s).por = s.por :=
  Far.por (State.fireVec_far _ _ (Far.refl s))
@[simp] theorem State.fireVec_frm (fn : Nat) (v : Nat) (s : State) : (State.fireVec fn v s).frm = s.frm :=
  Far.frm (State.fireVec_far _ _ (Far.refl s))
@[simp] theorem State.fireVec_mbx (fn : Nat) (v : Nat) (s : State) : (State.fireVec fn v s).mbx = s.mbx :=
  Far.mbx (State.fireVec_far _ _ (Far.refl s))
@[simp] theorem State.fireVec_nextUid (fn : Nat) (v : Nat) (s : State) : (State.fireVec fn v s).nextUid = s.nextUid :=
  Far.nextUid (State.fireVec_far _ _ (Far.refl s))
@[simp] theorem State.fireVec_adm (fn : Nat) (v : Nat) (s : State) : (State.fireVec fn v s).adm = s.adm :=
  Far.adm (State.fireVec_far _ _ (Far.refl s))
@[simp] theorem State.fireVec_ten (fn : Nat) (v : Nat) (s : State) : (State.fireVec fn v s).ten = s.ten :=
  Far.ten (State.fireVec_far _ _ (Far.refl s))
@[simp] theorem State.fireVec_xlt (fn : Nat) (v : Nat) (s : State) : (State.fireVec fn v s).xlt = s.xlt :=
  Far.xlt (State.fireVec_far _ _ (Far.refl s))
@[simp] theorem State.fireVec_seq (fn : Nat) (v : Nat) (s : State) : (State.fireVec fn v s).seq = s.seq :=
  Far.seq (State.fireVec_far _ _ (Far.refl s))
@[simp] theorem State.fireVec_kv (fn : Nat) (v : Nat) (s : State) : (State.fireVec fn v s).kv = s.kv :=
  Far.kv (State.fireVec_far _ _ (Far.refl s))
@[simp] theorem State.fireVec_sfu (fn : Nat) (v : Nat) (s : State) : (State.fireVec fn v s).sfu = s.sfu :=
  Far.sfu (State.fireVec_far _ _ (Far.refl s))
@[simp] theorem State.fireVec_builtins (fn : Nat) (v : Nat) (s : State) : (State.fireVec fn v s).builtins = s.builtins
    :=
  Far.builtins (State.fireVec_far _ _ (Far.refl s))
@[simp] theorem State.fireVec_pln (fn : Nat) (v : Nat) (s : State) : (State.fireVec fn v s).pln = s.pln :=
  Far.pln (State.fireVec_far _ _ (Far.refl s))
@[simp] theorem State.fireVec_red (fn : Nat) (v : Nat) (s : State) : (State.fireVec fn v s).red = s.red :=
  Far.red (State.fireVec_far _ _ (Far.refl s))
@[simp] theorem State.fireVec_pwr (fn : Nat) (v : Nat) (s : State) : (State.fireVec fn v s).pwr = s.pwr :=
  Far.pwr (State.fireVec_far _ _ (Far.refl s))
@[simp] theorem State.fireVec_dram (fn : Nat) (v : Nat) (s : State) : (State.fireVec fn v s).dram = s.dram :=
  Far.dram (State.fireVec_far _ _ (Far.refl s))
@[simp] theorem State.fireVec_spad (fn : Nat) (v : Nat) (s : State) : (State.fireVec fn v s).spad = s.spad :=
  Far.spad (State.fireVec_far _ _ (Far.refl s))
@[simp] theorem State.fireVec_host (fn : Nat) (v : Nat) (s : State) : (State.fireVec fn v s).host = s.host :=
  Far.host (State.fireVec_far _ _ (Far.refl s))
@[simp] theorem State.fireVec_pending (fn : Nat) (v : Nat) (s : State) : (State.fireVec fn v s).pending = s.pending :=
  Far.pending (State.fireVec_far _ _ (Far.refl s))

@[simp] theorem State.logEvent_fuse (ev : Nat) (rs : Reason) (part : Option (Nat × Nat)) (data : List (Nat × Nat)) (s
    : State) : (State.logEvent ev rs part data s).fuse = s.fuse :=
  Far.fuse (State.logEvent_far _ _ _ _ (Far.refl s))
@[simp] theorem State.logEvent_flash (ev : Nat) (rs : Reason) (part : Option (Nat × Nat)) (data : List (Nat × Nat)) (s
    : State) : (State.logEvent ev rs part data s).flash = s.flash :=
  Far.flash (State.logEvent_far _ _ _ _ (Far.refl s))
@[simp] theorem State.logEvent_por (ev : Nat) (rs : Reason) (part : Option (Nat × Nat)) (data : List (Nat × Nat)) (s :
    State) : (State.logEvent ev rs part data s).por = s.por :=
  Far.por (State.logEvent_far _ _ _ _ (Far.refl s))
@[simp] theorem State.logEvent_frm (ev : Nat) (rs : Reason) (part : Option (Nat × Nat)) (data : List (Nat × Nat)) (s :
    State) : (State.logEvent ev rs part data s).frm = s.frm :=
  Far.frm (State.logEvent_far _ _ _ _ (Far.refl s))
@[simp] theorem State.logEvent_mbx (ev : Nat) (rs : Reason) (part : Option (Nat × Nat)) (data : List (Nat × Nat)) (s :
    State) : (State.logEvent ev rs part data s).mbx = s.mbx :=
  Far.mbx (State.logEvent_far _ _ _ _ (Far.refl s))
@[simp] theorem State.logEvent_nextUid (ev : Nat) (rs : Reason) (part : Option (Nat × Nat)) (data : List (Nat × Nat))
    (s : State) : (State.logEvent ev rs part data s).nextUid = s.nextUid :=
  Far.nextUid (State.logEvent_far _ _ _ _ (Far.refl s))
@[simp] theorem State.logEvent_adm (ev : Nat) (rs : Reason) (part : Option (Nat × Nat)) (data : List (Nat × Nat)) (s :
    State) : (State.logEvent ev rs part data s).adm = s.adm :=
  Far.adm (State.logEvent_far _ _ _ _ (Far.refl s))
@[simp] theorem State.logEvent_ten (ev : Nat) (rs : Reason) (part : Option (Nat × Nat)) (data : List (Nat × Nat)) (s :
    State) : (State.logEvent ev rs part data s).ten = s.ten :=
  Far.ten (State.logEvent_far _ _ _ _ (Far.refl s))
@[simp] theorem State.logEvent_xlt (ev : Nat) (rs : Reason) (part : Option (Nat × Nat)) (data : List (Nat × Nat)) (s :
    State) : (State.logEvent ev rs part data s).xlt = s.xlt :=
  Far.xlt (State.logEvent_far _ _ _ _ (Far.refl s))
@[simp] theorem State.logEvent_seq (ev : Nat) (rs : Reason) (part : Option (Nat × Nat)) (data : List (Nat × Nat)) (s :
    State) : (State.logEvent ev rs part data s).seq = s.seq :=
  Far.seq (State.logEvent_far _ _ _ _ (Far.refl s))
@[simp] theorem State.logEvent_kv (ev : Nat) (rs : Reason) (part : Option (Nat × Nat)) (data : List (Nat × Nat)) (s :
    State) : (State.logEvent ev rs part data s).kv = s.kv :=
  Far.kv (State.logEvent_far _ _ _ _ (Far.refl s))
@[simp] theorem State.logEvent_sfu (ev : Nat) (rs : Reason) (part : Option (Nat × Nat)) (data : List (Nat × Nat)) (s :
    State) : (State.logEvent ev rs part data s).sfu = s.sfu :=
  Far.sfu (State.logEvent_far _ _ _ _ (Far.refl s))
@[simp] theorem State.logEvent_builtins (ev : Nat) (rs : Reason) (part : Option (Nat × Nat)) (data : List (Nat × Nat))
    (s : State) : (State.logEvent ev rs part data s).builtins = s.builtins :=
  Far.builtins (State.logEvent_far _ _ _ _ (Far.refl s))
@[simp] theorem State.logEvent_pln (ev : Nat) (rs : Reason) (part : Option (Nat × Nat)) (data : List (Nat × Nat)) (s :
    State) : (State.logEvent ev rs part data s).pln = s.pln :=
  Far.pln (State.logEvent_far _ _ _ _ (Far.refl s))
@[simp] theorem State.logEvent_red (ev : Nat) (rs : Reason) (part : Option (Nat × Nat)) (data : List (Nat × Nat)) (s :
    State) : (State.logEvent ev rs part data s).red = s.red :=
  Far.red (State.logEvent_far _ _ _ _ (Far.refl s))
@[simp] theorem State.logEvent_pwr (ev : Nat) (rs : Reason) (part : Option (Nat × Nat)) (data : List (Nat × Nat)) (s :
    State) : (State.logEvent ev rs part data s).pwr = s.pwr :=
  Far.pwr (State.logEvent_far _ _ _ _ (Far.refl s))
@[simp] theorem State.logEvent_dram (ev : Nat) (rs : Reason) (part : Option (Nat × Nat)) (data : List (Nat × Nat)) (s
    : State) : (State.logEvent ev rs part data s).dram = s.dram :=
  Far.dram (State.logEvent_far _ _ _ _ (Far.refl s))
@[simp] theorem State.logEvent_spad (ev : Nat) (rs : Reason) (part : Option (Nat × Nat)) (data : List (Nat × Nat)) (s
    : State) : (State.logEvent ev rs part data s).spad = s.spad :=
  Far.spad (State.logEvent_far _ _ _ _ (Far.refl s))
@[simp] theorem State.logEvent_host (ev : Nat) (rs : Reason) (part : Option (Nat × Nat)) (data : List (Nat × Nat)) (s
    : State) : (State.logEvent ev rs part data s).host = s.host :=
  Far.host (State.logEvent_far _ _ _ _ (Far.refl s))
@[simp] theorem State.logEvent_pending (ev : Nat) (rs : Reason) (part : Option (Nat × Nat)) (data : List (Nat × Nat))
    (s : State) : (State.logEvent ev rs part data s).pending = s.pending :=
  Far.pending (State.logEvent_far _ _ _ _ (Far.refl s))

@[simp] theorem State.log_fuse (ev : Nat) (data : List (Nat × Nat)) (s : State) : (State.log ev data s).fuse = s.fuse
    :=
  Far.fuse (State.log_far _ _ (Far.refl s))
@[simp] theorem State.log_flash (ev : Nat) (data : List (Nat × Nat)) (s : State) : (State.log ev data s).flash =
    s.flash :=
  Far.flash (State.log_far _ _ (Far.refl s))
@[simp] theorem State.log_por (ev : Nat) (data : List (Nat × Nat)) (s : State) : (State.log ev data s).por = s.por :=
  Far.por (State.log_far _ _ (Far.refl s))
@[simp] theorem State.log_frm (ev : Nat) (data : List (Nat × Nat)) (s : State) : (State.log ev data s).frm = s.frm :=
  Far.frm (State.log_far _ _ (Far.refl s))
@[simp] theorem State.log_mbx (ev : Nat) (data : List (Nat × Nat)) (s : State) : (State.log ev data s).mbx = s.mbx :=
  Far.mbx (State.log_far _ _ (Far.refl s))
@[simp] theorem State.log_nextUid (ev : Nat) (data : List (Nat × Nat)) (s : State) : (State.log ev data s).nextUid =
    s.nextUid :=
  Far.nextUid (State.log_far _ _ (Far.refl s))
@[simp] theorem State.log_adm (ev : Nat) (data : List (Nat × Nat)) (s : State) : (State.log ev data s).adm = s.adm :=
  Far.adm (State.log_far _ _ (Far.refl s))
@[simp] theorem State.log_ten (ev : Nat) (data : List (Nat × Nat)) (s : State) : (State.log ev data s).ten = s.ten :=
  Far.ten (State.log_far _ _ (Far.refl s))
@[simp] theorem State.log_xlt (ev : Nat) (data : List (Nat × Nat)) (s : State) : (State.log ev data s).xlt = s.xlt :=
  Far.xlt (State.log_far _ _ (Far.refl s))
@[simp] theorem State.log_seq (ev : Nat) (data : List (Nat × Nat)) (s : State) : (State.log ev data s).seq = s.seq :=
  Far.seq (State.log_far _ _ (Far.refl s))
@[simp] theorem State.log_kv (ev : Nat) (data : List (Nat × Nat)) (s : State) : (State.log ev data s).kv = s.kv :=
  Far.kv (State.log_far _ _ (Far.refl s))
@[simp] theorem State.log_sfu (ev : Nat) (data : List (Nat × Nat)) (s : State) : (State.log ev data s).sfu = s.sfu :=
  Far.sfu (State.log_far _ _ (Far.refl s))
@[simp] theorem State.log_builtins (ev : Nat) (data : List (Nat × Nat)) (s : State) : (State.log ev data s).builtins =
    s.builtins :=
  Far.builtins (State.log_far _ _ (Far.refl s))
@[simp] theorem State.log_pln (ev : Nat) (data : List (Nat × Nat)) (s : State) : (State.log ev data s).pln = s.pln :=
  Far.pln (State.log_far _ _ (Far.refl s))
@[simp] theorem State.log_red (ev : Nat) (data : List (Nat × Nat)) (s : State) : (State.log ev data s).red = s.red :=
  Far.red (State.log_far _ _ (Far.refl s))
@[simp] theorem State.log_pwr (ev : Nat) (data : List (Nat × Nat)) (s : State) : (State.log ev data s).pwr = s.pwr :=
  Far.pwr (State.log_far _ _ (Far.refl s))
@[simp] theorem State.log_dram (ev : Nat) (data : List (Nat × Nat)) (s : State) : (State.log ev data s).dram = s.dram
    :=
  Far.dram (State.log_far _ _ (Far.refl s))
@[simp] theorem State.log_spad (ev : Nat) (data : List (Nat × Nat)) (s : State) : (State.log ev data s).spad = s.spad
    :=
  Far.spad (State.log_far _ _ (Far.refl s))
@[simp] theorem State.log_host (ev : Nat) (data : List (Nat × Nat)) (s : State) : (State.log ev data s).host = s.host
    :=
  Far.host (State.log_far _ _ (Far.refl s))
@[simp] theorem State.log_pending (ev : Nat) (data : List (Nat × Nat)) (s : State) : (State.log ev data s).pending =
    s.pending :=
  Far.pending (State.log_far _ _ (Far.refl s))

@[simp] theorem State.tx_fuse (i : Nat) (f : Flit) (s : State) : (State.tx i f s).fuse = s.fuse :=
  Far.fuse (State.tx_far _ _ (Far.refl s))
@[simp] theorem State.tx_flash (i : Nat) (f : Flit) (s : State) : (State.tx i f s).flash = s.flash :=
  Far.flash (State.tx_far _ _ (Far.refl s))
@[simp] theorem State.tx_por (i : Nat) (f : Flit) (s : State) : (State.tx i f s).por = s.por :=
  Far.por (State.tx_far _ _ (Far.refl s))
@[simp] theorem State.tx_frm (i : Nat) (f : Flit) (s : State) : (State.tx i f s).frm = s.frm :=
  Far.frm (State.tx_far _ _ (Far.refl s))
@[simp] theorem State.tx_mbx (i : Nat) (f : Flit) (s : State) : (State.tx i f s).mbx = s.mbx :=
  Far.mbx (State.tx_far _ _ (Far.refl s))
@[simp] theorem State.tx_nextUid (i : Nat) (f : Flit) (s : State) : (State.tx i f s).nextUid = s.nextUid :=
  Far.nextUid (State.tx_far _ _ (Far.refl s))
@[simp] theorem State.tx_adm (i : Nat) (f : Flit) (s : State) : (State.tx i f s).adm = s.adm :=
  Far.adm (State.tx_far _ _ (Far.refl s))
@[simp] theorem State.tx_ten (i : Nat) (f : Flit) (s : State) : (State.tx i f s).ten = s.ten :=
  Far.ten (State.tx_far _ _ (Far.refl s))
@[simp] theorem State.tx_xlt (i : Nat) (f : Flit) (s : State) : (State.tx i f s).xlt = s.xlt :=
  Far.xlt (State.tx_far _ _ (Far.refl s))
@[simp] theorem State.tx_seq (i : Nat) (f : Flit) (s : State) : (State.tx i f s).seq = s.seq :=
  Far.seq (State.tx_far _ _ (Far.refl s))
@[simp] theorem State.tx_kv (i : Nat) (f : Flit) (s : State) : (State.tx i f s).kv = s.kv :=
  Far.kv (State.tx_far _ _ (Far.refl s))
@[simp] theorem State.tx_sfu (i : Nat) (f : Flit) (s : State) : (State.tx i f s).sfu = s.sfu :=
  Far.sfu (State.tx_far _ _ (Far.refl s))
@[simp] theorem State.tx_builtins (i : Nat) (f : Flit) (s : State) : (State.tx i f s).builtins = s.builtins :=
  Far.builtins (State.tx_far _ _ (Far.refl s))
@[simp] theorem State.tx_pln (i : Nat) (f : Flit) (s : State) : (State.tx i f s).pln = s.pln :=
  Far.pln (State.tx_far _ _ (Far.refl s))
@[simp] theorem State.tx_red (i : Nat) (f : Flit) (s : State) : (State.tx i f s).red = s.red :=
  Far.red (State.tx_far _ _ (Far.refl s))
@[simp] theorem State.tx_pwr (i : Nat) (f : Flit) (s : State) : (State.tx i f s).pwr = s.pwr :=
  Far.pwr (State.tx_far _ _ (Far.refl s))
@[simp] theorem State.tx_dram (i : Nat) (f : Flit) (s : State) : (State.tx i f s).dram = s.dram :=
  Far.dram (State.tx_far _ _ (Far.refl s))
@[simp] theorem State.tx_spad (i : Nat) (f : Flit) (s : State) : (State.tx i f s).spad = s.spad :=
  Far.spad (State.tx_far _ _ (Far.refl s))
@[simp] theorem State.tx_host (i : Nat) (f : Flit) (s : State) : (State.tx i f s).host = s.host :=
  Far.host (State.tx_far _ _ (Far.refl s))
@[simp] theorem State.tx_pending (i : Nat) (f : Flit) (s : State) : (State.tx i f s).pending = s.pending :=
  Far.pending (State.tx_far _ _ (Far.refl s))

@[simp] theorem State.send_fuse (dst : Nat) (m : Msg) (s : State) : (State.send dst m s).fuse = s.fuse :=
  Far.fuse (State.send_far _ _ (Far.refl s))
@[simp] theorem State.send_flash (dst : Nat) (m : Msg) (s : State) : (State.send dst m s).flash = s.flash :=
  Far.flash (State.send_far _ _ (Far.refl s))
@[simp] theorem State.send_por (dst : Nat) (m : Msg) (s : State) : (State.send dst m s).por = s.por :=
  Far.por (State.send_far _ _ (Far.refl s))
@[simp] theorem State.send_frm (dst : Nat) (m : Msg) (s : State) : (State.send dst m s).frm = s.frm :=
  Far.frm (State.send_far _ _ (Far.refl s))
@[simp] theorem State.send_mbx (dst : Nat) (m : Msg) (s : State) : (State.send dst m s).mbx = s.mbx :=
  Far.mbx (State.send_far _ _ (Far.refl s))
@[simp] theorem State.send_nextUid (dst : Nat) (m : Msg) (s : State) : (State.send dst m s).nextUid = s.nextUid :=
  Far.nextUid (State.send_far _ _ (Far.refl s))
@[simp] theorem State.send_adm (dst : Nat) (m : Msg) (s : State) : (State.send dst m s).adm = s.adm :=
  Far.adm (State.send_far _ _ (Far.refl s))
@[simp] theorem State.send_ten (dst : Nat) (m : Msg) (s : State) : (State.send dst m s).ten = s.ten :=
  Far.ten (State.send_far _ _ (Far.refl s))
@[simp] theorem State.send_xlt (dst : Nat) (m : Msg) (s : State) : (State.send dst m s).xlt = s.xlt :=
  Far.xlt (State.send_far _ _ (Far.refl s))
@[simp] theorem State.send_seq (dst : Nat) (m : Msg) (s : State) : (State.send dst m s).seq = s.seq :=
  Far.seq (State.send_far _ _ (Far.refl s))
@[simp] theorem State.send_kv (dst : Nat) (m : Msg) (s : State) : (State.send dst m s).kv = s.kv :=
  Far.kv (State.send_far _ _ (Far.refl s))
@[simp] theorem State.send_sfu (dst : Nat) (m : Msg) (s : State) : (State.send dst m s).sfu = s.sfu :=
  Far.sfu (State.send_far _ _ (Far.refl s))
@[simp] theorem State.send_builtins (dst : Nat) (m : Msg) (s : State) : (State.send dst m s).builtins = s.builtins :=
  Far.builtins (State.send_far _ _ (Far.refl s))
@[simp] theorem State.send_pln (dst : Nat) (m : Msg) (s : State) : (State.send dst m s).pln = s.pln :=
  Far.pln (State.send_far _ _ (Far.refl s))
@[simp] theorem State.send_red (dst : Nat) (m : Msg) (s : State) : (State.send dst m s).red = s.red :=
  Far.red (State.send_far _ _ (Far.refl s))
@[simp] theorem State.send_pwr (dst : Nat) (m : Msg) (s : State) : (State.send dst m s).pwr = s.pwr :=
  Far.pwr (State.send_far _ _ (Far.refl s))
@[simp] theorem State.send_dram (dst : Nat) (m : Msg) (s : State) : (State.send dst m s).dram = s.dram :=
  Far.dram (State.send_far _ _ (Far.refl s))
@[simp] theorem State.send_spad (dst : Nat) (m : Msg) (s : State) : (State.send dst m s).spad = s.spad :=
  Far.spad (State.send_far _ _ (Far.refl s))
@[simp] theorem State.send_host (dst : Nat) (m : Msg) (s : State) : (State.send dst m s).host = s.host :=
  Far.host (State.send_far _ _ (Far.refl s))
@[simp] theorem State.send_pending (dst : Nat) (m : Msg) (s : State) : (State.send dst m s).pending = s.pending :=
  Far.pending (State.send_far _ _ (Far.refl s))

@[simp] theorem State.sendAll_fuse (dsts : List Nat) (m : Msg) (s : State) : (State.sendAll dsts m s).fuse = s.fuse :=
  Far.fuse (State.sendAll_far _ _ (Far.refl s))
@[simp] theorem State.sendAll_flash (dsts : List Nat) (m : Msg) (s : State) : (State.sendAll dsts m s).flash = s.flash
    :=
  Far.flash (State.sendAll_far _ _ (Far.refl s))
@[simp] theorem State.sendAll_por (dsts : List Nat) (m : Msg) (s : State) : (State.sendAll dsts m s).por = s.por :=
  Far.por (State.sendAll_far _ _ (Far.refl s))
@[simp] theorem State.sendAll_frm (dsts : List Nat) (m : Msg) (s : State) : (State.sendAll dsts m s).frm = s.frm :=
  Far.frm (State.sendAll_far _ _ (Far.refl s))
@[simp] theorem State.sendAll_mbx (dsts : List Nat) (m : Msg) (s : State) : (State.sendAll dsts m s).mbx = s.mbx :=
  Far.mbx (State.sendAll_far _ _ (Far.refl s))
@[simp] theorem State.sendAll_nextUid (dsts : List Nat) (m : Msg) (s : State) : (State.sendAll dsts m s).nextUid =
    s.nextUid :=
  Far.nextUid (State.sendAll_far _ _ (Far.refl s))
@[simp] theorem State.sendAll_adm (dsts : List Nat) (m : Msg) (s : State) : (State.sendAll dsts m s).adm = s.adm :=
  Far.adm (State.sendAll_far _ _ (Far.refl s))
@[simp] theorem State.sendAll_ten (dsts : List Nat) (m : Msg) (s : State) : (State.sendAll dsts m s).ten = s.ten :=
  Far.ten (State.sendAll_far _ _ (Far.refl s))
@[simp] theorem State.sendAll_xlt (dsts : List Nat) (m : Msg) (s : State) : (State.sendAll dsts m s).xlt = s.xlt :=
  Far.xlt (State.sendAll_far _ _ (Far.refl s))
@[simp] theorem State.sendAll_seq (dsts : List Nat) (m : Msg) (s : State) : (State.sendAll dsts m s).seq = s.seq :=
  Far.seq (State.sendAll_far _ _ (Far.refl s))
@[simp] theorem State.sendAll_kv (dsts : List Nat) (m : Msg) (s : State) : (State.sendAll dsts m s).kv = s.kv :=
  Far.kv (State.sendAll_far _ _ (Far.refl s))
@[simp] theorem State.sendAll_sfu (dsts : List Nat) (m : Msg) (s : State) : (State.sendAll dsts m s).sfu = s.sfu :=
  Far.sfu (State.sendAll_far _ _ (Far.refl s))
@[simp] theorem State.sendAll_builtins (dsts : List Nat) (m : Msg) (s : State) : (State.sendAll dsts m s).builtins =
    s.builtins :=
  Far.builtins (State.sendAll_far _ _ (Far.refl s))
@[simp] theorem State.sendAll_pln (dsts : List Nat) (m : Msg) (s : State) : (State.sendAll dsts m s).pln = s.pln :=
  Far.pln (State.sendAll_far _ _ (Far.refl s))
@[simp] theorem State.sendAll_red (dsts : List Nat) (m : Msg) (s : State) : (State.sendAll dsts m s).red = s.red :=
  Far.red (State.sendAll_far _ _ (Far.refl s))
@[simp] theorem State.sendAll_pwr (dsts : List Nat) (m : Msg) (s : State) : (State.sendAll dsts m s).pwr = s.pwr :=
  Far.pwr (State.sendAll_far _ _ (Far.refl s))
@[simp] theorem State.sendAll_dram (dsts : List Nat) (m : Msg) (s : State) : (State.sendAll dsts m s).dram = s.dram :=
  Far.dram (State.sendAll_far _ _ (Far.refl s))
@[simp] theorem State.sendAll_spad (dsts : List Nat) (m : Msg) (s : State) : (State.sendAll dsts m s).spad = s.spad :=
  Far.spad (State.sendAll_far _ _ (Far.refl s))
@[simp] theorem State.sendAll_host (dsts : List Nat) (m : Msg) (s : State) : (State.sendAll dsts m s).host = s.host :=
  Far.host (State.sendAll_far _ _ (Far.refl s))
@[simp] theorem State.sendAll_pending (dsts : List Nat) (m : Msg) (s : State) : (State.sendAll dsts m s).pending =
    s.pending :=
  Far.pending (State.sendAll_far _ _ (Far.refl s))

@[simp] theorem State.fireVec_part (fn v : Nat) (s : State) (j : Nat) :
    (s.fireVec fn v).part j = s.part j := by
  simp [State.part]

@[simp] theorem State.fireVec_ctx (fn v : Nat) (s : State) (j k : Nat) :
    (s.fireVec fn v).ctx j k = s.ctx j k := by
  simp [State.ctx]

@[simp] theorem State.fireVec_frmp (fn v : Nat) (s : State) (j : Nat) :
    (s.fireVec fn v).frmp j = s.frmp j := by
  simp [State.frmp]

@[simp] theorem State.fireVec_admp (fn v : Nat) (s : State) (j : Nat) :
    (s.fireVec fn v).admp j = s.admp j := by
  simp [State.admp]

@[simp] theorem State.fireVec_seqp (fn v : Nat) (s : State) (j : Nat) :
    (s.fireVec fn v).seqp j = s.seqp j := by
  simp [State.seqp]

@[simp] theorem State.fireVec_pwrp (fn v : Nat) (s : State) (j : Nat) :
    (s.fireVec fn v).pwrp j = s.pwrp j := by
  simp [State.pwrp]

@[simp] theorem State.fireVec_plnp (fn v : Nat) (s : State) (j : Nat) :
    (s.fireVec fn v).plnp j = s.plnp j := by
  simp [State.plnp]

@[simp] theorem State.fireVec_clocked (fn v : Nat) (s : State) :
    (s.fireVec fn v).clocked = s.clocked := by
  simp [State.clocked]

@[simp] theorem State.fireVec_rowOwner (fn v : Nat) (s : State) (j : Nat) :
    (s.fireVec fn v).rowOwner j = s.rowOwner j := by
  simp [State.rowOwner]

@[simp] theorem State.fireVec_mb (fn v : Nat) (s : State) (j : Nat) :
    (s.fireVec fn v).mb j = s.mb j := by
  simp [State.mb]

@[simp] theorem State.fireVec_spanOf (fn v : Nat) (s : State) (j : BitVec 16) :
    (s.fireVec fn v).span? j = s.span? j := by
  simp [State.span?]

@[simp] theorem State.logEvent_part (ev : Nat) (rs : Reason) (part : Option (Nat × Nat)) (data : List (Nat × Nat)) (s : State) (j : Nat) :
    (s.logEvent ev rs part data).part j = s.part j := by
  simp [State.part]

@[simp] theorem State.logEvent_ctx (ev : Nat) (rs : Reason) (part : Option (Nat × Nat)) (data : List (Nat × Nat)) (s : State) (j k : Nat) :
    (s.logEvent ev rs part data).ctx j k = s.ctx j k := by
  simp [State.ctx]

@[simp] theorem State.logEvent_frmp (ev : Nat) (rs : Reason) (part : Option (Nat × Nat)) (data : List (Nat × Nat)) (s : State) (j : Nat) :
    (s.logEvent ev rs part data).frmp j = s.frmp j := by
  simp [State.frmp]

@[simp] theorem State.logEvent_admp (ev : Nat) (rs : Reason) (part : Option (Nat × Nat)) (data : List (Nat × Nat)) (s : State) (j : Nat) :
    (s.logEvent ev rs part data).admp j = s.admp j := by
  simp [State.admp]

@[simp] theorem State.logEvent_seqp (ev : Nat) (rs : Reason) (part : Option (Nat × Nat)) (data : List (Nat × Nat)) (s : State) (j : Nat) :
    (s.logEvent ev rs part data).seqp j = s.seqp j := by
  simp [State.seqp]

@[simp] theorem State.logEvent_pwrp (ev : Nat) (rs : Reason) (part : Option (Nat × Nat)) (data : List (Nat × Nat)) (s : State) (j : Nat) :
    (s.logEvent ev rs part data).pwrp j = s.pwrp j := by
  simp [State.pwrp]

@[simp] theorem State.logEvent_plnp (ev : Nat) (rs : Reason) (part : Option (Nat × Nat)) (data : List (Nat × Nat)) (s : State) (j : Nat) :
    (s.logEvent ev rs part data).plnp j = s.plnp j := by
  simp [State.plnp]

@[simp] theorem State.logEvent_clocked (ev : Nat) (rs : Reason) (part : Option (Nat × Nat)) (data : List (Nat × Nat)) (s : State) :
    (s.logEvent ev rs part data).clocked = s.clocked := by
  simp [State.clocked]

@[simp] theorem State.logEvent_rowOwner (ev : Nat) (rs : Reason) (part : Option (Nat × Nat)) (data : List (Nat × Nat)) (s : State) (j : Nat) :
    (s.logEvent ev rs part data).rowOwner j = s.rowOwner j := by
  simp [State.rowOwner]

@[simp] theorem State.logEvent_mb (ev : Nat) (rs : Reason) (part : Option (Nat × Nat)) (data : List (Nat × Nat)) (s : State) (j : Nat) :
    (s.logEvent ev rs part data).mb j = s.mb j := by
  simp [State.mb]

@[simp] theorem State.logEvent_spanOf (ev : Nat) (rs : Reason) (part : Option (Nat × Nat)) (data : List (Nat × Nat)) (s : State) (j : BitVec 16) :
    (s.logEvent ev rs part data).span? j = s.span? j := by
  simp [State.span?]

@[simp] theorem State.log_part (ev : Nat) (data : List (Nat × Nat)) (s : State) (j : Nat) :
    (s.log ev data).part j = s.part j := by
  simp [State.part]

@[simp] theorem State.log_ctx (ev : Nat) (data : List (Nat × Nat)) (s : State) (j k : Nat) :
    (s.log ev data).ctx j k = s.ctx j k := by
  simp [State.ctx]

@[simp] theorem State.log_frmp (ev : Nat) (data : List (Nat × Nat)) (s : State) (j : Nat) :
    (s.log ev data).frmp j = s.frmp j := by
  simp [State.frmp]

@[simp] theorem State.log_admp (ev : Nat) (data : List (Nat × Nat)) (s : State) (j : Nat) :
    (s.log ev data).admp j = s.admp j := by
  simp [State.admp]

@[simp] theorem State.log_seqp (ev : Nat) (data : List (Nat × Nat)) (s : State) (j : Nat) :
    (s.log ev data).seqp j = s.seqp j := by
  simp [State.seqp]

@[simp] theorem State.log_pwrp (ev : Nat) (data : List (Nat × Nat)) (s : State) (j : Nat) :
    (s.log ev data).pwrp j = s.pwrp j := by
  simp [State.pwrp]

@[simp] theorem State.log_plnp (ev : Nat) (data : List (Nat × Nat)) (s : State) (j : Nat) :
    (s.log ev data).plnp j = s.plnp j := by
  simp [State.plnp]

@[simp] theorem State.log_clocked (ev : Nat) (data : List (Nat × Nat)) (s : State) :
    (s.log ev data).clocked = s.clocked := by
  simp [State.clocked]

@[simp] theorem State.log_rowOwner (ev : Nat) (data : List (Nat × Nat)) (s : State) (j : Nat) :
    (s.log ev data).rowOwner j = s.rowOwner j := by
  simp [State.rowOwner]

@[simp] theorem State.log_mb (ev : Nat) (data : List (Nat × Nat)) (s : State) (j : Nat) :
    (s.log ev data).mb j = s.mb j := by
  simp [State.mb]

@[simp] theorem State.log_spanOf (ev : Nat) (data : List (Nat × Nat)) (s : State) (j : BitVec 16) :
    (s.log ev data).span? j = s.span? j := by
  simp [State.span?]

@[simp] theorem State.tx_part (i : Nat) (f : Flit) (s : State) (j : Nat) :
    (s.tx i f).part j = s.part j := by
  simp [State.part]

@[simp] theorem State.tx_ctx (i : Nat) (f : Flit) (s : State) (j k : Nat) :
    (s.tx i f).ctx j k = s.ctx j k := by
  simp [State.ctx]

@[simp] theorem State.tx_frmp (i : Nat) (f : Flit) (s : State) (j : Nat) :
    (s.tx i f).frmp j = s.frmp j := by
  simp [State.frmp]

@[simp] theorem State.tx_admp (i : Nat) (f : Flit) (s : State) (j : Nat) :
    (s.tx i f).admp j = s.admp j := by
  simp [State.admp]

@[simp] theorem State.tx_seqp (i : Nat) (f : Flit) (s : State) (j : Nat) :
    (s.tx i f).seqp j = s.seqp j := by
  simp [State.seqp]

@[simp] theorem State.tx_pwrp (i : Nat) (f : Flit) (s : State) (j : Nat) :
    (s.tx i f).pwrp j = s.pwrp j := by
  simp [State.pwrp]

@[simp] theorem State.tx_plnp (i : Nat) (f : Flit) (s : State) (j : Nat) :
    (s.tx i f).plnp j = s.plnp j := by
  simp [State.plnp]

@[simp] theorem State.tx_clocked (i : Nat) (f : Flit) (s : State) :
    (s.tx i f).clocked = s.clocked := by
  simp [State.clocked]

@[simp] theorem State.tx_rowOwner (i : Nat) (f : Flit) (s : State) (j : Nat) :
    (s.tx i f).rowOwner j = s.rowOwner j := by
  simp [State.rowOwner]

@[simp] theorem State.tx_mb (i : Nat) (f : Flit) (s : State) (j : Nat) :
    (s.tx i f).mb j = s.mb j := by
  simp [State.mb]

@[simp] theorem State.tx_spanOf (i : Nat) (f : Flit) (s : State) (j : BitVec 16) :
    (s.tx i f).span? j = s.span? j := by
  simp [State.span?]

@[simp] theorem State.send_part (dst : Nat) (m : Msg) (s : State) (j : Nat) :
    (s.send dst m).part j = s.part j := by
  simp [State.part]

@[simp] theorem State.send_ctx (dst : Nat) (m : Msg) (s : State) (j k : Nat) :
    (s.send dst m).ctx j k = s.ctx j k := by
  simp [State.ctx]

@[simp] theorem State.send_frmp (dst : Nat) (m : Msg) (s : State) (j : Nat) :
    (s.send dst m).frmp j = s.frmp j := by
  simp [State.frmp]

@[simp] theorem State.send_admp (dst : Nat) (m : Msg) (s : State) (j : Nat) :
    (s.send dst m).admp j = s.admp j := by
  simp [State.admp]

@[simp] theorem State.send_seqp (dst : Nat) (m : Msg) (s : State) (j : Nat) :
    (s.send dst m).seqp j = s.seqp j := by
  simp [State.seqp]

@[simp] theorem State.send_pwrp (dst : Nat) (m : Msg) (s : State) (j : Nat) :
    (s.send dst m).pwrp j = s.pwrp j := by
  simp [State.pwrp]

@[simp] theorem State.send_plnp (dst : Nat) (m : Msg) (s : State) (j : Nat) :
    (s.send dst m).plnp j = s.plnp j := by
  simp [State.plnp]

@[simp] theorem State.send_clocked (dst : Nat) (m : Msg) (s : State) :
    (s.send dst m).clocked = s.clocked := by
  simp [State.clocked]

@[simp] theorem State.send_rowOwner (dst : Nat) (m : Msg) (s : State) (j : Nat) :
    (s.send dst m).rowOwner j = s.rowOwner j := by
  simp [State.rowOwner]

@[simp] theorem State.send_mb (dst : Nat) (m : Msg) (s : State) (j : Nat) :
    (s.send dst m).mb j = s.mb j := by
  simp [State.mb]

@[simp] theorem State.send_spanOf (dst : Nat) (m : Msg) (s : State) (j : BitVec 16) :
    (s.send dst m).span? j = s.span? j := by
  simp [State.span?]

@[simp] theorem State.sendAll_part (dsts : List Nat) (m : Msg) (s : State) (j : Nat) :
    (s.sendAll dsts m).part j = s.part j := by
  simp [State.part]

@[simp] theorem State.sendAll_ctx (dsts : List Nat) (m : Msg) (s : State) (j k : Nat) :
    (s.sendAll dsts m).ctx j k = s.ctx j k := by
  simp [State.ctx]

@[simp] theorem State.sendAll_frmp (dsts : List Nat) (m : Msg) (s : State) (j : Nat) :
    (s.sendAll dsts m).frmp j = s.frmp j := by
  simp [State.frmp]

@[simp] theorem State.sendAll_admp (dsts : List Nat) (m : Msg) (s : State) (j : Nat) :
    (s.sendAll dsts m).admp j = s.admp j := by
  simp [State.admp]

@[simp] theorem State.sendAll_seqp (dsts : List Nat) (m : Msg) (s : State) (j : Nat) :
    (s.sendAll dsts m).seqp j = s.seqp j := by
  simp [State.seqp]

@[simp] theorem State.sendAll_pwrp (dsts : List Nat) (m : Msg) (s : State) (j : Nat) :
    (s.sendAll dsts m).pwrp j = s.pwrp j := by
  simp [State.pwrp]

@[simp] theorem State.sendAll_plnp (dsts : List Nat) (m : Msg) (s : State) (j : Nat) :
    (s.sendAll dsts m).plnp j = s.plnp j := by
  simp [State.plnp]

@[simp] theorem State.sendAll_clocked (dsts : List Nat) (m : Msg) (s : State) :
    (s.sendAll dsts m).clocked = s.clocked := by
  simp [State.clocked]

@[simp] theorem State.sendAll_rowOwner (dsts : List Nat) (m : Msg) (s : State) (j : Nat) :
    (s.sendAll dsts m).rowOwner j = s.rowOwner j := by
  simp [State.rowOwner]

@[simp] theorem State.sendAll_mb (dsts : List Nat) (m : Msg) (s : State) (j : Nat) :
    (s.sendAll dsts m).mb j = s.mb j := by
  simp [State.mb]

@[simp] theorem State.sendAll_spanOf (dsts : List Nat) (m : Msg) (s : State) (j : BitVec 16) :
    (s.sendAll dsts m).span? j = s.span? j := by
  simp [State.span?]

end Sys2Proof.Machine
end

