-- ==== Sys2Proof/Laws/Shared.lean ====
section
/-! SUPPORT. What the operations that several commands share change, each said once. -/

namespace Sys2Proof.Machine

open Sys2Proof

/- In turn, not as parallel tasks: each task that waits for another holds a stack of its own. -/
set_option Elab.async false

/-! ### The end of a job -/

@[simp] theorem State.endJob_fuse (j : Job) (oc : Oc) (rs : Reason) (s : State) : (s.endJob j oc rs).fuse = s.fuse := by
  unfold State.endJob State.dropJob
  split <;> simp

@[simp] theorem State.endJob_flash (j : Job) (oc : Oc) (rs : Reason) (s : State) : (s.endJob j oc rs).flash = s.flash := by
  unfold State.endJob State.dropJob
  split <;> simp

@[simp] theorem State.endJob_por (j : Job) (oc : Oc) (rs : Reason) (s : State) : (s.endJob j oc rs).por = s.por := by
  unfold State.endJob State.dropJob
  split <;> simp

@[simp] theorem State.endJob_mgt (j : Job) (oc : Oc) (rs : Reason) (s : State) : (s.endJob j oc rs).mgt = s.mgt := by
  unfold State.endJob State.dropJob
  split <;> simp

@[simp] theorem State.endJob_frm (j : Job) (oc : Oc) (rs : Reason) (s : State) : (s.endJob j oc rs).frm = s.frm := by
  unfold State.endJob State.dropJob
  split <;> simp

@[simp] theorem State.endJob_pcie (j : Job) (oc : Oc) (rs : Reason) (s : State) : (s.endJob j oc rs).pcie = s.pcie := by
  unfold State.endJob State.dropJob
  split <;> simp

@[simp] theorem State.endJob_nextUid (j : Job) (oc : Oc) (rs : Reason) (s : State) : (s.endJob j oc rs).nextUid = s.nextUid := by
  unfold State.endJob State.dropJob
  split <;> simp

@[simp] theorem State.endJob_ten (j : Job) (oc : Oc) (rs : Reason) (s : State) : (s.endJob j oc rs).ten = s.ten := by
  unfold State.endJob State.dropJob
  split <;> simp

@[simp] theorem State.endJob_xlt (j : Job) (oc : Oc) (rs : Reason) (s : State) : (s.endJob j oc rs).xlt = s.xlt := by
  unfold State.endJob State.dropJob
  split <;> simp

@[simp] theorem State.endJob_seq (j : Job) (oc : Oc) (rs : Reason) (s : State) : (s.endJob j oc rs).seq = s.seq := by
  unfold State.endJob State.dropJob
  split <;> simp

@[simp] theorem State.endJob_kv (j : Job) (oc : Oc) (rs : Reason) (s : State) : (s.endJob j oc rs).kv = s.kv := by
  unfold State.endJob State.dropJob
  split <;> simp

@[simp] theorem State.endJob_sfu (j : Job) (oc : Oc) (rs : Reason) (s : State) : (s.endJob j oc rs).sfu = s.sfu := by
  unfold State.endJob State.dropJob
  split <;> simp

@[simp] theorem State.endJob_builtins (j : Job) (oc : Oc) (rs : Reason) (s : State) : (s.endJob j oc rs).builtins = s.builtins := by
  unfold State.endJob State.dropJob
  split <;> simp

@[simp] theorem State.endJob_pln (j : Job) (oc : Oc) (rs : Reason) (s : State) : (s.endJob j oc rs).pln = s.pln := by
  unfold State.endJob State.dropJob
  split <;> simp

@[simp] theorem State.endJob_red (j : Job) (oc : Oc) (rs : Reason) (s : State) : (s.endJob j oc rs).red = s.red := by
  unfold State.endJob State.dropJob
  split <;> simp

@[simp] theorem State.endJob_plk (j : Job) (oc : Oc) (rs : Reason) (s : State) : (s.endJob j oc rs).plk = s.plk := by
  unfold State.endJob State.dropJob
  split <;> simp

@[simp] theorem State.endJob_fab (j : Job) (oc : Oc) (rs : Reason) (s : State) : (s.endJob j oc rs).fab = s.fab := by
  unfold State.endJob State.dropJob
  split <;> simp

@[simp] theorem State.endJob_pwr (j : Job) (oc : Oc) (rs : Reason) (s : State) : (s.endJob j oc rs).pwr = s.pwr := by
  unfold State.endJob State.dropJob
  split <;> simp

@[simp] theorem State.endJob_dram (j : Job) (oc : Oc) (rs : Reason) (s : State) : (s.endJob j oc rs).dram = s.dram := by
  unfold State.endJob State.dropJob
  split <;> simp

@[simp] theorem State.endJob_spad (j : Job) (oc : Oc) (rs : Reason) (s : State) : (s.endJob j oc rs).spad = s.spad := by
  unfold State.endJob State.dropJob
  split <;> simp

@[simp] theorem State.endJob_host (j : Job) (oc : Oc) (rs : Reason) (s : State) : (s.endJob j oc rs).host = s.host := by
  unfold State.endJob State.dropJob
  split <;> simp

@[simp] theorem State.endJob_out (j : Job) (oc : Oc) (rs : Reason) (s : State) : (s.endJob j oc rs).out = s.out := by
  unfold State.endJob State.dropJob
  split <;> simp

@[simp] theorem State.endJob_free (j : Job) (oc : Oc) (rs : Reason) (s : State) : (s.endJob j oc rs).free = s.free := by
  unfold State.endJob State.dropJob
  split <;> simp

@[simp] theorem State.endJob_pending (j : Job) (oc : Oc) (rs : Reason) (s : State) : (s.endJob j oc rs).pending = s.pending := by
  unfold State.endJob State.dropJob
  split <;> simp

/-- The end of a job takes it out of the list and changes nothing else of admission. -/
@[simp] theorem State.endJob_adm (j : Job) (oc : Oc) (rs : Reason) (s : State) :
    (s.endJob j oc rs).adm = { s.adm with jobs := s.adm.jobs.filter (fun x => x.cmd.uid != j.cmd.uid) } := by
  unfold State.endJob State.dropJob
  split <;> simp

/-! ### Folds over jobs and contexts -/

theorem foldl_part {α : Type} {g : State → α → State} {p : Nat} (hg : ∀ s x, (g s x).part p = s.part p) (l : List α)
    (s : State) : (l.foldl g s).part p = s.part p := by
  induction l generalizing s with
  | nil => rfl
  | cons x t ih => rw [List.foldl_cons, ih, hg]

theorem foldl_updCtx_part (p j : Nat) (f : Ctx → Ctx) (l : List Nat) (s : State) :
    (l.foldl (fun s k => s.updCtx p k f) s).part j = s.part j := foldl_part (g := fun s k => s.updCtx p k f) (fun s k => State.part_updCtx s p k f j) l s

@[simp] theorem State.refuseLoads_part (p : Nat) (s : State) (k : Nat) : (s.refuseLoads p).part k = s.part k := by
  unfold State.refuseLoads
  rw [State.finishAll_part]
  rfl

@[simp] theorem State.loadBuiltins_part (rows : BitVec 16) (s : State) (p : Nat) :
    (s.loadBuiltins rows).part p = s.part p := rfl

end Sys2Proof.Machine
end

