-- ==== Sys2Proof/Laws/Stopping.lean ====
section
/-! SUPPORT. What stopping operations and ending jobs leave alone. -/

namespace Sys2Proof.Machine

open Sys2Proof

/-- `Jobs` over the fields it speaks of. -/
def JobsF (a : State) (fuse : Fuses) (flash : Flash) (frm : Frm) (nextUid : Nat) (ten : Tenants) (sfu : Tab SfuSlot)
    (builtins : Tab Nat) (pln : Pln) (red : Red) (pending : List Instr) : Prop :=
fuse = a.fuse ∧ flash = a.flash ∧ frm = a.frm ∧ nextUid = a.nextUid ∧ ten = a.ten ∧ sfu = a.sfu ∧ builtins =
    a.builtins ∧ pln = a.pln ∧ red = a.red ∧ pending = a.pending

/-- Ending operations and jobs leaves these alone; what an attention operation has finished of its tile is still written. -/
def Jobs (a s : State) : Prop := JobsF a s.fuse s.flash s.frm s.nextUid s.ten s.sfu s.builtins s.pln s.red s.pending

theorem jobsF_fold (a s : State) : JobsF a s.fuse s.flash s.frm s.nextUid s.ten s.sfu s.builtins s.pln s.red s.pending
    ↔ Jobs a s := Iff.rfl

theorem jobs_mk (a) (fuse flash por mgt frm pcie mbx nextUid adm ten xlt seq kv sfu builtins pln red plk fab pwr dram
    spad host out free pending) :
    Jobs a (State.mk fuse flash por mgt frm pcie mbx nextUid adm ten xlt seq kv sfu builtins pln red plk fab pwr dram spad host out free pending) ↔
      JobsF a fuse flash frm nextUid ten sfu builtins pln red pending := Iff.rfl

theorem Jobs.refl (s : State) : Jobs s s := ⟨rfl, rfl, rfl, rfl, rfl, rfl, rfl, rfl, rfl, rfl⟩

theorem foldl_jobs {a : State} {α : Type} {g : State → α → State} (hg : ∀ s x, Jobs a s → Jobs a (g s x)) (l : List α)
    {s : State} (h : Jobs a s) : Jobs a (l.foldl g s) := by
  induction l generalizing s with
  | nil => exact h
  | cons x t ih => exact ih (hg _ _ h)

variable {a : State}

theorem State.updPwrp_jobs (p : Nat) (f : PwrPart → PwrPart) {s : State} (hs : Jobs a s) : Jobs a (State.updPwrp p f
    s) := by
  grind [State.updPwrp, foldl_jobs, = jobs_mk, = jobsF_fold]

theorem State.updPwr_jobs (f : Pwr → Pwr) {s : State} (hs : Jobs a s) : Jobs a (State.updPwr f s) := by
  grind [State.updPwr, foldl_jobs, = jobs_mk, = jobsF_fold]

theorem State.settle_jobs (o : Op) (m : Nat) (retires : Bool) {s : State} (hs : Jobs a s) : Jobs a (State.settle o m
    retires s) := by
  grind [State.settle, State.updPwrp_jobs, State.updPwr_jobs, foldl_jobs, = jobs_mk, = jobsF_fold]

theorem State.leaveFill_jobs (o : Op) {s : State} (hs : Jobs a s) : Jobs a (State.leaveFill o s) := by
  grind [State.leaveFill, State.updPwr_jobs, foldl_jobs, = jobs_mk, = jobsF_fold]

theorem State.updSeq_jobs (f : Seq → Seq) {s : State} (hs : Jobs a s) : Jobs a (State.updSeq f s) := by
  grind [State.updSeq, foldl_jobs, = jobs_mk, = jobsF_fold]

theorem State.takeFree_jobs {s : State} (hs : Jobs a s) : Jobs a (State.takeFree s).2 := by
  grind [State.takeFree, foldl_jobs, = jobs_mk, = jobsF_fold]

theorem State.updOp_jobs (id : Nat) (f : Op → Op) {s : State} (hs : Jobs a s) : Jobs a (State.updOp id f s) := by
  grind [State.updOp, State.updSeq_jobs, foldl_jobs, = jobs_mk, = jobsF_fold]

theorem gotThen_jobs {α β : Type} {x : State × Got α} {f : α → State → State × Got β} (hx : Jobs a x.1)
    (hf : ∀ v s, Jobs a s → Jobs a (f v s).1) : Jobs a (gotThen x f).1 := by
  unfold gotThen
  split
  · exact hf _ _ hx
  all_goals exact hx

theorem State.updXlt_jobs (f : Xlt → Xlt) {s : State} (hs : Jobs a s) : Jobs a (State.updXlt f s) := by
  grind [State.updXlt, foldl_jobs, = jobs_mk, = jobsF_fold]

theorem State.updXltRegs_jobs (d : Nat) (f : XltRegs → XltRegs) {s : State} (hs : Jobs a s) : Jobs a (State.updXltRegs
    d f s) := by
  grind [State.updXltRegs, State.updXlt_jobs, foldl_jobs, = jobs_mk, = jobsF_fold]

theorem State.trimCache_jobs (p d : Nat) {s : State} (hs : Jobs a s) : Jobs a (State.trimCache p d s) := by
  grind [State.trimCache, State.updXlt_jobs, foldl_jobs, = jobs_mk, = jobsF_fold]

theorem State.fill_jobs (d : Nat) (e : XlEntry) {s : State} (hs : Jobs a s) : Jobs a (State.fill d e s) := by
  grind [State.fill, State.updXlt_jobs, State.trimCache_jobs, foldl_jobs, = jobs_mk, = jobsF_fold]

theorem State.translateDev_jobs (w : Who) (write : Bool) (a0 : Nat) {s : State} (hs : Jobs a s) : Jobs a
    (State.translateDev w write a0 s).1 := by
  grind [State.translateDev, State.updXltRegs_jobs, State.fill_jobs, foldl_jobs, = jobs_mk, = jobsF_fold]

theorem State.countMissHost_jobs (w : Who) (write : Bool) (a0 : Nat) {s : State} (hs : Jobs a s) : Jobs a
    (State.countMissHost w write a0 s) := by
  grind [State.countMissHost, State.updXlt_jobs, State.updXltRegs_jobs, foldl_jobs, = jobs_mk, = jobsF_fold]

theorem State.emit_jobs (o : Output) {s : State} (hs : Jobs a s) : Jobs a (State.emit o s) := by
  grind [State.emit, foldl_jobs, = jobs_mk, = jobsF_fold]

theorem State.emitPcie_jobs (t : HostTlp) {s : State} (hs : Jobs a s) : Jobs a (State.emitPcie t s) := by
  grind [State.emitPcie, State.emit_jobs, foldl_jobs, = jobs_mk, = jobsF_fold]

theorem State.requestWindow_jobs (w : Who) (write : Bool) (a0 : Nat) {s : State} (hs : Jobs a s) : Jobs a
    (State.requestWindow w write a0 s) := by
  grind [State.requestWindow, State.updXlt_jobs, State.emitPcie_jobs, foldl_jobs, = jobs_mk, = jobsF_fold]

theorem State.translateHost_jobs (w : Who) (write : Bool) (a0 : Nat) {s : State} (hs : Jobs a s) : Jobs a
    (State.translateHost w write a0 s).1 := by
  grind [State.translateHost, State.updXltRegs_jobs, State.fill_jobs, State.countMissHost_jobs,
      State.requestWindow_jobs, foldl_jobs, = jobs_mk, = jobsF_fold]

theorem State.translate_jobs (w : Who) (write : Bool) (a0 : Nat) {s : State} (hs : Jobs a s) : Jobs a (State.translate
    w write a0 s).1 := by
  grind [State.translate, State.translateDev_jobs, State.translateHost_jobs, foldl_jobs, = jobs_mk, = jobsF_fold]

theorem State.markUe_jobs (q : Phys) {s : State} (hs : Jobs a s) : Jobs a (State.markUe q s) := by
  unfold State.markUe
  split <;> grind (gen := 30) (ematch := 30) (splits := 30) [State.updXlt_jobs, foldl_jobs, = jobs_mk, = jobsF_fold]

theorem State.eccFault_jobs (w : Who) (write : Bool) (a0 : Nat) (q : Phys) {s : State} (hs : Jobs a s) : Jobs a
    (State.eccFault w write a0 q s).1 := by
  unfold State.eccFault
  split <;> grind (gen := 30) (ematch := 30) (splits := 30) [State.markUe_jobs, foldl_jobs, = jobs_mk, = jobsF_fold]

theorem State.setMem_jobs (q : Phys) (m : Memory) {s : State} (hs : Jobs a s) : Jobs a (State.setMem q m s) := by
  unfold State.setMem
  split <;> grind (gen := 30) (ematch := 30) (splits := 30) [foldl_jobs, = jobs_mk, = jobsF_fold]

theorem State.putBytes_jobs (q : Phys) (x : Nat) (l : List (Nat × Byte)) {s : State} (hs : Jobs a s) : Jobs a
    (State.putBytes q x l s) := by
  grind [State.putBytes, State.setMem_jobs, foldl_jobs, = jobs_mk, = jobsF_fold]

theorem State.putHost_jobs (x : Nat) (bs : List Byte) {s : State} (hs : Jobs a s) : Jobs a (State.putHost x bs s) :=
    by
  grind [State.putHost, foldl_jobs, = jobs_mk, = jobsF_fold]

theorem State.clearEcc_jobs (spad : Bool) (wordAddr : Nat) {s : State} (hs : Jobs a s) : Jobs a (State.clearEcc spad
    wordAddr s) := by
  grind [State.clearEcc, State.updXlt_jobs, foldl_jobs, = jobs_mk, = jobsF_fold]

theorem State.updPor_jobs (f : Por → Por) {s : State} (hs : Jobs a s) : Jobs a (State.updPor f s) := by
  grind [State.updPor, foldl_jobs, = jobs_mk, = jobsF_fold]

theorem State.countCorrected_jobs (q : Phys) {s : State} (hs : Jobs a s) : Jobs a (State.countCorrected q s) := by
  unfold State.countCorrected
  split <;> grind (gen := 30) (ematch := 30) (splits := 30) [State.updXlt_jobs, State.updPor_jobs, foldl_jobs, =
      jobs_mk, = jobsF_fold]

theorem State.freshEcc_jobs (q : Phys) (whole : Bool) (k : Nat) {s : State} (hs : Jobs a s) : Jobs a (State.freshEcc q
    whole k s) := by
  grind [State.freshEcc, State.clearEcc_jobs, State.countCorrected_jobs, foldl_jobs, = jobs_mk, = jobsF_fold]

theorem State.storeLine_jobs (q : Phys) (bs : List Byte) {s : State} (hs : Jobs a s) : Jobs a (State.storeLine q bs s)
    := by
  grind [State.storeLine, State.putBytes_jobs, State.putHost_jobs, State.freshEcc_jobs, foldl_jobs, = jobs_mk, =
      jobsF_fold]

theorem State.writeLine_jobs (w : Who) (a0 : Nat) (bs : List Byte) (q : Phys) {s : State} (hs : Jobs a s) : Jobs a
    (State.writeLine w a0 bs q s).1 := by
  grind [State.writeLine, State.eccFault_jobs, State.storeLine_jobs, foldl_jobs, = jobs_mk, = jobsF_fold]

theorem State.writeOne_jobs (w : Who) (a0 : Nat) (bs : List Byte) {s : State} (hs : Jobs a s) : Jobs a (State.writeOne
    w a0 bs s).1 := by
  grind [State.writeOne, State.translate_jobs, State.writeLine_jobs, foldl_jobs, = jobs_mk, = jobsF_fold]

theorem State.passLine_jobs (w : Who) {s : State} (hs : Jobs a s) : Jobs a (State.passLine w s) := by
  grind [State.passLine, State.updOp_jobs, foldl_jobs, = jobs_mk, = jobsF_fold]

theorem State.noteLine_jobs (w : Who) (bs : List Byte) {s : State} (hs : Jobs a s) : Jobs a (State.noteLine w bs s) :=
    by
  grind [State.noteLine, State.updOp_jobs, foldl_jobs, = jobs_mk, = jobsF_fold]

theorem State.writeLoop_jobs (w : Who) (fuel x : Nat) (bs : List Byte) {s : State} (hs : Jobs a s) :
    Jobs a (State.writeLoop w fuel x bs s).1 := by
  induction fuel generalizing x bs s with
  | zero => exact hs
  | succ k ih =>
    cases bs with
    | nil => exact hs
    | cons b t => grind (gen := 30) (ematch := 30) (splits := 30) [State.writeLoop, State.writeOne_jobs, State.passLine_jobs,
        State.noteLine_jobs]

theorem State.writePieces_jobs (w : Who) (l : List (Nat × List Byte)) {s : State} (hs : Jobs a s) :
    Jobs a (State.writePieces w l s).1 := by
  induction l generalizing s with
  | nil => exact hs
  | cons x t ih => grind (gen := 30) (ematch := 30) (splits := 30) [State.writePieces, State.writeLoop_jobs]

theorem State.writeMany_jobs (w : Who) (xs : List (Nat × List Byte)) {s : State} (hs : Jobs a s) :
    Jobs a (State.writeMany w xs s).1 := State.writePieces_jobs w xs hs

theorem State.readLine_jobs (w : Who) (a0 n : Nat) (q : Phys) {s : State} (hs : Jobs a s) : Jobs a (State.readLine w
    a0 n q s).1 := by
  unfold State.readLine
  split <;> grind (gen := 30) (ematch := 30) (splits := 30) [State.countCorrected_jobs, State.eccFault_jobs, foldl_jobs,
      = jobs_mk, = jobsF_fold]

theorem State.readOne_jobs (w : Who) (a0 k : Nat) {s : State} (hs : Jobs a s) : Jobs a (State.readOne w a0 k s).1 :=
    by
  grind [State.readOne, State.translate_jobs, State.readLine_jobs, foldl_jobs, = jobs_mk, = jobsF_fold]

theorem State.readLoop_jobs (w : Who) (fuel x n : Nat) (acc : List Byte) {s : State} (hs : Jobs a s) :
    Jobs a (State.readLoop w fuel x n acc s).1 := by
  induction fuel generalizing x n acc s with
  | zero => exact hs
  | succ k ih => grind (gen := 30) (ematch := 30) (splits := 30) [State.readLoop, State.readOne_jobs, State.passLine_jobs,
      State.noteLine_jobs]

theorem State.readDva_jobs (w : Who) (a0 n : Nat) {s : State} (hs : Jobs a s) : Jobs a (State.readDva w a0 n s).1 :=
    by
  grind [State.readDva, State.readLoop_jobs, foldl_jobs, = jobs_mk, = jobsF_fold]

theorem State.bucketEntry_jobs (o : Op) {s : State} (hs : Jobs a s) : Jobs a (State.bucketEntry o s).1 := by
  grind [State.bucketEntry, State.readDva_jobs, gotThen_jobs, foldl_jobs, = jobs_mk, = jobsF_fold]

theorem State.readRaw_jobs (o : Op) (n stride x : Nat) (rs : List Nat) (acc : Tab (List Byte)) {s : State} (hs : Jobs a s) :
    Jobs a (State.readRaw o n stride x rs acc s).1 := by
  induction rs generalizing acc s with
  | nil => exact hs
  | cons r t ih => grind (gen := 30) (ematch := 30) (splits := 30) [State.readRaw, State.readDva_jobs]

theorem State.readSome_jobs (o : Op) (code cols stride a0 : Nat) (rs : List Nat) {s : State} (hs : Jobs a s) : Jobs a
    (State.readSome o code cols stride a0 rs s).1 := by
  grind [State.readSome, gotThen_jobs, State.readRaw_jobs, foldl_jobs, = jobs_mk, = jobsF_fold]

theorem State.loadFlorets_jobs (tiller : Nat) (rows : List (List Byte)) {s : State} (hs : Jobs a s) : Jobs a
    (State.loadFlorets tiller rows s) := by
  grind [State.loadFlorets, State.updSeq_jobs, foldl_jobs, = jobs_mk, = jobsF_fold]

theorem State.readStationary_jobs (o : Op) (code cols stride a0 : Nat) (rs : List Nat) {s : State} (hs : Jobs a s) :
    Jobs a (State.readStationary o code cols stride a0 rs s).1 := by
  grind [State.readStationary, gotThen_jobs, State.loadFlorets_jobs, State.readRaw_jobs, foldl_jobs, = jobs_mk, =
      jobsF_fold]

theorem State.readTiles_jobs (o : Op) (t : AttnAt) {s : State} (hs : Jobs a s) : Jobs a (State.readTiles o t s).1 :=
    by
  grind [State.readTiles, gotThen_jobs, State.readSome_jobs, State.readStationary_jobs, foldl_jobs, = jobs_mk, =
      jobsF_fold]

theorem State.fwdOut_jobs (o : Op) (t : AttnAt) (fin : Bool) (upto : Nat → Nat) {s : State} (hs : Jobs a s) : Jobs a
    (State.fwdOut o t fin upto s).1 := by
  grind [State.fwdOut, gotThen_jobs, State.readSome_jobs, State.readTiles_jobs, foldl_jobs, = jobs_mk, = jobsF_fold]

theorem State.prepOut_jobs (o : Op) (t : AttnAt) (upto : Nat → Nat) {s : State} (hs : Jobs a s) : Jobs a
    (State.prepOut o t upto s).1 := by
  grind [State.prepOut, gotThen_jobs, State.readSome_jobs, foldl_jobs, = jobs_mk, = jobsF_fold]

theorem State.dqOut_jobs (o : Op) (t : AttnAt) (upto : Nat → Nat) {s : State} (hs : Jobs a s) : Jobs a (State.dqOut o
    t upto s).1 := by
  grind [State.dqOut, gotThen_jobs, State.readSome_jobs, State.readTiles_jobs, foldl_jobs, = jobs_mk, = jobsF_fold]

theorem State.dkvOut_jobs (o : Op) (t : AttnAt) (upto : Nat → Nat) {s : State} (hs : Jobs a s) : Jobs a (State.dkvOut
    o t upto s).1 := by
  grind (gen := 30) (ematch := 30) (splits := 30) [State.dkvOut, gotThen_jobs, State.readSome_jobs,
      State.readStationary_jobs, foldl_jobs, = jobs_mk, = jobsF_fold]

theorem State.attnOut_jobs (o : Op) (t : AttnAt) (fin : Bool) (upto : Nat → Nat) {s : State} (hs : Jobs a s) : Jobs a
    (State.attnOut o t fin upto s).1 := by
  grind [State.attnOut, State.fwdOut_jobs, State.prepOut_jobs, State.dqOut_jobs, State.dkvOut_jobs, foldl_jobs, =
      jobs_mk, = jobsF_fold]

theorem State.stopPass_jobs (o : Op) {s : State} (hs : Jobs a s) : Jobs a (State.stopPass o s) := by
  grind [State.stopPass, State.takeFree_jobs, State.updOp_jobs, gotThen_jobs, State.writeMany_jobs,
      State.bucketEntry_jobs, State.attnOut_jobs, foldl_jobs, = jobs_mk, = jobsF_fold]

theorem State.stopOp_jobs (o : Op) {s : State} (hs : Jobs a s) : Jobs a (State.stopOp o s) := by
  grind [State.stopOp, State.updSeq_jobs, State.takeFree_jobs, State.stopPass_jobs, State.settle_jobs,
      State.leaveFill_jobs, foldl_jobs, = jobs_mk, = jobsF_fold]

theorem State.endOps_jobs (uid : Nat) {s : State} (hs : Jobs a s) : Jobs a (State.endOps uid s) := by
  grind [State.endOps, State.updSeq_jobs, State.stopPass_jobs, foldl_jobs, = jobs_mk, = jobsF_fold]

theorem State.updAdm_jobs (f : Adm → Adm) {s : State} (hs : Jobs a s) : Jobs a (State.updAdm f s) := by
  grind [State.updAdm, foldl_jobs, = jobs_mk, = jobsF_fold]

theorem State.decideJob_jobs (uid : Nat) (rs : Reason) {s : State} (hs : Jobs a s) : Jobs a (State.decideJob uid rs s)
    := by
  grind [State.decideJob, State.updAdm_jobs, State.endOps_jobs, foldl_jobs, = jobs_mk, = jobsF_fold]

theorem State.dropJob_jobs (uid : Nat) {s : State} (hs : Jobs a s) : Jobs a (State.dropJob uid s) := by
  grind [State.dropJob, State.updAdm_jobs, foldl_jobs, = jobs_mk, = jobsF_fold]

theorem State.updMb_jobs (m : Nat) (f : Mailbox → Mailbox) {s : State} (hs : Jobs a s) : Jobs a (State.updMb m f s) :=
    by
  grind [State.updMb, foldl_jobs, = jobs_mk, = jobsF_fold]

theorem State.stage_jobs (c : CmdId) (oc : Oc) (rs : Reason) (ws : List W64) (final : Bool) {s : State} (hs : Jobs a
    s) : Jobs a (State.stage c oc rs ws final s) := by
  grind [State.stage, State.updMb_jobs, foldl_jobs, = jobs_mk, = jobsF_fold]

theorem State.finish_jobs (c : CmdId) (oc : Oc) (rs : Reason) (ws : List W64) {s : State} (hs : Jobs a s) : Jobs a
    (State.finish c oc rs ws s) := by
  grind [State.finish, State.stage_jobs, foldl_jobs, = jobs_mk, = jobsF_fold]

theorem State.finishAll_jobs (cs : List CmdId) (oc : Oc) (rs : Reason) (ws : List W64) {s : State} (hs : Jobs a s) :
    Jobs a (State.finishAll cs oc rs ws s) := by
  grind [State.finishAll, State.finish_jobs, foldl_jobs, = jobs_mk, = jobsF_fold]

theorem State.endJob_jobs (j : Job) (oc : Oc) (rs : Reason) {s : State} (hs : Jobs a s) : Jobs a (State.endJob j oc rs
    s) := by
  grind [State.endJob, State.finish_jobs, State.finishAll_jobs, State.dropJob_jobs, foldl_jobs, = jobs_mk, = jobsF_fold]

theorem State.endIfDrained_jobs (uid : Nat) {s : State} (hs : Jobs a s) : Jobs a (State.endIfDrained uid s) := by
  grind [State.endIfDrained, State.endJob_jobs, foldl_jobs, = jobs_mk, = jobsF_fold]

theorem State.updCopies_jobs (p : Nat) (f : KvCopy → KvCopy) {s : State} (hs : Jobs a s) : Jobs a (State.updCopies p f
    s) := by
  grind [State.updCopies, foldl_jobs, = jobs_mk, = jobsF_fold]

theorem State.rewindCopies_jobs (p : Nat) {s : State} (hs : Jobs a s) : Jobs a (State.rewindCopies p s) := by
  grind [State.rewindCopies, State.updCopies_jobs, State.stopOp_jobs, foldl_jobs, = jobs_mk, = jobsF_fold]

theorem Jobs.fuse {a s : State} (h : Jobs a s) : s.fuse = a.fuse := h.1

theorem Jobs.flash {a s : State} (h : Jobs a s) : s.flash = a.flash := h.2.1

theorem Jobs.frm {a s : State} (h : Jobs a s) : s.frm = a.frm := h.2.2.1

theorem Jobs.nextUid {a s : State} (h : Jobs a s) : s.nextUid = a.nextUid := h.2.2.2.1

theorem Jobs.ten {a s : State} (h : Jobs a s) : s.ten = a.ten := h.2.2.2.2.1

theorem Jobs.sfu {a s : State} (h : Jobs a s) : s.sfu = a.sfu := h.2.2.2.2.2.1

theorem Jobs.builtins {a s : State} (h : Jobs a s) : s.builtins = a.builtins := h.2.2.2.2.2.2.1

theorem Jobs.pln {a s : State} (h : Jobs a s) : s.pln = a.pln := h.2.2.2.2.2.2.2.1

theorem Jobs.red {a s : State} (h : Jobs a s) : s.red = a.red := h.2.2.2.2.2.2.2.2.1

theorem Jobs.pending {a s : State} (h : Jobs a s) : s.pending = a.pending := h.2.2.2.2.2.2.2.2.2

@[simp] theorem State.stopOp_fuse (o : Op) (s : State) : (State.stopOp o s).fuse = s.fuse :=
  Jobs.fuse (State.stopOp_jobs _ (Jobs.refl s))
@[simp] theorem State.stopOp_flash (o : Op) (s : State) : (State.stopOp o s).flash = s.flash :=
  Jobs.flash (State.stopOp_jobs _ (Jobs.refl s))
@[simp] theorem State.stopOp_frm (o : Op) (s : State) : (State.stopOp o s).frm = s.frm :=
  Jobs.frm (State.stopOp_jobs _ (Jobs.refl s))
@[simp] theorem State.stopOp_nextUid (o : Op) (s : State) : (State.stopOp o s).nextUid = s.nextUid :=
  Jobs.nextUid (State.stopOp_jobs _ (Jobs.refl s))
@[simp] theorem State.stopOp_ten (o : Op) (s : State) : (State.stopOp o s).ten = s.ten :=
  Jobs.ten (State.stopOp_jobs _ (Jobs.refl s))
@[simp] theorem State.stopOp_sfu (o : Op) (s : State) : (State.stopOp o s).sfu = s.sfu :=
  Jobs.sfu (State.stopOp_jobs _ (Jobs.refl s))
@[simp] theorem State.stopOp_builtins (o : Op) (s : State) : (State.stopOp o s).builtins = s.builtins :=
  Jobs.builtins (State.stopOp_jobs _ (Jobs.refl s))
@[simp] theorem State.stopOp_pln (o : Op) (s : State) : (State.stopOp o s).pln = s.pln :=
  Jobs.pln (State.stopOp_jobs _ (Jobs.refl s))
@[simp] theorem State.stopOp_red (o : Op) (s : State) : (State.stopOp o s).red = s.red :=
  Jobs.red (State.stopOp_jobs _ (Jobs.refl s))
@[simp] theorem State.stopOp_pending (o : Op) (s : State) : (State.stopOp o s).pending = s.pending :=
  Jobs.pending (State.stopOp_jobs _ (Jobs.refl s))

@[simp] theorem State.decideJob_fuse (uid : Nat) (rs : Reason) (s : State) : (State.decideJob uid rs s).fuse = s.fuse
    :=
  Jobs.fuse (State.decideJob_jobs _ _ (Jobs.refl s))
@[simp] theorem State.decideJob_flash (uid : Nat) (rs : Reason) (s : State) : (State.decideJob uid rs s).flash =
    s.flash :=
  Jobs.flash (State.decideJob_jobs _ _ (Jobs.refl s))
@[simp] theorem State.decideJob_frm (uid : Nat) (rs : Reason) (s : State) : (State.decideJob uid rs s).frm = s.frm :=
  Jobs.frm (State.decideJob_jobs _ _ (Jobs.refl s))
@[simp] theorem State.decideJob_nextUid (uid : Nat) (rs : Reason) (s : State) : (State.decideJob uid rs s).nextUid =
    s.nextUid :=
  Jobs.nextUid (State.decideJob_jobs _ _ (Jobs.refl s))
@[simp] theorem State.decideJob_ten (uid : Nat) (rs : Reason) (s : State) : (State.decideJob uid rs s).ten = s.ten :=
  Jobs.ten (State.decideJob_jobs _ _ (Jobs.refl s))
@[simp] theorem State.decideJob_sfu (uid : Nat) (rs : Reason) (s : State) : (State.decideJob uid rs s).sfu = s.sfu :=
  Jobs.sfu (State.decideJob_jobs _ _ (Jobs.refl s))
@[simp] theorem State.decideJob_builtins (uid : Nat) (rs : Reason) (s : State) : (State.decideJob uid rs s).builtins =
    s.builtins :=
  Jobs.builtins (State.decideJob_jobs _ _ (Jobs.refl s))
@[simp] theorem State.decideJob_pln (uid : Nat) (rs : Reason) (s : State) : (State.decideJob uid rs s).pln = s.pln :=
  Jobs.pln (State.decideJob_jobs _ _ (Jobs.refl s))
@[simp] theorem State.decideJob_red (uid : Nat) (rs : Reason) (s : State) : (State.decideJob uid rs s).red = s.red :=
  Jobs.red (State.decideJob_jobs _ _ (Jobs.refl s))
@[simp] theorem State.decideJob_pending (uid : Nat) (rs : Reason) (s : State) : (State.decideJob uid rs s).pending =
    s.pending :=
  Jobs.pending (State.decideJob_jobs _ _ (Jobs.refl s))

@[simp] theorem State.endIfDrained_fuse (uid : Nat) (s : State) : (State.endIfDrained uid s).fuse = s.fuse :=
  Jobs.fuse (State.endIfDrained_jobs _ (Jobs.refl s))
@[simp] theorem State.endIfDrained_flash (uid : Nat) (s : State) : (State.endIfDrained uid s).flash = s.flash :=
  Jobs.flash (State.endIfDrained_jobs _ (Jobs.refl s))
@[simp] theorem State.endIfDrained_frm (uid : Nat) (s : State) : (State.endIfDrained uid s).frm = s.frm :=
  Jobs.frm (State.endIfDrained_jobs _ (Jobs.refl s))
@[simp] theorem State.endIfDrained_nextUid (uid : Nat) (s : State) : (State.endIfDrained uid s).nextUid = s.nextUid :=
  Jobs.nextUid (State.endIfDrained_jobs _ (Jobs.refl s))
@[simp] theorem State.endIfDrained_ten (uid : Nat) (s : State) : (State.endIfDrained uid s).ten = s.ten :=
  Jobs.ten (State.endIfDrained_jobs _ (Jobs.refl s))
@[simp] theorem State.endIfDrained_sfu (uid : Nat) (s : State) : (State.endIfDrained uid s).sfu = s.sfu :=
  Jobs.sfu (State.endIfDrained_jobs _ (Jobs.refl s))
@[simp] theorem State.endIfDrained_builtins (uid : Nat) (s : State) : (State.endIfDrained uid s).builtins = s.builtins
    :=
  Jobs.builtins (State.endIfDrained_jobs _ (Jobs.refl s))
@[simp] theorem State.endIfDrained_pln (uid : Nat) (s : State) : (State.endIfDrained uid s).pln = s.pln :=
  Jobs.pln (State.endIfDrained_jobs _ (Jobs.refl s))
@[simp] theorem State.endIfDrained_red (uid : Nat) (s : State) : (State.endIfDrained uid s).red = s.red :=
  Jobs.red (State.endIfDrained_jobs _ (Jobs.refl s))
@[simp] theorem State.endIfDrained_pending (uid : Nat) (s : State) : (State.endIfDrained uid s).pending = s.pending :=
  Jobs.pending (State.endIfDrained_jobs _ (Jobs.refl s))

@[simp] theorem State.rewindCopies_fuse (p : Nat) (s : State) : (State.rewindCopies p s).fuse = s.fuse :=
  Jobs.fuse (State.rewindCopies_jobs _ (Jobs.refl s))
@[simp] theorem State.rewindCopies_flash (p : Nat) (s : State) : (State.rewindCopies p s).flash = s.flash :=
  Jobs.flash (State.rewindCopies_jobs _ (Jobs.refl s))
@[simp] theorem State.rewindCopies_frm (p : Nat) (s : State) : (State.rewindCopies p s).frm = s.frm :=
  Jobs.frm (State.rewindCopies_jobs _ (Jobs.refl s))
@[simp] theorem State.rewindCopies_nextUid (p : Nat) (s : State) : (State.rewindCopies p s).nextUid = s.nextUid :=
  Jobs.nextUid (State.rewindCopies_jobs _ (Jobs.refl s))
@[simp] theorem State.rewindCopies_ten (p : Nat) (s : State) : (State.rewindCopies p s).ten = s.ten :=
  Jobs.ten (State.rewindCopies_jobs _ (Jobs.refl s))
@[simp] theorem State.rewindCopies_sfu (p : Nat) (s : State) : (State.rewindCopies p s).sfu = s.sfu :=
  Jobs.sfu (State.rewindCopies_jobs _ (Jobs.refl s))
@[simp] theorem State.rewindCopies_builtins (p : Nat) (s : State) : (State.rewindCopies p s).builtins = s.builtins :=
  Jobs.builtins (State.rewindCopies_jobs _ (Jobs.refl s))
@[simp] theorem State.rewindCopies_pln (p : Nat) (s : State) : (State.rewindCopies p s).pln = s.pln :=
  Jobs.pln (State.rewindCopies_jobs _ (Jobs.refl s))
@[simp] theorem State.rewindCopies_red (p : Nat) (s : State) : (State.rewindCopies p s).red = s.red :=
  Jobs.red (State.rewindCopies_jobs _ (Jobs.refl s))
@[simp] theorem State.rewindCopies_pending (p : Nat) (s : State) : (State.rewindCopies p s).pending = s.pending :=
  Jobs.pending (State.rewindCopies_jobs _ (Jobs.refl s))

theorem foldl_resetJob_part (p : Nat) (l : List Job) (s : State) :
    (l.foldl (fun s j => s.resetJob j) s).part p = s.part p :=
  foldl_part (fun s j => by
    unfold State.resetJob
    split <;> simp [State.part]) l s

@[simp] theorem State.rewindCopies_part (p k : Nat) (s : State) : (s.rewindCopies p).part k = s.part k := by
  simp [State.part]

end Sys2Proof.Machine
end

