-- ==== Sys2Proof/Laws/KillParts.lean ====
section
/-! SUPPORT. A kill changes no partition. -/

namespace Sys2Proof.Machine

open Sys2Proof

/- In turn, not as parallel tasks: each task that waits for another holds a stack of its own. -/
set_option Elab.async false

/-- `PartsSame` over the fields it speaks of. -/
def PartsSameF (a : State) (ten : Tenants) : Prop :=
  ten.parts = a.ten.parts

/-- No partition differs. -/
def PartsSame (a s : State) : Prop := PartsSameF a s.ten

theorem partsSameF_fold (a s : State) : PartsSameF a s.ten ↔ PartsSame a s := Iff.rfl

theorem partsSame_mk (a) (fuse flash por mgt frm pcie mbx nextUid adm ten xlt seq kv sfu builtins pln red plk fab pwr
    dram spad host out free pending) :
    PartsSame a (State.mk fuse flash por mgt frm pcie mbx nextUid adm ten xlt seq kv sfu builtins pln red plk fab pwr
        dram spad host out free pending) ↔ PartsSameF a ten := Iff.rfl

theorem PartsSame.refl (s : State) : PartsSame s s := rfl

theorem foldl_partsSame {a : State} {α : Type} {g : State → α → State} (hg : ∀ s x, PartsSame a s → PartsSame a (g s
    x)) (l : List α)
    {s : State} (h : PartsSame a s) : PartsSame a (l.foldl g s) := by
  induction l generalizing s with
  | nil => exact h
  | cons x t ih => exact ih (hg _ _ h)

variable {a : State}

theorem partsSameF_mk (p c x f r) : PartsSameF a (Tenants.mk p c x f r) ↔ p = a.ten.parts := Iff.rfl

theorem PartsSame.parts {s : State} (h : PartsSame a s) : s.ten.parts = a.ten.parts := h

theorem State.updPwrp_partsSame (p : Nat) (f : PwrPart → PwrPart) {s : State} (hs : PartsSame a s) : PartsSame a
    (State.updPwrp p f s) := by
  grind [State.updPwrp, = partsSameF_mk, PartsSame.parts, foldl_partsSame, = partsSame_mk, = partsSameF_fold]

theorem State.updPwr_partsSame (f : Pwr → Pwr) {s : State} (hs : PartsSame a s) : PartsSame a (State.updPwr f s) := by
  grind [State.updPwr, = partsSameF_mk, PartsSame.parts, foldl_partsSame, = partsSame_mk, = partsSameF_fold]

theorem State.settle_partsSame (o : Op) (m : Nat) (retires : Bool) {s : State} (hs : PartsSame a s) : PartsSame a
    (State.settle o m retires s) := by
  grind [State.settle, State.updPwrp_partsSame, State.updPwr_partsSame, = partsSameF_mk, PartsSame.parts,
      foldl_partsSame, = partsSame_mk, = partsSameF_fold]

theorem State.leaveFill_partsSame (o : Op) {s : State} (hs : PartsSame a s) : PartsSame a (State.leaveFill o s) := by
  grind [State.leaveFill, State.updPwr_partsSame, = partsSameF_mk, PartsSame.parts, foldl_partsSame, = partsSame_mk, =
      partsSameF_fold]

theorem State.updSeq_partsSame (f : Seq → Seq) {s : State} (hs : PartsSame a s) : PartsSame a (State.updSeq f s) := by
  grind [State.updSeq, = partsSameF_mk, PartsSame.parts, foldl_partsSame, = partsSame_mk, = partsSameF_fold]

theorem State.takeFree_partsSame {s : State} (hs : PartsSame a s) : PartsSame a (State.takeFree s).2 := by
  grind [State.takeFree, = partsSameF_mk, PartsSame.parts, foldl_partsSame, = partsSame_mk, = partsSameF_fold]

theorem State.updOp_partsSame (id : Nat) (f : Op → Op) {s : State} (hs : PartsSame a s) : PartsSame a (State.updOp id
    f s) := by
  grind [State.updOp, State.updSeq_partsSame, = partsSameF_mk, PartsSame.parts, foldl_partsSame, = partsSame_mk, =
      partsSameF_fold]

theorem gotThen_partsSame {α β : Type} {x : State × Got α} {f : α → State → State × Got β} (hx : PartsSame a x.1)
    (hf : ∀ v s, PartsSame a s → PartsSame a (f v s).1) : PartsSame a (gotThen x f).1 := by
  unfold gotThen
  split
  · exact hf _ _ hx
  all_goals exact hx

theorem State.updXlt_partsSame (f : Xlt → Xlt) {s : State} (hs : PartsSame a s) : PartsSame a (State.updXlt f s) := by
  grind [State.updXlt, = partsSameF_mk, PartsSame.parts, foldl_partsSame, = partsSame_mk, = partsSameF_fold]

theorem State.updXltRegs_partsSame (d : Nat) (f : XltRegs → XltRegs) {s : State} (hs : PartsSame a s) : PartsSame a
    (State.updXltRegs d f s) := by
  grind [State.updXltRegs, State.updXlt_partsSame, = partsSameF_mk, PartsSame.parts, foldl_partsSame, = partsSame_mk, =
      partsSameF_fold]

theorem State.trimCache_partsSame (p d : Nat) {s : State} (hs : PartsSame a s) : PartsSame a (State.trimCache p d s)
    := by
  grind [State.trimCache, State.updXlt_partsSame, = partsSameF_mk, PartsSame.parts, foldl_partsSame, = partsSame_mk, =
      partsSameF_fold]

theorem State.fill_partsSame (d : Nat) (e : XlEntry) {s : State} (hs : PartsSame a s) : PartsSame a (State.fill d e s)
    := by
  grind [State.fill, State.updXlt_partsSame, State.trimCache_partsSame, = partsSameF_mk, PartsSame.parts,
      foldl_partsSame, = partsSame_mk, = partsSameF_fold]

theorem State.translateDev_partsSame (w : Who) (write : Bool) (a0 : Nat) {s : State} (hs : PartsSame a s) : PartsSame
    a (State.translateDev w write a0 s).1 := by
  grind [State.translateDev, State.updXltRegs_partsSame, State.fill_partsSame, = partsSameF_mk, PartsSame.parts,
      foldl_partsSame, = partsSame_mk, = partsSameF_fold]

theorem State.countMissHost_partsSame (w : Who) (write : Bool) (a0 : Nat) {s : State} (hs : PartsSame a s) : PartsSame
    a (State.countMissHost w write a0 s) := by
  grind [State.countMissHost, State.updXlt_partsSame, State.updXltRegs_partsSame, = partsSameF_mk, PartsSame.parts,
      foldl_partsSame, = partsSame_mk, = partsSameF_fold]

theorem State.emit_partsSame (o : Output) {s : State} (hs : PartsSame a s) : PartsSame a (State.emit o s) := by
  grind [State.emit, = partsSameF_mk, PartsSame.parts, foldl_partsSame, = partsSame_mk, = partsSameF_fold]

theorem State.emitPcie_partsSame (t : HostTlp) {s : State} (hs : PartsSame a s) : PartsSame a (State.emitPcie t s) :=
    by
  grind [State.emitPcie, State.emit_partsSame, = partsSameF_mk, PartsSame.parts, foldl_partsSame, = partsSame_mk, =
      partsSameF_fold]

theorem State.requestWindow_partsSame (w : Who) (write : Bool) (a0 : Nat) {s : State} (hs : PartsSame a s) : PartsSame
    a (State.requestWindow w write a0 s) := by
  grind [State.requestWindow, State.updXlt_partsSame, State.emitPcie_partsSame, = partsSameF_mk, PartsSame.parts,
      foldl_partsSame, = partsSame_mk, = partsSameF_fold]

theorem State.translateHost_partsSame (w : Who) (write : Bool) (a0 : Nat) {s : State} (hs : PartsSame a s) : PartsSame
    a (State.translateHost w write a0 s).1 := by
  grind [State.translateHost, State.updXltRegs_partsSame, State.fill_partsSame, State.countMissHost_partsSame,
      State.requestWindow_partsSame, = partsSameF_mk, PartsSame.parts, foldl_partsSame, = partsSame_mk, =
      partsSameF_fold]

theorem State.translate_partsSame (w : Who) (write : Bool) (a0 : Nat) {s : State} (hs : PartsSame a s) : PartsSame a
    (State.translate w write a0 s).1 := by
  grind [State.translate, State.translateDev_partsSame, State.translateHost_partsSame, = partsSameF_mk, PartsSame.parts,
      foldl_partsSame, = partsSame_mk, = partsSameF_fold]

theorem State.markUe_partsSame (q : Phys) {s : State} (hs : PartsSame a s) : PartsSame a (State.markUe q s) := by
  unfold State.markUe
  split <;> grind (gen := 30) (ematch := 30) (splits := 30) [State.updXlt_partsSame, = partsSameF_mk, PartsSame.parts,
      foldl_partsSame, = partsSame_mk, = partsSameF_fold]

theorem State.eccFault_partsSame (w : Who) (write : Bool) (a0 : Nat) (q : Phys) {s : State} (hs : PartsSame a s) :
    PartsSame a (State.eccFault w write a0 q s).1 := by
  unfold State.eccFault
  split <;> grind (gen := 30) (ematch := 30) (splits := 30) [State.markUe_partsSame, = partsSameF_mk, PartsSame.parts,
      foldl_partsSame, = partsSame_mk, = partsSameF_fold]

theorem State.setMem_partsSame (q : Phys) (m : Memory) {s : State} (hs : PartsSame a s) : PartsSame a (State.setMem q
    m s) := by
  unfold State.setMem
  split <;> grind (gen := 30) (ematch := 30) (splits := 30) [= partsSameF_mk, PartsSame.parts, foldl_partsSame, =
      partsSame_mk, = partsSameF_fold]

theorem State.putBytes_partsSame (q : Phys) (x : Nat) (l : List (Nat × Byte)) {s : State} (hs : PartsSame a s) :
    PartsSame a (State.putBytes q x l s) := by
  grind [State.putBytes, State.setMem_partsSame, = partsSameF_mk, PartsSame.parts, foldl_partsSame, = partsSame_mk, =
      partsSameF_fold]

theorem State.putHost_partsSame (x : Nat) (bs : List Byte) {s : State} (hs : PartsSame a s) : PartsSame a
    (State.putHost x bs s) := by
  grind [State.putHost, = partsSameF_mk, PartsSame.parts, foldl_partsSame, = partsSame_mk, = partsSameF_fold]

theorem State.clearEcc_partsSame (spad : Bool) (wordAddr : Nat) {s : State} (hs : PartsSame a s) : PartsSame a
    (State.clearEcc spad wordAddr s) := by
  grind [State.clearEcc, State.updXlt_partsSame, = partsSameF_mk, PartsSame.parts, foldl_partsSame, = partsSame_mk, =
      partsSameF_fold]

theorem State.updPor_partsSame (f : Por → Por) {s : State} (hs : PartsSame a s) : PartsSame a (State.updPor f s) := by
  grind [State.updPor, = partsSameF_mk, PartsSame.parts, foldl_partsSame, = partsSame_mk, = partsSameF_fold]

theorem State.countCorrected_partsSame (q : Phys) {s : State} (hs : PartsSame a s) : PartsSame a (State.countCorrected
    q s) := by
  unfold State.countCorrected
  split <;> grind (gen := 30) (ematch := 30) (splits := 30) [State.updXlt_partsSame, State.updPor_partsSame, =
      partsSameF_mk, PartsSame.parts, foldl_partsSame, = partsSame_mk, = partsSameF_fold]

theorem State.freshEcc_partsSame (q : Phys) (whole : Bool) (k : Nat) {s : State} (hs : PartsSame a s) : PartsSame a
    (State.freshEcc q whole k s) := by
  grind [State.freshEcc, State.clearEcc_partsSame, State.countCorrected_partsSame, = partsSameF_mk, PartsSame.parts,
      foldl_partsSame, = partsSame_mk, = partsSameF_fold]

theorem State.storeLine_partsSame (q : Phys) (bs : List Byte) {s : State} (hs : PartsSame a s) : PartsSame a
    (State.storeLine q bs s) := by
  grind [State.storeLine, State.putBytes_partsSame, State.putHost_partsSame, State.freshEcc_partsSame, = partsSameF_mk,
      PartsSame.parts, foldl_partsSame, = partsSame_mk, = partsSameF_fold]

theorem State.writeLine_partsSame (w : Who) (a0 : Nat) (bs : List Byte) (q : Phys) {s : State} (hs : PartsSame a s) :
    PartsSame a (State.writeLine w a0 bs q s).1 := by
  grind [State.writeLine, State.eccFault_partsSame, State.storeLine_partsSame, = partsSameF_mk, PartsSame.parts,
      foldl_partsSame, = partsSame_mk, = partsSameF_fold]

theorem State.writeOne_partsSame (w : Who) (a0 : Nat) (bs : List Byte) {s : State} (hs : PartsSame a s) : PartsSame a
    (State.writeOne w a0 bs s).1 := by
  grind [State.writeOne, State.translate_partsSame, State.writeLine_partsSame, = partsSameF_mk, PartsSame.parts,
      foldl_partsSame, = partsSame_mk, = partsSameF_fold]

theorem State.passLine_partsSame (w : Who) {s : State} (hs : PartsSame a s) : PartsSame a (State.passLine w s) := by
  grind [State.passLine, State.updOp_partsSame, = partsSameF_mk, PartsSame.parts, foldl_partsSame, = partsSame_mk, =
      partsSameF_fold]

theorem State.noteLine_partsSame (w : Who) (bs : List Byte) {s : State} (hs : PartsSame a s) : PartsSame a
    (State.noteLine w bs s) := by
  grind [State.noteLine, State.updOp_partsSame, = partsSameF_mk, PartsSame.parts, foldl_partsSame, = partsSame_mk, =
      partsSameF_fold]

theorem State.writeLoop_partsSame (w : Who) (fuel x : Nat) (bs : List Byte) {s : State} (hs : PartsSame a s) :
    PartsSame a (State.writeLoop w fuel x bs s).1 := by
  induction fuel generalizing x bs s with
  | zero => exact hs
  | succ k ih =>
    cases bs with
    | nil => exact hs
    | cons b t => grind (gen := 30) (ematch := 30) (splits := 30) [State.writeLoop, State.writeOne_partsSame, State.passLine_partsSame,
        State.noteLine_partsSame]

theorem State.writePieces_partsSame (w : Who) (l : List (Nat × List Byte)) {s : State} (hs : PartsSame a s) :
    PartsSame a (State.writePieces w l s).1 := by
  induction l generalizing s with
  | nil => exact hs
  | cons x t ih => grind (gen := 30) (ematch := 30) (splits := 30) [State.writePieces, State.writeLoop_partsSame]

theorem State.writeMany_partsSame (w : Who) (xs : List (Nat × List Byte)) {s : State} (hs : PartsSame a s) :
    PartsSame a (State.writeMany w xs s).1 := State.writePieces_partsSame w xs hs

theorem State.readLine_partsSame (w : Who) (a0 n : Nat) (q : Phys) {s : State} (hs : PartsSame a s) : PartsSame a
    (State.readLine w a0 n q s).1 := by
  unfold State.readLine
  split <;> grind (gen := 30) (ematch := 30) (splits := 30) [State.countCorrected_partsSame, State.eccFault_partsSame, =
      partsSameF_mk, PartsSame.parts, foldl_partsSame, = partsSame_mk, = partsSameF_fold]

theorem State.readOne_partsSame (w : Who) (a0 k : Nat) {s : State} (hs : PartsSame a s) : PartsSame a (State.readOne w
    a0 k s).1 := by
  grind [State.readOne, State.translate_partsSame, State.readLine_partsSame, = partsSameF_mk, PartsSame.parts,
      foldl_partsSame, = partsSame_mk, = partsSameF_fold]

theorem State.readLoop_partsSame (w : Who) (fuel x n : Nat) (acc : List Byte) {s : State} (hs : PartsSame a s) :
    PartsSame a (State.readLoop w fuel x n acc s).1 := by
  induction fuel generalizing x n acc s with
  | zero => exact hs
  | succ k ih => grind (gen := 30) (ematch := 30) (splits := 30) [State.readLoop, State.readOne_partsSame, State.passLine_partsSame,
      State.noteLine_partsSame]

theorem State.readDva_partsSame (w : Who) (a0 n : Nat) {s : State} (hs : PartsSame a s) : PartsSame a (State.readDva w
    a0 n s).1 := by
  grind [State.readDva, State.readLoop_partsSame, = partsSameF_mk, PartsSame.parts, foldl_partsSame, = partsSame_mk, =
      partsSameF_fold]

theorem State.bucketEntry_partsSame (o : Op) {s : State} (hs : PartsSame a s) : PartsSame a (State.bucketEntry o s).1
    := by
  grind [State.bucketEntry, State.readDva_partsSame, gotThen_partsSame, = partsSameF_mk, PartsSame.parts,
      foldl_partsSame, = partsSame_mk, = partsSameF_fold]

theorem State.readRaw_partsSame (o : Op) (n stride x : Nat) (rs : List Nat) (acc : Tab (List Byte)) {s : State} (hs : PartsSame a s) :
    PartsSame a (State.readRaw o n stride x rs acc s).1 := by
  induction rs generalizing acc s with
  | nil => exact hs
  | cons r t ih => grind (gen := 30) (ematch := 30) (splits := 30) [State.readRaw, State.readDva_partsSame]

theorem State.readSome_partsSame (o : Op) (code cols stride a0 : Nat) (rs : List Nat) {s : State} (hs : PartsSame a s)
    : PartsSame a (State.readSome o code cols stride a0 rs s).1 := by
  grind [State.readSome, gotThen_partsSame, State.readRaw_partsSame, = partsSameF_mk, PartsSame.parts, foldl_partsSame,
      = partsSame_mk, = partsSameF_fold]

theorem State.loadFlorets_partsSame (tiller : Nat) (rows : List (List Byte)) {s : State} (hs : PartsSame a s) :
    PartsSame a (State.loadFlorets tiller rows s) := by
  grind [State.loadFlorets, State.updSeq_partsSame, = partsSameF_mk, PartsSame.parts, foldl_partsSame, = partsSame_mk, =
      partsSameF_fold]

theorem State.readStationary_partsSame (o : Op) (code cols stride a0 : Nat) (rs : List Nat) {s : State} (hs :
    PartsSame a s) : PartsSame a (State.readStationary o code cols stride a0 rs s).1 := by
  grind [State.readStationary, gotThen_partsSame, State.loadFlorets_partsSame, State.readRaw_partsSame, = partsSameF_mk,
      PartsSame.parts, foldl_partsSame, = partsSame_mk, = partsSameF_fold]

theorem State.readTiles_partsSame (o : Op) (t : AttnAt) {s : State} (hs : PartsSame a s) : PartsSame a
    (State.readTiles o t s).1 := by
  grind [State.readTiles, gotThen_partsSame, State.readSome_partsSame, State.readStationary_partsSame, = partsSameF_mk,
      PartsSame.parts, foldl_partsSame, = partsSame_mk, = partsSameF_fold]

theorem State.fwdOut_partsSame (o : Op) (t : AttnAt) (fin : Bool) (upto : Nat → Nat) {s : State} (hs : PartsSame a s)
    : PartsSame a (State.fwdOut o t fin upto s).1 := by
  grind [State.fwdOut, gotThen_partsSame, State.readSome_partsSame, State.readTiles_partsSame, = partsSameF_mk,
      PartsSame.parts, foldl_partsSame, = partsSame_mk, = partsSameF_fold]

theorem State.prepOut_partsSame (o : Op) (t : AttnAt) (upto : Nat → Nat) {s : State} (hs : PartsSame a s) : PartsSame
    a (State.prepOut o t upto s).1 := by
  grind [State.prepOut, gotThen_partsSame, State.readSome_partsSame, = partsSameF_mk, PartsSame.parts, foldl_partsSame,
      = partsSame_mk, = partsSameF_fold]

theorem State.dqOut_partsSame (o : Op) (t : AttnAt) (upto : Nat → Nat) {s : State} (hs : PartsSame a s) : PartsSame a
    (State.dqOut o t upto s).1 := by
  grind [State.dqOut, gotThen_partsSame, State.readSome_partsSame, State.readTiles_partsSame, = partsSameF_mk,
      PartsSame.parts, foldl_partsSame, = partsSame_mk, = partsSameF_fold]

theorem State.dkvOut_partsSame (o : Op) (t : AttnAt) (upto : Nat → Nat) {s : State} (hs : PartsSame a s) : PartsSame a
    (State.dkvOut o t upto s).1 := by
  grind (gen := 30) (ematch := 30) (splits := 30) [State.dkvOut, gotThen_partsSame, State.readSome_partsSame,
      State.readStationary_partsSame, = partsSameF_mk, PartsSame.parts, foldl_partsSame, = partsSame_mk, =
      partsSameF_fold]

theorem State.attnOut_partsSame (o : Op) (t : AttnAt) (fin : Bool) (upto : Nat → Nat) {s : State} (hs : PartsSame a s)
    : PartsSame a (State.attnOut o t fin upto s).1 := by
  grind [State.attnOut, State.fwdOut_partsSame, State.prepOut_partsSame, State.dqOut_partsSame, State.dkvOut_partsSame,
      = partsSameF_mk, PartsSame.parts, foldl_partsSame, = partsSame_mk, = partsSameF_fold]

theorem State.stopPass_partsSame (o : Op) {s : State} (hs : PartsSame a s) : PartsSame a (State.stopPass o s) := by
  grind [State.stopPass, State.takeFree_partsSame, State.updOp_partsSame, gotThen_partsSame, State.writeMany_partsSame,
      State.bucketEntry_partsSame, State.attnOut_partsSame, = partsSameF_mk, PartsSame.parts, foldl_partsSame, =
      partsSame_mk, = partsSameF_fold]

theorem State.stopOp_partsSame (o : Op) {s : State} (hs : PartsSame a s) : PartsSame a (State.stopOp o s) := by
  grind [State.stopOp, State.updSeq_partsSame, State.takeFree_partsSame, State.stopPass_partsSame,
      State.settle_partsSame, State.leaveFill_partsSame, = partsSameF_mk, PartsSame.parts, foldl_partsSame, =
      partsSame_mk, = partsSameF_fold]

theorem State.updWork_partsSame (i : Nat) (f : PortWork → PortWork) {s : State} (hs : PartsSame a s) : PartsSame a
    (State.updWork i f s) := by
  grind [State.updWork, = partsSameF_mk, PartsSame.parts, foldl_partsSame, = partsSame_mk, = partsSameF_fold]

theorem State.updLine_partsSame (i : Nat) (f : LineTx → LineTx) {s : State} (hs : PartsSame a s) : PartsSame a
    (State.updLine i f s) := by
  grind [State.updLine, = partsSameF_mk, PartsSame.parts, foldl_partsSame, = partsSame_mk, = partsSameF_fold]

theorem State.sendLine_partsSame (i : Nat) (seq : BitVec 12) (ack : Option (BitVec 12)) (f : Flit) {s : State} (hs : PartsSame a s) :
    PartsSame a (State.sendLine i seq ack f s) := by
  unfold State.sendLine
  extract_lets w bs fill n
  refine State.emit_partsSame _ (State.updLine_partsSame _ _ ?_)
  exact State.takeFree_partsSame hs

theorem State.txNow_partsSame (i : Nat) (f : Flit) {s : State} (hs : PartsSame a s) : PartsSame a (State.txNow i f s)
    := by
  grind [State.txNow, State.updWork_partsSame, State.sendLine_partsSame, = partsSameF_mk, PartsSame.parts,
      foldl_partsSame, = partsSame_mk, = partsSameF_fold]

theorem State.txRaw_partsSame (i : Nat) (f : Flit) {s : State} (hs : PartsSame a s) : PartsSame a (State.txRaw i f s)
    := by
  grind [State.txRaw, State.updWork_partsSame, State.txNow_partsSame, = partsSameF_mk, PartsSame.parts, foldl_partsSame,
      = partsSame_mk, = partsSameF_fold]

theorem State.updPort_partsSame (i : Nat) (f : Port → Port) {s : State} (hs : PartsSame a s) : PartsSame a
    (State.updPort i f s) := by
  grind [State.updPort, = partsSameF_mk, PartsSame.parts, foldl_partsSame, = partsSame_mk, = partsSameF_fold]

theorem State.flitsOf_partsSame (dst : Option Nat) (m : Msg) {s : State} (hs : PartsSame a s) : PartsSame a (State.flitsOf dst m s).2 := by
  simp only [State.flitsOf]
  exact State.takeFree_partsSame hs

theorem State.txLocal_partsSame (i : Nat) (m : Msg) {s : State} (hs : PartsSame a s) : PartsSame a (State.txLocal i m
    s) := by
  grind [State.txLocal, State.flitsOf_partsSame, State.txRaw_partsSame, = partsSameF_mk, PartsSame.parts,
      foldl_partsSame, = partsSame_mk, = partsSameF_fold]

theorem State.wakeTrain_partsSame (i : Nat) {s : State} (hs : PartsSame a s) : PartsSame a (State.wakeTrain i s) := by
  grind [State.wakeTrain, State.updLine_partsSame, = partsSameF_mk, PartsSame.parts, foldl_partsSame, = partsSame_mk, =
      partsSameF_fold]

theorem State.wakePort_partsSame (i : Nat) {s : State} (hs : PartsSame a s) : PartsSame a (State.wakePort i s) := by
  grind [State.wakePort, State.updPort_partsSame, State.updWork_partsSame, State.txLocal_partsSame,
      State.wakeTrain_partsSame, = partsSameF_mk, PartsSame.parts, foldl_partsSame, = partsSame_mk, = partsSameF_fold]

theorem State.tx_partsSame (i : Nat) (f : Flit) {s : State} (hs : PartsSame a s) : PartsSame a (State.tx i f s) := by
  grind [State.tx, State.updWork_partsSame, State.txRaw_partsSame, State.wakePort_partsSame, = partsSameF_mk,
      PartsSame.parts, foldl_partsSame, = partsSame_mk, = partsSameF_fold]

theorem State.updFab_partsSame (f : Fab → Fab) {s : State} (hs : PartsSame a s) : PartsSame a (State.updFab f s) := by
  grind [State.updFab, = partsSameF_mk, PartsSame.parts, foldl_partsSame, = partsSame_mk, = partsSameF_fold]

theorem State.updMgt_partsSame (f : Mgt → Mgt) {s : State} (hs : PartsSame a s) : PartsSame a (State.updMgt f s) := by
  grind [State.updMgt, = partsSameF_mk, PartsSame.parts, foldl_partsSame, = partsSame_mk, = partsSameF_fold]

theorem State.updFn_partsSame (fn : Nat) (f : PciFn → PciFn) {s : State} (hs : PartsSame a s) : PartsSame a
    (State.updFn fn f s) := by
  grind [State.updFn, = partsSameF_mk, PartsSame.parts, foldl_partsSame, = partsSame_mk, = partsSameF_fold]

theorem State.fireVec_partsSame (fn v : Nat) {s : State} (hs : PartsSame a s) : PartsSame a (State.fireVec fn v s) :=
    by
  grind [State.fireVec, State.updFn_partsSame, State.emitPcie_partsSame, = partsSameF_mk, PartsSame.parts,
      foldl_partsSame, = partsSame_mk, = partsSameF_fold]

theorem State.writeLog_partsSame (ev : Nat) (rs : Reason) (part : Option (Nat × Nat)) (data : W64) {s : State} (hs :
    PartsSame a s) : PartsSame a (State.writeLog ev rs part data s) := by
  grind [State.writeLog, State.updMgt_partsSame, State.emit_partsSame, = partsSameF_mk, PartsSame.parts,
      foldl_partsSame, = partsSame_mk, = partsSameF_fold]

theorem State.logEvent_partsSame (ev : Nat) (rs : Reason) (part : Option (Nat × Nat)) (data : List (Nat × Nat)) {s :
    State} (hs : PartsSame a s) : PartsSame a (State.logEvent ev rs part data s) := by
  grind [State.logEvent, State.updMgt_partsSame, State.fireVec_partsSame, State.writeLog_partsSame, = partsSameF_mk,
      PartsSame.parts, foldl_partsSame, = partsSame_mk, = partsSameF_fold]

theorem State.discardFlit_partsSame (port : Nat) (f : Flit) {s : State} (hs : PartsSame a s) : PartsSame a
    (State.discardFlit port f s) := by
  grind [State.discardFlit, State.updFab_partsSame, State.logEvent_partsSame, = partsSameF_mk, PartsSame.parts,
      foldl_partsSame, = partsSame_mk, = partsSameF_fold]

theorem State.log_partsSame (ev : Nat) (data : List (Nat × Nat)) {s : State} (hs : PartsSame a s) : PartsSame a
    (State.log ev data s) := by
  grind [State.log, State.logEvent_partsSame, = partsSameF_mk, PartsSame.parts, foldl_partsSame, = partsSame_mk, =
      partsSameF_fold]

theorem State.countAlternate_partsSame (port : Nat) (f : Flit) {s : State} (hs : PartsSame a s) : PartsSame a
    (State.countAlternate port f s) := by
  grind [State.countAlternate, State.updFab_partsSame, State.log_partsSame, = partsSameF_mk, PartsSame.parts,
      foldl_partsSame, = partsSame_mk, = partsSameF_fold]

theorem State.noteWay_partsSame (i : Nat) (f : Flit) {s : State} (hs : PartsSame a s) : PartsSame a (State.noteWay i f
    s) := by
  grind [State.noteWay, State.updFab_partsSame, = partsSameF_mk, PartsSame.parts, foldl_partsSame, = partsSame_mk, =
      partsSameF_fold]

theorem State.sendFlit_partsSame (f : Flit) {s : State} (hs : PartsSame a s) : PartsSame a (State.sendFlit f s) := by
  grind [State.sendFlit, State.updFab_partsSame, State.tx_partsSame, State.discardFlit_partsSame,
      State.countAlternate_partsSame, State.noteWay_partsSame, = partsSameF_mk, PartsSame.parts, foldl_partsSame, =
      partsSame_mk, = partsSameF_fold]

theorem State.send_partsSame (dst : Nat) (m : Msg) {s : State} (hs : PartsSame a s) : PartsSame a (State.send dst m s)
    := by
  grind [State.send, State.emit_partsSame, State.flitsOf_partsSame, State.sendFlit_partsSame, = partsSameF_mk,
      PartsSame.parts, foldl_partsSame, = partsSame_mk, = partsSameF_fold]

theorem State.sendAll_partsSame (dsts : List Nat) (m : Msg) {s : State} (hs : PartsSame a s) : PartsSame a
    (State.sendAll dsts m s) := by
  grind [State.sendAll, State.send_partsSame, = partsSameF_mk, PartsSame.parts, foldl_partsSame, = partsSame_mk, =
      partsSameF_fold]

theorem State.updSpan_partsSame (id : BitVec 16) (f : Span → Span) {s : State} (hs : PartsSame a s) : PartsSame a
    (State.updSpan id f s) := by
  grind [State.updSpan, = partsSameF_mk, PartsSame.parts, foldl_partsSame, = partsSame_mk, = partsSameF_fold]

theorem State.spanDie_partsSame (id : BitVec 16) {s : State} (hs : PartsSame a s) : PartsSame a (State.spanDie id s)
    := by
  grind [State.spanDie, State.sendAll_partsSame, State.updSpan_partsSame, = partsSameF_mk, PartsSame.parts,
      foldl_partsSame, = partsSame_mk, = partsSameF_fold]

theorem State.updRed_partsSame (f : Red → Red) {s : State} (hs : PartsSame a s) : PartsSame a (State.updRed f s) := by
  grind [State.updRed, = partsSameF_mk, PartsSame.parts, foldl_partsSame, = partsSame_mk, = partsSameF_fold]

theorem State.killGroups_partsSame (p c : Nat) (cause : Reason) {s : State} (hs : PartsSame a s) : PartsSame a
    (State.killGroups p c cause s) := by
  grind [State.killGroups, State.updRed_partsSame, State.send_partsSame, = partsSameF_mk, PartsSame.parts,
      foldl_partsSame, = partsSame_mk, = partsSameF_fold]

theorem State.updCtx_partsSame (p c : Nat) (f : Ctx → Ctx) {s : State} (hs : PartsSame a s) : PartsSame a
    (State.updCtx p c f s) := by
  grind [State.updCtx, = partsSameF_mk, PartsSame.parts, foldl_partsSame, = partsSame_mk, = partsSameF_fold]

theorem State.killNotices_partsSame (p c : Nat) (cause : Reason) {s : State} (hs : PartsSame a s) : PartsSame a
    (State.killNotices p c cause s) := by
  grind [State.killNotices, State.updCtx_partsSame, State.logEvent_partsSame, State.send_partsSame, = partsSameF_mk,
      PartsSame.parts, foldl_partsSame, = partsSame_mk, = partsSameF_fold]

theorem State.killStart_partsSame (r : FaultRec) (peer : Option (BitVec 7 × BitVec 10)) {s : State} (hs : PartsSame a
    s) : PartsSame a (State.killStart r peer s) := by
  grind (gen := 30) (ematch := 30) (splits := 30) [State.killStart, State.updCtx_partsSame, State.updSeq_partsSame,
      State.logEvent_partsSame, State.stopOp_partsSame, State.spanDie_partsSame, State.killGroups_partsSame,
      State.killNotices_partsSame, = partsSameF_mk, PartsSame.parts, foldl_partsSame, = partsSame_mk, =
      partsSameF_fold]

theorem State.killCtx_partsSame (p c : Nat) (cause : Reason) {s : State} (hs : PartsSame a s) : PartsSame a
    (State.killCtx p c cause s) := by
  grind [State.killCtx, State.killStart_partsSame, = partsSameF_mk, PartsSame.parts, foldl_partsSame, = partsSame_mk, =
      partsSameF_fold]

theorem State.killAll_partsSame (p : Nat) (cause : Reason) {s : State} (hs : PartsSame a s) : PartsSame a
    (State.killAll p cause s) := by
  grind [State.killAll, State.killCtx_partsSame, = partsSameF_mk, PartsSame.parts, foldl_partsSame, = partsSame_mk, =
      partsSameF_fold]

theorem State.updMb_partsSame (m : Nat) (f : Mailbox → Mailbox) {s : State} (hs : PartsSame a s) : PartsSame a
    (State.updMb m f s) := by
  grind [State.updMb, = partsSameF_mk, PartsSame.parts, foldl_partsSame, = partsSame_mk, = partsSameF_fold]

theorem State.stage_partsSame (c : CmdId) (oc : Oc) (rs : Reason) (ws : List W64) (final : Bool) {s : State} (hs :
    PartsSame a s) : PartsSame a (State.stage c oc rs ws final s) := by
  grind [State.stage, State.updMb_partsSame, = partsSameF_mk, PartsSame.parts, foldl_partsSame, = partsSame_mk, =
      partsSameF_fold]

theorem State.finish_partsSame (c : CmdId) (oc : Oc) (rs : Reason) (ws : List W64) {s : State} (hs : PartsSame a s) :
    PartsSame a (State.finish c oc rs ws s) := by
  grind [State.finish, State.stage_partsSame, = partsSameF_mk, PartsSame.parts, foldl_partsSame, = partsSame_mk, =
      partsSameF_fold]

theorem State.finishAll_partsSame (cs : List CmdId) (oc : Oc) (rs : Reason) (ws : List W64) {s : State} (hs :
    PartsSame a s) : PartsSame a (State.finishAll cs oc rs ws s) := by
  grind [State.finishAll, State.finish_partsSame, = partsSameF_mk, PartsSame.parts, foldl_partsSame, = partsSame_mk, =
      partsSameF_fold]

theorem State.refuseLoads_partsSame (p : Nat) {s : State} (hs : PartsSame a s) : PartsSame a (State.refuseLoads p s)
    := by
  grind [State.refuseLoads, State.finishAll_partsSame, = partsSameF_mk, PartsSame.parts, foldl_partsSame, =
      partsSame_mk, = partsSameF_fold]

/-- A kill changes no partition. -/
@[simp] theorem State.killStart_part (r : FaultRec) (peer : Option (BitVec 7 × BitVec 10)) (s : State) (p : Nat) :
    (s.killStart r peer).part p = s.part p := by
  have h := State.killStart_partsSame r peer (PartsSame.refl s)
  unfold State.part
  exact congrArg _ h

/-- Killing every context of a partition changes no partition. -/
@[simp] theorem State.killAll_part (p : Nat) (cause : Reason) (s : State) (k : Nat) :
    (s.killAll p cause).part k = s.part k := by
  have h := State.killAll_partsSame p cause (PartsSame.refl s)
  unfold State.part
  exact congrArg _ h

end Sys2Proof.Machine
end

