-- ==== Sys2Proof/Laws/KillCtx.lean ====
section
/-! SUPPORT. What a kill does to the contexts. -/

namespace Sys2Proof.Machine

open Sys2Proof

/- In turn, not as parallel tasks: each task that waits for another holds a stack of its own. -/
set_option Elab.async false

/-- `CtxCores` over the fields it speaks of. -/
def CtxCoresF (a : State) (ten : Tenants) : Prop :=
  ∀ j, (ten.ctxs.get {} j).core = (a.ten.ctxs.get {} j).core

/-- Every context has the fields it has in `a`, but for the count of members a notice could not reach. -/
def CtxCores (a s : State) : Prop := CtxCoresF a s.ten

theorem ctxCoresF_fold (a s : State) : CtxCoresF a s.ten ↔ CtxCores a s := Iff.rfl

theorem ctxCores_mk (a) (fuse flash por mgt frm pcie mbx nextUid adm ten xlt seq kv sfu builtins pln red plk fab pwr
    dram spad host out free pending) :
    CtxCores a (State.mk fuse flash por mgt frm pcie mbx nextUid adm ten xlt seq kv sfu builtins pln red plk fab pwr
        dram spad host out free pending) ↔ CtxCoresF a ten := Iff.rfl

theorem CtxCores.refl (s : State) : CtxCores s s := fun _ => rfl

theorem foldl_ctxCores {a : State} {α : Type} {g : State → α → State} (hg : ∀ s x, CtxCores a s → CtxCores a (g s x))
    (l : List α)
    {s : State} (h : CtxCores a s) : CtxCores a (l.foldl g s) := by
  induction l generalizing s with
  | nil => exact h
  | cons x t ih => exact ih (hg _ _ h)

variable {a : State}

theorem ctxCoresF_mk (p c x f r) : CtxCoresF a (Tenants.mk p c x f r) ↔
    ∀ j, (c.get {} j).core = (a.ten.ctxs.get {} j).core := Iff.rfl

theorem CtxCores.ctxs {s : State} (h : CtxCores a s) : ∀ j, (s.ten.ctxs.get {} j).core = (a.ten.ctxs.get {} j).core := h

/-- An update that keeps every core keeps `CtxCores`. -/
theorem State.updCtx_ctxCores' (p c : Nat) (f : Ctx → Ctx) (hf : ∀ y, (f y).core = y.core) {s : State} (h : CtxCores a s) :
    CtxCores a (s.updCtx p c f) := by
  intro j
  have hj := h j
  show ((s.ten.ctxs.upd {} (tagOf p c) f).get {} j).core = _
  rw [Tab.get_upd]
  split
  · rename_i e
    rw [hf, ← e]
    exact hj
  · exact hj

theorem State.updWork_ctxCores (i : Nat) (f : PortWork → PortWork) {s : State} (hs : CtxCores a s) : CtxCores a
    (State.updWork i f s) := by
  grind [State.updWork, = ctxCoresF_mk, CtxCores.ctxs, foldl_ctxCores, = ctxCores_mk, = ctxCoresF_fold]

theorem State.emit_ctxCores (o : Output) {s : State} (hs : CtxCores a s) : CtxCores a (State.emit o s) := by
  grind [State.emit, = ctxCoresF_mk, CtxCores.ctxs, foldl_ctxCores, = ctxCores_mk, = ctxCoresF_fold]

theorem State.updLine_ctxCores (i : Nat) (f : LineTx → LineTx) {s : State} (hs : CtxCores a s) : CtxCores a
    (State.updLine i f s) := by
  grind [State.updLine, = ctxCoresF_mk, CtxCores.ctxs, foldl_ctxCores, = ctxCores_mk, = ctxCoresF_fold]

theorem State.takeFree_ctxCores {s : State} (hs : CtxCores a s) : CtxCores a (State.takeFree s).2 := by
  grind [State.takeFree, = ctxCoresF_mk, CtxCores.ctxs, foldl_ctxCores, = ctxCores_mk, = ctxCoresF_fold]

theorem State.sendLine_ctxCores (i : Nat) (seq : BitVec 12) (ack : Option (BitVec 12)) (f : Flit) {s : State} (hs : CtxCores a s) :
    CtxCores a (State.sendLine i seq ack f s) := by
  unfold State.sendLine
  extract_lets w bs fill n
  refine State.emit_ctxCores _ (State.updLine_ctxCores _ _ ?_)
  exact State.takeFree_ctxCores hs

theorem State.txNow_ctxCores (i : Nat) (f : Flit) {s : State} (hs : CtxCores a s) : CtxCores a (State.txNow i f s) :=
    by
  grind [State.txNow, State.updWork_ctxCores, State.sendLine_ctxCores, = ctxCoresF_mk, CtxCores.ctxs, foldl_ctxCores, =
      ctxCores_mk, = ctxCoresF_fold]

theorem State.txRaw_ctxCores (i : Nat) (f : Flit) {s : State} (hs : CtxCores a s) : CtxCores a (State.txRaw i f s) :=
    by
  grind [State.txRaw, State.updWork_ctxCores, State.txNow_ctxCores, = ctxCoresF_mk, CtxCores.ctxs, foldl_ctxCores, =
      ctxCores_mk, = ctxCoresF_fold]

theorem State.updPort_ctxCores (i : Nat) (f : Port → Port) {s : State} (hs : CtxCores a s) : CtxCores a (State.updPort
    i f s) := by
  grind [State.updPort, = ctxCoresF_mk, CtxCores.ctxs, foldl_ctxCores, = ctxCores_mk, = ctxCoresF_fold]

theorem State.flitsOf_ctxCores (dst : Option Nat) (m : Msg) {s : State} (hs : CtxCores a s) : CtxCores a (State.flitsOf dst m s).2 := by
  simp only [State.flitsOf]
  exact State.takeFree_ctxCores hs

theorem State.txLocal_ctxCores (i : Nat) (m : Msg) {s : State} (hs : CtxCores a s) : CtxCores a (State.txLocal i m s)
    := by
  grind [State.txLocal, State.flitsOf_ctxCores, State.txRaw_ctxCores, = ctxCoresF_mk, CtxCores.ctxs, foldl_ctxCores, =
      ctxCores_mk, = ctxCoresF_fold]

theorem State.wakeTrain_ctxCores (i : Nat) {s : State} (hs : CtxCores a s) : CtxCores a (State.wakeTrain i s) := by
  grind [State.wakeTrain, State.updLine_ctxCores, = ctxCoresF_mk, CtxCores.ctxs, foldl_ctxCores, = ctxCores_mk, =
      ctxCoresF_fold]

theorem State.wakePort_ctxCores (i : Nat) {s : State} (hs : CtxCores a s) : CtxCores a (State.wakePort i s) := by
  grind [State.wakePort, State.updPort_ctxCores, State.updWork_ctxCores, State.txLocal_ctxCores,
      State.wakeTrain_ctxCores, = ctxCoresF_mk, CtxCores.ctxs, foldl_ctxCores, = ctxCores_mk, = ctxCoresF_fold]

theorem State.tx_ctxCores (i : Nat) (f : Flit) {s : State} (hs : CtxCores a s) : CtxCores a (State.tx i f s) := by
  grind [State.tx, State.updWork_ctxCores, State.txRaw_ctxCores, State.wakePort_ctxCores, = ctxCoresF_mk, CtxCores.ctxs,
      foldl_ctxCores, = ctxCores_mk, = ctxCoresF_fold]

theorem State.updFab_ctxCores (f : Fab → Fab) {s : State} (hs : CtxCores a s) : CtxCores a (State.updFab f s) := by
  grind [State.updFab, = ctxCoresF_mk, CtxCores.ctxs, foldl_ctxCores, = ctxCores_mk, = ctxCoresF_fold]

theorem State.updMgt_ctxCores (f : Mgt → Mgt) {s : State} (hs : CtxCores a s) : CtxCores a (State.updMgt f s) := by
  grind [State.updMgt, = ctxCoresF_mk, CtxCores.ctxs, foldl_ctxCores, = ctxCores_mk, = ctxCoresF_fold]

theorem State.updFn_ctxCores (fn : Nat) (f : PciFn → PciFn) {s : State} (hs : CtxCores a s) : CtxCores a (State.updFn
    fn f s) := by
  grind [State.updFn, = ctxCoresF_mk, CtxCores.ctxs, foldl_ctxCores, = ctxCores_mk, = ctxCoresF_fold]

theorem State.emitPcie_ctxCores (t : HostTlp) {s : State} (hs : CtxCores a s) : CtxCores a (State.emitPcie t s) := by
  grind [State.emitPcie, State.emit_ctxCores, = ctxCoresF_mk, CtxCores.ctxs, foldl_ctxCores, = ctxCores_mk, =
      ctxCoresF_fold]

theorem State.fireVec_ctxCores (fn v : Nat) {s : State} (hs : CtxCores a s) : CtxCores a (State.fireVec fn v s) := by
  grind [State.fireVec, State.updFn_ctxCores, State.emitPcie_ctxCores, = ctxCoresF_mk, CtxCores.ctxs, foldl_ctxCores, =
      ctxCores_mk, = ctxCoresF_fold]

theorem State.writeLog_ctxCores (ev : Nat) (rs : Reason) (part : Option (Nat × Nat)) (data : W64) {s : State} (hs :
    CtxCores a s) : CtxCores a (State.writeLog ev rs part data s) := by
  grind [State.writeLog, State.updMgt_ctxCores, State.emit_ctxCores, = ctxCoresF_mk, CtxCores.ctxs, foldl_ctxCores, =
      ctxCores_mk, = ctxCoresF_fold]

theorem State.logEvent_ctxCores (ev : Nat) (rs : Reason) (part : Option (Nat × Nat)) (data : List (Nat × Nat)) {s :
    State} (hs : CtxCores a s) : CtxCores a (State.logEvent ev rs part data s) := by
  grind [State.logEvent, State.updMgt_ctxCores, State.fireVec_ctxCores, State.writeLog_ctxCores, = ctxCoresF_mk,
      CtxCores.ctxs, foldl_ctxCores, = ctxCores_mk, = ctxCoresF_fold]

theorem State.discardFlit_ctxCores (port : Nat) (f : Flit) {s : State} (hs : CtxCores a s) : CtxCores a
    (State.discardFlit port f s) := by
  grind [State.discardFlit, State.updFab_ctxCores, State.logEvent_ctxCores, = ctxCoresF_mk, CtxCores.ctxs,
      foldl_ctxCores, = ctxCores_mk, = ctxCoresF_fold]

theorem State.log_ctxCores (ev : Nat) (data : List (Nat × Nat)) {s : State} (hs : CtxCores a s) : CtxCores a
    (State.log ev data s) := by
  grind [State.log, State.logEvent_ctxCores, = ctxCoresF_mk, CtxCores.ctxs, foldl_ctxCores, = ctxCores_mk, =
      ctxCoresF_fold]

theorem State.countAlternate_ctxCores (port : Nat) (f : Flit) {s : State} (hs : CtxCores a s) : CtxCores a
    (State.countAlternate port f s) := by
  grind [State.countAlternate, State.updFab_ctxCores, State.log_ctxCores, = ctxCoresF_mk, CtxCores.ctxs, foldl_ctxCores,
      = ctxCores_mk, = ctxCoresF_fold]

theorem State.noteWay_ctxCores (i : Nat) (f : Flit) {s : State} (hs : CtxCores a s) : CtxCores a (State.noteWay i f s)
    := by
  grind [State.noteWay, State.updFab_ctxCores, = ctxCoresF_mk, CtxCores.ctxs, foldl_ctxCores, = ctxCores_mk, =
      ctxCoresF_fold]

theorem State.sendFlit_ctxCores (f : Flit) {s : State} (hs : CtxCores a s) : CtxCores a (State.sendFlit f s) := by
  grind [State.sendFlit, State.updFab_ctxCores, State.tx_ctxCores, State.discardFlit_ctxCores,
      State.countAlternate_ctxCores, State.noteWay_ctxCores, = ctxCoresF_mk, CtxCores.ctxs, foldl_ctxCores, =
      ctxCores_mk, = ctxCoresF_fold]

theorem State.send_ctxCores (dst : Nat) (m : Msg) {s : State} (hs : CtxCores a s) : CtxCores a (State.send dst m s) :=
    by
  grind [State.send, State.emit_ctxCores, State.flitsOf_ctxCores, State.sendFlit_ctxCores, = ctxCoresF_mk,
      CtxCores.ctxs, foldl_ctxCores, = ctxCores_mk, = ctxCoresF_fold]

theorem State.killNotices_ctxCores (p : Nat) (c : Nat) (cause : Reason) {s : State} (hs : CtxCores a s) : CtxCores a
    (State.killNotices p c cause s) := by
  unfold State.killNotices
  split
  · exact hs
  · refine foldl_ctxCores (fun s x h => ?_) _ hs
    split
    · exact State.send_ctxCores _ _ h
    · refine State.logEvent_ctxCores _ _ _ _ ?_
      refine State.updCtx_ctxCores' _ _ _ ?_ h
      exact fun _ => rfl

theorem State.updRed_ctxCores (f : Red → Red) {s : State} (hs : CtxCores a s) : CtxCores a (State.updRed f s) := by
  grind [State.updRed, = ctxCoresF_mk, CtxCores.ctxs, foldl_ctxCores, = ctxCores_mk, = ctxCoresF_fold]

theorem State.killGroups_ctxCores (p c : Nat) (cause : Reason) {s : State} (hs : CtxCores a s) : CtxCores a
    (State.killGroups p c cause s) := by
  grind [State.killGroups, State.updRed_ctxCores, State.send_ctxCores, = ctxCoresF_mk, CtxCores.ctxs, foldl_ctxCores, =
      ctxCores_mk, = ctxCoresF_fold]

theorem State.sendAll_ctxCores (dsts : List Nat) (m : Msg) {s : State} (hs : CtxCores a s) : CtxCores a (State.sendAll
    dsts m s) := by
  grind [State.sendAll, State.send_ctxCores, = ctxCoresF_mk, CtxCores.ctxs, foldl_ctxCores, = ctxCores_mk, =
      ctxCoresF_fold]

theorem State.updSpan_ctxCores (id : BitVec 16) (f : Span → Span) {s : State} (hs : CtxCores a s) : CtxCores a
    (State.updSpan id f s) := by
  grind [State.updSpan, = ctxCoresF_mk, CtxCores.ctxs, foldl_ctxCores, = ctxCores_mk, = ctxCoresF_fold]

theorem State.spanDie_ctxCores (id : BitVec 16) {s : State} (hs : CtxCores a s) : CtxCores a (State.spanDie id s) :=
    by
  grind [State.spanDie, State.sendAll_ctxCores, State.updSpan_ctxCores, = ctxCoresF_mk, CtxCores.ctxs, foldl_ctxCores, =
      ctxCores_mk, = ctxCoresF_fold]

theorem CtxCores.ctx {s : State} (h : CtxCores a s) (p c : Nat) : (s.ctx p c).core = (a.ctx p c).core := h (tagOf p c)

theorem foldl_stopOp_ten (l : List Op) (s : State) : (l.foldl (fun s o => s.stopOp o) s).ten = s.ten := by
  induction l generalizing s with
  | nil => rfl
  | cons o t ih => rw [List.foldl_cons, ih, State.stopOp_ten]

/-- A kill of a LIVE context leaves it KILLING with its fault record, and no other context changed. -/
theorem State.killStart_ctx (r : FaultRec) (peer : Option (BitVec 7 × BitVec 10)) (s : State)
    (h : (s.ctx (r.tag.toNat / 64) (r.tag.toNat % 64)).state = .live) (p c : Nat) :
    ((s.killStart r peer).ctx p c).core =
      if tagOf p c = tagOf (r.tag.toNat / 64) (r.tag.toNat % 64) then killRecord r peer s else (s.ctx p c).core := by
  unfold State.killStart
  extract_lets p' c' ops s1 s2 s3 s4 sq s5 s6 s7
  rw [if_neg (by simp [p', c', h])]
  have h3 : CtxCores s3 (match s7.ten.spans.find? (fun x => x.part == p' && x.ctx == c') with
      | some x => s7.spanDie x.id
      | none => s7) := by
    have h5 : CtxCores s3 s5 := State.logEvent_ctxCores _ _ _ _ (show CtxCores s3 sq from fun _ => rfl)
    have h6 : CtxCores s3 s6 := by
      show CtxCores s3 (if _ then _ else _)
      split
      · exact State.killNotices_ctxCores _ _ _ h5
      · exact h5
    have h7 : CtxCores s3 s7 := State.killGroups_ctxCores _ _ _ h6
    split
    · exact State.spanDie_ctxCores _ h7
    · exact h7
  refine (h3.ctx p c).trans ?_
  have e2 : ∀ j k, s2.ctx j k = s1.ctx j k := fun j k => by
    unfold State.ctx
    rw [show s2.ten = s1.ten from foldl_stopOp_ten _ _]
  by_cases e : tagOf p c = tagOf p' c'
  · rw [if_pos e]
    have e3 : s3.ctx p c = s3.ctx p' c' := by
      unfold State.ctx
      rw [e]
    rw [e3, State.ctx_updCtx_self, e2, State.ctx_updCtx_self]
    rfl
  · rw [if_neg e, State.ctx_updCtx_ne _ e, e2, State.ctx_updCtx_ne _ e]

end Sys2Proof.Machine
end

