-- ==== Sys2Proof/Laws/Results.lean ====
section
/-! SUPPORT. What the shared operations give the commands that use them: buffers, spans by identifier, kills. -/

namespace Sys2Proof.Machine

open Sys2Proof

theorem State.choeskRead_entered (p c fuel a n : Nat) (acc : List Byte) (m : Nat) (op : BitVec 16) (e : Entry) (s : State) :
    (s.entered m op e).choeskRead p c fuel a n acc = s.choeskRead p c fuel a n acc := by
  induction fuel generalizing a n acc with
  | zero => rfl
  | succ f ih =>
    unfold State.choeskRead
    simp only [ih]
    rfl

@[simp] theorem State.readArg_entered (p c a n m : Nat) (op : BitVec 16) (e : Entry) (s : State) :
    (s.entered m op e).readArg p c a n = s.readArg p c a n := State.choeskRead_entered ..

@[simp] theorem State.argWritable_entered (p c a n m : Nat) (op : BitVec 16) (e : Entry) (s : State) :
    (s.entered m op e).argWritable p c a n = s.argWritable p c a n := rfl

@[simp] theorem State.indexResting_entered (i : BitVec 16) (m : Nat) (op : BitVec 16) (e : Entry) (s : State) :
    (s.entered m op e).indexResting i = s.indexResting i := rfl

@[simp] theorem State.isMember_entered (p c m : Nat) (op : BitVec 16) (e : Entry) (s : State) :
    (s.entered m op e).isMember p c = s.isMember p c := rfl

@[simp] theorem State.self_entered (m : Nat) (op : BitVec 16) (e : Entry) (s : State) :
    (s.entered m op e).self = s.self := rfl

/-- A state with the memories, translations and counts of memory errors of another. -/
def State.withMemOf (f a : State) : State :=
  { f with por := a.por, pcie := a.pcie, ten := a.ten, xlt := a.xlt, dram := a.dram, spad := a.spad, host := a.host }

/-- An operation that works on memory alone: it gives the same memory from every state that has the memory of this one, and
changes nothing else. -/
def OnMem (g : State → State) : Prop := ∀ f a : State, g (f.withMemOf a) = f.withMemOf (g a)

theorem foldl_onMem {α : Type} {g : State → α → State} (hg : ∀ x, OnMem (fun s => g s x)) (l : List α) :
    OnMem (fun s => l.foldl g s) := fun f a => by
  induction l generalizing a with
  | nil => rfl
  | cons x t ih => exact (congrArg (fun s => t.foldl g s) (hg x f a)).trans (ih (g a x))

theorem State.countCorrected_onMem (q : Phys) : OnMem (State.countCorrected q) := fun _ _ => by cases q <;> rfl

theorem State.clearEcc_onMem (spad : Bool) (k : Nat) : OnMem (State.clearEcc spad k) := fun _ _ => rfl

theorem State.freshEcc_onMem (q : Phys) (whole : Bool) (k : Nat) : OnMem (State.freshEcc q whole k) := fun f a => by
  unfold State.freshEcc
  split <;> cases q <;> rfl

theorem State.putBytes_onMem (q : Phys) (x : Nat) (l : List (Nat × Byte)) : OnMem (State.putBytes q x l) := fun _ _ => by
  cases q <;> rfl

theorem State.storeLine_onMem (q : Phys) (bs : List Byte) : OnMem (State.storeLine q bs) := fun f a => by
  unfold State.storeLine
  dsimp only
  split
  · rfl
  · rw [show (f.withMemOf a).badWords q bs.length = a.badWords q bs.length from rfl,
      show (f.withMemOf a).deadWords q bs.length = a.deadWords q bs.length from rfl,
      ← State.putBytes_onMem]
    exact congrArg _ (foldl_onMem (fun k => State.freshEcc_onMem q (wholeWord q.addr bs.length k) k) _ f a)

theorem State.choeskWrite_onMem (p c fuel x : Nat) (bs : List Byte) : OnMem (State.choeskWrite p c fuel x bs) := fun f a => by
  induction fuel generalizing x bs a with
  | zero => rfl
  | succ n ih =>
    cases bs with
    | nil => rfl
    | cons b t =>
      unfold State.choeskWrite
      dsimp only
      rw [show (f.withMemOf a).choeskPlace p c true x = a.choeskPlace p c true x from rfl]
      split
      · exact ih _ _ a
      · rw [State.storeLine_onMem]
        exact ih _ _ _

/-- Writing a buffer works on memory alone. -/
theorem State.writeArg_onMem (p c x : Nat) (bs : List Byte) : OnMem (State.writeArg p c x bs) :=
  State.choeskWrite_onMem p c _ x bs

/-! ### Spans and contexts -/

theorem State.spanOf_id {i : BitVec 16} {x : Span} {s : State} (h : s.span? i = some x) : x.id = i := by
  have := List.find?_some h
  simpa using this

/-- A partition and a context as a tag of ten bits holds them. -/
theorem tag_parts {p c : Nat} (hp : p < 16) (hc : c < 64) :
    (BitVec.ofNat 10 (tagOf p c)).toNat / 64 = p ∧ (BitVec.ofNat 10 (tagOf p c)).toNat % 64 = c := by
  rw [BitVec.toNat_ofNat, tagOf, Nat.mod_eq_of_lt (by omega)]
  omega

/-- A kill by Choesk of a LIVE context leaves it KILLING with that cause, and whoever waits for it goes on waiting. -/
theorem State.killCtx_self {p c : Nat} (hp : p < 16) (hc : c < 64) (cause : Reason) (s : State)
    (h : (s.ctx p c).state = .live) :
    ((s.killCtx p c cause).ctx p c).state = .killing ∧ ((s.killCtx p c cause).ctx p c).cause = some cause ∧
      ((s.killCtx p c cause).ctx p c).killers = (s.ctx p c).killers := by
  have ht := tag_parts hp hc
  have hk := State.killStart_ctx { tag := BitVec.ofNat 10 (tagOf p c), cause := cause } none s
    (by rw [ht.1, ht.2]; exact h) p c
  rw [ht.1, ht.2, if_pos rfl] at hk
  unfold State.killCtx
  have hs := congrArg Ctx.state hk
  have hcs := congrArg Ctx.cause hk
  have hks := congrArg Ctx.killers hk
  simp only [Ctx.core, killRecord, ht.1, ht.2] at hs hcs hks
  exact ⟨hs, hcs, hks⟩

/-! ### Shootdowns -/

@[simp] theorem State.shootdown_shoots (p : Nat) (vs ws : List Nat) (n : ShootThen) (s : State) :
    (s.shootdown p vs ws n).xlt.shoots = s.xlt.shoots ++ [{ id := s.xlt.nextShoot, next := n }] := rfl

@[simp] theorem State.shootdown_dev (p : Nat) (vs ws : List Nat) (n : ShootThen) (s : State) :
    (s.shootdown p vs ws n).xlt.dev = s.xlt.dev := rfl

@[simp] theorem State.shootdown_win (p : Nat) (vs ws : List Nat) (n : ShootThen) (s : State) :
    (s.shootdown p vs ws n).xlt.win = s.xlt.win := rfl

@[simp] theorem State.shootdown_own (p : Nat) (vs ws : List Nat) (n : ShootThen) (s : State) :
    (s.shootdown p vs ws n).xlt.own = s.xlt.own := rfl

@[simp] theorem State.shootdown_ten (p : Nat) (vs ws : List Nat) (n : ShootThen) (s : State) :
    (s.shootdown p vs ws n).ten = s.ten := rfl

@[simp] theorem State.shootdown_mbx (p : Nat) (vs ws : List Nat) (n : ShootThen) (s : State) :
    (s.shootdown p vs ws n).mbx = s.mbx := rfl

@[simp] theorem State.shootdown_frm (p : Nat) (vs ws : List Nat) (n : ShootThen) (s : State) :
    (s.shootdown p vs ws n).frm = s.frm := rfl

@[simp] theorem State.ctx_shootdown (p : Nat) (vs ws : List Nat) (n : ShootThen) (s : State) (j k : Nat) :
    (s.shootdown p vs ws n).ctx j k = s.ctx j k := rfl

@[simp] theorem State.dpte_shootdown (p : Nat) (vs ws : List Nat) (n : ShootThen) (s : State) (j v : Nat) :
    (s.shootdown p vs ws n).dpte j v = s.dpte j v := rfl

@[simp] theorem State.hwin_shootdown (p : Nat) (vs ws : List Nat) (n : ShootThen) (s : State) (j v : Nat) :
    (s.shootdown p vs ws n).hwin j v = s.hwin j v := rfl

@[simp] theorem State.dpte_updCtx (p c : Nat) (f : Ctx → Ctx) (s : State) (j v : Nat) :
    (s.updCtx p c f).dpte j v = s.dpte j v := rfl

@[simp] theorem State.dpte_unmapWins (p : Nat) (ws : List Nat) (s : State) (j v : Nat) :
    (s.unmapWins p ws).dpte j v = s.dpte j v := rfl

@[simp] theorem State.dpte_entered (m : Nat) (op : BitVec 16) (e : Entry) (s : State) (j v : Nat) :
    (s.entered m op e).dpte j v = s.dpte j v := rfl

@[simp] theorem State.hwin_entered (m : Nat) (op : BitVec 16) (e : Entry) (s : State) (j v : Nat) :
    (s.entered m op e).hwin j v = s.hwin j v := rfl

/-- Unmapped VPNs read as no entry, the others as before. -/
theorem State.dpte_unmapVpns (p : Nat) (vs : List Nat) (s : State) (v : Nat) :
    (s.unmapVpns p vs).dpte p v = if v ∈ vs then {} else s.dpte p v := by
  exact (Tab.get_foldl_put {} (fun v => 512 * p + v) {} vs s.xlt.dev (512 * p + v)).trans (by simp [State.dpte])

/-- Unmapped windows read as no entry, the others as before. -/
theorem State.hwin_unmapWins (p : Nat) (ws : List Nat) (s : State) (w : Nat) :
    (s.unmapWins p ws).hwin p w = if w ∈ ws then {} else s.hwin p w := by
  exact (Tab.get_foldl_put {} (fun v => 256 * p + v) {} ws s.xlt.win (256 * p + w)).trans (by simp [State.hwin])

/-! ### Pools -/

@[simp] theorem State.setPool_mb (p : Nat) (k : KvPool) (s : State) (m : Nat) : (s.setPool p k).mb m = s.mb m := rfl

@[simp] theorem State.setPool_frm (p : Nat) (k : KvPool) (s : State) : (s.setPool p k).frm = s.frm := rfl

@[simp] theorem State.setPool_pool (p : Nat) (k : KvPool) (s : State) : (s.setPool p k).kv.get none p = some k :=
  Tab.get_put_self ..

/-! ### Slots of the special-function stores -/

@[simp] theorem State.sfuSlot_updSlot_self (k : Nat) (f : SfuSlot → SfuSlot) (s : State) :
    (s.updSlot k f).sfuSlot k = f (s.sfuSlot k) := Tab.get_upd_self _ _ _ _

theorem State.sfuSlot_updSlot_ne {j k : Nat} (h : j ≠ k) (f : SfuSlot → SfuSlot) (s : State) :
    (s.updSlot k f).sfuSlot j = s.sfuSlot j := Tab.get_upd_ne _ h _ _

/-! ### Bound registers -/

/-- A run of bound registers written in turn: each holds its value, the others what they held, and nothing else changed. -/
theorem State.foldl_setBound (p a n : Nat) (f : Nat → W64) (s : State) :
    ∃ q, (List.range n).foldl (fun s i => s.setBound p (a + i) (f i)) s = { s with seq := q } ∧
      (∀ i < n, q.bounds.get 0 (64 * p + (a + i)) = f i) ∧
      (∀ j, (∀ i < n, j ≠ 64 * p + (a + i)) → q.bounds.get 0 j = s.seq.bounds.get 0 j) ∧
      q = { s.seq with bounds := q.bounds } := by
  induction n with
  | zero => exact ⟨s.seq, rfl, by simp, by simp, rfl⟩
  | succ n ih =>
    obtain ⟨q, h1, h2, h3, h4⟩ := ih
    rw [List.range_succ, List.foldl_append, h1]
    refine ⟨{ q with bounds := q.bounds.put (64 * p + (a + n)) (f n) }, rfl, ?_, ?_, ?_⟩
    · intro i hi
      dsimp only
      rw [Tab.get_put]
      split
      · congr 1
        omega
      · exact h2 i (by omega)
    · intro j hj
      dsimp only
      rw [Tab.get_put_ne _ (hj n (by omega))]
      exact h3 j (fun i hi => hj i (by omega))
    · dsimp only
      rw [h4]

/-! ### Pages mapped in a row -/

/-- Entries put at consecutive keys: each key holds its own, the others what they held. -/
theorem Tab.get_foldl_zip {α : Type} (d : α) (b : Nat) (f : Nat → α) (n : Nat) (ps : List Nat) (h : ps.length = n)
    (t : Tab α) (j : Nat) :
    ((ps.zip (List.range n)).foldl (fun a pi => a.put (b + pi.2) (f pi.1)) t).get d j =
      if b ≤ j ∧ j < b + n then f (ps.getD (j - b) 0) else t.get d j := by
  induction n generalizing ps with
  | zero =>
    rw [List.length_eq_zero_iff.1 h, if_neg (by omega)]
    rfl
  | succ n ih =>
    obtain rfl | ⟨qs, x, rfl⟩ := List.eq_nil_or_concat ps
    · simp at h
    · rw [List.concat_eq_append] at h ⊢
      rw [List.length_append, List.length_singleton] at h
      have hq : qs.length = n := by omega
      rw [List.range_succ, List.zip_append (by rw [hq, List.length_range]), List.foldl_append]
      simp only [List.zip_cons_cons, List.zip_nil_right, List.foldl_cons, List.foldl_nil]
      rw [Tab.get_put]
      split
      · rename_i e
        rw [if_pos (by omega)]
        subst e
        simp [List.getD, ← hq]
      · rename_i e
        rw [ih qs hq]
        by_cases hr : b ≤ j ∧ j < b + n
        · rw [if_pos hr, if_pos (by omega)]
          congr 1
          simp only [List.getD]
          rw [List.getElem?_append_left (by omega)]
        · rw [if_neg hr, if_neg (by omega)]

end Sys2Proof.Machine
end

