-- ==== Sys2Proof/Laws/FrameNumber.lean ====
section
/-! SUPPORT. What a commit instant does after the frame number has advanced, and what the slack phase starts with, leave the
number and the phase alone. -/

namespace Sys2Proof.Machine

open Sys2Proof

/-- `FrmCount` over the fields it speaks of. -/
def FrmCountF (a : State) (frm : Frm) : Prop :=
  frm.count = a.frm.count ∧ frm.phase = a.frm.phase

/-- The frame number and the phase are those of `a`. -/
def FrmCount (a s : State) : Prop := FrmCountF a s.frm

theorem frmCountF_fold (a s : State) : FrmCountF a s.frm ↔ FrmCount a s := Iff.rfl

theorem frmCount_mk (a) (fuse flash por mgt frm pcie mbx nextUid adm ten xlt seq kv sfu builtins pln red plk fab pwr
    dram spad host out free pending) :
    FrmCount a (State.mk fuse flash por mgt frm pcie mbx nextUid adm ten xlt seq kv sfu builtins pln red plk fab pwr
        dram spad host out free pending) ↔ FrmCountF a frm := Iff.rfl

theorem FrmCount.refl (s : State) : FrmCount s s := ⟨rfl, rfl⟩

theorem foldl_frmCount {a : State} {α : Type} {g : State → α → State} (hg : ∀ s x, FrmCount a s → FrmCount a (g s x))
    (l : List α)
    {s : State} (h : FrmCount a s) : FrmCount a (l.foldl g s) := by
  induction l generalizing s with
  | nil => exact h
  | cons x t ih => exact ih (hg _ _ h)

variable {a : State}

theorem frmCountF_mk (x_count x_period x_slack x_pref x_role x_state x_epoch x_master x_deputy x_hops x_parent x_error x_phase x_started x_good x_bad x_lockReady x_holdFrames x_missing x_markerSeen x_directSeen x_demote x_change x_proposal x_changeCmd x_parts) : FrmCountF a (Frm.mk x_count x_period x_slack x_pref x_role x_state x_epoch x_master x_deputy x_hops x_parent x_error x_phase x_started x_good x_bad x_lockReady x_holdFrames x_missing x_markerSeen x_directSeen x_demote x_change x_proposal x_changeCmd x_parts) ↔ x_count = a.frm.count ∧ x_phase = a.frm.phase := Iff.rfl

theorem gotThen_frmCount {α β : Type} {x : State × Got α} {f : α → State → State × Got β} (hx : FrmCount a x.1)
    (hf : ∀ v s, FrmCount a s → FrmCount a (f v s).1) : FrmCount a (gotThen x f).1 := by
  unfold gotThen
  split
  · exact hf _ _ hx
  all_goals exact hx

theorem FrmCount.count {s : State} (h : FrmCount a s) : s.frm.count = a.frm.count := h.1

theorem FrmCount.phase {s : State} (h : FrmCount a s) : s.frm.phase = a.frm.phase := h.2

theorem State.updMgt_frmCount (f : Mgt → Mgt) {s : State} (hs : FrmCount a s) : FrmCount a (State.updMgt f s) := by
  grind [State.updMgt, = frmCountF_mk, FrmCount.count, FrmCount.phase, State.updFrm, foldl_frmCount, = frmCount_mk, =
      frmCountF_fold]

theorem State.updFn_frmCount (fn : Nat) (f : PciFn → PciFn) {s : State} (hs : FrmCount a s) : FrmCount a (State.updFn
    fn f s) := by
  grind [State.updFn, = frmCountF_mk, FrmCount.count, FrmCount.phase, State.updFrm, foldl_frmCount, = frmCount_mk, =
      frmCountF_fold]

theorem State.emit_frmCount (o : Output) {s : State} (hs : FrmCount a s) : FrmCount a (State.emit o s) := by
  grind [State.emit, = frmCountF_mk, FrmCount.count, FrmCount.phase, State.updFrm, foldl_frmCount, = frmCount_mk, =
      frmCountF_fold]

theorem State.emitPcie_frmCount (t : HostTlp) {s : State} (hs : FrmCount a s) : FrmCount a (State.emitPcie t s) := by
  grind [State.emitPcie, State.emit_frmCount, = frmCountF_mk, FrmCount.count, FrmCount.phase, State.updFrm,
      foldl_frmCount, = frmCount_mk, = frmCountF_fold]

theorem State.fireVec_frmCount (fn v : Nat) {s : State} (hs : FrmCount a s) : FrmCount a (State.fireVec fn v s) := by
  grind [State.fireVec, State.updFn_frmCount, State.emitPcie_frmCount, = frmCountF_mk, FrmCount.count, FrmCount.phase,
      State.updFrm, foldl_frmCount, = frmCount_mk, = frmCountF_fold]

theorem State.writeLog_frmCount (ev : Nat) (rs : Reason) (part : Option (Nat × Nat)) (data : W64) {s : State} (hs :
    FrmCount a s) : FrmCount a (State.writeLog ev rs part data s) := by
  grind [State.writeLog, State.updMgt_frmCount, State.emit_frmCount, = frmCountF_mk, FrmCount.count, FrmCount.phase,
      State.updFrm, foldl_frmCount, = frmCount_mk, = frmCountF_fold]

theorem State.logEvent_frmCount (ev : Nat) (rs : Reason) (part : Option (Nat × Nat)) (data : List (Nat × Nat)) {s :
    State} (hs : FrmCount a s) : FrmCount a (State.logEvent ev rs part data s) := by
  grind [State.logEvent, State.updMgt_frmCount, State.fireVec_frmCount, State.writeLog_frmCount, = frmCountF_mk,
      FrmCount.count, FrmCount.phase, State.updFrm, foldl_frmCount, = frmCount_mk, = frmCountF_fold]

theorem State.log_frmCount (ev : Nat) (data : List (Nat × Nat)) {s : State} (hs : FrmCount a s) : FrmCount a
    (State.log ev data s) := by
  grind [State.log, State.logEvent_frmCount, = frmCountF_mk, FrmCount.count, FrmCount.phase, State.updFrm,
      foldl_frmCount, = frmCount_mk, = frmCountF_fold]

theorem State.failover_frmCount {s : State} (hs : FrmCount a s) : FrmCount a (State.failover s) := by
  grind [State.failover, State.updMgt_frmCount, State.log_frmCount, = frmCountF_mk, FrmCount.count, FrmCount.phase,
      State.updFrm, foldl_frmCount, = frmCount_mk, = frmCountF_fold]

theorem State.updWork_frmCount (i : Nat) (f : PortWork → PortWork) {s : State} (hs : FrmCount a s) : FrmCount a
    (State.updWork i f s) := by
  grind [State.updWork, = frmCountF_mk, FrmCount.count, FrmCount.phase, State.updFrm, foldl_frmCount, = frmCount_mk, =
      frmCountF_fold]

theorem State.updLine_frmCount (i : Nat) (f : LineTx → LineTx) {s : State} (hs : FrmCount a s) : FrmCount a
    (State.updLine i f s) := by
  grind [State.updLine, = frmCountF_mk, FrmCount.count, FrmCount.phase, State.updFrm, foldl_frmCount, = frmCount_mk, =
      frmCountF_fold]

theorem State.takeFree_frmCount {s : State} (hs : FrmCount a s) : FrmCount a (State.takeFree s).2 := by
  grind [State.takeFree, = frmCountF_mk, FrmCount.count, FrmCount.phase, State.updFrm, foldl_frmCount, = frmCount_mk, =
      frmCountF_fold]

theorem State.sendLine_frmCount (i : Nat) (seq : BitVec 12) (ack : Option (BitVec 12)) (f : Flit) {s : State} (hs : FrmCount a s) :
    FrmCount a (State.sendLine i seq ack f s) := by
  unfold State.sendLine
  extract_lets w bs fill n
  refine State.emit_frmCount _ (State.updLine_frmCount _ _ ?_)
  exact State.takeFree_frmCount hs

theorem State.txNow_frmCount (i : Nat) (f : Flit) {s : State} (hs : FrmCount a s) : FrmCount a (State.txNow i f s) :=
    by
  grind [State.txNow, State.updWork_frmCount, State.sendLine_frmCount, = frmCountF_mk, FrmCount.count, FrmCount.phase,
      State.updFrm, foldl_frmCount, = frmCount_mk, = frmCountF_fold]

theorem State.txRaw_frmCount (i : Nat) (f : Flit) {s : State} (hs : FrmCount a s) : FrmCount a (State.txRaw i f s) :=
    by
  grind [State.txRaw, State.updWork_frmCount, State.txNow_frmCount, = frmCountF_mk, FrmCount.count, FrmCount.phase,
      State.updFrm, foldl_frmCount, = frmCount_mk, = frmCountF_fold]

theorem State.updPort_frmCount (i : Nat) (f : Port → Port) {s : State} (hs : FrmCount a s) : FrmCount a (State.updPort
    i f s) := by
  grind [State.updPort, = frmCountF_mk, FrmCount.count, FrmCount.phase, State.updFrm, foldl_frmCount, = frmCount_mk, =
      frmCountF_fold]

theorem State.flitsOf_frmCount (dst : Option Nat) (m : Msg) {s : State} (hs : FrmCount a s) : FrmCount a (State.flitsOf dst m s).2 := by
  simp only [State.flitsOf]
  exact State.takeFree_frmCount hs

theorem State.txLocal_frmCount (i : Nat) (m : Msg) {s : State} (hs : FrmCount a s) : FrmCount a (State.txLocal i m s)
    := by
  grind [State.txLocal, State.flitsOf_frmCount, State.txRaw_frmCount, = frmCountF_mk, FrmCount.count, FrmCount.phase,
      State.updFrm, foldl_frmCount, = frmCount_mk, = frmCountF_fold]

theorem State.wakeTrain_frmCount (i : Nat) {s : State} (hs : FrmCount a s) : FrmCount a (State.wakeTrain i s) := by
  grind [State.wakeTrain, State.updLine_frmCount, = frmCountF_mk, FrmCount.count, FrmCount.phase, State.updFrm,
      foldl_frmCount, = frmCount_mk, = frmCountF_fold]

theorem State.wakePort_frmCount (i : Nat) {s : State} (hs : FrmCount a s) : FrmCount a (State.wakePort i s) := by
  grind [State.wakePort, State.updPort_frmCount, State.updWork_frmCount, State.txLocal_frmCount,
      State.wakeTrain_frmCount, = frmCountF_mk, FrmCount.count, FrmCount.phase, State.updFrm, foldl_frmCount, =
      frmCount_mk, = frmCountF_fold]

theorem State.tx_frmCount (i : Nat) (f : Flit) {s : State} (hs : FrmCount a s) : FrmCount a (State.tx i f s) := by
  grind [State.tx, State.updWork_frmCount, State.txRaw_frmCount, State.wakePort_frmCount, = frmCountF_mk,
      FrmCount.count, FrmCount.phase, State.updFrm, foldl_frmCount, = frmCount_mk, = frmCountF_fold]

theorem State.updFab_frmCount (f : Fab → Fab) {s : State} (hs : FrmCount a s) : FrmCount a (State.updFab f s) := by
  grind [State.updFab, = frmCountF_mk, FrmCount.count, FrmCount.phase, State.updFrm, foldl_frmCount, = frmCount_mk, =
      frmCountF_fold]

theorem State.discardFlit_frmCount (port : Nat) (f : Flit) {s : State} (hs : FrmCount a s) : FrmCount a
    (State.discardFlit port f s) := by
  grind [State.discardFlit, State.updFab_frmCount, State.logEvent_frmCount, = frmCountF_mk, FrmCount.count,
      FrmCount.phase, State.updFrm, foldl_frmCount, = frmCount_mk, = frmCountF_fold]

theorem State.countAlternate_frmCount (port : Nat) (f : Flit) {s : State} (hs : FrmCount a s) : FrmCount a
    (State.countAlternate port f s) := by
  grind [State.countAlternate, State.updFab_frmCount, State.log_frmCount, = frmCountF_mk, FrmCount.count,
      FrmCount.phase, State.updFrm, foldl_frmCount, = frmCount_mk, = frmCountF_fold]

theorem State.noteWay_frmCount (i : Nat) (f : Flit) {s : State} (hs : FrmCount a s) : FrmCount a (State.noteWay i f s)
    := by
  grind [State.noteWay, State.updFab_frmCount, = frmCountF_mk, FrmCount.count, FrmCount.phase, State.updFrm,
      foldl_frmCount, = frmCount_mk, = frmCountF_fold]

theorem State.sendFlit_frmCount (f : Flit) {s : State} (hs : FrmCount a s) : FrmCount a (State.sendFlit f s) := by
  grind [State.sendFlit, State.updFab_frmCount, State.tx_frmCount, State.discardFlit_frmCount,
      State.countAlternate_frmCount, State.noteWay_frmCount, = frmCountF_mk, FrmCount.count, FrmCount.phase,
      State.updFrm, foldl_frmCount, = frmCount_mk, = frmCountF_fold]

theorem State.send_frmCount (dst : Nat) (m : Msg) {s : State} (hs : FrmCount a s) : FrmCount a (State.send dst m s) :=
    by
  grind [State.send, State.emit_frmCount, State.flitsOf_frmCount, State.sendFlit_frmCount, = frmCountF_mk,
      FrmCount.count, FrmCount.phase, State.updFrm, foldl_frmCount, = frmCount_mk, = frmCountF_fold]

theorem State.holdMsg_frmCount (src : Nat) (m : Msg) {s : State} (hs : FrmCount a s) : FrmCount a (State.holdMsg src m
    s) := by
  grind [State.holdMsg, State.updMgt_frmCount, = frmCountF_mk, FrmCount.count, FrmCount.phase, State.updFrm,
      foldl_frmCount, = frmCount_mk, = frmCountF_fold]

theorem State.toChoesk_frmCount (src : Nat) (m : Msg) {s : State} {t : State} (hs : FrmCount a s) (ht : FrmCount a t)
    : FrmCount a (State.toChoesk src m s t) := by
  grind [State.toChoesk, State.holdMsg_frmCount, = frmCountF_mk, FrmCount.count, FrmCount.phase, State.updFrm,
      foldl_frmCount, = frmCount_mk, = frmCountF_fold]

theorem State.sendAll_frmCount (dsts : List Nat) (m : Msg) {s : State} (hs : FrmCount a s) : FrmCount a (State.sendAll
    dsts m s) := by
  grind [State.sendAll, State.send_frmCount, = frmCountF_mk, FrmCount.count, FrmCount.phase, State.updFrm,
      foldl_frmCount, = frmCount_mk, = frmCountF_fold]

theorem State.updPln_frmCount (f : Pln → Pln) {s : State} (hs : FrmCount a s) : FrmCount a (State.updPln f s) := by
  grind [State.updPln, = frmCountF_mk, FrmCount.count, FrmCount.phase, State.updFrm, foldl_frmCount, = frmCount_mk, =
      frmCountF_fold]

theorem State.updLead_frmCount (id : BitVec 16) (f : LeadSpan → LeadSpan) {s : State} (hs : FrmCount a s) : FrmCount a
    (State.updLead id f s) := by
  grind [State.updLead, State.updPln_frmCount, = frmCountF_mk, FrmCount.count, FrmCount.phase, State.updFrm,
      foldl_frmCount, = frmCount_mk, = frmCountF_fold]

theorem State.takeSpanHold_frmCount (span : BitVec 16) (h : FrameNo) (rho : BitVec 32) {s : State} (hs : FrmCount a s)
    : FrmCount a (State.takeSpanHold span h rho s) := by
  grind [State.takeSpanHold, State.updPln_frmCount, = frmCountF_mk, FrmCount.count, FrmCount.phase, State.updFrm,
      foldl_frmCount, = frmCount_mk, = frmCountF_fold]

theorem opOverrunNoticeReceive_frmCount (span : BitVec 16) (_frame : FrameNo) (_pkg : Fin 128) {s : State} (hs :
    FrmCount a s) : FrmCount a (opOverrunNoticeReceive span _frame _pkg s) := by
  grind [opOverrunNoticeReceive, State.updPln_frmCount, State.log_frmCount, State.sendAll_frmCount,
      State.updLead_frmCount, State.takeSpanHold_frmCount, = frmCountF_mk, FrmCount.count, FrmCount.phase,
      State.updFrm, foldl_frmCount, = frmCount_mk, = frmCountF_fold]

theorem State.overrunNotices_frmCount (p : Nat) (f : FrameNo) {s : State} (hs : FrmCount a s) : FrmCount a
    (State.overrunNotices p f s) := by
  grind [State.overrunNotices, State.toChoesk_frmCount, State.send_frmCount, opOverrunNoticeReceive_frmCount, =
      frmCountF_mk, FrmCount.count, FrmCount.phase, State.updFrm, foldl_frmCount, = frmCount_mk, = frmCountF_fold]

theorem State.updPwrp_frmCount (p : Nat) (f : PwrPart → PwrPart) {s : State} (hs : FrmCount a s) : FrmCount a
    (State.updPwrp p f s) := by
  grind [State.updPwrp, = frmCountF_mk, FrmCount.count, FrmCount.phase, State.updFrm, foldl_frmCount, = frmCount_mk, =
      frmCountF_fold]

theorem State.updPwr_frmCount (f : Pwr → Pwr) {s : State} (hs : FrmCount a s) : FrmCount a (State.updPwr f s) := by
  grind [State.updPwr, = frmCountF_mk, FrmCount.count, FrmCount.phase, State.updFrm, foldl_frmCount, = frmCount_mk, =
      frmCountF_fold]

theorem State.settle_frmCount (o : Op) (m : Nat) (retires : Bool) {s : State} (hs : FrmCount a s) : FrmCount a
    (State.settle o m retires s) := by
  grind [State.settle, State.updPwrp_frmCount, State.updPwr_frmCount, = frmCountF_mk, FrmCount.count, FrmCount.phase,
      State.updFrm, foldl_frmCount, = frmCount_mk, = frmCountF_fold]

theorem State.leaveFill_frmCount (o : Op) {s : State} (hs : FrmCount a s) : FrmCount a (State.leaveFill o s) := by
  grind [State.leaveFill, State.updPwr_frmCount, = frmCountF_mk, FrmCount.count, FrmCount.phase, State.updFrm,
      foldl_frmCount, = frmCount_mk, = frmCountF_fold]

theorem State.updSeq_frmCount (f : Seq → Seq) {s : State} (hs : FrmCount a s) : FrmCount a (State.updSeq f s) := by
  grind [State.updSeq, = frmCountF_mk, FrmCount.count, FrmCount.phase, State.updFrm, foldl_frmCount, = frmCount_mk, =
      frmCountF_fold]

theorem State.updOp_frmCount (id : Nat) (f : Op → Op) {s : State} (hs : FrmCount a s) : FrmCount a (State.updOp id f
    s) := by
  grind [State.updOp, State.updSeq_frmCount, = frmCountF_mk, FrmCount.count, FrmCount.phase, State.updFrm,
      foldl_frmCount, = frmCount_mk, = frmCountF_fold]

theorem State.updXlt_frmCount (f : Xlt → Xlt) {s : State} (hs : FrmCount a s) : FrmCount a (State.updXlt f s) := by
  grind [State.updXlt, = frmCountF_mk, FrmCount.count, FrmCount.phase, State.updFrm, foldl_frmCount, = frmCount_mk, =
      frmCountF_fold]

theorem State.updXltRegs_frmCount (d : Nat) (f : XltRegs → XltRegs) {s : State} (hs : FrmCount a s) : FrmCount a
    (State.updXltRegs d f s) := by
  grind [State.updXltRegs, State.updXlt_frmCount, = frmCountF_mk, FrmCount.count, FrmCount.phase, State.updFrm,
      foldl_frmCount, = frmCount_mk, = frmCountF_fold]

theorem State.trimCache_frmCount (p d : Nat) {s : State} (hs : FrmCount a s) : FrmCount a (State.trimCache p d s) :=
    by
  grind [State.trimCache, State.updXlt_frmCount, = frmCountF_mk, FrmCount.count, FrmCount.phase, State.updFrm,
      foldl_frmCount, = frmCount_mk, = frmCountF_fold]

theorem State.fill_frmCount (d : Nat) (e : XlEntry) {s : State} (hs : FrmCount a s) : FrmCount a (State.fill d e s) :=
    by
  grind [State.fill, State.updXlt_frmCount, State.trimCache_frmCount, = frmCountF_mk, FrmCount.count, FrmCount.phase,
      State.updFrm, foldl_frmCount, = frmCount_mk, = frmCountF_fold]

theorem State.translateDev_frmCount (w : Who) (write : Bool) (a0 : Nat) {s : State} (hs : FrmCount a s) : FrmCount a
    (State.translateDev w write a0 s).1 := by
  grind [State.translateDev, State.updXltRegs_frmCount, State.fill_frmCount, = frmCountF_mk, FrmCount.count,
      FrmCount.phase, State.updFrm, foldl_frmCount, = frmCount_mk, = frmCountF_fold]

theorem State.countMissHost_frmCount (w : Who) (write : Bool) (a0 : Nat) {s : State} (hs : FrmCount a s) : FrmCount a
    (State.countMissHost w write a0 s) := by
  grind [State.countMissHost, State.updXlt_frmCount, State.updXltRegs_frmCount, = frmCountF_mk, FrmCount.count,
      FrmCount.phase, State.updFrm, foldl_frmCount, = frmCount_mk, = frmCountF_fold]

theorem State.requestWindow_frmCount (w : Who) (write : Bool) (a0 : Nat) {s : State} (hs : FrmCount a s) : FrmCount a
    (State.requestWindow w write a0 s) := by
  grind [State.requestWindow, State.updXlt_frmCount, State.emitPcie_frmCount, = frmCountF_mk, FrmCount.count,
      FrmCount.phase, State.updFrm, foldl_frmCount, = frmCount_mk, = frmCountF_fold]

theorem State.translateHost_frmCount (w : Who) (write : Bool) (a0 : Nat) {s : State} (hs : FrmCount a s) : FrmCount a
    (State.translateHost w write a0 s).1 := by
  grind [State.translateHost, State.updXltRegs_frmCount, State.fill_frmCount, State.countMissHost_frmCount,
      State.requestWindow_frmCount, = frmCountF_mk, FrmCount.count, FrmCount.phase, State.updFrm, foldl_frmCount, =
      frmCount_mk, = frmCountF_fold]

theorem State.translate_frmCount (w : Who) (write : Bool) (a0 : Nat) {s : State} (hs : FrmCount a s) : FrmCount a
    (State.translate w write a0 s).1 := by
  grind [State.translate, State.translateDev_frmCount, State.translateHost_frmCount, = frmCountF_mk, FrmCount.count,
      FrmCount.phase, State.updFrm, foldl_frmCount, = frmCount_mk, = frmCountF_fold]

theorem State.markUe_frmCount (q : Phys) {s : State} (hs : FrmCount a s) : FrmCount a (State.markUe q s) := by
  unfold State.markUe
  split <;> grind (gen := 30) (ematch := 30) (splits := 30) [State.updXlt_frmCount, = frmCountF_mk, FrmCount.count,
      FrmCount.phase, State.updFrm, foldl_frmCount, = frmCount_mk, = frmCountF_fold]

theorem State.eccFault_frmCount (w : Who) (write : Bool) (a0 : Nat) (q : Phys) {s : State} (hs : FrmCount a s) :
    FrmCount a (State.eccFault w write a0 q s).1 := by
  unfold State.eccFault
  split <;> grind (gen := 30) (ematch := 30) (splits := 30) [State.markUe_frmCount, = frmCountF_mk, FrmCount.count,
      FrmCount.phase, State.updFrm, foldl_frmCount, = frmCount_mk, = frmCountF_fold]

theorem State.setMem_frmCount (q : Phys) (m : Memory) {s : State} (hs : FrmCount a s) : FrmCount a (State.setMem q m
    s) := by
  cases q <;> exact hs

theorem State.putBytes_frmCount (q : Phys) (x : Nat) (l : List (Nat × Byte)) {s : State} (hs : FrmCount a s) :
    FrmCount a (State.putBytes q x l s) := by
  grind [State.putBytes, State.setMem_frmCount, = frmCountF_mk, FrmCount.count, FrmCount.phase, State.updFrm,
      foldl_frmCount, = frmCount_mk, = frmCountF_fold]

theorem State.putHost_frmCount (x : Nat) (bs : List Byte) {s : State} (hs : FrmCount a s) : FrmCount a (State.putHost
    x bs s) := by
  grind [State.putHost, = frmCountF_mk, FrmCount.count, FrmCount.phase, State.updFrm, foldl_frmCount, = frmCount_mk, =
      frmCountF_fold]

theorem State.clearEcc_frmCount (spad : Bool) (wordAddr : Nat) {s : State} (hs : FrmCount a s) : FrmCount a
    (State.clearEcc spad wordAddr s) := by
  grind [State.clearEcc, State.updXlt_frmCount, = frmCountF_mk, FrmCount.count, FrmCount.phase, State.updFrm,
      foldl_frmCount, = frmCount_mk, = frmCountF_fold]

theorem State.updPor_frmCount (f : Por → Por) {s : State} (hs : FrmCount a s) : FrmCount a (State.updPor f s) := by
  grind [State.updPor, = frmCountF_mk, FrmCount.count, FrmCount.phase, State.updFrm, foldl_frmCount, = frmCount_mk, =
      frmCountF_fold]

theorem State.countCorrected_frmCount (q : Phys) {s : State} (hs : FrmCount a s) : FrmCount a (State.countCorrected q
    s) := by
  unfold State.countCorrected
  split <;> grind (gen := 30) (ematch := 30) (splits := 30) [State.updXlt_frmCount, State.updPor_frmCount, =
      frmCountF_mk, FrmCount.count, FrmCount.phase, State.updFrm, foldl_frmCount, = frmCount_mk, = frmCountF_fold]

theorem State.freshEcc_frmCount (q : Phys) (whole : Bool) (k : Nat) {s : State} (hs : FrmCount a s) : FrmCount a
    (State.freshEcc q whole k s) := by
  grind [State.freshEcc, State.clearEcc_frmCount, State.countCorrected_frmCount, = frmCountF_mk, FrmCount.count,
      FrmCount.phase, State.updFrm, foldl_frmCount, = frmCount_mk, = frmCountF_fold]

theorem State.storeLine_frmCount (q : Phys) (bs : List Byte) {s : State} (hs : FrmCount a s) : FrmCount a
    (State.storeLine q bs s) := by
  grind [State.storeLine, State.putBytes_frmCount, State.putHost_frmCount, State.freshEcc_frmCount, = frmCountF_mk,
      FrmCount.count, FrmCount.phase, State.updFrm, foldl_frmCount, = frmCount_mk, = frmCountF_fold]

theorem State.writeLine_frmCount (w : Who) (a0 : Nat) (bs : List Byte) (q : Phys) {s : State} (hs : FrmCount a s) :
    FrmCount a (State.writeLine w a0 bs q s).1 := by
  grind [State.writeLine, State.eccFault_frmCount, State.storeLine_frmCount, = frmCountF_mk, FrmCount.count,
      FrmCount.phase, State.updFrm, foldl_frmCount, = frmCount_mk, = frmCountF_fold]

theorem State.writeOne_frmCount (w : Who) (a0 : Nat) (bs : List Byte) {s : State} (hs : FrmCount a s) : FrmCount a
    (State.writeOne w a0 bs s).1 := by
  grind [State.writeOne, State.translate_frmCount, State.writeLine_frmCount, = frmCountF_mk, FrmCount.count,
      FrmCount.phase, State.updFrm, foldl_frmCount, = frmCount_mk, = frmCountF_fold]

theorem State.passLine_frmCount (w : Who) {s : State} (hs : FrmCount a s) : FrmCount a (State.passLine w s) := by
  grind [State.passLine, State.updOp_frmCount, = frmCountF_mk, FrmCount.count, FrmCount.phase, State.updFrm,
      foldl_frmCount, = frmCount_mk, = frmCountF_fold]

theorem State.noteLine_frmCount (w : Who) (bs : List Byte) {s : State} (hs : FrmCount a s) : FrmCount a
    (State.noteLine w bs s) := by
  grind [State.noteLine, State.updOp_frmCount, = frmCountF_mk, FrmCount.count, FrmCount.phase, State.updFrm,
      foldl_frmCount, = frmCount_mk, = frmCountF_fold]

theorem State.writeLoop_frmCount (w : Who) (fuel x : Nat) (bs : List Byte) {s : State} (hs : FrmCount a s) :
    FrmCount a (State.writeLoop w fuel x bs s).1 := by
  induction fuel generalizing x bs s with
  | zero => exact hs
  | succ k ih =>
    cases bs with
    | nil => exact hs
    | cons b t => grind (gen := 30) (ematch := 30) (splits := 30) [State.writeLoop, State.writeOne_frmCount, State.passLine_frmCount,
        State.noteLine_frmCount]

theorem State.writePieces_frmCount (w : Who) (l : List (Nat × List Byte)) {s : State} (hs : FrmCount a s) :
    FrmCount a (State.writePieces w l s).1 := by
  induction l generalizing s with
  | nil => exact hs
  | cons x t ih => grind (gen := 30) (ematch := 30) (splits := 30) [State.writePieces, State.writeLoop_frmCount]

theorem State.writeMany_frmCount (w : Who) (xs : List (Nat × List Byte)) {s : State} (hs : FrmCount a s) :
    FrmCount a (State.writeMany w xs s).1 := State.writePieces_frmCount w xs hs

theorem State.readLine_frmCount (w : Who) (a0 n : Nat) (q : Phys) {s : State} (hs : FrmCount a s) : FrmCount a
    (State.readLine w a0 n q s).1 := by
  unfold State.readLine
  split <;> grind (gen := 30) (ematch := 30) (splits := 30) [State.countCorrected_frmCount, State.eccFault_frmCount, =
      frmCountF_mk, FrmCount.count, FrmCount.phase, State.updFrm, foldl_frmCount, = frmCount_mk, = frmCountF_fold]

theorem State.readOne_frmCount (w : Who) (a0 k : Nat) {s : State} (hs : FrmCount a s) : FrmCount a (State.readOne w a0
    k s).1 := by
  grind [State.readOne, State.translate_frmCount, State.readLine_frmCount, = frmCountF_mk, FrmCount.count,
      FrmCount.phase, State.updFrm, foldl_frmCount, = frmCount_mk, = frmCountF_fold]

theorem State.readLoop_frmCount (w : Who) (fuel x n : Nat) (acc : List Byte) {s : State} (hs : FrmCount a s) :
    FrmCount a (State.readLoop w fuel x n acc s).1 := by
  induction fuel generalizing x n acc s with
  | zero => exact hs
  | succ k ih => grind (gen := 30) (ematch := 30) (splits := 30) [State.readLoop, State.readOne_frmCount, State.passLine_frmCount,
      State.noteLine_frmCount]

theorem State.readDva_frmCount (w : Who) (a0 n : Nat) {s : State} (hs : FrmCount a s) : FrmCount a (State.readDva w a0
    n s).1 := by
  grind [State.readDva, State.readLoop_frmCount, = frmCountF_mk, FrmCount.count, FrmCount.phase, State.updFrm,
      foldl_frmCount, = frmCount_mk, = frmCountF_fold]

theorem State.bucketEntry_frmCount (o : Op) {s : State} (hs : FrmCount a s) : FrmCount a (State.bucketEntry o s).1 :=
    by
  grind [State.bucketEntry, State.readDva_frmCount, gotThen_frmCount, = frmCountF_mk, FrmCount.count, FrmCount.phase,
      State.updFrm, foldl_frmCount, = frmCount_mk, = frmCountF_fold]

theorem State.readRaw_frmCount (o : Op) (n stride x : Nat) (rs : List Nat) (acc : Tab (List Byte)) {s : State} (hs : FrmCount a s) :
    FrmCount a (State.readRaw o n stride x rs acc s).1 := by
  induction rs generalizing acc s with
  | nil => exact hs
  | cons r t ih => grind (gen := 30) (ematch := 30) (splits := 30) [State.readRaw, State.readDva_frmCount]

theorem State.readSome_frmCount (o : Op) (code cols stride a0 : Nat) (rs : List Nat) {s : State} (hs : FrmCount a s) :
    FrmCount a (State.readSome o code cols stride a0 rs s).1 := by
  grind [State.readSome, gotThen_frmCount, State.readRaw_frmCount, = frmCountF_mk, FrmCount.count, FrmCount.phase,
      State.updFrm, foldl_frmCount, = frmCount_mk, = frmCountF_fold]

theorem State.loadFlorets_frmCount (tiller : Nat) (rows : List (List Byte)) {s : State} (hs : FrmCount a s) : FrmCount
    a (State.loadFlorets tiller rows s) := by
  grind [State.loadFlorets, State.updSeq_frmCount, = frmCountF_mk, FrmCount.count, FrmCount.phase, State.updFrm,
      foldl_frmCount, = frmCount_mk, = frmCountF_fold]

theorem State.readStationary_frmCount (o : Op) (code cols stride a0 : Nat) (rs : List Nat) {s : State} (hs : FrmCount
    a s) : FrmCount a (State.readStationary o code cols stride a0 rs s).1 := by
  grind [State.readStationary, gotThen_frmCount, State.loadFlorets_frmCount, State.readRaw_frmCount, = frmCountF_mk,
      FrmCount.count, FrmCount.phase, State.updFrm, foldl_frmCount, = frmCount_mk, = frmCountF_fold]

theorem State.readTiles_frmCount (o : Op) (t : AttnAt) {s : State} (hs : FrmCount a s) : FrmCount a (State.readTiles o
    t s).1 := by
  grind [State.readTiles, gotThen_frmCount, State.readSome_frmCount, State.readStationary_frmCount, = frmCountF_mk,
      FrmCount.count, FrmCount.phase, State.updFrm, foldl_frmCount, = frmCount_mk, = frmCountF_fold]

theorem State.fwdOut_frmCount (o : Op) (t : AttnAt) (fin : Bool) (upto : Nat → Nat) {s : State} (hs : FrmCount a s) :
    FrmCount a (State.fwdOut o t fin upto s).1 := by
  grind [State.fwdOut, gotThen_frmCount, State.readSome_frmCount, State.readTiles_frmCount, = frmCountF_mk,
      FrmCount.count, FrmCount.phase, State.updFrm, foldl_frmCount, = frmCount_mk, = frmCountF_fold]

theorem State.prepOut_frmCount (o : Op) (t : AttnAt) (upto : Nat → Nat) {s : State} (hs : FrmCount a s) : FrmCount a
    (State.prepOut o t upto s).1 := by
  grind [State.prepOut, gotThen_frmCount, State.readSome_frmCount, = frmCountF_mk, FrmCount.count, FrmCount.phase,
      State.updFrm, foldl_frmCount, = frmCount_mk, = frmCountF_fold]

theorem State.dqOut_frmCount (o : Op) (t : AttnAt) (upto : Nat → Nat) {s : State} (hs : FrmCount a s) : FrmCount a
    (State.dqOut o t upto s).1 := by
  grind [State.dqOut, gotThen_frmCount, State.readSome_frmCount, State.readTiles_frmCount, = frmCountF_mk,
      FrmCount.count, FrmCount.phase, State.updFrm, foldl_frmCount, = frmCount_mk, = frmCountF_fold]

theorem State.dkvOut_frmCount (o : Op) (t : AttnAt) (upto : Nat → Nat) {s : State} (hs : FrmCount a s) : FrmCount a
    (State.dkvOut o t upto s).1 := by
  grind (gen := 30) (ematch := 30) (splits := 30) [State.dkvOut, gotThen_frmCount, State.readSome_frmCount,
      State.readStationary_frmCount, = frmCountF_mk, FrmCount.count, FrmCount.phase, State.updFrm, foldl_frmCount, =
      frmCount_mk, = frmCountF_fold]

theorem State.attnOut_frmCount (o : Op) (t : AttnAt) (fin : Bool) (upto : Nat → Nat) {s : State} (hs : FrmCount a s) :
    FrmCount a (State.attnOut o t fin upto s).1 := by
  grind [State.attnOut, State.fwdOut_frmCount, State.prepOut_frmCount, State.dqOut_frmCount, State.dkvOut_frmCount, =
      frmCountF_mk, FrmCount.count, FrmCount.phase, State.updFrm, foldl_frmCount, = frmCount_mk, = frmCountF_fold]

theorem State.stopPass_frmCount (o : Op) {s : State} (hs : FrmCount a s) : FrmCount a (State.stopPass o s) := by
  grind [State.stopPass, State.takeFree_frmCount, State.updOp_frmCount, gotThen_frmCount, State.writeMany_frmCount,
      State.bucketEntry_frmCount, State.attnOut_frmCount, = frmCountF_mk, FrmCount.count, FrmCount.phase,
      State.updFrm, foldl_frmCount, = frmCount_mk, = frmCountF_fold]

theorem State.stopOp_frmCount (o : Op) {s : State} (hs : FrmCount a s) : FrmCount a (State.stopOp o s) := by
  grind [State.stopOp, State.updSeq_frmCount, State.takeFree_frmCount, State.stopPass_frmCount, State.settle_frmCount,
      State.leaveFill_frmCount, = frmCountF_mk, FrmCount.count, FrmCount.phase, State.updFrm, foldl_frmCount, =
      frmCount_mk, = frmCountF_fold]

theorem State.updSpan_frmCount (id : BitVec 16) (f : Span → Span) {s : State} (hs : FrmCount a s) : FrmCount a
    (State.updSpan id f s) := by
  grind [State.updSpan, = frmCountF_mk, FrmCount.count, FrmCount.phase, State.updFrm, foldl_frmCount, = frmCount_mk, =
      frmCountF_fold]

theorem State.spanDie_frmCount (id : BitVec 16) {s : State} (hs : FrmCount a s) : FrmCount a (State.spanDie id s) :=
    by
  grind [State.spanDie, State.sendAll_frmCount, State.updSpan_frmCount, = frmCountF_mk, FrmCount.count, FrmCount.phase,
      State.updFrm, foldl_frmCount, = frmCount_mk, = frmCountF_fold]

theorem State.updRed_frmCount (f : Red → Red) {s : State} (hs : FrmCount a s) : FrmCount a (State.updRed f s) := by
  grind [State.updRed, = frmCountF_mk, FrmCount.count, FrmCount.phase, State.updFrm, foldl_frmCount, = frmCount_mk, =
      frmCountF_fold]

theorem State.killGroups_frmCount (p c : Nat) (cause : Reason) {s : State} (hs : FrmCount a s) : FrmCount a
    (State.killGroups p c cause s) := by
  grind [State.killGroups, State.updRed_frmCount, State.send_frmCount, = frmCountF_mk, FrmCount.count, FrmCount.phase,
      State.updFrm, foldl_frmCount, = frmCount_mk, = frmCountF_fold]

theorem State.updCtx_frmCount (p c : Nat) (f : Ctx → Ctx) {s : State} (hs : FrmCount a s) : FrmCount a (State.updCtx p
    c f s) := by
  grind [State.updCtx, = frmCountF_mk, FrmCount.count, FrmCount.phase, State.updFrm, foldl_frmCount, = frmCount_mk, =
      frmCountF_fold]

theorem State.killNotices_frmCount (p c : Nat) (cause : Reason) {s : State} (hs : FrmCount a s) : FrmCount a
    (State.killNotices p c cause s) := by
  grind [State.killNotices, State.updCtx_frmCount, State.logEvent_frmCount, State.send_frmCount, = frmCountF_mk,
      FrmCount.count, FrmCount.phase, State.updFrm, foldl_frmCount, = frmCount_mk, = frmCountF_fold]

theorem State.killStart_frmCount (r : FaultRec) (peer : Option (BitVec 7 × BitVec 10)) {s : State} (hs : FrmCount a s)
    : FrmCount a (State.killStart r peer s) := by
  grind (gen := 30) (ematch := 30) (splits := 30) [State.killStart, State.updCtx_frmCount, State.updSeq_frmCount,
      State.logEvent_frmCount, State.stopOp_frmCount, State.spanDie_frmCount, State.killGroups_frmCount,
      State.killNotices_frmCount, = frmCountF_mk, FrmCount.count, FrmCount.phase, State.updFrm, foldl_frmCount, =
      frmCount_mk, = frmCountF_fold]

theorem State.killCtx_frmCount (p c : Nat) (cause : Reason) {s : State} (hs : FrmCount a s) : FrmCount a
    (State.killCtx p c cause s) := by
  grind [State.killCtx, State.killStart_frmCount, = frmCountF_mk, FrmCount.count, FrmCount.phase, State.updFrm,
      foldl_frmCount, = frmCount_mk, = frmCountF_fold]

theorem State.killAll_frmCount (p : Nat) (cause : Reason) {s : State} (hs : FrmCount a s) : FrmCount a (State.killAll
    p cause s) := by
  grind [State.killAll, State.killCtx_frmCount, = frmCountF_mk, FrmCount.count, FrmCount.phase, State.updFrm,
      foldl_frmCount, = frmCount_mk, = frmCountF_fold]

theorem State.updFrmp_frmCount (p : Nat) (f : FrmPart → FrmPart) {s : State} (hs : FrmCount a s) : FrmCount a
    (State.updFrmp p f s) := by
  grind [State.updFrmp, = frmCountF_mk, FrmCount.count, FrmCount.phase, State.updFrm, foldl_frmCount, = frmCount_mk, =
      frmCountF_fold]

theorem State.updAdm_frmCount (f : Adm → Adm) {s : State} (hs : FrmCount a s) : FrmCount a (State.updAdm f s) := by
  grind [State.updAdm, = frmCountF_mk, FrmCount.count, FrmCount.phase, State.updFrm, foldl_frmCount, = frmCount_mk, =
      frmCountF_fold]

theorem State.judge_frmCount (n p : Nat) (f : FrameNo) {s : State} (hs : FrmCount a s) : FrmCount a (State.judge n p f
    s) := by
  grind [State.judge, State.updFrmp_frmCount, State.updAdm_frmCount, State.fireVec_frmCount, State.killAll_frmCount,
      State.overrunNotices_frmCount, = frmCountF_mk, FrmCount.count, FrmCount.phase, State.updFrm, foldl_frmCount, =
      frmCount_mk, = frmCountF_fold]

theorem State.updPart_frmCount (p : Nat) (f : Part → Part) {s : State} (hs : FrmCount a s) : FrmCount a (State.updPart
    p f s) := by
  grind [State.updPart, = frmCountF_mk, FrmCount.count, FrmCount.phase, State.updFrm, foldl_frmCount, = frmCount_mk, =
      frmCountF_fold]

theorem State.wakePorts_frmCount {s : State} (hs : FrmCount a s) : FrmCount a (State.wakePorts s) := by
  grind [State.wakePorts, State.wakePort_frmCount, = frmCountF_mk, FrmCount.count, FrmCount.phase, State.updFrm,
      foldl_frmCount, = frmCount_mk, = frmCountF_fold]

theorem State.setPart_frmCount (p : Nat) (st : PState) {s : State} (hs : FrmCount a s) : FrmCount a (State.setPart p
    st s) := by
  grind [State.setPart, State.updPart_frmCount, State.fireVec_frmCount, State.logEvent_frmCount,
      State.wakePorts_frmCount, = frmCountF_mk, FrmCount.count, FrmCount.phase, State.updFrm, foldl_frmCount, =
      frmCount_mk, = frmCountF_fold]

theorem State.updMb_frmCount (m : Nat) (f : Mailbox → Mailbox) {s : State} (hs : FrmCount a s) : FrmCount a
    (State.updMb m f s) := by
  grind [State.updMb, = frmCountF_mk, FrmCount.count, FrmCount.phase, State.updFrm, foldl_frmCount, = frmCount_mk, =
      frmCountF_fold]

theorem State.stage_frmCount (c : CmdId) (oc : Oc) (rs : Reason) (ws : List W64) (final : Bool) {s : State} (hs :
    FrmCount a s) : FrmCount a (State.stage c oc rs ws final s) := by
  grind [State.stage, State.updMb_frmCount, = frmCountF_mk, FrmCount.count, FrmCount.phase, State.updFrm,
      foldl_frmCount, = frmCount_mk, = frmCountF_fold]

theorem State.finish_frmCount (c : CmdId) (oc : Oc) (rs : Reason) (ws : List W64) {s : State} (hs : FrmCount a s) :
    FrmCount a (State.finish c oc rs ws s) := by
  grind [State.finish, State.stage_frmCount, = frmCountF_mk, FrmCount.count, FrmCount.phase, State.updFrm,
      foldl_frmCount, = frmCount_mk, = frmCountF_fold]

theorem State.enterState_frmCount (p : Nat) (st : PState) {s : State} (hs : FrmCount a s) : FrmCount a
    (State.enterState p st s) := by
  grind [State.enterState, State.updPart_frmCount, State.finish_frmCount, State.setPart_frmCount, = frmCountF_mk,
      FrmCount.count, FrmCount.phase, State.updFrm, foldl_frmCount, = frmCount_mk, = frmCountF_fold]

theorem State.finishAll_frmCount (cs : List CmdId) (oc : Oc) (rs : Reason) (ws : List W64) {s : State} (hs : FrmCount
    a s) : FrmCount a (State.finishAll cs oc rs ws s) := by
  grind [State.finishAll, State.finish_frmCount, = frmCountF_mk, FrmCount.count, FrmCount.phase, State.updFrm,
      foldl_frmCount, = frmCount_mk, = frmCountF_fold]

theorem State.refuseLoads_frmCount (p : Nat) {s : State} (hs : FrmCount a s) : FrmCount a (State.refuseLoads p s) :=
    by
  grind [State.refuseLoads, State.finishAll_frmCount, = frmCountF_mk, FrmCount.count, FrmCount.phase, State.updFrm,
      foldl_frmCount, = frmCount_mk, = frmCountF_fold]

theorem State.refuseWaiting_frmCount (p : Nat) {s : State} (hs : FrmCount a s) : FrmCount a (State.refuseWaiting p s)
    := by
  grind [State.refuseWaiting, State.updPart_frmCount, State.finishAll_frmCount, State.refuseLoads_frmCount, =
      frmCountF_mk, FrmCount.count, FrmCount.phase, State.updFrm, foldl_frmCount, = frmCount_mk, = frmCountF_fold]

theorem State.startTeardown_frmCount (p : Nat) {s : State} (hs : FrmCount a s) : FrmCount a (State.startTeardown p s)
    := by
  grind [State.startTeardown, State.updPart_frmCount, State.setPart_frmCount, State.killAll_frmCount,
      State.refuseWaiting_frmCount, = frmCountF_mk, FrmCount.count, FrmCount.phase, State.updFrm, foldl_frmCount, =
      frmCount_mk, = frmCountF_fold]

theorem State.updAdmp_frmCount (p : Nat) (f : AdmPart → AdmPart) {s : State} (hs : FrmCount a s) : FrmCount a
    (State.updAdmp p f s) := by
  grind [State.updAdmp, = frmCountF_mk, FrmCount.count, FrmCount.phase, State.updFrm, foldl_frmCount, = frmCount_mk, =
      frmCountF_fold]

theorem State.scrubTillers_frmCount (rows : BitVec 16) {s : State} (hs : FrmCount a s) : FrmCount a
    (State.scrubTillers rows s) := by
  grind [State.scrubTillers, State.updXlt_frmCount, State.updSeq_frmCount, = frmCountF_mk, FrmCount.count,
      FrmCount.phase, State.updFrm, foldl_frmCount, = frmCount_mk, = frmCountF_fold]

theorem State.endReset_frmCount (p : Nat) {s : State} (hs : FrmCount a s) : FrmCount a (State.endReset p s) := by
  grind (gen := 30) (ematch := 30) (splits := 30) [State.endReset, State.updPart_frmCount, State.updFrmp_frmCount,
      State.updAdmp_frmCount, State.updSeq_frmCount, State.finishAll_frmCount, State.takeFree_frmCount,
      State.trimCache_frmCount, State.scrubTillers_frmCount, State.enterState_frmCount, = frmCountF_mk,
      FrmCount.count, FrmCount.phase, State.updFrm, foldl_frmCount, = frmCount_mk, = frmCountF_fold]

theorem State.partCommit_frmCount (p : Nat) {s : State} (hs : FrmCount a s) : FrmCount a (State.partCommit p s) := by
  grind [State.partCommit, State.updPart_frmCount, State.finish_frmCount, State.setPart_frmCount,
      State.enterState_frmCount, State.startTeardown_frmCount, State.endReset_frmCount, = frmCountF_mk,
      FrmCount.count, FrmCount.phase, State.updFrm, foldl_frmCount, = frmCount_mk, = frmCountF_fold]

theorem State.endMembership_frmCount (id : BitVec 16) {s : State} (hs : FrmCount a s) : FrmCount a
    (State.endMembership id s) := by
  grind (gen := 30) (ematch := 30) (splits := 30) [State.endMembership, State.updPln_frmCount, State.updRed_frmCount,
      State.finishAll_frmCount, = frmCountF_mk, FrmCount.count, FrmCount.phase, State.updFrm, foldl_frmCount, =
      frmCount_mk, = frmCountF_fold]

theorem State.spanCommit_frmCount {s : State} (hs : FrmCount a s) : FrmCount a (State.spanCommit s) := by
  grind [State.spanCommit, State.endMembership_frmCount, = frmCountF_mk, FrmCount.count, FrmCount.phase, State.updFrm,
      foldl_frmCount, = frmCount_mk, = frmCountF_fold]

theorem State.holdCommit_frmCount {s : State} (hs : FrmCount a s) : FrmCount a (State.holdCommit s) := by
  grind [State.holdCommit, State.updFrmp_frmCount, State.updPln_frmCount, State.updSpan_frmCount, = frmCountF_mk,
      FrmCount.count, FrmCount.phase, State.updFrm, foldl_frmCount, = frmCount_mk, = frmCountF_fold]

theorem startNow_frmCount (c : CmdId) (p : Nat) (start : Bool) {s : State} (hs : FrmCount a s) : FrmCount a (startNow
    c p start s).1 := by
  grind [startNow, State.updPart_frmCount, = frmCountF_mk, FrmCount.count, FrmCount.phase, State.updFrm, foldl_frmCount,
      = frmCount_mk, = frmCountF_fold]

theorem State.releaseOne_frmCount (h : CmdId × Nat × Bool) {s : State} (hs : FrmCount a s) : FrmCount a
    (State.releaseOne h s) := by
  grind [State.releaseOne, State.stage_frmCount, State.finish_frmCount, startNow_frmCount, = frmCountF_mk,
      FrmCount.count, FrmCount.phase, State.updFrm, foldl_frmCount, = frmCount_mk, = frmCountF_fold]

theorem State.releaseHeld_frmCount {s : State} (hs : FrmCount a s) : FrmCount a (State.releaseHeld s) := by
  grind [State.releaseHeld, State.updAdm_frmCount, State.releaseOne_frmCount, = frmCountF_mk, FrmCount.count,
      FrmCount.phase, State.updFrm, foldl_frmCount, = frmCount_mk, = frmCountF_fold]

theorem State.periodCommit_frmCount {s : State} (hs : FrmCount a s) : FrmCount a (State.periodCommit s).1 := by
  grind [State.periodCommit, State.finishAll_frmCount, State.releaseHeld_frmCount, = frmCountF_mk, FrmCount.count,
      FrmCount.phase, State.updFrm, foldl_frmCount, = frmCount_mk, = frmCountF_fold]

theorem State.syncChanged_frmCount {s : State} (hs : FrmCount a s) : FrmCount a (State.syncChanged s) := by
  grind [State.syncChanged, State.fireVec_frmCount, State.log_frmCount, = frmCountF_mk, FrmCount.count, FrmCount.phase,
      State.updFrm, foldl_frmCount, = frmCount_mk, = frmCountF_fold]

theorem State.setSync_frmCount (st : SyncState) {s : State} (hs : FrmCount a s) : FrmCount a (State.setSync st s) :=
    by
  grind [State.setSync, State.syncChanged_frmCount, = frmCountF_mk, FrmCount.count, FrmCount.phase, State.updFrm,
      foldl_frmCount, = frmCount_mk, = frmCountF_fold]

theorem State.parentChanged_frmCount {s : State} (hs : FrmCount a s) : FrmCount a (State.parentChanged s) := by
  grind [State.parentChanged, State.log_frmCount, = frmCountF_mk, FrmCount.count, FrmCount.phase, State.updFrm,
      foldl_frmCount, = frmCount_mk, = frmCountF_fold]

theorem State.wakeParent_frmCount {s : State} (hs : FrmCount a s) : FrmCount a (State.wakeParent s) := by
  grind [State.wakeParent, State.wakePort_frmCount, = frmCountF_mk, FrmCount.count, FrmCount.phase, State.updFrm,
      foldl_frmCount, = frmCount_mk, = frmCountF_fold]

theorem State.refreshParent_frmCount {s : State} (hs : FrmCount a s) : FrmCount a (State.refreshParent s) := by
  grind [State.refreshParent, State.parentChanged_frmCount, State.setSync_frmCount, State.wakeParent_frmCount, =
      frmCountF_mk, FrmCount.count, FrmCount.phase, State.updFrm, foldl_frmCount, = frmCount_mk, = frmCountF_fold]

theorem State.syncCommit_frmCount {s : State} (hs : FrmCount a s) : FrmCount a (State.syncCommit s) := by
  grind [State.syncCommit, State.syncChanged_frmCount, State.setSync_frmCount, State.refreshParent_frmCount, =
      frmCountF_mk, FrmCount.count, FrmCount.phase, State.updFrm, foldl_frmCount, = frmCount_mk, = frmCountF_fold]

theorem State.updPlnp_frmCount (p : Nat) (f : PlnPart → PlnPart) {s : State} (hs : FrmCount a s) : FrmCount a
    (State.updPlnp p f s) := by
  grind [State.updPlnp, = frmCountF_mk, FrmCount.count, FrmCount.phase, State.updFrm, foldl_frmCount, = frmCount_mk, =
      frmCountF_fold]

theorem State.discardCell_frmCount (c : Transit) {s : State} (hs : FrmCount a s) : FrmCount a (State.discardCell c s)
    := by
  grind [State.discardCell, State.updPlnp_frmCount, = frmCountF_mk, FrmCount.count, FrmCount.phase, State.updFrm,
      foldl_frmCount, = frmCount_mk, = frmCountF_fold]

theorem State.updReduction_frmCount (g : Group) (seq : Nat) (f : Reduction → Reduction) {s : State} (hs : FrmCount a
    s) : FrmCount a (State.updReduction g seq f s) := by
  grind [State.updReduction, State.updRed_frmCount, = frmCountF_mk, FrmCount.count, FrmCount.phase, State.updFrm,
      foldl_frmCount, = frmCount_mk, = frmCountF_fold]

theorem State.hold_frmCount (g : Group) (r : Reduction) (vs : List (BitVec 32)) {s : State} (hs : FrmCount a s) :
    FrmCount a (State.hold g r vs s) := by
  grind [State.hold, State.updRed_frmCount, State.updReduction_frmCount, = frmCountF_mk, FrmCount.count, FrmCount.phase,
      State.updFrm, foldl_frmCount, = frmCount_mk, = frmCountF_fold]

theorem State.planPart_frmCount (p : Nat) {s : State} (hs : FrmCount a s) : FrmCount a (State.planPart p s) := by
  grind [State.planPart, State.updFrmp_frmCount, State.updPlnp_frmCount, State.hold_frmCount, = frmCountF_mk,
      FrmCount.count, FrmCount.phase, State.updFrm, foldl_frmCount, = frmCount_mk, = frmCountF_fold]

theorem State.switchPlans_frmCount {s : State} (hs : FrmCount a s) : FrmCount a (State.switchPlans s) := by
  grind [State.switchPlans, State.updPln_frmCount, State.discardCell_frmCount, State.hold_frmCount,
      State.planPart_frmCount, = frmCountF_mk, FrmCount.count, FrmCount.phase, State.updFrm, foldl_frmCount, =
      frmCount_mk, = frmCountF_fold]

theorem State.takeFlowResult_frmCount (d : Declared) (oc : Oc) (rs : Reason) (ws : List W64) (final : Bool) {s :
    State} (hs : FrmCount a s) : FrmCount a (State.takeFlowResult d oc rs ws final s) := by
  grind [State.takeFlowResult, State.updPln_frmCount, State.updRed_frmCount, State.stage_frmCount,
      State.finish_frmCount, = frmCountF_mk, FrmCount.count, FrmCount.phase, State.updFrm, foldl_frmCount, =
      frmCount_mk, = frmCountF_fold]

theorem State.answerFlow_frmCount (span : BitVec 16) (x : Flow) (oc : Oc) (rs : Reason) (final : Bool) {s : State} (hs
    : FrmCount a s) : FrmCount a (State.answerFlow span x oc rs final s) := by
  grind [State.answerFlow, State.send_frmCount, State.takeFlowResult_frmCount, = frmCountF_mk, FrmCount.count,
      FrmCount.phase, State.updFrm, foldl_frmCount, = frmCount_mk, = frmCountF_fold]

theorem State.takeFlowFreed_frmCount (span : BitVec 16) (num : Nat) {s : State} (hs : FrmCount a s) : FrmCount a
    (State.takeFlowFreed span num s) := by
  grind [State.takeFlowFreed, State.updPln_frmCount, = frmCountF_mk, FrmCount.count, FrmCount.phase, State.updFrm,
      foldl_frmCount, = frmCount_mk, = frmCountF_fold]

theorem State.freeFlow_frmCount (span : BitVec 16) (x : Flow) {s : State} (hs : FrmCount a s) : FrmCount a
    (State.freeFlow span x s) := by
  grind [State.freeFlow, State.send_frmCount, State.updLead_frmCount, State.takeFlowFreed_frmCount, = frmCountF_mk,
      FrmCount.count, FrmCount.phase, State.updFrm, foldl_frmCount, = frmCount_mk, = frmCountF_fold]

theorem opFlowDeclarationReceive_frmCount (d : Declared) (pkg : Fin 128) {s : State} (hs : FrmCount a s) : FrmCount a
    (opFlowDeclarationReceive d pkg s) := by
  grind (gen := 30) (ematch := 30) (splits := 30) [opFlowDeclarationReceive, State.updLead_frmCount,
      State.answerFlow_frmCount, State.freeFlow_frmCount, = frmCountF_mk, FrmCount.count, FrmCount.phase,
      State.updFrm, foldl_frmCount, = frmCount_mk, = frmCountF_fold]

theorem State.declare_frmCount (lead : Nat) (d : Declared) {s : State} (hs : FrmCount a s) : FrmCount a (State.declare
    lead d s) := by
  grind [State.declare, State.updPln_frmCount, State.send_frmCount, = frmCountF_mk, FrmCount.count, FrmCount.phase,
      State.updFrm, foldl_frmCount, = frmCount_mk, = frmCountF_fold]

theorem State.continueSends_frmCount (p : Nat) {s : State} (hs : FrmCount a s) : FrmCount a (State.continueSends p s)
    := by
  grind [State.continueSends, State.updSeq_frmCount, State.toChoesk_frmCount, opFlowDeclarationReceive_frmCount,
      State.declare_frmCount, = frmCountF_mk, FrmCount.count, FrmCount.phase, State.updFrm, foldl_frmCount, =
      frmCount_mk, = frmCountF_fold]

theorem State.txMsg_frmCount (i : Nat) (m : Msg) {s : State} (hs : FrmCount a s) : FrmCount a (State.txMsg i m s) :=
    by
  grind [State.txMsg, State.flitsOf_frmCount, State.tx_frmCount, = frmCountF_mk, FrmCount.count, FrmCount.phase,
      State.updFrm, foldl_frmCount, = frmCount_mk, = frmCountF_fold]

theorem State.sendBeacons_frmCount {s : State} (hs : FrmCount a s) : FrmCount a (State.sendBeacons s) := by
  grind [State.sendBeacons, State.txMsg_frmCount, = frmCountF_mk, FrmCount.count, FrmCount.phase, State.updFrm,
      foldl_frmCount, = frmCount_mk, = frmCountF_fold]

theorem State.handBack_frmCount (i : Nat) (f : Flit) {s : State} (hs : FrmCount a s) : FrmCount a (State.handBack i f
    s) := by
  grind [State.handBack, State.updWork_frmCount, State.updFab_frmCount, State.sendFlit_frmCount, = frmCountF_mk,
      FrmCount.count, FrmCount.phase, State.updFrm, foldl_frmCount, = frmCount_mk, = frmCountF_fold]

theorem State.withdraw_frmCount (i : Nat) {s : State} (hs : FrmCount a s) : FrmCount a (State.withdraw i s) := by
  grind [State.withdraw, State.updWork_frmCount, State.handBack_frmCount, = frmCountF_mk, FrmCount.count,
      FrmCount.phase, State.updFrm, foldl_frmCount, = frmCount_mk, = frmCountF_fold]

theorem State.updNbr_frmCount (i : Nat) (f : Neighbour → Neighbour) {s : State} (hs : FrmCount a s) : FrmCount a
    (State.updNbr i f s) := by
  grind [State.updNbr, State.updFab_frmCount, = frmCountF_mk, FrmCount.count, FrmCount.phase, State.updFrm,
      foldl_frmCount, = frmCount_mk, = frmCountF_fold]

theorem State.losesUp_frmCount (i : Nat) {s : State} (hs : FrmCount a s) : FrmCount a (State.losesUp i s) := by
  grind [State.losesUp, State.updPort_frmCount, State.updNbr_frmCount, = frmCountF_mk, FrmCount.count, FrmCount.phase,
      State.updFrm, foldl_frmCount, = frmCount_mk, = frmCountF_fold]

theorem State.updOuter_frmCount (o : Nat) (f : Outer → Outer) {s : State} (hs : FrmCount a s) : FrmCount a
    (State.updOuter o f s) := by
  grind [State.updOuter, State.updFab_frmCount, = frmCountF_mk, FrmCount.count, FrmCount.phase, State.updFrm,
      foldl_frmCount, = frmCount_mk, = frmCountF_fold]

theorem State.dropBuffered_frmCount (i : Nat) {s : State} (hs : FrmCount a s) : FrmCount a (State.dropBuffered i s) :=
    by
  grind [State.dropBuffered, State.updOuter_frmCount, = frmCountF_mk, FrmCount.count, FrmCount.phase, State.updFrm,
      foldl_frmCount, = frmCount_mk, = frmCountF_fold]

theorem State.dropFlits_frmCount (i : Nat) {s : State} (hs : FrmCount a s) : FrmCount a (State.dropFlits i s) := by
  grind [State.dropFlits, State.updWork_frmCount, State.discardFlit_frmCount, = frmCountF_mk, FrmCount.count,
      FrmCount.phase, State.updFrm, foldl_frmCount, = frmCount_mk, = frmCountF_fold]

theorem State.portDown_frmCount (i : Nat) {s : State} (hs : FrmCount a s) : FrmCount a (State.portDown i s) := by
  grind (gen := 30) (ematch := 30) (splits := 30) [State.portDown, State.updPort_frmCount, State.updWork_frmCount,
      State.updFab_frmCount, State.emit_frmCount, State.withdraw_frmCount, State.sendBeacons_frmCount,
      State.refreshParent_frmCount, State.losesUp_frmCount, State.dropBuffered_frmCount, State.dropFlits_frmCount, =
      frmCountF_mk, FrmCount.count, FrmCount.phase, State.updFrm, foldl_frmCount, = frmCount_mk, = frmCountF_fold]

theorem State.rerouteCredit_frmCount (o : Nat) (fs : List Flit) {s : State} (hs : FrmCount a s) : FrmCount a
    (State.rerouteCredit o fs s) := by
  grind [State.rerouteCredit, State.tx_frmCount, State.updOuter_frmCount, = frmCountF_mk, FrmCount.count,
      FrmCount.phase, State.updFrm, foldl_frmCount, = frmCount_mk, = frmCountF_fold]

theorem State.dropData_frmCount (i : Nat) {s : State} (hs : FrmCount a s) : FrmCount a (State.dropData i s) := by
  grind [State.dropData, State.updPlnp_frmCount, State.updWork_frmCount, State.rerouteCredit_frmCount, = frmCountF_mk,
      FrmCount.count, FrmCount.phase, State.updFrm, foldl_frmCount, = frmCount_mk, = frmCountF_fold]

theorem State.portCommit_frmCount (i : Nat) {s : State} (hs : FrmCount a s) : FrmCount a (State.portCommit i s) := by
  grind (gen := 30) (ematch := 30) (splits := 30) [State.portCommit, State.updPort_frmCount, State.updWork_frmCount,
      State.emit_frmCount, State.finishAll_frmCount, State.sendBeacons_frmCount, State.portDown_frmCount,
      State.dropData_frmCount, = frmCountF_mk, FrmCount.count, FrmCount.phase, State.updFrm, foldl_frmCount, =
      frmCount_mk, = frmCountF_fold]

theorem State.sendMarkers_frmCount {s : State} (hs : FrmCount a s) : FrmCount a (State.sendMarkers s) := by
  grind [State.sendMarkers, State.takeFree_frmCount, State.txMsg_frmCount, State.send_frmCount, = frmCountF_mk,
      FrmCount.count, FrmCount.phase, State.updFrm, foldl_frmCount, = frmCount_mk, = frmCountF_fold]

theorem State.loadCredit_frmCount {s : State} (hs : FrmCount a s) : FrmCount a (State.loadCredit s) := by
  grind [State.loadCredit, State.updPwrp_frmCount, State.updPwr_frmCount, = frmCountF_mk, FrmCount.count,
      FrmCount.phase, State.updFrm, foldl_frmCount, = frmCount_mk, = frmCountF_fold]

theorem State.updCopies_frmCount (p : Nat) (f : KvCopy → KvCopy) {s : State} (hs : FrmCount a s) : FrmCount a
    (State.updCopies p f s) := by
  grind [State.updCopies, = frmCountF_mk, FrmCount.count, FrmCount.phase, State.updFrm, foldl_frmCount, = frmCount_mk, =
      frmCountF_fold]

theorem State.lockOps_frmCount {s : State} (hs : FrmCount a s) : FrmCount a (State.lockOps s) := by
  grind [State.lockOps, State.updPwrp_frmCount, State.updAdm_frmCount, State.updCopies_frmCount, = frmCountF_mk,
      FrmCount.count, FrmCount.phase, State.updFrm, foldl_frmCount, = frmCount_mk, = frmCountF_fold]

theorem State.stepClock_frmCount (level : Nat) {s : State} (hs : FrmCount a s) : FrmCount a (State.stepClock level s)
    := by
  grind [State.stepClock, State.updPwr_frmCount, State.fireVec_frmCount, State.log_frmCount, = frmCountF_mk,
      FrmCount.count, FrmCount.phase, State.updFrm, foldl_frmCount, = frmCount_mk, = frmCountF_fold]

theorem State.thermalCommit_frmCount (ns : Nat) {s : State} (hs : FrmCount a s) : FrmCount a (State.thermalCommit ns
    s) := by
  grind [State.thermalCommit, State.updPwr_frmCount, State.fireVec_frmCount, State.log_frmCount,
      State.stepClock_frmCount, = frmCountF_mk, FrmCount.count, FrmCount.phase, State.updFrm, foldl_frmCount, =
      frmCount_mk, = frmCountF_fold]

theorem State.takeCapAck_frmCount (cap : BitVec 7) (frame : FrameNo) (pkg : Nat) {s : State} (hs : FrmCount a s) :
    FrmCount a (State.takeCapAck cap frame pkg s) := by
  grind [State.takeCapAck, State.updPwr_frmCount, State.finishAll_frmCount, = frmCountF_mk, FrmCount.count,
      FrmCount.phase, State.updFrm, foldl_frmCount, = frmCount_mk, = frmCountF_fold]

theorem State.capCommit_frmCount {s : State} (hs : FrmCount a s) : FrmCount a (State.capCommit s) := by
  grind [State.capCommit, State.updPwr_frmCount, State.finishAll_frmCount, State.send_frmCount,
      State.takeCapAck_frmCount, = frmCountF_mk, FrmCount.count, FrmCount.phase, State.updFrm, foldl_frmCount, =
      frmCount_mk, = frmCountF_fold]

theorem State.energyCommit_frmCount (old : BitVec 3) {s : State} (hs : FrmCount a s) : FrmCount a (State.energyCommit
    old s) := by
  grind (gen := 30) (ematch := 30) (splits := 30) [State.energyCommit, State.updPwr_frmCount, State.loadCredit_frmCount,
      State.lockOps_frmCount, State.thermalCommit_frmCount, State.capCommit_frmCount, = frmCountF_mk, FrmCount.count,
      FrmCount.phase, State.updFrm, foldl_frmCount, = frmCount_mk, = frmCountF_fold]

theorem State.updSlot_frmCount (key : Nat) (f : SfuSlot → SfuSlot) {s : State} (hs : FrmCount a s) : FrmCount a
    (State.updSlot key f s) := by
  grind [State.updSlot, = frmCountF_mk, FrmCount.count, FrmCount.phase, State.updFrm, foldl_frmCount, = frmCount_mk, =
      frmCountF_fold]

theorem State.slotUnloads_frmCount (key n : Nat) {s : State} (hs : FrmCount a s) : FrmCount a (State.slotUnloads key n s) := by
  induction n generalizing s with
  | zero => exact hs
  | succ k ih => grind [State.slotUnloads, State.updSlot_frmCount, State.finish_frmCount]

theorem State.slotFlip_frmCount (key : Nat) {s : State} (hs : FrmCount a s) : FrmCount a (State.slotFlip key s) := by
  grind [State.slotFlip, State.finish_frmCount, State.updSlot_frmCount, = frmCountF_mk, FrmCount.count, FrmCount.phase,
      State.updFrm, foldl_frmCount, = frmCount_mk, = frmCountF_fold]

theorem State.slotCommit_frmCount (key : Nat) {s : State} (hs : FrmCount a s) : FrmCount a (State.slotCommit key s) :=
    by
  grind [State.slotCommit, State.slotUnloads_frmCount, State.slotFlip_frmCount, = frmCountF_mk, FrmCount.count,
      FrmCount.phase, State.updFrm, foldl_frmCount, = frmCount_mk, = frmCountF_fold]

theorem State.sfuCommit_frmCount {s : State} (hs : FrmCount a s) : FrmCount a (State.sfuCommit s) := by
  grind [State.sfuCommit, State.slotCommit_frmCount, = frmCountF_mk, FrmCount.count, FrmCount.phase, State.updFrm,
      foldl_frmCount, = frmCount_mk, = frmCountF_fold]

theorem State.endReductions_frmCount (g : Group) (oc : Oc) (rs : Reason) {s : State} (hs : FrmCount a s) : FrmCount a
    (State.endReductions g oc rs s) := by
  grind [State.endReductions, State.updRed_frmCount, = frmCountF_mk, FrmCount.count, FrmCount.phase, State.updFrm,
      foldl_frmCount, = frmCount_mk, = frmCountF_fold]

theorem State.updEngine_frmCount (e : Nat) (f : Engine → Engine) {s : State} (hs : FrmCount a s) : FrmCount a
    (State.updEngine e f s) := by
  grind [State.updEngine, State.updRed_frmCount, = frmCountF_mk, FrmCount.count, FrmCount.phase, State.updFrm,
      foldl_frmCount, = frmCount_mk, = frmCountF_fold]

theorem State.updGroup_frmCount (i : Nat) (f : Group → Group) {s : State} (hs : FrmCount a s) : FrmCount a
    (State.updGroup i f s) := by
  grind [State.updGroup, State.updRed_frmCount, = frmCountF_mk, FrmCount.count, FrmCount.phase, State.updFrm,
      foldl_frmCount, = frmCount_mk, = frmCountF_fold]

theorem State.announceRepair_frmCount (g : Group) {s : State} (hs : FrmCount a s) : FrmCount a (State.announceRepair g
    s) := by
  grind [State.announceRepair, State.sendAll_frmCount, State.updGroup_frmCount, = frmCountF_mk, FrmCount.count,
      FrmCount.phase, State.updFrm, foldl_frmCount, = frmCount_mk, = frmCountF_fold]

theorem State.askRestart_frmCount (g : Group) {s : State} (hs : FrmCount a s) : FrmCount a (State.askRestart g s) :=
    by
  grind [State.askRestart, State.send_frmCount, State.announceRepair_frmCount, = frmCountF_mk, FrmCount.count,
      FrmCount.phase, State.updFrm, foldl_frmCount, = frmCount_mk, = frmCountF_fold]

theorem State.retireEngine_frmCount (e : Nat) {s : State} (hs : FrmCount a s) : FrmCount a (State.retireEngine e s) :=
    by
  grind [State.retireEngine, State.log_frmCount, State.updEngine_frmCount, = frmCountF_mk, FrmCount.count,
      FrmCount.phase, State.updFrm, foldl_frmCount, = frmCount_mk, = frmCountF_fold]

theorem State.mismatchOn_frmCount (e : Nat) {s : State} (hs : FrmCount a s) : FrmCount a (State.mismatchOn e s) := by
  grind [State.mismatchOn, State.updEngine_frmCount, State.retireEngine_frmCount, = frmCountF_mk, FrmCount.count,
      FrmCount.phase, State.updFrm, foldl_frmCount, = frmCount_mk, = frmCountF_fold]

theorem State.checkAdder_frmCount (g : Group) (tree seq : Nat) {s : State} (hs : FrmCount a s) : FrmCount a
    (State.checkAdder g tree seq s).1 := by
  grind (gen := 30) (ematch := 30) (splits := 30) [State.checkAdder, State.takeFree_frmCount, State.updEngine_frmCount,
      State.askRestart_frmCount, State.updReduction_frmCount, State.retireEngine_frmCount, State.mismatchOn_frmCount,
      = frmCountF_mk, FrmCount.count, FrmCount.phase, State.updFrm, foldl_frmCount, = frmCount_mk, = frmCountF_fold]

theorem State.sendImage_frmCount (g : Group) (tree lane : Nat) (i : Image) (targets : List Nat) {s : State} (hs :
    FrmCount a s) : FrmCount a (State.sendImage g tree lane i targets s) := by
  grind [State.sendImage, State.updRed_frmCount, = frmCountF_mk, FrmCount.count, FrmCount.phase, State.updFrm,
      foldl_frmCount, = frmCount_mk, = frmCountF_fold]

theorem State.updLane_frmCount (g : Group) (tree lane : Nat) (f : LaneAt → LaneAt) {s : State} (hs : FrmCount a s) :
    FrmCount a (State.updLane g tree lane f s) := by
  grind [State.updLane, State.updRed_frmCount, = frmCountF_mk, FrmCount.count, FrmCount.phase, State.updFrm,
      foldl_frmCount, = frmCount_mk, = frmCountF_fold]

theorem State.agree_frmCount (g : Group) (i : Image) {s : State} (hs : FrmCount a s) : FrmCount a (State.agree g i s)
    := by
  grind [State.agree, State.updRed_frmCount, = frmCountF_mk, FrmCount.count, FrmCount.phase, State.updFrm,
      foldl_frmCount, = frmCount_mk, = frmCountF_fold]

theorem State.afterUp_frmCount (g : Group) (tree lane : Nat) (i : Image) (root : Bool) {s : State} (hs : FrmCount a s)
    : FrmCount a (State.afterUp g tree lane i root s) := by
  grind [State.afterUp, State.updRed_frmCount, State.updLane_frmCount, State.agree_frmCount, = frmCountF_mk,
      FrmCount.count, FrmCount.phase, State.updFrm, foldl_frmCount, = frmCount_mk, = frmCountF_fold]

theorem State.writeDva_frmCount (w : Who) (a0 : Nat) (bs : List Byte) {s : State} (hs : FrmCount a s) : FrmCount a
    (State.writeDva w a0 bs s).1 := by
  grind [State.writeDva, State.writeLoop_frmCount, = frmCountF_mk, FrmCount.count, FrmCount.phase, State.updFrm,
      foldl_frmCount, = frmCount_mk, = frmCountF_fold]

theorem State.writeRuns_frmCount (w : Who) (size : Nat) (l : List (Nat × Nat)) (bs : List Byte) {s : State} (hs : FrmCount a s) :
    FrmCount a (State.writeRuns w size l bs s).1 := by
  induction l generalizing bs s with
  | nil => exact hs
  | cons x t ih =>
    have h := State.writeDva_frmCount w x.1 (bs.take (x.2 * size)) hs
    unfold State.writeRuns gotThen
    dsimp only
    split
    · exact ih _ (by rename_i e; rw [e] at h; exact h)
    all_goals (rename_i e; rw [e] at h; exact h)

theorem State.writeResult_frmCount (g : Group) (i : Image) (tree : Nat) {s : State} (hs : FrmCount a s) : FrmCount a
    (State.writeResult g i tree s).1 := by
  grind [State.writeResult, gotThen_frmCount, State.updReduction_frmCount, State.writeRuns_frmCount, = frmCountF_mk,
      FrmCount.count, FrmCount.phase, State.updFrm, foldl_frmCount, = frmCount_mk, = frmCountF_fold]

theorem State.rootStage_frmCount (g : Group) (tree lane : Nat) (i : Image) {s : State} (hs : FrmCount a s) : FrmCount
    a (State.rootStage g tree lane i s) := by
  grind [State.rootStage, State.killStart_frmCount, State.writeResult_frmCount, State.sendImage_frmCount,
      State.afterUp_frmCount, = frmCountF_mk, FrmCount.count, FrmCount.phase, State.updFrm, foldl_frmCount, =
      frmCount_mk, = frmCountF_fold]

theorem State.upStage_frmCount (g : Group) (tree lane : Nat) (exp : Bool) {s : State} (hs : FrmCount a s) : FrmCount a
    (State.upStage g tree lane exp s) := by
  grind [State.upStage, State.checkAdder_frmCount, State.sendImage_frmCount, State.afterUp_frmCount,
      State.rootStage_frmCount, = frmCountF_mk, FrmCount.count, FrmCount.phase, State.updFrm, foldl_frmCount, =
      frmCount_mk, = frmCountF_fold]

theorem State.downStage_frmCount (g : Group) (tree lane : Nat) (exp : Bool) {s : State} (hs : FrmCount a s) : FrmCount
    a (State.downStage g tree lane exp s) := by
  grind (gen := 30) (ematch := 30) (splits := 30) [State.downStage, State.updRed_frmCount, State.killStart_frmCount,
      State.writeResult_frmCount, State.sendImage_frmCount, State.updLane_frmCount, State.agree_frmCount, =
      frmCountF_mk, FrmCount.count, FrmCount.phase, State.updFrm, foldl_frmCount, = frmCount_mk, = frmCountF_fold]

theorem State.laneStages_frmCount (i tree lane : Nat) {s : State} (hs : FrmCount a s) : FrmCount a (State.laneStages i
    tree lane s) := by
  grind [State.laneStages, State.upStage_frmCount, State.downStage_frmCount, = frmCountF_mk, FrmCount.count,
      FrmCount.phase, State.updFrm, foldl_frmCount, = frmCount_mk, = frmCountF_fold]

theorem State.choeskWrite_frmCount (p c fuel x : Nat) (bs : List Byte) {s : State} (hs : FrmCount a s) :
    FrmCount a (State.choeskWrite p c fuel x bs s) := by
  induction fuel generalizing x bs s with
  | zero => exact hs
  | succ k ih =>
    cases bs with
    | nil => exact hs
    | cons b t => grind (gen := 30) (ematch := 30) (splits := 30) [State.choeskWrite, State.storeLine_frmCount]

theorem State.writeArg_frmCount (p c a0 : Nat) (bs : List Byte) {s : State} (hs : FrmCount a s) : FrmCount a
    (State.writeArg p c a0 bs s) := by
  grind [State.writeArg, State.choeskWrite_frmCount, = frmCountF_mk, FrmCount.count, FrmCount.phase, State.updFrm,
      foldl_frmCount, = frmCount_mk, = frmCountF_fold]

theorem State.updCommq_frmCount (p q : Nat) (f : Commq → Commq) {s : State} (hs : FrmCount a s) : FrmCount a
    (State.updCommq p q f s) := by
  grind [State.updCommq, State.updRed_frmCount, = frmCountF_mk, FrmCount.count, FrmCount.phase, State.updFrm,
      foldl_frmCount, = frmCount_mk, = frmCountF_fold]

theorem State.recordLoop_frmCount (p q fuel : Nat) {s : State} (hs : FrmCount a s) : FrmCount a (State.recordLoop p q fuel s) := by
  induction fuel generalizing s with
  | zero => exact hs
  | succ k ih => grind (gen := 30) (ematch := 30) (splits := 30) [State.recordLoop, State.takeFree_frmCount,
      State.writeArg_frmCount, State.updCommq_frmCount, State.updGroup_frmCount, State.fireVec_frmCount]

theorem State.answerCmd_frmCount (pkg : Nat) (c : CmdId) (oc : Oc) (rs : Reason) (ws : List W64) {s : State} (hs :
    FrmCount a s) : FrmCount a (State.answerCmd pkg c oc rs ws s) := by
  grind [State.answerCmd, State.finish_frmCount, State.send_frmCount, = frmCountF_mk, FrmCount.count, FrmCount.phase,
      State.updFrm, foldl_frmCount, = frmCount_mk, = frmCountF_fold]

theorem State.leadWithdraw_frmCount (span : BitVec 16) (num pkg : Nat) (c : Option CmdId) {s : State} (hs : FrmCount a
    s) : FrmCount a (State.leadWithdraw span num pkg c s) := by
  grind [State.leadWithdraw, State.updLead_frmCount, State.answerCmd_frmCount, = frmCountF_mk, FrmCount.count,
      FrmCount.phase, State.updFrm, foldl_frmCount, = frmCount_mk, = frmCountF_fold]

theorem State.withdrawStray_frmCount {s : State} (hs : FrmCount a s) : FrmCount a (State.withdrawStray s) := by
  grind [State.withdrawStray, State.updPln_frmCount, State.send_frmCount, State.leadWithdraw_frmCount, = frmCountF_mk,
      FrmCount.count, FrmCount.phase, State.updFrm, foldl_frmCount, = frmCount_mk, = frmCountF_fold]

theorem State.dropGroup_frmCount (g : Group) {s : State} (hs : FrmCount a s) : FrmCount a (State.dropGroup g s) := by
  grind [State.dropGroup, State.updRed_frmCount, State.withdrawStray_frmCount, = frmCountF_mk, FrmCount.count,
      FrmCount.phase, State.updFrm, foldl_frmCount, = frmCount_mk, = frmCountF_fold]

theorem State.failDefine_frmCount (g : Group) (oc : Oc) (rs : Reason) (ws : List W64) {s : State} (hs : FrmCount a s)
    : FrmCount a (State.failDefine g oc rs ws s) := by
  grind [State.failDefine, State.finishAll_frmCount, State.dropGroup_frmCount, = frmCountF_mk, FrmCount.count,
      FrmCount.phase, State.updFrm, foldl_frmCount, = frmCount_mk, = frmCountF_fold]

theorem State.failEverywhere_frmCount (g : Group) (oc : Oc) (rs : Reason) {s : State} (hs : FrmCount a s) : FrmCount a
    (State.failEverywhere g oc rs s) := by
  grind [State.failEverywhere, State.sendAll_frmCount, State.failDefine_frmCount, = frmCountF_mk, FrmCount.count,
      FrmCount.phase, State.updFrm, foldl_frmCount, = frmCount_mk, = frmCountF_fold]

theorem State.groupsProgress_frmCount {s : State} (hs : FrmCount a s) : FrmCount a (State.groupsProgress s) := by
  grind [State.groupsProgress, State.send_frmCount, State.updGroup_frmCount, State.withdrawStray_frmCount,
      State.failEverywhere_frmCount, = frmCountF_mk, FrmCount.count, FrmCount.phase, State.updFrm, foldl_frmCount, =
      frmCount_mk, = frmCountF_fold]

theorem State.lostEarly_frmCount (g : Group) (lost : List (Nat × Bool)) {s : State} (hs : FrmCount a s) : FrmCount a
    (State.lostEarly g lost s) := by
  grind [State.lostEarly, State.updGroup_frmCount, State.groupsProgress_frmCount, = frmCountF_mk, FrmCount.count,
      FrmCount.phase, State.updFrm, foldl_frmCount, = frmCount_mk, = frmCountF_fold]

theorem State.lostKilled_frmCount (g : Group) (lost : List (Nat × Bool)) {s : State} (hs : FrmCount a s) : FrmCount a
    (State.lostKilled g lost s) := by
  grind [State.lostKilled, State.updGroup_frmCount, State.groupsProgress_frmCount, State.announceRepair_frmCount, =
      frmCountF_mk, FrmCount.count, FrmCount.phase, State.updFrm, foldl_frmCount, = frmCount_mk, = frmCountF_fold]

theorem State.declareEdges_frmCount (g : Group) {s : State} (hs : FrmCount a s) : FrmCount a (State.declareEdges g s)
    := by
  grind [State.declareEdges, State.updRed_frmCount, State.declare_frmCount, State.updGroup_frmCount, = frmCountF_mk,
      FrmCount.count, FrmCount.phase, State.updFrm, foldl_frmCount, = frmCount_mk, = frmCountF_fold]

theorem State.lostRebuild_frmCount (g : Group) (lost : List (Nat × Bool)) {s : State} (hs : FrmCount a s) : FrmCount a
    (State.lostRebuild g lost s) := by
  grind [State.lostRebuild, State.updRed_frmCount, State.updGroup_frmCount, State.declareEdges_frmCount,
      State.groupsProgress_frmCount, = frmCountF_mk, FrmCount.count, FrmCount.phase, State.updFrm, foldl_frmCount, =
      frmCount_mk, = frmCountF_fold]

theorem State.memberLost_frmCount (g : Group) (rank : Nat) (killed : Bool) {s : State} (hs : FrmCount a s) : FrmCount
    a (State.memberLost g rank killed s) := by
  grind [State.memberLost, State.lostEarly_frmCount, State.lostKilled_frmCount, State.lostRebuild_frmCount, =
      frmCountF_mk, FrmCount.count, FrmCount.phase, State.updFrm, foldl_frmCount, = frmCount_mk, = frmCountF_fold]

theorem State.redCommit_frmCount {s : State} (hs : FrmCount a s) : FrmCount a (State.redCommit s) := by
  grind [State.redCommit, State.updRed_frmCount, State.endReductions_frmCount, State.memberLost_frmCount,
      State.laneStages_frmCount, State.recordLoop_frmCount, = frmCountF_mk, FrmCount.count, FrmCount.phase,
      State.updFrm, foldl_frmCount, = frmCount_mk, = frmCountF_fold]

theorem State.withdrawFlow_frmCount (span : BitVec 16) (rho : BitVec 32) (x : Flow) {s : State} (hs : FrmCount a s) :
    FrmCount a (State.withdrawFlow span rho x s) := by
  grind [State.withdrawFlow, State.updLead_frmCount, State.answerFlow_frmCount, State.answerCmd_frmCount, =
      frmCountF_mk, FrmCount.count, FrmCount.phase, State.updFrm, foldl_frmCount, = frmCount_mk, = frmCountF_fold]

theorem State.passPrepare_frmCount (moved : Bool) (x : Span) {s : State} (hs : FrmCount a s) : FrmCount a
    (State.passPrepare moved x s) := by
  grind [State.passPrepare, State.updPln_frmCount, State.updSpan_frmCount, State.updLead_frmCount,
      State.freeFlow_frmCount, State.withdrawFlow_frmCount, = frmCountF_mk, FrmCount.count, FrmCount.phase,
      State.updFrm, foldl_frmCount, = frmCount_mk, = frmCountF_fold]

theorem State.planPasses_frmCount (moved : Bool) {s : State} (hs : FrmCount a s) : FrmCount a (State.planPasses moved
    s) := by
  grind [State.planPasses, State.updLead_frmCount, State.passPrepare_frmCount, = frmCountF_mk, FrmCount.count,
      FrmCount.phase, State.updFrm, foldl_frmCount, = frmCount_mk, = frmCountF_fold]

theorem State.dropJob_frmCount (uid : Nat) {s : State} (hs : FrmCount a s) : FrmCount a (State.dropJob uid s) := by
  grind [State.dropJob, State.updAdm_frmCount, = frmCountF_mk, FrmCount.count, FrmCount.phase, State.updFrm,
      foldl_frmCount, = frmCount_mk, = frmCountF_fold]

theorem countChecked_frmCount (m i next : Nat) {s : State} (hs : FrmCount a s) : FrmCount a (countChecked m i next s)
    := by
  grind [countChecked, State.updMb_frmCount, = frmCountF_mk, FrmCount.count, FrmCount.phase, State.updFrm,
      foldl_frmCount, = frmCount_mk, = frmCountF_fold]

theorem State.countQuota_frmCount (m : Nat) {s : State} (hs : FrmCount a s) : FrmCount a (State.countQuota m s) := by
  grind [State.countQuota, State.updAdmp_frmCount, = frmCountF_mk, FrmCount.count, FrmCount.phase, State.updFrm,
      foldl_frmCount, = frmCount_mk, = frmCountF_fold]

theorem State.checkedJob_frmCount (j : Job) {s : State} (hs : FrmCount a s) : FrmCount a (State.checkedJob j s) := by
  grind [State.checkedJob, State.updAdm_frmCount, State.finish_frmCount, State.finishAll_frmCount,
      State.countQuota_frmCount, State.dropJob_frmCount, = frmCountF_mk, FrmCount.count, FrmCount.phase, State.updFrm,
      foldl_frmCount, = frmCount_mk, = frmCountF_fold]

theorem State.triedLine_frmCount (x : Nat) {s : State} (hs : FrmCount a s) : FrmCount a (State.triedLine x s) := by
  grind [State.triedLine, = frmCountF_mk, FrmCount.count, FrmCount.phase, State.updFrm, foldl_frmCount, = frmCount_mk, =
      frmCountF_fold]

theorem State.seeLine_frmCount (k : Nat) (q : Phys) {s : State} (hs : FrmCount a s) : FrmCount a (State.seeLine k q s)
    := by
  grind [State.seeLine, State.countCorrected_frmCount, State.markUe_frmCount, = frmCountF_mk, FrmCount.count,
      FrmCount.phase, State.updFrm, foldl_frmCount, = frmCount_mk, = frmCountF_fold]

theorem State.seeArg_frmCount (p c fuel x n : Nat) {s : State} (hs : FrmCount a s) : FrmCount a (State.seeArg p c fuel x n s) := by
  induction fuel generalizing x n s with
  | zero => exact hs
  | succ k ih => grind (gen := 30) (ematch := 30) (splits := 30) [State.seeArg, State.triedLine_frmCount, State.seeLine_frmCount]

theorem State.argRead_frmCount (p c a0 n : Nat) {s : State} (hs : FrmCount a s) : FrmCount a (State.argRead p c a0 n
    s) := by
  grind [State.argRead, State.seeArg_frmCount, = frmCountF_mk, FrmCount.count, FrmCount.phase, State.updFrm,
      foldl_frmCount, = frmCount_mk, = frmCountF_fold]

theorem State.readList_frmCount (j : Job) (i n : Nat) {s : State} (hs : FrmCount a s) : FrmCount a (State.readList j i
    n s) := by
  grind [State.readList, State.argRead_frmCount, = frmCountF_mk, FrmCount.count, FrmCount.phase, State.updFrm,
      foldl_frmCount, = frmCount_mk, = frmCountF_fold]

theorem State.checkJob_frmCount (j : Job) {s : State} (hs : FrmCount a s) : FrmCount a (State.checkJob j s) := by
  grind (gen := 30) (ematch := 30) (splits := 30) [State.checkJob, State.updAdm_frmCount, State.finish_frmCount,
      State.finishAll_frmCount, State.dropJob_frmCount, countChecked_frmCount, State.checkedJob_frmCount,
      State.readList_frmCount, = frmCountF_mk, FrmCount.count, FrmCount.phase, State.updFrm, foldl_frmCount, =
      frmCount_mk, = frmCountF_fold]

theorem State.resumeChecks_frmCount {s : State} (hs : FrmCount a s) : FrmCount a (State.resumeChecks s) := by
  grind [State.resumeChecks, State.checkJob_frmCount, = frmCountF_mk, FrmCount.count, FrmCount.phase, State.updFrm,
      foldl_frmCount, = frmCount_mk, = frmCountF_fold]

theorem State.updSeqp_frmCount (p : Nat) (f : SeqPart → SeqPart) {s : State} (hs : FrmCount a s) : FrmCount a
    (State.updSeqp p f s) := by
  grind [State.updSeqp, = frmCountF_mk, FrmCount.count, FrmCount.phase, State.updFrm, foldl_frmCount, = frmCount_mk, =
      frmCountF_fold]

theorem State.countStalls_frmCount {s : State} (hs : FrmCount a s) : FrmCount a (State.countStalls s) := by
  grind [State.countStalls, State.updSeqp_frmCount, = frmCountF_mk, FrmCount.count, FrmCount.phase, State.updFrm,
      foldl_frmCount, = frmCount_mk, = frmCountF_fold]

theorem State.updSensor_frmCount (id : Nat) (f : Sensor → Sensor) {s : State} (hs : FrmCount a s) : FrmCount a
    (State.updSensor id f s) := by
  grind [State.updSensor, State.updMgt_frmCount, = frmCountF_mk, FrmCount.count, FrmCount.phase, State.updFrm,
      foldl_frmCount, = frmCount_mk, = frmCountF_fold]

theorem State.failSensor_frmCount (id : Nat) {s : State} (hs : FrmCount a s) : FrmCount a (State.failSensor id s) :=
    by
  grind [State.failSensor, State.log_frmCount, State.updSensor_frmCount, = frmCountF_mk, FrmCount.count, FrmCount.phase,
      State.updFrm, foldl_frmCount, = frmCount_mk, = frmCountF_fold]

theorem State.readSensor_frmCount (id : Nat) (v : Option (BitVec 16)) {s : State} (hs : FrmCount a s) : FrmCount a
    (State.readSensor id v s) := by
  unfold State.readSensor
  split <;> grind (gen := 30) (ematch := 30) (splits := 30) [State.updSensor_frmCount, State.failSensor_frmCount, =
      frmCountF_mk, FrmCount.count, FrmCount.phase, State.updFrm, foldl_frmCount, = frmCount_mk, = frmCountF_fold]

theorem State.readDroops_frmCount {s : State} (hs : FrmCount a s) : FrmCount a (State.readDroops s) := by
  grind [State.readDroops, State.takeFree_frmCount, State.readSensor_frmCount, = frmCountF_mk, FrmCount.count,
      FrmCount.phase, State.updFrm, foldl_frmCount, = frmCount_mk, = frmCountF_fold]

theorem State.frameCounts_frmCount {s : State} (hs : FrmCount a s) : FrmCount a (State.frameCounts s) := by
  grind (gen := 30) (ematch := 30) (splits := 30) [State.frameCounts, State.updFab_frmCount, State.updMgt_frmCount,
      State.updAdm_frmCount, State.resumeChecks_frmCount, State.countStalls_frmCount, State.readDroops_frmCount, =
      frmCountF_mk, FrmCount.count, FrmCount.phase, State.updFrm, foldl_frmCount, = frmCount_mk, = frmCountF_fold]

theorem State.flushLogCounts_frmCount {s : State} (hs : FrmCount a s) : FrmCount a (State.flushLogCounts s) := by
  grind [State.flushLogCounts, State.updMgt_frmCount, State.writeLog_frmCount, = frmCountF_mk, FrmCount.count,
      FrmCount.phase, State.updFrm, foldl_frmCount, = frmCount_mk, = frmCountF_fold]

theorem State.healthNotice_frmCount (i : Nat) (frame : FrameNo) (h : Health) (w : Width) {s : State} (hs : FrmCount a
    s) : FrmCount a (State.healthNotice i frame h w s) := by
  grind [State.healthNotice, State.send_frmCount, State.updLead_frmCount, = frmCountF_mk, FrmCount.count,
      FrmCount.phase, State.updFrm, foldl_frmCount, = frmCount_mk, = frmCountF_fold]

theorem State.setHealth_frmCount (i : Nat) (h : Health) (w : Width) {s : State} (hs : FrmCount a s) : FrmCount a
    (State.setHealth i h w s) := by
  grind [State.setHealth, State.updWork_frmCount, State.fireVec_frmCount, State.logEvent_frmCount,
      State.healthNotice_frmCount, = frmCountF_mk, FrmCount.count, FrmCount.phase, State.updFrm, foldl_frmCount, =
      frmCount_mk, = frmCountF_fold]

theorem State.permanentFault_frmCount (i : Nat) (lanes : BitVec 8) {s : State} (hs : FrmCount a s) : FrmCount a
    (State.permanentFault i lanes s) := by
  grind [State.permanentFault, State.updWork_frmCount, State.setHealth_frmCount, = frmCountF_mk, FrmCount.count,
      FrmCount.phase, State.updFrm, foldl_frmCount, = frmCount_mk, = frmCountF_fold]

theorem State.evalHealth_frmCount (i : Nat) {s : State} (hs : FrmCount a s) : FrmCount a (State.evalHealth i s) := by
  grind [State.evalHealth, State.updPort_frmCount, State.updWork_frmCount, State.setHealth_frmCount,
      State.permanentFault_frmCount, = frmCountF_mk, FrmCount.count, FrmCount.phase, State.updFrm, foldl_frmCount, =
      frmCount_mk, = frmCountF_fold]

theorem State.evalHottest_frmCount {s : State} (hs : FrmCount a s) : FrmCount a (State.evalHottest s) := by
  grind [State.evalHottest, State.updPwr_frmCount, = frmCountF_mk, FrmCount.count, FrmCount.phase, State.updFrm,
      foldl_frmCount, = frmCount_mk, = frmCountF_fold]

theorem State.countIdle_frmCount {s : State} (hs : FrmCount a s) : FrmCount a (State.countIdle s) := by
  grind [State.countIdle, State.updPwrp_frmCount, = frmCountF_mk, FrmCount.count, FrmCount.phase, State.updFrm,
      foldl_frmCount, = frmCount_mk, = frmCountF_fold]

theorem State.endJob_frmCount (j : Job) (oc : Oc) (rs : Reason) {s : State} (hs : FrmCount a s) : FrmCount a
    (State.endJob j oc rs s) := by
  grind [State.endJob, State.finish_frmCount, State.finishAll_frmCount, State.dropJob_frmCount, = frmCountF_mk,
      FrmCount.count, FrmCount.phase, State.updFrm, foldl_frmCount, = frmCount_mk, = frmCountF_fold]

theorem State.purge_frmCount (p : Nat) {s : State} (hs : FrmCount a s) : FrmCount a (State.purge p s) := by
  grind [State.purge, State.updAdmp_frmCount, State.endJob_frmCount, = frmCountF_mk, FrmCount.count, FrmCount.phase,
      State.updFrm, foldl_frmCount, = frmCount_mk, = frmCountF_fold]

theorem State.powerCheck_frmCount (p : Nat) {s : State} (hs : FrmCount a s) : FrmCount a (State.powerCheck p s) := by
  grind [State.powerCheck, State.updAdmp_frmCount, State.endJob_frmCount, = frmCountF_mk, FrmCount.count,
      FrmCount.phase, State.updFrm, foldl_frmCount, = frmCount_mk, = frmCountF_fold]

theorem State.refuseOverload_frmCount (p est : Nat) (j : Job) {s : State} (hs : FrmCount a s) : FrmCount a
    (State.refuseOverload p est j s) := by
  grind [State.refuseOverload, State.updAdmp_frmCount, State.finish_frmCount, State.finishAll_frmCount,
      State.dropJob_frmCount, = frmCountF_mk, FrmCount.count, FrmCount.phase, State.updFrm, foldl_frmCount, =
      frmCount_mk, = frmCountF_fold]

theorem State.settlePending_frmCount (p : Nat) (b : Int) (done : Nat) {s : State} (hs : FrmCount a s) : FrmCount a
    (State.settlePending p b done s) := by
  grind [State.settlePending, State.updAdm_frmCount, State.stage_frmCount, State.refuseOverload_frmCount, =
      frmCountF_mk, FrmCount.count, FrmCount.phase, State.updFrm, foldl_frmCount, = frmCount_mk, = frmCountF_fold]

theorem State.admissionPass_frmCount {s : State} (hs : FrmCount a s) : FrmCount a (State.admissionPass s) := by
  grind (gen := 30) (ematch := 30) (splits := 30) [State.admissionPass, State.updAdm_frmCount, State.stage_frmCount,
      State.purge_frmCount, State.powerCheck_frmCount, State.settlePending_frmCount, = frmCountF_mk, FrmCount.count,
      FrmCount.phase, State.updFrm, foldl_frmCount, = frmCount_mk, = frmCountF_fold]

theorem State.hbmStep_frmCount {s : State} (hs : FrmCount a s) : FrmCount a (State.hbmStep s) := by
  grind [State.hbmStep, State.updPor_frmCount, State.takeFree_frmCount, = frmCountF_mk, FrmCount.count, FrmCount.phase,
      State.updFrm, foldl_frmCount, = frmCount_mk, = frmCountF_fold]

theorem State.flushLogCounts_frm (s : State) : s.flushLogCounts.frm = s.frm := by
  have hf (l : List (Nat × Nat)) (t : State) : (l.foldl (fun s (p : Nat × Nat) =>
      s.writeLog 0x00FF .none none (word [(0, p.1), (16, p.2 - 64)])) t).frm = t.frm := by
    induction l generalizing t with
    | nil => rfl
    | cons x l ih => rw [List.foldl_cons, ih, Far.frm (State.writeLog_far _ _ _ _ (Far.refl t))]
  exact hf _ _

/-- What a commit instant does once the frame number has advanced. -/
theorem opCommitInstant_frmCount (s : State) (h : s.frm.phase ≠ .stopped) :
    FrmCount (s.flushLogCounts.updFrm Frm.advance) (opCommitInstant s) := by
  have h0 := State.emit_frmCount .frameOut (State.failover_frmCount (FrmCount.refl (s.flushLogCounts.updFrm Frm.advance)))
  unfold opCommitInstant
  rw [if_neg h]
  extract_lets ended old first s1 n s2 s3 s4 go s5 s6 per s7 s8 s9 s10 s11 s12
  have h2 : FrmCount (s.flushLogCounts.updFrm Frm.advance) s2 := by
    show FrmCount _ (if _ then _ else _)
    split
    · exact h0
    · exact foldl_frmCount (fun _ _ h => State.judge_frmCount _ _ _ h) _ (State.takeFree_frmCount h0)
  have h3 := foldl_frmCount (fun s p h => State.partCommit_frmCount p h) (List.range 16) h2
  have h4 := State.holdCommit_frmCount (State.spanCommit_frmCount h3)
  have h5 : FrmCount (s.flushLogCounts.updFrm Frm.advance) s5 :=
    foldl_frmCount (fun _ _ h => State.updFrmp_frmCount _ _ h) _ h4
  have h6 : FrmCount (s.flushLogCounts.updFrm Frm.advance) s6 := State.updPln_frmCount _ h5
  have hp : FrmCount (s.flushLogCounts.updFrm Frm.advance) per.1 := State.periodCommit_frmCount h6
  have h7 : FrmCount (s.flushLogCounts.updFrm Frm.advance) s7 := by
    rw [show s7 = (if per.2 then (List.range 16).foldl (fun s p => s.partCommit p) per.1 else per.1) from rfl]
    split
    · exact foldl_frmCount (fun s p h => State.partCommit_frmCount p h) _ hp
    · exact hp
  have h8 : FrmCount (s.flushLogCounts.updFrm Frm.advance) s8 :=
    foldl_frmCount (fun _ _ h => State.portCommit_frmCount _ h) _ h7
  have h9 : FrmCount (s.flushLogCounts.updFrm Frm.advance) s9 := State.switchPlans_frmCount (State.syncCommit_frmCount h8)
  have h10 : FrmCount (s.flushLogCounts.updFrm Frm.advance) s10 :=
    foldl_frmCount (fun _ _ h => State.continueSends_frmCount _ h) _ h9
  exact State.frameCounts_frmCount (State.planPasses_frmCount _ (State.groupsProgress_frmCount
    (State.redCommit_frmCount (State.sfuCommit_frmCount (State.energyCommit_frmCount _ (State.sendMarkers_frmCount h10))))))

/-- COMMIT_INSTANT advances the frame number by one; the first one of all makes it 0. -/
theorem opCommitInstant_count (s : State) (h : s.frm.phase ≠ .stopped) :
    (opCommitInstant s).frm.count = if s.frm.started then s.frm.count + 1 else 0 := by
  rw [(opCommitInstant_frmCount s h).count]
  simp [State.updFrm, Frm.advance, State.flushLogCounts_frm]

/-- SLACK_START leaves the frame number and begins the slack phase. -/
theorem opSlackStart_frm (s : State) (h : s.frm.phase = .work) :
    (opSlackStart s).frm.count = s.frm.count ∧ (opSlackStart s).frm.phase = .slack := by
  have h0 := FrmCount.refl (s.updFrm (fun f => { f with phase := .slack }))
  have key : FrmCount (s.updFrm (fun f => { f with phase := .slack })) (opSlackStart s) := by
    unfold opSlackStart
    rw [if_neg (by rw [h]; simp)]
    extract_lets s1 s2 s3 s4 s5 s6
    have h2 : FrmCount s1 s2 := State.updPln_frmCount _ h0
    have h3 : FrmCount s1 s3 := foldl_frmCount (fun _ _ h => State.evalHealth_frmCount _ h) _ h2
    have h4 : FrmCount s1 s4 := State.countIdle_frmCount (State.evalHottest_frmCount h3)
    have h5 : FrmCount s1 s5 := by
      rw [show s5 = (if s4.serving then s4.admissionPass else s4) from rfl]
      split
      · exact State.admissionPass_frmCount h4
      · exact h4
    have h6 : FrmCount s1 s6 := State.hbmStep_frmCount h5
    split
    · exact State.updMgt_frmCount _ h6
    · exact h6
  exact ⟨key.count, key.phase⟩

end Sys2Proof.Machine
end

