-- ==== Sys2Proof/Laws/Ports.lean ====
section
/-! SUPPORT. What transmitting on a port, logging and signalling leave alone. -/

namespace Sys2Proof.Machine

open Sys2Proof

/- In turn, not as parallel tasks: each task that waits for another holds a stack of its own. -/
set_option Elab.async false

/-- `OnPorts` over the fields it speaks of. -/
def OnPortsF (a : State) (fuse : Fuses) (flash : Flash) (por : Por) (frm : Frm) (mbx : Tab Mailbox) (nextUid : Nat)
    (adm : Adm) (ten : Tenants) (xlt : Xlt) (seq : Seq) (kv : Tab (Option KvPool)) (sfu : Tab SfuSlot) (builtins : Tab
    Nat) (pln : Pln) (red : Red) (fab : Fab) (pwr : Pwr) (dram : Memory) (spad : Memory) (host : Memory) (pending :
    List Instr) : Prop :=
  fuse = a.fuse ∧ flash = a.flash ∧ por = a.por ∧ frm = a.frm ∧ mbx = a.mbx ∧ nextUid = a.nextUid ∧ adm = a.adm ∧ ten
      = a.ten ∧ xlt = a.xlt ∧ seq = a.seq ∧ kv = a.kv ∧ sfu = a.sfu ∧ builtins = a.builtins ∧ pln = a.pln ∧ red =
      a.red ∧ fab = a.fab ∧ pwr = a.pwr ∧ dram = a.dram ∧ spad = a.spad ∧ host = a.host ∧ pending = a.pending

/-- Transmitting on a port, logging and signalling reach only the ports, the log, the vectors and the outputs. -/
def OnPorts (a s : State) : Prop := OnPortsF a s.fuse s.flash s.por s.frm s.mbx s.nextUid s.adm s.ten s.xlt s.seq s.kv
    s.sfu s.builtins s.pln s.red s.fab s.pwr s.dram s.spad s.host s.pending

theorem onPortsF_fold (a s : State) : OnPortsF a s.fuse s.flash s.por s.frm s.mbx s.nextUid s.adm s.ten s.xlt s.seq
    s.kv s.sfu s.builtins s.pln s.red s.fab s.pwr s.dram s.spad s.host s.pending ↔ OnPorts a s := Iff.rfl

theorem onPorts_mk (a) (fuse flash por mgt frm pcie mbx nextUid adm ten xlt seq kv sfu builtins pln red plk fab pwr
    dram spad host out free pending) :
    OnPorts a (State.mk fuse flash por mgt frm pcie mbx nextUid adm ten xlt seq kv sfu builtins pln red plk fab pwr
        dram spad host out free pending) ↔ OnPortsF a fuse flash por frm mbx nextUid adm ten xlt seq kv sfu builtins
        pln red fab pwr dram spad host pending := Iff.rfl

theorem OnPorts.refl (s : State) : OnPorts s s := ⟨rfl, rfl, rfl, rfl, rfl, rfl, rfl, rfl, rfl, rfl, rfl, rfl, rfl,
    rfl, rfl, rfl, rfl, rfl, rfl, rfl, rfl⟩

theorem foldl_onPorts {a : State} {α : Type} {g : State → α → State} (hg : ∀ s x, OnPorts a s → OnPorts a (g s x)) (l
    : List α)
    {s : State} (h : OnPorts a s) : OnPorts a (l.foldl g s) := by
  induction l generalizing s with
  | nil => exact h
  | cons x t ih => exact ih (hg _ _ h)

variable {a : State}

theorem State.updWork_onPorts (i : Nat) (f : PortWork → PortWork) {s : State} (hs : OnPorts a s) : OnPorts a
    (State.updWork i f s) := by
  grind [State.updWork, foldl_onPorts, = onPorts_mk, = onPortsF_fold]

theorem State.emit_onPorts (o : Output) {s : State} (hs : OnPorts a s) : OnPorts a (State.emit o s) := by
  grind [State.emit, foldl_onPorts, = onPorts_mk, = onPortsF_fold]

theorem State.updLine_onPorts (i : Nat) (f : LineTx → LineTx) {s : State} (hs : OnPorts a s) : OnPorts a
    (State.updLine i f s) := by
  grind [State.updLine, foldl_onPorts, = onPorts_mk, = onPortsF_fold]

theorem State.takeFree_onPorts {s : State} (hs : OnPorts a s) : OnPorts a (State.takeFree s).2 := by
  grind [State.takeFree, foldl_onPorts, = onPorts_mk, = onPortsF_fold]

theorem State.sendLine_onPorts (i : Nat) (seq : BitVec 12) (ack : Option (BitVec 12)) (f : Flit) {s : State} (hs : OnPorts a s) :
    OnPorts a (State.sendLine i seq ack f s) := by
  unfold State.sendLine
  extract_lets w bs fill n
  refine State.emit_onPorts _ (State.updLine_onPorts _ _ ?_)
  exact State.takeFree_onPorts hs

theorem State.txNow_onPorts (i : Nat) (f : Flit) {s : State} (hs : OnPorts a s) : OnPorts a (State.txNow i f s) := by
  grind [State.txNow, State.updWork_onPorts, State.sendLine_onPorts, foldl_onPorts, = onPorts_mk, = onPortsF_fold]

theorem State.txRaw_onPorts (i : Nat) (f : Flit) {s : State} (hs : OnPorts a s) : OnPorts a (State.txRaw i f s) := by
  grind [State.txRaw, State.updWork_onPorts, State.txNow_onPorts, foldl_onPorts, = onPorts_mk, = onPortsF_fold]

theorem State.updPort_onPorts (i : Nat) (f : Port → Port) {s : State} (hs : OnPorts a s) : OnPorts a (State.updPort i
    f s) := by
  grind [State.updPort, foldl_onPorts, = onPorts_mk, = onPortsF_fold]

theorem State.flitsOf_onPorts (dst : Option Nat) (m : Msg) {s : State} (hs : OnPorts a s) : OnPorts a (State.flitsOf dst m s).2 := by
  simp only [State.flitsOf]
  exact State.takeFree_onPorts hs

theorem State.txLocal_onPorts (i : Nat) (m : Msg) {s : State} (hs : OnPorts a s) : OnPorts a (State.txLocal i m s) :=
    by
  grind [State.txLocal, State.flitsOf_onPorts, State.txRaw_onPorts, foldl_onPorts, = onPorts_mk, = onPortsF_fold]

theorem State.wakeTrain_onPorts (i : Nat) {s : State} (hs : OnPorts a s) : OnPorts a (State.wakeTrain i s) := by
  grind [State.wakeTrain, State.updLine_onPorts, foldl_onPorts, = onPorts_mk, = onPortsF_fold]

theorem State.wakePort_onPorts (i : Nat) {s : State} (hs : OnPorts a s) : OnPorts a (State.wakePort i s) := by
  grind [State.wakePort, State.updPort_onPorts, State.updWork_onPorts, State.txLocal_onPorts, State.wakeTrain_onPorts,
      foldl_onPorts, = onPorts_mk, = onPortsF_fold]

theorem State.tx_onPorts (i : Nat) (f : Flit) {s : State} (hs : OnPorts a s) : OnPorts a (State.tx i f s) := by
  grind [State.tx, State.updWork_onPorts, State.txRaw_onPorts, State.wakePort_onPorts, foldl_onPorts, = onPorts_mk, =
      onPortsF_fold]

theorem State.updMgt_onPorts (f : Mgt → Mgt) {s : State} (hs : OnPorts a s) : OnPorts a (State.updMgt f s) := by
  grind [State.updMgt, foldl_onPorts, = onPorts_mk, = onPortsF_fold]

theorem State.updFn_onPorts (fn : Nat) (f : PciFn → PciFn) {s : State} (hs : OnPorts a s) : OnPorts a (State.updFn fn
    f s) := by
  grind [State.updFn, foldl_onPorts, = onPorts_mk, = onPortsF_fold]

theorem State.emitPcie_onPorts (t : HostTlp) {s : State} (hs : OnPorts a s) : OnPorts a (State.emitPcie t s) := by
  grind [State.emitPcie, State.emit_onPorts, foldl_onPorts, = onPorts_mk, = onPortsF_fold]

theorem State.fireVec_onPorts (fn v : Nat) {s : State} (hs : OnPorts a s) : OnPorts a (State.fireVec fn v s) := by
  grind [State.fireVec, State.updFn_onPorts, State.emitPcie_onPorts, foldl_onPorts, = onPorts_mk, = onPortsF_fold]

theorem State.writeLog_onPorts (ev : Nat) (rs : Reason) (part : Option (Nat × Nat)) (data : W64) {s : State} (hs :
    OnPorts a s) : OnPorts a (State.writeLog ev rs part data s) := by
  grind [State.writeLog, State.updMgt_onPorts, State.emit_onPorts, foldl_onPorts, = onPorts_mk, = onPortsF_fold]

theorem State.logEvent_onPorts (ev : Nat) (rs : Reason) (part : Option (Nat × Nat)) (data : List (Nat × Nat)) {s :
    State} (hs : OnPorts a s) : OnPorts a (State.logEvent ev rs part data s) := by
  grind [State.logEvent, State.updMgt_onPorts, State.fireVec_onPorts, State.writeLog_onPorts, foldl_onPorts, =
      onPorts_mk, = onPortsF_fold]

theorem State.log_onPorts (ev : Nat) (data : List (Nat × Nat)) {s : State} (hs : OnPorts a s) : OnPorts a (State.log
    ev data s) := by
  grind [State.log, State.logEvent_onPorts, foldl_onPorts, = onPorts_mk, = onPortsF_fold]

theorem State.txMsg_onPorts (i : Nat) (m : Msg) {s : State} (hs : OnPorts a s) : OnPorts a (State.txMsg i m s) := by
  grind [State.txMsg, State.flitsOf_onPorts, State.tx_onPorts, foldl_onPorts, = onPorts_mk, = onPortsF_fold]

theorem State.sendBeacons_onPorts {s : State} (hs : OnPorts a s) : OnPorts a (State.sendBeacons s) := by
  grind [State.sendBeacons, State.txMsg_onPorts, foldl_onPorts, = onPorts_mk, = onPortsF_fold]

theorem OnPorts.fuse {a s : State} (h : OnPorts a s) : s.fuse = a.fuse := h.1

theorem OnPorts.flash {a s : State} (h : OnPorts a s) : s.flash = a.flash := h.2.1

theorem OnPorts.por {a s : State} (h : OnPorts a s) : s.por = a.por := h.2.2.1

theorem OnPorts.frm {a s : State} (h : OnPorts a s) : s.frm = a.frm := h.2.2.2.1

theorem OnPorts.mbx {a s : State} (h : OnPorts a s) : s.mbx = a.mbx := h.2.2.2.2.1

theorem OnPorts.nextUid {a s : State} (h : OnPorts a s) : s.nextUid = a.nextUid := h.2.2.2.2.2.1

theorem OnPorts.adm {a s : State} (h : OnPorts a s) : s.adm = a.adm := h.2.2.2.2.2.2.1

theorem OnPorts.ten {a s : State} (h : OnPorts a s) : s.ten = a.ten := h.2.2.2.2.2.2.2.1

theorem OnPorts.xlt {a s : State} (h : OnPorts a s) : s.xlt = a.xlt := h.2.2.2.2.2.2.2.2.1

theorem OnPorts.seq {a s : State} (h : OnPorts a s) : s.seq = a.seq := h.2.2.2.2.2.2.2.2.2.1

theorem OnPorts.kv {a s : State} (h : OnPorts a s) : s.kv = a.kv := h.2.2.2.2.2.2.2.2.2.2.1

theorem OnPorts.sfu {a s : State} (h : OnPorts a s) : s.sfu = a.sfu := h.2.2.2.2.2.2.2.2.2.2.2.1

theorem OnPorts.builtins {a s : State} (h : OnPorts a s) : s.builtins = a.builtins := h.2.2.2.2.2.2.2.2.2.2.2.2.1

theorem OnPorts.pln {a s : State} (h : OnPorts a s) : s.pln = a.pln := h.2.2.2.2.2.2.2.2.2.2.2.2.2.1

theorem OnPorts.red {a s : State} (h : OnPorts a s) : s.red = a.red := h.2.2.2.2.2.2.2.2.2.2.2.2.2.2.1

theorem OnPorts.fab {a s : State} (h : OnPorts a s) : s.fab = a.fab := h.2.2.2.2.2.2.2.2.2.2.2.2.2.2.2.1

theorem OnPorts.pwr {a s : State} (h : OnPorts a s) : s.pwr = a.pwr := h.2.2.2.2.2.2.2.2.2.2.2.2.2.2.2.2.1

theorem OnPorts.dram {a s : State} (h : OnPorts a s) : s.dram = a.dram := h.2.2.2.2.2.2.2.2.2.2.2.2.2.2.2.2.2.1

theorem OnPorts.spad {a s : State} (h : OnPorts a s) : s.spad = a.spad := h.2.2.2.2.2.2.2.2.2.2.2.2.2.2.2.2.2.2.1

theorem OnPorts.host {a s : State} (h : OnPorts a s) : s.host = a.host := h.2.2.2.2.2.2.2.2.2.2.2.2.2.2.2.2.2.2.2.1

theorem OnPorts.pending {a s : State} (h : OnPorts a s) : s.pending = a.pending := h.2.2.2.2.2.2.2.2.2.2.2.2.2.2.2.2.2.2.2.2

@[simp] theorem State.sendBeacons_fuse  (s : State) : (State.sendBeacons s).fuse = s.fuse :=
  OnPorts.fuse (State.sendBeacons_onPorts  (OnPorts.refl s))
@[simp] theorem State.sendBeacons_flash  (s : State) : (State.sendBeacons s).flash = s.flash :=
  OnPorts.flash (State.sendBeacons_onPorts  (OnPorts.refl s))
@[simp] theorem State.sendBeacons_por  (s : State) : (State.sendBeacons s).por = s.por :=
  OnPorts.por (State.sendBeacons_onPorts  (OnPorts.refl s))
@[simp] theorem State.sendBeacons_frm  (s : State) : (State.sendBeacons s).frm = s.frm :=
  OnPorts.frm (State.sendBeacons_onPorts  (OnPorts.refl s))
@[simp] theorem State.sendBeacons_mbx  (s : State) : (State.sendBeacons s).mbx = s.mbx :=
  OnPorts.mbx (State.sendBeacons_onPorts  (OnPorts.refl s))
@[simp] theorem State.sendBeacons_nextUid  (s : State) : (State.sendBeacons s).nextUid = s.nextUid :=
  OnPorts.nextUid (State.sendBeacons_onPorts  (OnPorts.refl s))
@[simp] theorem State.sendBeacons_adm  (s : State) : (State.sendBeacons s).adm = s.adm :=
  OnPorts.adm (State.sendBeacons_onPorts  (OnPorts.refl s))
@[simp] theorem State.sendBeacons_ten  (s : State) : (State.sendBeacons s).ten = s.ten :=
  OnPorts.ten (State.sendBeacons_onPorts  (OnPorts.refl s))
@[simp] theorem State.sendBeacons_xlt  (s : State) : (State.sendBeacons s).xlt = s.xlt :=
  OnPorts.xlt (State.sendBeacons_onPorts  (OnPorts.refl s))
@[simp] theorem State.sendBeacons_seq  (s : State) : (State.sendBeacons s).seq = s.seq :=
  OnPorts.seq (State.sendBeacons_onPorts  (OnPorts.refl s))
@[simp] theorem State.sendBeacons_kv  (s : State) : (State.sendBeacons s).kv = s.kv :=
  OnPorts.kv (State.sendBeacons_onPorts  (OnPorts.refl s))
@[simp] theorem State.sendBeacons_sfu  (s : State) : (State.sendBeacons s).sfu = s.sfu :=
  OnPorts.sfu (State.sendBeacons_onPorts  (OnPorts.refl s))
@[simp] theorem State.sendBeacons_builtins  (s : State) : (State.sendBeacons s).builtins = s.builtins :=
  OnPorts.builtins (State.sendBeacons_onPorts  (OnPorts.refl s))
@[simp] theorem State.sendBeacons_pln  (s : State) : (State.sendBeacons s).pln = s.pln :=
  OnPorts.pln (State.sendBeacons_onPorts  (OnPorts.refl s))
@[simp] theorem State.sendBeacons_red  (s : State) : (State.sendBeacons s).red = s.red :=
  OnPorts.red (State.sendBeacons_onPorts  (OnPorts.refl s))
@[simp] theorem State.sendBeacons_fab  (s : State) : (State.sendBeacons s).fab = s.fab :=
  OnPorts.fab (State.sendBeacons_onPorts  (OnPorts.refl s))
@[simp] theorem State.sendBeacons_pwr  (s : State) : (State.sendBeacons s).pwr = s.pwr :=
  OnPorts.pwr (State.sendBeacons_onPorts  (OnPorts.refl s))
@[simp] theorem State.sendBeacons_dram  (s : State) : (State.sendBeacons s).dram = s.dram :=
  OnPorts.dram (State.sendBeacons_onPorts  (OnPorts.refl s))
@[simp] theorem State.sendBeacons_spad  (s : State) : (State.sendBeacons s).spad = s.spad :=
  OnPorts.spad (State.sendBeacons_onPorts  (OnPorts.refl s))
@[simp] theorem State.sendBeacons_host  (s : State) : (State.sendBeacons s).host = s.host :=
  OnPorts.host (State.sendBeacons_onPorts  (OnPorts.refl s))
@[simp] theorem State.sendBeacons_pending  (s : State) : (State.sendBeacons s).pending = s.pending :=
  OnPorts.pending (State.sendBeacons_onPorts  (OnPorts.refl s))

@[simp] theorem State.tx_fab (i : Nat) (f : Flit) (s : State) :
    (s.tx i f).fab = s.fab :=
  (State.tx_onPorts _ _ (OnPorts.refl s)).fab

@[simp] theorem State.log_fab (ev : Nat) (data : List (Nat × Nat)) (s : State) :
    (s.log ev data).fab = s.fab :=
  (State.log_onPorts _ _ (OnPorts.refl s)).fab

@[simp] theorem State.logEvent_fab (ev : Nat) (rs : Reason) (part : Option (Nat × Nat)) (data : List (Nat × Nat)) (s : State) :
    (s.logEvent ev rs part data).fab = s.fab :=
  (State.logEvent_onPorts _ _ _ _ (OnPorts.refl s)).fab

@[simp] theorem State.fireVec_fab (fn v : Nat) (s : State) :
    (s.fireVec fn v).fab = s.fab :=
  (State.fireVec_onPorts _ _ (OnPorts.refl s)).fab

@[simp] theorem State.log_self (ev : Nat) (data : List (Nat × Nat)) (s : State) : (s.log ev data).self = s.self := by
  simp [State.self]

@[simp] theorem State.tx_self (i : Nat) (f : Flit) (s : State) : (s.tx i f).self = s.self := by
  simp [State.self]

end Sys2Proof.Machine
end

