-- ==== Sys2Proof/Laws/MemoryFrame.lean ====
section
/-! SUPPORT. What leaves device memory and the scratchpads alone: all commands but the ones `Instr.storesMemory` names. -/

namespace Sys2Proof.Machine

open Sys2Proof

/- In turn, not as parallel tasks: each task that waits for another holds a stack of its own. -/
set_option Elab.async false

/-- `MemSame` over the fields it speaks of. -/
def MemSameF (a : State) (dram : Memory) (spad : Memory) : Prop :=
  dram = a.dram ∧ spad = a.spad

/-- No byte of device memory and of the scratchpads differs. -/
def MemSame (a s : State) : Prop := MemSameF a s.dram s.spad

theorem memSameF_fold (a s : State) : MemSameF a s.dram s.spad ↔ MemSame a s := Iff.rfl

theorem memSame_mk (a) (fuse flash por mgt frm pcie mbx nextUid adm ten xlt seq kv sfu builtins pln red plk fab pwr
    dram spad host out free pending) :
    MemSame a (State.mk fuse flash por mgt frm pcie mbx nextUid adm ten xlt seq kv sfu builtins pln red plk fab pwr
        dram spad host out free pending) ↔ MemSameF a dram spad := Iff.rfl

theorem MemSame.refl (s : State) : MemSame s s := ⟨rfl, rfl⟩

theorem foldl_memSame {a : State} {α : Type} {g : State → α → State} (hg : ∀ s x, MemSame a s → MemSame a (g s x)) (l
    : List α)
    {s : State} (h : MemSame a s) : MemSame a (l.foldl g s) := by
  induction l generalizing s with
  | nil => exact h
  | cons x t ih => exact ih (hg _ _ h)

variable {a : State}

theorem gotThen_memSame {α β : Type} {x : State × Got α} {f : α → State → State × Got β} (hx : MemSame a x.1)
    (hf : ∀ v s, MemSame a s → MemSame a (f v s).1) : MemSame a (gotThen x f).1 := by
  unfold gotThen
  split
  · exact hf _ _ hx
  all_goals exact hx

theorem specDevInfo_memSame {s : State} (hs : MemSame a s) (c : CmdId) (p : Nat) (e : Entry) : MemSame a
    (specDevInfo.body c p e s).1 := by
  simp only [specDevInfo]; grind [foldl_memSame, = memSame_mk, = memSameF_fold]

theorem State.updAdmp_memSame (p : Nat) (f : AdmPart → AdmPart) {s : State} (hs : MemSame a s) : MemSame a
    (State.updAdmp p f s) := by
  grind [State.updAdmp, foldl_memSame, = memSame_mk, = memSameF_fold]

theorem State.countQuota_memSame (m : Nat) {s : State} (hs : MemSame a s) : MemSame a (State.countQuota m s) := by
  grind [State.countQuota, State.updAdmp_memSame, foldl_memSame, = memSame_mk, = memSameF_fold]

theorem State.updMb_memSame (m : Nat) (f : Mailbox → Mailbox) {s : State} (hs : MemSame a s) : MemSame a (State.updMb
    m f s) := by
  grind [State.updMb, foldl_memSame, = memSame_mk, = memSameF_fold]

theorem State.stage_memSame (c : CmdId) (oc : Oc) (rs : Reason) (ws : List W64) (final : Bool) {s : State} (hs :
    MemSame a s) : MemSame a (State.stage c oc rs ws final s) := by
  grind [State.stage, State.updMb_memSame, foldl_memSame, = memSame_mk, = memSameF_fold]

theorem State.finish_memSame (c : CmdId) (oc : Oc) (rs : Reason) (ws : List W64) {s : State} (hs : MemSame a s) :
    MemSame a (State.finish c oc rs ws s) := by
  grind [State.finish, State.stage_memSame, foldl_memSame, = memSame_mk, = memSameF_fold]

theorem carryOut_memSame {s : State} (hs : MemSame a s) (sp : Spec) (hb : ∀ c p e s, MemSame a s → MemSame a (sp.body c
    p e s).1) (c : CmdId) (m : Nat) (e : Entry) : MemSame a (carryOut sp c m e s) := by
  unfold carryOut
  dsimp only
  (repeat' split) <;> grind [State.countQuota_memSame, State.finish_memSame]

theorem consume_memSame {s : State} (hs : MemSame a s) (sp : Spec) (hb : ∀ c p e s, MemSame a s → MemSame a (sp.body c
    p e s).1) (op : BitVec 16) (m : Nat) (e : Entry) : MemSame a (consume (some sp) op m e s) := by
  grind [consume, carryOut_memSame, State.updMb_memSame, State.finish_memSame, = memSame_mk, = memSameF_fold]

theorem consume_none_memSame {s : State} (hs : MemSame a s) (op : BitVec 16) (m : Nat) (e : Entry) :
    MemSame a (consume none op m e s) := by
  grind [consume, State.updMb_memSame, State.finish_memSame, = memSame_mk, = memSameF_fold]

theorem serve_memSame {s : State} (hs : MemSame a s) (sp : Spec) (hb : ∀ c p e s, MemSame a s → MemSame a (sp.body c p
    e s).1) (m : Nat) (e : Entry) : MemSame a (serve sp m e s) := by
  grind [serve, consume_memSame]

theorem execDevInfo_memSame (m : Fin 18) (e : Entry) {s : State} (hs : MemSame a s) {t : State} (e_ : execDevInfo m e
    s = .next t) : MemSame a t := by
  grind [execDevInfo, serve_memSame, specDevInfo_memSame, foldl_memSame, = memSame_mk, = memSameF_fold]

theorem frameQueryBody_memSame (c : CmdId) (p : Nat) (x0 : Entry) {s : State} (hs : MemSame a s) : MemSame a
    (frameQueryBody c p x0 s).1 := by
  grind [frameQueryBody, foldl_memSame, = memSame_mk, = memSameF_fold]

theorem specFrameQuery_memSame {s : State} (hs : MemSame a s) (c : CmdId) (p : Nat) (e : Entry) : MemSame a
    (specFrameQuery.body c p e s).1 := by
  simp only [specFrameQuery]; grind [frameQueryBody_memSame, foldl_memSame, = memSame_mk, = memSameF_fold]

theorem execFrameQuery_memSame (m : Fin 18) (e : Entry) {s : State} (hs : MemSame a s) {t : State} (e_ :
    execFrameQuery m e s = .next t) : MemSame a t := by
  grind [execFrameQuery, serve_memSame, specFrameQuery_memSame, foldl_memSame, = memSame_mk, = memSameF_fold]

theorem State.updWork_memSame (i : Nat) (f : PortWork → PortWork) {s : State} (hs : MemSame a s) : MemSame a
    (State.updWork i f s) := by
  grind [State.updWork, foldl_memSame, = memSame_mk, = memSameF_fold]

theorem State.emit_memSame (o : Output) {s : State} (hs : MemSame a s) : MemSame a (State.emit o s) := by
  grind [State.emit, foldl_memSame, = memSame_mk, = memSameF_fold]

theorem State.updLine_memSame (i : Nat) (f : LineTx → LineTx) {s : State} (hs : MemSame a s) : MemSame a
    (State.updLine i f s) := by
  grind [State.updLine, foldl_memSame, = memSame_mk, = memSameF_fold]

theorem State.takeFree_memSame {s : State} (hs : MemSame a s) : MemSame a (State.takeFree s).2 := by
  grind [State.takeFree, foldl_memSame, = memSame_mk, = memSameF_fold]

theorem State.sendLine_memSame (i : Nat) (seq : BitVec 12) (ack : Option (BitVec 12)) (f : Flit) {s : State} (hs :
    MemSame a s) : MemSame a (State.sendLine i seq ack f s) := by
  unfold State.sendLine
  extract_lets w bs fill n
  refine State.emit_memSame _ (State.updLine_memSame _ _ ?_)
  exact State.takeFree_memSame hs

theorem State.txNow_memSame (i : Nat) (f : Flit) {s : State} (hs : MemSame a s) : MemSame a (State.txNow i f s) := by
  grind [State.txNow, State.updWork_memSame, State.sendLine_memSame, foldl_memSame, = memSame_mk, = memSameF_fold]

theorem State.txRaw_memSame (i : Nat) (f : Flit) {s : State} (hs : MemSame a s) : MemSame a (State.txRaw i f s) := by
  grind [State.txRaw, State.updWork_memSame, State.txNow_memSame, foldl_memSame, = memSame_mk, = memSameF_fold]

theorem State.updPort_memSame (i : Nat) (f : Port → Port) {s : State} (hs : MemSame a s) : MemSame a (State.updPort i
    f s) := by
  grind [State.updPort, foldl_memSame, = memSame_mk, = memSameF_fold]

theorem State.flitsOf_memSame (dst : Option Nat) (m : Msg) {s : State} (hs : MemSame a s) : MemSame a (State.flitsOf
    dst m s).2 := by
  simp only [State.flitsOf]
  exact State.takeFree_memSame hs

theorem State.txLocal_memSame (i : Nat) (m : Msg) {s : State} (hs : MemSame a s) : MemSame a (State.txLocal i m s) :=
    by
  grind [State.txLocal, State.flitsOf_memSame, State.txRaw_memSame, foldl_memSame, = memSame_mk, = memSameF_fold]

theorem State.wakeTrain_memSame (i : Nat) {s : State} (hs : MemSame a s) : MemSame a (State.wakeTrain i s) := by
  grind [State.wakeTrain, State.updLine_memSame, foldl_memSame, = memSame_mk, = memSameF_fold]

theorem State.wakePort_memSame (i : Nat) {s : State} (hs : MemSame a s) : MemSame a (State.wakePort i s) := by
  grind [State.wakePort, State.updPort_memSame, State.updWork_memSame, State.txLocal_memSame, State.wakeTrain_memSame,
      foldl_memSame, = memSame_mk, = memSameF_fold]

theorem State.tx_memSame (i : Nat) (f : Flit) {s : State} (hs : MemSame a s) : MemSame a (State.tx i f s) := by
  grind [State.tx, State.updWork_memSame, State.txRaw_memSame, State.wakePort_memSame, foldl_memSame, = memSame_mk, =
      memSameF_fold]

theorem State.updFab_memSame (f : Fab → Fab) {s : State} (hs : MemSame a s) : MemSame a (State.updFab f s) := by
  grind [State.updFab, foldl_memSame, = memSame_mk, = memSameF_fold]

theorem State.updMgt_memSame (f : Mgt → Mgt) {s : State} (hs : MemSame a s) : MemSame a (State.updMgt f s) := by
  grind [State.updMgt, foldl_memSame, = memSame_mk, = memSameF_fold]

theorem State.updFn_memSame (fn : Nat) (f : PciFn → PciFn) {s : State} (hs : MemSame a s) : MemSame a (State.updFn fn
    f s) := by
  grind [State.updFn, foldl_memSame, = memSame_mk, = memSameF_fold]

theorem State.emitPcie_memSame (t : HostTlp) {s : State} (hs : MemSame a s) : MemSame a (State.emitPcie t s) := by
  grind [State.emitPcie, State.emit_memSame, foldl_memSame, = memSame_mk, = memSameF_fold]

theorem State.fireVec_memSame (fn v : Nat) {s : State} (hs : MemSame a s) : MemSame a (State.fireVec fn v s) := by
  grind [State.fireVec, State.updFn_memSame, State.emitPcie_memSame, foldl_memSame, = memSame_mk, = memSameF_fold]

theorem State.writeLog_memSame (ev : Nat) (rs : Reason) (part : Option (Nat × Nat)) (data : W64) {s : State} (hs :
    MemSame a s) : MemSame a (State.writeLog ev rs part data s) := by
  grind [State.writeLog, State.updMgt_memSame, State.emit_memSame, foldl_memSame, = memSame_mk, = memSameF_fold]

theorem State.logEvent_memSame (ev : Nat) (rs : Reason) (part : Option (Nat × Nat)) (data : List (Nat × Nat)) {s :
    State} (hs : MemSame a s) : MemSame a (State.logEvent ev rs part data s) := by
  grind [State.logEvent, State.updMgt_memSame, State.fireVec_memSame, State.writeLog_memSame, foldl_memSame, =
      memSame_mk, = memSameF_fold]

theorem State.discardFlit_memSame (port : Nat) (f : Flit) {s : State} (hs : MemSame a s) : MemSame a
    (State.discardFlit port f s) := by
  grind [State.discardFlit, State.updFab_memSame, State.logEvent_memSame, foldl_memSame, = memSame_mk, = memSameF_fold]

theorem State.log_memSame (ev : Nat) (data : List (Nat × Nat)) {s : State} (hs : MemSame a s) : MemSame a (State.log
    ev data s) := by
  grind [State.log, State.logEvent_memSame, foldl_memSame, = memSame_mk, = memSameF_fold]

theorem State.countAlternate_memSame (port : Nat) (f : Flit) {s : State} (hs : MemSame a s) : MemSame a
    (State.countAlternate port f s) := by
  grind [State.countAlternate, State.updFab_memSame, State.log_memSame, foldl_memSame, = memSame_mk, = memSameF_fold]

theorem State.noteWay_memSame (i : Nat) (f : Flit) {s : State} (hs : MemSame a s) : MemSame a (State.noteWay i f s) :=
    by
  grind [State.noteWay, State.updFab_memSame, foldl_memSame, = memSame_mk, = memSameF_fold]

theorem State.sendFlit_memSame (f : Flit) {s : State} (hs : MemSame a s) : MemSame a (State.sendFlit f s) := by
  grind [State.sendFlit, State.updFab_memSame, State.tx_memSame, State.discardFlit_memSame,
      State.countAlternate_memSame, State.noteWay_memSame, foldl_memSame, = memSame_mk, = memSameF_fold]

theorem State.send_memSame (dst : Nat) (m : Msg) {s : State} (hs : MemSame a s) : MemSame a (State.send dst m s) := by
  grind [State.send, State.emit_memSame, State.flitsOf_memSame, State.sendFlit_memSame, foldl_memSame, = memSame_mk, =
      memSameF_fold]

theorem State.sendAll_memSame (dsts : List Nat) (m : Msg) {s : State} (hs : MemSame a s) : MemSame a (State.sendAll
    dsts m s) := by
  grind [State.sendAll, State.send_memSame, foldl_memSame, = memSame_mk, = memSameF_fold]

theorem State.updFrm_memSame (f : Frm → Frm) {s : State} (hs : MemSame a s) : MemSame a (State.updFrm f s) := by
  grind [State.updFrm, foldl_memSame, = memSame_mk, = memSameF_fold]

theorem frameSetPeriodBody_memSame (c : CmdId) (x0 : Nat) (e : Entry) {s : State} (hs : MemSame a s) : MemSame a
    (frameSetPeriodBody c x0 e s).1 := by
  grind [frameSetPeriodBody, State.updFrm_memSame, State.stage_memSame, State.sendAll_memSame, foldl_memSame, =
      memSame_mk, = memSameF_fold]

theorem specFrameSetPeriod_memSame {s : State} (hs : MemSame a s) (c : CmdId) (p : Nat) (e : Entry) : MemSame a
    (specFrameSetPeriod.body c p e s).1 := by
  simp only [specFrameSetPeriod]; grind [frameSetPeriodBody_memSame, foldl_memSame, = memSame_mk, = memSameF_fold]

theorem execFrameSetPeriod_memSame (m : Fin 18) (e : Entry) {s : State} (hs : MemSame a s) {t : State} (e_ :
    execFrameSetPeriod m e s = .next t) : MemSame a t := by
  grind [execFrameSetPeriod, serve_memSame, specFrameSetPeriod_memSame, foldl_memSame, = memSame_mk, = memSameF_fold]

theorem State.updFrmp_memSame (p : Nat) (f : FrmPart → FrmPart) {s : State} (hs : MemSame a s) : MemSame a
    (State.updFrmp p f s) := by
  grind [State.updFrmp, foldl_memSame, = memSame_mk, = memSameF_fold]

theorem frameSetOverrunLimitBody_memSame (x0 : CmdId) (p : Nat) (e : Entry) {s : State} (hs : MemSame a s) : MemSame a
    (frameSetOverrunLimitBody x0 p e s).1 := by
  grind [frameSetOverrunLimitBody, State.updFrmp_memSame, foldl_memSame, = memSame_mk, = memSameF_fold]

theorem specFrameSetOverrunLimit_memSame {s : State} (hs : MemSame a s) (c : CmdId) (p : Nat) (e : Entry) : MemSame a
    (specFrameSetOverrunLimit.body c p e s).1 := by
  simp only [specFrameSetOverrunLimit]; grind [frameSetOverrunLimitBody_memSame, foldl_memSame, = memSame_mk, =
      memSameF_fold]

theorem execFrameSetOverrunLimit_memSame (m : Fin 18) (e : Entry) {s : State} (hs : MemSame a s) {t : State} (e_ :
    execFrameSetOverrunLimit m e s = .next t) : MemSame a t := by
  grind [execFrameSetOverrunLimit, serve_memSame, specFrameSetOverrunLimit_memSame, foldl_memSame, = memSame_mk, =
      memSameF_fold]

theorem frameSetPreferenceBody_memSame (x0 : CmdId) (x1 : Nat) (e : Entry) {s : State} (hs : MemSame a s) : MemSame a
    (frameSetPreferenceBody x0 x1 e s).1 := by
  grind [frameSetPreferenceBody, State.updFrm_memSame, State.updMgt_memSame, foldl_memSame, = memSame_mk, =
      memSameF_fold]

theorem specFrameSetPreference_memSame {s : State} (hs : MemSame a s) (c : CmdId) (p : Nat) (e : Entry) : MemSame a
    (specFrameSetPreference.body c p e s).1 := by
  simp only [specFrameSetPreference]; grind [frameSetPreferenceBody_memSame, foldl_memSame, = memSame_mk, =
      memSameF_fold]

theorem execFrameSetPreference_memSame (m : Fin 18) (e : Entry) {s : State} (hs : MemSame a s) {t : State} (e_ :
    execFrameSetPreference m e s = .next t) : MemSame a t := by
  grind [execFrameSetPreference, serve_memSame, specFrameSetPreference_memSame, foldl_memSame, = memSame_mk, =
      memSameF_fold]

theorem countChecked_memSame (m i next : Nat) {s : State} (hs : MemSame a s) : MemSame a (countChecked m i next s) :=
    by
  grind [countChecked, State.updMb_memSame, foldl_memSame, = memSame_mk, = memSameF_fold]

theorem State.updAdm_memSame (f : Adm → Adm) {s : State} (hs : MemSame a s) : MemSame a (State.updAdm f s) := by
  grind [State.updAdm, foldl_memSame, = memSame_mk, = memSameF_fold]

theorem State.dropJob_memSame (uid : Nat) {s : State} (hs : MemSame a s) : MemSame a (State.dropJob uid s) := by
  grind [State.dropJob, State.updAdm_memSame, foldl_memSame, = memSame_mk, = memSameF_fold]

theorem State.finishAll_memSame (cs : List CmdId) (oc : Oc) (rs : Reason) (ws : List W64) {s : State} (hs : MemSame a
    s) : MemSame a (State.finishAll cs oc rs ws s) := by
  grind [State.finishAll, State.finish_memSame, foldl_memSame, = memSame_mk, = memSameF_fold]

theorem State.checkedJob_memSame (j : Job) {s : State} (hs : MemSame a s) : MemSame a (State.checkedJob j s) := by
  grind [State.checkedJob, State.updAdm_memSame, State.finish_memSame, State.finishAll_memSame,
      State.countQuota_memSame, State.dropJob_memSame, foldl_memSame, = memSame_mk, = memSameF_fold]

theorem State.triedLine_memSame (x : Nat) {s : State} (hs : MemSame a s) : MemSame a (State.triedLine x s) := by
  grind [State.triedLine, foldl_memSame, = memSame_mk, = memSameF_fold]

theorem State.updXlt_memSame (f : Xlt → Xlt) {s : State} (hs : MemSame a s) : MemSame a (State.updXlt f s) := by
  grind [State.updXlt, foldl_memSame, = memSame_mk, = memSameF_fold]

theorem State.updPor_memSame (f : Por → Por) {s : State} (hs : MemSame a s) : MemSame a (State.updPor f s) := by
  grind [State.updPor, foldl_memSame, = memSame_mk, = memSameF_fold]

theorem State.countCorrected_memSame (q : Phys) {s : State} (hs : MemSame a s) : MemSame a (State.countCorrected q s)
    := by
  unfold State.countCorrected
  split <;> grind (gen := 30) (ematch := 30) (splits := 30) [State.updXlt_memSame, State.updPor_memSame, foldl_memSame,
      = memSame_mk, = memSameF_fold]

theorem State.markUe_memSame (q : Phys) {s : State} (hs : MemSame a s) : MemSame a (State.markUe q s) := by
  unfold State.markUe
  split <;> grind (gen := 30) (ematch := 30) (splits := 30) [State.updXlt_memSame, foldl_memSame, = memSame_mk, =
      memSameF_fold]

theorem State.seeLine_memSame (k : Nat) (q : Phys) {s : State} (hs : MemSame a s) : MemSame a (State.seeLine k q s) :=
    by
  grind [State.seeLine, State.countCorrected_memSame, State.markUe_memSame, foldl_memSame, = memSame_mk, =
      memSameF_fold]

theorem State.seeArg_memSame (p c fuel x n : Nat) {s : State} (hs : MemSame a s) : MemSame a (State.seeArg p c fuel x n
    s) := by
  induction fuel generalizing x n s with
  | zero => exact hs
  | succ k ih => grind (gen := 30) (ematch := 30) (splits := 30) [State.seeArg, State.triedLine_memSame, State.seeLine_memSame]

theorem State.argRead_memSame (p c a0 n : Nat) {s : State} (hs : MemSame a s) : MemSame a (State.argRead p c a0 n s)
    := by
  grind [State.argRead, State.seeArg_memSame, foldl_memSame, = memSame_mk, = memSameF_fold]

theorem State.readList_memSame (j : Job) (i n : Nat) {s : State} (hs : MemSame a s) : MemSame a (State.readList j i n
    s) := by
  grind [State.readList, State.argRead_memSame, foldl_memSame, = memSame_mk, = memSameF_fold]

theorem State.checkJob_memSame (j : Job) {s : State} (hs : MemSame a s) : MemSame a (State.checkJob j s) := by
  grind (gen := 30) (ematch := 30) (splits := 30) [State.checkJob, State.updAdm_memSame, State.finish_memSame,
      State.finishAll_memSame, State.dropJob_memSame, countChecked_memSame, State.checkedJob_memSame,
      State.readList_memSame, foldl_memSame, = memSame_mk, = memSameF_fold]

theorem jobSubmitBody_memSame (c : CmdId) (p : Nat) (e : Entry) {s : State} (hs : MemSame a s) : MemSame a
    (jobSubmitBody c p e s).1 := by
  grind [jobSubmitBody, State.updAdm_memSame, countChecked_memSame, State.readList_memSame, State.checkJob_memSame,
      foldl_memSame, = memSame_mk, = memSameF_fold]

theorem specJobSubmit_memSame {s : State} (hs : MemSame a s) (c : CmdId) (p : Nat) (e : Entry) : MemSame a
    (specJobSubmit.body c p e s).1 := by
  simp only [specJobSubmit]; grind [jobSubmitBody_memSame, foldl_memSame, = memSame_mk, = memSameF_fold]

theorem execJobSubmit_memSame (m : Fin 18) (e : Entry) {s : State} (hs : MemSame a s) {t : State} (e_ : execJobSubmit
    m e s = .next t) : MemSame a t := by
  grind [execJobSubmit, serve_memSame, specJobSubmit_memSame, foldl_memSame, = memSame_mk, = memSameF_fold]

theorem State.endJob_memSame (j : Job) (oc : Oc) (rs : Reason) {s : State} (hs : MemSame a s) : MemSame a
    (State.endJob j oc rs s) := by
  grind [State.endJob, State.finish_memSame, State.finishAll_memSame, State.dropJob_memSame, foldl_memSame, =
      memSame_mk, = memSameF_fold]

theorem State.endIfDrained_memSame (uid : Nat) {s : State} (hs : MemSame a s) : MemSame a (State.endIfDrained uid s)
    := by
  grind [State.endIfDrained, State.endJob_memSame, foldl_memSame, = memSame_mk, = memSameF_fold]

theorem State.updSeq_memSame (f : Seq → Seq) {s : State} (hs : MemSame a s) : MemSame a (State.updSeq f s) := by
  grind [State.updSeq, foldl_memSame, = memSame_mk, = memSameF_fold]

theorem specJobQuery_memSame {s : State} (hs : MemSame a s) (c : CmdId) (p : Nat) (e : Entry) : MemSame a
    (specJobQuery.body c p e s).1 := by
  simp only [specJobQuery]; grind [foldl_memSame, = memSame_mk, = memSameF_fold]

theorem execJobQuery_memSame (m : Fin 18) (e : Entry) {s : State} (hs : MemSame a s) {t : State} (e_ : execJobQuery m
    e s = .next t) : MemSame a t := by
  grind [execJobQuery, serve_memSame, specJobQuery_memSame, foldl_memSame, = memSame_mk, = memSameF_fold]

theorem admSetBody_memSame (x0 : CmdId) (p : Nat) (e : Entry) {s : State} (hs : MemSame a s) : MemSame a (admSetBody
    x0 p e s).1 := by
  grind [admSetBody, State.updAdmp_memSame, State.updAdm_memSame, foldl_memSame, = memSame_mk, = memSameF_fold]

theorem specAdmSet_memSame {s : State} (hs : MemSame a s) (c : CmdId) (p : Nat) (e : Entry) : MemSame a
    (specAdmSet.body c p e s).1 := by
  simp only [specAdmSet]; grind [admSetBody_memSame, foldl_memSame, = memSame_mk, = memSameF_fold]

theorem execAdmSet_memSame (m : Fin 18) (e : Entry) {s : State} (hs : MemSame a s) {t : State} (e_ : execAdmSet m e s
    = .next t) : MemSame a t := by
  grind [execAdmSet, serve_memSame, specAdmSet_memSame, foldl_memSame, = memSame_mk, = memSameF_fold]

theorem admQueryBody_memSame (x0 : CmdId) (p : Nat) (x1 : Entry) {s : State} (hs : MemSame a s) : MemSame a
    (admQueryBody x0 p x1 s).1 := by
  grind [admQueryBody, foldl_memSame, = memSame_mk, = memSameF_fold]

theorem specAdmQuery_memSame {s : State} (hs : MemSame a s) (c : CmdId) (p : Nat) (e : Entry) : MemSame a
    (specAdmQuery.body c p e s).1 := by
  simp only [specAdmQuery]; grind [admQueryBody_memSame, foldl_memSame, = memSame_mk, = memSameF_fold]

theorem execAdmQuery_memSame (m : Fin 18) (e : Entry) {s : State} (hs : MemSame a s) {t : State} (e_ : execAdmQuery m
    e s = .next t) : MemSame a t := by
  grind [execAdmQuery, serve_memSame, specAdmQuery_memSame, foldl_memSame, = memSame_mk, = memSameF_fold]

theorem State.updPart_memSame (p : Nat) (f : Part → Part) {s : State} (hs : MemSame a s) : MemSame a (State.updPart p
    f s) := by
  grind [State.updPart, foldl_memSame, = memSame_mk, = memSameF_fold]

theorem State.updCtx_memSame (p c : Nat) (f : Ctx → Ctx) {s : State} (hs : MemSame a s) : MemSame a (State.updCtx p c
    f s) := by
  grind [State.updCtx, foldl_memSame, = memSame_mk, = memSameF_fold]

theorem State.updPwrp_memSame (p : Nat) (f : PwrPart → PwrPart) {s : State} (hs : MemSame a s) : MemSame a
    (State.updPwrp p f s) := by
  grind [State.updPwrp, foldl_memSame, = memSame_mk, = memSameF_fold]

theorem State.updPln_memSame (f : Pln → Pln) {s : State} (hs : MemSame a s) : MemSame a (State.updPln f s) := by
  grind [State.updPln, foldl_memSame, = memSame_mk, = memSameF_fold]

theorem State.loadBuiltins_memSame (rows : BitVec 16) {s : State} (hs : MemSame a s) : MemSame a (State.loadBuiltins
    rows s) := by
  grind [State.loadBuiltins, foldl_memSame, = memSame_mk, = memSameF_fold]

theorem partCreateBody_memSame (c : CmdId) (p : Nat) (e : Entry) {s : State} (hs : MemSame a s) : MemSame a
    (partCreateBody c p e s).1 := by
  grind [partCreateBody, State.updPart_memSame, State.updCtx_memSame, State.updAdmp_memSame, State.updPwrp_memSame,
      State.updPln_memSame, State.loadBuiltins_memSame, foldl_memSame, = memSame_mk, = memSameF_fold]

theorem specPartCreate_memSame {s : State} (hs : MemSame a s) (c : CmdId) (p : Nat) (e : Entry) : MemSame a
    (specPartCreate.body c p e s).1 := by
  simp only [specPartCreate]; grind [partCreateBody_memSame, foldl_memSame, = memSame_mk, = memSameF_fold]

theorem execPartCreate_memSame (m : Fin 18) (e : Entry) {s : State} (hs : MemSame a s) {t : State} (e_ :
    execPartCreate m e s = .next t) : MemSame a t := by
  grind [execPartCreate, serve_memSame, specPartCreate_memSame, foldl_memSame, = memSame_mk, = memSameF_fold]

theorem startNow_memSame (c : CmdId) (p : Nat) (start : Bool) {s : State} (hs : MemSame a s) : MemSame a (startNow c p
    start s).1 := by
  grind [startNow, State.updPart_memSame, foldl_memSame, = memSame_mk, = memSameF_fold]

theorem startBody_memSame (start : Bool) (c : CmdId) (p : Nat) (x0 : Entry) {s : State} (hs : MemSame a s) : MemSame a
    (startBody start c p x0 s).1 := by
  grind [startBody, State.updAdm_memSame, State.stage_memSame, startNow_memSame, foldl_memSame, = memSame_mk, =
      memSameF_fold]

theorem specPartStart_memSame {s : State} (hs : MemSame a s) (c : CmdId) (p : Nat) (e : Entry) : MemSame a
    (specPartStart.body c p e s).1 := by
  simp only [specPartStart]; grind [startBody_memSame, foldl_memSame, = memSame_mk, = memSameF_fold]

theorem execPartStart_memSame (m : Fin 18) (e : Entry) {s : State} (hs : MemSame a s) {t : State} (e_ : execPartStart
    m e s = .next t) : MemSame a t := by
  grind [execPartStart, serve_memSame, specPartStart_memSame, foldl_memSame, = memSame_mk, = memSameF_fold]

theorem partFenceBody_memSame (c : CmdId) (p : Nat) (x0 : Entry) {s : State} (hs : MemSame a s) : MemSame a
    (partFenceBody c p x0 s).1 := by
  grind [partFenceBody, State.updPart_memSame, foldl_memSame, = memSame_mk, = memSameF_fold]

theorem specPartFence_memSame {s : State} (hs : MemSame a s) (c : CmdId) (p : Nat) (e : Entry) : MemSame a
    (specPartFence.body c p e s).1 := by
  simp only [specPartFence]; grind [partFenceBody_memSame, foldl_memSame, = memSame_mk, = memSameF_fold]

theorem execPartFence_memSame (m : Fin 18) (e : Entry) {s : State} (hs : MemSame a s) {t : State} (e_ : execPartFence
    m e s = .next t) : MemSame a t := by
  grind [execPartFence, serve_memSame, specPartFence_memSame, foldl_memSame, = memSame_mk, = memSameF_fold]

theorem specPartResume_memSame {s : State} (hs : MemSame a s) (c : CmdId) (p : Nat) (e : Entry) : MemSame a
    (specPartResume.body c p e s).1 := by
  simp only [specPartResume]; grind [startBody_memSame, foldl_memSame, = memSame_mk, = memSameF_fold]

theorem execPartResume_memSame (m : Fin 18) (e : Entry) {s : State} (hs : MemSame a s) {t : State} (e_ :
    execPartResume m e s = .next t) : MemSame a t := by
  grind [execPartResume, serve_memSame, specPartResume_memSame, foldl_memSame, = memSame_mk, = memSameF_fold]

theorem State.updPwr_memSame (f : Pwr → Pwr) {s : State} (hs : MemSame a s) : MemSame a (State.updPwr f s) := by
  grind [State.updPwr, foldl_memSame, = memSame_mk, = memSameF_fold]

theorem State.settle_memSame (o : Op) (m : Nat) (retires : Bool) {s : State} (hs : MemSame a s) : MemSame a
    (State.settle o m retires s) := by
  grind [State.settle, State.updPwrp_memSame, State.updPwr_memSame, foldl_memSame, = memSame_mk, = memSameF_fold]

theorem State.leaveFill_memSame (o : Op) {s : State} (hs : MemSame a s) : MemSame a (State.leaveFill o s) := by
  grind [State.leaveFill, State.updPwr_memSame, foldl_memSame, = memSame_mk, = memSameF_fold]

theorem State.wakePorts_memSame {s : State} (hs : MemSame a s) : MemSame a (State.wakePorts s) := by
  grind [State.wakePorts, State.wakePort_memSame, foldl_memSame, = memSame_mk, = memSameF_fold]

theorem State.setPart_memSame (p : Nat) (st : PState) {s : State} (hs : MemSame a s) : MemSame a (State.setPart p st
    s) := by
  grind [State.setPart, State.updPart_memSame, State.fireVec_memSame, State.logEvent_memSame, State.wakePorts_memSame,
      foldl_memSame, = memSame_mk, = memSameF_fold]

theorem State.updSpan_memSame (id : BitVec 16) (f : Span → Span) {s : State} (hs : MemSame a s) : MemSame a
    (State.updSpan id f s) := by
  grind [State.updSpan, foldl_memSame, = memSame_mk, = memSameF_fold]

theorem State.spanDie_memSame (id : BitVec 16) {s : State} (hs : MemSame a s) : MemSame a (State.spanDie id s) := by
  grind [State.spanDie, State.sendAll_memSame, State.updSpan_memSame, foldl_memSame, = memSame_mk, = memSameF_fold]

theorem State.updRed_memSame (f : Red → Red) {s : State} (hs : MemSame a s) : MemSame a (State.updRed f s) := by
  grind [State.updRed, foldl_memSame, = memSame_mk, = memSameF_fold]

theorem State.killGroups_memSame (p c : Nat) (cause : Reason) {s : State} (hs : MemSame a s) : MemSame a
    (State.killGroups p c cause s) := by
  grind [State.killGroups, State.updRed_memSame, State.send_memSame, foldl_memSame, = memSame_mk, = memSameF_fold]

theorem State.killNotices_memSame (p c : Nat) (cause : Reason) {s : State} (hs : MemSame a s) : MemSame a
    (State.killNotices p c cause s) := by
  grind [State.killNotices, State.updCtx_memSame, State.logEvent_memSame, State.send_memSame, foldl_memSame, =
      memSame_mk, = memSameF_fold]

theorem State.refuseLoads_memSame (p : Nat) {s : State} (hs : MemSame a s) : MemSame a (State.refuseLoads p s) := by
  grind [State.refuseLoads, State.finishAll_memSame, foldl_memSame, = memSame_mk, = memSameF_fold]

theorem State.refuseWaiting_memSame (p : Nat) {s : State} (hs : MemSame a s) : MemSame a (State.refuseWaiting p s) :=
    by
  grind [State.refuseWaiting, State.updPart_memSame, State.finishAll_memSame, State.refuseLoads_memSame, foldl_memSame,
      = memSame_mk, = memSameF_fold]

theorem specPartQuery_memSame {s : State} (hs : MemSame a s) (c : CmdId) (p : Nat) (e : Entry) : MemSame a
    (specPartQuery.body c p e s).1 := by
  simp only [specPartQuery]; grind [foldl_memSame, = memSame_mk, = memSameF_fold]

theorem execPartQuery_memSame (m : Fin 18) (e : Entry) {s : State} (hs : MemSame a s) {t : State} (e_ : execPartQuery
    m e s = .next t) : MemSame a t := by
  grind [execPartQuery, serve_memSame, specPartQuery_memSame, foldl_memSame, = memSame_mk, = memSameF_fold]

theorem State.takeArg_memSame (p c a0 n : Nat) {s : State} (hs : MemSame a s) : MemSame a (State.takeArg p c a0 n s).2
    := by
  grind [State.takeArg, State.argRead_memSame, foldl_memSame, = memSame_mk, = memSameF_fold]

theorem spanCreateBody_memSame (c : CmdId) (p : Nat) (e : Entry) {s : State} (hs : MemSame a s) : MemSame a
    (spanCreateBody c p e s).1 := by
  grind [spanCreateBody, State.updPln_memSame, State.takeArg_memSame, foldl_memSame, = memSame_mk, = memSameF_fold]

theorem specSpanCreate_memSame {s : State} (hs : MemSame a s) (c : CmdId) (p : Nat) (e : Entry) : MemSame a
    (specSpanCreate.body c p e s).1 := by
  simp only [specSpanCreate]; grind [spanCreateBody_memSame, foldl_memSame, = memSame_mk, = memSameF_fold]

theorem execSpanCreate_memSame (m : Fin 18) (e : Entry) {s : State} (hs : MemSame a s) {t : State} (e_ :
    execSpanCreate m e s = .next t) : MemSame a t := by
  grind [execSpanCreate, serve_memSame, specSpanCreate_memSame, foldl_memSame, = memSame_mk, = memSameF_fold]

theorem State.tellPorts_memSame (lead : Nat) {s : State} (hs : MemSame a s) : MemSame a (State.tellPorts lead s) := by
  grind [State.tellPorts, State.send_memSame, foldl_memSame, = memSame_mk, = memSameF_fold]

theorem spanJoinBody_memSame (c : CmdId) (p : Nat) (e : Entry) {s : State} (hs : MemSame a s) : MemSame a
    (spanJoinBody c p e s).1 := by
  grind [spanJoinBody, State.send_memSame, State.tellPorts_memSame, foldl_memSame, = memSame_mk, = memSameF_fold]

theorem specSpanJoin_memSame {s : State} (hs : MemSame a s) (c : CmdId) (p : Nat) (e : Entry) : MemSame a
    (specSpanJoin.body c p e s).1 := by
  simp only [specSpanJoin]; grind [spanJoinBody_memSame, foldl_memSame, = memSame_mk, = memSameF_fold]

theorem execSpanJoin_memSame (m : Fin 18) (e : Entry) {s : State} (hs : MemSame a s) {t : State} (e_ : execSpanJoin m
    e s = .next t) : MemSame a t := by
  grind [execSpanJoin, serve_memSame, specSpanJoin_memSame, foldl_memSame, = memSame_mk, = memSameF_fold]

theorem spanLeaveBody_memSame (c : CmdId) (p : Nat) (e : Entry) {s : State} (hs : MemSame a s) : MemSame a
    (spanLeaveBody c p e s).1 := by
  grind [spanLeaveBody, State.send_memSame, State.updSpan_memSame, foldl_memSame, = memSame_mk, = memSameF_fold]

theorem specSpanLeave_memSame {s : State} (hs : MemSame a s) (c : CmdId) (p : Nat) (e : Entry) : MemSame a
    (specSpanLeave.body c p e s).1 := by
  simp only [specSpanLeave]; grind [spanLeaveBody_memSame, foldl_memSame, = memSame_mk, = memSameF_fold]

theorem execSpanLeave_memSame (m : Fin 18) (e : Entry) {s : State} (hs : MemSame a s) {t : State} (e_ : execSpanLeave
    m e s = .next t) : MemSame a t := by
  grind [execSpanLeave, serve_memSame, specSpanLeave_memSame, foldl_memSame, = memSame_mk, = memSameF_fold]

theorem spanDestroyBody_memSame (c : CmdId) (p : Nat) (e : Entry) {s : State} (hs : MemSame a s) : MemSame a
    (spanDestroyBody c p e s).1 := by
  grind [spanDestroyBody, State.sendAll_memSame, State.updSpan_memSame, foldl_memSame, = memSame_mk, = memSameF_fold]

theorem specSpanDestroy_memSame {s : State} (hs : MemSame a s) (c : CmdId) (p : Nat) (e : Entry) : MemSame a
    (specSpanDestroy.body c p e s).1 := by
  simp only [specSpanDestroy]; grind [spanDestroyBody_memSame, foldl_memSame, = memSame_mk, = memSameF_fold]

theorem execSpanDestroy_memSame (m : Fin 18) (e : Entry) {s : State} (hs : MemSame a s) {t : State} (e_ :
    execSpanDestroy m e s = .next t) : MemSame a t := by
  grind [execSpanDestroy, serve_memSame, specSpanDestroy_memSame, foldl_memSame, = memSame_mk, = memSameF_fold]

theorem ctxCreateBody_memSame (x0 : CmdId) (p : Nat) (e : Entry) {s : State} (hs : MemSame a s) : MemSame a
    (ctxCreateBody x0 p e s).1 := by
  grind [ctxCreateBody, State.updCtx_memSame, foldl_memSame, = memSame_mk, = memSameF_fold]

theorem specCtxCreate_memSame {s : State} (hs : MemSame a s) (c : CmdId) (p : Nat) (e : Entry) : MemSame a
    (specCtxCreate.body c p e s).1 := by
  simp only [specCtxCreate]; grind [ctxCreateBody_memSame, foldl_memSame, = memSame_mk, = memSameF_fold]

theorem execCtxCreate_memSame (m : Fin 18) (e : Entry) {s : State} (hs : MemSame a s) {t : State} (e_ : execCtxCreate
    m e s = .next t) : MemSame a t := by
  grind [execCtxCreate, serve_memSame, specCtxCreate_memSame, foldl_memSame, = memSame_mk, = memSameF_fold]

theorem State.dropEntries_memSame (p : Nat) (vpns wins : List Nat) {s : State} (hs : MemSame a s) : MemSame a
    (State.dropEntries p vpns wins s) := by
  grind [State.dropEntries, State.updXlt_memSame, foldl_memSame, = memSame_mk, = memSameF_fold]

theorem State.shootdown_memSame (p : Nat) (vpns wins : List Nat) (next : ShootThen) {s : State} (hs : MemSame a s) :
    MemSame a (State.shootdown p vpns wins next s) := by
  grind [State.shootdown, State.updXlt_memSame, State.dropEntries_memSame, foldl_memSame, = memSame_mk, = memSameF_fold]

theorem State.unmapVpns_memSame (p : Nat) (vpns : List Nat) {s : State} (hs : MemSame a s) : MemSame a
    (State.unmapVpns p vpns s) := by
  grind [State.unmapVpns, State.updXlt_memSame, foldl_memSame, = memSame_mk, = memSameF_fold]

theorem State.unmapWins_memSame (p : Nat) (wins : List Nat) {s : State} (hs : MemSame a s) : MemSame a
    (State.unmapWins p wins s) := by
  grind [State.unmapWins, State.updXlt_memSame, foldl_memSame, = memSame_mk, = memSameF_fold]

theorem ctxDestroyBody_memSame (c : CmdId) (p : Nat) (e : Entry) {s : State} (hs : MemSame a s) : MemSame a
    (ctxDestroyBody c p e s).1 := by
  grind [ctxDestroyBody, State.updCtx_memSame, State.shootdown_memSame, State.unmapVpns_memSame,
      State.unmapWins_memSame, foldl_memSame, = memSame_mk, = memSameF_fold]

theorem specCtxDestroy_memSame {s : State} (hs : MemSame a s) (c : CmdId) (p : Nat) (e : Entry) : MemSame a
    (specCtxDestroy.body c p e s).1 := by
  simp only [specCtxDestroy]; grind [ctxDestroyBody_memSame, foldl_memSame, = memSame_mk, = memSameF_fold]

theorem execCtxDestroy_memSame (m : Fin 18) (e : Entry) {s : State} (hs : MemSame a s) {t : State} (e_ :
    execCtxDestroy m e s = .next t) : MemSame a t := by
  grind [execCtxDestroy, serve_memSame, specCtxDestroy_memSame, foldl_memSame, = memSame_mk, = memSameF_fold]

theorem specCtxQuery_memSame {s : State} (hs : MemSame a s) (c : CmdId) (p : Nat) (e : Entry) : MemSame a
    (specCtxQuery.body c p e s).1 := by
  simp only [specCtxQuery]; grind [foldl_memSame, = memSame_mk, = memSameF_fold]

theorem execCtxQuery_memSame (m : Fin 18) (e : Entry) {s : State} (hs : MemSame a s) {t : State} (e_ : execCtxQuery m
    e s = .next t) : MemSame a t := by
  grind [execCtxQuery, serve_memSame, specCtxQuery_memSame, foldl_memSame, = memSame_mk, = memSameF_fold]

theorem ctxPostmortemBody_memSame (c : CmdId) (p : Nat) (e : Entry) {s : State} (hs : MemSame a s) : MemSame a
    (ctxPostmortemBody c p e s).1 := by
  grind [ctxPostmortemBody, State.updXlt_memSame, State.shootdown_memSame, foldl_memSame, = memSame_mk, = memSameF_fold]

theorem specCtxPostmortem_memSame {s : State} (hs : MemSame a s) (c : CmdId) (p : Nat) (e : Entry) : MemSame a
    (specCtxPostmortem.body c p e s).1 := by
  simp only [specCtxPostmortem]; grind [ctxPostmortemBody_memSame, foldl_memSame, = memSame_mk, = memSameF_fold]

theorem execCtxPostmortem_memSame (m : Fin 18) (e : Entry) {s : State} (hs : MemSame a s) {t : State} (e_ :
    execCtxPostmortem m e s = .next t) : MemSame a t := by
  grind [execCtxPostmortem, serve_memSame, specCtxPostmortem_memSame, foldl_memSame, = memSame_mk, = memSameF_fold]

theorem execCtxPostmortemAdopt_memSame (m : Fin 18) (e : Entry) {s : State} (hs : MemSame a s) {t : State} (e_ :
    execCtxPostmortemAdopt m e s = .next t) : MemSame a t := by
  grind [execCtxPostmortemAdopt, serve_memSame, specCtxPostmortem_memSame, foldl_memSame, = memSame_mk, = memSameF_fold]

theorem memAllocBody_memSame (c : CmdId) (p : Nat) (e : Entry) {s : State} (hs : MemSame a s) : MemSame a
    (memAllocBody c p e s).1 := by
  grind [memAllocBody, State.updXlt_memSame, foldl_memSame, = memSame_mk, = memSameF_fold]

theorem specMemAlloc_memSame {s : State} (hs : MemSame a s) (c : CmdId) (p : Nat) (e : Entry) : MemSame a
    (specMemAlloc.body c p e s).1 := by
  simp only [specMemAlloc]; grind [memAllocBody_memSame, foldl_memSame, = memSame_mk, = memSameF_fold]

theorem execMemAlloc_memSame (m : Fin 18) (e : Entry) {s : State} (hs : MemSame a s) {t : State} (e_ : execMemAlloc m
    e s = .next t) : MemSame a t := by
  grind [execMemAlloc, serve_memSame, specMemAlloc_memSame, foldl_memSame, = memSame_mk, = memSameF_fold]

theorem memFreeBody_memSame (c : CmdId) (p : Nat) (e : Entry) {s : State} (hs : MemSame a s) : MemSame a (memFreeBody
    c p e s).1 := by
  grind [memFreeBody, State.shootdown_memSame, State.unmapVpns_memSame, foldl_memSame, = memSame_mk, = memSameF_fold]

theorem specMemFree_memSame {s : State} (hs : MemSame a s) (c : CmdId) (p : Nat) (e : Entry) : MemSame a
    (specMemFree.body c p e s).1 := by
  simp only [specMemFree]; grind [memFreeBody_memSame, foldl_memSame, = memSame_mk, = memSameF_fold]

theorem execMemFree_memSame (m : Fin 18) (e : Entry) {s : State} (hs : MemSame a s) {t : State} (e_ : execMemFree m e
    s = .next t) : MemSame a t := by
  grind [execMemFree, serve_memSame, specMemFree_memSame, foldl_memSame, = memSame_mk, = memSameF_fold]

theorem memMapHostBody_memSame (c : CmdId) (p : Nat) (e : Entry) {s : State} (hs : MemSame a s) : MemSame a
    (memMapHostBody c p e s).1 := by
  grind [memMapHostBody, State.updXlt_memSame, foldl_memSame, = memSame_mk, = memSameF_fold]

theorem specMemMapHost_memSame {s : State} (hs : MemSame a s) (c : CmdId) (p : Nat) (e : Entry) : MemSame a
    (specMemMapHost.body c p e s).1 := by
  simp only [specMemMapHost]; grind [memMapHostBody_memSame, foldl_memSame, = memSame_mk, = memSameF_fold]

theorem execMemMapHost_memSame (m : Fin 18) (e : Entry) {s : State} (hs : MemSame a s) {t : State} (e_ :
    execMemMapHost m e s = .next t) : MemSame a t := by
  grind [execMemMapHost, serve_memSame, specMemMapHost_memSame, foldl_memSame, = memSame_mk, = memSameF_fold]

theorem memUnmapHostBody_memSame (c : CmdId) (p : Nat) (e : Entry) {s : State} (hs : MemSame a s) : MemSame a
    (memUnmapHostBody c p e s).1 := by
  grind [memUnmapHostBody, State.shootdown_memSame, State.unmapWins_memSame, foldl_memSame, = memSame_mk, =
      memSameF_fold]

theorem specMemUnmapHost_memSame {s : State} (hs : MemSame a s) (c : CmdId) (p : Nat) (e : Entry) : MemSame a
    (specMemUnmapHost.body c p e s).1 := by
  simp only [specMemUnmapHost]; grind [memUnmapHostBody_memSame, foldl_memSame, = memSame_mk, = memSameF_fold]

theorem execMemUnmapHost_memSame (m : Fin 18) (e : Entry) {s : State} (hs : MemSame a s) {t : State} (e_ :
    execMemUnmapHost m e s = .next t) : MemSame a t := by
  grind [execMemUnmapHost, serve_memSame, specMemUnmapHost_memSame, foldl_memSame, = memSame_mk, = memSameF_fold]

theorem specMemQuery_memSame {s : State} (hs : MemSame a s) (c : CmdId) (p : Nat) (e : Entry) : MemSame a
    (specMemQuery.body c p e s).1 := by
  simp only [specMemQuery]; grind [foldl_memSame, = memSame_mk, = memSameF_fold]

theorem execMemQuery_memSame (m : Fin 18) (e : Entry) {s : State} (hs : MemSame a s) {t : State} (e_ : execMemQuery m
    e s = .next t) : MemSame a t := by
  grind [execMemQuery, serve_memSame, specMemQuery_memSame, foldl_memSame, = memSame_mk, = memSameF_fold]

theorem State.setBound_memSame (p r : Nat) (v : W64) {s : State} (hs : MemSame a s) : MemSame a (State.setBound p r v
    s) := by
  grind [State.setBound, State.updSeq_memSame, foldl_memSame, = memSame_mk, = memSameF_fold]

theorem boundSetBody_memSame (x0 : CmdId) (p : Nat) (e : Entry) {s : State} (hs : MemSame a s) : MemSame a
    (boundSetBody x0 p e s).1 := by
  grind [boundSetBody, State.setBound_memSame, foldl_memSame, = memSame_mk, = memSameF_fold]

theorem specBoundSet_memSame {s : State} (hs : MemSame a s) (c : CmdId) (p : Nat) (e : Entry) : MemSame a
    (specBoundSet.body c p e s).1 := by
  simp only [specBoundSet]; grind [boundSetBody_memSame, foldl_memSame, = memSame_mk, = memSameF_fold]

theorem execBoundSet_memSame (m : Fin 18) (e : Entry) {s : State} (hs : MemSame a s) {t : State} (e_ : execBoundSet m
    e s = .next t) : MemSame a t := by
  grind [execBoundSet, serve_memSame, specBoundSet_memSame, foldl_memSame, = memSame_mk, = memSameF_fold]

theorem boundGetBody_memSame (x0 : CmdId) (p : Nat) (e : Entry) {s : State} (hs : MemSame a s) : MemSame a
    (boundGetBody x0 p e s).1 := by
  grind [boundGetBody, foldl_memSame, = memSame_mk, = memSameF_fold]

theorem specBoundGet_memSame {s : State} (hs : MemSame a s) (c : CmdId) (p : Nat) (e : Entry) : MemSame a
    (specBoundGet.body c p e s).1 := by
  simp only [specBoundGet]; grind [boundGetBody_memSame, foldl_memSame, = memSame_mk, = memSameF_fold]

theorem execBoundGet_memSame (m : Fin 18) (e : Entry) {s : State} (hs : MemSame a s) {t : State} (e_ : execBoundGet m
    e s = .next t) : MemSame a t := by
  grind [execBoundGet, serve_memSame, specBoundGet_memSame, foldl_memSame, = memSame_mk, = memSameF_fold]

theorem withPool_memSame (f : CmdId → Nat → Entry → KvPool → State → State × Reply) (c : CmdId) (p : Nat) (e : Entry)
    {s : State} (hf : ∀ y0 y1 y2 y3 y4, MemSame a y4 → MemSame a (f y0 y1 y2 y3 y4).1) (hs : MemSame a s) : MemSame a
    (withPool f c p e s).1 := by
  grind [withPool, foldl_memSame, = memSame_mk, = memSameF_fold]

theorem State.setPool_memSame (p : Nat) (k : KvPool) {s : State} (hs : MemSame a s) : MemSame a (State.setPool p k s)
    := by
  grind [State.setPool, foldl_memSame, = memSame_mk, = memSameF_fold]

theorem kvReleaseBlock_memSame (e : Entry) (p : Nat) (k : KvPool) {s : State} (hs : MemSame a s) : MemSame a
    (kvReleaseBlock e p k s).1 := by
  grind [kvReleaseBlock, State.setPool_memSame, foldl_memSame, = memSame_mk, = memSameF_fold]

theorem State.releasePages_memSame (ppns : List Nat) {s : State} (hs : MemSame a s) : MemSame a (State.releasePages
    ppns s) := by
  grind [State.releasePages, State.updXlt_memSame, State.log_memSame, foldl_memSame, = memSame_mk, = memSameF_fold]

theorem kvReleasePoolBody_memSame (p : Nat) (k : KvPool) {s : State} (hs : MemSame a s) : MemSame a (kvReleasePoolBody
    p k s).1 := by
  grind [kvReleasePoolBody, State.releasePages_memSame, foldl_memSame, = memSame_mk, = memSameF_fold]

theorem specKvRelease_memSame {s : State} (hs : MemSame a s) (c : CmdId) (p : Nat) (e : Entry) : MemSame a
    (specKvRelease.body c p e s).1 := by
  simp only [specKvRelease]; grind [withPool_memSame, kvReleaseBlock_memSame, kvReleasePoolBody_memSame, foldl_memSame,
      = memSame_mk, = memSameF_fold]

theorem execKvRelease_memSame (m : Fin 18) (e : Entry) {s : State} (hs : MemSame a s) {t : State} (e_ : execKvRelease
    m e s = .next t) : MemSame a t := by
  grind [execKvRelease, serve_memSame, specKvRelease_memSame, foldl_memSame, = memSame_mk, = memSameF_fold]

theorem execKvReleasePool_memSame (m : Fin 18) (e : Entry) {s : State} (hs : MemSame a s) {t : State} (e_ :
    execKvReleasePool m e s = .next t) : MemSame a t := by
  grind [execKvReleasePool, serve_memSame, specKvRelease_memSame, foldl_memSame, = memSame_mk, = memSameF_fold]

theorem kvInsertBody_memSame (c : CmdId) (p : Nat) (e : Entry) (k : KvPool) {s : State} (hs : MemSame a s) : MemSame a
    (kvInsertBody c p e k s).1 := by
  grind (gen := 30) (ematch := 30) (splits := 30) [kvInsertBody, State.takeArg_memSame, State.setPool_memSame,
      foldl_memSame, = memSame_mk, = memSameF_fold]

theorem specKvInsert_memSame {s : State} (hs : MemSame a s) (c : CmdId) (p : Nat) (e : Entry) : MemSame a
    (specKvInsert.body c p e s).1 := by
  simp only [specKvInsert]; grind [withPool_memSame, kvInsertBody_memSame, foldl_memSame, = memSame_mk, = memSameF_fold]

theorem execKvInsert_memSame (m : Fin 18) (e : Entry) {s : State} (hs : MemSame a s) {t : State} (e_ : execKvInsert m
    e s = .next t) : MemSame a t := by
  grind [execKvInsert, serve_memSame, specKvInsert_memSame, foldl_memSame, = memSame_mk, = memSameF_fold]

theorem kvLookupBody_memSame (c : CmdId) (p : Nat) (e : Entry) (k : KvPool) {s : State} (hs : MemSame a s) : MemSame a
    (kvLookupBody c p e k s).1 := by
  grind [kvLookupBody, State.takeArg_memSame, foldl_memSame, = memSame_mk, = memSameF_fold]

theorem specKvLookup_memSame {s : State} (hs : MemSame a s) (c : CmdId) (p : Nat) (e : Entry) : MemSame a
    (specKvLookup.body c p e s).1 := by
  simp only [specKvLookup]; grind [withPool_memSame, kvLookupBody_memSame, foldl_memSame, = memSame_mk, = memSameF_fold]

theorem execKvLookup_memSame (m : Fin 18) (e : Entry) {s : State} (hs : MemSame a s) {t : State} (e_ : execKvLookup m
    e s = .next t) : MemSame a t := by
  grind [execKvLookup, serve_memSame, specKvLookup_memSame, foldl_memSame, = memSame_mk, = memSameF_fold]

theorem kvEvictBody_memSame (x0 : CmdId) (p : Nat) (e : Entry) (k : KvPool) {s : State} (hs : MemSame a s) : MemSame a
    (kvEvictBody x0 p e k s).1 := by
  grind [kvEvictBody, State.setPool_memSame, foldl_memSame, = memSame_mk, = memSameF_fold]

theorem specKvEvict_memSame {s : State} (hs : MemSame a s) (c : CmdId) (p : Nat) (e : Entry) : MemSame a
    (specKvEvict.body c p e s).1 := by
  simp only [specKvEvict]; grind [withPool_memSame, kvEvictBody_memSame, foldl_memSame, = memSame_mk, = memSameF_fold]

theorem execKvEvictSubtree_memSame (m : Fin 18) (e : Entry) {s : State} (hs : MemSame a s) {t : State} (e_ :
    execKvEvictSubtree m e s = .next t) : MemSame a t := by
  grind [execKvEvictSubtree, serve_memSame, specKvEvict_memSame, foldl_memSame, = memSame_mk, = memSameF_fold]

theorem execKvEvictOldest_memSame (m : Fin 18) (e : Entry) {s : State} (hs : MemSame a s) {t : State} (e_ :
    execKvEvictOldest m e s = .next t) : MemSame a t := by
  grind [execKvEvictOldest, serve_memSame, specKvEvict_memSame, foldl_memSame, = memSame_mk, = memSameF_fold]

theorem execKvEvictAll_memSame (m : Fin 18) (e : Entry) {s : State} (hs : MemSame a s) {t : State} (e_ :
    execKvEvictAll m e s = .next t) : MemSame a t := by
  grind [execKvEvictAll, serve_memSame, specKvEvict_memSame, foldl_memSame, = memSame_mk, = memSameF_fold]

theorem kvQueryBody_memSame (x0 : CmdId) (p : Nat) (e : Entry) {s : State} (hs : MemSame a s) : MemSame a (kvQueryBody
    x0 p e s).1 := by
  grind [kvQueryBody, foldl_memSame, = memSame_mk, = memSameF_fold]

theorem specKvQuery_memSame {s : State} (hs : MemSame a s) (c : CmdId) (p : Nat) (e : Entry) : MemSame a
    (specKvQuery.body c p e s).1 := by
  simp only [specKvQuery]; grind [kvQueryBody_memSame, foldl_memSame, = memSame_mk, = memSameF_fold]

theorem execKvQuery_memSame (m : Fin 18) (e : Entry) {s : State} (hs : MemSame a s) {t : State} (e_ : execKvQuery m e
    s = .next t) : MemSame a t := by
  grind [execKvQuery, serve_memSame, specKvQuery_memSame, foldl_memSame, = memSame_mk, = memSameF_fold]

theorem State.updSlot_memSame (key : Nat) (f : SfuSlot → SfuSlot) {s : State} (hs : MemSame a s) : MemSame a
    (State.updSlot key f s) := by
  grind [State.updSlot, foldl_memSame, = memSame_mk, = memSameF_fold]

theorem sfuLoadTableBody_memSame (c : CmdId) (p : Nat) (e : Entry) {s : State} (hs : MemSame a s) : MemSame a
    (sfuLoadTableBody c p e s).1 := by
  grind [sfuLoadTableBody, State.takeArg_memSame, State.updSlot_memSame, foldl_memSame, = memSame_mk, = memSameF_fold]

theorem specSfuLoadTable_memSame {s : State} (hs : MemSame a s) (c : CmdId) (p : Nat) (e : Entry) : MemSame a
    (specSfuLoadTable.body c p e s).1 := by
  simp only [specSfuLoadTable]; grind [sfuLoadTableBody_memSame, foldl_memSame, = memSame_mk, = memSameF_fold]

theorem execSfuLoadTable_memSame (m : Fin 18) (e : Entry) {s : State} (hs : MemSame a s) {t : State} (e_ :
    execSfuLoadTable m e s = .next t) : MemSame a t := by
  grind [execSfuLoadTable, serve_memSame, specSfuLoadTable_memSame, foldl_memSame, = memSame_mk, = memSameF_fold]

theorem sfuUnloadTableBody_memSame (c : CmdId) (p : Nat) (e : Entry) {s : State} (hs : MemSame a s) : MemSame a
    (sfuUnloadTableBody c p e s).1 := by
  grind [sfuUnloadTableBody, State.updSlot_memSame, foldl_memSame, = memSame_mk, = memSameF_fold]

theorem specSfuUnloadTable_memSame {s : State} (hs : MemSame a s) (c : CmdId) (p : Nat) (e : Entry) : MemSame a
    (specSfuUnloadTable.body c p e s).1 := by
  simp only [specSfuUnloadTable]; grind [sfuUnloadTableBody_memSame, foldl_memSame, = memSame_mk, = memSameF_fold]

theorem execSfuUnloadTable_memSame (m : Fin 18) (e : Entry) {s : State} (hs : MemSame a s) {t : State} (e_ :
    execSfuUnloadTable m e s = .next t) : MemSame a t := by
  grind [execSfuUnloadTable, serve_memSame, specSfuUnloadTable_memSame, foldl_memSame, = memSame_mk, = memSameF_fold]

theorem sfuLoadProgramBody_memSame (c : CmdId) (p : Nat) (e : Entry) {s : State} (hs : MemSame a s) : MemSame a
    (sfuLoadProgramBody c p e s).1 := by
  grind [sfuLoadProgramBody, State.takeArg_memSame, State.updSlot_memSame, foldl_memSame, = memSame_mk, = memSameF_fold]

theorem specSfuLoadProgram_memSame {s : State} (hs : MemSame a s) (c : CmdId) (p : Nat) (e : Entry) : MemSame a
    (specSfuLoadProgram.body c p e s).1 := by
  simp only [specSfuLoadProgram]; grind [sfuLoadProgramBody_memSame, foldl_memSame, = memSame_mk, = memSameF_fold]

theorem execSfuLoadProgram_memSame (m : Fin 18) (e : Entry) {s : State} (hs : MemSame a s) {t : State} (e_ :
    execSfuLoadProgram m e s = .next t) : MemSame a t := by
  grind [execSfuLoadProgram, serve_memSame, specSfuLoadProgram_memSame, foldl_memSame, = memSame_mk, = memSameF_fold]

theorem State.declare_memSame (lead : Nat) (d : Declared) {s : State} (hs : MemSame a s) : MemSame a (State.declare
    lead d s) := by
  grind [State.declare, State.updPln_memSame, State.send_memSame, foldl_memSame, = memSame_mk, = memSameF_fold]

theorem flowDeclareBody_memSame (c : CmdId) (p : Nat) (e : Entry) {s : State} (hs : MemSame a s) : MemSame a
    (flowDeclareBody c p e s).1 := by
  grind [flowDeclareBody, State.declare_memSame, foldl_memSame, = memSame_mk, = memSameF_fold]

theorem specFlowDeclare_memSame {s : State} (hs : MemSame a s) (c : CmdId) (p : Nat) (e : Entry) : MemSame a
    (specFlowDeclare.body c p e s).1 := by
  simp only [specFlowDeclare]; grind [flowDeclareBody_memSame, foldl_memSame, = memSame_mk, = memSameF_fold]

theorem execFlowDeclare_memSame (m : Fin 18) (e : Entry) {s : State} (hs : MemSame a s) {t : State} (e_ :
    execFlowDeclare m e s = .next t) : MemSame a t := by
  grind [execFlowDeclare, serve_memSame, specFlowDeclare_memSame, foldl_memSame, = memSame_mk, = memSameF_fold]

theorem State.updLead_memSame (id : BitVec 16) (f : LeadSpan → LeadSpan) {s : State} (hs : MemSame a s) : MemSame a
    (State.updLead id f s) := by
  grind [State.updLead, State.updPln_memSame, foldl_memSame, = memSame_mk, = memSameF_fold]

theorem State.answerCmd_memSame (pkg : Nat) (c : CmdId) (oc : Oc) (rs : Reason) (ws : List W64) {s : State} (hs :
    MemSame a s) : MemSame a (State.answerCmd pkg c oc rs ws s) := by
  grind [State.answerCmd, State.finish_memSame, State.send_memSame, foldl_memSame, = memSame_mk, = memSameF_fold]

theorem State.leadWithdraw_memSame (span : BitVec 16) (num pkg : Nat) (c : Option CmdId) {s : State} (hs : MemSame a
    s) : MemSame a (State.leadWithdraw span num pkg c s) := by
  grind [State.leadWithdraw, State.updLead_memSame, State.answerCmd_memSame, foldl_memSame, = memSame_mk, =
      memSameF_fold]

theorem flowWithdrawBody_memSame (c : CmdId) (p : Nat) (e : Entry) {s : State} (hs : MemSame a s) : MemSame a
    (flowWithdrawBody c p e s).1 := by
  grind [flowWithdrawBody, State.send_memSame, State.leadWithdraw_memSame, foldl_memSame, = memSame_mk, = memSameF_fold]

theorem specFlowWithdraw_memSame {s : State} (hs : MemSame a s) (c : CmdId) (p : Nat) (e : Entry) : MemSame a
    (specFlowWithdraw.body c p e s).1 := by
  simp only [specFlowWithdraw]; grind [flowWithdrawBody_memSame, foldl_memSame, = memSame_mk, = memSameF_fold]

theorem execFlowWithdraw_memSame (m : Fin 18) (e : Entry) {s : State} (hs : MemSame a s) {t : State} (e_ :
    execFlowWithdraw m e s = .next t) : MemSame a t := by
  grind [execFlowWithdraw, serve_memSame, specFlowWithdraw_memSame, foldl_memSame, = memSame_mk, = memSameF_fold]

theorem State.leadQuery_memSame (span : BitVec 16) (num : Nat) (summary : Bool) (frame : FrameNo) (pkg : Nat) (c :
    CmdId) {s : State} (hs : MemSame a s) : MemSame a (State.leadQuery span num summary frame pkg c s) := by
  grind [State.leadQuery, State.answerCmd_memSame, foldl_memSame, = memSame_mk, = memSameF_fold]

theorem flowQueryBody_memSame (c : CmdId) (p : Nat) (e : Entry) {s : State} (hs : MemSame a s) : MemSame a
    (flowQueryBody c p e s).1 := by
  grind [flowQueryBody, State.send_memSame, State.leadQuery_memSame, foldl_memSame, = memSame_mk, = memSameF_fold]

theorem specFlowQuery_memSame {s : State} (hs : MemSame a s) (c : CmdId) (p : Nat) (e : Entry) : MemSame a
    (specFlowQuery.body c p e s).1 := by
  simp only [specFlowQuery]; grind [flowQueryBody_memSame, foldl_memSame, = memSame_mk, = memSameF_fold]

theorem execFlowQuery_memSame (m : Fin 18) (e : Entry) {s : State} (hs : MemSame a s) {t : State} (e_ : execFlowQuery
    m e s = .next t) : MemSame a t := by
  grind [execFlowQuery, serve_memSame, specFlowQuery_memSame, foldl_memSame, = memSame_mk, = memSameF_fold]

theorem State.updGroup_memSame (i : Nat) (f : Group → Group) {s : State} (hs : MemSame a s) : MemSame a
    (State.updGroup i f s) := by
  grind [State.updGroup, State.updRed_memSame, foldl_memSame, = memSame_mk, = memSameF_fold]

theorem State.declareEdges_memSame (g : Group) {s : State} (hs : MemSame a s) : MemSame a (State.declareEdges g s) :=
    by
  grind [State.declareEdges, State.updRed_memSame, State.declare_memSame, State.updGroup_memSame, foldl_memSame, =
      memSame_mk, = memSameF_fold]

theorem State.withdrawStray_memSame {s : State} (hs : MemSame a s) : MemSame a (State.withdrawStray s) := by
  grind [State.withdrawStray, State.updPln_memSame, State.send_memSame, State.leadWithdraw_memSame, foldl_memSame, =
      memSame_mk, = memSameF_fold]

theorem State.dropGroup_memSame (g : Group) {s : State} (hs : MemSame a s) : MemSame a (State.dropGroup g s) := by
  grind [State.dropGroup, State.updRed_memSame, State.withdrawStray_memSame, foldl_memSame, = memSame_mk, =
      memSameF_fold]

theorem State.failDefine_memSame (g : Group) (oc : Oc) (rs : Reason) (ws : List W64) {s : State} (hs : MemSame a s) :
    MemSame a (State.failDefine g oc rs ws s) := by
  grind [State.failDefine, State.finishAll_memSame, State.dropGroup_memSame, foldl_memSame, = memSame_mk, =
      memSameF_fold]

theorem State.failEverywhere_memSame (g : Group) (oc : Oc) (rs : Reason) {s : State} (hs : MemSame a s) : MemSame a
    (State.failEverywhere g oc rs s) := by
  grind [State.failEverywhere, State.sendAll_memSame, State.failDefine_memSame, foldl_memSame, = memSame_mk, =
      memSameF_fold]

theorem State.groupsProgress_memSame {s : State} (hs : MemSame a s) : MemSame a (State.groupsProgress s) := by
  grind [State.groupsProgress, State.send_memSame, State.updGroup_memSame, State.withdrawStray_memSame,
      State.failEverywhere_memSame, foldl_memSame, = memSame_mk, = memSameF_fold]

theorem State.enterGroup_memSame (g : Group) {s : State} (hs : MemSame a s) : MemSame a (State.enterGroup g s).1 := by
  grind [State.enterGroup, State.updRed_memSame, State.declareEdges_memSame, State.groupsProgress_memSame,
      foldl_memSame, = memSame_mk, = memSameF_fold]

theorem groupDefineBody_memSame (c : CmdId) (p : Nat) (e : Entry) {s : State} (hs : MemSame a s) : MemSame a
    (groupDefineBody c p e s).1 := by
  grind (gen := 30) (ematch := 30) (splits := 30) [groupDefineBody, State.takeArg_memSame, State.enterGroup_memSame,
      foldl_memSame, = memSame_mk, = memSameF_fold]

theorem specGroupDefine_memSame {s : State} (hs : MemSame a s) (c : CmdId) (p : Nat) (e : Entry) : MemSame a
    (specGroupDefine.body c p e s).1 := by
  simp only [specGroupDefine]; grind [groupDefineBody_memSame, foldl_memSame, = memSame_mk, = memSameF_fold]

theorem execGroupDefine_memSame (m : Fin 18) (e : Entry) {s : State} (hs : MemSame a s) {t : State} (e_ :
    execGroupDefine m e s = .next t) : MemSame a t := by
  grind [execGroupDefine, serve_memSame, specGroupDefine_memSame, foldl_memSame, = memSame_mk, = memSameF_fold]

theorem groupReleaseBody_memSame (x0 : CmdId) (p : Nat) (e : Entry) {s : State} (hs : MemSame a s) : MemSame a
    (groupReleaseBody x0 p e s).1 := by
  grind [groupReleaseBody, State.sendAll_memSame, State.dropGroup_memSame, foldl_memSame, = memSame_mk, = memSameF_fold]

theorem specGroupRelease_memSame {s : State} (hs : MemSame a s) (c : CmdId) (p : Nat) (e : Entry) : MemSame a
    (specGroupRelease.body c p e s).1 := by
  simp only [specGroupRelease]; grind [groupReleaseBody_memSame, foldl_memSame, = memSame_mk, = memSameF_fold]

theorem execGroupRelease_memSame (m : Fin 18) (e : Entry) {s : State} (hs : MemSame a s) {t : State} (e_ :
    execGroupRelease m e s = .next t) : MemSame a t := by
  grind [execGroupRelease, serve_memSame, specGroupRelease_memSame, foldl_memSame, = memSame_mk, = memSameF_fold]

theorem specGroupQuery_memSame {s : State} (hs : MemSame a s) (c : CmdId) (p : Nat) (e : Entry) : MemSame a
    (specGroupQuery.body c p e s).1 := by
  simp only [specGroupQuery]; grind [foldl_memSame, = memSame_mk, = memSameF_fold]

theorem execGroupQuery_memSame (m : Fin 18) (e : Entry) {s : State} (hs : MemSame a s) {t : State} (e_ :
    execGroupQuery m e s = .next t) : MemSame a t := by
  grind [execGroupQuery, serve_memSame, specGroupQuery_memSame, foldl_memSame, = memSame_mk, = memSameF_fold]

theorem commqCreateBody_memSame (c : CmdId) (p : Nat) (e : Entry) {s : State} (hs : MemSame a s) : MemSame a
    (commqCreateBody c p e s).1 := by
  grind [commqCreateBody, State.updRed_memSame, foldl_memSame, = memSame_mk, = memSameF_fold]

theorem specCommqCreate_memSame {s : State} (hs : MemSame a s) (c : CmdId) (p : Nat) (e : Entry) : MemSame a
    (specCommqCreate.body c p e s).1 := by
  simp only [specCommqCreate]; grind [commqCreateBody_memSame, foldl_memSame, = memSame_mk, = memSameF_fold]

theorem execCommqCreate_memSame (m : Fin 18) (e : Entry) {s : State} (hs : MemSame a s) {t : State} (e_ :
    execCommqCreate m e s = .next t) : MemSame a t := by
  grind [execCommqCreate, serve_memSame, specCommqCreate_memSame, foldl_memSame, = memSame_mk, = memSameF_fold]

theorem commqDestroyBody_memSame (x0 : CmdId) (p : Nat) (e : Entry) {s : State} (hs : MemSame a s) : MemSame a
    (commqDestroyBody x0 p e s).1 := by
  grind [commqDestroyBody, State.updRed_memSame, State.updGroup_memSame, foldl_memSame, = memSame_mk, = memSameF_fold]

theorem specCommqDestroy_memSame {s : State} (hs : MemSame a s) (c : CmdId) (p : Nat) (e : Entry) : MemSame a
    (specCommqDestroy.body c p e s).1 := by
  simp only [specCommqDestroy]; grind [commqDestroyBody_memSame, foldl_memSame, = memSame_mk, = memSameF_fold]

theorem execCommqDestroy_memSame (m : Fin 18) (e : Entry) {s : State} (hs : MemSame a s) {t : State} (e_ :
    execCommqDestroy m e s = .next t) : MemSame a t := by
  grind [execCommqDestroy, serve_memSame, specCommqDestroy_memSame, foldl_memSame, = memSame_mk, = memSameF_fold]

theorem State.pendCap_memSame (cap : BitVec 7) (frame : FrameNo) (src : Option Nat) {s : State} (hs : MemSame a s) :
    MemSame a (State.pendCap cap frame src s) := by
  grind [State.pendCap, State.updPwr_memSame, foldl_memSame, = memSame_mk, = memSameF_fold]

theorem State.sheafCap_memSame (cap : BitVec 7) (c : Option CmdId) {s : State} (hs : MemSame a s) : MemSame a
    (State.sheafCap cap c s) := by
  grind [State.sheafCap, State.updPwr_memSame, State.sendAll_memSame, State.pendCap_memSame, foldl_memSame, =
      memSame_mk, = memSameF_fold]

theorem pwrSetCapBody_memSame (c : CmdId) (x0 : Nat) (e : Entry) {s : State} (hs : MemSame a s) : MemSame a
    (pwrSetCapBody c x0 e s).1 := by
  grind [pwrSetCapBody, State.updPwr_memSame, State.stage_memSame, State.pendCap_memSame, State.sheafCap_memSame,
      foldl_memSame, = memSame_mk, = memSameF_fold]

theorem specPwrSetCap_memSame {s : State} (hs : MemSame a s) (c : CmdId) (p : Nat) (e : Entry) : MemSame a
    (specPwrSetCap.body c p e s).1 := by
  simp only [specPwrSetCap]; grind [pwrSetCapBody_memSame, foldl_memSame, = memSame_mk, = memSameF_fold]

theorem execPwrSetCapPackage_memSame (m : Fin 18) (e : Entry) {s : State} (hs : MemSame a s) {t : State} (e_ :
    execPwrSetCapPackage m e s = .next t) : MemSame a t := by
  grind [execPwrSetCapPackage, serve_memSame, specPwrSetCap_memSame, foldl_memSame, = memSame_mk, = memSameF_fold]

theorem execPwrSetCapSheaf_memSame (m : Fin 18) (e : Entry) {s : State} (hs : MemSame a s) {t : State} (e_ :
    execPwrSetCapSheaf m e s = .next t) : MemSame a t := by
  grind [execPwrSetCapSheaf, serve_memSame, specPwrSetCap_memSame, foldl_memSame, = memSame_mk, = memSameF_fold]

theorem pwrQueryBody_memSame (c : CmdId) (p : Nat) (e : Entry) {s : State} (hs : MemSame a s) : MemSame a
    (pwrQueryBody c p e s).1 := by
  grind [pwrQueryBody, foldl_memSame, = memSame_mk, = memSameF_fold]

theorem specPwrQuery_memSame {s : State} (hs : MemSame a s) (c : CmdId) (p : Nat) (e : Entry) : MemSame a
    (specPwrQuery.body c p e s).1 := by
  simp only [specPwrQuery]; grind [pwrQueryBody_memSame, foldl_memSame, = memSame_mk, = memSameF_fold]

theorem execPwrQuery_memSame (m : Fin 18) (e : Entry) {s : State} (hs : MemSame a s) {t : State} (e_ : execPwrQuery m
    e s = .next t) : MemSame a t := by
  grind [execPwrQuery, serve_memSame, specPwrQuery_memSame, foldl_memSame, = memSame_mk, = memSameF_fold]

theorem specLinkQuery_memSame {s : State} (hs : MemSame a s) (c : CmdId) (p : Nat) (e : Entry) : MemSame a
    (specLinkQuery.body c p e s).1 := by
  simp only [specLinkQuery]; grind [foldl_memSame, = memSame_mk, = memSameF_fold]

theorem execLinkQuery_memSame (m : Fin 18) (e : Entry) {s : State} (hs : MemSame a s) {t : State} (e_ : execLinkQuery
    m e s = .next t) : MemSame a t := by
  grind [execLinkQuery, serve_memSame, specLinkQuery_memSame, foldl_memSame, = memSame_mk, = memSameF_fold]

theorem State.handBack_memSame (i : Nat) (f : Flit) {s : State} (hs : MemSame a s) : MemSame a (State.handBack i f s)
    := by
  grind [State.handBack, State.updWork_memSame, State.updFab_memSame, State.sendFlit_memSame, foldl_memSame, =
      memSame_mk, = memSameF_fold]

theorem State.withdraw_memSame (i : Nat) {s : State} (hs : MemSame a s) : MemSame a (State.withdraw i s) := by
  grind [State.withdraw, State.updWork_memSame, State.handBack_memSame, foldl_memSame, = memSame_mk, = memSameF_fold]

theorem State.txMsg_memSame (i : Nat) (m : Msg) {s : State} (hs : MemSame a s) : MemSame a (State.txMsg i m s) := by
  grind [State.txMsg, State.flitsOf_memSame, State.tx_memSame, foldl_memSame, = memSame_mk, = memSameF_fold]

theorem State.sendBeacons_memSame {s : State} (hs : MemSame a s) : MemSame a (State.sendBeacons s) := by
  grind [State.sendBeacons, State.txMsg_memSame, foldl_memSame, = memSame_mk, = memSameF_fold]

theorem State.updNbr_memSame (i : Nat) (f : Neighbour → Neighbour) {s : State} (hs : MemSame a s) : MemSame a
    (State.updNbr i f s) := by
  grind [State.updNbr, State.updFab_memSame, foldl_memSame, = memSame_mk, = memSameF_fold]

theorem State.losesUp_memSame (i : Nat) {s : State} (hs : MemSame a s) : MemSame a (State.losesUp i s) := by
  grind [State.losesUp, State.updPort_memSame, State.updNbr_memSame, foldl_memSame, = memSame_mk, = memSameF_fold]

theorem State.updOuter_memSame (o : Nat) (f : Outer → Outer) {s : State} (hs : MemSame a s) : MemSame a
    (State.updOuter o f s) := by
  grind [State.updOuter, State.updFab_memSame, foldl_memSame, = memSame_mk, = memSameF_fold]

theorem State.dropBuffered_memSame (i : Nat) {s : State} (hs : MemSame a s) : MemSame a (State.dropBuffered i s) := by
  grind [State.dropBuffered, State.updOuter_memSame, foldl_memSame, = memSame_mk, = memSameF_fold]

theorem State.parentChanged_memSame {s : State} (hs : MemSame a s) : MemSame a (State.parentChanged s) := by
  grind [State.parentChanged, State.log_memSame, foldl_memSame, = memSame_mk, = memSameF_fold]

theorem State.syncChanged_memSame {s : State} (hs : MemSame a s) : MemSame a (State.syncChanged s) := by
  grind [State.syncChanged, State.fireVec_memSame, State.log_memSame, foldl_memSame, = memSame_mk, = memSameF_fold]

theorem State.setSync_memSame (st : SyncState) {s : State} (hs : MemSame a s) : MemSame a (State.setSync st s) := by
  grind [State.setSync, State.updFrm_memSame, State.syncChanged_memSame, foldl_memSame, = memSame_mk, = memSameF_fold]

theorem State.wakeParent_memSame {s : State} (hs : MemSame a s) : MemSame a (State.wakeParent s) := by
  grind [State.wakeParent, State.wakePort_memSame, foldl_memSame, = memSame_mk, = memSameF_fold]

theorem State.refreshParent_memSame {s : State} (hs : MemSame a s) : MemSame a (State.refreshParent s) := by
  grind [State.refreshParent, State.updFrm_memSame, State.parentChanged_memSame, State.setSync_memSame,
      State.wakeParent_memSame, foldl_memSame, = memSame_mk, = memSameF_fold]

theorem State.dropFlits_memSame (i : Nat) {s : State} (hs : MemSame a s) : MemSame a (State.dropFlits i s) := by
  grind [State.dropFlits, State.updWork_memSame, State.discardFlit_memSame, foldl_memSame, = memSame_mk, =
      memSameF_fold]

theorem State.portDown_memSame (i : Nat) {s : State} (hs : MemSame a s) : MemSame a (State.portDown i s) := by
  grind (gen := 30) (ematch := 30) (splits := 30) [State.portDown, State.updPort_memSame, State.updWork_memSame,
      State.updFab_memSame, State.emit_memSame, State.withdraw_memSame, State.sendBeacons_memSame,
      State.refreshParent_memSame, State.losesUp_memSame, State.dropBuffered_memSame, State.dropFlits_memSame,
      foldl_memSame, = memSame_mk, = memSameF_fold]

theorem State.startRetrain_memSame (i : Nat) {s : State} (hs : MemSame a s) : MemSame a (State.startRetrain i s) := by
  grind (gen := 30) (ematch := 30) (splits := 30) [State.startRetrain, State.updPort_memSame, State.updWork_memSame,
      State.updLine_memSame, State.withdraw_memSame, State.refreshParent_memSame, State.losesUp_memSame,
      foldl_memSame, = memSame_mk, = memSameF_fold]

theorem linkRetrainBody_memSame (c : CmdId) (x0 : Nat) (e : Entry) {s : State} (hs : MemSame a s) : MemSame a
    (linkRetrainBody c x0 e s).1 := by
  grind [linkRetrainBody, State.updWork_memSame, State.wakePort_memSame, State.portDown_memSame,
      State.startRetrain_memSame, foldl_memSame, = memSame_mk, = memSameF_fold]

theorem specLinkRetrain_memSame {s : State} (hs : MemSame a s) (c : CmdId) (p : Nat) (e : Entry) : MemSame a
    (specLinkRetrain.body c p e s).1 := by
  simp only [specLinkRetrain]; grind [linkRetrainBody_memSame, foldl_memSame, = memSame_mk, = memSameF_fold]

theorem execLinkRetrainFast_memSame (m : Fin 18) (e : Entry) {s : State} (hs : MemSame a s) {t : State} (e_ :
    execLinkRetrainFast m e s = .next t) : MemSame a t := by
  grind [execLinkRetrainFast, serve_memSame, specLinkRetrain_memSame, foldl_memSame, = memSame_mk, = memSameF_fold]

theorem execLinkRetrainFull_memSame (m : Fin 18) (e : Entry) {s : State} (hs : MemSame a s) {t : State} (e_ :
    execLinkRetrainFull m e s = .next t) : MemSame a t := by
  grind [execLinkRetrainFull, serve_memSame, specLinkRetrain_memSame, foldl_memSame, = memSame_mk, = memSameF_fold]

theorem State.healthNotice_memSame (i : Nat) (frame : FrameNo) (h : Health) (w : Width) {s : State} (hs : MemSame a s)
    : MemSame a (State.healthNotice i frame h w s) := by
  grind [State.healthNotice, State.send_memSame, State.updLead_memSame, foldl_memSame, = memSame_mk, = memSameF_fold]

theorem State.setHealth_memSame (i : Nat) (h : Health) (w : Width) {s : State} (hs : MemSame a s) : MemSame a
    (State.setHealth i h w s) := by
  grind [State.setHealth, State.updWork_memSame, State.fireVec_memSame, State.logEvent_memSame,
      State.healthNotice_memSame, foldl_memSame, = memSame_mk, = memSameF_fold]

theorem State.permanentFault_memSame (i : Nat) (lanes : BitVec 8) {s : State} (hs : MemSame a s) : MemSame a
    (State.permanentFault i lanes s) := by
  grind [State.permanentFault, State.updWork_memSame, State.setHealth_memSame, foldl_memSame, = memSame_mk, =
      memSameF_fold]

theorem State.retirePort_memSame (i : Nat) {s : State} (hs : MemSame a s) : MemSame a (State.retirePort i s) := by
  grind [State.retirePort, State.updWork_memSame, State.setHealth_memSame, foldl_memSame, = memSame_mk, = memSameF_fold]

theorem State.sendLinkctl_memSame (i : Nat) (m : Msg) {s : State} (hs : MemSame a s) : MemSame a (State.sendLinkctl i m
    s) := by
  unfold State.sendLinkctl
  extract_lets fs
  exact foldl_memSame (fun _ _ h => State.sendLine_memSame _ _ _ _ h) _ (State.flitsOf_memSame _ _ hs)

theorem State.sendWidth_memSame (i : Nat) (lanes : BitVec 8) {s : State} (hs : MemSame a s) : MemSame a
    (State.sendWidth i lanes s) := by
  grind [State.sendWidth, State.sendLinkctl_memSame, State.send_memSame, foldl_memSame, = memSame_mk, = memSameF_fold]

theorem opWidthChange_memSame (port : Fin 16) (unsound : BitVec 8) {s : State} (hs : MemSame a s) : MemSame a
    (opWidthChange port unsound s) := by
  grind [opWidthChange, State.updWork_memSame, State.retirePort_memSame, State.sendWidth_memSame, foldl_memSame, =
      memSame_mk, = memSameF_fold]

theorem linkRetireBody_memSame (c : CmdId) (x0 : Nat) (e : Entry) {s : State} (hs : MemSame a s) : MemSame a
    (linkRetireBody c x0 e s).1 := by
  grind [linkRetireBody, State.updWork_memSame, State.wakePort_memSame, State.permanentFault_memSame,
      opWidthChange_memSame, foldl_memSame, = memSame_mk, = memSameF_fold]

theorem specLinkRetire_memSame {s : State} (hs : MemSame a s) (c : CmdId) (p : Nat) (e : Entry) : MemSame a
    (specLinkRetire.body c p e s).1 := by
  simp only [specLinkRetire]; grind [linkRetireBody_memSame, foldl_memSame, = memSame_mk, = memSameF_fold]

theorem execLinkRetire_memSame (m : Fin 18) (e : Entry) {s : State} (hs : MemSame a s) {t : State} (e_ :
    execLinkRetire m e s = .next t) : MemSame a t := by
  grind [execLinkRetire, serve_memSame, specLinkRetire_memSame, foldl_memSame, = memSame_mk, = memSameF_fold]

theorem specSheafQuery_memSame {s : State} (hs : MemSame a s) (c : CmdId) (p : Nat) (e : Entry) : MemSame a
    (specSheafQuery.body c p e s).1 := by
  simp only [specSheafQuery]; grind [foldl_memSame, = memSame_mk, = memSameF_fold]

theorem execSheafQuery_memSame (m : Fin 18) (e : Entry) {s : State} (hs : MemSame a s) {t : State} (e_ :
    execSheafQuery m e s = .next t) : MemSame a t := by
  grind [execSheafQuery, serve_memSame, specSheafQuery_memSame, foldl_memSame, = memSame_mk, = memSameF_fold]

theorem State.setFw_memSame (st : FwState) {s : State} (hs : MemSame a s) : MemSame a (State.setFw st s) := by
  grind [State.setFw, State.updMgt_memSame, State.fireVec_memSame, State.log_memSame, foldl_memSame, = memSame_mk, =
      memSameF_fold]

theorem State.eraseInactive_memSame {s : State} (hs : MemSame a s) : MemSame a (State.eraseInactive s) := by
  grind [State.eraseInactive, foldl_memSame, = memSame_mk, = memSameF_fold]

theorem fwStageBody_memSame (c : CmdId) (x0 : Nat) (e : Entry) {s : State} (hs : MemSame a s) : MemSame a (fwStageBody
    c x0 e s).1 := by
  grind [fwStageBody, State.updMgt_memSame, State.setFw_memSame, State.eraseInactive_memSame, foldl_memSame, =
      memSame_mk, = memSameF_fold]

theorem specFwStage_memSame {s : State} (hs : MemSame a s) (c : CmdId) (p : Nat) (e : Entry) : MemSame a
    (specFwStage.body c p e s).1 := by
  simp only [specFwStage]; grind [fwStageBody_memSame, foldl_memSame, = memSame_mk, = memSameF_fold]

theorem execFwStage_memSame (m : Fin 18) (e : Entry) {s : State} (hs : MemSame a s) {t : State} (e_ : execFwStage m e
    s = .next t) : MemSame a t := by
  grind [execFwStage, serve_memSame, specFwStage_memSame, foldl_memSame, = memSame_mk, = memSameF_fold]

theorem fwActivateBody_memSame (c : CmdId) (x0 : Nat) (e : Entry) {s : State} (hs : MemSame a s) : MemSame a
    (fwActivateBody c x0 e s).1 := by
  grind [fwActivateBody, State.updMgt_memSame, State.setFw_memSame, foldl_memSame, = memSame_mk, = memSameF_fold]

theorem specFwActivate_memSame {s : State} (hs : MemSame a s) (c : CmdId) (p : Nat) (e : Entry) : MemSame a
    (specFwActivate.body c p e s).1 := by
  simp only [specFwActivate]; grind [fwActivateBody_memSame, foldl_memSame, = memSame_mk, = memSameF_fold]

theorem execFwActivate_memSame (m : Fin 18) (e : Entry) {s : State} (hs : MemSame a s) {t : State} (e_ :
    execFwActivate m e s = .next t) : MemSame a t := by
  grind [execFwActivate, serve_memSame, specFwActivate_memSame, foldl_memSame, = memSame_mk, = memSameF_fold]

theorem specFwQuery_memSame {s : State} (hs : MemSame a s) (c : CmdId) (p : Nat) (e : Entry) : MemSame a
    (specFwQuery.body c p e s).1 := by
  simp only [specFwQuery]; grind [foldl_memSame, = memSame_mk, = memSameF_fold]

theorem execFwQuery_memSame (m : Fin 18) (e : Entry) {s : State} (hs : MemSame a s) {t : State} (e_ : execFwQuery m e
    s = .next t) : MemSame a t := by
  grind [execFwQuery, serve_memSame, specFwQuery_memSame, foldl_memSame, = memSame_mk, = memSameF_fold]

theorem logReadBody_memSame (c : CmdId) (x0 : Nat) (e : Entry) {s : State} (hs : MemSame a s) : MemSame a (logReadBody
    c x0 e s).1 := by
  grind (gen := 30) (ematch := 30) (splits := 30) [logReadBody, State.updMgt_memSame, foldl_memSame, = memSame_mk, =
      memSameF_fold]

theorem specLogRead_memSame {s : State} (hs : MemSame a s) (c : CmdId) (p : Nat) (e : Entry) : MemSame a
    (specLogRead.body c p e s).1 := by
  simp only [specLogRead]; grind [logReadBody_memSame, foldl_memSame, = memSame_mk, = memSameF_fold]

theorem execLogRead_memSame (m : Fin 18) (e : Entry) {s : State} (hs : MemSame a s) {t : State} (e_ : execLogRead m e
    s = .next t) : MemSame a t := by
  grind [execLogRead, serve_memSame, specLogRead_memSame, foldl_memSame, = memSame_mk, = memSameF_fold]

theorem State.updSensor_memSame (id : Nat) (f : Sensor → Sensor) {s : State} (hs : MemSame a s) : MemSame a
    (State.updSensor id f s) := by
  grind [State.updSensor, State.updMgt_memSame, foldl_memSame, = memSame_mk, = memSameF_fold]

theorem sensReadBody_memSame (x0 : CmdId) (x1 : Nat) (e : Entry) {s : State} (hs : MemSame a s) : MemSame a
    (sensReadBody x0 x1 e s).1 := by
  grind [sensReadBody, State.updSensor_memSame, foldl_memSame, = memSame_mk, = memSameF_fold]

theorem specSensRead_memSame {s : State} (hs : MemSame a s) (c : CmdId) (p : Nat) (e : Entry) : MemSame a
    (specSensRead.body c p e s).1 := by
  simp only [specSensRead]; grind [sensReadBody_memSame, foldl_memSame, = memSame_mk, = memSameF_fold]

theorem execSensRead_memSame (m : Fin 18) (e : Entry) {s : State} (hs : MemSame a s) {t : State} (e_ : execSensRead m
    e s = .next t) : MemSame a t := by
  grind [execSensRead, serve_memSame, specSensRead_memSame, foldl_memSame, = memSame_mk, = memSameF_fold]

theorem atbSelectBody_memSame (x0 : CmdId) (x1 : Nat) (e : Entry) {s : State} (hs : MemSame a s) : MemSame a
    (atbSelectBody x0 x1 e s).1 := by
  grind [atbSelectBody, State.updPor_memSame, foldl_memSame, = memSame_mk, = memSameF_fold]

theorem specAtbSelect_memSame {s : State} (hs : MemSame a s) (c : CmdId) (p : Nat) (e : Entry) : MemSame a
    (specAtbSelect.body c p e s).1 := by
  simp only [specAtbSelect]; grind [atbSelectBody_memSame, foldl_memSame, = memSame_mk, = memSameF_fold]

theorem execAtbSelect_memSame (m : Fin 18) (e : Entry) {s : State} (hs : MemSame a s) {t : State} (e_ : execAtbSelect
    m e s = .next t) : MemSame a t := by
  grind [execAtbSelect, serve_memSame, specAtbSelect_memSame, foldl_memSame, = memSame_mk, = memSameF_fold]

theorem atbSampleBody_memSame (x0 : CmdId) (x1 : Nat) (e : Entry) {s : State} (hs : MemSame a s) : MemSame a
    (atbSampleBody x0 x1 e s).1 := by
  grind [atbSampleBody, State.takeFree_memSame, foldl_memSame, = memSame_mk, = memSameF_fold]

theorem specAtbSample_memSame {s : State} (hs : MemSame a s) (c : CmdId) (p : Nat) (e : Entry) : MemSame a
    (specAtbSample.body c p e s).1 := by
  simp only [specAtbSample]; grind [atbSampleBody_memSame, foldl_memSame, = memSame_mk, = memSameF_fold]

theorem execAtbSample_memSame (m : Fin 18) (e : Entry) {s : State} (hs : MemSame a s) {t : State} (e_ : execAtbSample
    m e s = .next t) : MemSame a t := by
  grind [execAtbSample, serve_memSame, specAtbSample_memSame, foldl_memSame, = memSame_mk, = memSameF_fold]

theorem State.mbxError_memSame (m : Nat) (code : MbxErr) {s : State} (hs : MemSame a s) : MemSame a (State.mbxError m
    code s) := by
  grind [State.mbxError, State.updMb_memSame, State.fireVec_memSame, State.log_memSame, foldl_memSame, = memSame_mk, =
      memSameF_fold]

theorem opMbxRingCfgWrite_memSame (fn : Fin 17) (v : W64) {s : State} (hs : MemSame a s) : MemSame a
    (opMbxRingCfgWrite fn v s) := by
  grind [opMbxRingCfgWrite, State.updMb_memSame, State.mbxError_memSame, foldl_memSame, = memSame_mk, = memSameF_fold]

theorem State.whenClocked_memSame {s : State} {t : State} (hs : MemSame a s) (ht : MemSame a t) : MemSame a
    (State.whenClocked s t) := by
  grind [State.whenClocked, foldl_memSame, = memSame_mk, = memSameF_fold]

theorem State.whenPcie_memSame {s : State} {t : State} (hs : MemSame a s) (ht : MemSame a t) : MemSame a
    (State.whenPcie s t) := by
  grind [State.whenPcie, foldl_memSame, = memSame_mk, = memSameF_fold]

theorem execMbxRingCfgWrite_memSame (fn : Fin 17) (v : W64) {s : State} (hs : MemSame a s) {t : State} (e_ :
    execMbxRingCfgWrite fn v s = .next t) : MemSame a t := by
  grind [execMbxRingCfgWrite, State.whenPcie_memSame, opMbxRingCfgWrite_memSame, foldl_memSame, = memSame_mk, =
      memSameF_fold]

theorem opDoorbell_memSame (fn : Fin 17) (v : W64) {s : State} (hs : MemSame a s) : MemSame a (opDoorbell fn v s) :=
    by
  grind [opDoorbell, State.updMb_memSame, State.mbxError_memSame, foldl_memSame, = memSame_mk, = memSameF_fold]

theorem execDoorbell_memSame (fn : Fin 17) (v : W64) {s : State} (hs : MemSame a s) {t : State} (e_ : execDoorbell fn
    v s = .next t) : MemSame a t := by
  grind [execDoorbell, State.whenPcie_memSame, opDoorbell_memSame, foldl_memSame, = memSame_mk, = memSameF_fold]

theorem opMbxCplHeadWrite_memSame (fn : Fin 17) (v : W64) {s : State} (hs : MemSame a s) : MemSame a
    (opMbxCplHeadWrite fn v s) := by
  grind [opMbxCplHeadWrite, State.updMb_memSame, State.mbxError_memSame, foldl_memSame, = memSame_mk, = memSameF_fold]

theorem execMbxCplHeadWrite_memSame (fn : Fin 17) (v : W64) {s : State} (hs : MemSame a s) {t : State} (e_ :
    execMbxCplHeadWrite fn v s = .next t) : MemSame a t := by
  grind [execMbxCplHeadWrite, State.whenPcie_memSame, opMbxCplHeadWrite_memSame, foldl_memSame, = memSame_mk, =
      memSameF_fold]

theorem State.updCommq_memSame (p q : Nat) (f : Commq → Commq) {s : State} (hs : MemSame a s) : MemSame a
    (State.updCommq p q f s) := by
  grind [State.updCommq, State.updRed_memSame, foldl_memSame, = memSame_mk, = memSameF_fold]

theorem opRedCqHeadWrite_memSame (p q : Fin 16) (v : W64) {s : State} (hs : MemSame a s) : MemSame a (opRedCqHeadWrite
    p q v s) := by
  grind [opRedCqHeadWrite, State.updCommq_memSame, foldl_memSame, = memSame_mk, = memSameF_fold]

theorem execRedCqHeadWrite_memSame (p : Fin 16) (q : Fin 16) (v : W64) {s : State} (hs : MemSame a s) {t : State} (e_
    : execRedCqHeadWrite p q v s = .next t) : MemSame a t := by
  grind [execRedCqHeadWrite, State.whenPcie_memSame, opRedCqHeadWrite_memSame, foldl_memSame, = memSame_mk, =
      memSameF_fold]

theorem opSlackLateClear_memSame (p : Fin 16) {s : State} (hs : MemSame a s) : MemSame a (opSlackLateClear p s) := by
  grind [opSlackLateClear, State.updFrmp_memSame, foldl_memSame, = memSame_mk, = memSameF_fold]

theorem execSlackLateClear_memSame (p : Fin 16) {s : State} (hs : MemSame a s) {t : State} (e_ : execSlackLateClear p
    s = .next t) : MemSame a t := by
  grind [execSlackLateClear, State.whenPcie_memSame, opSlackLateClear_memSame, foldl_memSame, = memSame_mk, =
      memSameF_fold]

theorem State.updXltRegs_memSame (d : Nat) (f : XltRegs → XltRegs) {s : State} (hs : MemSame a s) : MemSame a
    (State.updXltRegs d f s) := by
  grind [State.updXltRegs, State.updXlt_memSame, foldl_memSame, = memSame_mk, = memSameF_fold]

theorem State.updEngine_memSame (e : Nat) (f : Engine → Engine) {s : State} (hs : MemSame a s) : MemSame a
    (State.updEngine e f s) := by
  grind [State.updEngine, State.updRed_memSame, foldl_memSame, = memSame_mk, = memSameF_fold]

theorem State.updSeqp_memSame (p : Nat) (f : SeqPart → SeqPart) {s : State} (hs : MemSame a s) : MemSame a
    (State.updSeqp p f s) := by
  grind [State.updSeqp, foldl_memSame, = memSame_mk, = memSameF_fold]

theorem State.updPlnp_memSame (p : Nat) (f : PlnPart → PlnPart) {s : State} (hs : MemSame a s) : MemSame a
    (State.updPlnp p f s) := by
  grind [State.updPlnp, foldl_memSame, = memSame_mk, = memSameF_fold]

theorem State.updLane_memSame (g : Group) (tree lane : Nat) (f : LaneAt → LaneAt) {s : State} (hs : MemSame a s) :
    MemSame a (State.updLane g tree lane f s) := by
  grind [State.updLane, State.updRed_memSame, foldl_memSame, = memSame_mk, = memSameF_fold]

theorem State.regClear_memSame (r : Reg) {s : State} (hs : MemSame a s) : MemSame a (State.regClear r s) := by
  unfold State.regClear
  split <;> grind (gen := 30) (ematch := 30) (splits := 30) [State.updFrmp_memSame, State.updSeqp_memSame,
      State.updPwrp_memSame, State.updPlnp_memSame, State.updPort_memSame, State.updPln_memSame, State.updMgt_memSame,
      State.updPwr_memSame, State.updXltRegs_memSame, State.updEngine_memSame, State.updLane_memSame, foldl_memSame, =
      memSame_mk, = memSameF_fold]

theorem State.aer_memSame (fn kind off : Nat) (write : Bool) {s : State} (hs : MemSame a s) : MemSame a (State.aer fn
    kind off write s) := by
  grind [State.aer, State.emitPcie_memSame, foldl_memSame, = memSame_mk, = memSameF_fold]

theorem State.unsupported_memSame (fn off : Nat) (write : Bool) {s : State} (hs : MemSame a s) : MemSame a
    (State.unsupported fn off write s) := by
  grind [State.unsupported, State.emit_memSame, State.aer_memSame, foldl_memSame, = memSame_mk, = memSameF_fold]

theorem opReadClear_memSame (fn : Fin 17) (off : BitVec 32) {s : State} (hs : MemSame a s) : MemSame a (opReadClear fn
    off s) := by
  grind [opReadClear, State.emit_memSame, State.regClear_memSame, State.unsupported_memSame, foldl_memSame, =
      memSame_mk, = memSameF_fold]

theorem execReadClear_memSame (fn : Fin 17) (off : BitVec 32) {s : State} (hs : MemSame a s) {t : State} (e_ :
    execReadClear fn off s = .next t) : MemSame a t := by
  grind [execReadClear, State.whenPcie_memSame, opReadClear_memSame, foldl_memSame, = memSame_mk, = memSameF_fold]

theorem opUnsupportedRequest_memSame (fn : Fin 17) (off : BitVec 32) (write : Bool) {s : State} (hs : MemSame a s) :
    MemSame a (opUnsupportedRequest fn off write s) := by
  grind [opUnsupportedRequest, State.unsupported_memSame, foldl_memSame, = memSame_mk, = memSameF_fold]

theorem execUnsupportedRequest_memSame (fn : Fin 17) (off : BitVec 32) (write : Bool) {s : State} (hs : MemSame a s)
    {t : State} (e_ : execUnsupportedRequest fn off write s = .next t) : MemSame a t := by
  grind [execUnsupportedRequest, State.whenPcie_memSame, opUnsupportedRequest_memSame, foldl_memSame, = memSame_mk, =
      memSameF_fold]

theorem State.clearFn_memSame (fn : Nat) {s : State} (hs : MemSame a s) : MemSame a (State.clearFn fn s) := by
  grind [State.clearFn, State.updFn_memSame, State.updXlt_memSame, foldl_memSame, = memSame_mk, = memSameF_fold]

theorem opAtsEnableWrite_memSame (fn : Fin 17) (on : Bool) {s : State} (hs : MemSame a s) : MemSame a
    (opAtsEnableWrite fn on s) := by
  grind [opAtsEnableWrite, State.updFn_memSame, foldl_memSame, = memSame_mk, = memSameF_fold]

theorem execAtsEnableWrite_memSame (fn : Fin 17) (on : Bool) {s : State} (hs : MemSame a s) {t : State} (e_ :
    execAtsEnableWrite fn on s = .next t) : MemSame a t := by
  grind [execAtsEnableWrite, State.whenPcie_memSame, opAtsEnableWrite_memSame, foldl_memSame, = memSame_mk, =
      memSameF_fold]

theorem opMsixUnmask_memSame (fn : Fin 17) (enable : Bool) (vectors : List Nat) {s : State} (hs : MemSame a s) :
    MemSame a (opMsixUnmask fn enable vectors s) := by
  grind [opMsixUnmask, State.updFn_memSame, State.emitPcie_memSame, foldl_memSame, = memSame_mk, = memSameF_fold]

theorem execMsixUnmask_memSame (fn : Fin 17) (enable : Bool) (vectors : List Nat) {s : State} (hs : MemSame a s) {t :
    State} (e_ : execMsixUnmask fn enable vectors s = .next t) : MemSame a t := by
  grind [execMsixUnmask, State.whenPcie_memSame, opMsixUnmask_memSame, foldl_memSame, = memSame_mk, = memSameF_fold]

theorem State.trainPcie_memSame (width : BitVec 5) (speed : BitVec 3) {s : State} (hs : MemSame a s) : MemSame a
    (State.trainPcie width speed s) := by
  grind [State.trainPcie, State.writeLog_memSame, State.takeFree_memSame, foldl_memSame, = memSame_mk, = memSameF_fold]

theorem opPerstRelease_memSame (width : BitVec 5) (speed : BitVec 3) {s : State} (hs : MemSame a s) : MemSame a
    (opPerstRelease width speed s) := by
  grind [opPerstRelease, State.trainPcie_memSame, foldl_memSame, = memSame_mk, = memSameF_fold]

theorem execPerstRelease_memSame (width : BitVec 5) (speed : BitVec 3) {s : State} (hs : MemSame a s) {t : State} (e_
    : execPerstRelease width speed s = .next t) : MemSame a t := by
  grind [execPerstRelease, opPerstRelease_memSame, foldl_memSame, = memSame_mk, = memSameF_fold]

theorem opPcieLinkRetry_memSame (width : BitVec 5) (speed : BitVec 3) {s : State} (hs : MemSame a s) : MemSame a
    (opPcieLinkRetry width speed s) := by
  grind [opPcieLinkRetry, State.trainPcie_memSame, foldl_memSame, = memSame_mk, = memSameF_fold]

theorem execPcieLinkRetry_memSame (width : BitVec 5) (speed : BitVec 3) {s : State} (hs : MemSame a s) {t : State} (e_
    : execPcieLinkRetry width speed s = .next t) : MemSame a t := by
  grind [execPcieLinkRetry, State.whenClocked_memSame, opPcieLinkRetry_memSame, foldl_memSame, = memSame_mk, =
      memSameF_fold]

theorem State.fireCompletion_memSame (m : Nat) {s : State} (hs : MemSame a s) : MemSame a (State.fireCompletion m s)
    := by
  grind [State.fireCompletion, State.updMb_memSame, State.fireVec_memSame, foldl_memSame, = memSame_mk, = memSameF_fold]

theorem State.writeRecord_memSame (m : Nat) {s : State} (hs : MemSame a s) : MemSame a (State.writeRecord m s) := by
  grind (gen := 30) (ematch := 30) (splits := 30) [State.writeRecord, State.updMb_memSame, State.updMgt_memSame,
      State.emit_memSame, State.fireCompletion_memSame, foldl_memSame, = memSame_mk, = memSameF_fold]

theorem writeLoopCpl_memSame (m n : Nat) {s : State} (hs : MemSame a s) : MemSame a (writeLoopCpl m n s) := by
  induction n generalizing s with
  | zero => exact hs
  | succ k ih => grind [writeLoopCpl, State.writeRecord_memSame]

theorem opCompletionWrite_memSame (m : Fin 18) {s : State} (hs : MemSame a s) : MemSame a (opCompletionWrite m s) :=
    by
  grind [opCompletionWrite, writeLoopCpl_memSame, foldl_memSame, = memSame_mk, = memSameF_fold]

theorem execCompletionWrite_memSame (m : Fin 18) {s : State} (hs : MemSame a s) {t : State} (e_ : execCompletionWrite
    m s = .next t) : MemSame a t := by
  grind [execCompletionWrite, State.whenClocked_memSame, opCompletionWrite_memSame, foldl_memSame, = memSame_mk, =
      memSameF_fold]

theorem opIrqAgeExpiry_memSame (fn : Fin 17) {s : State} (hs : MemSame a s) : MemSame a (opIrqAgeExpiry fn s) := by
  grind [opIrqAgeExpiry, State.fireCompletion_memSame, foldl_memSame, = memSame_mk, = memSameF_fold]

theorem execIrqAgeExpiry_memSame (fn : Fin 17) {s : State} (hs : MemSame a s) {t : State} (e_ : execIrqAgeExpiry fn s
    = .next t) : MemSame a t := by
  grind [execIrqAgeExpiry, State.whenClocked_memSame, opIrqAgeExpiry_memSame, foldl_memSame, = memSame_mk, =
      memSameF_fold]

theorem State.resetMailboxDone_memSame (m : Nat) {s : State} (hs : MemSame a s) : MemSame a (State.resetMailboxDone m
    s) := by
  grind [State.resetMailboxDone, State.updMb_memSame, State.updAdm_memSame, State.fireVec_memSame, foldl_memSame, =
      memSame_mk, = memSameF_fold]

theorem opMailboxResetDone_memSame (fn : Fin 17) {s : State} (hs : MemSame a s) : MemSame a (opMailboxResetDone fn s)
    := by
  grind [opMailboxResetDone, State.resetMailboxDone_memSame, foldl_memSame, = memSame_mk, = memSameF_fold]

theorem execMailboxResetDone_memSame (fn : Fin 17) {s : State} (hs : MemSame a s) {t : State} (e_ :
    execMailboxResetDone fn s = .next t) : MemSame a t := by
  grind [execMailboxResetDone, State.whenClocked_memSame, opMailboxResetDone_memSame, foldl_memSame, = memSame_mk, =
      memSameF_fold]

theorem State.takeFlowResult_memSame (d : Declared) (oc : Oc) (rs : Reason) (ws : List W64) (final : Bool) {s : State}
    (hs : MemSame a s) : MemSame a (State.takeFlowResult d oc rs ws final s) := by
  grind [State.takeFlowResult, State.updPln_memSame, State.updRed_memSame, State.stage_memSame, State.finish_memSame,
      foldl_memSame, = memSame_mk, = memSameF_fold]

theorem State.answerFlow_memSame (span : BitVec 16) (x : Flow) (oc : Oc) (rs : Reason) (final : Bool) {s : State} (hs
    : MemSame a s) : MemSame a (State.answerFlow span x oc rs final s) := by
  grind [State.answerFlow, State.send_memSame, State.takeFlowResult_memSame, foldl_memSame, = memSame_mk, =
      memSameF_fold]

theorem State.takeFlowFreed_memSame (span : BitVec 16) (num : Nat) {s : State} (hs : MemSame a s) : MemSame a
    (State.takeFlowFreed span num s) := by
  grind [State.takeFlowFreed, State.updPln_memSame, foldl_memSame, = memSame_mk, = memSameF_fold]

theorem State.freeFlow_memSame (span : BitVec 16) (x : Flow) {s : State} (hs : MemSame a s) : MemSame a
    (State.freeFlow span x s) := by
  grind [State.freeFlow, State.send_memSame, State.updLead_memSame, State.takeFlowFreed_memSame, foldl_memSame, =
      memSame_mk, = memSameF_fold]

theorem State.commitPass_memSame (x : Span) {s : State} (hs : MemSame a s) : MemSame a (State.commitPass x s) := by
  grind (gen := 30) (ematch := 30) (splits := 30) [State.commitPass, State.updPln_memSame, State.updLead_memSame,
      State.answerFlow_memSame, State.freeFlow_memSame, foldl_memSame, = memSame_mk, = memSameF_fold]

theorem State.planCommit_memSame {s : State} (hs : MemSame a s) : MemSame a (State.planCommit s) := by
  grind [State.planCommit, State.updPln_memSame, State.commitPass_memSame, foldl_memSame, = memSame_mk, = memSameF_fold]

theorem opPlanCommit_memSame {s : State} (hs : MemSame a s) : MemSame a (opPlanCommit s) := by
  grind [opPlanCommit, State.planCommit_memSame, State.groupsProgress_memSame, foldl_memSame, = memSame_mk, =
      memSameF_fold]

theorem execPlanCommit_memSame {s : State} (hs : MemSame a s) {t : State} (e_ : execPlanCommit s = .next t) : MemSame
    a t := by
  grind [execPlanCommit, State.whenClocked_memSame, opPlanCommit_memSame, foldl_memSame, = memSame_mk, = memSameF_fold]

theorem opPlanRecordSend_memSame {s : State} (hs : MemSame a s) : MemSame a (opPlanRecordSend s) := by
  grind [opPlanRecordSend, State.updPln_memSame, State.send_memSame, foldl_memSame, = memSame_mk, = memSameF_fold]

theorem execPlanRecordSend_memSame {s : State} (hs : MemSame a s) {t : State} (e_ : execPlanRecordSend s = .next t) :
    MemSame a t := by
  grind [execPlanRecordSend, State.whenClocked_memSame, opPlanRecordSend_memSame, foldl_memSame, = memSame_mk, =
      memSameF_fold]

theorem opPlanRecordReceive_memSame (r : PlanRecord) (good : Bool) {s : State} (hs : MemSame a s) : MemSame a
    (opPlanRecordReceive r good s) := by
  grind [opPlanRecordReceive, State.updPln_memSame, foldl_memSame, = memSame_mk, = memSameF_fold]

theorem execPlanRecordReceive_memSame (r : PlanRecord) (good : Bool) {s : State} (hs : MemSame a s) {t : State} (e_ :
    execPlanRecordReceive r good s = .next t) : MemSame a t := by
  grind [execPlanRecordReceive, State.whenClocked_memSame, opPlanRecordReceive_memSame, foldl_memSame, = memSame_mk, =
      memSameF_fold]

theorem State.purge_memSame (p : Nat) {s : State} (hs : MemSame a s) : MemSame a (State.purge p s) := by
  grind [State.purge, State.updAdmp_memSame, State.endJob_memSame, foldl_memSame, = memSame_mk, = memSameF_fold]

theorem State.powerCheck_memSame (p : Nat) {s : State} (hs : MemSame a s) : MemSame a (State.powerCheck p s) := by
  grind [State.powerCheck, State.updAdmp_memSame, State.endJob_memSame, foldl_memSame, = memSame_mk, = memSameF_fold]

theorem State.refuseOverload_memSame (p est : Nat) (j : Job) {s : State} (hs : MemSame a s) : MemSame a
    (State.refuseOverload p est j s) := by
  grind [State.refuseOverload, State.updAdmp_memSame, State.finish_memSame, State.finishAll_memSame,
      State.dropJob_memSame, foldl_memSame, = memSame_mk, = memSameF_fold]

theorem State.settlePending_memSame (p : Nat) (b : Int) (done : Nat) {s : State} (hs : MemSame a s) : MemSame a
    (State.settlePending p b done s) := by
  grind [State.settlePending, State.updAdm_memSame, State.stage_memSame, State.refuseOverload_memSame, foldl_memSame, =
      memSame_mk, = memSameF_fold]

theorem State.admissionPass_memSame {s : State} (hs : MemSame a s) : MemSame a (State.admissionPass s) := by
  grind (gen := 30) (ematch := 30) (splits := 30) [State.admissionPass, State.updAdm_memSame, State.stage_memSame,
      State.purge_memSame, State.powerCheck_memSame, State.settlePending_memSame, foldl_memSame, = memSame_mk, =
      memSameF_fold]

theorem State.hbmStep_memSame {s : State} (hs : MemSame a s) : MemSame a (State.hbmStep s) := by
  grind [State.hbmStep, State.updPor_memSame, State.takeFree_memSame, foldl_memSame, = memSame_mk, = memSameF_fold]

theorem State.evalHealth_memSame (i : Nat) {s : State} (hs : MemSame a s) : MemSame a (State.evalHealth i s) := by
  grind [State.evalHealth, State.updPort_memSame, State.updWork_memSame, State.setHealth_memSame,
      State.permanentFault_memSame, foldl_memSame, = memSame_mk, = memSameF_fold]

theorem State.countIdle_memSame {s : State} (hs : MemSame a s) : MemSame a (State.countIdle s) := by
  grind [State.countIdle, State.updPwrp_memSame, foldl_memSame, = memSame_mk, = memSameF_fold]

theorem State.evalHottest_memSame {s : State} (hs : MemSame a s) : MemSame a (State.evalHottest s) := by
  grind [State.evalHottest, State.updPwr_memSame, foldl_memSame, = memSame_mk, = memSameF_fold]

theorem opSlackStart_memSame {s : State} (hs : MemSame a s) : MemSame a (opSlackStart s) := by
  grind (gen := 30) (ematch := 30) (splits := 30) [opSlackStart, State.updFrm_memSame, State.updPln_memSame,
      State.updMgt_memSame, State.evalHealth_memSame, State.admissionPass_memSame, State.countIdle_memSame,
      State.evalHottest_memSame, State.hbmStep_memSame, foldl_memSame, = memSame_mk, = memSameF_fold]

theorem execSlackStart_memSame {s : State} (hs : MemSame a s) {t : State} (e_ : execSlackStart s = .next t) : MemSame
    a t := by
  grind [execSlackStart, State.whenClocked_memSame, opSlackStart_memSame, foldl_memSame, = memSame_mk, = memSameF_fold]

theorem State.lateJoin_memSame {s : State} (hs : MemSame a s) : MemSame a (State.lateJoin s) := by
  grind [State.lateJoin, State.updFab_memSame, foldl_memSame, = memSame_mk, = memSameF_fold]

theorem State.releaseOne_memSame (h : CmdId × Nat × Bool) {s : State} (hs : MemSame a s) : MemSame a (State.releaseOne
    h s) := by
  grind [State.releaseOne, State.stage_memSame, State.finish_memSame, startNow_memSame, foldl_memSame, = memSame_mk, =
      memSameF_fold]

theorem State.releaseHeld_memSame {s : State} (hs : MemSame a s) : MemSame a (State.releaseHeld s) := by
  grind [State.releaseHeld, State.updAdm_memSame, State.releaseOne_memSame, foldl_memSame, = memSame_mk, =
      memSameF_fold]

theorem State.dropChange_memSame {s : State} (hs : MemSame a s) : MemSame a (State.dropChange s) := by
  grind [State.dropChange, State.updFrm_memSame, State.finishAll_memSame, State.releaseHeld_memSame, foldl_memSame, =
      memSame_mk, = memSameF_fold]

theorem State.takeFields_memSame (k : Marker) {s : State} (hs : MemSame a s) : MemSame a (State.takeFields k s) := by
  grind [State.takeFields, State.updFrm_memSame, State.syncChanged_memSame, State.parentChanged_memSame,
      State.dropChange_memSame, foldl_memSame, = memSame_mk, = memSameF_fold]

theorem State.acquire_memSame (k : Marker) {s : State} (hs : MemSame a s) : MemSame a (State.acquire k s) := by
  grind [State.acquire, State.updFrm_memSame, State.setSync_memSame, foldl_memSame, = memSame_mk, = memSameF_fold]

theorem State.syncStep_memSame (k : Marker) (e : Int) {s : State} (hs : MemSame a s) : MemSame a (State.syncStep k e
    s) := by
  grind [State.syncStep, State.updFrm_memSame, State.setSync_memSame, State.acquire_memSame, foldl_memSame, =
      memSame_mk, = memSameF_fold]

theorem opMarkerReceive_memSame (port : Fin 12) (k : Marker) (arrival : Int) {s : State} (hs : MemSame a s) : MemSame
    a (opMarkerReceive port k arrival s) := by
  grind (gen := 30) (ematch := 30) (splits := 30) [opMarkerReceive, State.updFrm_memSame, State.updFab_memSame,
      State.takeFree_memSame, State.updNbr_memSame, State.parentChanged_memSame, State.lateJoin_memSame,
      State.takeFields_memSame, State.syncStep_memSame, foldl_memSame, = memSame_mk, = memSameF_fold]

theorem execMarkerReceive_memSame (port : Fin 12) (k : Marker) (arrival : Int) {s : State} (hs : MemSame a s) {t :
    State} (e_ : execMarkerReceive port k arrival s = .next t) : MemSame a t := by
  grind [execMarkerReceive, State.whenClocked_memSame, opMarkerReceive_memSame, foldl_memSame, = memSame_mk, =
      memSameF_fold]

theorem opRoutedMarkerReceive_memSame (_src : Fin 128) (k : Marker) {s : State} (hs : MemSame a s) : MemSame a
    (opRoutedMarkerReceive _src k s) := by
  grind [opRoutedMarkerReceive, State.updFrm_memSame, State.takeFields_memSame, State.acquire_memSame, foldl_memSame, =
      memSame_mk, = memSameF_fold]

theorem execRoutedMarkerReceive_memSame (src : Fin 128) (k : Marker) {s : State} (hs : MemSame a s) {t : State} (e_ :
    execRoutedMarkerReceive src k s = .next t) : MemSame a t := by
  grind [execRoutedMarkerReceive, State.whenClocked_memSame, opRoutedMarkerReceive_memSame, foldl_memSame, = memSame_mk,
      = memSameF_fold]

theorem opMarkerTimeout_memSame {s : State} (hs : MemSame a s) : MemSame a (opMarkerTimeout s) := by
  grind [opMarkerTimeout, State.setSync_memSame, foldl_memSame, = memSame_mk, = memSameF_fold]

theorem execMarkerTimeout_memSame {s : State} (hs : MemSame a s) {t : State} (e_ : execMarkerTimeout s = .next t) :
    MemSame a t := by
  grind [execMarkerTimeout, State.whenClocked_memSame, opMarkerTimeout_memSame, foldl_memSame, = memSame_mk, =
      memSameF_fold]

theorem opHoldoverExpiry_memSame {s : State} (hs : MemSame a s) : MemSame a (opHoldoverExpiry s) := by
  grind [opHoldoverExpiry, State.setSync_memSame, foldl_memSame, = memSame_mk, = memSameF_fold]

theorem execHoldoverExpiry_memSame {s : State} (hs : MemSame a s) {t : State} (e_ : execHoldoverExpiry s = .next t) :
    MemSame a t := by
  grind [execHoldoverExpiry, State.whenClocked_memSame, opHoldoverExpiry_memSame, foldl_memSame, = memSame_mk, =
      memSameF_fold]

theorem State.becomeMaster_memSame (role : Role) (deputy : Nat) {s : State} (hs : MemSame a s) : MemSame a
    (State.becomeMaster role deputy s) := by
  grind [State.becomeMaster, State.updFrm_memSame, State.syncChanged_memSame, State.parentChanged_memSame,
      foldl_memSame, = memSame_mk, = memSameF_fold]

theorem State.dropProposal_memSame {s : State} (hs : MemSame a s) : MemSame a (State.dropProposal s) := by
  grind [State.dropProposal, State.dropChange_memSame, foldl_memSame, = memSame_mk, = memSameF_fold]

theorem opDeputyTakeover_memSame {s : State} (hs : MemSame a s) : MemSame a (opDeputyTakeover s) := by
  grind [opDeputyTakeover, State.updFab_memSame, State.becomeMaster_memSame, State.dropProposal_memSame, foldl_memSame,
      = memSame_mk, = memSameF_fold]

theorem execDeputyTakeover_memSame {s : State} (hs : MemSame a s) {t : State} (e_ : execDeputyTakeover s = .next t) :
    MemSame a t := by
  grind [execDeputyTakeover, State.whenClocked_memSame, opDeputyTakeover_memSame, foldl_memSame, = memSame_mk, =
      memSameF_fold]

theorem State.openElection_memSame {s : State} (hs : MemSame a s) : MemSame a (State.openElection s) := by
  grind [State.openElection, State.updFab_memSame, foldl_memSame, = memSame_mk, = memSameF_fold]

theorem opFullReelection_memSame {s : State} (hs : MemSame a s) : MemSame a (opFullReelection s) := by
  grind [opFullReelection, State.openElection_memSame, foldl_memSame, = memSame_mk, = memSameF_fold]

theorem execFullReelection_memSame {s : State} (hs : MemSame a s) {t : State} (e_ : execFullReelection s = .next t) :
    MemSame a t := by
  grind [execFullReelection, State.whenClocked_memSame, opFullReelection_memSame, foldl_memSame, = memSame_mk, =
      memSameF_fold]

theorem State.holdMsg_memSame (src : Nat) (m : Msg) {s : State} (hs : MemSame a s) : MemSame a (State.holdMsg src m s)
    := by
  grind [State.holdMsg, State.updMgt_memSame, foldl_memSame, = memSame_mk, = memSameF_fold]

theorem State.toChoesk_memSame (src : Nat) (m : Msg) {s : State} {t : State} (hs : MemSame a s) (ht : MemSame a t) :
    MemSame a (State.toChoesk src m s t) := by
  grind [State.toChoesk, State.holdMsg_memSame, foldl_memSame, = memSame_mk, = memSameF_fold]

theorem opPeriodProposalReceive_memSame (period : BitVec 3) (slack : BitVec 2) {s : State} (hs : MemSame a s) :
    MemSame a (opPeriodProposalReceive period slack s) := by
  grind [opPeriodProposalReceive, State.updFrm_memSame, foldl_memSame, = memSame_mk, = memSameF_fold]

theorem execPeriodProposalReceive_memSame (period : BitVec 3) (slack : BitVec 2) {s : State} (hs : MemSame a s) {t :
    State} (e_ : execPeriodProposalReceive period slack s = .next t) : MemSame a t := by
  grind [execPeriodProposalReceive, State.whenClocked_memSame, State.toChoesk_memSame, opPeriodProposalReceive_memSame,
      foldl_memSame, = memSame_mk, = memSameF_fold]

theorem State.announce_memSame {s : State} (hs : MemSame a s) : MemSame a (State.announce s) := by
  grind [State.announce, State.updFrm_memSame, foldl_memSame, = memSame_mk, = memSameF_fold]

theorem opPeriodChangeAcknowledge_memSame {s : State} (hs : MemSame a s) : MemSame a (opPeriodChangeAcknowledge s) :=
    by
  grind [opPeriodChangeAcknowledge, State.updFrm_memSame, State.send_memSame, State.announce_memSame, foldl_memSame, =
      memSame_mk, = memSameF_fold]

theorem execPeriodChangeAcknowledge_memSame {s : State} (hs : MemSame a s) {t : State} (e_ :
    execPeriodChangeAcknowledge s = .next t) : MemSame a t := by
  grind [execPeriodChangeAcknowledge, State.whenClocked_memSame, opPeriodChangeAcknowledge_memSame, foldl_memSame, =
      memSame_mk, = memSameF_fold]

theorem opPeriodAckReceive_memSame (pkg : Fin 128) {s : State} (hs : MemSame a s) : MemSame a (opPeriodAckReceive pkg
    s) := by
  grind [opPeriodAckReceive, State.updFrm_memSame, State.announce_memSame, foldl_memSame, = memSame_mk, = memSameF_fold]

theorem execPeriodAckReceive_memSame (pkg : Fin 128) {s : State} (hs : MemSame a s) {t : State} (e_ :
    execPeriodAckReceive pkg s = .next t) : MemSame a t := by
  grind [execPeriodAckReceive, State.whenClocked_memSame, State.toChoesk_memSame, opPeriodAckReceive_memSame,
      foldl_memSame, = memSame_mk, = memSameF_fold]

theorem opPeriodChangeAbandon_memSame {s : State} (hs : MemSame a s) : MemSame a (opPeriodChangeAbandon s) := by
  grind [opPeriodChangeAbandon, State.updFrm_memSame, State.finishAll_memSame, State.releaseHeld_memSame, foldl_memSame,
      = memSame_mk, = memSameF_fold]

theorem execPeriodChangeAbandon_memSame {s : State} (hs : MemSame a s) {t : State} (e_ : execPeriodChangeAbandon s =
    .next t) : MemSame a t := by
  grind [execPeriodChangeAbandon, State.whenClocked_memSame, opPeriodChangeAbandon_memSame, foldl_memSame, = memSame_mk,
      = memSameF_fold]

theorem State.takeSpanHold_memSame (span : BitVec 16) (h : FrameNo) (rho : BitVec 32) {s : State} (hs : MemSame a s) :
    MemSame a (State.takeSpanHold span h rho s) := by
  grind [State.takeSpanHold, State.updPln_memSame, foldl_memSame, = memSame_mk, = memSameF_fold]

theorem opOverrunNoticeReceive_memSame (span : BitVec 16) (_frame : FrameNo) (_pkg : Fin 128) {s : State} (hs :
    MemSame a s) : MemSame a (opOverrunNoticeReceive span _frame _pkg s) := by
  grind [opOverrunNoticeReceive, State.updPln_memSame, State.log_memSame, State.sendAll_memSame, State.updLead_memSame,
      State.takeSpanHold_memSame, foldl_memSame, = memSame_mk, = memSameF_fold]

theorem execOverrunNoticeReceive_memSame (span : BitVec 16) (frame : FrameNo) (pkg : Fin 128) {s : State} (hs :
    MemSame a s) {t : State} (e_ : execOverrunNoticeReceive span frame pkg s = .next t) : MemSame a t := by
  grind [execOverrunNoticeReceive, State.whenClocked_memSame, State.toChoesk_memSame, opOverrunNoticeReceive_memSame,
      foldl_memSame, = memSame_mk, = memSameF_fold]

theorem opSpanHoldReceive_memSame (span : BitVec 16) (h : FrameNo) (rho : BitVec 32) {s : State} (hs : MemSame a s) :
    MemSame a (opSpanHoldReceive span h rho s) := by
  grind [opSpanHoldReceive, State.takeSpanHold_memSame, foldl_memSame, = memSame_mk, = memSameF_fold]

theorem execSpanHoldReceive_memSame (span : BitVec 16) (h : FrameNo) (rho : BitVec 32) {s : State} (hs : MemSame a s)
    {t : State} (e_ : execSpanHoldReceive span h rho s = .next t) : MemSame a t := by
  grind [execSpanHoldReceive, State.whenClocked_memSame, State.toChoesk_memSame, opSpanHoldReceive_memSame,
      foldl_memSame, = memSame_mk, = memSameF_fold]

theorem opFlowDeclarationReceive_memSame (d : Declared) (pkg : Fin 128) {s : State} (hs : MemSame a s) : MemSame a
    (opFlowDeclarationReceive d pkg s) := by
  grind (gen := 30) (ematch := 30) (splits := 30) [opFlowDeclarationReceive, State.updLead_memSame,
      State.answerFlow_memSame, State.freeFlow_memSame, foldl_memSame, = memSame_mk, = memSameF_fold]

theorem execFlowDeclarationReceive_memSame (d : Declared) (pkg : Fin 128) {s : State} (hs : MemSame a s) {t : State}
    (e_ : execFlowDeclarationReceive d pkg s = .next t) : MemSame a t := by
  grind [execFlowDeclarationReceive, State.whenClocked_memSame, State.toChoesk_memSame,
      opFlowDeclarationReceive_memSame, foldl_memSame, = memSame_mk, = memSameF_fold]

theorem opHealthNoticeReceive_memSame (_frame : FrameNo) (port : Fin 16) (health width : BitVec 2) (pkg : Fin 128) {s
    : State} (hs : MemSame a s) : MemSame a (opHealthNoticeReceive _frame port health width pkg s) := by
  grind [opHealthNoticeReceive, State.updPln_memSame, foldl_memSame, = memSame_mk, = memSameF_fold]

theorem execHealthNoticeReceive_memSame (frame : FrameNo) (port : Fin 16) (health : BitVec 2) (width : BitVec 2) (pkg
    : Fin 128) {s : State} (hs : MemSame a s) {t : State} (e_ : execHealthNoticeReceive frame port health width pkg s
    = .next t) : MemSame a t := by
  grind [execHealthNoticeReceive, State.whenClocked_memSame, State.toChoesk_memSame, opHealthNoticeReceive_memSame,
      foldl_memSame, = memSame_mk, = memSameF_fold]

theorem opPlannerTakeover_memSame {s : State} (hs : MemSame a s) : MemSame a (opPlannerTakeover s) := by
  grind [opPlannerTakeover, State.updPln_memSame, foldl_memSame, = memSame_mk, = memSameF_fold]

theorem execPlannerTakeover_memSame {s : State} (hs : MemSame a s) {t : State} (e_ : execPlannerTakeover s = .next t)
    : MemSame a t := by
  grind [execPlannerTakeover, State.whenClocked_memSame, opPlannerTakeover_memSame, foldl_memSame, = memSame_mk, =
      memSameF_fold]

theorem State.emptyCell_memSame (p port slot : Nat) {s : State} (hs : MemSame a s) : MemSame a (State.emptyCell p port
    slot s) := by
  grind [State.emptyCell, State.updPlnp_memSame, State.emit_memSame, foldl_memSame, = memSame_mk, = memSameF_fold]

theorem State.cellOut_memSame (port slot : Nat) (c : Transit) {s : State} (hs : MemSame a s) : MemSame a
    (State.cellOut port slot c s) := by
  grind [State.cellOut, State.emit_memSame, State.tx_memSame, foldl_memSame, = memSame_mk, = memSameF_fold]

theorem State.takeSend_memSame (o : Op) {s : State} (hs : MemSame a s) : MemSame a (State.takeSend o s).2 := by
  grind [State.takeSend, State.updPln_memSame, foldl_memSame, = memSame_mk, = memSameF_fold]

theorem State.originate_memSame (port slot : Nat) (r : PlanRecord) (e : PlanEntry) {s : State} (hs : MemSame a s) :
    MemSame a (State.originate port slot r e s) := by
  grind [State.originate, State.emptyCell_memSame, State.cellOut_memSame, State.takeSend_memSame, foldl_memSame, =
      memSame_mk, = memSameF_fold]

theorem State.groupCell_memSame (port slot : Nat) (g : Group) (edge : Edge) (r : PlanRecord) (e : PlanEntry) {s :
    State} (hs : MemSame a s) : MemSame a (State.groupCell port slot g edge r e s) := by
  grind [State.groupCell, State.updRed_memSame, State.emptyCell_memSame, State.cellOut_memSame, foldl_memSame, =
      memSame_mk, = memSameF_fold]

theorem State.discardCell_memSame (c : Transit) {s : State} (hs : MemSame a s) : MemSame a (State.discardCell c s) :=
    by
  grind [State.discardCell, State.updPlnp_memSame, foldl_memSame, = memSame_mk, = memSameF_fold]

theorem State.forward_memSame (port slot : Nat) (r : PlanRecord) (e : PlanEntry) {s : State} (hs : MemSame a s) :
    MemSame a (State.forward port slot r e s) := by
  grind [State.forward, State.updPln_memSame, State.emptyCell_memSame, State.discardCell_memSame, State.cellOut_memSame,
      foldl_memSame, = memSame_mk, = memSameF_fold]

theorem State.holdCell_memSame (port slot p : Nat) {s : State} (hs : MemSame a s) : MemSame a (State.holdCell port
    slot p s) := by
  grind [State.holdCell, State.cellOut_memSame, State.takeSend_memSame, foldl_memSame, = memSame_mk, = memSameF_fold]

theorem opCellWindow_memSame (port : Fin 12) (slot : BitVec 12) {s : State} (hs : MemSame a s) : MemSame a
    (opCellWindow port slot s) := by
  grind [opCellWindow, State.originate_memSame, State.groupCell_memSame, State.forward_memSame, State.holdCell_memSame,
      foldl_memSame, = memSame_mk, = memSameF_fold]

theorem execCellWindow_memSame (port : Fin 12) (slot : BitVec 12) {s : State} (hs : MemSame a s) {t : State} (e_ :
    execCellWindow port slot s = .next t) : MemSame a t := by
  grind [execCellWindow, State.whenClocked_memSame, opCellWindow_memSame, foldl_memSame, = memSame_mk, = memSameF_fold]

theorem opBeaconRound_memSame {s : State} (hs : MemSame a s) : MemSame a (opBeaconRound s) := by
  grind [opBeaconRound, State.updFab_memSame, State.txMsg_memSame, State.sendBeacons_memSame, foldl_memSame, =
      memSame_mk, = memSameF_fold]

theorem execBeaconRound_memSame {s : State} (hs : MemSame a s) {t : State} (e_ : execBeaconRound s = .next t) :
    MemSame a t := by
  grind [execBeaconRound, State.whenClocked_memSame, opBeaconRound_memSame, foldl_memSame, = memSame_mk, =
      memSameF_fold]

theorem State.miswire_memSame (i : Nat) {s : State} (hs : MemSame a s) : MemSame a (State.miswire i s) := by
  grind [State.miswire, State.logEvent_memSame, State.updNbr_memSame, State.sendBeacons_memSame, foldl_memSame, =
      memSame_mk, = memSameF_fold]

theorem State.haltDup_memSame {s : State} (hs : MemSame a s) : MemSame a (State.haltDup s) := by
  grind [State.haltDup, State.updFab_memSame, State.logEvent_memSame, foldl_memSame, = memSame_mk, = memSameF_fold]

theorem State.markDups_memSame (ks : List Nat) {s : State} (hs : MemSame a s) : MemSame a (State.markDups ks s) := by
  grind [State.markDups, State.updFab_memSame, State.haltDup_memSame, foldl_memSame, = memSame_mk, = memSameF_fold]

theorem State.retryWaiting_memSame {s : State} (hs : MemSame a s) : MemSame a (State.retryWaiting s) := by
  grind [State.retryWaiting, State.updFab_memSame, State.sendFlit_memSame, foldl_memSame, = memSame_mk, = memSameF_fold]

theorem opBeaconReceive_memSame (port : Fin 16) (b : Beacon) {s : State} (hs : MemSame a s) : MemSame a
    (opBeaconReceive port b s) := by
  grind [opBeaconReceive, State.updFab_memSame, State.updNbr_memSame, State.retryWaiting_memSame, State.miswire_memSame,
      State.markDups_memSame, State.lateJoin_memSame, foldl_memSame, = memSame_mk, = memSameF_fold]

theorem execBeaconReceive_memSame (port : Fin 16) (b : Beacon) {s : State} (hs : MemSame a s) {t : State} (e_ :
    execBeaconReceive port b s = .next t) : MemSame a t := by
  grind [execBeaconReceive, State.whenClocked_memSame, opBeaconReceive_memSame, foldl_memSame, = memSame_mk, =
      memSameF_fold]

theorem opDupFlagClear_memSame (pkg : Fin 128) {s : State} (hs : MemSame a s) : MemSame a (opDupFlagClear pkg s) := by
  grind [opDupFlagClear, State.updFab_memSame, foldl_memSame, = memSame_mk, = memSameF_fold]

theorem execDupFlagClear_memSame (pkg : Fin 128) {s : State} (hs : MemSame a s) {t : State} (e_ : execDupFlagClear pkg
    s = .next t) : MemSame a t := by
  grind [execDupFlagClear, State.whenClocked_memSame, opDupFlagClear_memSame, foldl_memSame, = memSame_mk, =
      memSameF_fold]

theorem opKeyExpiry_memSame (pkg : Fin 128) {s : State} (hs : MemSame a s) : MemSame a (opKeyExpiry pkg s) := by
  grind [opKeyExpiry, State.updFab_memSame, foldl_memSame, = memSame_mk, = memSameF_fold]

theorem execKeyExpiry_memSame (pkg : Fin 128) {s : State} (hs : MemSame a s) {t : State} (e_ : execKeyExpiry pkg s =
    .next t) : MemSame a t := by
  grind [execKeyExpiry, State.whenClocked_memSame, opKeyExpiry_memSame, foldl_memSame, = memSame_mk, = memSameF_fold]

theorem opNeighbourVectorExpiry_memSame (port : Fin 12) {s : State} (hs : MemSame a s) : MemSame a
    (opNeighbourVectorExpiry port s) := by
  grind [opNeighbourVectorExpiry, State.updNbr_memSame, foldl_memSame, = memSame_mk, = memSameF_fold]

theorem execNeighbourVectorExpiry_memSame (port : Fin 12) {s : State} (hs : MemSame a s) {t : State} (e_ :
    execNeighbourVectorExpiry port s = .next t) : MemSame a t := by
  grind [execNeighbourVectorExpiry, State.whenClocked_memSame, opNeighbourVectorExpiry_memSame, foldl_memSame, =
      memSame_mk, = memSameF_fold]

theorem State.closeElection_memSame {s : State} (hs : MemSame a s) : MemSame a (State.closeElection s) := by
  grind [State.closeElection, State.updFrm_memSame, State.updFab_memSame, State.syncChanged_memSame,
      State.becomeMaster_memSame, foldl_memSame, = memSame_mk, = memSameF_fold]

theorem opElectionClose_memSame {s : State} (hs : MemSame a s) : MemSame a (opElectionClose s) := by
  grind [opElectionClose, State.closeElection_memSame, State.dropProposal_memSame, foldl_memSame, = memSame_mk, =
      memSameF_fold]

theorem execElectionClose_memSame {s : State} (hs : MemSame a s) {t : State} (e_ : execElectionClose s = .next t) :
    MemSame a t := by
  grind [execElectionClose, State.whenClocked_memSame, opElectionClose_memSame, foldl_memSame, = memSame_mk, =
      memSameF_fold]

theorem opDeputyRename_memSame {s : State} (hs : MemSame a s) : MemSame a (opDeputyRename s) := by
  grind [opDeputyRename, State.updFrm_memSame, State.updFab_memSame, foldl_memSame, = memSame_mk, = memSameF_fold]

theorem execDeputyRename_memSame {s : State} (hs : MemSame a s) {t : State} (e_ : execDeputyRename s = .next t) :
    MemSame a t := by
  grind [execDeputyRename, State.whenClocked_memSame, opDeputyRename_memSame, foldl_memSame, = memSame_mk, =
      memSameF_fold]

theorem opStandaloneReopen_memSame {s : State} (hs : MemSame a s) : MemSame a (opStandaloneReopen s) := by
  grind [opStandaloneReopen, State.openElection_memSame, foldl_memSame, = memSame_mk, = memSameF_fold]

theorem execStandaloneReopen_memSame {s : State} (hs : MemSame a s) {t : State} (e_ : execStandaloneReopen s = .next
    t) : MemSame a t := by
  grind [execStandaloneReopen, State.whenClocked_memSame, opStandaloneReopen_memSame, foldl_memSame, = memSame_mk, =
      memSameF_fold]

theorem State.announceRepair_memSame (g : Group) {s : State} (hs : MemSame a s) : MemSame a (State.announceRepair g s)
    := by
  grind [State.announceRepair, State.sendAll_memSame, State.updGroup_memSame, foldl_memSame, = memSame_mk, =
      memSameF_fold]

theorem State.lostEarly_memSame (g : Group) (lost : List (Nat × Bool)) {s : State} (hs : MemSame a s) : MemSame a
    (State.lostEarly g lost s) := by
  grind [State.lostEarly, State.updGroup_memSame, State.groupsProgress_memSame, foldl_memSame, = memSame_mk, =
      memSameF_fold]

theorem State.lostKilled_memSame (g : Group) (lost : List (Nat × Bool)) {s : State} (hs : MemSame a s) : MemSame a
    (State.lostKilled g lost s) := by
  grind [State.lostKilled, State.updGroup_memSame, State.groupsProgress_memSame, State.announceRepair_memSame,
      foldl_memSame, = memSame_mk, = memSameF_fold]

theorem State.lostRebuild_memSame (g : Group) (lost : List (Nat × Bool)) {s : State} (hs : MemSame a s) : MemSame a
    (State.lostRebuild g lost s) := by
  grind [State.lostRebuild, State.updRed_memSame, State.updGroup_memSame, State.declareEdges_memSame,
      State.groupsProgress_memSame, foldl_memSame, = memSame_mk, = memSameF_fold]

theorem State.memberLost_memSame (g : Group) (rank : Nat) (killed : Bool) {s : State} (hs : MemSame a s) : MemSame a
    (State.memberLost g rank killed s) := by
  grind [State.memberLost, State.lostEarly_memSame, State.lostKilled_memSame, State.lostRebuild_memSame, foldl_memSame,
      = memSame_mk, = memSameF_fold]

theorem State.groupsLose_memSame (pkg : Nat) {s : State} (hs : MemSame a s) : MemSame a (State.groupsLose pkg s) := by
  grind [State.groupsLose, State.memberLost_memSame, foldl_memSame, = memSame_mk, = memSameF_fold]

theorem State.enterDeclarations_memSame (span : BitVec 16) (ds : List Declared) (pkg : Nat) {s : State} (hs : MemSame
    a s) : MemSame a (State.enterDeclarations span ds pkg s) := by
  grind [State.enterDeclarations, State.updLead_memSame, opFlowDeclarationReceive_memSame, foldl_memSame, = memSame_mk,
      = memSameF_fold]

theorem State.takeLead_memSame (x : Span) {s : State} (hs : MemSame a s) : MemSame a (State.takeLead x s) := by
  grind (gen := 30) (ematch := 30) (splits := 30) [State.takeLead, State.updPln_memSame, State.log_memSame,
      State.sendAll_memSame, State.updSpan_memSame, State.enterDeclarations_memSame, foldl_memSame, = memSame_mk, =
      memSameF_fold]

theorem State.refreshLeads_memSame {s : State} (hs : MemSame a s) : MemSame a (State.refreshLeads s) := by
  grind [State.refreshLeads, State.updSpan_memSame, State.takeLead_memSame, foldl_memSame, = memSame_mk, =
      memSameF_fold]

theorem opReachabilityChange_memSame (pkg : Fin 128) {s : State} (hs : MemSame a s) : MemSame a (opReachabilityChange
    pkg s) := by
  grind [opReachabilityChange, State.updFab_memSame, State.log_memSame, State.groupsLose_memSame,
      State.refreshLeads_memSame, foldl_memSame, = memSame_mk, = memSameF_fold]

theorem execReachabilityChange_memSame (pkg : Fin 128) {s : State} (hs : MemSame a s) {t : State} (e_ :
    execReachabilityChange pkg s = .next t) : MemSame a t := by
  grind [execReachabilityChange, State.whenClocked_memSame, opReachabilityChange_memSame, foldl_memSame, = memSame_mk, =
      memSameF_fold]

theorem State.resolveLeads_memSame (span : BitVec 16) (pkg : Nat) {s : State} (hs : MemSame a s) : MemSame a
    (State.resolveLeads span pkg s) := by
  grind [State.resolveLeads, State.updPln_memSame, State.log_memSame, State.send_memSame, State.updSpan_memSame,
      foldl_memSame, = memSame_mk, = memSameF_fold]

theorem opLeadTakeoverNoticeReceive_memSame (span : BitVec 16) (pkg : Fin 128) {s : State} (hs : MemSame a s) :
    MemSame a (opLeadTakeoverNoticeReceive span pkg s) := by
  grind [opLeadTakeoverNoticeReceive, State.send_memSame, State.tellPorts_memSame, State.resolveLeads_memSame,
      foldl_memSame, = memSame_mk, = memSameF_fold]

theorem execLeadTakeoverNoticeReceive_memSame (span : BitVec 16) (pkg : Fin 128) {s : State} (hs : MemSame a s) {t :
    State} (e_ : execLeadTakeoverNoticeReceive span pkg s = .next t) : MemSame a t := by
  grind [execLeadTakeoverNoticeReceive, State.whenClocked_memSame, State.toChoesk_memSame,
      opLeadTakeoverNoticeReceive_memSame, foldl_memSame, = memSame_mk, = memSameF_fold]

theorem opLeadDeclarationReplyReceive_memSame (span : BitVec 16) (rho : BitVec 32) (decls : List Declared) (pkg : Fin
    128) (shares : BitVec 32) {s : State} (hs : MemSame a s) : MemSame a (opLeadDeclarationReplyReceive span rho decls
    pkg shares s) := by
  grind [opLeadDeclarationReplyReceive, State.updSpan_memSame, State.updLead_memSame, State.enterDeclarations_memSame,
      foldl_memSame, = memSame_mk, = memSameF_fold]

theorem execLeadDeclarationReplyReceive_memSame (span : BitVec 16) (rho : BitVec 32) (decls : List Declared) (pkg :
    Fin 128) (shares : BitVec 32) {s : State} (hs : MemSame a s) {t : State} (e_ : execLeadDeclarationReplyReceive
    span rho decls pkg shares s = .next t) : MemSame a t := by
  grind [execLeadDeclarationReplyReceive, State.whenClocked_memSame, State.toChoesk_memSame,
      opLeadDeclarationReplyReceive_memSame, foldl_memSame, = memSame_mk, = memSameF_fold]

theorem opDualLeadResolve_memSame (span : BitVec 16) (pkg : Fin 128) {s : State} (hs : MemSame a s) : MemSame a
    (opDualLeadResolve span pkg s) := by
  grind [opDualLeadResolve, State.resolveLeads_memSame, foldl_memSame, = memSame_mk, = memSameF_fold]

theorem execDualLeadResolve_memSame (span : BitVec 16) (pkg : Fin 128) {s : State} (hs : MemSame a s) {t : State} (e_
    : execDualLeadResolve span pkg s = .next t) : MemSame a t := by
  grind [execDualLeadResolve, State.whenClocked_memSame, opDualLeadResolve_memSame, foldl_memSame, = memSame_mk, =
      memSameF_fold]

theorem opControlFlitForward_memSame (port : Fin 12) {s : State} (hs : MemSame a s) : MemSame a (opControlFlitForward
    port s) := by
  grind [opControlFlitForward, State.updFab_memSame, State.tx_memSame, State.discardFlit_memSame, State.noteWay_memSame,
      foldl_memSame, = memSame_mk, = memSameF_fold]

theorem execControlFlitForward_memSame (port : Fin 12) {s : State} (hs : MemSame a s) {t : State} (e_ :
    execControlFlitForward port s = .next t) : MemSame a t := by
  grind [execControlFlitForward, State.whenClocked_memSame, opControlFlitForward_memSame, foldl_memSame, = memSame_mk, =
      memSameF_fold]

theorem opOuterHelloReceive_memSame (port : Fin 16) (h : Hello) (arrival : Int) {s : State} (hs : MemSame a s) :
    MemSame a (opOuterHelloReceive port h arrival s) := by
  grind [opOuterHelloReceive, State.updOuter_memSame, State.miswire_memSame, foldl_memSame, = memSame_mk, =
      memSameF_fold]

theorem execOuterHelloReceive_memSame (port : Fin 16) (h : Hello) (arrival : Int) {s : State} (hs : MemSame a s) {t :
    State} (e_ : execOuterHelloReceive port h arrival s = .next t) : MemSame a t := by
  grind [execOuterHelloReceive, State.whenClocked_memSame, opOuterHelloReceive_memSame, foldl_memSame, = memSame_mk, =
      memSameF_fold]

theorem State.sendCredit_memSame (o : Nat) (channel : Nat) (bytes : List Byte) {s : State} (hs : MemSame a s) :
    MemSame a (State.sendCredit o channel bytes s).1 := by
  grind [State.sendCredit, State.txMsg_memSame, State.updOuter_memSame, foldl_memSame, = memSame_mk, = memSameF_fold]

theorem opCreditDataSend_memSame (o : Fin 4) (channel : BitVec 4) (bytes : List Byte) {s : State} (hs : MemSame a s) :
    MemSame a (opCreditDataSend o channel bytes s) := by
  grind [opCreditDataSend, State.sendCredit_memSame, foldl_memSame, = memSame_mk, = memSameF_fold]

theorem execCreditDataSend_memSame (o : Fin 4) (channel : BitVec 4) (bytes : List Byte) {s : State} (hs : MemSame a s)
    {t : State} (e_ : execCreditDataSend o channel bytes s = .next t) : MemSame a t := by
  grind [execCreditDataSend, State.whenClocked_memSame, opCreditDataSend_memSame, foldl_memSame, = memSame_mk, =
      memSameF_fold]

theorem opCreditDataReceive_memSame (o : Fin 4) (channel : BitVec 4) (bytes : List Byte) {s : State} (hs : MemSame a
    s) : MemSame a (opCreditDataReceive o channel bytes s) := by
  grind [opCreditDataReceive, State.updOuter_memSame, foldl_memSame, = memSame_mk, = memSameF_fold]

theorem execCreditDataReceive_memSame (o : Fin 4) (channel : BitVec 4) (bytes : List Byte) {s : State} (hs : MemSame a
    s) {t : State} (e_ : execCreditDataReceive o channel bytes s = .next t) : MemSame a t := by
  grind [execCreditDataReceive, State.whenClocked_memSame, opCreditDataReceive_memSame, foldl_memSame, = memSame_mk, =
      memSameF_fold]

theorem opCreditReturn_memSame (o : Fin 4) {s : State} (hs : MemSame a s) : MemSame a (opCreditReturn o s) := by
  grind [opCreditReturn, State.txMsg_memSame, State.updOuter_memSame, foldl_memSame, = memSame_mk, = memSameF_fold]

theorem execCreditReturn_memSame (o : Fin 4) {s : State} (hs : MemSame a s) {t : State} (e_ : execCreditReturn o s =
    .next t) : MemSame a t := by
  grind [execCreditReturn, State.whenClocked_memSame, opCreditReturn_memSame, foldl_memSame, = memSame_mk, =
      memSameF_fold]

theorem opCreditReturnReceive_memSame (o : Fin 4) (count : BitVec 7) {s : State} (hs : MemSame a s) : MemSame a
    (opCreditReturnReceive o count s) := by
  grind [opCreditReturnReceive, State.updOuter_memSame, foldl_memSame, = memSame_mk, = memSameF_fold]

theorem execCreditReturnReceive_memSame (o : Fin 4) (count : BitVec 7) {s : State} (hs : MemSame a s) {t : State} (e_
    : execCreditReturnReceive o count s = .next t) : MemSame a t := by
  grind [execCreditReturnReceive, State.whenClocked_memSame, opCreditReturnReceive_memSame, foldl_memSame, = memSame_mk,
      = memSameF_fold]

theorem opSheafStatusSend_memSame {s : State} (hs : MemSame a s) : MemSame a (opSheafStatusSend s) := by
  unfold opSheafStatusSend
  split
  · exact hs
  · refine foldl_memSame (fun s o h => ?_) _ (State.updFab_memSame _ hs)
    dsimp only
    split
    · exact State.updOuter_memSame _ _ h
    · grind [State.sendCredit_memSame, State.updOuter_memSame]

theorem execSheafStatusSend_memSame {s : State} (hs : MemSame a s) {t : State} (e_ : execSheafStatusSend s = .next t)
    : MemSame a t := by
  grind [execSheafStatusSend, State.whenClocked_memSame, opSheafStatusSend_memSame, foldl_memSame, = memSame_mk, =
      memSameF_fold]

theorem pumpLoop_memSame (i n : Nat) {s : State} (hs : MemSame a s) : MemSame a (pumpLoop i n s) := by
  induction n generalizing s with
  | zero => exact hs
  | succ k ih => grind [pumpLoop, State.txNow_memSame, State.updWork_memSame]

theorem State.pump_memSame (i : Nat) {s : State} (hs : MemSame a s) : MemSame a (State.pump i s) := by
  grind [State.pump, pumpLoop_memSame, foldl_memSame, = memSame_mk, = memSameF_fold]

theorem State.raiseUp_memSame (i : Nat) {s : State} (hs : MemSame a s) : MemSame a (State.raiseUp i s) := by
  grind [State.raiseUp, State.updPort_memSame, State.updWork_memSame, State.finishAll_memSame, State.updOuter_memSame,
      foldl_memSame, = memSame_mk, = memSameF_fold]

theorem State.enterUp_memSame (i : Nat) {s : State} (hs : MemSame a s) : MemSame a (State.enterUp i s) := by
  grind [State.enterUp, State.pump_memSame, State.retryWaiting_memSame, State.raiseUp_memSame, foldl_memSame, =
      memSame_mk, = memSameF_fold]

theorem State.startBurst_memSame (i : Nat) {s : State} (hs : MemSame a s) : MemSame a (State.startBurst i s) := by
  grind [State.startBurst, State.updPort_memSame, State.updWork_memSame, State.setHealth_memSame, foldl_memSame, =
      memSame_mk, = memSameF_fold]

theorem State.lanesLost_memSame (i : Nat) (lanes : List Nat) {s : State} (hs : MemSame a s) : MemSame a
    (State.lanesLost i lanes s) := by
  grind [State.lanesLost, State.updPort_memSame, State.startRetrain_memSame, State.startBurst_memSame, foldl_memSame, =
      memSame_mk, = memSameF_fold]

theorem opAlignmentMarkerReceive_memSame (port : Fin 16) (lane : Fin 8) (raw : BitVec 128) (between : List Byte) (skew
    : Nat) {s : State} (hs : MemSame a s) : MemSame a (opAlignmentMarkerReceive port lane raw between skew s) := by
  grind [opAlignmentMarkerReceive, State.updPort_memSame, State.enterUp_memSame, State.lanesLost_memSame, foldl_memSame,
      = memSame_mk, = memSameF_fold]

theorem execAlignmentMarkerReceive_memSame (port : Fin 16) (lane : Fin 8) (raw : BitVec 128) (between : List Byte)
    (skew : Nat) {s : State} (hs : MemSame a s) {t : State} (e_ : execAlignmentMarkerReceive port lane raw between
    skew s = .next t) : MemSame a t := by
  grind [execAlignmentMarkerReceive, State.whenClocked_memSame, opAlignmentMarkerReceive_memSame, foldl_memSame, =
      memSame_mk, = memSameF_fold]

theorem State.bringupFails_memSame (i : Nat) {s : State} (hs : MemSame a s) : MemSame a (State.bringupFails i s) := by
  grind [State.bringupFails, State.updPort_memSame, State.emit_memSame, State.logEvent_memSame, foldl_memSame, =
      memSame_mk, = memSameF_fold]

theorem State.sendStamps_memSame (i : Nat) {s : State} (hs : MemSame a s) : MemSame a (State.sendStamps i s) := by
  grind [State.sendStamps, State.sendLinkctl_memSame, foldl_memSame, = memSame_mk, = memSameF_fold]

theorem opPortBringup_memSame (port : Fin 16) (order : List (BitVec 3)) (stamps : List (BitVec 16)) (margins : List
    (BitVec 12)) {s : State} (hs : MemSame a s) : MemSame a (opPortBringup port order stamps margins s) := by
  grind [opPortBringup, State.updPort_memSame, State.updWork_memSame, State.enterUp_memSame, State.bringupFails_memSame,
      State.sendStamps_memSame, foldl_memSame, = memSame_mk, = memSameF_fold]

theorem execPortBringup_memSame (port : Fin 16) (order : List (BitVec 3)) (stamps : List (BitVec 16)) (margins : List
    (BitVec 12)) {s : State} (hs : MemSame a s) {t : State} (e_ : execPortBringup port order stamps margins s = .next
    t) : MemSame a t := by
  grind [execPortBringup, State.whenClocked_memSame, opPortBringup_memSame, foldl_memSame, = memSame_mk, =
      memSameF_fold]

theorem opBringupTimeout_memSame (port : Fin 16) {s : State} (hs : MemSame a s) : MemSame a (opBringupTimeout port s)
    := by
  grind [opBringupTimeout, State.updWork_memSame, State.finishAll_memSame, State.bringupFails_memSame, foldl_memSame, =
      memSame_mk, = memSameF_fold]

theorem execBringupTimeout_memSame (port : Fin 16) {s : State} (hs : MemSame a s) {t : State} (e_ : execBringupTimeout
    port s = .next t) : MemSame a t := by
  grind [execBringupTimeout, State.whenClocked_memSame, opBringupTimeout_memSame, foldl_memSame, = memSame_mk, =
      memSameF_fold]

theorem State.applyWidth_memSame (i : Nat) (unsound : BitVec 8) {s : State} (hs : MemSame a s) : MemSame a
    (State.applyWidth i unsound s) := by
  grind [State.applyWidth, State.updPort_memSame, State.updWork_memSame, State.emit_memSame, State.startRetrain_memSame,
      State.retirePort_memSame, foldl_memSame, = memSame_mk, = memSameF_fold]

theorem opWidthReceive_memSame (port : Fin 16) (unsound : BitVec 8) {s : State} (hs : MemSame a s) : MemSame a
    (opWidthReceive port unsound s) := by
  grind [opWidthReceive, State.setHealth_memSame, State.applyWidth_memSame, State.sendWidth_memSame, foldl_memSame, =
      memSame_mk, = memSameF_fold]

theorem State.acked_memSame (i : Nat) (a0 : BitVec 12) {s : State} (hs : MemSame a s) : MemSame a (State.acked i a0 s)
    := by
  grind [State.acked, State.updWork_memSame, State.pump_memSame, foldl_memSame, = memSame_mk, = memSameF_fold]

theorem State.sendNak_memSame (i : Nat) {s : State} (hs : MemSame a s) : MemSame a (State.sendNak i s) := by
  grind [State.sendNak, State.updWork_memSame, State.sendLinkctl_memSame, foldl_memSame, = memSame_mk, = memSameF_fold]

theorem State.crcFailed_memSame (i : Nat) {s : State} (hs : MemSame a s) : MemSame a (State.crcFailed i s) := by
  grind [State.crcFailed, State.updPort_memSame, State.updWork_memSame, State.lanesLost_memSame, State.sendNak_memSame,
      foldl_memSame, = memSame_mk, = memSameF_fold]

theorem State.sendIdle_memSame (i : Nat) {s : State} (hs : MemSame a s) : MemSame a (State.sendIdle i s) := by
  grind [State.sendIdle, State.sendLine_memSame, foldl_memSame, = memSame_mk, = memSameF_fold]

theorem State.rxFlit_memSame (i : Nat) (a0 : Arrival) {s : State} (hs : MemSame a s) : MemSame a (State.rxFlit i a0
    s).1 := by
  grind [State.rxFlit, State.updWork_memSame, State.sendIdle_memSame, State.acked_memSame, State.sendNak_memSame,
      foldl_memSame, = memSame_mk, = memSameF_fold]

theorem State.cellArrives_memSame (i : Nat) (c : Transit) {s : State} (hs : MemSame a s) : MemSame a
    (State.cellArrives i c s) := by
  grind [State.cellArrives, State.updPln_memSame, State.discardCell_memSame, foldl_memSame, = memSame_mk, =
      memSameF_fold]

theorem State.enterTransit_memSame (i : Nat) (f : Flit) {s : State} (hs : MemSame a s) : MemSame a (State.enterTransit
    i f s) := by
  grind [State.enterTransit, State.updFab_memSame, State.discardFlit_memSame, foldl_memSame, = memSame_mk, =
      memSameF_fold]

theorem State.checkReady_memSame (g : Group) {s : State} (hs : MemSame a s) : MemSame a (State.checkReady g s) := by
  grind [State.checkReady, State.sendAll_memSame, State.updGroup_memSame, State.failEverywhere_memSame,
      State.announceRepair_memSame, foldl_memSame, = memSame_mk, = memSameF_fold]

theorem opGroupReadyReceive_memSame (span : BitVec 16) (num : BitVec 8) (pkg : Fin 128) (crc : BitVec 32) {s : State}
    (hs : MemSame a s) : MemSame a (opGroupReadyReceive span num pkg crc s) := by
  grind [opGroupReadyReceive, State.updRed_memSame, State.updGroup_memSame, State.checkReady_memSame, foldl_memSame, =
      memSame_mk, = memSameF_fold]

theorem opGroupActiveReceive_memSame (span : BitVec 16) (num : BitVec 8) {s : State} (hs : MemSame a s) : MemSame a
    (opGroupActiveReceive span num s) := by
  grind [opGroupActiveReceive, State.finishAll_memSame, State.updGroup_memSame, State.memberLost_memSame, foldl_memSame,
      = memSame_mk, = memSameF_fold]

theorem opGroupLossReceive_memSame (span : BitVec 16) (num : BitVec 8) (pkg : Fin 128) (killed : Bool) {s : State} (hs
    : MemSame a s) : MemSame a (opGroupLossReceive span num pkg killed s) := by
  grind [opGroupLossReceive, State.memberLost_memSame, foldl_memSame, = memSame_mk, = memSameF_fold]

theorem opRepairAnnounceReceive_memSame (span : BitVec 16) (num : BitVec 8) (round : BitVec 4) (lost : List (Nat ×
    Bool)) (restart : FrameNo) {s : State} (hs : MemSame a s) : MemSame a (opRepairAnnounceReceive span num round lost
    restart s) := by
  grind [opRepairAnnounceReceive, State.updGroup_memSame, foldl_memSame, = memSame_mk, = memSameF_fold]

theorem State.askRestart_memSame (g : Group) {s : State} (hs : MemSame a s) : MemSame a (State.askRestart g s) := by
  grind [State.askRestart, State.send_memSame, State.announceRepair_memSame, foldl_memSame, = memSame_mk, =
      memSameF_fold]

theorem State.takeMismatch_memSame (span : BitVec 16) (num : Nat) {s : State} (hs : MemSame a s) : MemSame a
    (State.takeMismatch span num s) := by
  grind [State.takeMismatch, State.askRestart_memSame, foldl_memSame, = memSame_mk, = memSameF_fold]

theorem State.takeGroupFail_memSame (span : BitVec 16) (num : Nat) (oc : Oc) (rs : Reason) {s : State} (hs : MemSame a
    s) : MemSame a (State.takeGroupFail span num oc rs s) := by
  grind [State.takeGroupFail, State.failDefine_memSame, foldl_memSame, = memSame_mk, = memSameF_fold]

theorem State.spanBecomesActive_memSame (id : BitVec 16) (ring : List Nat) {s : State} (hs : MemSame a s) : MemSame a
    (State.spanBecomesActive id ring s) := by
  grind [State.spanBecomesActive, State.finish_memSame, State.updSpan_memSame, foldl_memSame, = memSame_mk, =
      memSameF_fold]

theorem opJoinFlitReceive_memSame (span : BitVec 16) (pkg : Fin 128) (shares : BitVec 32) {s : State} (hs : MemSame a
    s) : MemSame a (opJoinFlitReceive span pkg shares s) := by
  grind [opJoinFlitReceive, State.send_memSame, State.sendAll_memSame, State.updSpan_memSame, State.updLead_memSame,
      State.spanBecomesActive_memSame, foldl_memSame, = memSame_mk, = memSameF_fold]

theorem opSpanActiveReceive_memSame (span : BitVec 16) (ring : List Nat) {s : State} (hs : MemSame a s) : MemSame a
    (opSpanActiveReceive span ring s) := by
  grind [opSpanActiveReceive, State.updSpan_memSame, State.spanBecomesActive_memSame, foldl_memSame, = memSame_mk, =
      memSameF_fold]

theorem State.endMembership_memSame (id : BitVec 16) {s : State} (hs : MemSame a s) : MemSame a (State.endMembership
    id s) := by
  grind (gen := 30) (ematch := 30) (splits := 30) [State.endMembership, State.updPln_memSame, State.updRed_memSame,
      State.finishAll_memSame, foldl_memSame, = memSame_mk, = memSameF_fold]

theorem State.spanFails_memSame (id : BitVec 16) (rs : Reason) (missing : Nat) {s : State} (hs : MemSame a s) :
    MemSame a (State.spanFails id rs missing s) := by
  grind [State.spanFails, State.finishAll_memSame, State.updSpan_memSame, State.endMembership_memSame, foldl_memSame, =
      memSame_mk, = memSameF_fold]

theorem State.answerLeave_memSame (id : BitVec 16) (pkg : Nat) {s : State} (hs : MemSame a s) : MemSame a
    (State.answerLeave id pkg s) := by
  grind [State.answerLeave, State.send_memSame, State.sendAll_memSame, State.updSpan_memSame, State.updLead_memSame,
      foldl_memSame, = memSame_mk, = memSameF_fold]

theorem State.takeLeaveReply_memSame (id : BitVec 16) (ok : Bool) {s : State} (hs : MemSame a s) : MemSame a
    (State.takeLeaveReply id ok s) := by
  grind [State.takeLeaveReply, State.finishAll_memSame, State.updSpan_memSame, foldl_memSame, = memSame_mk, =
      memSameF_fold]

theorem opSpanEndReceive_memSame (span : BitVec 16) {s : State} (hs : MemSame a s) : MemSame a (opSpanEndReceive span
    s) := by
  grind [opSpanEndReceive, State.updSpan_memSame, foldl_memSame, = memSame_mk, = memSameF_fold]

theorem opCapSetReceive_memSame (cap : BitVec 7) (frame : FrameNo) (pkg : Fin 128) {s : State} (hs : MemSame a s) :
    MemSame a (opCapSetReceive cap frame pkg s) := by
  grind [opCapSetReceive, State.pendCap_memSame, foldl_memSame, = memSame_mk, = memSameF_fold]

theorem State.takeCapAck_memSame (cap : BitVec 7) (frame : FrameNo) (pkg : Nat) {s : State} (hs : MemSame a s) :
    MemSame a (State.takeCapAck cap frame pkg s) := by
  grind [State.takeCapAck, State.updPwr_memSame, State.finishAll_memSame, foldl_memSame, = memSame_mk, = memSameF_fold]

theorem opCapAckReceive_memSame (cap : BitVec 7) (frame : FrameNo) (pkg : Fin 128) {s : State} (hs : MemSame a s) :
    MemSame a (opCapAckReceive cap frame pkg s) := by
  grind [opCapAckReceive, State.takeCapAck_memSame, foldl_memSame, = memSame_mk, = memSameF_fold]

theorem State.replay_memSame (i : Nat) {s : State} (hs : MemSame a s) : MemSame a (State.replay i s) := by
  grind [State.replay, State.updPort_memSame, State.updWork_memSame, State.sendLine_memSame, State.startRetrain_memSame,
      State.startBurst_memSame, foldl_memSame, = memSame_mk, = memSameF_fold]

theorem opNakReceive_memSame (port : Fin 16) (_seq : BitVec 12) {s : State} (hs : MemSame a s) : MemSame a
    (opNakReceive port _seq s) := by
  grind [opNakReceive, State.replay_memSame, foldl_memSame, = memSame_mk, = memSameF_fold]

theorem opTxeqReceive_memSame (port : Fin 16) (lane : Fin 8) (up : Bool) {s : State} (hs : MemSame a s) : MemSame a
    (opTxeqReceive port lane up s) := by
  grind [opTxeqReceive, State.updPort_memSame, foldl_memSame, = memSame_mk, = memSameF_fold]

theorem opDozeReqReceive_memSame (port : Fin 16) {s : State} (hs : MemSame a s) : MemSame a (opDozeReqReceive port s)
    := by
  grind [opDozeReqReceive, State.updWork_memSame, State.txLocal_memSame, foldl_memSame, = memSame_mk, = memSameF_fold]

theorem State.handBackQueue_memSame (i : Nat) {s : State} (hs : MemSame a s) : MemSame a (State.handBackQueue i s) :=
    by
  grind [State.handBackQueue, State.updWork_memSame, State.handBack_memSame, foldl_memSame, = memSame_mk, =
      memSameF_fold]

theorem State.dozeCommit_memSame (i : Nat) (latched : Bool) {s : State} (hs : MemSame a s) : MemSame a
    (State.dozeCommit i latched s) := by
  grind [State.dozeCommit, State.updPort_memSame, State.updWork_memSame, State.handBackQueue_memSame, foldl_memSame, =
      memSame_mk, = memSameF_fold]

theorem opDozeAckReceive_memSame (port : Fin 16) {s : State} (hs : MemSame a s) : MemSame a (opDozeAckReceive port s)
    := by
  grind [opDozeAckReceive, State.updWork_memSame, State.txLocal_memSame, State.wakePort_memSame,
      State.dozeCommit_memSame, foldl_memSame, = memSame_mk, = memSameF_fold]

theorem opWakeReceive_memSame (port : Fin 16) {s : State} (hs : MemSame a s) : MemSame a (opWakeReceive port s) := by
  grind [opWakeReceive, State.updWork_memSame, State.txLocal_memSame, State.dozeCommit_memSame, foldl_memSame, =
      memSame_mk, = memSameF_fold]

theorem State.takeLocal_memSame (port : Fin 16) (m : Msg) {s : State} (hs : MemSame a s) : MemSame a (State.takeLocal
    port m s) := by
  unfold State.takeLocal
  split <;> grind (gen := 30) (ematch := 30) (splits := 30) [opWidthReceive_memSame, opNakReceive_memSame,
      opTxeqReceive_memSame, opDozeReqReceive_memSame, opDozeAckReceive_memSame, opWakeReceive_memSame,
      opBeaconReceive_memSame, opCreditDataReceive_memSame, opCreditReturnReceive_memSame, foldl_memSame, =
      memSame_mk, = memSameF_fold]

theorem execNakReceive_memSame (port : Fin 16) (seq : BitVec 12) {s : State} (hs : MemSame a s) {t : State} (e_ :
    execNakReceive port seq s = .next t) : MemSame a t := by
  grind [execNakReceive, State.whenClocked_memSame, opNakReceive_memSame, foldl_memSame, = memSame_mk, = memSameF_fold]

theorem opNakResend_memSame (port : Fin 16) {s : State} (hs : MemSame a s) : MemSame a (opNakResend port s) := by
  grind [opNakResend, State.sendLinkctl_memSame, foldl_memSame, = memSame_mk, = memSameF_fold]

theorem execNakResend_memSame (port : Fin 16) {s : State} (hs : MemSame a s) {t : State} (e_ : execNakResend port s =
    .next t) : MemSame a t := by
  grind [execNakResend, State.whenClocked_memSame, opNakResend_memSame, foldl_memSame, = memSame_mk, = memSameF_fold]

theorem opReplayTimeout_memSame (port : Fin 16) {s : State} (hs : MemSame a s) : MemSame a (opReplayTimeout port s) :=
    by
  grind [opReplayTimeout, State.replay_memSame, foldl_memSame, = memSame_mk, = memSameF_fold]

theorem execReplayTimeout_memSame (port : Fin 16) {s : State} (hs : MemSame a s) {t : State} (e_ : execReplayTimeout
    port s = .next t) : MemSame a t := by
  grind [execReplayTimeout, State.whenClocked_memSame, opReplayTimeout_memSame, foldl_memSame, = memSame_mk, =
      memSameF_fold]

theorem opFastRetrain_memSame (port : Fin 16) {s : State} (hs : MemSame a s) : MemSame a (opFastRetrain port s) := by
  grind [opFastRetrain, State.startRetrain_memSame, foldl_memSame, = memSame_mk, = memSameF_fold]

theorem execFastRetrain_memSame (port : Fin 16) {s : State} (hs : MemSame a s) {t : State} (e_ : execFastRetrain port
    s = .next t) : MemSame a t := by
  grind [execFastRetrain, State.whenClocked_memSame, opFastRetrain_memSame, foldl_memSame, = memSame_mk, =
      memSameF_fold]

theorem opTrainReceive_memSame (port : Fin 16) {s : State} (hs : MemSame a s) : MemSame a (opTrainReceive port s) :=
    by
  grind [opTrainReceive, State.startRetrain_memSame, foldl_memSame, = memSame_mk, = memSameF_fold]

theorem execTrainReceive_memSame (port : Fin 16) {s : State} (hs : MemSame a s) {t : State} (e_ : execTrainReceive
    port s = .next t) : MemSame a t := by
  grind [execTrainReceive, State.whenClocked_memSame, opTrainReceive_memSame, foldl_memSame, = memSame_mk, =
      memSameF_fold]

theorem opRetrainEnd_memSame (port : Fin 16) (closed : Bool) (stamps : List (BitVec 16)) {s : State} (hs : MemSame a s)
    : MemSame a (opRetrainEnd port closed stamps s) := by
  grind (gen := 30) (ematch := 30) (splits := 30) [opRetrainEnd, State.updPort_memSame, State.updWork_memSame,
      State.finishAll_memSame, State.pump_memSame, State.retryWaiting_memSame, State.setHealth_memSame,
      State.raiseUp_memSame, State.permanentFault_memSame, State.sendStamps_memSame, State.replay_memSame,
      foldl_memSame, = memSame_mk, = memSameF_fold]

theorem execRetrainEnd_memSame (port : Fin 16) (closed : Bool) (stamps : List (BitVec 16)) {s : State} (hs : MemSame a
    s) {t : State} (e_ : execRetrainEnd port closed stamps s = .next t) : MemSame a t := by
  grind [execRetrainEnd, State.whenClocked_memSame, opRetrainEnd_memSame, foldl_memSame, = memSame_mk, = memSameF_fold]

theorem opRetrainRestart_memSame (port : Fin 16) {s : State} (hs : MemSame a s) : MemSame a (opRetrainRestart port s)
    := by
  grind [opRetrainRestart, State.updWork_memSame, State.finishAll_memSame, State.startRetrain_memSame, foldl_memSame, =
      memSame_mk, = memSameF_fold]

theorem execRetrainRestart_memSame (port : Fin 16) {s : State} (hs : MemSame a s) {t : State} (e_ : execRetrainRestart
    port s = .next t) : MemSame a t := by
  grind [execRetrainRestart, State.whenClocked_memSame, opRetrainRestart_memSame, foldl_memSame, = memSame_mk, =
      memSameF_fold]

theorem opBurstStart_memSame (port : Fin 16) {s : State} (hs : MemSame a s) : MemSame a (opBurstStart port s) := by
  grind [opBurstStart, State.startBurst_memSame, foldl_memSame, = memSame_mk, = memSameF_fold]

theorem execBurstStart_memSame (port : Fin 16) {s : State} (hs : MemSame a s) {t : State} (e_ : execBurstStart port s
    = .next t) : MemSame a t := by
  grind [execBurstStart, State.whenClocked_memSame, opBurstStart_memSame, foldl_memSame, = memSame_mk, = memSameF_fold]

theorem opBurstEnd_memSame (port : Fin 16) (dur : BitVec 32) {s : State} (hs : MemSame a s) : MemSame a (opBurstEnd
    port dur s) := by
  grind [opBurstEnd, State.updPort_memSame, State.updWork_memSame, State.permanentFault_memSame, foldl_memSame, =
      memSame_mk, = memSameF_fold]

theorem execBurstEnd_memSame (port : Fin 16) (dur : BitVec 32) {s : State} (hs : MemSame a s) {t : State} (e_ :
    execBurstEnd port dur s = .next t) : MemSame a t := by
  grind [execBurstEnd, State.whenClocked_memSame, opBurstEnd_memSame, foldl_memSame, = memSame_mk, = memSameF_fold]

theorem State.rerouteCredit_memSame (o : Nat) (fs : List Flit) {s : State} (hs : MemSame a s) : MemSame a
    (State.rerouteCredit o fs s) := by
  grind [State.rerouteCredit, State.tx_memSame, State.updOuter_memSame, foldl_memSame, = memSame_mk, = memSameF_fold]

theorem State.dropData_memSame (i : Nat) {s : State} (hs : MemSame a s) : MemSame a (State.dropData i s) := by
  grind [State.dropData, State.updPlnp_memSame, State.updWork_memSame, State.rerouteCredit_memSame, foldl_memSame, =
      memSame_mk, = memSameF_fold]

theorem opBurstQuarantine_memSame (port : Fin 16) {s : State} (hs : MemSame a s) : MemSame a (opBurstQuarantine port
    s) := by
  grind (gen := 30) (ematch := 30) (splits := 30) [opBurstQuarantine, State.updPort_memSame, State.updWork_memSame,
      State.fireVec_memSame, State.logEvent_memSame, State.sendBeacons_memSame, State.healthNotice_memSame,
      State.dropData_memSame, foldl_memSame, = memSame_mk, = memSameF_fold]

theorem execBurstQuarantine_memSame (port : Fin 16) {s : State} (hs : MemSame a s) {t : State} (e_ :
    execBurstQuarantine port s = .next t) : MemSame a t := by
  grind [execBurstQuarantine, State.whenClocked_memSame, opBurstQuarantine_memSame, foldl_memSame, = memSame_mk, =
      memSameF_fold]

theorem opRecalibrationEnd_memSame (port : Fin 16) (margins : List (BitVec 12)) {s : State} (hs : MemSame a s) :
    MemSame a (opRecalibrationEnd port margins s) := by
  grind [opRecalibrationEnd, State.updPort_memSame, State.updWork_memSame, State.log_memSame, State.setHealth_memSame,
      State.permanentFault_memSame, foldl_memSame, = memSame_mk, = memSameF_fold]

theorem execRecalibrationEnd_memSame (port : Fin 16) (margins : List (BitVec 12)) {s : State} (hs : MemSame a s) {t :
    State} (e_ : execRecalibrationEnd port margins s = .next t) : MemSame a t := by
  grind [execRecalibrationEnd, State.whenClocked_memSame, opRecalibrationEnd_memSame, foldl_memSame, = memSame_mk, =
      memSameF_fold]

theorem opProbationEnd_memSame (port : Fin 16) {s : State} (hs : MemSame a s) : MemSame a (opProbationEnd port s) :=
    by
  grind [opProbationEnd, State.updPort_memSame, foldl_memSame, = memSame_mk, = memSameF_fold]

theorem execProbationEnd_memSame (port : Fin 16) {s : State} (hs : MemSame a s) {t : State} (e_ : execProbationEnd
    port s = .next t) : MemSame a t := by
  grind [execProbationEnd, State.whenClocked_memSame, opProbationEnd_memSame, foldl_memSame, = memSame_mk, =
      memSameF_fold]

theorem opStuckLane_memSame (port : Fin 16) (lane : Fin 8) {s : State} (hs : MemSame a s) : MemSame a (opStuckLane
    port lane s) := by
  grind [opStuckLane, State.updPort_memSame, State.permanentFault_memSame, foldl_memSame, = memSame_mk, = memSameF_fold]

theorem execStuckLane_memSame (port : Fin 16) (lane : Fin 8) {s : State} (hs : MemSame a s) {t : State} (e_ :
    execStuckLane port lane s = .next t) : MemSame a t := by
  grind [execStuckLane, State.whenClocked_memSame, opStuckLane_memSame, foldl_memSame, = memSame_mk, = memSameF_fold]

theorem execWidthChange_memSame (port : Fin 16) (unsound : BitVec 8) {s : State} (hs : MemSame a s) {t : State} (e_ :
    execWidthChange port unsound s = .next t) : MemSame a t := by
  grind [execWidthChange, State.whenClocked_memSame, opWidthChange_memSame, foldl_memSame, = memSame_mk, =
      memSameF_fold]

theorem execWidthReceive_memSame (port : Fin 16) (unsound : BitVec 8) {s : State} (hs : MemSame a s) {t : State} (e_ :
    execWidthReceive port unsound s = .next t) : MemSame a t := by
  grind [execWidthReceive, State.whenClocked_memSame, opWidthReceive_memSame, foldl_memSame, = memSame_mk, =
      memSameF_fold]

theorem opWidthChangeTimeout_memSame (port : Fin 16) {s : State} (hs : MemSame a s) : MemSame a (opWidthChangeTimeout
    port s) := by
  grind [opWidthChangeTimeout, State.retirePort_memSame, foldl_memSame, = memSame_mk, = memSameF_fold]

theorem execWidthChangeTimeout_memSame (port : Fin 16) {s : State} (hs : MemSame a s) {t : State} (e_ :
    execWidthChangeTimeout port s = .next t) : MemSame a t := by
  grind [execWidthChangeTimeout, State.whenClocked_memSame, opWidthChangeTimeout_memSame, foldl_memSame, = memSame_mk, =
      memSameF_fold]

theorem execTxeqReceive_memSame (port : Fin 16) (lane : Fin 8) (up : Bool) {s : State} (hs : MemSame a s) {t : State}
    (e_ : execTxeqReceive port lane up s = .next t) : MemSame a t := by
  grind [execTxeqReceive, State.whenClocked_memSame, opTxeqReceive_memSame, foldl_memSame, = memSame_mk, =
      memSameF_fold]

theorem State.askSteps_memSame (i n : Nat) {s : State} (hs : MemSame a s) : MemSame a (State.askSteps i n s) := by
  grind [State.askSteps, State.updPort_memSame, State.sendLinkctl_memSame, foldl_memSame, = memSame_mk, = memSameF_fold]

theorem opAdaptationSnapshot_memSame (port : Fin 16) (margins : List (BitVec 12)) {s : State} (hs : MemSame a s) :
    MemSame a (opAdaptationSnapshot port margins s) := by
  grind (gen := 30) (ematch := 30) (splits := 30) [opAdaptationSnapshot, State.updPort_memSame, State.takeFree_memSame,
      State.askSteps_memSame, foldl_memSame, = memSame_mk, = memSameF_fold]

theorem execAdaptationSnapshot_memSame (port : Fin 16) (margins : List (BitVec 12)) {s : State} (hs : MemSame a s) {t
    : State} (e_ : execAdaptationSnapshot port margins s = .next t) : MemSame a t := by
  grind [execAdaptationSnapshot, State.whenClocked_memSame, opAdaptationSnapshot_memSame, foldl_memSame, = memSame_mk, =
      memSameF_fold]

theorem opDozeRequest_memSame (port : Fin 16) {s : State} (hs : MemSame a s) : MemSame a (opDozeRequest port s) := by
  grind [opDozeRequest, State.updWork_memSame, State.txLocal_memSame, foldl_memSame, = memSame_mk, = memSameF_fold]

theorem execDozeRequest_memSame (port : Fin 16) {s : State} (hs : MemSame a s) {t : State} (e_ : execDozeRequest port
    s = .next t) : MemSame a t := by
  grind [execDozeRequest, State.whenClocked_memSame, opDozeRequest_memSame, foldl_memSame, = memSame_mk, =
      memSameF_fold]

theorem execDozeReqReceive_memSame (port : Fin 16) {s : State} (hs : MemSame a s) {t : State} (e_ : execDozeReqReceive
    port s = .next t) : MemSame a t := by
  grind [execDozeReqReceive, State.whenClocked_memSame, opDozeReqReceive_memSame, foldl_memSame, = memSame_mk, =
      memSameF_fold]

theorem execDozeAckReceive_memSame (port : Fin 16) {s : State} (hs : MemSame a s) {t : State} (e_ : execDozeAckReceive
    port s = .next t) : MemSame a t := by
  grind [execDozeAckReceive, State.whenClocked_memSame, opDozeAckReceive_memSame, foldl_memSame, = memSame_mk, =
      memSameF_fold]

theorem opWakeRequest_memSame (port : Fin 16) {s : State} (hs : MemSame a s) : MemSame a (opWakeRequest port s) := by
  grind [opWakeRequest, State.wakePort_memSame, foldl_memSame, = memSame_mk, = memSameF_fold]

theorem execWakeRequest_memSame (port : Fin 16) {s : State} (hs : MemSame a s) {t : State} (e_ : execWakeRequest port
    s = .next t) : MemSame a t := by
  grind [execWakeRequest, State.whenClocked_memSame, opWakeRequest_memSame, foldl_memSame, = memSame_mk, =
      memSameF_fold]

theorem execWakeReceive_memSame (port : Fin 16) {s : State} (hs : MemSame a s) {t : State} (e_ : execWakeReceive port
    s = .next t) : MemSame a t := by
  grind [execWakeReceive, State.whenClocked_memSame, opWakeReceive_memSame, foldl_memSame, = memSame_mk, =
      memSameF_fold]

theorem opDozeEntry_memSame (port : Fin 16) {s : State} (hs : MemSame a s) : MemSame a (opDozeEntry port s) := by
  grind (gen := 30) (ematch := 30) (splits := 30) [opDozeEntry, State.updPort_memSame, State.updWork_memSame,
      State.emit_memSame, State.wakeTrain_memSame, State.handBackQueue_memSame, State.refreshParent_memSame,
      State.losesUp_memSame, State.dropBuffered_memSame, State.replay_memSame, foldl_memSame, = memSame_mk, =
      memSameF_fold]

theorem execDozeEntry_memSame (port : Fin 16) {s : State} (hs : MemSame a s) {t : State} (e_ : execDozeEntry port s =
    .next t) : MemSame a t := by
  grind [execDozeEntry, State.whenClocked_memSame, opDozeEntry_memSame, foldl_memSame, = memSame_mk, = memSameF_fold]

theorem opWakeTimeout_memSame (port : Fin 16) {s : State} (hs : MemSame a s) : MemSame a (opWakeTimeout port s) := by
  grind [opWakeTimeout, State.portDown_memSame, foldl_memSame, = memSame_mk, = memSameF_fold]

theorem execWakeTimeout_memSame (port : Fin 16) {s : State} (hs : MemSame a s) {t : State} (e_ : execWakeTimeout port
    s = .next t) : MemSame a t := by
  grind [execWakeTimeout, State.whenClocked_memSame, opWakeTimeout_memSame, foldl_memSame, = memSame_mk, =
      memSameF_fold]

theorem State.copyDone_memSame (p : Nat) (y : KvCopy) {s : State} (hs : MemSame a s) : MemSame a (State.copyDone p y
    s) := by
  grind [State.copyDone, State.finish_memSame, State.setPool_memSame, foldl_memSame, = memSame_mk, = memSameF_fold]

theorem State.countRetired_memSame (o : Op) {s : State} (hs : MemSame a s) : MemSame a (State.countRetired o s) := by
  grind (gen := 30) (ematch := 30) (splits := 30) [State.countRetired, State.updFrmp_memSame, State.updSeqp_memSame,
      State.updAdm_memSame, State.endJob_memSame, State.endIfDrained_memSame, State.copyDone_memSame, foldl_memSame, =
      memSame_mk, = memSameF_fold]

theorem State.retireOp_memSame (o : Op) (m : Nat) {s : State} (hs : MemSame a s) : MemSame a (State.retireOp o m s) :=
    by
  grind [State.retireOp, State.updSeq_memSame, State.settle_memSame, State.leaveFill_memSame,
      State.countRetired_memSame, foldl_memSame, = memSame_mk, = memSameF_fold]

theorem State.noopOp_memSame (o : Op) (err : Bool) {s : State} (hs : MemSame a s) : MemSame a (State.noopOp o err s)
    := by
  grind [State.noopOp, State.updSeqp_memSame, State.retireOp_memSame, foldl_memSame, = memSame_mk, = memSameF_fold]

theorem State.trimCache_memSame (p d : Nat) {s : State} (hs : MemSame a s) : MemSame a (State.trimCache p d s) := by
  grind [State.trimCache, State.updXlt_memSame, foldl_memSame, = memSame_mk, = memSameF_fold]

theorem State.fill_memSame (d : Nat) (e : XlEntry) {s : State} (hs : MemSame a s) : MemSame a (State.fill d e s) := by
  grind [State.fill, State.updXlt_memSame, State.trimCache_memSame, foldl_memSame, = memSame_mk, = memSameF_fold]

theorem State.translateDev_memSame (w : Who) (write : Bool) (a0 : Nat) {s : State} (hs : MemSame a s) : MemSame a
    (State.translateDev w write a0 s).1 := by
  grind [State.translateDev, State.updXltRegs_memSame, State.fill_memSame, foldl_memSame, = memSame_mk, = memSameF_fold]

theorem State.countMissHost_memSame (w : Who) (write : Bool) (a0 : Nat) {s : State} (hs : MemSame a s) : MemSame a
    (State.countMissHost w write a0 s) := by
  grind [State.countMissHost, State.updXlt_memSame, State.updXltRegs_memSame, foldl_memSame, = memSame_mk, =
      memSameF_fold]

theorem State.requestWindow_memSame (w : Who) (write : Bool) (a0 : Nat) {s : State} (hs : MemSame a s) : MemSame a
    (State.requestWindow w write a0 s) := by
  grind [State.requestWindow, State.updXlt_memSame, State.emitPcie_memSame, foldl_memSame, = memSame_mk, =
      memSameF_fold]

theorem State.translateHost_memSame (w : Who) (write : Bool) (a0 : Nat) {s : State} (hs : MemSame a s) : MemSame a
    (State.translateHost w write a0 s).1 := by
  grind [State.translateHost, State.updXltRegs_memSame, State.fill_memSame, State.countMissHost_memSame,
      State.requestWindow_memSame, foldl_memSame, = memSame_mk, = memSameF_fold]

theorem State.translate_memSame (w : Who) (write : Bool) (a0 : Nat) {s : State} (hs : MemSame a s) : MemSame a
    (State.translate w write a0 s).1 := by
  grind [State.translate, State.translateDev_memSame, State.translateHost_memSame, foldl_memSame, = memSame_mk, =
      memSameF_fold]

theorem State.eccFault_memSame (w : Who) (write : Bool) (a0 : Nat) (q : Phys) {s : State} (hs : MemSame a s) : MemSame
    a (State.eccFault w write a0 q s).1 := by
  unfold State.eccFault
  split <;> grind (gen := 30) (ematch := 30) (splits := 30) [State.markUe_memSame, foldl_memSame, = memSame_mk, =
      memSameF_fold]

theorem State.readLine_memSame (w : Who) (a0 n : Nat) (q : Phys) {s : State} (hs : MemSame a s) : MemSame a
    (State.readLine w a0 n q s).1 := by
  unfold State.readLine
  split <;> grind (gen := 30) (ematch := 30) (splits := 30) [State.countCorrected_memSame, State.eccFault_memSame,
      foldl_memSame, = memSame_mk, = memSameF_fold]

theorem State.readOne_memSame (w : Who) (a0 k : Nat) {s : State} (hs : MemSame a s) : MemSame a (State.readOne w a0 k
    s).1 := by
  grind [State.readOne, State.translate_memSame, State.readLine_memSame, foldl_memSame, = memSame_mk, = memSameF_fold]

theorem State.updOp_memSame (id : Nat) (f : Op → Op) {s : State} (hs : MemSame a s) : MemSame a (State.updOp id f s)
    := by
  grind [State.updOp, State.updSeq_memSame, foldl_memSame, = memSame_mk, = memSameF_fold]

theorem State.passLine_memSame (w : Who) {s : State} (hs : MemSame a s) : MemSame a (State.passLine w s) := by
  grind [State.passLine, State.updOp_memSame, foldl_memSame, = memSame_mk, = memSameF_fold]

theorem State.noteLine_memSame (w : Who) (bs : List Byte) {s : State} (hs : MemSame a s) : MemSame a (State.noteLine w
    bs s) := by
  grind [State.noteLine, State.updOp_memSame, foldl_memSame, = memSame_mk, = memSameF_fold]

theorem State.readLoop_memSame (w : Who) (fuel x n : Nat) (acc : List Byte) {s : State} (hs : MemSame a s) :
    MemSame a (State.readLoop w fuel x n acc s).1 := by
  induction fuel generalizing x n acc s with
  | zero => exact hs
  | succ k ih => grind (gen := 30) (ematch := 30) (splits := 30) [State.readLoop, State.readOne_memSame, State.passLine_memSame,
      State.noteLine_memSame]

theorem State.readDva_memSame (w : Who) (a0 n : Nat) {s : State} (hs : MemSame a s) : MemSame a (State.readDva w a0 n
    s).1 := by
  grind [State.readDva, State.readLoop_memSame, foldl_memSame, = memSame_mk, = memSameF_fold]

theorem State.readBound_memSame (o : Op) (i : Nat) {s : State} (hs : MemSame a s) : MemSame a (State.readBound o i
    s).1 := by
  grind [State.readBound, State.passLine_memSame, State.noteLine_memSame, State.readDva_memSame, foldl_memSame, =
      memSame_mk, = memSameF_fold]

theorem State.readBounds_memSame (o : Op) {s : State} (hs : MemSame a s) : MemSame a (State.readBounds o s).1 := by
  grind [State.readBounds, gotThen_memSame, State.readBound_memSame, foldl_memSame, = memSame_mk, = memSameF_fold]

theorem State.endsOf_memSame (span : BitVec 16) (num : Nat) {s : State} (hs : MemSame a s) : MemSame a (State.endsOf
    span num s).2 := by
  grind [State.endsOf, State.takeFree_memSame, foldl_memSame, = memSame_mk, = memSameF_fold]

theorem State.startKind_memSame (o : Op) (b : Bounds) {s : State} (hs : MemSame a s) : MemSame a (State.startKind o b
    s).1 := by
  grind [State.startKind, State.readDva_memSame, gotThen_memSame, State.endsOf_memSame, State.updCommq_memSame,
      foldl_memSame, = memSame_mk, = memSameF_fold]

theorem State.putOp_memSame (o : Op) {s : State} (hs : MemSame a s) : MemSame a (State.putOp o s) := by
  grind [State.putOp, State.updSeq_memSame, foldl_memSame, = memSame_mk, = memSameF_fold]

theorem State.updCopies_memSame (p : Nat) (f : KvCopy → KvCopy) {s : State} (hs : MemSame a s) : MemSame a
    (State.updCopies p f s) := by
  grind [State.updCopies, foldl_memSame, = memSame_mk, = memSameF_fold]

theorem State.markPassed_memSame (p : Nat) (c : Cand) {s : State} (hs : MemSame a s) : MemSame a (State.markPassed p c
    s) := by
  grind [State.markPassed, State.updAdm_memSame, State.updCopies_memSame, foldl_memSame, = memSame_mk, = memSameF_fold]

theorem State.passOver_memSame (p : Nat) (cs : List Cand) {s : State} (hs : MemSame a s) : MemSame a (State.passOver p
    cs s) := by
  grind [State.passOver, State.updPwrp_memSame, State.markPassed_memSame, foldl_memSame, = memSame_mk, = memSameF_fold]

theorem State.servePart_memSame (p die : Nat) {s : State} (hs : MemSame a s) : MemSame a (State.servePart p die s).1
    := by
  grind [State.servePart, State.passOver_memSame, foldl_memSame, = memSame_mk, = memSameF_fold]

theorem State.noteFetched_memSame (uid index : Nat) (d : Desc) {s : State} (hs : MemSame a s) : MemSame a
    (State.noteFetched uid index d s) := by
  grind [State.noteFetched, State.updAdm_memSame, foldl_memSame, = memSame_mk, = memSameF_fold]

theorem opDescriptorFetch_memSame (p : Fin 16) {s : State} (hs : MemSame a s) : MemSame a (opDescriptorFetch p s) :=
    by
  grind (gen := 30) (ematch := 30) (splits := 30) [opDescriptorFetch, State.noteFetched_memSame, State.readDva_memSame,
      foldl_memSame, = memSame_mk, = memSameF_fold]

theorem execDescriptorFetch_memSame (p : Fin 16) {s : State} (hs : MemSame a s) {t : State} (e_ : execDescriptorFetch
    p s = .next t) : MemSame a t := by
  grind [execDescriptorFetch, State.whenClocked_memSame, opDescriptorFetch_memSame, foldl_memSame, = memSame_mk, =
      memSameF_fold]

theorem State.chargeFill_memSame (f : Fill) (cycles : Nat) {s : State} (hs : MemSame a s) : MemSame a
    (State.chargeFill f cycles s) := by
  grind [State.chargeFill, State.updPwrp_memSame, State.updPwr_memSame, foldl_memSame, = memSame_mk, = memSameF_fold]

theorem State.startEngine_memSame (o : Op) (e : Nat) {s : State} (hs : MemSame a s) : MemSame a (State.startEngine o e
    s) := by
  grind [State.startEngine, State.updPwr_memSame, State.takeFree_memSame, State.chargeFill_memSame, foldl_memSame, =
      memSame_mk, = memSameF_fold]

theorem State.countWaits_memSame (os : List Op) {s : State} (hs : MemSame a s) : MemSame a (State.countWaits os s) :=
    by
  grind [State.countWaits, State.updPwr_memSame, State.updOp_memSame, foldl_memSame, = memSame_mk, = memSameF_fold]

theorem opEngineStart_memSame (die : Die) (ns : Nat) {s : State} (hs : MemSame a s) : MemSame a (opEngineStart die ns
    s) := by
  grind [opEngineStart, State.updPwr_memSame, State.updOp_memSame, State.countWaits_memSame, State.startEngine_memSame,
      foldl_memSame, = memSame_mk, = memSameF_fold]

theorem execEngineStart_memSame (die : Die) (ns : Nat) {s : State} (hs : MemSame a s) {t : State} (e_ :
    execEngineStart die ns s = .next t) : MemSame a t := by
  grind [execEngineStart, State.whenClocked_memSame, opEngineStart_memSame, foldl_memSame, = memSame_mk, =
      memSameF_fold]

theorem opFillHoldExpiry_memSame (tiller : Fin 128) {s : State} (hs : MemSame a s) : MemSame a (opFillHoldExpiry
    tiller s) := by
  grind [opFillHoldExpiry, State.updPwr_memSame, foldl_memSame, = memSame_mk, = memSameF_fold]

theorem execFillHoldExpiry_memSame (tiller : Fin 128) {s : State} (hs : MemSame a s) {t : State} (e_ :
    execFillHoldExpiry tiller s = .next t) : MemSame a t := by
  grind [execFillHoldExpiry, State.whenClocked_memSame, opFillHoldExpiry_memSame, foldl_memSame, = memSame_mk, =
      memSameF_fold]

theorem opFillRelease_memSame (die : Die) (ns : Nat) (cycles : Nat) {s : State} (hs : MemSame a s) : MemSame a
    (opFillRelease die ns cycles s) := by
  grind [opFillRelease, State.updPwr_memSame, State.chargeFill_memSame, foldl_memSame, = memSame_mk, = memSameF_fold]

theorem execFillRelease_memSame (die : Die) (ns : Nat) (cycles : Nat) {s : State} (hs : MemSame a s) {t : State} (e_ :
    execFillRelease die ns cycles s = .next t) : MemSame a t := by
  grind [execFillRelease, State.whenClocked_memSame, opFillRelease_memSame, foldl_memSame, = memSame_mk, =
      memSameF_fold]

theorem State.readRows_memSame (w : Who) (stride n rows x : Nat) (acc : List (List Byte)) {s : State} (hs : MemSame a
    s) : MemSame a (State.readRows w stride n rows x acc s).1 := by
  induction rows generalizing x acc s with
  | zero => exact hs
  | succ k ih => grind (gen := 30) (ematch := 30) (splits := 30) [State.readRows, State.readDva_memSame]

theorem State.gather_memSame (o : Op) (bs : List Byte) {s : State} (hs : MemSame a s) : MemSame a (State.gather o bs
    s) := by
  grind [State.gather, State.updPln_memSame, foldl_memSame, = memSame_mk, = memSameF_fold]

theorem State.freeHandle_memSame {s : State} (hs : MemSame a s) : MemSame a (State.freeHandle s).2 := by
  grind [State.freeHandle, State.takeFree_memSame, foldl_memSame, = memSame_mk, = memSameF_fold]

theorem State.operand_memSame (fed : Bool) (h : Option Handle) (addr tile : Nat) {s : State} (hs : MemSame a s) :
    MemSame a (State.operand fed h addr tile s).2 := by
  unfold State.operand
  split <;> grind (gen := 30) (ematch := 30) (splits := 30) [State.freeHandle_memSame, foldl_memSame, = memSame_mk, =
      memSameF_fold]

theorem State.outHandle_memSame (o : Op) (ext seq : Nat) {s : State} (hs : MemSame a s) : MemSame a (State.outHandle o
    ext seq s).2 := by
  grind [State.outHandle, State.freeHandle_memSame, foldl_memSame, = memSame_mk, = memSameF_fold]

theorem State.endTile_memSame (o : Op) (output : Option Nat) (last : Bool) {s : State} (hs : MemSame a s) : MemSame a
    (State.endTile o output last s).1 := by
  unfold State.endTile
  split <;> grind (gen := 30) (ematch := 30) (splits := 30) [State.outHandle_memSame, foldl_memSame, = memSame_mk, =
      memSameF_fold]

theorem State.sendTile_memSame (o : Op) {s : State} (hs : MemSame a s) : MemSame a (State.sendTile o s).1 := by
  grind [State.sendTile, State.readRows_memSame, gotThen_memSame, State.operand_memSame, State.endTile_memSame,
      State.gather_memSame, foldl_memSame, = memSame_mk, = memSameF_fold]

theorem opLayerFence_memSame (id : Nat) {s : State} (hs : MemSame a s) : MemSame a (opLayerFence id s) := by
  grind [opLayerFence, State.updOp_memSame, foldl_memSame, = memSame_mk, = memSameF_fold]

theorem execLayerFence_memSame (id : Nat) {s : State} (hs : MemSame a s) {t : State} (e_ : execLayerFence id s = .next
    t) : MemSame a t := by
  grind [execLayerFence, State.whenClocked_memSame, opLayerFence_memSame, foldl_memSame, = memSame_mk, = memSameF_fold]

theorem State.setQueue_memSame (p key : Nat) (l : List Handle) {s : State} (hs : MemSame a s) : MemSame a
    (State.setQueue p key l s) := by
  grind [State.setQueue, State.updSeqp_memSame, State.updSeq_memSame, foldl_memSame, = memSame_mk, = memSameF_fold]

theorem State.retireEffect_memSame (o : Op) {s : State} (hs : MemSame a s) : MemSame a (State.retireEffect o s) := by
  grind [State.retireEffect, State.updSeqp_memSame, State.updSeq_memSame, State.setBound_memSame, foldl_memSame, =
      memSame_mk, = memSameF_fold]

theorem opOperationRetire_memSame (id : Nat) {s : State} (hs : MemSame a s) : MemSame a (opOperationRetire id s) := by
  grind [opOperationRetire, State.updPln_memSame, State.takeFree_memSame, State.retireOp_memSame,
      State.retireEffect_memSame, foldl_memSame, = memSame_mk, = memSameF_fold]

theorem execOperationRetire_memSame (id : Nat) {s : State} (hs : MemSame a s) {t : State} (e_ : execOperationRetire id
    s = .next t) : MemSame a t := by
  grind [execOperationRetire, State.whenClocked_memSame, opOperationRetire_memSame, foldl_memSame, = memSame_mk, =
      memSameF_fold]

theorem opSfuLoadWrite_memSame (p slot : Fin 16) {s : State} (hs : MemSame a s) : MemSame a (opSfuLoadWrite p slot s)
    := by
  grind [opSfuLoadWrite, State.updSlot_memSame, foldl_memSame, = memSame_mk, = memSameF_fold]

theorem execSfuLoadWrite_memSame (p : Fin 16) (slot : Fin 16) {s : State} (hs : MemSame a s) {t : State} (e_ :
    execSfuLoadWrite p slot s = .next t) : MemSame a t := by
  grind [execSfuLoadWrite, State.whenClocked_memSame, opSfuLoadWrite_memSame, foldl_memSame, = memSame_mk, =
      memSameF_fold]

theorem State.endKilled_memSame (j : Job) (cause : Reason) {s : State} (hs : MemSame a s) : MemSame a (State.endKilled
    j cause s) := by
  grind [State.endKilled, State.endJob_memSame, foldl_memSame, = memSame_mk, = memSameF_fold]

theorem opKillComplete_memSame (p : Fin 16) (c : Fin 64) {s : State} (hs : MemSame a s) : MemSame a (opKillComplete p
    c s) := by
  grind (gen := 30) (ematch := 30) (splits := 30) [opKillComplete, State.updCtx_memSame, State.fireVec_memSame,
      State.finishAll_memSame, State.endKilled_memSame, foldl_memSame, = memSame_mk, = memSameF_fold]

theorem execKillComplete_memSame (p : Fin 16) (c : Fin 64) {s : State} (hs : MemSame a s) {t : State} (e_ :
    execKillComplete p c s = .next t) : MemSame a t := by
  grind [execKillComplete, State.whenClocked_memSame, opKillComplete_memSame, foldl_memSame, = memSame_mk, =
      memSameF_fold]

theorem opInvalidateRequestReceive_memSame (fn : Fin 17) (tag : Fin 32) (base len : W64) {s : State} (hs : MemSame a
    s) : MemSame a (opInvalidateRequestReceive fn tag base len s) := by
  grind [opInvalidateRequestReceive, State.updXlt_memSame, foldl_memSame, = memSame_mk, = memSameF_fold]

theorem execInvalidateRequestReceive_memSame (fn : Fin 17) (tag : Fin 32) (base : W64) (len : W64) {s : State} (hs :
    MemSame a s) {t : State} (e_ : execInvalidateRequestReceive fn tag base len s = .next t) : MemSame a t := by
  grind [execInvalidateRequestReceive, State.whenPcie_memSame, opInvalidateRequestReceive_memSame, foldl_memSame, =
      memSame_mk, = memSameF_fold]

theorem opInvalidationComplete_memSame (fn : Fin 17) (tag : Fin 32) {s : State} (hs : MemSame a s) : MemSame a
    (opInvalidationComplete fn tag s) := by
  grind [opInvalidationComplete, State.updXlt_memSame, State.emitPcie_memSame, foldl_memSame, = memSame_mk, =
      memSameF_fold]

theorem execInvalidationComplete_memSame (inv : Fin 17 × Fin 32) {s : State} (hs : MemSame a s) {t : State} (e_ :
    execInvalidationComplete inv s = .next t) : MemSame a t := by
  grind [execInvalidationComplete, State.whenClocked_memSame, opInvalidationComplete_memSame, foldl_memSame, =
      memSame_mk, = memSameF_fold]

theorem opTeardownRelease_memSame (p : Fin 16) {s : State} (hs : MemSame a s) : MemSame a (opTeardownRelease p s) :=
    by
  grind (gen := 30) (ematch := 30) (splits := 30) [opTeardownRelease, State.updRed_memSame, State.finishAll_memSame,
      State.shootdown_memSame, State.unmapVpns_memSame, State.unmapWins_memSame, foldl_memSame, = memSame_mk, =
      memSameF_fold]

theorem execTeardownRelease_memSame (p : Fin 16) {s : State} (hs : MemSame a s) {t : State} (e_ : execTeardownRelease
    p s = .next t) : MemSame a t := by
  grind [execTeardownRelease, State.whenClocked_memSame, opTeardownRelease_memSame, foldl_memSame, = memSame_mk, =
      memSameF_fold]

theorem execJoinFlitReceive_memSame (span : BitVec 16) (pkg : Fin 128) (shares : BitVec 32) {s : State} (hs : MemSame
    a s) {t : State} (e_ : execJoinFlitReceive span pkg shares s = .next t) : MemSame a t := by
  grind [execJoinFlitReceive, State.whenClocked_memSame, State.toChoesk_memSame, opJoinFlitReceive_memSame,
      foldl_memSame, = memSame_mk, = memSameF_fold]

theorem execSpanActiveReceive_memSame (span : BitVec 16) (ring : List Nat) {s : State} (hs : MemSame a s) {t : State}
    (e_ : execSpanActiveReceive span ring s = .next t) : MemSame a t := by
  grind [execSpanActiveReceive, State.whenClocked_memSame, State.toChoesk_memSame, opSpanActiveReceive_memSame,
      foldl_memSame, = memSame_mk, = memSameF_fold]

theorem opSpanFormingTimeout_memSame (span : BitVec 16) {s : State} (hs : MemSame a s) : MemSame a
    (opSpanFormingTimeout span s) := by
  grind [opSpanFormingTimeout, State.takeFree_memSame, State.sendAll_memSame, State.spanFails_memSame, foldl_memSame, =
      memSame_mk, = memSameF_fold]

theorem execSpanFormingTimeout_memSame (span : BitVec 16) {s : State} (hs : MemSame a s) {t : State} (e_ :
    execSpanFormingTimeout span s = .next t) : MemSame a t := by
  grind [execSpanFormingTimeout, State.whenClocked_memSame, opSpanFormingTimeout_memSame, foldl_memSame, = memSame_mk, =
      memSameF_fold]

theorem execSpanEndReceive_memSame (span : BitVec 16) {s : State} (hs : MemSame a s) {t : State} (e_ :
    execSpanEndReceive span s = .next t) : MemSame a t := by
  grind [execSpanEndReceive, State.whenClocked_memSame, State.toChoesk_memSame, opSpanEndReceive_memSame, foldl_memSame,
      = memSame_mk, = memSameF_fold]

theorem opSpanDeadResend_memSame (span : BitVec 16) (acked : List Nat) {s : State} (hs : MemSame a s) : MemSame a
    (opSpanDeadResend span acked s) := by
  grind [opSpanDeadResend, State.sendAll_memSame, State.updSpan_memSame, foldl_memSame, = memSame_mk, = memSameF_fold]

theorem execSpanDeadResend_memSame (span : BitVec 16) (acked : List Nat) {s : State} (hs : MemSame a s) {t : State}
    (e_ : execSpanDeadResend span acked s = .next t) : MemSame a t := by
  grind [execSpanDeadResend, State.whenClocked_memSame, opSpanDeadResend_memSame, foldl_memSame, = memSame_mk, =
      memSameF_fold]

theorem execGroupReadyReceive_memSame (span : BitVec 16) (num : BitVec 8) (pkg : Fin 128) (crc : BitVec 32) {s :
    State} (hs : MemSame a s) {t : State} (e_ : execGroupReadyReceive span num pkg crc s = .next t) : MemSame a t :=
    by
  grind [execGroupReadyReceive, State.whenClocked_memSame, State.toChoesk_memSame, opGroupReadyReceive_memSame,
      foldl_memSame, = memSame_mk, = memSameF_fold]

theorem execGroupActiveReceive_memSame (span : BitVec 16) (num : BitVec 8) {s : State} (hs : MemSame a s) {t : State}
    (e_ : execGroupActiveReceive span num s = .next t) : MemSame a t := by
  grind [execGroupActiveReceive, State.whenClocked_memSame, State.toChoesk_memSame, opGroupActiveReceive_memSame,
      foldl_memSame, = memSame_mk, = memSameF_fold]

theorem opGroupDefineTimeout_memSame (index : BitVec 8) {s : State} (hs : MemSame a s) : MemSame a
    (opGroupDefineTimeout index s) := by
  grind [opGroupDefineTimeout, State.takeFree_memSame, State.failDefine_memSame, foldl_memSame, = memSame_mk, =
      memSameF_fold]

theorem execGroupDefineTimeout_memSame (index : BitVec 8) {s : State} (hs : MemSame a s) {t : State} (e_ :
    execGroupDefineTimeout index s = .next t) : MemSame a t := by
  grind [execGroupDefineTimeout, State.whenClocked_memSame, opGroupDefineTimeout_memSame, foldl_memSame, = memSame_mk, =
      memSameF_fold]

theorem execGroupLossReceive_memSame (span : BitVec 16) (num : BitVec 8) (pkg : Fin 128) (killed : Bool) {s : State}
    (hs : MemSame a s) {t : State} (e_ : execGroupLossReceive span num pkg killed s = .next t) : MemSame a t := by
  grind [execGroupLossReceive, State.whenClocked_memSame, State.toChoesk_memSame, opGroupLossReceive_memSame,
      foldl_memSame, = memSame_mk, = memSameF_fold]

theorem execRepairAnnounceReceive_memSame (span : BitVec 16) (num : BitVec 8) (round : BitVec 4) (lost : List (Nat ×
    Bool)) (restart : FrameNo) {s : State} (hs : MemSame a s) {t : State} (e_ : execRepairAnnounceReceive span num
    round lost restart s = .next t) : MemSame a t := by
  grind [execRepairAnnounceReceive, State.whenClocked_memSame, State.toChoesk_memSame, opRepairAnnounceReceive_memSame,
      foldl_memSame, = memSame_mk, = memSameF_fold]

theorem State.endReductions_memSame (g : Group) (oc : Oc) (rs : Reason) {s : State} (hs : MemSame a s) : MemSame a
    (State.endReductions g oc rs s) := by
  grind [State.endReductions, State.updRed_memSame, foldl_memSame, = memSame_mk, = memSameF_fold]

theorem opGroupRepairTimeout_memSame (index : BitVec 8) {s : State} (hs : MemSame a s) : MemSame a
    (opGroupRepairTimeout index s) := by
  grind [opGroupRepairTimeout, State.updGroup_memSame, State.endReductions_memSame, State.memberLost_memSame,
      foldl_memSame, = memSame_mk, = memSameF_fold]

theorem execGroupRepairTimeout_memSame (index : BitVec 8) {s : State} (hs : MemSame a s) {t : State} (e_ :
    execGroupRepairTimeout index s = .next t) : MemSame a t := by
  grind [execGroupRepairTimeout, State.whenClocked_memSame, opGroupRepairTimeout_memSame, foldl_memSame, = memSame_mk, =
      memSameF_fold]

theorem State.rewind_memSame (g : Group) (seq : Nat) {s : State} (hs : MemSame a s) : MemSame a (State.rewind g seq s)
    := by
  grind [State.rewind, State.updRed_memSame, foldl_memSame, = memSame_mk, = memSameF_fold]

theorem State.retireEngine_memSame (e : Nat) {s : State} (hs : MemSame a s) : MemSame a (State.retireEngine e s) := by
  grind [State.retireEngine, State.log_memSame, State.updEngine_memSame, foldl_memSame, = memSame_mk, = memSameF_fold]

theorem State.mismatchOn_memSame (e : Nat) {s : State} (hs : MemSame a s) : MemSame a (State.mismatchOn e s) := by
  grind [State.mismatchOn, State.updEngine_memSame, State.retireEngine_memSame, foldl_memSame, = memSame_mk, =
      memSameF_fold]

theorem opChunkImageReceive_memSame (span : BitVec 16) (img : Image) {s : State} (hs : MemSame a s) : MemSame a
    (opChunkImageReceive span img s) := by
  grind [opChunkImageReceive, State.updRed_memSame, State.askRestart_memSame, State.mismatchOn_memSame,
      State.rewind_memSame, foldl_memSame, = memSame_mk, = memSameF_fold]

theorem execChunkImageReceive_memSame (span : BitVec 16) (img : Image) {s : State} (hs : MemSame a s) {t : State} (e_
    : execChunkImageReceive span img s = .next t) : MemSame a t := by
  grind [execChunkImageReceive, State.whenClocked_memSame, opChunkImageReceive_memSame, foldl_memSame, = memSame_mk, =
      memSameF_fold]

theorem State.readRuns_memSame (w : Who) (size : Nat) (l : List (Nat × Nat)) (acc : List Byte) {s : State} (hs :
    MemSame a s) : MemSame a (State.readRuns w size l acc s).1 := by
  induction l generalizing acc s with
  | nil => exact hs
  | cons x t ih => exact gotThen_memSame (State.readDva_memSame _ _ _ hs) (fun _ _ h => ih _ h)

theorem State.updReduction_memSame (g : Group) (seq : Nat) (f : Reduction → Reduction) {s : State} (hs : MemSame a s)
    : MemSame a (State.updReduction g seq f s) := by
  grind [State.updReduction, State.updRed_memSame, foldl_memSame, = memSame_mk, = memSameF_fold]

theorem State.hold_memSame (g : Group) (r : Reduction) (vs : List (BitVec 32)) {s : State} (hs : MemSame a s) :
    MemSame a (State.hold g r vs s) := by
  grind [State.hold, State.updRed_memSame, State.updReduction_memSame, foldl_memSame, = memSame_mk, = memSameF_fold]

theorem opStagingBufferTake_memSame (p q : Fin 16) {s : State} (hs : MemSame a s) : MemSame a (opStagingBufferTake p q
    s) := by
  grind (gen := 30) (ematch := 30) (splits := 30) [opStagingBufferTake, State.updReduction_memSame, State.hold_memSame,
      foldl_memSame, = memSame_mk, = memSameF_fold]

theorem execStagingBufferTake_memSame (p : Fin 16) (q : Fin 16) {s : State} (hs : MemSame a s) {t : State} (e_ :
    execStagingBufferTake p q s = .next t) : MemSame a t := by
  grind [execStagingBufferTake, State.whenClocked_memSame, opStagingBufferTake_memSame, foldl_memSame, = memSame_mk, =
      memSameF_fold]

theorem State.failSensor_memSame (id : Nat) {s : State} (hs : MemSame a s) : MemSame a (State.failSensor id s) := by
  grind [State.failSensor, State.log_memSame, State.updSensor_memSame, foldl_memSame, = memSame_mk, = memSameF_fold]

theorem State.readSensor_memSame (id : Nat) (v : Option (BitVec 16)) {s : State} (hs : MemSame a s) : MemSame a
    (State.readSensor id v s) := by
  unfold State.readSensor
  split <;> grind (gen := 30) (ematch := 30) (splits := 30) [State.updSensor_memSame, State.failSensor_memSame,
      foldl_memSame, = memSame_mk, = memSameF_fold]

theorem State.trip_memSame (temp sensor : Nat) {s : State} (hs : MemSame a s) : MemSame a (State.trip temp sensor s)
    := by
  grind [State.trip, State.updPor_memSame, State.log_memSame, foldl_memSame, = memSame_mk, = memSameF_fold]

theorem opThermalSample_memSame (temps : List (Option Int)) {s : State} (hs : MemSame a s) : MemSame a
    (opThermalSample temps s) := by
  grind [opThermalSample, State.updPwr_memSame, State.readSensor_memSame, State.trip_memSame, foldl_memSame, =
      memSame_mk, = memSameF_fold]

theorem execThermalSample_memSame (temps : List (Option Int)) {s : State} (hs : MemSame a s) {t : State} (e_ :
    execThermalSample temps s = .next t) : MemSame a t := by
  grind [execThermalSample, State.whenClocked_memSame, opThermalSample_memSame, foldl_memSame, = memSame_mk, =
      memSameF_fold]

theorem opBaseChargeUpdate_memSame (eIn : Nat) (failed : Bool) {s : State} (hs : MemSame a s) : MemSame a
    (opBaseChargeUpdate eIn failed s) := by
  grind [opBaseChargeUpdate, State.updPwr_memSame, foldl_memSame, = memSame_mk, = memSameF_fold]

theorem execBaseChargeUpdate_memSame (eIn : Nat) (failed : Bool) {s : State} (hs : MemSame a s) {t : State} (e_ :
    execBaseChargeUpdate eIn failed s = .next t) : MemSame a t := by
  grind [execBaseChargeUpdate, State.whenClocked_memSame, opBaseChargeUpdate_memSame, foldl_memSame, = memSame_mk, =
      memSameF_fold]

theorem execCapSetReceive_memSame (cap : BitVec 7) (frame : FrameNo) (pkg : Fin 128) {s : State} (hs : MemSame a s) {t
    : State} (e_ : execCapSetReceive cap frame pkg s = .next t) : MemSame a t := by
  grind [execCapSetReceive, State.whenClocked_memSame, State.toChoesk_memSame, opCapSetReceive_memSame, foldl_memSame, =
      memSame_mk, = memSameF_fold]

theorem execCapAckReceive_memSame (cap : BitVec 7) (frame : FrameNo) (pkg : Fin 128) {s : State} (hs : MemSame a s) {t
    : State} (e_ : execCapAckReceive cap frame pkg s = .next t) : MemSame a t := by
  grind [execCapAckReceive, State.whenClocked_memSame, State.toChoesk_memSame, opCapAckReceive_memSame, foldl_memSame, =
      memSame_mk, = memSameF_fold]

theorem opSheafCapTimeout_memSame {s : State} (hs : MemSame a s) : MemSame a (opSheafCapTimeout s) := by
  grind [opSheafCapTimeout, State.updPwr_memSame, State.finishAll_memSame, foldl_memSame, = memSame_mk, = memSameF_fold]

theorem execSheafCapTimeout_memSame {s : State} (hs : MemSame a s) {t : State} (e_ : execSheafCapTimeout s = .next t)
    : MemSame a t := by
  grind [execSheafCapTimeout, State.whenClocked_memSame, opSheafCapTimeout_memSame, foldl_memSame, = memSame_mk, =
      memSameF_fold]

theorem opPgoodRise_memSame {s : State} (hs : MemSame a s) : MemSame a (opPgoodRise s) := by
  grind [opPgoodRise, State.updPor_memSame, foldl_memSame, = memSame_mk, = memSameF_fold]

theorem execPgoodRise_memSame {s : State} (hs : MemSame a s) {t : State} (e_ : execPgoodRise s = .next t) : MemSame a
    t := by
  grind [execPgoodRise, opPgoodRise_memSame, foldl_memSame, = memSame_mk, = memSameF_fold]

theorem State.startSequence_memSame {s : State} (hs : MemSame a s) : MemSame a (State.startSequence s) := by
  grind [State.startSequence, State.updPor_memSame, foldl_memSame, = memSame_mk, = memSameF_fold]

theorem opSequenceRetry_memSame {s : State} (hs : MemSame a s) : MemSame a (opSequenceRetry s) := by
  grind [opSequenceRetry, State.updPor_memSame, State.startSequence_memSame, foldl_memSame, = memSame_mk, =
      memSameF_fold]

theorem execSequenceRetry_memSame {s : State} (hs : MemSame a s) {t : State} (e_ : execSequenceRetry s = .next t) :
    MemSame a t := by
  grind [execSequenceRetry, opSequenceRetry_memSame, foldl_memSame, = memSame_mk, = memSameF_fold]

theorem opSysRstRelease_memSame {s : State} (hs : MemSame a s) : MemSame a (opSysRstRelease s) := by
  grind [opSysRstRelease, State.updPor_memSame, State.startSequence_memSame, foldl_memSame, = memSame_mk, =
      memSameF_fold]

theorem execSysRstRelease_memSame {s : State} (hs : MemSame a s) {t : State} (e_ : execSysRstRelease s = .next t) :
    MemSame a t := by
  grind [execSysRstRelease, opSysRstRelease_memSame, foldl_memSame, = memSame_mk, = memSameF_fold]

theorem State.releasePcie_memSame {s : State} (hs : MemSame a s) : MemSame a (State.releasePcie s) := by
  grind [State.releasePcie, State.emit_memSame, foldl_memSame, = memSame_mk, = memSameF_fold]

theorem opPcieRefclkLoss_memSame (lost : Bool) {s : State} (hs : MemSame a s) : MemSame a (opPcieRefclkLoss lost s) :=
    by
  grind [opPcieRefclkLoss, State.releasePcie_memSame, foldl_memSame, = memSame_mk, = memSameF_fold]

theorem execPcieRefclkLoss_memSame (lost : Bool) {s : State} (hs : MemSame a s) {t : State} (e_ : execPcieRefclkLoss
    lost s = .next t) : MemSame a t := by
  grind [execPcieRefclkLoss, opPcieRefclkLoss_memSame, foldl_memSame, = memSame_mk, = memSameF_fold]

theorem State.startPcie_memSame {s : State} (hs : MemSame a s) : MemSame a (State.startPcie s) := by
  grind [State.startPcie, foldl_memSame, = memSame_mk, = memSameF_fold]

theorem opColdResetRelease_memSame {s : State} (hs : MemSame a s) : MemSame a (opColdResetRelease s) := by
  grind [opColdResetRelease, State.updFab_memSame, State.updPwr_memSame, State.updPor_memSame, State.startPcie_memSame,
      foldl_memSame, = memSame_mk, = memSameF_fold]

theorem execColdResetRelease_memSame {s : State} (hs : MemSame a s) {t : State} (e_ : execColdResetRelease s = .next
    t) : MemSame a t := by
  grind [execColdResetRelease, opColdResetRelease_memSame, foldl_memSame, = memSame_mk, = memSameF_fold]

theorem opHbmTrainingComplete_memSame (failed : BitVec 8) {s : State} (hs : MemSame a s) : MemSame a
    (opHbmTrainingComplete failed s) := by
  grind [opHbmTrainingComplete, State.updPor_memSame, foldl_memSame, = memSame_mk, = memSameF_fold]

theorem execHbmTrainingComplete_memSame (failed : BitVec 8) {s : State} (hs : MemSame a s) {t : State} (e_ :
    execHbmTrainingComplete failed s = .next t) : MemSame a t := by
  grind [execHbmTrainingComplete, State.whenClocked_memSame, opHbmTrainingComplete_memSame, foldl_memSame, = memSame_mk,
      = memSameF_fold]

theorem opManagementResetRelease_memSame {s : State} (hs : MemSame a s) : MemSame a (opManagementResetRelease s) := by
  grind [opManagementResetRelease, State.updPor_memSame, foldl_memSame, = memSame_mk, = memSameF_fold]

theorem execManagementResetRelease_memSame {s : State} (hs : MemSame a s) {t : State} (e_ : execManagementResetRelease
    s = .next t) : MemSame a t := by
  grind [execManagementResetRelease, State.whenClocked_memSame, opManagementResetRelease_memSame, foldl_memSame, =
      memSame_mk, = memSameF_fold]

theorem State.enterRecovery_memSame {s : State} (hs : MemSame a s) : MemSame a (State.enterRecovery s) := by
  grind [State.enterRecovery, State.updMgt_memSame, foldl_memSame, = memSame_mk, = memSameF_fold]

theorem State.writeVouts_memSame (segment : Option Nat) {s : State} (hs : MemSame a s) : MemSame a (State.writeVouts
    segment s) := by
  grind [State.writeVouts, State.emit_memSame, foldl_memSame, = memSame_mk, = memSameF_fold]

theorem State.bootFrom_memSame (bank : Bool) (i : FwImage) {s : State} (hs : MemSame a s) : MemSame a (State.bootFrom
    bank i s) := by
  grind (gen := 30) (ematch := 30) (splits := 30) [State.bootFrom, State.updFrm_memSame, State.updFab_memSame,
      State.updMgt_memSame, State.log_memSame, State.openElection_memSame, State.setFw_memSame,
      State.writeVouts_memSame, foldl_memSame, = memSame_mk, = memSameF_fold]

theorem opBootComplete_memSame {s : State} (hs : MemSame a s) : MemSame a (opBootComplete s) := by
  grind [opBootComplete, State.log_memSame, State.writeRecord_memSame, State.enterRecovery_memSame,
      State.bootFrom_memSame, foldl_memSame, = memSame_mk, = memSameF_fold]

theorem execBootComplete_memSame (u v : Unit) {s : State} (hs : MemSame a s) {t : State} (e_ : execBootComplete u v s =
    .next t) : MemSame a t := by
  grind [execBootComplete, State.whenClocked_memSame, opBootComplete_memSame, foldl_memSame, = memSame_mk, =
      memSameF_fold]

theorem opStandbyMirrored_memSame {s : State} (hs : MemSame a s) : MemSame a (opStandbyMirrored s) := by
  grind [opStandbyMirrored, State.updMgt_memSame, foldl_memSame, = memSame_mk, = memSameF_fold]

theorem execStandbyMirrored_memSame {s : State} (hs : MemSame a s) {t : State} (e_ : execStandbyMirrored s = .next t)
    : MemSame a t := by
  grind [execStandbyMirrored, State.whenClocked_memSame, opStandbyMirrored_memSame, foldl_memSame, = memSame_mk, =
      memSameF_fold]

theorem opHbmRefresh_memSame (stack : Fin 8) (pc : BitVec 5) {s : State} (hs : MemSame a s) : MemSame a (opHbmRefresh
    stack pc s) := by
  grind [opHbmRefresh, State.updPor_memSame, foldl_memSame, = memSame_mk, = memSameF_fold]

theorem execHbmRefresh_memSame (stack : Fin 8) (pc : BitVec 5) {s : State} (hs : MemSame a s) {t : State} (e_ :
    execHbmRefresh stack pc s = .next t) : MemSame a t := by
  grind [execHbmRefresh, State.whenClocked_memSame, opHbmRefresh_memSame, foldl_memSame, = memSame_mk, = memSameF_fold]

theorem State.rejectImage_memSame (c : FwCheck) {s : State} (hs : MemSame a s) : MemSame a (State.rejectImage c s) :=
    by
  grind [State.rejectImage, State.updMgt_memSame, State.log_memSame, State.setFw_memSame, foldl_memSame, = memSame_mk, =
      memSameF_fold]

theorem opStageVerifyComplete_memSame {s : State} (hs : MemSame a s) : MemSame a (opStageVerifyComplete s) := by
  grind (gen := 30) (ematch := 30) (splits := 30) [opStageVerifyComplete, State.updMgt_memSame, State.finish_memSame,
      State.setFw_memSame, State.rejectImage_memSame, foldl_memSame, = memSame_mk, = memSameF_fold]

theorem execStageVerifyComplete_memSame (u v : Unit) {s : State} (hs : MemSame a s) {t : State} (e_ :
    execStageVerifyComplete u v s = .next t) : MemSame a t := by
  grind [execStageVerifyComplete, State.whenClocked_memSame, opStageVerifyComplete_memSame, foldl_memSame, = memSame_mk,
      = memSameF_fold]

theorem State.activationFails_memSame (code : Nat) {s : State} (hs : MemSame a s) : MemSame a (State.activationFails
    code s) := by
  grind [State.activationFails, State.updMgt_memSame, State.finishAll_memSame, State.setFw_memSame, foldl_memSame, =
      memSame_mk, = memSameF_fold]

theorem opActivationStandbyLoaded_memSame (valid : Bool) {s : State} (hs : MemSame a s) : MemSame a
    (opActivationStandbyLoaded valid s) := by
  grind [opActivationStandbyLoaded, State.updMgt_memSame, State.activationFails_memSame, foldl_memSame, = memSame_mk, =
      memSameF_fold]

theorem execActivationStandbyLoaded_memSame (valid : Bool) {s : State} (hs : MemSame a s) {t : State} (e_ :
    execActivationStandbyLoaded valid s = .next t) : MemSame a t := by
  grind [execActivationStandbyLoaded, State.whenClocked_memSame, opActivationStandbyLoaded_memSame, foldl_memSame, =
      memSame_mk, = memSameF_fold]

theorem State.dfuFails_memSame (st : DfuStatus) {s : State} (hs : MemSame a s) : MemSame a (State.dfuFails st s) := by
  grind [State.dfuFails, State.updMgt_memSame, State.setFw_memSame, foldl_memSame, = memSame_mk, = memSameF_fold]

theorem opDfuDnload_memSame (block : BitVec 16) (data : List Byte) {s : State} (hs : MemSame a s) : MemSame a
    (opDfuDnload block data s) := by
  grind [opDfuDnload, State.updMgt_memSame, State.emit_memSame, State.setFw_memSame, State.eraseInactive_memSame,
      State.dfuFails_memSame, foldl_memSame, = memSame_mk, = memSameF_fold]

theorem execDfuDnload_memSame (block : BitVec 16) (data : List Byte) {s : State} (hs : MemSame a s) {t : State} (e_ :
    execDfuDnload block data s = .next t) : MemSame a t := by
  grind [execDfuDnload, State.whenClocked_memSame, opDfuDnload_memSame, foldl_memSame, = memSame_mk, = memSameF_fold]

theorem opDfuManifest_memSame {s : State} (hs : MemSame a s) : MemSame a (opDfuManifest s) := by
  grind (gen := 30) (ematch := 30) (splits := 30) [opDfuManifest, State.updMgt_memSame, State.emit_memSame,
      State.writeRecord_memSame, State.setFw_memSame, State.rejectImage_memSame, foldl_memSame, = memSame_mk, =
      memSameF_fold]

theorem execDfuManifest_memSame (u v : Unit) {s : State} (hs : MemSame a s) {t : State} (e_ : execDfuManifest u v s =
    .next t) : MemSame a t := by
  grind [execDfuManifest, State.whenClocked_memSame, opDfuManifest_memSame, foldl_memSame, = memSame_mk, =
      memSameF_fold]

theorem opDfuDetach_memSame {s : State} (hs : MemSame a s) : MemSame a (opDfuDetach s) := by
  grind [opDfuDetach, State.emit_memSame, foldl_memSame, = memSame_mk, = memSameF_fold]

theorem execDfuDetach_memSame {s : State} (hs : MemSame a s) {t : State} (e_ : execDfuDetach s = .next t) : MemSame a
    t := by
  grind [execDfuDetach, State.whenClocked_memSame, opDfuDetach_memSame, foldl_memSame, = memSame_mk, = memSameF_fold]

theorem opUsbBusReset_memSame {s : State} (hs : MemSame a s) : MemSame a (opUsbBusReset s) := by
  grind [opUsbBusReset, State.updMb_memSame, State.updMgt_memSame, State.log_memSame, State.setFw_memSame,
      foldl_memSame, = memSame_mk, = memSameF_fold]

theorem execUsbBusReset_memSame {s : State} (hs : MemSame a s) {t : State} (e_ : execUsbBusReset s = .next t) :
    MemSame a t := by
  grind [execUsbBusReset, State.whenClocked_memSame, opUsbBusReset_memSame, foldl_memSame, = memSame_mk, =
      memSameF_fold]

theorem opConfigItemRead_memSame (item : BitVec 16) {s : State} (hs : MemSame a s) : MemSame a (opConfigItemRead item
    s) := by
  grind [opConfigItemRead, State.emit_memSame, foldl_memSame, = memSame_mk, = memSameF_fold]

theorem execConfigItemRead_memSame (item : BitVec 16) {s : State} (hs : MemSame a s) {t : State} (e_ :
    execConfigItemRead item s = .next t) : MemSame a t := by
  grind [execConfigItemRead, State.whenClocked_memSame, opConfigItemRead_memSame, foldl_memSame, = memSame_mk, =
      memSameF_fold]

theorem opConfigItemWrite_memSame (item : BitVec 16) (data : List Byte) {s : State} (hs : MemSame a s) : MemSame a
    (opConfigItemWrite item data s) := by
  grind [opConfigItemWrite, State.emit_memSame, foldl_memSame, = memSame_mk, = memSameF_fold]

theorem execConfigItemWrite_memSame (item : BitVec 16) (data : List Byte) {s : State} (hs : MemSame a s) {t : State}
    (e_ : execConfigItemWrite item data s = .next t) : MemSame a t := by
  grind [execConfigItemWrite, State.whenClocked_memSame, opConfigItemWrite_memSame, foldl_memSame, = memSame_mk, =
      memSameF_fold]

theorem opLogRecordProgram_memSame {s : State} (hs : MemSame a s) : MemSame a (opLogRecordProgram s) := by
  grind [opLogRecordProgram, State.updMgt_memSame, foldl_memSame, = memSame_mk, = memSameF_fold]

theorem execLogRecordProgram_memSame {s : State} (hs : MemSame a s) {t : State} (e_ : execLogRecordProgram s = .next
    t) : MemSame a t := by
  grind [execLogRecordProgram, State.whenClocked_memSame, opLogRecordProgram_memSame, foldl_memSame, = memSame_mk, =
      memSameF_fold]

theorem opPmbusPoll_memSame (readings : List (Option (BitVec 16))) {s : State} (hs : MemSame a s) : MemSame a
    (opPmbusPoll readings s) := by
  grind [opPmbusPoll, State.updPwr_memSame, State.log_memSame, State.updSensor_memSame, foldl_memSame, = memSame_mk, =
      memSameF_fold]

theorem execPmbusPoll_memSame (readings : List (Option (BitVec 16))) {s : State} (hs : MemSame a s) {t : State} (e_ :
    execPmbusPoll readings s = .next t) : MemSame a t := by
  grind [execPmbusPoll, State.whenClocked_memSame, opPmbusPoll_memSame, foldl_memSame, = memSame_mk, = memSameF_fold]

theorem opSmbusStretchTimeout_memSame (segment : BitVec 2) (address : BitVec 7) (command : BitVec 8) {s : State} (hs :
    MemSame a s) : MemSame a (opSmbusStretchTimeout segment address command s) := by
  grind [opSmbusStretchTimeout, State.log_memSame, foldl_memSame, = memSame_mk, = memSameF_fold]

theorem execSmbusStretchTimeout_memSame (segment : BitVec 2) (address : BitVec 7) (command : BitVec 8) {s : State} (hs
    : MemSame a s) {t : State} (e_ : execSmbusStretchTimeout segment address command s = .next t) : MemSame a t := by
  grind [execSmbusStretchTimeout, State.whenClocked_memSame, opSmbusStretchTimeout_memSame, foldl_memSame, = memSame_mk,
      = memSameF_fold]

theorem State.recoverBus_memSame (n : Nat) (high : Bool) {s : State} (hs : MemSame a s) : MemSame a (State.recoverBus
    n high s) := by
  grind [State.recoverBus, State.updMgt_memSame, State.emit_memSame, State.log_memSame, State.updSensor_memSame,
      State.writeVouts_memSame, foldl_memSame, = memSame_mk, = memSameF_fold]

theorem opSmbusStuckRecovery_memSame (segment : BitVec 2) (sdaHigh : Bool) {s : State} (hs : MemSame a s) : MemSame a
    (opSmbusStuckRecovery segment sdaHigh s) := by
  grind [opSmbusStuckRecovery, State.recoverBus_memSame, foldl_memSame, = memSame_mk, = memSameF_fold]

theorem execSmbusStuckRecovery_memSame (segment : BitVec 2) (sdaHigh : Bool) {s : State} (hs : MemSame a s) {t :
    State} (e_ : execSmbusStuckRecovery segment sdaHigh s = .next t) : MemSame a t := by
  grind [execSmbusStuckRecovery, State.whenClocked_memSame, opSmbusStuckRecovery_memSame, foldl_memSame, = memSame_mk, =
      memSameF_fold]

theorem opSmbusRecoveryRetry_memSame (segment : BitVec 2) (sdaHigh : Bool) {s : State} (hs : MemSame a s) : MemSame a
    (opSmbusRecoveryRetry segment sdaHigh s) := by
  grind [opSmbusRecoveryRetry, State.recoverBus_memSame, foldl_memSame, = memSame_mk, = memSameF_fold]

theorem execSmbusRecoveryRetry_memSame (segment : BitVec 2) (sdaHigh : Bool) {s : State} (hs : MemSame a s) {t :
    State} (e_ : execSmbusRecoveryRetry segment sdaHigh s = .next t) : MemSame a t := by
  grind [execSmbusRecoveryRetry, State.whenClocked_memSame, opSmbusRecoveryRetry_memSame, foldl_memSame, = memSame_mk, =
      memSameF_fold]

theorem opSmbtStatus_memSame (pec : Bool) {s : State} (hs : MemSame a s) : MemSame a (opSmbtStatus pec s) := by
  grind [opSmbtStatus, State.emit_memSame, foldl_memSame, = memSame_mk, = memSameF_fold]

theorem execSmbtStatus_memSame (pec : Bool) {s : State} (hs : MemSame a s) {t : State} (e_ : execSmbtStatus pec s =
    .next t) : MemSame a t := by
  grind [execSmbtStatus, State.whenClocked_memSame, opSmbtStatus_memSame, foldl_memSame, = memSame_mk, = memSameF_fold]

theorem opSmbtSetCap_memSame (w : BitVec 16) (pec : Bool) {s : State} (hs : MemSame a s) : MemSame a (opSmbtSetCap w
    pec s) := by
  grind [opSmbtSetCap, State.updMgt_memSame, State.emit_memSame, State.pendCap_memSame, State.sheafCap_memSame,
      foldl_memSame, = memSame_mk, = memSameF_fold]

theorem execSmbtSetCap_memSame (w : BitVec 16) (pec : Bool) {s : State} (hs : MemSame a s) {t : State} (e_ :
    execSmbtSetCap w pec s = .next t) : MemSame a t := by
  grind [execSmbtSetCap, State.whenClocked_memSame, opSmbtSetCap_memSame, foldl_memSame, = memSame_mk, = memSameF_fold]

theorem opSmbtPower_memSame (pec : Bool) {s : State} (hs : MemSame a s) : MemSame a (opSmbtPower pec s) := by
  grind [opSmbtPower, State.emit_memSame, foldl_memSame, = memSame_mk, = memSameF_fold]

theorem execSmbtPower_memSame (pec : Bool) {s : State} (hs : MemSame a s) {t : State} (e_ : execSmbtPower pec s =
    .next t) : MemSame a t := by
  grind [execSmbtPower, State.whenClocked_memSame, opSmbtPower_memSame, foldl_memSame, = memSame_mk, = memSameF_fold]

theorem opSmbtAlertAck_memSame (pec : Bool) {s : State} (hs : MemSame a s) : MemSame a (opSmbtAlertAck pec s) := by
  grind [opSmbtAlertAck, State.updMgt_memSame, foldl_memSame, = memSame_mk, = memSameF_fold]

theorem execSmbtAlertAck_memSame (pec : Bool) {s : State} (hs : MemSame a s) {t : State} (e_ : execSmbtAlertAck pec s
    = .next t) : MemSame a t := by
  grind [execSmbtAlertAck, State.whenClocked_memSame, opSmbtAlertAck_memSame, foldl_memSame, = memSame_mk, =
      memSameF_fold]

theorem opAlertResponse_memSame {s : State} (hs : MemSame a s) : MemSame a (opAlertResponse s) := by
  grind [opAlertResponse, State.emit_memSame, foldl_memSame, = memSame_mk, = memSameF_fold]

theorem execAlertResponse_memSame {s : State} (hs : MemSame a s) {t : State} (e_ : execAlertResponse s = .next t) :
    MemSame a t := by
  grind [execAlertResponse, State.whenClocked_memSame, opAlertResponse_memSame, foldl_memSame, = memSame_mk, =
      memSameF_fold]

theorem State.console_memSame (ws : List W64) {s : State} (hs : MemSame a s) : MemSame a (State.console ws s) := by
  grind [State.console, State.emit_memSame, foldl_memSame, = memSame_mk, = memSameF_fold]

theorem opUartStatus_memSame {s : State} (hs : MemSame a s) : MemSame a (opUartStatus s) := by
  grind [opUartStatus, State.console_memSame, foldl_memSame, = memSame_mk, = memSameF_fold]

theorem execUartStatus_memSame {s : State} (hs : MemSame a s) {t : State} (e_ : execUartStatus s = .next t) : MemSame
    a t := by
  grind [execUartStatus, State.whenClocked_memSame, opUartStatus_memSame, foldl_memSame, = memSame_mk, = memSameF_fold]

theorem opUartLog_memSame (n : Nat) {s : State} (hs : MemSame a s) : MemSame a (opUartLog n s) := by
  grind [opUartLog, State.console_memSame, foldl_memSame, = memSame_mk, = memSameF_fold]

theorem execUartLog_memSame (n : Nat) {s : State} (hs : MemSame a s) {t : State} (e_ : execUartLog n s = .next t) :
    MemSame a t := by
  grind [execUartLog, State.whenClocked_memSame, opUartLog_memSame, foldl_memSame, = memSame_mk, = memSameF_fold]

theorem opUartSens_memSame (sensor : BitVec 16) {s : State} (hs : MemSame a s) : MemSame a (opUartSens sensor s) := by
  grind [opUartSens, State.console_memSame, foldl_memSame, = memSame_mk, = memSameF_fold]

theorem execUartSens_memSame (sensor : BitVec 16) {s : State} (hs : MemSame a s) {t : State} (e_ : execUartSens sensor
    s = .next t) : MemSame a t := by
  grind [execUartSens, State.whenClocked_memSame, opUartSens_memSame, foldl_memSame, = memSame_mk, = memSameF_fold]

theorem opUartLink_memSame (port : Fin 16) {s : State} (hs : MemSame a s) : MemSame a (opUartLink port s) := by
  grind [opUartLink, State.console_memSame, foldl_memSame, = memSame_mk, = memSameF_fold]

theorem execUartLink_memSame (port : Fin 16) {s : State} (hs : MemSame a s) {t : State} (e_ : execUartLink port s =
    .next t) : MemSame a t := by
  grind [execUartLink, State.whenClocked_memSame, opUartLink_memSame, foldl_memSame, = memSame_mk, = memSameF_fold]

theorem State.loadTest_memSame (code : BitVec 8) (effect : State → State) {s : State} (hn : s.por.scan = false)
    (he : ∀ t, MemSame a t → MemSame a (effect t)) (hs : MemSame a s) : MemSame a (State.loadTest code effect s) := by
  unfold State.loadTest
  rw [if_neg (by simp [hn])]
  exact he _ (State.updPor_memSame _ hs)

theorem State.shift_memSame {s : State} (hs : MemSame a s) : MemSame a (State.shift s) := by
  grind [State.shift, State.updPor_memSame, State.emit_memSame, State.takeFree_memSame, foldl_memSame, = memSame_mk, =
      memSameF_fold]

theorem execBypass_memSame {s : State} (hn : s.por.scan = false) (hs : MemSame a s) {t : State}
    (e_ : execBypass s = .next t) : MemSame a t := by
  cases e_
  exact State.loadTest_memSame _ _ hn (fun _ h => State.shift_memSame h) (State.takeFree_memSame hs)

theorem execIdcode_memSame {s : State} (hn : s.por.scan = false) (hs : MemSame a s) {t : State}
    (e_ : execIdcode s = .next t) : MemSame a t := by
  cases e_
  exact State.loadTest_memSame _ _ hn (fun _ h => State.emit_memSame _ h) hs

theorem execSamplePreload_memSame {s : State} (hn : s.por.scan = false) (hs : MemSame a s) {t : State}
    (e_ : execSamplePreload s = .next t) : MemSame a t := by
  cases e_
  exact State.loadTest_memSame _ _ hn (fun _ h => State.shift_memSame h) hs

theorem execExtest_memSame {s : State} (hn : s.por.scan = false) (hs : MemSame a s) {t : State}
    (e_ : execExtest s = .next t) : MemSame a t := by
  cases e_
  exact State.loadTest_memSame _ _ hn (fun _ h => State.shift_memSame h) hs

theorem execExtestPulse_memSame {s : State} (hn : s.por.scan = false) (hs : MemSame a s) {t : State}
    (e_ : execExtestPulse s = .next t) : MemSame a t := by
  cases e_
  exact State.loadTest_memSame _ _ hn (fun _ h => State.shift_memSame h) hs

theorem execExtestTrain_memSame {s : State} (hn : s.por.scan = false) (hs : MemSame a s) {t : State}
    (e_ : execExtestTrain s = .next t) : MemSame a t := by
  cases e_
  exact State.loadTest_memSame _ _ hn (fun _ h => State.shift_memSame h) hs

theorem execClamp_memSame {s : State} (hn : s.por.scan = false) (hs : MemSame a s) {t : State}
    (e_ : execClamp  s = .next t) : MemSame a t := by
  cases e_
  exact State.loadTest_memSame _ _ hn (fun _ h => h) hs

theorem execHighz_memSame {s : State} (hn : s.por.scan = false) (hs : MemSame a s) {t : State}
    (e_ : execHighz  s = .next t) : MemSame a t := by
  cases e_
  exact State.loadTest_memSame _ _ hn (fun _ h => h) hs

theorem execScanMode_memSame {s : State} (hn : s.por.scan = false) (hs : MemSame a s) {t : State}
    (e_ : execScanMode  s = .next t) : MemSame a t := by
  cases e_
  show MemSame a (if _ then _ else _)
  rw [if_neg (by simp [hn])]
  exact State.loadTest_memSame _ _ hn (fun _ h => State.updPor_memSame _ h) hs

theorem execAtbCtrl_memSame {s : State} (hn : s.por.scan = false) (hs : MemSame a s) {t : State}
    (e_ : execAtbCtrl  s = .next t) : MemSame a t := by
  cases e_
  exact State.loadTest_memSame _ _ hn (fun _ h => State.updPor_memSame _ h) hs

theorem opAonTimerTick_memSame {s : State} (hs : MemSame a s) : MemSame a (opAonTimerTick s) := by
  grind [opAonTimerTick, State.updMgt_memSame, State.evalHottest_memSame, State.hbmStep_memSame, foldl_memSame, =
      memSame_mk, = memSameF_fold]

theorem execAonTimerTick_memSame {s : State} (hs : MemSame a s) {t : State} (e_ : execAonTimerTick s = .next t) :
    MemSame a t := by
  grind [execAonTimerTick, State.whenClocked_memSame, opAonTimerTick_memSame, foldl_memSame, = memSame_mk, =
      memSameF_fold]

theorem State.badCodeword_memSame (i lane gap : Nat) {s : State} (hs : MemSame a s) : MemSame a (State.badCodeword i
    lane gap s) := by
  grind [State.badCodeword, State.updPort_memSame, State.updWork_memSame, State.lanesLost_memSame, foldl_memSame, =
      memSame_mk, = memSameF_fold]

theorem opUncorrectableCodeword_memSame (port : Fin 16) (word : Codeword) {s : State} (hs : MemSame a
    s) : MemSame a (opUncorrectableCodeword port word s) := by
  grind [opUncorrectableCodeword, State.updPort_memSame, State.badCodeword_memSame, foldl_memSame, = memSame_mk, =
      memSameF_fold]

theorem execUncorrectableCodeword_memSame (port : Fin 16) (word : Codeword) {s : State} (hs : MemSame
    a s) {t : State} (e_ : execUncorrectableCodeword port word s = .next t) : MemSame a t := by
  grind [execUncorrectableCodeword, State.whenClocked_memSame, opUncorrectableCodeword_memSame, foldl_memSame, =
      memSame_mk, = memSameF_fold]

theorem opSignalDetect_memSame (port : Fin 16) {s : State} (hs : MemSame a s) : MemSame a (opSignalDetect port s) :=
    by
  grind [opSignalDetect, State.updPort_memSame, State.wakeTrain_memSame, foldl_memSame, = memSame_mk, = memSameF_fold]

theorem execSignalDetect_memSame (port : Fin 16) {s : State} (hs : MemSame a s) {t : State} (e_ : execSignalDetect
    port s = .next t) : MemSame a t := by
  grind [execSignalDetect, State.whenClocked_memSame, opSignalDetect_memSame, foldl_memSame, = memSame_mk, =
      memSameF_fold]

theorem opSensorSample_memSame (sensor : BitVec 16) (value : BitVec 16) (good : Bool) {s : State} (hs : MemSame a s) :
    MemSame a (opSensorSample sensor value good s) := by
  grind [opSensorSample, State.readSensor_memSame, foldl_memSame, = memSame_mk, = memSameF_fold]

theorem execSensorSample_memSame (sensor : BitVec 16) (value : BitVec 16) (good : Bool) {s : State} (hs : MemSame a s)
    {t : State} (e_ : execSensorSample sensor value good s = .next t) : MemSame a t := by
  grind [execSensorSample, State.whenClocked_memSame, opSensorSample_memSame, foldl_memSame, = memSame_mk, =
      memSameF_fold]

theorem execTestLogicReset_memSame {s : State} (hn : s.por.scan = false) (hs : MemSame a s) {t : State}
    (e_ : execTestLogicReset  s = .next t) : MemSame a t := by
  cases e_
  exact State.loadTest_memSame _ _ hn (fun _ h => h) hs

theorem MemSame.dram {a s : State} (h : MemSame a s) : s.dram = a.dram := h.1

theorem MemSame.spad {a s : State} (h : MemSame a s) : s.spad = a.spad := h.2

/-- A command that neither `storesMemory` nor `stopsOps` names leaves every byte of device memory and of the scratchpads as
it was, where no scan is left by it. -/
theorem exec_memSame (c : Instr) {s t : State} (hc : c.storesMemory = false) (hk : c.stopsOps = false)
    (hn : s.por.scan = false) (e : exec c s = .next t) : MemSame s t := by
  cases c with
  | devInfo _ _ => exact execDevInfo_memSame _ _ (MemSame.refl s) e
  | frameQuery _ _ => exact execFrameQuery_memSame _ _ (MemSame.refl s) e
  | frameSetPeriod _ _ => exact execFrameSetPeriod_memSame _ _ (MemSame.refl s) e
  | frameSetOverrunLimit _ _ => exact execFrameSetOverrunLimit_memSame _ _ (MemSame.refl s) e
  | frameSetPreference _ _ => exact execFrameSetPreference_memSame _ _ (MemSame.refl s) e
  | jobSubmit _ _ => exact execJobSubmit_memSame _ _ (MemSame.refl s) e
  | jobAbort _ _ => cases hk
  | jobQuery _ _ => exact execJobQuery_memSame _ _ (MemSame.refl s) e
  | admSet _ _ => exact execAdmSet_memSame _ _ (MemSame.refl s) e
  | admQuery _ _ => exact execAdmQuery_memSame _ _ (MemSame.refl s) e
  | partCreate _ _ => exact execPartCreate_memSame _ _ (MemSame.refl s) e
  | partStart _ _ => exact execPartStart_memSame _ _ (MemSame.refl s) e
  | partFence _ _ => exact execPartFence_memSame _ _ (MemSame.refl s) e
  | partResume _ _ => exact execPartResume_memSame _ _ (MemSame.refl s) e
  | partReset _ _ => cases hk
  | partTeardown _ _ => cases hk
  | partQuery _ _ => exact execPartQuery_memSame _ _ (MemSame.refl s) e
  | spanCreate _ _ => exact execSpanCreate_memSame _ _ (MemSame.refl s) e
  | spanJoin _ _ => exact execSpanJoin_memSame _ _ (MemSame.refl s) e
  | spanLeave _ _ => exact execSpanLeave_memSame _ _ (MemSame.refl s) e
  | spanDestroy _ _ => exact execSpanDestroy_memSame _ _ (MemSame.refl s) e
  | spanQuery _ _ => cases hc
  | ctxCreate _ _ => exact execCtxCreate_memSame _ _ (MemSame.refl s) e
  | ctxDestroy _ _ => exact execCtxDestroy_memSame _ _ (MemSame.refl s) e
  | ctxKill _ _ => cases hk
  | ctxQuery _ _ => exact execCtxQuery_memSame _ _ (MemSame.refl s) e
  | ctxPostmortem _ _ => exact execCtxPostmortem_memSame _ _ (MemSame.refl s) e
  | ctxPostmortemAdopt _ _ => exact execCtxPostmortemAdopt_memSame _ _ (MemSame.refl s) e
  | memAlloc _ _ => exact execMemAlloc_memSame _ _ (MemSame.refl s) e
  | memFree _ _ => exact execMemFree_memSame _ _ (MemSame.refl s) e
  | memMapHost _ _ => exact execMemMapHost_memSame _ _ (MemSame.refl s) e
  | memUnmapHost _ _ => exact execMemUnmapHost_memSame _ _ (MemSame.refl s) e
  | memQuery _ _ => exact execMemQuery_memSame _ _ (MemSame.refl s) e
  | boundSet _ _ => exact execBoundSet_memSame _ _ (MemSame.refl s) e
  | boundGet _ _ => exact execBoundGet_memSame _ _ (MemSame.refl s) e
  | kvAllocPool _ _ => cases hc
  | kvAllocFresh _ _ => cases hc
  | kvAllocShare _ _ => cases hc
  | kvAllocWrite _ _ => cases hc
  | kvRelease _ _ => exact execKvRelease_memSame _ _ (MemSame.refl s) e
  | kvReleasePool _ _ => exact execKvReleasePool_memSame _ _ (MemSame.refl s) e
  | kvInsert _ _ => exact execKvInsert_memSame _ _ (MemSame.refl s) e
  | kvLookup _ _ => exact execKvLookup_memSame _ _ (MemSame.refl s) e
  | kvEvictSubtree _ _ => exact execKvEvictSubtree_memSame _ _ (MemSame.refl s) e
  | kvEvictOldest _ _ => exact execKvEvictOldest_memSame _ _ (MemSame.refl s) e
  | kvEvictAll _ _ => exact execKvEvictAll_memSame _ _ (MemSame.refl s) e
  | kvQuery _ _ => exact execKvQuery_memSame _ _ (MemSame.refl s) e
  | sfuLoadTable _ _ => exact execSfuLoadTable_memSame _ _ (MemSame.refl s) e
  | sfuUnloadTable _ _ => exact execSfuUnloadTable_memSame _ _ (MemSame.refl s) e
  | sfuLoadProgram _ _ => exact execSfuLoadProgram_memSame _ _ (MemSame.refl s) e
  | sfuQuery _ _ => cases hc
  | flowDeclare _ _ => exact execFlowDeclare_memSame _ _ (MemSame.refl s) e
  | flowWithdraw _ _ => exact execFlowWithdraw_memSame _ _ (MemSame.refl s) e
  | flowQuery _ _ => exact execFlowQuery_memSame _ _ (MemSame.refl s) e
  | groupDefine _ _ => exact execGroupDefine_memSame _ _ (MemSame.refl s) e
  | groupRelease _ _ => exact execGroupRelease_memSame _ _ (MemSame.refl s) e
  | groupQuery _ _ => exact execGroupQuery_memSame _ _ (MemSame.refl s) e
  | commqCreate _ _ => exact execCommqCreate_memSame _ _ (MemSame.refl s) e
  | commqDestroy _ _ => exact execCommqDestroy_memSame _ _ (MemSame.refl s) e
  | pwrSetCapPackage _ _ => exact execPwrSetCapPackage_memSame _ _ (MemSame.refl s) e
  | pwrSetCapSheaf _ _ => exact execPwrSetCapSheaf_memSame _ _ (MemSame.refl s) e
  | pwrQuery _ _ => exact execPwrQuery_memSame _ _ (MemSame.refl s) e
  | linkQuery _ _ => exact execLinkQuery_memSame _ _ (MemSame.refl s) e
  | linkRetrainFast _ _ => exact execLinkRetrainFast_memSame _ _ (MemSame.refl s) e
  | linkRetrainFull _ _ => exact execLinkRetrainFull_memSame _ _ (MemSame.refl s) e
  | linkRetire _ _ => exact execLinkRetire_memSame _ _ (MemSame.refl s) e
  | sheafQuery _ _ => exact execSheafQuery_memSame _ _ (MemSame.refl s) e
  | fwStage _ _ => exact execFwStage_memSame _ _ (MemSame.refl s) e
  | fwActivate _ _ => exact execFwActivate_memSame _ _ (MemSame.refl s) e
  | fwQuery _ _ => exact execFwQuery_memSame _ _ (MemSame.refl s) e
  | logRead _ _ => exact execLogRead_memSame _ _ (MemSame.refl s) e
  | sensRead _ _ => exact execSensRead_memSame _ _ (MemSame.refl s) e
  | atbSelect _ _ => exact execAtbSelect_memSame _ _ (MemSame.refl s) e
  | atbSample _ _ => exact execAtbSample_memSame _ _ (MemSame.refl s) e
  | testMbist _ _ => cases hc
  | mbxRingCfgWrite _ _ => exact execMbxRingCfgWrite_memSame _ _ (MemSame.refl s) e
  | doorbell _ _ => exact execDoorbell_memSame _ _ (MemSame.refl s) e
  | mbxCplHeadWrite _ _ => exact execMbxCplHeadWrite_memSame _ _ (MemSame.refl s) e
  | mailboxReset _ => cases hk
  | redCqHeadWrite _ _ _ => exact execRedCqHeadWrite_memSame _ _ _ (MemSame.refl s) e
  | slackLateClear _ => exact execSlackLateClear_memSame _ (MemSame.refl s) e
  | readClear _ _ => exact execReadClear_memSame _ _ (MemSame.refl s) e
  | registerWrite _ _ _ => cases hk
  | unsupportedRequest _ _ _ => exact execUnsupportedRequest_memSame _ _ _ (MemSame.refl s) e
  | numvfsWrite _ => cases hk
  | atsEnableWrite _ _ => exact execAtsEnableWrite_memSame _ _ (MemSame.refl s) e
  | msixUnmask _ _ _ => exact execMsixUnmask_memSame _ _ _ (MemSame.refl s) e
  | functionLevelReset _ => cases hk
  | perstAssert => cases hk
  | perstRelease _ _ => exact execPerstRelease_memSame _ _ (MemSame.refl s) e
  | pcieLinkRetry _ _ => exact execPcieLinkRetry_memSame _ _ (MemSame.refl s) e
  | pcieError _ _ => cases hk
  | commandFetch => cases hc
  | completionWrite _ => exact execCompletionWrite_memSame _ (MemSame.refl s) e
  | irqAgeExpiry _ => exact execIrqAgeExpiry_memSame _ (MemSame.refl s) e
  | mailboxResetDone _ => exact execMailboxResetDone_memSame _ (MemSame.refl s) e
  | mailboxResetWatchdog _ => cases hk
  | commitInstant => cases hc
  | planCommit => exact execPlanCommit_memSame (MemSame.refl s) e
  | planRecordSend => exact execPlanRecordSend_memSame (MemSame.refl s) e
  | planRecordReceive _ _ => exact execPlanRecordReceive_memSame _ _ (MemSame.refl s) e
  | slackStart => exact execSlackStart_memSame (MemSame.refl s) e
  | markerReceive _ _ _ => exact execMarkerReceive_memSame _ _ _ (MemSame.refl s) e
  | routedMarkerReceive _ _ => exact execRoutedMarkerReceive_memSame _ _ (MemSame.refl s) e
  | markerTimeout => exact execMarkerTimeout_memSame (MemSame.refl s) e
  | holdoverExpiry => exact execHoldoverExpiry_memSame (MemSame.refl s) e
  | deputyTakeover => exact execDeputyTakeover_memSame (MemSame.refl s) e
  | fullReelection => exact execFullReelection_memSame (MemSame.refl s) e
  | periodProposalReceive _ _ => exact execPeriodProposalReceive_memSame _ _ (MemSame.refl s) e
  | periodChangeAcknowledge => exact execPeriodChangeAcknowledge_memSame (MemSame.refl s) e
  | periodAckReceive _ => exact execPeriodAckReceive_memSame _ (MemSame.refl s) e
  | periodChangeAbandon => exact execPeriodChangeAbandon_memSame (MemSame.refl s) e
  | overrunNoticeReceive _ _ _ => exact execOverrunNoticeReceive_memSame _ _ _ (MemSame.refl s) e
  | spanHoldReceive _ _ _ => exact execSpanHoldReceive_memSame _ _ _ (MemSame.refl s) e
  | flowDeclarationReceive _ _ => exact execFlowDeclarationReceive_memSame _ _ (MemSame.refl s) e
  | healthNoticeReceive _ _ _ _ _ => exact execHealthNoticeReceive_memSame _ _ _ _ _ (MemSame.refl s) e
  | plannerTakeover => exact execPlannerTakeover_memSame (MemSame.refl s) e
  | cellWindow _ _ => exact execCellWindow_memSame _ _ (MemSame.refl s) e
  | beaconRound => exact execBeaconRound_memSame (MemSame.refl s) e
  | beaconReceive _ _ => exact execBeaconReceive_memSame _ _ (MemSame.refl s) e
  | dupFlagClear _ => exact execDupFlagClear_memSame _ (MemSame.refl s) e
  | keyExpiry _ => exact execKeyExpiry_memSame _ (MemSame.refl s) e
  | neighbourVectorExpiry _ => exact execNeighbourVectorExpiry_memSame _ (MemSame.refl s) e
  | electionClose => exact execElectionClose_memSame (MemSame.refl s) e
  | deputyRename => exact execDeputyRename_memSame (MemSame.refl s) e
  | standaloneReopen => exact execStandaloneReopen_memSame (MemSame.refl s) e
  | reachabilityChange _ => exact execReachabilityChange_memSame _ (MemSame.refl s) e
  | leadTakeoverNoticeReceive _ _ => exact execLeadTakeoverNoticeReceive_memSame _ _ (MemSame.refl s) e
  | leadDeclarationReplyReceive _ _ _ _ _ => exact execLeadDeclarationReplyReceive_memSame _ _ _ _ _ (MemSame.refl s) e
  | dualLeadResolve _ _ => exact execDualLeadResolve_memSame _ _ (MemSame.refl s) e
  | controlFlitForward _ => exact execControlFlitForward_memSame _ (MemSame.refl s) e
  | outerHelloReceive _ _ _ => exact execOuterHelloReceive_memSame _ _ _ (MemSame.refl s) e
  | creditDataSend _ _ _ => exact execCreditDataSend_memSame _ _ _ (MemSame.refl s) e
  | creditDataReceive _ _ _ => exact execCreditDataReceive_memSame _ _ _ (MemSame.refl s) e
  | creditReturn _ => exact execCreditReturn_memSame _ (MemSame.refl s) e
  | creditReturnReceive _ _ => exact execCreditReturnReceive_memSame _ _ (MemSame.refl s) e
  | sheafStatusSend => exact execSheafStatusSend_memSame (MemSame.refl s) e
  | alignmentMarkerReceive _ _ _ _ _ => exact execAlignmentMarkerReceive_memSame _ _ _ _ _ (MemSame.refl s) e
  | portBringup _ _ _ _ => exact execPortBringup_memSame _ _ _ _ (MemSame.refl s) e
  | bringupTimeout _ => exact execBringupTimeout_memSame _ (MemSame.refl s) e
  | flitReceive _ _ _ _ _ => cases hk
  | nakReceive _ _ => exact execNakReceive_memSame _ _ (MemSame.refl s) e
  | nakResend _ => exact execNakResend_memSame _ (MemSame.refl s) e
  | replayTimeout _ => exact execReplayTimeout_memSame _ (MemSame.refl s) e
  | fastRetrain _ => exact execFastRetrain_memSame _ (MemSame.refl s) e
  | trainReceive _ => exact execTrainReceive_memSame _ (MemSame.refl s) e
  | retrainEnd _ _ _ => exact execRetrainEnd_memSame _ _ _ (MemSame.refl s) e
  | retrainRestart _ => exact execRetrainRestart_memSame _ (MemSame.refl s) e
  | burstStart _ => exact execBurstStart_memSame _ (MemSame.refl s) e
  | burstEnd _ _ => exact execBurstEnd_memSame _ _ (MemSame.refl s) e
  | burstQuarantine _ => exact execBurstQuarantine_memSame _ (MemSame.refl s) e
  | recalibrationEnd _ _ => exact execRecalibrationEnd_memSame _ _ (MemSame.refl s) e
  | probationEnd _ => exact execProbationEnd_memSame _ (MemSame.refl s) e
  | stuckLane _ _ => exact execStuckLane_memSame _ _ (MemSame.refl s) e
  | widthChange _ _ => exact execWidthChange_memSame _ _ (MemSame.refl s) e
  | widthReceive _ _ => exact execWidthReceive_memSame _ _ (MemSame.refl s) e
  | widthChangeTimeout _ => exact execWidthChangeTimeout_memSame _ (MemSame.refl s) e
  | txeqReceive _ _ _ => exact execTxeqReceive_memSame _ _ _ (MemSame.refl s) e
  | adaptationSnapshot _ _ => exact execAdaptationSnapshot_memSame _ _ (MemSame.refl s) e
  | dozeRequest _ => exact execDozeRequest_memSame _ (MemSame.refl s) e
  | dozeReqReceive _ => exact execDozeReqReceive_memSame _ (MemSame.refl s) e
  | dozeAckReceive _ => exact execDozeAckReceive_memSame _ (MemSame.refl s) e
  | wakeRequest _ => exact execWakeRequest_memSame _ (MemSame.refl s) e
  | wakeReceive _ => exact execWakeReceive_memSame _ (MemSame.refl s) e
  | dozeEntry _ => exact execDozeEntry_memSame _ (MemSame.refl s) e
  | wakeTimeout _ => exact execWakeTimeout_memSame _ (MemSame.refl s) e
  | operationIssue _ => cases hk
  | oversizeIssue _ _ => cases hk
  | descriptorFetch _ => exact execDescriptorFetch_memSame _ (MemSame.refl s) e
  | engineStart _ _ => exact execEngineStart_memSame _ _ (MemSame.refl s) e
  | fillHoldExpiry _ => exact execFillHoldExpiry_memSame _ (MemSame.refl s) e
  | fillRelease _ _ _ => exact execFillRelease_memSame _ _ _ (MemSame.refl s) e
  | tileMultiply _ => cases hc
  | attentionForward _ => cases hc
  | bucketSort _ => cases hc
  | attentionBackward _ => cases hc
  | specialFunctionPass _ => cases hc
  | circulationSend _ => cases hk
  | circulationReceive _ => cases hc
  | reductionExplicit _ => cases hk
  | fusedMultiplyReduce _ => cases hc
  | reshardMove _ => cases hc
  | copyData _ => cases hc
  | copyHandleLoad _ => cases hk
  | copyBoundLoad _ => cases hk
  | copyZeroFill _ => cases hc
  | layerFence _ => exact execLayerFence_memSame _ (MemSame.refl s) e
  | handlePop _ => cases hk
  | handlePush _ => cases hk
  | operationRetire _ => exact execOperationRetire_memSame _ (MemSame.refl s) e
  | stallWatchdog _ => cases hk
  | sfuLoadWrite _ _ => exact execSfuLoadWrite_memSame _ _ (MemSame.refl s) e
  | killStart _ => cases hk
  | killNoticeReceive _ _ _ _ _ => cases hk
  | killComplete _ _ => exact execKillComplete_memSame _ _ (MemSame.refl s) e
  | translationCompletionReceive _ _ _ _ _ _ _ => cases hk
  | invalidateRequestReceive _ _ _ _ => exact execInvalidateRequestReceive_memSame _ _ _ _ (MemSame.refl s) e
  | invalidationComplete _ => exact execInvalidationComplete_memSame _ (MemSame.refl s) e
  | shootdownAcknowledge _ => cases hc
  | pageScrubComplete _ => cases hc
  | partitionFault _ _ => cases hk
  | teardownRelease _ => exact execTeardownRelease_memSame _ (MemSame.refl s) e
  | joinFlitReceive _ _ _ => exact execJoinFlitReceive_memSame _ _ _ (MemSame.refl s) e
  | spanActiveReceive _ _ => exact execSpanActiveReceive_memSame _ _ (MemSame.refl s) e
  | spanFormingTimeout _ => exact execSpanFormingTimeout_memSame _ (MemSame.refl s) e
  | spanEndReceive _ => exact execSpanEndReceive_memSame _ (MemSame.refl s) e
  | spanDeadReceive _ _ => cases hk
  | spanDeadResend _ _ => exact execSpanDeadResend_memSame _ _ (MemSame.refl s) e
  | groupReadyReceive _ _ _ _ => exact execGroupReadyReceive_memSame _ _ _ _ (MemSame.refl s) e
  | groupActiveReceive _ _ => exact execGroupActiveReceive_memSame _ _ (MemSame.refl s) e
  | groupDefineTimeout _ => exact execGroupDefineTimeout_memSame _ (MemSame.refl s) e
  | groupLossReceive _ _ _ _ => exact execGroupLossReceive_memSame _ _ _ _ (MemSame.refl s) e
  | repairAnnounceReceive _ _ _ _ _ => exact execRepairAnnounceReceive_memSame _ _ _ _ _ (MemSame.refl s) e
  | groupRepairTimeout _ => exact execGroupRepairTimeout_memSame _ (MemSame.refl s) e
  | reductionRestart _ => cases hk
  | chunkImageReceive _ _ => exact execChunkImageReceive_memSame _ _ (MemSame.refl s) e
  | chunkIntake _ _ => cases hk
  | stagingBufferTake _ _ => exact execStagingBufferTake_memSame _ _ (MemSame.refl s) e
  | thermalSample _ => exact execThermalSample_memSame _ (MemSame.refl s) e
  | baseChargeUpdate _ _ => exact execBaseChargeUpdate_memSame _ _ (MemSame.refl s) e
  | capSetReceive _ _ _ => exact execCapSetReceive_memSame _ _ _ (MemSame.refl s) e
  | capAckReceive _ _ _ => exact execCapAckReceive_memSame _ _ _ (MemSame.refl s) e
  | sheafCapTimeout => exact execSheafCapTimeout_memSame (MemSame.refl s) e
  | powerOnReset => cases hc
  | pgoodRise => exact execPgoodRise_memSame (MemSame.refl s) e
  | pgoodTimeout => cases hc
  | pgoodFall _ => cases hc
  | sequenceRetry => exact execSequenceRetry_memSame (MemSame.refl s) e
  | sysRstAssert => cases hc
  | sysRstRelease => exact execSysRstRelease_memSame (MemSame.refl s) e
  | warmRstAssert => cases hc
  | fabricRefclkLoss => cases hc
  | pcieRefclkLoss _ => exact execPcieRefclkLoss_memSame _ (MemSame.refl s) e
  | coldResetRelease => exact execColdResetRelease_memSame (MemSame.refl s) e
  | selfTestComplete _ _ _ _ _ => cases hc
  | hbmTrainingComplete _ => exact execHbmTrainingComplete_memSame _ (MemSame.refl s) e
  | hbmTestComplete _ => cases hc
  | managementResetRelease => exact execManagementResetRelease_memSame (MemSame.refl s) e
  | bootComplete u v => exact execBootComplete_memSame u v (MemSame.refl s) e
  | standbyMirrored => exact execStandbyMirrored_memSame (MemSame.refl s) e
  | hbmRefresh _ _ => exact execHbmRefresh_memSame _ _ (MemSame.refl s) e
  | watchdogExpiry _ => cases hc
  | warmReset => cases hc
  | stageVerifyComplete u v => exact execStageVerifyComplete_memSame u v (MemSame.refl s) e
  | activationStandbyLoaded _ => exact execActivationStandbyLoaded_memSame _ (MemSame.refl s) e
  | activationTakeover _ => cases hk
  | dfuDnload _ _ => exact execDfuDnload_memSame _ _ (MemSame.refl s) e
  | dfuManifest u v => exact execDfuManifest_memSame u v (MemSame.refl s) e
  | dfuDetach => exact execDfuDetach_memSame (MemSame.refl s) e
  | usbBusReset => exact execUsbBusReset_memSame (MemSame.refl s) e
  | configItemRead _ => exact execConfigItemRead_memSame _ (MemSame.refl s) e
  | configItemWrite _ _ => exact execConfigItemWrite_memSame _ _ (MemSame.refl s) e
  | logRecordProgram => exact execLogRecordProgram_memSame (MemSame.refl s) e
  | pmbusPoll _ => exact execPmbusPoll_memSame _ (MemSame.refl s) e
  | smbusStretchTimeout _ _ _ => exact execSmbusStretchTimeout_memSame _ _ _ (MemSame.refl s) e
  | smbusStuckRecovery _ _ => exact execSmbusStuckRecovery_memSame _ _ (MemSame.refl s) e
  | smbusRecoveryRetry _ _ => exact execSmbusRecoveryRetry_memSame _ _ (MemSame.refl s) e
  | smbtStatus _ => exact execSmbtStatus_memSame _ (MemSame.refl s) e
  | smbtSetCap _ _ => exact execSmbtSetCap_memSame _ _ (MemSame.refl s) e
  | smbtPower _ => exact execSmbtPower_memSame _ (MemSame.refl s) e
  | smbtAlertAck _ => exact execSmbtAlertAck_memSame _ (MemSame.refl s) e
  | alertResponse => exact execAlertResponse_memSame (MemSame.refl s) e
  | uartStatus => exact execUartStatus_memSame (MemSame.refl s) e
  | uartLog _ => exact execUartLog_memSame _ (MemSame.refl s) e
  | uartSens _ => exact execUartSens_memSame _ (MemSame.refl s) e
  | uartLink _ => exact execUartLink_memSame _ (MemSame.refl s) e
  | bypass => exact execBypass_memSame hn (MemSame.refl s) e
  | idcode => exact execIdcode_memSame hn (MemSame.refl s) e
  | samplePreload => exact execSamplePreload_memSame hn (MemSame.refl s) e
  | extest => exact execExtest_memSame hn (MemSame.refl s) e
  | extestPulse => exact execExtestPulse_memSame hn (MemSame.refl s) e
  | extestTrain => exact execExtestTrain_memSame hn (MemSame.refl s) e
  | clamp => exact execClamp_memSame hn (MemSame.refl s) e
  | highz => exact execHighz_memSame hn (MemSame.refl s) e
  | scanMode => exact execScanMode_memSame hn (MemSame.refl s) e
  | mbistRun => cases hc
  | atbCtrl => exact execAtbCtrl_memSame hn (MemSame.refl s) e
  | jtagWarmReset => cases hc
  | aonTimerTick => exact execAonTimerTick_memSame (MemSame.refl s) e
  | uncorrectableCodeword _ _ => exact execUncorrectableCodeword_memSame _ _ (MemSame.refl s) e
  | signalDetect _ => exact execSignalDetect_memSame _ (MemSame.refl s) e
  | sensorSample _ _ _ => exact execSensorSample_memSame _ _ _ (MemSame.refl s) e
  | testLogicReset => exact execTestLogicReset_memSame hn (MemSame.refl s) e
  | vddAonLoss => cases hc

end Sys2Proof.Machine
end

