-- ==== Sys2Proof/Laws/Calm.lean ====
section
/-! SUPPORT. Operations that are not inside a tile stop without a store. -/

namespace Sys2Proof.Machine

open Sys2Proof

variable {a : State}

theorem State.stopPass_calm {o : Op} (ho : o.inPass = false) (s : State) : s.stopPass o = s := by
  unfold State.stopPass
  rw [if_pos (by simp [ho])]

theorem State.stopOp_calm {o : Op} (ho : o.inPass = false) {s : State} (hs : MemSame a s) : MemSame a (s.stopOp o) := by
  unfold State.stopOp
  rw [State.stopPass_calm ho]
  exact State.leaveFill_memSame _ (State.updSeq_memSame _ (State.settle_memSame _ _ _ (State.takeFree_memSame hs)))

theorem foldl_calm {α : Type} {g : State → α → State} {p : α → Prop} (hg : ∀ s x, p x → MemSame a s → MemSame a (g s x))
    (l : List α) (hl : ∀ x ∈ l, p x) {s : State} (h : MemSame a s) : MemSame a (l.foldl g s) := by
  induction l generalizing s with
  | nil => exact h
  | cons x t ih =>
    exact ih (fun y hy => hl y (List.mem_cons_of_mem _ hy)) (hg _ _ (hl x List.mem_cons_self) h)

/-- A kill stores nothing while no operation is inside a tile. -/
theorem State.killStart_calm (r : FaultRec) (peer : Option (BitVec 7 × BitVec 10)) {s : State}
    (hq : ∀ o ∈ s.seq.ops, o.inPass = false) (hs : MemSame a s) : MemSame a (s.killStart r peer) := by
  unfold State.killStart
  extract_lets p c ops s1 s2 s3 s4 sq s5 s6 s7
  split
  · exact hs
  have h2 : MemSame a s2 := foldl_calm (p := fun o => o.inPass = false) (fun _ _ ho h => State.stopOp_calm ho h) ops
    (fun o ho => hq o (List.mem_filter.1 ho).1) (State.updCtx_memSame _ _ _ hs)
  have h5 : MemSame a s5 :=
    State.logEvent_memSame _ _ _ _ (State.updSeq_memSame _ (State.updCtx_memSame _ _ _ h2))
  have h6 : MemSame a s6 := by
    show MemSame a (if _ then _ else _)
    split
    · exact State.killNotices_memSame _ _ _ h5
    · exact h5
  have h7 : MemSame a s7 := State.killGroups_memSame _ _ _ h6
  split
  · exact State.spanDie_memSame _ h7
  · exact h7

/-- Ending a job stores nothing while none of its operations is inside a tile. -/
theorem State.endOps_calm (uid : Nat) {s : State} (hq : ∀ o ∈ s.seq.ops, o.inPass = false) (hs : MemSame a s) :
    MemSame a (s.endOps uid) := by
  unfold State.endOps
  refine State.updSeq_memSame _ (foldl_calm (p := fun o => o.inPass = false) (fun t o ho h => ?_) _ (fun o ho => ?_) hs)
  · rw [State.stopPass_calm ho]
    exact h
  · exact hq o (List.mem_filter.1 ho).1

end Sys2Proof.Machine
end

