-- ==== Sys2Proof/WellFormed.lean ====
section
/-! DEFINITION. Well-formed commands: what the types of the operands do not say by themselves. A command entry carries
its 14 argument words (R82); lists have the length their rule gives; identifiers lie in their range. -/

namespace Sys2Proof

open Sys2Proof.Machine

/-- All numbers lie below n. -/
def allBelow (n : Nat) (l : List Nat) : Bool := l.all (fun k => decide (k < n))

/-- No number stands twice. -/
def distinct : List Nat → Bool
  | [] => true
  | k :: t => !t.contains k && distinct t

/-- A command entry has 14 argument words (Table 3-2). -/
def entryWf (e : Entry) : Bool := e.args.length == 14

/-- A declaration names a flow and packages in range and a legal recurrence (R238). -/
def declaredWf (d : Declared) : Bool :=
  decide (d.num < 1024) && decide (d.src < 128) && decide (d.dst < 128) && decide (d.n < 65536) && decide (d.c < 65536) &&
    [0, 1, 2, 4, 8, 16].contains d.r

/-- An entry of a plan record (Table 9-5): a run of cells on a torus port, fed by a torus port or, at 15, from here. -/
def planEntryWf (e : PlanEntry) : Bool :=
  decide (e.outPort < 12) && (decide (e.inPort < 12) || e.inPort == 15) && decide (e.flow < 1024) && decide (1 ≤ e.count) &&
    decide (e.first + e.count ≤ 2560)

/-- A plan record (R250). -/
def planRecordWf (r : PlanRecord) : Bool := decide (r.lead < 128) && decide (r.member < 128) && r.entries.all planEntryWf

/-- A beacon lists identifiers in rising order (R337). -/
def beaconWf (b : Beacon) : Bool :=
  allBelow 128 (b.entries.map (fun x => x.1)) && decide ((b.entries.map (fun x => x.1)).Pairwise (· < ·))

/-- What comes with a flit is a message that is well formed in itself, or nothing, or the frame of a flow's cell. -/
def saidWf : Said → Bool
  | .msg (.planRecord r) => planRecordWf r
  | .msg (.flowDeclare d _) => declaredWf d
  | .msg (.beacon b) => beaconWf b
  | .msg _ | .cell _ _ _ | .nothing => true

/-- A chunk image has 16,384 elements, and a checked one the field and the residue of each of its 256 blocks (R273,
R276). -/
def imageWf (i : Image) : Bool :=
  (if i.exp then i.exps.length == 256 else i.values.length == 16384) && (i.exps.isEmpty || i.exps.length == 256) &&
    (i.residues.isEmpty || i.residues.length == 256)

/-- A command is well formed. -/
def Instr.wf : Instr → Bool
  | .devInfo _ e | .frameQuery _ e | .frameSetPeriod _ e | .frameSetOverrunLimit _ e | .frameSetPreference _ e
  | .jobSubmit _ e | .jobAbort _ e | .jobQuery _ e | .admSet _ e | .admQuery _ e | .partCreate _ e | .partStart _ e
  | .partFence _ e | .partResume _ e | .partReset _ e | .partTeardown _ e | .partQuery _ e | .spanCreate _ e
  | .spanJoin _ e | .spanLeave _ e | .spanDestroy _ e | .spanQuery _ e | .ctxCreate _ e | .ctxDestroy _ e
  | .ctxKill _ e | .ctxQuery _ e | .ctxPostmortem _ e | .ctxPostmortemAdopt _ e | .memAlloc _ e | .memFree _ e
  | .memMapHost _ e | .memUnmapHost _ e | .memQuery _ e | .boundSet _ e | .boundGet _ e | .kvAllocPool _ e
  | .kvAllocFresh _ e | .kvAllocShare _ e | .kvAllocWrite _ e | .kvRelease _ e | .kvReleasePool _ e | .kvInsert _ e
  | .kvLookup _ e | .kvEvictSubtree _ e | .kvEvictOldest _ e | .kvEvictAll _ e | .kvQuery _ e | .sfuLoadTable _ e
  | .sfuUnloadTable _ e | .sfuLoadProgram _ e | .sfuQuery _ e | .flowDeclare _ e | .flowWithdraw _ e | .flowQuery _ e
  | .groupDefine _ e | .groupRelease _ e | .groupQuery _ e | .commqCreate _ e | .commqDestroy _ e
  | .pwrSetCapPackage _ e | .pwrSetCapSheaf _ e | .pwrQuery _ e | .linkQuery _ e | .linkRetrainFast _ e
  | .linkRetrainFull _ e | .linkRetire _ e | .sheafQuery _ e | .fwStage _ e | .fwActivate _ e | .fwQuery _ e
  | .logRead _ e | .sensRead _ e | .atbSelect _ e | .atbSample _ e | .testMbist _ e => entryWf e
  | .msixUnmask fn _ vectors => allBelow (if fn.val = 0 then 128 else 120) vectors && distinct vectors
  | .planRecordReceive r _ => planRecordWf r
  | .flowDeclarationReceive d _ => declaredWf d
  | .beaconReceive _ b => beaconWf b
  | .leadDeclarationReplyReceive _ _ decls _ _ => decls.all declaredWf
  | .creditDataSend _ _ bytes => decide (bytes.length ≤ 3824)
  | .creditDataReceive _ _ bytes => decide (bytes.length ≤ 3824)
  | .portBringup _ order stamps margins => order.length == 8 && stamps.length == 16 && margins.length == 8
  | .flitReceive _ _ _ _ said => saidWf said
  | .retrainEnd _ _ stamps => stamps.length == 16
  | .recalibrationEnd _ margins => margins.length == 8
  | .adaptationSnapshot _ margins => margins.length == 8
  | .killStart r => decide (r.die < 2)
  | .spanActiveReceive _ ring => !ring.isEmpty && allBelow 128 ring && distinct ring
  | .spanDeadResend _ acked => allBelow 128 acked
  | .repairAnnounceReceive _ _ _ lost _ => allBelow 256 (lost.map (fun x => x.1))
  | .chunkImageReceive _ img => imageWf img
  | .thermalSample temps => temps.length == 48
  | .hbmTestComplete bad => allBelow 384 bad && distinct bad
  | .pmbusPoll readings => readings.length == 128
  | .mbxRingCfgWrite _ _ | .doorbell _ _ | .mbxCplHeadWrite _ _ | .mailboxReset _ | .redCqHeadWrite _ _ _
  | .slackLateClear _ | .readClear _ _ | .registerWrite _ _ _ | .unsupportedRequest _ _ _ | .numvfsWrite _
  | .atsEnableWrite _ _ | .functionLevelReset _ | .perstAssert | .perstRelease _ _ | .pcieLinkRetry _ _
  | .pcieError _ _ | .commandFetch | .completionWrite _ | .irqAgeExpiry _ | .mailboxResetDone _
  | .mailboxResetWatchdog _ | .commitInstant | .planCommit | .planRecordSend | .slackStart | .markerReceive _ _ _
  | .routedMarkerReceive _ _ | .markerTimeout | .holdoverExpiry | .deputyTakeover | .fullReelection
  | .periodProposalReceive _ _ | .periodChangeAcknowledge | .periodAckReceive _ | .periodChangeAbandon
  | .overrunNoticeReceive _ _ _ | .spanHoldReceive _ _ _ | .healthNoticeReceive _ _ _ _ _ | .plannerTakeover
  | .cellWindow _ _ | .beaconRound | .dupFlagClear _ | .keyExpiry _ | .neighbourVectorExpiry _ | .electionClose
  | .deputyRename | .standaloneReopen | .reachabilityChange _ | .leadTakeoverNoticeReceive _ _ | .dualLeadResolve _ _
  | .controlFlitForward _ | .outerHelloReceive _ _ _ | .creditReturn _ | .creditReturnReceive _ _ | .sheafStatusSend
  | .alignmentMarkerReceive _ _ _ _ _ | .bringupTimeout _ | .nakReceive _ _ | .nakResend _ | .replayTimeout _
  | .fastRetrain _ | .trainReceive _ | .retrainRestart _ | .burstStart _ | .burstEnd _ _ | .burstQuarantine _
  | .probationEnd _ | .stuckLane _ _ | .widthChange _ _ | .widthReceive _ _ | .widthChangeTimeout _
  | .txeqReceive _ _ _ | .dozeRequest _ | .dozeReqReceive _ | .dozeAckReceive _ | .wakeRequest _ | .wakeReceive _
  | .dozeEntry _ | .wakeTimeout _ | .operationIssue _ | .oversizeIssue _ _ | .descriptorFetch _ | .engineStart _ _
  | .fillHoldExpiry _ | .fillRelease _ _ _ | .tileMultiply _ | .attentionForward _ | .bucketSort _
  | .attentionBackward _ | .specialFunctionPass _ | .circulationSend _ | .circulationReceive _ | .reductionExplicit _
  | .fusedMultiplyReduce _ | .reshardMove _ | .copyData _ | .copyHandleLoad _ | .copyBoundLoad _ | .copyZeroFill _
  | .layerFence _ | .handlePop _ | .handlePush _ | .operationRetire _ | .stallWatchdog _ | .sfuLoadWrite _ _
  | .killNoticeReceive _ _ _ _ _ | .killComplete _ _ | .translationCompletionReceive _ _ _ _ _ _ _
  | .invalidateRequestReceive _ _ _ _ | .invalidationComplete _ | .shootdownAcknowledge _ | .pageScrubComplete _
  | .partitionFault _ _ | .teardownRelease _ | .joinFlitReceive _ _ _ | .spanFormingTimeout _ | .spanEndReceive _
  | .spanDeadReceive _ _ | .groupReadyReceive _ _ _ _ | .groupActiveReceive _ _ | .groupDefineTimeout _
  | .groupLossReceive _ _ _ _ | .groupRepairTimeout _ | .reductionRestart _ | .chunkIntake _ _
  | .stagingBufferTake _ _ | .baseChargeUpdate _ _ | .capSetReceive _ _ _ | .capAckReceive _ _ _ | .sheafCapTimeout
  | .powerOnReset | .pgoodRise | .pgoodTimeout | .pgoodFall _ | .sequenceRetry | .sysRstAssert | .sysRstRelease
  | .warmRstAssert | .fabricRefclkLoss | .pcieRefclkLoss _ | .coldResetRelease | .selfTestComplete _ _ _ _ _
  | .hbmTrainingComplete _ | .managementResetRelease | .bootComplete _ _ | .standbyMirrored | .hbmRefresh _ _
  | .watchdogExpiry _ | .warmReset | .stageVerifyComplete _ _ | .activationStandbyLoaded _ | .activationTakeover _
  | .dfuDnload _ _ | .dfuManifest _ _ | .dfuDetach | .usbBusReset | .configItemRead _ | .configItemWrite _ _
  | .logRecordProgram | .smbusStretchTimeout _ _ _ | .smbusStuckRecovery _ _ | .smbusRecoveryRetry _ _
  | .smbtStatus _ | .smbtSetCap _ _ | .smbtPower _ | .smbtAlertAck _ | .alertResponse | .uartStatus | .uartLog _
  | .uartSens _ | .uartLink _ | .bypass | .idcode | .samplePreload | .extest | .extestPulse | .extestTrain | .clamp
  | .highz | .scanMode | .mbistRun | .atbCtrl | .jtagWarmReset | .aonTimerTick | .uncorrectableCodeword _ _
  | .signalDetect _ | .sensorSample _ _ _ | .testLogicReset | .vddAonLoss => true

end Sys2Proof
end

