-- ==== Sys2Proof/Tests/Slice0.lean ====
section
/-! SUPPORT. The model's own tests: refusals of ill-formed commands, checks against the spec's worked examples and
tables, and a witness for every statement that has hypotheses. -/

namespace Sys2Proof.Tests

open Sys2Proof Sys2Proof.Machine

/- The witnesses are elaborated one after another: as parallel tasks each would hold a stack of its own. -/
set_option Elab.async false

/-! ### The states the tests and witnesses use -/

/-- A package that runs: booted, LOCKED as the only package of its sheaf, its mailboxes enabled, partition 0 RUNNING with a LIVE context. -/
def up : State where
  por := { bring := .running, selfTested := true, hbmTested := true }
  mgt := { booted := true }
  frm := { phase := .work, started := true, state := .locked, role := .master, count := 5 }
  pcie := { perstLow := false, link := .up, configRetry := false, numVfs := 16 }
  mbx := [(0, { enable := true, cmdLog2 := 4, cplLog2 := 4 }), (1, { enable := true, cmdLog2 := 4, cplLog2 := 4 })]
  ten := { parts := [(0, { state := .running, rows := 1, quota := 384 })], ctxs := [(0, { state := .live })] }
  xlt :=
      { dev := [(0, { valid := true, write := true, any := true })], own := [(0, { state := .owned, any := true })] }

/-- An entry whose arguments are zeros. -/
def e0 : Entry := { args := List.replicate 14 0 }

/-- An entry with these first arguments. -/
def ar (ws : List W64) : Entry := { args := ws ++ List.replicate (14 - ws.length) 0 }

/-- The command of such an entry. -/
def c0 : CmdId :=
    { mbx := 0, uid := 0, ticket := 0, opcode := 0, ctx := 0, slot := 0, irq := false, admitAck := false }

/-- A record. -/
def r0 : Record := { cmd := c0, oc := .done, reason := .none, words := [], final := true, frame := 0 }

/-- An ACTIVE span of packages 0 and 1, led here. -/
def x0 : Span := { id := 0, state := .active, creator := 0, ring := [0, 1], part := 0, ctx := 0, lead := 0 }

/-- An operation of partition 0. -/
def o0 : Op := { id := 0, die := 0, part := 0, ctx := 0, job := none, desc := 0 }

/-- A job of partition 0. -/
def j0 : Job :=
    { cmd := c0, part := 0, cost := 1, noDefer := false, list := 0, count := 1, peak := 0, stage := .fresh }

/-- A package with a ticket of JOB.SUBMIT on the mailbox of partition 0, these jobs and these held commands. -/
def withTicket (js : List Job) (held : List (CmdId × Nat × Bool)) : State :=
  { up with
    mbx := [(1, { enable := true, cmdLog2 := 4, cplLog2 := 4, tickets := [{ cmd := { c0 with ticket := 7, opcode := 0x0301 } }] })]
    adm.jobs := js, adm.held := held }

/-- A marker. -/
def k0 : Marker :=
    { frame := 5, master := 1, epoch := 0, period := 2, slack := 0, change := none, hops := 0, deputy := 2, txOffset := 0 }

/-- A plan record. -/
def pr0 : PlanRecord :=
    { frame := 6, span := 0, rebase := 0, lead := 0, rebased := false, member := 0, entries := [] }

/-- An idle flit. -/
def flit0 : Flit := { type := 0, bytes := List.replicate 240 0 }

/-- A control flit of package 1 for this package. -/
def f0 : Flit := { flit0 with type := 5, sub := 1, src := 1, dst := some 0 }

/-- The bits of a flit sent with a SEQ and no acknowledgement. -/
def rawOf (f : Flit) (n : BitVec 12) : BitVec 2048 := BitVec.ofNat 2048 (ofBytesLE (f.wire n none))

/-- Its header. -/
def headOf (f : Flit) (n : BitVec 12) : BitVec 96 := (rawOf f n).extractLsb' 0 96

/-- Its payload. -/
def payloadOf (f : Flit) (n : BitVec 12) : BitVec 1920 := (rawOf f n).extractLsb' 96 1920

/-- Its CRC. -/
def crcOf (f : Flit) (n : BitVec 12) : BitVec 32 := (rawOf f n).extractLsb' 2016 32

/-- Such a flit as it arrives. -/
def arrived (f : Flit) (n : BitVec 12) : Arrival := { flit := f, seq := n, ack := none }

/-- A queue of reductions. -/
def q0 : Commq := { part := 0, queue := 0, group := 0, ctx := 0, ring := 0, log2 := 4 }

/-- A group of two members. -/
def g0 : Group :=
    { index := 0, span := 0, num := 0, part := 0, ctx := 0, checked := false, bf16In := false, bf16Out := false, lanes := 1, cap := 16384, members := [(0, 0), (1, 0)], rank := 0, order := [0, 1], crc := 0, cmd := none }

/-- A pool of four blocks. -/
def kp (bs : Tab KvBlock) : KvPool :=
    { heads := 1, dim := 64, fmt := 0, n := 4, vpn := 0, pages := 1, priv := [], key := 0, blocks := bs }

/-- A package with this pool in partition 0. -/
def withKv (bs : Tab KvBlock) : State := { up with kv := [(0, some (kp bs))] }

/-- A package whose partition 0 stands in this state. -/
def withPart (p : Part) : State := { up with ten.parts := [(0, p)] }

/-- A package with these contexts. -/
def withCtxs (l : Tab Ctx) : State := { up with ten.ctxs := l }

/-- A package with this span. -/
def withSpan (x : Span) : State := { up with ten.spans := [x] }

/-- A port that is UP with all its lanes locked. -/
def pt : Port := { link := .up, latValid := true, lanes := (List.range 8).map (fun i => (i, { lock := .locked })) }

/-- A package whose port 0 stands in this state. -/
def withPort (p : Port) : State := { up with plk.ports := [(0, p)] }

/-- A change of period that is proposed. -/
def p0 : Proposal := { period := 3, slack := 1, master := false }

/-- A beacon of the neighbour on port 0. -/
def b0 : Beacon :=
    { serial := 2, pkg := 1, port := 2, pref := 0, sheaf := 0, round := 0, closed := false, synced := true, halted := false, keys := [], entries := [(1, { serial := 2, dist := 0 })] }

/-- A hello of another sheaf. -/
def h0 : Hello :=
    { serial := 2, pkg := 0, port := 12, sheaf := 1, frame := 0, epoch := 0, master := 0, synced := true, txPhase := 0 }

/-- A declaration of a flow of span 0. -/
def d0 : Declared :=
    { span := 0, num := 0, seq := 0, src := 1, dst := 0, n := 1, earliest := 9, latest := 99, r := 0, c := 0, key := .cmd c0 }

/-- What the lead of a span keeps. -/
def l0 : LeadSpan := { span := 0 }

/-- A lead whose flow table is full. -/
def fullLead : LeadSpan :=
  { l0 with flows := (List.range 1024).map (fun k =>
    { num := k, seq := 0, pkg := 0, key := .rest 0, src := 0, dst := 1, n := 1, earliest := 0, latest := 0 }) }

theorem fullLead_full : freeFlowNum fullLead.flows = none := by
  simp [freeFlowNum, fullLead, flowTable]

/-- A package that leads span 0. -/
def leading : State := { withSpan x0 with pln.leads := [l0] }

/-- A package whose election stands so, with a reachable neighbour on port 0. -/
def withElection (e : Election) : State :=
    { withPort pt with fab.election := e, fab.opened := 10, fab.nbrs := [(0, { beacon := some b0 })] }

/-- A package whose slot 0 of port 0 carries flow 0 of span 0. -/
def withWindow (inPort : Nat) : State :=
    { withPort pt with pln.shares := [(0, some 0)], pln.current := [{ pr0 with frame := 5, entries := [{ first := 0, count := 1, flow := 0, outPort := 0, inPort := inPort }] }] }

/-- A package with this operation in flight. -/
def withOp (o : Op) : State := { up with seq.ops := [o] }

/-- A started operation with this descriptor. -/
def op (d : Nat) : Op := { o0 with desc := BitVec.ofNat 1024 d, started := true }

/-- A package whose partition 0 has an admitted job of one descriptor, fetched or not. -/
def withJob (j : Job) (d : Option Nat) : State :=
  { up with adm.jobs := [{ j with stage := .admitted, peak := 1000, fetched := (d.map (fun x => (0, BitVec.ofNat 1024 x))).toList }] }

/-- How an access ends: with a value 0, with a fault 1, waiting for a translation 2. -/
def gotKind {α : Type} : Got α → Nat
  | .ok _ => 0
  | .fault _ => 1
  | .wait => 2

/-- The value of an access that has one. -/
def okOr {α : Type} (d : α) : Got α → α
  | .ok a => a
  | _ => d

/-- A fault record. -/
def fr0 : FaultRec := { tag := 0, cause := .none }

/-- The record of a fault. -/
def faultOf {α : Type} : Got α → FaultRec
  | .fault f => f
  | _ => fr0

theorem ok_eq {α : Type} (d : α) {r : State × Got α} (h : gotKind r.2 = 0) : r = (r.1, .ok (okOr d r.2)) := by
  obtain ⟨u, a | f | _⟩ := r <;> first | rfl | cases h

theorem fault_eq {α : Type} {r : State × Got α} (h : gotKind r.2 = 1) : r = (r.1, .fault (faultOf r.2)) := by
  obtain ⟨u, a | f | _⟩ := r <;> first | rfl | cases h

theorem wait_eq {α : Type} {r : State × Got α} (h : gotKind r.2 = 2) : r = (r.1, .wait) := by
  obtain ⟨u, a | f | _⟩ := r <;> first | rfl | cases h

/-- An operation of this kind on tiles of one element. -/
def tile1 (kind : Nat) : Op := op (kind + 2 ^ 576 + 2 ^ 592 + 2 ^ 608)

/-- The same with its operands in host windows. -/
def tileH (kind : Nat) : Op := op (kind + 2 ^ 576 + 2 ^ 592 + 2 ^ 608 + 2 ^ 242 + 2 ^ 306 + 2 ^ 370)

/-- A package without device pages, with this operation in flight. -/
def noPages (o : Op) : State := { withOp o with xlt.dev := [] }

/-- A package without the reference clock of PCIe, with this operation in flight. -/
def noClock (o : Op) : State := { withOp o with pcie.refclk := false }

/-- An operation that waits at its queues. -/
def waiting (desc : Nat) (w : QueueWait) : Op := { o0 with desc := BitVec.ofNat 1024 desc, waits := [w] }

/-- A package with this operation in flight and a handle in queue 0. -/
def withQueue (o : Op) (l : List Handle) : State := { withOp o with seq.queues := [(0, l)] }

theorem none_older {P : Op → Prop} (o : Op) : ∀ y, y ∈ [o] → y.id < o.id → P y := by
  intro y h l
  rw [List.mem_singleton] at h
  subst h
  exact absurd l (Nat.lt_irrefl _)

theorem none_before {P : Op → Prop} (o : Op) :
    ∀ y, y ∈ [o] → (y.pushRank < o.pushRank ∨ (y.pushRank = o.pushRank ∧ y.id < o.id)) → P y := by
  intro y h l
  rw [List.mem_singleton] at h
  subst h
  omega

/-- The group, ACTIVE. -/
def ga : Group := { g0 with state := .active }

/-- A package with this group. -/
def withGroup (g : Group) : State := { up with red.groups := [g] }

/-- A reduction under way. -/
def red0 : Reduction := { seq := 0, user := 0, src := 0, dst := 0, chaffDva := 0, len := 4, started := some 0 }

/-- A fused reduction that has a produced buffer. -/
def fused0 : Reduction := { red0 with fused := some 7, buffers := [(0, [])] }

/-- A package whose queue of reductions holds this one. -/
def withRed (r : Reduction) : State := { withGroup ga with red.queues := [{ q0 with reds := [r] }] }

/-- An image of exponents without its fields. -/
def i0 : Image :=
  { group := 0, seq := 0, round := 0, down := false, exp := true, chunk := 0, contrib := 0, sender := 0, values := [] }

/-- A translation request that is out. -/
def xr0 : XlReq := { id := 0, die := 0, part := 0, win := 0, tag := 0, write := false, ticket := 0, slot := 0, dva := 0 }

/-- A package that has sent it. -/
def withReq (r : XlReq) : State := { up with xlt.reqs := [r] }

/-- A package with a shootdown. -/
def withShoot (n : ShootThen) : State := { up with xlt.shoots := [{ id := 0, next := n }] }

/-- The image of a table of one segment. -/
def tableImage : List Byte :=
  [1, 0, 0, 2] ++ List.replicate 22 0 ++ [0x80, 0x3F, 0, 0, 0, 0] ++ bytesLE 4 321881689 ++ List.replicate 40 0

/-- The image of a program of one step. -/
def programImage : List Byte := [1, 0, 0, 0] ++ bytesLE 4 2960955156 ++ List.replicate 8 0

set_option maxRecDepth 100000 in
theorem tableImage_good : tableBad tableImage = none := by decide +kernel

set_option maxRecDepth 100000 in
/-- The signature and the hash of the default image hold: a check of SHA-384 and of ECDSA on P-384. -/
theorem good_image : up.imageBad {} = none := by decide +kernel

theorem image_good {s : State} (h : s.fuse = up.fuse) : s.imageBad {} = none := by
  have g := good_image
  unfold State.imageBad at g ⊢
  rw [h]
  exact g

theorem valid_bank {s : State} {b : Bool} (h : s.fuse = up.fuse) (i : s.flash.bank b = some {}) :
    s.validBank b = some {} := by
  have g := image_good h
  unfold State.validBank
  rw [i]
  exact Option.filter_some_pos (by rw [g]; rfl)

theorem valid_some {s : State} {b : Bool} (h : s.fuse = up.fuse) (i : s.flash.bank b = some {}) :
    (s.validBank b).isSome = true := by
  rw [valid_bank h i]
  rfl

/-- The bytes of the default image. -/
def imageBytes : List Byte := bytesLE 512 (FwImage.header {})

set_option maxRecDepth 100000 in
theorem image_read : imageOf imageBytes = {} := by decide +kernel

set_option maxRecDepth 100000 in
/-- The SHA-384 of "abc" (the example of the standard that R412 names). -/
theorem test_sha384 : sha384 [0x61, 0x62, 0x63] = (bytesLE 48
    0xCB00753F45A35E8BB5A03D699AC65007272C32AB0EDED1631A8B605A43FF5BED8086072BA1E7CC2358BAECA134C825A7).reverse := by
  decide +kernel

/-- A package that has received these bytes of an image. -/
def received (bs : List Byte) : State := { up with mgt.fw := .receiving, mgt.stageData := bs }

/-- A package whose pool holds these tokens in block 1. -/
def withTokens (ts : List (BitVec 32)) : State :=
  withKv [(0, { state := .priv, count := 1 }),
    (1, { state := .published, count := 1, depth := 1, digest := kvDigest 0 0 0 true ts, tokens := ts })]

theorem tokens_found (ts : List (BitVec 32)) :
    (kp [(0, { state := .priv, count := 1 }),
      (1, { state := .published, count := 1, depth := 1, digest := kvDigest 0 0 0 true ts, tokens := ts })]).matching
          none 0 ts =
      some 1 := by
  simp [KvPool.matching, kp, KvBlock.inTree]

/-! ### Ill-formed commands are refused -/

/-- Each check of `Instr.wf` refuses an ill-formed command: an entry of 13 words, a vector out of range or twice, a plan
record of a package or with an entry out of range, a declaration with a recurrence of 3, a beacon out of order, what a
flit brings with one of these, CREDIT data beyond 3,824 bytes, lists of a wrong length, a die 2, an
empty ring, a rank, a page, an image, a sample or readings out of their lengths. -/
theorem test_ill_formed :
    [Instr.devInfo 0 { args := List.replicate 13 0 }, .msixUnmask 1 true [120], .msixUnmask 0 true [3, 3],
      .planRecordReceive { pr0 with lead := 128 } true,
      .planRecordReceive
          { pr0 with entries := [{ first := 2550, count := 11, flow := 0, outPort := 0, inPort := 15 }] } true,
      .planRecordReceive { pr0 with entries := [{ first := 0, count := 1, flow := 0, outPort := 12, inPort := 15 }] }
          true,
      .flowDeclarationReceive { d0 with r := 3 } 0, .leadDeclarationReplyReceive 0 0 [{ d0 with dst := 128 }] 0 0,
      .beaconReceive 0 { b0 with entries := [(2, {}), (1, {})] }, .beaconReceive 0 { b0 with entries := [(128, {})] },
      .flitReceive 0 0 0 0 (.msg (.planRecord { pr0 with lead := 128 })),
      .flitReceive 0 0 0 0 (.msg (.flowDeclare { d0 with src := 128 } 0)),
      .flitReceive 0 0 0 0 (.msg (.beacon { b0 with entries := [(128, {})] })),
      .creditDataSend 0 0 (List.replicate 3825 0), .creditDataReceive 0 0 (List.replicate 3825 0),
      .portBringup 0 [0] (List.replicate 16 0) (List.replicate 8 0), .retrainEnd 0 true [], .recalibrationEnd 0 [],
      .adaptationSnapshot 0 [], .killStart { tag := 0, cause := .none, die := 2 }, .spanActiveReceive 0 [],
      .spanActiveReceive 0 [1, 1], .spanActiveReceive 0 [128], .spanDeadResend 0 [128],
      .repairAnnounceReceive 0 0 0 [(256, true)] 0,
      .chunkImageReceive 0 i0,
      .thermalSample [], .hbmTestComplete [384], .hbmTestComplete [5, 5], .pmbusPoll []].any Instr.wf = false := by
  decide +kernel

/-- Well-formed commands pass. -/
theorem test_well_formed :
    [Instr.devInfo 0 e0, .msixUnmask 0 true [0, 127], .planRecordReceive { pr0 with entries :=
        [{ first := 2550, count := 10, flow := 1023, outPort := 11, inPort := 15 }] } true,
      .flowDeclarationReceive d0 0, .beaconReceive 0 b0, .flitReceive 0 0 0 0 .nothing,
      .creditDataSend 0 0 (List.replicate 3824 0), .spanActiveReceive 0 [0, 1], .thermalSample (List.replicate 48
          none),
      .hbmTestComplete [0, 383], .pmbusPoll (List.replicate 128 none), .commitInstant].all Instr.wf = true := by
  decide +kernel

/-! ### Against the spec's examples and tables -/

/-- No two commands share an opcode. -/
theorem test_opcodes_distinct : (commandSpecs.map (fun sp => sp.opcode)).Pairwise (· ≠ ·) := by decide +kernel

/-- `JOB.ABORT` has opcode 0x0302 and `FRAME.SET_PERIOD` 0x0202 (03). -/
theorem test_opcodes : specJobAbort.opcode = 0x0302 ∧ specFrameSetPeriod.opcode = 0x0202 := by decide

/-- The package at (5, 2, 3) is 117; its X+, Y+ and Z+ ports lead to 118, 125 and 21 (the example of R14). -/
theorem test_neighbours : pkgAt 5 2 3 = 117 ∧ neighbour 117 0 = 118 ∧ neighbour 117 1 = 118 ∧ neighbour 117 4 = 125 ∧
    neighbour 117 8 = 21 := by decide

/-- Tiller E.6.2 lies in package row 14 and context 37 of P9 has tag 0x0265 (the examples of 0.8 and 4.2). -/
theorem test_rows_and_tags : tillerRow (64 + 8 * 6 + 2) = 14 ∧ tagOf 9 37 = 0x0265 := by decide

/-- DVA 0xA123_4560 is VPN 5 (the example of 4.2). -/
theorem test_dva : dvaVpn 0xA1234560 = 5 ∧ 0xA1234560 % 2 ^ 29 = 0x01234560 := by decide

/-- Lengths 3,000 and 8,192 fall in bucket 0, 9,000 and 16,000 in bucket 1, 70,000 in bucket 4 (the example of 6.6). -/
theorem test_buckets : [3000, 9000, 8192, 70000, 16000].map bucketOf = [0, 1, 0, 4, 1] := by decide

/-- H = 8, d = 128, E4M3 over 96 pages: 49,152 blocks and one private page; 0x8_3E80_0000 is block 1,000 (the example of
7.7). -/
theorem test_pool : kvBlocks 96 8 128 0 = 49152 ∧ kvPrivatePages 49152 = 1 ∧
    KvPool.dva 1000 { kp [] with heads := 8, dim := 128, vpn := 64 } = 0x83E800000 := by decide +kernel

/-- T0 of eight members: position 8 is the root with child 4, 4 has 2 and 6, 2 has 1 and 3, 6 has 5 and 7 (the example
of 10.2). -/
theorem test_tree : treeParent 8 8 = none ∧ treeChildren 8 8 = [4] ∧ treeChildren 8 4 = [2, 6] ∧
    treeChildren 8 2 = [1, 3] ∧ treeChildren 8 6 = [5, 7] := by decide +kernel

/-- At 32 µs a port direction has 320 slots, and share entries 0 to 15 are slots 0 to 159 (the example of 9.6). -/
theorem test_slots : slotsOf 2 = 320 ∧ shareEntry 320 159 = 15 ∧ shareEntry 320 160 = 16 := by decide

/-- A frame number precedes the 2^47 − 1 numbers after it, across the wrap (R37). -/
theorem test_frame_order : later 0 (BitVec.allOnes 48) = true ∧ later (BitVec.allOnes 48) 0 = false := by decide

/-- The base charge starts at 80,000 and 72,000 units (14.2). -/
theorem test_base : Grade.base .vla114 = 80000 ∧ Grade.base .vla112 = 72000 := by decide

/-- A doorbell beyond the ring sets ERROR with BAD_DOORBELL, and one within it does not (R79). -/
theorem test_doorbell :
    (match exec (.doorbell 0 16) up with | .next t => (t.mb 0).error && (t.mb 0).errCode == .badDoorbell | _ => false)
        =
      true ∧
    (match exec (.doorbell 0 15) up with | .next t => !(t.mb 0).error && (t.mb 0).cmdTail == 15 | _ => false) = true
        := by
  decide +kernel

/-- A handle is popped from the head of its queue, in FIFO order (R150). -/
theorem test_pop_order :
    (match exec (.handlePop 0) { withOp { o0 with desc := 2 ^ 105, waits := [.in0] } with
        seq.queues := [(0, [{ tag := 1 }, { tag := 2 }])] } with
      | .next t => (t.seq.ops.map (fun o => o.h0)) == [some { tag := 1 }] && t.queue 0 == [{ tag := 2 }]
      | _ => false) = true := by
  decide +kernel

/-- The queue is served first in, first out, and an empty queue idles. -/
theorem test_queue :
    (match step { State.reset with pending := [.pgoodRise, .pgoodTimeout] } with
      | .next t => t.pending == [.pgoodTimeout]
      | _ => false) = true ∧ step State.reset = .next State.reset :=
  ⟨by decide +kernel, rfl⟩

/-! ### Witnesses: the hypotheses of every clause can be met together -/


theorem witness_StateQueriesAnswer :
    (∃ (m : Fin 18) (e : Entry) (s : State), Accepted specDevInfo m.val e s) ∧
    (∃ (m : Fin 18) (e : Entry) (s : State), Accepted specFrameQuery m.val e s) ∧
    (∃ (m : Fin 18) (e : Entry) (s : State), Accepted specAdmQuery m.val e s) ∧
    (∃ (m : Fin 18) (e : Entry) (s : State), Accepted specJobQuery m.val e s) ∧
    (∃ (m : Fin 18) (e : Entry) (s : State), Accepted specPartQuery m.val e s) ∧
    (∃ (m : Fin 18) (e : Entry) (s : State), Accepted specCtxQuery m.val e s) ∧
    (∃ (m : Fin 18) (e : Entry) (s : State), Accepted specMemQuery m.val e s) ∧
    (∃ (m : Fin 18) (e : Entry) (s : State), Accepted specBoundGet m.val e s) :=
  ⟨⟨0, e0, up, by unfold Accepted; decide +kernel⟩,
    ⟨0, e0, up, by unfold Accepted; decide +kernel⟩,
    ⟨0, e0, up, by unfold Accepted; decide +kernel⟩,
    ⟨1, e0, up, by unfold Accepted; decide +kernel⟩,
    ⟨0, e0, up, by unfold Accepted; decide +kernel⟩,
    ⟨1, e0, up, by unfold Accepted; decide +kernel⟩,
    ⟨1, e0, up, by unfold Accepted; decide +kernel⟩,
    ⟨1, ar [0x100], up, by unfold Accepted; decide +kernel⟩⟩

theorem witness_UnitQueriesAnswer :
    (∃ (m : Fin 18) (e : Entry) (s : State) (k : KvPool), Accepted specKvQuery m.val e s ∧ s.kv.get none
            (specKvQuery.on m.val e) = some k ∧ bit (e.arg 0) 0 = false) ∧
    (∃ (m : Fin 18) (e : Entry) (s : State), Accepted specKvQuery m.val e s ∧ s.kv.get none (specKvQuery.on m.val e)
            = none) ∧
    (∃ (m : Fin 18) (e : Entry) (s : State) (k : KvPool), Accepted specKvQuery m.val e s ∧ s.kv.get none
            (specKvQuery.on m.val e) = some k ∧ bit (e.arg 0) 0 = true) ∧
    (∃ (m : Fin 18) (e : Entry) (s : State), Accepted specSfuQuery m.val e s ∧ fld (e.arg 0) 0 2 ≠ 2) ∧
    (∃ (m : Fin 18) (e : Entry) (s : State) (img : List Byte), Accepted specSfuQuery m.val e s ∧ fld (e.arg 0) 0 2 =
            2 ∧ img = builtinImage (s.builtinSet (specSfuQuery.on m.val e)) (fld (e.arg 0) 8 3)) ∧
    (∃ (m : Fin 18) (e : Entry) (s : State) (x : Span), Accepted specSpanQuery m.val e s ∧ s.span? (BitVec.ofNat 16
            (fld (e.arg 0) 0 16)) = some x ∧ x.part = specSpanQuery.on m.val e ∧ (e.arg 1).toNat = 0) ∧
    (∃ (m : Fin 18) (e : Entry) (s : State) (x : Span), Accepted specSpanQuery m.val e s ∧ s.span? (BitVec.ofNat 16
            (fld (e.arg 0) 0 16)) = some x ∧ x.part = specSpanQuery.on m.val e ∧ (e.arg 1).toNat ≠ 0) ∧
    (∃ (m : Fin 18) (e : Entry) (s : State), Accepted specGroupQuery m.val e s) ∧
    (∃ (m : Fin 18) (e : Entry) (s : State), Accepted specPwrQuery m.val e s) ∧
    (∃ (m : Fin 18) (e : Entry) (s : State), Accepted specLinkQuery m.val e s) ∧
    (∃ (m : Fin 18) (e : Entry) (s : State), Accepted specSheafQuery m.val e s) ∧
    (∃ (m : Fin 18) (e : Entry) (s : State), Accepted specFwQuery m.val e s) ∧
    (∃ (m : Fin 18) (e : Entry) (s : State), Accepted specCtxPostmortem m.val (e.withMode 8 1 0) s ∧ ((s.ctx
            (specCtxPostmortem.on m.val (e.withMode 8 1 0)) (fld ((e.withMode 8 1 0).arg 0) 0 6)).state = .killing ∨
            (s.ctx (specCtxPostmortem.on m.val (e.withMode 8 1 0)) (fld ((e.withMode 8 1 0).arg 0) 0 6)).state =
            .dead)) :=
  ⟨⟨1, e0, withKv [], _, by unfold Accepted; decide +kernel, rfl, by decide +kernel⟩,
    ⟨1, e0, up, by unfold Accepted; decide +kernel, by decide +kernel⟩,
    ⟨1, ar [1], withKv [], _, by unfold Accepted; decide +kernel, rfl, by decide +kernel⟩,
    ⟨1, e0, up, by unfold Accepted; decide +kernel, by decide +kernel⟩,
    by refine ⟨1, ar [2], up, _, by unfold Accepted; decide +kernel, ?_, rfl⟩ <;> decide +kernel,
    ⟨1, e0, withSpan x0, _, by unfold Accepted; decide +kernel, rfl, by decide +kernel⟩,
    ⟨1, ar [0, 4096], withSpan x0, _, by unfold Accepted; decide +kernel, rfl, by decide +kernel⟩,
    ⟨1, e0, up, by unfold Accepted; decide +kernel⟩,
    ⟨0, e0, up, by unfold Accepted; decide +kernel⟩,
    ⟨0, e0, up, by unfold Accepted; decide +kernel⟩,
    ⟨0, e0, up, by unfold Accepted; decide +kernel⟩,
    ⟨0, e0, up, by unfold Accepted; decide +kernel⟩,
    ⟨1, e0, withCtxs [(0, { state := .dead })], by unfold Accepted; decide +kernel, by decide +kernel⟩⟩

theorem witness_FrameAndRateCommandsComplete :
    (∃ (m : Fin 18) (e : Entry) (s : State), Accepted specFrameSetPeriod m.val e s ∧ (s.frm.role = .master ∨
            s.frm.role = .standalone) ∧ s.frm.proposal = none ∧ s.frm.change = none) ∧
    (∃ (m : Fin 18) (e : Entry) (s : State), Accepted specFrameSetOverrunLimit m.val e s ∧ (s.part
            (specFrameSetOverrunLimit.on m.val e)).state ≠ .absent ∧ (s.part (specFrameSetOverrunLimit.on m.val
            e)).state ≠ .tearingDown) ∧
    (∃ (m : Fin 18) (e : Entry) (s : State), Accepted specFrameSetPreference m.val e s) ∧
    (∃ (m : Fin 18) (e : Entry) (s : State), Accepted specAdmSet m.val e s ∧ bit (e.arg 0) 8 = true) ∧
    (∃ (m : Fin 18) (e : Entry) (s : State), Accepted specAdmSet m.val e s ∧ bit (e.arg 0) 8 = false) :=
  ⟨⟨0, e0, up, by unfold Accepted; decide +kernel, by decide +kernel⟩,
    ⟨0, e0, up, by unfold Accepted; decide +kernel, by decide +kernel⟩,
    ⟨0, e0, up, by unfold Accepted; decide +kernel⟩,
    ⟨0, ar [0x100, 256], up, by unfold Accepted; decide +kernel, by decide +kernel⟩,
    ⟨0, ar [0x100000000], up, by unfold Accepted; decide +kernel, by decide +kernel⟩⟩

theorem witness_JobCommandsComplete :
    (∃ (m : Fin 18) (e : Entry) (s : State), Accepted specJobSubmit m.val e s ∧ fld (e.arg 0) 0 52 % 128 = 0 ∧ (∀ rs
            n w, State.checkList (specJobSubmit.on m.val e) e.ctx.toNat (fld (e.arg 0) 0 52) (fld (e.arg 1) 0 17)
            (fld (e.arg 2) 0 24) (s.entered m.val specJobSubmit.opcode e) (8192 - ((s.entered m.val
            specJobSubmit.opcode e).mb m.val).checked) 0 ≠ .failed rs n w)) ∧
    (∃ (m : Fin 18) (e : Entry) (s : State) (tk : Ticket) (j : Job), Accepted specJobAbort m.val e s ∧ (s.entered
            m.val specJobAbort.opcode e).ticketOf m.val (BitVec.ofNat 32 (fld (e.arg 0) 0 32)) = some tk ∧
            tk.cmd.opcode = specJobSubmit.opcode ∧ tk.ended = false ∧ s.adm.jobs.find? (fun j => j.cmd.uid ==
            tk.cmd.uid) = some j ∧ j.stage ≠ .admitted) ∧
    (∃ (m : Fin 18) (e : Entry) (s : State) (tk : Ticket) (j : Job), Accepted specJobAbort m.val e s ∧ (s.entered
            m.val specJobAbort.opcode e).ticketOf m.val (BitVec.ofNat 32 (fld (e.arg 0) 0 32)) = some tk ∧
            tk.cmd.opcode = specJobSubmit.opcode ∧ tk.ended = false ∧ s.adm.jobs.find? (fun j => j.cmd.uid ==
            tk.cmd.uid) = some j ∧ j.stage = .admitted ∧ j.ending = none ∧ (s.ctx j.part j.cmd.ctx.toNat).state =
            .live) ∧
    (∃ (m : Fin 18) (e : Entry) (s : State) (tk : Ticket) (j : Job) (rs : Reason), Accepted specJobAbort m.val e s ∧
            (s.entered m.val specJobAbort.opcode e).ticketOf m.val (BitVec.ofNat 32 (fld (e.arg 0) 0 32)) = some tk
            ∧ tk.cmd.opcode = specJobSubmit.opcode ∧ tk.ended = false ∧ s.adm.jobs.find? (fun j => j.cmd.uid ==
            tk.cmd.uid) = some j ∧ j.stage = .admitted ∧ j.ending = some rs) ∧
    (∃ (m : Fin 18) (e : Entry) (s : State) (tk : Ticket), Accepted specJobAbort m.val e s ∧ (s.entered m.val
            specJobAbort.opcode e).ticketOf m.val (BitVec.ofNat 32 (fld (e.arg 0) 0 32)) = some tk ∧ tk.ended =
            false ∧ s.adm.jobs.find? (fun j => j.cmd.uid == tk.cmd.uid) = none ∧ s.adm.held.any (fun h => h.1.uid ==
            tk.cmd.uid) = true) :=
  ⟨by refine ⟨1, { ar [0, 1] with cost := 1 },
            { up with mbx := [(1, { enable := true, cmdLog2 := 4, cplLog2 := 4, checked := 8192 })] },
            by unfold Accepted; decide +kernel, ?_, fun rs n w h => by cases (show Checked.stopped 0 = .failed rs n
            w from h)⟩ <;> decide +kernel,
    by refine ⟨1, ar [7], withTicket [j0] [], _, _, by unfold Accepted; decide +kernel, rfl, ?_, ?_, rfl, ?_⟩
            <;> decide +kernel,
    by refine ⟨1, ar [7], withTicket [{ j0 with stage := .admitted }] [], _, _, by unfold Accepted; decide +kernel,
            rfl, ?_, ?_, rfl, ?_⟩ <;> decide +kernel,
    by refine ⟨1, ar [7], withTicket [{ j0 with stage := .admitted, ending := some .hostAbort }] [], _, _, _,
            by unfold Accepted; decide +kernel, rfl, ?_, ?_, rfl, ?_, rfl⟩ <;> decide +kernel,
    ⟨1, ar [7], withTicket [] [(c0, 0, true)], _, by unfold Accepted; decide +kernel, rfl, by decide +kernel⟩⟩

theorem witness_PartitionCommandsComplete :
    (∃ (m : Fin 18) (e : Entry) (s : State), Accepted specPartCreate m.val e s ∧ (s.part (specPartCreate.on m.val
            e)).state = .absent ∧ (s.part (specPartCreate.on m.val e)).next = none ∧ BitVec.ofNat 16 (fld (e.arg 0)
            16 16) ≠ 0 ∧ 1 ≤ fld (e.arg 3) 0 11 ∧ fld (e.arg 3) 0 11 ≤ 1024 ∧ (∀ r < 16, bit (BitVec.ofNat 16 (fld
            (e.arg 0) 16 16)) r = true → bit s.ten.badRows r = false ∧ s.rowOwner r = none) ∧ s.sumParts (fun y =>
            y.quota.toNat) + fld (e.arg 1) 0 9 + (s.pagesIn .quarantined).length ≤ 384 ∧ (∀ g < 32, bit
            (BitVec.ofNat 32 (fld (e.arg 2) 0 32)) g = true → s.shareFree g = true) ∧ s.sumParts (fun y =>
            y.energy.toNat) + fld (e.arg 3) 0 11 ≤ 1024) ∧
    (∃ (m : Fin 18) (e : Entry) (s : State), Accepted specPartStart m.val e s ∧ s.periodHold = false ∧ (s.part
            (specPartStart.on m.val e)).state = .created ∧ (s.part (specPartStart.on m.val e)).resetting = false) ∧
    (∃ (m : Fin 18) (e : Entry) (s : State), Accepted specPartFence m.val e s ∧ (s.part (specPartFence.on m.val
            e)).state = .running ∧ (s.part (specPartFence.on m.val e)).resetting = false ∧ (s.part (specPartFence.on
            m.val e)).fencing = false) ∧
    (∃ (m : Fin 18) (e : Entry) (s : State), Accepted specPartResume m.val e s ∧ s.periodHold = false ∧ (s.part
            (specPartResume.on m.val e)).state = .fenced ∧ (s.part (specPartResume.on m.val e)).resetting = false) ∧
    (∃ (m : Fin 18) (e : Entry) (s : State), Accepted specPartReset m.val e s ∧ (s.part (specPartReset.on m.val
            e)).state ≠ .absent ∧ (s.part (specPartReset.on m.val e)).state ≠ .tearingDown ∧ (s.part
            (specPartReset.on m.val e)).resetting = false) ∧
    (∃ (m : Fin 18) (e : Entry) (s : State), Accepted specPartTeardown m.val e s ∧ (s.part (specPartTeardown.on
            m.val e)).state ≠ .absent ∧ (s.part (specPartTeardown.on m.val e)).state ≠ .tearingDown ∧ (s.part
            (specPartTeardown.on m.val e)).resetting = false) :=
  ⟨⟨0, ar [0x10001, 1, 1, 1], withPart {}, by unfold Accepted; decide +kernel, by decide +kernel⟩,
    ⟨0, e0, withPart { state := .created }, by unfold Accepted; decide +kernel, by decide +kernel⟩,
    ⟨0, e0, up, by unfold Accepted; decide +kernel, by decide +kernel⟩,
    ⟨0, e0, withPart { state := .fenced }, by unfold Accepted; decide +kernel, by decide +kernel⟩,
    ⟨0, e0, up, by unfold Accepted; decide +kernel, by decide +kernel⟩,
    ⟨0, e0, up, by unfold Accepted; decide +kernel, by decide +kernel⟩⟩

theorem witness_SpanCommandsComplete :
    (∃ (m : Fin 18) (e : Entry) (s : State) (bs : List Byte), Accepted specSpanCreate m.val e s ∧ fld (e.arg 0) 0 8
            ≠ 1 ∧ s.readArg (specSpanCreate.on m.val e) e.ctx.toNat (e.arg 1).toNat (fld (e.arg 0) 0 8) = some bs ∧
            (bs.map (·.toNat)).any (fun b => decide (128 ≤ b)) = false ∧ (bs.map (·.toNat)).eraseDups.length = fld
            (e.arg 0) 0 8 ∧ (bs.map (·.toNat)).contains s.self = true ∧ s.span? (BitVec.ofNat 16 (512 * s.self + fld
            (e.arg 0) 16 9)) = none ∧ s.indexResting (BitVec.ofNat 16 (512 * s.self + fld (e.arg 0) 16 9)) = false ∧
            s.isMember (specSpanCreate.on m.val e) e.ctx.toNat = false ∧ (s.ten.spans.filter (fun x => x.creator ==
            s.self)).length < 32 ∧ s.ten.spans.length < 64) ∧
    (∃ (m : Fin 18) (e : Entry) (s : State) (b : Byte), Accepted specSpanCreate m.val e s ∧ fld (e.arg 0) 0 8 = 1 ∧
            s.readArg (specSpanCreate.on m.val e) e.ctx.toNat (e.arg 1).toNat 1 = some [b] ∧ b.toNat = s.self ∧
            s.self < 128 ∧ s.span? (BitVec.ofNat 16 (512 * s.self + fld (e.arg 0) 16 9)) = none ∧ s.indexResting
            (BitVec.ofNat 16 (512 * s.self + fld (e.arg 0) 16 9)) = false ∧ s.isMember (specSpanCreate.on m.val e)
            e.ctx.toNat = false ∧ (s.ten.spans.filter (fun x => x.creator == s.self)).length < 32 ∧
            s.ten.spans.length < 64) ∧
    (∃ (m : Fin 18) (e : Entry) (s : State), Accepted specSpanJoin m.val e s ∧ s.span? (BitVec.ofNat 16 (fld (e.arg
            0) 0 16)) = none ∧ (BitVec.ofNat 16 (fld (e.arg 0) 0 16)).toNat / 512 ≠ s.self ∧ s.isMember
            (specSpanJoin.on m.val e) e.ctx.toNat = false ∧ s.ten.spans.length < 64) ∧
    (∃ (m : Fin 18) (e : Entry) (s : State) (x : Span), Accepted specSpanLeave m.val e s ∧ s.span? (BitVec.ofNat 16
            (fld (e.arg 0) 0 16)) = some x ∧ x.part = (specSpanLeave.on m.val e) ∧ x.state ≠ .forming ∧ x.leaving =
            false ∧ x.lead ≠ s.self) ∧
    (∃ (m : Fin 18) (e : Entry) (s : State) (x : Span), Accepted specSpanLeave m.val e s ∧ s.span? (BitVec.ofNat 16
            (fld (e.arg 0) 0 16)) = some x ∧ x.part = (specSpanLeave.on m.val e) ∧ x.state ≠ .forming ∧ x.leaving =
            false ∧ x.lead = s.self) ∧
    (∃ (m : Fin 18) (e : Entry) (s : State) (x : Span), Accepted specSpanDestroy m.val e s ∧ s.span? (BitVec.ofNat
            16 (fld (e.arg 0) 0 16)) = some x ∧ x.part = (specSpanDestroy.on m.val e) ∧ x.lead = s.self ∧
            s.pln.leads.any (fun l => l.span == (BitVec.ofNat 16 (fld (e.arg 0) 0 16)) && !l.flows.isEmpty) = false) ∧
    (∃ (m : Fin 18) (e : Entry) (s : State) (x : Span), Accepted specSpanDestroy m.val e s ∧ s.span? (BitVec.ofNat
            16 (fld (e.arg 0) 0 16)) = some x ∧ x.part = (specSpanDestroy.on m.val e) ∧ x.lead = s.self ∧
            s.pln.leads.any (fun l => l.span == (BitVec.ofNat 16 (fld (e.arg 0) 0 16)) && !l.flows.isEmpty) = true) :=
  ⟨⟨1, ar [2], { up with dram := [(1, 1)] }, [0, 1], by unfold Accepted; decide +kernel, by decide +kernel⟩,
    ⟨1, ar [1], up, 0, by unfold Accepted; decide +kernel, by decide +kernel⟩,
    ⟨1, ar [512], up, by unfold Accepted; decide +kernel, by decide +kernel⟩,
    ⟨1, e0, withSpan { x0 with lead := 1 }, _, by unfold Accepted; decide +kernel, rfl, by decide +kernel⟩,
    ⟨1, e0, withSpan x0, _, by unfold Accepted; decide +kernel, rfl, by decide +kernel⟩,
    ⟨1, e0, withSpan x0, _, by unfold Accepted; decide +kernel, rfl, by decide +kernel⟩,
    ⟨1, e0, { withSpan x0 with pln.leads := [fullLead] }, _, by unfold Accepted; decide +kernel, rfl,
            by decide +kernel⟩⟩

theorem witness_ContextCommandsComplete :
    (∃ (m : Fin 18) (e : Entry) (s : State), Accepted specCtxCreate m.val e s ∧ bit (e.arg 0) 8 = false ∧ (s.ctx
            (specCtxCreate.on m.val e) (fld (e.arg 0) 0 6)).state = .free) ∧
    (∃ (m : Fin 18) (e : Entry) (s : State) (c : Nat), Accepted specCtxCreate m.val e s ∧ bit (e.arg 0) 8 = true ∧
            (List.range 64).find? (fun c => (s.ctx (specCtxCreate.on m.val e) c).state = .free) = some c) ∧
    (∃ (m : Fin 18) (e : Entry) (s : State), Accepted specCtxDestroy m.val e s ∧ (s.ctx (specCtxDestroy.on m.val e)
            (fld (e.arg 0) 0 6)).destroying = false ∧ ((s.ctx (specCtxDestroy.on m.val e) (fld (e.arg 0) 0 6)).state
            = .dead ∨ ((s.ctx (specCtxDestroy.on m.val e) (fld (e.arg 0) 0 6)).state = .live ∧ ((s.entered m.val
            specCtxDestroy.opcode e).ctxTickets (specCtxDestroy.on m.val e) (fld (e.arg 0) 0 6)) = 0 ∧ s.isMember
            (specCtxDestroy.on m.val e) (fld (e.arg 0) 0 6) = false))) ∧
    (∃ (m : Fin 18) (e : Entry) (s : State), Accepted specCtxKill m.val e s ∧ (s.ctx (specCtxKill.on m.val e) (fld
            (e.arg 0) 0 6)).state = .live) ∧
    (∃ (m : Fin 18) (e : Entry) (s : State) (p : Nat) (k : Nat) (a : Nat), Accepted specCtxPostmortem m.val
            (e.withMode 8 1 1) s ∧ p = (specCtxPostmortem.on m.val (e.withMode 8 1 1)) ∧ k = fld ((e.withMode 8 1
            1).arg 0) 0 6 ∧ a = fld ((e.withMode 8 1 1).arg 0) 16 6 ∧ (s.ctx p k).state = .dead ∧ (s.ctx p
            k).destroying = false ∧ (s.ctx p a).state = .live) :=
  ⟨⟨1, ar [1], up, by unfold Accepted; decide +kernel, by decide +kernel⟩,
    ⟨1, ar [0x100], up, 1, by unfold Accepted; decide +kernel, by decide +kernel⟩,
    ⟨1, e0, up, by unfold Accepted; decide +kernel, by decide +kernel⟩,
    ⟨0, e0, up, by unfold Accepted; decide +kernel, by decide +kernel⟩,
    ⟨1, ar [1], withCtxs [(0, { state := .live }), (1, { state := .dead })], _, _, _,
            by unfold Accepted; decide +kernel, rfl, rfl, rfl, by decide +kernel⟩⟩

theorem witness_MemoryCommandsComplete :
    (∃ (m : Fin 18) (e : Entry) (s : State) (v : Nat), Accepted specMemAlloc m.val e s ∧ (if bit (e.arg 0) 41 then
            s.freeRun (specMemAlloc.on m.val e) (fld (e.arg 0) 0 10) else if (List.range (fld (e.arg 0) 0 10)).all
            (fun i => !(s.dpte (specMemAlloc.on m.val e) (fld (e.arg 0) 32 9 + i)).valid) then some (fld (e.arg 0)
            32 9) else none) = some v ∧ ((s.pagesIn .free).filter (stackOk (fld (e.arg 0) 16 8))).length ≥ fld
            (e.arg 0) 0 10 ∧ s.pagesHeld (specMemAlloc.on m.val e) + fld (e.arg 0) 0 10 ≤ (s.part (specMemAlloc.on
            m.val e)).quota.toNat) ∧
    (∃ (m : Fin 18) (e : Entry) (s : State), Accepted specMemFree m.val e s ∧ (fld (e.arg 0) 0 9) + (fld (e.arg 0) 9
            10) ≤ 512 ∧ ((List.range (fld (e.arg 0) 9 10)).map ((fld (e.arg 0) 0 9) + ·)).all (fun v => (s.dpte
            (specMemFree.on m.val e) v).owns e.ctx.toNat) = true ∧ (s.kv.get none (specMemFree.on m.val e)).any (fun
            k => decide (k.vpn < (fld (e.arg 0) 0 9) + (fld (e.arg 0) 9 10)) && decide ((fld (e.arg 0) 0 9) < k.vpn
            + k.pages)) = false) ∧
    (∃ (m : Fin 18) (e : Entry) (s : State), Accepted specMemMapHost m.val e s ∧ (s.hwin (specMemMapHost.on m.val e)
            (fld (e.arg 0) 0 8)).valid = false) ∧
    (∃ (m : Fin 18) (e : Entry) (s : State), Accepted specMemUnmapHost m.val e s ∧ (s.hwin (specMemUnmapHost.on
            m.val e) (fld (e.arg 0) 0 8)).owns e.ctx.toNat = true) ∧
    (∃ (m : Fin 18) (e : Entry) (s : State), Accepted specBoundSet m.val e s) :=
  ⟨⟨1, ar [0x20000000001], up, 1, by unfold Accepted; decide +kernel, by decide +kernel⟩,
    ⟨1, ar [0x200], up, by unfold Accepted; decide +kernel, by decide +kernel⟩,
    ⟨1, e0, up, by unfold Accepted; decide +kernel, by decide +kernel⟩,
    ⟨1, e0, { up with xlt.win := [(0, { valid := true, any := true })] }, by unfold Accepted; decide +kernel,
            by decide +kernel⟩,
    ⟨1, ar [0x100], up, by unfold Accepted; decide +kernel⟩⟩

theorem witness_KvAllocCompletes :
    (∃ (m : Fin 18) (e : Entry) (s : State) (a : Entry) (h : Nat) (d : Nat) (f : Nat) (n : Nat) (r : Nat), Accepted
            specKvAlloc m.val (e.withMode 0 2 0) s ∧ a = (e.withMode 0 2 0) ∧ s.kv.get none (specKvAlloc.on m.val
            (e.withMode 0 2 0)) = none ∧ h = fld (a.arg 2) 0 7 ∧ d = fld (a.arg 2) 7 9 ∧ f = fld (a.arg 2) 16 2 ∧ n
            = kvBlocks (fld (a.arg 1) 9 10) h d f ∧ r = kvPrivatePages n ∧ fld (a.arg 1) 0 9 + fld (a.arg 1) 9 10 ≤
            512 ∧ (List.range (fld (a.arg 1) 9 10)).all (fun i =>
            let t := s.dpte (specKvAlloc.on m.val (e.withMode 0 2 0)) (fld (a.arg 1) 0 9 + i); t.valid && t.write &&
            t.any) = true ∧ r ≤ (s.pagesIn .free).length ∧ s.pagesHeld (specKvAlloc.on m.val (e.withMode 0 2 0)) + r
            ≤ (s.part (specKvAlloc.on m.val (e.withMode 0 2 0))).quota.toNat) ∧
    (∃ (m : Fin 18) (e : Entry) (s : State) (a : Entry) (k : KvPool) (k2 : KvPool) (n : Nat) (u : State), Accepted
            specKvAlloc m.val (e.withMode 0 2 1) s ∧ a = (e.withMode 0 2 1) ∧ n = fld (a.arg 1) 0 13 ∧ s.kv.get none
            (specKvAlloc.on m.val (e.withMode 0 2 1)) = some k ∧ s.argWritable (specKvAlloc.on m.val (e.withMode 0 2
            1)) e.ctx.toNat (fld (a.arg 2) 0 52) (8 * n) = true ∧ k.reclaim n (!bit (a.arg 0) 4) = some k2 ∧ u =
            s.writeArg (specKvAlloc.on m.val (e.withMode 0 2 1)) e.ctx.toNat (fld (a.arg 2) 0 52) ((k2.take n
            s.free).2.flatMap (fun b => bytesLE 8 ((k2.take n s.free).1.ref b).toNat))) ∧
    (∃ (m : Fin 18) (e : Entry) (s : State) (a : Entry) (k : KvPool) (k2 : KvPool) (b : Nat), Accepted specKvAlloc
            m.val (e.withMode 0 2 2) s ∧ a = (e.withMode 0 2 2) ∧ s.kv.get none (specKvAlloc.on m.val (e.withMode 0
            2 2)) = some k ∧ k.named (a.arg 1) = some b ∧ (k.block b).state ≠ .free ∧ (k.line b).any (fun x =>
            (k.block x).count.toNat = 65535) = false ∧ k2 = (k.line b).foldl (fun k x => k.upd x (fun y =>
            { y with
                count := y.count + 1, lastUse := s.frm.count,
                state := if y.state = .cached then .published else y.state })) k) ∧
    (∃ (m : Fin 18) (e : Entry) (s : State) (a : Entry) (k : KvPool) (b : Nat), Accepted specKvAlloc m.val
            (e.withMode 0 2 3) s ∧ a = (e.withMode 0 2 3) ∧ s.kv.get none (specKvAlloc.on m.val (e.withMode 0 2 3))
            = some k ∧ k.named (a.arg 1) = some b ∧ (k.block b).state = .priv ∧ (k.block b).count = 1) ∧
    (∃ (m : Fin 18) (e : Entry) (s : State) (a : Entry) (k : KvPool) (k2 : KvPool) (b : Nat) (n : Nat), Accepted
            specKvAlloc m.val (e.withMode 0 2 3) s ∧ a = (e.withMode 0 2 3) ∧ s.kv.get none (specKvAlloc.on m.val
            (e.withMode 0 2 3)) = some k ∧ k.named (a.arg 1) = some b ∧ (k.block b).state ≠ .free ∧ (k.block
            b).state ≠ .cached ∧ ((k.block b).state ≠ .priv ∨ (k.block b).count ≠ 1) ∧ k.reclaim 1 (!bit (a.arg 0)
            4) = some k2 ∧ n = (k2.take 1 s.free).2.headD 0) :=
  ⟨by refine ⟨1, ar [0, 0x200, 0x2001], up, _, _, _, _, _, _, by unfold Accepted; decide +kernel, rfl, ?_, rfl,
            rfl, rfl, rfl, rfl, ?_⟩ <;> decide +kernel,
    by refine ⟨1, ar [0, 1], withKv [], _, _, _, _, _, by unfold Accepted; decide +kernel, rfl, rfl, rfl, ?_, rfl,
            rfl⟩ <;> decide +kernel,
    by refine ⟨1, e0, withKv [(0, { state := .published, count := 1, depth := 1 })], _, _, _, _,
            by unfold Accepted; decide +kernel, rfl, rfl, rfl, ?_, ?_, rfl⟩ <;> decide +kernel,
    ⟨1, e0, withKv [(0, { state := .priv, count := 1 })], _, _, _, by unfold Accepted; decide +kernel, rfl, rfl,
            rfl, by decide +kernel⟩,
    by refine ⟨1, e0, withKv [(0, { state := .published, count := 1, depth := 1 })], _, _, _, _, _,
            by unfold Accepted; decide +kernel, rfl, rfl, rfl, ?_, ?_, ?_, rfl, rfl⟩ <;> decide +kernel⟩

theorem witness_KvBlockCommandsComplete :
    (∃ (m : Fin 18) (e : Entry) (s : State) (a : Entry) (k : KvPool) (b : Nat) (l : List Nat), Accepted
            specKvRelease m.val (e.withMode 1 1 0) s ∧ a = (e.withMode 1 1 0) ∧ s.kv.get none (specKvRelease.on
            m.val (e.withMode 1 1 0)) = some k ∧ k.named (a.arg 1) = some b ∧ l = (if bit (a.arg 0) 0 then k.line b
            else [b]) ∧ l.any (fun x => (k.block x).count = 0) = false) ∧
    (∃ (m : Fin 18) (e : Entry) (s : State) (k : KvPool), Accepted specKvRelease m.val (e.withMode 1 1 1) s ∧
            s.kv.get none (specKvRelease.on m.val (e.withMode 1 1 1)) = some k ∧ k.blocks.all (fun b => b.2.state =
            .free || b.2.state = .cached) = true ∧ k.priv = []) ∧
    (∃ (m : Fin 18) (e : Entry) (s : State) (k : KvPool) (k2 : KvPool) (b : Nat) (bs : List Byte), Accepted
            specKvInsert m.val e s ∧ s.kv.get none (specKvInsert.on m.val e) = some k ∧ k.named (e.arg 1) = some b ∧
            bit (e.arg 0) 12 = true ∧ (k.block b).state = .priv ∧ s.readArg (specKvInsert.on m.val e) e.ctx.toNat
            (fld (e.arg 3) 0 52) 2048 = some bs ∧ k.matching none (fld (e.arg 0) 0 12) (tokensOf 512 bs) = none ∧ k2
            = k.upd b (fun y => { y with
                                    state := .published, layer := BitVec.ofNat 12 (fld (e.arg 0) 0 12),
                                    parent := none, depth := BitVec.ofNat 16 1,
                                    digest := kvDigest k.key 0 (fld (e.arg 0) 0 12) true (tokensOf 512 bs),
                                    tokens := tokensOf 512 bs, lastUse := s.frm.count })) ∧
    (∃ (m : Fin 18) (e : Entry) (s : State) (k : KvPool) (k2 : KvPool) (b : Nat) (q : Nat) (d : Nat) (bs : List
            Byte), Accepted specKvInsert m.val e s ∧ s.kv.get none (specKvInsert.on m.val e) = some k ∧ k.named
            (e.arg 1) = some b ∧ bit (e.arg 0) 12 = false ∧ k.named (e.arg 2) = some q ∧ (k.block q).inTree = true ∧
            (k.block q).layer.toNat = fld (e.arg 0) 0 12 ∧ d = (k.block q).depth.toNat + 1 ∧ d ≤ 32768 ∧ (k.block
            b).state = .priv ∧ s.readArg (specKvInsert.on m.val e) e.ctx.toNat (fld (e.arg 3) 0 52) 2048 = some bs ∧
            k.matching (some q) (fld (e.arg 0) 0 12) (tokensOf 512 bs) = none ∧ k2 = k.upd b (fun y =>
            { y with
                state := .published, layer := BitVec.ofNat 12 (fld (e.arg 0) 0 12), parent := some q,
                depth := BitVec.ofNat 16 d,
                digest := kvDigest k.key (k.block q).digest (fld (e.arg 0) 0 12) false (tokensOf 512 bs),
                tokens := tokensOf 512 bs, lastUse := s.frm.count })) ∧
    (∃ (m : Fin 18) (e : Entry) (s : State) (k : KvPool) (b : Nat) (x : Nat) (bs : List Byte), Accepted specKvInsert
            m.val e s ∧ s.kv.get none (specKvInsert.on m.val e) = some k ∧ k.named (e.arg 1) = some b ∧ bit (e.arg
            0) 12 = true ∧ (k.block b).state = .priv ∧ s.readArg (specKvInsert.on m.val e) e.ctx.toNat (fld (e.arg
            3) 0 52) 2048 = some bs ∧ k.matching none (fld (e.arg 0) 0 12) (tokensOf 512 bs) = some x) ∧
    (∃ (m : Fin 18) (e : Entry) (s : State) (k : KvPool) (n : Nat) (bs : List Byte) (r : Nat × Option Nat), Accepted
            specKvLookup m.val e s ∧ s.kv.get none (specKvLookup.on m.val e) = some k ∧ n = fld (e.arg 2) 0 25 / 512
            ∧ s.readArg (specKvLookup.on m.val e) e.ctx.toNat (fld (e.arg 1) 0 52) (2048 * n) = some bs ∧ r = k.walk
            (fld (e.arg 0) 0 12) (chunks 512 n (tokensOf (512 * n) bs)) 0 none) ∧
    (∃ (m : Fin 18) (e : Entry) (s : State) (a : Entry) (k : KvPool) (b : Nat) (r : KvPool × Nat), Accepted
            specKvEvict m.val (e.withMode 0 2 0) s ∧ a = (e.withMode 0 2 0) ∧ s.kv.get none (specKvEvict.on m.val
            (e.withMode 0 2 0)) = some k ∧ k.named (a.arg 1) = some b ∧ (k.block b).inTree = true ∧ r = k.evict (fun
            x => (k.chain ((k.block x).depth.toNat) x).contains b) k.blocks.length) ∧
    (∃ (m : Fin 18) (e : Entry) (s : State) (a : Entry) (k : KvPool) (r : KvPool × Nat), Accepted specKvEvict m.val
            (e.withMode 0 2 1) s ∧ a = (e.withMode 0 2 1) ∧ s.kv.get none (specKvEvict.on m.val (e.withMode 0 2 1))
            = some k ∧ r = k.evict (fun _ => true) (min (fld (a.arg 1) 0 23) k.blocks.length)) ∧
    (∃ (m : Fin 18) (e : Entry) (s : State) (k : KvPool) (r : KvPool × Nat), Accepted specKvEvict m.val (e.withMode
            0 2 2) s ∧ s.kv.get none (specKvEvict.on m.val (e.withMode 0 2 2)) = some k ∧ r = k.evict (fun _ =>
            true) k.blocks.length) :=
  ⟨⟨1, e0, withKv [(0, { state := .published, count := 1, depth := 1 })], _, _, _, _,
            by unfold Accepted; decide +kernel, rfl, rfl, rfl, rfl, by decide +kernel⟩,
    ⟨1, e0, withKv [], _, by unfold Accepted; decide +kernel, rfl, by decide +kernel⟩,
    by refine ⟨1, ar [0x1000], withKv [(0, { state := .priv, count := 1 })], _, _, _, List.replicate 2048 0,
            by unfold Accepted; decide +kernel, rfl, rfl, ?_, ?_, ?_, ?_, rfl⟩ <;> decide +kernel,
    by refine ⟨1, ar [0, 0, 1], withKv [(0, { state := .priv, count := 1 }), (1,
            { state := .published, count := 1, depth := 1 })], _, _, _, _, _, List.replicate 2048 0,
            by unfold Accepted; decide +kernel, rfl, rfl, ?_, rfl, ?_, ?_, rfl, ?_, ?_, ?_, ?_, rfl⟩
            <;> decide +kernel,
    by refine ⟨1, ar [0x1000], withTokens (tokensOf 512 (List.replicate 2048 0)), _, _, 1, List.replicate 2048 0,
            by unfold Accepted; decide +kernel, rfl, rfl, ?_, ?_, ?_, tokens_found _⟩ <;> decide +kernel,
    by refine ⟨1, ar [0, 0, 512], withKv [], _, _, List.replicate 2048 0, _, by unfold Accepted; decide +kernel,
            rfl, rfl, ?_, rfl⟩ <;> decide +kernel,
    by refine ⟨1, e0, withKv [(0, { state := .published, count := 1, depth := 1 })], _, _, _, _,
            by unfold Accepted; decide +kernel, rfl, rfl, rfl, ?_, rfl⟩ <;> decide +kernel,
    ⟨1, e0, withKv [], _, _, _, by unfold Accepted; decide +kernel, rfl, rfl, rfl⟩,
    ⟨1, e0, withKv [], _, _, by unfold Accepted; decide +kernel, rfl, rfl⟩⟩

theorem witness_SfuCommandsComplete :
    (∃ (m : Fin 18) (e : Entry) (s : State) (bs : List Byte), Accepted specSfuLoadTable m.val e s ∧ s.readArg
            (specSfuLoadTable.on m.val e) e.ctx.toNat (fld (e.arg 1) 0 52) (4 * fld (e.arg 2) 0 10) = some bs ∧ 64 +
            12 * imgSegs bs = bs.length ∧ tableBad bs = none) ∧
    (∃ (m : Fin 18) (e : Entry) (s : State) (bs : List Byte), Accepted specSfuLoadProgram m.val e s ∧ s.readArg
            (specSfuLoadProgram.on m.val e) e.ctx.toNat (fld (e.arg 1) 0 52) (8 + 8 * fld (e.arg 2) 0 6) = some bs ∧
            progSteps bs = fld (e.arg 2) 0 6 ∧ s.programBad (specSfuLoadProgram.on m.val e) bs = none) ∧
    (∃ (m : Fin 18) (e : Entry) (s : State) (k : Nat), Accepted specSfuUnloadTable m.val e s ∧ k = slotKey
            (specSfuUnloadTable.on m.val e) (if bit (e.arg 0) 8 then 8 + (fld (e.arg 0) 0 3) else (fld (e.arg 0) 0
            3)) ∧ (bit (e.arg 0) 8 = true ∨ (List.range 8).any (fun j => (s.sfuSlot (slotKey (specSfuUnloadTable.on
            m.val e) (8 + j))).loaded && (progTables (s.sfuSlot (slotKey (specSfuUnloadTable.on m.val e) (8 +
            j))).image).contains (fld (e.arg 0) 0 3)) = false) ∧ ((s.sfuSlot k).loaded = true ∨ (s.sfuSlot k).acts ≠
            [])) ∧
    (∃ (m : Fin 18) (e : Entry) (s : State) (k : Nat), Accepted specSfuUnloadTable m.val e s ∧ k = slotKey
            (specSfuUnloadTable.on m.val e) (if bit (e.arg 0) 8 then 8 + (fld (e.arg 0) 0 3) else (fld (e.arg 0) 0
            3)) ∧ (bit (e.arg 0) 8 = true ∨ (List.range 8).any (fun j => (s.sfuSlot (slotKey (specSfuUnloadTable.on
            m.val e) (8 + j))).loaded && (progTables (s.sfuSlot (slotKey (specSfuUnloadTable.on m.val e) (8 +
            j))).image).contains (fld (e.arg 0) 0 3)) = false) ∧ (s.sfuSlot k).loaded = false ∧ (s.sfuSlot k).acts =
            []) ∧
    (∃ (m : Fin 18) (e : Entry) (s : State), Accepted specSfuUnloadTable m.val e s ∧ bit (e.arg 0) 8 = false ∧
            (List.range 8).any (fun j => (s.sfuSlot (slotKey (specSfuUnloadTable.on m.val e) (8 + j))).loaded &&
            (progTables (s.sfuSlot (slotKey (specSfuUnloadTable.on m.val e) (8 + j))).image).contains (fld (e.arg 0)
            0 3)) = true) ∧
    (∃ (m : Fin 18) (e : Entry) (s : State) (bs : List Byte) (o : Nat), Accepted specSfuLoadTable m.val e s ∧
            s.readArg (specSfuLoadTable.on m.val e) e.ctx.toNat (fld (e.arg 1) 0 52) (4 * fld (e.arg 2) 0 10) = some
            bs ∧ 64 + 12 * imgSegs bs = bs.length ∧ tableBad bs = some o) :=
  ⟨by refine ⟨1, ar [0, 0, 19], { up with dram := Memory.writeBytes 0 tableImage [] }, tableImage,
            by unfold Accepted; decide +kernel, ?_, ?_, tableImage_good⟩ <;> decide +kernel,
    ⟨1, ar [0, 0, 1], { up with dram := Memory.writeBytes 0 programImage [] }, programImage,
            by unfold Accepted; decide +kernel, by decide +kernel⟩,
    ⟨1, e0, { up with sfu := [(0, { loaded := true })] }, _, by unfold Accepted; decide +kernel, rfl,
            by decide +kernel⟩,
    ⟨1, e0, up, _, by unfold Accepted; decide +kernel, rfl, by decide +kernel⟩,
    ⟨1, e0, { up with
                sfu := [(8, { loaded := true, half0 := [1, 0, 0, 0] ++ bytesLE 4 0 ++ bytesLE 8 (3 + 8 * 2 ^ 18) })] },
            by unfold Accepted; decide +kernel, by decide +kernel⟩,
    by refine ⟨1, ar [0, 0, 19], { up with dram := Memory.writeBytes 0 (tableImage.set 3 0) [] }, tableImage.set 3
            0, _, by unfold Accepted; decide +kernel, ?_, ?_, rfl⟩ <;> decide +kernel⟩

theorem witness_FlowCommandsComplete :
    (∃ (m : Fin 18) (e : Entry) (s : State) (x : Span), Accepted specFlowDeclare m.val e s ∧ s.activeSpan
            (specFlowDeclare.on m.val e) (e.arg 0) = .ok x ∧ x.ring.contains (fld (e.arg 0) 16 7) = true ∧
            x.ring.contains (fld (e.arg 0) 24 7) = true) ∧
    (∃ (m : Fin 18) (e : Entry) (s : State) (x : Span), Accepted specFlowWithdraw m.val e s ∧ s.flowSpan
            (specFlowWithdraw.on m.val e) (e.arg 0) = some x ∧ x.lead = s.self) ∧
    (∃ (m : Fin 18) (e : Entry) (s : State) (x : Span), Accepted specFlowWithdraw m.val e s ∧ s.flowSpan
            (specFlowWithdraw.on m.val e) (e.arg 0) = some x ∧ x.lead ≠ s.self) ∧
    (∃ (m : Fin 18) (e : Entry) (s : State) (x : Span), Accepted specFlowQuery m.val e s ∧ s.flowSpan
            (specFlowQuery.on m.val e) (e.arg 0) = some x ∧ x.lead = s.self) ∧
    (∃ (m : Fin 18) (e : Entry) (s : State) (x : Span), Accepted specFlowQuery m.val e s ∧ s.flowSpan
            (specFlowQuery.on m.val e) (e.arg 0) = some x ∧ x.lead ≠ s.self) :=
  ⟨⟨1, ar [0x101000000], withSpan x0, _, by unfold Accepted; decide +kernel, rfl, by decide +kernel⟩,
    ⟨1, e0, withSpan x0, _, by unfold Accepted; decide +kernel, rfl, by decide +kernel⟩,
    ⟨1, e0, withSpan { x0 with lead := 1 }, _, by unfold Accepted; decide +kernel, rfl, by decide +kernel⟩,
    ⟨1, e0, withSpan x0, _, by unfold Accepted; decide +kernel, rfl, by decide +kernel⟩,
    ⟨1, e0, withSpan { x0 with lead := 1 }, _, by unfold Accepted; decide +kernel, rfl, by decide +kernel⟩⟩

theorem witness_GroupCommandsComplete :
    (∃ (m : Fin 18) (e : Entry) (s : State) (x : Span) (bs : List Byte) (ms : List (Nat × Nat)) (i : Nat) (r : Nat)
            (g : Group), Accepted specGroupDefine m.val e s ∧ s.activeSpan (specGroupDefine.on m.val e) (e.arg 0) =
            .ok x ∧ (if bit (e.arg 0) 24 then some (bytesLE 8 (e.arg 2).toNat) else s.readArg (specGroupDefine.on
            m.val e) e.ctx.toNat (fld (e.arg 2) 0 52) (4 * fld (e.arg 3) 0 8)) = some bs ∧ (if bit (e.arg 0) 24 then
            some (axisMembers (e.arg 2)) else listMembers (fld (e.arg 3) 0 8) bs) = some ms ∧ (ms.map
            (·.1)).eraseDups.length = (ms.map (·.1)).length ∧ (ms.map (·.1)).any (fun k => !x.ring.contains k) =
            false ∧ (ms.map (·.1)).contains s.self = true ∧ s.groupOf x.id (fld (e.arg 0) 16 8) = none ∧ s.freeGroup
            = some i ∧ r = ((ms.map (·.1)).takeWhile (fun k => k != s.self)).length ∧ g =
            { index := i, span := x.id, num := fld (e.arg 0) 16 8, part := (specGroupDefine.on m.val e),
              ctx := (ms.getD r (0, 0)).2, checked := bit (e.arg 0) 25, bf16In := bit (e.arg 0) 26,
              bf16Out := bit (e.arg 0) 27, lanes := fld (e.arg 0) 32 6, cap := fld (e.arg 1) 0 31, members := ms,
              rank := r, order := List.range ms.length, crc := crc32c bs,
              cmd := some (cmdIdOf s.nextUid m.val specGroupDefine.opcode e) } ∧ s.storeFull g = false) ∧
    (∃ (m : Fin 18) (e : Entry) (s : State) (g : Group), Accepted specGroupRelease m.val e s ∧ (s.group? (fld (e.arg
            0) 0 8)).filter (fun g => g.part == (specGroupRelease.on m.val e)) = some g ∧ g.state ≠ .defining ∧
            s.red.queues.any (fun q => q.group == g.index) = false) ∧
    (∃ (m : Fin 18) (e : Entry) (s : State) (g : Group) (q : Nat), Accepted specCommqCreate m.val e s ∧ (s.group?
            (fld (e.arg 0) 8 8)).filter (fun g => g.part == (specCommqCreate.on m.val e)) = some g ∧ s.argWritable
            (specCommqCreate.on m.val e) e.ctx.toNat (fld (e.arg 1) 0 52) (64 * 2 ^ fld (e.arg 2) 0 4) = true ∧
            (g.state = .active ∨ g.state = .degraded) ∧ s.red.queues.any (fun q => q.group == fld (e.arg 0) 8 8) =
            false ∧ (bit (e.arg 0) 4 = true ∨ s.commq (specCommqCreate.on m.val e) (fld (e.arg 0) 0 4) = none) ∧ (if
            bit (e.arg 0) 4 then (List.range 16).find? (fun q => (s.commq (specCommqCreate.on m.val e) q).isNone)
            else some (fld (e.arg 0) 0 4)) = some q) ∧
    (∃ (m : Fin 18) (e : Entry) (s : State) (x : Commq), Accepted specCommqDestroy m.val e s ∧ s.commq
            (specCommqDestroy.on m.val e) (fld (e.arg 0) 0 4) = some x ∧ x.reds = []) :=
  ⟨by refine ⟨1, ar [0x100000000, 1, 0, 2], { withSpan x0 with dram := [(4, 1)] }, _, [0, 0, 0, 0, 1, 0, 0, 0],
            [(0, 0), (1, 0)], 0, _, _, by unfold Accepted; decide +kernel, rfl, ?_, ?_, ?_, ?_, ?_, ?_, ?_, rfl,
            rfl, ?_⟩ <;> decide +kernel,
    ⟨1, e0, { up with red.groups := [{ g0 with state := .active }] }, _, by unfold Accepted; decide +kernel, rfl,
            by decide +kernel⟩,
    by refine ⟨1, ar [0, 0, 4], { up with red.groups := [{ g0 with state := .active }] }, _, _,
            by unfold Accepted; decide +kernel, rfl, ?_, ?_, ?_, ?_, rfl⟩ <;> decide +kernel,
    ⟨1, e0, { up with red.queues := [q0] }, _, by unfold Accepted; decide +kernel, rfl, by decide +kernel⟩⟩

theorem witness_PowerAndLinkCommandsComplete :
    (∃ (m : Fin 18) (e : Entry) (s : State) (a : Entry), Accepted specPwrSetCap m.val (e.withMode 8 1 0) s ∧ a =
            (e.withMode 8 1 0)) ∧
    (∃ (m : Fin 18) (e : Entry) (s : State) (a : Entry), Accepted specPwrSetCap m.val (e.withMode 8 1 1) s ∧ a =
            (e.withMode 8 1 1) ∧ s.isMaster = true ∧ e.admitAck = false) ∧
    (∃ (m : Fin 18) (e : Entry) (s : State) (a : Entry), Accepted specPwrSetCap m.val (e.withMode 8 1 1) s ∧ a =
            (e.withMode 8 1 1) ∧ s.isMaster = true ∧ e.admitAck = true) ∧
    (∃ (m : Fin 18) (e : Entry) (s : State) (i : Nat), Accepted specLinkRetrain m.val (e.withMode 8 1 0) s ∧ i = fld
            ((e.withMode 8 1 0).arg 0) 0 4 ∧ (s.port i).health ≠ .retired ∧ (s.port i).link = .up) ∧
    (∃ (m : Fin 18) (e : Entry) (s : State) (i : Nat), Accepted specLinkRetrain m.val (e.withMode 8 1 0) s ∧ i = fld
            ((e.withMode 8 1 0).arg 0) 0 4 ∧ (s.port i).health ≠ .retired ∧ (s.port i).link ≠ .up ∧ (s.port i).link
            ≠ .down ∧ (s.port i).link ≠ .training) ∧
    (∃ (m : Fin 18) (e : Entry) (s : State) (i : Nat), Accepted specLinkRetrain m.val (e.withMode 8 1 1) s ∧ i = fld
            ((e.withMode 8 1 1).arg 0) 0 4 ∧ (s.port i).health ≠ .retired) ∧
    (∃ (m : Fin 18) (e : Entry) (s : State) (i : Nat) (l : BitVec 8), Accepted specLinkRetire m.val e s ∧ i = fld
            (e.arg 0) 0 4 ∧ l = retireLanes (fld (e.arg 0) 8 2) ∧ (s.port i).health ≠ .retired ∧ l &&& ~~~(s.port
            i).retiredLanes ≠ 0) ∧
    (∃ (m : Fin 18) (e : Entry) (s : State) (i : Nat) (l : BitVec 8), Accepted specLinkRetire m.val e s ∧ i = fld
            (e.arg 0) 0 4 ∧ l = retireLanes (fld (e.arg 0) 8 2) ∧ (s.port i).health ≠ .retired ∧ l &&& ~~~(s.port
            i).retiredLanes = 0) :=
  ⟨⟨0, ar [50], up, _, by unfold Accepted; decide +kernel, rfl⟩,
    ⟨0, ar [50], up, _, by unfold Accepted; decide +kernel, rfl, by decide +kernel⟩,
    ⟨0, { ar [50] with admitAck := true }, up, _, by unfold Accepted; decide +kernel, rfl, by decide +kernel⟩,
    ⟨0, e0, { up with plk.ports := [(0, { link := .up })] }, _, by unfold Accepted; decide +kernel, rfl,
            by decide +kernel⟩,
    ⟨0, e0, { up with plk.ports := [(0, { link := .doze })] }, _, by unfold Accepted; decide +kernel, rfl,
            by decide +kernel⟩,
    ⟨0, e0, up, _, by unfold Accepted; decide +kernel, rfl, by decide +kernel⟩,
    ⟨0, e0, up, _, _, by unfold Accepted; decide +kernel, rfl, rfl, by decide +kernel⟩,
    ⟨0, e0, { up with plk.ports := [(0, { retiredLanes := 0xFF })] }, _, _, by unfold Accepted; decide +kernel, rfl,
            rfl, by decide +kernel⟩⟩

theorem witness_ServiceCommandsComplete :
    (∃ (m : Fin 18) (e : Entry) (s : State), Accepted specFwStage m.val e s ∧ (s.mgt.fw = .idle ∨ s.mgt.fw =
            .staged) ∧ s.failingIn (e.arg 1).toNat (fld (e.arg 0) 0 25) = []) ∧
    (∃ (m : Fin 18) (e : Entry) (s : State), Accepted specFwActivate m.val e s ∧ s.mayActivate = true) ∧
    (∃ (m : Fin 18) (e : Entry) (s : State) (rs : List LogRec), Accepted specLogRead m.val e s ∧ m.val ≠ 17 ∧ rs =
            logFrom (BitVec.ofNat 32 (fld (e.arg 0) 0 32)) (bit (e.arg 0) 48) (fld (e.arg 0) 32 16) s.logHeld) ∧
    (∃ (m : Fin 18) (e : Entry) (s : State) (rs : List LogRec), Accepted specLogRead m.val e s ∧ m.val = 17 ∧ rs =
            logFrom (BitVec.ofNat 32 (fld (e.arg 0) 0 32)) (bit (e.arg 0) 48) (fld (e.arg 0) 32 16) s.logHeld) ∧
    (∃ (m : Fin 18) (e : Entry) (s : State) (ids : List Nat), Accepted specSensRead m.val e s ∧ ids = (List.range
            (fld (e.arg 0) 16 3)).map (fun i => fld (e.arg 0) 0 16 + i) ∧ ids.all (fun i => s.sensorKnown i) = true
            ∧ bit (e.arg 0) 24 = false) ∧
    (∃ (m : Fin 18) (e : Entry) (s : State) (ids : List Nat), Accepted specSensRead m.val e s ∧ ids = (List.range
            (fld (e.arg 0) 16 3)).map (fun i => fld (e.arg 0) 0 16 + i) ∧ ids.all (fun i => s.sensorKnown i) = true
            ∧ bit (e.arg 0) 24 = true) ∧
    (∃ (m : Fin 18) (e : Entry) (s : State) (b : Nat) (n : Nat) (l : Nat) (o : Nat) (same : Bool), Accepted
            specAtbSelect m.val e s ∧ b = fld (e.arg 0) 0 2 ∧ n = fld (e.arg 0) 8 8 ∧ l = fld (e.arg 0) 16 3 ∧
            s.por.atbJtag = false ∧ o = (if b % 2 = 0 then b + 1 else b - 1) ∧ same = (n != 0 && (s.por.nodes.get 0
            o).toNat == n && (!nodeHasLane n || (s.por.busLane.get 0 o).toNat == l))) ∧
    (∃ (m : Fin 18) (e : Entry) (s : State) (n : Nat) (xs : List Nat), Accepted specAtbSample m.val e s ∧
            s.por.atbJtag = false ∧ n = fld (e.arg 0) 8 8 ∧ xs = (List.range n).map (fun i => (Config.adcSample
            s.free i).toNat)) ∧
    (∃ (m : Fin 18) (e : Entry) (s : State) (r : BitVec 16) (b : BitVec 16) (ps : List Nat) (gone : List Nat),
            Accepted specTestMbist m.val e s ∧ r = BitVec.ofNat 16 (fld (e.arg 0) 0 16) ∧ b = r &&&
            Config.rowsFailing s.free ∧ (List.range 16).any (fun x => bit r x && (s.rowOwner x).isSome) = false ∧ ps
            = (if bit (e.arg 0) 16 then s.pagesIn .free else []) ∧ gone = ps.filter (fun p => Config.pageFailing
            s.free p)) :=
  ⟨⟨0, ar [512], up, by unfold Accepted; decide +kernel, by decide +kernel⟩,
    ⟨0, e0, { up with mgt.fw := .staged, mgt.standbyOk := true, ten.parts := [] },
            by unfold Accepted; decide +kernel, by decide +kernel⟩,
    by refine ⟨0, ar [0x100000000], up, _, by unfold Accepted; decide +kernel, ?_, rfl⟩ <;> decide +kernel,
    by refine ⟨17, ar [0x100000000], { up with mgt := { booted := true, usb := true } }, _,
            by unfold Accepted; decide +kernel, ?_, rfl⟩ <;> decide +kernel,
    ⟨0, ar [0x10000], up, _, by unfold Accepted; decide +kernel, rfl, by decide +kernel⟩,
    ⟨0, ar [0x1010000], up, _, by unfold Accepted; decide +kernel, rfl, by decide +kernel⟩,
    by refine ⟨0, ar [0x100], up, _, _, _, _, _, by unfold Accepted; decide +kernel, rfl, rfl, rfl, ?_, rfl, rfl⟩
            <;> decide +kernel,
    by refine ⟨0, ar [0x100], up, _, _, by unfold Accepted; decide +kernel, ?_, rfl, rfl⟩ <;> decide +kernel,
    by refine ⟨0, ar [2], up, _, _, _, _, by unfold Accepted; decide +kernel, rfl, rfl, ?_, rfl, rfl⟩
            <;> decide +kernel⟩

theorem witness_MailboxRings :
    (∃ (fn : Fin 17) (v : W64) (s : State), s.pcieAlive = true ∧ s.fnExists fn.val = true ∧ (s.mb fn.val).error =
            false ∧ (s.mb fn.val).enable = false ∧ (s.mb fn.val).resetBusy = false ∧ s.mgt.booted = true ∧ bit v 8 =
            true ∧ 4 ≤ fld v 0 4 ∧ fld v 0 4 ≤ 12 ∧ 4 ≤ fld v 4 4 ∧ fld v 4 4 ≤ 13 ∧ fld (s.mb fn.val).cmdBase 0 12
            = 0 ∧ fld (s.mb fn.val).cplBase 0 12 = 0) ∧
    (∃ (fn : Fin 17) (v : W64) (s : State), s.pcieAlive = true ∧ s.fnExists fn.val = true ∧ (s.mb fn.val).error =
            false ∧ (s.mb fn.val).enable = false ∧ bit v 8 = false) ∧
    (∃ (fn : Fin 17) (v : W64) (s : State), s.pcieAlive = true ∧ s.fnExists fn.val = true ∧ (s.mb fn.val).error =
            false ∧ (s.mb fn.val).enable = false ∧ (s.mb fn.val).resetBusy = false ∧ s.mgt.booted = true ∧ bit v 8 =
            true ∧ (fld v 0 4 < 4 ∨ 12 < fld v 0 4 ∨ fld v 4 4 < 4 ∨ 13 < fld v 4 4 ∨ fld (s.mb fn.val).cmdBase 0 12
            ≠ 0 ∨ fld (s.mb fn.val).cplBase 0 12 ≠ 0)) ∧
    (∃ (fn : Fin 17) (v : W64) (s : State), s.pcieAlive = true ∧ s.fnExists fn.val = true ∧ (s.mb fn.val).error =
            false ∧ (s.mb fn.val).enable = true ∧ fld v 0 12 < (s.mb fn.val).cmdSize) ∧
    (∃ (fn : Fin 17) (v : W64) (s : State), s.pcieAlive = true ∧ s.fnExists fn.val = true ∧ (s.mb fn.val).error =
            false ∧ (s.mb fn.val).enable = true ∧ (s.mb fn.val).cmdSize ≤ fld v 0 12) ∧
    (∃ (fn : Fin 17) (v : W64) (s : State), s.pcieAlive = true ∧ s.fnExists fn.val = true ∧ (s.mb fn.val).error =
            false ∧ (s.mb fn.val).enable = true ∧ fld v 0 13 < (s.mb fn.val).cplSize ∧ (fld v 0 13 + (s.mb
            fn.val).cplSize - (s.mb fn.val).cplHead.toNat) % (s.mb fn.val).cplSize ≤ (s.mb fn.val).unread) ∧
    (∃ (fn : Fin 17) (v : W64) (s : State), s.pcieAlive = true ∧ s.fnExists fn.val = true ∧ (s.mb fn.val).error =
            false ∧ (s.mb fn.val).enable = true ∧ (s.mb fn.val).cplSize ≤ fld v 0 13) ∧
    (∃ (m : Fin 18) (r : Record) (s : State), s.clocked = true ∧ m.val ≠ 17 ∧ s.canWrite m.val = true ∧ (s.mb
            m.val).staged = [r]) ∧
    (∃ (fn : Fin 17) (n : Nat) (s : State), s.clocked = true ∧ (s.mb fn.val).age = some n ∧ (s.mb fn.val).irqFrames
            ≠ 0 ∧ (s.mb fn.val).irqFrames.toNat ≤ n) :=
  ⟨⟨0, 0x144, { up with mbx := [] }, by decide +kernel⟩,
    ⟨0, 0, { up with mbx := [] }, by decide +kernel⟩,
    ⟨0, 0x143, { up with mbx := [] }, by decide +kernel⟩,
    ⟨0, 0, up, by decide +kernel⟩,
    ⟨0, 16, up, by decide +kernel⟩,
    ⟨0, 0, up, by decide +kernel⟩,
    ⟨0, 16, up, by decide +kernel⟩,
    by refine ⟨0, _, { up with mbx := [(0, { enable := true, cmdLog2 := 4, cplLog2 := 4, staged := [r0] })] }, ?_,
            ?_, ?_, rfl⟩ <;> decide +kernel,
    ⟨0, 1, { up with mbx := [(0, { enable := true, cmdLog2 := 4, cplLog2 := 4, age := some 1 })] },
            by decide +kernel⟩⟩

theorem witness_MailboxResets :
    (∃ (fn : Fin 17) (s : State), s.pcieAlive = true ∧ s.fnExists fn.val = true ∧ (s.mb fn.val).resetBusy = false) ∧
    (∃ (fn : Fin 17) (s : State), s.clocked = true ∧ (s.mb fn.val).resetBusy = true ∧ (s.mbxJobs fn.val).all (fun j
            => (s.jobOps j.cmd.uid).isEmpty) = true) ∧
    (∃ (fn : Fin 17) (s : State), s.clocked = true ∧ fn.val ≠ 0 ∧ (s.mb fn.val).resetBusy = true ∧ 1024 ≤ (s.mb
            fn.val).busyFrames) ∧
    (∃ (s : State), s.pcieAlive = true) ∧
    (∃ (s : State), s.pcieAlive = true) :=
  ⟨⟨0, up, by decide +kernel⟩,
    ⟨0, { up with mbx := [(0, { resetBusy := true })] }, by decide +kernel⟩,
    ⟨1, { up with mbx := [(1, { resetBusy := true, busyFrames := 1024 })] }, by decide +kernel⟩,
    ⟨up, by decide +kernel⟩,
    ⟨up, by decide +kernel⟩⟩

theorem witness_RegistersAndFunctions :
    (∃ (fn : Fin 17) (off : BitVec 32) (r : Reg) (v : W64) (s : State), s.pcieAlive = true ∧ s.fnExists fn.val =
            true ∧ s.regOf fn.val off.toNat = some (r, v)) ∧
    (∃ (fn : Fin 17) (off : BitVec 32) (s : State), s.pcieAlive = true ∧ s.fnExists fn.val = true ∧ s.regOf fn.val
            off.toNat = none) ∧
    (∃ (fn : Fin 17) (off : BitVec 32) (x : W64) (o : Nat) (s : State), s.pcieAlive = true ∧ s.fnExists fn.val =
            true ∧ s.regOf fn.val off.toNat = some (.mbx o, x)) ∧
    (∃ (fn : Fin 17) (off : BitVec 32) (s : State), s.pcieAlive = true ∧ s.fnExists fn.val = true ∧ s.regOf fn.val
            off.toNat = none) ∧
    (∃ (n : BitVec 5) (s : State), s.pcieAlive = true ∧ s.pcie.configRetry = false ∧ n.toNat ≤ 16) ∧
    (∃ (fn : Fin 17) (s : State), s.pcieAlive = true ∧ s.fnExists fn.val = true) ∧
    (∃ (fn : Fin 17) (s : State), s.pcieAlive = true ∧ s.fnExists fn.val = true) ∧
    (∃ (fn : Fin 17) (s : State), s.pcieAlive = true ∧ s.pcie.configRetry = false ∧ s.fnExists fn.val = true ∧
            fn.val ≠ 0) ∧
    (∃ (fn : Fin 17) (s : State), s.pcieAlive = true ∧ s.pcie.configRetry = false ∧ fn.val = 0) :=
  ⟨by refine ⟨0, 0, _, _, up, ?_, ?_, rfl⟩ <;> decide +kernel,
    ⟨0, 4, up, by decide +kernel⟩,
    ⟨0, 0, 0, 0, up, by decide +kernel⟩,
    ⟨0, 4, up, by decide +kernel⟩,
    ⟨0, up, by decide +kernel⟩,
    ⟨0, up, by decide +kernel⟩,
    ⟨0, up, by decide +kernel⟩,
    ⟨1, up, by decide +kernel⟩,
    ⟨0, up, by decide +kernel⟩⟩

theorem witness_PcieEventsComplete :
    (∃ (width : BitVec 5) (s : State), s.pcie.perstLow = true ∧ (s.clocked && s.pcie.refclk) = true ∧ (width = 16 ∨
            width = 8)) ∧
    (∃ (s : State), s.pcie.perstLow = true ∧ (s.clocked && s.pcie.refclk) = false) ∧
    (∃ (width : BitVec 5) (s : State), s.clocked = true ∧ s.pcie.perstLow = false ∧ s.pcie.refclk = true ∧
            (s.pcie.link = .detect ∨ s.pcie.link = .training) ∧ (width = 16 ∨ width = 8)) ∧
    (∃ (width : BitVec 5) (s : State), s.clocked = true ∧ s.pcie.perstLow = false ∧ s.pcie.refclk = true ∧
            (s.pcie.link = .detect ∨ s.pcie.link = .training) ∧ width ≠ 16 ∧ width ≠ 8) ∧
    (∃ (s : State), s.pcieAlive = true) ∧
    (∃ (s : State), s.pcieAlive = true) ∧
    (∃ (fn : Fin 17) (s : State), s.pcieAlive = true ∧ s.fnExists fn.val = true ∧ (s.mb fn.val).enable = true) ∧
    (∃ (fn : Fin 17) (s : State), s.pcieAlive = true ∧ (s.fnExists fn.val && (s.mb fn.val).enable) = false) ∧
    (∃ (s : State), s.pcieAlive = true) ∧
    (∃ (s : State), s.pcieAlive = true) ∧
    (∃ (s : State), s.pcieAlive = true) ∧
    (∃ (m : Nat) (e : BitVec 16 × Entry) (s : State), s.pcieAlive = true ∧ s.nextMailbox = some m ∧ e = entryAt
            (s.mb m).cmdHead (BitVec.ofNat 1024 (s.host.readLE ((s.mb m).cmdBase.toNat + 128 * (s.mb
            m).cmdHead.toNat) 128))) :=
  ⟨⟨16, { up with pcie.perstLow := true }, by decide +kernel⟩,
    ⟨{ up with pcie.perstLow := true, pcie.refclk := false }, by decide +kernel⟩,
    ⟨16, { up with pcie.link := .detect }, by decide +kernel⟩,
    ⟨4, { up with pcie.link := .detect }, by decide +kernel⟩,
    ⟨up, by decide +kernel⟩,
    ⟨up, by decide +kernel⟩,
    ⟨0, up, by decide +kernel⟩,
    ⟨2, up, by decide +kernel⟩,
    ⟨up, by decide +kernel⟩,
    ⟨up, by decide +kernel⟩,
    ⟨up, by decide +kernel⟩,
    by refine ⟨0, _, { up with mbx := [(0, { enable := true, cmdLog2 := 4, cplLog2 := 4, cmdTail := 1 })] }, ?_, ?_,
            rfl⟩ <;> decide +kernel⟩

theorem witness_FrameEventsComplete :
    (∃ (s : State), s.clocked = true ∧ s.frm.phase ≠ .stopped) ∧
    (∃ (s : State), s.clocked = true) ∧
    (∃ (s : State), s.clocked = true) ∧
    (∃ (r : PlanRecord) (x : Span) (s : State), s.clocked = true ∧ s.span? r.span = some x ∧ r.member = s.self ∧
            r.frame = s.frm.count + 1 ∧ s.frm.phase ≠ .slack ∧ r.lead = x.lead ∧ r.rebase = x.rho ∧ x.state =
            .active) ∧
    (∃ (r : PlanRecord) (good : Bool) (x : Span) (s : State), s.clocked = true ∧ s.span? r.span = some x ∧ (good =
            false ∨ r.member ≠ s.self ∨ r.frame ≠ s.frm.count + 1 ∨ s.frm.phase = .slack ∨ r.lead ≠ x.lead ∨
            r.rebase ≠ x.rho)) ∧
    (∃ (s : State), s.clocked = true ∧ s.frm.phase = .work) :=
  ⟨⟨up, by decide +kernel⟩,
    ⟨up, by decide +kernel⟩,
    ⟨up, by decide +kernel⟩,
    ⟨pr0, x0, withSpan x0, by decide +kernel⟩,
    ⟨pr0, false, x0, withSpan x0, by decide +kernel⟩,
    ⟨up, by decide +kernel⟩⟩

theorem witness_SynchronisationEventsComplete :
    (∃ (port : Fin 12) (k : Marker) (u : State) (s : State), s.clocked = true ∧ (s.port port.val).locked = true ∧
            (s.nbr port.val).miswired = false ∧ s.fab.election ≠ .halted ∧ s.fab.election ≠ .notOpen ∧ u = s.updNbr
            port.val (fun n => { n with marker := some (k.frame, k.hops) }) ∧ k.master.toNat ≠ s.self ∧
            u.acceptsMaster k = true ∧ s.frm.role = .master) ∧
    (∃ (port : Fin 12) (k : Marker) (arrival : Int) (e : Int) (d : Bool) (s : State), s.clocked = true ∧ (s.port
            port.val).locked = true ∧ (s.nbr port.val).miswired = false ∧ s.fab.election = .closed ∧ k.master.toNat
            ≠ s.self ∧ s.acceptsMaster k = true ∧ s.frm.role = .member ∧ (s.updNbr port.val (fun n =>
            { n with marker := some (k.frame, k.hops) })).chooseParent k.master.toNat k.frame = some (port.val, d) ∧
            k.epoch = s.frm.epoch ∧ k.master = s.frm.master ∧ k.deputy.toNat ≠ s.self ∧ k.change = none ∧
            s.frm.parent.toNat = port.val ∧ s.frm.state = .locked ∧ k.frame = s.frm.count ∧ e = arrival -
            k.txOffset.toNat - (s.port port.val).lat.toNat ∧ nearE e = true) ∧
    (∃ (k : Marker) (s : State), s.clocked = true ∧ s.fab.election ≠ .halted ∧ s.fab.election ≠ .notOpen ∧
            k.master.toNat ≠ s.self ∧ s.acceptsMaster k = true ∧ s.frm.role = .master) ∧
    (∃ (k : Marker) (s : State), s.clocked = true ∧ s.fab.election ≠ .halted ∧ s.fab.election ≠ .notOpen ∧
            k.master.toNat ≠ s.self ∧ s.acceptsMaster k = true ∧ s.frm.role = .member ∧ s.frm.state ≠ .unsync ∧
            k.frame = ((s.takeFields k).updFrm (fun f => { f with markerSeen := true })).frm.count) ∧
    (∃ (s : State), s.clocked = true ∧ s.frm.state = .locked ∧ s.frm.directSeen = false ∧ s.frm.role ≠ .master ∧
            s.frm.role ≠ .standalone) ∧
    (∃ (s : State), s.clocked = true ∧ s.frm.state = .holdover ∧ 64 ≤ s.frm.holdFrames) ∧
    (∃ (s : State), s.clocked = true ∧ s.frm.role = .deputy ∧ s.synced = true ∧ 2 ≤ s.frm.without ∧ s.frm.started =
            true) ∧
    (∃ (s : State), s.clocked = true ∧ (s.frm.role = .member ∨ s.frm.role = .deputy) ∧ s.fab.election = .closed ∧ 8
            ≤ s.frm.without) :=
  ⟨by refine ⟨0, { k0 with epoch := 1 }, _, { withPort pt with fab.election := .closed }, ?_, ?_, ?_, ?_, ?_, rfl,
            ?_⟩ <;> decide +kernel,
    ⟨0, k0, 0, 0, true, { withPort pt with fab.election := .closed, frm.role := .member, frm.master := 1 },
            by decide +kernel⟩,
    ⟨{ k0 with epoch := 1 }, { up with fab.election := .closed }, by decide +kernel⟩,
    ⟨k0, { up with fab.election := .closed, frm.role := .member, frm.master := 1 }, by decide +kernel⟩,
    ⟨{ up with frm.role := .member }, by decide +kernel⟩,
    ⟨{ up with frm.state := .holdover, frm.holdFrames := 64 }, by decide +kernel⟩,
    ⟨{ up with frm.role := .deputy, frm.missing := 2 }, by decide +kernel⟩,
    ⟨{ up with frm.role := .member, frm.missing := 8, fab.election := .closed }, by decide +kernel⟩⟩

theorem witness_PeriodEventsComplete :
    (∃ (s : State), s.clocked = true ∧ s.mgt.act ≠ .restoring ∧ s.frm.role ≠ .master ∧ s.frm.role ≠ .standalone) ∧
    (∃ (p : Proposal) (s : State), s.clocked = true ∧ s.frm.proposal = some p ∧ p.acked = false ∧ s.mayAcknowledge p
            = true ∧ p.master = false) ∧
    (∃ (p : Proposal) (s : State), s.clocked = true ∧ s.frm.proposal = some p ∧ p.acked = false ∧ s.mayAcknowledge p
            = true ∧ p.master = true) ∧
    (∃ (pkg : Fin 128) (p : Proposal) (s : State), s.clocked = true ∧ s.mgt.act ≠ .restoring ∧ s.frm.proposal = some
            p ∧ p.master = true ∧ p.expect.all (fun k => (insertNat pkg.val p.acks).contains k) = true) ∧
    (∃ (p : Proposal) (s : State), s.clocked = true ∧ s.frm.proposal = some p ∧ 64 ≤ p.frames) :=
  ⟨⟨{ up with frm.role := .member }, by decide +kernel⟩,
    ⟨p0, { withPart {} with frm.proposal := some p0 }, by decide +kernel⟩,
    ⟨{ p0 with master := true }, { withPart {} with frm.proposal := some { p0 with master := true } },
            by decide +kernel⟩,
    ⟨0, { p0 with master := true }, { withPart {} with frm.proposal := some { p0 with master := true } },
            by decide +kernel⟩,
    ⟨{ p0 with frames := 64 }, { withPart {} with frm.proposal := some { p0 with frames := 64 } },
            by decide +kernel⟩⟩

theorem witness_SpanPlannerEventsComplete :
    (∃ (span : BitVec 16) (h : FrameNo) (x : Span) (l : LeadSpan) (rho : BitVec 32) (s : State), s.clocked = true ∧
            s.mgt.act ≠ .restoring ∧ s.span? span = some x ∧ s.pln.leads.find? (fun l => l.span == span) = some l ∧
            x.lead = s.self ∧ x.state = .active ∧ h = (if s.frm.phase = .slack then s.frm.count + 2 else s.frm.count
            + 1) ∧ (∀ k, k ∈ l.holds → 1 < (frameDiff k h).natAbs) ∧ rho = x.rho + BitVec.ofNat 32 (2 *
            ((l.holds.filter (fun k => later k s.frm.count)).length + 1))) ∧
    (∃ (span : BitVec 16) (h : FrameNo) (k : FrameNo) (l : LeadSpan) (s : State), s.clocked = true ∧ s.mgt.act ≠
            .restoring ∧ s.pln.leads.find? (fun l => l.span == span) = some l ∧ h = (if s.frm.phase = .slack then
            s.frm.count + 2 else s.frm.count + 1) ∧ k ∈ l.holds ∧ (frameDiff k h).natAbs ≤ 1) ∧
    (∃ (span : BitVec 16) (s : State), s.clocked = true ∧ s.mgt.act ≠ .restoring ∧ s.pln.leads.find? (fun l =>
            l.span == span) = none) ∧
    (∃ (span : BitVec 16) (h : FrameNo) (x : Span) (s : State), s.clocked = true ∧ s.mgt.act ≠ .restoring ∧ s.span?
            span = some x ∧ s.pln.spanHolds.any (fun x => x.1 == span && x.2.1 == h) = false) ∧
    (∃ (span : BitVec 16) (h : FrameNo) (s : State), s.clocked = true ∧ s.mgt.act ≠ .restoring ∧ s.pln.spanHolds.any
            (fun x => x.1 == span && x.2.1 == h) = true) ∧
    (∃ (d : Declared) (pkg : Fin 128) (l : LeadSpan) (sp : Span) (num : Nat) (x : Flow) (s : State), s.clocked =
            true ∧ s.mgt.act ≠ .restoring ∧ s.pln.leads.find? (fun l => l.span == d.span) = some l ∧ s.span? d.span
            = some sp ∧ sp.lead = s.self ∧ (∀ f, d.key ≠ .rest f) ∧ freeFlowNum l.flows = some num ∧ pkg.val ≠
            s.self ∧ l.tooLate s.frm.count sp.rho d.latest = false ∧ x =
            { num := num, seq := l.nextSeq, pkg := pkg.val, key := d.key, src := d.src, dst := d.dst, n := d.n,
              earliest := d.earliest, latest := d.latest, r := d.r, c := d.c }) ∧
    (∃ (d : Declared) (pkg : Fin 128) (l : LeadSpan) (sp : Span) (num : Nat) (x : Flow) (s : State), s.clocked =
            true ∧ s.mgt.act ≠ .restoring ∧ s.pln.leads.find? (fun l => l.span == d.span) = some l ∧ s.span? d.span
            = some sp ∧ sp.lead = s.self ∧ (∀ f, d.key ≠ .rest f) ∧ freeFlowNum l.flows = some num ∧ l.tooLate
            s.frm.count sp.rho d.latest = true ∧ x = { num := num, seq := l.nextSeq, pkg := pkg.val, key := d.key,
                                                       src := d.src, dst := d.dst, n := d.n, earliest := d.earliest,
                                                       latest := d.latest, r := d.r, c := d.c }) ∧
    (∃ (d : Declared) (l : LeadSpan) (sp : Span) (f : FrameNo) (s : State), s.clocked = true ∧ s.mgt.act ≠
            .restoring ∧ s.pln.leads.find? (fun l => l.span == d.span) = some l ∧ s.span? d.span = some sp ∧ sp.lead
            = s.self ∧ d.key = .rest f) ∧
    (∃ (d : Declared) (l : LeadSpan) (sp : Span) (s : State), s.clocked = true ∧ s.mgt.act ≠ .restoring ∧
            s.pln.leads.find? (fun l => l.span == d.span) = some l ∧ s.span? d.span = some sp ∧ sp.lead = s.self ∧
            (∀ f, d.key ≠ .rest f) ∧ freeFlowNum l.flows = none) ∧
    (∃ (s : State), s.clocked = true ∧ s.mgt.act ≠ .restoring) ∧
    (∃ (s : State), s.clocked = true) :=
  ⟨by refine ⟨0, _, x0, l0, _, leading, ?_, ?_, ?_, ?_, ?_, ?_, rfl, (by simp [l0]), rfl⟩ <;> decide +kernel,
    ⟨0, 6, 6, { l0 with holds := [6] }, { withSpan x0 with pln.leads := [{ l0 with holds := [6] }] },
            by decide +kernel⟩,
    ⟨0, up, by decide +kernel⟩,
    by refine ⟨0, 0, _, withSpan x0, ?_, ?_, rfl, ?_⟩ <;> decide +kernel,
    ⟨0, 0, { up with pln.spanHolds := [(0, 0, 0)] }, by decide +kernel⟩,
    by refine ⟨d0, 1, l0, x0, 0, _, leading, ?_, ?_, ?_, ?_, ?_, (by simp [d0]), ?_, ?_, ?_, rfl⟩ <;> decide +kernel,
    by refine ⟨{ d0 with latest := 5 }, 1, l0, x0, 0, _, leading, ?_, ?_, ?_, ?_, ?_, (by simp [d0]), ?_, ?_, rfl⟩
            <;> decide +kernel,
    ⟨{ d0 with key := .rest 0 }, l0, x0, 0, leading, by decide +kernel⟩,
    by refine ⟨d0, fullLead, x0, { withSpan x0 with pln.leads := [fullLead] }, ?_, ?_, rfl, rfl, ?_, (by simp [d0]),
            fullLead_full⟩ <;> decide +kernel,
    ⟨up, by decide +kernel⟩,
    ⟨up, by decide +kernel⟩⟩

theorem witness_CellWindowsComplete :
    (∃ (s : State), s.clocked = true ∧ s.frm.phase = .stopped) ∧
    (∃ (port : Fin 12) (slot : BitVec 12) (s : State), s.clocked = true ∧ s.slotStep port.val = 2 ∧ slot.toNat % 2 =
            1) ∧
    (∃ (port : Fin 12) (slot : BitVec 12) (s : State), s.clocked = true ∧ s.entryAt port.val slot.toNat = none ∧ (∀
            p, s.slotOwner port.val slot.toNat = some p → (s.frmp p).hold = false)) ∧
    (∃ (port : Fin 12) (slot : BitVec 12) (p : Nat) (s : State), s.clocked = true ∧ s.frm.phase ≠ .stopped ∧
            slot.toNat < s.slots ∧ (s.slotStep port.val = 2 → slot.toNat % 2 = 0) ∧ s.entryAt port.val slot.toNat =
            none ∧ s.slotOwner port.val slot.toNat = some p ∧ (s.frmp p).hold = true ∧ slot.toNat + 2 ≤ s.slots ∧
            s.portUsable port.val = true) ∧
    (∃ (port : Fin 12) (slot : BitVec 12) (r : PlanRecord) (e : PlanEntry) (c : Transit) (s : State), s.clocked =
            true ∧ s.frm.phase ≠ .stopped ∧ slot.toNat < s.slots ∧ (s.slotStep port.val = 2 → slot.toNat % 2 = 0) ∧
            s.entryAt port.val slot.toNat = some (r, e) ∧ e.inPort ≠ 15 ∧ (s.pln.transit.get [] e.inPort).find? (fun
            c => c.data.span == r.span && c.data.flow == e.flow) = some c ∧ s.slotOwner port.val slot.toNat = some
            c.part ∧ c.frameLo = BitVec.ofNat 8 s.frm.count.toNat ∧ s.portUsable port.val = true) ∧
    (∃ (port : Fin 12) (slot : BitVec 12) (r : PlanRecord) (e : PlanEntry) (c : Transit) (s : State), s.clocked =
            true ∧ s.frm.phase ≠ .stopped ∧ slot.toNat < s.slots ∧ (s.slotStep port.val = 2 → slot.toNat % 2 = 0) ∧
            s.entryAt port.val slot.toNat = some (r, e) ∧ e.inPort ≠ 15 ∧ (s.pln.transit.get [] e.inPort).find? (fun
            c => c.data.span == r.span && c.data.flow == e.flow) = some c ∧ (s.slotOwner port.val slot.toNat ≠ some
            c.part ∨ c.frameLo ≠ BitVec.ofNat 8 s.frm.count.toNat ∨ s.portUsable port.val = false)) ∧
    (∃ (port : Fin 12) (slot : BitVec 12) (r : PlanRecord) (e : PlanEntry) (s : State), s.clocked = true ∧
            s.frm.phase ≠ .stopped ∧ slot.toNat < s.slots ∧ (s.slotStep port.val = 2 → slot.toNat % 2 = 0) ∧
            s.entryAt port.val slot.toNat = some (r, e) ∧ e.inPort ≠ 15 ∧ (s.pln.transit.get [] e.inPort).find? (fun
            c => c.data.span == r.span && c.data.flow == e.flow) = none) ∧
    (∃ (port : Fin 12) (slot : BitVec 12) (r : PlanRecord) (e : PlanEntry) (s : State), s.clocked = true ∧
            s.frm.phase ≠ .stopped ∧ slot.toNat < s.slots ∧ (s.slotStep port.val = 2 → slot.toNat % 2 = 0) ∧
            s.entryAt port.val slot.toNat = some (r, e) ∧ e.inPort = 15 ∧ s.portUsable port.val = false) ∧
    (∃ (port : Fin 12) (slot : BitVec 12) (r : PlanRecord) (e : PlanEntry) (o : Op) (rest : List Op) (s : State),
            s.clocked = true ∧ s.frm.phase ≠ .stopped ∧ slot.toNat < s.slots ∧ (s.slotStep port.val = 2 → slot.toNat
            % 2 = 0) ∧ s.entryAt port.val slot.toNat = some (r, e) ∧ e.inPort = 15 ∧ s.portUsable port.val = true ∧
            s.edgeOf r.span e.flow = none ∧ s.sendsFor r.span e.flow (planFrame r.rebase s.frm.count) = o :: rest ∧
            s.cellReady o = true) ∧
    (∃ (port : Fin 12) (slot : BitVec 12) (r : PlanRecord) (e : PlanEntry) (s : State), s.clocked = true ∧
            s.frm.phase ≠ .stopped ∧ slot.toNat < s.slots ∧ (s.slotStep port.val = 2 → slot.toNat % 2 = 0) ∧
            s.entryAt port.val slot.toNat = some (r, e) ∧ e.inPort = 15 ∧ s.portUsable port.val = true ∧ s.edgeOf
            r.span e.flow = none ∧ (∀ o rest, s.sendsFor r.span e.flow (planFrame r.rebase s.frm.count) = o :: rest
            → s.cellReady o = false)) ∧
    (∃ (port : Fin 12) (slot : BitVec 12) (r : PlanRecord) (e : PlanEntry) (g : Group) (x : Edge) (s : State),
            s.clocked = true ∧ s.frm.phase ≠ .stopped ∧ slot.toNat < s.slots ∧ (s.slotStep port.val = 2 → slot.toNat
            % 2 = 0) ∧ s.entryAt port.val slot.toNat = some (r, e) ∧ e.inPort = 15 ∧ s.portUsable port.val = true ∧
            s.edgeOf r.span e.flow = some (g, x)) :=
  ⟨⟨{ up with frm.phase := .stopped }, by decide +kernel⟩,
    ⟨0, 1, withPort { pt with width := .low }, by decide +kernel⟩,
    ⟨0, 0, up, by decide +kernel⟩,
    ⟨0, 0, 0, { withPort pt with pln.shares := [(0, some 0)], frm.parts := [(0, { hold := true })] },
            by decide +kernel⟩,
    by refine ⟨0, 0, _, _, _, { withWindow 1 with
                                  pln.transit := [(1, [{ src := 1, hops := 1, part := 0, slot := 0, frameLo := 5,
                                                         dst := none,
                                                         data := { span := 0, flow := 0, frame := 5, bytes := [] } }])] },
            ?_, ?_, ?_, ?_, rfl, ?_, rfl, ?_⟩ <;> decide +kernel,
    by refine ⟨0, 0, _, _, _, { withWindow 1 with
                                  pln.transit := [(1, [{ src := 1, hops := 1, part := 0, slot := 0, frameLo := 4,
                                                         dst := none,
                                                         data := { span := 0, flow := 0, frame := 4, bytes := [] } }])] },
            ?_, ?_, ?_, ?_, rfl, ?_, rfl, ?_⟩ <;> decide +kernel,
    by refine ⟨0, 0, _, _, withWindow 1, ?_, ?_, ?_, ?_, rfl, ?_⟩ <;> decide +kernel,
    by refine ⟨0, 0, _, _, { withWindow 15 with plk.ports := [(0, { pt with health := .quarantine })] }, ?_, ?_, ?_,
            ?_, rfl, ?_⟩ <;> decide +kernel,
    by refine ⟨0, 0, _, _, { o0 with desc := 5, params := [0], loopsDone := true }, [],
            { withWindow 15 with
                seq.ops := [{ o0 with desc := 5, params := [0], loopsDone := true }],
                pln.sends := [(0, { span := 0, flow := 0, frame := 5, bytes := [1] })] }, ?_, ?_, ?_, ?_, rfl, ?_⟩
            <;> decide +kernel,
    by refine ⟨0, 0, _, _, withWindow 15, ?_, ?_, ?_, ?_, rfl, ?_, ?_, ?_, (fun _ _ h => nomatch (show ([] : List
            Op) = _ from h))⟩ <;> decide +kernel,
    by refine ⟨0, 0, _, _, _, _, { withWindow 15 with
                                     red.groups := [{ g0 with
                                                        edges :=
                                                            [{ tree := 0, target := 0, dst := 1, flow := some 0 }] }] },
            ?_, ?_, ?_, ?_, rfl, ?_, ?_, rfl⟩ <;> decide +kernel⟩

theorem witness_BeaconsAndElection :
    (∃ (s : State), s.clocked = true ∧ s.fab.election ≠ .notOpen) ∧
    (∃ (port : Fin 16) (b : Beacon) (s : State), s.clocked = true ∧ (s.port port.val).up = true ∧ s.fab.election ≠
            .halted ∧ (s.nbr port.val).miswired = false ∧ (12 ≤ port.val ∨ b.sheaf ≠ s.fab.sheaf ∨ b.pkg.toNat ≠
            neighbour s.self port.val ∨ b.port.toNat ≠ farPort port.val)) ∧
    (∃ (port : Fin 16) (b : Beacon) (s : State), s.clocked = true ∧ (s.nbr port.val).miswired = true ∧ port.val < 12
            ∧ b.sheaf = s.fab.sheaf ∧ b.pkg.toNat = neighbour s.self port.val ∧ b.port.toNat = farPort port.val) ∧
    (∃ (port : Fin 16) (b : Beacon) (u : State) (s : State), s.clocked = true ∧ (s.port port.val).up = true ∧
            s.fab.election = .closed ∧ (s.nbr port.val).miswired = false ∧ port.val < 12 ∧ b.sheaf = s.fab.sheaf ∧
            b.pkg.toNat = neighbour s.self port.val ∧ b.port.toNat = farPort port.val ∧ u = (s.updNbr port.val (fun
            n => { n with beacon := some b, rounds := 0 })).updFab (fun g =>
            { g with
                keys := (b.keys.filter (fun k => k.pkg.toNat != s.self && !(s.fab.dist.get {} k.pkg.toNat).dup &&
                    !(b.halted && k.pkg == b.pkg))).foldl (fun l k => takeKey k l) (if b.halted then
                    s.fab.keys.filter (fun x => x.1.pkg != b.pkg) else s.fab.keys) }) ∧ u.dupsIn b = []) ∧
    (∃ (pkg : Fin 128) (s : State), s.clocked = true ∧ (s.fab.dist.get {} pkg.val).dup = true ∧ 64 ≤ (s.fab.dist.get
            {} pkg.val).dupRounds) ∧
    (∃ (s : State), s.clocked = true) ∧
    (∃ (port : Fin 12) (s : State), s.clocked = true ∧ 8 < (s.nbr port.val).rounds) ∧
    (∃ (s : State), s.clocked = true ∧ s.fab.election = .opened ∧ 10 ≤ s.fab.opened ∧ s.frm.role ≠ .standalone ∧ (∀
            i, i < 12 → s.capable i = false ∧ (s.nbr i).beacon = none)) ∧
    (∃ (k : Key) (s : State), s.clocked = true ∧ s.fab.election = .opened ∧ 10 ≤ s.fab.opened ∧ (∃ i, i < 12 ∧
            s.capable i = true) ∧ s.keyList.head? = some k ∧ k.pkg.toNat ≠ s.self) ∧
    (∃ (k : Key) (rest : List Key) (s : State), s.clocked = true ∧ s.fab.election = .opened ∧ 10 ≤ s.fab.opened ∧ (∃
            i, i < 12 ∧ s.capable i = true) ∧ s.keyList = k :: rest ∧ k.pkg.toNat = s.self) ∧
    (∃ (l : Nat) (s : State), s.clocked = true ∧ s.fab.lostMaster = some l ∧ s.frm.role = .master) ∧
    (∃ (i : Nat) (s : State), s.clocked = true ∧ s.fab.election = .standalone ∧ i < 12 ∧ s.capable i = true) ∧
    (∃ (pkg : Fin 128) (s : State), s.clocked = true ∧ pkg.val ≠ s.self ∧ (s.fab.dist.get {} pkg.val).unreachable =
            false ∧ 4 ≤ (s.fab.dist.get {} pkg.val).farRounds) ∧
    (∃ (pkg : Fin 128) (s : State), s.clocked = true ∧ pkg.val ≠ s.self ∧ (s.fab.dist.get {} pkg.val).unreachable =
            true ∧ 4 ≤ (s.fab.dist.get {} pkg.val).nearRounds) :=
  ⟨⟨{ up with fab.election := .opened }, by decide +kernel⟩,
    ⟨0, { b0 with sheaf := 1 }, withPort pt, by decide +kernel⟩,
    ⟨0, b0, { withPort pt with fab.nbrs := [(0, { miswired := true })] }, by decide +kernel⟩,
    by refine ⟨0, b0, _, { withPort pt with fab.election := .closed }, ?_, ?_, ?_, ?_, ?_, ?_, ?_, ?_, rfl, ?_⟩
            <;> decide +kernel,
    ⟨0, { up with fab.dist := [(0, { dup := true, dupRounds := 64 })] }, by decide +kernel⟩,
    ⟨up, by decide +kernel⟩,
    ⟨0, { up with fab.nbrs := [(0, { rounds := 9 })] }, by decide +kernel⟩,
    ⟨{ up with fab.election := .opened, fab.opened := 10 }, by decide +kernel⟩,
    by refine ⟨{ pref := 15, pkg := 1, origin := 0 },
            { withElection .opened with fab.keys := [({ pref := 15, pkg := 1, origin := 0 }, 0)] }, ?_, ?_, ?_, ⟨0,
            by decide +kernel⟩, ?_⟩ <;> decide +kernel,
    by refine ⟨_, _, withElection .opened, ?_, ?_, ?_, ⟨0, by decide +kernel⟩, rfl, ?_⟩ <;> decide +kernel,
    ⟨1, { up with fab.lostMaster := some 1 }, by decide +kernel⟩,
    ⟨0, withElection .standalone, by decide +kernel⟩,
    ⟨1, { up with fab.dist := [(1, { unreachable := false, farRounds := 4 })] }, by decide +kernel⟩,
    ⟨1, { up with fab.dist := [(1, { nearRounds := 4 })] }, by decide +kernel⟩⟩

theorem witness_LeadsAndFlits :
    (∃ (span : BitVec 16) (x : Span) (s : State), s.clocked = true ∧ s.mgt.act ≠ .restoring ∧ s.span? span = some x
            ∧ x.lead ≠ s.self) ∧
    (∃ (span : BitVec 16) (x : Span) (s : State), s.clocked = true ∧ s.mgt.act ≠ .restoring ∧ s.span? span = some x
            ∧ x.lead = s.self) ∧
    (∃ (span : BitVec 16) (pkg : Fin 128) (x : Span) (s : State), s.clocked = true ∧ s.mgt.act ≠ .restoring ∧
            s.span? span = some x ∧ x.lead = s.self ∧ pkg.val ∈ x.ring) ∧
    (∃ (span : BitVec 16) (pkg : Fin 128) (x : Span) (s : State), s.clocked = true ∧ s.span? span = some x ∧ x.lead
            = s.self ∧ pkg.val ≠ s.self ∧ pkg.val ∈ x.ring ∧ (x.fromCreator.takeWhile (fun j => j !=
            pkg.val)).length ≤ (x.fromCreator.takeWhile (fun j => j != s.self)).length) ∧
    (∃ (span : BitVec 16) (pkg : Fin 128) (x : Span) (s : State), s.clocked = true ∧ s.span? span = some x ∧ (x.lead
            ≠ s.self ∨ (x.fromCreator.takeWhile (fun j => j != s.self)).length < (x.fromCreator.takeWhile (fun j =>
            j != pkg.val)).length)) ∧
    (∃ (port : Fin 12) (f : Flit) (rest : List Flit) (i : Nat) (s : State), s.clocked = true ∧ s.fab.control.get []
            port.val = f :: rest ∧ s.fab.election ≠ .halted ∧ s.portFor f = some i) ∧
    (∃ (port : Fin 12) (f : Flit) (rest : List Flit) (s : State), s.clocked = true ∧ s.fab.control.get [] port.val =
            f :: rest ∧ s.fab.election ≠ .halted ∧ s.portFor f = none) ∧
    (∃ (port : Fin 16) (h : Hello) (s : State), s.clocked = true ∧ (s.port port.val).up = true ∧ s.fab.election ≠
            .halted ∧ 12 ≤ port.val ∧ h.sheaf ≠ s.fab.sheaf ∧ (s.nbr port.val).miswired = false) ∧
    (∃ (o : Fin 4) (channel : BitVec 4) (bytes : List Byte) (s : State), s.clocked = true ∧ channel = 0 ∧ (s.port
            (12 + o.val)).up = true ∧ (s.nbr (12 + o.val)).miswired = false ∧ (s.port (12 + o.val)).health ≠
            .quarantine ∧ creditFlits bytes ≤ 16 ∧ creditFlits bytes ≤ (s.outer o.val).credits.toNat) ∧
    (∃ (o : Fin 4) (channel : BitVec 4) (bytes : List Byte) (s : State), s.clocked = true ∧ (channel ≠ 0 ∨ (s.port
            (12 + o.val)).up = false ∨ (s.nbr (12 + o.val)).miswired = true ∨ (s.port (12 + o.val)).health =
            .quarantine ∨ 16 < creditFlits bytes ∨ (s.outer o.val).credits.toNat < creditFlits bytes)) ∧
    (∃ (o : Fin 4) (channel : BitVec 4) (s : State), s.clocked = true ∧ (s.port (12 + o.val)).up = true ∧ (s.nbr (12
            + o.val)).miswired = false ∧ channel = 0) ∧
    (∃ (o : Fin 4) (channel : BitVec 4) (s : State), s.clocked = true ∧ (s.port (12 + o.val)).up = true ∧ (s.nbr (12
            + o.val)).miswired = false ∧ channel ≠ 0) ∧
    (∃ (o : Fin 4) (s : State), s.clocked = true ∧ (s.outer o.val).unreturned ≠ 0 ∧ (s.port (12 + o.val)).up = true) ∧
    (∃ (s : State), s.clocked = true) ∧
    (∃ (s : State), s.clocked = true ∧ s.fab.statusFrames < 1024) ∧
    (∃ (o : Nat) (bytes : List Byte) (s : State), s.clocked = true ∧ 1024 ≤ s.fab.statusFrames ∧ [0, 1, 2, 3].filter
            (fun o => (s.port (12 + o)).up && !(s.nbr (12 + o)).miswired) = [o] ∧ (s.port (12 + o)).health ≠
            .quarantine ∧ 1 ≤ (s.outer o).credits.toNat ∧ bytes = bytesLE 8 (s.frm.master.toNat + 256 *
            s.frm.epoch.toNat + 65536 * min 255 s.unreachables)) :=
  ⟨⟨0, { x0 with lead := 1 }, withSpan { x0 with lead := 1 }, by decide +kernel⟩,
    ⟨0, x0, withSpan x0, by decide +kernel⟩,
    ⟨0, 1, x0, withSpan x0, by decide +kernel⟩,
    ⟨0, 1, { x0 with creator := 1 }, withSpan { x0 with creator := 1 }, by decide +kernel⟩,
    ⟨0, 0, { x0 with lead := 1 }, withSpan { x0 with lead := 1 }, by decide +kernel⟩,
    ⟨0, { f0 with dst := some 1 }, [], 0,
            { withElection .closed with fab.control := [(0, [{ f0 with dst := some 1 }])] }, by decide +kernel⟩,
    ⟨0, { f0 with dst := some 5 }, [],
            { withElection .closed with fab.control := [(0, [{ f0 with dst := some 5 }])] }, by decide +kernel⟩,
    ⟨12, h0, { up with plk.ports := [(12, pt)] }, by decide +kernel⟩,
    by refine ⟨0, _, [], { up with plk.ports := [(12, pt)], fab.outer := [(0, { credits := 8 })] }, ?_, rfl, ?_⟩
            <;> decide +kernel,
    ⟨0, 1, [], up, by decide +kernel⟩,
    by refine ⟨0, _, { up with plk.ports := [(12, pt)] }, ?_, ?_, ?_, rfl⟩ <;> decide +kernel,
    ⟨0, 1, { up with plk.ports := [(12, pt)] }, by decide +kernel⟩,
    ⟨0, { up with plk.ports := [(12, pt)], fab.outer := [(0, { unreturned := 1 })] }, by decide +kernel⟩,
    ⟨up, by decide +kernel⟩,
    ⟨up, by decide +kernel⟩,
    by refine ⟨_, _,
            { up with plk.ports := [(12, pt)], fab.statusFrames := 1024, fab.outer := [(0, { credits := 8 })] }, ?_,
            ?_, rfl, ?_, ?_, rfl⟩ <;> decide +kernel⟩

set_option maxRecDepth 100000 in
theorem witness_PortsBringupAndReplay :
    (∃ (port : Fin 16) (lane : Fin 8) (s : State), s.clocked = true ∧ ((s.port port.val).link = .down ∨ (s.port
            port.val).health = .retired ∨ lane.val ∉ (s.port port.val).active)) ∧
    (∃ (port : Fin 16) (lane : Fin 8) (raw : BitVec 128) (between : List Byte) (skew : Nat) (s : State), s.clocked =
            true ∧ (s.port port.val).link ≠ .down ∧ (s.port port.val).health ≠ .retired ∧ lane.val ∈ (s.port
            port.val).active ∧ (s.port port.val).link ≠ .waking ∧ (((s.port port.val).lane lane.val).lock = .locked
            → (((s.port port.val).lane lane.val).marker raw between skew).lock = .locked)) ∧
    (∃ (port : Fin 16) (lane : Fin 8) (raw : BitVec 128) (between : List Byte) (skew : Nat) (s : State), s.clocked =
            true ∧ (s.port port.val).link = .up ∧ (s.port port.val).health ≠ .retired ∧ lane.val ∈ (s.port
            port.val).active ∧ ((s.port port.val).lane lane.val).lock = .locked ∧ (((s.port port.val).lane
            lane.val).marker raw between skew).lock ≠ .locked) ∧
    (∃ (port : Fin 16) (lane : Fin 8) (raw : BitVec 128) (between : List Byte) (skew : Nat) (u : State) (s : State),
            s.clocked = true ∧ (s.port port.val).link = .waking ∧ (s.port port.val).health ≠ .retired ∧ lane.val ∈
            (s.port port.val).active ∧ (((s.port port.val).lane lane.val).lock = .locked → (((s.port port.val).lane
            lane.val).marker raw between skew).lock = .locked) ∧ u = s.updPort port.val (fun p => p.updLane lane.val
            (fun l => l.marker raw between skew)) ∧ (u.port port.val).locked = true ∧ markerValid raw = true ∧
            markerTrain raw = false) ∧
    (∃ (port : Fin 16) (order : List (BitVec 3)) (s : State), s.clocked = true ∧ (s.port port.val).health ≠ .retired
            ∧ ((s.port port.val).link = .down ∨ (s.port port.val).link = .training) ∧ s.mgt.recovery = false ∧
            (s.por.bring = .selfTest ∨ s.por.bring = .running) ∧ laneOrderGood order = true) ∧
    (∃ (port : Fin 16) (order : List (BitVec 3)) (s : State), s.clocked = true ∧ (s.port port.val).health ≠ .retired
            ∧ ((s.port port.val).link = .down ∨ (s.port port.val).link = .training) ∧ s.mgt.recovery = false ∧
            (s.por.bring = .selfTest ∨ s.por.bring = .running) ∧ laneOrderGood order = false) ∧
    (∃ (port : Fin 16) (s : State), s.clocked = true ∧ ((s.port port.val).link = .down ∨ (s.port port.val).link =
            .training)) ∧
    (∃ (head : BitVec 96) (payload : BitVec 1920) (crc : BitVec 32) (said : Said) (s : State), s.clocked = true ∧
            flitOf (flitBits head payload crc) said = none) ∧
    (∃ (port : Fin 16) (head : BitVec 96) (payload : BitVec 1920) (crc : BitVec 32) (said : Said) (a : Arrival) (v :
            State) (u : State) (s : State), s.clocked = true ∧ (s.port port.val).up = true ∧ flitOf (flitBits head
            payload crc) said = some a ∧ a.flit.type = 0 ∧ v = s.updWork port.val (fun w =>
            { w with consecCrc := 0, idle := if a.flit.traffic then 0 else w.idle }) ∧ u =
            (match a.ack with | some q => v.acked port.val q | none => v)) ∧
    (∃ (port : Fin 16) (head : BitVec 96) (payload : BitVec 1920) (crc : BitVec 32) (said : Said) (a : Arrival) (v :
            State) (u : State) (s : State), s.clocked = true ∧ (s.port port.val).up = true ∧ flitOf (flitBits head
            payload crc) said = some a ∧ a.flit.type ≠ 0 ∧ a.flit.type ≠ 9 ∧ v = s.updWork port.val (fun w =>
            { w with consecCrc := 0, idle := if a.flit.traffic then 0 else w.idle }) ∧ u =
            (match a.ack with | some q => v.acked port.val q | none => v) ∧ a.seq = (u.work port.val).rxSeq) ∧
    (∃ (port : Fin 16) (head : BitVec 96) (payload : BitVec 1920) (crc : BitVec 32) (said : Said) (a : Arrival) (v :
            State) (u : State) (s : State), s.clocked = true ∧ (s.port port.val).up = true ∧ flitOf (flitBits head
            payload crc) said = some a ∧ a.flit.type ≠ 0 ∧ a.flit.type ≠ 9 ∧ v = s.updWork port.val (fun w =>
            { w with consecCrc := 0, idle := if a.flit.traffic then 0 else w.idle }) ∧ u =
            (match a.ack with | some q => v.acked port.val q | none => v) ∧ a.seq ≠ (u.work port.val).rxSeq) ∧
    (∃ (port : Fin 16) (head : BitVec 96) (payload : BitVec 1920) (crc : BitVec 32) (said : Said) (a : Arrival) (v :
            State) (u : State) (s : State), s.clocked = true ∧ (s.port port.val).up = true ∧ flitOf (flitBits head
            payload crc) said = some a ∧ a.flit.type = 9 ∧ a.flit.sub = 1 ∧ v = s.updWork port.val (fun w =>
            { w with consecCrc := 0, idle := if a.flit.traffic then 0 else w.idle }) ∧ u = v) ∧
    (∃ (port : Fin 16) (head : BitVec 96) (payload : BitVec 1920) (crc : BitVec 32) (said : Said) (a : Arrival) (m :
            Msg) (v : State) (u : State) (s : State), s.clocked = true ∧ (s.port port.val).up = true ∧ flitOf
            (flitBits head payload crc) said = some a ∧ a.flit.type = 9 ∧ a.flit.sub ≠ 1 ∧ a.flit.msg = some m ∧ v =
            s.updWork port.val (fun w => { w with consecCrc := 0, idle := if a.flit.traffic then 0 else w.idle }) ∧
            u = (match a.ack with | some q => v.acked port.val q | none => v)) ∧
    (∃ (port : Fin 16) (s : State), s.clocked = true ∧ (s.port port.val).link = .up) ∧
    (∃ (port : Fin 16) (s : State), s.clocked = true ∧ (s.work port.val).nakSent = true ∧ (s.port port.val).link =
            .up) ∧
    (∃ (port : Fin 16) (s : State), s.clocked = true ∧ (s.port port.val).link = .up ∧ (s.work port.val).replay = []) ∧
    (∃ (port : Fin 16) (u : State) (s : State), s.clocked = true ∧ (s.port port.val).link = .up ∧ (s.work
            port.val).replay ≠ [] ∧ u = (s.work port.val).replay.foldl (fun s r => s.sendLine port.val r.1 (s.work
            port.val).ack r.2.1) ((s.updPort port.val (fun p => { p with replays := satAdd p.replays 1 })).updWork
            port.val (fun w => { w with replay := w.replay.map (fun r => (r.1, r.2.1, r.2.2 + 1)) }))) ∧
    (∃ (port : Fin 16) (s : State), s.clocked = true ∧ (s.port port.val).link = .up ∧ (s.port port.val).health ≠
            .retired) ∧
    (∃ (port : Fin 16) (s : State), s.clocked = true ∧ (s.port port.val).link = .up ∧ (s.port port.val).health ≠
            .retired) ∧
    (∃ (port : Fin 16) (s : State), s.clocked = true ∧ (s.port port.val).link ≠ .up) ∧
    (∃ (port : Fin 16) (stamps : List (BitVec 16)) (u : State) (s : State), s.clocked = true ∧ (s.port
            port.val).link = .retrain ∧ (s.port port.val).locked = true ∧ u = (s.updPort port.val (fun p =>
            p.takeStamps stamps)).sendStamps port.val ∧ (u.work port.val).change = none) ∧
    (∃ (port : Fin 16) (closed : Bool) (s : State), s.clocked = true ∧ (s.port port.val).link = .retrain ∧ (closed =
            false ∨ (s.port port.val).locked = false) ∧ (s.work port.val).outsideBurst = false) ∧
    (∃ (port : Fin 16) (s : State), s.clocked = true ∧ (s.port port.val).link = .retrain ∧ (s.port port.val).health
            ≠ .retired ∧ (s.work port.val).restarts < 5) ∧
    (∃ (port : Fin 16) (s : State), s.clocked = true ∧ (s.port port.val).link = .retrain ∧ (s.port port.val).health
            ≠ .retired ∧ 5 ≤ (s.work port.val).restarts) :=
  ⟨⟨0, 0, up, by decide +kernel⟩,
    ⟨0, 0, 0, [], 0, withPort pt, by decide +kernel⟩,
    ⟨0, 0, 0, List.replicate 10880 0, 0, withPort
            { pt with lanes := (List.range 8).map (fun i => (i, { lock := .locked, train := true, misses := 3 })) },
            by decide +kernel⟩,
    by refine ⟨0, 0, alignmentMarker 0 false false 1 0, [], 0, _, withPort { pt with link := .waking }, ?_, ?_, ?_,
            ?_, ?_, rfl, ?_⟩ <;> decide +kernel,
    ⟨0, [0, 1, 2, 3, 4, 5, 6, 7], withPort {}, by decide +kernel⟩,
    ⟨0, [], up, by decide +kernel⟩,
    ⟨0, up, by decide +kernel⟩,
    ⟨0, 0, 0, .nothing, up, by decide +kernel⟩,
    by refine ⟨0, headOf flit0 0, payloadOf flit0 0, crcOf flit0 0, .nothing, arrived flit0 0, _, _, withPort pt,
            ?_, ?_, ?_, ?_, rfl, rfl⟩ <;> decide +kernel,
    by refine ⟨0, headOf ({ flit0 with type := 5, sub := 1 }) 0, payloadOf ({ flit0 with type := 5, sub := 1 }) 0,
            crcOf ({ flit0 with type := 5, sub := 1 }) 0, .nothing, arrived { flit0 with type := 5, sub := 1 } 0, _,
            _, withPort pt, ?_, ?_, ?_, ?_, ?_, rfl, rfl, ?_⟩ <;> decide +kernel,
    by refine ⟨0, headOf ({ flit0 with type := 5, sub := 1 }) 1, payloadOf ({ flit0 with type := 5, sub := 1 }) 1,
            crcOf ({ flit0 with type := 5, sub := 1 }) 1, .nothing, arrived { flit0 with type := 5, sub := 1 } 1, _,
            _, withPort pt, ?_, ?_, ?_, ?_, ?_, rfl, rfl, ?_⟩ <;> decide +kernel,
    by refine ⟨0, headOf ({ flit0 with type := 9, sub := 1 }) 0, payloadOf ({ flit0 with type := 9, sub := 1 }) 0,
            crcOf ({ flit0 with type := 9, sub := 1 }) 0, .nothing, arrived { flit0 with type := 9, sub := 1 } 0, _,
            _, withPort pt, ?_, ?_, ?_, ?_, ?_, rfl, rfl⟩ <;> decide +kernel,
    by refine ⟨0, headOf ({ flit0 with type := 9, sub := 2 }) 0, payloadOf ({ flit0 with type := 9, sub := 2 }) 0,
            crcOf ({ flit0 with type := 9, sub := 2 }) 0, .msg .tstamp, arrived
            { flit0 with type := 9, sub := 2, said := .msg .tstamp } 0, .tstamp, _, _, withPort pt, ?_, ?_, ?_, ?_,
            ?_, ?_, rfl, rfl⟩ <;> decide +kernel,
    ⟨0, withPort pt, by decide +kernel⟩,
    ⟨0, { withPort pt with plk.work := [(0, { nakSent := true })] }, by decide +kernel⟩,
    ⟨0, withPort pt, by decide +kernel⟩,
    by refine ⟨0, _, { withPort pt with plk.work := [(0, { replay := [(0, flit0, 0)] })] }, ?_, ?_, ?_, rfl⟩
            <;> decide +kernel,
    ⟨0, withPort pt, by decide +kernel⟩,
    ⟨0, withPort pt, by decide +kernel⟩,
    ⟨0, up, by decide +kernel⟩,
    by refine ⟨0, [], _, withPort { pt with link := .retrain }, ?_, ?_, ?_, rfl, ?_⟩ <;> decide +kernel,
    ⟨0, false, withPort { link := .retrain }, by decide +kernel⟩,
    ⟨0, withPort { pt with link := .retrain }, by decide +kernel⟩,
    ⟨0, { withPort { pt with link := .retrain } with plk.work := [(0, { restarts := 5 })] }, by decide +kernel⟩⟩

theorem witness_PortsBurstsAndWidth :
    (∃ (port : Fin 16) (u : State) (s : State), s.clocked = true ∧ (s.port port.val).link ≠ .down ∧ (s.port
            port.val).link ≠ .doze ∧ 4 ≤ (s.work port.val).recent.length ∧ (s.port port.val).burst = false ∧ (s.port
            port.val).health ≠ .retired ∧ u = (s.updPort port.val (fun p =>
            { p with
                burst := true, frozen := true, bursts := satAdd p.bursts 1,
                lanes := p.lanes.mapRow {} 8 (fun k l =>
                    { l with adapt := l.hist1, hit := (s.work port.val).recent.any (fun y => y.1 == k) }) })).updWork
            port.val (fun w => { w with
                                   burstsTotal := w.burstsTotal + 1, burstFrames := 0, recal := none,
                                   probBurst := (s.port port.val).probation,
                                   window := ((w.window.headD (0, false)).1, true) :: w.window.tail })) ∧
    (∃ (port : Fin 16) (s : State), s.clocked = true ∧ ((s.port port.val).link = .down ∨ (s.port port.val).link =
            .doze ∨ (s.work port.val).recent.length < 4 ∨ (s.port port.val).burst = true ∨ (s.port port.val).health
            = .retired)) ∧
    (∃ (port : Fin 16) (dur : BitVec 32) (u : State) (s : State), s.clocked = true ∧ (s.port port.val).burst = true
            ∧ (s.port port.val).locked = true ∧ u = (s.updPort port.val (fun p =>
            { p with burst := false, frozen := false })).updWork port.val (fun w =>
            { w with recal := some 4, burstDur := dur, probBurst := false, recent := [] })) ∧
    (∃ (port : Fin 16) (n : State) (u : State) (v : State) (s : State), s.clocked = true ∧ (s.port port.val).burst =
            true ∧ 8 ≤ (s.work port.val).burstFrames ∧ (s.port port.val).health ≠ .quarantine ∧ (s.port
            port.val).health ≠ .retired ∧ n = s.healthNotice port.val s.frm.count .quarantine (s.port
            port.val).width ∧ u = (n.updPort port.val (fun p => { p with health := .quarantine })).updWork port.val
            (fun w => { w with nextHealth := none, healthFrame := n.frm.count }) ∧ v = ((u.logEvent 0x0700 .none
            none [(0, port.val), (10, (u.port port.val).stateWord.toNat % 2 ^ 26)]).fireVec 0 5).dropData port.val) ∧
    (∃ (port : Fin 16) (margins : List (BitVec 12)) (u : State) (v : State) (s : State), s.clocked = true ∧ (s.work
            port.val).recal = some 0 ∧ u = (s.updPort port.val (fun p =>
            { p with lanes := p.lanes.mapRow {} 8 (fun l x => { x with margin := margins.getD l x.margin }) })) ∧ v
            = u.updWork port.val (fun w => { w with recal := none }) ∧ laneMask ((u.port port.val).active.filter
            (fun l => decide (((u.port port.val).lane l).margin.toNat < 170))) = 0 ∧ (s.work port.val).unsound =
            none ∧ (s.work port.val).change = none) ∧
    (∃ (port : Fin 16) (margins : List (BitVec 12)) (u : State) (s : State), s.clocked = true ∧ (s.work
            port.val).recal = some 0 ∧ u = (s.updPort port.val (fun p =>
            { p with lanes := p.lanes.mapRow {} 8 (fun l x => { x with margin := margins.getD l x.margin }) })) ∧
            laneMask ((u.port port.val).active.filter (fun l => decide (((u.port port.val).lane l).margin.toNat <
            170))) = 0 ∧ ((s.work port.val).unsound ≠ none ∨ (s.work port.val).change ≠ none)) ∧
    (∃ (port : Fin 16) (margins : List (BitVec 12)) (u : State) (s : State), s.clocked = true ∧ (s.work
            port.val).recal = some 0 ∧ u = (s.updPort port.val (fun p =>
            { p with lanes := p.lanes.mapRow {} 8 (fun l x => { x with margin := margins.getD l x.margin }) })) ∧
            laneMask ((u.port port.val).active.filter (fun l => decide (((u.port port.val).lane l).margin.toNat <
            170))) ≠ 0) ∧
    (∃ (port : Fin 16) (s : State), s.clocked = true ∧ (s.port port.val).probation = true ∧ (s.work
            port.val).probFrames = 0) ∧
    (∃ (port : Fin 16) (lane : Fin 8) (s : State), s.clocked = true ∧ (s.port port.val).link = .up ∧ lane.val ∈
            (s.port port.val).active) ∧
    (∃ (port : Fin 16) (unsound : BitVec 8) (u : BitVec 8) (s : State), s.clocked = true ∧ u = (s.work
            port.val).unsound.getD 0 ||| unsound ∧ (u ≠ 0 ∨ (s.work port.val).unsound ≠ none) ∧ (s.port
            port.val).health ≠ .retired ∧ (s.work port.val).change = none ∧ (s.port port.val).widthFor u ≠ .none) ∧
    (∃ (port : Fin 16) (unsound : BitVec 8) (u : BitVec 8) (s : State), s.clocked = true ∧ u = (s.work
            port.val).unsound.getD 0 ||| unsound ∧ (u ≠ 0 ∨ (s.work port.val).unsound ≠ none) ∧ (s.port
            port.val).health ≠ .retired ∧ (s.work port.val).change = none ∧ (s.port port.val).widthFor u = .none) ∧
    (∃ (port : Fin 16) (ch : WidthChange) (s : State), s.clocked = true ∧ (s.port port.val).health ≠ .retired ∧
            (s.work port.val).change = some ch ∧ ch.retraining = false) ∧
    (∃ (port : Fin 16) (s : State), s.clocked = true ∧ (s.port port.val).health ≠ .retired ∧ (s.work
            port.val).change = none) ∧
    (∃ (port : Fin 16) (ch : WidthChange) (s : State), s.clocked = true ∧ (s.work port.val).change = some ch ∧ 64 ≤
            ch.frames ∧ ch.retraining = false) ∧
    (∃ (s : State), s.clocked = true) ∧
    (∃ (s : State), s.clocked = true) :=
  ⟨by refine ⟨0, _, { withPort pt with plk.work := [(0, { recent := [(0, 0), (0, 0), (1, 0), (1, 0)] })] }, ?_, ?_,
            ?_, ?_, ?_, ?_, rfl⟩ <;> decide +kernel,
    ⟨0, up, by decide +kernel⟩,
    by refine ⟨0, 5, _, withPort { pt with burst := true }, ?_, ?_, ?_, rfl⟩ <;> decide +kernel,
    by refine ⟨12, _, _, _,
            { up with plk.ports := [(12, { pt with burst := true })], plk.work := [(12, { burstFrames := 8 })] },
            ?_, ?_, ?_, ?_, ?_, rfl, rfl, rfl⟩ <;> decide +kernel,
    by refine ⟨0, [], _, _, { withPort { link := .up, lanes := (List.range 8).map (fun i => (i, { lock := .locked, margin := 200 })) } with
                                plk.work := [(0, { recal := some 0 })] }, ?_, ?_, rfl, rfl, ?_⟩ <;> decide +kernel,
    by refine ⟨0, [], _, { withPort { link := .up, lanes := (List.range 8).map (fun i => (i, { lock := .locked, margin := 200 })) } with
                             plk.work := [(0, { recal := some 0, unsound := some 1 })] }, ?_, ?_, rfl, ?_⟩
            <;> decide +kernel,
    by refine ⟨0, [], _, { withPort pt with plk.work := [(0, { recal := some 0 })] }, ?_, ?_, rfl, ?_⟩
            <;> decide +kernel,
    ⟨0, withPort { pt with probation := true }, by decide +kernel⟩,
    ⟨0, 0, withPort pt, by decide +kernel⟩,
    by refine ⟨0, 1, _, withPort pt, ?_, rfl, ?_⟩ <;> decide +kernel,
    by refine ⟨0, 17, _, withPort pt, ?_, rfl, ?_⟩ <;> decide +kernel,
    ⟨0, { unsound := 1 }, { withPort pt with plk.work := [(0, { change := some { unsound := 1 } })] },
            by decide +kernel⟩,
    ⟨0, up, by decide +kernel⟩,
    ⟨0, { unsound := 1, frames := 64 },
            { withPort pt with plk.work := [(0, { change := some { unsound := 1, frames := 64 } })] },
            by decide +kernel⟩,
    ⟨up, by decide +kernel⟩,
    ⟨up, by decide +kernel⟩⟩

theorem witness_PortsDozing :
    (∃ (port : Fin 16) (s : State), s.clocked = true ∧ s.dozeOk port.val = true ∧ (s.work port.val).dozing = false) ∧
    (∃ (port : Fin 16) (s : State), s.clocked = true ∧ s.dozeOk port.val = false) ∧
    (∃ (port : Fin 16) (s : State), s.clocked = true ∧ (s.port port.val).link = .up ∧ s.dozeOk port.val = true ∧
            (s.work port.val).sentAck = false ∧ (s.work port.val).sentWake = false) ∧
    (∃ (port : Fin 16) (s : State), s.clocked = true ∧ (s.port port.val).link = .up ∧ s.dozeOk port.val = false) ∧
    (∃ (port : Fin 16) (s : State), s.clocked = true ∧ (s.port port.val).link = .up ∧ (s.work port.val).dozing =
            true ∧ (s.work port.val).sentWake = false ∧ (s.work port.val).sentAck = false ∧ s.dozeOk port.val =
            true) ∧
    (∃ (port : Fin 16) (s : State), s.clocked = true ∧ (s.port port.val).link = .up ∧ (s.work port.val).dozing =
            true ∧ (s.work port.val).sentWake = false ∧ (s.work port.val).sentAck = true) ∧
    (∃ (port : Fin 16) (s : State), s.clocked = true ∧ (s.port port.val).link = .doze) ∧
    (∃ (port : Fin 16) (s : State), s.clocked = true ∧ (s.port port.val).link = .dozeEntry) ∧
    (∃ (port : Fin 16) (s : State), s.clocked = true ∧ (s.port port.val).link = .up ∧ (s.work port.val).sentAck =
            true) ∧
    (∃ (port : Fin 16) (s : State), s.clocked = true ∧ (s.port port.val).link = .dozeEntry) ∧
    (∃ (port : Fin 16) (s : State), s.clocked = true ∧ (s.port port.val).link = .dozeEntry ∧ (s.work
            port.val).replay = [] ∧ (s.work port.val).wakeLatched = false) ∧
    (∃ (port : Fin 16) (s : State), s.clocked = true ∧ (s.port port.val).link = .dozeEntry ∧ (s.work
            port.val).replay = [] ∧ (s.work port.val).wakeLatched = true) ∧
    (∃ (port : Fin 16) (s : State), s.clocked = true ∧ (s.port port.val).link = .waking) :=
  ⟨⟨1, { up with ten.parts := [], plk.ports := [(1, pt)], plk.work := [(1, { idle := 256 })] }, by decide +kernel⟩,
    ⟨0, up, by decide +kernel⟩,
    ⟨1, { up with ten.parts := [], plk.ports := [(1, pt)], plk.work := [(1, { idle := 256 })] }, by decide +kernel⟩,
    ⟨0, withPort pt, by decide +kernel⟩,
    ⟨1, { up with ten.parts := [], plk.ports := [(1, pt)], plk.work := [(1, { idle := 256, sentReq := true })] },
            by decide +kernel⟩,
    ⟨0, { withPort pt with plk.work := [(0, { sentAck := true })] }, by decide +kernel⟩,
    ⟨0, withPort { pt with link := .doze }, by decide +kernel⟩,
    ⟨0, withPort { pt with link := .dozeEntry }, by decide +kernel⟩,
    ⟨0, { withPort pt with plk.work := [(0, { sentAck := true })] }, by decide +kernel⟩,
    ⟨0, withPort { pt with link := .dozeEntry }, by decide +kernel⟩,
    ⟨0, withPort { pt with link := .dozeEntry }, by decide +kernel⟩,
    ⟨0, { withPort { pt with link := .dozeEntry } with plk.work := [(0, { wakeLatched := true })] },
            by decide +kernel⟩,
    ⟨0, withPort { pt with link := .waking }, by decide +kernel⟩⟩

theorem witness_OperationsAreIssued :
    (∃ (die : Die) (pre : List Nat) (post : List Nat) (p : Nat) (c : Cand) (d : Desc) (rest : List (Cand × Desc)) (u
            : State) (s : State), s.clocked = true ∧ u = s.bindWaiting die.num ∧ (List.range 16).map (fun i => ((if
            die.num = 0 then u.pwr.rrW else u.pwr.rrE) + i) % 16) = pre ++ p :: post ∧ (∀ q ∈ pre, u.readyList q
            die.num = []) ∧ u.readyList p die.num = (c, d) :: rest ∧ (u.pwrp p).lock die.num = none ∧ u.fits p
            die.num c d = true) ∧
    (∃ (die : Die) (u : State) (s : State), s.clocked = true ∧ u = s.bindWaiting die.num ∧ (∀ q < 16, u.readyList q
            die.num = [])) ∧
    (∃ (die : Die) (p : Fin 16) (c : Cand) (d : Desc) (rest : List (Cand × Desc)) (s : State), s.clocked = true ∧
            s.readyList p.val die.num = (c, d) :: rest ∧ (s.pwrp p.val).lock die.num = none ∧ s.timesPassed p.val c
            ≠ 0 ∧ (s.pwrp p.val).load die.num < s.candCost p.val c d ∧ 0 ≤ (s.pwrp p.val).bal die.num ∧ (∀ o, o ∈
            s.opsOf p.val → o.die ≠ die.num)) ∧
    (∃ (die : Die) (p : Fin 16) (s : State), s.clocked = true ∧ s.readyList p.val die.num = []) ∧
    (∃ (p : Fin 16) (c : Cand) (j : Job) (u : State) (bs : List Byte) (s : State), s.clocked = true ∧ (s.cands
            p.val).find? (fun c => c.desc.isNone) = some c ∧ s.candJob c = some j ∧ s.readDva
            { die := s.fetchDie p.val, tag := BitVec.ofNat 10 (tagOf p.val c.ctx), ticket := c.ticket, slot := 0,
              fetch := some (c.uid, c.index) } (j.list.toNat + 128 * c.index) 128 = (u, .ok bs)) ∧
    (∃ (p : Fin 16) (c : Cand) (j : Job) (u : State) (r : FaultRec) (s : State), s.clocked = true ∧ (s.cands
            p.val).find? (fun c => c.desc.isNone) = some c ∧ s.candJob c = some j ∧ s.readDva
            { die := s.fetchDie p.val, tag := BitVec.ofNat 10 (tagOf p.val c.ctx), ticket := c.ticket, slot := 0,
              fetch := some (c.uid, c.index) } (j.list.toNat + 128 * c.index) 128 = (u, .fault r)) ∧
    (∃ (p : Fin 16) (c : Cand) (j : Job) (u : State) (s : State), s.clocked = true ∧ (s.cands p.val).find? (fun c =>
            c.desc.isNone) = some c ∧ s.candJob c = some j ∧ s.readDva
            { die := s.fetchDie p.val, tag := BitVec.ofNat 10 (tagOf p.val c.ctx), ticket := c.ticket, slot := 0,
              fetch := some (c.uid, c.index) } (j.list.toNat + 128 * c.index) 128 = (u, .wait)) ∧
    (∃ (die : Die) (ns : Nat) (o : Op) (behind : List Op) (need : Nat) (s : State), s.clocked = true ∧ askingStart
            die.num [] s.seq.ops = o :: behind ∧ need = (o.desc.engines.map (fun e => s.scaled (o.desc.currentMa e)
            - ((s.pwr.fillOf o.desc.tiller e).map (fun f => f.current)).getD 0)).foldl (· + ·) 0 ∧ slewBudget <
            usedSlew die.num ns s.pwr.grants + need) ∧
    (∃ (die : Die) (ns : Nat) (o : Op) (behind : List Op) (need : Nat) (s : State), s.clocked = true ∧ askingStart
            die.num [] s.seq.ops = o :: behind ∧ need = (o.desc.engines.map (fun e => s.scaled (o.desc.currentMa e)
            - ((s.pwr.fillOf o.desc.tiller e).map (fun f => f.current)).getD 0)).foldl (· + ·) 0 ∧ usedSlew die.num
            ns s.pwr.grants + need ≤ slewBudget) ∧
    (∃ (s : State), s.clocked = true) ∧
    (∃ (die : Die) (ns : Nat) (f : Fill) (s : State), s.clocked = true ∧ s.pwr.fills.find? (fun f => tillerDie
            f.tiller == die.num && f.hold.isNone) = some f ∧ usedSlew die.num ns s.pwr.releases + f.current ≤
            slewBudget) ∧
    (∃ (die : Die) (ns : Nat) (f : Fill) (s : State), s.clocked = true ∧ s.pwr.fills.find? (fun f => tillerDie
            f.tiller == die.num && f.hold.isNone) = some f ∧ slewBudget < usedSlew die.num ns s.pwr.releases +
            f.current) ∧
    (∃ (p : Fin 16) (slot : Fin 16) (x : SfuSlot) (bs : List Byte) (s : State), s.clocked = true ∧ s.sfuSlot
            (slotKey p.val slot.val) = x ∧ x.nextLoad = some bs ∧ x.written = false ∧ s.seq.ops.any (fun o => o.part
            == p.val && o.latches (slotKey p.val slot.val) (!x.active)) = false) :=
  ⟨by refine ⟨.w, [], _, 0, { seq := 0, uid := 0, copy := false, index := 0, ctx := 0, ticket := 0,
                               desc := some (BitVec.ofNat 1024 255) }, 255, [], _, withJob j0 (some 255), ?_, rfl,
            rfl, (by simp), ?_⟩ <;> decide +kernel,
    by refine ⟨.w, _, up, ?_, rfl, ?_⟩ <;> decide +kernel,
    by refine ⟨.w, 0, { seq := 0, uid := 0, copy := false, index := 0, ctx := 0, ticket := 0,
                        desc := some (BitVec.ofNat 1024 (0x20A + 2 ^ 64 + 2 ^ 640 + 2 ^ 672 + 2 ^ 704 + 2 ^ 736)) },
            BitVec.ofNat 1024 (0x20A + 2 ^ 64 + 2 ^ 640 + 2 ^ 672 + 2 ^ 704 + 2 ^ 736), [], withJob
            { j0 with passed := [(0, 1)] } (some (0x20A + 2 ^ 64 + 2 ^ 640 + 2 ^ 672 + 2 ^ 704 + 2 ^ 736)), ?_, ?_,
            ?_, ?_, ?_, ?_, fun _ h => nomatch (show _ ∈ ([] : List Op) from h)⟩ <;> decide +kernel,
    ⟨.w, 0, up, by decide +kernel⟩,
    by refine ⟨0, _, _, _, _, withJob j0 none, ?_, rfl, rfl, rfl⟩ <;> decide +kernel,
    by refine ⟨0, _, _, _, _, { withJob j0 none with xlt.dev := [] }, ?_, rfl, rfl, rfl⟩ <;> decide +kernel,
    by refine ⟨0, _, _, _, { withJob { j0 with list := 2 ^ 50 } none with pcie.refclk := false }, ?_, rfl, rfl, rfl⟩
            <;> decide +kernel,
    by refine ⟨.w, 0, { o0 with desc := 1 ||| (1 <<< 19) }, [], _,
            { withOp { o0 with desc := 1 ||| (1 <<< 19) } with pwr.grants := [(0, 0, 1400000)] }, ?_, ?_, rfl, ?_⟩
            <;> decide +kernel,
    by refine ⟨.w, 0, { o0 with desc := 1 ||| (1 <<< 19) }, [], _, withOp { o0 with desc := 1 ||| (1 <<< 19) }, ?_,
            ?_, rfl, ?_⟩ <;> decide +kernel,
    ⟨up, by decide +kernel⟩,
    ⟨.w, 0, { tiller := 0, engine := 0, part := 0, current := 5, hold := none, pj := 0, full := 0 },
            { up with
                pwr.fills :=
                    [{ tiller := 0, engine := 0, part := 0, current := 5, hold := none, pj := 0, full := 0 }] },
            by decide +kernel⟩,
    ⟨.w, 0, { tiller := 0, engine := 0, part := 0, current := 5, hold := none, pj := 0, full := 0 },
            { up with
                pwr.fills :=
                    [{ tiller := 0, engine := 0, part := 0, current := 5, hold := none, pj := 0, full := 0 }],
                pwr.releases := [(0, 0, 1400000)] }, by decide +kernel⟩,
    ⟨0, 0, { acts := [.load c0 []] }, [], { up with sfu := [(0, { acts := [.load c0 []] })] }, by decide +kernel⟩⟩

theorem witness_EnginesCompleteTiles :
    (∃ (id : Nat) (o : Op) (w : QueueWait) (ws : List QueueWait) (s : State), s.clocked = true ∧ s.op? id = some o ∧
            o.desc.kind = 0x01 ∧ o.started = true ∧ o.loopsDone = false ∧ o.waits = [] ∧ o.mulPops = w :: ws) ∧
    (∃ (id : Nat) (o : Op) (w : QueueWait) (ws : List QueueWait) (s : State), s.clocked = true ∧ s.op? id = some o ∧
            o.desc.kind = 0x02 ∧ o.desc.variant ≠ 8 ∧ o.started = true ∧ o.loopsDone = false ∧ o.waits = [] ∧
            o.attnPops = w :: ws) ∧
    (∃ (id : Nat) (o : Op) (w : QueueWait) (ws : List QueueWait) (s : State), s.clocked = true ∧ s.op? id = some o ∧
            o.desc.kind = 0x04 ∧ o.started = true ∧ o.loopsDone = false ∧ o.waits = [] ∧ o.needsInputs ++
            o.needsFree = w :: ws) ∧
    (∃ (id : Nat) (o : Op) (w : QueueWait) (ws : List QueueWait) (s : State), s.clocked = true ∧ s.op? id = some o ∧
            o.desc.kind = 5 ∧ o.started = true ∧ o.loopsDone = false ∧ o.waits = [] ∧ o.needsInputs = w :: ws) ∧
    (∃ (id : Nat) (o : Op) (w : QueueWait) (ws : List QueueWait) (s : State), s.clocked = true ∧ s.op? id = some o ∧
            o.desc.kind = 6 ∧ o.started = true ∧ o.loopsDone = false ∧ o.waits = [] ∧ o.needsFree = w :: ws) ∧
    (∃ (id : Nat) (o : Op) (w : QueueWait) (ws : List QueueWait) (s : State), s.clocked = true ∧ s.op? id = some o ∧
            o.desc.kind = 8 ∧ o.started = true ∧ o.loopsDone = false ∧ o.waits = [] ∧ o.mulPops = w :: ws) ∧
    (∃ (id : Nat) (o : Op) (w : QueueWait) (ws : List QueueWait) (s : State), s.clocked = true ∧ s.op? id = some o ∧
            Op.isCopy 0 o = true ∧ o.started = true ∧ o.loopsDone = false ∧ o.waits = [] ∧ o.copyPops = w :: ws) ∧
    (∃ (id : Nat) (o : Op) (w : QueueWait) (ws : List QueueWait) (s : State), s.clocked = true ∧ s.op? id = some o ∧
            Op.isCopy 3 o = true ∧ o.started = true ∧ o.loopsDone = false ∧ o.waits = [] ∧ o.needsFree = w :: ws) ∧
    (∃ (id : Nat) (o : Op) (u : State) (o' : Op) (s : State), s.clocked = true ∧ s.op? id = some o ∧ o.desc.kind =
            0x01 ∧ o.started = true ∧ o.loopsDone = false ∧ o.waits = [] ∧ o.mulPops = [] ∧ (s.tileStart id).mulTile
            o = (u, .ok o')) ∧
    (∃ (id : Nat) (o : Op) (u : State) (r : FaultRec) (s : State), s.clocked = true ∧ s.op? id = some o ∧
            o.desc.kind = 0x01 ∧ o.started = true ∧ o.loopsDone = false ∧ o.waits = [] ∧ o.mulPops = [] ∧
            (s.tileStart id).mulTile o = (u, .fault r)) ∧
    (∃ (id : Nat) (o : Op) (u : State) (s : State), s.clocked = true ∧ s.op? id = some o ∧ o.desc.kind = 0x01 ∧
            o.started = true ∧ o.loopsDone = false ∧ o.waits = [] ∧ o.mulPops = [] ∧ (s.tileStart id).mulTile o =
            (u, .wait)) ∧
    (∃ (id : Nat) (o : Op) (u : State) (o' : Op) (s : State), s.clocked = true ∧ s.op? id = some o ∧ o.desc.kind =
            0x02 ∧ o.desc.variant ≠ 8 ∧ o.started = true ∧ o.loopsDone = false ∧ o.waits = [] ∧ o.attnPops = [] ∧
            gotThen (((s.tileStart id).keyHandle o).2.bucketEntry ((s.tileStart id).keyHandle o).1) (fun o s =>
            s.fwdTile o) = (u, .ok o')) ∧
    (∃ (id : Nat) (o : Op) (u : State) (r : FaultRec) (s : State), s.clocked = true ∧ s.op? id = some o ∧
            o.desc.kind = 0x02 ∧ o.desc.variant ≠ 8 ∧ o.started = true ∧ o.loopsDone = false ∧ o.waits = [] ∧
            o.attnPops = [] ∧ gotThen (((s.tileStart id).keyHandle o).2.bucketEntry ((s.tileStart id).keyHandle
            o).1) (fun o s => s.fwdTile o) = (u, .fault r)) ∧
    (∃ (id : Nat) (o : Op) (u : State) (s : State), s.clocked = true ∧ s.op? id = some o ∧ o.desc.kind = 0x02 ∧
            o.desc.variant ≠ 8 ∧ o.started = true ∧ o.loopsDone = false ∧ o.waits = [] ∧ o.attnPops = [] ∧ gotThen
            (((s.tileStart id).keyHandle o).2.bucketEntry ((s.tileStart id).keyHandle o).1) (fun o s => s.fwdTile o)
            = (u, .wait)) ∧
    (∃ (id : Nat) (o : Op) (u : State) (o' : Op) (s : State), s.clocked = true ∧ s.op? id = some o ∧ o.desc.kind =
            0x04 ∧ o.started = true ∧ o.loopsDone = false ∧ o.waits = [] ∧ o.needsInputs ++ o.needsFree = [] ∧
            (s.tileStart id).sfuTile o = (u, .ok o')) ∧
    (∃ (id : Nat) (o : Op) (u : State) (r : FaultRec) (s : State), s.clocked = true ∧ s.op? id = some o ∧
            o.desc.kind = 0x04 ∧ o.started = true ∧ o.loopsDone = false ∧ o.waits = [] ∧ o.needsInputs ++
            o.needsFree = [] ∧ (s.tileStart id).sfuTile o = (u, .fault r)) ∧
    (∃ (id : Nat) (o : Op) (u : State) (s : State), s.clocked = true ∧ s.op? id = some o ∧ o.desc.kind = 0x04 ∧
            o.started = true ∧ o.loopsDone = false ∧ o.waits = [] ∧ o.needsInputs ++ o.needsFree = [] ∧ (s.tileStart
            id).sfuTile o = (u, .wait)) ∧
    (∃ (id : Nat) (o : Op) (u : State) (o' : Op) (s : State), s.clocked = true ∧ s.op? id = some o ∧ o.desc.kind = 5
            ∧ o.started = true ∧ o.loopsDone = false ∧ o.waits = [] ∧ o.needsInputs = [] ∧ (s.tileStart id).sendTile
            o = (u, .ok o')) ∧
    (∃ (id : Nat) (o : Op) (u : State) (r : FaultRec) (s : State), s.clocked = true ∧ s.op? id = some o ∧
            o.desc.kind = 5 ∧ o.started = true ∧ o.loopsDone = false ∧ o.waits = [] ∧ o.needsInputs = [] ∧
            (s.tileStart id).sendTile o = (u, .fault r)) ∧
    (∃ (id : Nat) (o : Op) (u : State) (s : State), s.clocked = true ∧ s.op? id = some o ∧ o.desc.kind = 5 ∧
            o.started = true ∧ o.loopsDone = false ∧ o.waits = [] ∧ o.needsInputs = [] ∧ (s.tileStart id).sendTile o
            = (u, .wait)) ∧
    (∃ (id : Nat) (o : Op) (u : State) (o' : Op) (s : State), s.clocked = true ∧ s.op? id = some o ∧ o.desc.kind = 6
            ∧ o.started = true ∧ o.loopsDone = false ∧ o.waits = [] ∧ o.needsFree = [] ∧ (s.tileStart
            id).receiveTile o = (u, .ok o')) ∧
    (∃ (id : Nat) (o : Op) (u : State) (r : FaultRec) (s : State), s.clocked = true ∧ s.op? id = some o ∧
            o.desc.kind = 6 ∧ o.started = true ∧ o.loopsDone = false ∧ o.waits = [] ∧ o.needsFree = [] ∧
            (s.tileStart id).receiveTile o = (u, .fault r)) ∧
    (∃ (id : Nat) (o : Op) (u : State) (s : State), s.clocked = true ∧ s.op? id = some o ∧ o.desc.kind = 6 ∧
            o.started = true ∧ o.loopsDone = false ∧ o.waits = [] ∧ o.needsFree = [] ∧ (s.tileStart id).receiveTile
            o = (u, .wait)) ∧
    (∃ (id : Nat) (o : Op) (u : State) (o' : Op) (s : State), s.clocked = true ∧ s.op? id = some o ∧ o.desc.kind = 8
            ∧ o.started = true ∧ o.loopsDone = false ∧ o.waits = [] ∧ o.mulPops = [] ∧ (s.tileStart id).fusedTile o
            = (u, .ok o')) ∧
    (∃ (id : Nat) (o : Op) (u : State) (r : FaultRec) (s : State), s.clocked = true ∧ s.op? id = some o ∧
            o.desc.kind = 8 ∧ o.started = true ∧ o.loopsDone = false ∧ o.waits = [] ∧ o.mulPops = [] ∧ (s.tileStart
            id).fusedTile o = (u, .fault r)) ∧
    (∃ (id : Nat) (o : Op) (u : State) (s : State), s.clocked = true ∧ s.op? id = some o ∧ o.desc.kind = 8 ∧
            o.started = true ∧ o.loopsDone = false ∧ o.waits = [] ∧ o.mulPops = [] ∧ (s.tileStart id).fusedTile o =
            (u, .wait)) ∧
    (∃ (id : Nat) (o : Op) (u : State) (o' : Op) (s : State), s.clocked = true ∧ s.op? id = some o ∧ o.desc.kind = 9
            ∧ o.started = true ∧ o.loopsDone = false ∧ o.waits = [] ∧ (if o.desc.sends then (s.tileStart
            id).sendTile o else (s.tileStart id).receiveTile o) = (u, .ok o')) ∧
    (∃ (id : Nat) (o : Op) (u : State) (r : FaultRec) (s : State), s.clocked = true ∧ s.op? id = some o ∧
            o.desc.kind = 9 ∧ o.started = true ∧ o.loopsDone = false ∧ o.waits = [] ∧ (if o.desc.sends then
            (s.tileStart id).sendTile o else (s.tileStart id).receiveTile o) = (u, .fault r)) ∧
    (∃ (id : Nat) (o : Op) (u : State) (s : State), s.clocked = true ∧ s.op? id = some o ∧ o.desc.kind = 9 ∧
            o.started = true ∧ o.loopsDone = false ∧ o.waits = [] ∧ (if o.desc.sends then (s.tileStart id).sendTile
            o else (s.tileStart id).receiveTile o) = (u, .wait)) ∧
    (∃ (id : Nat) (o : Op) (u : State) (o' : Op) (s : State), s.clocked = true ∧ s.op? id = some o ∧ Op.isCopy 0 o =
            true ∧ o.started = true ∧ o.loopsDone = false ∧ o.waits = [] ∧ o.copyPops = [] ∧ (s.tileStart
            id).copyTile o = (u, .ok o')) ∧
    (∃ (id : Nat) (o : Op) (u : State) (r : FaultRec) (s : State), s.clocked = true ∧ s.op? id = some o ∧ Op.isCopy
            0 o = true ∧ o.started = true ∧ o.loopsDone = false ∧ o.waits = [] ∧ o.copyPops = [] ∧ (s.tileStart
            id).copyTile o = (u, .fault r)) ∧
    (∃ (id : Nat) (o : Op) (u : State) (s : State), s.clocked = true ∧ s.op? id = some o ∧ Op.isCopy 0 o = true ∧
            o.started = true ∧ o.loopsDone = false ∧ o.waits = [] ∧ o.copyPops = [] ∧ (s.tileStart id).copyTile o =
            (u, .wait)) ∧
    (∃ (id : Nat) (o : Op) (u : State) (o' : Op) (s : State), s.clocked = true ∧ s.op? id = some o ∧ Op.isCopy 3 o =
            true ∧ o.started = true ∧ o.loopsDone = false ∧ o.waits = [] ∧ o.needsFree = [] ∧ (s.tileStart
            id).copyOut o (List.replicate o.desc.tm (List.replicate o.desc.tn 0)) = (u, .ok o')) ∧
    (∃ (id : Nat) (o : Op) (u : State) (r : FaultRec) (s : State), s.clocked = true ∧ s.op? id = some o ∧ Op.isCopy
            3 o = true ∧ o.started = true ∧ o.loopsDone = false ∧ o.waits = [] ∧ o.needsFree = [] ∧ (s.tileStart
            id).copyOut o (List.replicate o.desc.tm (List.replicate o.desc.tn 0)) = (u, .fault r)) ∧
    (∃ (id : Nat) (o : Op) (u : State) (s : State), s.clocked = true ∧ s.op? id = some o ∧ Op.isCopy 3 o = true ∧
            o.started = true ∧ o.loopsDone = false ∧ o.waits = [] ∧ o.needsFree = [] ∧ (s.tileStart id).copyOut o
            (List.replicate o.desc.tm (List.replicate o.desc.tn 0)) = (u, .wait)) :=
  ⟨⟨0, op (1 + 2 ^ 105), .in0, [], withOp (op (1 + 2 ^ 105)), by decide +kernel⟩,
    ⟨0, op (2 + 2 ^ 105 + 2 ^ 308), .in0, [], withOp (op (2 + 2 ^ 105 + 2 ^ 308)), by decide +kernel⟩,
    ⟨0, op (4 + 2 ^ 105), .in0, [], withOp (op (4 + 2 ^ 105)), by decide +kernel⟩,
    ⟨0, op (5 + 2 ^ 105), .in0, [], withOp (op (5 + 2 ^ 105)), by decide +kernel⟩,
    ⟨0, op (6 + 2 ^ 137 + 2 ^ 372), .free, [], withOp (op (6 + 2 ^ 137 + 2 ^ 372)), by decide +kernel⟩,
    ⟨0, op (8 + 2 ^ 105), .in0, [], withOp (op (8 + 2 ^ 105)), by decide +kernel⟩,
    ⟨0, op (10 + 2 ^ 105), .in0, [], withOp (op (10 + 2 ^ 105)), by decide +kernel⟩,
    ⟨0, op (0x30A + 2 ^ 137 + 2 ^ 372), .free, [], withOp (op (0x30A + 2 ^ 137 + 2 ^ 372)), by decide +kernel⟩,
    by refine ⟨0, op 1, _, _, withOp (op 1), ?_, ?_, ?_, ?_, ?_, ?_, ?_, ok_eq o0 ?_⟩ <;> decide +kernel,
    by refine ⟨0, tile1 1, _, _, noPages (tile1 1), ?_, ?_, ?_, ?_, ?_, ?_, ?_, fault_eq ?_⟩ <;> decide +kernel,
    by refine ⟨0, tileH 1, _, noClock (tileH 1), ?_, ?_, ?_, ?_, ?_, ?_, ?_, wait_eq ?_⟩ <;> decide +kernel,
    by refine ⟨0, op 2, _, _, withOp (op 2), ?_, ?_, ?_, ?_, ?_, ?_, ?_, ?_, ok_eq o0 ?_⟩ <;> decide +kernel,
    by refine ⟨0, { op 2 with params := [2 ^ 448] }, _, _, noPages { op 2 with params := [2 ^ 448] }, ?_, ?_, ?_,
            ?_, ?_, ?_, ?_, ?_, fault_eq ?_⟩ <;> decide +kernel,
    by refine ⟨0, { op 2 with params := [2 ^ 498] }, _, noClock { op 2 with params := [2 ^ 498] }, ?_, ?_, ?_, ?_,
            ?_, ?_, ?_, ?_, wait_eq ?_⟩ <;> decide +kernel,
    by refine ⟨0, op 4, _, _, withOp (op 4), ?_, ?_, ?_, ?_, ?_, ?_, ?_, ok_eq o0 ?_⟩ <;> decide +kernel,
    by refine ⟨0, tile1 4, _, _, noPages (tile1 4), ?_, ?_, ?_, ?_, ?_, ?_, ?_, fault_eq ?_⟩ <;> decide +kernel,
    by refine ⟨0, tileH 4, _, noClock (tileH 4), ?_, ?_, ?_, ?_, ?_, ?_, ?_, wait_eq ?_⟩ <;> decide +kernel,
    by refine ⟨0, op 5, _, _, withOp (op 5), ?_, ?_, ?_, ?_, ?_, ?_, ?_, ok_eq o0 ?_⟩ <;> decide +kernel,
    by refine ⟨0, tile1 5, _, _, noPages (tile1 5), ?_, ?_, ?_, ?_, ?_, ?_, ?_, fault_eq ?_⟩ <;> decide +kernel,
    by refine ⟨0, tileH 5, _, noClock (tileH 5), ?_, ?_, ?_, ?_, ?_, ?_, ?_, wait_eq ?_⟩ <;> decide +kernel,
    by refine ⟨0, op 6, _, _, withOp (op 6), ?_, ?_, ?_, ?_, ?_, ?_, ?_, ok_eq o0 ?_⟩ <;> decide +kernel,
    by refine ⟨0, tile1 6, _, _,
            { noPages (tile1 6) with pln.arrived := [{ span := 0, flow := 0, frame := 0, bytes := [1] }] }, ?_, ?_,
            ?_, ?_, ?_, ?_, ?_, fault_eq ?_⟩ <;> decide +kernel,
    by refine ⟨0, tileH 6, _, noClock (tileH 6), ?_, ?_, ?_, ?_, ?_, ?_, ?_, wait_eq ?_⟩ <;> decide +kernel,
    by refine ⟨0, op 8, _, _, withOp (op 8), ?_, ?_, ?_, ?_, ?_, ?_, ?_, ok_eq o0 ?_⟩ <;> decide +kernel,
    by refine ⟨0, tile1 8, _, _, noPages (tile1 8), ?_, ?_, ?_, ?_, ?_, ?_, ?_, fault_eq ?_⟩ <;> decide +kernel,
    by refine ⟨0, tileH 8, _, noClock (tileH 8), ?_, ?_, ?_, ?_, ?_, ?_, ?_, wait_eq ?_⟩ <;> decide +kernel,
    by refine ⟨0, op 9, _, _, withOp (op 9), ?_, ?_, ?_, ?_, ?_, ?_, ok_eq o0 ?_⟩ <;> decide +kernel,
    by refine ⟨0, tile1 9, _, _, noPages (tile1 9), ?_, ?_, ?_, ?_, ?_, ?_, fault_eq ?_⟩ <;> decide +kernel,
    by refine ⟨0, tileH 9, _, noClock (tileH 9), ?_, ?_, ?_, ?_, ?_, ?_, wait_eq ?_⟩ <;> decide +kernel,
    by refine ⟨0, op 0x0A, _, _, withOp (op 0x0A), ?_, ?_, ?_, ?_, ?_, ?_, ?_, ok_eq o0 ?_⟩ <;> decide +kernel,
    by refine ⟨0, tile1 0x0A, _, _, noPages (tile1 0x0A), ?_, ?_, ?_, ?_, ?_, ?_, ?_, fault_eq ?_⟩
            <;> decide +kernel,
    by refine ⟨0, tileH 0x0A, _, noClock (tileH 0x0A), ?_, ?_, ?_, ?_, ?_, ?_, ?_, wait_eq ?_⟩ <;> decide +kernel,
    by refine ⟨0, op 0x30A, _, _, withOp (op 0x30A), ?_, ?_, ?_, ?_, ?_, ?_, ?_, ok_eq o0 ?_⟩ <;> decide +kernel,
    by refine ⟨0, tile1 0x30A, _, _, noPages (tile1 0x30A), ?_, ?_, ?_, ?_, ?_, ?_, ?_, fault_eq ?_⟩
            <;> decide +kernel,
    by refine ⟨0, tileH 0x30A, _, noClock (tileH 0x30A), ?_, ?_, ?_, ?_, ?_, ?_, ?_, wait_eq ?_⟩ <;> decide +kernel⟩

theorem witness_EnginesCompleteOthers :
    (∃ (id : Nat) (o : Op) (u : State) (v : State) (rows : List (List Byte)) (es : List (Nat × BitVec 512)) (lists :
            List (List (Nat × BitVec 512))) (out : List (Nat × List Byte)) (s : State), s.clocked = true ∧ s.op? id
            = some o ∧ o.desc.kind = 0x02 ∧ o.desc.variant = 8 ∧ o.started = true ∧ o.loopsDone = false ∧ o.waits =
            [] ∧ (s.tileStart id).readRows o.who 64 64 o.m o.desc.addrA [] = (u, .ok rows) ∧ es = (List.range
            o.m).zip (rows.map (fun bs => BitVec.ofNat 512 (ofBytesLE bs))) ∧ lists = (List.range 12).map (fun b =>
            (bucketList es b).take (o.desc.strideC / 64)) ∧ out = (((List.range 12).zip lists).flatMap (fun bl =>
            ((List.range bl.2.length).zip bl.2).map (fun ie => (o.desc.addrC + bl.1 * o.desc.strideC + 64 * ie.1,
            bytesLE 64 ie.2.2.toNat)))) ++ ((List.range 13).zip (lists.map List.length ++ [o.m - (lists.map
            List.length).foldl (· + ·) 0])).map (fun bc => (o.desc.addrD + 8 * bc.1, bytesLE 8 bc.2)) ∧ u.writeMany
            o.who out = (v, .ok ())) ∧
    (∃ (id : Nat) (o : Op) (u : State) (r : FaultRec) (s : State), s.clocked = true ∧ s.op? id = some o ∧
            o.desc.kind = 0x02 ∧ o.desc.variant = 8 ∧ o.started = true ∧ o.loopsDone = false ∧ o.waits = [] ∧
            (s.tileStart id).readRows o.who 64 64 o.m o.desc.addrA [] = (u, .fault r)) ∧
    (∃ (id : Nat) (o : Op) (u : State) (s : State), s.clocked = true ∧ s.op? id = some o ∧ o.desc.kind = 0x02 ∧
            o.desc.variant = 8 ∧ o.started = true ∧ o.loopsDone = false ∧ o.waits = [] ∧ (s.tileStart id).readRows
            o.who 64 64 o.m o.desc.addrA [] = (u, .wait)) ∧
    (∃ (id : Nat) (o : Op) (w : QueueWait) (ws : List QueueWait) (s : State), s.clocked = true ∧ s.op? id = some o ∧
            o.desc.kind = 0x03 ∧ o.desc.pass ≠ 0 ∧ o.started = true ∧ o.loopsDone = false ∧ o.waits = [] ∧
            o.attnPops = w :: ws) ∧
    (∃ (id : Nat) (o : Op) (o' : Op) (u : State) (s : State), s.clocked = true ∧ s.op? id = some o ∧ o.desc.kind =
            0x03 ∧ o.started = true ∧ o.loopsDone = false ∧ o.waits = [] ∧ (o.desc.pass = 0 ∨ o.attnPops = []) ∧ (if
            o.desc.pass = 0 then (s.tileStart id).prepTile o else if o.desc.pass = 1 then ((s.tileStart
            id).keyHandle o).2.dkvTile ((s.tileStart id).keyHandle o).1 else ((s.tileStart id).keyHandle o).2.dqTile
            ((s.tileStart id).keyHandle o).1) = (u, .ok o')) ∧
    (∃ (id : Nat) (o : Op) (u : State) (r : FaultRec) (s : State), s.clocked = true ∧ s.op? id = some o ∧
            o.desc.kind = 0x03 ∧ o.started = true ∧ o.loopsDone = false ∧ o.waits = [] ∧ (o.desc.pass = 0 ∨
            o.attnPops = []) ∧ (if o.desc.pass = 0 then (s.tileStart id).prepTile o else if o.desc.pass = 1 then
            ((s.tileStart id).keyHandle o).2.dkvTile ((s.tileStart id).keyHandle o).1 else ((s.tileStart
            id).keyHandle o).2.dqTile ((s.tileStart id).keyHandle o).1) = (u, .fault r)) ∧
    (∃ (id : Nat) (o : Op) (u : State) (s : State), s.clocked = true ∧ s.op? id = some o ∧ o.desc.kind = 0x03 ∧
            o.started = true ∧ o.loopsDone = false ∧ o.waits = [] ∧ (o.desc.pass = 0 ∨ o.attnPops = []) ∧ (if
            o.desc.pass = 0 then (s.tileStart id).prepTile o else if o.desc.pass = 1 then ((s.tileStart
            id).keyHandle o).2.dkvTile ((s.tileStart id).keyHandle o).1 else ((s.tileStart id).keyHandle o).2.dqTile
            ((s.tileStart id).keyHandle o).1) = (u, .wait)) ∧
    (∃ (id : Nat) (o : Op) (q : Commq) (s : State), s.clocked = true ∧ s.op? id = some o ∧ o.desc.kind = 7 ∧
            o.started = true ∧ o.loopsDone = false ∧ o.waits = [] ∧ s.commq o.part (o.desc.param % 16) = some q ∧
            q.reds.length < 64) ∧
    (∃ (id : Nat) (o : Op) (q : Commq) (s : State), s.clocked = true ∧ s.op? id = some o ∧ o.desc.kind = 7 ∧
            o.started = true ∧ o.loopsDone = false ∧ o.waits = [] ∧ s.commq o.part (o.desc.param % 16) = some q ∧ 64
            ≤ q.reds.length) ∧
    (∃ (id : Nat) (o : Op) (s : State), s.clocked = true ∧ s.op? id = some o ∧ o.desc.kind = 7 ∧ o.started = true ∧
            o.loopsDone = false ∧ o.waits = [] ∧ s.commq o.part (o.desc.param % 16) = none) ∧
    (∃ (id : Nat) (o : Op) (bs : List Byte) (u : State) (s : State), s.clocked = true ∧ s.op? id = some o ∧
            Op.isCopy 1 o = true ∧ o.started = true ∧ o.loopsDone = false ∧ o.waits = [] ∧ (s.tileStart id).readDva
            o.who (o.desc.addrA + 16 * o.iter) 16 = (u, .ok bs)) ∧
    (∃ (id : Nat) (o : Op) (u : State) (r : FaultRec) (s : State), s.clocked = true ∧ s.op? id = some o ∧ Op.isCopy
            1 o = true ∧ o.started = true ∧ o.loopsDone = false ∧ o.waits = [] ∧ (s.tileStart id).readDva o.who
            (o.desc.addrA + 16 * o.iter) 16 = (u, .fault r)) ∧
    (∃ (id : Nat) (o : Op) (u : State) (s : State), s.clocked = true ∧ s.op? id = some o ∧ Op.isCopy 1 o = true ∧
            o.started = true ∧ o.loopsDone = false ∧ o.waits = [] ∧ (s.tileStart id).readDva o.who (o.desc.addrA +
            16 * o.iter) 16 = (u, .wait)) ∧
    (∃ (id : Nat) (o : Op) (bs : List Byte) (u : State) (s : State), s.clocked = true ∧ s.op? id = some o ∧
            Op.isCopy 2 o = true ∧ o.started = true ∧ o.loopsDone = false ∧ o.waits = [] ∧ (s.tileStart id).readDva
            o.who o.desc.addrA 8 = (u, .ok bs)) ∧
    (∃ (id : Nat) (o : Op) (u : State) (r : FaultRec) (s : State), s.clocked = true ∧ s.op? id = some o ∧ Op.isCopy
            2 o = true ∧ o.started = true ∧ o.loopsDone = false ∧ o.waits = [] ∧ (s.tileStart id).readDva o.who
            o.desc.addrA 8 = (u, .fault r)) ∧
    (∃ (id : Nat) (o : Op) (u : State) (s : State), s.clocked = true ∧ s.op? id = some o ∧ Op.isCopy 2 o = true ∧
            o.started = true ∧ o.loopsDone = false ∧ o.waits = [] ∧ (s.tileStart id).readDva o.who o.desc.addrA 8 =
            (u, .wait)) ∧
    (∃ (id : Nat) (o : Op) (s : State), s.clocked = true ∧ s.op? id = some o ∧ o.desc.kind = 0x0B) :=
  ⟨by refine ⟨0, { op 0x802 with m := 0 }, _, _, _, [], List.replicate 12 [], (List.range 13).map (fun b => (8 * b,
            bytesLE 8 0)), withOp { op 0x802 with m := 0 }, ?_, ?_, ?_, ?_, ?_, ?_, ?_, ok_eq [] ?_, ?_, ?_, ?_,
            ok_eq () ?_⟩ <;> decide +kernel,
    by refine ⟨0, { op 0x802 with m := 1 }, _, _, noPages { op 0x802 with m := 1 }, ?_, ?_, ?_, ?_, ?_, ?_, ?_,
            fault_eq ?_⟩ <;> decide +kernel,
    by refine ⟨0, { tileH 0x802 with m := 1 }, _, noClock { tileH 0x802 with m := 1 }, ?_, ?_, ?_, ?_, ?_, ?_, ?_,
            wait_eq ?_⟩ <;> decide +kernel,
    ⟨0, op (0x103 + 2 ^ 105 + 2 ^ 308), .in0, [], withOp (op (0x103 + 2 ^ 105 + 2 ^ 308)), by decide +kernel⟩,
    by refine ⟨0, op 3, _, _, withOp (op 3), ?_, ?_, ?_, ?_, ?_, ?_, ?_, ok_eq o0 ?_⟩ <;> decide +kernel,
    by refine ⟨0, { tile1 3 with params := [2 ^ 130] }, _, _, noPages { tile1 3 with params := [2 ^ 130] }, ?_, ?_,
            ?_, ?_, ?_, ?_, ?_, fault_eq ?_⟩ <;> decide +kernel,
    by refine ⟨0, { tileH 3 with params := [2 ^ 130] }, _, noClock { tileH 3 with params := [2 ^ 130] }, ?_, ?_, ?_,
            ?_, ?_, ?_, ?_, wait_eq ?_⟩ <;> decide +kernel,
    ⟨0, op 7, q0, { withOp (op 7) with red.queues := [q0] }, by decide +kernel⟩,
    ⟨0, op 7, { q0 with reds := List.replicate 64 fused0 },
            { withOp (op 7) with red.queues := [{ q0 with reds := List.replicate 64 fused0 }] }, by decide +kernel⟩,
    ⟨0, op 7, withOp (op 7), by decide +kernel⟩,
    by refine ⟨0, op 0x10A, _, _, withOp (op 0x10A), ?_, ?_, ?_, ?_, ?_, ?_, ok_eq [] ?_⟩ <;> decide +kernel,
    by refine ⟨0, op 0x10A, _, _, noPages (op 0x10A), ?_, ?_, ?_, ?_, ?_, ?_, fault_eq ?_⟩ <;> decide +kernel,
    by refine ⟨0, tileH 0x10A, _, noClock (tileH 0x10A), ?_, ?_, ?_, ?_, ?_, ?_, wait_eq ?_⟩ <;> decide +kernel,
    by refine ⟨0, op 0x20A, _, _, withOp (op 0x20A), ?_, ?_, ?_, ?_, ?_, ?_, ok_eq [] ?_⟩ <;> decide +kernel,
    by refine ⟨0, op 0x20A, _, _, noPages (op 0x20A), ?_, ?_, ?_, ?_, ?_, ?_, fault_eq ?_⟩ <;> decide +kernel,
    by refine ⟨0, tileH 0x20A, _, noClock (tileH 0x20A), ?_, ?_, ?_, ?_, ?_, ?_, wait_eq ?_⟩ <;> decide +kernel,
    ⟨0, op 11, withOp (op 11), by decide +kernel⟩⟩

theorem witness_QueuesAreFifo :
    (∃ (id : Nat) (o : Op) (ws : List QueueWait) (x : Handle) (t : List Handle) (s : State), s.clocked = true ∧
            s.op? id = some o ∧ o.waits = .in0 :: ws ∧ s.rowOwner (qRow o.desc.in0) = some o.part ∧ (∀ y, y ∈
            s.seq.ops → y.id < o.id → ∀ r, y.popRef = some r → qKey r = qKey o.desc.in0 → s.rowOwner (qRow r) ≠ some
            y.part) ∧ s.queue (qKey o.desc.in0) = x :: t) ∧
    (∃ (id : Nat) (o : Op) (ws : List QueueWait) (x : Handle) (t : List Handle) (s : State), s.clocked = true ∧
            s.op? id = some o ∧ o.waits = .in1 :: ws ∧ s.rowOwner (qRow o.desc.in1) = some o.part ∧ (∀ y, y ∈
            s.seq.ops → y.id < o.id → ∀ r, y.popRef = some r → qKey r = qKey o.desc.in1 → s.rowOwner (qRow r) ≠ some
            y.part) ∧ s.queue (qKey o.desc.in1) = x :: t) ∧
    (∃ (id : Nat) (o : Op) (ws : List QueueWait) (x : Handle) (t : List Handle) (s : State), s.clocked = true ∧
            s.op? id = some o ∧ o.waits = .free :: ws ∧ s.rowOwner (qRow o.desc.free) = some o.part ∧ (∀ y, y ∈
            s.seq.ops → y.id < o.id → ∀ r, y.popRef = some r → qKey r = qKey o.desc.free → s.rowOwner (qRow r) ≠
            some y.part) ∧ s.queue (qKey o.desc.free) = x :: t) ∧
    (∃ (id : Nat) (o : Op) (ref : Nat) (s : State), s.clocked = true ∧ s.op? id = some o ∧ o.popRef = some ref ∧
            s.rowOwner (qRow ref) = some o.part ∧ s.queue (qKey ref) = []) ∧
    (∃ (id : Nat) (o : Op) (y : Op) (ref : Nat) (r : Nat) (s : State), s.clocked = true ∧ s.op? id = some o ∧
            o.popRef = some ref ∧ s.rowOwner (qRow ref) = some o.part ∧ y ∈ s.seq.ops ∧ y.id < o.id ∧ y.popRef =
            some r ∧ qKey r = qKey ref ∧ s.rowOwner (qRow r) = some y.part) ∧
    (∃ (id : Nat) (o : Op) (ref : Nat) (s : State), s.clocked = true ∧ s.op? id = some o ∧ o.popRef = some ref ∧
            s.rowOwner (qRow ref) ≠ some o.part) ∧
    (∃ (id : Nat) (o : Op) (ref : Nat) (x : Handle) (s : State), s.clocked = true ∧ s.op? id = some o ∧ o.pushOf =
            some (ref, x) ∧ s.rowOwner (qRow ref) = some o.part ∧ (∀ y, y ∈ s.seq.ops → (y.pushRank < o.pushRank ∨
            (y.pushRank = o.pushRank ∧ y.id < o.id)) → ∀ r h, y.pushOf = some (r, h) → qKey r = qKey ref →
            s.rowOwner (qRow r) ≠ some y.part) ∧ (s.queue (qKey ref)).length < queueDepth) ∧
    (∃ (id : Nat) (o : Op) (ref : Nat) (x : Handle) (s : State), s.clocked = true ∧ s.op? id = some o ∧ o.pushOf =
            some (ref, x) ∧ s.rowOwner (qRow ref) = some o.part ∧ queueDepth ≤ (s.queue (qKey ref)).length) ∧
    (∃ (id : Nat) (o : Op) (y : Op) (ref : Nat) (r : Nat) (x : Handle) (h : Handle) (s : State), s.clocked = true ∧
            s.op? id = some o ∧ o.pushOf = some (ref, x) ∧ s.rowOwner (qRow ref) = some o.part ∧ y ∈ s.seq.ops ∧
            (y.pushRank < o.pushRank ∨ (y.pushRank = o.pushRank ∧ y.id < o.id)) ∧ y.pushOf = some (r, h) ∧ qKey r =
            qKey ref ∧ s.rowOwner (qRow r) = some y.part) ∧
    (∃ (id : Nat) (o : Op) (ref : Nat) (x : Handle) (s : State), s.clocked = true ∧ s.op? id = some o ∧ o.pushOf =
            some (ref, x) ∧ s.rowOwner (qRow ref) ≠ some o.part) :=
  ⟨by refine ⟨0, waiting (2 ^ 105) .in0, [], {}, [], withQueue (waiting (2 ^ 105) .in0) [{}], ?_, ?_, ?_, ?_,
            none_older _, ?_⟩ <;> decide +kernel,
    by refine ⟨0, waiting (2 ^ 115) .in1, [], {}, [], withQueue (waiting (2 ^ 115) .in1) [{}], ?_, ?_, ?_, ?_,
            none_older _, ?_⟩ <;> decide +kernel,
    by refine ⟨0, waiting (2 ^ 137) .free, [], {}, [], withQueue (waiting (2 ^ 137) .free) [{}], ?_, ?_, ?_, ?_,
            none_older _, ?_⟩ <;> decide +kernel,
    ⟨0, waiting (2 ^ 105) .in0, 512, withQueue (waiting (2 ^ 105) .in0) [], by decide +kernel⟩,
    ⟨1, { waiting (2 ^ 105) .in0 with id := 1 }, waiting (2 ^ 115) .in1, 512, 512,
            { up with seq.ops := [waiting (2 ^ 115) .in1, { waiting (2 ^ 105) .in0 with id := 1 }] },
            by decide +kernel⟩,
    ⟨0, waiting (2 ^ 105 + 32 * 2 ^ 96) .in0, 544, withOp (waiting (2 ^ 105 + 32 * 2 ^ 96) .in0), by decide +kernel⟩,
    by refine ⟨0, waiting 512 (.push 512 {}), 512, {}, withOp (waiting 512 (.push 512 {})), ?_, ?_, ?_, ?_,
            none_before _, ?_⟩ <;> decide +kernel,
    ⟨0, waiting 512 (.push 512 {}), 512, {}, withQueue (waiting 512 (.push 512 {})) (List.replicate 64 {}),
            by decide +kernel⟩,
    ⟨1, { waiting 512 (.push 512 {}) with id := 1 }, waiting 512 (.out 512 {} none), 512, 512, {}, {},
            { up with seq.ops := [waiting 512 (.out 512 {} none), { waiting 512 (.push 512 {}) with id := 1 }] },
            by decide +kernel⟩,
    ⟨0, waiting 512 (.push 544 {}), 544, {}, withOp (waiting 512 (.push 544 {})), by decide +kernel⟩⟩

theorem witness_OperationsRetire :
    (∃ (id : Nat) (o : Op) (n : Nat × State) (s : State), s.clocked = true ∧ s.op? id = some o ∧ o.loopsDone = true
            ∧ o.waits = [] ∧ s.mayRetire o = true ∧ n = s.takeFree ∧ (o.desc.kind ≠ 0x0A ∨ o.desc.variant ≠ 2) ∧
            o.desc.kind ≠ 0x0B) ∧
    (∃ (id : Nat) (o : Op) (n : Nat × State) (v : Nat) (vs : List Nat) (s : State), s.clocked = true ∧ s.op? id =
            some o ∧ o.loopsDone = true ∧ o.waits = [] ∧ s.mayRetire o = true ∧ n = s.takeFree ∧ o.desc.kind = 0x0A
            ∧ o.desc.variant = 2 ∧ o.params = v :: vs) ∧
    (∃ (id : Nat) (o : Op) (n : Nat × State) (u : State) (s : State), s.clocked = true ∧ s.op? id = some o ∧
            o.loopsDone = true ∧ o.waits = [] ∧ (∀ x, x ∈ s.seq.ops → x.part = o.part → o.id ≤ x.id) ∧ n =
            s.takeFree ∧ o.desc.kind = 0x0B ∧ u = (n.2.updSeq (fun q =>
            { q with queues := q.queues.filter (fun x => !n.2.ownsQueue o.part x.1) })).updSeqp o.part (fun q =>
            { q with
                fenceLeft := satAdd q.fenceLeft (((n.2.seq.queues.filter (fun x => n.2.ownsQueue o.part x.1)).map
                    (fun x => x.2.length)).foldl (· + ·) 0), fenceHold := true })) ∧
    (∃ (id : Nat) (o : Op) (s : State), s.clocked = true ∧ s.op? id = some o ∧ (o.loopsDone = false ∨ o.waits ≠ [] ∨
            s.mayRetire o = false)) ∧
    (∃ (p : Fin 16) (s : State), s.clocked = true ∧ (s.seqp p.val).stall.toNat < 1024) ∧
    (∃ (p : Fin 16) (c : Fin 64) (s : State), s.clocked = true ∧ 1024 ≤ (s.seqp p.val).stall.toNat ∧ (∀ k, k < 64 →
            ((∃ o, o ∈ s.seq.ops ∧ o.part = p.val ∧ o.ctx = k) ↔ k = c.val))) :=
  ⟨by refine ⟨0, { o0 with desc := 1, loopsDone := true }, _, withOp { o0 with desc := 1, loopsDone := true }, ?_,
            ?_, ?_, ?_, ?_, rfl, ?_⟩ <;> decide +kernel,
    by refine ⟨0, { o0 with desc := 0x20A, loopsDone := true, params := [7] }, _, 7, [], withOp
            { o0 with desc := 0x20A, loopsDone := true, params := [7] }, ?_, ?_, ?_, ?_, ?_, rfl, ?_⟩
            <;> decide +kernel,
    by refine ⟨0, { o0 with desc := 11, loopsDone := true }, _, _, withOp { o0 with desc := 11, loopsDone := true },
            ?_, ?_, ?_, ?_, fun x h _ => (by have e := List.mem_singleton.mp h; subst e; exact Nat.le_refl _), rfl,
            ?_, rfl⟩ <;> decide +kernel,
    ⟨0, o0, withOp o0, by decide +kernel⟩,
    ⟨0, up, by decide +kernel⟩,
    by refine ⟨0, 0, { withOp o0 with seq.parts := [(0, { stall := 1024 })] }, ?_, ?_, fun k _ => by simp [withOp,
            o0, eq_comm]⟩ <;> decide +kernel⟩

theorem witness_KillsBeginAndEnd :
    (∃ (r : FaultRec) (s : State), s.clocked = true ∧ (s.ctx (r.tag.toNat / 64) (r.tag.toNat % 64)).state = .live) ∧
    (∃ (r : FaultRec) (s : State), s.clocked = true ∧ r.kind ≠ 0x09 ∧ r.kind ≠ 0x0A ∧ (s.ctx (r.tag.toNat / 64)
            (r.tag.toNat % 64)).state ≠ .live) ∧
    (∃ (r : FaultRec) (s : State), s.clocked = true ∧ (r.kind = 0x09 ∨ r.kind = 0x0A) ∧ (s.ctx (r.tag.toNat / 64)
            (r.tag.toNat % 64)).state ≠ .live ∧ s.choeskPlace (r.tag.toNat / 64) (r.tag.toNat % 64) false
            r.dva.toNat = none) ∧
    (∃ (r : FaultRec) (ppn : Nat) (off : Nat) (s : State), s.clocked = true ∧ (r.kind = 0x09 ∨ r.kind = 0x0A) ∧
            (s.ctx (r.tag.toNat / 64) (r.tag.toNat % 64)).state ≠ .live ∧ s.choeskPlace (r.tag.toNat / 64)
            (r.tag.toNat % 64) false r.dva.toNat = some (.dev ppn off)) ∧
    (∃ (span : BitVec 16) (x : Span) (s : State), s.clocked = true ∧ s.mgt.act ≠ .restoring ∧ s.span? span = some x
            ∧ (s.ctx x.part x.ctx).state = .live) ∧
    (∃ (span : BitVec 16) (s : State), s.clocked = true ∧ s.mgt.act ≠ .restoring ∧ (∀ x, s.span? span = some x →
            (s.ctx x.part x.ctx).state ≠ .live)) ∧
    (∃ (p : Fin 16) (c : Fin 64) (s : State), s.clocked = true ∧ (s.ctx p.val c.val).state = .killing ∧ s.frm.phase
            = .slack ∧ (∀ o, o ∈ s.seq.ops → ¬ (o.part = p.val ∧ o.ctx = c.val))) ∧
    (∃ (p : Fin 16) (c : Fin 64) (s : State), s.clocked = true ∧ ((s.ctx p.val c.val).state ≠ .killing ∨ s.frm.phase
            ≠ .slack)) ∧
    (∃ (p : Fin 16) (s : State), s.clocked = true ∧ (s.part p.val).state ≠ .absent ∧ (s.part p.val).state ≠ .faulted
            ∧ (s.part p.val).state ≠ .tearingDown) ∧
    (∃ (p : Fin 16) (s : State), s.clocked = true ∧ ((s.part p.val).state = .absent ∨ (s.part p.val).state =
            .faulted ∨ (s.part p.val).state = .tearingDown)) ∧
    (∃ (p : Fin 16) (u : State) (s : State), s.clocked = true ∧ (s.part p.val).state = .tearingDown ∧ (s.part
            p.val).released = false ∧ (∀ c, c < 64 → (s.ctx p.val c).state = .free ∨ (s.ctx p.val c).state = .dead)
            ∧ (∀ h, h ∈ s.xlt.shoots → ∀ ppns, h.next ≠ .teardown p.val ppns) ∧ u = (State.updRed (fun r =>
            { r with
                groups := r.groups.filter (fun g => g.part != p.val),
                queues := r.queues.filter (fun q => q.part != p.val) })
            { s.finishAll (s.waitingOf p.val) .killed .hostKill [] with kv := s.kv.put p.val none })) ∧
    (∃ (p : Fin 16) (s : State), s.clocked = true ∧ ((s.part p.val).state ≠ .tearingDown ∨ (s.part p.val).released =
            true ∨ (∃ c, c < 64 ∧ (s.ctx p.val c).state ≠ .free ∧ (s.ctx p.val c).state ≠ .dead) ∨ (∃ h, h ∈
            s.xlt.shoots ∧ ∃ ppns, h.next = .teardown p.val ppns))) :=
  ⟨⟨fr0, up, by decide +kernel⟩,
    ⟨{ tag := 64, cause := .none }, up, by decide +kernel⟩,
    ⟨{ fr0 with tag := 64, kind := 9 }, up, by decide +kernel⟩,
    ⟨{ fr0 with tag := 64, kind := 9 }, 0, 0, { up with
                                                  xlt.dev := [(512, { valid := true, any := true })],
                                                  xlt.own := [(0, { state := .owned, any := true, part := 1 })] },
            by decide +kernel⟩,
    ⟨0, x0, withSpan x0, by decide +kernel⟩,
    by refine ⟨0, up, ?_, ?_, fun _ h => nomatch h⟩ <;> decide +kernel,
    ⟨0, 0, { withCtxs [(0, { state := .killing })] with frm.phase := .slack }, by decide +kernel⟩,
    ⟨0, 0, up, by decide +kernel⟩,
    ⟨0, up, by decide +kernel⟩,
    ⟨0, withPart {}, by decide +kernel⟩,
    by refine ⟨0, _, { withPart { state := .tearingDown } with ten.ctxs := [] }, ?_, ?_, ?_, fun c _ => Or.inl (by
            rfl), (fun _ h => nomatch h), rfl⟩ <;> decide +kernel,
    by refine ⟨0, up, ?_, Or.inl ?_⟩ <;> decide +kernel⟩

theorem witness_TranslationsAndPages :
    (∃ (p : Fin 16) (req : Nat) (ok : Bool) (whole : Bool) (read : Bool) (write : Bool) (r : XlReq) (s : State),
            s.pcieAlive = true ∧ s.xlt.reqs.find? (fun r => r.id == req && r.part == p.val) = some r ∧ s.invalCovers
            r.part r.win = false ∧ ok = true ∧ (read = true ∨ write = true) ∧ whole = true) ∧
    (∃ (p : Fin 16) (req : Nat) (ok : Bool) (read : Bool) (write : Bool) (r : XlReq) (s : State), s.pcieAlive = true
            ∧ s.xlt.reqs.find? (fun r => r.id == req && r.part == p.val) = some r ∧ s.invalCovers r.part r.win =
            false ∧ r.fetch = none ∧ (ok = false ∨ (read = false ∧ write = false))) ∧
    (∃ (p : Fin 16) (req : Nat) (read : Bool) (write : Bool) (r : XlReq) (s : State), s.pcieAlive = true ∧
            s.xlt.reqs.find? (fun r => r.id == req && r.part == p.val) = some r ∧ s.invalCovers r.part r.win = false
            ∧ r.fetch = none ∧ (read = true ∨ write = true)) ∧
    (∃ (p : Fin 16) (req : Nat) (ok : Bool) (whole : Bool) (read : Bool) (write : Bool) (r : XlReq) (f : Nat × Nat)
            (s : State), s.pcieAlive = true ∧ s.xlt.reqs.find? (fun r => r.id == req && r.part == p.val) = some r ∧
            s.invalCovers r.part r.win = false ∧ r.fetch = some f ∧ (ok = false ∨ (read = false ∧ write = false) ∨
            whole = false)) ∧
    (∃ (p : Fin 16) (req : Nat) (r : XlReq) (s : State), s.pcieAlive = true ∧ s.xlt.reqs.find? (fun r => r.id == req
            && r.part == p.val) = some r ∧ s.invalCovers r.part r.win = true) ∧
    (∃ (p : Fin 16) (req : Nat) (s : State), s.pcieAlive = true ∧ (∀ r, r ∈ s.xlt.reqs → r.id ≠ req ∨ r.part ≠
            p.val)) ∧
    (∃ (fn : Fin 17) (tag : Fin 32) (base : W64) (len : W64) (u : State) (s : State), s.pcieAlive = true ∧
            s.xlt.invals.any (fun i => i.1 == tag.val && i.2.1 == fn.val) = false ∧ s.xlt.invals.length < 32 ∧
            fn.val ≠ 0 ∧ u = s.updXlt (fun x =>
            { x with invals := x.invals ++ [(tag.val, fn.val, base.toNat, len.toNat)] })) ∧
    (∃ (tag : Fin 32) (s : State), s.pcieAlive = true ∧ s.xlt.invals.any (fun i => i.1 == tag.val && i.2.1 == 0) =
            false ∧ s.xlt.invals.length < 32) ∧
    (∃ (fn : Fin 17) (tag : Fin 32) (s : State), s.pcieAlive = true ∧ s.xlt.invals.any (fun i => i.1 == tag.val &&
            i.2.1 == fn.val) = true) ∧
    (∃ (fn : Fin 17) (tag : Fin 32) (u : State) (s : State), s.clocked = true ∧ s.pcie.refclk = false ∧
            s.xlt.invals.any (fun i => i.1 == tag.val && i.2.1 == fn.val) = true ∧ u = s.updXlt (fun x =>
            { x with
                invals := x.invals.filter (fun i => !(i.1 == tag.val && i.2.1 == fn.val)),
                regs := x.regs.mapRow {} 2 (fun _ r => { r with invalHost := r.invalHost + 1 }) })) ∧
    (∃ (fn : Fin 17) (tag : Fin 32) (s : State), s.clocked = true ∧ s.xlt.invals.any (fun i => i.1 == tag.val &&
            i.2.1 == fn.val) = false) ∧
    (∃ (id : Nat) (x : Shoot) (cmd : CmdId) (u : State) (s : State), s.clocked = true ∧ s.xlt.shoots.find? (fun x =>
            x.id == id) = some x ∧ u = s.updXlt (fun x => { x with
                                                              shoots := x.shoots.filter (fun y => y.id != id),
                                                              regs := x.regs.mapRow {} 2 (fun _ r =>
                                                                  { r with invalChoesk := r.invalChoesk + 1 }) }) ∧
            x.next = .unmap cmd) ∧
    (∃ (id : Nat) (x : Shoot) (cmd : CmdId) (ppns : List Nat) (u : State) (s : State), s.clocked = true ∧
            s.xlt.shoots.find? (fun x => x.id == id) = some x ∧ u = s.updXlt (fun x =>
            { x with
                shoots := x.shoots.filter (fun y => y.id != id),
                regs := x.regs.mapRow {} 2 (fun _ r => { r with invalChoesk := r.invalChoesk + 1 }) }) ∧ x.next =
            .memFree cmd ppns) ∧
    (∃ (id : Nat) (x : Shoot) (p : Nat) (ppns : List Nat) (u : State) (s : State), s.clocked = true ∧
            s.xlt.shoots.find? (fun x => x.id == id) = some x ∧ u = s.updXlt (fun x =>
            { x with
                shoots := x.shoots.filter (fun y => y.id != id),
                regs := x.regs.mapRow {} 2 (fun _ r => { r with invalChoesk := r.invalChoesk + 1 }) }) ∧ x.next =
            .teardown p ppns) ∧
    (∃ (id : Nat) (x : Shoot) (cmd : CmdId) (p : Nat) (c : Nat) (ppns : List Nat) (u : State) (s : State), s.clocked
            = true ∧ s.xlt.shoots.find? (fun x => x.id == id) = some x ∧ u = s.updXlt (fun x =>
            { x with
                shoots := x.shoots.filter (fun y => y.id != id),
                regs := x.regs.mapRow {} 2 (fun _ r => { r with invalChoesk := r.invalChoesk + 1 }) }) ∧ x.next =
            .destroy cmd p c ppns) ∧
    (∃ (id : Nat) (x : Shoot) (cmd : CmdId) (ws : List W64) (u : State) (s : State), s.clocked = true ∧
            s.xlt.shoots.find? (fun x => x.id == id) = some x ∧ u = s.updXlt (fun x =>
            { x with
                shoots := x.shoots.filter (fun y => y.id != id),
                regs := x.regs.mapRow {} 2 (fun _ r => { r with invalChoesk := r.invalChoesk + 1 }) }) ∧ x.next =
            .adopt cmd ws) ∧
    (∃ (id : Nat) (x : Shoot) (u : State) (s : State), s.clocked = true ∧ s.xlt.shoots.find? (fun x => x.id == id) =
            some x ∧ u = s.updXlt (fun x => { x with
                                                shoots := x.shoots.filter (fun y => y.id != id),
                                                regs := x.regs.mapRow {} 2 (fun _ r =>
                                                    { r with invalChoesk := r.invalChoesk + 1 }) }) ∧ x.next =
            .nothing) ∧
    (∃ (id : Nat) (s : State), s.clocked = true ∧ (∀ x, x ∈ s.xlt.shoots → x.id ≠ id)) ∧
    (∃ (ppn : Fin 384) (s : State), s.clocked = true ∧ s.xlt.scrubs.find? (fun k => k % 8 == ppn.val % 8) = some
            ppn.val) ∧
    (∃ (ppn : Fin 384) (s : State), s.clocked = true ∧ s.xlt.scrubs.find? (fun k => k % 8 == ppn.val % 8) ≠ some
            ppn.val) :=
  ⟨⟨0, 0, true, true, true, false, xr0, withReq xr0, by decide +kernel⟩,
    ⟨0, 0, false, false, false, xr0, withReq xr0, by decide +kernel⟩,
    ⟨0, 0, true, false, xr0, withReq xr0, by decide +kernel⟩,
    ⟨0, 0, true, false, true, true, { xr0 with fetch := some (0, 0) }, (0, 0), withReq
            { xr0 with fetch := some (0, 0) }, by decide +kernel⟩,
    ⟨0, 0, xr0, { withReq xr0 with xlt.invals := [(0, 1, 0, 1)] }, by decide +kernel⟩,
    by refine ⟨0, 0, up, ?_, fun _ h => nomatch h⟩ <;> decide +kernel,
    by refine ⟨1, 0, 0, 0, _, up, ?_, ?_, ?_, ?_, rfl⟩ <;> decide +kernel,
    ⟨0, up, by decide +kernel⟩,
    ⟨1, 0, { up with xlt.invals := [(0, 1, 0, 1)] }, by decide +kernel⟩,
    by refine ⟨1, 0, _, { up with pcie.refclk := false, xlt.invals := [(0, 1, 0, 1)] }, ?_, ?_, ?_, rfl⟩
            <;> decide +kernel,
    ⟨1, 0, up, by decide +kernel⟩,
    by refine ⟨0, { id := 0, next := .unmap c0 }, c0, _, withShoot (.unmap c0), ?_, ?_, rfl, ?_⟩ <;> decide +kernel,
    by refine ⟨0, { id := 0, next := .memFree c0 [] }, c0, [], _, withShoot (.memFree c0 []), ?_, ?_, rfl, ?_⟩
            <;> decide +kernel,
    by refine ⟨0, { id := 0, next := .teardown 0 [] }, 0, [], _, withShoot (.teardown 0 []), ?_, ?_, rfl, ?_⟩
            <;> decide +kernel,
    by refine ⟨0, { id := 0, next := .destroy c0 0 0 [] }, c0, 0, 0, [], _, withShoot (.destroy c0 0 0 []), ?_, ?_,
            rfl, ?_⟩ <;> decide +kernel,
    by refine ⟨0, { id := 0, next := .adopt c0 [] }, c0, [], _, withShoot (.adopt c0 []), ?_, ?_, rfl, ?_⟩
            <;> decide +kernel,
    by refine ⟨0, { id := 0, next := .nothing }, _, withShoot .nothing, ?_, ?_, rfl, ?_⟩ <;> decide +kernel,
    by refine ⟨0, up, ?_, fun _ h => nomatch h⟩ <;> decide +kernel,
    ⟨0, { up with xlt.scrubs := [0] }, by decide +kernel⟩,
    ⟨0, up, by decide +kernel⟩⟩

theorem witness_SpanEventsComplete :
    (∃ (span : BitVec 16) (pkg : Fin 128) (x : Span) (s : State), s.clocked = true ∧ s.mgt.act ≠ .restoring ∧
            s.span? span = some x ∧ x.creator = s.self ∧ pkg.val ∈ x.ring ∧ pkg.val ∉ x.joined ∧ x.state = .forming
            ∧ x.joined.length + 1 < x.ring.length) ∧
    (∃ (span : BitVec 16) (pkg : Fin 128) (shares : BitVec 32) (x : Span) (u : State) (s : State), s.clocked = true
            ∧ s.mgt.act ≠ .restoring ∧ s.span? span = some x ∧ x.creator = s.self ∧ pkg.val ∈ x.ring ∧ pkg.val ∉
            x.joined ∧ x.state = .forming ∧ x.ring.length ≤ x.joined.length + 1 ∧ u = (s.updSpan span (fun y =>
            { y with joined := x.joined ++ [pkg.val] })).updLead span (fun l =>
            { l with shares := l.shares ++ [(pkg.val, shares)] })) ∧
    (∃ (span : BitVec 16) (s : State), s.clocked = true ∧ s.mgt.act ≠ .restoring ∧ s.span? span = none) ∧
    (∃ (span : BitVec 16) (pkg : Fin 128) (x : Span) (s : State), s.clocked = true ∧ s.mgt.act ≠ .restoring ∧
            s.span? span = some x ∧ x.creator = s.self ∧ pkg.val ∈ x.ring ∧ pkg.val ∉ x.joined ∧ x.state ≠ .forming) ∧
    (∃ (span : BitVec 16) (ring : List Nat) (x : Span) (s : State), s.clocked = true ∧ s.mgt.act ≠ .restoring ∧
            s.span? span = some x ∧ s.self ∈ ring ∧ x.state = .forming) ∧
    (∃ (span : BitVec 16) (ring : List Nat) (x : Span) (s : State), s.clocked = true ∧ s.mgt.act ≠ .restoring ∧
            s.span? span = some x ∧ s.self ∈ ring ∧ x.state ≠ .forming) ∧
    (∃ (span : BitVec 16) (x : Span) (s : State), s.clocked = true ∧ s.span? span = some x ∧ x.state = .forming ∧
            1024 ≤ x.frames ∧ x.creator ≠ s.self) ∧
    (∃ (span : BitVec 16) (x : Span) (s : State), s.clocked = true ∧ s.span? span = some x ∧ x.state = .forming ∧
            1024 ≤ x.frames ∧ x.creator = s.self) ∧
    (∃ (span : BitVec 16) (x : Span) (s : State), s.clocked = true ∧ s.span? span = some x ∧ (x.state ≠ .forming ∨
            x.frames < 1024)) ∧
    (∃ (s : State), s.clocked = true ∧ s.mgt.act ≠ .restoring) ∧
    (∃ (span : BitVec 16) (x : Span) (s : State), s.clocked = true ∧ s.mgt.act ≠ .restoring ∧ s.span? span = some x) ∧
    (∃ (span : BitVec 16) (acked : List Nat) (x : Span) (rest : List Nat) (s : State), s.clocked = true ∧ s.span?
            span = some x ∧ rest = x.unacked.filter (fun k => !acked.contains k) ∧ x.state = .dead ∧ x.lead = s.self
            ∧ 1024 ≤ x.deadFrames ∧ rest ≠ []) ∧
    (∃ (span : BitVec 16) (acked : List Nat) (x : Span) (s : State), s.clocked = true ∧ s.span? span = some x ∧
            x.unacked.filter (fun k => !acked.contains k) = []) :=
  ⟨⟨0, 1, { x0 with state := .forming, ring := [0, 1, 2] }, withSpan
            { x0 with state := .forming, ring := [0, 1, 2] }, by decide +kernel⟩,
    by refine ⟨0, 1, 0, { x0 with state := .forming, joined := [0] }, _, withSpan
            { x0 with state := .forming, joined := [0] }, ?_, ?_, ?_, ?_, ?_, ?_, ?_, ?_, rfl⟩ <;> decide +kernel,
    ⟨0, up, by decide +kernel⟩,
    ⟨0, 1, x0, withSpan x0, by decide +kernel⟩,
    ⟨0, [0, 1], { x0 with state := .forming }, withSpan { x0 with state := .forming }, by decide +kernel⟩,
    ⟨0, [0, 1], x0, withSpan x0, by decide +kernel⟩,
    ⟨0, { x0 with state := .forming, creator := 1, frames := 1024 }, withSpan
            { x0 with state := .forming, creator := 1, frames := 1024 }, by decide +kernel⟩,
    ⟨0, { x0 with state := .forming, frames := 1024 }, withSpan { x0 with state := .forming, frames := 1024 },
            by decide +kernel⟩,
    ⟨0, x0, withSpan x0, by decide +kernel⟩,
    ⟨up, by decide +kernel⟩,
    ⟨0, x0, withSpan x0, by decide +kernel⟩,
    by refine ⟨0, [], { x0 with state := .dead, deadFrames := 1024, unacked := [1] }, _, withSpan
            { x0 with state := .dead, deadFrames := 1024, unacked := [1] }, ?_, ?_, rfl, ?_⟩ <;> decide +kernel,
    ⟨0, [], x0, withSpan x0, by decide +kernel⟩⟩

theorem witness_GroupEventsComplete :
    (∃ (span : BitVec 16) (num : BitVec 8) (s : State), s.clocked = true ∧ s.mgt.act ≠ .restoring ∧ s.groupOf span
            num.toNat = none) ∧
    (∃ (span : BitVec 16) (num : BitVec 8) (pkg : Fin 128) (crc : BitVec 32) (g : Group) (k : Group) (s : State),
            s.clocked = true ∧ s.mgt.act ≠ .restoring ∧ s.groupOf span num.toNat = some g ∧ k =
            { g with readies := g.readies.filter (fun x => x.1 != pkg.val) ++ [(pkg.val, crc)] }) ∧
    (∃ (span : BitVec 16) (num : BitVec 8) (g : Group) (u : State) (s : State), s.clocked = true ∧ s.mgt.act ≠
            .restoring ∧ s.groupOf span num.toNat = some g ∧ g.state = .defining ∧ u = s.updGroup g.index (fun x =>
            { x with
                state := if g.lost.filter (fun l => l.1 == g.rank) = [] then .active else .degraded, cmd := none,
                readies := [], lost := g.lost.filter (fun l => l.1 == g.rank) })) ∧
    (∃ (span : BitVec 16) (num : BitVec 8) (g : Group) (s : State), s.clocked = true ∧ s.mgt.act ≠ .restoring ∧
            s.groupOf span num.toNat = some g ∧ g.state ≠ .defining) ∧
    (∃ (index : BitVec 8) (g : Group) (s : State), s.clocked = true ∧ s.group? index.toNat = some g ∧ g.state =
            .defining ∧ 1024 ≤ g.frames ∧ g.coordinator = s.self) ∧
    (∃ (index : BitVec 8) (g : Group) (s : State), s.clocked = true ∧ s.group? index.toNat = some g ∧ g.state =
            .defining ∧ 1024 ≤ g.frames ∧ g.coordinator ≠ s.self) ∧
    (∃ (index : BitVec 8) (g : Group) (s : State), s.clocked = true ∧ s.group? index.toNat = some g ∧ (g.state ≠
            .defining ∨ g.frames < 1024)) ∧
    (∃ (span : BitVec 16) (num : BitVec 8) (pkg : Fin 128) (g : Group) (r : Nat) (s : State), s.clocked = true ∧
            s.mgt.act ≠ .restoring ∧ s.groupOf span num.toNat = some g ∧ g.rankOf pkg.val = some r) ∧
    (∃ (span : BitVec 16) (num : BitVec 8) (g : Group) (s : State), s.clocked = true ∧ s.mgt.act ≠ .restoring ∧
            s.groupOf span num.toNat = some g ∧ (g.state = .active ∨ g.state = .degraded)) ∧
    (∃ (index : BitVec 8) (g : Group) (n : Nat) (s : State), s.clocked = true ∧ s.group? index.toNat = some g ∧
            g.repair = some n ∧ 64 ≤ n) ∧
    (∃ (index : BitVec 8) (g : Group) (f : FrameNo) (round : BitVec 4) (u : State) (s : State), s.clocked = true ∧
            s.group? index.toNat = some g ∧ g.restart = some (f, round) ∧ later f s.frm.count = false ∧ g.running =
            true ∧ u = s.updGroup g.index (fun x =>
            { x with restart := none, round := round, killed := x.lost.any (fun l => l.1 == x.rank) }) ∧ (∀ x, x ∈
            ((u.queueOf g).map (·.reds)).getD [] → x.started.isSome = true → x.outcome = none → x.restarts < 2)) ∧
    (∃ (index : BitVec 8) (g : Group) (f : FrameNo) (round : BitVec 4) (u : State) (x : Reduction) (s : State),
            s.clocked = true ∧ s.group? index.toNat = some g ∧ g.restart = some (f, round) ∧ later f s.frm.count =
            false ∧ g.running = true ∧ u = s.updGroup g.index (fun x =>
            { x with restart := none, round := round, killed := x.lost.any (fun l => l.1 == x.rank) }) ∧ x ∈
            ((u.queueOf g).map (·.reds)).getD [] ∧ x.started.isSome = true ∧ x.outcome = none ∧ 2 ≤ x.restarts) ∧
    (∃ (index : BitVec 8) (g : Group) (s : State), s.clocked = true ∧ s.group? index.toNat = some g ∧ (g.restart =
            none ∨ g.running = false ∨ ∃ f round, g.restart = some (f, round) ∧ later f s.frm.count = true)) :=
  ⟨⟨0, 0, up, by decide +kernel⟩,
    by refine ⟨0, 0, 0, 0, g0, _, { up with red.groups := [g0] }, ?_, ?_, ?_, rfl⟩ <;> decide +kernel,
    by refine ⟨0, 0, g0, _, withGroup g0, ?_, ?_, ?_, ?_, rfl⟩ <;> decide +kernel,
    ⟨0, 0, { g0 with state := .active }, { up with red.groups := [{ g0 with state := .active }] },
            by decide +kernel⟩,
    ⟨0, { g0 with frames := 1024 }, { up with red.groups := [{ g0 with frames := 1024 }] }, by decide +kernel⟩,
    ⟨0, { g0 with frames := 1024, members := [(1, 0), (0, 0)] }, withGroup
            { g0 with frames := 1024, members := [(1, 0), (0, 0)] }, by decide +kernel⟩,
    ⟨0, g0, withGroup g0, by decide +kernel⟩,
    ⟨0, 0, 0, g0, 0, { up with red.groups := [g0] }, by decide +kernel⟩,
    ⟨0, 0, { g0 with state := .active }, { up with red.groups := [{ g0 with state := .active }] },
            by decide +kernel⟩,
    ⟨0, { g0 with repair := some 64 }, 64, { up with red.groups := [{ g0 with repair := some 64 }] },
            by decide +kernel⟩,
    by refine ⟨0, { g0 with state := .active, restart := some (5, 1) }, 5, 1, _,
            { up with red.groups := [{ g0 with state := .active, restart := some (5, 1) }] }, ?_, ?_, ?_, ?_, ?_,
            rfl, ?_⟩ <;> decide +kernel,
    by refine ⟨0, { ga with restart := some (5, 1) }, 5, 1, _, { red0 with restarts := 2 },
            { withRed { red0 with restarts := 2 } with red.groups := [{ ga with restart := some (5, 1) }] }, ?_, ?_,
            ?_, ?_, ?_, rfl, ?_⟩ <;> decide +kernel,
    by refine ⟨0, g0, withGroup g0, ?_, ?_, Or.inl ?_⟩ <;> decide +kernel⟩

theorem witness_ReductionDataComplete :
    (∃ (span : BitVec 16) (img : Image) (i : Image) (g : Group) (r : Nat) (s : State), s.clocked = true ∧ s.groupOf
            span img.group = some g ∧ i = { img with group := g.index, seq := g.fullSeq img.seq } ∧ i.round =
            g.round ∧ g.rankOf i.sender = some r ∧ r ∈ g.order ∧ (∃ q, q ∈ g.targets (g.treeOf i.seq i.chunk) ∧
            g.rankAt (g.treeOf i.seq i.chunk) q = r) ∧ (g.checked = false ∨ i.exp = true ∨ i.residueBad = false) ∧
            g.base ≤ i.seq) ∧
    (∃ (span : BitVec 16) (img : Image) (g : Group) (s : State), s.clocked = true ∧ s.groupOf span img.group = some
            g ∧ img.round ≠ g.round) ∧
    (∃ (span : BitVec 16) (img : Image) (g : Group) (s : State), s.clocked = true ∧ s.groupOf span img.group = some
            g ∧ g.rankOf img.sender = none) ∧
    (∃ (span : BitVec 16) (img : Image) (i : Image) (g : Group) (r : Nat) (s : State), s.clocked = true ∧ s.groupOf
            span img.group = some g ∧ i = { img with group := g.index, seq := g.fullSeq img.seq } ∧ i.round =
            g.round ∧ g.rankOf i.sender = some r ∧ r ∈ g.order ∧ (∃ q, q ∈ g.targets (g.treeOf i.seq i.chunk) ∧
            g.rankAt (g.treeOf i.seq i.chunk) q = r) ∧ g.checked = true ∧ i.exp = false ∧ i.residueBad = true) ∧
    (∃ (p : Fin 16) (q : Fin 16) (x : Commq) (g : Group) (r : Reduction) (e : Nat) (a : Nat) (n : Nat) (size : Nat)
            (u : State) (bs : List Byte) (s : State), s.clocked = true ∧ s.commq p.val q.val = some x ∧ s.group?
            x.group = some g ∧ g.running = true ∧ x.nextIn g.chunks = some r ∧ s.sourceReady r = true ∧ x.mayStart r
            = true ∧ s.intakeEngine g r = some e ∧ a = r.taken * chunkSize ∧ n = min (min (s.lengthOf r) g.cap) (a +
            chunkSize) - a ∧ size = (if g.bf16In && r.fused.isNone then 2 else 4) ∧ s.readRuns (g.who e) size (if n
            = 0 then [] else r.srcRuns size a n) [] = (u, .ok bs)) ∧
    (∃ (p : Fin 16) (q : Fin 16) (x : Commq) (g : Group) (r : Reduction) (e : Nat) (a : Nat) (n : Nat) (size : Nat)
            (u : State) (f : FaultRec) (s : State), s.clocked = true ∧ s.commq p.val q.val = some x ∧ s.group?
            x.group = some g ∧ g.running = true ∧ x.nextIn g.chunks = some r ∧ s.sourceReady r = true ∧ x.mayStart r
            = true ∧ s.intakeEngine g r = some e ∧ a = r.taken * chunkSize ∧ n = min (min (s.lengthOf r) g.cap) (a +
            chunkSize) - a ∧ size = (if g.bf16In && r.fused.isNone then 2 else 4) ∧ s.readRuns (g.who e) size (if n
            = 0 then [] else r.srcRuns size a n) [] = (u, .fault f)) ∧
    (∃ (p : Fin 16) (q : Fin 16) (x : Commq) (g : Group) (r : Reduction) (s : State), s.clocked = true ∧ s.commq
            p.val q.val = some x ∧ s.group? x.group = some g ∧ g.running = true ∧ x.nextIn g.chunks = some r ∧
            (s.sourceReady r = false ∨ x.mayStart r = false ∨ s.intakeEngine g r = none)) ∧
    (∃ (p : Fin 16) (q : Fin 16) (s : State), s.clocked = true ∧ s.commq p.val q.val = none) ∧
    (∃ (p : Fin 16) (q : Fin 16) (s : State), s.clocked = true ∧ s.commq p.val q.val = none) ∧
    (∃ (p : Fin 16) (q : Fin 16) (x : Commq) (g : Group) (r : Reduction) (e : Nat) (id : Nat) (b : Nat × List
            (BitVec 32)) (bs : List (Nat × List (BitVec 32))) (s : State), s.clocked = true ∧ s.commq p.val q.val =
            some x ∧ s.group? x.group = some g ∧ g.running = true ∧ x.reds.find? (fun r => r.outcome.isNone &&
            (decide (r.taken < g.chunks) || (r.fused.isSome && !r.buffers.isEmpty))) = some r ∧ r.fused = some id ∧
            x.mayStart r = true ∧ r.buffers = b :: bs ∧ (b.2.length = chunkSize ∨ s.fusedOver r = true) ∧ b.1 =
            r.taken ∧ r.taken < g.chunks ∧ s.intakeEngine g r = some e) ∧
    (∃ (p : Fin 16) (q : Fin 16) (x : Commq) (g : Group) (r : Reduction) (id : Nat) (b : Nat × List (BitVec 32)) (bs
            : List (Nat × List (BitVec 32))) (s : State), s.clocked = true ∧ s.commq p.val q.val = some x ∧ s.group?
            x.group = some g ∧ g.running = true ∧ x.reds.find? (fun r => r.outcome.isNone && (decide (r.taken <
            g.chunks) || (r.fused.isSome && !r.buffers.isEmpty))) = some r ∧ r.fused = some id ∧ x.mayStart r = true
            ∧ r.buffers = b :: bs ∧ b.2.length ≠ chunkSize ∧ s.fusedOver r = false) ∧
    (∃ (p : Fin 16) (q : Fin 16) (x : Commq) (g : Group) (r : Reduction) (id : Nat) (b : Nat × List (BitVec 32)) (bs
            : List (Nat × List (BitVec 32))) (s : State), s.clocked = true ∧ s.commq p.val q.val = some x ∧ s.group?
            x.group = some g ∧ g.running = true ∧ x.reds.find? (fun r => r.outcome.isNone && (decide (r.taken <
            g.chunks) || (r.fused.isSome && !r.buffers.isEmpty))) = some r ∧ r.fused = some id ∧ x.mayStart r = true
            ∧ r.buffers = b :: bs ∧ (b.2.length = chunkSize ∨ s.fusedOver r = true) ∧ (b.1 < r.taken ∨ g.chunks ≤
            b.1)) :=
  ⟨by refine ⟨0, { i0 with contrib := 1, sender := 1 }, _, ga, 1, withGroup ga, ?_, ?_, rfl, ?_⟩ <;> decide +kernel,
    ⟨0, { i0 with round := 1 }, ga, withGroup ga, by decide +kernel⟩,
    ⟨0, { i0 with sender := 5 }, ga, withGroup ga, by decide +kernel⟩,
    by refine ⟨0, { i0 with exp := false, contrib := 1, sender := 1, residues := [0] }, _,
            { ga with checked := true }, 1, withGroup { ga with checked := true }, ?_, ?_, rfl, ?_⟩
            <;> decide +kernel,
    by refine ⟨0, 0, _, _, red0, _, _, _, _, _, _, withRed red0, ?_, rfl, rfl, ?_, ?_, ?_, ?_, rfl, rfl, rfl, rfl,
            ok_eq [] ?_⟩ <;> decide +kernel,
    by refine ⟨0, 0, _, _, red0, _, _, _, _, _, _, { withRed red0 with xlt.dev := [] }, ?_, rfl, rfl, ?_, ?_, ?_,
            ?_, rfl, rfl, rfl, rfl, fault_eq ?_⟩ <;> decide +kernel,
    by refine ⟨0, 0, _, _, fused0, withRed fused0, ?_, rfl, rfl, ?_⟩ <;> decide +kernel,
    ⟨0, 0, up, by decide +kernel⟩,
    ⟨0, 0, up, by decide +kernel⟩,
    by refine ⟨0, 0, _, _, fused0, _, 7, (0, []), [], withRed fused0, ?_, rfl, rfl, ?_, ?_, ?_, ?_, ?_, ?_, ?_, ?_,
            rfl⟩ <;> decide +kernel,
    by refine ⟨0, 0, _, _, fused0, 7, (0, []), [], { withRed fused0 with seq.ops := [{ o0 with id := 7 }] }, ?_,
            rfl, rfl, ?_⟩ <;> decide +kernel,
    by refine ⟨0, 0, _, _, { fused0 with taken := 1 }, 7, (0, []), [], withRed { fused0 with taken := 1 }, ?_, rfl,
            rfl, ?_⟩ <;> decide +kernel⟩

theorem witness_JtagInstructionsComplete :
    (∃ (n : Nat × State) (m : Nat × State) (s : State), s.por.scan = false ∧ n = s.takeFree ∧ m = (n.2.updPor (fun p
            => { p with jtag := bypassCode n.1, atbJtag := false })).takeFree) ∧
    (∃ (n : Nat × State) (s : State), s.por.scan = false ∧ n = (s.updPor (fun p =>
            { p with jtag := 0x02, atbJtag := false })).takeFree) ∧
    (∃ (n : Nat × State) (s : State), s.por.scan = false ∧ (s.por.sysRst = true ∨ s.por.testEn = true) ∧ n =
            (s.updPor (fun p => { p with jtag := 0x00, atbJtag := false })).takeFree) ∧
    (∃ (n : Nat × State) (s : State), s.por.scan = false ∧ s.por.sysRst = false ∧ s.por.testEn = false ∧ n =
            (s.updPor (fun p => { p with jtag := 0x00, atbJtag := false })).takeFree) ∧
    (∃ (n : Nat × State) (s : State), s.por.scan = false ∧ (s.por.sysRst = true ∨ s.por.testEn = true) ∧ n =
            (s.updPor (fun p => { p with jtag := 0x03, atbJtag := false })).takeFree) ∧
    (∃ (n : Nat × State) (s : State), s.por.scan = false ∧ s.por.sysRst = false ∧ s.por.testEn = false ∧ n =
            (s.updPor (fun p => { p with jtag := 0x03, atbJtag := false })).takeFree) ∧
    (∃ (n : Nat × State) (s : State), s.por.scan = false ∧ (s.por.sysRst = true ∨ s.por.testEn = true) ∧ n =
            (s.updPor (fun p => { p with jtag := 0x04, atbJtag := false })).takeFree) ∧
    (∃ (n : Nat × State) (s : State), s.por.scan = false ∧ s.por.sysRst = false ∧ s.por.testEn = false ∧ n =
            (s.updPor (fun p => { p with jtag := 0x04, atbJtag := false })).takeFree) ∧
    (∃ (s : State), s.por.scan = false) ∧
    (∃ (s : State), s.por.scan = false) ∧
    (∃ (s : State), s.por.scan = false) ∧
    (∃ (s : State), s.por.scan = false) ∧
    (∃ (s : State), (s.por.jtag = 0x00 ∨ s.por.jtag = 0x03 ∨ s.por.jtag = 0x04 ∨ s.por.jtag = 0x05 ∨ s.por.jtag =
            0x06)) ∧
    (∃ (s : State), (s.por.jtag = 0x20 ∨ s.por.jtag = 0x21 ∨ s.por.jtag = 0x22)) ∧
    (∃ (s : State), s.por.scan = false) ∧
    (∃ (s : State), s.por.scan = false) ∧
    (∃ (s : State), s.por.scan = false ∧ s.scanOpen = false) ∧
    (∃ (n : Nat × State) (s : State), s.por.scan = false ∧ s.scanOpen = true ∧ n = (s.updPor (fun p =>
            { p with jtag := 0x21, atbJtag := false })).takeFree) ∧
    (∃ (s : State), s.por.scan = false ∧ s.por.tripAsserted = false) ∧
    (∃ (s : State), s.por.scan = false ∧ s.por.tripAsserted = true) ∧
    (∃ (n : Nat × State) (s : State), s.por.scan = true ∧ n = s.takeFree) ∧
    (∃ (i : Instr) (code : BitVec 8) (s : State), s.por.scan = true ∧ (i, code) ∈ ([(.extest, 0x00), (.idcode,
            0x01), (.testLogicReset, 0x01), (.samplePreload, 0x02), (.extestPulse, 0x03), (.extestTrain, 0x04),
            (.clamp, 0x05), (.highz, 0x06), (.mbistRun, 0x21), (.atbCtrl, 0x22), (.jtagWarmReset, 0x23)] : List
            (Instr × BitVec 8))) ∧
    (∃ (s : State), s.por.scan = true) :=
  ⟨by refine ⟨_, _, up, ?_, rfl, rfl⟩ <;> decide +kernel,
    by refine ⟨_, up, ?_, rfl⟩ <;> decide +kernel,
    by refine ⟨_, { up with por.sysRst := true }, ?_, ?_, rfl⟩ <;> decide +kernel,
    by refine ⟨_, { up with por.sysRst := false }, ?_, ?_, ?_, rfl⟩ <;> decide +kernel,
    by refine ⟨_, { up with por.testEn := true }, ?_, ?_, rfl⟩ <;> decide +kernel,
    by refine ⟨_, { up with por.sysRst := false }, ?_, ?_, ?_, rfl⟩ <;> decide +kernel,
    by refine ⟨_, { up with por.testEn := true }, ?_, ?_, rfl⟩ <;> decide +kernel,
    by refine ⟨_, { up with por.sysRst := false }, ?_, ?_, ?_, rfl⟩ <;> decide +kernel,
    ⟨up, by decide +kernel⟩,
    ⟨up, by decide +kernel⟩,
    ⟨up, by decide +kernel⟩,
    ⟨up, by decide +kernel⟩,
    ⟨{ up with por.jtag := 0x05 }, by decide +kernel⟩,
    ⟨{ up with por.jtag := 0x20 }, by decide +kernel⟩,
    ⟨up, by decide +kernel⟩,
    ⟨up, by decide +kernel⟩,
    ⟨up, by decide +kernel⟩,
    by refine ⟨_, { up with por.testEn := true, fuse.scanIntact := true }, ?_, ?_, rfl⟩ <;> decide +kernel,
    ⟨up, by decide +kernel⟩,
    ⟨{ up with por.tripAsserted := true }, by decide +kernel⟩,
    by refine ⟨_, { up with por.scan := true }, ?_, rfl⟩ <;> decide +kernel,
    ⟨.clamp, 0x05, { up with por.scan := true }, by decide +kernel⟩,
    ⟨{ up with por.scan := true }, by decide +kernel⟩⟩

theorem witness_PowerAndThermalEvents :
    (∃ (temps : List (Option Int)) (u : State) (s : State), s.clocked = true ∧ (∀ x, x ∈ (List.range 48).zip temps →
            ∀ t, x.2 = some t → t < 115 * 16) ∧ u = ((List.range 48).zip temps).foldl (fun s x => s.readSensor x.1
            (x.2.map (fun t => BitVec.ofInt 16 t))) s) ∧
    (∃ (temps : List (Option Int)) (u : State) (x : Nat × Option Int) (s : State), s.clocked = true ∧ ((List.range
            48).zip temps).find? (fun x => x.2.any (fun t => decide (115 * 16 ≤ t))) = some x ∧ u = ((List.range
            48).zip temps).foldl (fun s x => s.readSensor x.1 (x.2.map (fun t => BitVec.ofInt 16 t))) s) ∧
    (∃ (failed : Bool) (s : State), s.clocked = true ∧ 64 ≤ s.pwr.winFrames ∧ failed = false ∧ s.pwr.winFailed =
            false) ∧
    (∃ (failed : Bool) (s : State), s.clocked = true ∧ 64 ≤ s.pwr.winFrames ∧ (failed = true ∨ s.pwr.winFailed =
            true)) ∧
    (∃ (s : State), s.clocked = true ∧ s.mgt.act ≠ .restoring) ∧
    (∃ (cap : BitVec 7) (frame : FrameNo) (pkg : Fin 128) (x : SheafCap) (s : State), s.clocked = true ∧ s.mgt.act ≠
            .restoring ∧ s.pwr.sheaf.find? (fun x => x.cap == cap && x.waiting.contains pkg.val && !later
            x.effective frame) = some x ∧ x.waiting.filter (fun k => k != pkg.val) = []) ∧
    (∃ (cap : BitVec 7) (frame : FrameNo) (pkg : Fin 128) (x : SheafCap) (s : State), s.clocked = true ∧ s.mgt.act ≠
            .restoring ∧ s.pwr.sheaf.find? (fun x => x.cap == cap && x.waiting.contains pkg.val && !later
            x.effective frame) = some x ∧ x.waiting.filter (fun k => k != pkg.val) ≠ []) ∧
    (∃ (x : SheafCap) (s : State), s.clocked = true ∧ s.pwr.sheaf.filter (fun x => !later x.effective s.frm.count &&
            decide (64 ≤ framesSince s.frm.count x.effective)) = [x]) ∧
    (∃ (sensor : BitVec 16) (s : State), s.clocked = true ∧ (48 ≤ sensor.toNat ∧ sensor.toNat < 56 ∨ 256 ≤
            sensor.toNat ∧ sensor.toNat < 280 ∨ 512 ≤ sensor.toNat ∧ sensor.toNat < 528)) ∧
    (∃ (port : Fin 16) (word : Codeword) (s : State), s.clocked = true ∧ (s.port port.val).link ≠ .down ∧ (s.port
            port.val).health ≠ .retired ∧ word.lane.val ∈ (s.port port.val).active ∧ word.errors ≤ 15) ∧
    (∃ (port : Fin 16) (word : Codeword) (s : State), s.clocked = true ∧ ((s.port port.val).link = .down ∨ (s.port
            port.val).health = .retired ∨ word.lane.val ∉ (s.port port.val).active)) ∧
    (∃ (port : Fin 16) (word : Codeword) (s : State), s.clocked = true ∧ (s.port port.val).link ≠ .down ∧ (s.port
            port.val).health ≠ .retired ∧ word.lane.val ∈ (s.port port.val).active ∧ 15 < word.errors ∧ (((s.port
            port.val).lane word.lane.val).consecUncorr + 1 < 64 ∨ ((s.port port.val).lane word.lane.val).lock ≠
            .locked)) ∧
    (∃ (port : Fin 16) (s : State), s.clocked = true ∧ (s.port port.val).link = .down ∧ (s.port port.val).health ≠
            .retired) ∧
    (∃ (port : Fin 16) (s : State), s.clocked = true ∧ (s.port port.val).link = .doze) ∧
    (∃ (port : Fin 16) (s : State), s.clocked = true ∧ (((s.port port.val).link ≠ .down ∧ (s.port port.val).link ≠
            .doze) ∨ ((s.port port.val).link = .down ∧ (s.port port.val).health = .retired))) ∧
    (∃ (s : State), s.clocked = true ∧ s.frm.phase ≠ .stopped ∧ s.frm.role ≠ .standalone ∧ s.synced = true ∧
            s.frm.state ≠ .unsync) ∧
    (∃ (s : State), s.clocked = true ∧ s.frm.phase = .stopped) :=
  ⟨by refine ⟨[], _, up, ?_, ?_, rfl⟩ <;> decide +kernel,
    by refine ⟨some 1840 :: List.replicate 47 (some 0), _, (0, some 1840), up, ?_, ?_, rfl⟩ <;> decide +kernel,
    by refine ⟨_, { up with pwr.winFrames := 64 }, ?_, ?_, rfl, ?_⟩ <;> decide +kernel,
    ⟨true, { up with pwr.winFrames := 64 }, by decide +kernel⟩,
    ⟨up, by decide +kernel⟩,
    ⟨50, 5, 1, { cmd := none, cap := 50, effective := 5, waiting := [1] },
            { up with pwr.sheaf := [{ cmd := none, cap := 50, effective := 5, waiting := [1] }] },
            by decide +kernel⟩,
    ⟨50, 5, 1, { cmd := none, cap := 50, effective := 5, waiting := [1, 2] },
            { up with pwr.sheaf := [{ cmd := none, cap := 50, effective := 5, waiting := [1, 2] }] },
            by decide +kernel⟩,
    ⟨{ cmd := none, cap := 50, effective := 5, waiting := [1] },
            { up with frm.count := 100, pwr.sheaf := [{ cmd := none, cap := 50, effective := 5, waiting := [1] }] },
            by decide +kernel⟩,
    ⟨48, up, by decide +kernel⟩,
    ⟨0, { lane := 0, errors := 15, gap := 0 }, withPort pt, by decide +kernel⟩,
    ⟨0, { lane := 0, errors := 0, gap := 0 }, up, by decide +kernel⟩,
    ⟨0, { lane := 0, errors := 16, gap := 0 }, withPort pt, by decide +kernel⟩,
    ⟨0, up, by decide +kernel⟩,
    ⟨0, withPort { link := .doze }, by decide +kernel⟩,
    ⟨0, withPort pt, by decide +kernel⟩,
    ⟨up, by decide +kernel⟩,
    ⟨{ up with frm.phase := .stopped }, by decide +kernel⟩⟩

theorem witness_PowerOnAndResets :
    (∃ (s : State), s.por.sysRst = false) ∧
    (∃ (s : State), s.por.bring = .sequencing ∧ s.por.waitsFor < 6) ∧
    (∃ (s : State), s.por.bring = .sequencing ∧ 6 ≤ s.por.waitsFor) ∧
    (∃ (n : Nat) (s : State), s.por.bring = .sequencing ∧ n = min 3 (s.por.faults.toNat + 1)) ∧
    (∃ (g : Fin 6) (s : State), bit s.por.enables g.val = true ∧ bit s.por.pgood g.val = true) ∧
    (∃ (g : Fin 6) (s : State), bit s.por.enables g.val = false) ∧
    (∃ (s : State), s.por.retryWait = true ∧ s.por.sysRst = false ∧ s.por.lockedOff = false ∧ s.por.vddAon = true) ∧
    (∃ (s : State), s.por.sysRst = true ∧ s.por.vddAon = true) ∧
    (∃ (s : State), s.por.sysRst = false) ∧
    (∃ (s : State), s.clocked = true) ∧
    (∃ (s : State), s.clocked = true) ∧
    (∃ (s : State), s.por.enables ≠ 0) ∧
    (∃ (s : State), s.por.enables = 0) ∧
    (∃ (lost : Bool), lost = true) ∧
    (∃ (lost : Bool) (s : State), lost = false ∧ s.pcie.perstLow = false ∧ s.pcie.refclk = true) ∧
    (∃ (lost : Bool) (u : State) (s : State), lost = false ∧ s.pcie.perstLow = false ∧ s.pcie.refclk = false ∧ u =
            s.pcie.held.foldl (fun s t => s.emit t.output)
            { s with pcie := { s.pcie with held := [], refclk := true } }) ∧
    (∃ (lost : Bool) (s : State), lost = false ∧ s.pcie.perstLow = true ∧ s.pcie.refclk = false ∧ s.pcie.held = []) ∧
    (∃ (s : State), s.clocked = true ∧ s.por.lost = false ∧ s.coldUnderWay = true) ∧
    (∃ (s : State), s.clocked = true ∧ s.por.lost = false ∧ s.coldUnderWay = false ∧ (s.por.bring = .selfTest ∨
            s.por.bring = .running)) ∧
    (∃ (u : State) (s : State), s.por.bring = .coldReset ∧ s.por.sysRst = false ∧ u = ((s.updPor (fun p =>
            { p with bring := .selfTest, testEn := s.fuse.landTestEn, warmActive := false })).updFab (fun g =>
            { g with x := s.fuse.landX, y := s.fuse.landY, z := s.fuse.landZ })).updPwr (fun w =>
            { w with cap := s.fuse.grade.cap, base := s.fuse.grade.base })) :=
  ⟨⟨up, by decide +kernel⟩,
    ⟨{ up with por.bring := .sequencing }, by decide +kernel⟩,
    ⟨{ up with por.bring := .sequencing, por.enables := 63 }, by decide +kernel⟩,
    by refine ⟨_, { up with por.bring := .sequencing }, ?_, rfl⟩ <;> decide +kernel,
    ⟨0, { up with por.enables := 63, por.pgood := 63 }, by decide +kernel⟩,
    ⟨0, up, by decide +kernel⟩,
    ⟨{ up with por.retryWait := true }, by decide +kernel⟩,
    ⟨{ up with por.sysRst := true }, by decide +kernel⟩,
    ⟨up, by decide +kernel⟩,
    ⟨up, by decide +kernel⟩,
    ⟨up, by decide +kernel⟩,
    ⟨{ up with por.enables := 63 }, by decide +kernel⟩,
    ⟨up, by decide +kernel⟩,
    ⟨_, rfl⟩,
    ⟨false, up, by decide +kernel⟩,
    by refine ⟨false, _, { up with pcie.refclk := false }, ?_, ?_, ?_, rfl⟩ <;> decide +kernel,
    ⟨false, { up with pcie.perstLow := true, pcie.refclk := false }, by decide +kernel⟩,
    ⟨{ up with por.bring := .selfTest, mgt := {} }, by decide +kernel⟩,
    ⟨up, by decide +kernel⟩,
    by refine ⟨_, { up with por.bring := .coldReset }, ?_, ?_, rfl⟩ <;> decide +kernel⟩

theorem witness_TestsAndBoot :
    (∃ (s : State), s.clocked = true ∧ s.por.bring = .selfTest ∧ s.por.selfTested = false) ∧
    (∃ (s : State), s.clocked = true ∧ (s.por.bring ≠ .selfTest ∨ s.por.selfTested = true)) ∧
    (∃ (s : State), s.clocked = true ∧ s.por.bring = .selfTest) ∧
    (∃ (bad : List Nat) (s : State), s.clocked = true ∧ s.por.bring = .selfTest ∧ s.por.hbmTested = false ∧ (∀ k, k
            < 8 → (s.por.hbm.get {} k).failed = false) ∧ bad = []) ∧
    (∃ (s : State), s.clocked = true ∧ s.por.bring = .selfTest ∧ s.por.hbmTested = false) ∧
    (∃ (s : State), s.clocked = true ∧ s.por.bring = .selfTest ∧ s.por.selfTested = true ∧ s.por.hbmTested = true) ∧
    (∃ (i : FwImage) (s : State), s.clocked = true ∧ s.por.bring = .running ∧ s.mgt.booted = false ∧
            (s.mgt.dieW.held = false ∨ s.mgt.dieE.held = false) ∧ s.validBank s.flash.active = some i) ∧
    (∃ (i : FwImage) (s : State), s.clocked = true ∧ s.por.bring = .running ∧ s.mgt.booted = false ∧
            (s.mgt.dieW.held = false ∨ s.mgt.dieE.held = false) ∧ s.validBank s.flash.active = none ∧ s.validBank
            (!s.flash.active) = some i) ∧
    (∃ (s : State), s.clocked = true ∧ s.por.bring = .running ∧ s.mgt.booted = false ∧ s.mgt.dieW.held = true ∧
            s.mgt.dieE.held = true) ∧
    (∃ (s : State), s.clocked = true ∧ s.por.bring = .running ∧ s.mgt.booted = false ∧ s.validBank s.flash.active =
            none ∧ s.validBank (!s.flash.active) = none) ∧
    (∃ (s : State), s.clocked = true ∧ (s.por.bring ≠ .running ∨ s.mgt.booted = true)) ∧
    (∃ (d : Die) (s : State), s.clocked = true ∧ d = (if s.mgt.activeE then .w else .e) ∧ s.mgt.booted = true ∧
            s.mgt.act = .none ∧ (s.mgt.complex d).held = false) ∧
    (∃ (s : State), s.clocked = true) ∧
    (∃ (die : Die) (s : State), s.clocked = true ∧ (s.mgt.complex die).running = false) ∧
    (∃ (die : Die) (ex : List FrameNo) (u : State) (s : State), s.clocked = true ∧ (s.mgt.complex die).running =
            true ∧ ex = ((s.mgt.complex die).expiries.filter (fun f => decide (framesSince s.frm.count f < 2 ^ 20)))
            ++ [s.frm.count] ∧ u = (s.log 0x0003 [(0, die.num)]).updMgt (fun g => g.updComplex die (fun c =>
            { c with
                count := 0, expiries := ex, held := (s.mgt.complex die).held || decide (3 ≤ ex.length),
                running := false })) ∧ die = u.mgt.active ∧ u.mgt.standbyOk = true) ∧
    (∃ (die : Die) (ex : List FrameNo) (u : State) (s : State), s.clocked = true ∧ (s.mgt.complex die).running =
            true ∧ ex = ((s.mgt.complex die).expiries.filter (fun f => decide (framesSince s.frm.count f < 2 ^ 20)))
            ++ [s.frm.count] ∧ u = (s.log 0x0003 [(0, die.num)]).updMgt (fun g => g.updComplex die (fun c =>
            { c with
                count := 0, expiries := ex, held := (s.mgt.complex die).held || decide (3 ≤ ex.length),
                running := false })) ∧ die ≠ u.mgt.active) :=
  ⟨⟨{ up with por.bring := .selfTest, por.selfTested := false, por.hbmTested := false }, by decide +kernel⟩,
    ⟨up, by decide +kernel⟩,
    ⟨{ up with por.bring := .selfTest, por.selfTested := false, por.hbmTested := false }, by decide +kernel⟩,
    by refine ⟨_, { up with por.bring := .selfTest, por.selfTested := false, por.hbmTested := false }, ?_, ?_, ?_,
            ?_, rfl⟩ <;> decide +kernel,
    ⟨{ up with por.bring := .selfTest, por.selfTested := false, por.hbmTested := false }, by decide +kernel⟩,
    ⟨{ up with por.bring := .selfTest }, by decide +kernel⟩,
    by refine ⟨{}, { up with mgt := {} }, ?_, ?_, ?_, ?_, valid_bank rfl rfl⟩ <;> decide +kernel,
    by refine ⟨{}, { up with mgt := {}, flash.bankA := none, flash.bankB := some {} }, ?_, ?_, ?_, ?_, rfl,
            valid_bank rfl rfl⟩ <;> decide +kernel,
    ⟨{ up with mgt.booted := false, mgt.dieW.held := true, mgt.dieE.held := true }, by decide +kernel⟩,
    ⟨{ up with mgt := {}, flash.bankA := none }, by decide +kernel⟩,
    ⟨up, by decide +kernel⟩,
    by refine ⟨_, up, ?_, rfl, ?_⟩ <;> decide +kernel,
    ⟨up, by decide +kernel⟩,
    ⟨.w, up, by decide +kernel⟩,
    by refine ⟨.w, _, _, { up with mgt.dieW := { running := true, expiries := [3] }, mgt.standbyOk := true }, ?_,
            ?_, rfl, rfl, rfl, ?_⟩ <;> decide +kernel,
    by refine ⟨.e, _, _, { up with mgt.dieE := { running := true } }, ?_, ?_, rfl, rfl, ?_⟩ <;> decide +kernel⟩

theorem witness_FirmwareUpdates :
    (∃ (img : FwImage) (c : CmdId) (u : State) (s : State), s.clocked = true ∧ s.mgt.stageCmd = some c ∧ s.mgt.fw =
            .receiving ∧ img = imageOf s.mgt.stageData ∧ u = (s.setFw .verifying).updMgt (fun g =>
            { g with stageCmd := none, stageData := [] }) ∧ u.imageBad img = none) ∧
    (∃ (c : CmdId) (u : State) (k : FwCheck) (s : State), s.clocked = true ∧ s.mgt.stageCmd = some c ∧ s.mgt.fw =
            .receiving ∧ u = (s.setFw .verifying).updMgt (fun g => { g with stageCmd := none, stageData := [] }) ∧
            u.imageBad (imageOf s.mgt.stageData) = some k) ∧
    (∃ (s : State), s.clocked = true ∧ (s.mgt.stageCmd = none ∨ s.mgt.fw ≠ .receiving)) ∧
    (∃ (i : FwImage), (i.magic ≠ 0x4B534843 ∨ i.headerLen ≠ 512 ∨ i.reserved = true ∨ 24 * 2 ^ 20 < 512 +
            i.bodyLen.toNat)) ∧
    (∃ (i : FwImage) (s : State), s.imageBad i = none) ∧
    (∃ (valid : Bool) (s : State), s.clocked = true ∧ s.mgt.act = .loading ∧ valid = true ∧ (s.validBank
            s.inactive).isSome = true) ∧
    (∃ (valid : Bool) (s : State), s.clocked = true ∧ s.mgt.act = .loading ∧ (valid = false ∨ s.validBank s.inactive
            = none)) ∧
    (∃ (code : BitVec 2) (i : FwImage) (s : State), s.clocked = true ∧ s.mgt.act = .restoring ∧ s.flash.bank
            s.inactive = some i ∧ code = 0) ∧
    (∃ (code : BitVec 2) (i : FwImage) (s : State), s.clocked = true ∧ s.mgt.act = .restoring ∧ s.flash.bank
            s.inactive = some i ∧ code ≠ 0) ∧
    (∃ (s : State), s.clocked = true ∧ s.mgt.act ≠ .restoring) ∧
    (∃ (block : BitVec 16) (data : List Byte) (s : State), s.clocked = true ∧ s.mgt.dfu = .idle ∧ (s.mgt.fw = .idle
            ∨ s.mgt.fw = .staged) ∧ block = 0 ∧ data.length ≤ dfuBlockSize ∧ data ≠ []) ∧
    (∃ (s : State), s.clocked = true ∧ s.mgt.dfu = .idle ∧ s.mgt.fw ≠ .idle ∧ s.mgt.fw ≠ .staged) ∧
    (∃ (block : BitVec 16) (data : List Byte) (s : State), s.clocked = true ∧ s.mgt.dfu = .idle ∧ (s.mgt.fw = .idle
            ∨ s.mgt.fw = .staged) ∧ (block ≠ 0 ∨ dfuBlockSize < data.length ∨ data = [])) ∧
    (∃ (block : BitVec 16) (data : List Byte) (s : State), s.clocked = true ∧ s.mgt.dfu = .dnload ∧ block.toNat =
            s.mgt.dfuBlock % 65536 ∧ s.mgt.stageData.length = dfuBlockSize * s.mgt.dfuBlock ∧ data.length ≤
            dfuBlockSize ∧ s.mgt.stageData.length + data.length ≤ 24 * 2 ^ 20) ∧
    (∃ (block : BitVec 16) (data : List Byte) (s : State), s.clocked = true ∧ s.mgt.dfu = .dnload ∧ (block.toNat ≠
            s.mgt.dfuBlock % 65536 ∨ s.mgt.stageData.length ≠ dfuBlockSize * s.mgt.dfuBlock ∨ dfuBlockSize <
            data.length ∨ 24 * 2 ^ 20 < s.mgt.stageData.length + data.length)) ∧
    (∃ (s : State), s.clocked = true ∧ s.mgt.dfu ≠ .idle ∧ s.mgt.dfu ≠ .dnload) ∧
    (∃ (img : FwImage) (u : State) (v : State) (s : State), s.clocked = true ∧ s.mgt.dfu = .dnload ∧ s.mgt.fw =
            .receiving ∧ img = imageOf s.mgt.stageData ∧ u = (s.updMgt (fun g =>
            { g with dfu := .manifest, stageData := [] })).setFw .verifying ∧ u.imageBad img = none ∧ v =
            (State.setFw .staged { u with flash := u.flash.setBank u.inactive (some img) }).updMgt (fun g =>
            { g with dfu := .idle, dfuStatus := .ok })) ∧
    (∃ (u : State) (k : FwCheck) (s : State), s.clocked = true ∧ s.mgt.dfu = .dnload ∧ s.mgt.fw = .receiving ∧ u =
            (s.updMgt (fun g => { g with dfu := .manifest, stageData := [] })).setFw .verifying ∧ u.imageBad
            (imageOf s.mgt.stageData) = some k) ∧
    (∃ (s : State), s.clocked = true ∧ (s.mgt.dfu ≠ .dnload ∨ s.mgt.fw ≠ .receiving)) ∧
    (∃ (s : State), s.clocked = true) ∧
    (∃ (s : State), s.clocked = true ∧ (s.mgt.stageCmd ≠ none ∨ (s.mgt.fw ≠ .receiving ∧ s.mgt.fw ≠ .verifying))) ∧
    (∃ (s : State), s.clocked = true ∧ s.mgt.stageCmd = none ∧ (s.mgt.fw = .receiving ∨ s.mgt.fw = .verifying)) :=
  ⟨by refine ⟨{}, c0, _, { received imageBytes with mgt.stageCmd := some c0 }, ?_, ?_, ?_, image_read.symm, rfl,
            image_good rfl⟩ <;> decide +kernel,
    by refine ⟨c0, _, .c1, { received [] with mgt.stageCmd := some c0 }, ?_, ?_, ?_, rfl, ?_⟩ <;> decide +kernel,
    ⟨up, by decide +kernel⟩,
    ⟨{ magic := 0 }, by decide +kernel⟩,
    ⟨{}, up, good_image⟩,
    by refine ⟨true, { up with mgt.act := .loading, flash.bankB := some {} }, ?_, ?_, ?_, valid_some rfl rfl⟩
            <;> decide +kernel,
    by refine ⟨false, { up with mgt.act := .loading }, ?_, ?_, Or.inl ?_⟩ <;> decide +kernel,
    by refine ⟨_, {}, { up with mgt.act := .restoring, flash.bankB := some {} }, ?_, ?_, ?_, rfl⟩ <;> decide +kernel,
    ⟨1, {}, { up with mgt.act := .restoring, flash.bankB := some {} }, by decide +kernel⟩,
    ⟨up, by decide +kernel⟩,
    ⟨0, [0], up, by decide +kernel⟩,
    ⟨received [], by decide +kernel⟩,
    ⟨1, [], up, by decide +kernel⟩,
    ⟨1, [], { received (List.replicate dfuBlockSize 0) with mgt.dfu := .dnload, mgt.dfuBlock := 1 },
            by decide +kernel⟩,
    ⟨7, [], { received [] with mgt.dfu := .dnload }, by decide +kernel⟩,
    ⟨{ up with mgt.dfu := .error }, by decide +kernel⟩,
    by refine ⟨{}, _, _, { received imageBytes with mgt.dfu := .dnload }, ?_, ?_, ?_, image_read.symm, rfl,
            image_good rfl, rfl⟩ <;> decide +kernel,
    by refine ⟨_, .c1, { received [] with mgt.dfu := .dnload }, ?_, ?_, ?_, rfl, ?_⟩ <;> decide +kernel,
    ⟨up, by decide +kernel⟩,
    ⟨up, by decide +kernel⟩,
    ⟨up, by decide +kernel⟩,
    ⟨received [], by decide +kernel⟩⟩

theorem witness_SidebandAndConfiguration :
    (∃ (item : BitVec 16) (bs : List Byte) (s : State), s.clocked = true ∧ s.flash.item item.toNat = some bs ∧
            s.mgt.recovery = false) ∧
    (∃ (item : BitVec 16) (s : State), s.clocked = true ∧ (s.flash.item item.toNat = none ∨ s.mgt.recovery = true)) ∧
    (∃ (item : BitVec 16) (data : List Byte) (f : Flash) (s : State), s.clocked = true ∧ s.flash.setItem item.toNat
            data = some f ∧ s.mgt.recovery = false) ∧
    (∃ (item : BitVec 16) (data : List Byte) (s : State), s.clocked = true ∧ (s.flash.setItem item.toNat data = none
            ∨ s.mgt.recovery = true)) ∧
    (∃ (s : State), s.clocked = true) ∧
    (∃ (s : State), s.clocked = true ∧ (∀ q, q < 32 → railOf s.mgt.latchedSegments q = none)) ∧
    (∃ (readings : List (Option (BitVec 16))) (q : Nat) (r : Nat × Nat × Nat) (v0 : BitVec 16) (v1 : BitVec 16) (v2
            : BitVec 16) (v3 : BitVec 16) (s : State), s.clocked = true ∧ (List.range 32).filterMap (fun q =>
            (railOf s.mgt.latchedSegments q).map (fun r => (q, r))) = [(q, r)] ∧ s.stuck r.1 = false ∧ readings.getD
            (4 * q) none = some v0 ∧ readings.getD (4 * q + 1) none = some v1 ∧ readings.getD (4 * q + 2) none =
            some v2 ∧ readings.getD (4 * q + 3) none = some v3) ∧
    (∃ (s : State), s.clocked = true) ∧
    (∃ (segment : BitVec 2) (sdaHigh : Bool) (s : State), s.clocked = true ∧ sdaHigh = true ∧ s.stuck segment.toNat
            = false) ∧
    (∃ (segment : BitVec 2) (sdaHigh : Bool) (s : State), s.clocked = true ∧ sdaHigh = false ∧ s.stuck segment.toNat
            = true) ∧
    (∃ (segment : BitVec 2) (sdaHigh : Bool) (s : State), s.clocked = true ∧ s.stuck segment.toNat = true ∧ sdaHigh
            = true) ∧
    (∃ (segment : BitVec 2) (s : State), s.clocked = true ∧ s.stuck segment.toNat = false) ∧
    (∃ (pec : Bool) (s : State), s.clocked = true ∧ pec = true ∧ s.mgt.booted = true) ∧
    (∃ (pec : Bool) (s : State), s.clocked = true ∧ (pec = false ∨ s.mgt.booted = false)) ∧
    (∃ (w : BitVec 16) (pec : Bool) (s : State), s.clocked = true ∧ pec = true ∧ s.mgt.booted = true ∧ bit w 8 =
            false ∧ 35 ≤ fld w 0 7 ∧ fld w 0 7 ≤ 100) ∧
    (∃ (w : BitVec 16) (pec : Bool) (s : State), s.clocked = true ∧ pec = true ∧ s.mgt.booted = true ∧ (fld w 0 7 <
            35 ∨ 100 < fld w 0 7)) ∧
    (∃ (pec : Bool) (s : State), s.clocked = true ∧ pec = true ∧ s.mgt.booted = true) ∧
    (∃ (pec : Bool) (s : State), s.clocked = true ∧ pec = true ∧ s.mgt.booted = true) ∧
    (∃ (s : State), s.clocked = true ∧ s.mgt.alertLow = true) ∧
    (∃ (s : State), s.clocked = true ∧ s.mgt.alertLow = false) ∧
    (∃ (s : State), s.clocked = true ∧ s.mgt.booted = true) ∧
    (∃ (s : State), s.clocked = true ∧ s.mgt.booted = true) ∧
    (∃ (sensor : BitVec 16) (s : State), s.clocked = true ∧ s.mgt.booted = true ∧ s.sensorKnown sensor.toNat = true) ∧
    (∃ (s : State), s.clocked = true ∧ s.mgt.booted = true) ∧
    (∃ (s : State), s.clocked = true ∧ s.mgt.booted = false) :=
  ⟨⟨2, [0], up, by decide +kernel⟩,
    ⟨0, up, by decide +kernel⟩,
    by refine ⟨2, [1], _, up, ?_, rfl, ?_⟩ <;> decide +kernel,
    ⟨0, [], up, by decide +kernel⟩,
    ⟨up, by decide +kernel⟩,
    ⟨up, by decide +kernel⟩,
    ⟨List.replicate 128 (some 0), 0, (1, 64, 0), 0, 0, 0, 0, { up with mgt.latchedSegments := [1, 64] },
            by decide +kernel⟩,
    ⟨up, by decide +kernel⟩,
    by refine ⟨0, _, up, ?_, rfl, ?_⟩ <;> decide +kernel,
    by refine ⟨0, _, { up with mgt.smb := [(0, { stuck := true })] }, ?_, rfl, ?_⟩ <;> decide +kernel,
    ⟨0, true, { up with mgt.smb := [(0, { stuck := true })] }, by decide +kernel⟩,
    ⟨0, up, by decide +kernel⟩,
    by refine ⟨_, up, ?_, rfl, ?_⟩ <;> decide +kernel,
    ⟨false, up, by decide +kernel⟩,
    ⟨50, true, up, by decide +kernel⟩,
    by refine ⟨0, _, up, ?_, rfl, ?_⟩ <;> decide +kernel,
    by refine ⟨_, up, ?_, rfl, ?_⟩ <;> decide +kernel,
    by refine ⟨_, up, ?_, rfl, ?_⟩ <;> decide +kernel,
    ⟨{ up with mgt.alertLow := true }, by decide +kernel⟩,
    ⟨up, by decide +kernel⟩,
    ⟨up, by decide +kernel⟩,
    ⟨up, by decide +kernel⟩,
    ⟨0, up, by decide +kernel⟩,
    ⟨up, by decide +kernel⟩,
    ⟨{ up with mgt.booted := false }, by decide +kernel⟩⟩

theorem witness_StepRunsFront :
    (∃ (c : Instr) (rest : List Instr) (s : State), s.pending = c :: rest) ∧
    (∃ (s : State), s.pending = []) :=
  ⟨⟨.pgoodRise, [], { up with pending := [.pgoodRise] }, by decide +kernel⟩,
    ⟨up, by decide +kernel⟩⟩

theorem witness_QueueKeptOutputsGrow :
    ∃ (c : Instr) (s : State) (t : State), exec c s = .next t :=
  ⟨.commitInstant, up, _, rfl⟩

theorem witness_MemoryCanonicalKept :
    ∃ (s : State) (t : State), s.dram.wf = true ∧ s.spad.wf = true ∧ s.host.wf = true ∧ step s = .next t :=
  by refine ⟨State.reset, State.reset, ?_, ?_, ?_, rfl⟩ <;> decide +kernel

theorem witness_FusesOnlyBlow :
    ∃ (s : State) (t : State), step s = .next t :=
  ⟨State.reset, State.reset, rfl⟩

theorem witness_StoppedClocksFreeze :
    ∃ (c : Instr) (s : State), c.needsClock = true ∧ s.clocked = false :=
  ⟨.commitInstant, State.reset, by decide +kernel⟩

theorem witness_DeviceMemoryFrame :
    (∃ (c : Instr) (s : State) (t : State), c.storesMemory = false ∧ c.stopsOps = false ∧ s.por.scan = false ∧ exec
            c s = .next t) ∧
    (∃ (c : Instr) (s : State) (t : State), ((∃ r, c = .killStart r) ∨ (∃ m e, c = .ctxKill m e) ∨ (∃ m e, c =
            .jobAbort m e) ∨ (∃ f cs o g sp, c = .killNoticeReceive f cs o g sp) ∨ (∃ sp k, c = .spanDeadReceive sp
            k)) ∧ (∀ o, o ∈ s.seq.ops → o.inPass = false) ∧ exec c s = .next t) :=
  ⟨by refine ⟨.markerTimeout, up, _, ?_, ?_, ?_, rfl⟩ <;> decide +kernel,
    ⟨.killStart fr0, up, _, Or.inl ⟨fr0, rfl⟩, (fun _ h => nomatch h), rfl⟩⟩

theorem witness_EveryCommandCompletes :
    (∃ (c : Instr) (s : State) (t : State), c.loadsTest = true ∧ c ≠ .scanMode ∧ s.por.scan = true ∧ exec c s =
            .next t) ∧
    (∃ (s : State) (t : State), exec .sysRstAssert s = .next t) :=
  ⟨by refine ⟨.clamp, { up with por.scan := true }, _, ?_, ?_, ?_, rfl⟩ <;> decide +kernel,
    ⟨up, _, rfl⟩⟩

theorem witness_ReservedBitsRefused :
    ∃ (c : Instr) (sp : Spec) (m : Nat) (e : Entry) (s : State), c.command? = some (sp, m, e) ∧ s.canConsume m =
            true ∧ reservedSet (some sp) m e = true :=
  ⟨.devInfo 0 (ar [1]), specDevInfo, 0, ar [1], up, rfl, by decide +kernel⟩

theorem witness_FrameNumbersCompare :
    ∃ (s : State) (t : State), s.clocked = true ∧ s.frm.phase ≠ .stopped ∧ s.frm.started = true ∧ exec
            .commitInstant s = .next t :=
  by refine ⟨up, _, ?_, ?_, ?_, rfl⟩ <;> decide +kernel

theorem witness_Pf0ResetKeepsChanges :
    ∃ (s : State), s.pcieAlive = true :=
  ⟨up, by decide +kernel⟩

theorem witness_CommandChecksInOrder :
    (∃ (c : Instr) (sp : Spec) (m : Nat) (e : Entry) (s : State), c.command? = some (sp, m, e) ∧ s.canConsume m =
            true ∧ reservedSet (some sp) m e = false ∧ sp.permitted m = false) ∧
    (∃ (c : Instr) (sp : Spec) (m : Nat) (e : Entry) (s : State), c.command? = some (sp, m, e) ∧ s.canConsume m =
            true ∧ reservedSet (some sp) m e = false ∧ sp.permitted m = true ∧ (s.mb m).tickets.any (fun t =>
            t.cmd.ticket == e.ticket) = true) ∧
    (∃ (c : Instr) (sp : Spec) (m : Nat) (e : Entry) (s : State), c.command? = some (sp, m, e) ∧ s.canConsume m =
            true ∧ reservedSet (some sp) m e = false ∧ sp.permitted m = true ∧ (s.mb m).tickets.any (fun t =>
            t.cmd.ticket == e.ticket) = false ∧ ((e.cost != 0) ≠ decide (sp.cls = .j) ∨ sp.inRange m e.args
            (s.entered m sp.opcode e) = false)) ∧
    (∃ (c : Instr) (sp : Spec) (m : Nat) (e : Entry) (s : State), c.command? = some (sp, m, e) ∧ s.canConsume m =
            true ∧ reservedSet (some sp) m e = false ∧ sp.permitted m = true ∧ (s.mb m).tickets.any (fun t =>
            t.cmd.ticket == e.ticket) = false ∧ (e.cost != 0) = decide (sp.cls = .j) ∧ sp.inRange m e.args
            (s.entered m sp.opcode e) = true ∧ (sp.part m e.args).any (fun p => stateRefuses sp.cls (s.part
            p).state) = true) ∧
    (∃ (c : Instr) (sp : Spec) (m : Nat) (e : Entry) (s : State) (rs : Reason), c.command? = some (sp, m, e) ∧
            s.canConsume m = true ∧ reservedSet (some sp) m e = false ∧ sp.permitted m = true ∧ (s.mb m).tickets.any
            (fun t => t.cmd.ticket == e.ticket) = false ∧ (e.cost != 0) = decide (sp.cls = .j) ∧ sp.inRange m e.args
            (s.entered m sp.opcode e) = true ∧ (sp.part m e.args).any (fun p => stateRefuses sp.cls (s.part
            p).state) = false ∧ ctxCheck (sp.acts e.args) (s.ctx (sp.on m e) e.ctx.toNat).state = some rs) :=
  ⟨⟨.jobSubmit 0 e0, specJobSubmit, 0, e0, up, rfl, by decide +kernel⟩,
    ⟨.devInfo 0 e0, specDevInfo, 0, e0,
            { up with mbx := [(0, { enable := true, cmdLog2 := 4, cplLog2 := 4, tickets := [{ cmd := c0 }] })] },
            rfl, by decide +kernel⟩,
    ⟨.devInfo 0 { e0 with cost := 1 }, specDevInfo, 0, { e0 with cost := 1 }, up, rfl, by decide +kernel⟩,
    ⟨.jobSubmit 1 { ar [0, 1] with cost := 1 }, specJobSubmit, 1, { ar [0, 1] with cost := 1 }, withPart
            { state := .faulted }, rfl, by decide +kernel⟩,
    ⟨.jobSubmit 1 { ar [0, 1] with cost := 1 }, specJobSubmit, 1, { ar [0, 1] with cost := 1 }, withCtxs [(0,
            { state := .dead })], .badState, rfl, by decide +kernel⟩⟩

theorem witness_DevInfoAnswersEverywhere :
    ∃ (m : Fin 18) (e : Entry) (s : State), s.canConsume m.val = true ∧ reservedSet (some specDevInfo) m.val e =
            false ∧ (s.mb m.val).tickets.any (fun t => t.cmd.ticket == e.ticket) = false ∧ e.cost = 0 ∧ (s.mb
            m.val).tickets.length < ticketLimit m.val :=
  ⟨0, e0, up, by decide +kernel⟩

theorem witness_SetPeriodDuringChange :
    ∃ (m : Fin 18) (e : Entry) (s : State), Accepted specFrameSetPeriod m.val e s ∧ (s.frm.role = .master ∨
            s.frm.role = .standalone) ∧ (s.frm.proposal ≠ none ∨ s.frm.change ≠ none) :=
  ⟨0, ar [3], { up with frm.proposal := some p0 }, by unfold Accepted; decide +kernel, by decide +kernel⟩

theorem witness_ReferenceClockLoss :
    (∃ (s : State), s.por.enables ≠ 0) ∧
    (∃ (s : State), s.por.enables = 0) ∧
    (∃ (s : State), s.pcie.held = [] ∨ s.pcie.refclk = true) ∧
    (∃ (s : State), s.pcie.refclk = false) :=
  ⟨⟨{ up with por.enables := 63 }, by decide +kernel⟩,
    ⟨up, by decide +kernel⟩,
    ⟨up, by decide +kernel⟩,
    ⟨{ up with pcie.refclk := false }, by decide +kernel⟩⟩

end Sys2Proof.Tests
end

section
/-! PROOFS. The whole block: what a step does to the fuses, that every command answers, what the end of a SCAN_MODE
leaves, and what reserved bits in a command entry do. -/

namespace Sys2Proof.Machine

open Sys2Proof

/-! ### Steps -/

theorem step_of_pending_nil {s : State} (h : s.pending = []) : step s = .next s := by
  unfold step
  rw [h]

theorem step_of_pending_cons {c : Instr} {rest : List Instr} {s : State} (h : s.pending = c :: rest) :
    step s = exec c { s with pending := rest } := by
  unfold step
  rw [h]

theorem Kept.fuse_grows {W : Prop} {a s : State} (h : Kept W a s) : a.fuse.grows s.fuse := by
  obtain ⟨-, -, -, hfuse, -⟩ := h
  exact hfuse

theorem step_fuse_grows {s t : State} (h : step s = .next t) : s.fuse.grows t.fuse := by
  cases hp : s.pending with
  | nil =>
    rw [step_of_pending_nil hp] at h
    cases h
    exact (Kept.refl s).fuse_grows
  | cons c rest =>
    rw [step_of_pending_cons hp] at h
    exact (exec_kept (Kept.refl { s with pending := rest }) c h).fuse_grows

/-- Settles O49: every command keeps what `Kept` says, and an idle step changes nothing. -/
theorem fusesOnlyBlow : Obligations.FusesOnlyBlow := fun _ _ => step_fuse_grows

/-! ### Every command answers -/

/-- Each arm of the dispatch is a meaning of the form `.next _`, whatever the command's operands and the state. -/
theorem exec_next (c : Instr) (s : State) : ∃ t, exec c s = .next t := by
  cases c <;> exact ⟨_, rfl⟩

theorem step_next (s : State) : ∃ t, step s = .next t := by
  cases hp : s.pending with
  | nil => exact ⟨s, step_of_pending_nil hp⟩
  | cons c rest =>
    rw [step_of_pending_cons hp]
    exact exec_next c _

/-! ### The end of SCAN_MODE -/

/-- What is known of the state `t` that the end of a SCAN_MODE leaves (R461, log entry 130). -/
def LeftScan (s t : State) : Prop :=
  t.fuse = s.fuse ∧ t.flash = s.flash ∧ t.host = s.host ∧ t.out = s.out ∧ t.por.scan = false ∧ t.por.lost = true

theorem State.afterScan_leftScan (code : BitVec 8) (s : State) : LeftScan s (s.afterScan code) :=
  ⟨rfl, rfl, rfl, rfl, rfl, rfl⟩

theorem State.loadTest_leftScan {s : State} (h : s.por.scan = true) (code : BitVec 8) (effect : State → State) :
    LeftScan s (s.loadTest code effect) := by
  unfold State.loadTest
  rw [if_pos h]
  exact s.afterScan_leftScan code

/-- Every row of the test port but SCAN_MODE loads its instruction by `State.loadTest`; BYPASS first draws the free
value that its code is. -/
theorem exec_leftScan {c : Instr} {s t : State} (hload : c.loadsTest = true) (hne : c ≠ .scanMode)
    (hscan : s.por.scan = true) (h : exec c s = .next t) : LeftScan s t := by
  cases c with
  | scanMode => exact absurd rfl hne
  | bypass =>
    cases h
    exact State.loadTest_leftScan (s := s.takeFree.2) hscan _ _
  | idcode | samplePreload | extest | extestPulse | extestTrain | clamp | highz | mbistRun | atbCtrl | jtagWarmReset
  | testLogicReset =>
    cases h
    exact State.loadTest_leftScan hscan _ _
  | _ => cases hload

@[simp] theorem State.coldAssert_lost (s : State) : s.coldAssert.por.lost = false := rfl

@[simp] theorem State.coldAssert_scan (s : State) : s.coldAssert.por.scan = false := rfl

/-- Settles O52, by cases over the commands. -/
theorem everyCommandCompletes : Obligations.EveryCommandCompletes := by
  refine ⟨exec_next, step_next, fun _ _ _ => exec_leftScan, fun s t h => ?_⟩
  cases h
  exact ⟨State.coldAssert_lost _, State.coldAssert_scan _⟩

/-! ### Reserved bits -/

/-- A row of the command table is served with its specification and its entry. -/
theorem exec_of_command {c : Instr} {sp : Spec} {m : Nat} {e : Entry} (h : c.command? = some (sp, m, e)) (s : State) :
    exec c s = .next (serve sp m e s) := by
  cases c <;> cases h <;> rfl

/-- The words of a failed command (R96) speak of the frame unit only. -/
theorem failWords_of_frm {c : Instr} {sp : Spec} {m : Nat} {e : Entry} (h : c.command? = some (sp, m, e)) {s t : State}
    (hfrm : t.frm = s.frm) : sp.failWords t = sp.failWords s := by
  cases c with
  | jobSubmit =>
    cases h
    show noJobWords t = noJobWords s
    rw [noJobWords, hfrm, noJobWords]
  | _ => cases h <;> rfl

theorem State.resetBusy_of_canConsume {m : Nat} {s : State} (h : s.canConsume m = true) :
    (s.mb m).resetBusy = false := by
  unfold State.canConsume at h
  simp only [Bool.and_eq_true, Bool.not_eq_true'] at h
  obtain ⟨⟨⟨-, hbusy⟩, -⟩, -⟩ := h
  exact hbusy

theorem entered_answered {sp : Spec} {m : Nat} {e : Entry} {s : State} (h : s.canConsume m = true) (oc : Oc)
    (rs : Reason) (ws : List W64) :
    Answered sp m e oc rs ws s ((s.entered m sp.opcode e).finish (cmdIdOf s.nextUid m sp.opcode e) oc rs ws) := by
  have hbusy : ((s.entered m sp.opcode e).mb m).resetBusy = false := by
    rw [State.entered_mb]
    exact State.resetBusy_of_canConsume h
  have hlive : ((s.entered m sp.opcode e).mb m).live s.nextUid = true := by
    rw [State.entered_mb]
    simp [Mailbox.live, cmdIdOf]
  unfold Answered State.finish State.stage
  rw [if_pos (by simp [cmdIdOf, hbusy, hlive])]
  simp [cmdIdOf, State.entered_mb]

/-- Step 1 of R88: the reserved bits are checked before everything else, and of the command only its ticket is
entered. -/
theorem serve_reserved {c : Instr} {sp : Spec} {m : Nat} {e : Entry} {s : State} (hcmd : c.command? = some (sp, m, e))
    (hcan : s.canConsume m = true) (hres : reservedSet (some sp) m e = true) :
    serve sp m e s = (s.entered m sp.opcode e).finish (cmdIdOf s.nextUid m sp.opcode e) .badCommand .reservedSet
      (sp.failWords s) := by
  unfold serve
  rw [if_pos hcan]
  unfold consume
  dsimp only
  rw [if_pos hres]
  exact congrArg (fun ws => (s.entered m sp.opcode e).finish (cmdIdOf s.nextUid m sp.opcode e) .badCommand
    .reservedSet ws) (failWords_of_frm hcmd rfl)

/-- Settles O53: the check of the reserved bits ends the command with its record on the state where its ticket
stands. -/
theorem reservedBitsRefused : Obligations.ReservedBitsRefused := by
  intro c sp m e s hcmd hcan hres
  rw [exec_of_command hcmd, serve_reserved hcmd hcan hres]
  exact ⟨_, rfl, entered_onlyRecorded .., entered_answered hcan ..⟩

end Sys2Proof.Machine
end

section
/-! PROOFS. The fields of a word made of numbers at bit positions, and the words of DEV.INFO. -/

namespace Sys2Proof.Machine

open Sys2Proof

/-! ### Fields of a word -/

theorem getLsbD_foldl_parts (ps : List (Nat × Nat)) (w : W64) (i : Nat) (hi : i < 64) :
    (ps.foldl (fun a p => a ||| (BitVec.ofNat 64 p.2 <<< p.1)) w).getLsbD i =
      (w.getLsbD i || ps.any (fun p => decide (p.1 ≤ i) && p.2.testBit (i - p.1))) := by
  induction ps generalizing w with
  | nil => simp
  | cons p t ih =>
    have hpart : (BitVec.ofNat 64 p.2 <<< p.1).getLsbD i = (decide (p.1 ≤ i) && p.2.testBit (i - p.1)) := by
      grind [BitVec.getLsbD_ofNat]
    rw [List.foldl_cons, ih, BitVec.getLsbD_or, hpart, List.any_cons, Bool.or_assoc]

theorem getLsbD_word (ps : List (Nat × Nat)) {i : Nat} (hi : i < 64) :
    (word ps).getLsbD i = ps.any (fun p => decide (p.1 ≤ i) && p.2.testBit (i - p.1)) := by
  rw [word, getLsbD_foldl_parts ps 0 i hi]
  simp

theorem testBit_fld {n : Nat} (w : BitVec n) (lo len i : Nat) :
    (fld w lo len).testBit i = (decide (i < len) && w.getLsbD (lo + i)) := by
  rw [fld, Nat.testBit_mod_two_pow, Nat.testBit_shiftRight]
  rfl

/-- A field of a word reads the number placed there, if the parts listed before it end below the field and those listed
after it begin above it. -/
theorem fld_word (below above : List (Nat × Nat)) {lo len v : Nat} (hv : v < 2 ^ len) (hlen : lo + len ≤ 64)
    (hbelow : ∀ p ∈ below, p.1 ≤ lo ∧ p.2 < 2 ^ (lo - p.1)) (habove : ∀ p ∈ above, lo + len ≤ p.1) :
    fld (word (below ++ (lo, v) :: above)) lo len = v := by
  refine Nat.eq_of_testBit_eq fun i => ?_
  rw [testBit_fld]
  by_cases hi : i < len
  · have hb : below.any (fun p => decide (p.1 ≤ lo + i) && p.2.testBit (lo + i - p.1)) = false := by
      refine List.any_eq_false.2 fun p hp => ?_
      obtain ⟨hle, hlt⟩ := hbelow p hp
      have hpow : p.2 < 2 ^ (lo + i - p.1) := Nat.lt_of_lt_of_le hlt (Nat.pow_le_pow_right Nat.two_pos (by omega))
      simp [Nat.testBit_lt_two_pow hpow]
    have ha : above.any (fun p => decide (p.1 ≤ lo + i) && p.2.testBit (lo + i - p.1)) = false := by
      refine List.any_eq_false.2 fun p hp => ?_
      have := habove p hp
      simp only [Bool.and_eq_true, decide_eq_true_eq]
      omega
    rw [getLsbD_word _ (by omega), List.any_append, List.any_cons, hb, ha]
    simp [hi]
  · rw [Nat.testBit_lt_two_pow (Nat.lt_of_lt_of_le hv (Nat.pow_le_pow_right Nat.two_pos (by omega)))]
    simp [hi]

/-! ### DEV.INFO -/

/-- DEV.INFO is of class Q and acts for no context, so neither the state of a partition nor that of a context refuses
it. -/
theorem devInfo_accepted {m : Nat} {e : Entry} {s : State} (hm : m < 18) (hcan : s.canConsume m = true)
    (hres : reservedSet (some specDevInfo) m e = false)
    (hnew : (s.mb m).tickets.any (fun t => t.cmd.ticket == e.ticket) = false) (hcost : e.cost = 0)
    (hroom : (s.mb m).tickets.length < ticketLimit m) : Accepted specDevInfo m e s := by
  refine ⟨hcan, hres, decide_eq_true (by omega), hnew, by simp [hcost, specDevInfo], rfl, ?_, rfl, hroom⟩
  simp [specDevInfo, stateRefuses]

/-- Word 0 of DEV.INFO names the level, major and minor of the running image (Table 3-9). -/
theorem devInfo_release (m : Nat) (s : State) :
    fld ((devInfoWords m s).getD 0 0) 0 8 = s.mgt.running.level.toNat ∧
    fld ((devInfoWords m s).getD 0 0) 8 8 = s.mgt.running.major.toNat ∧
    fld ((devInfoWords m s).getD 0 0) 16 8 = s.mgt.running.minor.toNat := by
  have hlevel := s.mgt.running.level.isLt
  have hmajor := s.mgt.running.major.isLt
  have hminor := s.mgt.running.minor.isLt
  refine ⟨fld_word [] _ hlevel (by decide) (by simp) (by simp),
    fld_word [(0, s.mgt.running.level.toNat)] _ hmajor (by decide) (by simpa) (by simp),
    fld_word [(0, s.mgt.running.level.toNat), (8, s.mgt.running.major.toNat)] _ hminor (by decide) ?_ (by simp)⟩
  simpa using ⟨Nat.lt_trans hlevel (by decide), hmajor⟩

/-- Settles O58: DEV.INFO passes the checks on every mailbox and answers its words. -/
theorem devInfoAnswersEverywhere : Obligations.DevInfoAnswersEverywhere := by
  intro m e s hcan hres hnew hcost hroom
  have ⟨hrecorded, hanswered⟩ := serve_query (devInfo_accepted m.isLt hcan hres hnew hcost hroom)
    (ws := devInfoWords m s) rfl
  exact ⟨_, _, rfl, hrecorded, hanswered, devInfo_release m s⟩

end Sys2Proof.Machine
end

section
/-! PROOFS. What the registers read right after power-on reset. -/

namespace Sys2Proof.Machine

open Sys2Proof

theorem State.reset_regRead_mbx (fn off : Nat) : State.reset.regRead fn (.mbx off) = Mailbox.reg off {} := rfl

theorem State.reset_regRead_frmStatus (p : Nat) :
    State.reset.regRead 0 (.frmStatus p) = some (FrmPart.statusWord {}) := rfl

theorem State.reset_regRead_seq (p off : Nat) : State.reset.regRead 0 (.seq p off) = State.reset.seqReg 0 off := rfl

theorem State.reset_regRead_plnStatus (p : Nat) :
    State.reset.regRead 0 (.plnStatus p) = some (PlnPart.statusWord {}) := rfl

theorem State.reset_regRead_pwrPart (p off : Nat) :
    State.reset.regRead 0 (.pwrPart p off) = State.reset.pwrReg 0 off := rfl

theorem State.reset_regRead_plk (i off : Nat) : State.reset.regRead 0 (.plk i off) = Port.reg off {} := rfl

/-- Every page is FREE at reset, none SCRUBBING or QUARANTINED (Table 4-11). -/
theorem State.reset_pagesIn (st : OwnState) :
    State.reset.pagesIn st = if st = .free then List.range 384 else [] := by
  have hown (n : Nat) : (State.reset.ownEntry n).state = .free := rfl
  unfold State.pagesIn
  cases st <;> simp [hown]

theorem State.reset_regRead_xltPages (d : Nat) : State.reset.regRead 0 (.xlt d 16) = some 384 := by
  show some (word [(0, (State.reset.pagesIn .free).length), (9, (State.reset.pagesIn .scrubbing).length),
    (18, (State.reset.pagesIn .quarantined).length)]) = some 384
  simp only [State.reset_pagesIn, if_true, List.length_range, reduceCtorEq, if_false, List.length_nil]
  rfl

/-- Settles O56: a register of one of many like units reads at reset as that of unit 0 does, so each list is one closed
value; the count of FREE pages is `State.reset_pagesIn`. -/
theorem resetValues : Obligations.ResetValues := by
  refine ⟨fun fn => ?_, ?_, fun p => ?_, by decide, fun _ _ => rfl, fun i => ?_, rfl,
    fun _ _ _ => ⟨rfl, rfl, rfl, rfl, rfl, rfl, rfl, rfl, rfl, rfl, rfl⟩⟩
  · simp only [State.reset_regRead_mbx]
    decide
  · simp only [List.map_cons, List.map_nil, State.reset_regRead_xltPages]
    rfl
  · simp only [List.map_cons, List.map_nil, State.reset_regRead_frmStatus, State.reset_regRead_seq,
      State.reset_regRead_plnStatus, State.reset_regRead_pwrPart]
    decide
  · simp only [State.reset_regRead_plk]
    decide

end Sys2Proof.Machine
end

section
/-! PROOFS. The memories at every step: their canonical form, and the commands that store nothing. What stands still while
the package has no clocks. -/

namespace Sys2Proof.Machine

open Sys2Proof

/-! ### Canonical form -/

theorem Kept.memories_wf {W : Prop} {a s : State} (h : Kept W a s) (w : W) :
    s.dram.wf = true ∧ s.spad.wf = true ∧ s.host.wf = true :=
  ⟨h.dram w, h.spad w, h.host w⟩

theorem step_memories_wf {s t : State} (hs : s.dram.wf = true ∧ s.spad.wf = true ∧ s.host.wf = true)
    (h : step s = .next t) : t.dram.wf = true ∧ t.spad.wf = true ∧ t.host.wf = true := by
  cases hp : s.pending with
  | nil =>
    rw [step_of_pending_nil hp] at h
    cases h
    exact hs
  | cons c rest =>
    rw [step_of_pending_cons hp] at h
    exact (exec_kept (Kept.refl { s with pending := rest }) c h).memories_wf hs

/-- Settles O48: every command keeps what `Kept` says, the canonical form of the three memories with it. -/
theorem memoryCanonicalKept : Obligations.MemoryCanonicalKept := fun _ _ => step_memories_wf

/-! ### Without clocks -/

theorem State.whenPcie_not {s : State} (h : s.clocked = false) (t : State) : s.whenPcie t = s := by
  simp [State.whenPcie, State.pcieAlive, h]

theorem State.canConsume_not {s : State} (h : s.clocked = false) (m : Nat) : s.canConsume m = false := by
  simp [State.canConsume, State.serving, h]

theorem serve_not_clocked {s : State} (h : s.clocked = false) (sp : Spec) (m : Nat) (e : Entry) :
    serve sp m e s = s := by
  simp [serve, State.canConsume_not h]

/-- The rows that need clocks and are no commands of a mailbox wait for the clock of their domain: the PCIE domain for an
access or a message of the host, the package's for every other event. -/
theorem exec_of_event {c : Instr} (hclock : c.needsClock = true) (hcmd : c.command? = none) (s : State) :
    ∃ t, exec c s = .next (s.whenPcie t) ∨ exec c s = .next (s.whenClocked t) := by
  cases c with
  | mbxRingCfgWrite | doorbell | mbxCplHeadWrite | mailboxReset | redCqHeadWrite | slackLateClear | readClear
  | registerWrite | unsupportedRequest | numvfsWrite | atsEnableWrite | msixUnmask | functionLevelReset | pcieError
  | commandFetch | translationCompletionReceive | invalidateRequestReceive => exact ⟨_, .inl rfl⟩
  | _ => cases hclock <;> cases hcmd <;> exact ⟨_, .inr rfl⟩

/-- Settles O50: a command of a mailbox is not consumed without clocks, and every other event that needs them waits for
those of its domain. -/
theorem stoppedClocksFreeze : Obligations.StoppedClocksFreeze := by
  intro c s hclock hoff
  cases hcmd : c.command? with
  | some x =>
    obtain ⟨sp, m, e⟩ := x
    rw [exec_of_command hcmd, serve_not_clocked hoff]
  | none =>
    obtain ⟨t, h | h⟩ := exec_of_event hclock hcmd s
    · rw [h, State.whenPcie_not hoff]
    · rw [h, State.whenClocked_not hoff]

/-! ### Commands that store nothing -/

/-- From `a` to `s` nothing was stored, and no operation is inside a tile. -/
def CalmSame (a s : State) : Prop := MemSame a s ∧ ∀ o ∈ s.seq.ops, o.inPass = false

variable {a : State}

theorem CalmSame.of_seq {s t : State} (hs : CalmSame a s) (hmem : MemSame a s → MemSame a t) (hseq : t.seq = s.seq) :
    CalmSame a t :=
  ⟨hmem hs.1, hseq ▸ hs.2⟩

theorem CalmSame.killStart_memSame {s : State} (hs : CalmSame a s) (r : FaultRec) (peer : Option (BitVec 7 × BitVec 10)) :
    MemSame a (s.killStart r peer) :=
  State.killStart_calm r peer hs.2 hs.1

theorem CalmSame.updXlt {s : State} (hs : CalmSame a s) (f : Xlt → Xlt) : CalmSame a (s.updXlt f) :=
  hs.of_seq (State.updXlt_memSame f) rfl

theorem CalmSame.updCtx {s : State} (hs : CalmSame a s) (p c : Nat) (f : Ctx → Ctx) : CalmSame a (s.updCtx p c f) :=
  hs.of_seq (State.updCtx_memSame p c f) rfl

theorem CalmSame.updAdm {s : State} (hs : CalmSame a s) (f : Adm → Adm) : CalmSame a (s.updAdm f) :=
  hs.of_seq (State.updAdm_memSame f) rfl

theorem CalmSame.entered {s : State} (hs : CalmSame a s) (m : Nat) (op : BitVec 16) (e : Entry) :
    CalmSame a (s.entered m op e) :=
  hs

theorem opKillStart_calm (r : FaultRec) {s : State} (hs : CalmSame a s) : MemSame a (opKillStart r s) := by
  unfold opKillStart
  extract_lets mark p marked
  refine CalmSame.killStart_memSame (s := marked) ?_ r none
  show CalmSame a (if _ then _ else _)
  split
  · split
    · split
      · exact (hs.updXlt _).updXlt _
      · exact hs.updXlt _
    · exact hs
  · exact hs

theorem opKillNoticeReceive_calm (frame : FrameNo) (cause : BitVec 16) (origin : BitVec 7) (tag : BitVec 10)
    (span : BitVec 16) {s : State} (hs : CalmSame a s) : MemSame a (opKillNoticeReceive frame cause origin tag span s) := by
  unfold opKillNoticeReceive
  split
  · exact State.log_memSame _ _ hs.1
  · split
    · exact State.spanDie_memSame _ (hs.killStart_memSame _ _)
    · exact State.log_memSame _ _ hs.1

theorem opSpanDeadReceive_calm (span : BitVec 16) (pkg : Fin 128) {s : State} (hs : CalmSame a s) :
    MemSame a (opSpanDeadReceive span pkg s) := by
  unfold opSpanDeadReceive
  split
  · exact hs.1
  · exact State.send_memSame _ _ (State.updSpan_memSame _ _ (hs.killStart_memSame _ _))

theorem ctxKillBody_calm (c : CmdId) (p : Nat) (e : Entry) {s : State} (hs : CalmSame a s) :
    MemSame a (ctxKillBody c p e s).1 := by
  unfold ctxKillBody
  dsimp only
  split
  · exact hs.1
  · exact (hs.updCtx _ _ _).killStart_memSame _ _
  · exact hs.1

theorem State.decideJob_calm (uid : Nat) (rs : Reason) {s : State} (hs : CalmSame a s) :
    MemSame a (s.decideJob uid rs) := by
  unfold State.decideJob
  extract_lets s1
  have h1 : CalmSame a s1 := hs.updAdm _
  exact State.endOps_calm uid h1.2 h1.1

theorem jobAbortBody_calm (c : CmdId) (p : Nat) (e : Entry) {s : State} (hs : CalmSame a s) :
    MemSame a (jobAbortBody c p e s).1 := by
  unfold jobAbortBody
  split
  · exact hs.1
  split
  · exact hs.1
  split
  · exact hs.1
  split
  · split
    · exact State.finish_memSame _ _ _ _ (State.updAdm_memSame _ hs.1)
    · exact hs.1
  split
  · exact State.endJob_memSame _ _ _ hs.1
  split
  · exact State.updAdm_memSame _ hs.1
  split
  · exact hs.1
  · exact State.endIfDrained_memSame _ (State.decideJob_calm _ _ (hs.updAdm _))

theorem carryOut_memSame_of_body {sp : Spec} {c : CmdId} {m : Nat} {e : Entry} {s : State} (hs : MemSame a s)
    (hbody : ∀ p, MemSame a (sp.body c p e s).1) : MemSame a (carryOut sp c m e s) := by
  have hquota : MemSame a ((s.countQuota m).finish c .refused .quota (sp.failWords s)) :=
    State.finish_memSame _ _ _ _ (State.countQuota_memSame _ hs)
  unfold carryOut
  dsimp only
  split
  · exact State.finish_memSame _ _ _ _ hs
  split
  · exact State.finish_memSame _ _ _ _ hs
  split
  · exact State.finish_memSame _ _ _ _ hs
  have hb := hbody ((sp.part m e.args).getD 0)
  split <;> rename_i hreply <;> rw [hreply] at hb <;> split
  · exact hquota
  · exact State.finish_memSame _ _ _ _ hb
  · exact hquota
  · exact hb
  · exact hquota
  · exact State.finish_memSame _ _ _ _ hb

/-- A command of a mailbox stores what its body stores on the state with its ticket entered. -/
theorem serve_memSame_of_body {sp : Spec} {m : Nat} {e : Entry} {s : State}
    (hbody : ∀ c p, MemSame s (sp.body c p e (s.entered m sp.opcode e)).1) : MemSame s (serve sp m e s) := by
  have hentered : MemSame s (s.entered m sp.opcode e) := MemSame.refl s
  unfold serve
  split
  · unfold consume
    dsimp only
    split
    · exact State.finish_memSame _ _ _ _ hentered
    split
    · exact State.finish_memSame _ _ _ _ hentered
    split
    · exact MemSame.refl s
    · exact carryOut_memSame_of_body hentered (hbody _)
  · exact MemSame.refl s

theorem MemSame.read {s t : State} (h : MemSame s t) (x : Nat) :
    t.dram.read x = s.dram.read x ∧ t.spad.read x = s.spad.read x := by
  obtain ⟨hdram, hspad⟩ := h
  rw [hdram, hspad]
  exact ⟨rfl, rfl⟩

/-- The commands that stop operations by a kill or an abort store nothing while no operation is inside a tile (R170). -/
theorem exec_kill_memSame {c : Instr} {s t : State}
    (hc : (∃ r, c = .killStart r) ∨ (∃ m e, c = .ctxKill m e) ∨ (∃ m e, c = .jobAbort m e) ∨
      (∃ f cs o g sp, c = .killNoticeReceive f cs o g sp) ∨ (∃ sp k, c = .spanDeadReceive sp k))
    (hq : ∀ o ∈ s.seq.ops, o.inPass = false) (h : exec c s = .next t) : MemSame s t := by
  have hs : CalmSame s s := ⟨MemSame.refl s, hq⟩
  obtain ⟨r, rfl⟩ | ⟨m, e, rfl⟩ | ⟨m, e, rfl⟩ | ⟨f, cs, o, g, sp, rfl⟩ | ⟨sp, k, rfl⟩ := hc <;> cases h
  · exact State.whenClocked_memSame hs.1 (opKillStart_calm r hs)
  · exact serve_memSame_of_body fun c p => ctxKillBody_calm c p e (hs.entered _ _ _)
  · exact serve_memSame_of_body fun c p => jobAbortBody_calm c p e (hs.entered _ _ _)
  · exact State.whenClocked_memSame hs.1
      (State.toChoesk_memSame _ _ hs.1 (opKillNoticeReceive_calm f cs o g sp hs))
  · exact State.whenClocked_memSame hs.1 (State.toChoesk_memSame _ _ hs.1 (opSpanDeadReceive_calm sp k hs))

/-- Settles O51: both kinds of commands leave the two memories as they are. -/
theorem deviceMemoryFrame : Obligations.DeviceMemoryFrame :=
  ⟨fun c _ _ hstores hstops hscan h => (exec_memSame c hstores hstops hscan h).read,
    fun _ _ _ hc hq h => (exec_kill_memSame hc hq h).read⟩

end Sys2Proof.Machine
end

section
/-! PROOFS. The power sequence, the resets and the reference clocks. -/

namespace Sys2Proof.Machine

open Sys2Proof
open Host (Outcome)

/-! ### The PCIE domain's clock -/

theorem foldl_emit_output (l : List HostTlp) (s : State) :
    l.foldl (fun s t => s.emit t.output) s = { s with out := s.out ++ l.map HostTlp.output } := by
  induction l generalizing s with
  | nil => simp
  | cons t l ih =>
    rw [List.foldl_cons, ih]
    simp [State.emit]

/-- The PCIE domain's clock resumes: its crossings are empty, and what they held stands among the outputs (R34). -/
theorem State.releasePcie_eq (s : State) :
    s.releasePcie = { s with
      pcie := { s.pcie with held := [], refclk := true }, out := s.out ++ s.pcie.held.map HostTlp.output } :=
  foldl_emit_output _ _

theorem opPcieRefclkLoss_present {s : State} (h : s.pcie.refclk = true) :
    opPcieRefclkLoss false s =
      { s with pcie := { s.pcie with link := if s.pcie.perstLow then s.pcie.link else .detect } } := by
  simp [opPcieRefclkLoss, h]

theorem opPcieRefclkLoss_returned {s : State} (h : s.pcie.refclk = false) :
    opPcieRefclkLoss false s = { s with
      pcie := { s.pcie with refclk := true, held := [], link := if s.pcie.perstLow then s.pcie.link else .detect }
      out := s.out ++ s.pcie.held.map HostTlp.output } := by
  simp [opPcieRefclkLoss, h, State.releasePcie_eq]

/-! ### The power sequence -/

theorem State.startSequence_of {s : State} (hrst : s.por.sysRst = false) (hoff : s.por.lockedOff = false)
    (haon : s.por.vddAon = true) :
    s.startSequence = s.updPor (fun p => { p with bring := .sequencing, enables := 1, pgood := 0, retryWait := false }) := by
  simp [State.startSequence, hrst, hoff, haon]

theorem opPowerOnReset_of_sysRst_high {s : State} (h : s.por.sysRst = false) :
    opPowerOnReset s =
      { s.cleared with por := { warmRst := s.por.warmRst, bring := .sequencing, enables := 1 } } := by
  unfold opPowerOnReset
  rw [State.startSequence_of (by exact h) rfl rfl]
  simp [State.updPor, h]

theorem opPgoodRise_next_group {s : State} (hseq : s.por.bring = .sequencing) (h : s.por.waitsFor < 6) :
    opPgoodRise s = s.updPor (fun p => { p with
      pgood := p.pgood ||| BitVec.ofNat 6 (2 ^ (s.por.waitsFor - 1))
      enables := p.enables ||| BitVec.ofNat 6 (2 ^ s.por.waitsFor) }) := by
  simp [opPgoodRise, hseq, h, State.updPor]

theorem opPgoodRise_last_group {s : State} (hseq : s.por.bring = .sequencing) (h : 6 ≤ s.por.waitsFor) :
    opPgoodRise s = s.updPor (fun p => { p with
      pgood := p.pgood ||| BitVec.ofNat 6 (2 ^ (s.por.waitsFor - 1)), faults := 0, bring := .coldReset }) := by
  simp [opPgoodRise, hseq, Nat.not_lt.2 h]

theorem opPgoodTimeout_sequencing {s : State} (h : s.por.bring = .sequencing) :
    opPgoodTimeout s = s.seqFault s.por.waitsFor := if_pos h

theorem opPgoodFall_of_good {g : Fin 6} {s : State} (hen : bit s.por.enables g.val = true)
    (hgood : bit s.por.pgood g.val = true) : opPgoodFall g s = s.seqFault (g.val + 1) := by
  simp [opPgoodFall, hen, hgood]

theorem opPgoodFall_of_disabled {g : Fin 6} {s : State} (hen : bit s.por.enables g.val = false) :
    opPgoodFall g s = s := by
  simp [opPgoodFall, hen]

theorem opSequenceRetry_of {s : State} (hwait : s.por.retryWait = true) (hrst : s.por.sysRst = false)
    (hoff : s.por.lockedOff = false) (haon : s.por.vddAon = true) :
    opSequenceRetry s =
      s.updPor (fun p => { p with bring := .sequencing, enables := 1, pgood := 0, retryWait := false }) := by
  unfold opSequenceRetry
  rw [if_pos hwait, State.startSequence_of (by exact hrst) (by exact hoff) (by exact haon)]
  rfl

theorem opSysRstRelease_of_low {s : State} (hrst : s.por.sysRst = true) (haon : s.por.vddAon = true) :
    opSysRstRelease s = s.updPor (fun p => { p with
      sysRst := false, lockedOff := false, faults := if p.lockedOff then 0 else p.faults
      bring := .sequencing, enables := 1, pgood := 0, retryWait := false }) := by
  unfold opSysRstRelease
  rw [if_neg (by simp [hrst]), State.startSequence_of rfl rfl (by exact haon)]
  rfl

theorem opSysRstRelease_of_high {s : State} (hrst : s.por.sysRst = false) : opSysRstRelease s = s := by
  simp [opSysRstRelease, hrst]

theorem opFabricRefclkLoss_of_enabled {s : State} (h : s.por.enables ≠ 0) : opFabricRefclkLoss s = s.seqFault 7 :=
  if_neg h

theorem opFabricRefclkLoss_of_disabled {s : State} (h : s.por.enables = 0) : opFabricRefclkLoss s = s := if_pos h

/-! ### Resets -/

theorem State.startPcie_far {a s : State} (hs : Far a s) : Far a s.startPcie := by
  unfold State.startPcie
  split <;> exact hs

theorem State.warmReset_of_cold {s : State} (hlost : s.por.lost = false) (hcold : s.coldUnderWay = true)
    (cause : BitVec 4) : s.warmReset cause = s := by
  simp [State.warmReset, hlost, hcold]

/-- What a warm reset restarts, clears and keeps (R445): once the state is rewritten, to `z`, only the link starts and the
pages found bad are logged. -/
theorem State.warmReset_far {s : State} (hlost : s.por.lost = false) (hcold : s.coldUnderWay = false)
    (hup : s.por.bring = .selfTest ∨ s.por.bring = .running) (cause : BitVec 4) :
    ∃ z, Far z (s.warmReset cause) ∧ z.por.bring = .selfTest ∧ z.por.warmActive = true ∧ z.por.cause = cause ∧
      z.fuse = s.fuse ∧ z.host = s.host ∧ z.ten.badRows = s.ten.badRows ∧ z.pwr.cap = s.pwr.cap ∧ z.mbx = [] ∧
      z.seq = {} ∧ z.spad = [] := by
  unfold State.warmReset
  rw [if_neg (by simp [hlost]), if_neg (by obtain h | h := hup <;> simp [h, hcold])]
  exact ⟨_, foldl_far (fun _ _ => State.log_far _ _) _ (State.startPcie_far (Far.refl _)), rfl, rfl, rfl, rfl, rfl, rfl,
    rfl, rfl, rfl, rfl⟩

theorem opColdResetRelease_of {s : State} (hcold : s.por.bring = .coldReset) (hrst : s.por.sysRst = false) :
    opColdResetRelease s =
      (((s.updPor (fun p => { p with bring := .selfTest, testEn := s.fuse.landTestEn, warmActive := false })).updFab
        (fun g => { g with x := s.fuse.landX, y := s.fuse.landY, z := s.fuse.landZ })).updPwr
        (fun w => { w with cap := s.fuse.grade.cap, base := s.fuse.grade.base })).startPcie := by
  unfold opColdResetRelease
  rw [if_neg (by simp [hcold, hrst])]
  rfl

theorem execWarmRstAssert_of {s : State} (h : s.clocked = true) : execWarmRstAssert s = .next (s.warmReset 5) :=
  congrArg Host.Outcome.next (State.whenClocked_of h _)

theorem execWarmReset_of {s : State} (h : s.clocked = true) : execWarmReset s = .next (s.warmReset 4) :=
  congrArg Host.Outcome.next (State.whenClocked_of h _)

/-- Settles O42: each clause is the equation of its operation. -/
theorem powerOnAndResets : Obligations.PowerOnAndResets := by
  refine ⟨fun s h => congrArg Outcome.next (opPowerOnReset_of_sysRst_high h),
    fun s hseq h => congrArg Outcome.next (opPgoodRise_next_group hseq h),
    fun s hseq h => congrArg Outcome.next (opPgoodRise_last_group hseq h),
    fun n s hseq hn => hn ▸ congrArg Outcome.next (opPgoodTimeout_sequencing hseq),
    fun g s hen hgood => congrArg Outcome.next (opPgoodFall_of_good hen hgood),
    fun g s hen => congrArg Outcome.next (opPgoodFall_of_disabled hen),
    fun s hwait hrst hoff haon => congrArg Outcome.next (opSequenceRetry_of hwait hrst hoff haon),
    fun s => rfl,
    fun s hrst haon => congrArg Outcome.next (opSysRstRelease_of_low hrst haon),
    fun s hrst => congrArg Outcome.next (opSysRstRelease_of_high hrst),
    fun s h => execWarmRstAssert_of h, fun s h => execWarmReset_of h,
    fun s h => congrArg Outcome.next (opFabricRefclkLoss_of_enabled h),
    fun s h => congrArg Outcome.next (opFabricRefclkLoss_of_disabled h), ?_, ?_, ?_, ?_, fun s h hlost hcold => ?_,
    fun s h hlost hcold hup => ?_,
    fun u s hcold hrst hu => hu ▸ congrArg Outcome.next (opColdResetRelease_of hcold hrst)⟩
  · rintro _ s rfl
    rfl
  · rintro _ s rfl hperst href
    refine congrArg Outcome.next ((opPcieRefclkLoss_present href).trans ?_)
    simp [hperst]
  · rintro _ _ s rfl hperst href rfl
    refine congrArg Outcome.next ((opPcieRefclkLoss_returned href).trans ?_)
    rw [foldl_emit_output]
    simp [hperst]
  · rintro _ s rfl hperst href hheld
    refine congrArg Outcome.next ((opPcieRefclkLoss_returned href).trans ?_)
    simp [hperst, hheld]
  · exact ⟨(execWarmRstAssert_of h).trans (congrArg _ (State.warmReset_of_cold hlost hcold 5)),
      (execWarmReset_of h).trans (congrArg _ (State.warmReset_of_cold hlost hcold 4))⟩
  · obtain ⟨z, hfar, hbring, hactive, hcause, hfuse, hhost, hrows, hcap, hmbx, hseq, hspad⟩ :=
      State.warmReset_far hlost hcold hup 5
    refine ⟨_, execWarmRstAssert_of h, hfar.por ▸ hbring, hfar.por ▸ hactive, hfar.por ▸ hcause, hfar.fuse.trans hfuse,
      hfar.host.trans hhost, hfar.ten ▸ hrows, hfar.pwr ▸ hcap, ?_, ?_, hfar.spad.trans hspad⟩
    · rw [State.mb, hfar.mbx, hmbx]
      rfl
    · rw [hfar.seq, hseq]

/-! ### A fabric reference lost -/

/-- A sequence fault is a cold reset that counts the fault, up to three, and waits for a retry before the third. -/
theorem State.seqFault_counts (group : Nat) (s : State) :
    (s.seqFault group).por.faults.toNat = min 3 (s.por.faults.toNat + 1) ∧
      (s.seqFault group).por.lockedOff = decide (2 ≤ s.por.faults.toNat) ∧
      (s.seqFault group).por.retryWait = decide (s.por.faults.toNat < 2) := by
  have hcount : (BitVec.ofNat 2 (min 3 (s.por.faults.toNat + 1))).toNat = min 3 (s.por.faults.toNat + 1) := by
    rw [BitVec.toNat_ofNat]
    omega
  refine ⟨hcount, ?_, ?_⟩
  · show decide (3 ≤ min 3 (s.por.faults.toNat + 1)) = _
    simp only [decide_eq_decide]
    omega
  · show decide (min 3 (s.por.faults.toNat + 1) < 3) = _
    simp only [decide_eq_decide]
    omega

/-- Settles O60: the loss of a fabric reference is the sequence fault of group 7, that of the PCIe reference is its
operation's equation for each state of the reference. -/
theorem referenceClockLoss : Obligations.ReferenceClockLoss := by
  refine ⟨fun s h => ⟨s.seqFault 7, congrArg Outcome.next (opFabricRefclkLoss_of_enabled h), rfl, rfl, rfl, rfl, ?_⟩,
    fun s h => congrArg Outcome.next (opFabricRefclkLoss_of_disabled h), fun s => rfl, fun s h => ?_,
    fun s h => congrArg Outcome.next (opPcieRefclkLoss_returned h)⟩
  · obtain ⟨hfaults, hlocked, hretry⟩ := s.seqFault_counts 7
    exact ⟨hfaults, hlocked, hretry, rfl, rfl, rfl, rfl, rfl, rfl⟩
  · refine congrArg Outcome.next ?_
    cases href : s.pcie.refclk with
    | true => rw [opPcieRefclkLoss_present href, ← href]
    | false =>
      have hheld : s.pcie.held = [] := h.resolve_right (by simp [href])
      simp [opPcieRefclkLoss_returned href, hheld]

end Sys2Proof.Machine
end

section
/-! PROOFS. Frame numbers, the answers of the queries of state, and mailbox resets. -/

namespace Sys2Proof.Machine

open Sys2Proof
open Host (Outcome)

/-! ### Frame numbers -/

/-- The order of frame numbers is that of the integer difference modulo 2^48 (R37). -/
theorem later_iff (g f : FrameNo) : later g f = true ↔
    1 ≤ ((g.toNat : Int) - f.toNat) % 2 ^ 48 ∧ ((g.toNat : Int) - f.toNat) % 2 ^ 48 ≤ 2 ^ 47 - 1 := by
  have hdiff : ((g - f).toNat : Int) = ((g.toNat : Int) - f.toNat) % 2 ^ 48 := by
    rw [BitVec.toNat_sub]
    omega
  rw [← hdiff]
  simp only [later, Bool.and_eq_true, decide_eq_true_eq]
  omega

/-- The frame after frame n is n + 1, and 0 after the last (R37). -/
theorem frameNo_succ_toNat (n : FrameNo) :
    (n + 1).toNat = if n.toNat = 2 ^ 48 - 1 then 0 else n.toNat + 1 := by
  have hlt := n.isLt
  rw [BitVec.toNat_add, show BitVec.toNat (1 : FrameNo) = 1 from rfl]
  split <;> omega

/-- Settles O54: the commit instant advances the frame number, which wraps as every increment of 48 bits does. -/
theorem frameNumbersCompare : Obligations.FrameNumbersCompare := by
  refine ⟨fun f g => later_iff g f, fun s t hclk hphase hstarted h => ?_, by decide, by decide⟩
  have hnext : t = opCommitInstant s := by
    cases h
    exact State.whenClocked_of hclk _
  rw [hnext, opCommitInstant_count s hphase, if_pos hstarted]
  exact frameNo_succ_toNat _

/-! ### Queries of state -/

/-- FRAME.QUERY on a virtual function adds the status of the function's own partition (R67). -/
theorem frameQueryBody_of_own (m : Nat) (e : Entry) (c : CmdId) (hc : c.mbx = m) (s : State) :
    frameQueryBody c (specFrameQuery.on m e) e s =
      (s, .done ([word [(0, s.frm.count.toNat)], s.frm.syncWord, s.frm.configWord] ++
        (if vfOnly m then [(s.frmp (m - 1)).statusWord] else []))) := by
  subst hc
  by_cases hvf : vfOnly c.mbx = true
  · simp [frameQueryBody, Spec.on, specFrameQuery, ownPart, hvf]
  · simp [frameQueryBody, hvf]

/-- Settles O1: the body of each query answers its words on the state with the ticket entered, which reads as the state
before wherever the words do not count tickets. -/
theorem stateQueriesAnswer : Obligations.StateQueriesAnswer :=
  ⟨fun _ _ _ h => ⟨_, rfl, serve_query h rfl⟩,
    fun m e _ h => ⟨_, rfl, serve_query h (frameQueryBody_of_own m.val e _ rfl _)⟩,
    fun _ _ _ h => ⟨_, rfl, serve_query h rfl⟩, fun _ _ _ h => ⟨_, rfl, serve_query h rfl⟩,
    fun _ _ _ h => ⟨_, rfl, serve_query h rfl⟩, fun _ _ _ h => ⟨_, rfl, serve_query h rfl⟩,
    fun _ _ _ h => ⟨_, rfl, serve_query h rfl⟩, fun _ _ _ h => ⟨_, rfl, serve_query h rfl⟩⟩

/-- An accepted command that its body refuses on the state with the ticket entered: its record, and nothing else. -/
theorem serve_refused {sp : Spec} {m : Nat} {e : Entry} {s : State} {oc : Oc} {rs : Reason} {ws : List W64}
    (h : Accepted sp m e s)
    (hb : sp.body (cmdIdOf s.nextUid m sp.opcode e) (sp.on m e) e (s.entered m sp.opcode e) =
      (s.entered m sp.opcode e, .fail oc rs ws)) :
    OnlyRecorded s (serve sp m e s) ∧ Answered sp m e oc rs ws s (serve sp m e s) := by
  have hserve := serve_accepted h
  rw [hb] at hserve
  dsimp only at hserve
  rw [hserve]
  exact ⟨entered_onlyRecorded .., finish_answered h _ _ _ rfl rfl⟩

/-! ### FRAME.SET_PERIOD -/

/-- A master whose markers announce a change refuses another and names the frame of the first (R65). -/
theorem frameSetPeriodBody_of_announced {s : State} {x : Change} (hmaster : s.frm.role = .master ∨ s.frm.role = .standalone)
    (hchange : s.frm.change = some x) (c : CmdId) (p : Nat) (e : Entry) :
    frameSetPeriodBody c p e s = (s, .fail .badCommand .badState [word [(0, x.frame.toNat)]]) := by
  unfold frameSetPeriodBody
  rw [if_neg (by obtain h | h := hmaster <;> simp [h]), if_pos (by simp [hchange]), hchange]
  rfl

/-- A master that has only proposed a change refuses another and names frame 0 (R65). -/
theorem frameSetPeriodBody_of_proposed {s : State} (hmaster : s.frm.role = .master ∨ s.frm.role = .standalone)
    (hproposal : s.frm.proposal ≠ none) (hchange : s.frm.change = none) (c : CmdId) (p : Nat) (e : Entry) :
    frameSetPeriodBody c p e s = (s, .fail .badCommand .badState [word [(0, 0)]]) := by
  unfold frameSetPeriodBody
  rw [if_neg (by obtain h | h := hmaster <;> simp [h]), if_pos (by simp [Option.isSome_iff_ne_none, hproposal]), hchange]
  rfl

/-- Settles O59: the body refuses before it changes anything. -/
theorem setPeriodDuringChange : Obligations.SetPeriodDuringChange := by
  intro m e s hacc hmaster hbusy
  refine ⟨_, rfl, ?_⟩
  cases hchange : s.frm.change with
  | some x =>
    exact serve_refused hacc (frameSetPeriodBody_of_announced (s := s.entered m.val specFrameSetPeriod.opcode e)
      hmaster hchange _ (specFrameSetPeriod.on m.val e) e)
  | none =>
    have hproposal : s.frm.proposal ≠ none := hbusy.resolve_right (· hchange)
    exact serve_refused hacc (frameSetPeriodBody_of_proposed (s := s.entered m.val specFrameSetPeriod.opcode e)
      hmaster hproposal hchange _ (specFrameSetPeriod.on m.val e) e)

/-! ### Mailbox resets -/

theorem State.whenPcie_of {s : State} (h : s.pcieAlive = true) (t : State) : s.whenPcie t = t := if_pos h

/-- A mailbox reset that starts (steps 1 to 4 of R101). -/
theorem State.resetMailbox_of_idle {m : Nat} {s : State} (h : (s.mb m).resetBusy = false) :
    s.resetMailbox m = (s.adm.jobs.filter (fun j => j.cmd.mbx == m && j.stage == .admitted)).foldl
      (fun s j => s.decideJob j.cmd.uid .hostAbort)
      (((s.updMb m (fun b => { b with
        enable := false, error := false, errCode := .none, resetBusy := true, staged := [], busyFrames := 0 })).log 0x0200
        [(0, m), (8, (s.mb m).errCode.code)]).updAdm (fun a => { a with
          jobs := a.jobs.filter (fun j => j.cmd.mbx != m || j.stage == .admitted)
          held := a.held.filter (fun h => h.1.mbx != m) })) := by
  unfold State.resetMailbox
  rw [if_neg (by simp [h])]
  simp only [State.mbxJobs, List.filter_filter, State.log_adm, State.updMb_adm]
  congr 2
  funext j
  exact Bool.and_comm _ _

theorem opMailboxResetDone_of_drained {fn : Fin 17} {s : State} (hbusy : (s.mb fn.val).resetBusy = true)
    (hdrained : (s.mbxJobs fn.val).all (fun j => (s.jobOps j.cmd.uid).isEmpty) = true) :
    opMailboxResetDone fn s = s.resetMailboxDone fn.val := by
  simp [opMailboxResetDone, hbusy, hdrained]

theorem opMailboxResetWatchdog_of_stuck {fn : Fin 17} {s : State} (hfn : fn.val ≠ 0)
    (hbusy : (s.mb fn.val).resetBusy = true) (hframes : 1024 ≤ (s.mb fn.val).busyFrames) :
    opMailboxResetWatchdog fn s = s.killAll (fn.val - 1) .watchdog := by
  unfold opMailboxResetWatchdog
  rw [if_pos (by simp [hfn, hbusy, hframes])]

/-- Settles O17: each clause is the equation of its operation. -/
theorem mailboxResets : Obligations.MailboxResets := by
  refine ⟨fun fn s halive hexists hidle => congrArg Outcome.next ?_, fun fn s hclk hbusy hdrained => congrArg Outcome.next ?_,
    fun fn s hclk hfn hbusy hframes => congrArg Outcome.next ?_, fun p q v _ halive => congrArg Outcome.next ?_,
    fun p s halive => ⟨opSlackLateClear p s, congrArg Outcome.next ?_, ?_, fun k hk => ?_⟩⟩
  · rw [State.whenPcie_of halive, opMailboxReset, if_pos hexists]
    exact State.resetMailbox_of_idle hidle
  · rw [State.whenClocked_of hclk]
    exact opMailboxResetDone_of_drained hbusy hdrained
  · rw [State.whenClocked_of hclk]
    exact opMailboxResetWatchdog_of_stuck hfn hbusy hframes
  · exact State.whenPcie_of halive _
  · exact State.whenPcie_of halive _
  · rw [opSlackLateClear, State.frmp_updFrmp_self]
  · exact State.frmp_updFrmp_ne s hk _

end Sys2Proof.Machine
end

section
/-! PROOFS. Frame synchronisation: the markers received, the ends of synchronisation and of mastership, and the events of a
change of period. -/

namespace Sys2Proof.Machine

open Sys2Proof
open Host (Outcome)

/-! ### What the shared operations do to the frame unit -/

theorem startNow_frm (c : CmdId) (p : Nat) (start : Bool) (s : State) : (startNow c p start s).1.frm = s.frm := by
  unfold startNow
  dsimp only
  cases (s.part p).state with
  | absent | faulted | tearingDown => rfl
  | created | fenced | running => dsimp only; split <;> rfl

theorem State.releaseOne_frm (h : CmdId × Nat × Bool) (s : State) : (s.releaseOne h).frm = s.frm := by
  have hstart := startNow_frm h.1 h.2.1 h.2.2 s
  unfold State.releaseOne
  generalize startNow h.1 h.2.1 h.2.2 s = x at hstart ⊢
  obtain ⟨u, r⟩ := x
  cases r with
  | done _ | fail _ _ _ | later => simpa using hstart

@[simp] theorem State.releaseHeld_frm (s : State) : s.releaseHeld.frm = s.frm := by
  have hfold : ∀ (l : List (CmdId × Nat × Bool)) (u : State), (l.foldl (fun s h => s.releaseOne h) u).frm = u.frm := by
    intro l
    induction l with
    | nil => exact fun _ => rfl
    | cons h l ih => exact fun u => (ih _).trans (State.releaseOne_frm h u)
  exact hfold _ _

@[simp] theorem State.syncChanged_frm (s : State) : s.syncChanged.frm = s.frm := by
  simp [State.syncChanged]

@[simp] theorem State.parentChanged_frm (s : State) : s.parentChanged.frm = s.frm := by
  simp [State.parentChanged]

/-- A change of synchronisation state leaves the role (Table 2-6). -/
theorem State.setSync_state_role (st : SyncState) (s : State) :
    (s.setSync st).frm.state = st ∧ (s.setSync st).frm.role = s.frm.role := by
  unfold State.setSync
  split
  next h => exact ⟨h, rfl⟩
  next => simp

@[simp] theorem State.dropChange_frm (s : State) :
    s.dropChange.frm = { s.frm with proposal := none, change := none, changeCmd := none } := by
  simp [State.dropChange]

theorem State.dropProposal_of_proposed {s : State} (hchange : s.frm.change = none) (hproposal : s.frm.proposal ≠ none) :
    s.dropProposal = s.dropChange := by
  simp [State.dropProposal, hchange, Option.isSome_iff_ne_none, hproposal]

theorem State.dropProposal_of_announced {s : State} (h : s.frm.change ≠ none ∨ s.frm.proposal = none) :
    s.dropProposal = s := by
  obtain h | h := h <;> simp [State.dropProposal, h]

/-- A master that had counted frames before goes on with its count and one epoch more (R58). -/
theorem State.becomeMaster_frm_of_started {s : State} (h : s.frm.started = true) (role : Role) (deputy : Nat) :
    (s.becomeMaster role deputy).frm = { s.frm with
      role := role, state := .locked, master := BitVec.ofNat 7 s.self, deputy := BitVec.ofNat 7 deputy
      epoch := s.frm.epoch + 1, hops := 0, parent := 15, missing := 0, holdFrames := 0, demote := false
      phase := if s.frm.phase = .stopped then .slack else s.frm.phase } := by
  simp [State.becomeMaster, h]

/-! ### Markers -/

theorem State.lateJoin_of_closed {s : State} (h : s.fab.election = .closed) : s.lateJoin = s := by
  simp [State.lateJoin, h]

/-- The fields of a marker of the master in force, without a change of period, are taken without a record (R59). -/
theorem State.takeFields_of_known {k : Marker} {s : State} (hepoch : k.epoch = s.frm.epoch)
    (hmaster : k.master = s.frm.master) (hdeputy : k.deputy.toNat ≠ s.self) (hchange : k.change = none) :
    s.takeFields k = s.updFrm (fun f => { f with
      epoch := k.epoch, master := k.master, deputy := k.deputy, role := .member }) := by
  simp [State.takeFields, hepoch, hmaster, hdeputy, hchange]

theorem farE_of_nearE {e : Int} (h : nearE e = true) : farE e = false := by
  simp only [nearE, farE, Bool.and_eq_true, Bool.or_eq_false_iff, decide_eq_true_eq, decide_eq_false_iff_not] at h ⊢
  omega

/-- A near phase error fits the 16 bits of `FRM.SYNC.ERROR`. -/
theorem fits_of_nearE {e : Int} (h : nearE e = true) : (decide (-32768 ≤ e) && decide (e ≤ 32767)) = true := by
  simp only [nearE, Bool.and_eq_true, decide_eq_true_eq] at h ⊢
  omega

/-- A LOCKED member stays LOCKED on a marker of its own frame close in phase (Table 2-6). -/
theorem State.syncStep_of_locked {k : Marker} {e : Int} {s : State} (hlocked : s.frm.state = .locked)
    (hframe : k.frame = s.frm.count) (hnear : nearE e = true) :
    s.syncStep k e = s.updFrm (fun f => { f with bad := 0 }) := by
  simp [State.syncStep, hlocked, hframe, farE_of_nearE hnear]

/-- The neighbour's frame and hops that a port remembers of a marker (R349). -/
abbrev State.markerNoted (port : Fin 12) (k : Marker) (s : State) : State :=
  s.updNbr port.val (fun n => { n with marker := some (k.frame, k.hops) })

section Marker

variable {port : Fin 12} {k : Marker} {arrival e : Int} {s : State}

theorem opMarkerReceive_of_master (hport : (s.port port.val).locked = true) (hwired : (s.nbr port.val).miswired = false)
    (hhalted : s.fab.election ≠ .halted) (hopen : s.fab.election ≠ .notOpen) (hother : k.master.toNat ≠ s.self)
    (haccepts : (s.markerNoted port k).acceptsMaster k = true) (hrole : s.frm.role = .master) :
    opMarkerReceive port k arrival s = (s.markerNoted port k).updFrm (fun f => { f with demote := true }) := by
  unfold opMarkerReceive
  extract_lets i u
  rw [if_neg (by simp [i, hport, hwired, hhalted, hopen])]
  have hself : u.self = s.self := rfl
  have hu : u.acceptsMaster k = true := haccepts
  rw [if_neg (by simp [hself, hother, hu])]
  exact if_pos hrole

/-- Marker `k`, which comes on `port` at `arrival`, `e` off in phase, is one that a LOCKED member agrees with: it comes from
the parent port, names the master, the epoch and the frame in force, and neither this package as deputy nor a change of
period. -/
structure AgreeingMarker (port : Fin 12) (k : Marker) (arrival e : Int) (s : State) : Prop where
  port_locked : (s.port port.val).locked = true
  wired : (s.nbr port.val).miswired = false
  closed : s.fab.election = .closed
  other : k.master.toNat ≠ s.self
  accepted : s.acceptsMaster k = true
  member : s.frm.role = .member
  chosen : ∃ d, (s.markerNoted port k).chooseParent k.master.toNat k.frame = some (port.val, d)
  epoch : k.epoch = s.frm.epoch
  master : k.master = s.frm.master
  deputy : k.deputy.toNat ≠ s.self
  change : k.change = none
  parent : s.frm.parent.toNat = port.val
  locked : s.frm.state = .locked
  frame : k.frame = s.frm.count
  phase : e = arrival - k.txOffset.toNat - (s.port port.val).lat.toNat
  near : nearE e = true

/-- What a member takes from a marker it agrees with (R55, R56). -/
theorem opMarkerReceive_frm_of_agreeing (h : AgreeingMarker port k arrival e s) :
    (opMarkerReceive port k arrival s).frm = { s.frm with
      epoch := k.epoch, master := k.master, deputy := k.deputy, role := .member, error := ofInt 16 e
      hops := BitVec.ofNat 4 (min 15 (k.hops.toNat + 1)), markerSeen := true, directSeen := true, bad := 0 } := by
  obtain ⟨d, hchosen⟩ := h.chosen
  unfold opMarkerReceive
  extract_lets i u par s1 s2 stand s3 s4 e' n fits s5 s6 f
  rw [if_neg (by simp [i, h.port_locked, h.wired, h.closed])]
  have hself : u.self = s.self := rfl
  have haccepted : u.acceptsMaster k = true := h.accepted
  have hmember : u.frm.role = .member := h.member
  have hpar : par = some (port.val, d) := hchosen
  rw [if_neg (by simp [hself, h.other, haccepted]), if_neg (by simp [hmember]), hpar]
  dsimp -zeta only
  rw [if_neg (by simp [i])]
  have h2 : s2 = u := by
    simp only [s2, show s1 = u from State.lateJoin_of_closed h.closed]
    exact if_neg (by simp [u, State.updNbr, h.closed])
  have h3 : s3 = u.updFrm (fun f => { f with
      epoch := k.epoch, master := k.master, deputy := k.deputy, role := .member }) := by
    simp only [s3, h2]
    exact State.takeFields_of_known h.epoch h.master h.deputy h.change
  have h4 : s4 = s3 := if_neg (by simp [stand, h2, hmember])
  have he : e' = e := by
    simp only [e', h4, h3]
    exact h.phase.symm
  have hfits : fits = true := by
    simp only [fits, he]
    exact fits_of_nearE h.near
  have h5 : s5.frm = { s.frm with
      epoch := k.epoch, master := k.master, deputy := k.deputy, role := .member, error := ofInt 16 e
      hops := BitVec.ofNat 4 (min 15 (k.hops.toNat + 1)), markerSeen := true, directSeen := true } := by
    simp only [s5, n, h4, h3, hfits, he]
    rfl
  have h6 : s6 = s5 := if_pos (by rw [h5]; exact h.parent)
  rw [h6, he, State.syncStep_of_locked (by rw [h5]; exact h.locked) (by rw [h5]; exact h.frame) h.near, State.updFrm_frm, h5]

end Marker

section RoutedMarker

variable {k : Marker} {s : State}

theorem opRoutedMarkerReceive_of_master (src : Fin 128) (hhalted : s.fab.election ≠ .halted)
    (hopen : s.fab.election ≠ .notOpen) (hother : k.master.toNat ≠ s.self) (haccepts : s.acceptsMaster k = true)
    (hrole : s.frm.role = .master) :
    opRoutedMarkerReceive src k s = s.updFrm (fun f => { f with demote := true }) := by
  simp [opRoutedMarkerReceive, hhalted, hopen, hother, haccepts, hrole]

theorem opRoutedMarkerReceive_of_member (src : Fin 128) (hhalted : s.fab.election ≠ .halted)
    (hopen : s.fab.election ≠ .notOpen) (hother : k.master.toNat ≠ s.self) (haccepts : s.acceptsMaster k = true)
    (hrole : s.frm.role = .member) (hsynced : s.frm.state ≠ .unsync)
    (hframe : k.frame = ((s.takeFields k).updFrm (fun f => { f with markerSeen := true })).frm.count) :
    opRoutedMarkerReceive src k s = (s.takeFields k).updFrm (fun f => { f with markerSeen := true }) := by
  unfold opRoutedMarkerReceive
  rw [if_neg (by simp [hhalted, hopen, hother, haccepts]), if_neg (by simp [hrole]), if_neg (by simp [hrole, hsynced])]
  exact if_pos hframe

end RoutedMarker

/-! ### Lost markers -/

theorem opMarkerTimeout_of_locked {s : State} (hlocked : s.frm.state = .locked) (hseen : s.frm.directSeen = false)
    (hmaster : s.frm.role ≠ .master) (halone : s.frm.role ≠ .standalone) : opMarkerTimeout s = s.setSync .holdover := by
  simp [opMarkerTimeout, hlocked, hseen, hmaster, halone]

theorem opHoldoverExpiry_of_holdover {s : State} (hstate : s.frm.state = .holdover) (hframes : 64 ≤ s.frm.holdFrames) :
    opHoldoverExpiry s = s.setSync .unsync := by
  simp [opHoldoverExpiry, hstate, hframes]

/-- A deputy that takes over: the new master counts on, LOCKED, with one epoch more, and a change that no marker announced
is dropped (R58, R64). -/
theorem opDeputyTakeover_frm {s : State} (hrole : s.frm.role = .deputy) (hsynced : s.synced = true)
    (hmissing : 2 ≤ s.frm.without) (hstarted : s.frm.started = true) :
    (s.frm.change = none → (opDeputyTakeover s).frm.proposal = none) ∧ (opDeputyTakeover s).frm.role = .master ∧
      (opDeputyTakeover s).frm.master = BitVec.ofNat 7 s.self ∧ (opDeputyTakeover s).frm.epoch = s.frm.epoch + 1 ∧
      (opDeputyTakeover s).frm.state = .locked ∧ (opDeputyTakeover s).frm.count = s.frm.count := by
  unfold opDeputyTakeover
  rw [if_neg (by simp [hrole, hsynced, Nat.not_lt.2 hmissing])]
  extract_lets old s1 s2
  have h2 : s2.frm = (s.becomeMaster .master s.self).frm := rfl
  rw [State.becomeMaster_frm_of_started hstarted] at h2
  by_cases hkeep : s.frm.change ≠ none ∨ s.frm.proposal = none
  · rw [State.dropProposal_of_announced (by rw [h2]; exact hkeep), h2]
    exact ⟨fun hchange => hkeep.resolve_left (· hchange), rfl, rfl, rfl, rfl, rfl⟩
  · obtain ⟨hchange, hproposal⟩ := not_or.1 hkeep
    rw [State.dropProposal_of_proposed (by rw [h2]; exact Decidable.not_not.1 hchange) (by rw [h2]; exact hproposal),
      State.dropChange_frm, h2]
    exact ⟨fun _ => rfl, rfl, rfl, rfl, rfl, rfl⟩

theorem opFullReelection_of {s : State} (hrole : s.frm.role = .member ∨ s.frm.role = .deputy)
    (hclosed : s.fab.election = .closed) (hmissing : 8 ≤ s.frm.without) : opFullReelection s = s.openElection := by
  simp [opFullReelection, hrole, hclosed, hmissing]

/-- Settles O21: what the events do to the frame unit, each by the lemma of its operation. -/
theorem synchronisationEventsComplete : Obligations.SynchronisationEventsComplete := by
  refine ⟨?_, ?_, ?_, ?_, ?_, ?_, ?_, ?_⟩
  · rintro port k arrival _ s hclk hport hwired hhalted hopen rfl hother haccepts hrole
    exact congrArg Outcome.next ((State.whenClocked_of hclk _).trans
      (opMarkerReceive_of_master hport hwired hhalted hopen hother haccepts hrole))
  · intro port k arrival e d s hclk hport hwired helection hother haccepts hrole hparent hepoch hmaster hdeputy hchange
      hkept hlocked hframe he hnear
    refine ⟨_, congrArg Outcome.next (State.whenClocked_of hclk _), ?_⟩
    rw [opMarkerReceive_frm_of_agreeing ⟨hport, hwired, helection, hother, haccepts, hrole, ⟨d, hparent⟩, hepoch, hmaster,
      hdeputy, hchange, hkept, hlocked, hframe, he, hnear⟩]
    exact ⟨hlocked, rfl, rfl, rfl, rfl, rfl⟩
  · intro src k s hclk hhalted hopen hother haccepts hrole
    exact congrArg Outcome.next ((State.whenClocked_of hclk _).trans
      (opRoutedMarkerReceive_of_master src hhalted hopen hother haccepts hrole))
  · intro src k s hclk hhalted hopen hother haccepts hrole hsynced hframe
    exact congrArg Outcome.next ((State.whenClocked_of hclk _).trans
      (opRoutedMarkerReceive_of_member src hhalted hopen hother haccepts hrole hsynced hframe))
  · intro s hclk hlocked hseen hmaster halone
    exact ⟨_, congrArg Outcome.next ((State.whenClocked_of hclk _).trans
      (opMarkerTimeout_of_locked hlocked hseen hmaster halone)), s.setSync_state_role .holdover⟩
  · intro s hclk hstate hframes
    exact ⟨_, congrArg Outcome.next ((State.whenClocked_of hclk _).trans
      (opHoldoverExpiry_of_holdover hstate hframes)), s.setSync_state_role .unsync⟩
  · intro s hclk hrole hsynced hmissing hstarted
    exact ⟨_, congrArg Outcome.next (State.whenClocked_of hclk _), opDeputyTakeover_frm hrole hsynced hmissing hstarted⟩
  · intro s hclk hrole hclosed hmissing
    exact congrArg Outcome.next ((State.whenClocked_of hclk _).trans (opFullReelection_of hrole hclosed hmissing))

/-! ### Changes of period -/

theorem State.toChoesk_of {s : State} (h : s.mgt.act ≠ .restoring) (src : Nat) (m : Msg) (t : State) :
    s.toChoesk src m t = t := if_neg h

theorem opPeriodProposalReceive_of_member {s : State} (hmaster : s.frm.role ≠ .master) (halone : s.frm.role ≠ .standalone)
    (period : BitVec 3) (slack : BitVec 2) :
    opPeriodProposalReceive period slack s =
      s.updFrm (fun f => { f with proposal := some { period := period, slack := slack, master := false } }) := by
  simp [opPeriodProposalReceive, hmaster, halone]

/-- The package acknowledges a proposal that may begin; the master among the others, a member to the master (R62). -/
theorem opPeriodChangeAcknowledge_of {p : Proposal} {s : State} (hproposal : s.frm.proposal = some p)
    (hacked : p.acked = false) (hmay : s.mayAcknowledge p = true) :
    opPeriodChangeAcknowledge s =
      if p.master then (s.updFrm (fun f =>
        { f with proposal := some { p with acked := true, acks := insertNat s.self p.acks } })).announce
      else (s.updFrm (fun f =>
        { f with proposal := some { p with acked := true, acks := insertNat s.self p.acks } })).send
          s.frm.master.toNat (.periodAck s.self) := by
  unfold opPeriodChangeAcknowledge
  rw [hproposal]
  exact if_neg (by simp [hacked, hmay])

/-- The master that has every acknowledgement announces the change for the ninth frame from now (R62). -/
theorem State.announce_of_all {p : Proposal} {s : State} (hproposal : s.frm.proposal = some p) (hmaster : p.master = true)
    (hall : p.expect.all (fun k => p.acks.contains k) = true) :
    s.announce = s.updFrm (fun f => { f with
      change := some { period := p.period, slack := p.slack, frame := f.count + 9 }, proposal := none }) := by
  unfold State.announce
  rw [hproposal]
  exact if_pos (by rw [hmaster, hall]; rfl)

theorem opPeriodAckReceive_of_master {p : Proposal} {s : State} (hproposal : s.frm.proposal = some p)
    (hmaster : p.master = true) (pkg : Fin 128) :
    opPeriodAckReceive pkg s =
      (s.updFrm (fun f => { f with proposal := some { p with acks := insertNat pkg.val p.acks } })).announce := by
  unfold opPeriodAckReceive
  rw [hproposal]
  exact if_pos hmaster

theorem opPeriodChangeAbandon_of {p : Proposal} {s : State} (hproposal : s.frm.proposal = some p) (hframes : 64 ≤ p.frames) :
    opPeriodChangeAbandon s = ((s.updFrm (fun f => { f with proposal := none, changeCmd := none })).finishAll
      s.frm.changeCmd.toList .badCommand .badState
      [word [(0, (p.expect.filter (fun k => !p.acks.contains k)).length)]]).releaseHeld := by
  unfold opPeriodChangeAbandon
  rw [hproposal]
  exact if_neg (Nat.not_lt.2 hframes)

/-- Settles O22: each clause is the equation of its operation. -/
theorem periodEventsComplete : Obligations.PeriodEventsComplete := by
  refine ⟨?_, ?_, ?_, ?_, ?_⟩
  · intro period slack s hclk hact hmaster halone
    refine congrArg Outcome.next ?_
    rw [State.whenClocked_of hclk, State.toChoesk_of hact, opPeriodProposalReceive_of_member hmaster halone]
  · intro p s hclk hproposal hacked hmay hmember
    refine congrArg Outcome.next ?_
    rw [State.whenClocked_of hclk, opPeriodChangeAcknowledge_of hproposal hacked hmay, if_neg (by simp [hmember])]
  · intro p s hclk hproposal hacked hmay hmaster
    refine congrArg Outcome.next ?_
    rw [State.whenClocked_of hclk, opPeriodChangeAcknowledge_of hproposal hacked hmay, if_pos hmaster]
  · intro pkg p s hclk hact hproposal hmaster hall
    refine ⟨_, congrArg Outcome.next ((State.whenClocked_of hclk _).trans (State.toChoesk_of hact _ _ _)), ?_⟩
    rw [opPeriodAckReceive_of_master hproposal hmaster, State.announce_of_all (by rfl) (by exact hmaster) (by exact hall)]
    exact ⟨rfl, rfl, rfl, rfl⟩
  · intro p s hclk hproposal hframes
    refine congrArg Outcome.next ?_
    rw [State.whenClocked_of hclk, opPeriodChangeAbandon_of hproposal hframes]

end Sys2Proof.Machine
end

section
/-! PROOFS. The queue of waiting commands, and the checks that a consumed command passes (R88). -/

namespace Sys2Proof.Machine

open Sys2Proof

/-! ### The queue -/

/-- Settles O46: the two equations of `step`. -/
theorem stepRunsFront : Obligations.StepRunsFront :=
  ⟨fun _ _ _ => step_of_pending_cons, fun _ => step_of_pending_nil⟩

theorem exec_queue_outputs_free {c : Instr} {s t : State} (h : exec c s = .next t) :
    t.pending = s.pending ∧ s.out <+: t.out ∧ s.free ≤ t.free := by
  obtain ⟨hpending, hout, hfree, -⟩ := exec_kept (Kept.refl s) c h
  exact ⟨hpending, hout, hfree⟩

/-- Settles O47: every command keeps what `Kept` says, the queue, the outputs and the count of free values with it. -/
theorem queueKeptOutputsGrow : Obligations.QueueKeptOutputsGrow := fun _ _ _ => exec_queue_outputs_free

/-! ### The checks of R88 -/

/-- The state with a consumption counted, before its ticket is entered. -/
def State.counted (m : Nat) (s : State) : State :=
  State.updMb m (fun b => { b with consumed := b.consumed + 1 }) { s with nextUid := s.nextUid + 1 }

/-- The record of a duplicate ticket: an interim one (R84). -/
def duplicateRecord (sp : Spec) (m : Nat) (e : Entry) (s : State) : Record :=
  { cmd := cmdIdOf s.nextUid m sp.opcode e, oc := .badCommand, reason := .duplicateTicket, words := sp.failWords s
    final := false, frame := s.frm.count }

/-- Steps 3 and 4 of R88: after the reserved bits come the mailbox and the ticket; what passes them is carried out with
its ticket entered. -/
theorem serve_unreserved {c : Instr} {sp : Spec} {m : Nat} {e : Entry} {s : State}
    (hcmd : c.command? = some (sp, m, e)) (hcan : s.canConsume m = true) (hres : reservedSet (some sp) m e = false) :
    serve sp m e s =
      if !sp.permitted m then
        (s.entered m sp.opcode e).finish (cmdIdOf s.nextUid m sp.opcode e) .badCommand .notPermitted (sp.failWords s)
      else if (s.mb m).tickets.any (fun t => t.cmd.ticket == e.ticket) then
        (s.counted m).updMb m (fun b => { b with staged := b.staged ++ [duplicateRecord sp m e s] })
      else carryOut sp (cmdIdOf s.nextUid m sp.opcode e) m e (s.entered m sp.opcode e) := by
  have hwords : sp.failWords (s.counted m) = sp.failWords s := failWords_of_frm hcmd rfl
  unfold State.counted at hwords
  unfold serve
  rw [if_pos hcan]
  unfold consume
  dsimp only
  rw [hres, hwords]
  rfl

theorem entered_refused {sp : Spec} {m : Nat} {e : Entry} {s : State} (hcan : s.canConsume m = true) (oc : Oc)
    (rs : Reason) (ws : List W64) :
    OnlyRecorded s ((s.entered m sp.opcode e).finish (cmdIdOf s.nextUid m sp.opcode e) oc rs ws) ∧
      Answered sp m e oc rs ws s ((s.entered m sp.opcode e).finish (cmdIdOf s.nextUid m sp.opcode e) oc rs ws) :=
  ⟨entered_onlyRecorded .., entered_answered hcan ..⟩

/-- Step 5 of R88. -/
theorem carryOut_of_outOfRange {sp : Spec} {m : Nat} {e : Entry} {s : State} (c : CmdId)
    (h : (e.cost != 0) ≠ decide (sp.cls = .j) ∨ sp.inRange m e.args s = false) :
    carryOut sp c m e s = s.finish c .badCommand .outOfRange (sp.failWords s) := by
  unfold carryOut
  exact if_pos (by simpa only [Bool.or_eq_true, Bool.not_eq_true', bne_iff_ne] using h)

/-- Step 6 of R88: the state of the partition (R89). -/
theorem carryOut_of_partitionDown {sp : Spec} {m : Nat} {e : Entry} {s : State} (c : CmdId)
    (hcost : (e.cost != 0) = decide (sp.cls = .j)) (hrange : sp.inRange m e.args s = true)
    (hdown : (sp.part m e.args).any (fun p => stateRefuses sp.cls (s.part p).state) = true) :
    carryOut sp c m e s = s.finish c .refused .partitionDown (sp.failWords s) := by
  unfold carryOut
  rw [if_neg (by rw [hcost, hrange]; simp), if_pos hdown]

/-- Step 7 of R88: the context the command acts for (R122). -/
theorem carryOut_of_context {sp : Spec} {m : Nat} {e : Entry} {s : State} {rs : Reason} (c : CmdId)
    (hcost : (e.cost != 0) = decide (sp.cls = .j)) (hrange : sp.inRange m e.args s = true)
    (hup : (sp.part m e.args).any (fun p => stateRefuses sp.cls (s.part p).state) = false)
    (hctx : ctxCheck (sp.acts e.args) (s.ctx (sp.on m e) e.ctx.toNat).state = some rs) :
    carryOut sp c m e s = s.finish c .badCommand rs (sp.failWords s) := by
  unfold Spec.on at hctx
  unfold carryOut
  rw [if_neg (by rw [hcost, hrange]; simp), if_neg (by rw [hup]; simp)]
  dsimp only
  rw [hctx]

/-- A new ticket on a mailbox that may send the command: what steps 5 to 7 refuse gets its record on the state where the
ticket stands. -/
theorem exec_of_carryOut_refused {c : Instr} {sp : Spec} {m : Nat} {e : Entry} {s : State} {oc : Oc} {rs : Reason}
    (hcmd : c.command? = some (sp, m, e)) (hcan : s.canConsume m = true) (hres : reservedSet (some sp) m e = false)
    (hperm : sp.permitted m = true) (hnew : (s.mb m).tickets.any (fun t => t.cmd.ticket == e.ticket) = false)
    (hrefused : carryOut sp (cmdIdOf s.nextUid m sp.opcode e) m e (s.entered m sp.opcode e) =
      (s.entered m sp.opcode e).finish (cmdIdOf s.nextUid m sp.opcode e) oc rs
        (sp.failWords (s.entered m sp.opcode e))) :
    ∃ t, exec c s = .next t ∧ OnlyRecorded s t ∧ Answered sp m e oc rs (sp.failWords s) s t := by
  refine ⟨_, exec_of_command hcmd s, ?_⟩
  rw [serve_unreserved hcmd hcan hres, if_neg (by simp [hperm]), if_neg (by simp [hnew]), hrefused,
    failWords_of_frm hcmd (State.entered_frm m sp.opcode e s)]
  exact entered_refused hcan ..

/-- Settles O57: each check ends the command with its record, on the state where its ticket stands or, for a duplicate
ticket, where the consumption is only counted. That the context comes before every other check of step 7 is log entry
32. -/
theorem commandChecksInOrder : Obligations.CommandChecksInOrder := by
  refine ⟨?_, ?_, ?_, ?_, ?_⟩
  · intro c sp m e s hcmd hcan hres hperm
    refine ⟨_, exec_of_command hcmd s, ?_⟩
    rw [serve_unreserved hcmd hcan hres, if_pos (by rw [hperm]; rfl)]
    exact entered_refused hcan ..
  · intro c sp m e s hcmd hcan hres hperm hdup
    refine ⟨_, exec_of_command hcmd s, ?_⟩
    rw [serve_unreserved hcmd hcan hres, if_neg (by simp [hperm]), if_pos hdup, State.mb_updMb_self, State.counted,
      State.mb_updMb_self]
    exact ⟨rfl, rfl, rfl⟩
  · intro c sp m e s hcmd hcan hres hperm hnew hbad
    exact exec_of_carryOut_refused hcmd hcan hres hperm hnew (carryOut_of_outOfRange _ hbad)
  · intro c sp m e s hcmd hcan hres hperm hnew hcost hrange hdown
    exact exec_of_carryOut_refused hcmd hcan hres hperm hnew (carryOut_of_partitionDown _ hcost hrange hdown)
  · intro c sp m e s rs hcmd hcan hres hperm hnew hcost hrange hup hctx
    exact exec_of_carryOut_refused hcmd hcan hres hperm hnew (carryOut_of_context _ hcost hrange hup hctx)

end Sys2Proof.Machine
end

section
/-! PROOFS. The rings of the mailboxes (R77 to R81, R100). -/

namespace Sys2Proof.Machine

open Sys2Proof
open Host (Outcome)

/-! ### Rings of a mailbox -/

theorem State.mbxError_of_clear {m : Nat} {s : State} (h : (s.mb m).error = false) (code : MbxErr) :
    s.mbxError m code = ((s.updMb m (fun b => { b with error := true, errCode := code })).log 0x0200
      [(0, m), (8, code.code)]).fireVec m 1 := by
  unfold State.mbxError
  rw [if_neg (by simp [h])]

theorem State.mbxError_mb_of_clear {m : Nat} {s : State} (h : (s.mb m).error = false) (code : MbxErr) :
    (s.mbxError m code).mb m = { s.mb m with error := true, errCode := code } := by
  rw [State.mbxError_of_clear h]
  simp

theorem toNat_ofNat_fld {n : Nat} (w : BitVec n) (lo len : Nat) :
    (BitVec.ofNat len (fld w lo len)).toNat = fld w lo len := by
  rw [BitVec.toNat_ofNat]
  exact Nat.mod_mod _ _

/-- R77: the sizes and the bases that a ring configuration may start with. -/
def Mailbox.ringsAllowed (b : Mailbox) (v : W64) : Prop :=
  4 ≤ fld v 0 4 ∧ fld v 0 4 ≤ 12 ∧ 4 ≤ fld v 4 4 ∧ fld v 4 4 ≤ 13 ∧ fld b.cmdBase 0 12 = 0 ∧ fld b.cplBase 0 12 = 0

/-- A mailbox with rings of these sizes, not yet started. -/
def Mailbox.sized (v : W64) (b : Mailbox) : Mailbox :=
  { b with cmdLog2 := BitVec.ofNat 4 (fld v 0 4), cplLog2 := BitVec.ofNat 4 (fld v 4 4) }

/-- A mailbox that starts with both rings empty (R77), and with the counts of its completion vector anew (log entry
114). -/
def Mailbox.started (b : Mailbox) : Mailbox :=
  { b with
    enable := true, cmdHead := 0, cmdTail := 0, cplHead := 0, cplTail := 0, phase := true, sinceIrq := 0, age := none }

section
variable {fn : Fin 17} {v : W64} {s : State}

/-- The sizes of a disabled mailbox are stored. -/
theorem opMbxRingCfgWrite_of_disable (hfn : s.fnExists fn.val = true) (herr : (s.mb fn.val).error = false)
    (hen : (s.mb fn.val).enable = false) (hv : bit v 8 = false) :
    opMbxRingCfgWrite fn v s = s.updMb fn.val (Mailbox.sized v) := by
  unfold opMbxRingCfgWrite
  dsimp only
  rw [if_neg (by simp [hfn, herr, hen]), if_neg (by simp [hv])]
  rfl

theorem opMbxRingCfgWrite_of_enable (hfn : s.fnExists fn.val = true) (herr : (s.mb fn.val).error = false)
    (hen : (s.mb fn.val).enable = false) (hbusy : (s.mb fn.val).resetBusy = false) (hboot : s.mgt.booted = true)
    (hv : bit v 8 = true) (hgood : (s.mb fn.val).ringsAllowed v) :
    opMbxRingCfgWrite fn v s = (s.updMb fn.val (Mailbox.sized v)).updMb fn.val Mailbox.started := by
  obtain ⟨h1, h2, h3, h4, h5, h6⟩ := hgood
  unfold opMbxRingCfgWrite
  dsimp only
  rw [if_neg (by simp [hfn, herr, hen]), if_pos hv, if_neg (by simp [hbusy, hboot]), if_pos]
  · rfl
  · simp only [toNat_ofNat_fld]
    simp [*]

theorem opMbxRingCfgWrite_of_bad (hfn : s.fnExists fn.val = true) (herr : (s.mb fn.val).error = false)
    (hen : (s.mb fn.val).enable = false) (hbusy : (s.mb fn.val).resetBusy = false) (hboot : s.mgt.booted = true)
    (hv : bit v 8 = true) (hbad : ¬ (s.mb fn.val).ringsAllowed v) :
    opMbxRingCfgWrite fn v s = (s.updMb fn.val (Mailbox.sized v)).mbxError fn.val .badConfig := by
  unfold opMbxRingCfgWrite
  dsimp only
  rw [if_neg (by simp [hfn, herr, hen]), if_pos hv, if_neg (by simp [hbusy, hboot]), if_neg]
  · rfl
  · simpa only [toNat_ofNat_fld, Mailbox.ringsAllowed, Bool.and_eq_true, decide_eq_true_eq, beq_iff_eq, and_assoc]
      using hbad

theorem opDoorbell_of_inRing (hfn : s.fnExists fn.val = true) (herr : (s.mb fn.val).error = false)
    (hen : (s.mb fn.val).enable = true) (h : fld v 0 12 < (s.mb fn.val).cmdSize) :
    opDoorbell fn v s = s.updMb fn.val (fun b => { b with cmdTail := BitVec.ofNat 12 (fld v 0 12) }) := by
  unfold opDoorbell
  dsimp only
  rw [if_neg (by simp [hfn, herr, hen]), if_neg (Nat.not_le.2 h)]

theorem opDoorbell_of_beyond (hfn : s.fnExists fn.val = true) (herr : (s.mb fn.val).error = false)
    (hen : (s.mb fn.val).enable = true) (h : (s.mb fn.val).cmdSize ≤ fld v 0 12) :
    opDoorbell fn v s = s.mbxError fn.val .badDoorbell := by
  unfold opDoorbell
  dsimp only
  rw [if_neg (by simp [hfn, herr, hen]), if_pos h]

theorem opMbxCplHeadWrite_of_unread (hfn : s.fnExists fn.val = true) (herr : (s.mb fn.val).error = false)
    (hen : (s.mb fn.val).enable = true) (hring : fld v 0 13 < (s.mb fn.val).cplSize)
    (hunread : (fld v 0 13 + (s.mb fn.val).cplSize - (s.mb fn.val).cplHead.toNat) % (s.mb fn.val).cplSize ≤
      (s.mb fn.val).unread) :
    opMbxCplHeadWrite fn v s = s.updMb fn.val (fun b => { b with cplHead := BitVec.ofNat 13 (fld v 0 13) }) := by
  unfold opMbxCplHeadWrite
  dsimp only
  rw [if_neg (by simp [hfn, herr, hen]), if_neg]
  simp only [Bool.or_eq_true, decide_eq_true_eq]
  omega

theorem opMbxCplHeadWrite_of_beyond (hfn : s.fnExists fn.val = true) (herr : (s.mb fn.val).error = false)
    (hen : (s.mb fn.val).enable = true) (h : (s.mb fn.val).cplSize ≤ fld v 0 13) :
    opMbxCplHeadWrite fn v s = s.mbxError fn.val .badCplHead := by
  unfold opMbxCplHeadWrite
  dsimp only
  rw [if_neg (by simp [hfn, herr, hen]), if_pos (by simp [h])]

end

theorem State.fireCompletion_if_staged (p : Prop) [Decidable p] (m : Nat) (s : State) :
    ((if p then s.fireCompletion m else s).mb m).staged = (s.mb m).staged := by
  split
  · simp [State.fireCompletion]
  · rfl

theorem State.fireCompletion_if_host (p : Prop) [Decidable p] (m : Nat) (s : State) :
    (if p then s.fireCompletion m else s).host = s.host := by
  split
  · simp [State.fireCompletion]
  · rfl

/-- A record written to a ring in host memory goes to the entry at the tail and leaves the staged ones (R79, R81). -/
theorem State.writeRecord_of_ring {m : Nat} {r : Record} {rest : List Record} {s : State} (hm : m ≠ 17)
    (hstaged : (s.mb m).staged = r :: rest) :
    ((s.writeRecord m).mb m).staged = rest ∧
      (s.writeRecord m).host = s.host.writeBytes ((s.mb m).cplBase.toNat + 64 * (s.mb m).cplTail.toNat)
        (recordBytes (s.mb m).phase r) := by
  unfold State.writeRecord
  dsimp only
  rw [hstaged]
  dsimp only
  rw [if_neg hm]
  rw [State.fireCompletion_if_staged, State.fireCompletion_if_host, State.mb_updMb_self]
  exact ⟨rfl, rfl⟩

theorem opIrqAgeExpiry_of_old {fn : Fin 17} {n : Nat} {s : State} (hage : (s.mb fn.val).age = some n)
    (hframes : (s.mb fn.val).irqFrames ≠ 0) (hold : (s.mb fn.val).irqFrames.toNat ≤ n) :
    opIrqAgeExpiry fn s = s.fireCompletion fn.val := by
  unfold opIrqAgeExpiry
  dsimp only
  rw [hage]
  exact if_pos (by rw [bne_iff_ne.2 hframes, decide_eq_true hold]; rfl)

/-- Settles O16: each clause is the equation of its operation. -/
theorem mailboxRings : Obligations.MailboxRings := by
  refine ⟨?_, ?_, ?_, ?_, ?_, ?_, ?_, ?_, ?_⟩
  · intro fn v s halive hfn herr hen hbusy hboot hv h1 h2 h3 h4 h5 h6
    refine ⟨_, congrArg Outcome.next ((State.whenPcie_of halive _).trans
      (opMbxRingCfgWrite_of_enable hfn herr hen hbusy hboot hv ⟨h1, h2, h3, h4, h5, h6⟩)), ?_⟩
    simp only [State.mb_updMb_self]
    refine ⟨rfl, congrArg (2 ^ ·) (toNat_ofNat_fld v 0 4), congrArg (2 ^ ·) (toNat_ofNat_fld v 4 4), rfl, rfl, rfl, rfl,
      rfl, fun k hk => ?_⟩
    rw [State.mb_updMb_ne _ hk, State.mb_updMb_ne _ hk]
  · intro fn v s halive hfn herr hen hv
    exact congrArg Outcome.next ((State.whenPcie_of halive _).trans (opMbxRingCfgWrite_of_disable hfn herr hen hv))
  · intro fn v s halive hfn herr hen hbusy hboot hv hbad
    refine ⟨_, congrArg Outcome.next ((State.whenPcie_of halive _).trans
      (opMbxRingCfgWrite_of_bad hfn herr hen hbusy hboot hv ?_)), ?_⟩
    · unfold Mailbox.ringsAllowed
      omega
    · rw [State.mbxError_mb_of_clear (by simpa [Mailbox.sized] using herr), State.mb_updMb_self]
      exact ⟨hen, rfl, rfl⟩
  · intro fn v s halive hfn herr hen h
    exact congrArg Outcome.next ((State.whenPcie_of halive _).trans (opDoorbell_of_inRing hfn herr hen h))
  · intro fn v s halive hfn herr hen h
    exact congrArg Outcome.next ((State.whenPcie_of halive _).trans (opDoorbell_of_beyond hfn herr hen h))
  · intro fn v s halive hfn herr hen hring hunread
    exact congrArg Outcome.next ((State.whenPcie_of halive _).trans
      (opMbxCplHeadWrite_of_unread hfn herr hen hring hunread))
  · intro fn v s halive hfn herr hen h
    exact congrArg Outcome.next ((State.whenPcie_of halive _).trans (opMbxCplHeadWrite_of_beyond hfn herr hen h))
  · intro m r s hclk hm hcan hstaged
    refine ⟨_, congrArg Outcome.next (State.whenClocked_of hclk _), ?_⟩
    have hone : opCompletionWrite m s = s.writeRecord m.val := by
      rw [opCompletionWrite, hstaged]
      exact if_pos hcan
    rw [hone]
    exact State.writeRecord_of_ring hm hstaged
  · intro fn n s hclk hage hframes hold
    exact congrArg Outcome.next ((State.whenClocked_of hclk _).trans (opIrqAgeExpiry_of_old hage hframes hold))

end Sys2Proof.Machine
end

section
/-! PROOFS. The PCIe link, the errors of its endpoint and the fetch of commands. -/

namespace Sys2Proof.Machine

open Sys2Proof
open Host (Outcome)

/-! ### The PCIe link -/

theorem State.pcieAlive_of {s : State} (hclk : s.clocked = true) (hrefclk : s.pcie.refclk = true) :
    s.pcieAlive = true := by
  simp [State.pcieAlive, hclk, hrefclk]

theorem opPerstAssert_link (s : State) :
    (opPerstAssert s).pcie.perstLow = true ∧ (opPerstAssert s).pcie.link = .down := by
  unfold opPerstAssert
  split <;> exact ⟨rfl, rfl⟩

theorem State.trainPcie_of_width {width : BitVec 5} (h : width = 16 ∨ width = 8) (speed : BitVec 3) (s : State) :
    s.trainPcie width speed = { s with pcie := { s.pcie with link := .up, width := width, speed := speed } } :=
  if_pos (by simpa using h)

theorem State.trainPcie_fails {width : BitVec 5} (h16 : width ≠ 16) (h8 : width ≠ 8) (speed : BitVec 3) (s : State) :
    (s.trainPcie width speed).pcie.link = .detect ∧ (s.trainPcie width speed).pcie.width = 0 ∧
      (s.trainPcie width speed).pcie.speed = 0 := by
  unfold State.trainPcie
  rw [if_neg (by simpa only [Bool.or_eq_true, decide_eq_true_eq, not_or] using ⟨h16, h8⟩)]
  exact ⟨rfl, rfl, rfl⟩

theorem opPerstRelease_of_alive {s : State} (hlow : s.pcie.perstLow = true) (halive : s.pcieAlive = true)
    (width : BitVec 5) (speed : BitVec 3) :
    opPerstRelease width speed s =
      State.trainPcie width speed { s with
        pcie := { s.pcie with perstLow := false, configRetry := !s.mgt.booted && !s.mgt.recovery } } := by
  unfold opPerstRelease
  rw [if_neg (by simp [hlow])]
  exact if_pos halive

theorem opPerstRelease_of_not_alive {s : State} (hlow : s.pcie.perstLow = true) (halive : s.pcieAlive = false)
    (width : BitVec 5) (speed : BitVec 3) :
    opPerstRelease width speed s =
      { s with pcie := { s.pcie with perstLow := false, configRetry := !s.mgt.booted && !s.mgt.recovery } } := by
  unfold opPerstRelease
  rw [if_neg (by simp [hlow])]
  exact if_neg (fun h => Bool.false_ne_true (halive.symm.trans h))

theorem opPcieLinkRetry_of {s : State} (hhigh : s.pcie.perstLow = false) (halive : s.pcieAlive = true)
    (hlink : s.pcie.link = .detect ∨ s.pcie.link = .training) (width : BitVec 5) (speed : BitVec 3) :
    opPcieLinkRetry width speed s = s.trainPcie width speed :=
  if_pos (by simpa [hhigh, halive] using hlink)

/-! ### Errors of the endpoint -/

theorem State.aer_mb (fn kind off : Nat) (write : Bool) (s : State) (m : Nat) :
    (s.aer fn kind off write).mb m = s.mb m := by
  unfold State.aer State.emitPcie
  split <;> rfl

theorem State.aer_fnExists (fn kind off : Nat) (write : Bool) (s : State) (k : Nat) :
    (s.aer fn kind off write).fnExists k = s.fnExists k := by
  unfold State.aer State.emitPcie
  split <;> rfl

theorem State.aer_of_refclk {s : State} (h : s.pcie.refclk = true) (fn kind off : Nat) (write : Bool) :
    s.aer fn kind off write =
      State.emit (.aer fn kind) { s with pcie := { s.pcie with aerLog := s.pcie.aerLog ++ [(fn, off, write)] } } := by
  unfold State.aer State.emitPcie
  exact if_pos h

/-- Settles O19: each clause is the equation of its operation. -/
theorem pcieEventsComplete : Obligations.PcieEventsComplete := by
  refine ⟨?_, ?_, ?_, ?_, ?_, ?_, ?_, ?_, ?_, ?_, ?_, ?_, ?_⟩
  · exact fun s => ⟨_, rfl, opPerstAssert_link s⟩
  · intro width speed s hlow halive hwidth
    refine congrArg Outcome.next ?_
    rw [opPerstRelease_of_alive hlow halive, State.trainPcie_of_width hwidth]
  · intro width speed s hlow halive
    exact congrArg Outcome.next (opPerstRelease_of_not_alive hlow halive width speed)
  · intro width speed s hclk hhigh hrefclk hlink hwidth
    refine congrArg Outcome.next ?_
    rw [State.whenClocked_of hclk, opPcieLinkRetry_of hhigh (State.pcieAlive_of hclk hrefclk) hlink,
      State.trainPcie_of_width hwidth]
  · intro width speed s hclk hhigh hrefclk hlink h16 h8
    refine ⟨_, congrArg Outcome.next ((State.whenClocked_of hclk _).trans
      (opPcieLinkRetry_of hhigh (State.pcieAlive_of hclk hrefclk) hlink width speed)), ?_⟩
    exact State.trainPcie_fails h16 h8 speed s
  · exact fun fn s halive => congrArg Outcome.next (State.whenPcie_of halive _)
  · exact fun fn s halive => congrArg Outcome.next (State.whenPcie_of halive _)
  · intro fn s halive hfn hen
    refine congrArg Outcome.next ((State.whenPcie_of halive _).trans (if_pos ?_))
    rw [State.aer_fnExists, State.aer_mb, hfn, hen]
    rfl
  · intro fn s halive hnot
    refine congrArg Outcome.next ((State.whenPcie_of halive _).trans (if_neg ?_))
    rw [State.aer_fnExists, State.aer_mb, hnot]
    exact Bool.false_ne_true
  · exact fun fn die tag ticket slot dva write s halive => congrArg Outcome.next (State.whenPcie_of halive _)
  · intro fn a s halive
    refine ⟨_, congrArg Outcome.next (State.whenPcie_of halive _), ?_⟩
    have hrefclk : s.pcie.refclk = true := (Bool.and_eq_true_iff.1 halive).2
    rw [opPcieError, State.aer_of_refclk hrefclk]
    exact ⟨rfl, rfl, rfl⟩
  · exact fun fn s halive => congrArg Outcome.next (State.whenPcie_of halive _)
  · intro m e s halive hnext he
    refine congrArg Outcome.next ((State.whenPcie_of halive _).trans ?_)
    unfold opCommandFetch
    rw [hnext, he]

end Sys2Proof.Machine
end

section
/-! PROOFS. A mailbox reset leaves the changes under way alone: what ending jobs, stopping operations and logging do to
the management unit. -/

namespace Sys2Proof.Machine

open Sys2Proof
open Host (Outcome)

/-! ### What stopping operations leaves of the management unit -/

@[simp] theorem foldl_mgt {α : Type} {g : State → α → State} (hg : ∀ s x, (g s x).mgt = s.mgt) (l : List α)
    (s : State) :
    (l.foldl g s).mgt = s.mgt := by
  induction l generalizing s with
  | nil => rfl
  | cons x l ih => exact (ih _).trans (hg s x)

theorem gotThen_mgt {α β : Type} {g : Mgt} {x : State × Got α} {f : α → State → State × Got β} (hx : x.1.mgt = g)
    (hf : ∀ v s, s.mgt = g → (f v s).1.mgt = g) : (gotThen x f).1.mgt = g := by
  obtain ⟨s, r⟩ := x
  cases r with
  | ok v => exact hf v s hx
  | fault r | wait => exact hx

@[simp] theorem State.emitPcie_mgt (t : HostTlp) (s : State) : (s.emitPcie t).mgt = s.mgt := by
  unfold State.emitPcie
  split <;> rfl

@[simp] theorem State.requestWindow_mgt (w : Who) (write : Bool) (x : Nat) (s : State) :
    (s.requestWindow w write x).mgt = s.mgt := by
  unfold State.requestWindow
  extract_lets
  split
  · rfl
  · exact State.emitPcie_mgt ..

@[simp] theorem State.countMissHost_mgt (w : Who) (write : Bool) (x : Nat) (s : State) :
    (s.countMissHost w write x).mgt = s.mgt := by
  unfold State.countMissHost
  extract_lets
  split <;> rfl

@[simp] theorem State.fill_mgt (d : Nat) (x : XlEntry) (s : State) : (s.fill d x).mgt = s.mgt := rfl

@[simp] theorem State.updXltRegs_mgt (d : Nat) (f : XltRegs → XltRegs) (s : State) :
    (s.updXltRegs d f).mgt = s.mgt := rfl

@[simp] theorem State.translateDev_mgt (w : Who) (write : Bool) (x : Nat) (s : State) :
    (s.translateDev w write x).1.mgt = s.mgt := by
  grind [State.translateDev, State.updXltRegs_mgt, State.fill_mgt]

@[simp] theorem State.translateHost_mgt (w : Who) (write : Bool) (x : Nat) (s : State) :
    (s.translateHost w write x).1.mgt = s.mgt := by
  grind [State.translateHost, State.updXltRegs_mgt, State.fill_mgt, State.countMissHost_mgt, State.requestWindow_mgt]

@[simp] theorem State.translate_mgt (w : Who) (write : Bool) (x : Nat) (s : State) :
    (s.translate w write x).1.mgt = s.mgt := by
  grind [State.translate, State.translateDev_mgt, State.translateHost_mgt]

@[simp] theorem State.eccFault_mgt (w : Who) (write : Bool) (x : Nat) (q : Phys) (s : State) :
    (s.eccFault w write x q).1.mgt = s.mgt := by
  cases q <;> rfl

@[simp] theorem State.countCorrected_mgt (q : Phys) (s : State) : (s.countCorrected q).mgt = s.mgt := by
  cases q <;> rfl

@[simp] theorem State.freshEcc_mgt (q : Phys) (whole : Bool) (k : Nat) (s : State) :
    (s.freshEcc q whole k).mgt = s.mgt := by
  cases whole
  · exact State.countCorrected_mgt q s
  · rfl

@[simp] theorem State.putBytes_mgt (q : Phys) (x : Nat) (l : List (Nat × Byte)) (s : State) :
    (s.putBytes q x l).mgt = s.mgt := by
  cases q <;> rfl

@[simp] theorem State.storeLine_mgt (q : Phys) (bs : List Byte) (s : State) : (s.storeLine q bs).mgt = s.mgt := by
  unfold State.storeLine
  split
  · rfl
  · simp

@[simp] theorem State.writeLine_mgt (w : Who) (x : Nat) (bs : List Byte) (q : Phys) (s : State) :
    (s.writeLine w x bs q).1.mgt = s.mgt := by
  unfold State.writeLine
  split <;> simp

@[simp] theorem State.readLine_mgt (w : Who) (x n : Nat) (q : Phys) (s : State) :
    (s.readLine w x n q).1.mgt = s.mgt := by
  unfold State.readLine
  extract_lets
  split
  · rfl
  · split
    · exact State.eccFault_mgt ..
    · exact foldl_mgt (fun s _ => State.countCorrected_mgt q s) ..

theorem State.writeOne_mgt (w : Who) (x : Nat) (bs : List Byte) (s : State) : (s.writeOne w x bs).1.mgt = s.mgt := by
  grind [State.writeOne, State.translate_mgt, State.writeLine_mgt]

theorem State.readOne_mgt (w : Who) (x k : Nat) (s : State) : (s.readOne w x k).1.mgt = s.mgt := by
  grind [State.readOne, State.translate_mgt, State.readLine_mgt]

theorem State.passLine_mgt (w : Who) (s : State) : (s.passLine w).mgt = s.mgt := by
  unfold State.passLine
  split <;> rfl

theorem State.noteLine_mgt (w : Who) (bs : List Byte) (s : State) : (s.noteLine w bs).mgt = s.mgt := by
  unfold State.noteLine
  split <;> rfl

theorem State.writeLoop_mgt (w : Who) (fuel x : Nat) (bs : List Byte) (s : State) :
    (s.writeLoop w fuel x bs).1.mgt = s.mgt := by
  induction fuel generalizing x bs s with
  | zero => rfl
  | succ k ih =>
    cases bs with
    | nil => rfl
    | cons b bs => grind [State.writeLoop, State.writeOne_mgt, State.passLine_mgt, State.noteLine_mgt]

theorem State.readLoop_mgt (w : Who) (fuel x n : Nat) (acc : List Byte) (s : State) :
    (s.readLoop w fuel x n acc).1.mgt = s.mgt := by
  induction fuel generalizing x n acc s with
  | zero => rfl
  | succ k ih => grind [State.readLoop, State.readOne_mgt, State.passLine_mgt, State.noteLine_mgt]

@[simp] theorem State.writeMany_mgt (w : Who) (xs : List (Nat × List Byte)) (s : State) :
    (s.writeMany w xs).1.mgt = s.mgt := by
  unfold State.writeMany
  induction xs generalizing s with
  | nil => rfl
  | cons x xs ih => grind [State.writePieces, State.writeLoop_mgt]

@[simp] theorem State.readDva_mgt (w : Who) (x n : Nat) (s : State) : (s.readDva w x n).1.mgt = s.mgt :=
  State.readLoop_mgt ..

@[simp] theorem State.readRaw_mgt (o : Op) (n stride x : Nat) (rs : List Nat) (acc : Tab (List Byte)) (s : State) :
    (s.readRaw o n stride x rs acc).1.mgt = s.mgt := by
  induction rs generalizing acc s with
  | nil => rfl
  | cons r rs ih => grind [State.readRaw, State.readDva_mgt]

section
variable {β : Type} {g : Mgt} {s : State}

/-- What follows a read of rows starts from the management unit as the read found it. -/
theorem gotThen_readSome_mgt {o : Op} {code cols stride x : Nat} {rs : List Nat}
    {f : Tab (List Fv) → State → State × Got β} (hs : s.mgt = g) (hf : ∀ v s, s.mgt = g → (f v s).1.mgt = g) :
    (gotThen (s.readSome o code cols stride x rs) f).1.mgt = g :=
  gotThen_mgt (gotThen_mgt ((State.readRaw_mgt ..).trans hs) fun _ _ h => h) hf

theorem gotThen_readStationary_mgt {o : Op} {code cols stride x : Nat} {rs : List Nat}
    {f : Tab (List Fv) → State → State × Got β} (hs : s.mgt = g) (hf : ∀ v s, s.mgt = g → (f v s).1.mgt = g) :
    (gotThen (s.readStationary o code cols stride x rs) f).1.mgt = g :=
  gotThen_mgt (gotThen_mgt ((State.readRaw_mgt ..).trans hs) fun _ _ h => h) hf

theorem gotThen_readTiles_mgt {o : Op} {t : AttnAt} {f : Tiles → State → State × Got β} (hs : s.mgt = g)
    (hf : ∀ v s, s.mgt = g → (f v s).1.mgt = g) : (gotThen (s.readTiles o t) f).1.mgt = g :=
  gotThen_mgt (gotThen_readStationary_mgt hs fun _ _ h => gotThen_readSome_mgt h fun _ _ h =>
    gotThen_readSome_mgt h fun _ _ h => h) hf

end

/-- What an iteration writes is computed from what it reads. -/
theorem State.attnOut_mgt (o : Op) (t : AttnAt) (fin : Bool) (upto : Nat → Nat) (s : State) :
    (s.attnOut o t fin upto).1.mgt = s.mgt := by
  unfold State.attnOut
  split
  · exact gotThen_readTiles_mgt rfl fun _ _ h => gotThen_readSome_mgt h fun _ _ h =>
      gotThen_readSome_mgt h fun _ _ h => h
  split
  · exact gotThen_readSome_mgt rfl fun _ _ h => gotThen_readSome_mgt h fun _ _ h => h
  · exact gotThen_readStationary_mgt rfl fun _ _ h => gotThen_readSome_mgt h fun _ _ h =>
      gotThen_readSome_mgt h fun _ _ h => gotThen_readSome_mgt h fun _ _ h => gotThen_readSome_mgt h fun _ _ h =>
      gotThen_readSome_mgt h fun _ _ h => gotThen_readSome_mgt h fun _ _ h => h
  · exact gotThen_readTiles_mgt rfl fun _ _ h => gotThen_readSome_mgt h fun _ _ h => gotThen_readSome_mgt h fun _ _ h =>
      gotThen_readSome_mgt h fun _ _ h => h

theorem State.bucketEntry_mgt (o : Op) (s : State) : (s.bucketEntry o).1.mgt = s.mgt := by
  unfold State.bucketEntry
  extract_lets
  split
  · exact gotThen_mgt (State.readDva_mgt ..) fun _ _ h => h
  · rfl

@[simp] theorem State.stopPass_mgt (o : Op) (s : State) : (s.stopPass o).mgt = s.mgt := by
  unfold State.stopPass
  split
  · rfl
  extract_lets n r
  have hr : r.1.mgt = s.mgt := gotThen_mgt (State.bucketEntry_mgt ..) fun _ _ h =>
    gotThen_mgt ((State.attnOut_mgt ..).trans h) fun _ _ h =>
      gotThen_mgt ((State.writeMany_mgt ..).trans h) fun _ _ h => h
  clear_value r
  obtain ⟨u, got⟩ := r
  cases got with
  | ok o' => exact hr
  | fault _ | wait => rfl

@[simp] theorem State.endOps_mgt (uid : Nat) (s : State) : (s.endOps uid).mgt = s.mgt := by
  simp [State.endOps]

@[simp] theorem State.decideJob_mgt (uid : Nat) (rs : Reason) (s : State) : (s.decideJob uid rs).mgt = s.mgt := by
  simp [State.decideJob]

/-! ### A mailbox reset and the management unit -/

/-- From g to g' only the event log has changed, with the alert that its critical records raise (R424, R425). -/
def Mgt.Logged (g g' : Mgt) : Prop :=
  g' = { g with
    sram := g'.sram, nextLog := g'.nextLog, perFrame := g'.perFrame, unacked := g'.unacked, alertLow := g'.alertLow }

@[simp] theorem State.fireVec_mgt (fn v : Nat) (s : State) : (s.fireVec fn v).mgt = s.mgt := by
  unfold State.fireVec
  split
  · rfl
  · split
    · rfl
    · exact State.emitPcie_mgt ..

theorem State.writeLog_mgt (ev : Nat) (rs : Reason) (part : Option (Nat × Nat)) (data : W64) (s : State) :
    (s.writeLog ev rs part data).mgt =
      { s.mgt with sram := (s.writeLog ev rs part data).mgt.sram, nextLog := s.mgt.nextLog + 1 } := by
  unfold State.writeLog
  extract_lets
  split <;> rfl

theorem State.logEvent_logged {g : Mgt} {s : State} (hs : s.mgt = g) (ev : Nat) (rs : Reason)
    (part : Option (Nat × Nat)) (data : List (Nat × Nat)) : g.Logged (s.logEvent ev rs part data).mgt := by
  subst hs
  unfold State.logEvent Mgt.Logged
  extract_lets n u w
  split
  · rfl
  · have hw := State.writeLog_mgt ev rs part (word data) u
    split
    · rw [State.fireVec_mgt, State.updMgt_mgt, hw]
      rfl
    · rw [hw]
      rfl

/-- The admitted jobs of a mailbox are decided without a change to the fuses, the flash, the frame unit or the
management unit (step 4 of R101). -/
theorem decideJobs_keeps (js : List Job) (s : State) :
    (js.foldl (fun s j => s.decideJob j.cmd.uid .hostAbort) s).fuse = s.fuse ∧
      (js.foldl (fun s j => s.decideJob j.cmd.uid .hostAbort) s).flash = s.flash ∧
      (js.foldl (fun s j => s.decideJob j.cmd.uid .hostAbort) s).frm = s.frm ∧
      (js.foldl (fun s j => s.decideJob j.cmd.uid .hostAbort) s).mgt = s.mgt := by
  obtain ⟨hfuse, hflash, hfrm, -⟩ :=
    foldl_jobs (fun _ (j : Job) => State.decideJob_jobs j.cmd.uid .hostAbort) js (Jobs.refl s)
  exact ⟨hfuse, hflash, hfrm, foldl_mgt (fun s (j : Job) => State.decideJob_mgt j.cmd.uid .hostAbort s) js s⟩

/-- A mailbox reset leaves the fuses, the flash and the frame unit alone, and of the management unit all but its log. -/
theorem State.resetMailbox_keeps (m : Nat) (s : State) :
    (s.resetMailbox m).fuse = s.fuse ∧ (s.resetMailbox m).flash = s.flash ∧ (s.resetMailbox m).frm = s.frm ∧
      s.mgt.Logged (s.resetMailbox m).mgt := by
  cases hbusy : (s.mb m).resetBusy with
  | true =>
    rw [State.resetMailbox, if_pos hbusy]
    exact ⟨rfl, rfl, rfl, rfl⟩
  | false =>
    rw [State.resetMailbox_of_idle hbusy]
    obtain ⟨hfuse, hflash, hfrm, hmgt⟩ :=
      decideJobs_keeps (s.adm.jobs.filter (fun j => j.cmd.mbx == m && j.stage == .admitted)) _
    rw [hfuse, hflash, hfrm, hmgt]
    refine ⟨by simp, by simp, by simp, ?_⟩
    rw [State.updAdm_mgt]
    exact State.logEvent_logged (State.updMb_mgt ..) ..

/-- FW.QUERY speaks of the fuses, the flash and the management unit, but not of its log. -/
theorem fwQueryWords_of_logged {s t : State} (hfuse : t.fuse = s.fuse) (hflash : t.flash = s.flash)
    (hmgt : s.mgt.Logged t.mgt) : fwQueryWords t = fwQueryWords s := by
  have hbank : ∀ b, t.validBank b = s.validBank b := fun b => by
    unfold State.validBank State.imageBad
    rw [hfuse, hflash]
  unfold fwQueryWords State.inactive
  simp only [hbank]
  rw [hfuse, hflash, hmgt]

/-- Settles O55: a reset of the mailbox touches nothing of a change or an activation. -/
theorem pf0ResetKeepsChanges : Obligations.Pf0ResetKeepsChanges := by
  intro s halive
  refine ⟨_, congrArg Outcome.next (State.whenPcie_of halive _), ?_⟩
  have hop : opMailboxReset 0 s = s.resetMailbox 0 := if_pos rfl
  obtain ⟨hfuse, hflash, hfrm, hmgt⟩ := s.resetMailbox_keeps 0
  rw [hop, fwQueryWords_of_logged hfuse hflash hmgt, hfrm, hmgt]
  exact ⟨rfl, rfl, rfl, rfl, rfl, rfl, rfl, rfl, rfl⟩

end Sys2Proof.Machine
end

section
/-! PROOFS. The start and the end of a kill (R123 to R126), partition faults (R365), and what a teardown gives up (R367). -/

namespace Sys2Proof.Machine

open Sys2Proof
open Host (Outcome)

/-! ### The start of a kill -/

/-- A context that is not LIVE keeps its first cause (R123). -/
theorem State.killStart_of_not_live {r : FaultRec} {s : State}
    (h : (s.ctx (r.tag.toNat / 64) (r.tag.toNat % 64)).state ≠ .live) (peer : Option (BitVec 7 × BitVec 10)) :
    s.killStart r peer = s :=
  if_pos (by simpa using h)

/-- A detected fault marks memory words in the translation tables at most, and then starts the kill. -/
theorem opKillStart_eq_killStart (r : FaultRec) (s : State) :
    ∃ x, opKillStart r s = State.killStart r none { s with xlt := x } := by
  unfold opKillStart
  extract_lets mark p marked
  suffices hmarked : ∃ x, marked = { s with xlt := x } from
    hmarked.imp fun x hx => congrArg (State.killStart r none) hx
  show ∃ x, (if mark = true then _ else _) = { s with xlt := x }
  split
  · split
    · split <;> exact ⟨_, rfl⟩
    · exact ⟨_, rfl⟩
  · exact ⟨_, rfl⟩

/-- A fault that is no uncorrectable error marks no word (R118). -/
theorem opKillStart_of_unmarked {r : FaultRec} (h09 : r.kind ≠ 0x09) (h0A : r.kind ≠ 0x0A) (s : State) :
    opKillStart r s = s.killStart r none := by
  unfold opKillStart
  dsimp only
  rw [if_neg (by simpa using ⟨h09, h0A⟩)]

theorem opKillStart_of_unplaced {r : FaultRec} {s : State} (hkind : r.kind = 0x09 ∨ r.kind = 0x0A)
    (hplace : s.choeskPlace (r.tag.toNat / 64) (r.tag.toNat % 64) false r.dva.toNat = none) :
    opKillStart r s = s.killStart r none := by
  unfold opKillStart
  dsimp only
  rw [if_pos (by simpa using hkind), hplace]

/-- An uncorrectable error in device memory marks its word and sets UE on its page (R118). -/
theorem opKillStart_of_device {r : FaultRec} {ppn off : Nat} {s : State} (hkind : r.kind = 0x09 ∨ r.kind = 0x0A)
    (hplace : s.choeskPlace (r.tag.toNat / 64) (r.tag.toNat % 64) false r.dva.toNat = some (.dev ppn off)) :
    opKillStart r s = (s.updXlt (fun x => { x with
      ecc := x.ecc ++ [(false, (Phys.dev ppn off).addr / 8, true)]
      own := x.own.upd {} ppn (fun o => { o with ue := true }) })).killStart r none := by
  unfold opKillStart
  dsimp only
  rw [if_pos (by simpa using hkind), hplace]
  rfl

/-! ### Kill notices -/

/-- A notice for a LIVE member context kills it with SPAN_PEER_KILLED (R126). -/
theorem opKillNoticeReceive_of_live {span : BitVec 16} {x : Span} {s : State} (hspan : s.span? span = some x)
    (hlive : (s.ctx x.part x.ctx).state = .live) (frame : FrameNo) (cause : BitVec 16) (origin : BitVec 7)
    (tag : BitVec 10) :
    opKillNoticeReceive frame cause origin tag span s = (s.killStart
      { tag := BitVec.ofNat 10 (tagOf x.part x.ctx), cause := .spanPeerKilled } (some (origin, tag))).spanDie span := by
  unfold opKillNoticeReceive
  rw [hspan]
  exact if_pos hlive

/-- A notice without a LIVE member context is only logged (R126). -/
theorem opKillNoticeReceive_of_no_live {span : BitVec 16} {s : State}
    (h : ∀ x, s.span? span = some x → (s.ctx x.part x.ctx).state ≠ .live) (frame : FrameNo) (cause : BitVec 16)
    (origin : BitVec 7) (tag : BitVec 10) :
    opKillNoticeReceive frame cause origin tag span s =
      s.log 0x0303 [(0, span.toNat), (16, origin.toNat), (23, tag.toNat), (33, cause.toNat)] := by
  unfold opKillNoticeReceive
  cases hspan : s.span? span with
  | none => rfl
  | some x => exact if_neg (h x hspan)

/-! ### The end of a kill -/

theorem State.endKilled_ten_frm (j : Job) (cause : Reason) (s : State) :
    (s.endKilled j cause).ten = s.ten ∧ (s.endKilled j cause).frm = s.frm := by
  unfold State.endKilled
  split <;> exact ⟨State.endJob_ten .., State.endJob_frm ..⟩

theorem foldl_endKilled_ten_frm (js : List Job) (cause : Reason) (s : State) :
    (js.foldl (fun s j => s.endKilled j cause) s).ten = s.ten ∧
      (js.foldl (fun s j => s.endKilled j cause) s).frm = s.frm :=
  List.foldlRecOn (motive := fun t => t.ten = s.ten ∧ t.frm = s.frm) js _ ⟨rfl, rfl⟩ fun t ih j _ =>
    ⟨(State.endKilled_ten_frm j cause t).1.trans ih.1, (State.endKilled_ten_frm j cause t).2.trans ih.2⟩

/-- Step 5 of R124, in a slack with no operation of the context left: the context is DEAD and answers nobody any more; no
other context and nothing of the frame unit changes. -/
theorem opKillComplete_of_drained {p : Fin 16} {c : Fin 64} {s : State}
    (hkilling : (s.ctx p.val c.val).state = .killing) (hslack : s.frm.phase = .slack)
    (hdrained : ∀ o, o ∈ s.seq.ops → ¬ (o.part = p.val ∧ o.ctx = c.val)) :
    (opKillComplete p c s).ten = (s.updCtx p.val c.val (fun y => { y with state := .dead, killers := [] })).ten ∧
      (opKillComplete p c s).frm = s.frm := by
  have hops : s.seq.ops.any (fun o => o.part == p.val && o.ctx == c.val) = false := by
    simpa [List.any_eq_false] using hdrained
  unfold opKillComplete
  extract_lets x cause js s1 cs s2 s3 s4
  rw [if_neg (by simp [x, hkilling, hslack, hops])]
  obtain ⟨hten, hfrm⟩ : s1.ten = s.ten ∧ s1.frm = s.frm := foldl_endKilled_ten_frm js cause s
  have hten3 : s3.ten = s.ten := (State.finishAll_ten ..).trans hten
  have hfrm3 : s3.frm = s.frm := (State.finishAll_frm ..).trans hfrm
  constructor
  · rw [State.finishAll_ten, State.fireVec_ten, State.updCtx, State.updCtx, hten3]
  · rw [State.finishAll_frm, State.fireVec_frm, State.updCtx_frm, hfrm3]

theorem opKillComplete_of_early {p : Fin 16} {c : Fin 64} {s : State}
    (h : (s.ctx p.val c.val).state ≠ .killing ∨ s.frm.phase ≠ .slack) : opKillComplete p c s = s := by
  unfold opKillComplete
  exact if_pos (by obtain h | h := h <;> simp [h])

/-! ### Partition faults -/

/-- Entry to FAULTED (R365). -/
theorem State.faultPart_of_present {p : Nat} {s : State} (habsent : (s.part p).state ≠ .absent)
    (hfaulted : (s.part p).state ≠ .faulted) (htearing : (s.part p).state ≠ .tearingDown) (code : BitVec 8) :
    s.faultPart p code =
      (((((s.refuseWaiting p).updPart p (fun x => { x with fault := code })).setPart p .faulted).killAll p
        .watchdog).logEvent 0x0901 .none (some (p, 0)) [(0, code.toNat)]) :=
  if_neg (by simp [habsent, hfaulted, htearing])

theorem State.faultPart_of_gone {p : Nat} {s : State}
    (h : (s.part p).state = .absent ∨ (s.part p).state = .faulted ∨ (s.part p).state = .tearingDown) (code : BitVec 8) :
    s.faultPart p code = s :=
  if_pos (by simpa [or_assoc] using h)

/-! ### What a teardown gives up -/

/-- The shootdown of a teardown of partition p. -/
def ShootThen.tearsDown (p : Nat) : ShootThen → Bool
  | .teardown k _ => k == p
  | _ => false

theorem ShootThen.tearsDown_iff {p : Nat} {n : ShootThen} : n.tearsDown p = true ↔ ∃ ppns, n = .teardown p ppns := by
  cases n <;> simp [ShootThen.tearsDown]

/-- Step 4 of R367 is due: the partition tears down, nothing of it has been released, every context is FREE or DEAD, and
the shootdown has not begun. -/
def State.releaseDue (p : Nat) (s : State) : Prop :=
  (s.part p).state = .tearingDown ∧ (s.part p).released = false ∧
    (∀ c, c < 64 → (s.ctx p c).state = .free ∨ (s.ctx p c).state = .dead) ∧
    ∀ h, h ∈ s.xlt.shoots → ∀ ppns, h.next ≠ .teardown p ppns

/-- TEARDOWN_RELEASE does nothing unless step 4 is due: its condition as the model evaluates it. -/
theorem State.releaseDue_iff (p : Nat) (s : State) :
    ((s.part p).state != .tearingDown || (s.part p).released ||
      !(List.range 64).all (fun c => (s.ctx p c).state = .free || (s.ctx p c).state = .dead) ||
      s.xlt.shoots.any (fun h => h.next.tearsDown p)) = false ↔ s.releaseDue p := by
  simp only [State.releaseDue, Bool.or_eq_false_iff, bne_eq_false_iff_eq, Bool.not_eq_false', List.all_eq_true,
    List.mem_range, Bool.or_eq_true, decide_eq_true_eq, List.any_eq_false, ShootThen.tearsDown_iff, not_exists, ne_eq,
    and_assoc]

theorem opTeardownRelease_of_not_due {p : Fin 16} {s : State} (h : ¬ s.releaseDue p.val) : opTeardownRelease p s = s :=
  if_pos (eq_true_of_ne_false (mt (s.releaseDue_iff p.val).1 h))

theorem opTeardownRelease_of_due {p : Fin 16} {s u : State} (h : s.releaseDue p.val)
    (hu : u = State.updRed (fun r => { r with
      groups := r.groups.filter (fun g => g.part != p.val)
      queues := r.queues.filter (fun q => q.part != p.val) })
        { s.finishAll (s.waitingOf p.val) .killed .hostKill [] with kv := s.kv.put p.val none }) :
    opTeardownRelease p s =
      ((u.unmapVpns p.val (u.mappedVpns p.val)).unmapWins p.val (u.mappedWins p.val)).shootdown p.val
        (u.mappedVpns p.val) (u.mappedWins p.val)
        (.teardown p.val ((u.mappedVpns p.val).map (fun v => (u.dpte p.val v).ppn.toNat) ++
          ((s.kv.get none p.val).map (fun (k : KvPool) => k.priv)).getD [])) := by
  subst hu
  refine (if_neg (Bool.eq_false_iff.1 ((s.releaseDue_iff p.val).2 h))).trans ?_
  rw [State.finishAll_kv]

/-- Settles O35: each clause is the equation of its operation, and what a kill does to the contexts is `killStart_ctx`. The
count of stopped operations stands in the record at once, as all operations end in the starting command (log entry 34).
The model only logs a notice without a LIVE member (R126) at an acting lead too, where log entry 31 would have the span
DEAD. -/
theorem killsBeginAndEnd : Obligations.KillsBeginAndEnd := by
  refine ⟨?_, ?_, ?_, ?_, ?_, ?_, ?_, ?_, ?_, ?_, ?_, ?_⟩
  · intro r s hclk hlive
    obtain ⟨x, hx⟩ := opKillStart_eq_killStart r s
    have hctx := State.killStart_ctx r none { s with xlt := x } hlive
    refine ⟨_, congrArg Outcome.next ((State.whenClocked_of hclk _).trans hx), ?_, fun p c hne => ?_⟩
    · rw [hctx, if_pos rfl]
      rfl
    · rw [hctx, if_neg hne]
      rfl
  · intro r s hclk h09 h0A hdead
    refine congrArg Outcome.next ((State.whenClocked_of hclk _).trans ?_)
    rw [opKillStart_of_unmarked h09 h0A, State.killStart_of_not_live hdead]
  · intro r s hclk hkind hdead hplace
    refine congrArg Outcome.next ((State.whenClocked_of hclk _).trans ?_)
    rw [opKillStart_of_unplaced hkind hplace, State.killStart_of_not_live hdead]
  · intro r ppn off s hclk hkind hdead hplace
    refine congrArg Outcome.next ((State.whenClocked_of hclk _).trans ?_)
    rw [opKillStart_of_device hkind hplace]
    refine State.killStart_of_not_live ?_ none
    exact hdead
  · intro frame cause origin tag span x s hclk hact hspan hlive
    refine congrArg Outcome.next ?_
    rw [State.whenClocked_of hclk, State.toChoesk_of hact]
    exact opKillNoticeReceive_of_live hspan hlive ..
  · intro frame cause origin tag span s hclk hact hnone
    refine congrArg Outcome.next ?_
    rw [State.whenClocked_of hclk, State.toChoesk_of hact]
    exact opKillNoticeReceive_of_no_live hnone ..
  · intro p c s hclk hkilling hslack hdrained
    obtain ⟨hten, hfrm⟩ := opKillComplete_of_drained hkilling hslack hdrained
    have hctx (q d : Nat) : (opKillComplete p c s).ctx q d =
        (s.updCtx p.val c.val (fun y => { y with state := .dead, killers := [] })).ctx q d :=
      congrArg (fun ten => ten.ctxs.get {} (tagOf q d)) hten
    refine ⟨_, congrArg Outcome.next (State.whenClocked_of hclk _), ?_, ?_, hfrm, fun q d hne => ?_⟩
    · rw [hctx, State.ctx_updCtx_self]
    · rw [hctx, State.ctx_updCtx_self]
    · rw [hctx, State.ctx_updCtx_ne s hne]
  · intro p c s hclk hearly
    exact congrArg Outcome.next ((State.whenClocked_of hclk _).trans (opKillComplete_of_early hearly))
  · intro p code s hclk habsent hfaulted htearing
    exact ⟨_, congrArg Outcome.next (State.whenClocked_of hclk _),
      State.faultPart_of_present habsent hfaulted htearing code⟩
  · intro p code s hclk hgone
    exact congrArg Outcome.next ((State.whenClocked_of hclk _).trans (State.faultPart_of_gone hgone code))
  · intro p u s hclk htearing hheld hidle hcalm hu
    exact congrArg Outcome.next ((State.whenClocked_of hclk _).trans
      (opTeardownRelease_of_due ⟨htearing, hheld, hidle, hcalm⟩ hu))
  · intro p s hclk hnot
    refine congrArg Outcome.next ((State.whenClocked_of hclk _).trans (opTeardownRelease_of_not_due ?_))
    rintro ⟨htearing, hheld, hidle, hcalm⟩
    obtain hstate | hreleased | ⟨c, hc, hfree, hdead⟩ | ⟨x, hx, ppns, hnext⟩ := hnot
    · exact hstate htearing
    · rw [hheld] at hreleased
      exact Bool.false_ne_true hreleased
    · exact (hidle c hc).elim hfree hdead
    · exact hcalm x hx ppns hnext

end Sys2Proof.Machine
end

section
/-! PROOFS. Host translations and their invalidation (R114, R121), what follows a shootdown (R120), and scrubbing (R129). -/

namespace Sys2Proof.Machine

open Sys2Proof
open Host (Outcome)

/-! ### Translation completions -/

/-- What a failed translation does: an access is killed, a descriptor that cannot be read is entered as 0, which is
malformed (R114, R134). -/
def State.failTranslation (r : XlReq) (cause : Reason) (kind : Nat) (s : State) : State :=
  match r.fetch with
  | some f => s.noteFetched f.1 f.2 0
  | none => s.killStart ({ die := r.die, tag := r.tag, ticket := r.ticket, slot := r.slot : Who }.fault cause kind r.write
      r.dva.toNat r.win) none

theorem State.failTranslation_of_access {r : XlReq} (h : r.fetch = none) (cause : Reason) (kind : Nat) (s : State) :
    s.failTranslation r cause kind = s.killStart
      ({ die := r.die, tag := r.tag, ticket := r.ticket, slot := r.slot : Who }.fault cause kind r.write r.dva.toNat r.win)
        none := by
  rw [State.failTranslation, h]

theorem State.failTranslation_of_fetch {r : XlReq} {f : Nat × Nat} (h : r.fetch = some f) (cause : Reason) (kind : Nat)
    (s : State) : s.failTranslation r cause kind = s.noteFetched f.1 f.2 0 := by
  rw [State.failTranslation, h]

/-- The entry that a completion of request `r` fills: 1 GiB of the window's page, with the window's own rights (R114). -/
def State.completedEntry (r : XlReq) (base : W64) (read write : Bool) (s : State) : XlEntry :=
  { part := r.part, host := true, num := r.win, base := base.toNat / 2 ^ 30 * 2 ^ 30, read := read
    write := write && (s.hwin r.part r.win).write, any := (s.hwin r.part r.win).any, ctx := (s.hwin r.part r.win).ctx
    ats := true }

section Completion

variable {p : Fin 16} {req : Nat} {r : XlReq} {s : State}
  (hreq : s.xlt.reqs.find? (fun r => r.id == req && r.part == p.val) = some r)
include hreq

/-- A completion of a request that no invalidation overtook: failure, a translation of less than 1 GiB, or a fill. -/
theorem opTranslationCompletionReceive_of_current (hinval : s.invalCovers r.part r.win = false) (ok whole : Bool)
    (base : W64) (read write : Bool) :
    opTranslationCompletionReceive p req ok whole base read write s =
      if !ok || (!read && !write) then
        (s.updXlt (fun x => { x with reqs := x.reqs.erase r })).failTranslation r .translationFault 0x06
      else if !whole then (s.updXlt (fun x => { x with reqs := x.reqs.erase r })).failTranslation r .atsSize 0x07
      else (s.updXlt (fun x => { x with reqs := x.reqs.erase r })).fill r.die (s.completedEntry r base read write) := by
  unfold opTranslationCompletionReceive
  rw [hreq]
  exact if_neg (by simp [hinval])

/-- One that an invalidation overtook is discarded, and its request is sent again (R121). -/
theorem opTranslationCompletionReceive_of_overtaken (hinval : s.invalCovers r.part r.win = true) (ok whole : Bool)
    (base : W64) (read write : Bool) :
    opTranslationCompletionReceive p req ok whole base read write s = s.emitPcie (.atsRequest (r.part + 1) r.win r.id) := by
  unfold opTranslationCompletionReceive
  rw [hreq]
  exact if_pos hinval

end Completion

/-- One for a request that was dropped is of no use (R120). -/
theorem opTranslationCompletionReceive_of_dropped {p : Fin 16} {req : Nat} {s : State}
    (h : ∀ r, r ∈ s.xlt.reqs → r.id ≠ req ∨ r.part ≠ p.val) (ok whole : Bool) (base : W64) (read write : Bool) :
    opTranslationCompletionReceive p req ok whole base read write s = s := by
  have hnone : s.xlt.reqs.find? (fun r => r.id == req && r.part == p.val) = none := by
    refine List.find?_eq_none.2 fun r hr hmatch => ?_
    obtain ⟨hid, hpart⟩ : r.id = req ∧ r.part = p.val := by
      simpa only [Bool.and_eq_true, beq_iff_eq] using hmatch
    exact (h r hr).elim (· hid) (· hpart)
  unfold opTranslationCompletionReceive
  rw [hnone]

/-! ### Transfers of the PCIE domain -/

theorem State.refclk_of_pcieAlive {s : State} (h : s.pcieAlive = true) : s.pcie.refclk = true :=
  (Bool.and_eq_true_iff.1 h).2

theorem State.clocked_of_pcieAlive {s : State} (h : s.pcieAlive = true) : s.clocked = true :=
  (Bool.and_eq_true_iff.1 h).1

theorem State.emitPcie_of_refclk {s : State} (h : s.pcie.refclk = true) (t : HostTlp) : s.emitPcie t = s.emit t.output :=
  if_pos h

/-- Without its reference the domain's crossing holds a transfer (R34). -/
theorem State.emitPcie_of_stopped {s : State} (h : s.pcie.refclk = false) (t : HostTlp) :
    s.emitPcie t = { s with pcie := { s.pcie with held := s.pcie.held ++ [t] } } :=
  if_neg (by simp [h])

/-! ### Invalidations -/

/-- An Invalidate Request that can be taken: its ITag is new and fewer than 32 are in progress. -/
theorem opInvalidateRequestReceive_of_new {fn : Fin 17} {tag : Fin 32} {s : State}
    (hnew : s.xlt.invals.any (fun i => i.1 == tag.val && i.2.1 == fn.val) = false) (hroom : s.xlt.invals.length < 32)
    (base len : W64) {u : State}
    (hu : u = s.updXlt (fun x => { x with invals := x.invals ++ [(tag.val, fn.val, base.toNat, len.toNat)] })) :
    opInvalidateRequestReceive fn tag base len s =
      if fn.val = 0 then u
      else u.updXlt (fun x => { x with
        caches := x.caches.map (fun dc => (dc.1, dc.2.filter (fun e => !(e.part == fn.val - 1 && e.host &&
          ((u.mappedWins (fn.val - 1)).filter (fun w => u.invalCovers (fn.val - 1) w)).contains e.num)))) }) := by
  subst hu
  exact if_neg (by simp [hnew, hroom])

/-- The state once a request in progress is complete: it is gone and counted in both dies' XLT.INVAL, whose counts wrap
(log entry 111). -/
def State.invalidated (fn : Fin 17) (tag : Fin 32) (s : State) : State :=
  s.updXlt (fun x => { x with
    invals := x.invals.filter (fun i => !(i.1 == tag.val && i.2.1 == fn.val))
    regs := x.regs.mapRow {} 2 (fun _ r => { r with invalHost := r.invalHost + 1 }) })

theorem opInvalidationComplete_of_open {fn : Fin 17} {tag : Fin 32} {s : State}
    (h : s.xlt.invals.any (fun i => i.1 == tag.val && i.2.1 == fn.val) = true) :
    opInvalidationComplete fn tag s = (s.invalidated fn tag).emitPcie (.invalDone fn.val tag.val) :=
  if_pos h

theorem opInvalidationComplete_of_none {fn : Fin 17} {tag : Fin 32} {s : State}
    (h : s.xlt.invals.any (fun i => i.1 == tag.val && i.2.1 == fn.val) = false) :
    opInvalidationComplete fn tag s = s :=
  if_neg (by simp [h])

/-! ### What follows a shootdown -/

/-- The state once both caches have acknowledged a shootdown: it is over and counted, in counts that wrap (log entry 111). -/
def State.acknowledged (id : Nat) (s : State) : State :=
  s.updXlt (fun x => { x with
    shoots := x.shoots.filter (fun y => y.id != id)
    regs := x.regs.mapRow {} 2 (fun _ r => { r with invalChoesk := r.invalChoesk + 1 }) })

/-- What waited for a shootdown (R120). -/
def ShootThen.follow : ShootThen → State → State
  | .memFree cmd ppns, s => (s.releasePages ppns).finish cmd .done .none []
  | .unmap cmd, s => s.finish cmd .done .none []
  | .destroy cmd p c ppns, s => (s.freeCtx p c ppns).finish cmd .done .none []
  | .adopt cmd ws, s => s.finish cmd .done .none ws
  | .teardown p ppns, s => s.releasePartition p ppns
  | .nothing, s => s

theorem opShootdownAcknowledge_of_open {id : Nat} {x : Shoot} {s : State}
    (h : s.xlt.shoots.find? (fun x => x.id == id) = some x) :
    opShootdownAcknowledge id s = x.next.follow (s.acknowledged id) := by
  unfold opShootdownAcknowledge
  rw [h]
  dsimp only
  cases x.next <;> rfl

theorem opShootdownAcknowledge_of_none {id : Nat} {s : State} (h : ∀ x, x ∈ s.xlt.shoots → x.id ≠ id) :
    opShootdownAcknowledge id s = s := by
  have hnone : s.xlt.shoots.find? (fun x => x.id == id) = none := by simpa [List.find?_eq_none] using h
  unfold opShootdownAcknowledge
  rw [hnone]

/-- An acknowledgement of a shootdown under way, as an event: what waited for it follows. -/
theorem exec_shootdownAcknowledge {id : Nat} {x : Shoot} {u s : State} (hclk : s.clocked = true)
    (h : s.xlt.shoots.find? (fun x => x.id == id) = some x) (hu : u = s.acknowledged id) {n : ShootThen}
    (hnext : x.next = n) : exec (.shootdownAcknowledge id) s = .next (n.follow u) := by
  subst hu hnext
  exact congrArg Outcome.next ((State.whenClocked_of hclk _).trans (opShootdownAcknowledge_of_open h))

/-! ### Scrubbing -/

/-- A table with only the entries at some of its keys: the others hold the resting record. -/
theorem Tab.get_filter_key {α : Type} (d : α) (f : Nat → Bool) (t : Tab α) (k : Nat) :
    Tab.get d k (t.filter (fun c => f c.1)) = if f k then t.get d k else d := by
  induction t with
  | nil => simp [Tab.get]
  | cons c t ih => grind [Tab.get]

/-- A scrubbed page: FREE with a fresh entry, no longer waiting, and its bytes read 0; nothing else in memory and no
partition changes. -/
theorem opPageScrubComplete_of_scrubbed {ppn : Fin 384} {s : State}
    (h : s.xlt.scrubs.find? (fun k => k % 8 == ppn.val % 8) = some ppn.val) :
    (opPageScrubComplete ppn s).xlt.own = s.xlt.own.put ppn.val {} ∧
      (opPageScrubComplete ppn s).xlt.scrubs = s.xlt.scrubs.erase ppn.val ∧
      (opPageScrubComplete ppn s).dram = s.dram.filter (fun c => c.1 / 2 ^ 29 != ppn.val) ∧
      (opPageScrubComplete ppn s).ten = s.ten ∧ (opPageScrubComplete ppn s).spad = s.spad := by
  unfold opPageScrubComplete
  dsimp only
  rw [if_pos h]
  exact ⟨rfl, rfl, rfl, rfl, rfl⟩

theorem opPageScrubComplete_of_waiting {ppn : Fin 384} {s : State}
    (h : s.xlt.scrubs.find? (fun k => k % 8 == ppn.val % 8) ≠ some ppn.val) : opPageScrubComplete ppn s = s :=
  if_neg h

/-- Settles O36: each clause is the equation of its operation. A failed translation for a fetch makes the descriptor
malformed by log entry 100, and the counts of invalidations wrap by log entry 111. -/
theorem translationsAndPages : Obligations.TranslationsAndPages := by
  refine ⟨?_, ?_, ?_, ?_, ?_, ?_, ?_, ?_, ?_, ?_, ?_, ?_, ?_, ?_, ?_, ?_, ?_, ?_, ?_, ?_⟩
  · intro p req ok whole base read write r s halive hreq hinval hok hgranted hwhole
    refine congrArg Outcome.next ((State.whenPcie_of halive _).trans ?_)
    rw [opTranslationCompletionReceive_of_current hreq hinval, if_neg (by obtain h | h := hgranted <;> simp [hok, h]),
      if_neg (by simp [hwhole])]
    rfl
  · intro p req ok whole base read write r s halive hreq hinval haccess hfailed
    refine congrArg Outcome.next ((State.whenPcie_of halive _).trans ?_)
    rw [opTranslationCompletionReceive_of_current hreq hinval, if_pos (by simpa using hfailed),
      State.failTranslation_of_access haccess]
  · intro p req base read write r s halive hreq hinval haccess hgranted
    refine congrArg Outcome.next ((State.whenPcie_of halive _).trans ?_)
    rw [opTranslationCompletionReceive_of_current hreq hinval, if_neg (by obtain h | h := hgranted <;> simp [h]),
      if_pos Bool.not_false, State.failTranslation_of_access haccess]
  · intro p req ok whole base read write r f s halive hreq hinval hfetch hbad
    refine congrArg Outcome.next ((State.whenPcie_of halive _).trans ?_)
    rw [opTranslationCompletionReceive_of_current hreq hinval, State.failTranslation_of_fetch hfetch,
      State.failTranslation_of_fetch hfetch]
    by_cases hfailed : (!ok || (!read && !write)) = true
    · exact if_pos hfailed
    · have hpart : whole = false := by
        rw [← or_assoc] at hbad
        exact hbad.resolve_left (fun h => hfailed (by simpa using h))
      rw [if_neg hfailed, hpart]
      rfl
  · intro p req ok whole base read write r s halive hreq hinval
    refine congrArg Outcome.next ((State.whenPcie_of halive _).trans ?_)
    rw [opTranslationCompletionReceive_of_overtaken hreq hinval,
      State.emitPcie_of_refclk (State.refclk_of_pcieAlive halive)]
    rfl
  · intro p req ok whole base read write s halive hnone
    exact congrArg Outcome.next ((State.whenPcie_of halive _).trans (opTranslationCompletionReceive_of_dropped hnone ..))
  · intro fn tag base len u s halive hnew hroom hfn hu
    refine congrArg Outcome.next ((State.whenPcie_of halive _).trans ?_)
    rw [opInvalidateRequestReceive_of_new hnew hroom base len hu, if_neg hfn]
  · intro tag base len s halive hnew hroom
    refine congrArg Outcome.next ((State.whenPcie_of halive _).trans ?_)
    exact opInvalidateRequestReceive_of_new (fn := 0) hnew hroom base len rfl
  · intro fn tag s halive hopen
    refine congrArg Outcome.next ((State.whenClocked_of (State.clocked_of_pcieAlive halive) _).trans
      ((opInvalidationComplete_of_open hopen).trans ?_))
    exact State.emitPcie_of_refclk (s := s.invalidated fn tag) (State.refclk_of_pcieAlive halive) _
  · intro fn tag u s hclk hstopped hopen hu
    subst hu
    refine congrArg Outcome.next ((State.whenClocked_of hclk _).trans ((opInvalidationComplete_of_open hopen).trans ?_))
    exact State.emitPcie_of_stopped (s := s.invalidated fn tag) hstopped _
  · intro fn tag s hclk hnone
    exact congrArg Outcome.next ((State.whenClocked_of hclk _).trans (opInvalidationComplete_of_none hnone))
  · exact fun id x cmd u s hclk hopen hu hnext => exec_shootdownAcknowledge hclk hopen hu hnext
  · exact fun id x cmd ppns u s hclk hopen hu hnext => exec_shootdownAcknowledge hclk hopen hu hnext
  · exact fun id x p ppns u s hclk hopen hu hnext => exec_shootdownAcknowledge hclk hopen hu hnext
  · exact fun id x cmd p c ppns u s hclk hopen hu hnext => exec_shootdownAcknowledge hclk hopen hu hnext
  · exact fun id x cmd ws u s hclk hopen hu hnext => exec_shootdownAcknowledge hclk hopen hu hnext
  · exact fun id x u s hclk hopen hu hnext => exec_shootdownAcknowledge hclk hopen hu hnext
  · intro id s hclk hnone
    exact congrArg Outcome.next ((State.whenClocked_of hclk _).trans (opShootdownAcknowledge_of_none hnone))
  · intro ppn s hclk hscrub
    obtain ⟨hown, hscrubs, hdram, hten, hspad⟩ := opPageScrubComplete_of_scrubbed hscrub
    have hread (a : Nat) : (opPageScrubComplete ppn s).dram.read a =
        if a / 2 ^ 29 != ppn.val then s.dram.read a else 0 := by
      rw [hdram]
      exact Tab.get_filter_key 0 (fun a => a / 2 ^ 29 != ppn.val) s.dram a
    refine ⟨_, congrArg Outcome.next (State.whenClocked_of hclk _), ?_, hscrubs, fun a ha => ?_, fun a ha => ?_, hten,
      hspad⟩
    · rw [hown, Tab.get_put_self]
    · rw [hread, if_neg (by simpa using ha)]
    · rw [hread, if_pos (by simpa using ha)]
  · intro ppn s hclk hwait
    exact congrArg Outcome.next ((State.whenClocked_of hclk _).trans (opPageScrubComplete_of_waiting hwait))

end Sys2Proof.Machine
end

section
/-! PROOFS. The MEM commands and BOUND.SET (R131, R141). -/

namespace Sys2Proof.Machine

open Sys2Proof
open Host (Outcome)

/-! ### MEM.ALLOC -/

/-- The ownership entry of a page allocated for a context of partition p, with ANY from the command word (Table 4-3). -/
def allocatedOwn (p : Nat) (w : W64) (ctx : BitVec 6) : Own :=
  { state := .owned, part := BitVec.ofNat 4 p, ctx := ctx, any := bit w 25 }

/-- The page table entry of an allocated page, with WRITE and ANY from the command word (Table 4-2). -/
def allocatedDpte (w : W64) (ctx : BitVec 6) (ppn : Nat) : Dpte :=
  { valid := true, write := bit w 24, any := bit w 25, ctx := ctx, ppn := BitVec.ofNat 9 ppn }

/-- The pages `ppns` allocated and mapped in order at the `n` VPNs from `v` on. -/
def State.mapPages (p v n : Nat) (w : W64) (ctx : BitVec 6) (ppns : List Nat) (s : State) : State :=
  s.updXlt (fun x => { x with
    own := ppns.foldl (fun a k => a.put k (allocatedOwn p w ctx)) x.own
    dev := (ppns.zip (List.range n)).foldl
      (fun a pi => a.put (512 * p + v + pi.2) (allocatedDpte w ctx pi.1)) x.dev })

theorem State.ownEntry_mapPages {ppns : List Nat} {k : Nat} (hk : k ∈ ppns) (p v n : Nat) (w : W64) (ctx : BitVec 6)
    (s : State) : (s.mapPages p v n w ctx ppns).ownEntry k = allocatedOwn p w ctx :=
  (Tab.get_foldl_put ({} : Own) id (allocatedOwn p w ctx) ppns s.xlt.own k).trans (if_pos (by simpa using hk))

theorem State.dpte_mapPages {ppns : List Nat} {n i : Nat} (hlen : ppns.length = n) (hi : i < n) (p v : Nat) (w : W64)
    (ctx : BitVec 6) (s : State) :
    (s.mapPages p v n w ctx ppns).dpte p (v + i) = allocatedDpte w ctx (ppns.getD i 0) := by
  have hget := Tab.get_foldl_zip {} (512 * p + v) (allocatedDpte w ctx) n ppns hlen s.xlt.dev (512 * p + (v + i))
  rw [if_pos (by omega), show 512 * p + (v + i) - (512 * p + v) = i by omega] at hget
  exact hget

/-- MEM.ALLOC with a range of VPNs, enough FREE pages of the stacks and enough quota. -/
theorem memAllocBody_of_room {p v : Nat} {e : Entry} {s : State}
    (hfirst : (if bit (e.arg 0) 41 then s.freeRun p (fld (e.arg 0) 0 10)
      else if (List.range (fld (e.arg 0) 0 10)).all (fun i => !(s.dpte p (fld (e.arg 0) 32 9 + i)).valid)
        then some (fld (e.arg 0) 32 9) else none) = some v)
    (hfree : ((s.pagesIn .free).filter (stackOk (fld (e.arg 0) 16 8))).length ≥ fld (e.arg 0) 0 10)
    (hquota : s.pagesHeld p + fld (e.arg 0) 0 10 ≤ (s.part p).quota.toNat) (c : CmdId) :
    memAllocBody c p e s =
      (s.mapPages p v (fld (e.arg 0) 0 10) (e.arg 0) c.ctx
        (((s.pagesIn .free).filter (stackOk (fld (e.arg 0) 16 8))).take (fld (e.arg 0) 0 10)),
      .done [word [(0, v)], word [(0, fld (e.arg 0) 0 10)]]) := by
  unfold memAllocBody
  dsimp only
  rw [hfirst]
  exact if_neg (by simp only [List.length_take, Bool.or_eq_true, decide_eq_true_eq]; omega)

/-! ### MEM.FREE and the windows -/

/-- MEM.FREE of pages the caller owns, none of them a pool's. -/
theorem memFreeBody_of_owned {p : Nat} {c : CmdId} {e : Entry} {s : State}
    (hrange : fld (e.arg 0) 0 9 + fld (e.arg 0) 9 10 ≤ 512)
    (howns : ((List.range (fld (e.arg 0) 9 10)).map (fld (e.arg 0) 0 9 + ·)).all
      (fun v => (s.dpte p v).owns c.ctx.toNat) = true)
    (hpool : (s.kv.get none p).any (fun k => decide (k.vpn < fld (e.arg 0) 0 9 + fld (e.arg 0) 9 10) &&
      decide (fld (e.arg 0) 0 9 < k.vpn + k.pages)) = false) :
    memFreeBody c p e s =
      ((s.unmapVpns p ((List.range (fld (e.arg 0) 9 10)).map (fld (e.arg 0) 0 9 + ·))).shootdown p
        ((List.range (fld (e.arg 0) 9 10)).map (fld (e.arg 0) 0 9 + ·)) []
        (.memFree c (((List.range (fld (e.arg 0) 9 10)).map (fld (e.arg 0) 0 9 + ·)).map
          (fun v => (s.dpte p v).ppn.toNat))), .later) := by
  unfold memFreeBody
  dsimp only
  rw [if_neg (by rw [howns]; simpa using hrange), if_neg (by rw [hpool]; exact Bool.false_ne_true)]

/-- MEM.MAP_HOST of a window not mapped. -/
theorem memMapHostBody_of_unmapped {p : Nat} {e : Entry} {s : State} (h : (s.hwin p (fld (e.arg 0) 0 8)).valid = false)
    (c : CmdId) :
    memMapHostBody c p e s = (s.updXlt (fun x => { x with
      win := x.win.put (256 * p + fld (e.arg 0) 0 8) {
        valid := true, write := bit (e.arg 0) 8, any := bit (e.arg 0) 9, ctx := c.ctx
        iova := BitVec.ofNat 34 (fld (e.arg 1) 30 34) } }), .done []) := by
  unfold memMapHostBody
  dsimp only
  rw [if_neg (by simp [h]), if_neg (by simp [h])]

/-- MEM.UNMAP_HOST of a window the caller owns. -/
theorem memUnmapHostBody_of_owned {p : Nat} {c : CmdId} {e : Entry} {s : State}
    (h : (s.hwin p (fld (e.arg 0) 0 8)).owns c.ctx.toNat = true) :
    memUnmapHostBody c p e s =
      ((s.unmapWins p [fld (e.arg 0) 0 8]).shootdown p [] [fld (e.arg 0) 0 8] (.unmap c), .later) :=
  if_neg (by simp [h])

/-- Settles O8: what the body of each command leaves on the state with the ticket entered. -/
theorem memoryCommandsComplete : Obligations.MemoryCommandsComplete := by
  refine ⟨?_, ?_, ?_, ?_, ?_⟩
  · intro m e s v hacc hfirst hfree hquota
    obtain ⟨hserve, hanswer⟩ := serve_done hacc
      (memAllocBody_of_room (s := s.entered m.val specMemAlloc.opcode e) hfirst hfree hquota _) rfl rfl
    refine ⟨_, rfl, hanswer, fun j hj => ?_, fun i hi => ?_⟩
    · rw [hserve, State.ownEntry, State.finish_xlt]
      exact State.ownEntry_mapPages hj ..
    · rw [hserve, State.dpte, State.finish_xlt]
      exact State.dpte_mapPages (List.length_take_of_le hfree) hi ..
  · intro m e s hacc hrange howns hpool
    have hserve := serve_later hacc
      (memFreeBody_of_owned (s := s.entered m.val specMemFree.opcode e) hrange howns hpool)
    refine ⟨_, congrArg Outcome.next hserve, fun i hi => ?_, rfl⟩
    rw [State.dpte_shootdown, State.dpte_unmapVpns, if_pos (List.mem_map_of_mem (List.mem_range.2 hi))]
  · intro m e s hacc hunmapped
    obtain ⟨hserve, hanswer⟩ := serve_done hacc
      (memMapHostBody_of_unmapped (s := s.entered m.val specMemMapHost.opcode e) hunmapped _) rfl rfl
    refine ⟨_, rfl, hanswer, ?_, fun j hj => ?_⟩
    · rw [hserve, State.hwin, State.finish_xlt]
      exact Tab.get_put_self ..
    · rw [hserve, State.finish_xlt]
      exact Tab.get_put_ne _ hj ..
  · intro m e s hacc howns
    have hserve := serve_later hacc (memUnmapHostBody_of_owned (s := s.entered m.val specMemUnmapHost.opcode e) howns)
    refine ⟨_, congrArg Outcome.next hserve, ?_, rfl⟩
    rw [State.hwin_shootdown, State.hwin_unmapWins, if_pos (List.mem_singleton_self _)]
  · intro m e s hacc
    obtain ⟨q, hbody, hset, hother, -⟩ := State.foldl_setBound (specBoundSet.on m.val e) (fld (e.arg 0) 0 6)
      (fld (e.arg 0) 8 4) (fun i => e.arg (i + 1)) (s.entered m.val specBoundSet.opcode e)
    obtain ⟨hserve, hanswer⟩ := serve_done hacc (congrArg (·, Reply.done []) hbody) rfl rfl
    refine ⟨_, rfl, hanswer, fun i hi => ?_, fun j hj => ?_⟩
    · rw [hserve, State.boundReg, State.finish_seq]
      exact hset i hi
    · rw [hserve, State.finish_seq]
      exact hother j hj

end Sys2Proof.Machine
end

section
/-! PROOFS. The queries of the units: the key/value cache, the special-function stores, spans, and fault records. -/

namespace Sys2Proof.Machine

open Sys2Proof

/-! ### Answers that do not depend on the command's identity -/

section Answer

variable {sp : Spec} {m : Nat} {e : Entry} {s : State} (hacc : Accepted sp m e s)
include hacc

theorem serve_query_of_body {ws : List W64}
    (hbody : ∀ c, sp.body c (sp.on m e) e (s.entered m sp.opcode e) = (s.entered m sp.opcode e, .done ws)) :
    OnlyRecorded s (serve sp m e s) ∧ Answered sp m e .done .none ws s (serve sp m e s) :=
  serve_query hacc (hbody _)

theorem serve_refused_of_body {oc : Oc} {rs : Reason} {ws : List W64}
    (hbody : ∀ c, sp.body c (sp.on m e) e (s.entered m sp.opcode e) = (s.entered m sp.opcode e, .fail oc rs ws)) :
    OnlyRecorded s (serve sp m e s) ∧ Answered sp m e oc rs ws s (serve sp m e s) :=
  serve_refused hacc (hbody _)

end Answer

/-! ### KV.QUERY -/

theorem kvQueryBody_of_no_pool {p : Nat} {s : State} (hpool : s.kv.get none p = none) (e : Entry) (c : CmdId) :
    kvQueryBody c p e s = (s, .done [0, 0, 0, 0, 0]) := by
  unfold kvQueryBody
  rw [hpool]

theorem kvQueryBody_of_pool {p : Nat} {k : KvPool} {e : Entry} {s : State} (hpool : s.kv.get none p = some k)
    (hblock : bit (e.arg 0) 0 = false) (c : CmdId) : kvQueryBody c p e s = (s, .done k.queryWords) := by
  unfold kvQueryBody
  rw [hpool]
  exact if_neg (by simp [hblock])

theorem kvQueryBody_of_block {p b : Nat} {k : KvPool} {e : Entry} {s : State} (hpool : s.kv.get none p = some k)
    (hblock : bit (e.arg 0) 0 = true) (hnamed : k.named (e.arg 1) = some b) (c : CmdId) :
    kvQueryBody c p e s = (s, .done (k.blockWords b)) := by
  unfold kvQueryBody
  rw [hpool]
  dsimp only
  rw [if_pos hblock, hnamed]

theorem kvQueryBody_of_unnamed {p : Nat} {k : KvPool} {e : Entry} {s : State} (hpool : s.kv.get none p = some k)
    (hblock : bit (e.arg 0) 0 = true) (hnamed : k.named (e.arg 1) = none) (c : CmdId) :
    kvQueryBody c p e s = (s, .bad .badHandle) := by
  unfold kvQueryBody
  rw [hpool]
  dsimp only
  rw [if_pos hblock, hnamed]

/-! ### SFU.QUERY -/

theorem sfuQueryBody_of_slots {e : Entry} (hmode : fld (e.arg 0) 0 2 ≠ 2) (c : CmdId) (p : Nat) (s : State) :
    sfuQueryBody c p e s = (s, .done (sfuQueryWords p (fld (e.arg 0) 0 2) s)) :=
  if_neg hmode

section Image

variable {p : Nat} {c : CmdId} {e : Entry} {s : State} {img : List Byte} (hmode : fld (e.arg 0) 0 2 = 2)
  (himg : img = builtinImage (s.builtinSet p) (fld (e.arg 0) 8 3))
include hmode himg

theorem sfuQueryBody_of_writable (hbuf : s.argWritable p c.ctx.toNat (fld (e.arg 1) 0 52) img.length = true) :
    sfuQueryBody c p e s =
      (s.writeArg p c.ctx.toNat (fld (e.arg 1) 0 52) img, .done [word [(0, img.length)]]) := by
  subst himg
  exact (if_pos hmode).trans (if_pos hbuf)

theorem sfuQueryBody_of_unwritable (hbuf : s.argWritable p c.ctx.toNat (fld (e.arg 1) 0 52) img.length = false) :
    sfuQueryBody c p e s = (s, .bad .argFault) := by
  subst himg
  exact (if_pos hmode).trans (if_neg (Bool.eq_false_iff.1 hbuf))

end Image

/-! ### SPAN.QUERY -/

section OwnSpan

variable {p : Nat} {c : CmdId} {e : Entry} {s : State} {x : Span}
  (hspan : s.span? (BitVec.ofNat 16 (fld (e.arg 0) 0 16)) = some x) (hpart : x.part = p)
include hspan hpart

theorem spanQueryBody_of_no_buffer (hbuf : (e.arg 1).toNat = 0) :
    spanQueryBody c p e s = (s, .done (spanQueryWords x s)) := by
  unfold spanQueryBody
  dsimp only
  rw [hspan]
  exact (if_neg (by simp [hpart])).trans (if_pos hbuf)

theorem spanQueryBody_of_writable (hbuf : (e.arg 1).toNat ≠ 0)
    (hwritable : s.argWritable p c.ctx.toNat (e.arg 1).toNat x.ring.length = true) :
    spanQueryBody c p e s =
      (s.writeArg p c.ctx.toNat (e.arg 1).toNat (x.ring.map (fun k => BitVec.ofNat 8 k)), .done (spanQueryWords x s)) := by
  unfold spanQueryBody
  dsimp only
  rw [hspan]
  exact (if_neg (by simp [hpart])).trans ((if_neg hbuf).trans (if_neg (by simp [hwritable])))

theorem spanQueryBody_of_unwritable (hbuf : (e.arg 1).toNat ≠ 0)
    (hwritable : s.argWritable p c.ctx.toNat (e.arg 1).toNat x.ring.length = false) :
    spanQueryBody c p e s = (s, .bad .argFault) := by
  unfold spanQueryBody
  dsimp only
  rw [hspan]
  exact (if_neg (by simp [hpart])).trans ((if_neg hbuf).trans (if_pos (by simp [hwritable])))

end OwnSpan

/-! ### CTX.POSTMORTEM -/

/-- CTX.POSTMORTEM without ADOPT of a context that has a fault record (R127). -/
theorem ctxPostmortemBody_of_record {p : Nat} {e : Entry} {s : State} (hadopt : bit (e.arg 0) 8 = false)
    (hheld : (s.ctx p (fld (e.arg 0) 0 6)).state = .killing ∨ (s.ctx p (fld (e.arg 0) 0 6)).state = .dead) (c : CmdId) :
    ctxPostmortemBody c p e s = (s, .done (s.ctx p (fld (e.arg 0) 0 6)).faultWords) := by
  unfold ctxPostmortemBody
  dsimp only
  rw [if_neg (by obtain h | h := hheld <;> simp [h, hadopt]), if_pos (by simp [hadopt])]

/-! ### Queries that store -/

/-- An accepted command that is done at once: what its body leaves, with its record. -/
theorem serve_finished {sp : Spec} {m : Nat} {e : Entry} {s s' : State} {ws : List W64} (h : Accepted sp m e s)
    (hb : sp.body (cmdIdOf s.nextUid m sp.opcode e) (sp.on m e) e (s.entered m sp.opcode e) = (s', .done ws)) :
    serve sp m e s = s'.finish (cmdIdOf s.nextUid m sp.opcode e) .done .none ws := by
  have hserve := serve_accepted h
  rw [hb] at hserve
  exact hserve

/-- Settles O2: the body of each query answers its words on the state with the ticket entered, which reads as the state
before. -/
theorem unitQueriesAnswer : Obligations.UnitQueriesAnswer := by
  refine ⟨?_, ?_, ?_, ?_, ?_, ?_, ?_, ?_, ?_, ?_, ?_, ?_, ?_⟩
  · intro m e s k hacc hpool hblock
    exact ⟨_, rfl, serve_query_of_body hacc (kvQueryBody_of_pool hpool hblock)⟩
  · intro m e s hacc hpool
    exact ⟨_, rfl, serve_query_of_body hacc
      (kvQueryBody_of_no_pool (s := s.entered m.val specKvQuery.opcode e) hpool e)⟩
  · intro m e s k hacc hpool hblock
    refine ⟨_, rfl, ?_⟩
    cases hnamed : k.named (e.arg 1) with
    | some b =>
      obtain ⟨honly, hanswer⟩ := serve_query_of_body hacc (kvQueryBody_of_block hpool hblock hnamed)
      exact ⟨honly, fun b' hb' => by cases hb'; exact hanswer, fun hnone => nomatch hnone⟩
    | none =>
      obtain ⟨honly, hanswer⟩ := serve_refused_of_body hacc (kvQueryBody_of_unnamed hpool hblock hnamed)
      exact ⟨honly, fun _ hb' => (nomatch hb'), fun _ => hanswer⟩
  · intro m e s hacc hmode
    exact ⟨_, rfl, serve_query hacc (sfuQueryBody_of_slots hmode ..)⟩
  · intro m e s img hacc hmode himg
    refine ⟨_, rfl, fun hbuf => ?_, fun hbuf => ?_⟩
    · exact serve_finished hacc
        (sfuQueryBody_of_writable (s := s.entered m.val specSfuQuery.opcode e) hmode himg hbuf)
    · exact serve_refused hacc
        (sfuQueryBody_of_unwritable (s := s.entered m.val specSfuQuery.opcode e) hmode himg hbuf)
  · intro m e s x hacc hspan hpart hbuf
    exact ⟨_, rfl, serve_query hacc
      (spanQueryBody_of_no_buffer (c := cmdIdOf s.nextUid m.val specSpanQuery.opcode e)
        (s := s.entered m.val specSpanQuery.opcode e) hspan hpart hbuf)⟩
  · intro m e s x hacc hspan hpart hbuf
    refine ⟨_, rfl, fun hwritable => ?_, fun hwritable => ?_⟩
    · exact serve_finished hacc
        (spanQueryBody_of_writable (s := s.entered m.val specSpanQuery.opcode e) hspan hpart hbuf hwritable)
    · exact serve_refused hacc
        (spanQueryBody_of_unwritable (s := s.entered m.val specSpanQuery.opcode e) hspan hpart hbuf hwritable)
  · exact fun m e s hacc => ⟨_, rfl, serve_query hacc rfl⟩
  · exact fun m e s hacc => ⟨_, rfl, serve_query hacc rfl⟩
  · exact fun m e s hacc => ⟨_, rfl, serve_query hacc rfl⟩
  · exact fun m e s hacc => ⟨_, rfl, serve_query hacc rfl⟩
  · exact fun m e s hacc => ⟨_, rfl, serve_query hacc rfl⟩
  · intro m e s hacc hheld
    exact ⟨_, rfl, serve_query_of_body hacc (ctxPostmortemBody_of_record (Entry.mode_8_1_0 e) hheld)⟩

end Sys2Proof.Machine
end

section
/-! PROOFS. One iteration of an operation on its engines (R143, R151, R225, R259, R287). -/

namespace Sys2Proof.Machine

open Sys2Proof
open Host (Outcome)

/-- With clocks a row's event gives what its operation gives. -/
theorem next_whenClocked {s t u : State} (hclk : s.clocked = true) (h : t = u) :
    (Outcome.next (s.whenClocked t) : Outcome State Fault Refusal) = .next u :=
  congrArg Outcome.next ((State.whenClocked_of hclk t).trans h)

/-! ### What follows an access -/

section Access

variable {α β : Type} {x : State × Got α} {u : State}

theorem gotThen_ok {a : α} (h : x = (u, .ok a)) (f : α → State → State × Got β) : gotThen x f = f a u := by
  rw [h, gotThen]

theorem gotThen_fault {r : FaultRec} (h : x = (u, .fault r)) (f : α → State → State × Got β) :
    gotThen x f = (u, .fault r) := by
  rw [h, gotThen]

theorem gotThen_wait (h : x = (u, .wait)) (f : α → State → State × Got β) : gotThen x f = (u, .wait) := by
  rw [h, gotThen]

end Access

/-! ### One iteration -/

/-- Operation `id` may run an iteration: it has started, its loops go on, and it waits for no queue. -/
structure State.Iterates (id : Nat) (o : Op) (s : State) : Prop where
  found : s.op? id = some o
  started : o.started = true
  unfinished : o.loopsDone = false
  free : o.waits = []

/-- What the outcome of a tile leaves: the record as the tile left it, a kill, or the iteration to run again. -/
def State.afterTile (id : Nat) : State × Got Op → State
  | (u, .ok o') => u.updOp id (fun _ => { o' with lines := [], cursor := 0 })
  | (u, .fault r) => u.killStart r none
  | (u, .wait) => u

section Iteration

variable {id : Nat} {o : Op} {mine : Op → Bool} {pops : Op → List QueueWait} {f : Op → State → State × Got Op}
  {s u : State} (h : s.Iterates id o) (hmine : mine o = true)
include h hmine

/-- The handles an iteration needs are waited for before it computes (R151). -/
theorem State.runTile_of_pops {w : QueueWait} {ws : List QueueWait} (hpops : pops o = w :: ws) :
    s.runTile id mine pops f = s.updOp id (fun o => { o with waits := w :: ws }) := by
  unfold State.runTile
  rw [h.found]
  dsimp only
  rw [if_neg (by simp [hmine, h.started, h.unfinished, h.free]), hpops]

theorem State.runTile_of_no_pops (hpops : pops o = []) :
    s.runTile id mine pops f = State.afterTile id (f o (s.tileStart id)) := by
  unfold State.runTile
  rw [h.found]
  dsimp only
  rw [if_neg (by simp [hmine, h.started, h.unfinished, h.free]), hpops]
  rfl

end Iteration

/-! ### The rows of the engines -/

/-- The row is one iteration of the operations of a kind: it waits for the handles `pops` and then runs the tile `f`. -/
def RunsTile (row : Nat → Instr) (kind : Op → Prop) (pops : Op → List QueueWait) (f : Op → State → State × Got Op) :
    Prop :=
  ∃ mine : Op → Bool, (∀ o, kind o → mine o = true) ∧
    ∀ id s, exec (row id) s = .next (s.whenClocked (s.runTile id mine pops f))

namespace RunsTile

variable {row : Nat → Instr} {kind : Op → Prop} {pops : Op → List QueueWait} {f : Op → State → State × Got Op}
  (h : RunsTile row kind pops f)
include h

/-- First the pops an iteration needs are made. -/
theorem waits (id : Nat) (o : Op) (w : QueueWait) (ws : List QueueWait) (s : State) (hclk : s.clocked = true)
    (hop : s.op? id = some o) (hkind : kind o) (hstarted : o.started = true) (hloops : o.loopsDone = false)
    (hfree : o.waits = []) (hpops : pops o = w :: ws) :
    exec (row id) s = .next (s.updOp id (fun o => { o with waits := w :: ws })) := by
  obtain ⟨mine, hmine, hexec⟩ := h
  rw [hexec]
  exact next_whenClocked hclk (State.runTile_of_pops ⟨hop, hstarted, hloops, hfree⟩ (hmine o hkind) hpops)

/-- An iteration that needs no pop leaves what its tile leaves. -/
theorem ends (id : Nat) (o : Op) (s : State) (hclk : s.clocked = true) (hop : s.op? id = some o) (hkind : kind o)
    (hstarted : o.started = true) (hloops : o.loopsDone = false) (hfree : o.waits = []) (hpops : pops o = []) :
    exec (row id) s = .next (State.afterTile id (f o (s.tileStart id))) := by
  obtain ⟨mine, hmine, hexec⟩ := h
  rw [hexec]
  exact next_whenClocked hclk (State.runTile_of_no_pops ⟨hop, hstarted, hloops, hfree⟩ (hmine o hkind) hpops)

theorem done (id : Nat) (o : Op) (u : State) (o' : Op) (s : State) (hclk : s.clocked = true)
    (hop : s.op? id = some o) (hkind : kind o) (hstarted : o.started = true) (hloops : o.loopsDone = false)
    (hfree : o.waits = []) (hpops : pops o = []) (htile : f o (s.tileStart id) = (u, .ok o')) :
    exec (row id) s = .next (u.updOp id (fun _ => { o' with lines := [], cursor := 0 })) := by
  rw [h.ends id o s hclk hop hkind hstarted hloops hfree hpops, htile, State.afterTile]

/-- A tile whose access faults kills the context of its operation. -/
theorem kills (id : Nat) (o : Op) (u : State) (r : FaultRec) (s : State) (hclk : s.clocked = true)
    (hop : s.op? id = some o) (hkind : kind o) (hstarted : o.started = true) (hloops : o.loopsDone = false)
    (hfree : o.waits = []) (hpops : pops o = []) (htile : f o (s.tileStart id) = (u, .fault r)) :
    exec (row id) s = .next (u.killStart r none) := by
  rw [h.ends id o s hclk hop hkind hstarted hloops hfree hpops, htile, State.afterTile]

/-- A tile whose access waits for a translation leaves the iteration to run again. -/
theorem stays (id : Nat) (o : Op) (u : State) (s : State) (hclk : s.clocked = true) (hop : s.op? id = some o)
    (hkind : kind o) (hstarted : o.started = true) (hloops : o.loopsDone = false) (hfree : o.waits = [])
    (hpops : pops o = []) (htile : f o (s.tileStart id) = (u, .wait)) : exec (row id) s = .next u := by
  rw [h.ends id o s hclk hop hkind hstarted hloops hfree hpops, htile, State.afterTile]

end RunsTile

theorem tileMultiply_runsTile :
    RunsTile .tileMultiply (fun o => o.desc.kind = 0x01) Op.mulPops State.mulTile :=
  ⟨fun o => o.desc.kind == 0x01, fun _ => beq_iff_eq.2, fun _ _ => rfl⟩

theorem attentionForward_runsTile :
    RunsTile .attentionForward (fun o => o.desc.kind = 0x02 ∧ o.desc.variant ≠ 8) Op.attnPops (fun o s =>
      gotThen ((s.keyHandle o).2.bucketEntry (s.keyHandle o).1) (fun o s => s.fwdTile o)) :=
  ⟨fun o => o.desc.kind == 0x02 && o.desc.variant != 8, fun o => by simp, fun _ _ => rfl⟩

theorem specialFunctionPass_runsTile :
    RunsTile .specialFunctionPass (fun o => o.desc.kind = 0x04) (fun o => o.needsInputs ++ o.needsFree) State.sfuTile :=
  ⟨fun o => o.desc.kind == 0x04, fun _ => beq_iff_eq.2, fun _ _ => rfl⟩

theorem circulationSend_runsTile :
    RunsTile .circulationSend (fun o => o.desc.kind = 5) Op.needsInputs State.sendTile :=
  ⟨fun o => o.desc.kind == 5, fun _ => beq_iff_eq.2, fun _ _ => rfl⟩

theorem circulationReceive_runsTile :
    RunsTile .circulationReceive (fun o => o.desc.kind = 6) Op.needsFree State.receiveTile :=
  ⟨fun o => o.desc.kind == 6, fun _ => beq_iff_eq.2, fun _ _ => rfl⟩

theorem fusedMultiplyReduce_runsTile :
    RunsTile .fusedMultiplyReduce (fun o => o.desc.kind = 8) Op.mulPops State.fusedTile :=
  ⟨fun o => o.desc.kind == 8, fun _ => beq_iff_eq.2, fun _ _ => rfl⟩

theorem reshardMove_runsTile :
    RunsTile .reshardMove (fun o => o.desc.kind = 9) (fun _ => [])
      (fun o s => if o.desc.sends then s.sendTile o else s.receiveTile o) :=
  ⟨fun o => o.desc.kind == 9, fun _ => beq_iff_eq.2, fun _ _ => rfl⟩

theorem copyData_runsTile : RunsTile .copyData (fun o => Op.isCopy 0 o = true) Op.copyPops State.copyTile :=
  ⟨Op.isCopy 0, fun _ => id, fun _ _ => rfl⟩

theorem copyZeroFill_runsTile :
    RunsTile .copyZeroFill (fun o => Op.isCopy 3 o = true) Op.needsFree
      (fun o s => s.copyOut o (List.replicate o.desc.tm (List.replicate o.desc.tn 0))) :=
  ⟨Op.isCopy 3, fun _ => id, fun _ _ => rfl⟩

/-- Settles O31: every row is one iteration of its kind of operation. -/
theorem enginesCompleteTiles : Obligations.EnginesCompleteTiles :=
  ⟨tileMultiply_runsTile.waits, attentionForward_runsTile.waits, specialFunctionPass_runsTile.waits,
    circulationSend_runsTile.waits, circulationReceive_runsTile.waits, fusedMultiplyReduce_runsTile.waits,
    copyData_runsTile.waits, copyZeroFill_runsTile.waits,
    tileMultiply_runsTile.done, tileMultiply_runsTile.kills, tileMultiply_runsTile.stays,
    attentionForward_runsTile.done, attentionForward_runsTile.kills, attentionForward_runsTile.stays,
    specialFunctionPass_runsTile.done, specialFunctionPass_runsTile.kills, specialFunctionPass_runsTile.stays,
    circulationSend_runsTile.done, circulationSend_runsTile.kills, circulationSend_runsTile.stays,
    circulationReceive_runsTile.done, circulationReceive_runsTile.kills, circulationReceive_runsTile.stays,
    fusedMultiplyReduce_runsTile.done, fusedMultiplyReduce_runsTile.kills, fusedMultiplyReduce_runsTile.stays,
    fun id o u o' s hclk hop hkind hstarted hloops hfree =>
      reshardMove_runsTile.done id o u o' s hclk hop hkind hstarted hloops hfree rfl,
    fun id o u r s hclk hop hkind hstarted hloops hfree =>
      reshardMove_runsTile.kills id o u r s hclk hop hkind hstarted hloops hfree rfl,
    fun id o u s hclk hop hkind hstarted hloops hfree =>
      reshardMove_runsTile.stays id o u s hclk hop hkind hstarted hloops hfree rfl,
    copyData_runsTile.done, copyData_runsTile.kills, copyData_runsTile.stays,
    copyZeroFill_runsTile.done, copyZeroFill_runsTile.kills, copyZeroFill_runsTile.stays⟩

end Sys2Proof.Machine
end

section
/-! PROOFS. Handle queues (R150 to R152). -/

namespace Sys2Proof.Machine

open Sys2Proof
open Host (Outcome)

/-! ### Whose turn it is -/

theorem State.ownQueue_iff {o : Op} {ref : Nat} {s : State} :
    s.ownQueue o ref = true ↔ s.rowOwner (qRow ref) = some o.part :=
  beq_iff_eq

/-- Pops of one queue are served in issue order (R152). -/
theorem State.popTurn_iff {o : Op} {ref : Nat} {s : State} :
    s.popTurn o ref = true ↔ ∀ y, y ∈ s.seq.ops → y.id < o.id → ∀ r, y.popRef = some r → qKey r = qKey ref →
      s.rowOwner (qRow r) ≠ some y.part := by
  have hwants (y : Op) : y.popRef.any (fun r => qKey r == qKey ref && s.ownQueue y r) = false ↔
      ∀ r, y.popRef = some r → qKey r = qKey ref → s.rowOwner (qRow r) ≠ some y.part := by
    cases y.popRef <;> simp [State.ownQueue]
  simp only [State.popTurn, List.all_eq_true, Bool.or_eq_true, decide_eq_true_eq, Bool.not_eq_true', hwants,
    Classical.or_iff_not_imp_left, Nat.not_le]

/-- Pushes to one queue are served by tiller and engine, then in issue order (R152). -/
theorem State.pushTurn_iff {o : Op} {ref : Nat} {s : State} :
    s.pushTurn o ref = true ↔
      ∀ y, y ∈ s.seq.ops → (y.pushRank < o.pushRank ∨ (y.pushRank = o.pushRank ∧ y.id < o.id)) → ∀ r h,
        y.pushOf = some (r, h) → qKey r = qKey ref → s.rowOwner (qRow r) ≠ some y.part := by
  have hwants (y : Op) : y.pushOf.any (fun r => qKey r.1 == qKey ref && s.ownQueue y r.1) = false ↔
      ∀ r h, y.pushOf = some (r, h) → qKey r = qKey ref → s.rowOwner (qRow r) ≠ some y.part := by
    rcases y.pushOf with _ | ⟨r, h⟩ <;> simp [State.ownQueue]
  have horder (y : Op) : ¬ (o.pushRank < y.pushRank ∨ o.pushRank = y.pushRank ∧ o.id ≤ y.id) ↔
      y.pushRank < o.pushRank ∨ y.pushRank = o.pushRank ∧ y.id < o.id := by omega
  simp only [State.pushTurn, List.all_eq_true, Bool.or_eq_true, Bool.and_eq_true, beq_iff_eq, decide_eq_true_eq,
    Bool.not_eq_true', hwants, ← horder, Classical.or_iff_not_imp_left]

/-! ### Pops -/

section Pop

variable {id : Nat} {o : Op} {ref : Nat} {s : State} (hop : s.op? id = some o) (href : o.popRef = some ref)
include hop href

/-- A pop of another partition's queue fails the tag check (R151). -/
theorem opHandlePop_of_foreign (hforeign : s.rowOwner (qRow ref) ≠ some o.part) :
    opHandlePop id s = s.killStart (o.queueFault false) none := by
  unfold opHandlePop
  rw [hop]
  dsimp only
  rw [href]
  exact if_pos (by simp [State.ownQueue, hforeign])

variable (hown : s.rowOwner (qRow ref) = some o.part)
include hown

theorem opHandlePop_of_turn {x : Handle} {t : List Handle} (hturn : s.popTurn o ref = true)
    (hqueue : s.queue (qKey ref) = x :: t) :
    opHandlePop id s = (s.setQueue o.part (qKey ref) t).updOp id (Op.popped x) := by
  unfold opHandlePop
  rw [hop]
  dsimp only
  rw [href]
  dsimp only
  rw [if_neg (by simp [State.ownQueue_iff.2 hown]), if_neg (by simp [hturn]), hqueue]

/-- A pop waits while its turn has not come or the queue is empty. -/
theorem opHandlePop_of_blocked (hempty : s.popTurn o ref = true → s.queue (qKey ref) = []) :
    opHandlePop id s = s := by
  unfold opHandlePop
  rw [hop]
  dsimp only
  rw [href]
  dsimp only
  rw [if_neg (by simp [State.ownQueue_iff.2 hown])]
  by_cases hturn : s.popTurn o ref = true
  · rw [hempty hturn]
    exact ite_self s
  · exact if_pos (by simpa using hturn)

end Pop

/-! ### Pushes -/

section Push

variable {id : Nat} {o : Op} {ref : Nat} {x : Handle} {s : State} (hop : s.op? id = some o)
  (href : o.pushOf = some (ref, x))
include hop href

/-- A push to another partition's queue fails the tag check (R151). -/
theorem opHandlePush_of_foreign (hforeign : s.rowOwner (qRow ref) ≠ some o.part) :
    opHandlePush id s = s.killStart (o.queueFault true) none := by
  unfold opHandlePush
  rw [hop]
  dsimp only
  rw [href]
  exact if_pos (by simp [State.ownQueue, hforeign])

/-- A push to a queue of the own partition is made when its turn has come and there is room, and else waits. -/
theorem opHandlePush_of_own (hown : s.rowOwner (qRow ref) = some o.part) :
    opHandlePush id s =
      if s.pushTurn o ref = true ∧ (s.queue (qKey ref)).length < queueDepth then
        (s.setQueue o.part (qKey ref) (s.queue (qKey ref) ++ [x])).updOp id (fun o => { o with waits := o.waits.drop 1 })
      else s := by
  unfold opHandlePush
  rw [hop]
  dsimp only
  rw [href]
  dsimp only
  rw [if_neg (by simp [State.ownQueue_iff.2 hown])]
  simp only [Bool.and_eq_true, decide_eq_true_eq]

end Push

/-- Settles O33: the order of the waiters is `State.popTurn_iff` and `State.pushTurn_iff`. -/
theorem queuesAreFifo : Obligations.QueuesAreFifo := by
  refine ⟨?_, ?_, ?_, ?_, ?_, ?_, ?_, ?_, ?_, ?_⟩
  case refine_1 | refine_2 | refine_3 =>
    intro id o ws x t s hclk hop hwaits hown hfirst hqueue
    exact ⟨next_whenClocked hclk (opHandlePop_of_turn hop (by rw [Op.popRef, hwaits]) hown
      (State.popTurn_iff.2 hfirst) hqueue), by rw [Op.popped, hwaits]⟩
  · intro id o ref s hclk hop href hown hqueue
    exact next_whenClocked hclk (opHandlePop_of_blocked hop href hown fun _ => hqueue)
  · intro id o y ref r s hclk hop href hown hy hlt hyref hkey hyown
    exact next_whenClocked hclk (opHandlePop_of_blocked hop href hown fun hturn =>
      absurd hyown (State.popTurn_iff.1 hturn y hy hlt r hyref hkey))
  · intro id o ref s hclk hop href hforeign
    exact next_whenClocked hclk (opHandlePop_of_foreign hop href hforeign)
  · intro id o ref x s hclk hop href hown hfirst hroom
    exact next_whenClocked hclk ((opHandlePush_of_own hop href hown).trans
      (if_pos ⟨State.pushTurn_iff.2 hfirst, hroom⟩))
  · intro id o ref x s hclk hop href hown hfull
    exact next_whenClocked hclk ((opHandlePush_of_own hop href hown).trans
      (if_neg fun h => Nat.not_lt.2 hfull h.2))
  · intro id o y ref r x h s hclk hop href hown hy hbefore hyref hkey hyown
    exact next_whenClocked hclk ((opHandlePush_of_own hop href hown).trans
      (if_neg fun hturn => State.pushTurn_iff.1 hturn.1 y hy hbefore r h hyref hkey hyown))
  · intro id o ref x s hclk hop href hforeign
    exact next_whenClocked hclk (opHandlePush_of_foreign hop href hforeign)

end Sys2Proof.Machine
end

section
/-! PROOFS. Iterations of the other operations: bucket sort, attention backward, explicit reductions, the copies that load
a handle or a bound, and fences. -/

namespace Sys2Proof.Machine

open Sys2Proof
open Host (Outcome)

/-! ### Tiles that begin with one access -/

/-- The row is one iteration that waits for no handle and begins with the access `read`, which `rest` follows. -/
def ReadsFirst {α : Type} (row : Nat → Instr) (kind : Op → Prop) (read : Op → State → State × Got α)
    (rest : Op → α → State → State × Got Op) : Prop :=
  RunsTile row kind (fun _ => []) (fun o s => gotThen (read o s) (rest o))

namespace ReadsFirst

variable {α : Type} {row : Nat → Instr} {kind : Op → Prop} {read : Op → State → State × Got α}
  {rest : Op → α → State → State × Got Op} (h : ReadsFirst row kind read rest)
include h

theorem done {id : Nat} {o : Op} {s : State} (hclk : s.clocked = true) (hop : s.op? id = some o) (hkind : kind o)
    (hstarted : o.started = true) (hloops : o.loopsDone = false) (hfree : o.waits = []) {a : α} {u v : State} {o' : Op}
    (hread : read o (s.tileStart id) = (u, .ok a)) (hrest : rest o a u = (v, .ok o')) :
    exec (row id) s = .next (v.updOp id (fun _ => { o' with lines := [], cursor := 0 })) :=
  RunsTile.done h id o v o' s hclk hop hkind hstarted hloops hfree rfl ((gotThen_ok hread _).trans hrest)

theorem kills (id : Nat) (o : Op) (u : State) (r : FaultRec) (s : State) (hclk : s.clocked = true)
    (hop : s.op? id = some o) (hkind : kind o) (hstarted : o.started = true) (hloops : o.loopsDone = false)
    (hfree : o.waits = []) (hread : read o (s.tileStart id) = (u, .fault r)) :
    exec (row id) s = .next (u.killStart r none) :=
  RunsTile.kills h id o u r s hclk hop hkind hstarted hloops hfree rfl (gotThen_fault hread _)

theorem stays (id : Nat) (o : Op) (u : State) (s : State) (hclk : s.clocked = true) (hop : s.op? id = some o)
    (hkind : kind o) (hstarted : o.started = true) (hloops : o.loopsDone = false) (hfree : o.waits = [])
    (hread : read o (s.tileStart id) = (u, .wait)) : exec (row id) s = .next u :=
  RunsTile.stays h id o u s hclk hop hkind hstarted hloops hfree rfl (gotThen_wait hread _)

end ReadsFirst

/-! ### Bucket sort (R178) -/

/-- The lists of the 12 buckets of a batch table, cut to their capacity. -/
def Op.sortedLists (rows : List (List Byte)) (o : Op) : List (List (Nat × BitVec 512)) :=
  (List.range 12).map (fun b =>
    (bucketList ((List.range o.m).zip (rows.map (fun bs => BitVec.ofNat 512 (ofBytesLE bs)))) b).take
      (o.desc.strideC / 64))

/-- What a sort of a batch table writes: the lists, and the count words. -/
def Op.sortedOut (rows : List (List Byte)) (o : Op) : List (Nat × List Byte) :=
  (((List.range 12).zip (o.sortedLists rows)).flatMap (fun bl => ((List.range bl.2.length).zip bl.2).map (fun ie =>
      (o.desc.addrC + bl.1 * o.desc.strideC + 64 * ie.1, bytesLE 64 ie.2.2.toNat)))) ++
    ((List.range 13).zip ((o.sortedLists rows).map List.length ++
      [o.m - ((o.sortedLists rows).map List.length).foldl (· + ·) 0])).map (fun bc =>
        (o.desc.addrD + 8 * bc.1, bytesLE 8 bc.2))

/-- A sort that has written `out`. -/
def Op.sorted (out : List (Nat × List Byte)) (o : Op) : Op :=
  { (o.tally o.desc.addrA (64 * o.m)).tallyPieces out with iter := 1, loopsDone := true }

theorem bucketSort_readsFirst :
    ReadsFirst .bucketSort (fun o => o.desc.kind = 0x02 ∧ o.desc.variant = 8)
      (fun o s => s.readRows o.who 64 64 o.m o.desc.addrA [])
      (fun o rows s => gotThen (s.writeMany o.who (o.sortedOut rows)) fun _ s => (s, .ok (o.sorted (o.sortedOut rows)))) :=
  ⟨fun o => o.desc.kind == 0x02 && o.desc.variant == 8, fun o => by simp, fun _ _ => rfl⟩

/-! ### Attention backward (R175, R176) -/

/-- The handles an iteration of a backward pass needs: PREP takes none. -/
def Op.backPops (o : Op) : List QueueWait := if o.desc.pass = 0 then [] else o.attnPops

/-- An iteration of a backward pass: PREP, DKV or DQ. -/
def State.backTile (o : Op) (s : State) : State × Got Op :=
  if o.desc.pass = 0 then s.prepTile o
  else if o.desc.pass = 1 then (s.keyHandle o).2.dkvTile (s.keyHandle o).1
  else (s.keyHandle o).2.dqTile (s.keyHandle o).1

theorem Op.backPops_of_none {o : Op} (h : o.desc.pass = 0 ∨ o.attnPops = []) : o.backPops = [] := by
  unfold Op.backPops
  split
  · rfl
  · exact h.resolve_left ‹_›

theorem attentionBackward_runsTile :
    RunsTile .attentionBackward (fun o => o.desc.kind = 0x03) Op.backPops State.backTile := by
  refine ⟨fun o => o.desc.kind == 0x03, fun _ => beq_iff_eq.2, fun id s => ?_⟩
  refine congrArg (fun f => Outcome.next (s.whenClocked (s.runTile id _ Op.backPops f))) (funext fun o => funext fun t => ?_)
  unfold State.backTile
  split
  · rw [if_pos ‹_›]
  · rw [if_neg (by omega), if_pos ‹_›]
  · rw [if_neg ‹_›, if_neg ‹_›]

/-! ### Explicit reductions (R283) -/

/-- The reduction that an explicit reduction enters. -/
def Op.explicitRed (o : Op) : Reduction :=
  { seq := 0, user := BitVec.ofNat 32 (fld o.desc 992 32), src := BitVec.ofNat 64 o.desc.addrA
    dst := BitVec.ofNat 64 o.desc.addrC, chaffDva := BitVec.ofNat 64 o.desc.addrD, len := o.m }

/-- An explicit reduction counts DESC_ERR without its queue, waits while 64 reductions are in it, and else enters it. -/
theorem reductionExplicit_runsTile :
    ∃ f, RunsTile .reductionExplicit (fun o => o.desc.kind = 7) (fun _ => []) f ∧
      (∀ o s, s.commq o.part (o.desc.param % 16) = none →
        f o s = (s.updSeqp o.part (fun q => { q with descErr := satAdd q.descErr 1 }), .ok { o with loopsDone := true })) ∧
      (∀ o s q, s.commq o.part (o.desc.param % 16) = some q → 64 ≤ q.reds.length → f o s = (s, .wait)) ∧
      ∀ o s q, s.commq o.part (o.desc.param % 16) = some q → q.reds.length < 64 →
        f o s = (s.updCommq o.part (o.desc.param % 16) (fun q => q.enter o.explicitRed), .ok { o with loopsDone := true }) := by
  refine ⟨_, ⟨fun o => o.desc.kind == 7, fun _ => beq_iff_eq.2, fun _ _ => rfl⟩, fun o s hq => ?_,
    fun o s q hq hfull => ?_, fun o s q hq hroom => ?_⟩ <;> dsimp only <;> rw [hq]
  · exact if_pos hfull
  · exact if_neg (Nat.not_le.2 hroom)

/-! ### Loads of handles and bounds (Table 5-5) -/

/-- A handle load that has read `bs`: the handle goes to OUT with the tag of its context. -/
def Op.handleLoaded (bs : List Byte) (o : Op) : Op :=
  { (o.tally (o.desc.addrA + 16 * o.iter) 16).spend (o.desc.tileCycles 0 0) with
    waits := if qUse o.desc.out then [.out (BitVec.ofNat 10 o.desc.out)
      { Handle.ofNat (ofBytesLE bs) with tag := BitVec.ofNat 10 (tagOf o.part o.ctx) } none] else []
    iter := o.iter + 1, loopsDone := decide (o.m ≤ o.iter + 1) }

/-- A bound load that has read `bs` keeps the word for its retirement (R141). -/
def Op.boundLoaded (bs : List Byte) (o : Op) : Op :=
  { o.tally o.desc.addrA 8 with params := [ofBytesLE bs], iter := o.iter + 1, loopsDone := true }

/-- Counting an access changes only the two counts of bytes. -/
theorem Op.tally_eq (a n : Nat) (o : Op) : ∃ ext loc, o.tally a n = { o with ext := ext, loc := loc } := by
  unfold Op.tally
  split
  · exact ⟨_, _, rfl⟩
  · split <;> exact ⟨_, _, rfl⟩

theorem copyHandleLoad_readsFirst :
    ReadsFirst .copyHandleLoad (fun o => Op.isCopy 1 o = true)
      (fun o s => s.readDva o.who (o.desc.addrA + 16 * o.iter) 16) (fun o bs s => (s, .ok (o.handleLoaded bs))) := by
  refine ⟨Op.isCopy 1, fun _ => id, fun id s => ?_⟩
  refine congrArg (fun f => Outcome.next (s.whenClocked (s.runTile id (Op.isCopy 1) (fun _ => []) f)))
    (funext fun o => funext fun t => congrArg (gotThen (t.readDva o.who (o.desc.addrA + 16 * o.iter) 16))
      (funext fun bs => funext fun u => ?_))
  obtain ⟨ext, loc, htally⟩ := o.tally_eq (o.desc.addrA + 16 * o.iter) 16
  dsimp only
  rw [Op.handleLoaded, htally]
  rfl

theorem copyBoundLoad_readsFirst :
    ReadsFirst .copyBoundLoad (fun o => Op.isCopy 2 o = true) (fun o s => s.readDva o.who o.desc.addrA 8)
      (fun o bs s => (s, .ok (o.boundLoaded bs))) :=
  ⟨Op.isCopy 2, fun _ => id, fun _ _ => rfl⟩

/-! ### Fences (R158) -/

/-- The loops of a fence are complete from the start. -/
theorem opLayerFence_of_fence {id : Nat} {o : Op} {s : State} (hop : s.op? id = some o) (hkind : o.desc.kind = 0x0B) :
    opLayerFence id s = s.updOp id (fun o => { o with loopsDone := true }) := by
  unfold opLayerFence
  rw [hop]
  exact if_pos hkind

/-- Settles O32: every row but the fence is one iteration of its kind of operation. -/
theorem enginesCompleteOthers : Obligations.EnginesCompleteOthers := by
  obtain ⟨f, hred, hnone, hfull, hroom⟩ := reductionExplicit_runsTile
  refine ⟨?_, bucketSort_readsFirst.kills, bucketSort_readsFirst.stays, ?_, ?_, ?_, ?_, ?_, ?_, ?_, ?_,
    copyHandleLoad_readsFirst.kills, copyHandleLoad_readsFirst.stays, ?_, copyBoundLoad_readsFirst.kills,
    copyBoundLoad_readsFirst.stays, ?_⟩
  · intro id o u v rows es lists out s hclk hop hkind hstarted hloops hfree hread hes hlists hout hwrite
    have hsorted : out = o.sortedOut rows := by
      rw [hout, hlists, hes]
      rfl
    subst hsorted
    exact bucketSort_readsFirst.done hclk hop hkind hstarted hloops hfree hread (gotThen_ok hwrite _)
  · intro id o w ws s hclk hop hkind hstarted hloops hfree hpops
    exact attentionBackward_runsTile.waits id o w ws s hclk hop hkind.1 hstarted hloops hfree
      ((if_neg hkind.2).trans hpops)
  · intro id o o' u s hclk hop hkind hstarted hloops hfree hpops htile
    exact attentionBackward_runsTile.done id o u o' s hclk hop hkind hstarted hloops hfree
      (Op.backPops_of_none hpops) htile
  · intro id o u r s hclk hop hkind hstarted hloops hfree hpops htile
    exact attentionBackward_runsTile.kills id o u r s hclk hop hkind hstarted hloops hfree
      (Op.backPops_of_none hpops) htile
  · intro id o u s hclk hop hkind hstarted hloops hfree hpops htile
    exact attentionBackward_runsTile.stays id o u s hclk hop hkind hstarted hloops hfree
      (Op.backPops_of_none hpops) htile
  · intro id o q s hclk hop hkind hstarted hloops hfree hq hlt
    exact hred.done id o _ _ s hclk hop hkind hstarted hloops hfree rfl (hroom o (s.tileStart id) q hq hlt)
  · intro id o q s hclk hop hkind hstarted hloops hfree hq hle
    exact hred.stays id o _ s hclk hop hkind hstarted hloops hfree rfl (hfull o (s.tileStart id) q hq hle)
  · intro id o s hclk hop hkind hstarted hloops hfree hq
    exact hred.done id o _ _ s hclk hop hkind hstarted hloops hfree rfl (hnone o (s.tileStart id) hq)
  · intro id o bs u s hclk hop hkind hstarted hloops hfree hread
    exact copyHandleLoad_readsFirst.done hclk hop hkind hstarted hloops hfree hread rfl
  · intro id o bs u s hclk hop hkind hstarted hloops hfree hread
    exact copyBoundLoad_readsFirst.done hclk hop hkind hstarted hloops hfree hread rfl
  · intro id o s hclk hop hkind
    exact next_whenClocked hclk (opLayerFence_of_fence hop hkind)

end Sys2Proof.Machine
end

section
/-! PROOFS. The retirement of operations (R133, R141, R158), and the watchdog of stalled partitions (R153). -/

namespace Sys2Proof.Machine

open Sys2Proof
open Host (Outcome)

/-! ### Retirement -/

/-- A fence may retire with no older operation of its partition in flight (R158). -/
theorem State.mayRetire_of_oldest {o : Op} {s : State} (hkind : o.desc.kind = 0x0B)
    (holdest : ∀ x, x ∈ s.seq.ops → x.part = o.part → o.id ≤ x.id) : s.mayRetire o = true := by
  rw [State.mayRetire, if_pos hkind]
  refine List.all_eq_true.2 fun x hx => decide_eq_true ?_
  obtain ⟨hmem, hpart⟩ := List.mem_filter.1 hx
  exact holdest x hmem (beq_iff_eq.1 hpart)

/-- A bound load writes its register when it retires (R141). -/
theorem State.retireEffect_of_boundLoad {o : Op} {v : Nat} {vs : List Nat} (hkind : o.desc.kind = 0x0A)
    (hvariant : o.desc.variant = 2) (hparams : o.params = v :: vs) (s : State) :
    s.retireEffect o = s.setBound o.part (o.desc.param % 64) (BitVec.ofNat 64 v) := by
  rw [State.retireEffect, if_pos (by simp [hkind, hvariant]), hparams]

/-- A fence empties its partition's queues, counts what they held and holds issue (R158, R159). -/
theorem State.retireEffect_of_fence {o : Op} (hkind : o.desc.kind = 0x0B) (s : State) :
    s.retireEffect o =
      (s.updSeq (fun q => { q with queues := q.queues.filter (fun x => !s.ownsQueue o.part x.1) })).updSeqp o.part
        (fun q => { q with
          fenceLeft := satAdd q.fenceLeft (((s.seq.queues.filter (fun x => s.ownsQueue o.part x.1)).map (fun x =>
            x.2.length)).foldl (· + ·) 0)
          fenceHold := true }) := by
  rw [State.retireEffect, if_neg (by simp [hkind]), if_pos hkind]

theorem State.retireEffect_of_other {o : Op} (hload : o.desc.kind ≠ 0x0A ∨ o.desc.variant ≠ 2)
    (hfence : o.desc.kind ≠ 0x0B) (s : State) : s.retireEffect o = s := by
  rw [State.retireEffect, if_neg (by obtain h | h := hload <;> simp [h]), if_neg hfence]

section Retire

variable {id : Nat} {o : Op} {s : State} (hop : s.op? id = some o)
include hop

/-- An operation that is done retires after its effect, its charge settled against the measured energy (R133). -/
theorem opOperationRetire_of_ready (hloops : o.loopsDone = true) (hfree : o.waits = []) (hmay : s.mayRetire o = true) :
    opOperationRetire id s =
      ((s.takeFree.2.retireEffect o).updPln (fun p =>
        { p with sends := p.sends.filter (fun x => x.1 != o.id) })).retireOp o
        (if o.desc.engines.isEmpty then 0 else measured s.pwr.hottest.toNat (Config.heldExtra s.takeFree.1) o) := by
  unfold opOperationRetire
  rw [hop]
  exact if_pos (by simp [hloops, hfree, hmay])

theorem opOperationRetire_of_busy (hbusy : o.loopsDone = false ∨ o.waits ≠ [] ∨ s.mayRetire o = false) :
    opOperationRetire id s = s := by
  unfold opOperationRetire
  rw [hop]
  exact if_neg (by obtain h | h | h := hbusy <;> simp [h])

end Retire

/-! ### The watchdog -/

theorem opStallWatchdog_of_early {p : Fin 16} {s : State} (h : (s.seqp p.val).stall.toNat < 1024) :
    opStallWatchdog p s = s :=
  if_pos h

/-- Of the contexts of a partition the watchdog kills those with an operation in flight; here that is `c` alone. -/
theorem opStallWatchdog_of_only {p : Fin 16} {c : Fin 64} {s : State} (hstall : 1024 ≤ (s.seqp p.val).stall.toNat)
    (honly : ∀ k, k < 64 → ((∃ o, o ∈ s.seq.ops ∧ o.part = p.val ∧ o.ctx = k) ↔ k = c.val)) :
    opStallWatchdog p s = s.killCtx p.val c.val .watchdog := by
  have hctxs : (List.range 64).filter
      (fun k => ((s.seq.ops.filter (fun o => o.part == p.val)).map (·.ctx)).contains k) = [c.val] := by
    rw [List.filter_congr (q := (· == c.val)) fun k hk => ?_, List.filter_beq,
      List.count_range, if_pos c.isLt, List.replicate_one]
    rw [Bool.eq_iff_iff, beq_iff_eq, ← honly k (List.mem_range.1 hk)]
    simp [and_assoc]
  unfold opStallWatchdog
  rw [if_neg (Nat.not_lt.2 hstall)]
  dsimp only
  rw [hctxs]
  rfl

/-- Settles O34: what retires is `opOperationRetire_of_ready`, with the effect of its kind. -/
theorem operationsRetire : Obligations.OperationsRetire := by
  refine ⟨?_, ?_, ?_, ?_, ?_, ?_⟩
  · intro id o n s hclk hop hloops hfree hmay hn hload hfence
    subst hn
    refine next_whenClocked hclk ((opOperationRetire_of_ready hop hloops hfree hmay).trans ?_)
    rw [State.retireEffect_of_other hload hfence]
  · intro id o n v vs s hclk hop hloops hfree hmay hn hkind hvariant hparams
    subst hn
    refine next_whenClocked hclk ((opOperationRetire_of_ready hop hloops hfree hmay).trans ?_)
    rw [State.retireEffect_of_boundLoad hkind hvariant hparams]
  · intro id o n u s hclk hop hloops hfree holdest hn hkind hu
    subst hn hu
    refine next_whenClocked hclk
      ((opOperationRetire_of_ready hop hloops hfree (State.mayRetire_of_oldest hkind holdest)).trans ?_)
    rw [State.retireEffect_of_fence hkind]
  · intro id o s hclk hop hbusy
    exact next_whenClocked hclk (opOperationRetire_of_busy hop hbusy)
  · intro p s hclk hstall
    exact next_whenClocked hclk (opStallWatchdog_of_early hstall)
  · intro p c s hclk hstall honly
    exact next_whenClocked hclk (opStallWatchdog_of_only hstall honly)

end Sys2Proof.Machine
end

section
/-! PROOFS. What starts operations: issue (R148, R390 to R393), the fetch of descriptors (R134), engine starts and fills
(R395, R396), and table loads (R228). -/

namespace Sys2Proof.Machine

open Sys2Proof
open Host (Outcome)

/-! ### Issue -/

/-- Without a lock every ready candidate may issue (R391). -/
theorem beforeLock_none (xs : List (Cand × Desc)) : beforeLock none xs = xs := by
  induction xs with
  | nil => rfl
  | cons x xs ih => rw [beforeLock, ih]; rfl

theorem find?_isLocked_none (xs : List (Cand × Desc)) (q : Cand × Desc → Bool) :
    xs.find? (fun x => isLocked none x.1 && q x) = none :=
  List.find?_eq_none.2 fun _ _ => Bool.false_ne_true

section Serve

variable {p die : Nat} {s : State}

/-- A partition with nothing ready is passed by. -/
theorem State.servePart_of_idle (h : s.readyList p die = []) : s.servePart p die = (s, none) := by
  unfold State.servePart
  rw [h]
  rfl

/-- A partition without a lock whose first ready candidate fits issues it; those behind that do not fit are passed over
(R390, R393). -/
theorem State.servePart_of_fits {c : Cand} {d : Desc} {rest : List (Cand × Desc)}
    (hready : s.readyList p die = (c, d) :: rest) (hlock : (s.pwrp p).lock die = none) (hfits : s.fits p die c d = true) :
    s.servePart p die =
      (s.passOver p ((rest.filter (fun x => !s.fits p die x.1 x.2)).map (·.1)), some (c, d)) := by
  unfold State.servePart
  dsimp only
  rw [hlock, beforeLock_none, find?_isLocked_none, hready, List.filter_cons_of_neg (by simp [hfits]),
    List.find?_cons_of_pos (by exact hfits)]
  rfl

theorem State.serveDie_of_idle {ps : List Nat} (h : ∀ q ∈ ps, s.readyList q die = []) : s.serveDie die ps = s := by
  induction ps with
  | nil => rfl
  | cons q ps ih =>
    rw [State.serveDie, State.servePart_of_idle (h q List.mem_cons_self)]
    exact ih fun r hr => h r (List.mem_cons_of_mem q hr)

/-- The first partition in turn with something to issue is served. -/
theorem State.serveDie_of_served {pre post : List Nat} {x : Cand × Desc} {t : State}
    (hpre : ∀ q ∈ pre, s.readyList q die = []) (hserve : s.servePart p die = (t, some x)) :
    s.serveDie die (pre ++ p :: post) = t.issue p die x.1 x.2 false := by
  induction pre with
  | nil => rw [List.nil_append, State.serveDie, hserve]
  | cons q pre ih =>
    rw [List.cons_append, State.serveDie, State.servePart_of_idle (hpre q List.mem_cons_self)]
    exact ih fun r hr => hpre r (List.mem_cons_of_mem q hr)

end Serve

section Oversize

variable {die : Die} {p : Fin 16} {s : State}

theorem opOversizeIssue_of_idle (h : s.readyList p.val die.num = []) : opOversizeIssue die p s = s := by
  unfold opOversizeIssue
  dsimp only
  rw [h]
  rfl

/-- A candidate that was passed over, whose cost exceeds a whole frame's load, issues with the die to itself (R392). -/
theorem opOversizeIssue_of_oversize {c : Cand} {d : Desc} {rest : List (Cand × Desc)}
    (hready : s.readyList p.val die.num = (c, d) :: rest) (hlock : (s.pwrp p.val).lock die.num = none)
    (hpassed : s.timesPassed p.val c ≠ 0) (hload : (s.pwrp p.val).load die.num < s.candCost p.val c d)
    (hbal : 0 ≤ (s.pwrp p.val).bal die.num) (halone : ∀ o, o ∈ s.opsOf p.val → o.die ≠ die.num) :
    opOversizeIssue die p s = s.issue p.val die.num c d true := by
  have hfind : (s.readyList p.val die.num).find? (fun r => isLocked none r.1) = none :=
    List.find?_eq_none.2 fun _ _ => Bool.false_ne_true
  unfold opOversizeIssue
  dsimp only
  rw [hlock, hfind, hready]
  exact if_pos (by simpa [hpassed, hload, hbal] using halone)

end Oversize

/-! ### Fetch (R134) -/

/-- Who fetches a candidate's descriptor: slot 0 stands for the one it has not got yet (log entry 115). -/
def State.fetcher (p : Nat) (c : Cand) (s : State) : Who :=
  { die := s.fetchDie p, tag := BitVec.ofNat 10 (tagOf p c.ctx), ticket := c.ticket, slot := 0
    fetch := some (c.uid, c.index) }

/-- What the read of a candidate's descriptor leaves: the descriptor, the all-zero one where it cannot be read (log
entry 100), or nothing yet. -/
def State.afterFetch (c : Cand) : State × Got (List Byte) → State
  | (u, .ok bs) => u.noteFetched c.uid c.index (BitVec.ofNat 1024 (ofBytesLE bs))
  | (u, .fault _) => u.noteFetched c.uid c.index 0
  | (u, .wait) => u

theorem opDescriptorFetch_of_cand {p : Fin 16} {c : Cand} {j : Job} {s : State} {x : State × Got (List Byte)}
    (hcand : (s.cands p.val).find? (fun c => c.desc.isNone) = some c) (hjob : s.candJob c = some j)
    (hread : s.readDva (s.fetcher p.val c) (j.list.toNat + 128 * c.index) 128 = x) :
    opDescriptorFetch p s = State.afterFetch c x := by
  unfold opDescriptorFetch
  rw [hcand]
  dsimp only
  rw [hjob, ← hread]
  rfl

/-! ### The stager (R394 to R396) -/

/-- The current that a start adds beyond the fills it replaces. -/
def State.startNeed (o : Op) (s : State) : Nat :=
  (o.desc.engines.map (fun e => s.scaled (o.desc.currentMa e) -
    ((s.pwr.fillOf o.desc.tiller e).map (fun f => f.current)).getD 0)).foldl (· + ·) 0

section Start

variable {die : Die} {ns : Nat} {o : Op} {behind : List Op} {s : State}
  (hasking : askingStart die.num [] s.seq.ops = o :: behind)
include hasking

/-- A start beyond the budget of its die waits, with those behind it (R395). -/
theorem opEngineStart_of_over (hover : slewBudget < usedSlew die.num ns s.pwr.grants + s.startNeed o) :
    opEngineStart die ns s = s.countWaits (o :: behind) := by
  unfold opEngineStart
  rw [hasking]
  exact if_pos hover

/-- A start within the budget of its die is granted (R395). -/
theorem opEngineStart_of_room (hroom : usedSlew die.num ns s.pwr.grants + s.startNeed o ≤ slewBudget) :
    opEngineStart die ns s =
      (o.desc.engines.foldl (fun s e => s.startEngine o e) ((if o.waited then s.countWaits behind else s).updPwr (fun w =>
        { w with grants := if s.startNeed o = 0 then w.grants else addSlew die.num ns (s.startNeed o) w.grants }))).updOp
        o.id (fun o => { o with started := true }) := by
  unfold opEngineStart
  rw [hasking]
  exact if_neg (Nat.not_lt.2 hroom)

end Start

section Release

variable {die : Die} {f : Fill} {s : State}
  (hfill : s.pwr.fills.find? (fun f => tillerDie f.tiller == die.num && f.hold.isNone) = some f)
include hfill

/-- A fill within the budget of its die is charged and leaves (R396). -/
theorem opFillRelease_of_room {ns : Nat} (hroom : usedSlew die.num ns s.pwr.releases + f.current ≤ slewBudget)
    (cycles : Nat) :
    opFillRelease die ns cycles s = (s.updPwr (fun w => { w with
      fills := w.fills.filter (fun g => !(g.tiller == f.tiller && g.engine == f.engine))
      releases := addSlew die.num ns f.current w.releases })).chargeFill f cycles := by
  unfold opFillRelease
  rw [hfill]
  exact if_neg (Nat.not_lt.2 hroom)

theorem opFillRelease_of_over {ns : Nat} (hover : slewBudget < usedSlew die.num ns s.pwr.releases + f.current)
    (cycles : Nat) : opFillRelease die ns cycles s = s := by
  unfold opFillRelease
  rw [hfill]
  exact if_pos hover

end Release

/-! ### Loads of tables and programs (R228) -/

/-- The first load that waits writes the half that no operation latches (steps 3 and 4 of R228). -/
theorem opSfuLoadWrite_of_unlatched {p slot : Fin 16} {bs : List Byte} {s : State}
    (hload : (s.sfuSlot (slotKey p.val slot.val)).nextLoad = some bs)
    (hwritten : (s.sfuSlot (slotKey p.val slot.val)).written = false)
    (hlatched : s.seq.ops.any (fun o => o.part == p.val &&
      o.latches (slotKey p.val slot.val) (!(s.sfuSlot (slotKey p.val slot.val)).active)) = false) :
    opSfuLoadWrite p slot s = s.updSlot (slotKey p.val slot.val) (fun x =>
      if x.active then { x with half0 := bs, written := true } else { x with half1 := bs, written := true }) := by
  unfold opSfuLoadWrite
  dsimp only
  rw [hload]
  exact if_neg (by rw [hwritten, hlatched]; exact Bool.false_ne_true)

/-- Settles O30: each clause is the equation of its operation. Operations whose bound words had to wait go on first (log
entry 52), a descriptor that cannot be read is entered as the malformed all-zero one (log entry 100), and its fetch goes
through the cache of `fetchDie` with slot 0 (log entry 115). -/
theorem operationsAreIssued : Obligations.OperationsAreIssued := by
  refine ⟨?_, ?_, ?_, ?_, ?_, ?_, ?_, ?_, ?_, fun _ _ hclk => next_whenClocked hclk rfl, ?_, ?_, ?_⟩
  · intro die pre post p c d rest u s hclk hu horder hidle hready hlock hfits
    subst hu
    refine next_whenClocked hclk ?_
    rw [opOperationIssue, horder]
    exact State.serveDie_of_served hidle (State.servePart_of_fits hready hlock hfits)
  · intro die u s hclk hu hidle
    subst hu
    refine next_whenClocked hclk (State.serveDie_of_idle fun q hq => ?_)
    obtain ⟨i, -, rfl⟩ := List.mem_map.1 hq
    exact hidle _ (Nat.mod_lt _ (by omega))
  · intro die p c d rest s hclk hready hlock hpassed hload hbal halone
    exact next_whenClocked hclk (opOversizeIssue_of_oversize hready hlock hpassed hload hbal halone)
  · intro die p s hclk hidle
    exact next_whenClocked hclk (opOversizeIssue_of_idle hidle)
  · intro p c j u bs s hclk hcand hjob hread
    exact next_whenClocked hclk (opDescriptorFetch_of_cand hcand hjob hread)
  · intro p c j u r s hclk hcand hjob hread
    exact next_whenClocked hclk (opDescriptorFetch_of_cand hcand hjob hread)
  · intro p c j u s hclk hcand hjob hread
    exact next_whenClocked hclk (opDescriptorFetch_of_cand hcand hjob hread)
  · intro die ns o behind need s hclk hasking hneed hover
    subst hneed
    exact next_whenClocked hclk (opEngineStart_of_over hasking hover)
  · intro die ns o behind need s hclk hasking hneed hroom
    subst hneed
    exact next_whenClocked hclk (opEngineStart_of_room hasking hroom)
  · intro die ns cycles f s hclk hfill hroom
    exact next_whenClocked hclk (opFillRelease_of_room hfill hroom cycles)
  · intro die ns cycles f s hclk hfill hover
    exact next_whenClocked hclk (opFillRelease_of_over hfill hover cycles)
  · intro p slot x bs s hclk hx hload hwritten hlatched
    subst hx
    exact next_whenClocked hclk (opSfuLoadWrite_of_unlatched hload hwritten hlatched)

end Sys2Proof.Machine
end

section
/-! PROOFS. KV.ALLOC in its four modes (R186, R191, R193, R196). -/

namespace Sys2Proof.Machine

open Sys2Proof

/-! ### The mode and the pool of a command -/

theorem withPool_of_pool {p : Nat} {k : KvPool} {s : State} (hpool : s.kv.get none p = some k)
    (f : CmdId → Nat → Entry → KvPool → State → State × Reply) (c : CmdId) (e : Entry) :
    withPool f c p e s = f c p e k s := by
  unfold withPool
  rw [hpool]

section Mode

variable {p : Nat} {e : Entry} {s : State} (c : CmdId)

theorem kvAllocBody_of_poolMode (hmode : fld (e.arg 0) 0 2 = 0) : kvAllocBody c p e s = kvAllocPool c p e s := by
  unfold kvAllocBody
  rw [hmode]
  rfl

variable {k : KvPool} (hpool : s.kv.get none p = some k)
include hpool

theorem kvAllocBody_of_freshMode (hmode : fld (e.arg 0) 0 2 = 1) :
    kvAllocBody c p e s = kvAllocFresh c p e k s := by
  unfold kvAllocBody
  rw [hmode]
  exact withPool_of_pool hpool ..

theorem kvAllocBody_of_shareMode (hmode : fld (e.arg 0) 0 2 = 2) :
    kvAllocBody c p e s = kvAllocShare c p e k s := by
  unfold kvAllocBody
  rw [hmode]
  exact withPool_of_pool hpool ..

theorem kvAllocBody_of_writeMode (hmode : fld (e.arg 0) 0 2 = 3) :
    kvAllocBody c p e s = kvAllocWrite c p e k s := by
  unfold kvAllocBody
  rw [hmode]
  exact withPool_of_pool hpool ..

end Mode

/-! ### POOL -/

/-- The pool of `n` blocks that an entry in mode POOL describes, with the pages of its store and a key. -/
def kvEntryPool (e : Entry) (n : Nat) (ppns : List Nat) (key : BitVec 128) : KvPool :=
  { heads := fld (e.arg 2) 0 7, dim := fld (e.arg 2) 7 9, fmt := fld (e.arg 2) 16 2, n := n
    vpn := fld (e.arg 1) 0 9, pages := fld (e.arg 1) 9 10, priv := ppns, key := key }

/-- Pages given to partition p for the store of its pool (R188). -/
def State.ownStore (p : Nat) (ppns : List Nat) (s : State) : State :=
  s.updXlt (fun x => { x with
    own := ppns.foldl (fun a k => a.put k { state := .owned, part := BitVec.ofNat 4 p, any := true }) x.own })

/-- The state with the pool of `n` blocks that an entry in mode POOL describes: the next free value is its key (R200),
and the first `r` FREE pages are its store. -/
def State.createPool (p : Nat) (e : Entry) (n r : Nat) (s : State) : State :=
  (State.ownStore p ((s.pagesIn .free).take r) { s with free := s.free + 1 }).setPool p
    (kvEntryPool e n ((s.pagesIn .free).take r) (Config.kvKey s.free))

/-- POOL without a pool, over data pages R187 admits, with enough FREE pages and enough quota for its store. -/
theorem kvAllocPool_of_room {p n r : Nat} {e : Entry} {s : State} (hnone : s.kv.get none p = none)
    (hn : n = kvBlocks (fld (e.arg 1) 9 10) (fld (e.arg 2) 0 7) (fld (e.arg 2) 7 9) (fld (e.arg 2) 16 2))
    (hr : r = kvPrivatePages n) (hrange : fld (e.arg 1) 0 9 + fld (e.arg 1) 9 10 ≤ 512)
    (hdata : (List.range (fld (e.arg 1) 9 10)).all (fun i =>
      let t := s.dpte p (fld (e.arg 1) 0 9 + i)
      t.valid && t.write && t.any) = true)
    (hfree : r ≤ (s.pagesIn .free).length) (hquota : s.pagesHeld p + r ≤ (s.part p).quota.toNat) (c : CmdId) :
    kvAllocPool c p e s = (s.createPool p e n r,
      .done [word [(0, n)], word [(0, kvLog2Slot (fld (e.arg 2) 0 7) (fld (e.arg 2) 7 9) (fld (e.arg 2) 16 2))],
        word [(0, r)]]) := by
  unfold kvAllocPool
  dsimp only
  rw [← hn, ← hr, if_neg (by simp [hnone]), if_neg (by rw [hdata]; simpa using hrange),
    if_neg (by simp only [List.length_take, Bool.or_eq_true, decide_eq_true_eq]; omega)]
  rfl

/-! ### FRESH -/

/-- The output list of FRESH: the references of some blocks, 8 bytes each (Table 7-5). -/
def KvPool.refBytes (bs : List Nat) (k : KvPool) : List Byte := bs.flatMap (fun b => bytesLE 8 (k.ref b).toNat)

/-- The state with `n` FREE blocks of pool k taken, as many free values having told which. -/
def State.takeBlocks (p n : Nat) (k : KvPool) (s : State) : State :=
  State.setPool p (k.take n s.free).1 { s with free := s.free + n }

/-- FRESH with a buffer it may write and enough FREE blocks, after a reclaim where allowed. -/
theorem kvAllocFresh_of_reclaimed {p : Nat} {c : CmdId} {e : Entry} {k k2 : KvPool} {s : State}
    (hbuf : s.argWritable p c.ctx.toNat (fld (e.arg 2) 0 52) (8 * fld (e.arg 1) 0 13) = true)
    (hreclaim : k.reclaim (fld (e.arg 1) 0 13) (!bit (e.arg 0) 4) = some k2) :
    kvAllocFresh c p e k s =
      ((s.takeBlocks p (fld (e.arg 1) 0 13) k2).writeArg p c.ctx.toNat (fld (e.arg 2) 0 52)
          ((k2.take (fld (e.arg 1) 0 13) s.free).1.refBytes (k2.take (fld (e.arg 1) 0 13) s.free).2),
        .done [word [(0, fld (e.arg 1) 0 13)]]) := by
  unfold kvAllocFresh
  dsimp only
  rw [if_neg (by simp [hbuf]), hreclaim]
  rfl

/-- A buffer written from a state with the memory of another: the memory as from the other, all else as it was. -/
theorem State.writeArg_of_sameMem {f a : State} (hmem : f = f.withMemOf a) (p c x : Nat) (bs : List Byte) :
    f.writeArg p c x bs = f.withMemOf (a.writeArg p c x bs) :=
  (congrArg (State.writeArg p c x bs) hmem).trans (State.writeArg_onMem p c x bs f a)

/-! ### SHARE -/

/-- One holding more at time `now`: a CACHED block is PUBLISHED again (R193). -/
def KvBlock.share (now : FrameNo) (b : KvBlock) : KvBlock :=
  { b with count := b.count + 1, lastUse := now, state := if b.state = .cached then .published else b.state }

/-- The pool with a holding more on each of some blocks. -/
def KvPool.shareAll (now : FrameNo) (bs : List Nat) (k : KvPool) : KvPool :=
  bs.foldl (fun k x => k.upd x (KvBlock.share now)) k

/-- SHARE of a block that is not FREE, with no count of its line full. -/
theorem kvAllocShare_of_held {e : Entry} {k : KvPool} {b : Nat} (hnamed : k.named (e.arg 1) = some b)
    (hheld : (k.block b).state ≠ .free) (hcounts : (k.line b).any (fun x => (k.block x).count.toNat = 65535) = false)
    (c : CmdId) (p : Nat) (s : State) :
    kvAllocShare c p e k s = (s.setPool p (k.shareAll s.frm.count (k.line b)),
      .done [word [(0, ((k.shareAll s.frm.count (k.line b)).block b).count.toNat)]]) := by
  unfold kvAllocShare
  rw [hnamed]
  exact (if_neg hheld).trans (if_neg (Bool.eq_false_iff.1 hcounts))

/-! ### WRITE -/

/-- The block a copy on write goes to. -/
def State.copyTarget (k : KvPool) (s : State) : Nat := (k.take 1 s.free).2.headD 0

/-- The copy that a WRITE of block b starts, from pool k (R197). -/
def State.copyOf (c : CmdId) (p b : Nat) (k : KvPool) (s : State) : KvCopy :=
  { cmd := c, ctx := c.ctx.toNat, orig := b, new := s.copyTarget k, admSeq := s.adm.nextSeq
    desc := kvCopyDesc (s.lowestTiller p) (k.dva b) (k.dva (s.copyTarget k)) (kvBlockSize k.heads k.dim k.fmt) }

/-- The state with that copy started: its target taken, and the copy next in the order of admissions. -/
def State.startCopy (c : CmdId) (p b : Nat) (k : KvPool) (s : State) : State :=
  let r := (k.take 1 s.free).1
  (State.setPool p { r with copies := r.copies ++ [s.copyOf c p b k] } { s with free := s.free + 1 }).updAdm
    (fun a => { a with nextSeq := a.nextSeq + 1 })

section Write

variable {e : Entry} {k : KvPool} {b : Nat} (hnamed : k.named (e.arg 1) = some b)
include hnamed

/-- WRITE of a PRIVATE block held once: the block itself (R196). -/
theorem kvAllocWrite_of_alone (hpriv : (k.block b).state = .priv) (hcount : (k.block b).count = 1) (c : CmdId) (p : Nat)
    (s : State) : kvAllocWrite c p e k s = (s, .done [k.ref b, 0]) := by
  unfold kvAllocWrite
  rw [hnamed]
  exact (if_neg (by simp [hpriv])).trans (if_pos (by simp [hpriv, hcount]))

/-- WRITE of a block held by others too, or published, with a FREE block for the copy (R196, R197). -/
theorem kvAllocWrite_of_shared {k2 : KvPool} (hfree : (k.block b).state ≠ .free)
    (hcached : (k.block b).state ≠ .cached) (hshared : (k.block b).state ≠ .priv ∨ (k.block b).count ≠ 1)
    (hreclaim : k.reclaim 1 (!bit (e.arg 0) 4) = some k2) (c : CmdId) (p : Nat) (s : State) :
    kvAllocWrite c p e k s = (s.startCopy c p b k2, .later) := by
  unfold kvAllocWrite
  rw [hnamed]
  dsimp only
  have halone : ¬ (decide ((k.block b).state = .priv) && decide ((k.block b).count = 1)) = true := fun h =>
    have ⟨hpriv, hcount⟩ := (Bool.and_eq_true ..).mp h
    hshared.elim (absurd (of_decide_eq_true hpriv)) (absurd (of_decide_eq_true hcount))
  rw [if_neg (by simp [hfree, hcached]), if_neg halone, hreclaim]
  rfl

end Write

/-- Settles O9: each mode is the equation of its body on the state with the ticket entered, which reads as the state
before. The key of a pool and the FREE blocks taken are free values (log entry 48). -/
theorem kvAllocCompletes : Obligations.KvAllocCompletes := by
  refine ⟨?_, ?_, ?_, ?_, ?_⟩
  · intro m e s a h d f n r hacc ha hnone hh hd hf hn hr hrange hdata hfree hquota
    subst ha hh hd hf
    obtain ⟨hserve, hanswer⟩ := serve_done hacc (Eq.trans (kvAllocBody_of_poolMode _ (Entry.mode_0_2_0 e))
      (kvAllocPool_of_room (s := s.entered m.val specKvAlloc.opcode (e.withMode 0 2 0)) hnone hn hr hrange hdata hfree
        hquota _)) rfl rfl
    refine ⟨_, rfl, hanswer, ?_, ?_⟩
    · rw [hserve, State.finish_kv]
      exact State.setPool_pool ..
    · rw [hserve, State.finish_free]
      rfl
  · intro m e s a k k2 n u hacc ha hn hpool hbuf hreclaim hu
    subst ha hn hu
    have hfresh := kvAllocFresh_of_reclaimed (s := s.entered m.val specKvAlloc.opcode (e.withMode 0 2 1))
      (c := cmdIdOf s.nextUid m.val specKvAlloc.opcode (e.withMode 0 2 1)) hbuf hreclaim
    rw [State.writeArg_of_sameMem (a := s) rfl] at hfresh
    obtain ⟨hserve, hanswer⟩ := serve_done hacc
      (Eq.trans (kvAllocBody_of_freshMode _ hpool (Entry.mode_0_2_1 e)) hfresh) rfl rfl
    refine ⟨_, rfl, hanswer, ?_, ?_, ?_, ?_, ?_⟩
    · rw [hserve, State.finish_kv]
      exact State.setPool_pool ..
    · rw [hserve, State.finish_free]
      rfl
    · rw [hserve, State.finish_dram]
      rfl
    · rw [hserve, State.finish_spad]
      rfl
    · rw [hserve, State.finish_host]
      rfl
  · intro m e s a k k2 b hacc ha hpool hnamed hheld hcounts hk2
    subst ha hk2
    obtain ⟨hserve, hanswer⟩ := serve_done hacc (Eq.trans (kvAllocBody_of_shareMode _ hpool (Entry.mode_0_2_2 e))
      (kvAllocShare_of_held hnamed hheld hcounts ..)) rfl rfl
    refine ⟨_, rfl, hanswer, ?_⟩
    rw [hserve, State.finish_kv]
    exact State.setPool_pool ..
  · intro m e s a k b hacc ha hpool hnamed hpriv hcount
    subst ha
    obtain ⟨hserve, hanswer⟩ := serve_done hacc (Eq.trans (kvAllocBody_of_writeMode _ hpool (Entry.mode_0_2_3 e))
      (kvAllocWrite_of_alone hnamed hpriv hcount ..)) rfl rfl
    exact ⟨_, rfl, hanswer, by rw [hserve, State.finish_kv, State.entered_kv]⟩
  · intro m e s a k k2 b n hacc ha hpool hnamed hfree hcached hshared hreclaim hn
    subst ha hn
    have hserve := serve_later hacc (Eq.trans (kvAllocBody_of_writeMode _ hpool (Entry.mode_0_2_3 e))
      (kvAllocWrite_of_shared hnamed hfree hcached hshared hreclaim ..))
    exact ⟨_, congrArg Host.Outcome.next hserve, State.setPool_pool .., rfl⟩

end Sys2Proof.Machine
end

section
/-! PROOFS. The SFU commands that load and unload the slots (R214, R223, R228, R229). -/

namespace Sys2Proof.Machine

open Sys2Proof

/-! ### Reading a command's buffer -/

theorem OnMem.eq_withMemOf {g : State → State} (hg : OnMem g) (s : State) : g s = s.withMemOf (g s) := hg s s

theorem OnMem.ite {b : State → Bool} {g h : State → State} (hb : ∀ f a : State, b (f.withMemOf a) = b a)
    (hg : OnMem g) (hh : OnMem h) : OnMem (fun s => if b s then g s else h s) := fun f a => by
  dsimp only
  rw [hb]
  split
  · exact hg f a
  · exact hh f a

theorem OnMem.comp {g h : State → State} (hh : OnMem h) (hg : OnMem g) : OnMem (fun s => h (g s)) := fun f a =>
  (congrArg h (hg f a)).trans (hh f (g a))

theorem State.markUe_onMem (q : Phys) : OnMem (State.markUe q) := fun _ _ => by cases q <;> rfl

theorem State.triedLine_onMem (x : Nat) : OnMem (State.triedLine x) := fun _ _ => rfl

/-- A word with an uncorrectable error lies in the `k` bytes at a place. -/
def State.lineLost (k : Nat) (q : Phys) (s : State) : Bool :=
  (s.badWords q k).any (fun x => s.eccOf q.isSpad x = some true)

theorem State.lineLost_withMemOf (k : Nat) (q : Phys) (f a : State) :
    (f.withMemOf a).lineLost k q = a.lineLost k q := rfl

theorem State.seeLine_eq (k : Nat) (q : Phys) : State.seeLine k q = fun s =>
    if q.isHost then s
    else if s.lineLost k q then s.markUe q
    else (s.badWords q k).foldl (fun s _ => s.countCorrected q) s := rfl

theorem State.seeLine_onMem (k : Nat) (q : Phys) : OnMem (State.seeLine k q) := by
  rw [State.seeLine_eq]
  exact OnMem.ite (b := fun _ => q.isHost) (fun _ _ => rfl) (fun _ _ => rfl)
    (OnMem.ite (State.lineLost_withMemOf k q) (State.markUe_onMem q)
      (fun f a => foldl_onMem (fun _ => State.countCorrected_onMem q) (a.badWords q k) f a))

section SeeArg

variable {p c x : Nat} {s : State}

/-- Reading stops at a line without a place (R74). -/
theorem State.seeArg_of_no_place (hplace : s.choeskPlace p c false x = none) (fuel n : Nat) :
    s.seeArg p c (fuel + 1) x n =
      if dvaSpace x = 1 then s.triedLine (s.choeskBase p (dvaWin x) + x % 2 ^ 30) else s := by
  unfold State.seeArg
  rw [hplace]

/-- A line with a place is seen, and the lines behind it unless it is lost. -/
theorem State.seeArg_of_place {q : Phys} (hplace : s.choeskPlace p c false x = some q) (fuel n : Nat) :
    s.seeArg p c (fuel + 1) x n =
      if s.lineLost (min n (64 - x % 64)) q then s.seeLine (min n (64 - x % 64)) q
      else (s.seeLine (min n (64 - x % 64)) q).seeArg p c fuel (x + min n (64 - x % 64)) (n - min n (64 - x % 64)) := by
  rw [State.seeArg, hplace]
  rfl

end SeeArg

theorem State.seeArg_onMem (p c fuel x n : Nat) : OnMem (State.seeArg p c fuel x n) := by
  induction fuel generalizing x n with
  | zero => exact fun _ _ => rfl
  | succ fuel ih =>
    intro f a
    cases hplace : a.choeskPlace p c false x with
    | none =>
      rw [State.seeArg_of_no_place hplace, State.seeArg_of_no_place (s := f.withMemOf a) hplace]
      split
      · exact State.triedLine_onMem _ f a
      · rfl
    | some q =>
      rw [State.seeArg_of_place hplace, State.seeArg_of_place (s := f.withMemOf a) hplace]
      exact OnMem.ite (State.lineLost_withMemOf _ q) (State.seeLine_onMem _ q)
        ((ih _ _).comp (State.seeLine_onMem _ q)) f a

/-- Reading a buffer works on memory alone: it counts the errors it meets. -/
theorem State.argRead_onMem (p c x n : Nat) : OnMem (State.argRead p c x n) := State.seeArg_onMem p c _ x n

section Read

variable (p c x n : Nat) (s : State)

@[simp] theorem State.argRead_mb (m : Nat) : (s.argRead p c x n).mb m = s.mb m := by
  rw [(State.argRead_onMem p c x n).eq_withMemOf s]
  rfl

@[simp] theorem State.argRead_frm : (s.argRead p c x n).frm = s.frm := by
  rw [(State.argRead_onMem p c x n).eq_withMemOf s]
  rfl

@[simp] theorem State.argRead_sfu : (s.argRead p c x n).sfu = s.sfu := by
  rw [(State.argRead_onMem p c x n).eq_withMemOf s]
  rfl

@[simp] theorem State.programBad_argRead (q : Nat) (bs : List Byte) :
    (s.argRead p c x n).programBad q bs = s.programBad q bs := by
  rw [(State.argRead_onMem p c x n).eq_withMemOf s]
  rfl

end Read

/-! ### What waits at a slot -/

/-- A load or an unload waits at its slot behind what waits there (R228). -/
def State.queueAct (key : Nat) (a : SlotAct) (s : State) : State :=
  s.updSlot key (fun x => { x with acts := x.acts ++ [a] })

/-- A loaded program of partition p names the table in a slot (R229). -/
def State.tableNamed (p slot : Nat) (s : State) : Bool :=
  (List.range 8).any (fun j => (s.sfuSlot (slotKey p (8 + j))).loaded &&
    (progTables (s.sfuSlot (slotKey p (8 + j))).image).contains slot)

/-- The slot that an SFU.UNLOAD_TABLE unloads: a program's with bit 8 set, a table's without. -/
def unloadKey (p : Nat) (e : Entry) : Nat :=
  slotKey p (if bit (e.arg 0) 8 then 8 + fld (e.arg 0) 0 3 else fld (e.arg 0) 0 3)

@[simp] theorem State.acts_queueAct (key : Nat) (a : SlotAct) (s : State) :
    ((s.queueAct key a).sfuSlot key).acts = (s.sfuSlot key).acts ++ [a] :=
  congrArg SfuSlot.acts (State.sfuSlot_updSlot_self ..)

theorem State.sfuSlot_queueAct_ne {j key : Nat} (h : j ≠ key) (a : SlotAct) (s : State) :
    (s.queueAct key a).sfuSlot j = s.sfuSlot j := State.sfuSlot_updSlot_ne h ..

theorem State.sfuSlot_of_sfu {s t : State} (h : t.sfu = s.sfu) (key : Nat) : t.sfuSlot key = s.sfuSlot key := by
  rw [State.sfuSlot, h]
  rfl

/-! ### The bodies -/

section Load

variable {c : CmdId} {p : Nat} {e : Entry} {s : State} {bs : List Byte}

section Table

variable (hread : s.readArg p c.ctx.toNat (fld (e.arg 1) 0 52) (4 * fld (e.arg 2) 0 10) = some bs)
  (hsize : 64 + 12 * imgSegs bs = bs.length)
include hread hsize

/-- A table image that passes its checks waits at its slot. -/
theorem sfuLoadTableBody_of_good (hgood : tableBad bs = none) :
    sfuLoadTableBody c p e s =
      ((s.argRead p c.ctx.toNat (fld (e.arg 1) 0 52) (4 * fld (e.arg 2) 0 10)).queueAct
        (slotKey p (fld (e.arg 0) 0 3)) (.load c bs), .later) := by
  unfold sfuLoadTableBody State.takeArg
  rw [hread]
  dsimp only
  rw [if_neg (by simp [hsize]), hgood]
  rfl

/-- A table image that fails its checks is refused with the offset of its first fault (R214). -/
theorem sfuLoadTableBody_of_bad {o : Nat} (hbad : tableBad bs = some o) :
    sfuLoadTableBody c p e s =
      (s.argRead p c.ctx.toNat (fld (e.arg 1) 0 52) (4 * fld (e.arg 2) 0 10),
        .fail .badCommand .outOfRange [word [(0, o)]]) := by
  unfold sfuLoadTableBody State.takeArg
  rw [hread]
  dsimp only
  rw [if_neg (by simp [hsize]), hbad]

end Table

/-- A program image that passes its checks waits at its slot. -/
theorem sfuLoadProgramBody_of_good
    (hread : s.readArg p c.ctx.toNat (fld (e.arg 1) 0 52) (8 + 8 * fld (e.arg 2) 0 6) = some bs)
    (hsteps : progSteps bs = fld (e.arg 2) 0 6) (hgood : s.programBad p bs = none) :
    sfuLoadProgramBody c p e s =
      ((s.argRead p c.ctx.toNat (fld (e.arg 1) 0 52) (8 + 8 * fld (e.arg 2) 0 6)).queueAct
        (slotKey p (8 + fld (e.arg 0) 0 3)) (.load c bs), .later) := by
  unfold sfuLoadProgramBody State.takeArg
  rw [hread]
  dsimp only
  rw [if_neg (by simp [hsteps]), State.programBad_argRead, hgood]
  rfl

end Load

section Unload

variable {p : Nat} {e : Entry} {s : State}

theorem sfuUnloadTableBody_eq (c : CmdId) (p : Nat) (e : Entry) (s : State) :
    sfuUnloadTableBody c p e s =
      if !bit (e.arg 0) 8 && s.tableNamed p (fld (e.arg 0) 0 3) then (s, .bad .badState)
      else if !(s.sfuSlot (unloadKey p e)).loaded && (s.sfuSlot (unloadKey p e)).acts.isEmpty then
        (s, .done [word [(0, s.frm.count.toNat)], 1])
      else (s.queueAct (unloadKey p e) (.unload c), .later) := rfl

/-- A table that a loaded program names is not unloaded (R229). -/
theorem sfuUnloadTableBody_of_named (htable : bit (e.arg 0) 8 = false)
    (hnamed : s.tableNamed p (fld (e.arg 0) 0 3) = true) (c : CmdId) :
    sfuUnloadTableBody c p e s = (s, .bad .badState) := by
  rw [sfuUnloadTableBody_eq, if_pos (by simp [htable, hnamed])]

variable (hfree : bit (e.arg 0) 8 = true ∨ s.tableNamed p (fld (e.arg 0) 0 3) = false)
include hfree

/-- An empty slot at which nothing waits has no image to unload. -/
theorem sfuUnloadTableBody_of_empty (hloaded : (s.sfuSlot (unloadKey p e)).loaded = false)
    (hacts : (s.sfuSlot (unloadKey p e)).acts = []) (c : CmdId) :
    sfuUnloadTableBody c p e s = (s, .done [word [(0, s.frm.count.toNat)], 1]) := by
  rw [sfuUnloadTableBody_eq, if_neg (by obtain h | h := hfree <;> simp [h]), if_pos (by simp [hloaded, hacts])]

/-- The unload of a slot that is loaded, or at which something waits, waits in turn. -/
theorem sfuUnloadTableBody_of_used
    (hused : (s.sfuSlot (unloadKey p e)).loaded = true ∨ (s.sfuSlot (unloadKey p e)).acts ≠ []) (c : CmdId) :
    sfuUnloadTableBody c p e s = (s.queueAct (unloadKey p e) (.unload c), .later) := by
  rw [sfuUnloadTableBody_eq, if_neg (by obtain h | h := hfree <;> simp [h]),
    if_neg (by obtain h | h := hused <;> simp [h])]

end Unload

/-! ### The commands -/

section Serve

variable {sp : Spec} {m : Nat} {e : Entry} {s u : State} (hacc : Accepted sp m e s)
include hacc

/-- An accepted command that puts a load or an unload behind what waits at a slot: that slot gains it, the others stay
as they were. -/
theorem serve_queued {key : Nat} {a : SlotAct}
    (hbody : sp.body (cmdIdOf s.nextUid m sp.opcode e) (sp.on m e) e (s.entered m sp.opcode e) =
      (u.queueAct key a, .later))
    (hsfu : u.sfu = s.sfu) :
    ((serve sp m e s).sfuSlot key).acts = (s.sfuSlot key).acts ++ [a] ∧
      ∀ k, k ≠ key → (serve sp m e s).sfuSlot k = s.sfuSlot k := by
  rw [serve_later hacc hbody]
  refine ⟨?_, fun k hk => ?_⟩
  · rw [State.acts_queueAct, State.sfuSlot_of_sfu hsfu]
  · rw [State.sfuSlot_queueAct_ne hk, State.sfuSlot_of_sfu hsfu]

/-- An accepted command that fails after its body has left its mailbox and the frame number alone: what the body
leaves, with its record. -/
theorem serve_failed {oc : Oc} {rs : Reason} {ws : List W64}
    (hbody : sp.body (cmdIdOf s.nextUid m sp.opcode e) (sp.on m e) e (s.entered m sp.opcode e) = (u, .fail oc rs ws))
    (hmb : u.mb m = (s.entered m sp.opcode e).mb m) (hfrm : u.frm.count = s.frm.count) :
    serve sp m e s = u.finish (cmdIdOf s.nextUid m sp.opcode e) oc rs ws ∧
      Answered sp m e oc rs ws s (serve sp m e s) := by
  have hserve := serve_accepted hacc
  rw [hbody] at hserve
  dsimp only at hserve
  rw [hserve]
  exact ⟨rfl, finish_answered hacc _ _ _ hmb hfrm⟩

end Serve

/-- Settles O11: each clause is the equation of its body on the state with the ticket entered, which has the slots and
the buffers of the state before; reading the image leaves the slots, the mailboxes and the frame number alone. -/
theorem sfuCommandsComplete : Obligations.SfuCommandsComplete := by
  refine ⟨?_, ?_, ?_, ?_, ?_, ?_⟩
  · intro m e s bs hacc hread hsize hgood
    exact ⟨_, rfl, serve_queued hacc
      (sfuLoadTableBody_of_good (c := cmdIdOf s.nextUid m.val specSfuLoadTable.opcode e)
        ((State.readArg_entered _ e.ctx.toNat ..).trans hread) hsize hgood) (State.argRead_sfu ..)⟩
  · intro m e s bs hacc hread hsteps hgood
    exact ⟨_, rfl, serve_queued hacc
      (sfuLoadProgramBody_of_good (c := cmdIdOf s.nextUid m.val specSfuLoadProgram.opcode e)
        ((State.readArg_entered _ e.ctx.toNat ..).trans hread) hsteps hgood) (State.argRead_sfu ..)⟩
  · intro m e s k hacc hk hfree hused
    subst hk
    exact ⟨_, rfl, (serve_queued hacc
      (sfuUnloadTableBody_of_used (s := s.entered m.val specSfuUnloadTable.opcode e) hfree hused _) rfl).1⟩
  · intro m e s k hacc hk hfree hloaded hacts
    subst hk
    exact ⟨_, rfl, serve_query hacc
      (sfuUnloadTableBody_of_empty (s := s.entered m.val specSfuUnloadTable.opcode e) hfree hloaded hacts _)⟩
  · intro m e s hacc htable hnamed
    exact ⟨_, rfl, serve_refused hacc
      (sfuUnloadTableBody_of_named (s := s.entered m.val specSfuUnloadTable.opcode e) htable hnamed _)⟩
  · intro m e s bs o hacc hread hsize hbad
    obtain ⟨hserve, hanswer⟩ := serve_failed hacc
      (sfuLoadTableBody_of_bad (c := cmdIdOf s.nextUid m.val specSfuLoadTable.opcode e)
        ((State.readArg_entered _ e.ctx.toNat ..).trans hread) hsize hbad)
      (State.argRead_mb ..) (congrArg Frm.count (State.argRead_frm ..))
    refine ⟨_, rfl, ?_, hanswer⟩
    rw [hserve, State.finish_sfu, State.argRead_sfu, State.entered_sfu]

end Sys2Proof.Machine
end

section
/-! PROOFS. The events at the package that leads a span (R238, R257, R260, R261). -/

namespace Sys2Proof.Machine

open Sys2Proof
open Host (Outcome)

/-- With clocks, and while no activation holds Choesk's messages, a message's row gives what its operation gives. -/
theorem next_toChoesk {s t u : State} (hclk : s.clocked = true) (hact : s.mgt.act ≠ .restoring) (h : t = u)
    (src : Nat) (m : Msg) :
    (Outcome.next (s.whenClocked (s.toChoesk src m t)) : Outcome State Fault Refusal) = .next u :=
  next_whenClocked hclk ((State.toChoesk_of hact src m t).trans h)

/-! ### Span-holds -/

/-- The span-hold that a notice of an overrun would begin: the frame after the next boundary (R257). -/
def State.nextHold (s : State) : FrameNo := if s.frm.phase = .slack then s.frm.count + 2 else s.frm.count + 1

section Holds

variable {span : BitVec 16} {l : LeadSpan} {s : State}

theorem opOverrunNoticeReceive_of_not_lead (hlead : s.pln.leads.find? (fun l => l.span == span) = none)
    (frame : FrameNo) (pkg : Fin 128) : opOverrunNoticeReceive span frame pkg s = s := by
  unfold opOverrunNoticeReceive
  rw [hlead]
  cases s.span? span <;> rfl

/-- A hold frame that would overlap an announced one is not announced again. -/
theorem opOverrunNoticeReceive_of_overlap {k : FrameNo} (hlead : s.pln.leads.find? (fun l => l.span == span) = some l)
    (hmem : k ∈ l.holds) (hnear : (frameDiff k s.nextHold).natAbs ≤ 1) (frame : FrameNo) (pkg : Fin 128) :
    opOverrunNoticeReceive span frame pkg s = s := by
  have hoverlap : l.holds.any (fun k => decide ((frameDiff k s.nextHold).natAbs ≤ 1)) = true :=
    List.any_eq_true.2 ⟨k, hmem, decide_eq_true hnear⟩
  unfold opOverrunNoticeReceive
  rw [hlead]
  cases s.span? span with
  | none => rfl
  | some x => exact if_pos (Bool.or_eq_true_iff.2 (.inr hoverlap))

/-- A lead of an ACTIVE span announces the hold frames with the ρ behind all hold frames to come, and takes the
span-hold itself (log entry 62). -/
theorem opOverrunNoticeReceive_of_clear {x : Span} (hspan : s.span? span = some x)
    (hlead : s.pln.leads.find? (fun l => l.span == span) = some l) (hself : x.lead = s.self)
    (hactive : x.state = .active)
    (hclear : ∀ k, k ∈ l.holds → 1 < (frameDiff k s.nextHold).natAbs) (frame : FrameNo) (pkg : Fin 128) :
    opOverrunNoticeReceive span frame pkg s =
      let rho := x.rho + BitVec.ofNat 32 (2 * ((l.holds.filter (fun k => later k s.frm.count)).length + 1))
      ((((s.updLead span (fun l => { l with holds := l.holds ++ [s.nextHold] })).updPln (fun p =>
        { p with holds := satAdd p.holds 1 })).log 0x0500 [(0, span.toNat), (16, rho.toNat)]).sendAll
        (x.ring.filter (fun k => k != s.self)) (.spanHold span s.nextHold rho)).takeSpanHold span s.nextHold rho := by
  have hnone : l.holds.any (fun k => decide ((frameDiff k s.nextHold).natAbs ≤ 1)) = false :=
    List.any_eq_false.2 fun k hk => by simpa using hclear k hk
  have hguard : ¬(x.lead != s.self || x.state != .active ||
      l.holds.any (fun k => decide ((frameDiff k s.nextHold).natAbs ≤ 1))) = true := by
    simp [hself, hactive, hnone]
  unfold opOverrunNoticeReceive
  rw [hspan, hlead]
  dsimp only
  refine (if_neg hguard).trans ?_
  rw [State.log_self]
  rfl

theorem State.takeSpanHold_of_new {x : Span} {h : FrameNo} (hspan : s.span? span = some x)
    (hnew : s.pln.spanHolds.any (fun x => x.1 == span && x.2.1 == h) = false) (rho : BitVec 32) :
    s.takeSpanHold span h rho = s.updPln (fun p => { p with spanHolds := p.spanHolds ++ [(span, h, rho)] }) :=
  if_neg (by simp [hspan, hnew])

theorem State.takeSpanHold_of_known {h : FrameNo}
    (hknown : s.pln.spanHolds.any (fun x => x.1 == span && x.2.1 == h) = true) (rho : BitVec 32) :
    s.takeSpanHold span h rho = s :=
  if_pos (Bool.or_eq_true_iff.2 (.inr hknown))

end Holds

/-! ### Declarations at the lead -/

/-- The entry of a declaration under a flow number, behind all earlier admissions (R238). -/
def LeadSpan.entryOf (num pkg : Nat) (d : Declared) (l : LeadSpan) : Flow :=
  { num := num, seq := l.nextSeq, pkg := pkg, key := d.key, src := d.src, dst := d.dst, n := d.n, earliest := d.earliest
    latest := d.latest, r := d.r, c := d.c }

/-- The lead enters a flow in its table, under the next admission sequence (R238). -/
def State.enterFlow (span : BitVec 16) (x : Flow) (s : State) : State :=
  s.updLead span (fun l => { l with flows := l.flows ++ [x], nextSeq := l.nextSeq + 1 })

@[simp] theorem State.takeFlowResult_frm (d : Declared) (oc : Oc) (rs : Reason) (ws : List W64) (final : Bool)
    (s : State) : (s.takeFlowResult d oc rs ws final).frm = s.frm := by
  unfold State.takeFlowResult
  cases d.key with
  | cmd c =>
    dsimp only
    split
    · exact State.finish_frm ..
    · split
      · exact State.stage_frm ..
      · rfl
  | edge g tree target gen => rfl
  | rest f => rfl

@[simp] theorem State.answerFlow_frm (span : BitVec 16) (x : Flow) (oc : Oc) (rs : Reason) (final : Bool) (s : State) :
    (s.answerFlow span x oc rs final).frm = s.frm := by
  unfold State.answerFlow
  dsimp only
  split
  · exact State.takeFlowResult_frm ..
  · exact State.send_frm ..

/-- The ADMITTED record of a flow of another package goes to it. -/
theorem State.answerFlow_admitted_of_other {x : Flow} {s : State} (h : x.pkg ≠ s.self) (span : BitVec 16) :
    s.answerFlow span x .admitted .none false =
      s.send x.pkg (.flowResult (x.declared span) .admitted .none [word [(0, x.num)], word [(0, x.seq.toNat)]] false) :=
  if_neg h

section Declaration

variable {d : Declared} {pkg : Fin 128} {l : LeadSpan} {sp : Span} {s : State}
  (hlead : s.pln.leads.find? (fun l => l.span == d.span) = some l) (hspan : s.span? d.span = some sp)
  (hself : sp.lead = s.self)

include hlead hspan hself

theorem opFlowDeclarationReceive_of_rest {f : FrameNo} (hkey : d.key = .rest f) :
    opFlowDeclarationReceive d pkg s = s.updLead d.span (fun l => l.continue_ s.frm.count d f pkg.val) := by
  unfold opFlowDeclarationReceive
  rw [hlead, hspan]
  dsimp only
  rw [if_neg (by simp [hself]), hkey]

theorem opFlowDeclarationReceive_of_full (hkey : ∀ f, d.key ≠ .rest f) (hfull : freeFlowNum l.flows = none) :
    opFlowDeclarationReceive d pkg s = s.answerFlow d.span {
      num := 0, seq := 0, pkg := pkg.val, key := d.key, src := d.src, dst := d.dst, n := d.n
      earliest := d.earliest, latest := d.latest } .noResource .tableFull true := by
  unfold opFlowDeclarationReceive
  rw [hlead, hspan]
  dsimp only
  rw [if_neg (by simp [hself])]
  split
  · exact absurd ‹_› (hkey _)
  · rw [hfull]

/-- A declaration with a free number is entered and admitted; one whose latest frame no pass will plan any more ends at
once, with what was placed (R240). -/
theorem opFlowDeclarationReceive_of_free {num : Nat} (hkey : ∀ f, d.key ≠ .rest f)
    (hfree : freeFlowNum l.flows = some num) :
    opFlowDeclarationReceive d pkg s =
      let x := l.entryOf num pkg.val d
      let t := (s.enterFlow d.span x).answerFlow d.span x .admitted .none false
      if l.tooLate s.frm.count sp.rho d.latest then (t.answerFlow d.span x .partly .bestSoFar true).freeFlow d.span x
      else t := by
  unfold opFlowDeclarationReceive
  rw [hlead, hspan]
  dsimp only
  rw [if_neg (by simp [hself])]
  split
  · exact absurd ‹_› (hkey _)
  · rw [hfree]
    dsimp only
    rw [State.answerFlow_frm]
    rfl

end Declaration

/-- Settles O23: each clause is the equation of its operation. -/
theorem spanPlannerEventsComplete : Obligations.SpanPlannerEventsComplete := by
  refine ⟨?_, ?_, ?_, ?_, ?_, ?_, ?_, ?_, ?_, ?_, ?_⟩
  · intro span frame h pkg x l rho s hclk hact hspan hlead hself hactive hh hclear hrho
    subst hh hrho
    exact next_toChoesk hclk hact (opOverrunNoticeReceive_of_clear hspan hlead hself hactive hclear frame pkg) _ _
  · intro span frame h k pkg l s hclk hact hlead hh hmem hnear
    subst hh
    exact next_toChoesk hclk hact (opOverrunNoticeReceive_of_overlap hlead hmem hnear frame pkg) _ _
  · intro span frame pkg s hclk hact hlead
    exact next_toChoesk hclk hact (opOverrunNoticeReceive_of_not_lead hlead frame pkg) _ _
  · intro span h rho x s hclk hact hspan hnew
    exact next_toChoesk hclk hact (State.takeSpanHold_of_new hspan hnew rho) _ _
  · intro span h rho s hclk hact hknown
    exact next_toChoesk hclk hact (State.takeSpanHold_of_known hknown rho) _ _
  · intro d pkg l sp num x s hclk hact hlead hspan hself hkey hfree hother hlate hx
    subst hx
    refine next_toChoesk hclk hact ((opFlowDeclarationReceive_of_free hlead hspan hself hkey hfree).trans ?_) _ _
    exact (if_neg (by simp [hlate])).trans
      (State.answerFlow_admitted_of_other (s := s.enterFlow d.span (l.entryOf num pkg.val d)) hother d.span)
  · intro d pkg l sp num x s hclk hact hlead hspan hself hkey hfree hlate hx
    subst hx
    exact next_toChoesk hclk hact
      ((opFlowDeclarationReceive_of_free hlead hspan hself hkey hfree).trans (if_pos hlate)) _ _
  · intro d pkg l sp f s hclk hact hlead hspan hself hkey
    exact next_toChoesk hclk hact (opFlowDeclarationReceive_of_rest hlead hspan hself hkey) _ _
  · intro d pkg l sp s hclk hact hlead hspan hself hkey hfull
    exact next_toChoesk hclk hact (opFlowDeclarationReceive_of_full hlead hspan hself hkey hfull) _ _
  · intro frame port health width pkg s hclk hact
    exact next_toChoesk (t := opHealthNoticeReceive frame port health width pkg s) hclk hact rfl _ _
  · intro s hclk
    exact next_whenClocked (t := opPlannerTakeover s) hclk rfl

end Sys2Proof.Machine
end

section
/-! PROOFS. The FLOW commands (R238, R264). -/

namespace Sys2Proof.Machine

open Sys2Proof
open Host (Outcome)

section Flow

variable {p : Nat} {e : Entry} {x : Span} {s : State}

/-- FLOW.DECLARE between two members of an ACTIVE span declares the flow at the span's lead (R238). -/
theorem flowDeclareBody_of_members (hspan : s.activeSpan p (e.arg 0) = .ok x)
    (hsrc : x.ring.contains (fld (e.arg 0) 16 7) = true) (hdst : x.ring.contains (fld (e.arg 0) 24 7) = true)
    (c : CmdId) :
    flowDeclareBody c p e s = (s.declare x.lead {
      span := x.id, num := 0, seq := 0, src := fld (e.arg 0) 16 7, dst := fld (e.arg 0) 24 7, n := fld (e.arg 0) 32 16
      earliest := BitVec.ofNat 48 (fld (e.arg 1) 0 48), latest := BitVec.ofNat 48 (fld (e.arg 2) 0 48)
      r := fld (e.arg 3) 0 5, c := fld (e.arg 3) 16 16, key := .cmd c }, .later) := by
  unfold flowDeclareBody
  rw [hspan]
  dsimp only
  rw [if_neg (by rw [hsrc, hdst]; decide)]

theorem flowWithdrawBody_of_lead (hspan : s.flowSpan p (e.arg 0) = some x) (hlead : x.lead = s.self) (c : CmdId) :
    flowWithdrawBody c p e s = (s.leadWithdraw x.id (fld (e.arg 0) 16 10) s.self (some c), .later) := by
  unfold flowWithdrawBody
  rw [hspan]
  exact if_pos hlead

theorem flowWithdrawBody_of_member (hspan : s.flowSpan p (e.arg 0) = some x) (hlead : x.lead ≠ s.self) (c : CmdId) :
    flowWithdrawBody c p e s =
      (s.send x.lead (.flowWithdraw x.id (fld (e.arg 0) 16 10) s.self (some c)), .later) := by
  unfold flowWithdrawBody
  rw [hspan]
  exact if_neg hlead

theorem flowQueryBody_of_lead (hspan : s.flowSpan p (e.arg 0) = some x) (hlead : x.lead = s.self) (c : CmdId) :
    flowQueryBody c p e s = (s.leadQuery x.id (fld (e.arg 0) 16 10) (bit (e.arg 0) 26)
      (BitVec.ofNat 48 (fld (e.arg 1) 0 48)) s.self c, .later) := by
  unfold flowQueryBody
  rw [hspan]
  exact if_pos hlead

theorem flowQueryBody_of_member (hspan : s.flowSpan p (e.arg 0) = some x) (hlead : x.lead ≠ s.self) (c : CmdId) :
    flowQueryBody c p e s = (s.send x.lead (.flowQuery x.id (fld (e.arg 0) 16 10) (bit (e.arg 0) 26)
      (BitVec.ofNat 48 (fld (e.arg 1) 0 48)) s.self c), .later) := by
  unfold flowQueryBody
  rw [hspan]
  exact if_neg hlead

end Flow

/-- Settles O12: each clause is the equation of its body on the state with the ticket entered, which has the spans and
the place of the state before. -/
theorem flowCommandsComplete : Obligations.FlowCommandsComplete := by
  refine ⟨?_, ?_, ?_, ?_, ?_⟩
  · intro m e s x hacc hspan hsrc hdst
    exact ⟨_, congrArg Outcome.next (serve_later hacc (flowDeclareBody_of_members
      (s := s.entered m.val specFlowDeclare.opcode e) hspan hsrc hdst _)), rfl⟩
  · intro m e s x hacc hspan hlead
    exact ⟨_, congrArg Outcome.next (serve_later hacc (flowWithdrawBody_of_lead
      (s := s.entered m.val specFlowWithdraw.opcode e) hspan hlead _)), rfl⟩
  · intro m e s x hacc hspan hlead
    exact ⟨_, congrArg Outcome.next (serve_later hacc (flowWithdrawBody_of_member
      (s := s.entered m.val specFlowWithdraw.opcode e) hspan hlead _)), rfl⟩
  · intro m e s x hacc hspan hlead
    exact ⟨_, congrArg Outcome.next (serve_later hacc (flowQueryBody_of_lead
      (s := s.entered m.val specFlowQuery.opcode e) hspan hlead _)), rfl⟩
  · intro m e s x hacc hspan hlead
    exact ⟨_, congrArg Outcome.next (serve_later hacc (flowQueryBody_of_member
      (s := s.entered m.val specFlowQuery.opcode e) hspan hlead _)), rfl⟩

end Sys2Proof.Machine
end

section
/-! PROOFS. The slot windows of the torus ports (R252, R254). -/

namespace Sys2Proof.Machine

open Sys2Proof
open Host (Outcome)

/-! ### Which window lets a cell out -/

/-- At the window of slot `k` of port `i` a cell may leave: the package is not stopped, the slot is one of the frame's,
and it is even where the port runs at half width (R252). -/
def State.WindowOpen (i k : Nat) (s : State) : Prop :=
  s.frm.phase ≠ .stopped ∧ k < s.slots ∧ (s.slotStep i = 2 → k % 2 = 0)

/-- The guard with which CELL_WINDOW begins lets every open window through. -/
theorem State.WindowOpen.guard {i k : Nat} {s : State} (h : s.WindowOpen i k) :
    ¬(decide (s.frm.phase = .stopped) || decide (s.slots ≤ k) ||
      (decide (s.slotStep i = 2) && decide (k % 2 = 1))) = true := by
  obtain ⟨hphase, hslot, heven⟩ := h
  simp only [Bool.or_eq_true, Bool.and_eq_true, decide_eq_true_eq]
  rintro ((hstopped | hpast) | ⟨hhalf, hodd⟩)
  · exact hphase hstopped
  · omega
  · have := heven hhalf
    omega

section Window

variable {port : Fin 12} {slot : BitVec 12} {s : State}

theorem opCellWindow_of_stopped (h : s.frm.phase = .stopped) : opCellWindow port slot s = s := if_pos (by simp [h])

theorem opCellWindow_of_odd (hhalf : s.slotStep port.val = 2) (hodd : slot.toNat % 2 = 1) :
    opCellWindow port slot s = s := if_pos (by simp [hhalf, hodd])

/-- A slot without an entry whose owner, if any, does not hold carries nothing. -/
theorem opCellWindow_of_no_hold (hentry : s.entryAt port.val slot.toNat = none)
    (hhold : ∀ p, s.slotOwner port.val slot.toNat = some p → (s.frmp p).hold = false) :
    opCellWindow port slot s = s := by
  unfold opCellWindow
  dsimp only
  split
  · rfl
  · rw [hentry]
    cases howner : s.slotOwner port.val slot.toNat with
    | none => rfl
    | some p => exact if_neg (by simp [hhold p howner])

theorem opCellWindow_of_hold {p : Nat} (hopen : s.WindowOpen port.val slot.toNat)
    (hentry : s.entryAt port.val slot.toNat = none) (howner : s.slotOwner port.val slot.toNat = some p)
    (hhold : (s.frmp p).hold = true) (hroom : slot.toNat + 2 ≤ s.slots) (husable : s.portUsable port.val = true) :
    opCellWindow port slot s = s.holdCell port.val slot.toNat p := by
  unfold opCellWindow
  rw [if_neg hopen.guard, hentry]
  dsimp only
  rw [howner]
  exact if_pos (by simp [hhold, hroom, husable])

variable {r : PlanRecord} {e : PlanEntry}

theorem opCellWindow_of_transit (hopen : s.WindowOpen port.val slot.toNat)
    (hentry : s.entryAt port.val slot.toNat = some (r, e)) (hport : e.inPort ≠ 15) :
    opCellWindow port slot s = s.forward port.val slot.toNat r e := by
  unfold opCellWindow
  rw [if_neg hopen.guard, hentry]
  exact if_pos (by simp [hport])

theorem opCellWindow_of_unusable (hopen : s.WindowOpen port.val slot.toNat)
    (hentry : s.entryAt port.val slot.toNat = some (r, e)) (hport : e.inPort = 15)
    (husable : s.portUsable port.val = false) : opCellWindow port slot s = s := by
  unfold opCellWindow
  rw [if_neg hopen.guard, hentry]
  dsimp only
  rw [if_neg (by simp [hport]), if_pos (by simp [husable])]

theorem opCellWindow_of_own (hopen : s.WindowOpen port.val slot.toNat)
    (hentry : s.entryAt port.val slot.toNat = some (r, e)) (hport : e.inPort = 15)
    (husable : s.portUsable port.val = true) (hedge : s.edgeOf r.span e.flow = none) :
    opCellWindow port slot s = s.originate port.val slot.toNat r e := by
  unfold opCellWindow
  rw [if_neg hopen.guard, hentry]
  dsimp only
  rw [if_neg (by simp [hport]), if_neg (by simp [husable]), hedge]

theorem opCellWindow_of_edge {g : Group} {x : Edge} (hopen : s.WindowOpen port.val slot.toNat)
    (hentry : s.entryAt port.val slot.toNat = some (r, e)) (hport : e.inPort = 15)
    (husable : s.portUsable port.val = true) (hedge : s.edgeOf r.span e.flow = some (g, x)) :
    opCellWindow port slot s = s.groupCell port.val slot.toNat g x r e := by
  unfold opCellWindow
  rw [if_neg hopen.guard, hentry]
  dsimp only
  rw [if_neg (by simp [hport]), if_neg (by simp [husable]), hedge]

end Window

/-! ### Forwarding -/

/-- The oldest waiting cell `c` of an entry's flow leaves its buffer. -/
def State.dropTransit (e : PlanEntry) (c : Transit) (s : State) : State :=
  s.updPln (fun q => { q with transit := q.transit.put e.inPort ((s.pln.transit.get [] e.inPort).erase c) })

section Forward

variable {port slot : Nat} {r : PlanRecord} {e : PlanEntry} {c : Transit} {s : State}

theorem State.forward_of_none
    (hcell : (s.pln.transit.get [] e.inPort).find? (fun c => c.data.span == r.span && c.data.flow == e.flow) = none) :
    s.forward port slot r e = s.emptyCell (s.spanPart r.span) port slot := by
  unfold State.forward
  dsimp only
  rw [hcell]

/-- A waiting cell is sent in its own frame, in a slot of its own partition and on a usable port (R252). -/
theorem State.forward_of_fits
    (hcell : (s.pln.transit.get [] e.inPort).find? (fun c => c.data.span == r.span && c.data.flow == e.flow) = some c)
    (howner : s.slotOwner port slot = some c.part) (hframe : c.frameLo = BitVec.ofNat 8 s.frm.count.toNat)
    (husable : s.portUsable port = true) :
    s.forward port slot r e = (s.dropTransit e c).cellOut port slot { c with hops := c.hops + 1 } := by
  unfold State.forward
  dsimp only
  rw [hcell]
  refine if_pos ?_
  simp only [Bool.and_eq_true, decide_eq_true_eq, beq_iff_eq]
  exact ⟨⟨howner, hframe⟩, husable⟩

/-- Any other waiting cell is discarded (R252). -/
theorem State.forward_of_unfit
    (hcell : (s.pln.transit.get [] e.inPort).find? (fun c => c.data.span == r.span && c.data.flow == e.flow) = some c)
    (hunfit : s.slotOwner port slot ≠ some c.part ∨ c.frameLo ≠ BitVec.ofNat 8 s.frm.count.toNat ∨
      s.portUsable port = false) :
    s.forward port slot r e = (s.dropTransit e c).discardCell c := by
  unfold State.forward
  dsimp only
  rw [hcell]
  refine if_neg ?_
  simp only [Bool.and_eq_true, decide_eq_true_eq, beq_iff_eq]
  rintro ⟨⟨howner, hframe⟩, husable⟩
  obtain h | h | h := hunfit
  · exact h howner
  · exact h hframe
  · exact Bool.false_ne_true (h.symm.trans husable)

end Forward

/-! ### Originating -/

section Originate

variable {port slot : Nat} {r : PlanRecord} {e : PlanEntry} {s : State}

theorem State.originate_of_ready {o : Op} {rest : List Op}
    (hsends : s.sendsFor r.span e.flow (planFrame r.rebase s.frm.count) = o :: rest) (hready : s.cellReady o = true) :
    s.originate port slot r e =
      (s.takeSend o).2.cellOut port slot (s.ownCell (s.spanPart r.span) slot (s.takeSend o).1 o.sendDst) := by
  unfold State.originate
  dsimp only
  rw [hsends]
  exact if_pos hready

/-- Where the earliest send is not ready, or none is left, the cell is EMPTY. -/
theorem State.originate_of_unready
    (hunready : ∀ o rest, s.sendsFor r.span e.flow (planFrame r.rebase s.frm.count) = o :: rest →
      s.cellReady o = false) :
    s.originate port slot r e = s.emptyCell (s.spanPart r.span) port slot := by
  unfold State.originate
  dsimp only
  cases hsends : s.sendsFor r.span e.flow (planFrame r.rebase s.frm.count) with
  | nil => rfl
  | cons o rest => exact if_neg (by simp [hunready o rest hsends])

end Originate

/-- Settles O24: each clause is the equation of the window in its case, with that of the forwarding or originating entry
where the slot has one. -/
theorem cellWindowsComplete : Obligations.CellWindowsComplete := by
  refine ⟨?_, ?_, ?_, ?_, ?_, ?_, ?_, ?_, ?_, ?_, ?_⟩
  · intro port slot s hclk hstopped
    exact next_whenClocked hclk (opCellWindow_of_stopped hstopped)
  · intro port slot s hclk hhalf hodd
    exact next_whenClocked hclk (opCellWindow_of_odd hhalf hodd)
  · intro port slot s hclk hentry hhold
    exact next_whenClocked hclk (opCellWindow_of_no_hold hentry hhold)
  · intro port slot p s hclk hphase hslot heven hentry howner hhold hroom husable
    exact next_whenClocked hclk
      (opCellWindow_of_hold ⟨hphase, hslot, heven⟩ hentry howner hhold hroom husable)
  · intro port slot r e c s hclk hphase hslot heven hentry hport hcell howner hframe husable
    exact next_whenClocked hclk ((opCellWindow_of_transit ⟨hphase, hslot, heven⟩ hentry hport).trans
      (State.forward_of_fits hcell howner hframe husable))
  · intro port slot r e c s hclk hphase hslot heven hentry hport hcell hunfit
    exact next_whenClocked hclk ((opCellWindow_of_transit ⟨hphase, hslot, heven⟩ hentry hport).trans
      (State.forward_of_unfit hcell hunfit))
  · intro port slot r e s hclk hphase hslot heven hentry hport hcell
    exact next_whenClocked hclk ((opCellWindow_of_transit ⟨hphase, hslot, heven⟩ hentry hport).trans
      (State.forward_of_none hcell))
  · intro port slot r e s hclk hphase hslot heven hentry hport husable
    exact next_whenClocked hclk (opCellWindow_of_unusable ⟨hphase, hslot, heven⟩ hentry hport husable)
  · intro port slot r e o rest s hclk hphase hslot heven hentry hport husable hedge hsends hready
    exact next_whenClocked hclk ((opCellWindow_of_own ⟨hphase, hslot, heven⟩ hentry hport husable hedge).trans
      (State.originate_of_ready hsends hready))
  · intro port slot r e s hclk hphase hslot heven hentry hport husable hedge hunready
    exact next_whenClocked hclk ((opCellWindow_of_own ⟨hphase, hslot, heven⟩ hentry hport husable hedge).trans
      (State.originate_of_unready hunready))
  · intro port slot r e g x s hclk hphase hslot heven hentry hport husable hedge
    exact next_whenClocked hclk (opCellWindow_of_edge ⟨hphase, hslot, heven⟩ hentry hport husable hedge)

end Sys2Proof.Machine
end

section
/-! PROOFS. The commands of groups and communication queues (R268, R284, R298). -/

namespace Sys2Proof.Machine

open Sys2Proof
open Host (Outcome)

/-! ### GROUP.DEFINE -/

/-- The bytes a GROUP.DEFINE names its members with: its axis descriptor, or the member list in its buffer (R267). -/
def State.groupBytes (p c : Nat) (e : Entry) (s : State) : Option (List Byte) :=
  if bit (e.arg 0) 24 then some (bytesLE 8 (e.arg 2).toNat)
  else s.readArg p c (fld (e.arg 2) 0 52) (4 * fld (e.arg 3) 0 8)

/-- The state once those bytes are read. -/
def State.groupRead (p c : Nat) (e : Entry) (s : State) : State :=
  if bit (e.arg 0) 24 then s else s.argRead p c (fld (e.arg 2) 0 52) (4 * fld (e.arg 3) 0 8)

/-- The members those bytes name, by rank. -/
def groupMembers (e : Entry) (bs : List Byte) : Option (List (Nat × Nat)) :=
  if bit (e.arg 0) 24 then some (axisMembers (e.arg 2)) else listMembers (fld (e.arg 3) 0 8) bs

/-- The rank of package `self` among members by rank. -/
def rankAmong (self : Nat) (ms : List (Nat × Nat)) : Nat := ((ms.map (·.1)).takeWhile (fun k => k != self)).length

/-- The entry of table index `i` that a GROUP.DEFINE describes, at the member of rank `r`. -/
def definedGroup (c : CmdId) (p : Nat) (e : Entry) (span : BitVec 16) (bs : List Byte) (ms : List (Nat × Nat))
    (i r : Nat) : Group :=
  { index := i, span := span, num := fld (e.arg 0) 16 8, part := p, ctx := (ms.getD r (0, 0)).2
    checked := bit (e.arg 0) 25, bf16In := bit (e.arg 0) 26, bf16Out := bit (e.arg 0) 27, lanes := fld (e.arg 0) 32 6
    cap := fld (e.arg 1) 0 31, members := ms, rank := r, order := List.range ms.length, crc := crc32c bs, cmd := some c }

theorem State.groupRead_onMem (p c : Nat) (e : Entry) : OnMem (State.groupRead p c e) :=
  OnMem.ite (b := fun _ => bit (e.arg 0) 24) (fun _ _ => rfl) (fun _ _ => rfl) (State.argRead_onMem p c _ _)

section Read

variable (p c : Nat) (e : Entry) (s : State)

@[simp] theorem State.groupRead_self : (s.groupRead p c e).self = s.self := by
  rw [(State.groupRead_onMem p c e).eq_withMemOf s]
  rfl

@[simp] theorem State.groupRead_red : (s.groupRead p c e).red = s.red := by
  rw [(State.groupRead_onMem p c e).eq_withMemOf s]
  rfl

@[simp] theorem State.groupOf_groupRead (span : BitVec 16) (num : Nat) :
    (s.groupRead p c e).groupOf span num = s.groupOf span num := by
  rw [State.groupOf, State.groupRead_red]
  rfl

@[simp] theorem State.freeGroup_groupRead : (s.groupRead p c e).freeGroup = s.freeGroup := by
  rw [(State.groupRead_onMem p c e).eq_withMemOf s]
  rfl

@[simp] theorem State.storeFull_groupRead (g : Group) : (s.groupRead p c e).storeFull g = s.storeFull g := by
  rw [(State.groupRead_onMem p c e).eq_withMemOf s]
  rfl

theorem State.takeArg_eq_groupBytes :
    (if bit (e.arg 0) 24 then (some (bytesLE 8 (e.arg 2).toNat), s)
      else s.takeArg p c (fld (e.arg 2) 0 52) (4 * fld (e.arg 3) 0 8)) = (s.groupBytes p c e, s.groupRead p c e) := by
  unfold State.groupBytes State.groupRead
  split <;> rfl

end Read

theorem State.enterGroup_of_room {g : Group} {s : State} (hroom : s.storeFull g = false) :
    s.enterGroup g = ((s.enterGroup g).1, .later) := by
  unfold State.enterGroup
  rw [hroom]
  rfl

/-- A GROUP.DEFINE of a new group whose members are distinct, on the span's ring, and one of them here. -/
theorem groupDefineBody_of_new {c : CmdId} {p i : Nat} {e : Entry} {x : Span} {bs : List Byte} {ms : List (Nat × Nat)}
    {s : State} (hspan : s.activeSpan p (e.arg 0) = .ok x) (hbytes : s.groupBytes p c.ctx.toNat e = some bs)
    (hms : groupMembers e bs = some ms) (hdistinct : (ms.map (·.1)).eraseDups.length = (ms.map (·.1)).length)
    (hring : (ms.map (·.1)).any (fun k => !x.ring.contains k) = false) (hself : (ms.map (·.1)).contains s.self = true)
    (hnew : s.groupOf x.id (fld (e.arg 0) 16 8) = none) (hfree : s.freeGroup = some i) :
    groupDefineBody c p e s =
      (s.groupRead p c.ctx.toNat e).enterGroup (definedGroup c p e x.id bs ms i (rankAmong s.self ms)) := by
  unfold groupDefineBody
  rw [hspan]
  dsimp only
  rw [State.takeArg_eq_groupBytes, hbytes]
  dsimp only
  rw [show (if bit (e.arg 0) 24 then some (axisMembers (e.arg 2)) else listMembers (fld (e.arg 3) 0 8) bs) = some ms
    from hms]
  dsimp only
  rw [if_neg (by simp [hdistinct]), if_neg (by rw [State.groupRead_self, hring, hself]; decide),
    if_neg (by simp [hnew]), State.freeGroup_groupRead, hfree, State.groupRead_self]
  rfl

/-! ### GROUP.RELEASE -/

/-- A group that is defined and has no queue is dropped, and the other members hear of the loss (R298). -/
theorem groupReleaseBody_of_unbound {p : Nat} {e : Entry} {g : Group} {s : State}
    (hgroup : (s.group? (fld (e.arg 0) 0 8)).filter (fun g => g.part == p) = some g) (hstate : g.state ≠ .defining)
    (hqueue : s.red.queues.any (fun q => q.group == g.index) = false) (c : CmdId) :
    groupReleaseBody c p e s =
      ((s.dropGroup g).sendAll ((g.members.map (·.1)).filter (fun k => k != s.self)) (.groupLoss g.span g.num s.self false),
        .done []) := by
  unfold groupReleaseBody
  rw [hgroup]
  exact if_neg (by simp [hstate, hqueue])

/-! ### COMMQ.CREATE and COMMQ.DESTROY -/

/-- The queue `q` that a COMMQ.CREATE binds to its group (R284). -/
def createdQueue (c : CmdId) (p q : Nat) (e : Entry) : Commq :=
  { part := p, queue := q, group := fld (e.arg 0) 8 8, ctx := c.ctx.toNat, ring := BitVec.ofNat 64 (fld (e.arg 1) 0 52)
    log2 := fld (e.arg 2) 0 4 }

/-- COMMQ.CREATE over a group in operation without a queue, with a ring it may write and a queue number that is free. -/
theorem commqCreateBody_of_free {c : CmdId} {p q : Nat} {e : Entry} {g : Group} {s : State}
    (hgroup : (s.group? (fld (e.arg 0) 8 8)).filter (fun g => g.part == p) = some g)
    (hring : s.argWritable p c.ctx.toNat (fld (e.arg 1) 0 52) (64 * 2 ^ fld (e.arg 2) 0 4) = true)
    (hstate : g.state = .active ∨ g.state = .degraded)
    (hqueue : s.red.queues.any (fun q => q.group == fld (e.arg 0) 8 8) = false)
    (hnumber : bit (e.arg 0) 4 = true ∨ s.commq p (fld (e.arg 0) 0 4) = none)
    (hpick : (if bit (e.arg 0) 4 then (List.range 16).find? (fun q => (s.commq p q).isNone)
      else some (fld (e.arg 0) 0 4)) = some q) :
    commqCreateBody c p e s =
      (s.updRed (fun r => { r with queues := r.queues ++ [createdQueue c p q e] }), .done [word [(0, q)]]) := by
  have hgood : ¬((g.state != .active && g.state != .degraded) ||
      s.red.queues.any (fun q => q.group == fld (e.arg 0) 8 8) ||
      (!bit (e.arg 0) 4 && (s.commq p (fld (e.arg 0) 0 4)).isSome)) = true := by
    obtain h | h := hstate <;> obtain h' | h' := hnumber <;> simp [h, h', hqueue]
  unfold commqCreateBody
  dsimp only
  rw [hgroup]
  dsimp only
  rw [if_neg (by simp [hring]), if_neg hgood, hpick]
  rfl

/-- The state without the queue `x`, number `q` of partition `p`: its group counts its reductions from 0 again (R284). -/
def State.dropQueue (p q : Nat) (x : Commq) (s : State) : State :=
  (s.updRed (fun r => { r with
    queues := r.queues.filter (fun y => !(y.part == p && y.queue == q))
    lanes := r.lanes.filter (fun l => l.1 / 128 != x.group)
    agreed := r.agreed.filter (fun a => a.1 != x.group) })).updGroup x.group (fun g => { g with base := 0 })

theorem commqDestroyBody_of_idle {p : Nat} {e : Entry} {x : Commq} {s : State}
    (hqueue : s.commq p (fld (e.arg 0) 0 4) = some x) (hidle : x.reds = []) (c : CmdId) :
    commqDestroyBody c p e s = (s.dropQueue p (fld (e.arg 0) 0 4) x, .done []) := by
  unfold commqDestroyBody
  dsimp only
  rw [hqueue]
  exact if_neg (by simp [hidle])

/-- Settles O13: each clause is the equation of its body on the state with the ticket entered, which has the groups, the
queues and the buffers of the state before; reading the member list leaves the groups alone. -/
theorem groupCommandsComplete : Obligations.GroupCommandsComplete := by
  refine ⟨?_, ?_, ?_, ?_⟩
  · intro m e s x bs ms i r g hacc hspan hbytes hms hdistinct hring hself hnew hfree hr hg hroom
    subst hr hg
    have hbytes' : (s.entered m.val specGroupDefine.opcode e).groupBytes (specGroupDefine.on m.val e) e.ctx.toNat e =
        some bs := by
      rw [State.groupBytes, State.readArg_entered]
      exact hbytes
    have hbody := (groupDefineBody_of_new (c := cmdIdOf s.nextUid m.val specGroupDefine.opcode e)
      (s := s.entered m.val specGroupDefine.opcode e) hspan hbytes' hms hdistinct hring hself hnew hfree).trans
        (State.enterGroup_of_room ((State.storeFull_groupRead ..).trans hroom))
    exact ⟨_, congrArg Outcome.next (serve_later hacc hbody), rfl⟩
  · intro m e s g hacc hgroup hstate hqueue
    exact ⟨_, congrArg Outcome.next (serve_finished hacc (groupReleaseBody_of_unbound
      (s := s.entered m.val specGroupRelease.opcode e) hgroup hstate hqueue
      (cmdIdOf s.nextUid m.val specGroupRelease.opcode e))), rfl⟩
  · intro m e s g q hacc hgroup hring hstate hqueue hnumber hpick
    obtain ⟨hserve, hanswer⟩ := serve_done hacc (commqCreateBody_of_free
      (c := cmdIdOf s.nextUid m.val specCommqCreate.opcode e) (s := s.entered m.val specCommqCreate.opcode e)
      hgroup hring hstate hqueue hnumber hpick) rfl rfl
    refine ⟨_, rfl, hanswer, ?_⟩
    rw [hserve, State.finish_red]
    rfl
  · intro m e s x hacc hqueue hidle
    obtain ⟨hserve, hanswer⟩ := serve_done hacc (commqDestroyBody_of_idle
      (s := s.entered m.val specCommqDestroy.opcode e) hqueue hidle
      (cmdIdOf s.nextUid m.val specCommqDestroy.opcode e)) rfl rfl
    refine ⟨_, rfl, hanswer, ?_⟩
    rw [hserve, State.finish_red]
    rfl

end Sys2Proof.Machine
end

section
/-! PROOFS. The events of groups: their definition, losses, repair and restarts (R268, R293 to R296). -/

namespace Sys2Proof.Machine

open Sys2Proof
open Host (Outcome)

/-! ### Definition (R268) -/

section Definition

variable {span : BitVec 16} {num : BitVec 8} {g : Group} {s : State}

/-- A ready flit that comes before the own define is kept (log entry 68). -/
theorem opGroupReadyReceive_of_none (hgroup : s.groupOf span num.toNat = none) (pkg : Fin 128) (crc : BitVec 32) :
    opGroupReadyReceive span num pkg crc s =
      s.updRed (fun r => { r with early := r.early ++ [(span, num.toNat, pkg.val, crc)] }) := by
  unfold opGroupReadyReceive
  rw [hgroup]

/-- The group with the ready flit of a package, which replaces an earlier one of it. -/
def Group.withReady (pkg : Nat) (crc : BitVec 32) (g : Group) : Group :=
  { g with readies := g.readies.filter (fun x => x.1 != pkg) ++ [(pkg, crc)] }

theorem opGroupReadyReceive_of_group (hgroup : s.groupOf span num.toNat = some g) (pkg : Fin 128) (crc : BitVec 32) :
    opGroupReadyReceive span num pkg crc s =
      (s.updGroup g.index (fun _ => g.withReady pkg.val crc)).checkReady (g.withReady pkg.val crc) := by
  unfold opGroupReadyReceive
  rw [hgroup]
  rfl

/-- The losses of the own member that a group knows. -/
def Group.ownLoss (g : Group) : List (Nat × Bool) := g.lost.filter (fun x => x.1 == g.rank)

/-- The state in which a group that was being defined is ACTIVE, or DEGRADED where the own member is lost (R294). -/
def State.activateGroup (g : Group) (s : State) : State :=
  s.updGroup g.index (fun x => { x with
    state := if g.ownLoss = [] then .active else .degraded, cmd := none, readies := [], lost := g.ownLoss })

/-- A member that was lost while group `i` was being defined is lost to it now. -/
def State.loseKnown (i : Nat) (s : State) (x : Nat × Bool) : State :=
  match s.group? i with
  | some y => s.memberLost y x.1 x.2
  | none => s

theorem opGroupActiveReceive_of_defining (hgroup : s.groupOf span num.toNat = some g) (hstate : g.state = .defining) :
    opGroupActiveReceive span num s = g.lost.foldl (State.loseKnown g.index)
      ((s.activateGroup g).finishAll g.cmd.toList .done .none ((s.activateGroup g).groupWords g)) := by
  have hactive : s.activateGroup g = s.updGroup g.index (fun x => { x with
      state := if g.ownLoss.isEmpty then .active else .degraded, cmd := none, readies := [], lost := g.ownLoss }) := by
    simp only [State.activateGroup, List.isEmpty_iff]
  unfold opGroupActiveReceive
  rw [hgroup, hactive]
  exact if_neg (by simp [hstate])

theorem opGroupActiveReceive_of_defined (hgroup : s.groupOf span num.toNat = some g) (hstate : g.state ≠ .defining) :
    opGroupActiveReceive span num s = s := by
  unfold opGroupActiveReceive
  rw [hgroup]
  exact if_pos (by simp [hstate])

end Definition

/-- The members that are not ready: the coordinator counts the ready flits it lacks, and any other member counts its own
and a free value (log entry 133). -/
def State.unready (g : Group) (s : State) : Nat :=
  if g.coordinator = s.self then g.members.length - g.readies.length
  else b2n (!g.ready) + Config.notReady s.takeFree.1 % g.members.length

section DefineTimeout

variable {index : BitVec 8} {g : Group} {s : State} (hgroup : s.group? index.toNat = some g)
include hgroup

theorem opGroupDefineTimeout_of_late (hstate : g.state = .defining) (hframes : 1024 ≤ g.frames) :
    opGroupDefineTimeout index s = s.takeFree.2.failDefine g .badCommand .badState [word [(0, s.unready g)]] := by
  unfold opGroupDefineTimeout
  rw [hgroup]
  exact if_neg (by simp [hstate, hframes])

theorem opGroupDefineTimeout_of_not_due (h : g.state ≠ .defining ∨ g.frames < 1024) :
    opGroupDefineTimeout index s = s := by
  unfold opGroupDefineTimeout
  rw [hgroup]
  exact if_pos (by simpa using h)

end DefineTimeout

/-! ### Losses and repair (R294, R295) -/

section Repair

variable {span : BitVec 16} {num : BitVec 8} {g : Group} {s : State}

theorem opGroupLossReceive_of_member {pkg : Fin 128} {r : Nat} (hgroup : s.groupOf span num.toNat = some g)
    (hrank : g.rankOf pkg.val = some r) (killed : Bool) :
    opGroupLossReceive span num pkg killed s = s.memberLost g r killed := by
  unfold opGroupLossReceive
  rw [hgroup]
  dsimp only
  rw [hrank]

/-- A group in operation takes the announced losses, and the frame and round of the restart. -/
theorem opRepairAnnounceReceive_of_running (hgroup : s.groupOf span num.toNat = some g)
    (hstate : g.state = .active ∨ g.state = .degraded) (round : BitVec 4) (lost : List (Nat × Bool))
    (restart : FrameNo) :
    opRepairAnnounceReceive span num round lost restart s = s.updGroup g.index (fun x => { x with
      lost := lost, state := if lost.isEmpty then x.state else .degraded, repair := none, readies := []
      restart := some (restart, round) }) := by
  unfold opRepairAnnounceReceive
  rw [hgroup]
  exact if_neg (by obtain h | h := hstate <;> simp [h])

theorem opGroupRepairTimeout_of_late {index : BitVec 8} {n : Nat} (hgroup : s.group? index.toNat = some g)
    (hrepair : g.repair = some n) (hlate : 64 ≤ n) :
    opGroupRepairTimeout index s =
      (s.updGroup g.index (fun x => { x with state := .failed, repair := none })).endReductions g .memberLost
        g.lostReason := by
  unfold opGroupRepairTimeout
  rw [hgroup]
  exact if_neg (by simp [hrepair, hlate])

end Repair

/-! ### Restarts (R293, R296) -/

/-- A reduction has begun and has no outcome yet. -/
def Reduction.begun (x : Reduction) : Bool := x.started.isSome && x.outcome.isNone

/-- The reductions in a group's queue. -/
def State.redsOf (g : Group) (s : State) : List Reduction := ((s.queueOf g).map (·.reds)).getD []

/-- The state in which a group is in a new round, at its restart. -/
def State.beginRound (g : Group) (round : BitVec 4) (s : State) : State :=
  s.updGroup g.index (fun x => { x with
    restart := none, round := round, killed := x.lost.any (fun l => l.1 == x.rank) })

/-- The state that counts a restart of every reduction a group has begun. -/
def State.countRestarts (g : Group) (s : State) : State :=
  s.updRed (fun r => { r with
    queues := r.queues.map (fun q => if q.group == g.index then
      { q with reds := q.reds.map (fun (x : Reduction) => if x.begun then
          { x with restarts := x.restarts + 1 } else x) } else q) })

section Restart

variable {index : BitVec 8} {g : Group} {s : State} (hgroup : s.group? index.toNat = some g)
include hgroup

theorem opReductionRestart_of_not_due (h : g.restart = none ∨ g.running = false ∨
    ∃ f round, g.restart = some (f, round) ∧ later f s.frm.count = true) : opReductionRestart index s = s := by
  unfold opReductionRestart
  rw [hgroup]
  dsimp only
  cases hrestart : g.restart with
  | none => rfl
  | some x =>
    refine if_pos ?_
    obtain hnone | hstopped | ⟨f, round, hx, hlater⟩ := h
    · exact absurd (hrestart.symm.trans hnone) (Option.some_ne_none x)
    · simp [hstopped]
    · obtain rfl : x = (f, round) := Option.some.inj (hrestart.symm.trans hx)
      simp [hlater]

variable {f : FrameNo} {round : BitVec 4} (hrestart : g.restart = some (f, round))
  (hdue : later f s.frm.count = false) (hrunning : g.running = true)
include hrestart hdue hrunning

/-- What a restart does at its frame, by whether a reduction would restart for the third time. -/
theorem opReductionRestart_of_due :
    opReductionRestart index s =
      if ((s.beginRound g round).redsOf g).any (fun x => x.begun && decide (2 ≤ x.restarts)) then
        ((s.beginRound g round).sendAll ((g.order.map (fun r => g.pkg r)).filter (fun k => k != s.self))
          (.groupWatchdog g.span g.num)).killCtx g.part g.ctx .watchdog
      else ((s.beginRound g round).rewind g g.base).countRestarts g := by
  unfold opReductionRestart
  rw [hgroup]
  dsimp only
  rw [hrestart]
  dsimp only
  rw [if_neg (by simp [hdue, hrunning])]
  rfl

/-- The round begins, and the reductions begun start again. -/
theorem opReductionRestart_of_few
    (hfew : ∀ x ∈ (s.beginRound g round).redsOf g, x.begun = true → x.restarts < 2) :
    opReductionRestart index s = ((s.beginRound g round).rewind g g.base).countRestarts g := by
  have hnone : ((s.beginRound g round).redsOf g).any (fun x => x.begun && decide (2 ≤ x.restarts)) = false :=
    List.any_eq_false.2 fun x hx => by simpa using hfew x hx
  rw [opReductionRestart_of_due hgroup hrestart hdue hrunning]
  exact if_neg (Bool.eq_false_iff.1 hnone)

/-- Where a reduction would restart for the third time, the group's contexts are killed on every member. -/
theorem opReductionRestart_of_third {x : Reduction} (hx : x ∈ (s.beginRound g round).redsOf g)
    (hbegun : x.begun = true) (hthird : 2 ≤ x.restarts) :
    opReductionRestart index s =
      ((s.beginRound g round).sendAll ((g.order.map (fun r => g.pkg r)).filter (fun k => k != s.self))
        (.groupWatchdog g.span g.num)).killCtx g.part g.ctx .watchdog := by
  have hsome : ((s.beginRound g round).redsOf g).any (fun x => x.begun && decide (2 ≤ x.restarts)) = true :=
    List.any_eq_true.2 ⟨x, hx, by simp [hbegun, hthird]⟩
  rw [opReductionRestart_of_due hgroup hrestart hdue hrunning]
  exact if_pos hsome

end Restart

/-- Settles O38: each clause is the equation of its operation. Early ready flits are kept by log entry 68, the count of
members not ready is that of log entry 133, and a restart is that of R296. -/
theorem groupEventsComplete : Obligations.GroupEventsComplete := by
  refine ⟨?_, ?_, ?_, ?_, ?_, ?_, ?_, ?_, ?_, ?_, ?_, ?_, ?_⟩
  · intro span num pkg crc s hclk hact hgroup
    exact next_toChoesk hclk hact (opGroupReadyReceive_of_none hgroup pkg crc) _ _
  · intro span num pkg crc g k s hclk hact hgroup hk
    subst hk
    exact next_toChoesk hclk hact (opGroupReadyReceive_of_group hgroup pkg crc) _ _
  · intro span num g u s hclk hact hgroup hstate hu
    subst hu
    exact next_toChoesk hclk hact (opGroupActiveReceive_of_defining hgroup hstate) _ _
  · intro span num g s hclk hact hgroup hstate
    exact next_toChoesk hclk hact (opGroupActiveReceive_of_defined hgroup hstate) _ _
  · intro index g s hclk hgroup hstate hframes hself
    have hcount : s.unready g = g.members.length - g.readies.length := if_pos hself
    exact next_whenClocked hclk (hcount ▸ opGroupDefineTimeout_of_late hgroup hstate hframes)
  · intro index g s hclk hgroup hstate hframes hother
    have hcount : s.unready g = b2n (!g.ready) + Config.notReady s.takeFree.1 % g.members.length := if_neg hother
    exact next_whenClocked hclk (hcount ▸ opGroupDefineTimeout_of_late hgroup hstate hframes)
  · intro index g s hclk hgroup hdue
    exact next_whenClocked hclk (opGroupDefineTimeout_of_not_due hgroup hdue)
  · intro span num pkg killed g r s hclk hact hgroup hrank
    exact next_toChoesk hclk hact (opGroupLossReceive_of_member hgroup hrank killed) _ _
  · intro span num round lost restart g s hclk hact hgroup hstate
    exact next_toChoesk hclk hact (opRepairAnnounceReceive_of_running hgroup hstate round lost restart) _ _
  · intro index g n s hclk hgroup hrepair hlate
    exact next_whenClocked hclk (opGroupRepairTimeout_of_late hgroup hrepair hlate)
  · intro index g f round u s hclk hgroup hrestart hdue hrunning hu hfew
    subst hu
    refine next_whenClocked hclk (opReductionRestart_of_few hgroup hrestart hdue hrunning fun x hx hbegun => ?_)
    obtain ⟨hstarted, hopen⟩ := (Bool.and_eq_true ..).mp hbegun
    exact hfew x hx hstarted (Option.isNone_iff_eq_none.1 hopen)
  · intro index g f round u x s hclk hgroup hrestart hdue hrunning hu hx hstarted hopen hthird
    subst hu
    have hbegun : x.begun = true := by simp [Reduction.begun, hstarted, hopen]
    exact next_whenClocked hclk (opReductionRestart_of_third hgroup hrestart hdue hrunning hx hbegun hthird)
  · intro index g s hclk hgroup hdue
    exact next_whenClocked hclk (opReductionRestart_of_not_due hgroup hdue)

end Sys2Proof.Machine
end

section
/-! PROOFS. The data of reductions: images received, intake and staging buffers (R281, R282, R288, R293). -/

namespace Sys2Proof.Machine

open Sys2Proof
open Host (Outcome)

/-! ### Images received (R274, R281) -/

/-- The image as group `g` names it: by its table index and the reduction's full number. -/
def Group.imageHere (img : Image) (g : Group) : Image := { img with group := g.index, seq := g.fullSeq img.seq }

/-- The tree of an image's chunk. -/
def Group.treeOfImage (i : Image) (g : Group) : Nat := g.treeOf i.seq i.chunk

/-- The sender of an image is a member that sends to this one in the tree of its chunk. -/
def Group.hears (i : Image) (g : Group) : Bool :=
  match g.rankOf i.sender with
  | some r => g.order.contains r &&
      (g.targets (g.treeOfImage i)).any (fun q => g.rankAt (g.treeOfImage i) q == r)
  | none => false

section Hears

variable {i : Image} {g : Group}

theorem Group.hears_of_neighbour {r : Nat} (hrank : g.rankOf i.sender = some r) (horder : r ∈ g.order)
    (htarget : ∃ q, q ∈ g.targets (g.treeOfImage i) ∧ g.rankAt (g.treeOfImage i) q = r) : g.hears i = true := by
  obtain ⟨q, hq, hat⟩ := htarget
  have hany : (g.targets (g.treeOfImage i)).any (fun q => g.rankAt (g.treeOfImage i) q == r) = true :=
    List.any_eq_true.2 ⟨q, hq, beq_iff_eq.2 hat⟩
  unfold Group.hears
  rw [hrank]
  exact Bool.and_eq_true_iff.2 ⟨List.contains_iff_mem.2 horder, hany⟩

theorem Group.hears_of_no_rank (hrank : g.rankOf i.sender = none) : g.hears i = false := by
  unfold Group.hears
  rw [hrank]

end Hears

section Receive

variable {span : BitVec 16} {img : Image} {g : Group} {s : State} (hgroup : s.groupOf span img.group = some g)
include hgroup

/-- An image of any other round, or of a package that does not send to this one, is dropped (log entry 72). -/
theorem opChunkImageReceive_of_foreign (h : img.round ≠ g.round ∨ g.hears (g.imageHere img) = false) :
    opChunkImageReceive span img s = s := by
  have hforeign : ((g.imageHere img).round != g.round || !g.hears (g.imageHere img)) = true := by
    obtain h | h := h
    · exact Bool.or_eq_true_iff.2 (.inl (bne_iff_ne.2 h))
    · simp [h]
  unfold opChunkImageReceive
  rw [hgroup]
  exact if_pos hforeign

variable (hround : (g.imageHere img).round = g.round) (hhears : g.hears (g.imageHere img) = true)
include hround hhears

/-- An image with a bad residue is a mismatch on the engine that receives it, and asks for a restart (R292, R293, log
entry 137). -/
theorem opChunkImageReceive_of_mismatch (hchecked : g.checked = true) (hexp : (g.imageHere img).exp = false)
    (hbad : (g.imageHere img).residueBad = true) :
    opChunkImageReceive span img s =
      (s.mismatchOn (s.engineOf g (g.treeOfImage (g.imageHere img)))).askRestart g := by
  have hown : ¬((g.imageHere img).round != g.round || !g.hears (g.imageHere img)) = true := by simp [hround, hhears]
  have hmismatch : (g.checked && !(g.imageHere img).exp && (g.imageHere img).residueBad) = true := by
    simp [hchecked, hexp, hbad]
  unfold opChunkImageReceive
  rw [hgroup]
  exact (if_neg hown).trans (if_pos hmismatch)

/-- An image without a fault, of a reduction without a record here, is kept. -/
theorem opChunkImageReceive_of_sound
    (hsound : g.checked = false ∨ (g.imageHere img).exp = true ∨ (g.imageHere img).residueBad = false)
    (hbase : g.base ≤ (g.imageHere img).seq) :
    opChunkImageReceive span img s = s.updRed (fun r => { r with images := r.images ++ [g.imageHere img] }) := by
  have hown : ¬((g.imageHere img).round != g.round || !g.hears (g.imageHere img)) = true := by simp [hround, hhears]
  have hmatch : ¬(g.checked && !(g.imageHere img).exp && (g.imageHere img).residueBad) = true := by
    obtain h | h | h := hsound <;> simp [h]
  have hnew : ¬ g.fullSeq img.seq < g.base := Nat.not_lt.2 hbase
  unfold opChunkImageReceive
  rw [hgroup]
  refine (if_neg hown).trans ((if_neg hmatch).trans (congrArg (State.updRed _) (if_neg ?_)))
  simp [hnew]

end Receive

/-! ### Intake (R282) -/

/-- The elements of a reduction's next chunk that its source has. -/
def State.chunkLength (g : Group) (r : Reduction) (s : State) : Nat :=
  min (min (s.lengthOf r) g.cap) (r.taken * chunkSize + chunkSize) - r.taken * chunkSize

/-- The next chunk of a reduction read from its source, by engine `e`. -/
def State.readChunk (g : Group) (r : Reduction) (e : Nat) (s : State) : State × Got (List Byte) :=
  let size := if g.bf16In && r.fused.isNone then 2 else 4
  s.readRuns (g.who e) size
    (if s.chunkLength g r = 0 then [] else r.srcRuns size (r.taken * chunkSize) (s.chunkLength g r)) []

/-- The next chunk of a reduction is taken in from its source, by engine `e`. -/
def State.takeChunk (g : Group) (r : Reduction) (e : Nat) (s : State) : State :=
  match s.readChunk g r e with
  | (t, .ok bs) => t.hold g r (chunkWords (g.bf16In && r.fused.isNone) bs)
  | (t, .fault f) => t.killStart f none
  | (t, .wait) => t

section Take

variable {g : Group} {r : Reduction} {e : Nat} {s u : State}

theorem State.takeChunk_of_read {bs : List Byte} (hread : s.readChunk g r e = (u, .ok bs)) :
    s.takeChunk g r e = u.hold g r (chunkWords (g.bf16In && r.fused.isNone) bs) := by
  rw [State.takeChunk, hread]

theorem State.takeChunk_of_fault {f : FaultRec} (hread : s.readChunk g r e = (u, .fault f)) :
    s.takeChunk g r e = u.killStart f none := by
  rw [State.takeChunk, hread]

end Take

section Queue

variable {p q : Fin 16} {s : State}

theorem opChunkIntake_of_no_queue (hqueue : s.commq p.val q.val = none) : opChunkIntake p q s = s := by
  unfold opChunkIntake
  rw [hqueue]

theorem opStagingBufferTake_of_no_queue (hqueue : s.commq p.val q.val = none) : opStagingBufferTake p q s = s := by
  unfold opStagingBufferTake
  rw [hqueue]

/-- The group of a queue whose pipeline runs here. -/
theorem State.group?_running {i : Nat} {g : Group} (hgroup : s.group? i = some g) (hrunning : g.running = true) :
    (s.group? i).filter Group.running = some g :=
  Option.filter_eq_some_iff.2 ⟨hgroup, hrunning⟩

section Intake

variable {x : Commq} {g : Group} {r : Reduction} (hqueue : s.commq p.val q.val = some x)
  (hgroup : s.group? x.group = some g) (hrunning : g.running = true) (hnext : x.nextIn g.chunks = some r)
include hqueue hgroup hrunning hnext

/-- What becomes of the next chunk in a queue. -/
theorem opChunkIntake_of_next :
    opChunkIntake p q s =
      if !s.sourceReady r || !x.mayStart r then s
      else match s.intakeEngine g r with
        | none => s
        | some e => s.takeChunk g r e := by
  unfold opChunkIntake
  rw [hqueue]
  dsimp only
  rw [State.group?_running hgroup hrunning]
  dsimp only
  rw [hnext]
  rfl

theorem opChunkIntake_of_unready
    (h : s.sourceReady r = false ∨ x.mayStart r = false ∨ s.intakeEngine g r = none) : opChunkIntake p q s = s := by
  rw [opChunkIntake_of_next hqueue hgroup hrunning hnext]
  obtain h | h | h := h
  · exact if_pos (by simp [h])
  · exact if_pos (by simp [h])
  · rw [h]
    exact ite_self _

/-- A chunk that is ready, and has room at its engine, is taken in. -/
theorem opChunkIntake_of_ready {e : Nat} (hsource : s.sourceReady r = true) (hstart : x.mayStart r = true)
    (hengine : s.intakeEngine g r = some e) : opChunkIntake p q s = s.takeChunk g r e := by
  rw [opChunkIntake_of_next hqueue hgroup hrunning hnext, if_neg (by simp [hsource, hstart]), hengine]

end Intake

/-! ### Staging buffers (R288) -/

/-- The reduction whose staging buffer comes next: it has no outcome, and chunks to take in or buffers to drop. -/
def Commq.nextStaged (nc : Nat) (x : Commq) : Option Reduction :=
  x.reds.find? (fun r => r.outcome.isNone && (decide (r.taken < nc) || (r.fused.isSome && !r.buffers.isEmpty)))

/-- The state without the oldest staging buffer of a reduction. -/
def State.dropBuffer (g : Group) (r : Reduction) (s : State) : State :=
  s.updReduction g r.seq (fun y => { y with buffers := y.buffers.drop 1 })

/-- A staging buffer's elements as a chunk: those past the group's capacity, and those not produced, count as zero. -/
def stagedWords (g : Group) (r : Reduction) (es : List (BitVec 32)) : List (BitVec 32) :=
  ((List.range es.length).zip es).map (fun iv => if r.taken * chunkSize + iv.1 < g.cap then iv.2 else 0) ++
    List.replicate (chunkSize - es.length) 0

section Staging

variable {x : Commq} {g : Group} {r : Reduction} {id : Nat} {b : Nat × List (BitVec 32)}
  {bs : List (Nat × List (BitVec 32))} (hqueue : s.commq p.val q.val = some x)
  (hgroup : s.group? x.group = some g) (hrunning : g.running = true) (hnext : x.nextStaged g.chunks = some r)
  (hfused : r.fused = some id) (hstart : x.mayStart r = true) (hbuffers : r.buffers = b :: bs)
include hqueue hgroup hrunning hnext hfused hstart hbuffers

/-- What becomes of the oldest staging buffer of a fused operation. -/
theorem opStagingBufferTake_of_buffer :
    opStagingBufferTake p q s =
      if !(b.2.length == chunkSize || s.fusedOver r) then s
      else if b.1 < r.taken || g.chunks ≤ b.1 then s.dropBuffer g r
      else if b.1 != r.taken then s
      else if (s.intakeEngine g r).isSome then (s.dropBuffer g r).hold g r (stagedWords g r b.2)
      else s := by
  have hlength : (((List.range b.2.length).zip b.2).map
      (fun iv => if r.taken * chunkSize + iv.1 < g.cap then iv.2 else 0)).length = b.2.length := by simp
  unfold opStagingBufferTake
  rw [hqueue]
  dsimp only
  rw [State.group?_running hgroup hrunning]
  dsimp only
  rw [show x.reds.find? (fun r => r.outcome.isNone &&
    (decide (r.taken < g.chunks) || (r.fused.isSome && !r.buffers.isEmpty))) = some r from hnext]
  dsimp only
  rw [if_neg (by simp [hfused, hstart]), hbuffers]
  dsimp only
  rw [hlength]
  cases s.intakeEngine g r <;> rfl

theorem opStagingBufferTake_of_filling (hsize : b.2.length ≠ chunkSize) (hover : s.fusedOver r = false) :
    opStagingBufferTake p q s = s := by
  rw [opStagingBufferTake_of_buffer hqueue hgroup hrunning hnext hfused hstart hbuffers]
  exact if_pos (by simp [hsize, hover])

variable (hfull : b.2.length = chunkSize ∨ s.fusedOver r = true)
include hfull

/-- A buffer of a chunk taken in before, or beyond the group's chunks, is dropped. -/
theorem opStagingBufferTake_of_stale (hstale : b.1 < r.taken ∨ g.chunks ≤ b.1) :
    opStagingBufferTake p q s = s.dropBuffer g r := by
  rw [opStagingBufferTake_of_buffer hqueue hgroup hrunning hnext hfused hstart hbuffers,
    if_neg (by obtain h | h := hfull <;> simp [h])]
  exact if_pos (by simpa using hstale)

/-- A full buffer of the next chunk is taken in, where its engine has room. -/
theorem opStagingBufferTake_of_next {e : Nat} (hchunk : b.1 = r.taken) (hmore : r.taken < g.chunks)
    (hengine : s.intakeEngine g r = some e) :
    opStagingBufferTake p q s = (s.dropBuffer g r).hold g r (stagedWords g r b.2) := by
  rw [opStagingBufferTake_of_buffer hqueue hgroup hrunning hnext hfused hstart hbuffers,
    if_neg (by obtain h | h := hfull <;> simp [h]), if_neg (by simp [hchunk, hmore]), if_neg (by simp [hchunk])]
  exact if_pos (by simp [hengine])

end Staging

end Queue

/-- Settles O39: each clause is the equation of its operation. Images of any other round are dropped by log entry 72, and
a bad residue is a mismatch of the receiving engine by log entry 137 (R292, R293). -/
theorem reductionDataComplete : Obligations.ReductionDataComplete := by
  refine ⟨?_, ?_, ?_, ?_, ?_, ?_, ?_, ?_, ?_, ?_, ?_, ?_⟩
  · intro span img i g r s hclk hgroup hi hround hrank horder htarget hsound hbase
    subst hi
    exact next_whenClocked hclk (opChunkImageReceive_of_sound hgroup hround
      (Group.hears_of_neighbour hrank horder htarget) hsound hbase)
  · intro span img g s hclk hgroup hround
    exact next_whenClocked hclk (opChunkImageReceive_of_foreign hgroup (.inl hround))
  · intro span img g s hclk hgroup hrank
    exact next_whenClocked hclk (opChunkImageReceive_of_foreign hgroup (.inr (Group.hears_of_no_rank hrank)))
  · intro span img i g r s hclk hgroup hi hround hrank horder htarget hchecked hexp hbad
    subst hi
    exact next_whenClocked hclk (opChunkImageReceive_of_mismatch hgroup hround
      (Group.hears_of_neighbour hrank horder htarget) hchecked hexp hbad)
  · intro p q x g r e a n size u bs s hclk hqueue hgroup hrunning hnext hsource hstart hengine ha hn hsize hread
    subst ha hn hsize
    exact next_whenClocked hclk ((opChunkIntake_of_ready hqueue hgroup hrunning hnext hsource hstart hengine).trans
      (State.takeChunk_of_read hread))
  · intro p q x g r e a n size u f s hclk hqueue hgroup hrunning hnext hsource hstart hengine ha hn hsize hread
    subst ha hn hsize
    exact next_whenClocked hclk ((opChunkIntake_of_ready hqueue hgroup hrunning hnext hsource hstart hengine).trans
      (State.takeChunk_of_fault hread))
  · intro p q x g r s hclk hqueue hgroup hrunning hnext hunready
    exact next_whenClocked hclk (opChunkIntake_of_unready hqueue hgroup hrunning hnext hunready)
  · intro p q s hclk hqueue
    exact next_whenClocked hclk (opChunkIntake_of_no_queue hqueue)
  · intro p q s hclk hqueue
    exact next_whenClocked hclk (opStagingBufferTake_of_no_queue hqueue)
  · intro p q x g r e id b bs s hclk hqueue hgroup hrunning hnext hfused hstart hbuffers hfull hchunk hmore hengine
    exact next_whenClocked hclk (opStagingBufferTake_of_next hqueue hgroup hrunning hnext hfused hstart hbuffers hfull
      hchunk hmore hengine)
  · intro p q x g r id b bs s hclk hqueue hgroup hrunning hnext hfused hstart hbuffers hsize hover
    exact next_whenClocked hclk
      (opStagingBufferTake_of_filling hqueue hgroup hrunning hnext hfused hstart hbuffers hsize hover)
  · intro p q x g r id b bs s hclk hqueue hgroup hrunning hnext hfused hstart hbuffers hfull hstale
    exact next_whenClocked hclk
      (opStagingBufferTake_of_stale hqueue hgroup hrunning hnext hfused hstart hbuffers hfull hstale)

end Sys2Proof.Machine
end

section
/-! PROOFS. The commands PWR.SET_CAP, LINK.RETRAIN and LINK.RETIRE (R331, R402). -/

namespace Sys2Proof.Machine

open Sys2Proof

/-! ### PWR.SET_CAP (R402) -/

section Cap

variable {c : CmdId} {p : Nat} {e : Entry} {s : State}

/-- The cap that a PWR.SET_CAP command names. -/
def Entry.capArg (e : Entry) : BitVec 7 := BitVec.ofNat 7 (fld (e.arg 0) 0 7)

theorem pwrSetCapBody_of_package (hscope : bit (e.arg 0) 8 = false) :
    pwrSetCapBody c p e s = ((s.pendCap e.capArg (s.frm.count + 2) none).updPwr (fun w =>
      { w with capCmds := w.capCmds ++ [c] }), .later) :=
  if_neg (by simp [hscope])

theorem pwrSetCapBody_of_sheaf (hscope : bit (e.arg 0) 8 = true) (hmaster : s.isMaster = true) :
    pwrSetCapBody c p e s = (if c.admitAck then (s.sheafCap e.capArg (some c)).stage c .admitted .none [] false
      else s.sheafCap e.capArg (some c), .later) :=
  (if_pos hscope).trans (if_neg (by simp [hmaster]))

end Cap

/-! ### LINK.RETRAIN and LINK.RETIRE (R331) -/

section Link

variable {c : CmdId} {p i : Nat} {e : Entry} {s : State}

theorem linkRetrainBody_of_full (hi : i = fld (e.arg 0) 0 4) (hhealth : (s.port i).health ≠ .retired)
    (hfull : bit (e.arg 0) 8 = true) :
    linkRetrainBody c p e s =
      ((s.updWork i (fun w => { w with fullCmds := w.fullCmds ++ [c] })).portDown i, .later) := by
  subst hi
  exact (if_neg hhealth).trans (if_pos hfull)

theorem linkRetrainBody_of_up (hi : i = fld (e.arg 0) 0 4) (hhealth : (s.port i).health ≠ .retired)
    (hfast : bit (e.arg 0) 8 = false) (hlink : (s.port i).link = .up) :
    linkRetrainBody c p e s =
      ((s.updWork i (fun w => { w with fastCmds := w.fastCmds ++ [c], restarts := 0 })).startRetrain i, .later) := by
  subst hi
  unfold linkRetrainBody
  simp only [hhealth, if_false, hfast, Bool.false_eq_true, hlink]

/-- A port that is neither UP nor in bring-up sleeps, wakes or retrains: the command waits for it. The last arm of the
cases on the link asks for exactly the three inequations. -/
theorem linkRetrainBody_of_asleep (hi : i = fld (e.arg 0) 0 4) (hhealth : (s.port i).health ≠ .retired)
    (hfast : bit (e.arg 0) 8 = false) (hup : (s.port i).link ≠ .up) (hdown : (s.port i).link ≠ .down)
    (htraining : (s.port i).link ≠ .training) :
    linkRetrainBody c p e s =
      ((s.updWork i (fun w => { w with fastCmds := w.fastCmds ++ [c] })).wakePort i, .later) := by
  subst hi
  unfold linkRetrainBody
  simp only [hhealth, if_false, hfast, Bool.false_eq_true]

theorem linkRetireBody_of_unretired {l : BitVec 8} (hi : i = fld (e.arg 0) 0 4) (hl : l = retireLanes (fld (e.arg 0) 8 2))
    (hhealth : (s.port i).health ≠ .retired) (hlanes : l &&& ~~~(s.port i).retiredLanes ≠ 0) :
    linkRetireBody c p e s = (opWidthChange (Fin.ofNat 16 i) l
      (((s.updWork i (fun w => { w with retireCmds := w.retireCmds ++ [c] })).wakePort i).permanentFault i l), .later) := by
  subst hi hl
  exact (if_neg hhealth).trans (if_neg hlanes)

theorem linkRetireBody_of_retired {l : BitVec 8} (hi : i = fld (e.arg 0) 0 4) (hl : l = retireLanes (fld (e.arg 0) 8 2))
    (hhealth : (s.port i).health ≠ .retired) (hlanes : l &&& ~~~(s.port i).retiredLanes = 0) :
    linkRetireBody c p e s = (s, .done [(s.port i).stateWord]) := by
  subst hi hl
  exact (if_neg hhealth).trans (if_pos hlanes)

end Link

/-- Settles O14: each clause is the command's body on the state with its ticket entered. -/
theorem powerAndLinkCommandsComplete : Obligations.PowerAndLinkCommandsComplete := by
  refine ⟨?_, ?_, ?_, ?_, ?_, ?_, ?_, ?_⟩
  · intro m e s a hacc ha
    subst ha
    have hserve := serve_later hacc (pwrSetCapBody_of_package (p := 0) (Entry.mode_8_1_0 e))
    exact ⟨_, congrArg Host.Outcome.next hserve, rfl, rfl, rfl, rfl, rfl⟩
  · intro m e s a hacc ha hmaster hack
    subst ha
    have hserve := serve_later hacc (pwrSetCapBody_of_sheaf (p := 0) (Entry.mode_8_1_1 e) hmaster)
    exact ⟨_, congrArg Host.Outcome.next hserve, if_neg (ne_true_of_eq_false hack)⟩
  · intro m e s a hacc ha hmaster hack
    subst ha
    have hserve := serve_later hacc (pwrSetCapBody_of_sheaf (p := 0) (Entry.mode_8_1_1 e) hmaster)
    exact ⟨_, congrArg Host.Outcome.next hserve, if_pos hack⟩
  · intro m e s i hacc hi hhealth hlink
    exact ⟨_, congrArg Host.Outcome.next
      (serve_later hacc (linkRetrainBody_of_up (p := 0) hi hhealth (Entry.mode_8_1_0 e) hlink)), rfl⟩
  · intro m e s i hacc hi hhealth hup hdown htraining
    exact ⟨_, congrArg Host.Outcome.next
      (serve_later hacc (linkRetrainBody_of_asleep (p := 0) hi hhealth (Entry.mode_8_1_0 e) hup hdown htraining)), rfl⟩
  · intro m e s i hacc hi hhealth
    exact ⟨_, congrArg Host.Outcome.next
      (serve_later hacc (linkRetrainBody_of_full (p := 0) hi hhealth (Entry.mode_8_1_1 e))), rfl⟩
  · intro m e s i l hacc hi hl hhealth hlanes
    exact ⟨_, congrArg Host.Outcome.next
      (serve_later hacc (linkRetireBody_of_unretired (p := 0) hi hl hhealth hlanes)), rfl⟩
  · intro m e s i l hacc hi hl hhealth hlanes
    obtain ⟨honly, hanswer⟩ := serve_query hacc (linkRetireBody_of_retired (p := 0) hi hl hhealth hlanes)
    exact ⟨_, rfl, hanswer, honly⟩

end Sys2Proof.Machine
end

section
/-! PROOFS. Ports coming up, flits and replay (R306, R309, R315, R316, R320). -/

namespace Sys2Proof.Machine

open Sys2Proof

/-! ### Lanes of a port -/

@[simp] theorem Port.lane_updLane_self (l : Nat) (f : Lane → Lane) (p : Port) : (p.updLane l f).lane l = f (p.lane l) :=
  Tab.get_upd_self _ _ _ _

/-! ### Alignment markers (R306) -/

section Marker

variable {port : Fin 16} {lane : Fin 8} {raw : BitVec 128} {between : List Byte} {skew : Nat} {s : State}

/-- What a marker position does to its lane. -/
def State.markLane (port : Fin 16) (lane : Fin 8) (raw : BitVec 128) (between : List Byte) (skew : Nat) (s : State) :
    State :=
  s.updPort port.val (fun p => p.updLane lane.val (fun l => l.marker raw between skew))

theorem opAlignmentMarkerReceive_of_ignored
    (h : (s.port port.val).link = .down ∨ (s.port port.val).health = .retired ∨ lane.val ∉ (s.port port.val).active) :
    opAlignmentMarkerReceive port lane raw between skew s = s :=
  if_pos (by simpa [or_assoc] using h)

section Active

variable (hlink : (s.port port.val).link ≠ .down) (hhealth : (s.port port.val).health ≠ .retired)
  (hactive : lane.val ∈ (s.port port.val).active)

include hlink hhealth hactive

/-- A marker position on an active lane: the lane moves, and what follows depends on whether it left LOCKED. -/
theorem opAlignmentMarkerReceive_of_active :
    opAlignmentMarkerReceive port lane raw between skew s =
      if ((s.port port.val).lane lane.val).lock = .locked ∧
          (((s.port port.val).lane lane.val).marker raw between skew).lock ≠ .locked then
        (s.markLane port lane raw between skew).lanesLost port.val [lane.val]
      else if (s.port port.val).link = .waking ∧ ((s.markLane port lane raw between skew).port port.val).locked = true ∧
          markerValid raw = true ∧ markerTrain raw = false then
        (s.markLane port lane raw between skew).enterUp port.val
      else s.markLane port lane raw between skew := by
  unfold opAlignmentMarkerReceive
  rw [if_neg (by simp [hlink, hhealth, hactive])]
  simp only [State.port_updPort_self, Port.lane_updLane_self, State.markLane, Bool.and_eq_true, decide_eq_true_eq,
    bne_iff_ne, Bool.not_eq_true', and_assoc, ne_eq]

theorem opAlignmentMarkerReceive_of_lock_lost (hlocked : ((s.port port.val).lane lane.val).lock = .locked)
    (hlost : (((s.port port.val).lane lane.val).marker raw between skew).lock ≠ .locked) :
    opAlignmentMarkerReceive port lane raw between skew s =
      (s.markLane port lane raw between skew).lanesLost port.val [lane.val] := by
  rw [opAlignmentMarkerReceive_of_active hlink hhealth hactive, if_pos ⟨hlocked, hlost⟩]

variable (hkept : ((s.port port.val).lane lane.val).lock = .locked →
  (((s.port port.val).lane lane.val).marker raw between skew).lock = .locked)

include hkept

theorem opAlignmentMarkerReceive_of_awake (hwaking : (s.port port.val).link ≠ .waking) :
    opAlignmentMarkerReceive port lane raw between skew s = s.markLane port lane raw between skew := by
  rw [opAlignmentMarkerReceive_of_active hlink hhealth hactive, if_neg (fun h => h.2 (hkept h.1)),
    if_neg (fun h => hwaking h.1)]

/-- The closing marker of the train on a waking port whose lanes are locked (R329). -/
theorem opAlignmentMarkerReceive_of_closing (hwaking : (s.port port.val).link = .waking)
    (hlocked : ((s.markLane port lane raw between skew).port port.val).locked = true) (hvalid : markerValid raw = true)
    (hclosing : markerTrain raw = false) :
    opAlignmentMarkerReceive port lane raw between skew s = (s.markLane port lane raw between skew).enterUp port.val := by
  rw [opAlignmentMarkerReceive_of_active hlink hhealth hactive, if_neg (fun h => h.2 (hkept h.1)),
    if_pos ⟨hwaking, hlocked, hvalid, hclosing⟩]

end Active

end Marker

/-! ### Bring-up (R309) -/

section Bringup

variable {port : Fin 16} {order : List (BitVec 3)} {stamps : List (BitVec 16)} {margins : List (BitVec 12)} {s : State}

/-- A port whose lanes have locked in bring-up, with its sequence numbers at 0 and its latency measured. -/
def State.trained (i : Nat) (stamps : List (BitVec 16)) (margins : List (BitVec 12)) (s : State) : State :=
  ((s.updPort i (fun p => { p.takeStamps stamps with
      lanes := p.lanes.mapRow {} 8 (fun l x =>
        if p.active.contains l then
          { x with lock := .locked, misses := 0, consecUncorr := 0, place := 0, skew := 0, margin := margins.getD l x.margin }
        else x) })).updWork i (fun w => { w with
    txSeq := 0, rxSeq := 0, acks := false, nakSent := false, replay := [] })).sendStamps i

theorem opPortBringup_of_ready (hhealth : (s.port port.val).health ≠ .retired)
    (hlink : (s.port port.val).link = .down ∨ (s.port port.val).link = .training) (hrecovery : s.mgt.recovery = false)
    (hbring : s.por.bring = .selfTest ∨ s.por.bring = .running) :
    opPortBringup port order stamps margins s =
      if laneOrderGood order = true then (s.trained port.val stamps margins).enterUp port.val
      else s.bringupFails port.val := by
  unfold opPortBringup
  rw [if_neg (by simpa [hhealth, hrecovery, ← or_iff_not_imp_left] using ⟨hlink, hbring⟩)]
  cases laneOrderGood order <;> rfl

theorem opBringupTimeout_of_bringup (hlink : (s.port port.val).link = .down ∨ (s.port port.val).link = .training) :
    opBringupTimeout port s = ((s.bringupFails port.val).updWork port.val (fun w => { w with fullCmds := [] })).finishAll
      (s.work port.val).fullCmds .noResource .linkDown [] :=
  if_pos (by simpa using hlink)

end Bringup

/-! ### Flits received (R306, R315, R316) -/

section Receive

variable {port : Fin 16} {i : Nat} {raw : BitVec 2048} {said : Said} {a : Arrival} {s t : State}

/-- An intact flit ends a run of failed CRCs, and traffic ends the idleness of the port. -/
def State.hearFlit (i : Nat) (a : Arrival) (s : State) : State :=
  s.updWork i (fun w => { w with consecCrc := 0, idle := if a.flit.traffic then 0 else w.idle })

/-- An intact flit that is no NAK also acknowledges, where its ACK_SEQ is valid (R315). -/
def State.hearAck (i : Nat) (a : Arrival) (s : State) : State :=
  match a.ack with
  | some q => (s.hearFlit i a).acked i q
  | none => s.hearFlit i a

/-- What an intact flit leaves before its type and SEQ are looked at: the ACK_SEQ of a NAK is not an acknowledgement. -/
def State.heard (i : Nat) (a : Arrival) (s : State) : State :=
  match a.ack with
  | some q => if a.flit.type = 9 && a.flit.sub = 1 then s.hearFlit i a else (s.hearFlit i a).acked i q
  | none => s.hearFlit i a

theorem State.heard_of_nak (htype : a.flit.type = 9) (hsub : a.flit.sub = 1) : s.heard i a = s.hearFlit i a := by
  simp only [State.heard, htype, hsub]
  cases a.ack <;> rfl

theorem State.heard_of_not_nak (hnak : a.flit.type = 9 → a.flit.sub ≠ 1) : s.heard i a = s.hearAck i a := by
  have hfalse : (decide (a.flit.type = 9) && decide (a.flit.sub = 1)) = false := by simpa using hnak
  simp only [State.heard, State.hearAck, hfalse]
  cases a.ack <;> rfl

/-- What a port does with an intact flit by its type and its SEQ (R315, R316). -/
theorem State.rxFlit_eq : s.rxFlit i a =
    if a.flit.type = 0 then (s.heard i a, none)
    else if a.flit.type = 9 then (s.heard i a, some a.flit)
    else if a.seq == ((s.heard i a).work i).rxSeq then
      (((s.heard i a).updWork i (fun w => { w with rxSeq := w.rxSeq + 1, acks := true, nakSent := false })).sendIdle i,
        if a.flit.type = 10 then none else some a.flit)
    else if (((s.heard i a).work i).rxSeq - a.seq).toNat < 2048 then (s.heard i a, none)
    else ((s.heard i a).sendNak i, none) := rfl

theorem State.rxFlit_of_idle (htype : a.flit.type = 0) : s.rxFlit i a = (s.hearAck i a, none) := by
  rw [State.rxFlit_eq, if_pos htype, State.heard_of_not_nak (by simp [htype])]

theorem State.rxFlit_of_nak (htype : a.flit.type = 9) (hsub : a.flit.sub = 1) :
    s.rxFlit i a = (s.hearFlit i a, some a.flit) := by
  rw [State.rxFlit_eq, if_neg (by simp [htype]), if_pos htype, State.heard_of_nak htype hsub]

theorem State.rxFlit_of_linkctl (htype : a.flit.type = 9) (hsub : a.flit.sub ≠ 1) :
    s.rxFlit i a = (s.hearAck i a, some a.flit) := by
  rw [State.rxFlit_eq, if_neg (by simp [htype]), if_pos htype, State.heard_of_not_nak (fun _ => hsub)]

section Sequenced

variable (hidle : a.flit.type ≠ 0) (hlinkctl : a.flit.type ≠ 9)

include hidle hlinkctl

/-- A flit with the SEQ expected is accepted; a VOID does nothing more (R317). -/
theorem State.rxFlit_of_expected (hseq : a.seq = ((s.hearAck i a).work i).rxSeq) :
    s.rxFlit i a =
      (((s.hearAck i a).updWork i (fun w => { w with rxSeq := w.rxSeq + 1, acks := true, nakSent := false })).sendIdle i,
        if a.flit.type = 10 then none else some a.flit) := by
  rw [State.rxFlit_eq, if_neg hidle, if_neg hlinkctl, State.heard_of_not_nak (absurd · hlinkctl),
    if_pos (beq_iff_eq.2 hseq)]

/-- An earlier SEQ is a repeat, a later one is answered by a NAK. -/
theorem State.rxFlit_of_unexpected (hseq : a.seq ≠ ((s.hearAck i a).work i).rxSeq) :
    s.rxFlit i a = (if (((s.hearAck i a).work i).rxSeq - a.seq).toNat < 2048 then s.hearAck i a
      else (s.hearAck i a).sendNak i, none) := by
  rw [State.rxFlit_eq, if_neg hidle, if_neg hlinkctl, State.heard_of_not_nak (absurd · hlinkctl),
    if_neg (by simpa using hseq), apply_ite (·, (none : Option Flit))]

end Sequenced

theorem opFlitReceive_of_bad (hflit : flitOf raw said = none) :
    opFlitReceive port raw said s = if (s.port port.val).up then s.crcFailed port.val else s := by
  rw [opFlitReceive, hflit]

section Up

variable (hup : (s.port port.val).up = true) (hflit : flitOf raw said = some a)

include hup hflit

theorem opFlitReceive_of_dropped (hrx : s.rxFlit port.val a = (t, none)) : opFlitReceive port raw said s = t := by
  rw [opFlitReceive, hflit]
  simp only [hup, hrx, Bool.not_true, Bool.false_eq_true, if_false]

theorem opFlitReceive_of_accepted {f : Flit} (hrx : s.rxFlit port.val a = (t, some f)) :
    opFlitReceive port raw said s = if f.type = 9 then t.takeLinkctl port a else t.takeFlit port f := by
  rw [opFlitReceive, hflit]
  simp only [hup, hrx, Bool.not_true, Bool.false_eq_true, if_false]

theorem opFlitReceive_of_idle (htype : a.flit.type = 0) : opFlitReceive port raw said s = s.hearAck port.val a :=
  opFlitReceive_of_dropped hup hflit (State.rxFlit_of_idle htype)

theorem opFlitReceive_of_nak (htype : a.flit.type = 9) (hsub : a.flit.sub = 1) :
    opFlitReceive port raw said s = (s.hearFlit port.val a).takeLocal port (.nak (a.ack.getD 0)) := by
  rw [opFlitReceive_of_accepted hup hflit (State.rxFlit_of_nak htype hsub), if_pos htype]
  simp only [State.takeLinkctl, hsub]

theorem opFlitReceive_of_linkctl {m : Msg} (htype : a.flit.type = 9) (hsub : a.flit.sub ≠ 1) (hmsg : a.flit.msg = some m) :
    opFlitReceive port raw said s = (s.hearAck port.val a).takeLocal port m := by
  rw [opFlitReceive_of_accepted hup hflit (State.rxFlit_of_linkctl htype hsub), if_pos htype]
  simp only [State.takeLinkctl, hmsg]

variable (hidle : a.flit.type ≠ 0) (hlinkctl : a.flit.type ≠ 9)

include hidle hlinkctl

theorem opFlitReceive_of_expected (hseq : a.seq = ((s.hearAck port.val a).work port.val).rxSeq) :
    opFlitReceive port raw said s =
      if a.flit.type = 10 then ((s.hearAck port.val a).updWork port.val (fun w => { w with
        rxSeq := w.rxSeq + 1, acks := true, nakSent := false })).sendIdle port.val
      else (((s.hearAck port.val a).updWork port.val (fun w => { w with
        rxSeq := w.rxSeq + 1, acks := true, nakSent := false })).sendIdle port.val).takeFlit port a.flit := by
  have hrx := State.rxFlit_of_expected hidle hlinkctl hseq
  by_cases hvoid : a.flit.type = 10
  · rw [if_pos hvoid] at hrx ⊢
    exact opFlitReceive_of_dropped hup hflit hrx
  · rw [if_neg hvoid] at hrx ⊢
    rw [opFlitReceive_of_accepted hup hflit hrx, if_neg hlinkctl]

theorem opFlitReceive_of_unexpected (hseq : a.seq ≠ ((s.hearAck port.val a).work port.val).rxSeq) :
    opFlitReceive port raw said s =
      if (((s.hearAck port.val a).work port.val).rxSeq - a.seq).toNat < 2048 then s.hearAck port.val a
      else (s.hearAck port.val a).sendNak port.val :=
  opFlitReceive_of_dropped hup hflit (State.rxFlit_of_unexpected hidle hlinkctl hseq)

end Up

end Receive

/-! ### Replay (R316) -/

section Replay

variable {port : Fin 16} {i : Nat} {s : State}

theorem State.replay_of_empty (hreplay : (s.work i).replay = []) : s.replay i = s :=
  if_pos (by simp [hreplay])

/-- The flits of the replay buffer sent again, oldest first, each counted. -/
def State.sendReplay (i : Nat) (s : State) : State :=
  (s.work i).replay.foldl (fun s r => s.sendLine i r.1 (s.work i).ack r.2.1)
    ((s.updPort i (fun p => { p with replays := satAdd p.replays 1 })).updWork i
      (fun w => { w with replay := w.replay.map (fun r => (r.1, r.2.1, r.2.2 + 1)) }))

theorem State.replay_of_unacknowledged (hreplay : (s.work i).replay ≠ []) :
    s.replay i = if (s.work i).replay.any (fun r => r.2.2 + 1 == 8)
      then (((s.sendReplay i).updPort i (fun p => { p with exhaust := satAdd p.exhaust 1 })).startBurst i).startRetrain i
      else s.sendReplay i :=
  if_neg (by simp [hreplay])

theorem opNakReceive_of_up {seq : BitVec 12} (hlink : (s.port port.val).link = .up) :
    opNakReceive port seq s = s.replay port.val :=
  if_pos hlink

theorem opNakResend_of_waiting (hsent : (s.work port.val).nakSent = true) (hlink : (s.port port.val).link = .up) :
    opNakResend port s = s.sendLinkctl port.val (.nak (s.work port.val).rxSeq) :=
  if_pos (by simp [hsent, hlink])

theorem opReplayTimeout_of_up (hlink : (s.port port.val).link = .up) : opReplayTimeout port s = s.replay port.val :=
  if_pos hlink

end Replay

/-! ### Fast retrains (R320) -/

section Retrain

variable {port : Fin 16} {closed : Bool} {stamps : List (BitVec 16)} {s : State}

theorem opFastRetrain_of_up (hlink : (s.port port.val).link = .up) (hhealth : (s.port port.val).health ≠ .retired) :
    opFastRetrain port s = s.startRetrain port.val :=
  if_pos (by simp [hlink, hhealth])

theorem opTrainReceive_of_up (hlink : (s.port port.val).link = .up) (hhealth : (s.port port.val).health ≠ .retired) :
    opTrainReceive port s = s.startRetrain port.val :=
  if_pos (by simp [hlink, hhealth])

theorem opTrainReceive_of_not_up (hlink : (s.port port.val).link ≠ .up) : opTrainReceive port s = s :=
  if_neg (by simp [hlink])

theorem opRetrainEnd_of_locked (hlink : (s.port port.val).link = .retrain) (hlocked : (s.port port.val).locked = true)
    (hchange : (((s.updPort port.val (fun p => p.takeStamps stamps)).sendStamps port.val).work port.val).change = none) :
    opRetrainEnd port true stamps s =
      (((((s.updPort port.val (fun p => p.takeStamps stamps)).sendStamps port.val).raiseUp port.val).replay
        port.val).pump port.val).retryWaiting := by
  unfold opRetrainEnd
  rw [if_neg (by simp [hlink]), if_pos (by simp [hlocked])]
  simp only [hchange, Option.any_none, Bool.false_eq_true, if_false]

theorem opRetrainEnd_of_failed (hlink : (s.port port.val).link = .retrain)
    (hfailed : closed = false ∨ (s.port port.val).locked = false) (hburst : (s.work port.val).outsideBurst = false) :
    opRetrainEnd port closed stamps s = s.updWork port.val (fun w => { w with restarts := w.restarts + 1 }) := by
  unfold opRetrainEnd
  rw [if_neg (by simp [hlink]), if_neg (by simpa [imp_iff_not_or] using hfailed)]
  exact if_neg (by simp [hburst])

theorem opRetrainRestart_of_early (hlink : (s.port port.val).link = .retrain)
    (hhealth : (s.port port.val).health ≠ .retired) (hrestarts : (s.work port.val).restarts < 5) :
    opRetrainRestart port s = (s.startRetrain port.val).finishAll [] .noResource .linkDown [] := by
  unfold opRetrainRestart
  rw [if_neg (by simp [hlink, hhealth])]
  simp only [if_neg (Nat.not_le.2 hrestarts)]

theorem opRetrainRestart_of_fifth (hlink : (s.port port.val).link = .retrain)
    (hhealth : (s.port port.val).health ≠ .retired) (hrestarts : 5 ≤ (s.work port.val).restarts) :
    opRetrainRestart port s = ((s.updWork port.val (fun w => { w with fastCmds := [] })).startRetrain port.val).finishAll
      (s.work port.val).fastCmds .noResource .linkDown [] := by
  unfold opRetrainRestart
  rw [if_neg (by simp [hlink, hhealth])]
  simp only [if_pos hrestarts]

end Retrain

/-- Settles O27: each clause is the equation of its operation in the case it names. -/
theorem portsBringupAndReplay : Obligations.PortsBringupAndReplay := by
  refine ⟨?_, ?_, ?_, ?_, ?_, ?_, ?_, ?_, ?_, ?_, ?_, ?_, ?_, ?_, ?_, ?_, ?_, ?_, ?_, ?_, ?_, ?_, ?_, ?_⟩
  · intro port lane raw between skew s hclk h
    exact next_whenClocked hclk (opAlignmentMarkerReceive_of_ignored h)
  · intro port lane raw between skew s hclk hlink hhealth hactive hwaking hkept
    exact next_whenClocked hclk (opAlignmentMarkerReceive_of_awake hlink hhealth hactive hkept hwaking)
  · intro port lane raw between skew s hclk hlink hhealth hactive hlocked hlost
    exact next_whenClocked hclk
      (opAlignmentMarkerReceive_of_lock_lost (by simp [hlink]) hhealth hactive hlocked hlost)
  · intro port lane raw between skew u s hclk hlink hhealth hactive hkept hu hlocked hvalid hclosing
    subst hu
    exact next_whenClocked hclk
      (opAlignmentMarkerReceive_of_closing (by simp [hlink]) hhealth hactive hkept hlink hlocked hvalid hclosing)
  · intro port order stamps margins s hclk hhealth hlink hrecovery hbring horder
    exact next_whenClocked hclk ((opPortBringup_of_ready hhealth hlink hrecovery hbring).trans (if_pos horder))
  · intro port order stamps margins s hclk hhealth hlink hrecovery hbring horder
    exact next_whenClocked hclk
      ((opPortBringup_of_ready hhealth hlink hrecovery hbring).trans (if_neg (ne_true_of_eq_false horder)))
  · intro port s hclk hlink
    exact next_whenClocked hclk (opBringupTimeout_of_bringup hlink)
  · intro port head payload crc said s hclk hflit
    exact next_whenClocked hclk (opFlitReceive_of_bad hflit)
  · intro port head payload crc said a v u s hclk hup hflit htype hv hu
    subst hv hu
    exact next_whenClocked hclk (opFlitReceive_of_idle hup hflit htype)
  · intro port head payload crc said a v u s hclk hup hflit hidle hlinkctl hv hu hseq
    subst hv hu
    exact next_whenClocked hclk (opFlitReceive_of_expected hup hflit hidle hlinkctl hseq)
  · intro port head payload crc said a v u s hclk hup hflit hidle hlinkctl hv hu hseq
    subst hv hu
    exact next_whenClocked hclk (opFlitReceive_of_unexpected hup hflit hidle hlinkctl hseq)
  · intro port head payload crc said a v u s hclk hup hflit htype hsub hv hu
    subst hv hu
    exact next_whenClocked hclk (opFlitReceive_of_nak hup hflit htype hsub)
  · intro port head payload crc said a m v u s hclk hup hflit htype hsub hmsg hv hu
    subst hv hu
    exact next_whenClocked hclk (opFlitReceive_of_linkctl hup hflit htype hsub hmsg)
  · intro port seq s hclk hlink
    exact next_whenClocked hclk (opNakReceive_of_up hlink)
  · intro port s hclk hsent hlink
    exact next_whenClocked hclk (opNakResend_of_waiting hsent hlink)
  · intro port s hclk hlink hreplay
    exact next_whenClocked hclk ((opReplayTimeout_of_up hlink).trans (State.replay_of_empty hreplay))
  · intro port u s hclk hlink hreplay hu
    subst hu
    exact next_whenClocked hclk ((opReplayTimeout_of_up hlink).trans (State.replay_of_unacknowledged hreplay))
  · intro port s hclk hlink hhealth
    exact next_whenClocked hclk (opFastRetrain_of_up hlink hhealth)
  · intro port s hclk hlink hhealth
    exact next_whenClocked hclk (opTrainReceive_of_up hlink hhealth)
  · intro port s hclk hlink
    exact next_whenClocked hclk (opTrainReceive_of_not_up hlink)
  · intro port stamps u s hclk hlink hlocked hu hchange
    subst hu
    exact next_whenClocked hclk (opRetrainEnd_of_locked hlink hlocked hchange)
  · intro port closed stamps s hclk hlink hfailed hburst
    exact next_whenClocked hclk (opRetrainEnd_of_failed hlink hfailed hburst)
  · intro port s hclk hlink hhealth hrestarts
    exact next_whenClocked hclk (opRetrainRestart_of_early hlink hhealth hrestarts)
  · intro port s hclk hlink hhealth hrestarts
    exact next_whenClocked hclk (opRetrainRestart_of_fifth hlink hhealth hrestarts)

end Sys2Proof.Machine
end

section
/-! PROOFS. Bursts, lanes and width (R318, R319, R321, R322, R325). -/

namespace Sys2Proof.Machine

open Sys2Proof

/-! ### What sending leaves of the widths -/

/-- The width and the retired lanes of each port: what decides which lanes are active. -/
def State.widths (s : State) (i : Nat) : Width × BitVec 8 := ((s.port i).width, (s.port i).retiredLanes)

theorem State.widths_of_plk {s t : State} (h : t.plk = s.plk) : t.widths = s.widths := by
  funext i
  simp only [State.widths, State.port, h]

theorem foldl_widths {α : Type} {g : State → α → State} (hg : ∀ s x, (g s x).widths = s.widths) (l : List α)
    (s : State) : (l.foldl g s).widths = s.widths := by
  induction l generalizing s with
  | nil => rfl
  | cons x l ih => exact (ih _).trans (hg s x)

@[simp] theorem State.updWork_widths (i : Nat) (f : PortWork → PortWork) (s : State) :
    (s.updWork i f).widths = s.widths := rfl

@[simp] theorem State.setLink_widths (i : Nat) (l : Link) (s : State) :
    (s.updPort i (fun p => { p with link := l })).widths = s.widths := by
  funext k
  by_cases h : k = i
  · subst h
    simp [State.widths]
  · simp [State.widths, State.port_updPort_ne s h]

@[simp] theorem State.emitPcie_plk (t : HostTlp) (s : State) : (s.emitPcie t).plk = s.plk := by
  unfold State.emitPcie
  split <;> rfl

@[simp] theorem State.fireVec_plk (fn v : Nat) (s : State) : (s.fireVec fn v).plk = s.plk := by
  unfold State.fireVec
  split
  · rfl
  · split
    · rfl
    · exact State.emitPcie_plk _ _

@[simp] theorem State.writeLog_plk (ev : Nat) (rs : Reason) (part : Option (Nat × Nat)) (data : W64) (s : State) :
    (s.writeLog ev rs part data).plk = s.plk := by
  unfold State.writeLog
  extract_lets
  split <;> rfl

@[simp] theorem State.logEvent_plk (ev : Nat) (rs : Reason) (part : Option (Nat × Nat)) (data : List (Nat × Nat))
    (s : State) : (s.logEvent ev rs part data).plk = s.plk := by
  unfold State.logEvent
  extract_lets
  split
  · rfl
  · split
    · exact (State.fireVec_plk ..).trans (State.writeLog_plk ..)
    · exact State.writeLog_plk ..

@[simp] theorem State.logEvent_widths (ev : Nat) (rs : Reason) (part : Option (Nat × Nat)) (data : List (Nat × Nat))
    (s : State) : (s.logEvent ev rs part data).widths = s.widths :=
  State.widths_of_plk (State.logEvent_plk ev rs part data s)

@[simp] theorem State.sendLine_widths (i : Nat) (seq : BitVec 12) (ack : Option (BitVec 12)) (f : Flit) (s : State) :
    (s.sendLine i seq ack f).widths = s.widths := rfl

@[simp] theorem State.sendLinkctl_widths (i : Nat) (m : Msg) (s : State) : (s.sendLinkctl i m).widths = s.widths :=
  foldl_widths (fun _ _ => State.sendLine_widths ..) _ _

@[simp] theorem State.txRaw_widths (i : Nat) (f : Flit) (s : State) : (s.txRaw i f).widths = s.widths := by
  unfold State.txRaw
  split <;> rfl

@[simp] theorem State.txLocal_widths (i : Nat) (m : Msg) (s : State) : (s.txLocal i m).widths = s.widths :=
  foldl_widths (fun _ _ => State.txRaw_widths ..) _ _

/-- A wake changes the link of a port, not its lanes. -/
@[simp] theorem State.wakePort_widths (i : Nat) (s : State) : (s.wakePort i).widths = s.widths := by
  unfold State.wakePort
  extract_lets
  split
  · exact State.setLink_widths ..
  · rfl
  · split
    · exact State.txLocal_widths ..
    · rfl
  · rfl

@[simp] theorem State.tx_widths (i : Nat) (f : Flit) (s : State) : (s.tx i f).widths = s.widths := by
  unfold State.tx
  split <;> simp

@[simp] theorem State.countAlternate_widths (port : Nat) (f : Flit) (s : State) :
    (s.countAlternate port f).widths = s.widths := by
  unfold State.countAlternate
  split
  · rfl
  · split
    · exact State.logEvent_widths ..
    · rfl

@[simp] theorem State.sendFlit_widths (f : Flit) (s : State) : (s.sendFlit f).widths = s.widths := by
  unfold State.sendFlit
  split
  · simp only [State.tx_widths]
    split
    · rfl
    · exact State.countAlternate_widths ..
  · split
    · rfl
    · exact State.logEvent_widths ..

@[simp] theorem State.send_widths (dst : Nat) (m : Msg) (s : State) : (s.send dst m).widths = s.widths := by
  unfold State.send
  split
  · rfl
  · extract_lets
    split
    · rfl
    · exact foldl_widths (fun _ _ => State.sendFlit_widths ..) _ _

@[simp] theorem State.sendWidth_widths (i : Nat) (l : BitVec 8) (s : State) : (s.sendWidth i l).widths = s.widths := by
  unfold State.sendWidth
  split
  · exact State.sendLinkctl_widths ..
  · split
    · exact State.send_widths ..
    · rfl

/-- The width that the sound lanes allow depends on no more of the port than its width and its retired lanes. -/
theorem Port.widthFor_congr {p q : Port} (hwidth : q.width = p.width) (hretired : q.retiredLanes = p.retiredLanes)
    (l : BitVec 8) : q.widthFor l = p.widthFor l := by
  cases p
  cases q
  cases hwidth
  cases hretired
  rfl

theorem Port.widthFor_of_widths {s t : State} (h : t.widths = s.widths) (i : Nat) (l : BitVec 8) :
    (t.port i).widthFor l = (s.port i).widthFor l := by
  obtain ⟨hwidth, hretired⟩ := Prod.mk.inj (congrFun h i)
  exact Port.widthFor_congr hwidth hretired l

/-! ### Bursts (R319, R322) -/

section Burst

variable {port : Fin 16} {i : Nat} {s : State}

/-- The port as its burst begins: the adaptation of 2 µs before, frozen, and the lanes that began it struck (R319). -/
def State.struck (i : Nat) (s : State) : State :=
  (s.updPort i (fun p => { p with
    burst := true, frozen := true, bursts := satAdd p.bursts 1
    lanes := p.lanes.mapRow {} 8 (fun k l => { l with
      adapt := l.hist1, hit := (s.work i).recent.any (fun y => y.1 == k) }) })).updWork i (fun w => { w with
    burstsTotal := w.burstsTotal + 1, burstFrames := 0, recal := none, probBurst := (s.port i).probation
    window := ((w.window.headD (0, false)).1, true) :: w.window.tail })

theorem State.startBurst_of_calm (hburst : (s.port i).burst = false) (hhealth : (s.port i).health ≠ .retired) :
    s.startBurst i = if (s.port i).probation then (s.struck i).setHealth i .quarantine (s.port i).width
      else s.struck i :=
  if_neg (by simp [hburst, hhealth])

theorem State.startBurst_of_burst (h : (s.port i).burst = true ∨ (s.port i).health = .retired) : s.startBurst i = s :=
  if_pos (by simpa using h)

theorem opBurstStart_of_four (hdown : (s.port port.val).link ≠ .down) (hdoze : (s.port port.val).link ≠ .doze)
    (hrecent : 4 ≤ (s.work port.val).recent.length) : opBurstStart port s = s.startBurst port.val :=
  if_neg (by simp [hdown, hdoze, hrecent])

theorem opBurstStart_of_calm
    (h : (s.port port.val).link = .down ∨ (s.port port.val).link = .doze ∨ (s.work port.val).recent.length < 4 ∨
      (s.port port.val).burst = true ∨ (s.port port.val).health = .retired) : opBurstStart port s = s := by
  by_cases hquiet : (s.port port.val).link = .down ∨ (s.port port.val).link = .doze ∨ (s.work port.val).recent.length < 4
  · exact if_pos (by simpa [or_assoc] using hquiet)
  · refine (if_neg (by simpa [or_assoc] using hquiet)).trans (State.startBurst_of_burst ?_)
    tauto

/-- A burst that began during probation is a permanent fault of the lanes it struck (R322, log entry 13). -/
theorem opBurstEnd_of_locked {dur : BitVec 32} (hburst : (s.port port.val).burst = true)
    (hlocked : (s.port port.val).locked = true) :
    opBurstEnd port dur s =
      let u := (s.updPort port.val (fun p => { p with burst := false, frozen := false })).updWork port.val (fun w =>
        { w with recal := some 4, burstDur := dur, probBurst := false, recent := [] })
      if (s.work port.val).probBurst then u.permanentFault port.val (s.port port.val).hitLanes else u :=
  if_neg (by simp [hburst, hlocked])

/-- The port as 8 frames of a burst take it to QUARANTINE: the leads told, the health changed, logged and signalled, and its
data dropped (R322, R324). -/
def State.burstQuarantined (i : Nat) (s : State) : State :=
  let n := s.healthNotice i s.frm.count .quarantine (s.port i).width
  let u := (n.updPort i (fun p => { p with health := .quarantine })).updWork i (fun w => { w with
    nextHealth := none, healthFrame := n.frm.count })
  ((u.logEvent 0x0700 .none none [(0, i), (10, (u.port i).stateWord.toNat % 2 ^ 26)]).fireVec 0 5).dropData i

theorem opBurstQuarantine_of_eighth (hburst : (s.port port.val).burst = true)
    (hframes : 8 ≤ (s.work port.val).burstFrames) (hquarantine : (s.port port.val).health ≠ .quarantine)
    (hretired : (s.port port.val).health ≠ .retired) :
    opBurstQuarantine port s = if port.val < 12 then (s.burstQuarantined port.val).sendBeacons
      else s.burstQuarantined port.val :=
  if_neg (by simp [hburst, hframes, hquarantine, hretired])

end Burst

/-! ### Recalibration and probation (R321, R322) -/

section Recalibration

variable {port : Fin 16} {i : Nat} {margins : List (BitVec 12)} {s : State}

/-- The margins that recalibration measures. -/
def State.measured (i : Nat) (margins : List (BitVec 12)) (s : State) : State :=
  s.updPort i (fun p => { p with lanes := p.lanes.mapRow {} 8 (fun l x => { x with margin := margins.getD l x.margin }) })

/-- The active lanes below the floor of 17.0 dB. -/
def Port.lowLanes (p : Port) : BitVec 8 := laneMask (p.active.filter (fun l => decide ((p.lane l).margin.toNat < 170)))

/-- Recalibration is over and probation begins; a burst of at most 8 frames without a stuck lane is logged as a transient. -/
def State.onProbation (i : Nat) (s : State) : State :=
  let v := s.updWork i (fun w => { w with recal := none })
  ((if decide ((s.work i).burstDur.toNat * 100 ≤ 8 * periodNs s.frm.period) &&
        !(s.port i).active.any (fun l => ((s.port i).lane l).stuck)
      then v.log 0x0701 [(0, i), (4, (s.work i).burstDur.toNat), (36, (s.port i).hitLanes.toNat)]
      else v).updPort i (fun p => { p with probation := true })).updWork i (fun w => { w with
    probFrames := 64, clean := 0 })

/-- The end of recalibration by what it finds: lanes below the floor, an earlier fault or width change, or neither. -/
theorem opRecalibrationEnd_of_due (hrecal : (s.work port.val).recal = some 0) :
    opRecalibrationEnd port margins s =
      let u := s.measured port.val margins
      if (u.port port.val).lowLanes != 0 then
        (u.updWork port.val (fun w => { w with recal := none })).permanentFault port.val (u.port port.val).lowLanes
      else if (s.work port.val).unsound.isSome || (s.work port.val).change.isSome then
        u.updWork port.val (fun w => { w with recal := none })
      else (u.onProbation port.val).setHealth port.val .watch (u.port port.val).width :=
  if_neg (by simp [hrecal])

theorem opRecalibrationEnd_of_low (hrecal : (s.work port.val).recal = some 0)
    (hlow : ((s.measured port.val margins).port port.val).lowLanes ≠ 0) :
    opRecalibrationEnd port margins s =
      ((s.measured port.val margins).updWork port.val (fun w => { w with recal := none })).permanentFault port.val
        ((s.measured port.val margins).port port.val).lowLanes :=
  (opRecalibrationEnd_of_due hrecal).trans (if_pos (bne_iff_ne.2 hlow))

theorem opRecalibrationEnd_of_faulty (hrecal : (s.work port.val).recal = some 0)
    (hlow : ((s.measured port.val margins).port port.val).lowLanes = 0)
    (hfault : (s.work port.val).unsound ≠ none ∨ (s.work port.val).change ≠ none) :
    opRecalibrationEnd port margins s = (s.measured port.val margins).updWork port.val (fun w => { w with recal := none }) :=
  (opRecalibrationEnd_of_due hrecal).trans
    ((if_neg (by simp [hlow])).trans (if_pos (by simpa [Option.isSome_iff_ne_none] using hfault)))

theorem opRecalibrationEnd_of_sound (hrecal : (s.work port.val).recal = some 0)
    (hlow : ((s.measured port.val margins).port port.val).lowLanes = 0) (hunsound : (s.work port.val).unsound = none)
    (hchange : (s.work port.val).change = none) :
    opRecalibrationEnd port margins s = ((s.measured port.val margins).onProbation port.val).setHealth port.val .watch
      ((s.measured port.val margins).port port.val).width :=
  (opRecalibrationEnd_of_due hrecal).trans ((if_neg (by simp [hlow])).trans (if_neg (by simp [hunsound, hchange])))

theorem opProbationEnd_of_due (hprobation : (s.port port.val).probation = true) (hframes : (s.work port.val).probFrames = 0) :
    opProbationEnd port s = s.updPort port.val (fun p => { p with probation := false }) :=
  if_pos (by simp [hprobation, hframes])

theorem opStuckLane_of_active {lane : Fin 8} (hlink : (s.port port.val).link = .up)
    (hactive : lane.val ∈ (s.port port.val).active) :
    opStuckLane port lane s = (s.updPort port.val (fun p => p.updLane lane.val (fun l =>
      { l with stuck := true }))).permanentFault port.val (laneMask [lane.val]) :=
  if_pos (by simp [hlink, hactive])

end Recalibration

/-! ### Changes of width (R325) -/

section WidthChange

variable {port : Fin 16} {unsound u : BitVec 8} {s : State}

section Propose

variable (hu : u = (s.work port.val).unsound.getD 0 ||| unsound) (hfault : u ≠ 0 ∨ (s.work port.val).unsound ≠ none)
  (hhealth : (s.port port.val).health ≠ .retired) (hchange : (s.work port.val).change = none)

include hu hfault hhealth hchange

/-- The unsound lanes are sent to the far end, and examined; sending leaves the port's lanes as they are. -/
theorem opWidthChange_of_unsound :
    opWidthChange port unsound s = if (s.port port.val).widthFor u = .none
      then (s.sendWidth port.val u).retirePort port.val
      else (s.sendWidth port.val u).updWork port.val (fun w => { w with
        unsound := some u, change := some { unsound := u } }) := by
  have hsame := Port.widthFor_of_widths (State.sendWidth_widths port.val u s) port.val u
  unfold opWidthChange
  simp only [← hu, hsame]
  rw [if_neg (by simpa [hhealth, hchange, imp_iff_not_or] using hfault)]
  split
  next hnone => rw [if_pos hnone]
  next hsome => rw [if_neg hsome]

theorem opWidthChange_of_half (hwidth : (s.port port.val).widthFor u ≠ .none) :
    opWidthChange port unsound s = (s.sendWidth port.val u).updWork port.val (fun w => { w with
      unsound := some u, change := some { unsound := u } }) :=
  (opWidthChange_of_unsound hu hfault hhealth hchange).trans (if_neg hwidth)

theorem opWidthChange_of_no_half (hwidth : (s.port port.val).widthFor u = .none) :
    opWidthChange port unsound s = (s.sendWidth port.val u).retirePort port.val :=
  (opWidthChange_of_unsound hu hfault hhealth hchange).trans (if_pos hwidth)

end Propose

theorem opWidthReceive_of_proposed {ch : WidthChange} (hhealth : (s.port port.val).health ≠ .retired)
    (hchange : (s.work port.val).change = some ch) (hretraining : ch.retraining = false) :
    opWidthReceive port unsound s = s.applyWidth port.val (ch.unsound ||| unsound) := by
  unfold opWidthReceive
  simp only [if_neg hhealth, hchange, hretraining, Bool.false_eq_true, if_false]

theorem opWidthReceive_of_far (hhealth : (s.port port.val).health ≠ .retired) (hchange : (s.work port.val).change = none) :
    opWidthReceive port unsound s = ((s.setHealth port.val .quarantine (s.port port.val).width).sendWidth port.val
      ((s.work port.val).unsound.getD 0 ||| unsound)).applyWidth port.val
        ((s.work port.val).unsound.getD 0 ||| unsound) := by
  unfold opWidthReceive
  simp only [if_neg hhealth, hchange]

theorem opWidthChangeTimeout_of_due {ch : WidthChange} (hchange : (s.work port.val).change = some ch)
    (hframes : 64 ≤ ch.frames) (hretraining : ch.retraining = false) :
    opWidthChangeTimeout port s = s.retirePort port.val := by
  unfold opWidthChangeTimeout
  simp only [hchange]
  exact if_pos (by simp [hframes, hretraining])

end WidthChange

/-- Settles O28: each clause is the equation of its operation in the case it names. A burst in probation with its struck
lanes unsound is log entry 13, the adaptation state a free value by log entry 6. -/
theorem portsBurstsAndWidth : Obligations.PortsBurstsAndWidth := by
  refine ⟨?_, ?_, ?_, ?_, ?_, ?_, ?_, ?_, ?_, ?_, ?_, ?_, ?_, ?_, ?_, ?_⟩
  · intro port u s hclk hdown hdoze hrecent hburst hhealth hu
    subst hu
    exact next_whenClocked hclk
      ((opBurstStart_of_four hdown hdoze hrecent).trans (State.startBurst_of_calm hburst hhealth))
  · intro port s hclk h
    exact next_whenClocked hclk (opBurstStart_of_calm h)
  · intro port dur u s hclk hburst hlocked hu
    subst hu
    exact next_whenClocked hclk (opBurstEnd_of_locked hburst hlocked)
  · intro port n u v s hclk hburst hframes hquarantine hretired hn hu hv
    subst hn hu hv
    exact next_whenClocked hclk (opBurstQuarantine_of_eighth hburst hframes hquarantine hretired)
  · intro port margins u v s hclk hrecal hu hv hlow hunsound hchange
    subst hu hv
    exact next_whenClocked hclk (opRecalibrationEnd_of_sound hrecal hlow hunsound hchange)
  · intro port margins u s hclk hrecal hu hlow hfault
    subst hu
    exact next_whenClocked hclk (opRecalibrationEnd_of_faulty hrecal hlow hfault)
  · intro port margins u s hclk hrecal hu hlow
    subst hu
    exact next_whenClocked hclk (opRecalibrationEnd_of_low hrecal hlow)
  · intro port s hclk hprobation hframes
    exact next_whenClocked hclk (opProbationEnd_of_due hprobation hframes)
  · intro port lane s hclk hlink hactive
    exact next_whenClocked hclk (opStuckLane_of_active hlink hactive)
  · intro port unsound u s hclk hu hfault hhealth hchange hwidth
    exact next_whenClocked hclk (opWidthChange_of_half hu hfault hhealth hchange hwidth)
  · intro port unsound u s hclk hu hfault hhealth hchange hwidth
    exact next_whenClocked hclk (opWidthChange_of_no_half hu hfault hhealth hchange hwidth)
  · intro port unsound ch s hclk hhealth hchange hretraining
    exact next_whenClocked hclk (opWidthReceive_of_proposed hhealth hchange hretraining)
  · intro port unsound s hclk hhealth hchange
    exact next_whenClocked hclk (opWidthReceive_of_far hhealth hchange)
  · intro port ch s hclk hchange hframes hretraining
    exact next_whenClocked hclk (opWidthChangeTimeout_of_due hchange hframes hretraining)
  · intro port lane up s hclk
    exact next_whenClocked hclk rfl
  · intro port margins s hclk
    exact next_whenClocked hclk rfl

end Sys2Proof.Machine
end

section
/-! PROOFS. Doze and wake (R327 to R329). -/

namespace Sys2Proof.Machine

open Sys2Proof

variable {port : Fin 16} {i : Nat} {s : State}

/-! ### Wake requests -/

theorem State.wakePort_of_doze (hlink : (s.port i).link = .doze) :
    s.wakePort i = (s.updPort i (fun p => { p with link := .waking })).wakeTrain i := by
  unfold State.wakePort
  simp only [hlink]

theorem State.wakePort_of_dozeEntry (hlink : (s.port i).link = .dozeEntry) :
    s.wakePort i = s.updWork i (fun w => { w with wakeLatched := true }) := by
  unfold State.wakePort
  simp only [hlink]

theorem opWakeReceive_of_acknowledged (hlink : (s.port port.val).link = .up) (hack : (s.work port.val).sentAck = true) :
    opWakeReceive port s = s.dozeCommit port.val true := by
  unfold opWakeReceive
  simp only [hlink]
  exact if_pos hack

theorem opWakeReceive_of_dozeEntry (hlink : (s.port port.val).link = .dozeEntry) :
    opWakeReceive port s = s.updWork port.val (fun w => { w with wakeLatched := true }) := by
  unfold opWakeReceive
  simp only [hlink]

theorem opWakeTimeout_of_waking (hlink : (s.port port.val).link = .waking) :
    opWakeTimeout port s = s.portDown port.val :=
  if_pos hlink

/-! ### Doze requests and acknowledgements -/

theorem opDozeRequest_of_ok (hok : s.dozeOk port.val = true) (hdozing : (s.work port.val).dozing = false) :
    opDozeRequest port s = (s.updWork port.val (fun w => { w with sentReq := true })).txLocal port.val .dozeReq :=
  if_pos (by simp [hok, hdozing])

theorem opDozeRequest_of_not_ok (hok : s.dozeOk port.val = false) : opDozeRequest port s = s :=
  if_neg (by simp [hok])

theorem opDozeReqReceive_of_ok (hlink : (s.port port.val).link = .up) (hok : s.dozeOk port.val = true)
    (hack : (s.work port.val).sentAck = false) (hwake : (s.work port.val).sentWake = false) :
    opDozeReqReceive port s =
      (s.updWork port.val (fun w => { w with gotReq := true, sentAck := true })).txLocal port.val .dozeAck :=
  (if_neg (by simp [hlink])).trans (if_pos (by simp [hok, hack, hwake]))

theorem opDozeReqReceive_of_not_ok (hlink : (s.port port.val).link = .up) (hok : s.dozeOk port.val = false) :
    opDozeReqReceive port s = s.updWork port.val (fun w => { w with gotReq := true }) :=
  (if_neg (by simp [hlink])).trans (if_neg (by simp [hok]))

/-- A commit that no wake has reached keeps what was latched. -/
theorem State.dozeCommit_false : s.dozeCommit i false =
    ((s.updPort i (fun p => { p with link := .dozeEntry })).updWork i (fun w => { w with
      sentReq := false, gotReq := false, sentAck := false, gotAck := false, sentWake := false
      wakeLatched := w.wakeLatched })).handBackQueue i := by
  unfold State.dozeCommit
  simp only [Bool.or_false]

section Acknowledged

variable (hlink : (s.port port.val).link = .up) (hdozing : (s.work port.val).dozing = true)
  (hwake : (s.work port.val).sentWake = false)

include hlink hdozing hwake

/-- The far end's acknowledgement where this end has sent no WAKE: it commits, after an acknowledgement of its own, or
wakes the port. -/
theorem opDozeAckReceive_of_no_wake :
    opDozeAckReceive port s =
      if (s.work port.val).sentAck then s.dozeCommit port.val false
      else if s.dozeOk port.val then
        ((s.updWork port.val (fun w => { w with sentAck := true })).txLocal port.val .dozeAck).dozeCommit port.val false
      else (s.updWork port.val (fun w => { w with gotAck := true })).wakePort port.val :=
  (if_neg (by simp [hlink, hdozing])).trans (if_neg (by simp [hwake]))

theorem opDozeAckReceive_of_acknowledged (hack : (s.work port.val).sentAck = true) :
    opDozeAckReceive port s = s.dozeCommit port.val false :=
  (opDozeAckReceive_of_no_wake hlink hdozing hwake).trans (if_pos hack)

theorem opDozeAckReceive_of_ok (hack : (s.work port.val).sentAck = false) (hok : s.dozeOk port.val = true) :
    opDozeAckReceive port s =
      ((s.updWork port.val (fun w => { w with sentAck := true })).txLocal port.val .dozeAck).dozeCommit port.val false :=
  (opDozeAckReceive_of_no_wake hlink hdozing hwake).trans ((if_neg (ne_true_of_eq_false hack)).trans (if_pos hok))

end Acknowledged

/-! ### Entry (R329) -/

/-- The transmitters of a committed port stop, and its link becomes `l`. -/
def State.quietLink (i : Nat) (l : Link) (s : State) : State :=
  (((((s.losesUp i).dropBuffered i).updPort i (fun p => { p with
    link := l, lanes := p.lanes.mapRow {} 8 (fun _ l => { l with lock := .search }) })).updWork i (fun w => { w with
    wakeLatched := false })).handBackQueue i).emit (.idle i 0xFF)

section Entry

variable (hlink : (s.port port.val).link = .dozeEntry) (hreplay : (s.work port.val).replay = [])

include hlink hreplay

theorem opDozeEntry_of_unlatched (hlatched : (s.work port.val).wakeLatched = false) :
    opDozeEntry port s = (s.quietLink port.val .doze).refreshParent := by
  unfold opDozeEntry
  rw [if_neg (by simp [hlink, hreplay])]
  simp only [hlatched, Bool.false_eq_true, if_false]
  rfl

theorem opDozeEntry_of_latched (hlatched : (s.work port.val).wakeLatched = true) :
    opDozeEntry port s = ((s.quietLink port.val .waking).wakeTrain port.val).refreshParent := by
  unfold opDozeEntry
  rw [if_neg (by simp [hlink, hreplay])]
  simp only [hlatched, if_true]
  rfl

end Entry

/-- Settles O29: each clause is the equation of its operation in the case it names. What counts as waiting traffic is log
entry 9. -/
theorem portsDozing : Obligations.PortsDozing := by
  refine ⟨?_, ?_, ?_, ?_, ?_, ?_, ?_, ?_, ?_, ?_, ?_, ?_, ?_⟩
  · intro port s hclk hok hdozing
    exact next_whenClocked hclk (opDozeRequest_of_ok hok hdozing)
  · intro port s hclk hok
    exact next_whenClocked hclk (opDozeRequest_of_not_ok hok)
  · intro port s hclk hlink hok hack hwake
    exact next_whenClocked hclk (opDozeReqReceive_of_ok hlink hok hack hwake)
  · intro port s hclk hlink hok
    exact next_whenClocked hclk (opDozeReqReceive_of_not_ok hlink hok)
  · intro port s hclk hlink hdozing hwake hack hok
    exact next_whenClocked hclk (opDozeAckReceive_of_ok hlink hdozing hwake hack hok)
  · intro port s hclk hlink hdozing hwake hack
    exact next_whenClocked hclk
      ((opDozeAckReceive_of_acknowledged hlink hdozing hwake hack).trans State.dozeCommit_false)
  · intro port s hclk hlink
    exact next_whenClocked hclk (State.wakePort_of_doze hlink)
  · intro port s hclk hlink
    exact next_whenClocked hclk (State.wakePort_of_dozeEntry hlink)
  · intro port s hclk hlink hack
    exact next_whenClocked hclk (opWakeReceive_of_acknowledged hlink hack)
  · intro port s hclk hlink
    exact next_whenClocked hclk (opWakeReceive_of_dozeEntry hlink)
  · intro port s hclk hlink hreplay hlatched
    exact next_whenClocked hclk (opDozeEntry_of_unlatched hlink hreplay hlatched)
  · intro port s hclk hlink hreplay hlatched
    exact next_whenClocked hclk (opDozeEntry_of_latched hlink hreplay hlatched)
  · intro port s hclk hlink
    exact next_whenClocked hclk (opWakeTimeout_of_waking hlink)

end Sys2Proof.Machine
end

section
/-! PROOFS. Temperatures, base charge and caps (R386, R398, R402, R406, R422), with the codewords, signals and timer ticks
of their statement (R303, R306, R309, R329, R419). -/

namespace Sys2Proof.Machine

open Sys2Proof

/-! ### Temperatures and sensors (R398, R422) -/

section Thermal

variable {temps : List (Option Int)} {s : State}

/-- The state once every on-die sensor is read, with the hottest sample of the frame. -/
def State.sampled (temps : List (Option Int)) (s : State) : State :=
  let u := ((List.range 48).zip temps).foldl (fun s x => s.readSensor x.1 (x.2.map (fun t => BitVec.ofInt 16 t))) s
  u.updPwr (fun w => { w with
    hotSample := ((List.range 48).zip temps).foldl (fun b x => match x.2 with
      | some t => some (hotterOf b (wholeC t, x.1))
      | none => b) u.pwr.hotSample })

/-- The first sample of 115 °C or more (R401). -/
def tripping (temps : List (Option Int)) : Option (Nat × Option Int) :=
  ((List.range 48).zip temps).find? (fun x => x.2.any (fun t => decide (115 * 16 ≤ t)))

theorem tripping_eq_none (h : ∀ x, x ∈ (List.range 48).zip temps → ∀ t, x.2 = some t → t < 115 * 16) :
    tripping temps = none := by
  refine List.find?_eq_none.2 fun x hx => ?_
  rw [Option.any_eq_true]
  rintro ⟨t, ht, htrip⟩
  exact absurd (of_decide_eq_true htrip) (Int.not_le.2 (h x hx t ht))

theorem opThermalSample_of_cool (h : tripping temps = none) : opThermalSample temps s = s.sampled temps := by
  unfold tripping at h
  unfold opThermalSample
  simp only [h]
  rfl

theorem opThermalSample_of_trip {x : Nat × Option Int} (h : tripping temps = some x) :
    opThermalSample temps s = (s.sampled temps).trip (wholeC (x.2.getD 0)) x.1 := by
  unfold tripping at h
  unfold opThermalSample
  simp only [h]
  rfl

theorem opSensorSample_of_known {sensor value : BitVec 16} {good : Bool}
    (h : 48 ≤ sensor.toNat ∧ sensor.toNat < 56 ∨ 256 ≤ sensor.toNat ∧ sensor.toNat < 280 ∨
      512 ≤ sensor.toNat ∧ sensor.toNat < 528) :
    opSensorSample sensor value good s = s.readSensor sensor.toNat (if good then some value else none) :=
  if_neg (by simpa [imp_iff_not_or, or_assoc] using h)

end Thermal

/-! ### The base charge (R386) -/

section BaseCharge

variable {eIn : Nat} {failed : Bool} {s : State}

theorem opBaseChargeUpdate_of_good (hframes : 64 ≤ s.pwr.winFrames) (hnow : failed = false)
    (hwindow : s.pwr.winFailed = false) :
    opBaseChargeUpdate eIn failed s = s.updPwr (fun w => { w with
      winFrames := 0, winM := 0, winFailed := false
      nextBase := some (BitVec.ofNat 32 (min ((((eIn : Int) - s.pwr.winM) + 63) / 64).toNat (s.capEnergy / 2))) }) := by
  unfold opBaseChargeUpdate
  rw [if_neg (Nat.not_lt.2 hframes)]
  simp only [hnow, hwindow, Bool.or_self, Bool.false_eq_true, if_false]

theorem opBaseChargeUpdate_of_bad (hframes : 64 ≤ s.pwr.winFrames) (hbad : failed = true ∨ s.pwr.winFailed = true) :
    opBaseChargeUpdate eIn failed s = s.updPwr (fun w => { w with winFrames := 0, winM := 0, winFailed := false }) := by
  unfold opBaseChargeUpdate
  rw [if_neg (Nat.not_lt.2 hframes)]
  simp only [Bool.or_eq_true_iff.2 hbad, if_true]

end BaseCharge

/-! ### Caps (R402, R406) -/

section Cap

variable {cap : BitVec 7} {frame : FrameNo} {pkg : Fin 128} {x : SheafCap} {s : State}

theorem State.toChoesk_of_serving {src : Nat} {m : Msg} {t : State} (h : s.mgt.act ≠ .restoring) :
    s.toChoesk src m t = t :=
  if_neg h

section Ack

variable (hx : s.pwr.sheaf.find? (fun x => x.cap == cap && x.waiting.contains pkg.val && !later x.effective frame) = some x)

include hx

theorem State.takeCapAck_of_last (hrest : x.waiting.filter (fun k => k != pkg.val) = []) :
    s.takeCapAck cap frame pkg.val = (s.updPwr (fun w => { w with sheaf := w.sheaf.erase x })).finishAll x.cmd.toList .done
      .none [word [(0, x.effective.toNat)], 0] := by
  unfold State.takeCapAck
  simp only [hx]
  exact if_pos (List.isEmpty_iff.2 hrest)

theorem State.takeCapAck_of_others (hrest : x.waiting.filter (fun k => k != pkg.val) ≠ []) :
    s.takeCapAck cap frame pkg.val = s.updPwr (fun w => { w with
      sheaf := w.sheaf.map (fun y => if y = x then { y with waiting := x.waiting.filter (fun k => k != pkg.val) } else y) }) := by
  unfold State.takeCapAck
  simp only [hx]
  exact if_neg (mt List.isEmpty_iff.1 hrest)

end Ack

theorem opSheafCapTimeout_of_one (hdue : s.pwr.sheaf.filter (fun x => !later x.effective s.frm.count &&
      decide (64 ≤ framesSince s.frm.count x.effective)) = [x]) :
    opSheafCapTimeout s = (s.updPwr (fun w => { w with sheaf := w.sheaf.erase x })).finishAll x.cmd.toList .done .none
      [word [(0, x.effective.toNat)], word [(0, x.waiting.length % 256)]] := by
  unfold opSheafCapTimeout
  rw [hdue]
  rfl

end Cap

/-! ### Codewords (R303, R306) -/

section Codeword

variable {port : Fin 16} {word : Codeword} {i lane gap : Nat} {s : State}

theorem opUncorrectableCodeword_of_ignored
    (h : (s.port port.val).link = .down ∨ (s.port port.val).health = .retired ∨
      word.lane.val ∉ (s.port port.val).active) : opUncorrectableCodeword port word s = s :=
  if_pos (by simpa [or_assoc] using h)

section Active

variable (hlink : (s.port port.val).link ≠ .down) (hhealth : (s.port port.val).health ≠ .retired)
  (hactive : word.lane.val ∈ (s.port port.val).active)

include hlink hhealth hactive

theorem opUncorrectableCodeword_of_correctable (herrors : word.errors ≤ 15) :
    opUncorrectableCodeword port word s = s.updPort port.val (fun p =>
      { (p.updLane word.lane.val (fun l => { l with consecUncorr := 0 })) with
        corrected := satAdd p.corrected word.errors }) :=
  (if_neg (by simp [hlink, hhealth, hactive])).trans (if_pos herrors)

theorem opUncorrectableCodeword_of_uncorrectable (herrors : 15 < word.errors) :
    opUncorrectableCodeword port word s = s.badCodeword port.val word.lane.val word.gap :=
  (if_neg (by simp [hlink, hhealth, hactive])).trans (if_neg (Nat.not_le.2 herrors))

end Active

/-- What an uncorrectable codeword does to its lane: `burst` says whether the port is in a burst. -/
def Lane.badWord (burst : Bool) (l : Lane) : Lane :=
  { l with
    uncorr := satAdd l.uncorr 1, consecUncorr := l.consecUncorr + 1, hit := l.hit || burst
    win := if burst then l.win else (l.win.headD 0 + 1) :: l.win.tail }

/-- What an uncorrectable codeword does to its port where it forces no lane: it is remembered for 1 µs, and counted on its
lane. -/
def State.tallyBad (i lane gap : Nat) (s : State) : State :=
  (s.updWork i (fun w => { w with
    recent := ((lane, 0) :: w.recent.map (fun x => (x.1, x.2 + gap))).filter (fun x => decide (x.2 ≤ 1000)) })).updPort i
    (fun p => p.updLane lane (Lane.badWord (s.port i).burst))

theorem State.badCodeword_of_unforced (h : ((s.port i).lane lane).consecUncorr + 1 < 64 ∨
      ((s.port i).lane lane).lock ≠ .locked) : s.badCodeword i lane gap = s.tallyBad i lane gap :=
  if_pos (by simpa using h.symm.imp_right Nat.lt_of_succ_lt_succ)

@[simp] theorem State.tallyBad_lane : ((s.tallyBad i lane gap).port i).lane lane =
    ((s.port i).lane lane).badWord (s.port i).burst := by
  simp [State.tallyBad]

theorem State.tallyBad_port_ne {k : Nat} (h : k ≠ i) : (s.tallyBad i lane gap).port k = s.port k :=
  State.port_updPort_ne _ h _

end Codeword

/-! ### Signals (R309, R329) -/

section Signal

variable {port : Fin 16} {s : State}

theorem opSignalDetect_of_down (hlink : (s.port port.val).link = .down) (hhealth : (s.port port.val).health ≠ .retired) :
    opSignalDetect port s = s.updPort port.val (fun p => { p with link := .training }) := by
  unfold opSignalDetect
  simp only [hlink]
  exact if_neg hhealth

theorem opSignalDetect_of_doze (hlink : (s.port port.val).link = .doze) :
    opSignalDetect port s = (s.updPort port.val (fun p => { p with link := .waking })).wakeTrain port.val := by
  unfold opSignalDetect
  simp only [hlink]

theorem opSignalDetect_of_ignored
    (h : ((s.port port.val).link ≠ .down ∧ (s.port port.val).link ≠ .doze) ∨
      ((s.port port.val).link = .down ∧ (s.port port.val).health = .retired)) : opSignalDetect port s = s := by
  unfold opSignalDetect
  obtain ⟨hdown, hdoze⟩ | ⟨hlink, hhealth⟩ := h
  · extract_lets
    split
    next hlink => exact absurd hlink hdown
    next hlink => exact absurd hlink hdoze
    next => rfl
  · simp only [hlink]
    exact if_pos hhealth

end Signal

/-! ### The AON timer (R398, R419, R454) -/

section Tick

variable {s : State}

/-- In a synchronised package that counts frames and follows a master the frames pace everything. -/
theorem opAonTimerTick_of_synced (hphase : s.frm.phase ≠ .stopped) (hrole : s.frm.role ≠ .standalone)
    (hsynced : s.synced = true) (hstate : s.frm.state ≠ .unsync) : opAonTimerTick s = s := by
  simp [opAonTimerTick, hphase, hrole, hsynced, hstate]

theorem opAonTimerTick_of_stopped (hphase : s.frm.phase = .stopped) :
    opAonTimerTick s = ((s.updMgt (fun g => if g.watchdogCount.booted then g.watchdogCount.kick
      else g.watchdogCount)).evalHottest).hbmStep := by
  simp [opAonTimerTick, hphase]

end Tick

/-- Settles O41: each clause is the equation of its operation in the case it names. Whole degrees are log entry 76, the
answers to superseded caps and the own acknowledgement log entry 75. -/
theorem powerAndThermalEvents : Obligations.PowerAndThermalEvents := by
  refine ⟨?_, ?_, ?_, ?_, ?_, ?_, ?_, ?_, ?_, ?_, ?_, ?_, ?_, ?_, ?_, ?_, ?_⟩
  · intro temps u s hclk hcool hu
    subst hu
    exact next_whenClocked hclk (opThermalSample_of_cool (tripping_eq_none hcool))
  · intro temps u x s hclk htrip hu
    subst hu
    exact next_whenClocked hclk (opThermalSample_of_trip htrip)
  · intro eIn failed s hclk hframes hnow hwindow
    exact next_whenClocked hclk (opBaseChargeUpdate_of_good hframes hnow hwindow)
  · intro eIn failed s hclk hframes hbad
    exact next_whenClocked hclk (opBaseChargeUpdate_of_bad hframes hbad)
  · intro cap frame pkg s hclk hact
    exact next_whenClocked hclk (State.toChoesk_of_serving hact)
  · intro cap frame pkg x s hclk hact hx hrest
    exact next_whenClocked hclk ((State.toChoesk_of_serving hact).trans (State.takeCapAck_of_last hx hrest))
  · intro cap frame pkg x s hclk hact hx hrest
    exact next_whenClocked hclk ((State.toChoesk_of_serving hact).trans (State.takeCapAck_of_others hx hrest))
  · intro x s hclk hdue
    exact next_whenClocked hclk (opSheafCapTimeout_of_one hdue)
  · intro sensor value good s hclk hknown
    exact next_whenClocked hclk (opSensorSample_of_known hknown)
  · intro port word s hclk hlink hhealth hactive herrors
    exact next_whenClocked hclk (opUncorrectableCodeword_of_correctable hlink hhealth hactive herrors)
  · intro port word s hclk h
    exact next_whenClocked hclk (opUncorrectableCodeword_of_ignored h)
  · intro port word s hclk hlink hhealth hactive herrors hunforced
    have hnext := (opUncorrectableCodeword_of_uncorrectable hlink hhealth hactive herrors).trans
      (State.badCodeword_of_unforced hunforced)
    refine ⟨_, next_whenClocked hclk hnext, ?_, ?_, ?_, fun k hk => State.tallyBad_port_ne hk, rfl⟩ <;>
      simp only [State.tallyBad_lane, Lane.badWord]
  · intro port s hclk hlink hhealth
    exact next_whenClocked hclk (opSignalDetect_of_down hlink hhealth)
  · intro port s hclk hlink
    exact next_whenClocked hclk (opSignalDetect_of_doze hlink)
  · intro port s hclk h
    exact next_whenClocked hclk (opSignalDetect_of_ignored h)
  · intro s hclk hphase hrole hsynced hstate
    exact next_whenClocked hclk (opAonTimerTick_of_synced hphase hrole hsynced hstate)
  · intro s hclk hphase
    exact next_whenClocked hclk (opAonTimerTick_of_stopped hphase)

end Sys2Proof.Machine
end

section
/-! PROOFS. The PART commands (R360, R362 to R364, R366, R367). -/

namespace Sys2Proof.Machine

open Sys2Proof

/-! ### PART.CREATE (R360) -/

section Create

variable {c : CmdId} {p : Nat} {e : Entry} {s : State}

/-- The rows, shares and energy that a PART.CREATE command names. -/
def Entry.partRows (e : Entry) : BitVec 16 := BitVec.ofNat 16 (fld (e.arg 0) 16 16)
def Entry.partShare (e : Entry) : BitVec 32 := BitVec.ofNat 32 (fld (e.arg 2) 0 32)

/-- The rate that the admission of partition p starts with: 192 for each row, as far as the other partitions leave it. -/
def State.rateAt (p : Nat) (e : Entry) (s : State) : BitVec 16 :=
  BitVec.ofNat 16 (min (192 * popCount e.partRows) ((s.adm.nextA.getD s.adm.a).toNat - s.adm.sumWith p 0))

/-- The checks of R360 on what a PART.CREATE command of partition p asks for. -/
structure State.Creatable (p : Nat) (e : Entry) (s : State) : Prop where
  absent : (s.part p).state = .absent
  still : (s.part p).next = none
  rows : e.partRows ≠ 0
  energyLow : 1 ≤ fld (e.arg 3) 0 11
  energyHigh : fld (e.arg 3) 0 11 ≤ 1024
  rowsFree : ∀ r < 16, bit e.partRows r = true → bit s.ten.badRows r = false ∧ s.rowOwner r = none
  pages : s.sumParts (fun y => y.quota.toNat) + fld (e.arg 1) 0 9 + (s.pagesIn .quarantined).length ≤ 384
  shares : ∀ g < 32, bit e.partShare g = true → s.shareFree g = true
  energySum : s.sumParts (fun y => y.energy.toNat) + fld (e.arg 3) 0 11 ≤ 1024

/-- Every row asked for is sound and free, as PART.CREATE evaluates it. -/
theorem State.Creatable.no_row_bad (h : s.Creatable p e) :
    (List.range 16).any (fun r => bit e.partRows r && (bit s.ten.badRows r || (s.rowOwner r).isSome)) = false := by
  refine List.any_eq_false.2 fun r hr => ?_
  cases hbit : bit e.partRows r
  · simp
  · obtain ⟨hsound, hfree⟩ := h.rowsFree r (List.mem_range.1 hr) hbit
    simp [hsound, hfree]

/-- Every share entry asked for is free, as PART.CREATE evaluates it. -/
theorem State.Creatable.all_shares_free (h : s.Creatable p e) :
    ((List.range 32).filter (fun g => bit e.partShare g)).all (fun g => s.shareFree g) = true := by
  refine List.all_eq_true.2 fun g hg => ?_
  obtain ⟨hmem, hbit⟩ := List.mem_filter.1 hg
  exact h.shares g (List.mem_range.1 hmem) hbit

/-- The setup of PART.CREATE touches the record of the partition once; the rest is shares, admission, power, built-in images
and contexts. -/
theorem partCreateBody_of_creatable (h : s.Creatable p e) (c : CmdId) :
    ∃ u, partCreateBody c p e s = (u, .later) ∧ u.part p = {
      rows := e.partRows, quota := BitVec.ofNat 9 (fld (e.arg 1) 0 9), share := e.partShare
      energy := BitVec.ofNat 11 (fld (e.arg 3) 0 11), changed := (s.part p).changed, next := some .created
      cmds := [c], createG := s.rateAt p e } := by
  have hstate : ((s.part p).state != .absent || (s.part p).next.isSome) = false := by simp [h.absent, h.still]
  have hrange : ¬ (e.partRows = 0 ∨ fld (e.arg 3) 0 11 = 0 ∨ 1024 < fld (e.arg 3) 0 11) := by
    have := h.energyLow
    have := h.energyHigh
    simp only [h.rows, false_or]
    omega
  refine ⟨_, (if_neg (Bool.eq_false_iff.1 hstate)).trans <| (if_neg ?_).trans <|
    (if_neg (Bool.eq_false_iff.1 h.no_row_bad)).trans <| (if_neg (Nat.not_lt.2 h.pages)).trans <|
    (if_neg ?_).trans (if_neg (Nat.not_lt.2 h.energySum)), ?_⟩
  · simpa [or_assoc, Entry.partRows] using hrange
  · exact fun hno => by
      rw [show ((List.range 32).filter (fun g => bit (BitVec.ofNat 32 (fld (e.arg 2) 0 32)) g)).all
        (fun g => s.shareFree g) = true from h.all_shares_free] at hno
      exact Bool.false_ne_true hno
  · rw [foldl_updCtx_part, State.loadBuiltins_part]
    exact State.part_updPart_self s p _

end Create

/-! ### PART.START, PART.RESUME and PART.FENCE (R362 to R364) -/

section Run

variable {c : CmdId} {p : Nat} {e : Entry} {s : State}

/-- The partition takes RUNNING at the next commit instant, and the command waits for it. -/
def State.runsNext (p : Nat) (c : CmdId) (s : State) : State :=
  s.updPart p (fun x => { x with next := some .running, cmds := x.cmds ++ [c] })

theorem startBody_of_created (hhold : s.periodHold = false) (hstate : (s.part p).state = .created)
    (hresetting : (s.part p).resetting = false) : startBody true c p e s = (s.runsNext p c, .later) := by
  refine (if_neg (ne_true_of_eq_false hhold)).trans ?_
  simp [startNow, hstate, hresetting, State.runsNext]

theorem startBody_of_fenced (hhold : s.periodHold = false) (hstate : (s.part p).state = .fenced)
    (hresetting : (s.part p).resetting = false) : startBody false c p e s = (s.runsNext p c, .later) := by
  refine (if_neg (ne_true_of_eq_false hhold)).trans ?_
  simp [startNow, hstate, hresetting, State.runsNext]

theorem partFenceBody_of_running (hstate : (s.part p).state = .running) (hresetting : (s.part p).resetting = false)
    (hfencing : (s.part p).fencing = false) :
    partFenceBody c p e s = (s.updPart p (fun x => { x with fencing := true, cmds := x.cmds ++ [c] }), .later) := by
  simp [partFenceBody, hstate, hresetting, hfencing]

end Run

/-! ### PART.RESET (R366) -/

section Reset

variable {c : CmdId} {p : Nat} {e : Entry} {s : State}

@[simp] theorem State.resetReductions_part (p k : Nat) (s : State) : (s.resetReductions p).part k = s.part k := rfl

/-- How many commands a reset of partition p ends: the jobs of its LIVE contexts and the commands held for a period change. -/
def State.endedByReset (p : Nat) (s : State) : Nat :=
  (s.adm.jobs.filter (fun j => j.part == p && (s.ctx p j.cmd.ctx.toNat).state = .live)).length +
    (s.adm.held.filter (fun h => h.2.1 == p)).length

/-- A reset begins: what ends with it leaves the partition's record alone, which holds the reset and its command. -/
theorem partResetBody_of_present (habsent : (s.part p).state ≠ .absent) (htearing : (s.part p).state ≠ .tearingDown)
    (hresetting : (s.part p).resetting = false) :
    ∃ u, partResetBody c p e s = (u, .later) ∧ u.part p = { s.part p with
      resetting := true, fencing := false, next := none, cmds := [c]
      resetEnded := (s.finishAll (s.part p).cmds .badCommand .badState []).endedByReset p, resetRows := 0
      resetFaulted := (s.part p).state = .faulted } := by
  unfold partResetBody
  dsimp only
  split
  next hstate => exact absurd hstate habsent
  next hstate => exact absurd hstate htearing
  next =>
    refine ⟨_, if_neg (ne_true_of_eq_false hresetting), ?_⟩
    simp only [State.resetReductions_part, State.rewindCopies_part, foldl_resetJob_part, State.finishAll_part]
    refine (State.part_updPart_self _ p _).trans ?_
    rw [State.finishAll_part]
    rfl

end Reset

/-! ### PART.TEARDOWN (R367) -/

section Teardown

variable {c : CmdId} {p : Nat} {e : Entry} {s : State}

theorem State.refuseWaiting_part_self (p : Nat) (s : State) : (s.refuseWaiting p).part p =
    { s.part p with cmds := [], next := none, fencing := false, resetting := false } := by
  simp [State.refuseWaiting]

/-- A new state other than RUNNING wakes no port: it is recorded, logged and signalled. -/
theorem State.setPart_part_self {st : PState} (hst : st ≠ .running) (p : Nat) (s : State) : (s.setPart p st).part p =
    { s.part p with state := st, changed := s.frm.count, next := none } := by
  unfold State.setPart
  dsimp only
  rw [if_neg hst]
  simp only [State.part, State.fireVec_ten, State.logEvent_ten]
  exact State.part_updPart_self s p _

theorem State.startTeardown_part_self (p : Nat) (s : State) : (s.startTeardown p).part p = { s.part p with
    cmds := [], next := none, fencing := false, resetting := false, state := .tearingDown
    changed := (s.refuseWaiting p).frm.count, released := false, tearAfter := false } := by
  unfold State.startTeardown
  rw [State.killAll_part, State.part_updPart_self, State.setPart_part_self (by decide), State.refuseWaiting_part_self]

theorem partTeardownBody_of_present (habsent : (s.part p).state ≠ .absent) (htearing : (s.part p).state ≠ .tearingDown)
    (hresetting : (s.part p).resetting = false) :
    partTeardownBody c p e s =
      ((s.updPart p (fun x => { x with tearCmds := x.tearCmds ++ [c] })).startTeardown p, .later) := by
  unfold partTeardownBody
  dsimp only
  split
  next hstate => exact absurd hstate habsent
  next hstate => exact absurd hstate htearing
  next => exact if_neg (ne_true_of_eq_false hresetting)

end Teardown

/-- Settles O5: each clause is the command's body on the state with its ticket entered. That RESET ends the commands that
waited for a state change is log entry 47. -/
theorem partitionCommandsComplete : Obligations.PartitionCommandsComplete := by
  refine ⟨?_, ?_, ?_, ?_, ?_, ?_⟩
  · intro m e s hacc habsent hnext hrows hlow hhigh hfree hpages hshares henergy
    have hok : (s.entered m.val specPartCreate.opcode e).Creatable (specPartCreate.on m.val e) e :=
      ⟨habsent, hnext, hrows, hlow, hhigh, hfree, hpages, hshares, henergy⟩
    obtain ⟨u, hbody, hpart⟩ := partCreateBody_of_creatable hok (cmdIdOf s.nextUid m.val specPartCreate.opcode e)
    refine ⟨u, congrArg Host.Outcome.next (serve_later hacc hbody), ?_⟩
    rw [hpart]
    exact ⟨rfl, rfl, rfl, rfl, rfl, rfl, rfl⟩
  · intro m e s hacc hhold hstate hresetting
    refine ⟨_, congrArg Host.Outcome.next (serve_later hacc (startBody_of_created (e := e) hhold hstate hresetting)), ?_⟩
    rw [State.runsNext, State.part_updPart_self]
    exact ⟨rfl, rfl, hstate⟩
  · intro m e s hacc hstate hresetting hfencing
    refine ⟨_, congrArg Host.Outcome.next (serve_later hacc (partFenceBody_of_running (e := e) hstate hresetting hfencing)), ?_⟩
    rw [State.part_updPart_self]
    exact ⟨rfl, rfl, hstate⟩
  · intro m e s hacc hhold hstate hresetting
    refine ⟨_, congrArg Host.Outcome.next (serve_later hacc (startBody_of_fenced (e := e) hhold hstate hresetting)), ?_⟩
    rw [State.runsNext, State.part_updPart_self]
    exact ⟨rfl, rfl, hstate⟩
  · intro m e s hacc habsent htearing hresetting
    obtain ⟨u, hbody, hpart⟩ := partResetBody_of_present (c := cmdIdOf s.nextUid m.val specPartReset.opcode e) (e := e)
      (s := s.entered m.val specPartReset.opcode e) habsent htearing hresetting
    refine ⟨u, congrArg Host.Outcome.next (serve_later hacc hbody), ?_⟩
    rw [hpart]
    exact ⟨rfl, rfl, rfl, rfl, rfl⟩
  · intro m e s hacc habsent htearing hresetting
    refine ⟨_, congrArg Host.Outcome.next
      (serve_later hacc (partTeardownBody_of_present (e := e) habsent htearing hresetting)), ?_⟩
    rw [State.startTeardown_part_self, State.part_updPart_self]
    exact ⟨rfl, rfl, rfl⟩

end Sys2Proof.Machine
end

section
/-! PROOFS. The rounds of beacons and the election (R336, R338 to R344, R352). -/

namespace Sys2Proof.Machine

open Sys2Proof

/-! ### Rounds (R338, R340) -/

/-- A round counts on and ages what was heard; the distance table and what is sent follow from it. -/
theorem opBeaconRound_of_open {s : State} (hopen : s.fab.election ≠ .notOpen) : ∃ d, OnPorts
    (s.updFab (fun g => { g with
      round := if s.synced then BitVec.ofNat 16 s.frm.count.toNat
        else if g.election = .opened && g.opened = 0 then g.round else g.round + 1
      opened := if g.election = .opened then g.opened + 1 else g.opened
      keys := g.keys.map (fun x => (x.1, x.2 + 1))
      nbrs := g.nbrs.mapRow {} 12 (fun _ n => { n with rounds := n.rounds + 1 })
      dist := d })) (opBeaconRound s) := by
  unfold opBeaconRound
  rw [if_neg hopen]
  exact ⟨_, foldl_onPorts (fun _ _ h => State.txMsg_onPorts _ _ h) _ (State.sendBeacons_onPorts (OnPorts.refl _))⟩

/-! ### Beacons received (R336, R339, R341) -/

@[simp] theorem State.nbr_updNbr_self (i : Nat) (f : Neighbour → Neighbour) (s : State) :
    (s.updNbr i f).nbr i = f (s.nbr i) :=
  Tab.get_upd_self _ _ _ _

/-- A wrong beacon marks its port; what is logged and sent about it reaches only the ports, the log and the vectors. -/
theorem State.miswire_onPorts {i : Nat} {s : State} (hwired : (s.nbr i).miswired = false) :
    OnPorts (s.updNbr i (fun n => { n with miswired := true })) (s.miswire i) := by
  unfold State.miswire
  rw [if_neg (ne_true_of_eq_false hwired)]
  have hlogged := State.logEvent_onPorts 0x0702 .linkDown none [(0, i)]
    (OnPorts.refl (s.updNbr i (fun n => { n with miswired := true })))
  dsimp only
  split
  · exact State.sendBeacons_onPorts hlogged
  · exact hlogged

section Beacon

variable {port : Fin 16} {b : Beacon} {s : State}

/-- The beacon comes from the neighbour and the far port that Table 12-1 gives the port (R336). -/
structure RightBeacon (port : Fin 16) (b : Beacon) (s : State) : Prop where
  torus : port.val < 12
  sheaf : b.sheaf = s.fab.sheaf
  pkg : b.pkg.toNat = neighbour s.self port.val
  far : b.port.toNat = farPort port.val

/-- The wiring check as the model evaluates it. -/
theorem rightBeacon_iff : (decide (12 ≤ port.val) || b.sheaf != s.fab.sheaf || b.pkg.toNat != neighbour s.self port.val ||
    b.port.toNat != farPort port.val) = false ↔ RightBeacon port b s := by
  simp only [Bool.or_eq_false_iff, decide_eq_false_iff_not, Nat.not_le, bne_eq_false_iff_eq, and_assoc]
  exact ⟨fun ⟨h1, h2, h3, h4⟩ => ⟨h1, h2, h3, h4⟩, fun ⟨h1, h2, h3, h4⟩ => ⟨h1, h2, h3, h4⟩⟩

theorem opBeaconReceive_of_wrong (hup : (s.port port.val).up = true) (hrunning : s.fab.election ≠ .halted)
    (hwrong : ¬ RightBeacon port b s) : opBeaconReceive port b s = s.miswire port.val :=
  (if_neg (by simp [hup, hrunning])).trans (if_pos (Bool.eq_true_of_not_eq_false (mt rightBeacon_iff.1 hwrong)))

/-- Once a port is miswired a right beacon changes nothing. -/
theorem opBeaconReceive_of_miswired (hmiswired : (s.nbr port.val).miswired = true) (hright : RightBeacon port b s) :
    opBeaconReceive port b s = s :=
  ite_eq_left_iff.2 fun _ => (if_neg (ne_true_of_eq_false (rightBeacon_iff.2 hright))).trans (if_pos hmiswired)

theorem State.markDups_nil (s : State) : s.markDups [] = s := rfl

/-- The state once a right beacon has entered its neighbour's vector and its keys are taken (R339). -/
def State.hearBeacon (port : Fin 16) (b : Beacon) (s : State) : State :=
  (s.updNbr port.val (fun n => { n with beacon := some b, rounds := 0 })).updFab (fun g => { g with
    keys := (b.keys.filter (fun k => k.pkg.toNat != s.self && !(s.fab.dist.get {} k.pkg.toNat).dup &&
      !(b.halted && k.pkg == b.pkg))).foldl (fun l k => takeKey k l)
      (if b.halted then s.fab.keys.filter (fun x => x.1.pkg != b.pkg) else s.fab.keys) })

theorem opBeaconReceive_of_closed (hup : (s.port port.val).up = true) (hclosed : s.fab.election = .closed)
    (hwired : (s.nbr port.val).miswired = false) (hright : RightBeacon port b s)
    (hdups : (s.hearBeacon port b).dupsIn b = []) :
    opBeaconReceive port b s = (s.hearBeacon port b).retryWaiting := by
  have hheard : (s.hearBeacon port b).fab.election = .closed := hclosed
  refine (if_neg (by simp [hup, hclosed])).trans <| (if_neg (ne_true_of_eq_false (rightBeacon_iff.2 hright))).trans <|
    (if_neg (ne_true_of_eq_false hwired)).trans ?_
  change State.retryWaiting (
    let u := (s.hearBeacon port b).markDups ((s.hearBeacon port b).dupsIn b)
    let v := if u.fab.election = .opened && !u.synced && roundLater b.round u.fab.round then
        u.updFab (fun g => { g with opened := g.opened + (b.round - g.round).toNat, round := b.round })
      else u
    if b.closed then v.lateJoin else v) = _
  rw [hdups, State.markDups_nil]
  simp [hheard, State.lateJoin_of_closed hheard]

end Beacon

/-! ### Marks and vectors that expire (R340, R341) -/

theorem opDupFlagClear_of_old {pkg : Fin 128} {s : State} (hdup : (s.fab.dist.get {} pkg.val).dup = true)
    (hrounds : 64 ≤ (s.fab.dist.get {} pkg.val).dupRounds) :
    opDupFlagClear pkg s = s.updFab (fun g => { g with dist := g.dist.upd {} pkg.val (fun e => { e with dup := false }) }) :=
  if_pos (by simp only [hdup, hrounds, decide_true, Bool.and_self])

/-! ### The election (R342 to R344) -/

section Election

variable {s : State}

/-- Taking mastership sets the frame unit; a package that had no frames starts with epoch 0 (R58, R342). -/
theorem State.becomeMaster_frm (role : Role) (deputy : Nat) (s : State) :
    (s.becomeMaster role deputy).frm = { s.frm with
      role := role, state := .locked, master := BitVec.ofNat 7 s.self, deputy := BitVec.ofNat 7 deputy
      epoch := if s.frm.started then s.frm.epoch + 1 else 0
      hops := 0, parent := 15, missing := 0, holdFrames := 0, demote := false
      phase := if s.frm.phase = .stopped then .slack else s.frm.phase } := by
  unfold State.becomeMaster
  dsimp only
  split <;> simp only [State.parentChanged_frm, State.syncChanged_frm] <;> rfl

@[simp] theorem State.syncChanged_fab (s : State) : s.syncChanged.fab = s.fab := by
  simp [State.syncChanged]

@[simp] theorem State.parentChanged_fab (s : State) : s.parentChanged.fab = s.fab := by
  simp [State.parentChanged]

@[simp] theorem State.becomeMaster_fab (role : Role) (deputy : Nat) (s : State) :
    (s.becomeMaster role deputy).fab = s.fab := by
  unfold State.becomeMaster
  dsimp only
  split <;> simp

theorem State.releaseOne_fab (h : CmdId × Nat × Bool) (s : State) : (s.releaseOne h).fab = s.fab := by
  have hstart : (startNow h.1 h.2.1 h.2.2 s).1.fab = s.fab := by
    unfold startNow
    dsimp only
    split
    · rfl
    · rfl
    · rfl
    · split <;> rfl
    · split <;> rfl
    · split <;> rfl
  unfold State.releaseOne
  split <;> simp_all

/-- What a dropped proposal leaves of the fabric. -/
@[simp] theorem State.dropProposal_fab (s : State) : s.dropProposal.fab = s.fab := by
  have hheld (l : List (CmdId × Nat × Bool)) (u : State) : (l.foldl (fun s h => s.releaseOne h) u).fab = u.fab := by
    induction l generalizing u with
    | nil => rfl
    | cons h l ih => exact (ih _).trans (State.releaseOne_fab h u)
  unfold State.dropProposal State.dropChange State.releaseHeld
  split
  · exact (hheld _ _).trans (by simp)
  · rfl

/-- A dropped proposal leaves all of the frame unit but the change of period. -/
theorem State.dropProposal_frm (s : State) :
    ∃ p c k, s.dropProposal.frm = { s.frm with proposal := p, change := c, changeCmd := k } := by
  unfold State.dropProposal
  split
  · exact ⟨_, _, _, State.dropChange_frm s⟩
  · exact ⟨_, _, _, rfl⟩

/-- The election of this package takes the state `e`. -/
def State.electionEnds (e : Election) (s : State) : State := s.updFab (fun g => { g with election := e })

@[simp] theorem State.electionEnds_self (e : Election) (s : State) : (s.electionEnds e).self = s.self := rfl

theorem State.keyList_electionEnds (hopened : s.fab.election = .opened) :
    (s.electionEnds .closed).keyList = s.keyList := by
  simp [State.keyList, State.electionEnds, State.ownKey, hopened]
  rfl

variable (hopened : s.fab.election = .opened) (hrounds : 10 ≤ s.fab.opened)

include hopened hrounds

theorem State.closeElection_of_alone (hrole : s.frm.role ≠ .standalone)
    (halone : ∀ i, i < 12 → s.capable i = false ∧ (s.nbr i).beacon = none) :
    s.closeElection = (s.electionEnds .standalone).becomeMaster .standalone s.self := by
  have hnone : (List.range 12).any (fun i => s.capable i || (s.nbr i).beacon.isSome) = false := by
    refine List.any_eq_false.2 fun i hi => ?_
    obtain ⟨hcapable, hbeacon⟩ := halone i (List.mem_range.1 hi)
    simp [hcapable, hbeacon]
  exact (if_neg (by simp [hopened, Nat.not_lt.2 hrounds])).trans ((if_pos (by rw [hnone]; rfl)).trans (if_neg hrole))

section Peers

variable (hpeer : ∃ i, i < 12 ∧ s.capable i = true)

include hpeer

theorem State.closeElection_of_peer : s.closeElection = match (s.electionEnds .closed).keyList with
    | [] => s.electionEnds .closed
    | k :: rest =>
      let second := match rest with
        | d :: _ => d.pkg.toNat
        | [] => k.pkg.toNat
      if k.pkg.toNat = s.self then (s.electionEnds .closed).becomeMaster .master second
      else ((s.electionEnds .closed).updFrm (fun f => { f with
        role := if second = s.self then .deputy else .member
        master := k.pkg, deputy := BitVec.ofNat 7 second })).syncChanged := by
  obtain ⟨i, hi, hcapable⟩ := hpeer
  have hsome : (List.range 12).any (fun i => s.capable i || (s.nbr i).beacon.isSome) = true :=
    List.any_eq_true.2 ⟨i, List.mem_range.2 hi, by simp [hcapable]⟩
  exact (if_neg (by simp [hopened, Nat.not_lt.2 hrounds])).trans (if_neg (by rw [hsome]; decide))

/-- The package of the best key is master and the second deputy. -/
theorem State.closeElection_of_best {k : Key} {rest : List Key} (hkeys : s.keyList = k :: rest)
    (hbest : k.pkg.toNat = s.self) :
    s.closeElection = (s.electionEnds .closed).becomeMaster .master
      ((rest.head?.map (fun d => d.pkg.toNat)).getD k.pkg.toNat) := by
  rw [State.closeElection_of_peer hopened hrounds hpeer, State.keyList_electionEnds hopened, hkeys]
  refine (if_pos hbest).trans ?_
  cases rest <;> rfl

/-- A package whose key is not the best follows that of the best. -/
theorem State.closeElection_of_other {k : Key} (hkey : s.keyList.head? = some k) (hother : k.pkg.toNat ≠ s.self) :
    ∃ role deputy, role ≠ .master ∧ role ≠ .standalone ∧
      s.closeElection = ((s.electionEnds .closed).updFrm (fun f => { f with
        role := role, master := k.pkg, deputy := deputy })).syncChanged := by
  obtain ⟨rest, hkeys⟩ : ∃ rest, s.keyList = k :: rest := ⟨_, List.eq_cons_of_mem_head? hkey⟩
  rw [State.closeElection_of_peer hopened hrounds hpeer, State.keyList_electionEnds hopened, hkeys]
  refine ⟨_, _, ?_, ?_, if_neg hother⟩ <;> split_ifs <;> decide

end Peers

end Election

theorem opElectionClose_of_leading {s : State} (hrole : s.closeElection.frm.role = .master ∨
    s.closeElection.frm.role = .standalone) : opElectionClose s = s.closeElection.dropProposal :=
  if_pos (by simpa using hrole)

theorem opElectionClose_of_following {s : State} (hmaster : s.closeElection.frm.role ≠ .master)
    (halone : s.closeElection.frm.role ≠ .standalone) : opElectionClose s = s.closeElection :=
  if_neg (by simp [hmaster, halone])

theorem opDeputyRename_of_lost {l : Nat} {s : State} (hlost : s.fab.lostMaster = some l) (hrole : s.frm.role = .master) :
    opDeputyRename s = (s.updFab (fun g => { g with lostMaster := none })).updFrm (fun f => { f with
      deputy := ((s.keyList.filter (fun k => k.pkg.toNat != s.self && k.pkg.toNat != l)).head?.map (·.pkg)).getD
        (BitVec.ofNat 7 s.self) }) := by
  unfold opDeputyRename
  simp only [hlost]
  exact if_neg (by simp [hrole])

theorem opStandaloneReopen_of_capable {i : Nat} {s : State} (halone : s.fab.election = .standalone) (hi : i < 12)
    (hcapable : s.capable i = true) : opStandaloneReopen s = s.openElection :=
  if_pos (by simpa [halone] using ⟨i, hi, hcapable⟩)

/-! ### Reachability (R352) -/

section Reachability

variable {pkg : Fin 128} {s : State}

theorem opReachabilityChange_of_lost (hother : pkg.val ≠ s.self)
    (hmark : (s.fab.dist.get {} pkg.val).unreachable = false) (hrounds : 4 ≤ (s.fab.dist.get {} pkg.val).farRounds) :
    opReachabilityChange pkg s = (((s.updFab (fun g => { g with
      dist := g.dist.upd {} pkg.val (fun e => { e with unreachable := true })
      reachChanges := satAdd g.reachChanges 1 })).log 0x0802 [(0, pkg.val), (7, 0)]).groupsLose pkg.val).refreshLeads := by
  unfold opReachabilityChange
  simp only [hmark, hrounds, decide_true, Bool.not_false, Bool.not_true, Bool.true_and, Bool.false_and, Bool.or_false]
  exact if_neg (by simp [hother])

theorem opReachabilityChange_of_back (hother : pkg.val ≠ s.self)
    (hmark : (s.fab.dist.get {} pkg.val).unreachable = true) (hrounds : 4 ≤ (s.fab.dist.get {} pkg.val).nearRounds) :
    opReachabilityChange pkg s = ((s.updFab (fun g => { g with
      dist := g.dist.upd {} pkg.val (fun e => { e with unreachable := false })
      reachChanges := satAdd g.reachChanges 1 })).log 0x0802 [(0, pkg.val), (7, 1)]).refreshLeads := by
  unfold opReachabilityChange
  simp only [hmark, hrounds, decide_true, Bool.not_true, Bool.true_and, Bool.false_and, Bool.or_false, Bool.false_or]
  exact if_neg (by simp [hother])

end Reachability

/-- Settles O25: each clause is what its operation does in the case it names. The LOCKED state of a new master is log entry
33, the deputy that a master names after a loss entry 102. -/
theorem beaconsAndElection : Obligations.BeaconsAndElection := by
  refine ⟨?_, ?_, ?_, ?_, ?_, ?_, ?_, ?_, ?_, ?_, ?_, ?_, ?_, ?_⟩
  · intro s hclk hopen
    obtain ⟨d, hd⟩ := opBeaconRound_of_open hopen
    refine ⟨_, next_whenClocked hclk rfl, ?_, ?_, ?_, ?_, hd.frm, hd.ten⟩ <;> rw [hd.fab]
    · simp [State.updFab]
    · rfl
    · rfl
    · rfl
  · intro port b s hclk hup hrunning hwired hwrong
    have hnot : ¬ RightBeacon port b s := by
      rintro ⟨htorus, hsheaf, hpkg, hfar⟩
      obtain h | h | h | h := hwrong
      · exact Nat.not_lt.2 h htorus
      · exact h hsheaf
      · exact h hpkg
      · exact h hfar
    have hports := State.miswire_onPorts hwired
    refine ⟨_, next_whenClocked hclk (opBeaconReceive_of_wrong hup hrunning hnot), ?_, ?_, hports.frm⟩
    · rw [State.nbr, hports.fab]
      exact congrArg Neighbour.miswired (State.nbr_updNbr_self port.val (fun n => { n with miswired := true }) s)
    · rw [hports.fab]
      rfl
  · intro port b s hclk hmiswired htorus hsheaf hpkg hfar
    exact next_whenClocked hclk (opBeaconReceive_of_miswired hmiswired ⟨htorus, hsheaf, hpkg, hfar⟩)
  · intro port b u s hclk hup hclosed hwired htorus hsheaf hpkg hfar hu hdups
    subst hu
    exact next_whenClocked hclk (opBeaconReceive_of_closed hup hclosed hwired ⟨htorus, hsheaf, hpkg, hfar⟩ hdups)
  · intro pkg s hclk hdup hrounds
    exact next_whenClocked hclk (opDupFlagClear_of_old hdup hrounds)
  · intro pkg s hclk
    exact next_whenClocked hclk rfl
  · intro port s hclk hrounds
    exact next_whenClocked hclk (if_pos hrounds)
  · intro s hclk hopened hrounds hrole halone
    have hclose := State.closeElection_of_alone hopened hrounds hrole halone
    have hfrm := State.becomeMaster_frm .standalone s.self (s.electionEnds .standalone)
    rw [← hclose] at hfrm
    have hnext := opElectionClose_of_leading (s := s) (.inr (by rw [hfrm]))
    obtain ⟨p, c, k, hdrop⟩ := s.closeElection.dropProposal_frm
    rw [← hnext, hfrm] at hdrop
    refine ⟨_, next_whenClocked hclk rfl, ?_, ?_, ?_, ?_, ?_, ?_⟩
    · rw [hnext, State.dropProposal_fab, hclose, State.becomeMaster_fab]
      rfl
    all_goals simp only [hdrop, State.electionEnds_self]
  · intro k s hclk hopened hrounds hpeer hkey hother
    obtain ⟨role, deputy, hmaster, halone, hclose⟩ := State.closeElection_of_other hopened hrounds hpeer hkey hother
    have hfrm := congrArg State.frm hclose
    rw [State.syncChanged_frm] at hfrm
    have hnext := opElectionClose_of_following (s := s) (by rw [hfrm]; exact hmaster) (by rw [hfrm]; exact halone)
    refine ⟨_, next_whenClocked hclk hnext, ?_, ?_, ?_, ?_⟩
    · rw [hclose, State.syncChanged_fab]
      rfl
    · rw [hfrm]
      rfl
    · rw [hfrm]
      exact hmaster
    · rw [hfrm]
      rfl
  · intro k rest s hclk hopened hrounds hpeer hkeys hbest
    have hclose := State.closeElection_of_best hopened hrounds hpeer hkeys hbest
    have hfrm := State.becomeMaster_frm .master ((rest.head?.map (fun d => d.pkg.toNat)).getD k.pkg.toNat)
      (s.electionEnds .closed)
    rw [← hclose] at hfrm
    have hnext := opElectionClose_of_leading (s := s) (.inl (by rw [hfrm]))
    obtain ⟨p, c, x, hdrop⟩ := s.closeElection.dropProposal_frm
    rw [← hnext, hfrm] at hdrop
    refine ⟨_, next_whenClocked hclk rfl, ?_, ?_, ?_, ?_, ?_, ?_⟩
    · rw [hnext, State.dropProposal_fab, hclose, State.becomeMaster_fab]
      rfl
    all_goals simp only [hdrop, State.electionEnds_self]
  · intro l s hclk hlost hrole
    exact next_whenClocked hclk (opDeputyRename_of_lost hlost hrole)
  · intro i s hclk halone hi hcapable
    exact next_whenClocked hclk (opStandaloneReopen_of_capable halone hi hcapable)
  · intro pkg s hclk hother hmark hrounds
    exact next_whenClocked hclk (opReachabilityChange_of_lost hother hmark hrounds)
  · intro pkg s hclk hother hmark hrounds
    exact next_whenClocked hclk (opReachabilityChange_of_back hother hmark hrounds)

end Sys2Proof.Machine
end

section
/-! PROOFS. Acting leads (R374), control flits in transit (R347), and the outer ports (R353 to R355). -/

namespace Sys2Proof.Machine

open Sys2Proof

/-! ### Acting leads (R374) -/

section Lead

variable {span : BitVec 16} {pkg : Fin 128} {x : Span} {s : State} (hspan : s.span? span = some x)

include hspan

theorem opLeadTakeoverNoticeReceive_of_member (hlead : x.lead ≠ s.self) :
    opLeadTakeoverNoticeReceive span pkg s = (s.send pkg.val (.leadReply span x.rho (s.declarations span) s.self
      (s.part x.part).share)).tellPorts pkg.val := by
  unfold opLeadTakeoverNoticeReceive
  rw [hspan]
  exact if_neg hlead

theorem opLeadTakeoverNoticeReceive_of_lead (hlead : x.lead = s.self) :
    opLeadTakeoverNoticeReceive span pkg s = s.resolveLeads span pkg.val := by
  unfold opLeadTakeoverNoticeReceive
  rw [hspan]
  exact if_pos hlead

theorem opLeadDeclarationReplyReceive_of_lead {rho shares : BitVec 32} {decls : List Declared} (hlead : x.lead = s.self)
    (hring : pkg.val ∈ x.ring) :
    opLeadDeclarationReplyReceive span rho decls pkg shares s = ((s.updSpan span (fun x =>
      { x with rho := if x.rho.toNat < rho.toNat then rho else x.rho })).updLead span (fun l => { l with
        shares := if l.shares.any (fun y => y.1 == pkg.val) then l.shares else l.shares ++ [(pkg.val, shares)]
        })).enterDeclarations span decls pkg.val := by
  unfold opLeadDeclarationReplyReceive
  rw [hspan]
  exact if_neg (by simp [hlead, hring])

/-- The later of two leads in ring order resigns. -/
theorem State.resolveLeads_of_later {k : Nat} (hlead : x.lead = s.self) (hother : k ≠ s.self) (hring : k ∈ x.ring)
    (hlater : (x.fromCreator.takeWhile (fun j => j != k)).length ≤ (x.fromCreator.takeWhile (fun j => j != s.self)).length) :
    s.resolveLeads span k = (((s.updSpan span (fun x => { x with lead := k })).updPln (fun p => { p with
      leads := p.leads.filter (fun l => l.span != span)
      toSend := p.toSend.filter (fun r => r.span != span) })).send k
        (.leadReply span x.rho (s.declarations span) s.self (s.part x.part).share)).log 0x0500
          [(0, span.toNat), (16, x.rho.toNat)] := by
  unfold State.resolveLeads
  rw [hspan]
  exact if_neg (by simp [hlead, hother, hring, Nat.not_lt.2 hlater])

theorem State.resolveLeads_of_earlier {k : Nat} (h : x.lead ≠ s.self ∨
      (x.fromCreator.takeWhile (fun j => j != s.self)).length < (x.fromCreator.takeWhile (fun j => j != k)).length) :
    s.resolveLeads span k = s := by
  unfold State.resolveLeads
  rw [hspan]
  exact if_pos (by obtain h | h := h <;> simp [h])

end Lead

/-! ### Transit (R347) -/

section Transit

variable {port : Fin 12} {f : Flit} {rest : List Flit} {s : State}
  (hflits : s.fab.control.get [] port.val = f :: rest) (hrunning : s.fab.election ≠ .halted)

include hflits hrunning

theorem opControlFlitForward_of_port {i : Nat} (hport : s.portFor f = some i) :
    opControlFlitForward port s = ((s.updFab (fun g =>
      { g with control := g.control.put port.val rest })).noteWay i f).tx i { f with hops := f.hops + 1 } := by
  unfold opControlFlitForward
  rw [hflits]
  refine (if_neg hrunning).trans ?_
  simp only [hport]

theorem opControlFlitForward_of_no_port (hport : s.portFor f = none) :
    opControlFlitForward port s = if s.distTo (f.dst.getD 0) < 15 then s
      else (s.updFab (fun g => { g with control := g.control.put port.val rest })).discardFlit port.val f := by
  unfold opControlFlitForward
  rw [hflits]
  refine (if_neg hrunning).trans ?_
  simp only [hport]

end Transit

/-! ### Outer ports (R353 to R355) -/

theorem opOuterHelloReceive_of_other_sheaf {port : Fin 16} {h : Hello} {arrival : Int} {s : State}
    (hup : (s.port port.val).up = true) (hrunning : s.fab.election ≠ .halted) (houter : 12 ≤ port.val)
    (hsheaf : h.sheaf ≠ s.fab.sheaf) (hwired : (s.nbr port.val).miswired = false) :
    opOuterHelloReceive port h arrival s = s.updOuter (port.val - 12) (fun o => { o with
      farSheaf := h.sheaf, farPkg := h.pkg, farPort := h.port, farFrame := h.frame
      offset := ofInt 48 (arrival - (s.port port.val).lat.toNat - h.txPhase.toNat) }) :=
  (if_neg (by simp [hup, hrunning])).trans <|
    (if_neg (by simp [Nat.not_lt.2 houter, hsheaf])).trans (if_neg (ne_true_of_eq_false hwired))

section Credit

variable {o : Nat} {s : State}

/-- The outer port carries CREDIT_DATA, and its credits cover `n` flits (R354). -/
def State.creditFits (o n : Nat) (s : State) : Prop :=
  (s.port (12 + o)).up = true ∧ (s.nbr (12 + o)).miswired = false ∧ (s.port (12 + o)).health ≠ .quarantine ∧ n ≤ 16 ∧
    n ≤ (s.outer o).credits.toNat

/-- The condition of `sendCredit` as the model evaluates it. -/
theorem State.creditFits_iff (o n : Nat) (s : State) :
    ((s.port (12 + o)).up && !(s.nbr (12 + o)).miswired && (s.port (12 + o)).health != .quarantine &&
      decide (n ≤ 16) && decide (n ≤ (s.outer o).credits.toNat)) = true ↔ s.creditFits o n := by
  simp [State.creditFits, and_assoc]

theorem State.sendCredit_of_fits {bytes : List Byte} (hfits : s.creditFits o (creditFlits bytes)) (channel : Nat) :
    s.sendCredit o channel bytes = ((s.updOuter o (fun x =>
      { x with credits := x.credits - BitVec.ofNat 7 (creditFlits bytes) })).txMsg (12 + o)
        (.creditData channel (creditFlits bytes) bytes), true) :=
  if_pos ((State.creditFits_iff ..).2 hfits)

theorem State.sendCredit_of_not_fits {bytes : List Byte} (hfits : ¬ s.creditFits o (creditFlits bytes)) (channel : Nat) :
    s.sendCredit o channel bytes = (s, false) :=
  if_neg (mt (State.creditFits_iff ..).1 hfits)

/-- A sheaf status is one flit. -/
theorem creditFlits_status (n : Nat) : creditFlits (bytesLE 8 n) = 1 := by
  simp [creditFlits, bytesLE]

end Credit

section Return

variable {o : Fin 4} {channel : BitVec 4} {bytes : List Byte} {s : State}

/-- The flits of a CREDIT_DATA message are freed at once; the latest status is kept, another CHANNEL counted. -/
theorem opCreditDataReceive_of_up (hup : (s.port (12 + o.val)).up = true) (hwired : (s.nbr (12 + o.val)).miswired = false) :
    opCreditDataReceive o channel bytes s = s.updOuter o.val (fun x =>
      if channel = 0 then { x with
        unreturned := x.unreturned + creditFlits bytes, status := BitVec.ofNat 24 (ofBytesLE (bytes.take 3)) }
      else { x with unreturned := x.unreturned + creditFlits bytes, discarded := satAdd x.discarded 1 }) :=
  if_neg (by simp [hup, hwired])

theorem opCreditReturn_of_freed (hfreed : (s.outer o.val).unreturned ≠ 0) (hup : (s.port (12 + o.val)).up = true) :
    opCreditReturn o s = (s.updOuter o.val (fun x => { x with unreturned := 0 })).txMsg (12 + o.val)
      (.creditReturn (s.outer o.val).unreturned) :=
  if_neg (by simp [hfreed, hup])

end Return

/-- The sheaf status goes out on the one outer port that is UP and wired, where its credits cover it. -/
theorem opSheafStatusSend_of_one {o : Nat} {s : State} (hdue : 1024 ≤ s.fab.statusFrames)
    (hone : [0, 1, 2, 3].filter (fun o => (s.port (12 + o)).up && !(s.nbr (12 + o)).miswired) = [o])
    (hhealth : (s.port (12 + o)).health ≠ .quarantine) (hcredits : 1 ≤ (s.outer o).credits.toNat) :
    opSheafStatusSend s = ((s.updFab (fun g => { g with statusFrames := 0 })).updOuter o (fun x =>
      { x with credits := x.credits - 1 })).txMsg (12 + o) (.creditData 0 1
        (bytesLE 8 (s.frm.master.toNat + 256 * s.frm.epoch.toNat + 65536 * min 255 s.unreachables))) := by
  obtain ⟨-, hup, hwired⟩ : o ∈ [0, 1, 2, 3] ∧ (s.port (12 + o)).up = true ∧ (s.nbr (12 + o)).miswired = false := by
    have hmem : o ∈ [0, 1, 2, 3].filter (fun o => (s.port (12 + o)).up && !(s.nbr (12 + o)).miswired) := by
      rw [hone]
      exact List.mem_singleton_self o
    simpa only [List.mem_filter, Bool.and_eq_true, Bool.not_eq_true'] using hmem
  have hfits : (s.updFab (fun g => { g with statusFrames := 0 })).creditFits o 1 :=
    ⟨hup, hwired, hhealth, by decide, hcredits⟩
  have hone' : [0, 1, 2, 3].filter (fun o => ((s.updFab (fun g => { g with statusFrames := 0 })).port (12 + o)).up &&
      !((s.updFab (fun g => { g with statusFrames := 0 })).nbr (12 + o)).miswired) = [o] := hone
  have hhealth' : ((s.updFab (fun g => { g with statusFrames := 0 })).port (12 + o)).health ≠ .quarantine := hhealth
  unfold opSheafStatusSend
  rw [if_neg (Nat.not_lt.2 hdue)]
  simp only [hone', List.foldl_cons, List.foldl_nil, hhealth', if_false]
  rw [State.sendCredit_of_fits (by rw [creditFlits_status]; exact hfits), creditFlits_status]
  rfl

/-- Settles O26: each clause is the equation of its operation in the case it names. That the shares ride in the reply is log
entry 40, the notices of the ports entry 123, and the far buffer that is freed at once entry 35. -/
theorem leadsAndFlits : Obligations.LeadsAndFlits := by
  refine ⟨?_, ?_, ?_, ?_, ?_, ?_, ?_, ?_, ?_, ?_, ?_, ?_, ?_, ?_, ?_, ?_⟩
  · intro span pkg x s hclk hact hspan hlead
    exact next_toChoesk hclk hact (opLeadTakeoverNoticeReceive_of_member hspan hlead) _ _
  · intro span pkg x s hclk hact hspan hlead
    exact next_toChoesk hclk hact (opLeadTakeoverNoticeReceive_of_lead hspan hlead) _ _
  · intro span rho decls pkg shares x s hclk hact hspan hlead hring
    exact next_toChoesk hclk hact (opLeadDeclarationReplyReceive_of_lead hspan hlead hring) _ _
  · intro span pkg x s hclk hspan hlead hother hring hlater
    exact next_whenClocked hclk (State.resolveLeads_of_later hspan hlead hother hring hlater)
  · intro span pkg x s hclk hspan hearlier
    exact next_whenClocked hclk (State.resolveLeads_of_earlier hspan hearlier)
  · intro port f rest i s hclk hflits hrunning hport
    exact next_whenClocked hclk (opControlFlitForward_of_port hflits hrunning hport)
  · intro port f rest s hclk hflits hrunning hport
    exact next_whenClocked hclk (opControlFlitForward_of_no_port hflits hrunning hport)
  · intro port h arrival s hclk hup hrunning houter hsheaf hwired
    exact next_whenClocked hclk (opOuterHelloReceive_of_other_sheaf hup hrunning houter hsheaf hwired)
  · intro o channel bytes s hclk hchannel hup hwired hhealth hsize hcredits
    refine next_whenClocked hclk ((if_pos hchannel).trans ?_)
    rw [State.sendCredit_of_fits ⟨hup, hwired, hhealth, hsize, hcredits⟩]
  · intro o channel bytes s hclk hno
    refine next_whenClocked hclk ?_
    by_cases hchannel : channel = 0
    · have hfits : ¬ s.creditFits o.val (creditFlits bytes) := by
        rintro ⟨hup, hwired, hhealth, hsize, hcredits⟩
        simp only [hchannel, hup, hwired, hhealth, Nat.not_lt.2 hsize, Nat.not_lt.2 hcredits] at hno
        simp at hno
      exact (if_pos hchannel).trans (by rw [State.sendCredit_of_not_fits hfits])
    · exact if_neg hchannel
  · intro o channel bytes s hclk hup hwired hchannel
    subst hchannel
    exact next_whenClocked hclk (opCreditDataReceive_of_up hup hwired)
  · intro o channel bytes s hclk hup hwired hchannel
    refine next_whenClocked hclk ((opCreditDataReceive_of_up hup hwired).trans ?_)
    simp only [hchannel, if_false]
  · intro o s hclk hfreed hup
    exact next_whenClocked hclk (opCreditReturn_of_freed hfreed hup)
  · intro o count s hclk
    exact next_whenClocked hclk rfl
  · intro s hclk hearly
    exact next_whenClocked hclk (if_pos hearly)
  · intro o bytes s hclk hdue hone hhealth hcredits hbytes
    subst hbytes
    exact next_whenClocked hclk (opSheafStatusSend_of_one hdue hone hhealth hcredits)

end Sys2Proof.Machine
end

section
/-! PROOFS. The life of a span (R370, R372, R373): joins, the start of the span, its end and its death. -/

namespace Sys2Proof.Machine

open Sys2Proof

section Life

variable {span : BitVec 16} {x : Span} {s : State}

/-! ### Joins (R370) -/

section Join

variable {pkg : Fin 128} {shares : BitVec 32}

/-- The state once the creator has counted a member's join. -/
def State.joinedBy (span : BitVec 16) (pkg : Fin 128) (shares : BitVec 32) (x : Span) (s : State) : State :=
  (s.updSpan span (fun y => { y with joined := x.joined ++ [pkg.val] })).updLead span (fun l => { l with
    shares := l.shares ++ [(pkg.val, shares)] })

theorem opJoinFlitReceive_of_unknown (hspan : s.span? span = none) :
    opJoinFlitReceive span pkg shares s = s.send pkg.val (.spanRefuse span .badHandle 0) := by
  unfold opJoinFlitReceive
  rw [hspan]

section Listed

variable (hspan : s.span? span = some x) (hcreator : x.creator = s.self) (hring : pkg.val ∈ x.ring)
  (hjoined : pkg.val ∉ x.joined)

include hspan hcreator hring hjoined

theorem opJoinFlitReceive_of_late (hstate : x.state ≠ .forming) :
    opJoinFlitReceive span pkg shares s = s.send pkg.val (.spanRefuse span .badState 0) := by
  unfold opJoinFlitReceive
  rw [hspan]
  exact (if_neg (by simp [hcreator, hring, hjoined])).trans (if_pos (by simpa using hstate))

/-- A listed package that had not joined is counted; with the last one the span becomes ACTIVE everywhere. -/
theorem opJoinFlitReceive_of_forming (hstate : x.state = .forming) :
    opJoinFlitReceive span pkg shares s =
      if (x.joined ++ [pkg.val]).length < x.ring.length then s.joinedBy span pkg shares x
      else ((s.joinedBy span pkg shares x).sendAll (x.ring.filter (fun k => k != s.self))
        (.spanActive span x.ring s.self)).spanBecomesActive span x.ring := by
  unfold opJoinFlitReceive
  rw [hspan]
  exact (if_neg (by simp [hcreator, hring, hjoined])).trans (if_neg (by simp [hstate]))

end Listed

end Join

/-! ### The start of a span (R370, R371) -/

section Active

variable {ring : List Nat}

theorem opSpanActiveReceive_of_forming (hspan : s.span? span = some x) (hring : s.self ∈ ring)
    (hstate : x.state = .forming) : opSpanActiveReceive span ring s = s.spanBecomesActive span ring := by
  unfold opSpanActiveReceive
  rw [hspan]
  exact (if_neg (by simpa using hring)).trans (if_pos hstate)

theorem opSpanActiveReceive_of_formed (hspan : s.span? span = some x) (hring : s.self ∈ ring)
    (hstate : x.state ≠ .forming) : opSpanActiveReceive span ring s = s.updSpan span (fun x =>
      { x with ring := x.ring.filter ring.contains }) := by
  unfold opSpanActiveReceive
  rw [hspan]
  exact (if_neg (by simpa using hring)).trans (if_neg hstate)

end Active

/-! ### Spans that form too long (R370) -/

theorem opSpanFormingTimeout_of_early (hspan : s.span? span = some x) (hearly : x.state ≠ .forming ∨ x.frames < 1024) :
    opSpanFormingTimeout span s = s := by
  unfold opSpanFormingTimeout
  rw [hspan]
  exact if_pos (by simpa using hearly)

section Timeout

variable (hspan : s.span? span = some x) (hstate : x.state = .forming) (hframes : 1024 ≤ x.frames)

include hspan hstate hframes

theorem opSpanFormingTimeout_of_member (hcreator : x.creator ≠ s.self) :
    opSpanFormingTimeout span s =
      s.takeFree.2.spanFails span .badState (Config.notJoined s.takeFree.1 % 128) := by
  have hmember : x.creator ≠ s.takeFree.2.self := hcreator
  unfold opSpanFormingTimeout
  rw [hspan]
  refine (if_neg (by simp [hstate, hframes])).trans ?_
  simp only [hmember, if_false]

theorem opSpanFormingTimeout_of_creator (hcreator : x.creator = s.self) :
    opSpanFormingTimeout span s = (s.takeFree.2.sendAll (x.joined.filter (fun k => k != s.self))
      (.spanRefuse span .badState (x.ring.length - x.joined.length))).spanFails span .badState
        (x.ring.length - x.joined.length) := by
  have hself : x.creator = s.takeFree.2.self := hcreator
  unfold opSpanFormingTimeout
  rw [hspan]
  refine (if_neg (by simp [hstate, hframes])).trans ?_
  simp only [hself, if_true]
  rfl

end Timeout

/-! ### Dead spans (R373) -/

theorem opSpanDeadReceive_of_member {pkg : Fin 128} {u : State} (hspan : s.span? span = some x)
    (hu : u = s.killStart { tag := BitVec.ofNat 10 (tagOf x.part x.ctx), cause := .spanPeerKilled }
      (some (BitVec.ofNat 7 pkg.val, 0))) :
    opSpanDeadReceive span pkg s =
      (u.updSpan span (fun x => { x with state := .dead })).send pkg.val (.spanDeadAck span u.self) := by
  subst hu
  unfold opSpanDeadReceive
  rw [hspan]
  rfl

/-- The state once the acknowledgements of a dead span are taken: `rest` has not answered. -/
def State.stillUnacked (span : BitVec 16) (rest : List Nat) (s : State) : State :=
  s.updSpan span (fun x => { x with unacked := rest })

section Resend

variable {acked rest : List Nat} (hspan : s.span? span = some x)
  (hrest : rest = x.unacked.filter (fun k => !acked.contains k))

include hspan hrest

theorem opSpanDeadResend_of_waiting (hstate : x.state = .dead) (hlead : x.lead = s.self)
    (hframes : 1024 ≤ x.deadFrames) (hwaiting : rest ≠ []) :
    opSpanDeadResend span acked s = ((s.stillUnacked span rest).updSpan span (fun x => { x with deadFrames := 0 })).sendAll
      rest (.spanDead span) := by
  subst hrest
  unfold opSpanDeadResend
  rw [hspan]
  refine if_pos ?_
  simp only [Bool.and_eq_true, decide_eq_true_eq, Bool.not_eq_true', List.isEmpty_eq_false_iff]
  exact ⟨⟨⟨hstate, hlead⟩, hframes⟩, hwaiting⟩

theorem opSpanDeadResend_of_all_acked (hnone : rest = []) :
    opSpanDeadResend span acked s = s.stillUnacked span [] := by
  subst hrest
  unfold opSpanDeadResend
  rw [hspan]
  dsimp only
  rw [hnone]
  exact if_neg (by simp)

end Resend

end Life

/-- Settles O37: each clause is the equation of its operation in the case it names. Shares in the join flit are log entry 40,
a ring that only shrinks is entry 41, the refusals that name their reason entry 42, and the count of packages not joined,
away from the creator, entry 133. -/
theorem spanEventsComplete : Obligations.SpanEventsComplete := by
  refine ⟨?_, ?_, ?_, ?_, ?_, ?_, ?_, ?_, ?_, ?_, ?_, ?_, ?_⟩
  · intro span pkg shares x s hclk hact hspan hcreator hring hjoined hstate hmore
    refine next_toChoesk hclk hact ((opJoinFlitReceive_of_forming hspan hcreator hring hjoined hstate).trans ?_) _ _
    exact if_pos (by simpa using hmore)
  · intro span pkg shares x u s hclk hact hspan hcreator hring hjoined hstate hlast hu
    subst hu
    refine next_toChoesk hclk hact ((opJoinFlitReceive_of_forming hspan hcreator hring hjoined hstate).trans ?_) _ _
    exact if_neg (by simpa using hlast)
  · intro span pkg shares s hclk hact hspan
    exact next_toChoesk hclk hact (opJoinFlitReceive_of_unknown hspan) _ _
  · intro span pkg shares x s hclk hact hspan hcreator hring hjoined hstate
    exact next_toChoesk hclk hact (opJoinFlitReceive_of_late hspan hcreator hring hjoined hstate) _ _
  · intro span ring x s hclk hact hspan hring hstate
    exact next_toChoesk hclk hact (opSpanActiveReceive_of_forming hspan hring hstate) _ _
  · intro span ring x s hclk hact hspan hring hstate
    exact next_toChoesk hclk hact (opSpanActiveReceive_of_formed hspan hring hstate) _ _
  · intro span x s hclk hspan hstate hframes hcreator
    exact next_whenClocked hclk (opSpanFormingTimeout_of_member hspan hstate hframes hcreator)
  · intro span x s hclk hspan hstate hframes hcreator
    exact next_whenClocked hclk (opSpanFormingTimeout_of_creator hspan hstate hframes hcreator)
  · intro span x s hclk hspan hearly
    exact next_whenClocked hclk (opSpanFormingTimeout_of_early hspan hearly)
  · intro span s hclk hact
    exact next_toChoesk hclk hact rfl _ _
  · intro span pkg x s hclk hact hspan
    exact next_toChoesk hclk hact (opSpanDeadReceive_of_member hspan rfl) _ _
  · intro span acked x rest s hclk hspan hrest hstate hlead hframes hwaiting
    exact next_whenClocked hclk (opSpanDeadResend_of_waiting hspan hrest hstate hlead hframes hwaiting)
  · intro span acked x s hclk hspan hnone
    exact next_whenClocked hclk (opSpanDeadResend_of_all_acked hspan rfl hnone)

end Sys2Proof.Machine
end

section
/-! PROOFS. The test port (R460, R461): which instruction is in force, and what each shifts or does. -/

namespace Sys2Proof.Machine

open Sys2Proof
open Host (Outcome)

/-! ### Loading and force -/

/-- The state with a test instruction loaded. -/
def State.loaded (code : BitVec 8) (s : State) : State := s.updPor (fun p => { p with jtag := code, atbJtag := false })

section Force

variable {code : BitVec 8} {s : State}

theorem State.loadTest_of_running (hscan : s.por.scan = false) (effect : State → State) :
    s.loadTest code effect = effect (s.loaded code) :=
  if_neg (ne_true_of_eq_false hscan)

theorem State.loadTest_of_scan (hscan : s.por.scan = true) (effect : State → State) :
    s.loadTest code effect = s.afterScan code :=
  if_pos hscan

/-- The codes of a BYPASS load select nothing else (Table 16-5). -/
theorem bypassCode_not_listed (n : Nat) : bypassCode n ∉ openCodes ++ restrictedCodes ++ scanCodes := by
  unfold bypassCode
  split
  next => decide
  next hunlisted => simpa using hunlisted

theorem State.inForce_of_open (hcode : s.por.jtag ∈ openCodes) : s.inForce = s.por.jtag :=
  if_pos (by simp [hcode])

theorem State.inForce_of_restricted (hcode : s.por.jtag ∈ restrictedCodes) :
    s.inForce = if s.por.sysRst || s.por.testEn then s.por.jtag else 0xFF := by
  have hdisjoint : ∀ c ∈ restrictedCodes, openCodes.contains c = false ∧ scanCodes.contains c = false := by decide
  obtain ⟨hopen, hscan⟩ := hdisjoint _ hcode
  unfold State.inForce
  simp only [hopen, hscan, List.contains_iff_mem.2 hcode, Bool.false_or, Bool.true_and, Bool.false_and, Bool.or_false]

theorem State.inForce_of_scan (hcode : s.por.jtag ∈ scanCodes) :
    s.inForce = if s.scanOpen then s.por.jtag else 0xFF := by
  have hdisjoint : ∀ c ∈ scanCodes, openCodes.contains c = false ∧ restrictedCodes.contains c = false := by decide
  obtain ⟨hopen, hrestricted⟩ := hdisjoint _ hcode
  unfold State.inForce
  simp only [hopen, hrestricted, List.contains_iff_mem.2 hcode, Bool.false_or, Bool.true_and, Bool.false_and]

theorem State.inForce_of_unlisted (hcode : s.por.jtag ∉ openCodes ++ restrictedCodes ++ scanCodes) :
    s.inForce = 0xFF := by
  simp only [List.mem_append, not_or] at hcode
  obtain ⟨⟨hopen, hrestricted⟩, hscan⟩ := hcode
  exact if_neg (by simp [hopen, hrestricted, hscan])

end Force

/-! ### Shifting (log entry 131) -/

section Shift

variable {s : State}

/-- What the boundary register gives out and takes in. -/
def shiftBoundary (n : Nat × State) : State :=
  if Config.shiftedIn n.1 = [] then n.2
  else (n.2.updPor (fun p => { p with boundary := Config.shiftedIn n.1 })).emit
    (.tdoBits ((List.range (Config.shiftedIn n.1).length).map (fun i => Config.landLevel n.1 i)))

/-- What the bypass register gives out: the bits behind one 0. -/
def shiftBypass (n : Nat × State) : State :=
  if Config.shiftedIn n.1 = [] then n.2
  else n.2.emit (.tdoBits ((false :: Config.shiftedIn n.1).take (Config.shiftedIn n.1).length))

theorem State.shift_eq (s : State) :
    s.shift = if s.onBoundary then shiftBoundary s.takeFree else shiftBypass s.takeFree := by
  have hforce : s.takeFree.2.onBoundary = s.onBoundary := rfl
  unfold State.shift shiftBoundary shiftBypass
  simp only [hforce, List.isEmpty_iff]
  split <;> split <;> rfl

/-- The codes that select the boundary register between TDI and TDO. -/
def boundaryCodes : List (BitVec 8) := [0x00, 0x02, 0x03, 0x04]

theorem State.shift_of_boundary {c : BitVec 8} (hforce : s.inForce = c) (hcode : c ∈ boundaryCodes) :
    s.shift = shiftBoundary s.takeFree := by
  have hselects : ∀ c ∈ boundaryCodes, [0x00, 0x02, 0x03, 0x04].contains c.toNat = true := by decide
  have hboundary : s.onBoundary = true := by
    unfold State.onBoundary
    rw [hforce]
    exact hselects c hcode
  rw [State.shift_eq, if_pos hboundary]

theorem State.shift_of_bypass (hforce : s.inForce = 0xFF) : s.shift = shiftBypass s.takeFree := by
  have hbypass : s.onBoundary = false := by
    unfold State.onBoundary
    rw [hforce]
    decide
  rw [State.shift_eq, if_neg (ne_true_of_eq_false hbypass)]

section Extest

variable {code : BitVec 8} (hscan : s.por.scan = false) (hcode : code ∈ restrictedCodes)

include hscan hcode

/-- An EXTEST instruction whose conditions hold shifts the boundary register. -/
theorem State.loadTest_shift_of_force (hboundary : code ∈ boundaryCodes)
    (hforce : s.por.sysRst = true ∨ s.por.testEn = true) :
    s.loadTest code State.shift = shiftBoundary (s.loaded code).takeFree := by
  have hloaded : (s.loaded code).inForce = code :=
    (State.inForce_of_restricted hcode).trans (if_pos (by simpa [State.loaded] using hforce))
  rw [State.loadTest_of_running hscan, State.shift_of_boundary hloaded hboundary]

/-- A restricted instruction whose conditions do not hold acts as BYPASS. -/
theorem State.loadTest_shift_of_no_force (hrst : s.por.sysRst = false) (htest : s.por.testEn = false) :
    s.loadTest code State.shift = shiftBypass (s.loaded code).takeFree := by
  have hloaded : (s.loaded code).inForce = 0xFF :=
    (State.inForce_of_restricted hcode).trans (if_neg (by simp [State.loaded, hrst, htest]))
  rw [State.loadTest_of_running hscan, State.shift_of_bypass hloaded]

end Extest

end Shift

/-! ### Leaving SCAN_MODE (R461, log entry 130) -/

/-- The rows of the test port that load an instruction of one code, with their codes: all but SCAN_MODE and BYPASS. -/
def codedRows : List (Instr × BitVec 8) :=
  [(.extest, 0x00), (.idcode, 0x01), (.testLogicReset, 0x01), (.samplePreload, 0x02), (.extestPulse, 0x03),
    (.extestTrain, 0x04), (.clamp, 0x05), (.highz, 0x06), (.mbistRun, 0x21), (.atbCtrl, 0x22), (.jtagWarmReset, 0x23)]

theorem exec_of_codedRow {i : Instr} {code : BitVec 8} (h : (i, code) ∈ codedRows) (s : State) :
    ∃ effect, exec i s = .next (s.loadTest code effect) := by
  simp only [codedRows, List.mem_cons, Prod.mk.injEq, List.not_mem_nil, or_false] at h
  obtain ⟨rfl, rfl⟩ | ⟨rfl, rfl⟩ | ⟨rfl, rfl⟩ | ⟨rfl, rfl⟩ | ⟨rfl, rfl⟩ | ⟨rfl, rfl⟩ | ⟨rfl, rfl⟩ | ⟨rfl, rfl⟩ |
    ⟨rfl, rfl⟩ | ⟨rfl, rfl⟩ | ⟨rfl, rfl⟩ := h <;>
  exact ⟨_, rfl⟩

/-- Settles O40: each row loads its instruction, which is in force where `inForce` says so. The bits that are shifted are
free values (log entry 131), as are the manufacturer and the results of a self-test (entry 82). -/
theorem jtagInstructionsComplete : Obligations.JtagInstructionsComplete := by
  refine ⟨?_, ?_, ?_, ?_, ?_, ?_, ?_, ?_, ?_, ?_, ?_, ?_, ?_, ?_, ?_, ?_, ?_, ?_, ?_, ?_, ?_, ?_, ?_, ?_⟩
  · intro n m s hscan hn hm
    subst hn hm
    have hforce : (s.takeFree.2.loaded (bypassCode s.takeFree.1)).inForce = 0xFF :=
      State.inForce_of_unlisted (bypassCode_not_listed s.takeFree.1)
    exact congrArg Outcome.next
      ((State.loadTest_of_running (s := s.takeFree.2) hscan _).trans (State.shift_of_bypass hforce))
  · intro n hlisted
    refine bypassCode_not_listed n ?_
    have hsame : ∀ c ∈ ([0x00, 0x01, 0x02, 0x03, 0x04, 0x05, 0x06, 0x20, 0x21, 0x22, 0x23] : List (BitVec 8)),
        c ∈ openCodes ++ restrictedCodes ++ scanCodes := by decide
    exact hsame _ hlisted
  · intro n s hscan hn
    subst hn
    have hforce : (s.loaded 0x02).inForce = 0x02 :=
      State.inForce_of_open (show (0x02 : BitVec 8) ∈ openCodes by decide)
    exact congrArg Outcome.next
      ((State.loadTest_of_running hscan _).trans (State.shift_of_boundary hforce (by decide)))
  · intro n s hscan hforce hn
    subst hn
    exact congrArg Outcome.next (State.loadTest_shift_of_force hscan (by decide) (by decide) hforce)
  · intro n s hscan hrst htest hn
    subst hn
    exact congrArg Outcome.next (State.loadTest_shift_of_no_force hscan (by decide) hrst htest)
  · intro n s hscan hforce hn
    subst hn
    exact congrArg Outcome.next (State.loadTest_shift_of_force hscan (by decide) (by decide) hforce)
  · intro n s hscan hrst htest hn
    subst hn
    exact congrArg Outcome.next (State.loadTest_shift_of_no_force hscan (by decide) hrst htest)
  · intro n s hscan hforce hn
    subst hn
    exact congrArg Outcome.next (State.loadTest_shift_of_force hscan (by decide) (by decide) hforce)
  · intro n s hscan hrst htest hn
    subst hn
    exact congrArg Outcome.next (State.loadTest_shift_of_no_force hscan (by decide) hrst htest)
  · intro s hscan
    exact congrArg Outcome.next (State.loadTest_of_running hscan _)
  · intro s hscan
    exact congrArg Outcome.next (State.loadTest_of_running hscan _)
  · intro s hscan
    exact congrArg Outcome.next (State.loadTest_of_running hscan _)
  · intro s hscan
    exact congrArg Outcome.next (State.loadTest_of_running hscan _)
  · intro s hcode
    exact State.inForce_of_restricted (by simpa [restrictedCodes] using hcode)
  · intro s hcode
    exact State.inForce_of_scan (by simpa [scanCodes] using hcode)
  · intro s hscan
    exact congrArg Outcome.next ((if_neg (ne_true_of_eq_false hscan)).trans (State.loadTest_of_running hscan _))
  · intro s hscan
    exact congrArg Outcome.next (State.loadTest_of_running hscan _)
  · intro s hscan hclosed
    exact congrArg Outcome.next ((State.loadTest_of_running hscan _).trans (if_pos (by
      rw [show (s.loaded 0x21).scanOpen = false from hclosed]
      rfl)))
  · intro n s hscan hopen hn
    subst hn
    exact congrArg Outcome.next ((State.loadTest_of_running hscan _).trans (if_neg (by
      rw [show (s.loaded 0x21).scanOpen = true from hopen]
      decide)))
  · intro s hscan htrip
    exact congrArg Outcome.next ((State.loadTest_of_running hscan _).trans (if_neg (ne_true_of_eq_false htrip)))
  · intro s hscan htrip
    exact congrArg Outcome.next ((State.loadTest_of_running hscan _).trans (if_pos htrip))
  · intro n s hscan hn
    subst hn
    exact congrArg Outcome.next (State.loadTest_of_scan (s := s.takeFree.2) hscan _)
  · intro i code s hscan hrow
    obtain ⟨effect, hexec⟩ := exec_of_codedRow hrow s
    obtain ⟨hfuse, hflash, hhost, -, hscanned, hlost⟩ := State.afterScan_leftScan code s
    exact ⟨hexec.trans (congrArg Outcome.next (State.loadTest_of_scan hscan _)), hfuse, hflash, hhost, hscanned, hlost, rfl⟩
  · exact fun s hscan => congrArg Outcome.next (if_pos hscan)

end Sys2Proof.Machine
end

section
/-! PROOFS. Staging, activation and DFU (R413, R414, R416, R431, R432, R435, R436). -/

namespace Sys2Proof.Machine

open Sys2Proof

/-! ### Staging (R413, R414) -/

section Stage

variable {s : State}

/-- The state in which a staged image is verified: its bytes are written. -/
def State.verifying (s : State) : State :=
  (s.setFw .verifying).updMgt (fun g => { g with stageCmd := none, stageData := [] })

theorem opStageVerifyComplete_of_idle (h : s.mgt.stageCmd = none ∨ s.mgt.fw ≠ .receiving) :
    opStageVerifyComplete s = s := by
  unfold opStageVerifyComplete
  split
  next => rfl
  next c hcmd =>
    obtain h | h := h
    · rw [h] at hcmd
      cases hcmd
    · exact if_pos (by simpa using h)

section Receiving

variable {c : CmdId} (hcmd : s.mgt.stageCmd = some c) (hfw : s.mgt.fw = .receiving)

include hcmd hfw

theorem opStageVerifyComplete_of_good (hgood : s.verifying.imageBad (imageOf s.mgt.stageData) = none) :
    opStageVerifyComplete s = (State.setFw .staged { s.verifying with
      flash := s.verifying.flash.setBank s.verifying.inactive (some (imageOf s.mgt.stageData)) }).finish c .done .none
        [word [(0, (imageOf s.mgt.stageData).level.toNat), (8, (imageOf s.mgt.stageData).svn.toNat),
          (32, (imageOf s.mgt.stageData).version)]] := by
  unfold State.verifying at *
  unfold opStageVerifyComplete
  rw [hcmd]
  refine (if_neg (by simp [hfw])).trans ?_
  simp only [hgood]

theorem opStageVerifyComplete_of_bad {k : FwCheck} (hbad : s.verifying.imageBad (imageOf s.mgt.stageData) = some k) :
    opStageVerifyComplete s = (s.verifying.rejectImage k).finish c .badCommand k.reason [] := by
  unfold State.verifying at *
  unfold opStageVerifyComplete
  rw [hcmd]
  refine (if_neg (by simp [hfw])).trans ?_
  simp only [hbad]

end Receiving

/-- Check 1 of R413 comes first. -/
theorem State.imageBad_of_header {i : FwImage} (h : i.magic ≠ 0x4B534843 ∨ i.headerLen ≠ 512 ∨ i.reserved = true ∨
      imageLimit < 512 + i.bodyLen.toNat) : s.imageBad i = some .c1 :=
  if_pos (by simpa [or_assoc] using h)

/-- An image that fails no check passes each of R413. -/
theorem State.imageBad_eq_none {i : FwImage} (h : s.imageBad i = none) :
    i.magic = 0x4B534843 ∧ i.headerLen = 512 ∧ i.reserved = false ∧ 512 + i.bodyLen.toNat ≤ imageLimit ∧
      ofBytesLE (sha384 (bytesLE 97 i.publicKey)) = s.fuse.keys.getD i.keySlot.toNat 0 ∧
      bit s.fuse.revoked i.keySlot.toNat = false ∧ i.signed = true ∧ ofBytesLE (sha384 i.body) = i.digest ∧
      s.fuse.v.toNat ≤ i.svn.toNat := by
  unfold State.imageBad at h
  split at h
  next => cases h
  next hheader =>
    split at h
    next => cases h
    next hkey =>
      split at h
      next => cases h
      next hsigned =>
        split at h
        next => cases h
        next hdigest =>
          split at h
          next => cases h
          next hsvn =>
            simp only [Bool.or_eq_true, bne_iff_ne, decide_eq_true_eq, not_or, not_not, Bool.not_eq_true,
              Bool.not_eq_true', Nat.not_lt] at hheader hkey hsigned hdigest hsvn
            obtain ⟨⟨⟨hmagic, hlen⟩, hreserved⟩, hlimit⟩ := hheader
            obtain ⟨hhash, hrevoked⟩ := hkey
            exact ⟨hmagic, hlen, hreserved, hlimit, hhash, hrevoked, by simpa using hsigned, hdigest, hsvn⟩

end Stage

/-! ### Activation (R416) -/

section Activation

variable {s : State}

theorem opActivationStandbyLoaded_of_good (hact : s.mgt.act = .loading) (hbank : (s.validBank s.inactive).isSome = true) :
    opActivationStandbyLoaded true s = s.updMgt (fun g => { g with act := .restoring }) :=
  (if_neg (by simp [hact])).trans (if_pos (by simp [hbank]))

theorem opActivationStandbyLoaded_of_bad {valid : Bool} (hact : s.mgt.act = .loading)
    (hbad : valid = false ∨ s.validBank s.inactive = none) :
    opActivationStandbyLoaded valid s = s.activationFails 1 :=
  (if_neg (by simp [hact])).trans (if_neg (by obtain h | h := hbad <;> simp [h]))

theorem opActivationTakeover_of_idle {code : BitVec 2} (hact : s.mgt.act ≠ .restoring) : opActivationTakeover code s = s :=
  if_pos (by simpa using hact)

theorem opActivationTakeover_of_image {code : BitVec 2} {i : FwImage} (hact : s.mgt.act = .restoring)
    (hbank : s.flash.bank s.inactive = some i) :
    opActivationTakeover code s = (if code = 0 then s.takeOver i else s.activationFails code.toNat).releaseInbound := by
  unfold opActivationTakeover
  refine (if_neg (by simp [hact])).trans ?_
  simp only [hbank]

end Activation

/-! ### DFU (R431, R432, R435, R436) -/

section Dfu

variable {block : BitVec 16} {data : List Byte} {s : State}

section Idle

variable (hdfu : s.mgt.dfu = .idle)

include hdfu

theorem opDfuDnload_of_busy (hidle : s.mgt.fw ≠ .idle) (hstaged : s.mgt.fw ≠ .staged) :
    opDfuDnload block data s = s.dfuFails .errVendor := by
  unfold opDfuDnload
  simp only [hdfu]
  exact if_pos (by simp [hidle, hstaged])

theorem opDfuDnload_of_wrong_first (hfw : s.mgt.fw = .idle ∨ s.mgt.fw = .staged)
    (hwrong : block ≠ 0 ∨ dfuBlockSize < data.length ∨ data = []) :
    opDfuDnload block data s = s.dfuFails .errAddress := by
  unfold opDfuDnload
  simp only [hdfu]
  exact (if_neg (by obtain h | h := hfw <;> simp [h])).trans (if_pos (by simpa [or_assoc] using hwrong))

theorem opDfuDnload_of_first (hfw : s.mgt.fw = .idle ∨ s.mgt.fw = .staged) (hblock : block = 0)
    (hsize : data.length ≤ dfuBlockSize) (hdata : data ≠ []) :
    opDfuDnload block data s = (s.setFw .receiving).eraseInactive.updMgt (fun g => { g with
      dfu := .dnload, dfuStatus := .ok, dfuBlock := 1, stageData := data }) := by
  unfold opDfuDnload
  simp only [hdfu]
  exact (if_neg (by obtain h | h := hfw <;> simp [h])).trans
    (if_neg (by simp [hblock, Nat.not_lt.2 hsize, hdata]))

end Idle

section Download

variable (hdfu : s.mgt.dfu = .dnload)

include hdfu

theorem opDfuDnload_of_next (hblock : block.toNat = s.mgt.dfuBlock % 65536)
    (hheld : s.mgt.stageData.length = dfuBlockSize * s.mgt.dfuBlock) (hsize : data.length ≤ dfuBlockSize)
    (hlimit : s.mgt.stageData.length + data.length ≤ imageLimit) :
    opDfuDnload block data s = s.updMgt (fun g =>
      { g with dfuBlock := g.dfuBlock + 1, stageData := g.stageData ++ data }) := by
  unfold opDfuDnload
  simp only [hdfu]
  exact if_neg (by simp only [hblock, ← hheld, bne_self_eq_false, Nat.not_lt.2 hsize, Nat.not_lt.2 hlimit]; decide)

theorem opDfuDnload_of_wrong_next (hwrong : block.toNat ≠ s.mgt.dfuBlock % 65536 ∨
      s.mgt.stageData.length ≠ dfuBlockSize * s.mgt.dfuBlock ∨ dfuBlockSize < data.length ∨
      imageLimit < s.mgt.stageData.length + data.length) :
    opDfuDnload block data s = s.dfuFails .errAddress := by
  unfold opDfuDnload
  simp only [hdfu]
  exact if_pos (by simpa [or_assoc] using hwrong)

end Download

theorem opDfuDnload_of_stall (hidle : s.mgt.dfu ≠ .idle) (hdnload : s.mgt.dfu ≠ .dnload) :
    opDfuDnload block data s = s.emit .usbStall := by
  unfold opDfuDnload
  split
  next h => exact absurd h hidle
  next h => exact absurd h hdnload
  next => rfl

theorem opDfuManifest_of_stall (h : s.mgt.dfu ≠ .dnload ∨ s.mgt.fw ≠ .receiving) :
    opDfuManifest s = s.emit .usbStall :=
  if_pos (by simpa using h)

/-- The state in which a downloaded image is verified. -/
def State.manifesting (s : State) : State :=
  (s.updMgt (fun g => { g with dfu := .manifest, stageData := [] })).setFw .verifying

section Manifest

variable (hdfu : s.mgt.dfu = .dnload) (hfw : s.mgt.fw = .receiving)

include hdfu hfw

theorem opDfuManifest_of_good (hgood : s.manifesting.imageBad (imageOf s.mgt.stageData) = none) {v : State}
    (hv : v = (State.setFw .staged { s.manifesting with
      flash := s.manifesting.flash.setBank s.manifesting.inactive (some (imageOf s.mgt.stageData)) }).updMgt (fun g =>
        { g with dfu := .idle, dfuStatus := .ok })) :
    opDfuManifest s = if v.mgt.recovery then { v with flash := v.flash.writeRecord s.manifesting.inactive } else v := by
  subst hv
  unfold State.manifesting at *
  refine (if_neg (by simp [hdfu, hfw])).trans ?_
  simp only [hgood]

theorem opDfuManifest_of_bad {k : FwCheck} (hbad : s.manifesting.imageBad (imageOf s.mgt.stageData) = some k) :
    opDfuManifest s = (s.manifesting.rejectImage k).updMgt (fun g => { g with
      dfu := .error, dfuStatus := if k = .c1 then .errFile else if k = .c5 then .errVendor else .errVerify }) := by
  unfold State.manifesting at *
  refine (if_neg (by simp [hdfu, hfw])).trans ?_
  simp only [hbad]
  cases k <;> rfl

end Manifest

/-- A USB reset ends a download under way (R436). -/
theorem opUsbBusReset_of_download (hcmd : s.mgt.stageCmd = none) (hfw : s.mgt.fw = .receiving ∨ s.mgt.fw = .verifying) :
    opUsbBusReset s = (((s.setFw .idle).updMgt (fun g =>
      { g with dfu := .idle, dfuStatus := .ok, usbData := [], stageData := [] })).updMb 17 (fun b => { b with
        tickets := [], staged := [] })).log 0x0C00 [(0, 1)] := by
  have hdown : (s.mgt.stageCmd.isNone && (s.mgt.fw = .receiving || s.mgt.fw = .verifying)) = true := by simp [hcmd, hfw]
  unfold opUsbBusReset
  simp only [hdown, if_true]
  rfl

theorem opUsbBusReset_of_no_download (h : s.mgt.stageCmd ≠ none ∨ (s.mgt.fw ≠ .receiving ∧ s.mgt.fw ≠ .verifying)) :
    opUsbBusReset s = ((s.updMgt (fun g =>
      { g with dfu := .idle, dfuStatus := .ok, usbData := [] })).updMb 17 (fun b => { b with
        tickets := [], staged := [] })).log 0x0C00 [(0, 0)] := by
  have hdown : (s.mgt.stageCmd.isNone && (s.mgt.fw = .receiving || s.mgt.fw = .verifying)) = false := by
    obtain h | ⟨hreceiving, hverifying⟩ := h
    · simp [h]
    · simp [hreceiving, hverifying]
  unfold opUsbBusReset
  simp only [hdown, Bool.false_eq_true, if_false]
  rfl

end Dfu

/-- Settles O44: each clause is the equation of its operation in the case it names. That a download in the error state only
stalls is log entry 79, the algorithms of the signature check entry 135. -/
theorem firmwareUpdates : Obligations.FirmwareUpdates := by
  refine ⟨?_, ?_, ?_, ?_, ?_, ?_, ?_, ?_, ?_, ?_, ?_, ?_, ?_, ?_, ?_, ?_, ?_, ?_, ?_, ?_, ?_, ?_⟩
  · intro img c u s hclk hcmd hfw himg hu hgood
    subst himg hu
    exact next_whenClocked hclk (opStageVerifyComplete_of_good hcmd hfw hgood)
  · intro c u k s hclk hcmd hfw hu hbad
    subst hu
    exact next_whenClocked hclk (opStageVerifyComplete_of_bad hcmd hfw hbad)
  · intro s hclk hidle
    exact next_whenClocked hclk (opStageVerifyComplete_of_idle hidle)
  · exact fun i s hheader => State.imageBad_of_header hheader
  · exact fun i s hnone => State.imageBad_eq_none hnone
  · intro valid s hclk hact hvalid hbank
    subst hvalid
    exact next_whenClocked hclk (opActivationStandbyLoaded_of_good hact hbank)
  · intro valid s hclk hact hbad
    exact next_whenClocked hclk (opActivationStandbyLoaded_of_bad hact hbad)
  · intro code i s hclk hact hbank hcode
    exact next_whenClocked hclk ((opActivationTakeover_of_image hact hbank).trans (by rw [if_pos hcode]))
  · intro code i s hclk hact hbank hcode
    exact next_whenClocked hclk ((opActivationTakeover_of_image hact hbank).trans (by rw [if_neg hcode]))
  · intro code s hclk hact
    exact next_whenClocked hclk (opActivationTakeover_of_idle hact)
  · intro block data s hclk hdfu hfw hblock hsize hdata
    exact next_whenClocked hclk (opDfuDnload_of_first hdfu hfw hblock hsize hdata)
  · intro block data s hclk hdfu hidle hstaged
    exact next_whenClocked hclk (opDfuDnload_of_busy hdfu hidle hstaged)
  · intro block data s hclk hdfu hfw hwrong
    exact next_whenClocked hclk (opDfuDnload_of_wrong_first hdfu hfw hwrong)
  · intro block data s hclk hdfu hblock hheld hsize hlimit
    exact next_whenClocked hclk (opDfuDnload_of_next hdfu hblock hheld hsize hlimit)
  · intro block data s hclk hdfu hwrong
    exact next_whenClocked hclk (opDfuDnload_of_wrong_next hdfu hwrong)
  · intro block data s hclk hidle hdnload
    exact next_whenClocked hclk (opDfuDnload_of_stall hidle hdnload)
  · intro img u v s hclk hdfu hfw himg hu hgood hv
    subst himg hu
    exact next_whenClocked hclk (opDfuManifest_of_good hdfu hfw hgood hv)
  · intro u k s hclk hdfu hfw hu hbad
    subst hu
    exact next_whenClocked hclk (opDfuManifest_of_bad hdfu hfw hbad)
  · intro s hclk hstall
    exact next_whenClocked hclk (opDfuManifest_of_stall hstall)
  · intro s hclk
    exact next_whenClocked hclk rfl
  · intro s hclk hnone
    exact next_whenClocked hclk (opUsbBusReset_of_no_download hnone)
  · intro s hclk hcmd hfw
    exact next_whenClocked hclk (opUsbBusReset_of_download hcmd hfw)

end Sys2Proof.Machine
end

section
/-! PROOFS. Configuration items, the log, PMBus and SMBus, the SMBus target and the console (R386, R422, R425, R428 to R430,
R434, R437, R464). -/

namespace Sys2Proof.Machine

open Sys2Proof

/-! ### Configuration items (R434) -/

section Items

variable {item : BitVec 16} {s : State}

theorem opConfigItemRead_of_item {bs : List Byte} (hitem : s.flash.item item.toNat = some bs)
    (hrecovery : s.mgt.recovery = false) : opConfigItemRead item s = s.emit (.usb bs) := by
  unfold opConfigItemRead
  rw [hitem]
  exact if_neg (ne_true_of_eq_false hrecovery)

theorem opConfigItemRead_of_stall (h : s.flash.item item.toNat = none ∨ s.mgt.recovery = true) :
    opConfigItemRead item s = s.emit .usbStall := by
  unfold opConfigItemRead
  split
  next bs hitem => exact if_pos (h.resolve_left (by simp [hitem]))
  next => rfl

theorem opConfigItemWrite_of_item {data : List Byte} {f : Flash} (hitem : s.flash.setItem item.toNat data = some f)
    (hrecovery : s.mgt.recovery = false) : opConfigItemWrite item data s = { s with flash := f } := by
  unfold opConfigItemWrite
  rw [hitem]
  exact if_neg (ne_true_of_eq_false hrecovery)

theorem opConfigItemWrite_of_stall {data : List Byte}
    (h : s.flash.setItem item.toNat data = none ∨ s.mgt.recovery = true) :
    opConfigItemWrite item data s = s.emit .usbStall := by
  unfold opConfigItemWrite
  split
  next f hitem => exact if_pos (h.resolve_left (by simp [hitem]))
  next => rfl

end Items

/-! ### PMBus (R386, R422) -/

section Pmbus

variable {readings : List (Option (BitVec 16))} {s : State}

/-- The rails that the segment table names, with their places. -/
def State.rails (s : State) : List (Nat × Nat × Nat × Nat) :=
  (List.range 32).filterMap (fun q => (railOf s.mgt.latchedSegments q).map (fun r => (q, r)))

theorem opPmbusPoll_of_no_rail (hnone : ∀ q, q < 32 → railOf s.mgt.latchedSegments q = none) :
    opPmbusPoll readings s = s := by
  have hrails : (List.range 32).filterMap (fun q => (railOf s.mgt.latchedSegments q).map (fun r => (q, r))) = [] :=
    List.filterMap_eq_nil_iff.2 fun q hq => by rw [hnone q (List.mem_range.1 hq)]; rfl
  unfold opPmbusPoll
  simp only [hrails, List.foldl_nil, List.isEmpty_nil, if_true]

@[simp] theorem State.stuck_updSensor (n id : Nat) (f : Sensor → Sensor) (s : State) :
    (s.updSensor id f).stuck n = s.stuck n := rfl

/-- A reading is taken into its sensor. -/
def State.takeReading (id : Nat) (v : BitVec 16) (s : State) : State := s.updSensor id (fun x => x.take id v)

theorem opPmbusPoll_of_one_rail {q : Nat} {r : Nat × Nat × Nat} {v0 v1 v2 v3 : BitVec 16} (hrails : s.rails = [(q, r)])
    (hstuck : s.stuck r.1 = false) (h0 : readings.getD (4 * q) none = some v0)
    (h1 : readings.getD (4 * q + 1) none = some v1) (h2 : readings.getD (4 * q + 2) none = some v2)
    (h3 : readings.getD (4 * q + 3) none = some v3) :
    opPmbusPoll readings s = ((((s.takeReading (0x300 + 4 * q) v0).takeReading (0x300 + 4 * q + 1) v1).takeReading
      (0x300 + 4 * q + 2) v2).takeReading (0x300 + 4 * q + 3) v3).takeReading 0x400 (BitVec.ofNat 16 v2.toNat) := by
  unfold State.rails at hrails
  unfold opPmbusPoll
  simp only [hrails, List.foldl_cons, List.foldl_nil, hstuck, Bool.false_eq_true, if_false, Nat.add_zero,
    State.stuck_updSensor, h0, h1, h2, h3, List.isEmpty_cons, List.map_cons, List.map_nil, List.all_cons, List.all_nil,
    Option.isSome_some, Bool.and_self, if_true, Option.map_some, Option.getD_some, Nat.zero_add]
  rfl

end Pmbus

/-! ### Stuck segments (R429) -/

section Smbus

variable {segment : BitVec 2} {s : State}

theorem State.recoverBus_of_idle {n : Nat} (hstuck : s.stuck n = false) : s.recoverBus n true = s :=
  (if_pos rfl).trans (if_neg (ne_true_of_eq_false hstuck))

/-- A stuck segment whose SDA is high again is idle, and its rails are programmed anew. -/
theorem State.recoverBus_of_high {n : Nat} (hstuck : s.stuck n = true) :
    s.recoverBus n true = ((s.updMgt (fun g => { g with smb := g.smb.put n {} })).log 0x0B00
      [(0, n), (2, 1)]).writeVouts (some n) :=
  (if_pos rfl).trans (if_pos hstuck)

/-- A segment already stuck whose SDA stays low only has its reset output pulsed. -/
theorem State.recoverBus_of_low {n : Nat} (hstuck : s.stuck n = true) : s.recoverBus n false = s.emit (.smbReset n) := by
  unfold State.recoverBus
  simp only [Bool.false_eq_true, if_false, hstuck, if_true]

end Smbus

/-! ### The SMBus target (R430) -/

section Target

variable {pec : Bool} {s : State}

theorem opSmbtStatus_of_ignored (h : pec = false ∨ s.mgt.booted = false) : opSmbtStatus pec s = s :=
  if_neg (by obtain h | h := h <;> simp [h])

section Booted

variable (hpec : pec = true) (hbooted : s.mgt.booted = true)

include hpec hbooted

theorem opSmbtStatus_of_booted : opSmbtStatus pec s = s.emit (.smbt (smbtStatusWords s)) :=
  if_pos (by simp [hpec, hbooted])

theorem opSmbtPower_of_booted :
    opSmbtPower pec s = s.emit (.smbt [word [(0, (s.sensor 0x400).value.toNat)]]) :=
  if_pos (by simp [hpec, hbooted])

theorem opSmbtAlertAck_of_booted :
    opSmbtAlertAck pec s = s.updMgt (fun g => { g with unacked := 0, alertLow := false }) :=
  if_pos (by simp [hpec, hbooted])

theorem opSmbtSetCap_of_package {w : BitVec 16} (hscope : bit w 8 = false) (hlow : 35 ≤ fld w 0 7)
    (hhigh : fld w 0 7 ≤ 100) :
    opSmbtSetCap w pec s = (s.pendCap (BitVec.ofNat 7 (fld w 0 7)) (s.frm.count + 2) none).updMgt (fun g =>
      { g with smbtResult := 0 }) :=
  (if_neg (by simp [hpec, hbooted])).trans <|
    (if_neg (by simp [Nat.not_lt.2 hlow, Nat.not_lt.2 hhigh])).trans (if_neg (ne_true_of_eq_false hscope))

theorem opSmbtSetCap_of_outOfRange {w : BitVec 16} (hrange : fld w 0 7 < 35 ∨ 100 < fld w 0 7) :
    opSmbtSetCap w pec s = s.emit .smbtNack :=
  (if_neg (by simp [hpec, hbooted])).trans (if_pos (by simpa using hrange))

end Booted

end Target

/-! ### The console (R437) -/

section Console

variable {s : State}

theorem State.console_of_booted (hbooted : s.mgt.booted = true) (ws : List W64) : s.console ws = s.emit (.uart ws) :=
  if_pos hbooted

theorem State.console_of_not_booted (hbooted : s.mgt.booted = false) (ws : List W64) : s.console ws = s :=
  if_neg (ne_true_of_eq_false hbooted)

end Console

/-- Settles O45: each clause is the equation of its operation in the case it names. The bytes of the segment table are log
entry 28, the SMBT results entry 75. -/
theorem sidebandAndConfiguration : Obligations.SidebandAndConfiguration := by
  refine ⟨?_, ?_, ?_, ?_, ?_, ?_, ?_, ?_, ?_, ?_, ?_, ?_, ?_, ?_, ?_, ?_, ?_, ?_, ?_, ?_, ?_, ?_, ?_, ?_, ?_, ?_⟩
  · intro item bs s hclk hitem hrecovery
    exact next_whenClocked hclk (opConfigItemRead_of_item hitem hrecovery)
  · intro item s hclk hstall
    exact next_whenClocked hclk (opConfigItemRead_of_stall hstall)
  · intro item data f s hclk hitem hrecovery
    exact next_whenClocked hclk (opConfigItemWrite_of_item hitem hrecovery)
  · intro item data s hclk hstall
    exact next_whenClocked hclk (opConfigItemWrite_of_stall hstall)
  · intro s hclk
    exact next_whenClocked hclk rfl
  · intro readings s hclk hnone
    exact next_whenClocked hclk (opPmbusPoll_of_no_rail hnone)
  · intro readings q r v0 v1 v2 v3 s hclk hrails hstuck h0 h1 h2 h3
    exact next_whenClocked hclk (opPmbusPoll_of_one_rail hrails hstuck h0 h1 h2 h3)
  · intro segment address command s hclk
    exact next_whenClocked hclk rfl
  · intro segment sdaHigh s hclk hhigh hstuck
    subst hhigh
    exact next_whenClocked hclk (State.recoverBus_of_idle hstuck)
  · intro segment sdaHigh s hclk hlow hstuck
    subst hlow
    exact next_whenClocked hclk (State.recoverBus_of_low hstuck)
  · intro segment sdaHigh s hclk hstuck hhigh
    subst hhigh
    exact next_whenClocked hclk ((if_pos hstuck).trans (State.recoverBus_of_high hstuck))
  · intro segment sdaHigh s hclk hstuck
    exact next_whenClocked hclk (if_neg (ne_true_of_eq_false hstuck))
  · intro pec s hclk hpec hbooted
    exact next_whenClocked hclk (opSmbtStatus_of_booted hpec hbooted)
  · intro pec s hclk hignored
    exact next_whenClocked hclk (opSmbtStatus_of_ignored hignored)
  · intro w pec s hclk hpec hbooted hscope hlow hhigh
    exact next_whenClocked hclk (opSmbtSetCap_of_package hpec hbooted hscope hlow hhigh)
  · intro w pec s hclk hpec hbooted hrange
    exact next_whenClocked hclk (opSmbtSetCap_of_outOfRange hpec hbooted hrange)
  · intro pec s hclk hpec hbooted
    exact next_whenClocked hclk (opSmbtPower_of_booted hpec hbooted)
  · intro pec s hclk hpec hbooted
    exact next_whenClocked hclk (opSmbtAlertAck_of_booted hpec hbooted)
  · intro s hclk halert
    exact next_whenClocked hclk (if_pos halert)
  · intro s hclk halert
    exact next_whenClocked hclk (if_neg (ne_true_of_eq_false halert))
  · intro s hclk hbooted
    exact next_whenClocked hclk (State.console_of_booted hbooted _)
  · intro n s hclk hbooted
    exact next_whenClocked hclk (State.console_of_booted hbooted _)
  · intro sensor s hclk hbooted hknown
    exact next_whenClocked hclk ((if_pos hknown).trans (State.console_of_booted hbooted _))
  · intro port s hclk hbooted
    exact next_whenClocked hclk (State.console_of_booted hbooted _)
  · intro port s hclk hbooted
    exact next_whenClocked hclk (State.console_of_not_booted hbooted _)
  · exact fun s => rfl

end Sys2Proof.Machine
end

section
/-! PROOFS. The service commands (R415, R416, R440, R465), and the free value on which O15 turns. -/

namespace Sys2Proof.Machine

open Sys2Proof

/-! ### Bodies of the service commands -/

section Service

variable {c : CmdId} {p : Nat} {e : Entry} {s : State}

theorem fwStageBody_of_ready (hfw : s.mgt.fw = .idle ∨ s.mgt.fw = .staged)
    (hlines : s.failingIn (e.arg 1).toNat (fld (e.arg 0) 0 25) = []) :
    fwStageBody c p e s = ((s.setFw .receiving).eraseInactive.updMgt (fun g => { g with
      stageCmd := some c, stageData := s.host.readBytes (e.arg 1).toNat (fld (e.arg 0) 0 25) }), .later) :=
  (if_neg (by obtain h | h := hfw <;> simp [h])).trans (if_neg (by simp [hlines]))

theorem fwActivateBody_of_ready (hready : s.mayActivate = true) :
    fwActivateBody c p e s = ((s.setFw .activating).updMgt (fun g => { g with
      act := .loading, actCmd := some c, actCommit := bit (e.arg 0) 0, standbyOk := false, actDone := false }), .later) :=
  if_neg (by simp [hready])

/-- The records that a LOG.READ command names. -/
def State.logNamed (e : Entry) (s : State) : List LogRec :=
  logFrom (BitVec.ofNat 32 (fld (e.arg 0) 0 32)) (bit (e.arg 0) 48) (fld (e.arg 0) 32 16) s.logHeld

/-- The words of a LOG.READ answer. -/
def State.logWords (e : Entry) (s : State) : List W64 :=
  [word [(0, ((s.logNamed e).head?.map (fun r => r.seq.toNat)).getD (BitVec.ofNat 32 (fld (e.arg 0) 0 32)).toNat),
      (32, (s.logNamed e).length)],
    word [(0, (s.logHeld.head?.map (fun r => r.seq.toNat)).getD 0)],
    word [(0, (s.logHeld.getLast?.map (fun r => r.seq.toNat)).getD 0)]]

theorem logReadBody_of_host (hmbx : c.mbx ≠ 17) : logReadBody c p e s =
    ({ s with host := s.host.writeBytes (e.arg 1).toNat ((s.logNamed e).flatMap LogRec.bytes) }, .done (s.logWords e)) := by
  unfold logReadBody
  simp only [hmbx, if_false]
  rfl

theorem logReadBody_of_service (hmbx : c.mbx = 17) : logReadBody c p e s =
    (s.updMgt (fun g => { g with usbData := g.usbData ++ [(c.uid, (s.logNamed e).flatMap LogRec.bytes)] }),
      .done (s.logWords e)) := by
  unfold logReadBody
  simp only [hmbx, if_true]
  rfl

section Sensors

variable {ids : List Nat} (hids : ids = (List.range (fld (e.arg 0) 16 3)).map (fun i => fld (e.arg 0) 0 16 + i))
  (hknown : ids.all (fun i => s.sensorKnown i) = true)

include hids hknown

theorem sensReadBody_of_known : sensReadBody c p e s = (if bit (e.arg 0) 24 then
    ids.foldl (fun s i => s.updSensor i (fun x => { x with min := x.value, max := x.value, cleared := true })) s else s,
      .done (ids.map (fun i => (s.sensor i).word))) := by
  subst hids
  exact if_neg (by rw [hknown]; decide)

end Sensors

end Service

/-! ### The log of failing pages (R465) -/

@[simp] theorem State.emitPcie_free (x : HostTlp) (s : State) : (s.emitPcie x).free = s.free := by
  unfold State.emitPcie
  split <;> rfl

@[simp] theorem State.fireVec_free (fn v : Nat) (s : State) : (s.fireVec fn v).free = s.free := by
  unfold State.fireVec
  split
  · rfl
  · split
    · rfl
    · exact State.emitPcie_free ..

/-- A record of a failing page takes one free value, its UPTIME, while the frame's limit of records lasts. -/
theorem State.log_failing_free (data : List (Nat × Nat)) (s : State) :
    (s.log 0x0302 data).free = if 64 ≤ s.mgt.perFrame.get 0 0x0302 then s.free else s.free + 1 := by
  unfold State.log State.logEvent
  dsimp only
  split
  · rfl
  · have hcritical : evSev 0x0302 = .critical := by decide
    rw [if_pos hcritical, State.fireVec_free]
    unfold State.writeLog
    dsimp only
    rw [if_neg (by rw [hcritical]; decide)]
    rfl

/-- The records of the pages that TEST.MBIST finds failing. -/
def State.logFailing (gone : List Nat) (s : State) : State := gone.foldl (fun s p => s.log 0x0302 [(0, p)]) s

theorem State.logFailing_onPorts (gone : List Nat) (s : State) : OnPorts s (s.logFailing gone) :=
  foldl_onPorts (fun _ _ h => State.log_onPorts _ _ h) gone (OnPorts.refl s)

theorem State.free_le_logFailing (gone : List Nat) (s : State) : s.free ≤ (s.logFailing gone).free := by
  induction gone generalizing s with
  | nil => exact le_rfl
  | cons p gone ih =>
    refine le_trans ?_ (ih _)
    rw [State.log_failing_free]
    split <;> omega

theorem State.free_lt_logFailing {gone : List Nat} {s : State} (hgone : gone ≠ [])
    (hfirst : s.mgt.perFrame.get 0 0x0302 = 0) : s.free < (s.logFailing gone).free := by
  obtain ⟨p, rest, rfl⟩ := List.exists_cons_of_ne_nil hgone
  refine lt_of_lt_of_le ?_ (State.free_le_logFailing rest (s.log 0x0302 [(0, p)]))
  rw [State.log_failing_free, hfirst]
  exact Nat.lt_succ_self _

/-! ### TEST.MBIST (R465) -/

/-- What TEST.MBIST leaves before its log: a free value is taken, rows are marked, failing pages quarantined, contents gone. -/
structure MbistTested (r b : BitVec 16) (ps gone : List Nat) (s u : State) : Prop where
  mbx : u.mbx = s.mbx
  frm : u.frm = s.frm
  mgt : u.mgt = s.mgt
  free : u.free = s.free + 1
  badRows : u.ten.badRows = (s.ten.badRows &&& ~~~r) ||| b
  dram : u.dram = s.dram.filter (fun c => !ps.contains (c.1 / 2 ^ 29))
  own : u.xlt.own = gone.foldl (fun t p => t.upd {} p (fun o => { o with state := .quarantined })) s.xlt.own

/-- A failing page is quarantined. -/
theorem MbistTested.quarantined {r b : BitVec 16} {ps gone : List Nat} {s u : State} (h : MbistTested r b ps gone s u)
    {p : Nat} (hp : p ∈ gone) : (u.ownEntry p).state = .quarantined := by
  have hget := Tab.get_foldl_upd ({} : Own) id (fun o => { o with state := .quarantined }) (fun _ => rfl) gone s.xlt.own p
  rw [if_pos (by simpa using hp)] at hget
  rw [State.ownEntry, h.own]
  exact congrArg Own.state hget

/-- The words of a TEST.MBIST answer. -/
def mbistWords (e : Entry) (r b : BitVec 16) (ps gone : List Nat) (s : State) : List W64 :=
  [word [(0, (r &&& ~~~b).toNat), (16, b.toNat)],
    word [(0, if bit (e.arg 0) 17 then (Config.softRepairs s.free).toNat else 0)],
    word [(0, ps.length), (9, gone.length)]]

section Mbist

variable {e : Entry} {s : State} {r b : BitVec 16} {ps gone : List Nat} (hr : r = BitVec.ofNat 16 (fld (e.arg 0) 0 16))
  (hb : b = r &&& Config.rowsFailing s.free)
  (hunowned : (List.range 16).any (fun x => bit r x && (s.rowOwner x).isSome) = false)
  (hps : ps = if bit (e.arg 0) 16 then s.pagesIn .free else [])
  (hgone : gone = ps.filter (fun p => Config.pageFailing s.free p))

include hr hb hunowned hps hgone

theorem testMbistBody_of_unowned (c : CmdId) (p : Nat) :
    ∃ u : State, testMbistBody c p e s = (u.logFailing gone, .done (mbistWords e r b ps gone s)) ∧
      MbistTested r b ps gone s u := by
  subst hr hb hgone hps
  exact ⟨_, if_neg (ne_true_of_eq_false hunowned), rfl, rfl, rfl, rfl, rfl, rfl, rfl⟩

/-- TEST.MBIST leaves what its test found, with the failing pages logged and its record staged. -/
theorem serve_testMbist {m : Nat} (hacc : Accepted specTestMbist m e s) : ∃ u : State,
    MbistTested r b ps gone (s.entered m specTestMbist.opcode e) u ∧
      Answered specTestMbist m e .done .none (mbistWords e r b ps gone s) s (serve specTestMbist m e s) ∧
      serve specTestMbist m e s = (u.logFailing gone).finish (cmdIdOf s.nextUid m specTestMbist.opcode e) .done .none
        (mbistWords e r b ps gone s) := by
  obtain ⟨u, hbody, htested⟩ := testMbistBody_of_unowned (s := s.entered m specTestMbist.opcode e) hr hb hunowned hps hgone
    (cmdIdOf s.nextUid m specTestMbist.opcode e) (specTestMbist.on m e)
  have hports := State.logFailing_onPorts gone u
  obtain ⟨hserve, hanswer⟩ := serve_done hacc hbody (by rw [State.mb, hports.mbx, htested.mbx]; rfl)
    (by rw [hports.frm, htested.frm]; rfl)
  exact ⟨u, htested, hanswer, hserve⟩

end Mbist

/-! ### What O15 turns on -/

/-- No page ever fails its test: what O15 asks of the free value `Config.pageFailing`. -/
def NoPageFails : Prop := ∀ n p, p < 384 → Config.pageFailing n p = false

/-- A booted package whose pages are all FREE, with the `n`-th free value next. -/
def freshPackage (n : Nat) : State where
  por := { bring := .running, selfTested := true, hbmTested := true }
  mgt := { booted := true }
  frm := { phase := .work, started := true, state := .locked, role := .master }
  pcie := { perstLow := false, link := .up, configRetry := false }
  mbx := [(0, { enable := true, cmdLog2 := 4, cplLog2 := 4 })]
  free := n

/-- A TEST.MBIST of every FREE page and no row. -/
def testPages : Entry := { args := 0x10000 :: List.replicate 13 0 }

theorem accepted_testPages (n : Nat) : Accepted specTestMbist 0 testPages (freshPackage n) := by
  have hzero : Accepted specTestMbist 0 testPages (freshPackage 0) := by
    unfold Accepted
    decide +kernel
  exact hzero

theorem freshPackage_pages (n : Nat) :
    (if bit (testPages.arg 0) 16 then (freshPackage n).pagesIn .free else []) = List.range 384 := by
  have hzero : (if bit (testPages.arg 0) 16 then (freshPackage 0).pagesIn .free else []) = List.range 384 := by
    decide +kernel
  exact hzero

theorem freshPackage_unowned (n : Nat) : (List.range 16).any (fun x =>
    bit (BitVec.ofNat 16 (fld (testPages.arg 0) 0 16)) x && ((freshPackage n).rowOwner x).isSome) = false := by
  have hzero : (List.range 16).any (fun x =>
      bit (BitVec.ofNat 16 (fld (testPages.arg 0) 0 16)) x && ((freshPackage 0).rowOwner x).isSome) = false := by
    decide +kernel
  exact hzero

/-- Where the clause of O15 about TEST.MBIST holds no page fails: the record of a failing page takes a free value of its own,
and the clause has one taken in all. -/
theorem noPageFails_of_serviceCommandsComplete (h : Obligations.ServiceCommandsComplete) : NoPageFails := by
  intro n p hp
  by_contra hfails
  obtain ⟨-, -, -, -, -, -, -, -, hmbist⟩ := h
  obtain ⟨u, htested, -, hserve⟩ := serve_testMbist rfl rfl (freshPackage_unowned n) rfl rfl (accepted_testPages n)
  obtain ⟨t, hexec, -, -, -, -, hfree⟩ :=
    hmbist 0 testPages (freshPackage n) _ _ _ _ (accepted_testPages n) rfl rfl (freshPackage_unowned n) rfl rfl
  have ht : t = serve specTestMbist 0 testPages (freshPackage n) := (Host.Outcome.next.inj hexec).symm
  have hgone : ((if bit (testPages.arg 0) 16 then (freshPackage n).pagesIn .free else []).filter
      (fun p => Config.pageFailing (freshPackage n).free p)) ≠ [] := by
    rw [freshPackage_pages]
    exact List.ne_nil_of_mem (List.mem_filter.2 ⟨List.mem_range.2 hp, Bool.eq_true_of_not_eq_false hfails⟩)
  have hlogged := State.free_lt_logFailing hgone (s := u) (by rw [htested.mgt]; rfl)
  rw [htested.free] at hlogged
  rw [ht, hserve, State.finish_free] at hfree
  exact absurd hfree (Nat.ne_of_gt hlogged)

theorem serviceCommandsComplete_of_noPageFails (hno : NoPageFails) : Obligations.ServiceCommandsComplete := by
  refine ⟨?_, ?_, ?_, ?_, ?_, ?_, ?_, ?_, ?_⟩
  · intro m e s hacc hfw hlines
    have hbody := fwStageBody_of_ready (c := cmdIdOf s.nextUid m.val specFwStage.opcode e) (p := specFwStage.on m.val e)
      (s := s.entered m.val specFwStage.opcode e) hfw hlines
    exact ⟨_, congrArg Host.Outcome.next (serve_later hacc hbody), rfl⟩
  · intro m e s hacc hready
    have hbody := fwActivateBody_of_ready (c := cmdIdOf s.nextUid m.val specFwActivate.opcode e)
      (p := specFwActivate.on m.val e) (e := e) (s := s.entered m.val specFwActivate.opcode e) hready
    exact ⟨_, congrArg Host.Outcome.next (serve_later hacc hbody), rfl⟩
  · intro m e s rs hacc hmbx hrs
    subst hrs
    have hbody := logReadBody_of_host (c := cmdIdOf s.nextUid m.val specLogRead.opcode e) (p := specLogRead.on m.val e)
      (e := e) (s := s.entered m.val specLogRead.opcode e) hmbx
    obtain ⟨hserve, hanswer⟩ := serve_done hacc hbody rfl rfl
    exact ⟨_, rfl, hanswer, (congrArg State.host hserve).trans (State.finish_host ..)⟩
  · intro m e s rs hacc hmbx hrs
    subst hrs
    have hbody := logReadBody_of_service (c := cmdIdOf s.nextUid m.val specLogRead.opcode e) (p := specLogRead.on m.val e)
      (e := e) (s := s.entered m.val specLogRead.opcode e) hmbx
    obtain ⟨hserve, hanswer⟩ := serve_done hacc hbody rfl rfl
    exact ⟨_, rfl, hanswer, (congrArg (fun u => u.mgt.usbData) hserve).trans (congrArg Mgt.usbData (State.finish_mgt ..)),
      (congrArg State.host hserve).trans (State.finish_host ..)⟩
  · intro m e s ids hacc hids hknown hkeep
    have hbody := sensReadBody_of_known (c := cmdIdOf s.nextUid m.val specSensRead.opcode e)
      (p := specSensRead.on m.val e) (s := s.entered m.val specSensRead.opcode e) hids hknown
    rw [if_neg (ne_true_of_eq_false hkeep)] at hbody
    obtain ⟨honly, hanswer⟩ := serve_query hacc hbody
    exact ⟨_, rfl, hanswer, honly⟩
  · intro m e s ids hacc hids hknown hclear
    have hbody := sensReadBody_of_known (c := cmdIdOf s.nextUid m.val specSensRead.opcode e)
      (p := specSensRead.on m.val e) (s := s.entered m.val specSensRead.opcode e) hids hknown
    rw [if_pos hclear] at hbody
    exact ⟨_, congrArg Host.Outcome.next (serve_finished hacc hbody), rfl⟩
  · intro m e s b n l o same hacc hb hn hl hdirect ho hsame
    subst hb hn hl ho hsame
    obtain ⟨hserve, hanswer⟩ := serve_done hacc (if_neg (ne_true_of_eq_false hdirect)) rfl rfl
    have hpor := (congrArg State.por hserve).trans (State.finish_por ..)
    exact ⟨_, rfl, hanswer, congrArg Por.nodes hpor, congrArg Por.busLane hpor⟩
  · intro m e s n xs hacc hdirect hn hxs
    subst hn hxs
    obtain ⟨hserve, hanswer⟩ := serve_done hacc (if_neg (ne_true_of_eq_false hdirect)) rfl rfl
    exact ⟨_, rfl, hanswer, (congrArg State.free hserve).trans (State.finish_free ..)⟩
  · intro m e s r b ps gone hacc hr hb hunowned hps hgone
    obtain ⟨u, htested, hanswer, hserve⟩ := serve_testMbist hr hb hunowned hps hgone hacc
    have hports := State.logFailing_onPorts gone u
    have hnone : gone = [] := by
      rw [hgone, List.filter_eq_nil_iff]
      intro p hp
      have hpage : p < 384 := by
        rw [hps] at hp
        split at hp
        · exact List.mem_range.1 (List.mem_filter.1 hp).1
        · cases hp
      exact ne_true_of_eq_false (hno _ _ hpage)
    refine ⟨_, congrArg Host.Outcome.next hserve, hserve ▸ hanswer, ?_, fun p hp => ?_, ?_, ?_⟩
    · rw [State.finish_ten, hports.ten]
      exact htested.badRows
    · rw [State.ownEntry, State.finish_xlt, hports.xlt]
      exact htested.quarantined hp
    · rw [State.finish_dram, hports.dram]
      exact htested.dram
    · rw [State.finish_free, hnone]
      exact htested.free

/-- O15 holds exactly where no page ever fails. `Config.pageFailing` is a free value (log entries 2 and 82), so the model
decides neither side, and O15 stays unsettled. The bus and test commands complete when consumed (log entry 84), and CLEAR
begins the extremes at the value held (entry 81). -/
theorem serviceCommandsComplete_iff : Obligations.ServiceCommandsComplete ↔ NoPageFails :=
  ⟨noPageFails_of_serviceCommandsComplete, serviceCommandsComplete_of_noPageFails⟩

end Sys2Proof.Machine
end
